-- ==== Sys2Proof/Word.lean ====
section
/-! DEFINITION. The word types of the BM8192 model and nothing more: every operation over them that a
rule of spec/ decides stands under Sys2Proof/Machine/. -/

namespace Sys2Proof

/-- A byte, the unit of every frame, flash image and black-box record. -/
abbrev Byte := BitVec 8

/-- A sequence of bytes, first byte first (R7, R60). -/
abbrev Bytes := List Byte

/-- A 32-bit word: a counter's value, a float32 bit pattern, an object word (R447). -/
abbrev Word := BitVec 32

/-- A count of nanoseconds: an instant of LTS or of DT (R132, R135), counted from the scale's zero. -/
abbrev Ns := Nat

/-- The seven ports in the order of R86: LP0-LP3, MP, MGP, SVP. -/
abbrev Port := Fin 7

/-- The four line ports LP0-LP3. -/
abbrev LinePort := Fin 4

/-- The four regions RG0-RG3 (R278). -/
abbrev Region := Fin 4

/-- The 64 cells CL0-CL63 (R278). -/
abbrev Cell := Fin 64

/-- The eight transmit queues Q0-Q7 (R95). -/
abbrev Queue := Fin 8

end Sys2Proof
end

