-- ==== Sys2Proof/Syntax.lean ====
section
/-! DEFINITION. The commands of the BM8192 block: one constructor of `Instr` for each row of
spec/opcode_table.json, with the operands that the row's happening brings from outside. What the
device already holds (frames in its buffers, due timers, requests accepted) is State, not operand. -/

namespace Sys2Proof

/-- A VLAN tag as received (R90). -/
structure VTag where
  tpid : BitVec 16
  vid : BitVec 12
  pcp : BitVec 3
  deriving DecidableEq, Repr

/-- An authentication value carried by a secured sampled-value frame (R120): its algorithm field in
the codes of AUTH (Table IMG-4), its key identifier, where it carries one (R414), the IV that it names for AES-GMAC, the bytes
that it authenticates as IEC 61850-90-5 and IEC 62351-6 define them, and the value. -/
structure AuthVal where
  alg : Nat
  keyId : Option (BitVec 32)
  iv : Bytes
  covered : Bytes
  tag : Bytes
  deriving DecidableEq, Repr

/-- One ASDU of a sampled-value frame: value and quality word per channel (R118). -/
structure Asdu where
  smpCnt : Nat
  smpSynch : Nat
  confRev : Nat
  samples : List (Word × Word)
  deriving DecidableEq, Repr

/-- A sampled-value frame of KIND 2 or 3 as its outer encodings read (Table INT-6). -/
structure SvFrame where
  sessionId : BitVec 8
  encrypted : Bool
  apduCount : Nat
  berOk : Bool
  appid : BitVec 16
  svidCrc : BitVec 32
  simulation : Bool
  dataLen : Nat
  asdus : List Asdu
  auth : Option AuthVal
  apdu : Bytes
  deriving DecidableEq, Repr

/-- What Hearth reads of an Announce message (R139, Table TIM-5). -/
structure Announce where
  gm : BitVec 64
  prio1 : Nat
  clockClass : Nat
  accuracyNs : Nat
  variance : Nat
  prio2 : Nat
  stepsRemoved : Nat
  inaccuracyNs : Option Nat
  utcOffset : Option Nat
  leap61 : Bool
  leap59 : Bool
  deriving DecidableEq, Repr

/-- A PTP message (R139): the kinds Hearth handles, and every other, which it ignores. -/
inductive PtpMsg where
  | announce (a : Announce)
  | sync (gm : BitVec 64) (seq : Nat) (origin : Option Ns) (corrNs : Int)
  | followUp (gm : BitVec 64) (seq : Nat) (origin : Ns) (corrNs : Int)
  | pdelayReq (seq : Nat)
  | pdelayResp (seq : Nat) (t2 : Ns)
  | pdelayRespFollowUp (seq : Nat) (t3 : Ns)
  | other
  deriving DecidableEq, Repr

/-- The payload of a UDP datagram on a line port. -/
inductive UdpBody where
  | c37 (b : Bytes)
  | sv (f : SvFrame)
  | other
  deriving DecidableEq, Repr

/-- What follows the tags of a received frame: an ARP frame with its operation and target address, a TCP segment with the
addresses and ports of its connection; the segments of the device's own connections and the requests for its own addresses have
rows of their own. -/
inductive RxBody where
  | udp (src dst : BitVec 32) (sport dport : Nat) (len : Nat) (b : UdpBody)
  | udp6 (dport : Nat)
  | svL2 (f : SvFrame)
  | ptp (domain : Nat) (m : PtpMsg)
  | tcp (src : BitVec 32) (sport dport : Nat)
  | arp (request : Bool) (target : BitVec 32)
  | macControl
  | woide
  | other
  deriving DecidableEq, Repr

/-- A frame as it arrives on a port: `len` counts from the destination address to the FCS (R89);
`sfdAgo` is the arrival stamp's distance in ns back from now (the start-of-frame delimiter, R93); `keyEnd` counts the bytes up to
the end of the fields of its match key (Table INT-2), which R94 wants in the first 128. -/
structure RxFrame where
  len : Nat
  fcsGood : Bool
  tags : List VTag
  dst : BitVec 48
  src : BitVec 48
  sfdAgo : Nat
  keyEnd : Nat
  body : RxBody
  deriving DecidableEq, Repr

/-- A TCP segment of a KIND 1 connection (R102, R103); its arrival stamp lies `sfdAgo` ns back. -/
structure TcpSeg where
  sfdAgo : Nat
  syn : Bool
  fin : Bool
  rst : Bool
  ackNo : Option (BitVec 32)
  seqNo : BitVec 32
  wscale : Option Nat
  mss : Option Nat
  tsVal : Option (BitVec 32)
  window : Nat
  options : Bool
  fragment : Bool
  data : Bytes
  deriving DecidableEq, Repr

/-- Whether the flash answered during a load (code 0x12, which can arise at any read): at the reads of the slots' headers and
status records, and at the reads of the slot being tried. -/
structure LoadVerdict where
  headersOk : Bool
  flashOk : Bool
  deriving DecidableEq, Repr

/-- The flash answers every read. -/
def LoadVerdict.answered : LoadVerdict := { headersOk := true, flashOk := true }

/-- The structures of Table ARC-3, in row order (the row number goes into the ERROR record). -/
inductive Struct where
  | cellMemory | blockMemory | inputQueueWord | historyWord | mgmtLockstep
  | captureArea | traceRing | workBuffers
  | timeUnit | beatTables | descriptors | slotMemory | logicData | publisher | interconnect | keyVault
  deriving DecidableEq, Repr

/-- The outcome of one queue word's SECDED code (R204). -/
inductive WordErr where
  | none | corrected | uncorrectable
  deriving DecidableEq, Repr

/-- An NMEA 0183 sentence (R140). -/
inductive Sentence where
  /-- Time of day as UTC seconds of 1970; `sixty`: the inserted second 23:59:60, given with the number of 23:59:59. -/
  | zda (utcSec : Nat) (sixty : Bool)
  | gga (fix sats : Nat)
  | badChecksum
  | other
  deriving DecidableEq, Repr

/-- An IRIG-B frame at its on-time point (R141): day of year from 1, second of day (86,400 the inserted second), and of the
IEEE 1344 fields the last two digits of the year, the time offset in half hours, the quality code and the leap fields. -/
structure IrigFrame where
  wellFormed : Bool
  parityOk : Bool
  day : Nat
  second : Nat
  year : Nat
  offset : Int
  tqCode : Nat
  leapPending : Bool
  leapDelete : Bool
  edgeAgo : Nat
  deriving DecidableEq, Repr

/-- A work item's use of the four resources (R290, R291). -/
structure Cost where
  cycles : Int
  dram : Int
  flits : Int
  egress : Int
  deriving DecidableEq, Repr

/-- An estimator target of a band update (R236, R237). -/
inductive OscTarget where
  | bank (signal : Nat)
  | modal (group : Nat)
  deriving DecidableEq, Repr

/-- One mirrored instance state (R389): 16 bytes of DELTA 1 and of the retention store. -/
structure InstMirror where
  id : BitVec 32
  fbType : BitVec 16
  flags : BitVec 16
  et : Nat
  deriving DecidableEq, Repr

/-- A claim entry of a DIGEST (Table PAI-4): VALID, KIND, STREAM_ID and CLAIM; entry n is output stream n's. -/
structure Claim where
  valid : Bool
  kind : Nat
  streamId : Nat
  claim : Nat
  deriving DecidableEq, Repr

/-- A task entry of a DIGEST: set tag of the last completed scan and CRC of its instance state. -/
structure TaskEntry where
  tag : Ns
  crc : BitVec 32
  deriving DecidableEq, Repr

/-- A change-set entry (Table EMP-7). -/
structure ChangeEntry where
  sect : Nat
  table : Nat
  index : Nat
  lsb : Nat
  width : Nat
  value : Nat
  deriving DecidableEq, Repr

/-- The body of a DELTA or SNAPSHOT frame, by SUBTYPE 1 to 8 (Table PAI-5). -/
inductive Delta where
  | logicState (task : Nat) (insts : List InstMirror) (vars : List (Nat × Word × BitVec 8))
  | tripSeries (out : Nat) (active : Bool) (seriesTag : Ns) (retriesLeft : Nat)
  | alarmState (stream : Nat) (stNum : Nat) (members : List (Word × BitVec 8))
  | subscriber (stream : Nat) (peerIp : BitVec 32) (on : Bool)
  | oscAlarm (index : Nat) (picked : BitVec 4) (runs : List Nat) (freq : Word)
  | island (slot : Nat) (id : Nat) (declaredAt : Ns) (declared : Bool)
           (counts : List (Nat × Nat)) (branches : List (Nat × Bool × Ns))
  | captureIndex (seq : Nat) (entry : Bytes)
  | attention (aseq lvl cls : Nat) (posted : Ns) (src detail : Nat)
  | changeRefused (boundary : Ns)
  deriving DecidableEq, Repr

/-- The delivery header of a FILL (Table INT-9); `flags` are its bits 79:72. -/
structure FillHdr where
  sid : Nat
  kind : Nat
  tag : Ns
  gridOff : Int
  arrival : Ns
  flags : BitVec 8
  tq : Nat
  port : Nat
  digest : BitVec 32
  len : Nat
  deriving DecidableEq, Repr

/-- The payload of a Woide frame (Table PAI-3), after decryption. A FILL carries its frame; PART of the PARTS frames of a delta
stands with the whole item that they make up, and a SNAPSHOT without an item ends the snapshot (R393). -/
inductive WoideBody where
  | hello (echo : BitVec 32) (uuid : BitVec 128) (generation : Nat) (mapHash : BitVec 64) (mode role : Nat)
  | digest (beatDt : Ns) (mode role : Nat) (unfit mirrorValid : Bool) (mapHash : BitVec 64)
           (ovCrc tsw : BitVec 32) (claims : List Claim) (tasks : List TaskEntry)
  | fill (h : FillHdr) (f : UdpBody)
  | delta (tag : Ns) (part parts : Nat) (d : Delta)
  | role (code : Nat) (e : Ns) (claims : List Claim) (tasks : List TaskEntry)
  | change (at_ : Ns) (cs : List ChangeEntry)
  | snapshot (tag : Ns) (part parts : Nat) (d : Option Delta)
  | ack
  | unknown (code : Nat)
  deriving DecidableEq, Repr

/-- A Woide frame (Table PAI-2): the fields of its header, its payload, its GCM tag and the address that it comes from. -/
structure WoideFrame where
  session : BitVec 32
  nctr : Nat
  seq : Nat
  ack : Nat
  ackMap : BitVec 32
  src : BitVec 48
  tag : BitVec 128
  body : WoideBody
  deriving DecidableEq, Repr

/-- A link that goes down (R105), with whether a frame is in reception. -/
structure LinkFall where
  port : Port
  receiving : Bool
  deriving DecidableEq, Repr

/-- A module taken out (R104), with whether a frame is in reception at its port. -/
structure CageFall where
  cage : Fin 5
  receiving : Bool
  deriving DecidableEq, Repr

/-- Why the Tongs link goes down (R386). -/
inductive WoideDown where
  | lockLost | noFrames | retriesExhausted
  deriving DecidableEq, Repr

/-- An EMP request as it arrives (Table EMP-1); the opcode is the command's row. `svp` names the port. -/
structure EmpReq where
  svp : Bool
  src : Nat
  version : Nat
  session : BitVec 32
  seq : BitVec 32
  object : BitVec 32
  offset : BitVec 32
  clear : Bool
  payload : Bytes
  deriving DecidableEq, Repr

/-- The request with more bytes behind its payload. -/
def EmpReq.carrying (q : EmpReq) (more : Bytes) : EmpReq := { q with payload := q.payload ++ more }

/-- Why a datagram is discarded without reply (R433, R435, R437). -/
inductive EmpDrop where
  | otherPort | fragment | ipOptions | badCrc | badLength | replySet | queueFull
  deriving DecidableEq, Repr

/-- What comes with a beat strobe: the eight die-sensor readings in 1/16 °C and the six rail readings in mV (R464), and
whether the management processor's shadow agrees with the digest latched (R310). -/
structure BoundaryIn where
  temps : List Int
  rails : List Nat
  shadowAgrees : Bool
  deriving DecidableEq, Repr

/-- The commands: one constructor per row of the table, in the table's order. -/
inductive Instr where
  | mainRailsFall
  | powerOnReset
  | pinReset (lowNs : Nat)
  | islandPowerOn
  | islandReset
  | blackBoxScan
  | loadingComplete (v : LoadVerdict)
  | loadCheckFail (v : LoadVerdict)
  | powerFailAsserted
  | powerRestored
  | tamper (sources : List (Fin 8))
  | beatBoundary (b : BoundaryIn)
  | postRoomAvailable (r : Region)
  | delayItemDue (r : Region)
  | dispatch (r : Region)
  | itemComplete (c : Cell) (used : Cost)
  | cellFault (c : Cell) (cause : Fin 2)
  | cellWatchdog (c : Cell)
  | itemLimitReached (c : Cell)
  | uncorrectableError (st : Struct) (unit : Nat)
  | correctableError (st : Struct) (unit : Nat)
  | thermalLevelFall (r : Region)
  | warmupTimeout
  | dtLockConverged
  | frameReceive (p : Port) (f : RxFrame)
  | arpRequest (p : Port) (vid : BitVec 12) (target senderIp : BitVec 32) (senderMac : BitVec 48)
  | pauseFrame (p : Port) (quanta : Nat)
  | pfcFrame (p : Port) (vector : BitVec 8) (quanta : List Nat)
  | macControlOther (p : Port) (opcode : BitVec 16)
  | pauseTimerExpiry (p : Port) (q : Queue)
  | pauseStall (p : Port) (q : Queue)
  | transmitStart (p : Port)
  | transmitEnd (p : Port)
  | queueRoomAvailable (p : Port) (q : Queue)
  | launchStrobe
  | lateDrop (p : LinePort) (q : Queue)
  | moduleInserted (cage : Fin 5)
  | moduleInitDone (cage : Fin 5) (supportsPhy : Bool)
  | moduleRemoved (x : CageFall)
  | linkUp (p : Port)
  | linkDown (x : LinkFall)
  | tcpSegment (sid : Fin 8192) (seg : TcpSeg)
  | tcpReopen (sid : Fin 8192)
  | tcpRetransmit (sid : Fin 8192)
  | tcpAckTimer (sid : Fin 8192)
  | tcpConnectionReset (sid : Fin 8192)
  | classifyFrame (p : LinePort) (u : Unit)
  | ptpFrame
  | pdelayReqTimer (p : LinePort)
  | gnssSentence (x : Sentence)
  | gnssPpsEdge (falling : Bool) (edgeAgo : Nat)
  | irigbFrame (f : IrigFrame)
  | timeVote
  | baseStep (b : Fin 4)
  | timeRefLost
  | triggerEdge (input : Fin 9) (rising : Bool) (subns : Fin 8)
  | rowOpen (r : Region)
  | sliceEntry (r : Region)
  | quorumWaitExpiry (g : Fin 256)
  | deadlineClose (n : Fin 64)
  | rowRetire (r : Region)
  | rowFinal (r : Region)
  | streamStale (sid : Fin 8192)
  | sourceCmdTimer (sid : Fin 8192)
  | subscriberCommand
  | laneFrame (lane : Fin 8) (bits : Bytes) (crc : Byte)
  | wvSyncRelease
  | wvSyncAssert
  | wvClkLost
  | laneStop (lane : Fin 8)
  | bankHandoff (g : Fin 4)
  | queueWordRead (g : Fin 4) (err : WordErr)
  | svSampleDeadline (sid : Fin 8192) (pos : Fin 8)
  | estimateRelease (ch : Fin 65536)
  | fastEstimate (ch : Fin 65536)
  | replayFrameOut (lane : Fin 2)
  | bandUpdate (t : OscTarget) (band : Fin 4)
  | locationRunStart (set : Fin 16)
  | locationResult (set : Fin 16)
  | islandEvaluation
  | detectorWork (g : Fin 256)
  | logicScan (task : Fin 32)
  | doLevelApply (d : Fin 16)
  | pulseMinExpiry (d : Fin 16)
  | tripRetry (out : Fin 512)
  | captureTrigger
  | xtrigPulseEnd
  | autoTrigger (cls : Fin 16)
  | spanEnd (cls : Fin 16)
  | closingEnd (cls : Fin 16)
  | ringOverwriteLoss (seq : Nat) (tag : Ns)
  | alarmStateChange (n : Fin 64)
  | gooseRetransmit (n : Fin 64)
  | woideLinkLock
  | helloTimer
  | woideFrameReceive (f : WoideFrame)
  | woideRetransmit
  | woideLinkDown (why : WoideDown)
  | receiverAckTimer
  | tokenPulse (riseNs : Int) (widthNs : Nat)
  | release
  | splitBrain
  | emOpen (q : EmpReq)
  | emClose (q : EmpReq)
  | emStatus (q : EmpReq)
  | emRead (q : EmpReq)
  | emWrite (q : EmpReq)
  | emChangeSet (q : EmpReq)
  | emAttnAck (q : EmpReq)
  | emStageBegin (q : EmpReq)
  | emStageData (q : EmpReq)
  | emStageEnd (q : EmpReq)
  | stageCheckDone (v : LoadVerdict)
  | stagingTimeout
  | emActivate (q : EmpReq)
  | emRestart (q : EmpReq)
  | emKeyLoad (q : EmpReq) (wrapped : Bytes)
  | emZeroise (q : EmpReq)
  | emOwnerEnrol (q : EmpReq)
  | emPairEnrol (q : EmpReq)
  | emRekeyDone (q : EmpReq)
  | emForce (q : EmpReq)
  | emUnforce (q : EmpReq)
  | emReplayStart (q : EmpReq)
  | emReplayStop (q : EmpReq)
  | emFlush (q : EmpReq)
  | emReleaseCell (q : EmpReq) (selfTest : Bool)
  | emHoldover (q : EmpReq)
  | emShed (q : EmpReq)
  | emTrigger (q : EmpReq)
  | emLocate (q : EmpReq)
  | emHandover (q : EmpReq)
  | emBboxRaw (q : EmpReq)
  | emBboxClear (q : EmpReq)
  | empDatagramDiscard (svp : Bool) (why : EmpDrop)
  | sessionExpiry (svp : Bool) (session : BitVec 32)
  | blackBoxWrite
  | sensorCrossing (latch : Fin 32) (value limit : Word)
  | tempCritical (sensor : Fin 8) (reading : Int)
  | sensorFail (sensor : Fin 8)
  | vbatRead (mv : Nat)
  | clockFault (domain : Fin 5)
  | panelScan (keys : BitVec 16)
  | touchMeasure (ch : Fin 4) (count : Nat)
  | lampTestEnd
  | svpEnable
  | svpEnableExpiry
  | svcKeyRelease
  | svcKeyAssert
  | svcDetChange (asserted : Bool)
  | managementFirmwareStart
  | ptpAnnounceReceiptTimeout (rec : Fin 2)
  | ownerKeyBurnComplete
  | sensorConditionReleased (latch : Fin 32) (value : Word)
  | tapInstructionUpdate (code : BitVec 8)
  | tapDataUpdate (data : BitVec 279)
  | tapTestLogicReset
  deriving DecidableEq, Repr

end Sys2Proof
end

