-- ==== Sys2Proof/Config.lean ====
section
/-! DEFINITION. The values that the spec leaves open, as constants without a body: nothing in Lean can
evaluate one, so a claim that holds holds for every value (the assumption log names each). -/

namespace Sys2Proof.Config

/-- Random draws of the TRNG (R386 SESSION, R406 roots): the n-th draw, 256 bits. Log entry 10. -/
opaque trng : Nat → BitVec 256

/-- A free Boolean for a behaviour that the spec leaves to the part: whether a RESET_N pulse from
1 µs to 10 µs resets (R47). Log entry 11. -/
opaque pulseResets : Nat → Bool

/-- What a slot of the black-box MRAM that nothing has written holds (R456 gives no contents): the
byte at an address. Log entry 12. -/
opaque mramFill : Nat → Byte

/-- HMAC-SHA-256 of bytes under a key (R120, R369, R457): the standard's function, left uninterpreted. Log entry 13. -/
opaque hmacSha256 : BitVec 256 → Bytes → BitVec 256

/-- Its first 128 bits (R457). -/
def hmac128 (key : BitVec 256) (b : Bytes) : BitVec 128 := ((hmacSha256 key b) >>> 128).setWidth 128

/-- The key stream of AES-GCM-256 of a key and an IV (R76, R384, R416, R419), so many bytes long. Log entry 13. -/
opaque gcmStream : BitVec 256 → Bytes → Nat → Bytes

/-- The tag of AES-GCM-256 of a key, an IV, additional authenticated data and ciphertext. Log entry 13. -/
opaque gcmTag : BitVec 256 → Bytes → Bytes → Bytes → BitVec 128

/-- Whether an ECDSA P-384 signature verifies (R74, R75): public key, digest, r and s. Log entry 13. -/
opaque ecdsaVerify : Bytes → BitVec 384 → Bytes → Bytes → Bool

/-- What IDENT carries of the content key's wrap (R76), whose places in the section are not laid out: the ephemeral public key,
the IV, the additional authenticated data, the wrapped key and the tag. Log entry 62. -/
opaque identWrap : Bytes → Bytes × Bytes × Bytes × Bytes × Bytes

/-- The internal check of the MGMTFW section (code 0x11, R500), of the section's bytes: the spec does not say what it computes.
Log entry 62. -/
opaque firmwareCheck : Bytes → Bool

/-- SHA-384 of bytes (R74, R389, R408, R424): the standard's function, left uninterpreted. Log entry 13. -/
opaque sha384 : Bytes → BitVec 384

/-- The P-384 identity public key, 97 bytes in uncompressed form, derived from the OTP root (R407).
Log entry 13. -/
opaque identityPublic : BitVec 256 → Bytes

/-- The black-box MAC key derived from the OTP root (R407). Log entry 13. -/
opaque bboxKey : BitVec 256 → BitVec 256

/-- The ECDH secret of the OTP-derived identity key and a public key (R407, R424). Log entry 13. -/
opaque ecdh : BitVec 256 → Bytes → Bytes

/-- The key check value of R412 (AES-256 of a zero block, first 24 bits). Log entry 13. -/
opaque kcv : BitVec 256 → BitVec 24

/-- The clock behind the TSval of a TCP segment (Table PRT-4 gives none), of LTS. Log entry 45. -/
opaque tcpClock : Nat → BitVec 32

/-- The rate word of a time base steered to its own source (R134 gives no steering law), in units of
2^-40, as a function of the base, its offset in ns and the number of the update. Log entry 14. -/
opaque baseRate : Nat → Int → Nat → Nat

/-- The resampling kernel (R212, R213): the points of its table per half-span, in units of 2^-60, of the channel's input rate
as a fraction: the spec gives its form, cutoff and gain limits, not its points. Log entry 15. -/
opaque kernel : Nat → Nat → Nat → Int

/-- The weights of the minimum-phase filter (R221), newest first, in units of 2^-60, of N: the spec does not give them. Log
entry 15. -/
opaque fastWeight : Nat → Nat → Int

/-- The cosine of an angle, both in units of 2^-60 (R214, R227). Log entry 15. -/
opaque cosFx : Int → Int

/-- The angle of a vector, in units of 2^-60 rad (R214). Log entry 15. -/
opaque argFx : Int → Int → Int

/-- The 10-bit SECDED code of a stored queue word's 268 bits (R202), whose matrix the spec does not give. Log entry 68. -/
opaque secded : Nat → BitVec 10

/-- A tap of the anti-alias filter of a band (R230), in units of 2^-60: of the band, the set rate and the distance from the centre
in input samples; the spec limits its gain and gives no taps. Log entry 16. -/
opaque bandFilter : Nat → Nat → Nat → Int

/-- A tap of the low-pass filter of band 3 (R230), in units of 2^-60, of the distance from the centre in grid samples. Log
entry 16. -/
opaque basebandFilter : Nat → Int

/-- The natural logarithm, in units of 2^-60 (R237, R252). Log entry 16. -/
opaque lnFx : Int → Int

/-- The poles of the multichannel autoregressive model (R237), in units of 2^-60: of its order, of W × r, which gives the
forgetting factor, and of the band samples since the restart; the recursion's start and form are the kernel's. Log entry 16. -/
opaque arPoles : Nat → Nat → List (List Int) → List (Int × Int)

/-- The estimator's one-step prediction of a member (R238), of its inputs so far and the member's place. Log entry 16. -/
opaque prediction : List (List Int) → Nat → Int

/-- The peak of a pole's modal component in a member over the last W ÷ 4 s (R237): of the pole, the band samples and the member's
place; and the fraction of the used members' band energy that the pole's components explain. Log entry 16. -/
opaque modalPeak : Int × Int → List (List Int) → Nat → Int
opaque explained : Int × Int → List (List Int) → Int

/-- Whether a work item of a bank or modal kernel, by its template and argument, covers the update of an output index: the
layout of a kernel's parameters (PARAM of Table SCH-4) is the firmware's. Log entry 31. -/
opaque oscCover : Nat → Nat → Nat → Bool

/-- A rebuilt outward code (R227) where a stored value or FULL_SCALE is no finite number other than zero, for which the spec
states none: of the history instant. Log entry 18. -/
opaque replaySample : Nat → List Word → Int

/-- Whether the replay queue is empty at a play instant (R228): the pace of the synthesis is not stated. By draw. Log
entry 32. -/
opaque replayEmpty : Nat → Bool

/-- A tap of the zero-phase band-pass of R252, in units of 2^-60: of the channels' rate, the mode frequency and the distance from
the centre in samples; the spec gives its centre and bandwidth, no taps. Log entry 17. -/
opaque bandPass : Nat → Int → Nat → Int

/-- The result of a function-block or Hiska operation for which the spec states no value (for
example FTOI of a value outside INT32, log entry 19): operation code, operands. -/
opaque unstated : Nat → List Word → Word

/-- The length in bytes of the IEC 61850-90-5 session header of an SPDU (KIND 1: operation 0, KIND 2: operation 1), which
the spec names and does not lay out. Log entry 30. -/
opaque sessionHeader : Nat → Nat

/-- What a member of firmware-built text or an object word of no stated layout reads as (R447 leaves
a few fields to the part): object, word number. Log entry 20. -/
opaque objectFill : Nat → Nat → Word

/-- FIRST_ENTRY and LAST_ENTRY of the commit record of a row without entries (Table ALN-8 gives no value), of its ROW_SEQ. Log
entry 67. -/
opaque noEntryPlace : Nat → Nat

/-- Bytes of one copy of the islanding state of so many branches and pairs, written to working memory (R275). Log entry 70. -/
opaque islCopyBytes : Nat → Nat → Nat

/-- Bytes of one copy of a closed set of so many members into its set ring (R235). Log entry 48. -/
opaque setCopyBytes : Nat → Nat

/-- The attention level of a crossing for which Table BBX-3 names none (TOUCH_STUCK and PANEL_GHOST), by latch bit; the
model uses its value modulo 8. Log entry 29. -/
opaque openLevel : Nat → Nat

end Sys2Proof.Config
end

