-- ==== Sys2Proof/Machine/Base.lean ====
section
/-! DEFINITION. The plain helpers under the machine: keyed lists, bit fields of records (R6, R60), big-endian
numbers (R7), the check words that the spec names, and the byte memory of the flash in its canonical form. -/

namespace Sys2Proof.Machine

/-! Keyed lists: a sparse table, at most one entry per key when built by `aput`. -/

/-- The value stored under a key. -/
def aget {K V : Type} [DecidableEq K] : List (K × V) → K → Option V
  | [], _ => none
  | (k', v) :: m, k => if k' = k then some v else aget m k

/-- The value stored under a key, or the table's default. -/
def agetD {K V : Type} [DecidableEq K] (m : List (K × V)) (k : K) (d : V) : V :=
  match aget m k with
  | some v => v
  | none => d

/-- Store a value under a key, in place of the one there. -/
def aput {K V : Type} [DecidableEq K] : List (K × V) → K → V → List (K × V)
  | [], k, v => [(k, v)]
  | (k', v') :: m, k, v => if k' = k then (k, v) :: m else (k', v') :: aput m k v

/-- Remove every entry of a key. -/
def adel {K V : Type} [DecidableEq K] (m : List (K × V)) (k : K) : List (K × V) :=
  m.filter (fun e => decide (e.1 ≠ k))

/-- Change the value under a key, starting from a default. -/
def amod {K V : Type} [DecidableEq K] (m : List (K × V)) (k : K) (d : V) (f : V → V) : List (K × V) :=
  aput m k (f (agetD m k d))

/-! Bit fields. -/

/-- Bits hi down to lo of a record read as one number (R6, R60). -/
def fld (r hi lo : Nat) : Nat := (r >>> lo) % 2 ^ (hi + 1 - lo)

/-- Bit n of a record. -/
def bitAt (r n : Nat) : Bool := (r >>> n) % 2 == 1

/-- A record with the `w` bits from bit `lo` upward replaced by `v` (R449). -/
def setFld (r lo w v : Nat) : Nat :=
  (r >>> (lo + w)) <<< (lo + w) + (v % 2 ^ w) <<< lo + r % 2 ^ lo

/-- A field of `w` bits as a two's-complement number. -/
def signed (w v : Nat) : Int := if v < 2 ^ (w - 1) then (v : Int) else (v : Int) - (2 ^ w : Nat)

/-- An integer's low `w` bits. -/
def wrap (w : Nat) (v : Int) : Nat := (v % ((2 ^ w : Nat) : Int)).toNat

/-- One bit as a number. -/
def b2n (b : Bool) : Nat := if b then 1 else 0

/-- The numbers below n whose bit is set in v, lowest first. -/
def bitsOf (n v : Nat) : List Nat := (List.range n).filter (bitAt v)

/-! Bytes. -/

/-- A byte sequence read as one big-endian number (R7). -/
def beNat (b : Bytes) : Nat := b.foldl (fun a x => a * 256 + x.toNat) 0

/-- A number written big-endian in n bytes (R7). -/
def natBe : Nat → Nat → Bytes
  | 0, _ => []
  | n + 1, v => natBe n (v / 256) ++ [BitVec.ofNat 8 v]

/-- `len` bytes from byte `off` on, read as one big-endian number; bytes past the end read zero. -/
def beAt (b : Bytes) (off len : Nat) : Nat :=
  let x := (b.drop off).take len
  beNat x * 256 ^ (len - x.length)

/-- A sequence of bytes padded with zeros, or cut, to n bytes. -/
def padTo (n : Nat) (b : Bytes) : Bytes := (b ++ List.replicate (n - b.length) 0#8).take n

/-- Bytes combined with a key stream. -/
def xorBytes (a b : Bytes) : Bytes := (a.zip b).map (fun e => e.1 ^^^ e.2)

/-- A DT value in the 64-bit format of Table TIM-1 (R135). -/
def tim1 (n : Ns) : Nat := ((n / 1000000000) <<< 30) + n % 1000000000

/-- A 64-bit DT value read as ns (Table TIM-1). -/
def ofTim1 (v : Nat) : Ns := (v >>> 30) * 1000000000 + v % 2 ^ 30

/-! Check words. -/

/-- One bit of the reflected CRC-32C (polynomial 0x82F63B78). -/
def crc32cBit (c : BitVec 32) : BitVec 32 :=
  if c.getLsbD 0 then (c >>> 1) ^^^ 0x82F63B78#32 else c >>> 1

/-- One byte of the CRC-32C. -/
def crc32cByte (c : BitVec 32) (b : Byte) : BitVec 32 :=
  let c := c ^^^ b.setWidth 32
  crc32cBit (crc32cBit (crc32cBit (crc32cBit (crc32cBit (crc32cBit (crc32cBit (crc32cBit c)))))))

/-- CRC-32C of a byte sequence (R63, R77, R434): the Castagnoli code, initial and final value all ones.
PRESUMED (log entry 21). -/
def crc32c (b : Bytes) : BitVec 32 := ~~~ (b.foldl crc32cByte 0xFFFFFFFF#32)

/-- One bit of CRC-CCITT (polynomial 0x1021). -/
def crcCcittBit (c : BitVec 16) : BitVec 16 :=
  if c.getLsbD 15 then (c <<< 1) ^^^ 0x1021#16 else c <<< 1

/-- One byte of CRC-CCITT. -/
def crcCcittByte (c : BitVec 16) (b : Byte) : BitVec 16 :=
  let c := c ^^^ (b.setWidth 16 <<< 8)
  crcCcittBit (crcCcittBit (crcCcittBit (crcCcittBit (crcCcittBit (crcCcittBit (crcCcittBit (crcCcittBit c)))))))

/-- CRC-CCITT of a byte sequence, initial value 0xFFFF (the check word of C37.118.2; R114).
PRESUMED (log entry 21). -/
def crcCcitt (b : Bytes) : BitVec 16 := b.foldl crcCcittByte 0xFFFF#16

/-! The byte memory of the flash: address and byte pairs, addresses strictly rising, no entry equal to the erased
byte 0xFF, which is what an unlisted address reads as (log entry 22). -/

/-- A sparse byte memory. -/
abbrev Memory := List Host.Cell

/-- What an address that the memory does not list reads as: an erased NOR cell (log entry 22). -/
def Memory.blank : Byte := 0xFF#8

/-- The canonical form: strictly rising addresses above a bound, no blank byte listed. -/
def memWfFrom : Option Nat → Memory → Bool
  | _, [] => true
  | lo, (a, b) :: m =>
    (match lo with | none => true | some l => decide (l < a)) && decide (b ≠ Memory.blank) && memWfFrom (some a) m

/-- The canonical form of a memory. -/
def Memory.wf (m : Memory) : Bool := memWfFrom none m

/-- The byte at an address. -/
def memRead : Memory → Nat → Byte
  | [], _ => Memory.blank
  | (a', b) :: m, a => if a' = a then b else memRead m a

/-- Put one byte; the canonical form is kept. -/
def memWrite : Memory → Nat → Byte → Memory
  | [], a, v => if v = Memory.blank then [] else [(a, v)]
  | (a', b) :: m, a, v =>
    if a < a' then (if v = Memory.blank then (a', b) :: m else (a, v) :: (a', b) :: m)
    else if a = a' then (if v = Memory.blank then m else (a, v) :: m)
    else (a', b) :: memWrite m a v

/-- Put a byte sequence from an address upward. -/
def memWriteBytes (m : Memory) (a : Nat) : Bytes → Memory
  | [] => m
  | v :: vs => memWriteBytes (memWrite m a v) (a + 1) vs

/-- The n bytes from an address upward. -/
def memBytes (m : Memory) (a n : Nat) : Bytes := (List.range n).map (fun i => memRead m (a + i))

/-- Erase n bytes from an address upward: a sector erase of the NOR flash (R61, R77). -/
def memErase (m : Memory) (a n : Nat) : Memory := m.filter (fun c => decide (c.1 < a ∨ a + n ≤ c.1))

/-! Lists. -/

/-- Replace the element at a place; a place past the end changes nothing. -/
def setAt {α : Type} : List α → Nat → α → List α
  | [], _, _ => []
  | _ :: xs, 0, y => y :: xs
  | x :: xs, n + 1, y => x :: setAt xs n y

/-- Change the element at a place. -/
def modAt {α : Type} : List α → Nat → (α → α) → List α
  | [], _, _ => []
  | x :: xs, 0, f => f x :: xs
  | x :: xs, n + 1, f => x :: modAt xs n f

/-- Insert into a list by a key that rises, after its equals. -/
def insertBy {α : Type} (key : α → Nat) (x : α) : List α → List α
  | [] => [x]
  | y :: ys => if key x < key y then x :: y :: ys else y :: insertBy key x ys

/-- Fold over a list (a loop over units in ascending order). -/
def forAll {σ α : Type} (xs : List α) (s : σ) (f : σ → α → σ) : σ := xs.foldl f s

end Sys2Proof.Machine
end

