-- ==== Sys2Proof/Machine/State.lean ====
section
/-! DEFINITION. The state of the block as plain data: every register, FIFO, buffer, counter, mode and pin that
the spec gives the machine, the queue of waiting commands, and the state right after reset. -/

namespace Sys2Proof.Machine

/-- Why a run may stop with a fault. No meaning of this model raises one: every access a rule forbids is answered or
counted by the rule itself. -/
inductive Fault where
  /-- An index past the hardware's own range; raised by nobody, since every operand is typed by its range. Safe. -/
  | outOfRange
  deriving DecidableEq, Repr

/-- Why a command may be refused by the model. -/
inductive Refusal where
  /-- A command whose meaning is not written; raised by the dispatch arms only. Safe: the model stops. -/
  | notModelled (mnemonic : String)
  deriving DecidableEq, Repr

/-! Configuration records (chapter 03 and the chapters it names). -/

/-- The tables of fixed records that an image holds; each record is kept as one number read as R60 states. -/
inductive Tbl where
  | header | sectionHdr | timeHdr | ptpRec | asym | port | peer | tbWord | stream | chan | bus | branch
  | beatHdr | post | budget | slice | group | directory
  | frontEnd | lane | thresh | oscHdr | oscBand | signal | groupEst | param | locSet | locBranch
  | islHdr | watched | pairRec | det | dispHdr | cellMap | template | kernHdr | kernel
  | logicHdr | task | var | inst | outRec | code | plan | capClass | trigSrc | chList
  | outSet | pubHdr | outStream | content | amap | name | keysHdr | keyEnt | fwHdr
  deriving DecidableEq, Repr

/-- Every counter of the spec, each named once with the units it is kept per. -/
inductive Ctr where
  -- PRT-5, per port; framesTransmitted and modeDiscards per port and queue (R58, R106)
  | framesReceived | runts | oversize | fcsErrors | unsupportedTags | wrongDest | unattributed | pauseFrames | flowIgnored | macOther | pauseStalls | framesTransmitted | oversizeTx | undelivered | arpAnswered | tcpOutOfOrder | tcpResets | tcpDiscarded | linkUps | linkDowns | moduleInsertions | modeDiscards
  -- Table INT-1, once per line port
  | unmatched | ptpFrames | commandsReceived
  -- Table INT-14 and Table ALN-9, per SID; stateEntries per SID and state
  | delivered | ingressDrops | wrongPort | parseErrors | sizeMismatches | checkErrors | layoutErrors | unsupported | cfgOther | cfg2 | cfgChanges | invalidBlocks | invalidSamples | testFrames | unsyncFrames | authenticated | authFailures | unexpectedSec | offGrid | duplicates | conflicts | commandsSent | stateEntries | beforeStart | early | afterFinal | between | late | missing
  -- R129, Table INT-13, once
  | commandsAccepted | commandsRefused | commandsAbsorbed
  -- Table TIM-12, per time base
  | qualifications | disqualifications | dissents | baseSteps
  -- Table TIM-12, once
  | holdoverEntries | forcedConflicts | dtSteps | gnssFailed | irigFailed
  -- Table TIM-12, per PTP record (0, 1) and 2 for UDP
  | ptpDiscarded
  -- Tables TIM-12 and CAP-10, per trigger input
  | edgesLost | stampsDropped | glitches
  -- Table ALN-9, per watch group
  | quorumMet | quorumShort | afterQuorum
  -- Table ALN-9, per output stream
  | deadlineCloses | deadlineAbsent | afterDeadline
  -- Table ALN-9, per region
  | rowsOpened | rowsCommitted | rowsUncommitted | rowsStepped | slotStalls
  -- Table WAV-14, per lane
  | laneAccepted | laneBeforeSync | laneDuringSync | laneCrc | laneFormat | laneSequence | laneLate | laneGaps | laneSwitches | laneStops | laneNosync | laneOverflows
  -- Table WAV-14, per lane group and bank
  | bankCorrected | bankUncorrectable
  -- Table WAV-14, per lane group
  | partialWords | flushedWords | flushedPartial | holdAssertions
  -- Table WAV-14, per SID and position
  | lateToFilter | missingSamples
  -- Table WAV-14, per estimator channel
  | estRestarts | estInvalid
  -- Table WAV-14, per threshold set and KIND
  | threshEvents
  -- Table WAV-14, per outward lane
  | underruns | clips | missingHistory
  -- Table WAV-14, once
  | wvClkLosses
  -- Table OSC-14, per output key (4 x signal + band; 0x8000 + 16 x group + 4 x band)
  | oscFilled | oscRestarts
  -- Table OSC-14, per group
  | memberFills | ringOverruns
  -- Table OSC-14, once
  | shedRestarts
  -- Table OSC-14, per band
  | abandonedUpdates
  -- Table OSC-14, per group and band
  | reassignments
  -- Table OSC-14, per parameter set and KIND
  | oscPickups | oscDropouts
  -- Table OSC-14, per location set
  | locRuns | locReplaced | locLeftOut
  -- Table ISL-11, per branch
  | statusChanges | heldStatuses
  -- Table ISL-11, once
  | statusBehind | evaluations | coalesced | islDeclared | islWithdrawn | islMerges | gradeChanges | islOverflows | setsLost | blockMoves | cellMoves
  -- Table ISL-11, per coherency pair
  | pairRelearns | pairRestarts
  -- Table ISL-11, per detector
  | detPickups | detDropouts | detSteps | detRestarts
  -- Table SCH-12, per region and class
  | itemsPosted | itemsDispatched | itemsCompleted | budgetWaits | overruns | borrowings | shedDiscards
  -- Table SCH-12, per region
  | aborts | reissues | abandoned | watchdogs | latePosts | discardedPosts | quorumStalls | deadlineStalls | delayLate | thermalConflicts | thermalEntries | quarantines | releasesRefused
  -- Table SCH-12, once
  | traceDrops | shadowDisagreements
  -- Table LOG-12, per task
  | scansCompleted | scansAbandoned | tagDiscontinuities
  -- Table LOG-12, per output record
  | undeliveredWrites | tripLaunches | tripRetries | tripUnacked
  -- Table LOG-12, per DO
  | lateLevels | pulseDeferrals | refusedEntries | suppressedWrites
  -- Table LOG-12, once
  | forcesApplied | forcesReleased | forcesRefused | instKept | instReset | instNew
  -- Table CAP-10, per trigger-source record
  | triggersTaken
  -- Table CAP-10, per capture class
  | recordsStarted | triggersRefused | captureFull | laterTriggers | queuedTriggers | rangeConflicts | rangeLimits | truncations | lostRows | abortedRecords
  -- Table CAP-10, once
  | overwrittenRecords | xtrigPulses
  -- R380 and Table PAI-9, per output stream
  | emptyLaunches | skippedSets | suppressed | unsendable | alarmChanges | alarmRetransmits | alarmAbsorbed | takeoverGaps | yielded
  -- R380, Table PUB-7, per port and queue
  | lateDrops | lateLaunches | queueHolds
  -- R380, once
  | repliesNotSent
  -- Table PAI-9, once
  | woideAuthFail | woideStale | woideApplied | woideHeld | woideRepeats | woideBeyond | woideUnknown | woideRetransmits | woideDowns | fillsSent | fillsTooLarge | pairChangeRefused | unmirrored | ovDivergences | roleDecisions | positionConflicts | splitBrains
  -- Table PAI-9, per item of Table PAI-5
  | resyncs
  -- Table PAI-9, per path (0 token, 1 link, 2 observed streams)
  | pathLosses
  -- Table KEY-10, once
  | loadsCommitted | loadsRefused | loadsAborted | latchOverflows | zeroiseTamper | zeroiseService | rekeyRefusals
  -- Table KEY-10, per slot and half; per slot
  | halfUses | exhaustions
  -- Table KEY-10, per source
  | tampers
  -- R455, per port (5 MGP, 6 SVP)
  | empExecuted | empDiscarded | empQueueDiscards | empCached | empMismatch | empStale | empOld | empNoAuthority | empNoMode | empExpired
  -- Table EMP-12, once
  | stagingRefused | stagingsStarted | stagingsFailed | activations
  -- Table IMG-11, once
  | changeSetsApplied | changeSetsRefused
  -- R42, R44, events refused or passed over, once
  | modeRefused
  -- R38, per adaptive loop of Table ARC-5
  | loopConflicts
  -- R24, R26, per structure row of Table ARC-3 and unit
  | uncorrectable | correctable
  -- R465, per latch bit of Table BBX-4
  | crossings
  -- Table BBX-3, R461, R467, R468
  | clockFaults | ghostScans | touchRecals | bbxWritten | bbxDropped
  -- Table ARC-4 rows 4, 11 and 17, per row
  | crossingRefused  deriving DecidableEq, Repr

/-- A counter and its unit: `u` and `v` are the unit's numbers, 0 where the counter is kept once (R9). -/
structure CtrKey where
  c : Ctr
  u : Nat
  v : Nat
  deriving DecidableEq, Repr

/-- What is kept of a counter: its value, and the increments of the present beat, which a read that clears it leaves behind
(R9, R13). -/
structure CtrVal where
  val : Nat
  now : Nat
  deriving DecidableEq, Repr

/-! Modes and boot (chapter 02). -/

/-- The twelve modes (Table MOD-1). -/
inductive Mode where
  | dormant | unconfigured | loading | warmup | active | standby | takeover | degraded
  | forced | replay | tamperhold | halt
  deriving DecidableEq, Repr

/-- The pair roles in the codes of Table EMP-13 (R396). -/
inductive Role where
  | undecided | primary | standby | unpaired
  deriving DecidableEq, Repr

/-- A mode-transition event collected in the present beat, decided at the boundary in the order of R44. -/
inductive Ev where
  /-- A tamper: T19 (Table MOD-2). -/
  | tamper
  /-- A critical uncorrectable error: T16. -/
  | critical
  /-- A non-critical uncorrectable error or an exhausted spare margin: T14 or T15. -/
  | nonCritical
  /-- The partner is absent on two role paths: T9. -/
  | partnerAbsent
  /-- A restart by RESTART, ACTIVATE or POWER_RESTORED: T21; set when the request came from OPERATOR. -/
  | restart (operator : Bool)
  /-- RESET_N asserted for long enough: T21 (R44, R47). -/
  | pinReset
  /-- SVC_KEY_N released in REPLAY: T18. -/
  | svcKeyReleased
  deriving DecidableEq, Repr

/-- Boot and mode machine (R40-R59, R79-R82). -/
structure BootSt where
  /-- The mode, a 4-bit code (R40); reset LOADING (T2, T21). -/
  mode : Mode
  /-- Main rails valid (R476); reset true. -/
  rails : Bool
  /-- The island is fed and out of reset (R479); reset true. -/
  island : Bool
  /-- The slot being tried in LOADING or running after it: 0 A, 1 B (R79); reset 0. -/
  slot : Nat
  /-- An image runs: LOADING has ended with T3 (R49); reset false. -/
  running : Bool
  /-- A slot is being tried in LOADING (R79); reset false: the choice is made by the power-on row. -/
  trying : Bool
  /-- The other slot has already been tried and failed in this start (R49). -/
  second : Bool
  /-- Load-result objects of slots A and B: failure code and detail word (R82); reset 0, no failure. -/
  loadA : Nat × Nat
  loadB : Nat × Nat
  /-- Firmware of the image answers EMP; before it the boot responder does (R50, R443); reset false. -/
  mgmtUp : Bool
  /-- TAMPERED was set or a tamper came in LOADING: the mode after LOADING is TAMPERHOLD (T5, R430). -/
  toTamperhold : Bool
  /-- Events collected for the next beat boundary (R44). -/
  evs : List Ev
  /-- DEGRADED was entered from STANDBY, or from WARMUP in a role other than PRIMARY (R56); reset false. -/
  degStandby : Bool
  /-- Functions' units that count as converged for leaving WARMUP: function row of Table MOD-5, unit (R52). -/
  converged : List (Nat × Nat)
  /-- Functions' units that have delivered a valid value and may converge (R52). -/
  delivered : List (Nat × Nat)
  /-- LTS at which WARMUP was entered, for the WARMUP timeout (R53). -/
  warmAt : Ns
  /-- The WARMUP timeout has expired and T7 or T8 is due at the next boundary (R53). -/
  timedOut : Bool
  /-- A RESET_N assertion shorter than 1 µs is ignored; draws taken for pulses in between (R47). -/
  pulses : Nat
  /-- ASEQ of the attention item of the latest tamper since reset, which the records of T5 and T19 carry (R428); 0: none. -/
  tamperAseq : Nat
  /-- MAP_HASH of the running image (R389). -/
  mapHash : BitVec 64
  /-- A T1 whose item, and record where the island was unfed, wait for the next power-up: the mode before it, its instant by the
  real-time clock, and whether the record has been written (Table MOD-2). -/
  fell : Option (Mode × Ns × Bool)
  /-- The mode in which the island's reset took the main domain into reset, until T21 at the island's power-on (R42). -/
  heldFrom : Option Mode
  /-- EPOCH up to which the epoch floor is being burned (R81), 0 while no burn runs; reset 0. -/
  burnTo : Nat
  deriving DecidableEq, Repr

/-! Attention (chapter 17). -/

/-- Attention classes in the codes of Table EMP-3. -/
inductive AttClass where
  | none | mode | unit | sec | fault | time
  deriving DecidableEq, Repr

/-- An attention item (Table EMP-6). -/
structure AttnItem where
  aseq : Nat
  posted : Ns
  lvl : Nat
  cls : AttClass
  acked : Bool
  source : Nat
  detail : Nat
  ackedAt : Ns
  deriving DecidableEq, Repr

/-- An attention log of 1,024 slots (R440) with its latches (R441). -/
structure AttnLog where
  /-- The filled slots, slot number 0-1023; reset empty. -/
  slots : List (Nat × AttnItem)
  /-- ASEQ of the newest item posted, 32 bits; reset 0, so that the first item is 1. -/
  head : Nat
  /-- TOGGLE (Table EMP-3), flips at each post; reset 0. -/
  toggle : Bool
  /-- The attention-lost counter, its value at the last boundary and its increments of the present beat (R13); reset 0. -/
  lost : Nat
  lostAt : Nat
  lostNow : Nat
  /-- Latches posted once and not yet acknowledged, with the ASEQ that holds each (R441). -/
  latched : List (CtrKey × Nat)
  deriving DecidableEq, Repr

/-! Black box, sensors and panel (chapter 18). -/

/-- A black-box record (Table BBX-1) as stored in a slot, or queued (slot fields 0). -/
structure BbxRec where
  cls : AttClass
  mode : Mode
  ffz : Bool
  loss : Bool
  event : Nat
  epoch : Nat
  seq : Nat
  dt : Ns
  lts : Ns
  tsw : BitVec 32
  payload : Bytes
  aseq : Nat
  mac : BitVec 128
  deriving DecidableEq, Repr

/-- The black box (R456-R463). -/
structure BbxSt where
  /-- The write queue in island RAM, at most 16, head first (R461); reset empty. -/
  queue : List BbxRec
  /-- Slots of the MRAM that hold a record the device wrote, 0-8191 (R456); reset: none (log entry 12). -/
  mram : List (Nat × BbxRec)
  /-- The power-on scan has completed, so that records may be written (R462); reset true. -/
  scanned : Bool
  /-- A record was dropped since the last one written (R461 LOSS); reset false. -/
  lossFlag : Bool
  /-- Slot the next record is looked for from: the one after the newest valid record's (R458). -/
  newest : Option Nat
  /-- LAST_GASP has been posted and no POWER_RESTORED since (R463, Table BBX-3); reset false. -/
  gasp : Bool
  deriving DecidableEq, Repr

/-- Sensors (R464, R465). -/
structure SensSt where
  /-- The die-sensor readings in 1/16 °C, eight (R464); reset 0 (log entry 23). -/
  temps : List Int
  /-- The six rail readings in mV, VDD_CORE to VDD_AON as Table BBX-4 orders them (R464, R473); reset: the nominals (log entry
  23). -/
  railMv : List Nat
  /-- How many consecutive beats each reading has been unchanged (R464). -/
  still : List Nat
  /-- Sensors ignored after a sensor failure (R464). -/
  bad : List Nat
  /-- Thermal level of each region, 0-3 (R307); reset 0. -/
  level : List Nat
  /-- Consecutive beats below threshold minus 5 °C, per region (R307). -/
  below : List Nat
  /-- Consecutive beats at 118 °C or above, per sensor (R464). -/
  hot : List Nat
  /-- SEEN bits of Table BBX-4 (R465), 32 bits; reset 0. -/
  seen : BitVec 32
  /-- Present state of each latch's condition (R465), 32 bits; reset 0. -/
  cond : BitVec 32
  /-- VBAT in mV as last read (R464); reset 3000 (log entry 23). -/
  vbat : Nat
  /-- Latch bits SEEN that hardware set in the present beat (R12). -/
  seenNow : BitVec 32
  /-- The clock domains found faulty, 0 FAB, 1 NOC, 2 MEM, 3 HTH, 4 TXL (R464, R473). -/
  clocks : List Nat
  deriving DecidableEq, Repr

/-- One touch channel (R468). -/
structure Touch where
  baseline : Nat
  count : Nat
  above : Nat
  touched : Bool
  since : Ns
  deriving DecidableEq, Repr

/-- The front panel and the service port's plug (R466-R471). -/
structure PanelSt where
  /-- Debounced matrix keys (R467), 16 bits; reset 0. -/
  keys : BitVec 16
  /-- Per key: consecutive scans that disagree with the debounced state (R467). -/
  runs : List (Nat × Nat)
  /-- The four touch channels (R468). -/
  touch : List Touch
  /-- ASEQ head at the last press of ACK (R469, LED_N2). -/
  ackHead : Nat
  /-- End of the lamp test by the real-time clock, which no reset stops, if one runs (R469). -/
  lampEnd : Option Ns
  /-- Real-time clock since which key 2 has been held down with SVC_KEY_N asserted (R469). -/
  key2Since : Option Ns
  /-- End of the SVP enable by the real-time clock, if in force (R469, R442); reset none. -/
  svpEnd : Option Ns
  /-- SVC_KEY_N asserted, debounced (R470); reset false (log entry 23). -/
  svcKey : Bool
  /-- SVC_DET_N asserted, debounced (R470); reset false (log entry 23). -/
  svcDet : Bool
  deriving DecidableEq, Repr
/-! Transmit frames (chapters 04 and 14). -/

/-- A member of a GOOSE or sampled-value dataset: its type, value and quality word (R369, R372, R374). -/
structure OutMember where
  mtype : Nat
  value : Word
  quality : BitVec 32
  deriving DecidableEq, Repr

/-- The options of a transmitted TCP segment (Table PRT-4): MSS, window shift, and the TSval and TSecr of its timestamps. -/
structure TcpOpts where
  mss : Option Nat
  wscale : Option Nat
  ts : Option (BitVec 32 × BitVec 32)
  deriving DecidableEq, Repr

/-- The content of a transmitted frame. -/
inductive TxBody where
  /-- An ARP reply (R92). -/
  | arp (targetIp : BitVec 32) (targetMac : BitVec 48)
  /-- A segment of the TCP offload (R101-R103). -/
  | tcp (sid : Nat) (syn ack rst : Bool) (seqNo ackNo : BitVec 32) (window : Nat) (opts : TcpOpts) (data : Bytes)
  /-- A PTP frame: 2 Pdelay_Req, 3 Pdelay_Resp, 10 Pdelay_Resp_Follow_Up; its time stamp field (R139). -/
  | ptp (domain kind seq : Nat) (stamp : Ns)
  /-- A C37.118.2 command to a source over UDP (R128). -/
  | command (sid : Nat) (bytes : Bytes)
  /-- A C37.118.2 data frame of an output stream (R367). -/
  | data (stream : Nat) (tag : Ns) (bytes : Bytes)
  /-- A published sampled-value frame (R369); key identifier of the half that signed it. -/
  | sv (stream : Nat) (tag : Ns) (smpCnt smpSynch confRev : Nat) (members : List OutMember) (signedBy : Option Nat)
  /-- A GOOSE or R-GOOSE frame (R372). -/
  | goose (stream stNum sqNum : Nat) (t : Ns) (timeQuality : Nat) (ttlMs : Nat) (simulation : Bool)
          (members : List OutMember) (signedBy : Option Nat)
  /-- A header or configuration reply (R375). -/
  | reply (stream : Nat) (code : Nat) (bytes : Bytes)
  /-- A Woide frame (R384): session, nonce counter, SEQ, ACK, ACK_MAP and payload. -/
  | woide (f : WoideFrame)
  /-- A replay frame of an output stream, test-flagged (R377). -/
  | empReply (bytes : Bytes)
  deriving DecidableEq, Repr

/-- A frame in a transmit queue (R158): launch time (0: as soon as placed), Ethernet length, addresses. -/
structure TxFrame where
  launch : Ns
  len : Nat
  vid : Nat
  dstMac : BitVec 48
  dstIp : BitVec 32
  dport : Nat
  /-- A port-service frame (R55). -/
  service : Bool
  /-- PCP of its tag, the number of the queue it leaves from (R97); 0 while it waits, and without a tag. -/
  pcp : Nat
  body : TxBody
  deriving DecidableEq, Repr

/-! Line ports, intake and time (chapters 04-06). -/

/-- A frame in an ingress buffer with its arrival stamp in DT after R93, R103 and R138. -/
structure InFrame where
  stamp : Ns
  /-- The SID of its TCP connection, for a frame rebuilt by the offload (R103). -/
  tcp : Option Nat
  frame : RxFrame
  deriving DecidableEq, Repr

/-- A SFP28 cage (R104). -/
structure CageSt where
  /-- A module is accepted as present; reset true (log entry 24). -/
  present : Bool
  /-- LTS at which the module was accepted. -/
  since : Ns
  /-- The transmitter is enabled. -/
  txOn : Bool
  /-- The bring-up of Sequence PRT-1 has reached 320 ms. -/
  initDone : Bool
  /-- The module's identity says that it supports the port's PHY (Sequence PRT-1); reset true (log entry 24). -/
  supports : Bool
  deriving DecidableEq, Repr

/-- One port (R86-R106). -/
structure PortSt where
  /-- Link up (R104, R105); reset false. -/
  link : Bool
  /-- The port is enabled (R50): management firmware has started; MGP and SVP are served by the boot responder before that
  (R443). -/
  on : Bool
  /-- The ingress buffer, oldest first, and the bytes it holds (R94); reset empty. -/
  ingress : List InFrame
  used : Nat
  /-- Frames in the transmit queues Q0-Q7, oldest first in each (R95); reset empty. -/
  queues : List (List TxFrame)
  /-- Frames held for lack of room, in order, with their queue (R96, R55). -/
  waiting : List (Nat × TxFrame)
  /-- The frame on the wire and its queue (R95). -/
  wire : Option (Nat × TxFrame)
  /-- Departure stamp of the frame on the wire (R93), and the LTS of its start-of-frame delimiter. -/
  wireAt : Ns
  wireFrom : Ns
  /-- LTS from which the wire is idle, the inter-frame gap after the last frame over. -/
  idleAt : Ns
  /-- Queues whose head is armed by the launch strobe (R158). -/
  armed : List Nat
  /-- Pause timers running: queue and the LTS at which it reaches zero (R99). -/
  pause : List (Nat × Ns)
  /-- Start in LTS of each queue's continuous hold (R99). -/
  heldFrom : List (Nat × Ns)
  /-- Queues whose hold has been counted as a stall (R99). -/
  stalled : List Nat
  deriving DecidableEq, Repr

/-- States of a TCP connection of the offload (R101). -/
inductive TcpState where
  | closed | synSent | open
  deriving DecidableEq, Repr

/-- One TCP connection, of the stream of KIND 1 with the same SID (R101-R103). -/
structure TcpConn where
  st : TcpState
  /-- Next sequence number to send, and the oldest not acknowledged. -/
  sndNxt : BitVec 32
  sndUna : BitVec 32
  /-- Next byte expected. -/
  rcvNxt : BitVec 32
  /-- Bytes received in order and not yet part of a whole frame (R103). -/
  partialBytes : Bytes
  /-- Bytes received since the last ACK sent; full segments among them. -/
  unacked : Nat
  segs : Nat
  /-- LTS at which the oldest unacknowledged data arrived (500 µs, Table PRT-4). -/
  ackDue : Option Ns
  /-- The command segments in flight, oldest first: sequence number, bytes, LTS of the next retransmission, attempts. -/
  flight : List (BitVec 32 × Bytes × Ns × Nat)
  /-- LTS at which the connection is opened again (R101). -/
  reopenAt : Option Ns
  /-- Peer's options in use: window shift, MSS, time stamps. -/
  wscale : Option Nat
  mss : Nat
  ts : Bool
  /-- The TSval to echo (Table PRT-4). -/
  tsRecent : BitVec 32
  deriving DecidableEq, Repr

/-- Stream states (Table INT-10). -/
inductive StrState where
  | off | waiting | live | stale | mismatch
  deriving DecidableEq, Repr

/-- One stream's intake state (R123, R126-R131, R504). -/
structure StreamSt where
  st : StrState
  /-- Whole beats without a delivery (R127). -/
  idle : Nat
  /-- A delivery came in the present beat. -/
  fresh : Bool
  /-- Run of layout errors towards MISMATCH (R504). -/
  layoutRun : Nat
  /-- Run of frames passing every parse check in MISMATCH (R504). -/
  goodRun : Nat
  /-- The duplicate window, tag and digest, most recent first, at most 16 (R123). -/
  window : List (Ns × BitVec 32)
  /-- LTS at which CFG-2 is sent next (R128). -/
  cfgDue : Option Ns
  /-- LTS at which turn-on is sent (R128). -/
  onDue : Option Ns
  /-- LTS before which CFG_CHANGE asks for no CFG-2 again (R128). -/
  cfgHold : Ns
  /-- Latency statistic: count, minimum, maximum and the last 2,400 values (R131). -/
  latMin : Int
  latMax : Int
  lats : List Int
  deriving DecidableEq, Repr

/-- A frame delivered by the classifier: the delivery header of Table INT-9 and its values (R125). -/
structure Delivery where
  sid : Nat
  kind : Nat
  tag : Ns
  gridOff : Int
  arrival : Ns
  test : Bool
  unsync : Bool
  auth : Bool
  mirror : Bool
  cfgChange : Bool
  blockInvalid : Bool
  behind : Bool
  tq : Nat
  port : Nat
  digest : BitVec 32
  len : Nat
  /-- Blocks of the frame marked invalid (Table INT-5). -/
  badBlocks : List Nat
  /-- The frame's bytes (KIND 0 and 1). -/
  bytes : Bytes
  /-- The frame's ASDUs (KIND 2 and 3). -/
  asdus : List Asdu
  deriving DecidableEq, Repr

/-- A request waiting on the command path (R108, R129): port, VLAN, MAC, address, UDP length, bytes. -/
structure SubReq where
  port : Nat
  vid : Nat
  mac : BitVec 48
  ip : BitVec 32
  dport : Nat
  len : Nat
  bytes : Bytes
  deriving DecidableEq, Repr

/-! Hearth (chapter 06). -/

/-- Time-base states (Table TIM-6). -/
inductive BaseState where
  | off | acquiring | qualified | dissent
  deriving DecidableEq, Repr

/-- A time base TB0-TB3 (R134, R142). -/
structure BaseSt where
  st : BaseState
  /-- The base's counter, in units of 2^-40 ns. -/
  acc : Nat
  /-- Rate word, in units of 2^-40; reset 2^40, nominal. -/
  rate : Nat
  /-- Updates taken, the index of the open steering law (log entry 14). -/
  updates : Nat
  /-- Consecutive votes at which the source's conditions have held (QUAL_TIME). -/
  held : Nat
  /-- Consecutive votes within VOTE_TOL of every QUALIFIED base, in DISSENT. -/
  agree : Nat
  /-- Consecutive expected updates missing. -/
  missed : Nat
  /-- An update came since the last vote. -/
  updated : Bool
  /-- The grandmaster has changed since the last vote. -/
  gmChanged : Bool
  /-- The source's latest reading less the counter, signed ns. -/
  offset : Int
  deriving DecidableEq, Repr

/-- A foreign master heard on a port (R139). -/
structure Foreign where
  port : Nat
  ann : Announce
  /-- LTS of its last Announce and the interval since the one before. -/
  at_ : Ns
  interval : Ns
  deriving DecidableEq, Repr

/-- The peer delay of one port in one domain (R139). -/
structure PeerDelay where
  seq : Nat
  t1 : Option Ns
  t2 : Option Ns
  t4 : Option Ns
  /-- Mean path delay in ns, once measured. -/
  delay : Option Int
  /-- LTS of the last measurement. -/
  at_ : Ns
  /-- LTS at which the next Pdelay_Req is due. -/
  due : Ns
  deriving DecidableEq, Repr

/-- A PTP domain record's state (Table TIM-5). -/
structure PtpSt where
  foreign : List Foreign
  /-- The selected master: its Announce and port (default best master clock algorithm). -/
  master : Option Foreign
  /-- A two-step Sync awaiting its Follow_Up: sequence, ingress stamp and its own correction in ns. -/
  sync : Option (Nat × Ns × Int)
  /-- LTS of the last Sync used, and the interval since the one before. -/
  syncAt : Option Ns
  syncIv : Ns
  delays : List (Nat × PeerDelay)
  deriving DecidableEq, Repr

/-- A PTP frame routed to Hearth (Table ARC-4 row 17). -/
structure PtpIn where
  port : Nat
  len : Nat
  vid : Nat
  udp : Bool
  stamp : Ns
  domain : Nat
  msg : PtpMsg
  deriving DecidableEq, Repr

/-- The GNSS and IRIG-B receivers (R140, R141). -/
structure WireSrc where
  /-- LTS of the latest on-time edge. -/
  edge : Option Ns
  /-- Time of day waiting for the next edge (GNSS_TOD_NEXT), TAI s. -/
  tod : Option Nat
  /-- Fix quality and satellites of the last GGA. -/
  fix : Nat
  sats : Nat
  /-- Seconds label of the last frame or edge. -/
  last : Option Nat
  /-- A condition of Table TIM-7 has failed since the last vote: an edge went without its label, or a frame came with bad
  parity, code 0xF or a label that does not follow the one before. -/
  failed : Bool
  /-- The latest edge is labelled. -/
  labelled : Bool
  /-- IRIG-B time-quality code; leap announcement. -/
  tqCode : Nat
  leapPend : Bool
  leapDel : Bool
  deriving DecidableEq, Repr

/-- A trigger stamp (Table TIM-10). -/
structure TrigStamp where
  dt : Ns
  sub : Nat
  rising : Bool
  input : Nat
  tsw : BitVec 32
  /-- Trigger-source records that have taken or dropped it (R340). -/
  done : List Nat
  deriving DecidableEq, Repr

/-- Hearth (R132-R160). -/
structure TimeSt where
  /-- LTS, ns from reset release (R132); reset 0. -/
  lts : Ns
  /-- DT in units of 2^-40 ns (R133); reset from the real-time clock (R41). -/
  acc : Nat
  /-- DT's rate word in units of 2^-40 (R133); reset 2^40, nominal (R41). -/
  rate : Nat
  /-- Integral term I in 1/1536 ppb (R145); reset 0. -/
  integ : Int
  /-- TB0-TB3 (R134). -/
  bases : List BaseSt
  ptp : List PtpSt
  gnss : WireSrc
  irig : WireSrc
  /-- Frames routed to Hearth, oldest first (Table ARC-4 row 17). -/
  ptpIn : List PtpIn
  /-- A majority exists, by the last vote (R143). -/
  majority : Bool
  /-- Estimated error E in 1/17,280,000 ns (R147), and E0. -/
  err : Nat
  err0 : Nat
  /-- NEVER_LOCKED (Table TIM-8); reset 1. -/
  neverLocked : Bool
  /-- HOLDOVER holds (R146), its start as an LTS and the seconds since. -/
  holdover : Bool
  hoSince : Ns
  /-- Forced holdover in effect (R149). -/
  forcedHo : Bool
  /-- REF_LOST (R150); reset 0. -/
  refLost : Bool
  /-- Consecutive seconds a qualified majority has held DT (Table MOD-5 row 0). -/
  lockSecs : Nat
  /-- DT second of the last vote (R143). -/
  voteSec : Nat
  /-- The time-status word latched at the last boundary (R151); reset by Table TIM-8. -/
  tsw : BitVec 32
  /-- The leap event in force or announced: DT second of the event, and deletion (R154). -/
  leap : Option (Nat × Bool)
  /-- TAI − UTC before that event (R154). -/
  leapOff : Nat
  deriving DecidableEq, Repr
/-! Alignment (chapter 07). -/

/-- A phasor estimate on its way to a row or stored there (R183, R217). -/
structure Estimate where
  ch : Nat
  tag : Ns
  mag : Word
  ang : Word
  freq : Word
  rocof : Word
  invalid : Bool
  test : Bool
  unsync : Bool
  freqBad : Bool
  rocofBad : Bool
  nominal : Bool
  settling : Bool
  mirror : Bool
  /-- DT of release and the time-status word then (Table WAV-12). -/
  released : Ns
  tsw : BitVec 32
  deriving DecidableEq, Repr

/-- What a slice receives (R163). -/
inductive SliceIn where
  | frame (d : Delivery)
  | est (e : Estimate)
  deriving DecidableEq, Repr

/-- An entry of a row: what entered, when (R166), as a rider or late. -/
structure RowEntry where
  val : SliceIn
  entered : Ns
  between : Bool
  late : Bool
  deriving DecidableEq, Repr

/-- A row of a slice (R165), from its opening to FINAL. -/
structure Row where
  tag : Ns
  seq : Nat
  /-- Slot index 0-255 while open (R175). -/
  slot : Nat
  entries : List RowEntry
  retired : Bool
  /-- Watch groups and output sets already closed at this tag. -/
  groups : List Nat
  sets : List Nat
  /-- At least one group closed short (Table ALN-8). -/
  short : Bool
  conflicts : Nat
  /-- Places, in the region's part of the phasor ring, of the row's first and last history entries (Table ALN-8). -/
  places : Option (Nat × Nat)
  deriving DecidableEq, Repr

/-- A row that has reached FINAL and awaits its commit record (R177, R186). -/
structure FinalRow where
  row : Row
  stepped : Bool
  expected : List Nat
  onTime : List Nat
  late : List Nat
  finalAt : Ns
  tsw : BitVec 32
  deriving DecidableEq, Repr

/-- A member of a closed set (R178): its channel, status byte, value words and header fields. -/
structure Member where
  ch : Nat
  status : BitVec 8
  v0 : Word
  v1 : Word
  /-- Frequency and rate of change of a SOURCE 6 estimate. -/
  v2 : Word
  v3 : Word
  tq : Nat
  gridOff : Int
  nominal : Bool
  deriving DecidableEq, Repr

/-- A set closed at QUORUM for a watch group (R175). -/
structure GroupSet where
  group : Nat
  tag : Ns
  short : Bool
  /-- DT of the close. -/
  closed : Ns
  members : List Member
  deriving DecidableEq, Repr

/-- The part of an output set that one slice closed (R176, R505). -/
structure OutPart where
  set : Nat
  region : Nat
  tag : Ns
  members : List Member
  frames : List Delivery
  deriving DecidableEq, Repr

/-- An output of an analytics index (R244, R253, R273) as a SOURCE 7 channel takes it: its values by POSITION, INVALID
or UNCONVERGED, and TEST. -/
structure AnaOut where
  index : Nat
  tag : Ns
  vals : List Word
  invalid : Bool
  test : Bool
  deriving DecidableEq, Repr

/-- What is stored in the phasor ring (R185, R186). -/
inductive HistRec where
  | entry (e : RowEntry) (rowSeq : Nat)
  | commit (f : FinalRow)
  deriving DecidableEq, Repr

/-- One region's slice (R163, R165, R175, R185). -/
structure SliceSt where
  /-- Values delivered and not yet entered, oldest first. -/
  queue : List SliceIn
  /-- Open and late-table rows, oldest tag first. -/
  rows : List Row
  /-- ROW_SEQ of the next row (R186). -/
  nextSeq : Nat
  /-- Tag of the first row opened since the last start or step (Table ALN-6). -/
  first : Option Ns
  /-- Tag of the next row to open; none before beats run. -/
  next : Option Ns
  /-- Rows at FINAL whose commit record awaits a HISTORY entry. -/
  finals : List FinalRow
  /-- The region's part of the phasor ring, oldest first, and its write offset. -/
  hist : List (Nat × HistRec)
  histOff : Nat
  /-- A delivery is refused for want of slot memory (Table ALN-6). -/
  stall : Bool
  /-- Peak pages and rows (Table ALN-9). -/
  peakPages : Nat
  peakRows : Nat
  deriving DecidableEq, Repr

/-- The alignment engine and what it has closed (R163, R182). -/
structure AlignSt where
  slices : List SliceSt
  /-- Closed parts of output sets not yet overtaken (R368). -/
  outParts : List OutPart
  /-- Sampled-value ring: stream, position tag, entry (R182). -/
  svRing : List (Nat × Ns × Delivery)
  /-- Samples of the local waveform channels in the sampled-value ring (R335, R349): channel, sample instant, value, and
  whether it reads as valid (Table ARC-3), newest last. -/
  localRing : List (Nat × Ns × Word × Bool)
  /-- Released outputs of the analytics indices, newest first (R368). -/
  ana : List AnaOut
  deriving DecidableEq, Repr
/-! Swage (chapter 08). -/

/-- An event of the comparators, the oscillation functions, islanding or a detector (Tables WAV-13, OSC-10, ISL-9):
family 0, 1, 2 as Table LOG-3. -/
structure Event where
  family : Nat
  tag : Ns
  index : Nat
  kind : Nat
  edge : Bool
  cause : Nat
  grade : Nat
  topo : Bool
  coh : Bool
  /-- FAST, or NOMINAL_GD. -/
  fast : Bool
  replay : Bool
  value : Word
  deriving DecidableEq, Repr

/-- Lane states (R199). -/
inductive LaneState where
  | nosync | run | stopped
  deriving DecidableEq, Repr

/-- One waveform lane (R199, R200). -/
structure LaneSt where
  st : LaneState
  /-- Unwrapped number of the last frame accepted (R198); none before the first after a release. -/
  last : Option Nat
  /-- Consecutive frames with a format error, and with a sequence error (Table WAV-6). -/
  fmtRun : Nat
  seqRun : Nat
  /-- GAP is to be set in the next record (R200, R207, R208). -/
  gap : Bool
  /-- SYNC_FIRST is to be set in the next record. -/
  first : Bool
  /-- LTS of the last frame accepted. -/
  at_ : Ns
  /-- Number of the last record that the read side has parsed. -/
  rdSeq : Option Nat
  /-- The ring of the 64 latest edges: their frame numbers and DT (R198). -/
  edges : List (Nat × Ns)
  /-- Number of the first frame whose edge follows a DT step, until its record or a later one is parsed (R219). -/
  stepFrom : Option Nat
  deriving DecidableEq, Repr

/-- A stored queue word (Table WAV-8): its data bytes, the byte offset of the first record header, the valid bytes and the
SECDED code. -/
structure QWord where
  bytes : Bytes
  firstRec : Nat
  valid : Nat
  ecc : BitVec 10
  deriving DecidableEq, Repr

/-- A lane group's queue (R201-R208). -/
structure QueueSt where
  /-- Words of the bank being read, oldest first. -/
  reading : List QWord
  /-- Words of the bank being written. -/
  writing : List QWord
  /-- Bytes of the partial word, and where its first record header begins. -/
  part : Bytes
  partFirst : Nat
  /-- Number of the bank being written, 0 or 1. -/
  bank : Nat
  /-- LTS of the first write into the bank. -/
  since : Option Ns
  /-- WV_HOLD_Nn asserted by the watermarks (R205). -/
  hold : Bool
  /-- HOLD_SEEN (W1C; R205). -/
  holdSeen : Bool
  holdNow : Bool
  /-- Bytes read and not yet parsed into a record; parsing resumes at the next FIRST_REC. -/
  parse : Bytes
  lost : Bool
  /-- An uncorrectable word was reported in the present beat (R27). -/
  faultNow : Bool
  deriving DecidableEq, Repr

/-- A sample of a waveform channel: effective instant, code, valid, TEST, supplied by the partner, and the confRev of its ASDU
(R193, R210, R211; 0 for a local channel). -/
structure Sample where
  at_ : Ns
  value : Int
  ok : Bool
  test : Bool
  mirror : Bool
  rev : Nat
  deriving DecidableEq, Repr

/-- One channel of the filter chain: 0-63 local, 64 + 8 x SID + POSITION sampled value (R193). -/
structure ChainSt where
  /-- Samples the chain holds, oldest first. -/
  samples : List Sample
  /-- Samples of a sampled-value channel that wait for earlier ones, by tag (R210). -/
  held : List Sample
  /-- Restart point (R219): none while it waits for the first sample. -/
  restart : Option Ns
  /-- Restarts of the last 40 s: the last good sample before, 0 where there is none, and the restart point. -/
  breaks : List (Ns × Ns)
  /-- The first sample after LOADING or after the event has yet to come. -/
  waiting : Bool
  /-- Instant of the next sample expected (R210). -/
  next : Option Ns
  confRev : Option Nat
  deriving DecidableEq, Repr

/-- One estimator (R214-R224). -/
structure EstSt where
  /-- Tag of the next estimate, and of the next fast estimate. -/
  next : Option Ns
  nextFast : Option Ns
  prev : Option Estimate
  latest : Option Estimate
  /-- Runs toward pickup and picked-up kinds of the comparators 0-4. -/
  runs : List Nat
  picked : BitVec 5
  /-- Tag since which frequency has been valid without a break (Table MOD-5 row 2). -/
  freqSince : Option Ns
  deriving DecidableEq, Repr

/-- A running replay (R226, R452). -/
structure ReplaySt where
  h0 : Ns
  lengthMs : Nat
  p0 : Ns
  mask : Nat
  lane0 : List (Nat × Word)
  lane1 : List (Nat × Word)
  /-- Play instant number of each lane's next frame, and the replay queue's frames. -/
  n0 : Nat
  n1 : Nat
  /-- History time up to which closed sets have been fed to analytics and logic (R226, R259). -/
  upTo : Ns
  deriving DecidableEq, Repr

/-- An outward lane frame that has been sent: lane, SEQ, codes (R228). -/
structure LaneOut where
  lane : Nat
  seq : Nat
  codes : List Int
  /-- LTS at which its SYNC starts, and its bytes, header to CRC-8 (R197). -/
  start : Ns
  bytes : Bytes
  deriving DecidableEq, Repr

/-- Swage (R193, R198, R214). -/
structure SwageSt where
  lanes : List LaneSt
  queues : List QueueSt
  chains : List (Nat × ChainSt)
  ests : List (Nat × EstSt)
  /-- LTS since which WV_SYNC_N is low; none while it is high (R198). -/
  sync : Option Ns
  /-- The last time WV_SYNC_N was low before: LTS at which it fell and rose. -/
  syncWas : Option (Ns × Ns)
  /-- LTS of WV_CLK cycle 0 (R198); none before the first release. -/
  clk0 : Option Ns
  /-- WV_CLK counted as lost (R199). -/
  clkLost : Bool
  replay : Option ReplaySt
  /-- The frame on each outward lane, latest first. -/
  out : List LaneOut
  /-- Changes of SCALE of SOURCE 6 entries: entry, boundary of the change, value before it (R218). -/
  scales : List (Nat × Ns × Word)
  /-- The threshold event record (Table WAV-13) raised last, as it reaches capture, logic and the analytics fabric (R225). -/
  event : Bytes
  deriving DecidableEq, Repr

/-! Oscillation (chapter 09). -/

/-- A mode record (Table OSC-8). -/
structure ModeRec where
  index : Nat
  unconverged : Bool
  invalid : Bool
  replay : Bool
  picked : BitVec 4
  freq : Word
  damping : Word
  amp : Word
  conf : Nat
  peak : Nat
  tag : Ns
  tsw : BitVec 32
  deriving DecidableEq, Repr

/-- A location result (Table OSC-13). -/
structure LocRec where
  set : Nat
  tag : Ns
  modeIndex : Nat
  fMode : Word
  buses : List Nat
  shares : List Nat
  total : Word
  used : Nat
  partialFlag : Bool
  noneFound : Bool
  replay : Bool
  released : Ns
  tsw : BitVec 32
  /-- DEF rate of each listed branch. -/
  rates : List Word
  deriving DecidableEq, Repr

/-- A record of the oscillation log (R242, R253). -/
inductive OscLog where
  | mode (r : ModeRec)
  | loc (r : LocRec)
  deriving DecidableEq, Repr

/-- One band of one signal or group (R235-R241): key 4 x signal + band, or 0x8000 + 16 x group + 4 x band. -/
structure BandSt where
  /-- Update instant last processed (R240). -/
  done : Option Ns
  /-- Tag of the newest input taken; inputs up to it are behind (R240). -/
  upTo : Ns
  /-- Tag of the first input sample processed since the latest restart (R241); none while there is none. -/
  first : Option Ns
  /-- Run of missing input samples at the newest end. -/
  gap : Nat
  /-- The inputs since the restart that the band's window still needs, gap fills among them, oldest first: tags and values in
  units of 2^-60 (R236-R238, R241). -/
  inputs : List (Ns × List Int)
  deriving DecidableEq, Repr

/-- Alarm state of one mode (R246-R248). -/
structure ModeAlarm where
  picked : BitVec 4
  runs : List Nat
  drops : List Nat
  /-- FREQ of the previous valid update. -/
  freq : Option Word
  /-- Frequency and amplitude of the mode in a group's slot at its previous update; none: the slot is empty (R239). -/
  occ : Option (Word × Word)
  deriving DecidableEq, Repr

/-- One location set (R251-R253): mode index, frequency and TAG of the running trigger and the count of boundaries at its
start; the pending trigger, and the count of boundaries after which it may start. -/
structure LocSt where
  running : Option (Nat × Word × Ns)
  startedAt : Nat
  pending : Option (Nat × Word × Ns)
  pendAt : Nat
  /-- An item of the run has been abandoned (R21). -/
  spoilt : Bool
  deriving DecidableEq, Repr

/-- Oscillation detection (R235, R240, R251). -/
structure OscSt where
  bands : List (Nat × BandSt)
  latest : List (Nat × ModeRec)
  alarms : List (Nat × ModeAlarm)
  locs : List (Nat × LocSt)
  locLatest : List (Nat × LocRec)
  /-- The oscillation log of 65,536 records, newest last. -/
  log : List OscLog
  /-- Set rings: closed sets copied per group, oldest first (R235). -/
  rings : List (Nat × List GroupSet)
  /-- Regions in which OSC stood shed at the last boundary (Table OSC-7). -/
  shed : List Nat
  /-- The parameter sets in force at each band's latest update instant (R240). -/
  params : List (Nat × List Nat)
  deriving DecidableEq, Repr

/-! Islanding (chapter 10). -/

/-- A coherency pair (R263, R264). -/
structure PairCoh where
  /-- Samples of the last 2 s: tag, angle difference, coherent. -/
  base : List (Ns × Word × Bool)
  last : Option Ns
  coherent : Bool
  converged : Bool
  /-- Tag since which it has been DIVERGENT on angle alone. -/
  angleSince : Option Ns
  deriving DecidableEq, Repr

/-- An island record (Table ISL-7). -/
structure IslRec where
  tag : Ns
  id : Nat
  declared : Bool
  grade : Nat
  topo : Bool
  coh : Bool
  heldBoundary : Bool
  replay : Bool
  stopped : Bool
  buses : List Nat
  measured : Nat
  boundary : List Nat
  fMean : Word
  fDiff : Word
  angDiff : Word
  declaredAt : Ns
  tsw : BitVec 32
  deriving DecidableEq, Repr

/-- A fast-path detector (R269-R271). -/
structure DetSt where
  run : Nat
  picked : Bool
  /-- Previous values of CH at the last expected close: value words and usable. -/
  prev : Option (Word × Word × Bool)
  /-- Previous value of FREQ_CH. -/
  prevF : Option (Word × Bool)
  /-- Tag since which CH has been usable at every expected tag (ROCOF gate). -/
  since : Option Ns
  /-- Latest output: tag, position 0 and 1. -/
  out : Option (Ns × Word × Word)
  lastTag : Ns
  gated : Bool
  deriving DecidableEq, Repr

/-- A coherency key (R266): its confirmation count, the tag of the count's last change, the tag it was last a candidate at,
whether its basis holds, and its cluster then. -/
structure IslKey where
  count : Nat
  changed : Ns
  last : Ns
  basis : Bool
  buses : List Nat
  deriving DecidableEq, Repr

/-- What the block keeps of the graph, pairs and islands: the state of R261-R268 and its copy (R275). -/
structure IslCore where
  /-- Branch states: open, tag of the set that gave it. -/
  branches : List (Nat × Bool × Ns)
  pairs : List (Nat × PairCoh)
  keys : List (Nat × IslKey)
  slots : List (Nat × IslRec)
  deriving DecidableEq, Repr

/-- Islanding (R257, R258, R275). -/
structure IslSt where
  core : IslCore
  copy : IslCore
  /-- Closed sets handed to the block and waiting (R258), and those of recent tags that evaluations have covered (R263). -/
  waiting : List GroupSet
  recent : List GroupSet
  /-- The block in use and its evaluation cell; none once islanding has stopped. -/
  block : Option Nat
  cell : Nat
  onAlt : Bool
  /-- The islanding log, newest last (R275). -/
  log : List (Event × IslRec)
  /-- Topology components and clusters of the latest evaluation, and its tag (summary, R273). -/
  comps : Nat
  clusters : Nat
  evalTag : Ns
  /-- Tag of the first coherency sample since the last restart (Table MOD-5 row 6). -/
  cohSince : Option Ns
  dets : List (Nat × DetSt)
  /-- A move or loss falls due at the next boundary (R276). -/
  movePending : Bool
  deriving DecidableEq, Repr

/-! Dispatch (chapter 11). -/

/-- What a work item refers to (CONTEXT of Table SCH-6). -/
inductive ItemCtx where
  | plain
  | group (s : GroupSet)
  | output (set : Nat) (tag : Ns) (parts : List OutPart)
  /-- An islanding evaluation of the first `sets` waiting sets (R258). -/
  | evaluation (sets : Nat)
  deriving DecidableEq, Repr

/-- A work item (Table SCH-6). -/
structure Item where
  template : Nat
  cls : Nat
  prio : Nat
  origin : Nat
  region : Nat
  reissued : Bool
  firstCell : Nat
  arg : Nat
  due : Nat
  posted : Ns
  seq : Nat
  row : Nat
  ctx : ItemCtx
  /-- A refusal for budget has been counted for it (WAITED, Table SCH-10). -/
  waited : Bool
  /-- It has fallen due and found no room (delay late, Table SCH-9). -/
  late : Bool
  /-- Its first run had written its outputs when it was aborted: the second writes the same ones over (R20). -/
  written : Bool
  deriving DecidableEq, Repr

/-- Where a stalled post comes from (Table SCH-9): a row entry with its OP (Table SCH-2), or a close. -/
inductive PostSrc where
  | row (op : Nat) | quorum | deadline
  deriving DecidableEq, Repr

/-- A region's sequencer, lists and budgets (R281-R293). -/
structure RegSt where
  /-- The ready lists: items in order of placing; the level stands in the item (R287). -/
  ready : List Item
  /-- The delay list, by due tick (R288). -/
  delay : List Item
  /-- Posts stalled for want of room, in order, with what posted them (R299). -/
  stalled : List (PostSrc × Item)
  /-- Remaining budget of each class 0-31 in the four resources (R291, R292). -/
  budgets : List Cost
  /-- Remaining budget of the spare margin (R303). -/
  spare : Cost
  /-- Shed level S and the shed classes (R308, R309). -/
  shedLevel : Nat
  shed : List Nat
  /-- Posting sequence (Table SCH-6). -/
  seq : Nat
  /-- Row stepped last. -/
  row : Nat
  /-- LTS of the boundary that began the row. -/
  rowAt : Ns
  deriving DecidableEq, Repr

/-- Service state of a cell (Table SCH-11). -/
inductive CellSvc where
  | inService | quarantined | lost
  deriving DecidableEq, Repr

/-- One cell CL0-CL63 (R18, R20, R22). -/
structure CellSt where
  svc : CellSvc
  /-- The item it runs, and the LTS it was dispatched at. -/
  run : Option Item
  since : Ns
  /-- The outputs of the running item have been written (by the row of its kernel). -/
  worked : Bool
  /-- LTS of its latest faults, newest first (R22). -/
  faults : List Ns
  /-- A fault was reported in the present beat (R27, R305). -/
  faultNow : Bool
  /-- To be quarantined at the next boundary (R22). -/
  quarNext : Bool
  /-- Reservation: 0xFF none, 0-31 class, 0x80 islanding (R284, R306). -/
  resv : Nat
  deriving DecidableEq, Repr

/-- Bellows and Damper (R278, R310). -/
structure SchSt where
  regs : List RegSt
  cells : List CellSt
  /-- Blocks that count as having lost all four cells (Table ARC-3). -/
  lostBlocks : List Nat
  /-- Shed level and inhibit last requested (R308). -/
  shedReq : Nat
  inhibit : Bool
  /-- The state digest latched at the last boundary (Table SCH-11) and the management shadow. -/
  digest : Nat
  shadow : Nat
  disagree : Nat
  /-- The trace ring, newest last (Table SCH-10). -/
  trace : List Nat
  /-- Beat number within the DT second of the last boundary, and its DT; none until LOADING has installed an image. -/
  beat : Option (Nat × Ns)
  /-- Beats since beats started: the count of boundaries. -/
  beats : Nat
  /-- Severities of errors of the present beat already acted on (R26): 0 none, 1 non-critical, 2 critical. -/
  worst : Nat
  /-- HALT has been entered since the start: sequencers, slices and dispatchers stand still until T1 or T21 (R506). -/
  halted : Bool
  /-- The slot tables of R302, built at load: the owner of each of the 256 slots of a beat on each DRAM channel, and of each of the
  1,024 on the interconnect: 0-3 RG0-RG3, 4 the NOC port. -/
  dramSlots : List (List Nat)
  nocSlots : List Nat
  deriving DecidableEq, Repr

/-! Logic (chapter 12). -/

/-- A variable's value and quality byte (R315). -/
structure VarVal where
  v : Word
  q : BitVec 8
  deriving DecidableEq, Repr

/-- An instance's stored state (Table LOG-5, R332). -/
structure InstSt where
  prev : Bool
  q : Bool
  running : Bool
  /-- ET in ns, or CV. -/
  et : Nat
  deriving DecidableEq, Repr

/-- A trip series (R328). -/
structure Trip where
  out : Nat
  tag : Ns
  left : Nat
  /-- LTS at which RETRY_MS passes. -/
  due : Ns
  deriving DecidableEq, Repr

/-- One discrete output (R329, R331). -/
structure DoSt where
  /-- Level applied: none high impedance, some true active. -/
  level : Option Bool
  /-- Drive: open drain, active high. -/
  openDrain : Bool
  activeHigh : Bool
  /-- DT of the last applied change. -/
  at_ : Ns
  /-- Changes waiting in crossing 11: due DT, set tag, value. -/
  pend : List (Ns × Ns × Bool)
  /-- A change deferred to the end of PULSE_MIN: instant, tag, value. -/
  deferred : Option (Ns × Ns × Bool)
  /-- A refused entry is to be sent again at the next scan completion. -/
  resend : Option (Ns × Bool)
  /-- The forced level in effect. -/
  forced : Option Bool
  deriving DecidableEq, Repr

/-- The snapshot a scan reads (R317), taken at its dispatch. -/
structure Snapshot where
  task : Nat
  tag : Ns
  /-- The forces in effect at the dispatch: a change of the forces alters no running scan. -/
  forces : List (Nat × Word)
  /-- The INPUT and EVENT variables of the task. -/
  vals : List (Nat × VarVal)
  deriving DecidableEq, Repr

/-- Striker (R315, R317, R332). -/
structure LogicSt where
  /-- INTERNAL and OUTPUT variables as the last completed scan left them, by variable. -/
  vars : List (Nat × VarVal)
  /-- Constants and unwritten INTERNAL values changed on line. -/
  insts : List (Nat × InstSt)
  /-- Events not yet taken by a scan, in order of arrival, with the EVENT variable each is for (R316). -/
  events : List (Nat × Event)
  /-- Values of the EVENT variables. -/
  evVals : List (Nat × Bool)
  /-- Set tag of each task's last completed scan, and the CRC of its instance state then. -/
  lastTag : List (Nat × Ns)
  /-- What each output record last wrote, by record: value and quality (R327, R328). -/
  outVals : List (Nat × VarVal)
  /-- Instances that have had their first scan. -/
  scanned : List Nat
  /-- Forces in effect: OBJECT (bits 31:16 kind, 15:0 index), value. -/
  forces : List (Nat × Word)
  /-- Force requests waiting for the boundary of their target: OBJECT and value, none to release. -/
  forceReq : List (Nat × Option Word)
  snaps : List Snapshot
  trips : List Trip
  dos : List DoSt
  /-- The retention store (R332): kept by a restart. -/
  retention : List InstMirror
  /-- Retained state taken from the partner in preference (R332, R404). -/
  partnerRet : List InstMirror
  /-- Accepted logic change sets waiting for their task's scan boundary: task, order of arrival, entries. -/
  sets : List (Nat × Nat × List ChangeEntry)
  /-- Instances start as "new" (pin or power-on reset, T18, T20) rather than from the store. -/
  fresh : Bool
  /-- Outputs are written only from scans whose set tag lies after this (R400). -/
  ownAfter : List (Nat × Ns)
  deriving DecidableEq, Repr

/-! Capture (chapter 13). -/

/-- A trigger on its way to the engine or in a list (Tables CAP-4, CAP-7). -/
structure Trig where
  dt : Ns
  sub : Nat
  /-- DT at which it reached the engine (R339). -/
  reach : Ns
  kind : Nat
  src : Nat
  mask : Nat
  drive : Bool
  tsw : BitVec 32
  queued : Bool
  deriving DecidableEq, Repr

/-- States of a capture class (R342). -/
inductive CapState where
  | off | armed | collecting | closing
  deriving DecidableEq, Repr

/-- One capture class (R342). -/
structure CapCls where
  st : CapState
  /-- DT of the boundary or taking at which it last became ARMED. -/
  armedAt : Ns
  /-- SEQ of its open record. -/
  rec_ : Nat
  /-- Boundaries left in CLOSING. -/
  left : Nat
  /-- Triggers held for the next record (R345). -/
  held : List Trig
  /-- Trigger time of the first trigger since it last became ARMED, and whether the auto trigger has come (R348). -/
  hit : Option Ns
  autoDone : Bool
  deriving DecidableEq, Repr

/-- A copied row: tag, words, status bytes (R356). -/
structure CapRow where
  tag : Ns
  vals : List Word
  status : List (BitVec 8)
  deriving DecidableEq, Repr

/-- A segment (R356). -/
structure Segment where
  minmax : Bool
  div : Nat
  rowLen : Nat
  rows : List CapRow
  deriving DecidableEq, Repr

/-- Index states of a record (Table CAP-9). -/
inductive RecState where
  | collecting | closing | draining | complete | overwritten
  deriving DecidableEq, Repr

/-- A disturbance record (Tables CAP-6 to CAP-9). -/
structure CapRec where
  seq : Nat
  cls : Nat
  st : RecState
  trig : Trig
  list : List Trig
  overflow : Bool
  preShort : Bool
  truncated : Bool
  aborted : Bool
  replay : Bool
  /-- Tag of the first sample; tag of the last, written when CLOSING begins. -/
  spanStart : Ns
  spanEnd : Ns
  /-- End of the full-rate part and of the span, exclusive (R343). -/
  postEnd : Ns
  stop : Ns
  preUs : Nat
  /-- Divisor code in force, and the code it started at (R352). -/
  div : Nat
  div0 : Nat
  segs : List Segment
  /-- The next sample to copy: its tag, its number from the span's start, and the bytes of its row already moved. -/
  nextTag : Ns
  idx : Nat
  moved : Nat
  /-- Bytes written of the segments. -/
  dataLen : Nat
  lostRows : Nat
  /-- Tags of the lost rows (R354). -/
  lost : List Ns
  offset : Nat
  len : Nat
  completedAt : Ns
  /-- A range limit has been counted for it (R353). -/
  limited : Bool
  deriving DecidableEq, Repr

/-- The capture engine (R339, R355). -/
structure CapSt where
  classes : List CapCls
  recs : List CapRec
  /-- SEQ of the newest record (R355). -/
  seq : Nat
  /-- Triggers that have reached the engine, in order (R339). -/
  trigs : List Trig
  /-- XTRIG_N driven low since, until (DT). -/
  xtrig : Option (Ns × Ns)
  /-- Trigger stamps in Hearth's store and at the engine: per input at most 16 (R160). -/
  stamps : List TrigStamp
  /-- Level and latest edge of each input, for glitches and lost edges. -/
  levels : List (Nat × Bool × Ns)
  /-- The oldest tag below which the rings hold nothing since the last start or step (R344). -/
  ringFrom : Ns
  deriving DecidableEq, Repr

/-! Publishing (chapter 14). -/

/-- One output stream (R364, R371, R376). -/
structure PubStream where
  /-- Transmission on, under SEND_MODE 0 (R376). -/
  on : Bool
  /-- Peers that are on, under SEND_MODE 1. -/
  peers : List Nat
  /-- Tag of the latest launched set, and of the latest skipped. -/
  taken : Option Ns
  /-- Members of a GOOSE stream as last sent or changed: value and quality byte (R371, R372). -/
  members : List VarVal
  stNum : Nat
  sqNum : Nat
  /-- DT of the last change. -/
  t : Ns
  /-- A change awaits assembly; the launch time asked for. -/
  changed : Bool
  launch : Ns
  /-- LTS of the next retransmission and the interval after it, ms. -/
  nextAt : Option Ns
  interval : Nat
  /-- Every enabled stream must publish one tag in TAKEOVER (T10). -/
  published : Bool
  deriving DecidableEq, Repr

/-- The publisher (R129, R376). -/
structure PubSt where
  streams : List PubStream
  /-- Command frames routed to the command path (R108). -/
  cmds : List SubReq
  /-- Requests of the last second: peer, stream, code, LTS (Table INT-13). -/
  recent : List (Nat × Nat × Nat × Ns)
  /-- On and off changes due at the next boundary: stream, peer, on. -/
  changes : List (Nat × Nat × Bool)
  deriving DecidableEq, Repr

/-! The pair (chapter 15). -/

/-- States of the Tongs link (R386). -/
inductive LinkState where
  | down | handshake | up
  deriving DecidableEq, Repr

/-- Verdict of a role path (R395). -/
inductive PathState where
  | unknown | present | absent
  deriving DecidableEq, Repr

/-- A sequenced frame sent and not acknowledged (R387). -/
structure WSent where
  f : WoideFrame
  at_ : Ns
  tries : Nat
  deriving DecidableEq, Repr

/-- The partner's last DIGEST (Table PAI-4). -/
structure DigestRec where
  beatDt : Ns
  mode : Nat
  role : Nat
  unfit : Bool
  mirrorValid : Bool
  mapHash : BitVec 64
  ovCrc : BitVec 32
  claims : List Claim
  tasks : List TaskEntry
  deriving DecidableEq, Repr

/-- An accepted change set due at a boundary (R84, R394). -/
structure SetDue where
  /-- DT of the boundary at which it applies; 0: the next beat boundary that fits. -/
  at_ : Ns
  entries : List ChangeEntry
  /-- The set came from the partner. -/
  fromPartner : Bool
  /-- It waits for a boundary with no scan of this task running or waiting (R320). -/
  task : Option Nat
  /-- A CHANGE frame carries it to the partner and has not been acknowledged (R394). -/
  carried : Bool
  /-- Its place in the order of acceptance (Table IMG-11). -/
  seq : Nat
  deriving DecidableEq, Repr

/-- The pair function (R382, R386, R395). -/
structure PairSt where
  role : Role
  /-- PAIR_POS sampled at reset release: true is position B (R382). -/
  posB : Bool
  link : LinkState
  /-- The device's own SESSION and the partner's adopted one. -/
  session : BitVec 32
  partner : Option (BitVec 32)
  partnerMac : BitVec 48
  partnerPosB : Option Bool
  nctr : Nat
  /-- SEQ of the last sequenced frame built; unacknowledged frames. -/
  txSeq : Nat
  sent : List WSent
  /-- Sequenced bodies waiting for the window (R387). -/
  backlog : List WoideBody
  /-- Highest SEQ received in order, frames held beyond it. -/
  rxSeq : Nat
  held : List WoideFrame
  /-- LTS at which an ACK falls due; next HELLO. -/
  ackDue : Option Ns
  helloDue : Option Ns
  /-- Consecutive beats without a valid frame. -/
  quiet : Nat
  heard : Bool
  /-- The three paths (R395): verdicts, and the token's missing pulses and accepted code at the last boundary. -/
  tokenPath : PathState
  linkPath : PathState
  obsPath : PathState
  missing : Nat
  token : Option Nat
  /-- A pulse was judged in the present beat. -/
  tokenSeen : Bool
  noPath : Nat
  digest : Option DigestRec
  digestFresh : Bool
  /-- The mirror copy: delta subtype, key and body; valid once the snapshot is complete. -/
  mirror : List (Nat × Nat × Ns × Delta)
  mirrorValid : Bool
  /-- ALARM streams that take a sqNum at the next boundary (R391). -/
  adopt : List (Nat × Nat)
  /-- Parts that have arrived of items in several frames (R389). -/
  parts : List WoideBody
  /-- The partner's capture index: the 64-byte entry of each SEQ (Table CAP-9). -/
  partnerIndex : List (Nat × Bytes)
  /-- Boundary named by a RELEASE or an accepted HANDOVER received; by one sent. -/
  takeAt : Option Ns
  leaveAt : Option Ns
  /-- A handover this device asked for: E and whether ACCEPT has come. -/
  handover : Option (Ns × Bool)
  /-- Boundary of RELEASE named, for LAST_GASP (R463). -/
  releasedAt : Ns
  ovDiffer : Nat
  /-- DT at which the link last left UP (R401). -/
  downAt : Ns
  /-- MAP_HASH as the partner's last HELLO or DIGEST gives it (R389). -/
  partnerHash : Option (BitVec 64)
  /-- Bytes of delta frames built since the last boundary, not yet charged to MIRROR (Table SCH-1). -/
  owed : Nat
  /-- This device has been seen publishing beside its partner (R402). -/
  split : Bool
  /-- Highest ACK received from the partner (R387). -/
  peerAck : Nat
  /-- Latest tag of a frame of a PARTNER_WATCH stream, and the DT at which this device took its present role (R402). -/
  seenTag : Ns
  roleAt : Ns
  /-- The boundary of `takeAt` came with a HANDOVER (T9's level). -/
  takeHand : Bool
  deriving DecidableEq, Repr

/-! Keys and tamper (chapter 16). -/

/-- One half of a slot (R411). -/
structure Half where
  key : BitVec 256
  keyId : BitVec 32
  kcv : BitVec 24
  gen : BitVec 16
  engines : BitVec 5
  life : Nat
  uses : Nat
  /-- Written since the last tamper (R431). -/
  fresh : Bool
  deriving DecidableEq, Repr

/-- A slot: its halves, its commit word and PENDING (Table KEY-3). -/
structure Slot where
  h0 : Option Half
  h1 : Option Half
  commit : Bool
  pending : Bool
  deriving DecidableEq, Repr

/-- A field of the OTP that is closed by a completion bit (R408, R423). -/
inductive OtpField where
  | blank | incomplete | complete (v : Bytes)
  deriving DecidableEq, Repr

/-- The OTP (R81, R408, R423). -/
structure OtpSt where
  root0 : OtpField
  root1 : OtpField
  owner0 : OtpField
  owner1 : OtpField
  /-- Burned epoch bits: the epoch floor (R81). -/
  epoch : Nat
  /-- An owner field is burning: which, with what (R423). -/
  burning : Option (Bool × Bytes)
  deriving DecidableEq, Repr

/-- A tamper latch entry (Table KEY-9). -/
structure TamperLatch where
  dt : Ns
  source : Nat
  deriving DecidableEq, Repr

/-- The vault and the battery domain (R406, R411). -/
structure VaultSt where
  /-- Slots 8 and 16-1023 that are not EMPTY (R409). -/
  slots : List (Nat × Slot)
  /-- Slot 1: the image content key, held in LOADING only. -/
  content : Option (BitVec 256)
  /-- The battery root (R406); none when the battery domain is empty. -/
  root : Option (BitVec 256)
  /-- The battery domain passes its integrity check (R429, R480). -/
  intact : Bool
  tampered : Bool
  /-- The partner's enrolled identity public key (R424). -/
  partner : Option Bytes
  /-- Latch entries of tampers in DORMANT, at most 8. -/
  latches : List TamperLatch
  /-- Sources latched by one zeroise, with their count. -/
  zeroises : Nat
  /-- Tamper configuration (Table KEY-8), 16 bits; reset 0xF000. -/
  cfg : BitVec 16
  /-- The glitch detectors are armed (R425). -/
  armed : Bool
  /-- The real-time clock less LTS, ns (R41): DT at reset release is the real-time clock. -/
  rtc : Ns
  deriving DecidableEq, Repr

/-! EMP (chapter 17). -/

/-- A reply (R435): port, source of the request, flags, STATUS, header fields and payload. -/
structure Reply where
  svp : Bool
  dst : Nat
  opcode : Nat
  session : BitVec 32
  seq : BitVec 32
  service : Bool
  cached : Bool
  result : Nat
  status : BitVec 16
  attnHead : Nat
  object : BitVec 32
  offset : BitVec 32
  payload : Bytes
  deriving DecidableEq, Repr

/-- A reply kept in the cache with the CRC of its request (R438). -/
structure CacheEnt where
  seq : BitVec 32
  crc : BitVec 32
  reply : Option Reply
  deriving DecidableEq, Repr

/-- A session (R436, R438). -/
structure Sess where
  svp : Bool
  id : BitVec 32
  high : BitVec 32
  /-- Executed SEQ values within the window of 64. -/
  done : List (BitVec 32)
  /-- The 16 most recent, newest first. -/
  cache : List CacheEnt
  /-- Real-time clock at the last request: sessions outlive a restart (Table MOD-4). -/
  at_ : Ns
  deriving DecidableEq, Repr

/-- A request whose effect lies at the next beat boundary (R27, R437). -/
inductive BReqKind where
  | unforce (obj : Nat) | force (obj : Nat) (v : Word)
  | replayStart (r : ReplaySt) | replayStop | flush (g : Nat) | releaseCell (c : Nat) (ok : Bool)
  | holdover (on : Bool) | shed (lvl : Nat) (inhibit : Bool) | trigger (mask : Nat)
  | locate (set : Nat) (f : Word) | handover | rekey | forceDo (d : Nat) (v : Option Bool)
  | changeSet (b : Ns) | ownerEnrol
  deriving DecidableEq, Repr

/-- A boundary request and the reply it will get (R27, R437). -/
structure BReq where
  kind : BReqKind
  opcode : Nat
  req : EmpReq
  service : Bool
  /-- The reply has already left (ACCEPTED). -/
  answered : Bool
  deriving DecidableEq, Repr

/-- Stage states (Table EMP-10). -/
inductive StageState where
  | idle | receiving | checking | staged | failed
  deriving DecidableEq, Repr

/-- Staging (R453, R454). -/
structure StageSt where
  st : StageState
  slot : Nat
  code : Nat
  detail : Nat
  /-- The owner of the staging: port and session. -/
  owner : Option (Bool × BitVec 32)
  /-- The header received by STAGE_BEGIN, the header sector held in RAM, pieces received (by number). -/
  header : Bytes
  sector : List (Nat × Bytes)
  got : List Nat
  received : Nat
  /-- LTS of the last staging request. -/
  at_ : Ns
  deriving DecidableEq, Repr

/-- EMP (R433, R437, R449). -/
structure EmpSt where
  sessions : List Sess
  /-- Replies made by the latest command. -/
  replies : List Reply
  breqs : List BReq
  stage : StageSt
  /-- A restart is due once its reply has left, with the authority that asked (R44). -/
  restart : Option Bool
  /-- Accepted change sets due at boundaries. -/
  sets : List SetDue
  /-- Number of the next change set accepted, which orders the sets (Table IMG-11); reset 0. -/
  setSeq : Nat
  /-- Bytes of DRAM objects read since the last boundary, not yet charged to MGMT (Table SCH-1). -/
  owed : Nat
  deriving DecidableEq, Repr

/-! The test access port (R498, R499). -/

/-- The TAP (R498, R499). -/
structure TapSt where
  /-- Instruction register, 8 bits; IDCODE after Test-Logic-Reset. -/
  ir : BitVec 8
  /-- The boundary chain's update stage, 279 cells. -/
  cells : BitVec 279
  deriving DecidableEq, Repr

/-- Pins and straps read from outside (R382, R150, R488, R463). -/
structure ExtSt where
  /-- PAIR_POS strap high: position B (R382). -/
  posB : Bool
  /-- TIME_REF_IN present (R150). -/
  timeRef : Bool
  /-- DRAM found by training in GB, channels 0 and 1 (R488). -/
  dram0 : Nat
  dram1 : Nat
  /-- POWER_FAIL_N low, accepted (R463). -/
  powerFail : Bool
  deriving DecidableEq, Repr

/-- The state of the block (R1). -/
structure State where
  boot : BootSt
  /-- The image in force: records by table and index, OV changes applied (R1, R83). -/
  img : List ((Tbl × Nat) × Nat)
  /-- The octal flash (R61). -/
  flash : Memory
  ctrs : List (CtrKey × CtrVal)
  /-- The counters as they stood at the last beat boundary, which a read returns (R13, R446). -/
  ctrsAt : List (CtrKey × Nat)
  attn : AttnLog
  partnerLog : AttnLog
  bbx : BbxSt
  sens : SensSt
  panel : PanelSt
  ports : List PortSt
  cages : List CageSt
  tcp : List (Nat × TcpConn)
  streams : List (Nat × StreamSt)
  time : TimeSt
  align : AlignSt
  swage : SwageSt
  osc : OscSt
  isl : IslSt
  sch : SchSt
  logic : LogicSt
  cap : CapSt
  pub : PubSt
  pair : PairSt
  otp : OtpSt
  vault : VaultSt
  emp : EmpSt
  tap : TapSt
  ext : ExtSt
  /-- The line port whose ingress buffer the classifier served last (R130); reset 3, so that LP0 is first (log entry 34). -/
  served : Nat
  /-- The model's own counter of free values drawn (log entry 10); no statement rests on it. -/
  free : Nat
  /-- Commands waiting, first in first out. -/
  pending : List Instr
  deriving DecidableEq, Repr

/-! The state right after reset: main rails valid, RESET_N released, the device in LOADING with nothing read yet. -/

/-- A line port or MP at reset: link down, not enabled before firmware starts, everything empty (R50, R105). -/
def PortSt.reset : PortSt :=
  { link := false, on := false, ingress := [], used := 0, queues := List.replicate 8 [], waiting := [],
    wire := none, wireAt := 0, wireFrom := 0, idleAt := 0, armed := [], pause := [], heldFrom := [], stalled := [] }

/-- A cage at reset: a module present and initialised (log entry 24). -/
def CageSt.reset : CageSt := { present := true, since := 0, txOn := true, initDone := true, supports := true }

/-- A stream at reset: OFF until LOADING ends (R126). -/
def StreamSt.reset : StreamSt :=
  { st := .off, idle := 0, fresh := false, layoutRun := 0, goodRun := 0, window := [], cfgDue := none,
    onDue := none, cfgHold := 0, latMin := 0, latMax := 0, lats := [] }

/-- A time base at reset: OFF until the TIME section is installed (Sequence MOD-1). -/
def BaseSt.reset : BaseSt :=
  { st := .off, acc := 0, rate := 2 ^ 40, updates := 0, held := 0, agree := 0, missed := 0, updated := false,
    gmChanged := false, offset := 0 }

/-- A receiver of GNSS or IRIG-B at reset. -/
def WireSrc.reset : WireSrc :=
  { edge := none, tod := none, fix := 0, sats := 0, last := none, failed := false, labelled := false, tqCode := 15,
    leapPend := false, leapDel := false }

/-- A PTP record's state at reset. -/
def PtpSt.reset : PtpSt := { foreign := [], master := none, sync := none, syncAt := none, syncIv := 0, delays := [] }

/-- The reset value of the time-status word (Table TIM-8): TIME_ACC 31, NEVER_LOCKED, TQ_CODE 0xF, STAT_TQ 0b111,
UNLOCKED 0b11, SYNC_ERR. -/
def tswReset : BitVec 32 := 0xF9FFC000#32

/-- Hearth at reset (R41, R132, R145, R147). -/
def TimeSt.reset : TimeSt :=
  { lts := 0, acc := 0, rate := 2 ^ 40, integ := 0, bases := List.replicate 4 BaseSt.reset,
    ptp := List.replicate 2 PtpSt.reset, gnss := WireSrc.reset, irig := WireSrc.reset, ptpIn := [],
    majority := false, err := 0, err0 := 0, neverLocked := true, holdover := false, hoSince := 0, forcedHo := false,
    refLost := false, lockSecs := 0, voteSec := 0, tsw := tswReset, leap := none, leapOff := 0 }

/-- A slice at reset: no row (R48). -/
def SliceSt.reset : SliceSt :=
  { queue := [], rows := [], nextSeq := 0, first := none, next := none, finals := [], hist := [], histOff := 0,
    stall := false, peakPages := 0, peakRows := 0 }

/-- A lane at reset: NOSYNC (R199). -/
def LaneSt.reset : LaneSt :=
  { st := .nosync, last := none, fmtRun := 0, seqRun := 0, gap := false, first := false, at_ := 0, rdSeq := none, edges := [], stepFrom := none }

/-- A lane group's queue at reset: empty (R48); the ball follows the mode until LOADING ends (Table MOD-6). -/
def QueueSt.reset : QueueSt :=
  { reading := [], writing := [], part := [], partFirst := 63, bank := 0, since := none, hold := false,
    holdSeen := false, holdNow := false, parse := [], lost := false, faultNow := false }

/-- No budget. -/
def Cost.zero : Cost := { cycles := 0, dram := 0, flits := 0, egress := 0 }

/-- A region at reset: empty lists. -/
def RegSt.reset : RegSt :=
  { ready := [], delay := [], stalled := [], budgets := List.replicate 32 Cost.zero, spare := Cost.zero,
    shedLevel := 0, shed := [], seq := 0, row := 0, rowAt := 0 }

/-- A cell at reset: in service, free, unreserved (Table SCH-11). -/
def CellSt.reset : CellSt :=
  { svc := .inService, run := none, since := 0, worked := false, faults := [], faultNow := false, quarNext := false,
    resv := 0xFF }

/-- A discrete output at reset: high impedance (R329). -/
def DoSt.reset : DoSt :=
  { level := none, openDrain := false, activeHigh := false, at_ := 0, pend := [], deferred := none, resend := none,
    forced := none }

/-- A capture class at reset: OFF (R360). -/
def CapCls.reset : CapCls := { st := .off, armedAt := 0, rec_ := 0, left := 0, held := [], hit := none, autoDone := false }

/-- An output stream at reset. -/
def PubStream.reset : PubStream :=
  { on := false, peers := [], taken := none, members := [], stNum := 0, sqNum := 0, t := 0, changed := false,
    launch := 0, nextAt := none, interval := 0, published := false }

/-- An attention log at reset: empty, so that the next ASEQ is 1 (R440). -/
def AttnLog.reset : AttnLog := { slots := [], head := 0, toggle := false, lost := 0, lostAt := 0, lostNow := 0, latched := [] }

/-- The island's graph at reset: no branch given a status (Table ISL-3). -/
def IslCore.reset : IslCore := { branches := [], pairs := [], keys := [], slots := [] }

/-- A touch channel at reset. -/
def Touch.reset : Touch := { baseline := 0, count := 0, above := 0, touched := false, since := 0 }

/-- Staging at reset: IDLE (Table EMP-10). -/
def StageSt.reset : StageSt :=
  { st := .idle, slot := 0, code := 0, detail := 0, owner := none, header := [], sector := [], got := [],
    received := 0, at_ := 0 }

/-- The pair function at reset: the link DOWN, every path UNKNOWN (R386, R395). -/
def PairSt.reset : PairSt :=
  { role := .unpaired, posB := false, link := .down, session := 0, partner := none, partnerMac := 0,
    partnerPosB := none, nctr := 0, txSeq := 0, sent := [], backlog := [], rxSeq := 0, held := [], ackDue := none,
    helloDue := none, quiet := 0, heard := false, tokenPath := .unknown, linkPath := .unknown, obsPath := .unknown,
    missing := 0, token := none, tokenSeen := false, noPath := 0, digest := none, digestFresh := false, mirror := [],
    mirrorValid := false, adopt := [], parts := [], partnerIndex := [], takeAt := none, leaveAt := none, handover := none,
    releasedAt := 0, ovDiffer := 0, downAt := 0, partnerHash := none, owed := 0, split := false, peerAck := 0, seenTag := 0, roleAt := 0,
    takeHand := false }

/-- Boot at reset: LOADING, no slot chosen (Table MOD-3 T2). -/
def BootSt.reset : BootSt :=
  { mode := .loading, rails := true, island := true, slot := 0, running := false, trying := false, second := false,
    loadA := (0, 0), loadB := (0, 0), mgmtUp := false, toTamperhold := false, evs := [], degStandby := false,
    converged := [], delivered := [], warmAt := 0, timedOut := false, pulses := 0, tamperAseq := 0, mapHash := 0,
    fell := none, heldFrom := none, burnTo := 0 }

/-- Swage at reset. -/
def SwageSt.reset : SwageSt :=
  { lanes := List.replicate 8 LaneSt.reset, queues := List.replicate 4 QueueSt.reset, chains := [], ests := [],
    sync := none, syncWas := none, clk0 := none, clkLost := false, replay := none, out := [], scales := [], event := [] }

/-- Oscillation detection at reset. -/
def OscSt.reset : OscSt :=
  { bands := [], latest := [], alarms := [], locs := [], locLatest := [], log := [], rings := [], shed := [], params := [] }

/-- Islanding at reset. -/
def IslSt.reset : IslSt :=
  { core := IslCore.reset, copy := IslCore.reset, waiting := [], recent := [], block := none, cell := 0, onAlt := false, log := [],
    comps := 0, clusters := 0, evalTag := 0, cohSince := none, dets := [], movePending := false }

/-- Dispatch at reset. -/
def SchSt.reset : SchSt :=
  { regs := List.replicate 4 RegSt.reset, cells := List.replicate 64 CellSt.reset, lostBlocks := [], shedReq := 0,
    inhibit := false, digest := 0, shadow := 0, disagree := 0, trace := [], beat := none, beats := 0, worst := 0,
    halted := false, dramSlots := [], nocSlots := [] }

/-- Striker at reset. -/
def LogicSt.reset : LogicSt :=
  { vars := [], insts := [], events := [], evVals := [], lastTag := [], outVals := [], scanned := [], forces := [], forceReq := [],
    snaps := [], trips := [], dos := List.replicate 16 DoSt.reset, retention := [], partnerRet := [], sets := [],
    fresh := true, ownAfter := [] }

/-- Capture at reset: no record, SEQ 0 so that the first is 1 (R355). -/
def CapSt.reset : CapSt :=
  { classes := List.replicate 16 CapCls.reset, recs := [], seq := 0, trigs := [], xtrig := none, stamps := [],
    levels := [], ringFrom := 0 }

/-- The publisher at reset. -/
def PubSt.reset : PubSt := { streams := List.replicate 64 PubStream.reset, cmds := [], recent := [], changes := [] }

/-- Alignment at reset. -/
def AlignSt.reset : AlignSt := { slices := List.replicate 4 SliceSt.reset, outParts := [], svRing := [], localRing := [], ana := [] }

/-- EMP at reset. -/
def EmpSt.reset : EmpSt :=
  { sessions := [], replies := [], breqs := [], stage := StageSt.reset, restart := none, sets := [], setSeq := 0, owed := 0 }

/-- The machine right after reset. -/
def State.reset : State :=
  { boot := BootSt.reset, img := [], flash := [], ctrs := [], ctrsAt := [], attn := AttnLog.reset, partnerLog := AttnLog.reset,
    bbx := { queue := [], mram := [], scanned := true, lossFlag := false, newest := none, gasp := false },
    sens := { temps := List.replicate 8 0, railMv := [750, 1100, 900, 1200, 1800, 3300], still := List.replicate 8 0, bad := [], level := List.replicate 4 0,
              below := List.replicate 4 0, hot := List.replicate 8 0, seen := 0, cond := 0, vbat := 3000, seenNow := 0,
              clocks := [] },
    panel := { keys := 0, runs := [], touch := List.replicate 4 Touch.reset, ackHead := 0, lampEnd := none,
               key2Since := none, svpEnd := none, svcKey := false, svcDet := false },
    ports := List.replicate 5 PortSt.reset ++ List.replicate 2 { PortSt.reset with on := true }, cages := List.replicate 5 CageSt.reset, tcp := [], streams := [],
    time := TimeSt.reset, align := AlignSt.reset, swage := SwageSt.reset, osc := OscSt.reset, isl := IslSt.reset,
    sch := SchSt.reset, logic := LogicSt.reset, cap := CapSt.reset, pub := PubSt.reset, pair := PairSt.reset,
    otp := { root0 := .blank, root1 := .blank, owner0 := .blank, owner1 := .blank, epoch := 0, burning := none },
    vault := { slots := [], content := none, root := none, intact := true, tampered := false, partner := none,
               latches := [], zeroises := 0, cfg := 0xF000, armed := true, rtc := 0 },
    emp := EmpSt.reset, tap := { ir := 0x01, cells := 0 },
    ext := { posB := false, timeRef := true, dram0 := 32, dram1 := 32, powerFail := false }, served := 3, free := 0, pending := [] }

end Sys2Proof.Machine
end

