-- ==== Sys2Proof/Machine/Image.lean ====
section
/-! DEFINITION. The fields of the image's fixed records, each read from the record's number as R6 and R60 state, and
the look-up of a record in the image in force. -/

namespace Sys2Proof.Machine

/-- The record of a table at an index; an unused record reads zero (R67). -/
def State.rec_ (s : State) (t : Tbl) (i : Nat) : Nat := agetD s.img (t, i) 0

/-- The indices of a table's records that are not zero, in the image's order. -/
def State.indices (s : State) (t : Tbl) : List Nat :=
  (s.img.filter (fun e => decide (e.1.1 = t))).map (fun e => e.1.2)

/-- The indices below n whose record's bit `v` (its VALID bit) is set, ascending. -/
def State.valids (s : State) (t : Tbl) (v n : Nat) : List Nat :=
  ((s.img.filter (fun e => decide (e.1.1 = t) && bitAt e.2 v && decide (e.1.2 < n))).map (fun e => e.1.2)).foldl
    (fun l i => insertBy id i l) []

/-! Fields of header records: Table IMG-1 (R63). -/

/-- Table IMG-1 (R63), bits 1023:992. -/
def headerMagic (r : Nat) : Nat := fld r 1023 992

/-- Table IMG-1 (R63), bits 991:976. -/
def headerFormat (r : Nat) : Nat := fld r 991 976

/-- Table IMG-1 (R63), bits 975:968. -/
def headerSilicon (r : Nat) : Nat := fld r 975 968

/-- Table IMG-1 (R63), bits 967:960. -/
def headerSectionCount (r : Nat) : Nat := fld r 967 960

/-- Table IMG-1 (R63), bits 959:928. -/
def headerGeneration (r : Nat) : Nat := fld r 959 928

/-- Table IMG-1 (R63), bits 927:920. -/
def headerEpoch (r : Nat) : Nat := fld r 927 920

/-- Table IMG-1 (R63), bits 919:912. -/
def headerFlags (r : Nat) : Nat := fld r 919 912

/-- Table IMG-1 (R63), bits 911:880. -/
def headerImageLen (r : Nat) : Nat := fld r 911 880

/-- Table IMG-1 (R63), bits 879:752. -/
def headerImageUuid (r : Nat) : Nat := fld r 879 752

/-- Table IMG-1 (R63), bits 751:368. -/
def headerOwnerHash (r : Nat) : Nat := fld r 751 368

/-- Table IMG-1 (R63), bits 367:352. -/
def headerWarmupTimeout (r : Nat) : Nat := fld r 367 352

/-- Table IMG-1 (R63), bits 351:336. -/
def headerMandatory (r : Nat) : Nat := fld r 351 336

/-- Table IMG-1 (R63), bits 335:328. -/
def headerAlm1Level (r : Nat) : Nat := fld r 335 328

/-- Table IMG-1 (R63), bits 31:0. -/
def headerHeaderCrc (r : Nat) : Nat := fld r 31 0

/-! Fields of section records: Table IMG-2 (R65). -/

/-- Table IMG-2 (R65), bits 255:248. -/
def sectionType (r : Nat) : Nat := fld r 255 248

/-- Table IMG-2 (R65), bits 247:240. -/
def sectionSflags (r : Nat) : Nat := fld r 247 240

/-- Table IMG-2 (R65), bits 239:224. -/
def sectionSversion (r : Nat) : Nat := fld r 239 224

/-- Table IMG-2 (R65), bits 223:192. -/
def sectionOffset (r : Nat) : Nat := fld r 223 192

/-- Table IMG-2 (R65), bits 191:160. -/
def sectionLength (r : Nat) : Nat := fld r 191 160

/-- Table IMG-2 (R65), bits 159:144. -/
def sectionRecordSize (r : Nat) : Nat := fld r 159 144

/-- Table IMG-2 (R65), bits 127:96. -/
def sectionRecordCount (r : Nat) : Nat := fld r 127 96

/-- Table IMG-2 (R65), bits 31:0. -/
def sectionCrc (r : Nat) : Nat := fld r 31 0

/-! Fields of stream records: Table IMG-4 (R68). -/

/-- Table IMG-4 (R68), bits 511:511. -/
def streamValid (r : Nat) : Nat := fld r 511 511

/-- Table IMG-4 (R68), bits 510:508. -/
def streamKind (r : Nat) : Nat := fld r 510 508

/-- Table IMG-4 (R68), bits 507:504. -/
def streamPortMask (r : Nat) : Nat := fld r 507 504

/-- Table IMG-4 (R68), bits 503:502. -/
def streamHomeRegion (r : Nat) : Nat := fld r 503 502

/-- Table IMG-4 (R68), bits 495:480. -/
def streamStreamId (r : Nat) : Nat := fld r 495 480

/-- Table IMG-4 (R68), bits 479:432. -/
def streamSrcMac (r : Nat) : Nat := fld r 479 432

/-- Table IMG-4 (R68), bits 431:400. -/
def streamSrcIp (r : Nat) : Nat := fld r 431 400

/-- Table IMG-4 (R68), bits 399:384. -/
def streamDstPort (r : Nat) : Nat := fld r 399 384

/-- Table IMG-4 (R68), bits 383:372. -/
def streamVlanId (r : Nat) : Nat := fld r 383 372

/-- Table IMG-4 (R68), bits 367:360. -/
def streamRateCode (r : Nat) : Nat := fld r 367 360

/-- Table IMG-4 (R68), bits 359:352. -/
def streamAuth (r : Nat) : Nat := fld r 359 352

/-- Table IMG-4 (R68), bits 351:342. -/
def streamKeySlot (r : Nat) : Nat := fld r 351 342

/-- Table IMG-4 (R68), bits 335:320. -/
def streamChanBase (r : Nat) : Nat := fld r 335 320

/-- Table IMG-4 (R68), bits 319:308. -/
def streamChanCount (r : Nat) : Nat := fld r 319 308

/-- Table IMG-4 (R68), bits 303:288. -/
def streamStaleTimeout (r : Nat) : Nat := fld r 303 288

/-- Table IMG-4 (R68), bits 287:272. -/
def streamOffgridTol (r : Nat) : Nat := fld r 287 272

/-- Table IMG-4 (R68), bits 271:256. -/
def streamPeerIndex (r : Nat) : Nat := fld r 271 256

/-- Table IMG-4 (R68), bits 255:240. -/
def streamExpFormat (r : Nat) : Nat := fld r 255 240

/-- Table IMG-4 (R68), bits 239:224. -/
def streamExpFramesize (r : Nat) : Nat := fld r 239 224

/-- Table IMG-4 (R68), bits 223:192. -/
def streamSvidCrc (r : Nat) : Nat := fld r 223 192

/-- Table IMG-4 (R68), bits 191:184. -/
def streamSflags (r : Nat) : Nat := fld r 191 184

/-! Fields of chan records: Table IMG-5 (R69). -/

/-- Table IMG-5 (R69), bits 255:255. -/
def chanValid (r : Nat) : Nat := fld r 255 255

/-- Table IMG-5 (R69), bits 254:252. -/
def chanSource (r : Nat) : Nat := fld r 254 252

/-- Table IMG-5 (R69), bits 251:248. -/
def chanQuantity (r : Nat) : Nat := fld r 251 248

/-- Table IMG-5 (R69), bits 247:240. -/
def chanEncoding (r : Nat) : Nat := fld r 247 240

/-- Table IMG-5 (R69), bits 239:224. -/
def chanSrcRef (r : Nat) : Nat := fld r 239 224

/-- Table IMG-5 (R69), bits 223:212. -/
def chanPosition (r : Nat) : Nat := fld r 223 212

/-- Table IMG-5 (R69), bits 207:176. -/
def chanPhaseDelay (r : Nat) : Nat := fld r 207 176

/-- Table IMG-5 (R69), bits 175:144. -/
def chanScale (r : Nat) : Nat := fld r 175 144

/-- Table IMG-5 (R69), bits 143:112. -/
def chanOffset (r : Nat) : Nat := fld r 143 112

/-- Table IMG-5 (R69), bits 111:104. -/
def chanWatchGroup (r : Nat) : Nat := fld r 111 104

/-- Table IMG-5 (R69), bits 103:103. -/
def chanWgMember (r : Nat) : Nat := fld r 103 103

/-- Table IMG-5 (R69), bits 102:102. -/
def chanWgRequired (r : Nat) : Nat := fld r 102 102

/-- Table IMG-5 (R69), bits 95:80. -/
def chanBusRef (r : Nat) : Nat := fld r 95 80

/-- Table IMG-5 (R69), bits 79:64. -/
def chanBranchRef (r : Nat) : Nat := fld r 79 64

/-- Table IMG-5 (R69), bits 63:62. -/
def chanEstClass (r : Nat) : Nat := fld r 63 62

/-- Table IMG-5 (R69), bits 61:61. -/
def chanFastMinphase (r : Nat) : Nat := fld r 61 61

/-- Table IMG-5 (R69), bits 47:40. -/
def chanOutRate (r : Nat) : Nat := fld r 47 40

/-- Table IMG-5 (R69), bits 39:32. -/
def chanThreshSet (r : Nat) : Nat := fld r 39 32

/-! Fields of bus records: R71. -/

/-- R71, bits 63:63. -/
def busValid (r : Nat) : Nat := fld r 63 63

/-- R71, bits 62:55. -/
def busArea (r : Nat) : Nat := fld r 62 55

/-- R71, bits 47:32. -/
def busFCh (r : Nat) : Nat := fld r 47 32

/-- R71, bits 31:16. -/
def busACh (r : Nat) : Nat := fld r 31 16

/-! Fields of branch records: Table IMG-6 (R71). -/

/-- Table IMG-6 (R71), bits 127:127. -/
def branchValid (r : Nat) : Nat := fld r 127 127

/-- Table IMG-6 (R71), bits 126:124. -/
def branchKind (r : Nat) : Nat := fld r 126 124

/-- Table IMG-6 (R71), bits 111:96. -/
def branchFromBus (r : Nat) : Nat := fld r 111 96

/-- Table IMG-6 (R71), bits 95:80. -/
def branchToBus (r : Nat) : Nat := fld r 95 80

/-- Table IMG-6 (R71), bits 79:64. -/
def branchStatusCh (r : Nat) : Nat := fld r 79 64

/-- Table IMG-6 (R71), bits 63:60. -/
def branchStatusBit (r : Nat) : Nat := fld r 63 60

/-- Table IMG-6 (R71), bits 59:59. -/
def branchStatusInvert (r : Nat) : Nat := fld r 59 59

/-- Table IMG-6 (R71), bits 47:32. -/
def branchVCh (r : Nat) : Nat := fld r 47 32

/-- Table IMG-6 (R71), bits 31:16. -/
def branchICh (r : Nat) : Nat := fld r 31 16

/-! Fields of beatHdr records: R72. -/

/-- R72, bits 127:120. -/
def beatHdrRegion (r : Nat) : Nat := fld r 127 120

/-- R72, bits 111:96. -/
def beatHdrPeriod (r : Nat) : Nat := fld r 111 96

/-! Fields of post records: Table IMG-7 (R72). -/

/-- Table IMG-7 (R72), bits 63:63. -/
def postValid (r : Nat) : Nat := fld r 63 63

/-- Table IMG-7 (R72), bits 62:60. -/
def postOp (r : Nat) : Nat := fld r 62 60

/-- Table IMG-7 (R72), bits 59:55. -/
def postClass (r : Nat) : Nat := fld r 59 55

/-- Table IMG-7 (R72), bits 54:51. -/
def postPriority (r : Nat) : Nat := fld r 54 51

/-- Table IMG-7 (R72), bits 47:32. -/
def postTemplate (r : Nat) : Nat := fld r 47 32

/-- Table IMG-7 (R72), bits 31:0. -/
def postArg (r : Nat) : Nat := fld r 31 0

/-! Fields of budget records: Table IMG-8 (R73). -/

/-- Table IMG-8 (R73), bits 255:248. -/
def budgetClass (r : Nat) : Nat := fld r 255 248

/-- Table IMG-8 (R73), bits 247:246. -/
def budgetRegion (r : Nat) : Nat := fld r 247 246

/-- Table IMG-8 (R73), bits 239:239. -/
def budgetBestEffort (r : Nat) : Nat := fld r 239 239

/-- Table IMG-8 (R73), bits 238:238. -/
def budgetLender (r : Nat) : Nat := fld r 238 238

/-- Table IMG-8 (R73), bits 237:237. -/
def budgetShedFloor (r : Nat) : Nat := fld r 237 237

/-- Table IMG-8 (R73), bits 231:224. -/
def budgetShedRank (r : Nat) : Nat := fld r 231 224

/-- Table IMG-8 (R73), bits 223:192. -/
def budgetCycles (r : Nat) : Nat := fld r 223 192

/-- Table IMG-8 (R73), bits 191:160. -/
def budgetDramBytes (r : Nat) : Nat := fld r 191 160

/-- Table IMG-8 (R73), bits 159:128. -/
def budgetFlits (r : Nat) : Nat := fld r 159 128

/-- Table IMG-8 (R73), bits 127:96. -/
def budgetEgressBytes (r : Nat) : Nat := fld r 127 96

/-- Table IMG-8 (R73), bits 95:64. -/
def budgetItemLimit (r : Nat) : Nat := fld r 95 64

/-! Fields of port records: Table PRT-1 (R86). -/

/-- Table PRT-1 (R86), bits 255:255. -/
def portEnable (r : Nat) : Nat := fld r 255 255

/-- Table PRT-1 (R86), bits 254:252. -/
def portPhy (r : Nat) : Nat := fld r 254 252

/-- Table PRT-1 (R86), bits 251:250. -/
def portFec (r : Nat) : Nat := fld r 251 250

/-- Table PRT-1 (R86), bits 249:249. -/
def portJumbo (r : Nat) : Nat := fld r 249 249

/-- Table PRT-1 (R86), bits 248:248. -/
def portPauseEn (r : Nat) : Nat := fld r 248 248

/-- Table PRT-1 (R86), bits 247:247. -/
def portPfcEn (r : Nat) : Nat := fld r 247 247

/-- Table PRT-1 (R86), bits 246:246. -/
def portQ7Pausable (r : Nat) : Nat := fld r 246 246

/-- Table PRT-1 (R86), bits 239:192. -/
def portMac (r : Nat) : Nat := fld r 239 192

/-- Table PRT-1 (R86), bits 191:160. -/
def portIp (r : Nat) : Nat := fld r 191 160

/-- Table PRT-1 (R86), bits 159:148. -/
def portVlanId (r : Nat) : Nat := fld r 159 148

/-- Table PRT-1 (R86), bits 143:128. -/
def portTcpMss (r : Nat) : Nat := fld r 143 128

/-- Table PRT-1 (R86), bits 127:120. -/
def portTcpWscale (r : Nat) : Nat := fld r 127 120

/-- Table PRT-1 (R86), bits 119:104. -/
def portTcpRwnd (r : Nat) : Nat := fld r 119 104

/-- Table PRT-1 (R86), bits 103:103. -/
def portTcpTs (r : Nat) : Nat := fld r 103 103

/-- Table PRT-1 (R86), bits 95:32. -/
def portQcarve (r : Nat) : Nat := fld r 95 32

/-! Fields of peer records: Table INT-3 (R112). -/

/-- Table INT-3 (R112), bits 255:255. -/
def peerValid (r : Nat) : Nat := fld r 255 255

/-- Table INT-3 (R112), bits 254:254. -/
def peerSrcRole (r : Nat) : Nat := fld r 254 254

/-- Table INT-3 (R112), bits 253:253. -/
def peerSubRole (r : Nat) : Nat := fld r 253 253

/-- Table INT-3 (R112), bits 251:250. -/
def peerLinePort (r : Nat) : Nat := fld r 251 250

/-- Table INT-3 (R112), bits 247:236. -/
def peerVlanId (r : Nat) : Nat := fld r 247 236

/-- Table INT-3 (R112), bits 231:184. -/
def peerMac (r : Nat) : Nat := fld r 231 184

/-- Table INT-3 (R112), bits 183:152. -/
def peerIp (r : Nat) : Nat := fld r 183 152

/-- Table INT-3 (R112), bits 151:136. -/
def peerPport (r : Nat) : Nat := fld r 151 136

/-- Table INT-3 (R112), bits 127:64. -/
def peerOutMask (r : Nat) : Nat := fld r 127 64

/-! Fields of timeHdr records: Table TIM-2 (R136). -/

/-- Table TIM-2 (R136), bits 511:496. -/
def timeHdrTbSrcs (r : Nat) : Nat := fld r 511 496

/-- Table TIM-2 (R136), bits 495:480. -/
def timeHdrVoteTol (r : Nat) : Nat := fld r 495 480

/-- Table TIM-2 (R136), bits 479:464. -/
def timeHdrQualTime (r : Nat) : Nat := fld r 479 464

/-- Table TIM-2 (R136), bits 463:448. -/
def timeHdrSrcAccLimit (r : Nat) : Nat := fld r 463 448

/-- Table TIM-2 (R136), bits 447:432. -/
def timeHdrHoFreq (r : Nat) : Nat := fld r 447 432

/-- Table TIM-2 (R136), bits 431:416. -/
def timeHdrHoAging (r : Nat) : Nat := fld r 431 416

/-- Table TIM-2 (R136), bits 415:400. -/
def timeHdrHoForceLimit (r : Nat) : Nat := fld r 415 400

/-- Table TIM-2 (R136), bits 399:384. -/
def timeHdrFreqCorrMax (r : Nat) : Nat := fld r 399 384

/-- Table TIM-2 (R136), bits 383:368. -/
def timeHdrSyncLimit (r : Nat) : Nat := fld r 383 368

/-- Table TIM-2 (R136), bits 367:352. -/
def timeHdrUtcOffsetDef (r : Nat) : Nat := fld r 367 352

/-- Table TIM-2 (R136), bits 351:336. -/
def timeHdrGnssDelay (r : Nat) : Nat := fld r 351 336

/-- Table TIM-2 (R136), bits 335:320. -/
def timeHdrIrigDelay (r : Nat) : Nat := fld r 335 320

/-- Table TIM-2 (R136), bits 319:304. -/
def timeHdrGnssAcc (r : Nat) : Nat := fld r 319 304

/-- Table TIM-2 (R136), bits 303:300. -/
def timeHdrGnssBaud (r : Nat) : Nat := fld r 303 300

/-- Table TIM-2 (R136), bits 299:299. -/
def timeHdrGnssTodNext (r : Nat) : Nat := fld r 299 299

/-- Table TIM-2 (R136), bits 298:298. -/
def timeHdrGnssPpsFalling (r : Nat) : Nat := fld r 298 298

/-- Table TIM-2 (R136), bits 297:297. -/
def timeHdrIrig1344 (r : Nat) : Nat := fld r 297 297

/-! Fields of ptpRec records: Table TIM-3 (R136). -/

/-- Table TIM-3 (R136), bits 255:255. -/
def ptpRecValid (r : Nat) : Nat := fld r 255 255

/-- Table TIM-3 (R136), bits 254:254. -/
def ptpRecProfile (r : Nat) : Nat := fld r 254 254

/-- Table TIM-3 (R136), bits 253:250. -/
def ptpRecPortMask (r : Nat) : Nat := fld r 253 250

/-- Table TIM-3 (R136), bits 247:240. -/
def ptpRecDomain (r : Nat) : Nat := fld r 247 240

/-- Table TIM-3 (R136), bits 239:228. -/
def ptpRecVlanId (r : Nat) : Nat := fld r 239 228

/-- Table TIM-3 (R136), bits 227:225. -/
def ptpRecTxQueue (r : Nat) : Nat := fld r 227 225

/-- Table TIM-3 (R136), bits 223:216. -/
def ptpRecMaxClass (r : Nat) : Nat := fld r 223 216

/-! Fields of asym records: Table TIM-4 (R136). -/

/-- Table TIM-4 (R136), bits 63:32. -/
def asymIng (r : Nat) : Nat := fld r 63 32

/-- Table TIM-4 (R136), bits 31:0. -/
def asymEgr (r : Nat) : Nat := fld r 31 0

/-! Fields of slice records: Table ALN-1 (R163). -/

/-- Table ALN-1 (R163), bits 127:126. -/
def sliceRegion (r : Nat) : Nat := fld r 127 126

/-- Table ALN-1 (R163), bits 123:112. -/
def sliceRowDiv (r : Nat) : Nat := fld r 123 112

/-- Table ALN-1 (R163), bits 111:96. -/
def sliceRowLead (r : Nat) : Nat := fld r 111 96

/-- Table ALN-1 (R163), bits 95:64. -/
def sliceRetireWait (r : Nat) : Nat := fld r 95 64

/-- Table ALN-1 (R163), bits 63:48. -/
def sliceHorizon (r : Nat) : Nat := fld r 63 48

/-! Fields of group records: Table ALN-2 (R167). -/

/-- Table ALN-2 (R167), bits 127:127. -/
def groupValid (r : Nat) : Nat := fld r 127 127

/-- Table ALN-2 (R167), bits 126:125. -/
def groupRegion (r : Nat) : Nat := fld r 126 125

/-- Table ALN-2 (R167), bits 124:120. -/
def groupQClass (r : Nat) : Nat := fld r 124 120

/-- Table ALN-2 (R167), bits 119:116. -/
def groupQPriority (r : Nat) : Nat := fld r 119 116

/-- Table ALN-2 (R167), bits 111:104. -/
def groupSetRate (r : Nat) : Nat := fld r 111 104

/-- Table ALN-2 (R167), bits 103:96. -/
def groupQFrac (r : Nat) : Nat := fld r 103 96

/-- Table ALN-2 (R167), bits 95:64. -/
def groupQWait (r : Nat) : Nat := fld r 95 64

/-- Table ALN-2 (R167), bits 63:48. -/
def groupQTemplate (r : Nat) : Nat := fld r 63 48

/-! Fields of outSet records: Table ALN-3 (R168). -/

/-- Table ALN-3 (R168), bits 127:127. -/
def outSetValid (r : Nat) : Nat := fld r 127 127

/-- Table ALN-3 (R168), bits 119:112. -/
def outSetSetRate (r : Nat) : Nat := fld r 119 112

/-- Table ALN-3 (R168), bits 111:80. -/
def outSetWait (r : Nat) : Nat := fld r 111 80

/-! Fields of frontEnd records: Table WAV-1 (R195). -/

/-- Table WAV-1 (R195), bits 511:510. -/
def frontEndFNom (r : Nat) : Nat := fld r 511 510

/-- Table WAV-1 (R195), bits 509:509. -/
def frontEndReplayFast (r : Nat) : Nat := fld r 509 509

/-- Table WAV-1 (R195), bits 508:508. -/
def frontEndReplayWidth (r : Nat) : Nat := fld r 508 508

/-- Table WAV-1 (R195), bits 495:480. -/
def frontEndHandoffUs (r : Nat) : Nat := fld r 495 480

/-- Table WAV-1 (R195), bits 479:464. -/
def frontEndSvWait (r : Nat) : Nat := fld r 479 464

/-- Table WAV-1 (R195), bits 463:432. -/
def frontEndReplayOffset (r : Nat) : Nat := fld r 463 432

/-- Table WAV-1 (R195), bits 431:384. -/
def frontEndWmG0 (r : Nat) : Nat := fld r 431 384

/-- Table WAV-1 (R195), bits 383:336. -/
def frontEndWmG1 (r : Nat) : Nat := fld r 383 336

/-- Table WAV-1 (R195), bits 335:288. -/
def frontEndWmG2 (r : Nat) : Nat := fld r 335 288

/-- Table WAV-1 (R195), bits 287:240. -/
def frontEndWmG3 (r : Nat) : Nat := fld r 287 240

/-! Fields of lane records: Table WAV-3 (R195). -/

/-- Table WAV-3 (R195), bits 127:127. -/
def laneEnable (r : Nat) : Nat := fld r 127 127

/-- Table WAV-3 (R195), bits 126:126. -/
def laneWidth (r : Nat) : Nat := fld r 126 126

/-- Table WAV-3 (R195), bits 125:122. -/
def laneChCount (r : Nat) : Nat := fld r 125 122

/-- Table WAV-3 (R195), bits 111:96. -/
def laneLaneDiv (r : Nat) : Nat := fld r 111 96

/-- Table WAV-3 (R195), bits 95:64. -/
def laneAperture (r : Nat) : Nat := fld r 95 64

/-! Fields of thresh records: Table WAV-10 (R223). -/

/-- Table WAV-10 (R223), bits 255:224. -/
def threshMagHi (r : Nat) : Nat := fld r 255 224

/-- Table WAV-10 (R223), bits 223:192. -/
def threshMagLo (r : Nat) : Nat := fld r 223 192

/-- Table WAV-10 (R223), bits 191:160. -/
def threshFreqHi (r : Nat) : Nat := fld r 191 160

/-- Table WAV-10 (R223), bits 159:128. -/
def threshFreqLo (r : Nat) : Nat := fld r 159 128

/-- Table WAV-10 (R223), bits 127:96. -/
def threshRocofMax (r : Nat) : Nat := fld r 127 96

/-- Table WAV-10 (R223), bits 95:64. -/
def threshStepMag (r : Nat) : Nat := fld r 95 64

/-- Table WAV-10 (R223), bits 63:32. -/
def threshStepAng (r : Nat) : Nat := fld r 63 32

/-- Table WAV-10 (R223), bits 31:24. -/
def threshHyst (r : Nat) : Nat := fld r 31 24

/-- Table WAV-10 (R223), bits 23:16. -/
def threshHystF (r : Nat) : Nat := fld r 23 16

/-- Table WAV-10 (R223), bits 15:12. -/
def threshPickup (r : Nat) : Nat := fld r 15 12

/-- Table WAV-10 (R223), bits 11:5. -/
def threshEnable (r : Nat) : Nat := fld r 11 5

/-! Fields of oscHdr records: Table OSC-3 (R232). -/

/-- Table OSC-3 (R232), bits 511:498. -/
def oscHdrSigCount (r : Nat) : Nat := fld r 511 498

/-- Table OSC-3 (R232), bits 495:488. -/
def oscHdrParamCount (r : Nat) : Nat := fld r 495 488

/-- Table OSC-3 (R232), bits 487:483. -/
def oscHdrLocCount (r : Nat) : Nat := fld r 487 483

/-! Fields of oscBand records: Table OSC-4 (R232). -/

/-- Table OSC-4 (R232), bits 127:112. -/
def oscBandUpdateBeats (r : Nat) : Nat := fld r 127 112

/-- Table OSC-4 (R232), bits 111:104. -/
def oscBandGapMax (r : Nat) : Nat := fld r 111 104

/-- Table OSC-4 (R232), bits 103:96. -/
def oscBandModelOrder (r : Nat) : Nat := fld r 103 96

/-- Table OSC-4 (R232), bits 95:92. -/
def oscBandModes (r : Nat) : Nat := fld r 95 92

/-- Table OSC-4 (R232), bits 79:64. -/
def oscBandMatchTol (r : Nat) : Nat := fld r 79 64

/-! Fields of signal records: Table OSC-5 (R233). -/

/-- Table OSC-5 (R233), bits 127:127. -/
def signalValid (r : Nat) : Nat := fld r 127 127

/-- Table OSC-5 (R233), bits 126:124. -/
def signalQuantity (r : Nat) : Nat := fld r 126 124

/-- Table OSC-5 (R233), bits 123:120. -/
def signalBands (r : Nat) : Nat := fld r 123 120

/-- Table OSC-5 (R233), bits 119:104. -/
def signalCh (r : Nat) : Nat := fld r 119 104

/-- Table OSC-5 (R233), bits 103:88. -/
def signalRefCh (r : Nat) : Nat := fld r 103 88

/-- Table OSC-5 (R233), bits 87:72. -/
def signalBranch (r : Nat) : Nat := fld r 87 72

/-- Table OSC-5 (R233), bits 71:66. -/
def signalParam (r : Nat) : Nat := fld r 71 66

/-- Table OSC-5 (R233), bits 65:65. -/
def signalTriple (r : Nat) : Nat := fld r 65 65

/-! Fields of groupEst records: Table OSC-6 (R237). -/

/-- Table OSC-6 (R237), bits 127:127. -/
def groupEstValid (r : Nat) : Nat := fld r 127 127

/-- Table OSC-6 (R237), bits 126:124. -/
def groupEstQuantity (r : Nat) : Nat := fld r 126 124

/-- Table OSC-6 (R237), bits 123:120. -/
def groupEstBands (r : Nat) : Nat := fld r 123 120

/-- Table OSC-6 (R237), bits 119:104. -/
def groupEstRefCh (r : Nat) : Nat := fld r 119 104

/-- Table OSC-6 (R237), bits 103:97. -/
def groupEstGMin (r : Nat) : Nat := fld r 103 97

/-- Table OSC-6 (R237), bits 96:91. -/
def groupEstParam (r : Nat) : Nat := fld r 96 91

/-! Fields of param records: Table OSC-9 (R245). -/

/-- Table OSC-9 (R245), bits 255:224. -/
def paramZetaAlarm (r : Nat) : Nat := fld r 255 224

/-- Table OSC-9 (R245), bits 223:192. -/
def paramZetaForced (r : Nat) : Nat := fld r 223 192

/-- Table OSC-9 (R245), bits 191:160. -/
def paramZetaHyst (r : Nat) : Nat := fld r 191 160

/-- Table OSC-9 (R245), bits 159:128. -/
def paramAmpMin (r : Nat) : Nat := fld r 159 128

/-- Table OSC-9 (R245), bits 127:96. -/
def paramAmpAlarm (r : Nat) : Nat := fld r 127 96

/-- Table OSC-9 (R245), bits 95:64. -/
def paramFreqStab (r : Nat) : Nat := fld r 95 64

/-- Table OSC-9 (R245), bits 63:56. -/
def paramConfMin (r : Nat) : Nat := fld r 63 56

/-- Table OSC-9 (R245), bits 55:52. -/
def paramConfirm (r : Nat) : Nat := fld r 55 52

/-- Table OSC-9 (R245), bits 51:48. -/
def paramDrop (r : Nat) : Nat := fld r 51 48

/-- Table OSC-9 (R245), bits 47:44. -/
def paramKindEnable (r : Nat) : Nat := fld r 47 44

/-- Table OSC-9 (R245), bits 39:32. -/
def paramLocate (r : Nat) : Nat := fld r 39 32

/-! Fields of locSet records: Table OSC-12 (R250). -/

/-- Table OSC-12 (R250), bits 127:127. -/
def locSetValid (r : Nat) : Nat := fld r 127 127

/-- Table OSC-12 (R250), bits 123:120. -/
def locSetBands (r : Nat) : Nat := fld r 123 120

/-- Table OSC-12 (R250), bits 119:104. -/
def locSetWindow (r : Nat) : Nat := fld r 119 104

/-- Table OSC-12 (R250), bits 103:88. -/
def locSetSpread (r : Nat) : Nat := fld r 103 88

/-- Table OSC-12 (R250), bits 87:77. -/
def locSetBrCount (r : Nat) : Nat := fld r 87 77

/-! Fields of islHdr records: Table ISL-1 (R255). -/

/-- Table ISL-1 (R255), bits 511:504. -/
def islHdrIslRate (r : Nat) : Nat := fld r 511 504

/-- Table ISL-1 (R255), bits 503:500. -/
def islHdrIslBlock (r : Nat) : Nat := fld r 503 500

/-- Table ISL-1 (R255), bits 499:496. -/
def islHdrAltBlock (r : Nat) : Nat := fld r 499 496

/-- Table ISL-1 (R255), bits 495:368. -/
def islHdrRefBuses (r : Nat) : Nat := fld r 495 368

/-- Table ISL-1 (R255), bits 367:352. -/
def islHdrPairCount (r : Nat) : Nat := fld r 367 352

/-- Table ISL-1 (R255), bits 351:339. -/
def islHdrDetCount (r : Nat) : Nat := fld r 351 339

/-- Table ISL-1 (R255), bits 338:335. -/
def islHdrCohConfirm (r : Nat) : Nat := fld r 338 335

/-- Table ISL-1 (R255), bits 334:331. -/
def islHdrCohWithdraw (r : Nat) : Nat := fld r 334 331

/-- Table ISL-1 (R255), bits 330:324. -/
def islHdrCohMinBuses (r : Nat) : Nat := fld r 330 324

/-- Table ISL-1 (R255), bits 319:288. -/
def islHdrCohFreq (r : Nat) : Nat := fld r 319 288

/-- Table ISL-1 (R255), bits 287:256. -/
def islHdrCohAng (r : Nat) : Nat := fld r 287 256

/-! Fields of pairRec records: R255. -/

/-- R255, bits 31:16. -/
def pairRecBusA (r : Nat) : Nat := fld r 31 16

/-- R255, bits 15:0. -/
def pairRecBusB (r : Nat) : Nat := fld r 15 0

/-! Fields of det records: Table ISL-2 (R269). -/

/-- Table ISL-2 (R269), bits 255:255. -/
def detValid (r : Nat) : Nat := fld r 255 255

/-- Table ISL-2 (R269), bits 254:252. -/
def detKind (r : Nat) : Nat := fld r 254 252

/-- Table ISL-2 (R269), bits 251:244. -/
def detGroup (r : Nat) : Nat := fld r 251 244

/-- Table ISL-2 (R269), bits 243:240. -/
def detPickup (r : Nat) : Nat := fld r 243 240

/-- Table ISL-2 (R269), bits 239:224. -/
def detCh (r : Nat) : Nat := fld r 239 224

/-- Table ISL-2 (R269), bits 223:208. -/
def detRefCh (r : Nat) : Nat := fld r 223 208

/-- Table ISL-2 (R269), bits 207:192. -/
def detFreqCh (r : Nat) : Nat := fld r 207 192

/-- Table ISL-2 (R269), bits 191:160. -/
def detThresh (r : Nat) : Nat := fld r 191 160

/-- Table ISL-2 (R269), bits 159:152. -/
def detHyst (r : Nat) : Nat := fld r 159 152

/-! Fields of dispHdr records: Table SCH-3 (R284). -/

/-- Table SCH-3 (R284), bits 511:499. -/
def dispHdrTemplateCount (r : Nat) : Nat := fld r 511 499

/-- Table SCH-3 (R284), bits 495:464. -/
def dispHdrTraceMask (r : Nat) : Nat := fld r 495 464

/-- Table SCH-3 (R284), bits 463:456. -/
def dispHdrTh1 (r : Nat) : Nat := fld r 463 456

/-- Table SCH-3 (R284), bits 455:448. -/
def dispHdrTh2 (r : Nat) : Nat := fld r 455 448

/-- Table SCH-3 (R284), bits 447:440. -/
def dispHdrTh3 (r : Nat) : Nat := fld r 447 440

/-- Table SCH-3 (R284), bits 439:434. -/
def dispHdrS1 (r : Nat) : Nat := fld r 439 434

/-- Table SCH-3 (R284), bits 433:428. -/
def dispHdrS2 (r : Nat) : Nat := fld r 433 428

/-- Table SCH-3 (R284), bits 427:422. -/
def dispHdrS3 (r : Nat) : Nat := fld r 427 422

/-- Table SCH-3 (R284), bits 421:416. -/
def dispHdrSDeg (r : Nat) : Nat := fld r 421 416

/-! Fields of template records: Table SCH-4 (R284). -/

/-- Table SCH-4 (R284), bits 255:255. -/
def templateValid (r : Nat) : Nat := fld r 255 255

/-- Table SCH-4 (R284), bits 254:254. -/
def templateReservedOnly (r : Nat) : Nat := fld r 254 254

/-- Table SCH-4 (R284), bits 251:248. -/
def templateSecDiv (r : Nat) : Nat := fld r 251 248

/-- Table SCH-4 (R284), bits 239:224. -/
def templateKernel (r : Nat) : Nat := fld r 239 224

/-- Table SCH-4 (R284), bits 223:192. -/
def templateCostCycles (r : Nat) : Nat := fld r 223 192

/-- Table SCH-4 (R284), bits 191:160. -/
def templateCostDram (r : Nat) : Nat := fld r 191 160

/-- Table SCH-4 (R284), bits 159:128. -/
def templateCostFlits (r : Nat) : Nat := fld r 159 128

/-- Table SCH-4 (R284), bits 127:96. -/
def templateCostEgress (r : Nat) : Nat := fld r 127 96

/-- Table SCH-4 (R284), bits 95:64. -/
def templateParam (r : Nat) : Nat := fld r 95 64

/-! Fields of kernel records: R285. -/

/-- R285, bits 127:112. -/
def kernelId (r : Nat) : Nat := fld r 127 112

/-- R285, bits 111:96. -/
def kernelVersion (r : Nat) : Nat := fld r 111 96

/-- R285, bits 95:64. -/
def kernelCodeOffset (r : Nat) : Nat := fld r 95 64

/-- R285, bits 63:32. -/
def kernelCodeLen (r : Nat) : Nat := fld r 63 32

/-! Fields of logicHdr records: Table LOG-1 (R312). -/

/-- Table LOG-1 (R312), bits 511:510. -/
def logicHdrProgKind (r : Nat) : Nat := fld r 511 510

/-- Table LOG-1 (R312), bits 509:504. -/
def logicHdrTaskCount (r : Nat) : Nat := fld r 509 504

/-- Table LOG-1 (R312), bits 495:480. -/
def logicHdrTemplateCount (r : Nat) : Nat := fld r 495 480

/-- Table LOG-1 (R312), bits 479:464. -/
def logicHdrVarCount (r : Nat) : Nat := fld r 479 464

/-- Table LOG-1 (R312), bits 463:451. -/
def logicHdrInstCount (r : Nat) : Nat := fld r 463 451

/-- Table LOG-1 (R312), bits 447:438. -/
def logicHdrOutCount (r : Nat) : Nat := fld r 447 438

/-- Table LOG-1 (R312), bits 431:400. -/
def logicHdrCodeLen (r : Nat) : Nat := fld r 431 400

/-- Table LOG-1 (R312), bits 399:368. -/
def logicHdrProgramId (r : Nat) : Nat := fld r 399 368

/-! Fields of task records: Table LOG-2 (R312). -/

/-- Table LOG-2 (R312), bits 255:255. -/
def taskValid (r : Nat) : Nat := fld r 255 255

/-- Table LOG-2 (R312), bits 254:254. -/
def taskBind (r : Nat) : Nat := fld r 254 254

/-- Table LOG-2 (R312), bits 253:252. -/
def taskRegion (r : Nat) : Nat := fld r 253 252

/-- Table LOG-2 (R312), bits 251:244. -/
def taskSet (r : Nat) : Nat := fld r 251 244

/-- Table LOG-2 (R312), bits 243:239. -/
def taskDClass (r : Nat) : Nat := fld r 243 239

/-- Table LOG-2 (R312), bits 238:235. -/
def taskDPriority (r : Nat) : Nat := fld r 238 235

/-- Table LOG-2 (R312), bits 223:208. -/
def taskTemplate (r : Nat) : Nat := fld r 223 208

/-- Table LOG-2 (R312), bits 207:176. -/
def taskCodeEntry (r : Nat) : Nat := fld r 207 176

/-! Fields of var records: Table LOG-3 (R314). -/

/-- Table LOG-3 (R314), bits 127:125. -/
def varSeg (r : Nat) : Nat := fld r 127 125

/-- Table LOG-3 (R314), bits 124:122. -/
def varVtype (r : Nat) : Nat := fld r 124 122

/-- Table LOG-3 (R314), bits 121:121. -/
def varOnline (r : Nat) : Nat := fld r 121 121

/-- Table LOG-3 (R314), bits 120:116. -/
def varTask (r : Nat) : Nat := fld r 120 116

/-- Table LOG-3 (R314), bits 115:114. -/
def varFamily (r : Nat) : Nat := fld r 115 114

/-- Table LOG-3 (R314), bits 111:96. -/
def varSrc (r : Nat) : Nat := fld r 111 96

/-- Table LOG-3 (R314), bits 95:92. -/
def varSub (r : Nat) : Nat := fld r 95 92

/-- Table LOG-3 (R314), bits 91:88. -/
def varBit (r : Nat) : Nat := fld r 91 88

/-- Table LOG-3 (R314), bits 63:32. -/
def varInit (r : Nat) : Nat := fld r 63 32

/-! Fields of inst records: Table LOG-4 (R322). -/

/-- Table LOG-4 (R322), bits 255:255. -/
def instValid (r : Nat) : Nat := fld r 255 255

/-- Table LOG-4 (R322), bits 254:251. -/
def instNIn (r : Nat) : Nat := fld r 254 251

/-- Table LOG-4 (R322), bits 250:246. -/
def instTask (r : Nat) : Nat := fld r 250 246

/-- Table LOG-4 (R322), bits 239:224. -/
def instFbType (r : Nat) : Nat := fld r 239 224

/-- Table LOG-4 (R322), bits 223:192. -/
def instInstanceId (r : Nat) : Nat := fld r 223 192

/-- Table LOG-4 (R322), bits 191:64. -/
def instIns (r : Nat) : Nat := fld r 191 64

/-- Table LOG-4 (R322), bits 63:48. -/
def instOut0 (r : Nat) : Nat := fld r 63 48

/-- Table LOG-4 (R322), bits 47:32. -/
def instOut1 (r : Nat) : Nat := fld r 47 32

/-! Fields of outRec records: Table LOG-8 (R327). -/

/-- Table LOG-8 (R327), bits 255:255. -/
def outRecValid (r : Nat) : Nat := fld r 255 255

/-- Table LOG-8 (R327), bits 254:252. -/
def outRecKind (r : Nat) : Nat := fld r 254 252

/-- Table LOG-8 (R327), bits 239:224. -/
def outRecVar (r : Nat) : Nat := fld r 239 224

/-- Table LOG-8 (R327), bits 223:218. -/
def outRecOutStream (r : Nat) : Nat := fld r 223 218

/-- Table LOG-8 (R327), bits 217:214. -/
def outRecDoNo (r : Nat) : Nat := fld r 217 214

/-- Table LOG-8 (R327), bits 207:192. -/
def outRecMember (r : Nat) : Nat := fld r 207 192

/-- Table LOG-8 (R327), bits 191:160. -/
def outRecLaunchOffset (r : Nat) : Nat := fld r 191 160

/-- Table LOG-8 (R327), bits 159:144. -/
def outRecAckVar (r : Nat) : Nat := fld r 159 144

/-- Table LOG-8 (R327), bits 143:128. -/
def outRecSubSid (r : Nat) : Nat := fld r 143 128

/-- Table LOG-8 (R327), bits 127:112. -/
def outRecRetryMs (r : Nat) : Nat := fld r 127 112

/-- Table LOG-8 (R327), bits 111:108. -/
def outRecRetryCount (r : Nat) : Nat := fld r 111 108

/-- Table LOG-8 (R327), bits 103:103. -/
def outRecActiveHigh (r : Nat) : Nat := fld r 103 103

/-- Table LOG-8 (R327), bits 102:102. -/
def outRecOpenDrain (r : Nat) : Nat := fld r 102 102

/-- Table LOG-8 (R327), bits 95:64. -/
def outRecPulseMin (r : Nat) : Nat := fld r 95 64

/-! Fields of plan records: Table CAP-1 (R335). -/

/-- Table CAP-1 (R335), bits 511:480. -/
def planPhasorBase (r : Nat) : Nat := fld r 511 480

/-- Table CAP-1 (R335), bits 479:448. -/
def planPhasorSize (r : Nat) : Nat := fld r 479 448

/-- Table CAP-1 (R335), bits 447:416. -/
def planSvBase (r : Nat) : Nat := fld r 447 416

/-- Table CAP-1 (R335), bits 415:384. -/
def planSvSize (r : Nat) : Nat := fld r 415 384

/-- Table CAP-1 (R335), bits 383:352. -/
def planCaptureBase (r : Nat) : Nat := fld r 383 352

/-- Table CAP-1 (R335), bits 351:320. -/
def planCaptureSize (r : Nat) : Nat := fld r 351 320

/-- Table CAP-1 (R335), bits 319:288. -/
def planWorkBase (r : Nat) : Nat := fld r 319 288

/-- Table CAP-1 (R335), bits 287:256. -/
def planWorkSize (r : Nat) : Nat := fld r 287 256

/-- Table CAP-1 (R335), bits 255:240. -/
def planTraceSize (r : Nat) : Nat := fld r 255 240

/-- Table CAP-1 (R335), bits 239:227. -/
def planIndexCount (r : Nat) : Nat := fld r 239 227

/-- Table CAP-1 (R335), bits 223:208. -/
def planXtrigPulse (r : Nat) : Nat := fld r 223 208

/-- Table CAP-1 (R335), bits 207:200. -/
def planTrigCount (r : Nat) : Nat := fld r 207 200

/-- Table CAP-1 (R335), bits 199:188. -/
def planChlistCount (r : Nat) : Nat := fld r 199 188

/-! Fields of capClass records: Table CAP-2 (R336). -/

/-- Table CAP-2 (R336), bits 511:511. -/
def capClassValid (r : Nat) : Nat := fld r 511 511

/-- Table CAP-2 (R336), bits 510:510. -/
def capClassRing (r : Nat) : Nat := fld r 510 510

/-- Table CAP-2 (R336), bits 509:509. -/
def capClassAuto (r : Nat) : Nat := fld r 509 509

/-- Table CAP-2 (R336), bits 503:496. -/
def capClassRecRate (r : Nat) : Nat := fld r 503 496

/-- Table CAP-2 (R336), bits 495:484. -/
def capClassListBase (r : Nat) : Nat := fld r 495 484

/-- Table CAP-2 (R336), bits 483:476. -/
def capClassNCh (r : Nat) : Nat := fld r 483 476

/-- Table CAP-2 (R336), bits 475:473. -/
def capClassMaxDiv (r : Nat) : Nat := fld r 475 473

/-- Table CAP-2 (R336), bits 472:470. -/
def capClassPrefDiv (r : Nat) : Nat := fld r 472 470

/-- Table CAP-2 (R336), bits 463:448. -/
def capClassPreMs (r : Nat) : Nat := fld r 463 448

/-- Table CAP-2 (R336), bits 447:416. -/
def capClassPostMs (r : Nat) : Nat := fld r 447 416

/-- Table CAP-2 (R336), bits 415:384. -/
def capClassLongMs (r : Nat) : Nat := fld r 415 384

/-- Table CAP-2 (R336), bits 383:368. -/
def capClassMmInterval (r : Nat) : Nat := fld r 383 368

/-- Table CAP-2 (R336), bits 367:352. -/
def capClassAutoS (r : Nat) : Nat := fld r 367 352

/-! Fields of trigSrc records: Table CAP-3 (R338). -/

/-- Table CAP-3 (R338), bits 127:127. -/
def trigSrcValid (r : Nat) : Nat := fld r 127 127

/-- Table CAP-3 (R338), bits 126:124. -/
def trigSrcKind (r : Nat) : Nat := fld r 126 124

/-- Table CAP-3 (R338), bits 123:123. -/
def trigSrcDriveXtrig (r : Nat) : Nat := fld r 123 123

/-- Table CAP-3 (R338), bits 122:121. -/
def trigSrcEdges (r : Nat) : Nat := fld r 122 121

/-- Table CAP-3 (R338), bits 119:104. -/
def trigSrcClassMask (r : Nat) : Nat := fld r 119 104

/-- Table CAP-3 (R338), bits 103:100. -/
def trigSrcInput (r : Nat) : Nat := fld r 103 100

/-- Table CAP-3 (R338), bits 99:96. -/
def trigSrcEvKind (r : Nat) : Nat := fld r 99 96

/-- Table CAP-3 (R338), bits 95:80. -/
def trigSrcRef (r : Nat) : Nat := fld r 95 80

/-- Table CAP-3 (R338), bits 79:64. -/
def trigSrcMinWidth (r : Nat) : Nat := fld r 79 64

/-! Fields of pubHdr records: Table PUB-1 (R364). -/

/-- Table PUB-1 (R364), bits 511:498. -/
def pubHdrContentCount (r : Nat) : Nat := fld r 511 498

/-- Table PUB-1 (R364), bits 497:486. -/
def pubHdrAmapCount (r : Nat) : Nat := fld r 497 486

/-- Table PUB-1 (R364), bits 485:470. -/
def pubHdrNameUnits (r : Nat) : Nat := fld r 485 470

/-- Table PUB-1 (R364), bits 469:467. -/
def pubHdrCmdQueue (r : Nat) : Nat := fld r 469 467

/-- Table PUB-1 (R364), bits 463:352. -/
def pubHdrSlacks (r : Nat) : Nat := fld r 463 352

/-- Table PUB-1 (R364), bits 351:320. -/
def pubHdrHdrOffset (r : Nat) : Nat := fld r 351 320

/-- Table PUB-1 (R364), bits 319:308. -/
def pubHdrHdrLen (r : Nat) : Nat := fld r 319 308

/-! Fields of outStream records: Table PUB-2 (R364). -/

/-- Table PUB-2 (R364), bits 511:509. -/
def outStreamKind (r : Nat) : Nat := fld r 511 509

/-- Table PUB-2 (R364), bits 508:508. -/
def outStreamAlarm (r : Nat) : Nat := fld r 508 508

/-- Table PUB-2 (R364), bits 507:507. -/
def outStreamSendMode (r : Nat) : Nat := fld r 507 507

/-- Table PUB-2 (R364), bits 506:506. -/
def outStreamInitOn (r : Nat) : Nat := fld r 506 506

/-- Table PUB-2 (R364), bits 505:505. -/
def outStreamReplayOk (r : Nat) : Nat := fld r 505 505

/-- Table PUB-2 (R364), bits 503:500. -/
def outStreamPortMask (r : Nat) : Nat := fld r 503 500

/-- Table PUB-2 (R364), bits 499:497. -/
def outStreamQueue (r : Nat) : Nat := fld r 499 497

/-- Table PUB-2 (R364), bits 496:485. -/
def outStreamVlanId (r : Nat) : Nat := fld r 496 485

/-- Table PUB-2 (R364), bits 479:464. -/
def outStreamStreamId (r : Nat) : Nat := fld r 479 464

/-- Table PUB-2 (R364), bits 463:416. -/
def outStreamDstMac (r : Nat) : Nat := fld r 463 416

/-- Table PUB-2 (R364), bits 415:384. -/
def outStreamDstIp (r : Nat) : Nat := fld r 415 384

/-- Table PUB-2 (R364), bits 383:368. -/
def outStreamDstPort (r : Nat) : Nat := fld r 383 368

/-- Table PUB-2 (R364), bits 367:352. -/
def outStreamCmdPort (r : Nat) : Nat := fld r 367 352

/-- Table PUB-2 (R364), bits 351:344. -/
def outStreamAuth (r : Nat) : Nat := fld r 351 344

/-- Table PUB-2 (R364), bits 343:334. -/
def outStreamKeySlot (r : Nat) : Nat := fld r 343 334

/-- Table PUB-2 (R364), bits 327:312. -/
def outStreamContentBase (r : Nat) : Nat := fld r 327 312

/-- Table PUB-2 (R364), bits 311:300. -/
def outStreamContentCount (r : Nat) : Nat := fld r 311 300

/-- Table PUB-2 (R364), bits 299:276. -/
def outStreamTimeBase (r : Nat) : Nat := fld r 299 276

/-- Table PUB-2 (R364), bits 275:260. -/
def outStreamFormat (r : Nat) : Nat := fld r 275 260

/-- Table PUB-2 (R364), bits 259:244. -/
def outStreamTMin (r : Nat) : Nat := fld r 259 244

/-- Table PUB-2 (R364), bits 243:228. -/
def outStreamTMax (r : Nat) : Nat := fld r 243 228

/-- Table PUB-2 (R364), bits 227:196. -/
def outStreamLaunchBytes (r : Nat) : Nat := fld r 227 196

/-- Table PUB-2 (R364), bits 195:164. -/
def outStreamLaunchFlits (r : Nat) : Nat := fld r 195 164

/-- Table PUB-2 (R364), bits 163:140. -/
def outStreamNameRef (r : Nat) : Nat := fld r 163 140

/-! Fields of content records: Table PUB-3 (R364). -/

/-- Table PUB-3 (R364), bits 63:63. -/
def contentBlockStart (r : Nat) : Nat := fld r 63 63

/-- Table PUB-3 (R364), bits 62:60. -/
def contentField (r : Nat) : Nat := fld r 62 60

/-- Table PUB-3 (R364), bits 59:59. -/
def contentMClass (r : Nat) : Nat := fld r 59 59

/-- Table PUB-3 (R364), bits 57:56. -/
def contentMType (r : Nat) : Nat := fld r 57 56

/-- Table PUB-3 (R364), bits 47:32. -/
def contentCh (r : Nat) : Nat := fld r 47 32

/-- Table PUB-3 (R364), bits 31:16. -/
def contentIdcode (r : Nat) : Nat := fld r 31 16

/-- Table PUB-3 (R364), bits 15:0. -/
def contentName (r : Nat) : Nat := fld r 15 0

/-! Fields of amap records: Table PUB-4 (R364). -/

/-- Table PUB-4 (R364), bits 63:58. -/
def amapOutStream (r : Nat) : Nat := fld r 63 58

/-- Table PUB-4 (R364), bits 57:56. -/
def amapFamily (r : Nat) : Nat := fld r 57 56

/-- Table PUB-4 (R364), bits 55:52. -/
def amapEvKind (r : Nat) : Nat := fld r 55 52

/-- Table PUB-4 (R364), bits 51:40. -/
def amapMember (r : Nat) : Nat := fld r 51 40

/-- Table PUB-4 (R364), bits 39:24. -/
def amapRef (r : Nat) : Nat := fld r 39 24

/-! Fields of keysHdr records: R416. -/

/-- R416, bits 127:118. -/
def keysHdrKeyCount (r : Nat) : Nat := fld r 127 118

/-- R416, bits 111:108. -/
def keysHdrPolicy (r : Nat) : Nat := fld r 111 108

/-! Fields of keyEnt records: Table KEY-4 (R416). -/

/-- Table KEY-4 (R416), bits 639:639. -/
def keyEntHasKey (r : Nat) : Nat := fld r 639 639

/-- Table KEY-4 (R416), bits 638:629. -/
def keyEntSlot (r : Nat) : Nat := fld r 638 629

/-- Table KEY-4 (R416), bits 628:624. -/
def keyEntEngines (r : Nat) : Nat := fld r 628 624

/-- Table KEY-4 (R416), bits 623:622. -/
def keyEntLife (r : Nat) : Nat := fld r 623 622

/-- Table KEY-4 (R416), bits 607:576. -/
def keyEntUses (r : Nat) : Nat := fld r 607 576

/-- Table KEY-4 (R416), bits 575:544. -/
def keyEntKeyId (r : Nat) : Nat := fld r 575 544

/-- Table KEY-4 (R416), bits 543:520. -/
def keyEntKcv (r : Nat) : Nat := fld r 543 520

/-- Table KEY-4 (R416), bits 519:504. -/
def keyEntGen (r : Nat) : Nat := fld r 519 504

/-- Table KEY-4 (R416), bits 479:384. -/
def keyEntIv (r : Nat) : Nat := fld r 479 384

/-- Table KEY-4 (R416), bits 383:128. -/
def keyEntWrapped (r : Nat) : Nat := fld r 383 128

/-- Table KEY-4 (R416), bits 127:0. -/
def keyEntTag (r : Nat) : Nat := fld r 127 0

/-! Fields of fwHdr records: Table SCH-13 (R500). -/

/-- Table SCH-13 (R500), bits 511:496. -/
def fwHdrMagic (r : Nat) : Nat := fld r 511 496

/-- Table SCH-13 (R500), bits 495:480. -/
def fwHdrVersion (r : Nat) : Nat := fld r 495 480

/-- Table SCH-13 (R500), bits 479:256. -/
def fwHdrKvTable (r : Nat) : Nat := fld r 479 256

/-! Fields of directory records: Table OSC-2 (R231). -/

/-- Table OSC-2 (R231), bits 127:120. -/
def directoryType (r : Nat) : Nat := fld r 127 120

/-- Table OSC-2 (R231), bits 119:104. -/
def directoryBversion (r : Nat) : Nat := fld r 119 104

/-- Table OSC-2 (R231), bits 95:64. -/
def directoryOffset (r : Nat) : Nat := fld r 95 64

/-- Table OSC-2 (R231), bits 63:32. -/
def directoryLength (r : Nat) : Nat := fld r 63 32

end Sys2Proof.Machine
end

