-- ==== Sys2Proof/Machine/Woide.lean ====
section
/-! DEFINITION. Woide frames as bytes (R384, Tables PAI-2 to PAI-5): header, payload, cipher and tag. Where the manual gives a
body no layout, the model's is a DESIGN CHOICE (log entry 39). -/

namespace Sys2Proof.Machine

/-- The bytes of an instance's state (R389), the layout of DELTA 1 and of the retention store. -/
def instBytes (m : InstMirror) : Bytes :=
  natBe 4 m.id.toNat ++ natBe 2 m.fbType.toNat ++ natBe 2 m.flags.toNat ++ natBe 8 m.et

/-- The 16 bytes of a change-set entry (Table EMP-7). -/
def entryBytes (e : ChangeEntry) : Bytes :=
  natBe 1 e.sect ++ natBe 1 e.table ++ natBe 2 e.index ++ natBe 2 e.lsb ++ natBe 1 e.width ++ [0#8] ++ natBe 4 e.value ++ natBe 4 0

/-- The payload of a CHANGE_SET (R449): the header with N, and the entries. -/
def changeSetBytes (es : List ChangeEntry) : Bytes := natBe 1 es.length ++ natBe 7 0 ++ es.flatMap entryBytes

/-- An attention item as Table EMP-6 lays it out, 32 bytes. -/
def attentionBytes (aseq : Nat) (posted : Ns) (lvl cls : Nat) (acked : Bool) (src detail : Nat) (ackedAt : Ns) : Bytes :=
  natBe 4 aseq ++ natBe 8 (tim1 posted) ++ natBe 4 (lvl * 2 ^ 29 + cls * 2 ^ 25 + b2n acked * 2 ^ 24) ++
  natBe 4 src ++ natBe 4 detail ++ natBe 8 (tim1 ackedAt)

/-- The delivery header (Table INT-9). -/
def fillHdrBytes (h : FillHdr) : Bytes :=
  natBe 32 (h.sid * 2 ^ 243 + h.kind * 2 ^ 240 + tim1 h.tag * 2 ^ 176 + (BitVec.ofInt 32 h.gridOff).toNat * 2 ^ 144 +
    tim1 h.arrival * 2 ^ 80 + h.flags.toNat * 2 ^ 72 + h.tq * 2 ^ 68 + h.port * 2 ^ 66 + h.digest.toNat * 2 ^ 32 + h.len * 2 ^ 16)

/-- SUBTYPE of an item (Table PAI-5). -/
def deltaSubtype : Delta → Nat
  | .logicState .. => 1
  | .tripSeries .. => 2
  | .alarmState .. => 3
  | .subscriber .. => 4
  | .oscAlarm .. => 5
  | .island .. => 6
  | .captureIndex .. => 7
  | .attention .. => 8
  | .changeRefused .. => 8

/-- KEY of an item: the task, output stream, group or slot; the record's SEQ for a capture entry, 0 where there is none. -/
def deltaIndex : Delta → Nat
  | .logicState t _ _ => t
  | .tripSeries o _ _ _ => o
  | .alarmState n _ _ => n
  | .subscriber n _ _ => n
  | .oscAlarm i _ _ _ => i
  | .island k _ _ _ _ _ => k
  | .captureIndex q _ => q
  | .attention .. => 0
  | .changeRefused .. => 0

/-- The body of an item. -/
def deltaBytes : Delta → Bytes
  | .logicState _ is vs =>
    natBe 2 is.length ++ natBe 2 vs.length ++ is.flatMap instBytes ++
      vs.flatMap (fun v => natBe 2 v.1 ++ natBe 1 v.2.2.toNat ++ [0#8] ++ natBe 4 v.2.1.toNat)
  | .tripSeries _ active tag left => natBe 1 (b2n active) ++ [0#8] ++ natBe 2 left ++ natBe 8 (tim1 tag)
  | .alarmState _ st ms => natBe 4 st ++ ms.flatMap (fun m => natBe 4 m.1.toNat ++ natBe 1 m.2.toNat)
  | .subscriber _ ip on => natBe 4 ip.toNat ++ natBe 1 (b2n on)
  | .oscAlarm _ picked runs f => natBe 1 picked.toNat ++ runs.flatMap (natBe 2) ++ natBe 4 f.toNat
  | .island _ id at_ decl counts brs =>
    natBe 4 id ++ natBe 8 (tim1 at_) ++ natBe 1 (b2n decl) ++ natBe 2 counts.length ++ counts.flatMap (fun c => natBe 4 c.1 ++ natBe 2 c.2) ++
      brs.flatMap (fun b => natBe 2 b.1 ++ natBe 1 (b2n b.2.1) ++ natBe 8 (tim1 b.2.2))
  | .captureIndex _ e => e
  | .attention a lvl cls posted src detail => attentionBytes a posted lvl cls false src detail 0
  | .changeRefused b => natBe 8 (tim1 b)

/-- The largest part of a delta's body: a payload of 1,452 bytes less the delta header. -/
def deltaPart : Nat := 1436

/-- Frames that an item takes (PARTS). -/
def deltaParts (d : Delta) : Nat := max 1 (((deltaBytes d).length + deltaPart - 1) / deltaPart)

/-- The delta header (R389), 16 bytes. -/
def deltaHeader (sub key part parts : Nat) (tag : Ns) : Bytes :=
  natBe 1 sub ++ [0#8] ++ natBe 2 key ++ natBe 1 part ++ natBe 1 parts ++ natBe 2 0 ++ natBe 8 (tim1 tag)

/-- A claim entry, 12 bytes. -/
def claimBytes (c : Claim) : Bytes := natBe 12 (b2n c.valid * 2 ^ 95 + c.kind * 2 ^ 92 + c.streamId * 2 ^ 64 + c.claim)

/-- A task entry, 12 bytes. -/
def taskBytes (t : TaskEntry) : Bytes := natBe 8 (tim1 t.tag) ++ natBe 4 t.crc.toNat

/-- The content of a filled frame (R390). -/
def fillContent : UdpBody → Bytes
  | .c37 b => b
  | .sv f => f.apdu
  | .other => []

/-- TYPE of a body (Table PAI-3). -/
def woideType : WoideBody → Nat
  | .hello .. => 0x01
  | .digest .. => 0x02
  | .fill .. => 0x03
  | .delta .. => 0x04
  | .role .. => 0x05
  | .change .. => 0x06
  | .snapshot .. => 0x07
  | .ack => 0x08
  | .unknown c => c

/-- The payload of a body (Tables PAI-3, PAI-4, PAI-5). -/
def woidePayload : WoideBody → Bytes
  | .hello echo uuid gen hash mode role =>
    natBe 4 echo.toNat ++ natBe 16 uuid.toNat ++ natBe 4 gen ++ natBe 8 hash.toNat ++ natBe 1 (mode * 16 + role)
  | .digest beat mode role unfit valid hash ov tsw cs ts =>
    natBe 8 (tim1 beat) ++ natBe 1 (mode * 16 + role * 4 + b2n unfit * 2 + b2n valid) ++ [0#8] ++ natBe 8 hash.toNat ++ natBe 4 ov.toNat ++
      natBe 4 tsw.toNat ++ natBe 38 0 ++ cs.flatMap claimBytes ++ ts.flatMap taskBytes
  | .fill h f => fillHdrBytes h ++ fillContent f
  | .delta tag part parts d =>
    deltaHeader (deltaSubtype d) (deltaIndex d) part parts tag ++ ((deltaBytes d).drop (part * deltaPart)).take deltaPart
  | .role code e cs ts => natBe 1 code ++ natBe 3 0 ++ natBe 8 (tim1 e) ++ cs.flatMap claimBytes ++ ts.flatMap taskBytes
  | .change at_ cs => natBe 8 (tim1 at_) ++ changeSetBytes cs
  | .snapshot tag part parts (some d) =>
    deltaHeader (deltaSubtype d) (deltaIndex d) part parts tag ++ ((deltaBytes d).drop (part * deltaPart)).take deltaPart
  | .snapshot tag part parts none => deltaHeader 0 0 part parts tag
  | .ack => []
  | .unknown _ => []

/-- The header of a frame (Table PAI-2), 32 bytes, in clear. -/
def woideHeader (f : WoideFrame) : Bytes :=
  natBe 1 1 ++ natBe 1 (woideType f.body) ++ natBe 2 0 ++ natBe 4 f.session.toNat ++ natBe 8 f.nctr ++ natBe 4 f.seq ++ natBe 4 f.ack ++
    natBe 4 f.ackMap.toNat ++ natBe 2 (woidePayload f.body).length ++ natBe 2 0

/-- The 96-bit nonce (R384): SESSION followed by NCTR. -/
def woideNonce (f : WoideFrame) : Bytes := natBe 4 f.session.toNat ++ natBe 8 f.nctr

/-- The encrypted payload under the pair key. -/
def woideCipher (f : WoideFrame) (key : BitVec 256) : Bytes :=
  let p := woidePayload f.body
  xorBytes p (padTo p.length (Config.gcmStream key (woideNonce f) p.length))

/-- The GCM tag under the pair key; the header is the additional authenticated data. -/
def woideTag (f : WoideFrame) (key : BitVec 256) : BitVec 128 := Config.gcmTag key (woideNonce f) (woideHeader f) (woideCipher f key)

/-- The bytes of a frame from the header on (R384). -/
def woideBytes (f : WoideFrame) (key : BitVec 256) : Bytes := (woideHeader f) ++ woideCipher f key ++ natBe 16 f.tag.toNat

/-- Payload bytes of a body (PLEN). -/
def woidePlen (b : WoideBody) : Nat := (woidePayload b).length

end Sys2Proof.Machine
end

