-- ==== Sys2Proof/Machine/Ops.lean ====
section
/-! DEFINITION. The operations that every family shares: time, counters, attention, black-box records, modes and
their outputs, convergence, transmit queues and the sending side of the Tongs link. -/

namespace Sys2Proof.Machine

/-! Time. -/

/-- DT in ns (R133). -/
def State.dt (s : State) : Ns := s.time.acc / 2 ^ 40

/-- LTS in ns (R132). -/
def State.lts (s : State) : Ns := s.time.lts

/-- The current tick, 1 µs of LTS (R132). -/
def State.tick (s : State) : Nat := s.time.lts / 1000

/-- The real-time clock (R41): the battery domain's own time. -/
def State.rtc (s : State) : Ns := s.vault.rtc + s.time.lts

/-- DT runs from the start of LOADING, and not in DORMANT or UNCONFIGURED (R41, Table MOD-1). -/
def State.dtRuns (s : State) : Bool := s.boot.mode != .dormant && s.boot.mode != .unconfigured

/-- The DT of a record: the real-time clock while DT does not run (R457). -/
def State.now (s : State) : Ns := if s.dtRuns then s.dt else s.rtc

/-- Reporting rates in frames/s by rate code (Table IMG-4). -/
def rateOf (code : Nat) : Nat :=
  ([10, 12, 15, 20, 25, 30, 50, 60, 100, 120, 200, 240] : List Nat).getD code 0

/-- Point k of a grid of `rate` points per DT second, in whole ns: the instant s + k ÷ rate, truncated. -/
def gridPoint (rate k : Nat) : Ns := (k / rate) * 1000000000 + (k % rate) * 1000000000 / rate

/-- The number of the latest grid point not later than t. -/
def gridIndex (rate : Nat) (t : Ns) : Nat :=
  (t / 1000000000) * rate + ((t % 1000000000 + 1) * rate - 1) / 1000000000

/-- Whether t lies on the grid of a rate (R122, R165). -/
def onGrid (rate : Nat) (t : Ns) : Bool := rate != 0 && gridPoint rate (gridIndex rate t) == t

/-- The instant at which beat k of a DT second begins, from the second's start (R156). -/
def beatStart (k : Nat) : Ns := k * 1000000000 / 2400

/-- The beat in progress at t: its second's start and its number (R156). -/
def beatOf (t : Ns) : Nat × Nat :=
  (t / 1000000000 * 1000000000, ((t % 1000000000 + 1) * 2400 - 1) / 1000000000)

/-- DT of the beat boundary that follows t (R156). -/
def nextBoundary (t : Ns) : Ns :=
  let b := beatOf t
  if b.2 + 1 < 2400 then b.1 + beatStart (b.2 + 1) else b.1 + 1000000000

/-- DT of the first boundary at or after t. -/
def boundaryFrom (t : Ns) : Ns :=
  let b := beatOf t
  if b.1 + beatStart b.2 = t then t else nextBoundary t

/-- DT of the n-th boundary after t. -/
def boundaryAfter : Nat → Ns → Ns
  | 0, t => t
  | n + 1, t => boundaryAfter n (nextBoundary t)

/-- The beat boundary that the present beat began with: its number in its DT second and its DT. -/
def State.presentBoundary (s : State) : Nat × Ns := let t := beatOf s.dt; (t.2, t.1 + beatStart t.2)

/-! Counters (R9). -/

/-- A counter's key where it is kept once. -/
def ck (c : Ctr) : CtrKey := { c := c, u := 0, v := 0 }

/-- A counter's key per unit. -/
def ck1 (c : Ctr) (u : Nat) : CtrKey := { c := c, u := u, v := 0 }

/-- A counter's key per two unit numbers. -/
def ck2 (c : Ctr) (u v : Nat) : CtrKey := { c := c, u := u, v := v }

/-- A counter's value. -/
def State.ctr (s : State) (k : CtrKey) : Nat := (agetD s.ctrs k { val := 0, now := 0 }).val

/-- A counter's increments of the present beat (R13). -/
def State.ctrNow (s : State) (k : CtrKey) : Nat := (agetD s.ctrs k { val := 0, now := 0 }).now

/-- The counter after n more counts: 32 bits, saturating (R9). -/
def satAdd (a n : Nat) : Nat := if 0xFFFFFFFF < a + n then 0xFFFFFFFF else a + n

/-- Add n to a counter. -/
def State.bumpBy (s : State) (k : CtrKey) (n : Nat) : State :=
  { s with ctrs := aput s.ctrs k { val := satAdd (s.ctr k) n, now := satAdd (s.ctrNow k) n } }

/-- Add one to a counter. -/
def State.bump (s : State) (k : CtrKey) : State := s.bumpBy k 1

/-- Clear a counter (RC): it holds the increments of the present beat after the clear, and a further read of the beat finds
nothing (R13). -/
def State.clearCtr (s : State) (k : CtrKey) : State :=
  { s with ctrs := aput s.ctrs k { val := s.ctrNow k, now := s.ctrNow k }, ctrsAt := adel s.ctrsAt k }

/-- The next free value's number; each draw takes a new one. -/
def State.draw (s : State) : State := { s with free := s.free + 1 }

/-! Attention (R439-R441). -/

/-- The EMP object that holds a counter (SOURCE of Table EMP-6; Table EMP-8, log entry 25). -/
def ctrObject (k : CtrKey) : Nat :=
  match k.c with
  | .framesReceived | .runts | .oversize | .fcsErrors | .unsupportedTags | .wrongDest | .unattributed | .pauseFrames
  | .flowIgnored | .macOther | .pauseStalls | .framesTransmitted | .oversizeTx | .undelivered | .arpAnswered
  | .tcpOutOfOrder | .tcpResets | .tcpDiscarded | .linkUps | .linkDowns | .moduleInsertions | .modeDiscards
  | .unmatched | .ptpFrames | .commandsReceived | .empExecuted | .empDiscarded | .empQueueDiscards | .empCached
  | .empMismatch | .empStale | .empOld | .empNoAuthority | .empNoMode | .empExpired => 0x00100000 + k.u
  | .delivered | .ingressDrops | .wrongPort | .parseErrors | .sizeMismatches | .checkErrors | .layoutErrors
  | .unsupported | .cfgOther | .cfg2 | .cfgChanges | .invalidBlocks | .invalidSamples | .testFrames | .unsyncFrames
  | .authenticated | .authFailures | .unexpectedSec | .offGrid | .duplicates | .conflicts | .commandsSent
  | .stateEntries | .missing => 0x00110000 + k.u
  | .beforeStart | .early | .afterFinal | .between | .late =>
    if k.u < 65536 then 0x00110000 + k.u else 0x00150000 + (k.u - 65536)
  | .qualifications | .disqualifications | .dissents | .baseSteps => 0x00120001 + k.u
  | .holdoverEntries | .forcedConflicts | .dtSteps | .gnssFailed | .irigFailed | .ptpDiscarded => 0x00120005
  | .edgesLost | .stampsDropped | .glitches => 0x00120008 + k.u
  | .quorumMet | .quorumShort | .afterQuorum => 0x00130100 + k.u
  | .deadlineCloses | .deadlineAbsent | .afterDeadline => 0x00130200 + k.u
  | .rowsOpened | .rowsCommitted | .rowsUncommitted | .rowsStepped | .slotStalls => 0x00130000 + k.u
  | .laneAccepted | .laneBeforeSync | .laneDuringSync | .laneCrc | .laneFormat | .laneSequence | .laneLate | .laneGaps
  | .laneSwitches | .laneStops | .laneNosync | .laneOverflows => 0x00140000 + k.u
  | .bankCorrected | .bankUncorrectable | .partialWords | .flushedWords | .flushedPartial | .holdAssertions =>
    0x00140100 + k.u
  | .lateToFilter | .missingSamples => 0x00142000 + k.u
  | .estRestarts | .estInvalid => 0x00150000 + k.u
  | .threshEvents => 0x00140000
  | .underruns | .clips | .missingHistory => 0x00141000 + k.u
  | .wvClkLosses => 0x00140000
  | .oscFilled | .oscRestarts => 0x00160000 + k.u
  | .memberFills | .ringOverruns | .reassignments => 0x00168000 + 16 * k.u + 4 * k.v
  | .shedRestarts | .abandonedUpdates | .oscPickups | .oscDropouts => 0x00160000
  | .locRuns | .locReplaced | .locLeftOut => 0x00169000 + k.u
  | .statusChanges | .heldStatuses | .statusBehind | .evaluations | .coalesced | .islDeclared | .islWithdrawn
  | .islMerges | .gradeChanges | .islOverflows | .setsLost | .blockMoves | .cellMoves | .pairRelearns
  | .pairRestarts => 0x00180001
  | .detPickups | .detDropouts | .detSteps | .detRestarts => 0x0018A000 + k.u
  | .itemsPosted | .itemsDispatched | .itemsCompleted | .budgetWaits | .overruns | .borrowings | .shedDiscards
  | .aborts | .reissues | .abandoned | .watchdogs | .latePosts | .discardedPosts | .quorumStalls | .deadlineStalls
  | .delayLate | .thermalConflicts | .thermalEntries | .quarantines | .releasesRefused => 0x00190000 + k.u
  | .traceDrops | .shadowDisagreements => 0x00190004
  | .scansCompleted | .scansAbandoned | .tagDiscontinuities => 0x001A0000 + k.u
  | .undeliveredWrites | .tripLaunches | .tripRetries | .tripUnacked => 0x001A0100 + k.u
  | .lateLevels | .pulseDeferrals | .refusedEntries | .suppressedWrites => 0x001A0400 + k.u
  | .forcesApplied | .forcesReleased | .forcesRefused => 0x001A0500
  | .instKept | .instReset | .instNew => 0x001A0600
  | .triggersTaken => 0x001B0000
  | .recordsStarted | .triggersRefused | .captureFull | .laterTriggers | .queuedTriggers | .rangeConflicts
  | .rangeLimits | .truncations | .lostRows | .abortedRecords => 0x001B0100 + k.u
  | .overwrittenRecords | .xtrigPulses => 0x001B0000
  | .emptyLaunches | .skippedSets | .suppressed | .unsendable | .alarmChanges | .alarmRetransmits | .alarmAbsorbed
  | .takeoverGaps | .yielded => 0x001C0000 + k.u
  | .lateDrops | .lateLaunches | .queueHolds => 0x001C0100 + 8 * k.u + k.v
  | .repliesNotSent | .commandsAccepted | .commandsRefused | .commandsAbsorbed => 0x001C0000
  | .woideAuthFail | .woideStale | .woideApplied | .woideHeld | .woideRepeats | .woideBeyond | .woideUnknown
  | .woideRetransmits | .woideDowns | .fillsSent | .fillsTooLarge | .pairChangeRefused | .unmirrored | .ovDivergences
  | .roleDecisions | .positionConflicts | .splitBrains | .resyncs | .pathLosses => 0x001D0000
  | .loadsCommitted | .loadsRefused | .loadsAborted | .latchOverflows | .zeroiseTamper | .zeroiseService
  | .rekeyRefusals | .tampers => 0x001E0401
  | .halfUses | .exhaustions => 0x001E0000 + k.u
  | .stagingRefused | .stagingsStarted | .stagingsFailed | .activations => 0x00010006
  | .changeSetsApplied | .changeSetsRefused | .modeRefused | .loopConflicts | .uncorrectable | .correctable
  | .crossingRefused => 0x00010001
  | .crossings => 0x00200005
  | .clockFaults | .ghostScans | .touchRecals => 0x00200006
  | .bbxWritten | .bbxDropped => 0x001FFFFF

/-- The next number of a 32-bit sequence that wraps from 0xFFFF_FFFF to 1 (R440, R457, R355). -/
def nextSeq (n : Nat) : Nat := n % 0xFFFFFFFF + 1

/-- The oldest of a list of items by ASEQ, as the slot that holds it. -/
def oldestSlot : List (Nat × AttnItem) → Option (Nat × AttnItem)
  | [] => none
  | e :: es => match oldestSlot es with
    | none => some e
    | some m => some (if e.2.aseq ≤ m.2.aseq then e else m)

/-- The slot a posted item takes, and whether an item is lost for it (R440). -/
def AttnLog.place (a : AttnLog) : Nat × Bool :=
  match (List.range 1024).find? (fun i => (aget a.slots i).isNone) with
  | some i => (i, false)
  | none =>
    match oldestSlot (a.slots.filter (fun e => e.2.acked)) with
    | some e => (e.1, false)
    | none =>
      let low := a.slots.foldl (fun m e => min m e.2.lvl) 7
      match oldestSlot (a.slots.filter (fun e => e.2.lvl == low)) with
      | some e => (e.1, true)
      | none => (0, true)

/-- An attention log after one more item (R440). -/
def AttnLog.post (a : AttnLog) (dt : Ns) (lvl : Nat) (cls : AttClass) (src detail : Nat) : AttnLog :=
  let q := nextSeq a.head
  let p := a.place
  { a with
    slots := aput a.slots p.1 { aseq := q, posted := dt, lvl := lvl, cls := cls, acked := false, source := src,
                                detail := detail, ackedAt := 0 }
    head := q, toggle := !a.toggle, lost := if p.2 then satAdd a.lost 1 else a.lost, lostNow := if p.2 then satAdd a.lostNow 1 else a.lostNow }

/-- An attention log after its attention-lost counter has been read and cleared (R13). -/
def AttnLog.clearLost (a : AttnLog) : AttnLog := { a with lost := a.lostNow, lostAt := 0 }

/-- An attention log at the start of a beat: what a read of attention-lost returns in it (R13). -/
def AttnLog.newBeat (a : AttnLog) : AttnLog := { a with lostAt := a.lost, lostNow := 0 }

/-! Modes. -/

/-- Whether the running image pairs the device (R381). -/
def State.paired (s : State) : Bool := bitAt (headerFlags (s.rec_ .header 0)) 0

/-- A device that takes the STANDBY column of Table MOD-6 (R56): STANDBY; a paired device in WARMUP whose role is not
PRIMARY; DEGRADED entered from either. -/
def State.standbyColumn (s : State) : Bool :=
  s.boot.mode == .standby || (s.boot.mode == .warmup && s.paired && s.pair.role != .primary) ||
  (s.boot.mode == .degraded && s.boot.degStandby)

/-- A policy bit of the KEYS header (R416): 111 POL_LOGIC, 110 POL_PUBLISH, 109 POL_CAPTURE, 108 POL_MIRROR. -/
def State.policy (s : State) (bit : Nat) : Bool := bitAt (s.rec_ .keysHdr 0) bit

/-- The modes from WARMUP to HALT in which beats run (R41, R506). -/
def State.beatsRun (s : State) : Bool :=
  match s.boot.mode with
  | .warmup | .active | .standby | .takeover | .degraded | .forced | .replay | .tamperhold | .halt => true
  | _ => false

/-- The modes in which everything of the data path runs: beats run, and not HALT. -/
def State.works (s : State) : Bool := s.beatsRun && s.boot.mode != .halt

/-- Sequencers, slices and dispatchers run (R506): from the first boundary until HALT, whatever mode follows HALT. -/
def State.steps (s : State) : Bool := s.works && !s.sch.halted

/-- DO0-DO15 are driven (Table MOD-6). -/
def State.drivesDo (s : State) : Bool :=
  match s.boot.mode with
  | .warmup | .active | .takeover | .degraded => !s.standbyColumn
  | .forced => true
  | .tamperhold => s.policy 111
  | _ => false

/-- XTRIG_N is driven by capture (Table MOD-6). -/
def State.drivesXtrig (s : State) : Bool :=
  match s.boot.mode with
  | .warmup | .active | .takeover | .degraded | .standby | .forced => true
  | _ => false

/-- Periodic streams and alarms are published and not only assembled (Table MOD-6, R377). -/
def State.publishes (s : State) : Bool :=
  match s.boot.mode with
  | .warmup | .active | .takeover | .degraded => !s.standbyColumn
  | .forced => true
  | _ => false

/-- A hardware queue's frame is one the present mode sends (Table MOD-6, R55). -/
def State.sends (s : State) (f : TxFrame) (auth0 replayOk : Bool) (q : Nat) : Bool :=
  match s.boot.mode with
  | .warmup | .active | .takeover | .degraded | .standby | .forced => if s.standbyColumn then f.service else true
  | .replay => f.service || (replayOk && q != 7)
  | .tamperhold => f.service || (s.policy 110 && auth0)
  | .halt => q != 7 && (match f.body with | .ptp .. => true | _ => false)
  | _ => false

/-- Whether this device carries a token on PAIR_TOK_OUT (Table MOD-6, R381, R401). -/
def State.tokenOn (s : State) : Bool :=
  s.paired && (match s.boot.mode with
    | .warmup | .active | .takeover | .degraded | .standby | .forced | .replay => true
    | .tamperhold => s.policy 108
    | _ => false) && !(match s.pair.leaveAt with | some e => decide (e ≤ s.dt) | none => false)

/-- Width in µs of its token pulse (R383). -/
def State.tokenWidth (s : State) : Nat :=
  match s.pair.role with
  | .primary => 80
  | .standby => if s.boot.mode == .standby then 20 else 40
  | _ => 60

/-- Codes of Table MOD-1. -/
def Mode.code : Mode → Nat
  | .dormant => 0 | .unconfigured => 1 | .loading => 2 | .warmup => 3 | .active => 4 | .standby => 5
  | .takeover => 6 | .degraded => 7 | .forced => 8 | .replay => 9 | .tamperhold => 10 | .halt => 11

/-- Codes of Table EMP-13. -/
def Role.code : Role → Nat
  | .undecided => 0 | .primary => 1 | .standby => 2 | .unpaired => 3

/-- Codes of Table EMP-3. -/
def AttClass.code : AttClass → Nat
  | .none => 0 | .mode => 1 | .unit => 2 | .sec => 3 | .fault => 4 | .time => 5

/-! Transmit queues (R95-R97). -/

/-- Largest frame of a port with n VLAN tags (Table PRT-2). -/
def maxFrame (rec n : Nat) : Nat := if portJumbo rec = 1 then 9216 else 1518 + 4 * n

/-- Bytes of a queue's share of the transmit buffer (R86): QCARVE x 4 KiB; MP has its one queue of 256 KiB. -/
def queueRoom (rec p q : Nat) : Nat :=
  if p < 4 then fld (portQcarve rec) (8 * q + 7) (8 * q) * 4096 else 262144

/-- Bytes that a queue holds. -/
def queueUsed (l : List TxFrame) : Nat := l.foldl (fun n f => n + f.len) 0

/-- Place a frame in a transmit queue: refused when too long, held when the queue has no room (R96, R55; a Woide frame waits
inside its window, Table ARC-4 row 3). -/
def State.place (s : State) (p q : Nat) (f : TxFrame) : State :=
  let rec_ := s.rec_ .port p
  if maxFrame rec_ (b2n (f.vid != 0)) < f.len then s.bump (ck1 .oversizeTx p)
  else match s.ports[p]? with
    | none => s
    | some ps =>
      let l := ps.queues.getD q []
      if queueUsed l + f.len ≤ queueRoom rec_ p q && !(ps.waiting.any (fun w => w.1 == q)) then
        { s with ports := setAt s.ports p { ps with queues := setAt ps.queues q (l ++ [f]) } }
      else
        (if f.service || decide (4 ≤ p) then s else s.bump (ck2 .queueHolds p q)) |> fun s =>
        { s with ports := setAt s.ports p { ps with waiting := ps.waiting ++ [(q, f)] } }

/-! The sending side of the Tongs link (R384-R387) as far as other families need it. -/

/-- The committed half of a slot (R411). -/
def Slot.half (x : Slot) : Option Half := if x.commit then x.h1 else x.h0

/-- The half of a slot that is not committed. -/
def Slot.idle (x : Slot) : Option Half := if x.commit then x.h0 else x.h1

/-- A half serves an engine: its mask bit is set and its use counter is not exhausted (R411, R414). -/
def Half.serves (h : Half) (engine : Nat) : Bool := h.engines.getLsbD engine && !(h.life == 1 && h.uses == 0)

/-- The half that holds the pair key: the committed half of slot 8, with MIRROR in its mask (R384). -/
def State.pairHalf (s : State) : Option Half :=
  match aget s.vault.slots 8 with
  | some x => match x.half with | some h => if h.serves 2 then some h else none | none => none
  | none => none

/-- The pair key can be used. -/
def State.pairKey (s : State) : Bool := s.pairHalf.isSome

/-- A frame's tag verifies under the pair key (R384, Table PAI-4a). -/
def State.woideVerifies (s : State) (f : WoideFrame) : Bool :=
  match s.pairHalf with | some h => f.tag == woideTag f h.key | none => false

/-- Woide runs on MP (Table MOD-6): the device is paired, the mode carries Woide, and the pair key exists. -/
def State.woideOn (s : State) : Bool :=
  s.paired && s.works && s.pairKey && (s.boot.mode != .tamperhold || s.policy 108)

/-- Distance from sequence number b up to a, on the ring of 1 to 0xFFFF_FFFF (Table PAI-2). -/
def seqDist (a b : Nat) : Nat := (((a : Int) - b) % 0xFFFFFFFF).toNat

/-- ACK_MAP (Table PAI-2): bit n set when SEQ ACK + 2 + n is held. -/
def ackMap (p : PairSt) : BitVec 32 :=
  p.held.foldl (fun m f => let d := seqDist f.seq p.rxSeq
    if 2 ≤ d ∧ d ≤ 33 then m ||| (1#32 <<< (d - 2)) else m) 0

/-- Length of a Woide frame on the wire: header, payload, tag, addresses, type and FCS (R384). -/
def woideLen (plen : Nat) : Nat := 14 + 32 + plen + 16 + 4

/-- Build a frame with the session's next nonce, sealed under the pair key, and put it in MP's queue (R384). SEQ 0 for unsequenced
frames. -/
def State.woideBuild (s : State) (seq : Nat) (b : WoideBody) : State :=
  let p := s.pair
  let plain : WoideFrame := { session := p.session, nctr := p.nctr, seq := seq, ack := p.rxSeq, ackMap := ackMap p,
                              src := BitVec.ofNat 48 (portMac (s.rec_ .port 4)), tag := 0, body := b }
  let f : WoideFrame := { plain with tag := match s.pairHalf with | some h => woideTag plain h.key | none => 0 }
  let dst : BitVec 48 := match b with | .hello .. => 0xFFFFFFFFFFFF#48 | _ => p.partnerMac
  let t : TxFrame := { launch := 0, len := woideLen (woidePlen b), vid := 0, dstMac := dst, dstIp := 0, dport := 0, service := false, pcp := 0, body := .woide f }
  let w : WSent := { f := f, at_ := s.lts, tries := 0 }
  let s := { s with pair := { p with nctr := p.nctr + 1, ackDue := none, sent := if seq = 0 then p.sent else p.sent ++ [w] } }
  s.place 4 0 t

/-- Send waiting sequenced bodies inside the window of 128 (R387). -/
def State.woideFlush : Nat → State → State
  | 0, s => s
  | n + 1, s =>
    match s.pair.backlog with
    | [] => s
    | b :: bs =>
      if s.pair.sent.length < 128 then
        let q := nextSeq s.pair.txSeq
        State.woideFlush n (({ s with pair := { s.pair with backlog := bs, txSeq := q } }).woideBuild q b)
      else s

/-- The maps of the pair match (R389), by the MAP_HASH that the partner last gave. -/
def State.mapsMatch (s : State) : Bool :=
  match s.pair.partnerHash with | some h => h == s.boot.mapHash | none => true

/-- What an item is under mismatched maps (Table PAI-5): none where it is not mirrored then. -/
def deltaMismatched (d : Delta) : Option Delta :=
  match d with
  | .logicState t is _ => some (.logicState t is [])
  | .tripSeries .. | .oscAlarm .. | .island .. => none
  | d => some d

/-- The frames of an item: PARTS of them (R389). -/
def splitDelta (f : Nat → Nat → WoideBody) (d : Delta) : List WoideBody :=
  (List.range (deltaParts d)).map (fun i => f i (deltaParts d))

/-- A body as the maps let it leave (Table PAI-5), in its parts. -/
def State.mapped (s : State) (b : WoideBody) : List WoideBody :=
  match b with
  | .fill .. => if s.mapsMatch then [b] else []
  | .delta t _ _ d =>
    match (if s.mapsMatch then some d else deltaMismatched d) with
    | some d => splitDelta (fun i n => .delta t i n d) d
    | none => []
  | .snapshot t _ _ (some d) =>
    match (if s.mapsMatch then some d else deltaMismatched d) with
    | some d => splitDelta (fun i n => .snapshot t i n (some d)) d
    | none => []
  | b => [b]

/-- Bytes that MIRROR pays for when a body leaves: those of a delta's frame (Table SCH-1); a fill is charged where it is made. -/
def deltaOwed (b : WoideBody) : Nat :=
  match b with
  | .delta .. | .snapshot .. => woideLen (woidePlen b)
  | _ => 0

/-- Send a sequenced body while the link is UP; nothing leaves otherwise (R386, R389). Its bytes are charged to MIRROR at the next
boundary (log entry 71). -/
def State.mirror (s : State) (b : WoideBody) : State :=
  let bs := s.mapped b
  if s.woideOn && s.pair.link == .up then
    State.woideFlush 128 { s with pair := { s.pair with backlog := s.pair.backlog ++ bs,
                                                        owed := s.pair.owed + (bs.map deltaOwed).sum } }
  else s

/-! Posting. -/

/-- Post one attention item (R440) and mirror it (Table PAI-5, DELTA 8). -/
def State.post (s : State) (lvl : Nat) (cls : AttClass) (src detail : Nat) : State :=
  let s' := { s with attn := s.attn.post s.now lvl cls src detail }
  s'.mirror (.delta s.now 0 1 (.attention s'.attn.head lvl cls.code s.now src detail))

/-- Post an item for a counter's object. -/
def State.postFor (s : State) (lvl : Nat) (cls : AttClass) (k : CtrKey) (detail : Nat) : State :=
  s.post lvl cls (ctrObject k) detail

/-- Post an item once per unacknowledged latch (R441). -/
def State.postOnce (s : State) (lvl : Nat) (cls : AttClass) (k : CtrKey) (detail : Nat) : State :=
  if (aget s.attn.latched k).isSome then s
  else
    let s' := s.postFor lvl cls k detail
    { s' with attn := { s'.attn with latched := aput s'.attn.latched k s'.attn.head } }

/-- Count and post once per unacknowledged latch. -/
def State.bumpOnce (s : State) (k : CtrKey) (lvl : Nat) (cls : AttClass) : State := (s.bump k).postOnce lvl cls k 0

/-- Count a conflict of adaptive loop n of Table ARC-5 (0 capture, 1 thermal, 2 servo, 3 watermark), with attention
once per unacknowledged latch of the loop (R38); the servo's is at level 4 (R149). SOURCE is the object of the counter that
the loop's own chapter keeps. -/
def State.conflict (s : State) (n source : Nat) : State :=
  let k := ck1 .loopConflicts n
  let s := s.bump k
  if (aget s.attn.latched k).isSome then s
  else
    let s' := s.post 4 .unit source 0
    { s' with attn := { s'.attn with latched := aput s'.attn.latched k s'.attn.head } }

/-! Black-box records (R457-R461). -/

/-- A record was dropped (R461): LOSS in the next record written, the count, and the crossing of BBX_LOSS (R465), which
lasts until that record is written. The crossing's own SENSOR record finds the queue full and is dropped in turn. -/
def State.bbxDrop (s : State) : State :=
  let s := ({ s with bbx := { s.bbx with lossFlag := true } }).bump (ck .bbxDropped)
  if s.sens.cond.getLsbD 8 then s
  else
    let s := { s with sens := { s.sens with cond := s.sens.cond ||| 0x100#32, seen := s.sens.seen ||| 0x100#32,
                                            seenNow := s.sens.seenNow ||| 0x100#32 } }
    (((s.bump (ck1 .crossings 8)).postOnce 4 .unit (ck1 .crossings 8) 0)).bump (ck .bbxDropped)

/-- The queue after a FAULT record has taken the place of its newest record of another class; none when all are FAULT. -/
def displaceNewest (r : BbxRec) (q : List BbxRec) : Option (List BbxRec) :=
  match q.reverse.findIdx? (fun x => x.cls != .fault) with
  | some i => some (q.eraseIdx (q.length - 1 - i) ++ [r])
  | none => none

/-- Queue a record (R461): dropped or displacing when all 16 places are taken. -/
def State.bbxQueue (s : State) (r : BbxRec) : State :=
  let q := s.bbx.queue
  if q.length < 16 then { s with bbx := { s.bbx with queue := q ++ [r] } }
  else if r.cls == .fault then
    match displaceNewest r q with
    | some q' => ({ s with bbx := { s.bbx with queue := q' } }).bbxDrop
    | none => s.bbxDrop
  else s.bbxDrop

/-- A record as posted: mode, DT, LTS and time-status word at posting; slot fields filled at the write. -/
def State.bbxRec (s : State) (cls : AttClass) (event aseq : Nat) (payload : Bytes) : BbxRec :=
  { cls := cls, mode := s.boot.mode, ffz := false, loss := false, event := event, epoch := 0, seq := 0, dt := s.now,
    lts := if s.dtRuns then s.lts else 0, tsw := s.time.tsw, payload := payload, aseq := aseq, mac := 0 }

/-- Post a record with no attention item. -/
def State.bbxPost (s : State) (event : Nat) (payload : Bytes) : State := s.bbxQueue (s.bbxRec .none event 0 payload)

/-- Post an item and the record that goes with it (CLASS and ASEQ of Table BBX-1). -/
def State.bbxWith (s : State) (lvl : Nat) (cls : AttClass) (src detail : Nat) (event : Nat) (payload : Bytes) : State :=
  let s' := s.post lvl cls src detail
  s'.bbxQueue (s'.bbxRec cls event s'.attn.head payload)

/-! Mode transitions (R42). -/

/-- Take transition t into a mode: the mode changes, and one black-box record is written, with the transition's
attention item at its level and class (Table MOD-2). -/
def State.transit (s : State) (t : Nat) (m : Mode) (lvl : Nat) (cls : AttClass) : State :=
  let old := s.boot.mode
  let s := { s with boot := { s.boot with mode := m } }
  s.bbxWith lvl cls 0x00010001 t 0x0001 [BitVec.ofNat 8 old.code, BitVec.ofNat 8 m.code, BitVec.ofNat 8 t]

/-- An event that Table MOD-2 does not list for the mode is refused and counted (R42, R44). -/
def State.refuseEvent (s : State) : State := s.bump (ck .modeRefused)

/-! Convergence (R51, R52). -/

/-- Note that a function's unit has delivered a valid value. -/
def State.deliveredFn (s : State) (fn unit : Nat) : State :=
  if s.boot.delivered.contains (fn, unit) then s
  else { s with boot := { s.boot with delivered := s.boot.delivered ++ [(fn, unit)] } }

/-- Note that a function's unit has converged, for leaving WARMUP (R52). -/
def State.converge (s : State) (fn unit : Nat) : State :=
  let s := s.deliveredFn fn unit
  if s.boot.converged.contains (fn, unit) then s
  else { s with boot := { s.boot with converged := s.boot.converged ++ [(fn, unit)] } }

/-- A function counts as converged: a unit has, and every unit that delivered has (R52). -/
def State.fnConverged (s : State) (fn : Nat) : Bool :=
  let d := s.boot.delivered.filter (fun e => e.1 == fn)
  !d.isEmpty && d.all (fun e => s.boot.converged.contains e)

/-- Nothing counts as converged any more (R52) but capture, row 13 of Table MOD-5, which converges at once. -/
def State.unconverge (s : State) : State :=
  let keep (l : List (Nat × Nat)) : List (Nat × Nat) := l.filter (fun e => e.1 == 13)
  { s with boot := { s.boot with converged := keep s.boot.converged, delivered := keep s.boot.delivered } }

/-- The mandatory functions that have not converged (R52, R53). -/
def State.unconvergedFns (s : State) : List Nat :=
  (bitsOf 14 (headerMandatory (s.rec_ .header 0))).filter (fun n => !s.fnConverged n)

/-! Transmit queues (R55). -/

/-- The queue of command frames and replies (CMD_QUEUE, R55). -/
def State.cmdQueue (s : State) : Nat := pubHdrCmdQueue (s.rec_ .pubHdr 0)

/-! Change of the per-unit lists. -/

/-- Change one stream's intake state. -/
def State.modStream (s : State) (sid : Nat) (f : StreamSt → StreamSt) : State :=
  { s with streams := amod s.streams sid StreamSt.reset f }

/-- A stream's intake state. -/
def State.streamSt (s : State) (sid : Nat) : StreamSt := agetD s.streams sid StreamSt.reset

/-- A port's state. -/
def State.port (s : State) (p : Nat) : PortSt := s.ports.getD p PortSt.reset

/-- Change a port's state. -/
def State.modPort (s : State) (p : Nat) (f : PortSt → PortSt) : State := { s with ports := modAt s.ports p f }

/-- A slice's state. -/
def State.slice (s : State) (r : Nat) : SliceSt := s.align.slices.getD r SliceSt.reset

/-- Change a slice's state. -/
def State.modSlice (s : State) (r : Nat) (f : SliceSt → SliceSt) : State :=
  { s with align := { s.align with slices := modAt s.align.slices r f } }

/-- A region's dispatch state. -/
def State.reg (s : State) (r : Nat) : RegSt := s.sch.regs.getD r RegSt.reset

/-- Change a region's dispatch state. -/
def State.modReg (s : State) (r : Nat) (f : RegSt → RegSt) : State :=
  { s with sch := { s.sch with regs := modAt s.sch.regs r f } }

/-- A cell's state. -/
def State.cell (s : State) (c : Nat) : CellSt := s.sch.cells.getD c CellSt.reset

/-- Change a cell's state. -/
def State.modCell (s : State) (c : Nat) (f : CellSt → CellSt) : State :=
  { s with sch := { s.sch with cells := modAt s.sch.cells c f } }

/-- An output stream's state. -/
def State.pubStream (s : State) (n : Nat) : PubStream := s.pub.streams.getD n PubStream.reset

/-- Change an output stream's state. -/
def State.modPub (s : State) (n : Nat) (f : PubStream → PubStream) : State :=
  { s with pub := { s.pub with streams := modAt s.pub.streams n f } }

/-- A discrete output's state. -/
def State.doSt (s : State) (d : Nat) : DoSt := s.logic.dos.getD d DoSt.reset

/-- Change a discrete output's state. -/
def State.modDo (s : State) (d : Nat) (f : DoSt → DoSt) : State :=
  { s with logic := { s.logic with dos := modAt s.logic.dos d f } }

/-- A capture class's state. -/
def State.capCls (s : State) (c : Nat) : CapCls := s.cap.classes.getD c CapCls.reset

/-- Change a capture class's state. -/
def State.modCap (s : State) (c : Nat) (f : CapCls → CapCls) : State :=
  { s with cap := { s.cap with classes := modAt s.cap.classes c f } }

/-- A class is shed in a region (R308, R309). -/
def State.shed (s : State) (r cls : Nat) : Bool := (s.reg r).shed.contains cls

end Sys2Proof.Machine
end

