-- ==== Sys2Proof/Machine/Operands.lean ====
section
/-! DEFINITION. The value forms of the block: IEEE 754 binary32 words with round to nearest even (log entry 26), the
rendering of values in the encodings of the channel map, and C37.118.2 layouts and their fields (R114-R116, R508). -/

namespace Sys2Proof.Machine

/-! Float32 words. -/

/-- The quiet NaN of R220. -/
def qnan : Word := 0x7FC00000#32

/-- Every NaN. -/
def isNan (w : Word) : Bool := w.toNat % 2 ^ 31 > 0x7F800000

/-- Plus or minus infinity. -/
def isInf (w : Word) : Bool := w.toNat % 2 ^ 31 == 0x7F800000

/-- The sign bit. -/
def signBit (w : Word) : Bool := w.getLsbD 31

/-- A finite word's exact value as a fraction: numerator and power-of-two denominator. -/
def fracOf (w : Word) : Int × Nat :=
  let m := w.toNat % 2 ^ 23
  let e := w.toNat / 2 ^ 23 % 256
  let mant := if e = 0 then m else m + 2 ^ 23
  let e' := if e = 0 then 1 else e
  let v : Int × Nat := if 150 ≤ e' then (((mant * 2 ^ (e' - 150) : Nat) : Int), 1) else ((mant : Int), 2 ^ (150 - e'))
  if signBit w then (-v.1, v.2) else v

/-- The magnitude word nearest to a positive fraction, ties to even. -/
def roundMag (a d : Nat) : Nat :=
  let e0 : Int := (Nat.log2 a : Int) - (Nat.log2 d : Int) - 23
  let low : Bool := if 0 ≤ e0 + 23 then decide (a < d * 2 ^ (e0 + 23).toNat) else decide (a * 2 ^ (-(e0 + 23)).toNat < d)
  let e := max (if low then e0 - 1 else e0) (-149)
  let n := if 0 ≤ e then a else a * 2 ^ (-e).toNat
  let m := if 0 ≤ e then d * 2 ^ e.toNat else d
  let q := n / m
  let r := n % m
  let q := if 2 * r > m ∨ (2 * r = m ∧ q % 2 = 1) then q + 1 else q
  let bits := if q < 2 ^ 23 then q else (e + 150).toNat * 2 ^ 23 + (q - 2 ^ 23) - 0
  if 0x7F800000 ≤ bits then 0x7F800000 else bits

/-- The float32 word nearest to a fraction. -/
def roundFrac (n : Int) (d : Nat) : Word :=
  if n = 0 then 0
  else if 0 < n then BitVec.ofNat 32 (roundMag n.toNat d)
  else BitVec.ofNat 32 (0x80000000 + roundMag (-n).toNat d)

/-- Minus. -/
def fNeg (w : Word) : Word := w ^^^ 0x80000000#32

/-- Magnitude. -/
def fAbs (w : Word) : Word := w &&& 0x7FFFFFFF#32

/-- Sum. -/
def fAdd (a b : Word) : Word :=
  if isNan a || isNan b then qnan
  else if isInf a then (if isInf b && a != b then qnan else a)
  else if isInf b then b
  else
    let x := fracOf a
    let y := fracOf b
    let n := x.1 * y.2 + y.1 * x.2
    if n = 0 then (if signBit a && signBit b then 0x80000000#32 else 0) else roundFrac n (x.2 * y.2)

/-- Difference. -/
def fSub (a b : Word) : Word := if isNan b then qnan else fAdd a (fNeg b)

/-- Whether a word is a zero of either sign. -/
def isZero (w : Word) : Bool := w.toNat % 2 ^ 31 == 0

/-- A word with the sign of a product. -/
def withSign (neg : Bool) (w : Word) : Word := if neg then w ||| 0x80000000#32 else w

/-- Product. -/
def fMul (a b : Word) : Word :=
  if isNan a || isNan b then qnan
  else
    let neg := signBit a != signBit b
    if isInf a || isInf b then (if isZero a || isZero b then qnan else withSign neg 0x7F800000#32)
    else
      let x := fracOf a
      let y := fracOf b
      if x.1 * y.1 = 0 then withSign neg 0 else roundFrac (x.1 * y.1) (x.2 * y.2)

/-- Quotient; division by zero gives the quiet NaN (Table LOG-5). -/
def fDiv (a b : Word) : Word :=
  if isNan a || isNan b || isZero b then qnan
  else
    let neg := signBit a != signBit b
    if isInf a then (if isInf b then qnan else withSign neg 0x7F800000#32)
    else if isInf b then withSign neg 0
    else
      let x := fracOf a
      let y := fracOf b
      if x.1 = 0 then withSign neg 0
      else roundFrac (x.1 * y.2 * (if y.1 < 0 then -1 else 1)) (x.2 * y.1.natAbs)

/-- The order of two words that are no NaN: an integer that rises with the value. -/
def fOrd (w : Word) : Int := if signBit w then -((w.toNat % 2 ^ 31 : Nat) : Int) else ((w.toNat % 2 ^ 31 : Nat) : Int)

/-- a < b; false where one is a NaN. -/
def fLt (a b : Word) : Bool := !isNan a && !isNan b && decide (fOrd a < fOrd b)

/-- a ≤ b; false where one is a NaN. -/
def fLe (a b : Word) : Bool := !isNan a && !isNan b && decide (fOrd a ≤ fOrd b)

/-- a = b in value; false where one is a NaN. -/
def fEq (a b : Word) : Bool := !isNan a && !isNan b && decide (fOrd a = fOrd b)

/-- The lesser of two words; the quiet NaN where one is a NaN (Table LOG-5). -/
def fMin (a b : Word) : Word := if isNan a || isNan b then qnan else if fLe a b then a else b

/-- The greater of two words. -/
def fMax (a b : Word) : Word := if isNan a || isNan b then qnan else if fLe b a then a else b

/-- An integer as a float32 word. -/
def fOfInt (n : Int) : Word := roundFrac n 1

/-- A whole number of thousandths as a float32 word. -/
def fOfFrac (n : Int) (d : Nat) : Word := roundFrac n d

/-- π as a fraction, to 35 decimal places (log entry 26). -/
def piNum : Nat := 314159265358979323846264338327950288

/-- Its denominator. -/
def piDen : Nat := 100000000000000000000000000000000000

/-- wrap: an angle moved by whole turns into (−π, π] (R215), rounded to float32. -/
def fWrap (w : Word) : Word :=
  if isNan w || isInf w then qnan
  else
    let x := fracOf w
    -- k whole turns: the least k with x - 2πk ≤ π, that is k = ⌈(x - π) / 2π⌉
    let num : Int := x.1 * piDen - piNum * x.2
    let den : Int := 2 * piNum * x.2
    let k : Int := -((-num) / den)
    if k = 0 then w else roundFrac (x.1 * piDen - 2 * piNum * x.2 * k) (x.2 * piDen)

/-- Truncation towards zero of a finite word. -/
def fTrunc (w : Word) : Int := let x := fracOf w; if x.1 < 0 then -((-x.1) / x.2) else x.1 / x.2

/-- The nearest whole number to a fraction, halves away from zero (log entry 26). -/
def roundHalf (n : Int) (d : Nat) : Int :=
  if n < 0 then -((2 * -n + d) / (2 * d)) else (2 * n + d) / (2 * d)

/-- A word times a whole number, rounded to a whole number. -/
def fScaled (w : Word) (num den : Nat) : Int := let x := fracOf w; roundHalf (x.1 * num) (x.2 * den)

/-! INT32. -/

/-- A word as a signed integer. -/
def toI32 (w : Word) : Int := w.toInt

/-- A signed integer saturated to INT32 (ADDI, SUBI of Table LOG-7). -/
def satI32 (n : Int) : Word :=
  if n > 2147483647 then 0x7FFFFFFF#32 else if n < -2147483648 then 0x80000000#32 else BitVec.ofInt 32 n

/-! C37.118.2 frames (R114-R116). -/

/-- Bytes of a value of a channel entry in a frame: phasor, analog, digital word, frequency pair (R115). -/
def valueBytes (source enc : Nat) : Nat :=
  match source with
  | 0 | 3 => if enc = 4 then 8 else 4
  | 1 => if enc = 4 then 4 else 2
  | 2 => 2
  | _ => 0

/-- A value placed in a stream's layout: source, position, encoding, its byte offset and its block. -/
structure LayoutVal where
  source : Nat
  pos : Nat
  enc : Nat
  off : Nat
  block : Nat
  deriving DecidableEq, Repr

/-- One step of the layout walk (R114): `pairSeen` says that the block's frequency pair has passed. -/
structure LayoutAcc where
  vals : List LayoutVal
  off : Nat
  blocks : Nat
  pairSeen : Bool
  stats : List Nat
  deriving DecidableEq, Repr

/-- Place one channel entry's value: a phasor or a pair after the pair's block opens the next block. -/
def layoutStep (a : LayoutAcc) (r : Nat) : LayoutAcc :=
  let src := chanSource r
  let pos := chanPosition r
  if chanValid r = 0 ∨ 3 < src then a
  else if a.vals.any (fun v => v.source == src && v.pos == pos) then a
  else
    let new : Bool := a.blocks == 0 || (a.pairSeen && (src == 0 || src == 3))
    let off := if new then a.off + 2 else a.off
    let blocks := if new then a.blocks + 1 else a.blocks
    let n := valueBytes src (chanEncoding r)
    { vals := a.vals ++ [{ source := src, pos := pos, enc := chanEncoding r, off := off, block := blocks - 1 }]
      off := off + n, blocks := blocks, pairSeen := if src == 3 then true else if new then false else a.pairSeen
      stats := if new then a.stats ++ [a.off] else a.stats }

/-- The layout of a stream's data frame from its channel-map entries, read in order (R114). -/
def State.layout (s : State) (sid : Nat) : LayoutAcc :=
  let r := s.rec_ .stream sid
  (List.range (streamChanCount r)).foldl (fun a i => layoutStep a (s.rec_ .chan (streamChanBase r + i)))
    { vals := [], off := 14, blocks := 0, pairSeen := false, stats := [] }

/-- The layout size: 16 bytes and the blocks (R115); CHK follows the last block. -/
def State.layoutSize (s : State) (sid : Nat) : Nat := (s.layout sid).off + 2

/-- A stream's STAT word of a block (R116). -/
def blockStat (l : LayoutAcc) (b : Bytes) (i : Nat) : Nat := beAt b (l.stats.getD i 0) 2

/-- C37.118.2 frame type: bits 6:4 of the second SYNC byte (R116). -/
def c37Type (b : Bytes) : Nat := fld (beAt b 1 1) 6 4

/-- C37.118.2 version: bits 3:0 of the second SYNC byte. -/
def c37Version (b : Bytes) : Nat := fld (beAt b 1 1) 3 0

/-- FRAMESIZE. -/
def c37Size (b : Bytes) : Nat := beAt b 2 2

/-- IDCODE. -/
def c37Id (b : Bytes) : Nat := beAt b 4 2

/-- SOC. -/
def c37Soc (b : Bytes) : Nat := beAt b 6 4

/-- FRACSEC. -/
def c37Frac (b : Bytes) : Nat := beAt b 10 4

/-- The CHK word and whether it verifies (R116). -/
def c37ChkOk (b : Bytes) : Bool :=
  18 ≤ b.length + 2 && 2 ≤ b.length && (crcCcitt (b.take (b.length - 2))).toNat == beAt b (b.length - 2) 2

/-! Real numbers in units of 2^-60. -/

/-- One. -/
def fxOne : Int := 2 ^ 60

/-- π. -/
def fxPi : Int := (piNum : Int) * 2 ^ 60 / piDen

/-- A finite float32 word. -/
def fxOfWord (w : Word) : Int := let x := fracOf w; x.1 * 2 ^ 60 / x.2

/-- The float32 word nearest to a real number. -/
def fxWord (n : Int) : Word := roundFrac n (2 ^ 60)

/-- wrap of R215: whole turns taken off into (−π, π]. -/
def fxWrap (a : Int) : Int := a - 2 * fxPi * (-((fxPi - a) / (2 * fxPi)))

/-- The greatest whole number whose square is not above n, for n below 2^1024. -/
def isqrt (n : Nat) : Nat := (List.range 512).foldr (fun k r => if (r + 2 ^ k) * (r + 2 ^ k) ≤ n then r + 2 ^ k else r) 0

/-- cos(2πa ÷ b). -/
def cosTurn (a b : Nat) : Int := Config.cosFx (2 * fxPi * (a % max b 1) / max b 1)

/-- sin x = cos(x − π ÷ 2). -/
def sinFx (x : Int) : Int := Config.cosFx (x - fxPi / 2)

/-- sin(2πa ÷ b). -/
def sinTurn (a b : Nat) : Int := sinFx (2 * fxPi * (a % max b 1) / max b 1)

/-- The angle of a vector in (−π, π]. -/
def argOf (v : Int × Int) : Int := fxWrap (Config.argFx v.1 v.2)

/-- Magnitude and angle of rectangular parts, each formed exactly and rounded once (log entry 18). -/
def polarOf (re im : Word) : Word × Word :=
  if isNan re || isNan im || isInf re || isInf im then (qnan, qnan)
  else
    let a := fracOf re
    let b := fracOf im
    let x := a.1 * b.2
    let y := b.1 * a.2
    let d := a.2 * b.2
    (roundFrac (isqrt ((x.natAbs * x.natAbs + y.natAbs * y.natAbs) * 2 ^ 120)) (d * 2 ^ 60), fWrap (fxWord (argOf (x, y))))

/-- Rectangular parts of a magnitude and an angle, each rounded once (log entry 18). -/
def rectOf (mag ang : Word) : Word × Word :=
  if isNan mag || isNan ang || isInf mag || isInf ang then (qnan, qnan)
  else
    let m := fracOf mag
    let th := fxOfWord ang
    (roundFrac (m.1 * Config.cosFx th) (m.2 * 2 ^ 60), roundFrac (m.1 * sinFx th) (m.2 * 2 ^ 60))

/-- A raw 16-bit count as a float32 word. -/
def i16f (n : Nat) : Word := fOfInt (signed 16 n)

/-- FNOM in Hz (F_NOM, Table WAV-1). -/
def State.fNom (s : State) : Nat := if frontEndFNom (s.rec_ .frontEnd 0) = 1 then 60 else 50

/-- The two words of a value of a C37.118.2 data frame before SCALE: a phasor's magnitude and angle, an analog, a
digital word, or a frequency pair after the C37.118.2 conversion with F_NOM (R350). Rectangular parts are turned
into magnitude and angle. -/
def State.rawValue (s : State) (fmt : Nat) (v : LayoutVal) (b : Bytes) : Word × Word :=
  let polar := bitAt fmt 0
  match v.source with
  | 0 =>
    let p : Word × Word :=
      if v.enc = 4 then (BitVec.ofNat 32 (beAt b v.off 4), BitVec.ofNat 32 (beAt b (v.off + 4) 4))
      else if polar then (fOfInt (beAt b v.off 2), fOfFrac (signed 16 (beAt b (v.off + 2) 2)) 10000)
      else (i16f (beAt b v.off 2), i16f (beAt b (v.off + 2) 2))
    if polar then p
    else polarOf p.1 p.2
  | 1 => (if v.enc = 4 then BitVec.ofNat 32 (beAt b v.off 4) else i16f (beAt b v.off 2), 0)
  | 2 => (BitVec.ofNat 32 (beAt b v.off 2), 0)
  | 3 =>
    if v.enc = 4 then (BitVec.ofNat 32 (beAt b v.off 4), BitVec.ofNat 32 (beAt b (v.off + 4) 4))
    else (fOfFrac (signed 16 (beAt b v.off 2) + 1000 * (s.fNom : Int)) 1000, fOfFrac (signed 16 (beAt b (v.off + 2) 2)) 100)
  | _ => (0, 0)

/-- SCALE × value + OFFSET as its source takes them (R218, R350, R508): a phasor's magnitude takes SCALE alone, a
digital word and a frequency pair neither. -/
def scaled (chan : Nat) (v : Word × Word) : Word × Word :=
  let sc := BitVec.ofNat 32 (chanScale chan)
  let off := BitVec.ofNat 32 (chanOffset chan)
  match chanSource chan with
  | 0 => (fMul v.1 sc, v.2)
  | 1 | 4 | 5 | 7 => (fAdd (fMul v.1 sc) off, v.2)
  | _ => v

/-- A float32 word in an integer encoding, rounded, and saturated to the field (R508, R220). -/
def toInt16 (n : Int) : Nat := wrap 16 (if n > 32767 then 32767 else if n < -32767 then -32767 else n)

end Sys2Proof.Machine
end

