-- ==== Sys2Proof/Machine/Flags.lean ====
section
/-! DEFINITION. The status bytes and words that the block computes: the time-status word (Table TIM-8), its bits on the
wire (Table TIM-9), the member status byte (Table ALN-4), the quality byte (R315) and the IEC 61850 quality (R374),
and the status word of EMP (Table EMP-3). -/

namespace Sys2Proof.Machine

/-! The time-status word. E is kept in units of 1/17,280,000 ns (log entry 27). -/

/-- Units of E in one ns. -/
def errUnit : Nat := 17280000

/-- E in ns, rounded up (R147, group 0x0012 index 0). -/
def State.errNs (s : State) : Nat := (s.time.err + errUnit - 1) / errUnit

/-- TIME_ACC: the largest n up to 24 with 2^-n s ≥ E; 31 when there is none, and while NEVER_LOCKED. -/
def timeAcc (err : Nat) (never : Bool) : Nat :=
  if never then 31
  else match ((List.range 25).reverse.find? (fun n => decide (err * 2 ^ n ≤ 1000000000 * errUnit))) with
    | some n => n
    | none => 31

/-- STAT_TQ by E (R152). -/
def statTq (err : Nat) (never : Bool) : Nat :=
  if never then 7
  else if err < 100 * errUnit then 1 else if err < 1000 * errUnit then 2 else if err < 10000 * errUnit then 3
  else if err < 100000 * errUnit then 4 else if err < 1000000 * errUnit then 5 else if err < 10000000 * errUnit then 6
  else 7

/-- TQ_CODE by E where it is not 0x0 (R152): the smallest n from 1 to 0xB with E ≤ 10^(n-10) s. -/
def tqByErr (err : Nat) (never : Bool) : Nat :=
  if never then 15
  else match ((List.range 11).find? (fun i => decide (err ≤ 10 ^ i * errUnit))) with
    | some i => i + 1
    | none => 15

/-- SYNC_ERR: E exceeds SYNC_LIMIT × 10 ns, or NEVER_LOCKED. -/
def State.syncErr (s : State) : Bool :=
  s.time.neverLocked || decide (timeHdrSyncLimit (s.rec_ .timeHdr 0) * 10 * errUnit < s.time.err)

/-- Whole seconds since HOLDOVER began. -/
def State.hoSeconds (s : State) : Nat := (s.dt - s.time.hoSince) / 1000000000

/-- UNLOCKED (Table TIM-8). -/
def State.unlockedBits (s : State) : Nat :=
  if s.time.neverLocked then 3
  else if s.time.holdover then
    (let t := s.hoSeconds; if t < 10 then 0 else if t < 100 then 1 else if t < 1000 then 2 else 3)
  else 0

/-- The UTC offset comes from a QUALIFIED PTP base, record 0 before record 1 (R154): its value. -/
def State.ptpUtc (s : State) : Option Nat :=
  let srcs := timeHdrTbSrcs (s.rec_ .timeHdr 0)
  let base (code : Nat) : Option Nat :=
    (List.range 4).find? (fun b => fld srcs (15 - 4 * b) (12 - 4 * b) == code &&
      (s.time.bases.getD b BaseSt.reset).st == .qualified)
  let off (n : Nat) : Option Nat :=
    match base (n + 1) with
    | some _ => match (s.time.ptp.getD n PtpSt.reset).master with | some m => m.ann.utcOffset | none => none
    | none => none
  match off 0 with | some v => some v | none => off 1

/-- TAI − UTC as its sources give it now (R154). -/
def State.utcSource (s : State) : Nat :=
  match s.ptpUtc with | some v => v | none => timeHdrUtcOffsetDef (s.rec_ .timeHdr 0)

/-- TAI − UTC before any leap event at hand (R154). -/
def State.utcOffset (s : State) : Nat := match s.time.leap with | some _ => s.time.leapOff | none => s.utcSource

/-- Leap bits at a DT second (R154): pending, direction, occurred. The event of `leap` is the DT second at whose start
the inserted second begins, or at which the second after the deleted one begins. -/
def State.leapBits (s : State) : Bool × Bool × Bool :=
  match s.time.leap with
  | none => (false, false, false)
  | some (e, del) =>
    let sec := s.dt / 1000000000
    let stop := if del then e else e + 1
    (decide (e ≤ sec + 60) && decide (sec < stop), del, decide (e ≤ sec) && decide (sec < e + 86400))

/-- Time-status word of the present moment (Table TIM-8, R152); latched at each boundary (R151). -/
def State.tswNow (s : State) : BitVec 32 :=
  let t := s.time
  let nl := t.neverLocked
  let se := s.syncErr
  let l := s.leapBits
  let tq := if t.majority && !t.holdover && !se then 0 else tqByErr t.err nl
  BitVec.ofNat 32 (timeAcc t.err nl * 2 ^ 27 + b2n s.ptpUtc.isSome * 2 ^ 26 + b2n t.refLost * 2 ^ 25 + b2n nl * 2 ^ 24 +
    tq * 2 ^ 20 + statTq t.err nl * 2 ^ 17 + s.unlockedBits * 2 ^ 15 + b2n se * 2 ^ 14 + b2n t.holdover * 2 ^ 13 +
    b2n t.forcedHo * 2 ^ 12 + b2n l.1 * 2 ^ 11 + b2n l.2.1 * 2 ^ 10 + b2n l.2.2 * 2 ^ 9)

/-- Latch the time-status word (R151): at the start of a boundary, and where a forced holdover begins or ends at it (R149). -/
def State.latchTsw (s : State) : State := { s with time := { s.time with tsw := s.tswNow } }

/-- Time-quality byte of FRACSEC (Table TIM-9). -/
def tqByte (w : BitVec 32) : Nat :=
  fld w.toNat 10 10 * 64 + fld w.toNat 9 9 * 32 + fld w.toNat 11 11 * 16 + fld w.toNat 23 20

/-- STAT bits 13, 8:6 and 5:4 of a block of the device's own (Table TIM-9). -/
def statTime (w : BitVec 32) : Nat :=
  fld w.toNat 14 14 * 2 ^ 13 + fld w.toNat 19 17 * 64 + fld w.toNat 16 15 * 16

/-- smpSynch of published sampled values (Table TIM-9). -/
def smpSynchOf (w : BitVec 32) : Nat := if bitAt w.toNat 14 then 0 else 2

/-- TimeQuality octet of GOOSE time stamps (Table TIM-9). -/
def goTimeQuality (w : BitVec 32) : Nat :=
  let n := w.toNat
  fld n 26 26 * 128 + b2n (bitAt n 25 || bitAt n 24) * 64 + b2n (bitAt n 13 || bitAt n 24) * 32 + fld n 31 27

/-- SOC of an outgoing frame at DT second n (R155): SECONDS − (TAI − UTC), an inserted second repeating 23:59:59. -/
def State.socOf (s : State) (sec : Nat) : Nat :=
  match s.time.leap with
  | some (e, del) =>
    if e ≤ sec then (if del then sec - (s.utcOffset - 1) else sec - (s.utcOffset + 1)) else sec - s.utcOffset
  | none => sec - s.utcOffset

/-- DT second of a received SOC (R155): the offset in force, and the offset after the event for a repeated 23:59:59
that carries Leap Second Occurred. -/
def State.secOfSoc (s : State) (soc : Nat) (occurred : Bool) : Nat :=
  match s.time.leap with
  | some (e, del) =>
    let after := if del then s.utcOffset - 1 else s.utcOffset + 1
    let first := e - s.utcOffset
    if first ≤ soc ∨ (occurred ∧ soc + 1 = first) then soc + after else soc + s.utcOffset
  | none => soc + s.utcOffset

/-! Member status (Table ALN-4). -/

/-- The member status byte from its bits. -/
def statusByte (present invalid test stale mirror auth notExp : Bool) : BitVec 8 :=
  BitVec.ofNat 8 (b2n present * 128 + b2n (invalid && present) * 64 + b2n test * 32 + b2n stale * 16 + b2n mirror * 8 +
    b2n auth * 4 + b2n (notExp && !present) * 2)

/-- Usable input of analytics: PRESENT, and INVALID, TEST and STALE clear (R235). -/
def inputSample (m : Member) : Bool :=
  m.status.getLsbD 7 && !m.status.getLsbD 6 && !m.status.getLsbD 5 && !m.status.getLsbD 4

/-- Usable value of a detector (R270): as above, NOT_EXPECTED clear. -/
def usable (m : Member) : Bool := inputSample m && !m.status.getLsbD 1

/-! Quality (R315, Table PUB-6). -/

/-- Quality byte of an INPUT variable from its member's status byte and its source's gate (R315). -/
def inputQuality (st : BitVec 8) (gated : Bool) : BitVec 8 :=
  BitVec.ofNat 8 (b2n (!st.getLsbD 7 || st.getLsbD 6) * 128 + b2n (st.getLsbD 4) * 64 + b2n (st.getLsbD 5) * 32 +
    b2n gated * 8 + b2n (st.getLsbD 3) * 4)

/-- IEC 61850 Quality word (Table PUB-6), bits 12:0: validity in bits 1:0 (11 invalid is 0b01, questionable 0b11),
oldData bit 7... as IEC 61850-8-1 numbers them (log entry 28). -/
def pubQuality (invalid stale gated test forced : Bool) : BitVec 32 :=
  let validity := if invalid || stale then 1 else if gated then 3 else 0
  BitVec.ofNat 32 (validity + b2n stale * 2 ^ 7 + b2n (gated && !invalid && !stale) * 2 ^ 9 + b2n forced * 2 ^ 10 +
    b2n test * 2 ^ 11)

/-! EMP status word (Table EMP-3). -/

/-- The unacknowledged items. -/
def AttnLog.open_ (a : AttnLog) : List AttnItem := (a.slots.map (fun e => e.2)).filter (fun i => !i.acked)

/-- Highest level of an unacknowledged item; 0 when there is none. -/
def AttnLog.level (a : AttnLog) : Nat := a.open_.foldl (fun m i => max m i.lvl) 0

/-- Which of two ASEQ values is later, compared modulo 2^32 within a half range (R438, R441). -/
def notLater (x a : Nat) : Bool := !(BitVec.ofNat 32 a - BitVec.ofNat 32 x).msb

/-- The newest of a list of items. -/
def newestItem : List AttnItem → Option AttnItem
  | [] => none
  | i :: is => match newestItem is with
    | none => some i
    | some j => some (if notLater j.aseq i.aseq then i else j)

/-- Status word with a result code (Table EMP-3). -/
def AttnLog.status (a : AttnLog) (result : Nat) : BitVec 16 :=
  let l := a.level
  let cls := match newestItem (a.open_.filter (fun i => i.lvl == l)) with | some i => i.cls.code | none => 0
  BitVec.ofNat 16 (l * 2 ^ 13 + b2n a.toggle * 2 ^ 12 + cls * 2 ^ 8 + result)

/-! Outputs that follow from the state (Table MOD-6, Table BBX-6). -/

/-- ALM1_LEVEL in force: 4 until LOADING ends and in UNCONFIGURED (R54). -/
def State.alm1Level (s : State) : Nat := if s.boot.running then headerAlm1Level (s.rec_ .header 0) else 4

/-- ALM_N0 asserted: device fault. -/
def State.almN0 (s : State) : Bool :=
  match s.boot.mode with | .unconfigured | .tamperhold | .halt => true | _ => false

/-- ALM_N1 asserted: an unacknowledged item at or above the level (R54). -/
def State.almN1 (s : State) : Bool := s.boot.mode != .dormant && decide (s.alm1Level ≤ s.attn.level) && s.attn.level != 0

/-- ALM_N2 asserted: reduced service. -/
def State.almN2 (s : State) : Bool :=
  match s.boot.mode with | .degraded | .replay | .tamperhold | .halt => true | _ => false

/-- DT lock has converged for good (Table MOD-5 row 0). -/
def State.dtLocked (s : State) : Bool := s.boot.converged.contains (0, 0)

/-- ALM_N3 asserted: time not locked. -/
def State.almN3 (s : State) : Bool :=
  match s.boot.mode with
  | .dormant => false
  | .unconfigured | .loading => true
  | .warmup => !s.dtLocked
  | _ => s.time.neverLocked || s.time.holdover

/-- FORCE_IND_N asserted: forces exist, or a lamp test runs (R331, R469). -/
def State.forceInd (s : State) : Bool := s.boot.mode == .forced || s.panel.lampEnd.isSome

/-- An LED's state: lit, flashing or dark. -/
inductive Led where
  | dark | lit | flashing
  deriving DecidableEq, Repr

/-- LED_N0-LED_N7 by Table BBX-6; a lamp test lights all (R471). -/
def State.led (s : State) (n : Nat) : Led :=
  if s.panel.lampEnd.isSome then .lit
  else if s.boot.mode == .dormant && n != 6 then .dark
  else match n with
    | 0 => match s.boot.mode with
      | .active | .takeover | .forced => .lit
      | .warmup | .standby | .degraded | .replay | .tamperhold => .flashing
      | _ => .dark
    | 1 => if s.almN0 then .lit else .dark
    | 2 =>
      let is := s.attn.open_.filter (fun i => decide (s.alm1Level ≤ i.lvl))
      if is.isEmpty then .dark
      else if is.any (fun i => !notLater i.aseq s.panel.ackHead) then .flashing else .lit
    | 3 => if s.time.neverLocked then .dark else if s.time.holdover then .flashing
           else if s.time.majority then .lit else .dark
    | 4 => match s.pair.role with | .primary => .lit | .standby | .undecided => .flashing | .unpaired => .dark
    | 5 => if s.panel.svpEnd.isSome then .lit else if s.panel.svcKey then .flashing else .dark
    | 6 => if s.vault.tampered then .lit else .dark
    | 7 => if s.boot.mode == .replay then .lit else .dark
    | _ => .dark

/-- A lit indicator at this moment: a flashing one is lit for the first half of each second of DT, or of LTS while DT
does not run or NEVER_LOCKED is set (R471). -/
def State.ledLit (s : State) (n : Nat) : Bool :=
  match s.led n with
  | .dark => false
  | .lit => true
  | .flashing =>
    let t := if s.dtRuns && !s.time.neverLocked then s.dt else s.lts
    decide (t % 1000000000 < 500000000)

end Sys2Proof.Machine
end

