-- ==== Sys2Proof/Machine/Clock.lean ====
section
/-! DEFINITION. The passage of time: one cycle of the HTH clock (R132-R134). -/

namespace Sys2Proof.Machine

/-- One base's counter after one HTH cycle at its rate word (R134). -/
def BaseSt.cycle (b : BaseSt) : BaseSt := { b with acc := b.acc + 2 * b.rate }

/-- A lane's ring of edges after one more (R198). -/
def LaneSt.edge (x : LaneSt) (n : Nat) (t : Ns) : LaneSt := let l := x.edges ++ [(n, t)]; { x with edges := l.drop (l.length - 64) }

/-- The WV_CLK edges of this instant at which the enabled lanes' samples are taken: cycle n × LANE_DIV, 20 ns to a cycle of LTS
(R198; DESIGN CHOICE, log entry 68). -/
def State.laneEdges (s : State) : State :=
  match s.swage.clk0 with
  | none => s
  | some c =>
    if s.swage.clkLost then s
    else { s with swage := { s.swage with lanes := s.swage.lanes.zipIdx.map (fun e =>
      let r := s.rec_ .lane e.2
      let p := laneLaneDiv r * 20
      if laneEnable r == 1 && (s.time.lts - c) % p == 0 then e.1.edge ((s.time.lts - c) / p) (s.time.acc / 2 ^ 40) else e.1) } }

/-- One cycle of the HTH clock, 500 MHz: LTS gains 2 ns (R132), and DT and each time base gain 2 ns times their rate
words (R133, R134) in the modes in which DT runs (R41). In DORMANT only the battery domain's clock runs. -/
def State.cycle (s : State) : State :=
  if s.boot.mode == .dormant then { s with vault := { s.vault with rtc := s.vault.rtc + 2 } }
  else
    let t := { s.time with lts := s.time.lts + 2, bases := s.time.bases.map BaseSt.cycle }
    if s.dtRuns then { s with time := { t with acc := t.acc + 2 * t.rate } }.laneEdges else { s with time := t }

end Sys2Proof.Machine
end

