-- ==== Sys2Proof/Machine/Crypto.lean ====
section
/-! DEFINITION. The operations of the vault's engines (R74-R76, R120, R412, R416, R419): AES-GCM opening, the wrapping keys, the
verification of a signature and of an authentication value. The standards' own functions are Config's, without a body (log
entry 13); what the spec says goes into them, and what it does with what comes out, stands here. -/

namespace Sys2Proof.Machine

/-- The plaintext of an AES-GCM-256 ciphertext. -/
def gcmPlain (key : BitVec 256) (iv ct : Bytes) : Bytes := xorBytes ct (padTo ct.length (Config.gcmStream key iv ct.length))

/-- The tag that AES-GCM-256 gives, 16 bytes. -/
def gcmTagBytes (key : BitVec 256) (iv aad ct : Bytes) : Bytes := natBe 16 (Config.gcmTag key iv aad ct).toNat

/-- Whether a tag of AES-GCM-256 verifies. -/
def gcmOk (key : BitVec 256) (iv aad ct tag : Bytes) : Bool := tag == gcmTagBytes key iv aad ct

/-- Bytes as a key of 256 bits. -/
def keyOfBytes (b : Bytes) : BitVec 256 := BitVec.ofNat 256 (beNat b)

/-- A key-encryption key (R76, R419): the first 32 bytes of SHA-384 over the ECDH x coordinate of the identity private key and
an ephemeral key, followed by `tail`. -/
def kekOf (root : BitVec 256) (ephemeral tail : Bytes) : BitVec 256 :=
  ((Config.sha384 (Config.ecdh root ephemeral ++ tail)) >>> 128).setWidth 256

/-- Bytes of the authentication value by AUTH (Table IMG-4). -/
def authLen (auth : Nat) : Nat :=
  match auth with
  | 1 => 10 | 2 => 16 | 3 => 32 | 4 => 8 | 5 => 16
  | _ => 0

/-- The authentication value of bytes under a key by AUTH (R120, R369): HMAC-SHA-256 for 1 to 3, AES-GMAC for 4 and 5, its first
bytes. -/
def authValue (auth : Nat) (key : BitVec 256) (iv covered : Bytes) : Bytes :=
  (if auth ≤ 3 then natBe 32 (Config.hmacSha256 key covered).toNat else gcmTagBytes key iv covered []).take (authLen auth)

/-- Whether a frame's authentication value verifies under a key (R120). -/
def authVerifies (a : AuthVal) (key : BitVec 256) : Bool := a.tag == authValue a.alg key a.iv a.covered

end Sys2Proof.Machine
end

