-- ==== Sys2Proof/Machine/Flash.lean ====
section
/-! DEFINITION. The octal flash: slots, headers, section tables, status records and the choice of a slot (R60-R66,
R74, R75, R77-R80), and the burning of the epoch floor (R81). -/

namespace Sys2Proof.Machine

/-- Base address of a slot: A at 0, B at 0x0800_0000 (R61). -/
def slotBase (k : Nat) : Nat := k * 0x08000000

/-- Base address of a slot's status sector (R61). -/
def statusBase (k : Nat) : Nat := slotBase k + 0x07FFF000

/-- The 128-byte header of a slot as one number (R60, R63). -/
def State.slotHeader (s : State) (k : Nat) : Nat := beNat (memBytes s.flash (slotBase k) 128)

/-- Entry i of a slot's section table as one number (R65). -/
def State.slotSection (s : State) (k i : Nat) : Nat := beNat (memBytes s.flash (slotBase k + 128 + 32 * i) 32)

/-- The enrolled owner key: the field that is complete (R423). -/
def State.ownerKey (s : State) : Option Bytes :=
  match s.otp.owner0 with
  | .complete v => some v
  | _ => match s.otp.owner1 with | .complete v => some v | _ => none

/-- The OTP root: the field that is complete (R408). -/
def State.otpRoot (s : State) : Option (BitVec 256) :=
  match s.otp.root0 with
  | .complete v => some (BitVec.ofNat 256 (beNat v))
  | _ => match s.otp.root1 with | .complete v => some (BitVec.ofNat 256 (beNat v)) | _ => none

/-! Signature and unwrapping (R74-R76). -/

/-- The stored bytes of a section of a slot; section types count from 1. -/
def State.storedBytes (s : State) (k t : Nat) : Bytes :=
  let e := s.slotSection k (t - 1)
  memBytes s.flash (slotBase k + sectionOffset e) (sectionLength e)

/-- The signature of a slot's image verifies under the enrolled owner key (R74, R75): r and s of SIGNATURE over the SHA-384
digest of every stored byte before it. -/
def State.signatureOk (s : State) (k : Nat) : Bool :=
  match s.ownerKey with
  | none => false
  | some key =>
    let sig := s.storedBytes k 15
    Config.ecdsaVerify key (Config.sha384 (memBytes s.flash (slotBase k) (sectionOffset (s.slotSection k 14)))) (sig.take 48) (sig.drop 48)

/-- The content key that IDENT of a slot's image wraps (R76): the key-encryption key comes of the device's identity, the build's
ephemeral key and IMAGE_UUID. None where its tag fails. -/
def State.contentKey (s : State) (k : Nat) : Option (BitVec 256) :=
  let w := Config.identWrap (s.storedBytes k 1)
  match s.otpRoot with
  | none => none
  | some root =>
    let kek := kekOf root w.1 (natBe 16 (headerImageUuid (s.slotHeader k)))
    if gcmOk kek w.2.1 w.2.2.1 w.2.2.2.1 w.2.2.2.2 then some (keyOfBytes (gcmPlain kek w.2.1 w.2.2.2.1)) else none

/-- The section of a type is stored encrypted (Table IMG-2). -/
def State.encrypted (s : State) (k t : Nat) : Bool := bitAt (sectionSflags (s.slotSection k (t - 1))) 0

/-- An encrypted section opened under a content key (R76): a 12-byte IV, the ciphertext, a 16-byte tag, with the section's table
entry as additional authenticated data; none where the tag fails. -/
def State.openSection (s : State) (k : Nat) (key : BitVec 256) (t : Nat) : Option Bytes :=
  let b := s.storedBytes k t
  let iv := b.take 12
  let ct := (b.drop 12).take (b.length - 28)
  let tag := b.drop (b.length - 16)
  if decide (28 ≤ b.length) && gcmOk key iv (memBytes s.flash (slotBase k + 128 + 32 * (t - 1)) 32) ct tag then some (gcmPlain key iv ct)
  else none

/-- Bytes of a section of a slot in plaintext: as stored, or opened under the content key (R76). -/
def State.sectionBytes (s : State) (k t : Nat) : Bytes :=
  if s.encrypted k t then
    match s.contentKey k with
    | some key => match s.openSection k key t with | some b => b | none => []
    | none => []
  else s.storedBytes k t

/-- A KEYS entry carries a wrapped key (Table KEY-4). -/
def State.keysWrapped (s : State) (k : Nat) : Bool :=
  let b := s.sectionBytes k 13
  (List.range (keysHdrKeyCount (beNat (b.take 16)))).any (fun i => keyEntHasKey (beAt b (16 + 80 * i) 80) == 1)

/-- The sections of a slot that are encrypted, by type. -/
def State.encryptedTypes (s : State) (k : Nat) : List Nat := ((List.range 15).map (fun i => i + 1)).filter (fun t => s.encrypted k t)

/-- The section whose unwrapping fails (code 0x0A): IDENT where the content key's tag fails and a section or a KEYS entry needs
it, else the first encrypted section whose tag fails. -/
def State.unwrapBad (s : State) (k : Nat) : Option Nat :=
  match s.contentKey k with
  | none => if !(s.encryptedTypes k).isEmpty || s.keysWrapped k then some 1 else none
  | some key => (s.encryptedTypes k).find? (fun t => (s.openSection k key t).isNone)

/-- The key that a KEYS entry wraps under a content key (Table KEY-4): IV in bits 479:384, WRAPPED in 383:128, TAG in 127:0, with
bits 639:480 as additional authenticated data; none where the tag fails or the key's check value is not KCV (R412). -/
def entryKey (content : BitVec 256) (e : Nat) : Option (BitVec 256) :=
  let iv := natBe 12 (keyEntIv e)
  let wrapped := natBe 32 (keyEntWrapped e)
  let key := keyOfBytes (gcmPlain content iv wrapped)
  if gcmOk content iv (natBe 20 (fld e 639 480)) wrapped (natBe 16 (keyEntTag e)) && (Config.kcv key).toNat == keyEntKcv e then some key
  else none

/-- The first KEYS entry with a key that does not open (code 0x0D). -/
def keysBad (content : Option (BitVec 256)) (es : List Nat) : Option Nat :=
  (List.range es.length).find? (fun i =>
    let e := es.getD i 0
    keyEntHasKey e == 1 && (match content with | some c => (entryKey c e).isNone | none => true))

/-- Whether bytes end in the CRC-32C of the bytes before their last four. -/
def crcOk (b : Bytes) : Bool := (crc32c (b.take (b.length - 4))).toNat == beNat (b.drop (b.length - 4))

/-- RECORD_SIZE and RECORD_COUNT that Table IMG-3 gives a section type. Of TOPOLOGY and BEATS, which hold records of several
sizes, the table's sizes pass, or none; RECORD_COUNT is 0 when RECORD_SIZE is 0 (log entry 62). -/
def sectionShape (t rs rc : Nat) : Bool :=
  match t with
  | 4 => rs == 64 && rc == 8192
  | 5 => rs == 32 && rc == 65536
  | 6 => (rs == 0 && rc == 0) || (rs == 8 && rc == 8192) || (rs == 16 && rc == 16384) || ((rs == 8 || rs == 16) && rc == 24576)
  | 7 => (rs == 0 && rc == 0) || rs == 8 || rs == 16 || rs == 512
  | 8 => rs == 32 && decide (rc ≤ 132)
  | _ => rs == 0 && rc == 0

/-- Section types that may not be encrypted: IDENT and SIGNATURE (Table IMG-3). -/
def neverEncrypted (t : Nat) : Bool := t == 1 || t == 15

/-- One entry of the section table, at position n from 0, keeps R62, R64 and R66: its CRC, its type, its offset, which ascends
and overlaps nothing before it, its records and encryption, and SIGNATURE's length and end. -/
def entryOk (len n low : Nat) (raw : Bytes) : Bool :=
  let e := beNat raw
  crcOk raw && sectionType e == n + 1 && decide (low ≤ sectionOffset e) && sectionOffset e % 256 == 0 &&
  decide (4096 ≤ sectionOffset e) && sectionShape (n + 1) (sectionRecordSize e) (sectionRecordCount e) &&
  !(bitAt (sectionSflags e) 0 && neverEncrypted (n + 1)) &&
  (n != 14 || (sectionLength e == 96 && sectionOffset e + sectionLength e == len))

/-- The type of the first section whose entry breaks R62, R64 or R66 (code 0x06), 0 for a table that is too short; none of a
table of fifteen good entries. -/
def tableBad (len : Nat) : Nat → Nat → List Bytes → Option Nat
  | n, _, [] => if n = 15 then none else some 0
  | n, low, raw :: es =>
    if entryOk len n low raw then
      tableBad len (n + 1) (sectionOffset (beNat raw) + max 1 (sectionLength (beNat raw))) es
    else some (n + 1)

/-- The checks of codes 0x01 to 0x05, which a header alone answers, in order: the first code that fails. -/
def identityCode (hdr : Bytes) (owner : Option Bytes) : Option Nat :=
  let h := beNat hdr
  if headerMagic h ≠ 0x424D3832 ∨ crcOk hdr = false then some 0x01
  else if headerFormat h / 256 ≠ 1 then some 0x02
  else if headerSilicon h ≠ 0xB0 ∧ headerSilicon h ≠ 0 then some 0x03
  else match owner with
    | none => some 0x04
    | some key => if headerOwnerHash h ≠ (Config.sha384 key).toNat then some 0x05 else none

/-- The checks of codes 0x01 to 0x07 on a header sector (Table IMG-10), in order: the first that fails, with its detail word. -/
def headerCode (hdr : Bytes) (sects : List Bytes) (owner : Option Bytes) : Option (Nat × Nat) :=
  let h := beNat hdr
  match identityCode hdr owner with
  | some c => some (c, 0)
  | none =>
    if headerSectionCount h ≠ 15 then some (0x06, 0)
    else match tableBad (headerImageLen h) 0 0 sects with
      | some t => some (0x06, t * 2 ^ 24)
      | none => if 100663296 < headerImageLen h then some (0x07, 0) else none

/-- The checks of codes 0x01 to 0x05 and 0x07, which a header alone answers (R453). -/
def stageCode (hdr : Bytes) (owner : Option Bytes) : Option Nat :=
  match identityCode hdr owner with
  | some c => some c
  | none => if 100663296 < headerImageLen (beNat hdr) then some 0x07 else none

/-- The checks of codes 0x01 to 0x07 on a slot: the code and detail word of the first that fails. -/
def State.slotCode (s : State) (k : Nat) : Option (Nat × Nat) :=
  headerCode (memBytes s.flash (slotBase k) 128)
    ((List.range 15).map (fun i => memBytes s.flash (slotBase k + 128 + 32 * i) 32)) s.ownerKey

/-! Status records (Table IMG-9). -/

/-- STATE of a status record. -/
def srState (r : Nat) : Nat := fld r 239 232

/-- SEQ of a status record. -/
def srSeq (r : Nat) : Nat := fld r 223 192

/-- The bytes of a place in a slot's status sector. -/
def State.srBytes (s : State) (k i : Nat) : Bytes := memBytes s.flash (statusBase k + 32 * i) 32

/-- The cells of a slot's status sector. -/
def State.statusCells (s : State) (k : Nat) : Memory :=
  s.flash.filter (fun c => decide (statusBase k ≤ c.1 ∧ c.1 < statusBase k + 4096))

/-- The valid status records of a slot, in log order; a record whose magic or CRC fails is ignored (R77). -/
def State.srValid (s : State) (k : Nat) : List Nat :=
  let m := s.statusCells k
  ((List.range 128).filterMap (fun i =>
    let b := memBytes m (statusBase k + 32 * i) 32
    if beAt b 0 2 = 0x5354 && crcOk b then some (beNat b) else none))

/-- The record with the highest SEQ. -/
def newestSr : List Nat → Option Nat
  | [] => none
  | r :: rs => match newestSr rs with | none => some r | some q => some (if srSeq q < srSeq r then r else q)

/-- The codes of STATE (Table IMG-9). -/
def stStaged : Nat := 1
/-- TRIAL. -/
def stTrial : Nat := 2
/-- ATTEMPT. -/
def stAttempt : Nat := 3
/-- GOOD. -/
def stGood : Nat := 4
/-- SPARE. -/
def stSpare : Nat := 5
/-- REJECTED. -/
def stRejected : Nat := 6

/-- A slot's state (R77): that of the newest valid record which is no ATTEMPT; GOOD without any valid record when the header
passes its checks. A slot without such a record has no state, 0, which the choice puts last (DESIGN CHOICE, log entry 65). -/
def State.slotState (s : State) (k : Nat) : Nat :=
  let v := s.srValid k
  match newestSr (v.filter (fun r => srState r != stAttempt)) with
  | some r => srState r
  | none => if v.isEmpty && (s.slotCode k).isNone then stGood else 0

/-- ATTEMPT records after the TRIAL record (R80). -/
def State.attempts (s : State) (k : Nat) : Nat :=
  let v := s.srValid k
  match newestSr (v.filter (fun r => srState r != stAttempt)) with
  | some t => (v.filter (fun r => srState r == stAttempt && decide (srSeq t < srSeq r))).length
  | none => 0

/-- A slot is a candidate (R79). -/
def State.candidate (s : State) (k : Nat) : Bool := (s.slotCode k).isNone && s.slotState k != stRejected

/-- The bytes of a new status record (Table IMG-9). -/
def State.newStatus (s : State) (k state code detail : Nat) : Bytes :=
  let q := match newestSr (s.srValid k) with | some r => srSeq r + 1 | none => 1
  let b := natBe 2 0x5354 ++ natBe 1 state ++ natBe 1 code ++ natBe 4 q ++ natBe 4 (headerGeneration (s.slotHeader k)) ++
    natBe 8 (tim1 s.now) ++ natBe 4 detail ++ natBe 4 0
  b ++ natBe 4 (crc32c b).toNat

/-- Append a status record at the first erased place of the sector (R77); a full sector takes none. -/
def State.appendStatus (s : State) (k state code detail : Nat) : State :=
  let m := s.statusCells k
  match (List.range 128).find? (fun i => (memBytes m (statusBase k + 32 * i) 32).all (fun b => b == Memory.blank)) with
  | some i => { s with flash := memWriteBytes s.flash (statusBase k + 32 * i) (s.newStatus k state code detail) }
  | none => s

/-- Order of states in the choice (R79): TRIAL, GOOD, SPARE, STAGED. -/
def stRank (st : Nat) : Nat :=
  if st = stTrial then 4 else if st = stGood then 3 else if st = stSpare then 2 else if st = stStaged then 1 else 0

/-- The slot to try first, if any is a candidate (R79). -/
def State.slotChoice (s : State) : Option Nat :=
  match s.candidate 0, s.candidate 1 with
  | false, false => none
  | true, false => some 0
  | false, true => some 1
  | true, true =>
    let a := stRank (s.slotState 0)
    let b := stRank (s.slotState 1)
    if a < b then some 1 else if b < a then some 0
    else if headerGeneration (s.slotHeader 0) < headerGeneration (s.slotHeader 1) then some 1 else some 0

/-- Record a failing slot (R82): its load-result object and a LOAD_FAIL record. -/
def State.loadResult (s : State) (k code detail : Nat) : State :=
  let s := { s with boot := if k = 0 then { s.boot with loadA := (code, detail) } else { s.boot with loadB := (code, detail) } }
  s.bbxPost 0x0020 (natBe 1 k ++ natBe 1 code ++ natBe 4 detail)

/-- GOOD to the running slot and SPARE to the other when it is GOOD, on T7 or T8 (R80); then the burn of the epoch floor up to
the image's EPOCH begins (R81). -/
def State.markGood (s : State) : State :=
  let k := s.boot.slot
  let s := if s.slotState k = stGood then s else s.appendStatus k stGood 0 0
  let o := 1 - k
  let s := if s.slotState o = stGood then s.appendStatus o stSpare 0 0 else s
  { s with boot := { s.boot with burnTo := headerEpoch (s.rec_ .header 0) } }

/-- One antifuse bit of the epoch floor is burned (R81), after the GOOD record, until the floor equals the image's EPOCH: one bit
in a beat (log entry 65). A loss of power in between leaves the floor where it stands. -/
def State.burnEpoch (s : State) : State :=
  if s.otp.epoch < s.boot.burnTo then { s with otp := { s.otp with epoch := s.otp.epoch + 1 } } else s

end Sys2Proof.Machine
end

