-- ==== Sys2Proof/Machine/Vault.lean ====
section
/-! DEFINITION. The key vault's data operations: slots and halves (R409-R415), commits (R420, R421), zeroise (R427),
and the roots (R406-R408). -/

namespace Sys2Proof.Machine

/-! Slots. -/

/-- Engine bits of Table KEY-3, counted from bit 119: BBOX, IMAGE, MIRROR, EGRESS_AUTH, INGRESS_AUTH. -/
def engIngress : Nat := 4
/-- EGRESS_AUTH. -/
def engEgress : Nat := 3
/-- MIRROR. -/
def engMirror : Nat := 2

/-- A vault slot's halves; an EMPTY slot holds neither. -/
def State.vslot (s : State) (k : Nat) : Slot :=
  agetD s.vault.slots k { h0 := none, h1 := none, commit := false, pending := false }

/-- How far the idle half's GEN lies below the committed half's, modulo 65,536 (R411). -/
def genBelow (c i : Half) : Nat := (c.gen - i.gen).toNat

/-- The idle half is the retired half: its GEN lies within the 32,768 values below the committed GEN (R411). -/
def Slot.retired (x : Slot) : Option Half :=
  match x.half, x.idle with
  | some c, some i => if 1 ≤ genBelow c i ∧ genBelow c i ≤ 32768 then some i else none
  | _, _ => none

/-- The idle half is a newer half without commit (R411, R421). -/
def Slot.newer (x : Slot) : Bool := x.idle.isSome && x.retired.isNone

/-- A half whose use counter has reached 0 serves no engine (R414). -/
def Half.spent (h : Half) : Bool := h.life == 1 && h.uses == 0

/-- STATE of Table KEY-3: 0 EMPTY, 1 ACTIVE, 2 EXHAUSTED. -/
def Slot.stateCode (x : Slot) : Nat :=
  match x.half with
  | none => 0
  | some h => if h.spent then 2 else 1

/-- The committed half of a slot, when it serves the engine (R411, R414). -/
def State.engineKey (s : State) (k engine : Nat) : Option Half :=
  match (s.vslot k).half with
  | some h => if h.serves engine then some h else none
  | none => none

/-- Replace a slot. -/
def State.putSlot (s : State) (k : Nat) (x : Slot) : State :=
  { s with vault := { s.vault with slots := aput s.vault.slots k x } }

/-- Slot status word of Table KEY-3, 16 bytes. -/
def Slot.status (x : Slot) : Nat :=
  match x.half with
  | none => b2n x.pending * 2 ^ 124
  | some h =>
    x.stateCode * 2 ^ 126 + b2n x.commit * 2 ^ 125 + b2n x.pending * 2 ^ 124 + h.engines.toNat * 2 ^ 119 + h.life * 2 ^ 117 +
    b2n (match x.retired with | some r => !r.spent | none => false) * 2 ^ 116 + h.gen.toNat * 2 ^ 96 + h.keyId.toNat * 2 ^ 64 +
    h.kcv.toNat * 2 ^ 40 + (if h.life = 1 then h.uses else 0)

/-- Count one use against a half (R414): `second` names H1. At 0 the slot counts as exhausted, with attention when the
half is the committed one. -/
def State.countUse (s : State) (k : Nat) (second : Bool) : State :=
  let x := s.vslot k
  let h := if second then x.h1 else x.h0
  match h with
  | none => s
  | some h =>
    let s := s.bump (ck2 .halfUses k (b2n second))
    if h.life = 1 ∧ 0 < h.uses then
      let h' := { h with uses := h.uses - 1 }
      let s := s.putSlot k (if second then { x with h1 := some h' } else { x with h0 := some h' })
      if h'.uses = 0 then
        let s := s.bump (ck1 .exhaustions k)
        if second == x.commit then s.postFor 4 .sec (ck1 .exhaustions k) k else s
      else s
    else s

/-- A battery root is drawn whenever the domain finds itself empty (R406). -/
def State.ensureRoot (s : State) : State :=
  match s.vault.root with
  | some _ => s
  | none => ({ s with vault := { s.vault with root := some (Config.trng s.free) } }).draw

/-- Write the idle half of a slot and set PENDING (R420): GEN is one more than the committed GEN, which reads 0 in an
EMPTY slot, whose commit word names H0. -/
def State.writeIdle (s : State) (k : Nat) (h : Half) : State :=
  let s := s.ensureRoot
  let x := s.vslot k
  match x.half with
  | none => s.putSlot k { h0 := none, h1 := some { h with gen := 1 }, commit := false, pending := true }
  | some c =>
    let h := { h with gen := c.gen + 1 }
    s.putSlot k (if x.commit then { x with h0 := some h, pending := true } else { x with h1 := some h, pending := true })

/-- The commit of one pending slot at a beat boundary (R420), counted, with attention (Table KEY-6). -/
def State.commitSlot (s : State) (k : Nat) : State :=
  let x := s.vslot k
  if x.pending then
    ((s.putSlot k { x with commit := !x.commit, pending := false }).bump (ck .loadsCommitted)).postFor 2 .sec (ck .loadsCommitted) k
  else s

/-- Every pending commit, at a beat boundary. -/
def State.commitKeys (s : State) : State :=
  forAll (s.vault.slots.map (fun e => e.1)) s (fun s k => s.commitSlot k)

/-- A slot at a reset (R415, R421): EMPTY when its lifetime expires at the next reset; without a half that awaited its
commit otherwise. -/
def Slot.afterReset (x : Slot) : Option Slot :=
  match x.half with
  | none => none
  | some h =>
    if h.life = 2 then none
    else if x.newer then some (if x.commit then { x with h0 := none, pending := false } else { x with h1 := none, pending := false })
    else some { x with pending := false }

/-- What every reset does to the vault (R415, R421); slot 1 is a RAM slot of LOADING (Table KEY-1). -/
def State.vaultReset (s : State) : State :=
  { s with vault := { s.vault with
      slots := s.vault.slots.filterMap (fun e => match e.2.afterReset with | some x => some (e.1, x) | none => none)
      content := none, armed := true } }

/-! Zeroise (R427). -/

/-- Slots whose load is aborted by a zeroise (Table KEY-9): those that await their commit. -/
def State.pendingSlots (s : State) : List Nat := (s.vault.slots.filter (fun e => e.2.pending)).map (fun e => e.1)

/-- Clear the battery root, every slot of it, the partner's key and slot 1; stop an owner-key burn (R423, Table KEY-9). -/
def State.zeroise (s : State) (byTamper : Bool) : State :=
  let s := s.bumpBy (ck .loadsAborted) s.pendingSlots.length
  let s := s.bump (ck (if byTamper then .zeroiseTamper else .zeroiseService))
  let otp := match s.otp.burning with
    | some (second, _) =>
      if byTamper then (if second then { s.otp with owner1 := .incomplete, burning := none }
                        else { s.otp with owner0 := .incomplete, burning := none })
      else s.otp
    | none => s.otp
  { s with otp := otp
           vault := { s.vault with slots := [], root := none, partner := none, content := none,
                                   tampered := s.vault.tampered || byTamper, zeroises := s.vault.zeroises + 1 } }

/-- The 16-byte latch entry of a source (Table KEY-9): DT in bits 127:64, the code in bits 63:60. -/
def latchEntry (l : TamperLatch) : Bytes := natBe 8 (tim1 l.dt) ++ natBe 8 (l.source * 2 ^ 60)

/-- A condition at a source is a tamper (R425, R426): inputs 0-3 while enabled, the glitch detectors 4 and 5 while armed
and outside DORMANT; the battery check 7 arises at power-up only. -/
def State.tamperSource (s : State) (n : Nat) : Bool :=
  if n < 4 then s.vault.cfg.getLsbD (12 + n)
  else if n = 4 ∨ n = 5 then s.vault.armed && s.boot.mode != .dormant
  else n == 6

/-- Records of a zeroise caused by a tamper (R428): one ZEROISE record and one TAMPER record per source, in code order,
with the item's class and ASEQ. -/
def State.tamperRecords (s : State) (cls : AttClass) (aseq : Nat) (ls : List TamperLatch) : State :=
  let s := s.bbxQueue (s.bbxRec cls 0x0031 aseq [0#8])
  forAll ls s (fun s l => s.bbxQueue (s.bbxRec cls 0x0030 aseq (latchEntry l)))

/-! Identity (R407, R408). -/

/-- The OTP root burn of a first start (R408): field 0, or field 1 after a burn of field 0 that was cut off. -/
def State.burnRoot (s : State) : State :=
  match s.otpRoot with
  | some _ => s
  | none =>
    match s.otp.root0, s.otp.root1 with
    | .blank, _ => ({ s with otp := { s.otp with root0 := .complete (natBe 32 (Config.trng s.free).toNat) } }).draw
    | .incomplete, .blank => ({ s with otp := { s.otp with root1 := .complete (natBe 32 (Config.trng s.free).toNat) } }).draw
    | _, _ => s

/-- The black-box MAC key (R407): of a blank OTP, the key of zero (log entry 13). -/
def State.bboxMacKey (s : State) : BitVec 256 := Config.bboxKey (match s.otpRoot with | some r => r | none => 0)

/-- The identity public key, 97 bytes (R408). -/
def State.identity (s : State) : Bytes :=
  match s.otpRoot with | some r => padTo 97 (Config.identityPublic r) | none => padTo 97 []

/-- The pair key of R424 with a partner's identity public key: first 32 bytes of SHA-384 over the pair bootstrap and the
two public keys, position A first. -/
def State.pairKeyOf (s : State) (partner : Bytes) : BitVec 256 :=
  let own := s.identity
  let boot := Config.ecdh (match s.otpRoot with | some r => r | none => 0) partner
  let ks := if s.pair.posB then partner ++ own else own ++ partner
  ((Config.sha384 (boot ++ ks)) >>> 128).setWidth 256

end Sys2Proof.Machine
end

