-- ==== Sys2Proof/Machine/BlackBox.lean ====
section
/-! DEFINITION. The black box, the sensors and the front panel (chapter 18): writing and scanning records, crossings of
the level-event latches, and the meanings of the commands of that chapter that need no other family. -/

namespace Sys2Proof.Machine

/-! Black box. -/

/-- EPOCH of the valid record with the highest SEQ, or 0 (R459). Every record that the device wrote is valid. -/
def State.bbxEpoch (s : State) : Nat :=
  match s.bbx.newest with
  | some n => match aget s.bbx.mram n with | some r => r.epoch | none => 0
  | none => 0

/-- A slot is protected: valid, FFZ set, of the current epoch (R459). -/
def State.bbxProtected (s : State) (n : Nat) : Bool :=
  match aget s.bbx.mram n with | some r => r.ffz && r.epoch == s.bbxEpoch | none => false

/-- How many slots are protected. -/
def State.bbxProtectedCount (s : State) : Nat := (s.bbx.mram.filter (fun e => e.2.ffz && e.2.epoch == s.bbxEpoch)).length

/-- The first slot from n on, counting round, that is not protected (R458). -/
def State.bbxFree (s : State) : Nat → Nat → Nat
  | 0, n => n % 8192
  | fuel + 1, n => if s.bbxProtected (n % 8192) then s.bbxFree fuel (n + 1) else n % 8192

/-- The highest SEQ of a valid record; 0 when there is none. -/
def State.bbxSeq (s : State) : Nat :=
  match s.bbx.newest with
  | some n => match aget s.bbx.mram n with | some r => r.seq | none => 0
  | none => 0

/-- The 240 bytes of a record that its MAC covers (Table BBX-1). -/
def BbxRec.macBytes (r : BbxRec) : Bytes :=
  natBe 2 0x4242 ++ [0x01#8] ++ natBe 1 (r.cls.code * 16 + r.mode.code) ++ natBe 2 (b2n r.ffz * 2 ^ 15 + b2n r.loss * 2 ^ 14) ++
  natBe 2 r.event ++ natBe 2 r.epoch ++ natBe 4 r.seq ++ natBe 8 (tim1 r.dt) ++ natBe 8 r.lts ++ natBe 4 r.tsw.toNat ++
  natBe 1 r.payload.length ++ [0#8] ++ padTo 200 r.payload ++ natBe 4 r.aseq

/-- The 256 bytes of a record. -/
def BbxRec.bytes (r : BbxRec) : Bytes := r.macBytes ++ natBe 16 r.mac.toNat

/-- A queued record as it is stored (R457-R460): mode, FFZ, LOSS, EPOCH, SEQ and MAC filled in. -/
def State.bbxStored (s : State) (r : BbxRec) : BbxRec :=
  let epoch := if r.event = 0x00F0 then (s.bbxEpoch + 1) % 65536 else s.bbxEpoch
  let r := { r with mode := s.boot.mode, loss := s.bbx.lossFlag, epoch := epoch, seq := nextSeq s.bbxSeq,
                    ffz := r.cls == AttClass.fault && decide (s.bbxProtectedCount < 64) }
  { r with mac := Config.hmac128 s.bboxMacKey r.macBytes }

/-- Write the head of the queue into the slot after the newest (R458, R461); the loss that it records is released. -/
def State.bbxWriteHead (s : State) : State :=
  match s.bbx.queue with
  | [] => s
  | r :: rest =>
    let n := s.bbxFree 65 (match s.bbx.newest with | some n => n + 1 | none => 0)
    let s' := { s with bbx := { s.bbx with queue := rest, mram := aput s.bbx.mram n (s.bbxStored r), newest := some n,
                                           lossFlag := false }
                       sens := if s.bbx.lossFlag then { s.sens with cond := s.sens.cond &&& ~~~0x100#32 } else s.sens }
    s'.bump (ck .bbxWritten)

/-- BLACK_BOX_WRITE (R456-R461): the island is fed, its scan has completed and a record waits. -/
def execBlackBoxWrite (s : State) : Host.Outcome State Fault Refusal :=
  .next (if s.boot.island && s.bbx.scanned then s.bbxWriteHead else s)

/-- BLACK_BOX_SCAN (R459, R462): the scan finds the newest valid record and then writes a SCAN record. -/
def execBlackBoxScan (s : State) : Host.Outcome State Fault Refusal :=
  .next (if s.boot.island && !s.bbx.scanned then
    let newest := s.bbx.mram.foldl (fun (m : Option (Nat × BbxRec)) e =>
      match m with | none => some e | some b => if b.2.seq < e.2.seq then some e else m) none
    let s := { s with bbx := { s.bbx with scanned := true, newest := match newest with | some e => some e.1 | none => none } }
    let valid := s.bbx.mram.length
    s.bbxPost 0x00F1 (natBe 2 valid ++ natBe 2 (8192 - valid) ++ natBe 1 s.bbxProtectedCount)
  else s)

/-! Level-event latches. -/

/-- Level and class of a latch's attention (Table BBX-3); bits 7 and 6 have no stated level (log entry 29). -/
def latchAttn (n : Nat) : Nat × AttClass :=
  if 28 ≤ n then (6, .unit) else if 22 ≤ n then (4, .unit) else if n = 21 then (6, .unit) else if n = 20 then (4, .sec)
  else if n = 19 then (6, .sec) else if n = 18 then (4, .sec) else if 10 ≤ n then (5, .unit) else if n = 9 then (5, .unit)
  else if n = 8 then (4, .unit) else (Config.openLevel n % 8, .unit)

/-- A single latch bit. -/
def latchBit (n : Nat) : BitVec 32 := 1#32 <<< n

/-- A latch's condition becomes true (R465): a crossing when it had been released, none otherwise. Bits 5:0 are
reserved. -/
def State.crossLatch (s : State) (n : Nat) (value limit : Word) : State :=
  if n < 6 ∨ s.sens.cond.getLsbD n then s
  else
    let s := ({ s with sens := { s.sens with cond := s.sens.cond ||| latchBit n, seen := s.sens.seen ||| latchBit n,
                                             seenNow := s.sens.seenNow ||| latchBit n } }).bump (ck1 .crossings n)
    let payload := natBe 1 n ++ natBe 4 value.toNat ++ natBe 4 limit.toNat
    let k := ck1 .crossings n
    if (aget s.attn.latched k).isSome then s.bbxPost 0x0040 payload
    else
      let a := latchAttn n
      let s := s.postOnce a.1 a.2 k 0
      s.bbxQueue (s.bbxRec a.2 0x0040 s.attn.head payload)

/-- A latch's condition is released (R465). -/
def State.releaseLatch (s : State) (n : Nat) : State := { s with sens := { s.sens with cond := s.sens.cond &&& ~~~latchBit n } }

/-- A critical error or its like (R25): collected for T16 at the boundary while beats run, else refused and counted
(R42, R44). -/
def State.critical (s : State) : State :=
  if s.beatsRun && s.boot.mode != .halt then { s with boot := { s.boot with evs := s.boot.evs ++ [.critical] } }
  else s.refuseEvent

/-- A non-critical error or an exhausted spare margin (R25, R304), for T14 or T15. -/
def State.nonCritical (s : State) : State :=
  if s.beatsRun then { s with boot := { s.boot with evs := s.boot.evs ++ [.nonCritical] } } else s.refuseEvent

/-- The LAST_GASP record (R463), placed at the head of the queue; the newest of a full queue gives way to it. -/
def State.lastGasp (s : State) : State :=
  let payload := natBe 1 s.boot.mode.code ++ natBe 1 s.pair.role.code ++ natBe 8 (tim1 s.pair.releasedAt) ++
    natBe 1 s.bbx.queue.length
  let r := s.bbxRec .none 0x0002 0 payload
  if s.bbx.queue.length < 16 then { s with bbx := { s.bbx with queue := r :: s.bbx.queue, gasp := true } }
  else ({ s with bbx := { s.bbx with queue := r :: s.bbx.queue.take 15, gasp := true } }).bbxDrop

/-- Nominal value in mV of the main rail of latch bit 27 to 23 (R464). -/
def railNominal (n : Nat) : Nat :=
  if n = 27 then 750 else if n = 26 then 1100 else if n = 25 then 900 else if n = 24 then 1200 else 1800

/-- The reading of a rail that a latch bit names (R473): bits 27 to 22 the six rails, 21 VDD_AON. -/
def State.readRail (s : State) (n : Nat) (v : Word) : State :=
  if 21 ≤ n ∧ n ≤ 27 then { s with sens := { s.sens with railMv := setAt s.sens.railMv (if n = 21 then 5 else 27 - n) v.toNat } } else s

/-- SENSOR_CROSSING (R464, R465): a latch's condition becomes true. A main rail above +8 % is a critical error as well,
and below -8 % posts LAST_GASP when POWER_FAIL_N has not. -/
def execSensorCrossing (latch : Fin 32) (value limit : Word) (s : State) : Host.Outcome State Fault Refusal :=
  .next (if s.boot.island then
    let n := latch.val
    let rail : Bool := 23 ≤ n && n ≤ 27
    let s := (s.readRail n value).crossLatch n value limit
    if rail && decide (railNominal n * 108 < value.toNat * 100) then (s.bump (ck1 .crossings n)).critical
    else if rail && decide (value.toNat * 100 < railNominal n * 92) && !s.bbx.gasp then (s.bump (ck1 .crossings n)).lastGasp
    else s
  else s)

/-- The hysteresis of a latch (R465): whether a value releases its condition. Temperatures in 1/16 °C, rails and VBAT in
mV, the others with no stated hysteresis by the command alone. -/
def latchReleased (n : Nat) (v : Int) : Bool :=
  if 28 ≤ n then decide (v < 107 * 16 + 1)
  else if 23 ≤ n then decide ((railNominal n : Int) * 97 ≤ v * 100 ∧ v * 100 ≤ (railNominal n : Int) * 103)
  else if n = 22 ∨ n = 21 then decide (3300 * 95 ≤ v * 100 ∧ v * 100 ≤ 3300 * 105)
  else if n = 20 then decide (2800 ≤ v) else if n = 19 then decide (2600 ≤ v) else if n = 18 then decide (v ≤ 3500)
  else true

/-- SENSOR_CONDITION_RELEASED (R465): the value has returned past the hysteresis. -/
def execSensorConditionReleased (latch : Fin 32) (value : Word) (s : State) : Host.Outcome State Fault Refusal :=
  .next (if s.boot.island && 6 ≤ latch.val && latchReleased latch.val value.toInt then (s.readRail latch.val value).releaseLatch latch.val else s)

/-- TEMP_CRITICAL (R464): a sensor at 125 °C or above at one reading, or at 118 °C or above for 2,400 beats. -/
def execTempCritical (sensor : Fin 8) (reading : Int) (s : State) : Host.Outcome State Fault Refusal :=
  .next (if s.sens.bad.contains sensor.val then s
    else if decide (125 * 16 ≤ reading) || decide (2400 ≤ s.sens.hot.getD sensor.val 0) then
      (s.bump (ck1 .crossings (28 + sensor.val / 2))).critical
    else s)

/-- A die sensor's reading cannot be trusted (Table BBX-3): outside −60 °C to 150 °C, or unchanged for 2,400 beats. -/
def State.sensorFailed (s : State) (i : Nat) : Bool :=
  let t := s.sens.temps.getD i 0
  decide (t < -60 * 16) || decide (150 * 16 < t) || decide (2400 ≤ s.sens.still.getD i 0)

/-- SENSOR_FAIL (R464): the sensor is ignored from now on; its latch crosses. -/
def execSensorFail (sensor : Fin 8) (s : State) : Host.Outcome State Fault Refusal :=
  .next (if s.sens.bad.contains sensor.val || !s.sensorFailed sensor.val then s
    else
      let s := { s with sens := { s.sens with bad := s.sens.bad ++ [sensor.val] } }
      s.crossLatch (10 + sensor.val) (BitVec.ofInt 32 (s.sens.temps.getD sensor.val 0)) 0)

/-- VBAT_READ (R464): VBAT as read, with the three battery latches. -/
def execVbatRead (mv : Nat) (s : State) : Host.Outcome State Fault Refusal :=
  let latch (s : State) (n : Nat) (on off : Bool) (limit : Nat) : State :=
    if on then s.crossLatch n (BitVec.ofNat 32 mv) (BitVec.ofNat 32 limit) else if off then s.releaseLatch n else s
  .next (if s.boot.island then
    let s := { s with sens := { s.sens with vbat := mv } }
    let s := latch s 20 (decide (mv < 2700)) (decide (2800 ≤ mv)) 2700
    let s := latch s 19 (decide (mv < 2500)) (decide (2600 ≤ mv)) 2500
    latch s 18 (decide (3600 < mv)) (decide (mv ≤ 3500)) 3600
  else s)

/-- CLOCK_FAULT (R464): a domain clock out of lock or off for 10 µs is a critical error. -/
def execClockFault (domain : Fin 5) (s : State) : Host.Outcome State Fault Refusal :=
  .next (if s.boot.rails then
    (({ s with sens := { s.sens with clocks := if s.sens.clocks.contains domain.val then s.sens.clocks
                                               else s.sens.clocks ++ [domain.val] } }).bump (ck .clockFaults)).critical
  else s)

/-! Front panel. -/

/-- A key that is down: matrix key or touch channel, ORed (R468). -/
def PanelSt.down (p : PanelSt) (n : Nat) : Bool :=
  p.keys.getLsbD n || (match p.touch[n]? with | some t => t.touched | none => false)

/-- A press of key n (R469); key 2 starts its hold. -/
def State.keyPress (s : State) (n : Nat) : State :=
  match n with
  | 0 => { s with panel := { s.panel with ackHead := s.attn.head } }
  | 1 => { s with panel := { s.panel with lampEnd := some (s.rtc + 3000000000) } }
  | 2 => { s with panel := { s.panel with key2Since := if s.panel.svcKey then some s.rtc else none } }
  | _ => s

/-- A release of key n ends the hold of key 2. -/
def State.keyRelease (s : State) (n : Nat) : State :=
  if n = 2 then { s with panel := { s.panel with key2Since := none } } else s

/-- What follows when the keys that are down change. -/
def State.keysChanged (s : State) (before : PanelSt) : State :=
  forAll (List.range 16) s (fun s n =>
    if s.panel.down n && !before.down n then s.keyPress n
    else if !s.panel.down n && before.down n then s.keyRelease n else s)

/-- One key's debouncing over one scan (R467): its state changes at the third consecutive scan that disagrees. -/
def debounceKey (seen : BitVec 16) (p : PanelSt) (n : Nat) : PanelSt :=
  if seen.getLsbD n == p.keys.getLsbD n then { p with runs := adel p.runs n }
  else
    let r := agetD p.runs n 0 + 1
    if r < 3 then { p with runs := aput p.runs n r }
    else { p with runs := adel p.runs n, keys := p.keys ^^^ (1#16 <<< n) }

/-- PANEL_SCAN (R467): the keys that a scan of the matrix shows down. -/
def execPanelScan (keys : BitVec 16) (s : State) : Host.Outcome State Fault Refusal :=
  .next (if !s.boot.island then s
    else if 3 ≤ (bitsOf 16 keys.toNat).length then (s.bump (ck .ghostScans)).crossLatch 6 (keys.setWidth 32) 2
    else
      let p := s.panel
      let s := if s.sens.cond.getLsbD 6 then s.releaseLatch 6 else s
      ({ s with panel := (List.range 16).foldl (debounceKey keys) p }).keysChanged p)

/-- One measurement of a touch channel (R468); the flag says that 60 s have passed without a break. -/
def touchStep (t : Touch) (count : Nat) (now : Ns) : Touch × Bool :=
  let t := if t.baseline = 0 ∧ t.count = 0 then { t with baseline := count } else t
  let above : Bool := decide (t.baseline * 103 < count * 100)
  if t.touched then
    if decide (count * 1000 ≤ t.baseline * 1015) then ({ t with count := count, touched := false, above := 0 }, false)
    else if 60000000000 ≤ now - t.since then
      ({ t with count := count, baseline := count, touched := false, above := 0 }, true)
    else ({ t with count := count }, false)
  else if above then
    if t.above + 1 < 2 then ({ t with count := count, above := t.above + 1 }, false)
    else ({ t with count := count, above := 0, touched := true, since := now }, false)
  else
    let d : Int := (count : Int) - t.baseline
    ({ t with count := count, above := 0, baseline := (t.baseline + d / 256).toNat }, false)

/-- TOUCH_MEASURE (R468): the channel's count, its baseline and its touched state; channel n acts as key n. -/
def execTouchMeasure (ch : Fin 4) (count : Nat) (s : State) : Host.Outcome State Fault Refusal :=
  .next (if !s.boot.island then s
    else
      let p := s.panel
      let r := touchStep (p.touch.getD ch.val Touch.reset) count s.rtc
      let s := ({ s with panel := { p with touch := setAt p.touch ch.val r.1 } }).keysChanged p
      if r.2 then ((s.bump (ck .touchRecals)).crossLatch 7 (BitVec.ofNat 32 count) (BitVec.ofNat 32 r.1.baseline)).releaseLatch 7
      else s)

/-- LAMP_TEST_END (R469): 3 s after the latest press of key 1. -/
def execLampTestEnd (s : State) : Host.Outcome State Fault Refusal :=
  .next (match s.panel.lampEnd with
    | some e => if e ≤ s.rtc then { s with panel := { s.panel with lampEnd := none } } else s
    | none => s)

/-- SVP_ENABLE (R469): key 2 held for 3 s while SVC_KEY_N is asserted puts the enable in force for 30 min, or renews
it. -/
def execSvpEnable (s : State) : Host.Outcome State Fault Refusal :=
  .next (match s.panel.key2Since with
    | some t => if s.panel.svcKey && decide (t + 3000000000 ≤ s.rtc) then
        { s with panel := { s.panel with svpEnd := some (s.rtc + 1800000000000) } } else s
    | none => s)

/-- SVP_ENABLE_EXPIRY (R469): 30 min after the latest hold. -/
def execSvpEnableExpiry (s : State) : Host.Outcome State Fault Refusal :=
  .next (match s.panel.svpEnd with
    | some e => if e ≤ s.rtc then { s with panel := { s.panel with svpEnd := none } } else s
    | none => s)

/-- SVC_KEY_RELEASE (R470): the SVP enable ends, and T18 is due in REPLAY at the next boundary; forces remain. -/
def execSvcKeyRelease (s : State) : Host.Outcome State Fault Refusal :=
  .next (if s.panel.svcKey then
    let s := { s with panel := { s.panel with svcKey := false, svpEnd := none, key2Since := none } }
    if s.boot.mode == .replay then { s with boot := { s.boot with evs := s.boot.evs ++ [.svcKeyReleased] } } else s
  else s)

/-- SVC_KEY_ASSERT (R470): the debounced key is asserted; a hold of key 2 counts from here (R469). -/
def execSvcKeyAssert (s : State) : Host.Outcome State Fault Refusal :=
  .next (if s.panel.svcKey then s
    else { s with panel := { s.panel with svcKey := true, key2Since := if s.panel.down 2 then some s.rtc else none } })

/-- SVC_DET_CHANGE (R470): the SVP link is enabled only while the connector is plugged; unplugging it takes the link down
and ends every SVP session. -/
def execSvcDetChange (asserted : Bool) (s : State) : Host.Outcome State Fault Refusal :=
  .next (let s := { s with panel := { s.panel with svcDet := asserted } }
    if asserted then s
    else { s.modPort 6 (fun p => { p with link := false }) with
           emp := { s.emp with sessions := s.emp.sessions.filter (fun e => !e.svp) } })

end Sys2Proof.Machine
end

