-- ==== Sys2Proof/Machine/Ov.lean ====
section
/-! DEFINITION. Online-changeable values (R83-R85, R320, R330, R449, Table EMP-11): which fields are OV, their ranges,
and the writing of a change set into the image in force. -/

namespace Sys2Proof.Machine

/-- The table of an OV entry and how many records it has (Table EMP-11). -/
def State.ovTable (s : State) (sect table : Nat) : Option (Tbl × Nat) :=
  match sect, table with
  | 0x02, 0 => some (.timeHdr, 1)
  | 0x04, 0 => some (.stream, 8192)
  | 0x05, 0 => some (.chan, 65536)
  | 0x09, 1 => some (.group, 256)
  | 0x09, 2 => some (.frontEnd, 1)
  | 0x09, 3 => some (.thresh, 255)
  | 0x09, 4 => some (.param, oscHdrParamCount (s.rec_ .oscHdr 0))
  | 0x09, 5 => some (.islHdr, 1)
  | 0x09, 6 => some (.det, islHdrDetCount (s.rec_ .islHdr 0))
  | 0x09, 7 => some (.dispHdr, 1)
  | 0x0A, 1 => some (.var, logicHdrVarCount (s.rec_ .logicHdr 0))
  | 0x0A, 2 => some (.outRec, logicHdrOutCount (s.rec_ .logicHdr 0))
  | 0x0B, 1 => some (.capClass, 16)
  | _, _ => none

/-- The OV fields of a table: least significant bit and width. -/
def ovFields : Tbl → List (Nat × Nat)
  | .timeHdr => [(400, 16), (384, 16)]
  | .stream => [(288, 16), (272, 16)]
  | .chan => [(144, 32), (112, 32)]
  | .group => [(96, 8)]
  | .frontEnd => [(392, 8), (384, 8), (344, 8), (336, 8), (296, 8), (288, 8), (248, 8), (240, 8)]
  | .thresh => [(224, 32), (192, 32), (160, 32), (128, 32), (96, 32), (64, 32), (32, 32), (24, 8), (16, 8)]
  | .param => [(224, 32), (192, 32), (160, 32), (128, 32), (96, 32), (64, 32), (56, 8)]
  | .islHdr => [(288, 32), (256, 32)]
  | .det => [(160, 32), (152, 8)]
  | .dispHdr => [(464, 32)]
  | .var => [(32, 32)]
  | .outRec => [(160, 32)]
  | .capClass => [(470, 3)]
  | _ => []

/-- Whether a watch group has a required member (Q_FRAC may be 0 in no other). -/
def State.groupHasRequired (s : State) (g : Nat) : Bool :=
  (s.valids .chan 255 65536).any (fun c =>
    let r := s.rec_ .chan c
    chanWgMember r == 1 && chanWatchGroup r == g && chanWgRequired r == 1)

/-- One half as a float32 word, and the bounds that the maps name. -/
def fHalf : Word := 0x3F000000#32
/-- 0.1. -/
def fTenth : Word := 0x3DCCCCCD#32
/-- 5. -/
def fFive : Word := 0x40A00000#32
/-- π. -/
def fPi : Word := 0x40490FDB#32

/-- A field of a record lies in its range (code 0x0B rules; a clamped field's range is the whole field). -/
def State.ovRange (s : State) (t : Tbl) (i lsb r : Nat) : Bool :=
  let w (hi lo : Nat) : Word := BitVec.ofNat 32 (fld r hi lo)
  match t, lsb with
  | .timeHdr, 400 => decide (1 ≤ fld r 415 400 ∧ fld r 415 400 ≤ 10000)
  | .timeHdr, 384 => decide (1 ≤ fld r 399 384 ∧ fld r 399 384 ≤ 50000)
  | .stream, 288 => decide (1 ≤ fld r 303 288 ∧ fld r 303 288 ≤ 24000)
  | .stream, 272 => decide (fld r 287 272 ≤ 50000)
  | .group, 96 => decide (fld r 103 96 ≤ 64) && (fld r 103 96 != 0 || s.groupHasRequired i)
  | .param, 224 => fLt 0 (w 255 224) && fLe (w 255 224) fHalf && fLt (w 223 192) (w 255 224)
  | .param, 192 => fLe 0 (w 223 192) && fLt (w 223 192) (w 255 224)
  | .param, 160 => fLe 0 (w 191 160) && fLe (w 191 160) fTenth
  | .param, 128 => fLe 0 (w 159 128) && fLe (w 159 128) (w 127 96)
  | .param, 96 => fLe (w 159 128) (w 127 96)
  | .param, 64 => fLe 0 (w 95 64)
  | .islHdr, 288 => fLt 0 (w 319 288) && fLe (w 319 288) fFive
  | .islHdr, 256 => fLt 0 (w 287 256) && fLe (w 287 256) fPi
  | .det, 160 => fLt 0 (w 191 160)
  | .var, 32 => varVtype r != 0 || decide (varInit r ≤ 1)
  | .outRec, 160 => decide (outRecLaunchOffset r ≤ 1000000)
  | .capClass, 470 => decide (capClassPrefDiv r ≤ 4)
  | _, _ => true

/-- The record and field that an entry names, if it names an OV field with its width (R450). -/
def State.ovTarget (s : State) (e : ChangeEntry) : Option (Tbl × Nat) :=
  match s.ovTable e.sect e.table with
  | some (t, n) =>
    if e.index < n ∧ (ovFields t).contains (e.lsb, e.width) then
      (if t = .var ∧ varOnline (s.rec_ .var e.index) = 0 then none else some (t, e.index))
    else none
  | none => none

/-- The byte of a watermark clamped to its permitted bounds (Table WAV-2). -/
def clampWm (r lsb : Nat) : Nat :=
  let base := lsb - lsb % 48
  let high : Bool := lsb % 48 == 8
  let lo := if high then fld r (base + 39) (base + 32) else fld r (base + 23) (base + 16)
  let hi := if high then fld r (base + 47) (base + 40) else fld r (base + 31) (base + 24)
  max lo (min hi (fld r (lsb + 7) lsb))

/-- Write one entry into the image in force; a watermark is clamped (R38, Table WAV-2). -/
def State.ovWrite (s : State) (e : ChangeEntry) : State :=
  match s.ovTarget e with
  | some (t, i) =>
    let r := setFld (s.rec_ t i) e.lsb e.width e.value
    let r := if t = .frontEnd then setFld r e.lsb 8 (clampWm r e.lsb) else r
    let s := if t = .chan ∧ e.lsb = 144 then
        { s with swage := { s.swage with scales := (i, s.presentBoundary.2,
            BitVec.ofNat 32 (chanScale (s.rec_ .chan i))) :: s.swage.scales.take 65535 } }
      else s
    { s with img := aput s.img (t, i) r }
  | none => s

/-- The entry asks for a value outside an adaptive loop's range (R38, R39): a watermark beyond its bounds (loop 3), or a
divisor code above MAX_DIV (loop 0). -/
def State.ovConflict (s : State) (e : ChangeEntry) : Option (Nat × Nat) :=
  match s.ovTarget e with
  | some (.frontEnd, i) =>
    let r := setFld (s.rec_ .frontEnd i) e.lsb e.width e.value
    if clampWm r e.lsb != fld r (e.lsb + 7) e.lsb then some (3, 0x00140100 + i) else none
  | some (.capClass, i) => if capClassMaxDiv (s.rec_ .capClass i) < e.value then some (0, ctrObject (ck1 .rangeConflicts i)) else none
  | _ => none

/-- Accept a change set for a boundary: it takes the next place in the order of acceptance (Table IMG-11). -/
def State.addSet (s : State) (x : SetDue) : State :=
  { s with emp := { s.emp with sets := s.emp.sets ++ [{ x with seq := s.emp.setSeq }], setSeq := s.emp.setSeq + 1 } }

/-- A set goes on waiting in its place in the order of acceptance. -/
def State.keepSet (s : State) (x : SetDue) : State :=
  let before (y : SetDue) : Bool := decide (y.seq < x.seq)
  { s with emp := { s.emp with sets := s.emp.sets.filter before ++ [x] ++ s.emp.sets.filter (fun y => !before y) } }

/-- A set takes its place, by order of acceptance, among those that wait for the scan boundary of a task. -/
def State.orderSet (s : State) (t : Nat) (x : SetDue) : State :=
  let before (e : Nat × Nat × List ChangeEntry) : Bool := decide (e.2.1 < x.seq)
  { s with logic := { s.logic with sets := s.logic.sets.filter before ++ [(t, x.seq, x.entries)] ++ s.logic.sets.filter (fun e => !before e) } }

/-- The task that owns a logic value (R320). -/
def State.ovTask (s : State) (e : ChangeEntry) : Option Nat :=
  if e.sect ≠ 0x0A then none
  else if e.table = 1 then some (varTask (s.rec_ .var e.index))
  else some (varTask (s.rec_ .var (outRecVar (s.rec_ .outRec e.index))))

/-- The tasks that a set touches, each once. -/
def State.ovTasks (s : State) (es : List ChangeEntry) : List Nat := (es.filterMap s.ovTask).eraseDups

/-- Verdict over a change set (Table IMG-11, R320, R450): the result class and the first failing entry, in the order of the
entries. 1 ACCESS (not OV), 2 RANGE, by the fields as the whole set leaves them, 3 too many values, 4 MODE. -/
def State.ovCheck (s : State) (es : List ChangeEntry) : Option (Nat × Nat) :=
  match s.boot.mode with
  | .dormant | .unconfigured | .loading | .tamperhold | .halt => some (4, 0)
  | _ =>
    if 64 < es.length then some (3, 64)
    else
      let after := es.foldl (fun (m : State) e =>
        match m.ovTarget e with
        | some (t, i) => { m with img := aput m.img (t, i) (setFld (m.rec_ t i) e.lsb e.width e.value) }
        | none => m) s
      let bad (e : ChangeEntry) : Bool := decide (2 ^ e.width ≤ e.value) ||
        (match s.ovTarget e with | some (t, i) => !s.ovRange t i e.lsb (after.rec_ t i) | none => true)
      match es.findIdx? bad with
      | some i => some (if (es[i]?.bind s.ovTarget).isNone then 1 else 2, i)
      | none =>
        match s.ovTasks es with
        | _ :: t :: _ => some (2, (es.findIdx? (fun e => s.ovTask e == some t)).getD 0)
        | _ => none

/-- Read an entry from 16 bytes. -/
def ofEntryBytes (b : Bytes) : ChangeEntry :=
  { sect := beAt b 0 1, table := beAt b 1 1, index := beAt b 2 2, lsb := beAt b 4 2, width := beAt b 6 1, value := beAt b 8 4 }

/-- Black-box records of a set (Table BBX-2): at most 12 entries each. -/
def State.ovRecords (s : State) (cls : AttClass) (aseq : Nat) (es : List ChangeEntry) : State :=
  let parts := (es.length + 11) / 12
  forAll (List.range parts) s (fun s i =>
    let part := (es.drop (12 * i)).take 12
    s.bbxQueue (s.bbxRec cls 0x0021 aseq (natBe 1 es.length ++ natBe 1 i ++ natBe 1 parts ++ [0#8] ++
      part.flatMap entryBytes)))

/-- The object of the OV value that an entry names (Table EMP-8), the SOURCE of a set's item by its first entry (log entry 25). -/
def ovObject (e : ChangeEntry) : Nat := (0x0100 + e.sect) * 65536 + e.index

/-- Apply a set at its boundary (R84, R85): every entry in order, so that no consumer sees a part; the count, the
attention and the record; conflicts of adaptive ranges (R38). -/
def State.ovApply (s : State) (es : List ChangeEntry) : State :=
  let conflicts := es.filterMap s.ovConflict
  let s := forAll es s (fun s e => s.ovWrite e)
  let s := forAll conflicts s (fun s n => s.conflict n.1 n.2)
  let s := (s.bump (ck .changeSetsApplied)).post 2 .unit (ovObject (es.headD { sect := 0, table := 0, index := 0, lsb := 0, width := 0, value := 0 })) 0
  s.ovRecords .unit s.attn.head es

/-- Every OV value in force, in the order of Table EMP-11, 4 bytes each (OV_CRC of Table PAI-4). -/
def State.ovBytes (s : State) : Bytes :=
  ([.timeHdr, .stream, .chan, .group, .frontEnd, .thresh, .param, .islHdr, .det, .dispHdr, .var, .outRec, .capClass] : List Tbl).flatMap
    (fun t => (s.indices t).flatMap (fun i =>
      if t = .var ∧ varOnline (s.rec_ t i) = 0 then []
      else (ovFields t).flatMap (fun f => natBe 4 (fld (s.rec_ t i) (f.1 + f.2 - 1) f.1))))

end Sys2Proof.Machine
end

