-- ==== Sys2Proof/Machine/PairOps.lean ====
section
/-! DEFINITION. What other families need of the pair (chapter 15): claims and task entries, the frames a device sends of
its own accord, the release of the primary role, and the mirrored items. -/

namespace Sys2Proof.Machine

/-- An output stream is in use: its output-set record is valid (R364). -/
def State.outInUse (s : State) (n : Nat) : Bool := outSetValid (s.rec_ .outSet n) == 1

/-- The output streams in use. -/
def State.outs (s : State) : List Nat := s.valids .outSet 127 64

/-- The 64 claim entries (Table PAI-4), one for each output stream: the tag of the latest LAUNCH acted on, or the stNum and sqNum of the last frame. -/
def State.claims (s : State) : List Claim :=
  (List.range 64).map (fun n =>
    let r := s.rec_ .outStream n
    let p := s.pubStream n
    if !s.outInUse n then { valid := false, kind := 0, streamId := 0, claim := 0 }
    else
    { valid := true, kind := outStreamKind r, streamId := outStreamStreamId r
      claim := if outStreamAlarm r = 1 then p.stNum * 2 ^ 32 + p.sqNum else match p.taken with | some t => tim1 t | none => 0 })

/-- The instances of a task, in record order (R322). -/
def State.taskInsts (s : State) (t : Nat) : List Nat :=
  (s.valids .inst 255 4096).filter (fun i => instTask (s.rec_ .inst i) == t)

/-- The variables of a task in a segment (Table LOG-3). -/
def State.varsOf (s : State) (t seg : Nat) : List Nat :=
  (List.range (logicHdrVarCount (s.rec_ .logicHdr 0))).filter (fun v =>
    varTask (s.rec_ .var v) == t && varSeg (s.rec_ .var v) == seg)

/-- A counter block stores its previous CU; every other block with an edge its previous input (Table LOG-5). -/
def isCounter (fbType : Nat) : Bool := fbType == 0x38

/-- An instance's stored state, the reset state where it has none yet. -/
def State.instSt (s : State) (i : Nat) : InstSt := agetD s.logic.insts i { prev := false, q := false, running := false, et := 0 }

/-- An instance's state in the 16-byte layout of DELTA 1 and of the retention store (R389, R332). -/
def State.instMirror (s : State) (i : Nat) : InstMirror :=
  let r := s.rec_ .inst i
  let st := s.instSt i
  let c := isCounter (instFbType r)
  { id := BitVec.ofNat 32 (instInstanceId r), fbType := BitVec.ofNat 16 (instFbType r)
    flags := BitVec.ofNat 16 (b2n (st.prev && !c) + 2 * b2n st.q + 4 * b2n st.running + 8 * b2n (st.prev && c)), et := st.et }

/-- CRC-32C of a task's instance state (task entry of Table PAI-4). -/
def State.taskCrc (s : State) (t : Nat) : BitVec 32 := crc32c ((s.taskInsts t).flatMap (fun i => instBytes (s.instMirror i)))

/-- The valid tasks. -/
def State.tasks (s : State) : List Nat := s.valids .task 255 32

/-- The task entries: one for each of the tasks 0-31, zero for a task that is not in use. -/
def State.taskEntries (s : State) : List TaskEntry :=
  (List.range 32).map (fun t => { tag := agetD s.logic.lastTag t 0, crc := if taskValid (s.rec_ .task t) = 1 then s.taskCrc t else 0 })

/-- A ROLE frame's body: 1 HANDOVER, 2 ACCEPT, 3 CANCEL, 4 RELEASE (Table PAI-3). -/
def State.roleBody (s : State) (code : Nat) (e : Ns) : WoideBody := .role code e s.claims s.taskEntries

/-- Send a sequenced body ahead of every Woide frame in the queue (R401). -/
def State.urgent (s : State) (b : WoideBody) : State :=
  let before := (s.port 4).queues.getD 0 []
  let s := State.woideFlush 128 { s with pair := { s.pair with backlog := b :: s.pair.backlog } }
  let all := (s.port 4).queues.getD 0 []
  s.modPort 4 (fun p => { p with queues := setAt p.queues 0 (all.drop before.length ++ before) })

/-- Leave the primary role at boundary E (R401): RELEASE while the link is UP; the token and the launches stop at E. -/
def State.releaseRole (s : State) (e : Ns) : State :=
  if s.paired && s.pair.role == .primary then
    let s := { s with pair := { s.pair with leaveAt := some e } }
    if s.woideOn && s.pair.link == .up then
      ({ s with pair := { s.pair with releasedAt := e } }).urgent (s.roleBody 4 e)
    else s
  else s

/-- A new role: every path is UNKNOWN again (R395). -/
def State.setRole (s : State) (r : Role) : State :=
  { s with pair := { s.pair with role := r, tokenPath := .unknown, linkPath := .unknown, obsPath := .unknown, missing := 0,
                                 noPath := 0, leaveAt := none, token := none, digestFresh := false, roleAt := s.dt,
                                 takeAt := none, takeHand := false, handover := none } }

/-- A standby that is DEGRADED is unfit to take over (R397, T15). -/
def State.unfit (s : State) : Bool := s.pair.role == .standby && s.boot.mode != .standby

/-- The DIGEST of a boundary (Table PAI-4). -/
def State.digestBody (s : State) : WoideBody :=
  .digest s.dt s.boot.mode.code s.pair.role.code s.unfit s.pair.mirrorValid s.boot.mapHash (crc32c s.ovBytes)
    s.time.tsw s.claims s.taskEntries

/-- Send an unsequenced frame (R385). -/
def State.woideSend (s : State) (b : WoideBody) : State := if s.woideOn then s.woideBuild 0 b else s

/-- HELLO (R386). -/
def State.hello (s : State) : State :=
  s.woideSend (.hello (match s.pair.partner with | some x => x | none => 0) (BitVec.ofNat 128 (headerImageUuid (s.rec_ .header 0)))
    (headerGeneration (s.rec_ .header 0)) s.boot.mapHash s.boot.mode.code s.pair.role.code)

/-! Mirrored items (Table PAI-5). -/

/-- DELTA 1 of a task: the instances and INTERNAL variables that a scan changed (R389). -/
def State.deltaLogic (s : State) (task : Nat) (tag : Ns) (insts vars : List Nat) : State :=
  s.mirror (.delta tag 0 1 (.logicState task (insts.map s.instMirror)
    (vars.map (fun v => let x := agetD s.logic.vars v { v := 0, q := 0 }; (v, x.v, x.q)))))

/-- DELTA 2 of a trip series. -/
def State.deltaTrip (s : State) (out : Nat) (active : Bool) (tag : Ns) (left : Nat) : State :=
  s.mirror (.delta tag 0 1 (.tripSeries out active tag left))

/-- DELTA 3 of an ALARM stream. -/
def State.alarmDelta (s : State) (n : Nat) : Delta :=
  .alarmState n (s.pubStream n).stNum ((s.pubStream n).members.map (fun m => (m.v, m.q)))

/-- DELTA 4 of a subscriber. -/
def State.deltaSub (s : State) (n peer : Nat) (on : Bool) : State :=
  s.mirror (.delta s.dt 0 1 (.subscriber n (BitVec.ofNat 32 (peerIp (s.rec_ .peer peer))) on))

/-- DELTA 5 of one mode. -/
def State.oscDelta (s : State) (index : Nat) : Delta :=
  let a := agetD s.osc.alarms index { picked := 0, runs := [], drops := [], freq := none, occ := none }
  .oscAlarm index a.picked a.runs (match a.freq with | some f => f | none => 0)

/-- DELTA 6 of one island slot with the confirmation counts and branch states. -/
def State.islDelta (s : State) (slot : Nat) : Delta :=
  let c := s.isl.core
  let r := aget c.slots slot
  .island slot (match r with | some r => r.id | none => 0) (match r with | some r => r.declaredAt | none => 0)
    (match r with | some r => r.declared | none => false) (c.keys.map (fun k => (k.1, k.2.count))) c.branches

/-- The whole of the items DELTA 1 to 6, each with its TAG (R393): island slot 0 stands for the evaluation where no slot is
occupied. -/
def State.snapshotItems (s : State) : List (Ns × Delta) :=
  s.tasks.map (fun t => (agetD s.logic.lastTag t 0, .logicState t ((s.taskInsts t).map s.instMirror)
      ((s.varsOf t 2).map (fun v => let x := agetD s.logic.vars v { v := 0, q := 0 }; (v, x.v, x.q))))) ++
    s.logic.trips.map (fun x => (x.tag, .tripSeries x.out true x.tag x.left)) ++
    (s.outs.filter (fun n => outStreamAlarm (s.rec_ .outStream n) == 1)).map (fun n => (s.dt, s.alarmDelta n)) ++
    s.outs.flatMap (fun n => if outStreamSendMode (s.rec_ .outStream n) = 1 then
        (s.pubStream n).peers.map (fun p => (s.dt, .subscriber n (BitVec.ofNat 32 (peerIp (s.rec_ .peer p))) true))
      else [(s.dt, .subscriber n 0 (s.pubStream n).on)]) ++
    s.osc.alarms.map (fun a => ((match aget s.osc.latest a.1 with | some r => r.tag | none => 0), s.oscDelta a.1)) ++
    (if s.isl.core.slots.isEmpty then [0] else s.isl.core.slots.map (fun x => x.1)).map (fun i => (s.isl.evalTag, s.islDelta i))

/-- SNAPSHOT frames (R393): every item, then a frame without an item, which ends the snapshot (log entry 39). -/
def State.snapshot (s : State) : State :=
  (forAll s.snapshotItems s (fun s d => s.mirror (.snapshot d.1 0 1 (some d.2)))).mirror (.snapshot s.dt 0 1 none)

end Sys2Proof.Machine
end

