-- ==== Sys2Proof/Machine/Sched.lean ====
section
/-! DEFINITION. Bellows and Damper under the other families (chapter 11): budgets and charges, posts of work items,
room in the lists, trace records, and what a cell may run. -/

namespace Sys2Proof

/-! Costs. -/

/-- Sum of two costs. -/
def Cost.plus (a b : Cost) : Cost :=
  { cycles := a.cycles + b.cycles, dram := a.dram + b.dram, flits := a.flits + b.flits, egress := a.egress + b.egress }

/-- Difference of two costs. -/
def Cost.minus (a b : Cost) : Cost :=
  { cycles := a.cycles - b.cycles, dram := a.dram - b.dram, flits := a.flits - b.flits, egress := a.egress - b.egress }

/-- The four resources apart. -/
def Cost.parts (a : Cost) : List Int := [a.cycles, a.dram, a.flits, a.egress]

/-- The part of a cost above zero, in each resource. -/
def Cost.pos (a : Cost) : Cost :=
  { cycles := max a.cycles 0, dram := max a.dram 0, flits := max a.flits 0, egress := max a.egress 0 }

/-- The lesser of two costs in each resource. -/
def Cost.least (a b : Cost) : Cost :=
  { cycles := min a.cycles b.cycles, dram := min a.dram b.dram, flits := min a.flits b.flits, egress := min a.egress b.egress }

/-- A cost that has nothing in any resource. -/
def Cost.none (a : Cost) : Bool := a.cycles == 0 && a.dram == 0 && a.flits == 0 && a.egress == 0

end Sys2Proof

namespace Sys2Proof.Machine

/-! Budgets (R73, R290-R293). -/

/-- DRAM bytes alone. -/
def dramCost (n : Nat) : Cost := { cycles := 0, dram := n, flits := 0, egress := 0 }

/-- The budget entry of a region and class (0xFF: the spare margin); 0 where there is none. -/
def State.budgetRec (s : State) (r cls : Nat) : Nat :=
  match s.img.find? (fun e => decide (e.1.1 = .budget) && budgetRegion e.2 == r && budgetClass e.2 == cls && e.2 != 0) with
  | some e => e.2
  | none => 0

/-- The four resource fields of a budget entry. -/
def budgetCost (b : Nat) : Cost :=
  { cycles := budgetCycles b, dram := budgetDramBytes b, flits := budgetFlits b, egress := budgetEgressBytes b }

/-- What is left of a class's budget in a region. -/
def State.left (s : State) (r cls : Nat) : Cost := (s.reg r).budgets.getD cls Cost.zero

/-- Charge a class as it uses (R291). -/
def State.charge (s : State) (r cls : Nat) (c : Cost) : State :=
  s.modReg r (fun g => { g with budgets := modAt g.budgets cls (fun b => b.minus c) })

/-- The record of a template: 0x0000-0x0FFF of ANALYTICS, 0x1000-0x1FFF of LOGIC (R284). -/
def State.tmpl (s : State) (n : Nat) : Nat := s.rec_ .template n

/-- A template's declared costs. -/
def tmplCost (t : Nat) : Cost :=
  { cycles := templateCostCycles t, dram := templateCostDram t, flits := templateCostFlits t, egress := templateCostEgress t }


/-- FAST_PATH. -/
def kFast : Nat := 0x0001
/-- ISL_EVAL. -/
def kIsl : Nat := 0x0002
/-- OSC_BANK. -/
def kBank : Nat := 0x0010
/-- OSC_MODAL. -/
def kModal : Nat := 0x0011
/-- OSC_LOCATE. -/
def kLocate : Nat := 0x0012
/-- FB_SCAN. -/
def kFb : Nat := 0x0020
/-- HISKA. -/
def kHiska : Nat := 0x0021

/-- KERNEL_ID of an item (Table SCH-5): of its template, or ISL_EVAL of an evaluation that a closed set calls for (log entry
70). -/
def State.kernelOf (s : State) (it : Item) : Nat :=
  match it.ctx with
  | .evaluation _ => kIsl
  | _ => kernelId (s.rec_ .kernel (templateKernel (s.tmpl it.template)))

/-! Trace (R300). -/

/-- One trace record (Table SCH-10): dropped when TRACE's budget is spent, the oldest overwritten when the ring is full. -/
def State.trace (s : State) (decision : Nat) (it : Item) (cell detail : Nat) : State :=
  if !bitAt (dispHdrTraceMask (s.rec_ .dispHdr 0)) it.cls then s
  else if (s.left it.region 10).dram < 16 then s.bump (ck .traceDrops)
  else
    let rec_ := s.lts % 2 ^ 32 * 2 ^ 96 + decision * 2 ^ 93 + it.cls * 2 ^ 88 + it.prio * 2 ^ 84 + it.region * 2 ^ 82 +
      cell * 2 ^ 76 + it.row * 2 ^ 64 + it.seq * 2 ^ 32 + it.template * 2 ^ 16 + detail
    let size := planTraceSize (s.rec_ .plan 0) * 65536
    let ring := s.sch.trace ++ [rec_]
    (s.charge it.region 10 (dramCost 16)) |> fun s =>
    { s with sch := { s.sch with trace := ring.drop (ring.length - size) } }

/-! Lists (R287, R288). -/

/-- The ready list of a region has room at a level (R287): 4,096 entries, 256 of them for level 15 alone. -/
def State.readyRoom (s : State) (r lvl : Nat) : Bool :=
  let l := (s.reg r).ready
  decide (l.length < 4096) && (lvl == 15 || decide ((l.filter (fun i => i.prio != 15)).length < 3840))

/-- Place an item at the tail of its level. -/
def State.placeReady (s : State) (it : Item) : State :=
  (s.modReg it.region (fun g => { g with ready := g.ready ++ [it] })).trace 0 it 0 0

/-- Insert an item into the delay list by its due tick (R288). -/
def State.placeDelay (s : State) (it : Item) : State :=
  s.modReg it.region (fun g => { g with delay := insertBy (fun i => i.due) it g.delay })

/-- An item of a shed class is discarded and counted (R309). -/
def State.shedItem (s : State) (it : Item) : State := (s.bump (ck2 .shedDiscards it.region it.cls)).trace 7 it 0 1

/-- Whether a post finds room. -/
def State.postRoom (s : State) (src : PostSrc) (it : Item) : Bool :=
  match src with
  | .row 1 => decide ((s.reg it.region).delay.length < 1024)
  | _ => s.readyRoom it.region it.prio

/-- Carry out a post that has room. -/
def State.postNow (s : State) (src : PostSrc) (it : Item) : State :=
  let s := s.bump (ck2 .itemsPosted it.region it.cls)
  match src with
  | .row 1 => s.placeDelay it
  | _ => s.placeReady it

/-- The next posting sequence number of a region, and the item with it. -/
def State.newItem (s : State) (r tmpl cls prio origin arg due row : Nat) (ctx : ItemCtx) : State × Item :=
  let q := (s.reg r).seq
  (s.modReg r (fun g => { g with seq := (q + 1) % 2 ^ 32 }),
   { template := tmpl, cls := cls, prio := prio, origin := origin, region := r, reissued := false, firstCell := 0, arg := arg,
     due := due, posted := s.dt, seq := q, row := row, ctx := ctx, waited := false, late := false, written := false })

/-- A post from a row. -/
def PostSrc.isRow : PostSrc → Bool
  | .row _ => true
  | _ => false

/-- Post an item from a source (R282, R175, R317): discarded while its class is shed; placed when there is room and no
earlier post of the same sequencer or slice is stalled; else stalled (Table SCH-9). -/
def State.postItem (s : State) (src : PostSrc) (it : Item) : State :=
  if !s.steps then s
  else if s.shed it.region it.cls then s.shedItem it
  else if s.postRoom src it && !((s.reg it.region).stalled.any (fun p => p.1.isRow == src.isRow)) then s.postNow src it
  else
    let s := s.modReg it.region (fun g => { g with stalled := g.stalled ++ [(src, it)] })
    match src with
    | .quorum => s.bumpOnce (ck1 .quorumStalls it.region) 5 .unit
    | .deadline => s.bumpOnce (ck1 .deadlineStalls it.region) 5 .unit
    | _ => s

/-- Whether a slice stands still for want of room for its own post (Table SCH-9). -/
def State.sliceStalled (s : State) (r : Nat) : Bool :=
  (s.reg r).stalled.any (fun p => match p.1 with | .quorum | .deadline => true | _ => false) || (s.slice r).stall

/-! Cells. -/

/-- The cells of a region (R278). -/
def cellsOf (r : Nat) : List Nat := (List.range 16).map (fun i => 16 * r + i)

/-- The block of a cell (R278). -/
def blockOf (c : Nat) : Nat := c / 4

/-- The region of a cell. -/
def regionOf (c : Nat) : Nat := c / 16

/-- A cell is healthy: in service and not about to be quarantined at the next boundary (R20, R22). -/
def CellSt.healthy (c : CellSt) : Bool := c.svc == .inService && !c.quarNext

/-- A free cell's reservation fits an item (R289, Table SCH-5): ISL_EVAL runs on a 0x80 cell of the islanding block in use alone,
and HISKA on a cell reserved to its class. -/
def State.fits (s : State) (c : Nat) (it : Item) : Bool :=
  let x := s.cell c
  let ro := templateReservedOnly (s.tmpl it.template) == 1 || s.kernelOf it == kHiska
  if x.resv = 0x80 then s.kernelOf it == kIsl && s.isl.block == some (blockOf c)
  else if s.kernelOf it == kIsl then false
  else if x.resv = 0xFF then !ro
  else x.resv == it.cls

/-- A cell is eligible and free for an item (R289); a re-issued item goes to a healthy cell other than its first, and leaves that
cell's block only when the block has no other healthy cell that fits it (R20). -/
def State.eligible (s : State) (it : Item) (c : Nat) : Bool :=
  let x := s.cell c
  x.svc == .inService && x.run.isNone && s.fits c it &&
  (!it.reissued || (x.healthy && c != it.firstCell &&
    (blockOf c == blockOf it.firstCell ||
      !((List.range 4).any (fun i =>
        let d := 4 * blockOf it.firstCell + i
        d != it.firstCell && (s.cell d).healthy && s.fits d it)))))

/-- The cell that the dispatcher chooses: the lowest-numbered eligible one. -/
def State.cellFor (s : State) (it : Item) : Option Nat := (cellsOf it.region).find? (s.eligible it)

/-- A cell that runs an item of a kernel whose outputs are still to be written, and that satisfies a test. -/
def State.runner (s : State) (kernel : Nat) (p : Item → Bool) : Option (Nat × Item) :=
  (List.range 64).findSome? (fun c =>
    let x := s.cell c
    match x.run with
    | some it => if !x.worked && s.kernelOf it == kernel && p it then some (c, it) else none
    | none => none)

/-- Note that a cell's item has written its outputs. -/
def State.setWorked (s : State) (c : Nat) : State := s.modCell c (fun x => { x with worked := true })

/-! Slot tables (R302). -/

/-- One slot: every owner gains its weight, the one with the most (the first among equals) takes the slot and pays the sum. -/
def slotStep (w : List Nat) (a : List Int × List Nat) : List Int × List Nat :=
  let c := (a.1.zip w).map (fun e => e.1 + (e.2 : Int))
  let top := c.foldl max (c.headD 0)
  let k := c.findIdx (fun x => x == top)
  (modAt c k (fun x => x - (w.foldl (· + ·) 0 : Nat)), k :: a.2)

/-- n slots assigned in proportion to weights and spread evenly; owners without any traffic at all share alike (DESIGN CHOICE,
log entry 71). -/
def slotTable (n : Nat) (w : List Nat) : List Nat :=
  let w := if w.all (· == 0) then w.map (fun _ => 1) else w
  ((List.range n).foldl (fun a _ => slotStep w a) (w.map (fun _ => 0), [])).2.reverse

/-- The weights of RG0-RG3 and of the NOC port in one resource of the budgets: the traffic of PUBLISH, CAPTURE, MIRROR and MGMT
travels the NOC port (R290). -/
def State.slotWeights (s : State) (f : Nat → Nat) : List Nat :=
  let noc (c : Nat) : Bool := c == 3 || c == 7 || c == 8 || c == 9
  let sum (r : Nat) (p : Nat → Bool) : Nat := ((List.range 32).filter p).foldl (fun n c => n + f (s.budgetRec r c)) 0
  (List.range 4).map (fun r => sum r (fun c => !noc c)) ++ [(List.range 4).foldl (fun n r => n + sum r noc) 0]

/-- The owners in the order in which a slot is offered to them: its own first, then the owners of the slots after it in
table order. -/
def slotOwners (table : List Nat) (i : Nat) : List Nat := (table.drop i ++ table.take i).eraseDups

/-- Who takes a slot (R302): its owner, or the next owner in table order that has something waiting, where `waits k` says that
owner k (RG0-RG3, then the NOC port) has. -/
def slotTaker (table : List Nat) (waits : Nat → Bool) (i : Nat) : Option Nat := (slotOwners table i).find? waits

/-! Arbitration inside a beat (R301). -/

/-- The rank of a cell in a round of block memory: the level of the item it runs, highest first, then its class, lowest first;
idle cells last. -/
def State.cellRank (s : State) (c : Nat) : Nat :=
  match (s.cell c).run with
  | some it => (15 - it.prio) * 256 + it.cls
  | none => 16 * 256

/-- The order in which a round of block-memory arbitration serves the four cells of a block; equals by cell number. -/
def State.serveOrder (s : State) (b : Nat) : List Nat :=
  ((List.range 4).map (fun i => 4 * b + i)).foldl (fun l c => insertBy s.cellRank c l) []

/-! Lending (R293). -/

/-- The classes that lend in a region: LENDER set, not shed, every post of the row placed, and none of their items in a
ready list or due in the delay list within the beat. -/
def State.lenders (s : State) (r : Nat) : List Nat :=
  let g := s.reg r
  let horizon := (g.rowAt + 416667) / 1000
  if g.stalled.any (fun p => match p.1 with | .row _ => true | _ => false) then []
  else (List.range 32).filter (fun c =>
    budgetLender (s.budgetRec r c) == 1 && !s.shed r c && !(g.ready.any (fun i => i.cls == c)) &&
    !(g.delay.any (fun i => i.cls == c && decide (i.due ≤ horizon))))

/-- The sum of what lenders have left, each no less than nothing. -/
def State.lendable (s : State) (r : Nat) (ls : List Nat) : Cost := ls.foldl (fun a c => a.plus (s.left r c).pos) Cost.zero

/-- The charged classes of Table SCH-1; every other class is held. -/
def chargedClass (cls : Nat) : Bool := cls == 0 || cls == 3 || cls == 4 || cls == 5

/-- What a class may still spend in a region, own and lent (R293). -/
def State.ownOrLent (s : State) (r cls : Nat) : Cost :=
  let own := (s.left r cls).pos
  if budgetBestEffort (s.budgetRec r cls) == 1 && !s.shed r cls then own.plus (s.lendable r (s.lenders r)) else own

/-- The quantum of a class in a round of the deficit round robin (R301), from its budget in the port's unit, the port's least
quantum and what is left: a 64th of the budget and not less than the least; none for a held class with nothing left, own or
lent. ALIGN and ALARM go before the round, with strict precedence, and have none. -/
def quantum (cls budget least : Nat) (left : Int) : Nat :=
  if cls ≤ 1 || (!chargedClass cls && decide (left ≤ 0)) then 0 else max least (budget / 64)

/-- A class's quantum at the region crossbar, in flits. -/
def State.flitQuantum (s : State) (r cls : Nat) : Nat :=
  quantum cls (budgetFlits (s.budgetRec r cls)) 1 (s.ownOrLent r cls).flits

/-- A class's quantum at the region DRAM port, in bytes. -/
def State.dramQuantum (s : State) (r cls : Nat) : Nat :=
  quantum cls (budgetDramBytes (s.budgetRec r cls)) 64 (s.ownOrLent r cls).dram

/-- What an item's class lacks of its declared costs in the resources with a cost (R291). -/
def State.shortfall (s : State) (it : Item) : Cost :=
  let d := tmplCost (s.tmpl it.template)
  let l := s.left it.region it.cls
  let f (d l : Int) : Int := if d = 0 then 0 else max 0 (d - max l 0)
  { cycles := if d.cycles ≤ l.cycles then 0 else f d.cycles l.cycles
    dram := if d.dram ≤ l.dram then 0 else f d.dram l.dram
    flits := if d.flits ≤ l.flits then 0 else f d.flits l.flits
    egress := if d.egress ≤ l.egress then 0 else f d.egress l.egress }

/-- The task whose scan an item is (R317): the one bound to its group or to its output set. -/
def State.itemTask (s : State) (it : Item) : Option Nat :=
  match it.ctx with
  | .plain | .evaluation _ => none
  | .group g => s.tasks.find? (fun t => taskBind (s.rec_ .task t) == 0 && taskSet (s.rec_ .task t) == g.group)
  | .output n _ _ => s.tasks.find? (fun t => taskBind (s.rec_ .task t) == 1 && taskSet (s.rec_ .task t) == n)

/-- An item is a scan: its kernel is FB_SCAN or HISKA. -/
def State.isScan (s : State) (it : Item) : Bool := s.kernelOf it == kFb || s.kernelOf it == kHiska

/-- A scan of a task is running (R318, R320). -/
def State.scanRunning (s : State) (t : Nat) : Bool :=
  (List.range 64).any (fun c => match (s.cell c).run with | some x => s.isScan x && s.itemTask x == some t | none => false)

/-- A scan of a task is waiting (R320): in a ready list or stalled. -/
def State.scanWaiting (s : State) (t : Nat) : Bool :=
  s.sch.regs.any (fun g => g.ready.any (fun x => s.isScan x && s.itemTask x == some t) ||
    g.stalled.any (fun p => s.isScan p.2 && s.itemTask p.2 == some t))

/-- An item of a task is held back while another scan of the task runs (R318). -/
def State.scanBusy (s : State) (it : Item) : Bool :=
  s.isScan it && (match s.itemTask it with | some t => s.scanRunning t | none => false)

/-- An item is admissible (R291): its budget covers it, or lending covers the shortfall of a BEST_EFFORT class; a
re-issued item always is (R303). -/
def State.admissible (s : State) (it : Item) : Bool :=
  it.reissued ||
  (!s.scanBusy it &&
    (let d := s.shortfall it
     d.none || (budgetBestEffort (s.budgetRec it.region it.cls) == 1 && !s.shed it.region it.cls &&
       (let l := s.lendable it.region (s.lenders it.region)
        decide (d.cycles ≤ l.cycles) && decide (d.dram ≤ l.dram) && decide (d.flits ≤ l.flits) && decide (d.egress ≤ l.egress)))))

/-- Charge a shortfall to lenders in ascending class number (R293); what the last of them cannot bear is nothing. -/
def State.borrow (s : State) (r : Nat) : List Nat → Cost → State
  | [], _ => s
  | c :: cs, need =>
    let take := (s.left r c).pos.least need
    (s.charge r c take).borrow r cs (need.minus take)

/-- Charge an item at admission (R291, R293, R303). -/
def State.chargeStart (s : State) (it : Item) : State :=
  let d := tmplCost (s.tmpl it.template)
  let r := it.region
  if it.reissued then
    let sp := (s.reg r).spare
    let part := sp.pos.least d
    (s.modReg r (fun g => { g with spare := g.spare.minus part })).charge r it.cls (d.minus part)
  else
    let need := s.shortfall it
    if need.none then s.charge r it.cls d
    else
      let s := (s.borrow r (s.lenders r) need).charge r it.cls (d.minus need)
      s.bump (ck2 .borrowings r it.cls)

end Sys2Proof.Machine
end

