-- ==== Sys2Proof/Machine/Events.lean ====
section
/-! DEFINITION. How an event of the comparators, oscillation, islanding or a detector reaches logic, the ALARM streams
and capture (R274, R316, R338, R371). -/

namespace Sys2Proof.Machine

/-- STEP kinds of an event (R316): STEP_MAG and STEP_ANG of Tables WAV-13 (kinds 5 and 6) and ISL-9 (kinds 3 and 4). -/
def stepKind (family kind : Nat) : Bool := (family == 0 && (kind == 5 || kind == 6)) || (family == 2 && (kind == 3 || kind == 4))

/-- Put a value and quality byte into a member of an ALARM stream; a change of either makes a state-change frame due with
launch time L (R371-R373). -/
def State.setMember (s : State) (n m : Nat) (v : VarVal) (launch : Ns) : State :=
  let p := s.pubStream n
  if p.members.getD m { v := 0, q := 0 } = v then s
  else if p.members.length ≤ m then s
  else s.modPub n (fun p => { p with members := setAt p.members m v, changed := true, launch := launch })

/-- The alarm-map entries that an event fills (Table PUB-4). -/
def State.amapOf (s : State) (family kind ref : Nat) : List Nat :=
  (List.range (pubHdrAmapCount (s.rec_ .pubHdr 0))).filter (fun i =>
    let r := s.rec_ .amap i
    amapFamily r == family && amapEvKind r == kind && amapRef r == ref)

/-- EDGES selects a rising edge, pickup or EDGE 1 by bit 121, the other by bit 122 (Table CAP-3). -/
def edgeWanted (edges : Nat) (up : Bool) : Bool := bitAt edges (if up then 0 else 1)

/-- A trigger made by a trigger-source record (R338, Table CAP-4). -/
def State.trigOf (s : State) (i : Nat) (dt : Ns) (sub : Nat) : Trig :=
  let r := s.rec_ .trigSrc i
  { dt := dt, sub := sub, reach := s.dt, kind := trigSrcKind r, src := i, mask := trigSrcClassMask r, drive := trigSrcDriveXtrig r == 1,
    tsw := s.time.tsw, queued := false }

/-- The valid trigger-source records of a kind, ascending. -/
def State.trigRecs (s : State) (kind : Nat) : List Nat :=
  (s.valids .trigSrc 127 255).filter (fun i => trigSrcKind (s.rec_ .trigSrc i) == kind)

/-- Triggers reach the engine in order (R339). -/
def State.queueTrigs (s : State) (ts : List Trig) : State := { s with cap := { s.cap with trigs := s.cap.trigs ++ ts } }

/-- The EVENT variables that take an event (R316). -/
def State.eventVars (s : State) (e : Event) : List Nat :=
  (List.range (logicHdrVarCount (s.rec_ .logicHdr 0))).filter (fun v =>
    let r := s.rec_ .var v
    varSeg r == 1 && varFamily r == e.family && varSrc r == e.index && varSub r == e.kind)

/-- An event reaches logic, the publisher's alarm map and capture (R274). -/
def State.raise (s : State) (e : Event) : State :=
  let s := { s with logic := { s.logic with events := s.logic.events ++ (s.eventVars e).map (fun v => (v, e)) } }
  let s := forAll (s.amapOf e.family e.kind e.index) s (fun s i =>
    let r := s.rec_ .amap i
    s.setMember (amapOutStream r) (amapMember r) { v := BitVec.ofNat 32 (b2n e.edge), q := if e.replay then 0x20 else 0 } 0)
  s.queueTrigs (((s.trigRecs (e.family + 2)).filter (fun i =>
    let r := s.rec_ .trigSrc i
    trigSrcEvKind r == e.kind && trigSrcRef r == e.index && edgeWanted (trigSrcEdges r) e.edge)).map (fun i => s.trigOf i e.tag 0))

end Sys2Proof.Machine
end

