-- ==== Sys2Proof/Machine/AlarmOps.lean ====
section
/-! DEFINITION. ALARM streams (R371-R374, R377, R378): the gates of their members, the frames they send and the
retransmissions, as far as logic and the publisher share them. -/

namespace Sys2Proof.Machine

/-! Gates (R51, Table MOD-5), by event family. -/

/-- The rate of change of an estimator's channel is gated until frequency has been valid for 1 s (Table MOD-5 row 2). -/
def State.rocofGated (s : State) (ch : Nat) : Bool :=
  match aget s.swage.ests ch with
  | some e =>
    match e.freqSince, e.latest with
    | some t, some l => decide (l.tag < t + 1000000000)
    | _, _ => true
  | none => true

/-- A mode's band has not converged (Table MOD-5 rows 7-10): its latest record carries UNCONVERGED, or there is none. -/
def State.oscGated (s : State) (index : Nat) : Bool :=
  match aget s.osc.latest index with | some r => r.unconverged | none => true

/-- A detector is gated (Table ISL-6). -/
def State.detGated (s : State) (n : Nat) : Bool := match aget s.isl.dets n with | some d => d.gated | none => true

/-- The function that raises an event is gated: FAMILY, KIND and CH or INDEX (R316, R371). -/
def State.eventGated (s : State) (family kind ref : Nat) : Bool :=
  match family with
  | 0 => kind == 4 && s.rocofGated ref
  | 1 => decide (ref < 0x9000) && s.oscGated ref
  | 2 => decide (0xA000 ≤ ref) && s.detGated (ref - 0xA000)
  | _ => false

/-! Lengths of BER encodings (R501). -/

/-- Bytes of the length field of n content bytes. -/
def berLenBytes (n : Nat) : Nat := if n < 128 then 1 else if n < 256 then 2 else 3

/-- A tag, its length and n bytes. -/
def berTlv (n : Nat) : Nat := 1 + berLenBytes n + n

/-- Content bytes of an unsigned INTEGER. -/
def berUint (v : Nat) : Nat := Nat.log2 v / 8 + 1 + b2n (Nat.log2 v % 8 == 7)

/-- Content bytes of a signed INTEGER of 32 bits. -/
def berInt (w : Word) : Nat :=
  let v := w.toInt
  if -128 ≤ v ∧ v < 128 then 1 else if -32768 ≤ v ∧ v < 32768 then 2 else if -8388608 ≤ v ∧ v < 8388608 then 3 else 4

/-- A 16-byte unit of the name table. -/
def State.nameUnit (s : State) (u : Nat) : Bytes := natBe 16 (s.rec_ .name u)

/-- A name of n units as it is sent: up to its last character that is no space (R501). -/
def State.nameText (s : State) (u n : Nat) : Bytes :=
  let b := (List.range n).flatMap (fun i => s.nameUnit (u + i))
  (b.reverse.dropWhile (fun x => x == 0x20#8)).reverse

/-- Bytes of one GOOSE member: its value by M_TYPE and its Quality (R501). -/
def gooseMember (m : OutMember) : Nat :=
  (match m.mtype with | 0 => 3 | 1 => 2 + berInt m.value | _ => 7) + 5

/-- Length of a GOOSE APDU. -/
def State.gooseLen (s : State) (n st sq ttl : Nat) (ms : List OutMember) : Nat :=
  let r := s.rec_ .outStream n
  let name (i : Nat) : Nat := berTlv (s.nameText (outStreamNameRef r + 4 * i) 4).length
  let all := ms.foldl (fun a m => a + gooseMember m) 0
  berTlv (name 0 + berTlv (berUint ttl) + name 1 + name 2 + berTlv 8 + berTlv (berUint st) + berTlv (berUint sq) + berTlv 1 +
    berTlv (berUint (headerGeneration (s.rec_ .header 0))) + berTlv 1 + berTlv (berUint ms.length) + berTlv all)

/-- Bytes of an authentication value (AUTH of Table IMG-4). -/
def authBytes (auth : Nat) : Nat := ([0, 10, 16, 32, 8, 16] : List Nat).getD auth 0

/-- Ethernet length around a payload: addresses, type, FCS and the VLAN tag, padded to 64 bytes. -/
def etherLen (vid n : Nat) : Nat := max 64 (18 + n + (if vid = 0 then 0 else 4))

/-! Members. -/

/-- The content entries of an output stream. -/
def State.outContent (s : State) (n : Nat) : List Nat :=
  let r := s.rec_ .outStream n
  (List.range (outStreamContentCount r)).map (fun i => s.rec_ .content (outStreamContentBase r + i))

/-- Its dataset members: FIELD 4 entries. -/
def State.outMembers (s : State) (n : Nat) : List Nat :=
  (s.outContent n).filter (fun e => contentBlockStart e == 0 && contentField e == 4)

/-- IEC 61850 Quality of a quality byte (Table PUB-6); WARMUP and REPLAY add their bits. -/
def State.memberQuality (s : State) (q : BitVec 8) : BitVec 32 :=
  pubQuality (q.getLsbD 7) (q.getLsbD 6) (q.getLsbD 3 || s.boot.mode == .warmup) (q.getLsbD 5 || s.boot.mode == .replay)
    (q.getLsbD 4)

/-- The members of an output stream as they are sent, from their values and quality bytes. -/
def State.sentMembers (s : State) (n : Nat) (vs : List VarVal) : List OutMember :=
  ((s.outMembers n).zip vs).map (fun e => { mtype := contentMType e.1, value := e.2.v, quality := s.memberQuality e.2.q })

/-- The members of a GOOSE stream as they are sent. -/
def State.alarmMembers (s : State) (n : Nat) : List OutMember := s.sentMembers n (s.pubStream n).members

/-- The alarm-map entry that fills a member. -/
def State.memberMap (s : State) (n m : Nat) : Option Nat :=
  ((List.range (pubHdrAmapCount (s.rec_ .pubHdr 0))).map (fun i => s.rec_ .amap i)).find?
    (fun r => amapOutStream r == n && amapMember r == m)

/-- A member's quality with the gate of its raising function as it stands (R371). -/
def State.gateMember (s : State) (n m : Nat) (v : VarVal) : VarVal :=
  match s.memberMap n m with
  | some r =>
    let g := s.eventGated (amapFamily r) (amapEvKind r) (amapRef r)
    { v with q := if g then v.q ||| 0x08 else v.q &&& 0xF7 }
  | none => v

/-- Members before any event or scan (R371): alarm-map members FALSE and valid, the others FALSE or 0 with INVALID. -/
def State.initialMembers (s : State) (n : Nat) : List VarVal :=
  (List.range (s.outMembers n).length).map (fun m =>
    match s.memberMap n m with | some _ => s.gateMember n m { v := 0, q := 0 } | none => { v := 0, q := 0x80 })

/-! Sending. -/

/-- Whether the mode lets an output stream be sent (R377, Table MOD-6). -/
def State.mayPublish (s : State) (n : Nat) : Bool :=
  let r := s.rec_ .outStream n
  s.publishes ||
  match s.boot.mode with
  | .replay => outStreamReplayOk r == 1 && outStreamAlarm r == 0
  | .tamperhold => s.policy 110 && outStreamAuth r == 0
  | _ => false

/-- Sign a frame of a stream under its slot's committed half (R369, R411, Table PUB-7): the key identifier, or nothing
where the frame is unsendable. An AUTH of 0 needs no key. -/
def State.sign (s : State) (n : Nat) : State × Option (Option Nat) :=
  let r := s.rec_ .outStream n
  if outStreamAuth r = 0 then (s, some none)
  else
    let k := outStreamKeySlot r
    match s.engineKey k engEgress with
    | some h => (s.countUse k (s.vslot k).commit, some (some h.keyId.toNat))
    | none => (s.bumpOnce (ck1 .unsendable n) 5 .sec, none)

/-- The line ports of a mask, ascending. -/
def maskPorts (m : Nat) : List Nat := (List.range 4).filter (bitAt m)

/-- Ethernet length of the frame that an ALARM stream sends (R501). -/
def State.gooseSize (s : State) (n ttl : Nat) : Nat :=
  let r := s.rec_ .outStream n
  let p := s.pubStream n
  let apdu := s.gooseLen n p.stNum p.sqNum ttl (s.alarmMembers n)
  etherLen (outStreamVlanId r) (if outStreamKind r = 3 then 8 + apdu else 28 + Config.sessionHeader 1 + apdu + authBytes (outStreamAuth r))

/-- Charge the copies of an ALARM stream's frame, 20 bytes a frame more, as egress to a class (Table SCH-1, R379); the rules name no
region, RG0 is the model's (DESIGN CHOICE, log entry 71). -/
def State.chargeGoose (s : State) (n cls ttl : Nat) : State :=
  if s.mayPublish n then
    s.charge 0 cls { cycles := 0, dram := 0, flits := 0
                     egress := ((maskPorts (outStreamPortMask (s.rec_ .outStream n))).length * (s.gooseSize n ttl + 20) : Nat) }
  else s

/-- Send one GOOSE or R-GOOSE frame of an ALARM stream on each of its ports (R372), or count it as suppressed (R377). -/
def State.goose (s : State) (n : Nat) (launch : Ns) (ttl : Nat) : State :=
  if !s.mayPublish n then s.bump (ck1 .suppressed n)
  else
    match s.sign n with
    | (s, none) => s
    | (s, some signed) =>
      let r := s.rec_ .outStream n
      let p := s.pubStream n
      let ms := s.alarmMembers n
      let f : TxFrame := { launch := launch, len := s.gooseSize n ttl, vid := outStreamVlanId r
                           dstMac := BitVec.ofNat 48 (outStreamDstMac r), dstIp := BitVec.ofNat 32 (outStreamDstIp r)
                           dport := outStreamDstPort r, service := false, pcp := 0
                           body := .goose n p.stNum p.sqNum p.t (goTimeQuality s.time.tsw) ttl (s.boot.mode == .replay) ms signed }
      forAll (maskPorts (outStreamPortMask r)) s (fun s lp => s.place lp (outStreamQueue r) f)

/-- Build the frame of a state change (R372): stNum one more, sqNum 0, the retransmissions from T_MIN_MS on. -/
def State.alarmChange (s : State) (n : Nat) (launch : Ns) : State :=
  let tmin := outStreamTMin (s.rec_ .outStream n)
  let s := s.modPub n (fun p => { p with stNum := nextSeq p.stNum, sqNum := 0, t := s.dt, changed := false
                                         nextAt := some (s.lts + tmin * 1000000), interval := tmin })
  let s := (s.bump (ck1 .alarmChanges n)).goose n launch (2 * tmin)
  s.mirror (.delta s.dt 0 1 (s.alarmDelta n))

/-- Send the state again with the next sqNum: the doubling interval up to T_MAX_MS (R372). -/
def State.alarmAgain (s : State) (n : Nat) : State :=
  let r := s.rec_ .outStream n
  let iv := min (2 * (s.pubStream n).interval) (outStreamTMax r)
  let s := s.modPub n (fun p => { p with sqNum := nextSeq p.sqNum, interval := iv
                                         nextAt := match p.nextAt with | some t => some (t + iv * 1000000) | none => none })
  (s.bump (ck1 .alarmRetransmits n)).goose n 0 (max (2 * iv) (2 * outStreamTMin r))

/-- A trip retry (R373): the same stNum with the next sqNum at once; the intervals start again. -/
def State.alarmRetry (s : State) (n : Nat) : State :=
  let tmin := outStreamTMin (s.rec_ .outStream n)
  let s := s.modPub n (fun p => { p with sqNum := nextSeq p.sqNum, nextAt := some (s.lts + tmin * 1000000), interval := tmin })
  s.goose n 0 (2 * tmin)

/-- The initial state frame at the first boundary of WARMUP (R372). -/
def State.alarmInitial (s : State) (n : Nat) : State :=
  let tmin := outStreamTMin (s.rec_ .outStream n)
  let ms := s.initialMembers n
  let s := s.modPub n (fun p => { p with members := ms, stNum := 1, sqNum := 0, t := s.dt, changed := false
                                         nextAt := some (s.lts + tmin * 1000000), interval := tmin })
  s.goose n 0 (2 * tmin)

end Sys2Proof.Machine
end

