-- ==== Sys2Proof/Machine/LogicOps.lean ====
section
/-! DEFINITION. Striker under its commands (chapter 12): variables and quality, the snapshot of a scan, the
function-block library, Hiska code and the outputs of a completed scan. -/

namespace Sys2Proof.Machine

/-! Variables. -/

/-- A word that has no value: FALSE, 0, or the quiet NaN (R315), by TYPE. -/
def invalidValue (vtype : Nat) : Word := if vtype = 2 then qnan else 0

/-- A float word as INT32: exact for a whole number in range, open otherwise (log entry 19). -/
def floatToInt (w : Word) : Word :=
  if isNan w || isInf w then Config.unstated 0x25 [w]
  else
    let n := fTrunc w
    if (fracOf w).1 = n * (fracOf w).2 ∧ -2147483648 ≤ n ∧ n ≤ 2147483647 then BitVec.ofInt 32 n else Config.unstated 0x25 [w]

/-- The part of a member that SUB names (Table LOG-3): value or magnitude, angle, frequency, rate of change, real and
imaginary part. -/
def memberPart (src sub : Nat) (m : Member) : Word :=
  match sub with
  | 1 => m.v1
  | 2 => if src = 6 then m.v2 else m.v0
  | 3 => if src = 6 then m.v3 else m.v1
  | 4 => (rectOf m.v0 m.v1).1
  | 5 => (rectOf m.v0 m.v1).2
  | _ => m.v0

/-- That part in the variable's TYPE; a BOOL of a digital word is its BIT. -/
def typedPart (v src : Nat) (m : Member) : Word :=
  let w := memberPart src (varSub v) m
  match varVtype v with
  | 0 => if src = 2 then BitVec.ofNat 32 (fld w.toNat (varBit v) (varBit v)) else BitVec.ofNat 32 (b2n (!isZero w))
  | 1 => if src = 2 then w else floatToInt w
  | _ => if src = 2 then fOfInt w.toNat else w

/-- The source of a channel is gated (R315, R368): a rate of change, an analytics output before convergence, and every
value that the device forms in WARMUP. -/
def State.srcGated (s : State) (ch sub : Nat) : Bool :=
  let r := s.rec_ .chan ch
  match chanSource r with
  | 6 => s.boot.mode == .warmup || (sub == 3 && s.rocofGated ch)
  | 7 =>
    let i := chanSrcRef r
    s.boot.mode == .warmup || (if i < 0x9000 then s.oscGated i else if 0xA000 ≤ i then s.detGated (i - 0xA000) else false)
  | _ => false

/-- An INPUT variable from the closed set (R315). -/
def State.inputVar (s : State) (ms : List Member) (v : Nat) : VarVal :=
  let r := s.rec_ .var v
  match ms.find? (fun m => m.ch == varSrc r) with
  | none => { v := invalidValue (varVtype r), q := 0x80 }
  | some m =>
    let q := inputQuality m.status (s.srcGated m.ch (varSub r))
    { v := if q.getLsbD 7 then invalidValue (varVtype r) else typedPart r (chanSource (s.rec_ .chan m.ch)) m, q := q }

/-- The latest of a list of events by tag, later arrivals standing over earlier ones (R316). -/
def latestEvent : List Event → Option Event
  | [] => none
  | e :: es => match latestEvent es with
    | none => some e
    | some f => some (if f.tag < e.tag then e else f)

/-- An EVENT variable at a set's tag (R316), from the events for it that carry a TAG up to that. -/
def State.eventVar (s : State) (tag : Ns) (v : Nat) : Bool × BitVec 8 :=
  let r := s.rec_ .var v
  let es := (s.logic.events.filter (fun e => e.1 == v && decide (e.2.tag ≤ tag))).map (fun e => e.2)
  let val := if stepKind (varFamily r) (varSub r) then !es.isEmpty
    else match latestEvent es with | some e => e.edge | none => agetD s.logic.evVals v false
  (val, if s.eventGated (varFamily r) (varSub r) (varSrc r) then 0x08 else 0)

/-- The closed set of a scan item: tag and members. -/
def Item.closedSet (it : Item) : Option (Ns × List Member) :=
  match it.ctx with
  | .plain | .evaluation _ => none
  | .group g => some (g.tag, g.members)
  | .output _ t ps => some (t, ps.flatMap (fun p => p.members))

/-- An item of the mirror copy. -/
def State.mirrorOf (s : State) (sub key : Nat) : Option (Ns × Delta) :=
  (s.pair.mirror.find? (fun m => m.1 == sub && m.2.1 == key)).map (fun m => m.2.2)

/-- An instance's state from its 16 bytes. -/
def mirrorSt (m : InstMirror) : InstSt :=
  { prev := m.flags.getLsbD 0 || m.flags.getLsbD 3, q := m.flags.getLsbD 1, running := m.flags.getLsbD 2, et := m.et }

/-- DELTA 1 (R391), at the scan boundary of a task of a standby: where its entry differs from the primary's for the same tag, its
instance state and INTERNAL variables are replaced by the mirror copy of that tag. -/
def State.adoptTask (s : State) (t : Nat) : State :=
  match s.pair.digest, s.mirrorOf 1 t, aget s.logic.lastTag t with
  | some d, some (tag, .logicState _ is vs), some own =>
    let e := d.tasks.getD t { tag := 0, crc := 0 }
    if s.pair.role = .standby ∧ s.pair.mirrorValid = true ∧ s.pair.link = .up ∧ e.tag = own ∧ tag = own ∧ e.crc ≠ s.taskCrc t then
      let insts := (s.taskInsts t).filterMap (fun i => match is.find? (fun m => m.id.toNat == instInstanceId (s.rec_ .inst i)) with
        | some m => some (i, mirrorSt m) | none => none)
      let s := { s with logic := { s.logic with
        insts := insts.foldl (fun l (x : Nat × InstSt) => aput l x.1 x.2) s.logic.insts
        vars := if s.mapsMatch then vs.foldl (fun l (v : Nat × Word × BitVec 8) => aput l v.1 { v := v.2.1, q := v.2.2 }) s.logic.vars else s.logic.vars } }
      s.bump (ck1 .resyncs 1)
    else s
  | _, _, _ => s

/-- A task's scan boundary (R320): a standby's adoption (R391), the task's accepted change sets and the force requests of its variables
take effect. -/
def State.scanBoundary (s : State) (t : Nat) : State :=
  let s := s.adoptTask t
  let sets := s.logic.sets.filter (fun x => x.1 == t)
  let s := { s with logic := { s.logic with sets := s.logic.sets.filter (fun x => x.1 != t) } }
  let s := forAll sets s (fun s x => s.ovApply x.2.2)
  let mine (o : Nat) : Bool := o / 65536 == 0 && varTask (s.rec_ .var (o % 65536)) == t
  let reqs := s.logic.forceReq.filter (fun q => mine q.1)
  let s := { s with logic := { s.logic with forceReq := s.logic.forceReq.filter (fun q => !mine q.1) } }
  forAll reqs s (fun s q =>
    match q.2 with
    | some w => ({ s with logic := { s.logic with forces := aput s.logic.forces q.1 w } }).bump (ck .forcesApplied)
    | none => if (aget s.logic.forces q.1).isSome then
        ({ s with logic := { s.logic with forces := adel s.logic.forces q.1 } }).bump (ck .forcesReleased) else s)

/-- The snapshot of a scan, taken at its dispatch (R317): a re-issued scan keeps the one it has (R319). -/
def State.takeSnapshot (s : State) (it : Item) : State :=
  if !s.isScan it then s
  else match s.itemTask it, it.closedSet with
    | some t, some (tag, ms) =>
      if it.reissued && s.logic.snaps.any (fun x => x.task == t && x.tag == tag) then s
      else
        let s := s.scanBoundary t
        let ins := (s.varsOf t 0).map (fun v => (v, s.inputVar ms v))
        let evs := (s.varsOf t 1).map (fun v => (v, s.eventVar tag v))
        let sn : Snapshot := { task := t, tag := tag
                               forces := s.logic.forces
                               vals := ins ++ evs.map (fun e => (e.1, { v := BitVec.ofNat 32 (b2n e.2.1), q := e.2.2 })) }
        { s with logic := { s.logic with
            snaps := s.logic.snaps.filter (fun x => x.task != t) ++ [sn]
            events := s.logic.events.filter (fun e => !(varTask (s.rec_ .var e.1) == t && decide (e.2.tag ≤ tag)))
            evVals := evs.foldl (fun m e => aput m e.1 e.2.1) s.logic.evVals } }
    | _, _ => s

/-- A variable as every reader sees it (R315, R331): a forced value with FORCED alone; the snapshot's INPUT and EVENT
values; a CONSTANT's INIT; INTERNAL and OUTPUT values as last written, INIT before. -/
def State.readVar (s : State) (sn : Snapshot) (v : Nat) : VarVal :=
  match aget sn.forces v with
  | some w => { v := w, q := 0x10 }
  | none =>
    let r := s.rec_ .var v
    match varSeg r with
    | 0 | 1 => agetD sn.vals v { v := invalidValue (varVtype r), q := 0x80 }
    | 3 => { v := BitVec.ofNat 32 (varInit r), q := 0 }
    | _ => agetD s.logic.vars v { v := BitVec.ofNat 32 (varInit r), q := 0 }

/-- Store a variable; 0xFFFF names none. -/
def State.writeVar (s : State) (v : Nat) (x : VarVal) : State :=
  if v = 0xFFFF then s else { s with logic := { s.logic with vars := aput s.logic.vars v x } }

/-! Function blocks (Table LOG-5). -/

/-- The OR of bits 7:3 of qualities (R315). -/
def qualityOr (qs : List (BitVec 8)) : BitVec 8 := (qs.foldl (fun a q => a ||| q) 0) &&& 0xF8

/-- A BOOL as a word. -/
def boolWord (b : Bool) : Word := BitVec.ofNat 32 (b2n b)

/-- A word as a BOOL. -/
def isTrue (w : Word) : Bool := w != 0

/-- An INT32 of microseconds as ns; below 0 counts as 0 (R324). -/
def ptNs (w : Word) : Nat := w.toInt.toNat * 1000

/-- ET in µs, truncated and saturated (R324). -/
def etUs (et : Nat) : Word := BitVec.ofNat 32 (min (et / 1000) 2147483647)

/-- ET after Δ more, held up to 2^63 - 1. -/
def etAdd (et d : Nat) : Nat := min (et + d) (2 ^ 63 - 1)

/-- TON over its stored state (R324): the input or, for TOF, its inverse. -/
def tonEt (st : InstSt) (inp prev : Bool) (d : Nat) : Nat := if inp then (if prev then etAdd st.et d else 0) else 0

/-- A float result: the quiet NaN carries INVALID. -/
def floatRes (w : Word) (q : BitVec 8) : VarVal := if isNan w then { v := qnan, q := q ||| 0x80 } else { v := w, q := q }

/-- A BOOL result of float inputs: INVALID when one is a NaN. -/
def floatBool (b : Bool) (ins : List VarVal) (q : BitVec 8) : VarVal :=
  { v := boolWord b, q := if ins.any (fun x => isNan x.v) then q ||| 0x80 else q }

/-- A block's result over its inputs, its stored state and Δ: OUT0, OUT1 and the new state (Table LOG-5). -/
def blockRun (fb : Nat) (ins : List VarVal) (st : InstSt) (d : Nat) : VarVal × VarVal × InstSt :=
  let w (i : Nat) : Word := (ins.getD i { v := 0, q := 0 }).v
  let b (i : Nat) : Bool := isTrue (w i)
  let q := qualityOr (ins.map (fun x => x.q))
  let bool (x : Bool) : VarVal := { v := boolWord x, q := q }
  let none_ : VarVal := { v := 0, q := q }
  match fb with
  | 0x10 => (bool (ins.all (fun x => isTrue x.v)), none_, st)
  | 0x11 => (bool (ins.any (fun x => isTrue x.v)), none_, st)
  | 0x12 => (bool (b 0 != b 1), none_, st)
  | 0x13 => (bool (!b 0), none_, st)
  | 0x18 => (bool (decide ((w 0).toInt ≤ (((ins.drop 1).filter (fun x => isTrue x.v)).length : Int))), none_, st)
  | 0x20 => (bool (b 0 && !st.prev), none_, { st with prev := b 0 })
  | 0x21 => (bool (!b 0 && st.prev), none_, { st with prev := b 0 })
  | 0x28 => let r := b 0 || (st.q && !b 1); (bool r, none_, { st with q := r })
  | 0x29 => let r := !b 1 && (b 0 || st.q); (bool r, none_, { st with q := r })
  | 0x30 =>
    let et := tonEt st (b 0) st.prev d
    (bool (decide (ptNs (w 1) ≤ et)), { v := etUs et, q := q }, { st with prev := b 0, et := et })
  | 0x31 =>
    let et := tonEt st (!b 0) (!st.prev) d
    (bool (b 0 || decide (et < ptNs (w 1))), { v := etUs et, q := q }, { st with prev := b 0, et := et })
  | 0x32 =>
    let st' : InstSt :=
      if st.running then
        let et := etAdd st.et d
        { st with et := et, running := decide (et < ptNs (w 1)) }
      else if b 0 && !st.prev then { st with et := 0, running := true }
      else st
    (bool st'.running, { v := etUs st'.et, q := q }, { st' with prev := b 0 })
  | 0x38 =>
    let was := (BitVec.ofNat 32 st.et).toInt
    let cv : Int := if b 1 then 0 else if b 0 && !st.prev then min (was + 1) 2147483647 else was
    let cw := BitVec.ofInt 32 cv
    (bool (decide ((w 2).toInt ≤ cv)), { v := cw, q := q }, { st with prev := b 0, et := cw.toNat })
  | 0x40 => (floatRes (fAdd (w 0) (w 1)) q, none_, st)
  | 0x41 => (floatRes (fSub (w 0) (w 1)) q, none_, st)
  | 0x42 => (floatRes (fMul (w 0) (w 1)) q, none_, st)
  | 0x43 => (floatRes (fDiv (w 0) (w 1)) q, none_, st)
  | 0x44 => (floatRes (if isNan (w 0) then qnan else fAbs (w 0)) q, none_, st)
  | 0x45 => (floatRes (fMin (w 0) (w 1)) q, none_, st)
  | 0x46 => (floatRes (fMax (w 0) (w 1)) q, none_, st)
  | 0x48 =>
    let r := if fLe (w 1) (w 0) then true else if fLt (w 0) (fSub (w 1) (w 2)) then false else st.q
    (floatBool r ins q, none_, { st with q := r })
  | 0x50 => (floatRes (fWrap (fSub (w 0) (w 1))) q, none_, st)
  | 0x54 => (floatRes (fMin (fMax (w 1) (w 0)) (w 2)) q, none_, st)
  | 0x58 => ({ v := if b 0 then w 2 else w 1, q := q }, none_, st)
  | 0x60 =>
    let qi := (ins.getD 0 { v := 0, q := 0 }).q
    let qo : BitVec 8 := qi &&& 0x10
    ({ v := boolWord (qi &&& 0xF8 == 0), q := qo }, { v := qi.setWidth 32, q := qo }, st)
  | _ => (none_, none_, st)

/-- The reset state of an instance (Table LOG-11): Q and CV from the INIT of its output variables. -/
def State.instInit (s : State) (i : Nat) : InstSt :=
  let r := s.rec_ .inst i
  let init (v : Nat) : Nat := if v = 0xFFFF then 0 else varInit (s.rec_ .var v)
  { prev := false, q := init (instOut0 r) != 0, running := false
    et := if isCounter (instFbType r) then init (instOut1 r) else 0 }

/-- State of an instance at its first scan (Table LOG-11), counted; the current IN0 is the previous input of a new one. -/
def State.instFirst (s : State) (i : Nat) (in0 : Bool) : State × InstSt :=
  let r := s.rec_ .inst i
  let id := BitVec.ofNat 32 (instInstanceId r)
  let found := if s.logic.fresh then none
    else match s.logic.partnerRet.find? (fun m => m.id == id) with
      | some m => some m
      | none => s.logic.retention.find? (fun m => m.id == id)
  match found with
  | none => (s.bump (ck .instNew), { s.instInit i with prev := in0 })
  | some m =>
    if m.fbType.toNat = instFbType r then
      (s.bump (ck .instKept),
       { prev := m.flags.getLsbD (if isCounter (instFbType r) then 3 else 0), q := m.flags.getLsbD 1, running := m.flags.getLsbD 2,
         et := m.et })
    else ((s.bump (ck .instReset)).postFor 2 .unit (ck .instReset) 0, s.instInit i)

/-- Run one instance at its point of the scan (R322). -/
def State.instRun (s : State) (sn : Snapshot) (d i : Nat) : State :=
  let r := s.rec_ .inst i
  let ins := (List.range (instNIn r)).map (fun k => s.readVar sn (fld (instIns r) (127 - 16 * k) (112 - 16 * k)))
  let first : Bool := !s.logic.scanned.contains i
  let (s, st) := if first then s.instFirst i (isTrue (ins.getD 0 { v := 0, q := 0 }).v) else (s, s.instSt i)
  let (o0, o1, st') := blockRun (instFbType r) ins st (if first then 0 else d)
  let s := { s with logic := { s.logic with insts := aput s.logic.insts i st'
                                            scanned := if first then s.logic.scanned ++ [i] else s.logic.scanned } }
  (s.writeVar (instOut0 r) o0).writeVar (instOut1 r) o1

/-! Hiska code (Tables LOG-6, LOG-7). -/

/-- A register write. -/
def hset (h : List VarVal) (d : Nat) (x : VarVal) : List VarVal := setAt h d { x with q := x.q &&& 0xF8 }

/-- The result of a register-format operation on D, A and B; none for an opcode that is not one. -/
def hiskaAlu (op : Nat) (d a b : VarVal) : Option VarVal :=
  let q := qualityOr [a.q, b.q]
  let qa := qualityOr [a.q]
  match op with
  | 0x04 => some { v := a.v, q := qa }
  | 0x08 => some { v := boolWord (isTrue a.v && isTrue b.v), q := q }
  | 0x09 => some { v := boolWord (isTrue a.v || isTrue b.v), q := q }
  | 0x0A => some { v := boolWord (isTrue a.v != isTrue b.v), q := q }
  | 0x0B => some { v := boolWord (!isTrue a.v), q := qa }
  | 0x10 => some (floatRes (fAdd a.v b.v) q)
  | 0x11 => some (floatRes (fSub a.v b.v) q)
  | 0x12 => some (floatRes (fMul a.v b.v) q)
  | 0x13 => some (floatRes (fDiv a.v b.v) q)
  | 0x14 => some (floatRes (if isNan a.v then qnan else fAbs a.v) qa)
  | 0x15 => some (floatRes (fMin a.v b.v) q)
  | 0x16 => some (floatRes (fMax a.v b.v) q)
  | 0x18 => some { v := satI32 (a.v.toInt + b.v.toInt), q := q }
  | 0x19 => some { v := satI32 (a.v.toInt - b.v.toInt), q := q }
  | 0x20 => some (floatBool (fLt a.v b.v) [a, b] q)
  | 0x21 => some (floatBool (fLe a.v b.v) [a, b] q)
  | 0x22 => some (floatBool (fEq a.v b.v) [a, b] q)
  | 0x24 => some { v := fOfInt a.v.toInt, q := qa }
  | 0x25 => some (if isNan a.v then { v := 0x80000000, q := qa ||| 0x80 } else { v := floatToInt a.v, q := qa })
  | 0x28 => some (floatRes (fWrap a.v) qa)
  | 0x30 => some { v := if isTrue d.v then a.v else b.v, q := qualityOr [d.q, a.q, b.q] }
  | 0x34 => some { v := a.q.setWidth 32, q := 0 }
  | 0x35 => some { v := a.v, q := a.q &&& 0x17 }
  | _ => none

/-- Run Hiska code from a word number to END; none on an instruction fault (R325, R326). Jumps go forward only, so that
the words of the section bound the run. -/
def State.hiska (sn : Snapshot) (d : Nat) : Nat → Nat → List VarVal → State → Option State
  | 0, _, _, _ => none
  | fuel + 1, pc, h, s =>
    let w := s.rec_ .code pc
    let op := fld w 31 24
    let rd := fld w 23 19
    let g (n : Nat) : VarVal := h.getD n { v := 0, q := 0 }
    match op with
    | 0x7F => some s
    | 0x01 => State.hiska sn d fuel (pc + 1) (hset h rd (s.readVar sn (fld w 15 0))) s
    | 0x02 => State.hiska sn d fuel (pc + 1) h (s.writeVar (fld w 15 0) { g rd with q := (g rd).q &&& 0xF8 })
    | 0x03 => State.hiska sn d fuel (pc + 1) (hset h rd { v := BitVec.ofInt 32 (signed 16 (fld w 15 0)), q := 0 }) s
    | 0x38 => State.hiska sn d fuel (pc + fld w 18 0) h s
    | 0x39 => State.hiska sn d fuel (if isTrue (g rd).v then pc + 1 else pc + fld w 18 0) h s
    | 0x3A => State.hiska sn d fuel (if isTrue (g rd).v then pc + fld w 18 0 else pc + 1) h s
    | 0x40 => State.hiska sn d fuel (pc + 1) h (s.instRun sn d (fld w 12 0))
    | _ =>
      match hiskaAlu op (g rd) (g (fld w 18 14)) (g (fld w 13 9)) with
      | some x => State.hiska sn d fuel (pc + 1) (hset h rd x) s
      | none => none

/-! The scan. -/

/-- Δ of a scan (R324) and whether it is a tag discontinuity. -/
def State.scanDelta (s : State) (t : Nat) (tag : Ns) : Nat × Bool :=
  match aget s.logic.lastTag t with
  | none => (0, false)
  | some l => if tag ≤ l ∨ l + 10000000000 < tag then (0, true) else (tag - l, false)

/-- Run a task's program over its snapshot; none on an instruction fault. -/
def State.runScan (s : State) (sn : Snapshot) : Option State :=
  let (d, bad) := s.scanDelta sn.task sn.tag
  let s := if bad then s.bump (ck1 .tagDiscontinuities sn.task) else s
  if logicHdrProgKind (s.rec_ .logicHdr 0) = 1 then
    State.hiska sn d (logicHdrCodeLen (s.rec_ .logicHdr 0) / 4 + 1) (taskCodeEntry (s.rec_ .task sn.task) / 4)
      (List.replicate 32 { v := 0, q := 0 }) s
  else some (forAll (s.taskInsts sn.task) s (fun s i => s.instRun sn d i))

/-! Outputs (R327-R329). -/

/-- The output records of a task, ascending. -/
def State.taskOuts (s : State) (t kind : Nat) : List Nat :=
  (s.valids .outRec 255 512).filter (fun o =>
    let r := s.rec_ .outRec o
    outRecKind r == kind && varTask (s.rec_ .var (outRecVar r)) == t)

/-- A frame handed over because of an output record: counted when the subscriber's stream is not LIVE (R327). -/
def State.handOver (s : State) (o : Nat) : State :=
  let sub := outRecSubSid (s.rec_ .outRec o)
  if sub = 0xFFFF ∨ (s.streamSt sub).st = .live then s else s.bump (ck1 .undeliveredWrites o)

/-- This device owns the outputs of a task's scan at a tag (R400). -/
def State.owns (s : State) (t : Nat) (tag : Ns) : Bool :=
  match aget s.logic.ownAfter t with | some e => decide (e ≤ tag) | none => true

/-- KIND 0: a dataset member (R371), written from a scan that this device owns (R400). -/
def State.outMember (s : State) (sn : Snapshot) (o : Nat) : State :=
  let r := s.rec_ .outRec o
  let x := s.readVar sn (outRecVar r)
  let n := outRecOutStream r
  if !s.owns sn.task sn.tag then s
  else
    let s := { s with logic := { s.logic with outVals := aput s.logic.outVals o x } }
    if outStreamAlarm (s.rec_ .outStream n) = 1 then
      let differs : Bool := (s.pubStream n).members.getD (outRecMember r) x != x
      let s := s.setMember n (outRecMember r) x 0
      if differs then s.handOver o else s
    else s

/-- ns of LAUNCH_OFFSET. -/
def offsetNs (r : Nat) : Nat := outRecLaunchOffset r * 1000

/-- KIND 1: an acknowledgement ends the series; a rise launches a trip frame (R328, R373). -/
def State.outTrip (s : State) (sn : Snapshot) (it : Item) (o : Nat) : State :=
  let r := s.rec_ .outRec o
  let x := s.readVar sn (outRecVar r)
  let was := isTrue (agetD s.logic.outVals o { v := 0, q := 0 }).v
  let s := { s with logic := { s.logic with outVals := aput s.logic.outVals o x } }
  let acked : Bool := outRecAckVar r != 0xFFFF && (let a := s.readVar sn (outRecAckVar r); isTrue a.v && a.q &&& 0xF8 == 0)
  let s := match s.logic.trips.find? (fun y => y.out == o) with
    | some y =>
      if acked && decide (y.tag < sn.tag) then
        ({ s with logic := { s.logic with trips := s.logic.trips.filter (fun y => y.out != o) } }).deltaTrip o false y.tag 0
      else s
    | none => s
  if was || !isTrue x.v then s
  else
    let n := outRecOutStream r
    if !s.mayPublish n || !s.owns sn.task sn.tag then s.bump (ck1 .suppressed n)
    else
      let launch := if outRecLaunchOffset r = 0 then 0 else sn.tag + offsetNs r
      let s := ((s.alarmChange n launch).bump (ck1 .tripLaunches o)).handOver o
      let s := s.charge it.region it.cls
        { cycles := 0, dram := 0, flits := outStreamLaunchFlits (s.rec_ .outStream n)
          egress := outStreamLaunchBytes (s.rec_ .outStream n) }
      let due := s.lts + (launch - s.dt) + outRecRetryMs r * 1000000
      let rest := s.logic.trips.filter (fun y => y.out != o)
      let live : Bool := outRecAckVar r != 0xFFFF || outRecRetryCount r != 0
      let y : Trip := { out := o, tag := sn.tag, left := outRecRetryCount r, due := due }
      ({ s with logic := { s.logic with trips := if live then rest ++ [y] else rest } }).deltaTrip o live sn.tag (outRecRetryCount r)

/-- The level that a discrete output is bound for: the newest change on its way, else the deferred one, else the level. -/
def DoSt.target (d : DoSt) : Option Bool :=
  match d.resend with
  | some (_, v) => some v
  | none => match d.pend.getLast? with
    | some (_, _, v) => some v
    | none => match d.deferred with | some (_, _, v) => some v | none => d.level

/-- Changes in crossing 11, over all outputs: at most 16 (Table ARC-4 row 11). -/
def State.crossing11 (s : State) : Nat := s.logic.dos.foldl (fun n d => n + d.pend.length) 0

/-- Send a change of level into crossing 11 (R329, Table LOG-9): refused when it is full, and sent again later. -/
def State.sendLevel (s : State) (d : Nat) (due tag : Ns) (v : Bool) : State :=
  if 16 ≤ s.crossing11 then
    ((s.modDo d (fun x => { x with resend := some (tag, v) })).bump (ck1 .refusedEntries d)).postFor 4 .unit (ck1 .refusedEntries d) 0
  else s.modDo d (fun x => { x with pend := x.pend ++ [(due, tag, v)], resend := none })

/-- Levels refused before are sent again at the next scan completion (Table LOG-9). -/
def State.resendLevels (s : State) : State :=
  forAll (List.range 16) s (fun s d =>
    match (s.doSt d).resend with
    | some (tag, v) => if s.crossing11 < 16 then s.sendLevel d s.dt tag v else s
    | none => s)

/-- KIND 2: a discrete output (R329, Table LOG-9). -/
def State.outLevel (s : State) (sn : Snapshot) (o : Nat) : State :=
  let r := s.rec_ .outRec o
  let x := s.readVar sn (outRecVar r)
  let d := outRecDoNo r
  let v := isTrue x.v
  let s := { s with logic := { s.logic with outVals := aput s.logic.outVals o x } }
  let s := s.modDo d (fun y => { y with openDrain := outRecOpenDrain r == 1, activeHigh := outRecActiveHigh r == 1 })
  if (s.doSt d).target = some v then s
  else if !s.drivesDo || !s.owns sn.task sn.tag || (s.doSt d).forced.isSome then s.bump (ck1 .suppressedWrites d)
  else
    let due := sn.tag + offsetNs r
    if outRecLaunchOffset r = 0 then s.sendLevel d s.dt sn.tag v
    else if due ≤ s.dt then (s.bump (ck1 .lateLevels d)).sendLevel d s.dt sn.tag v
    else s.sendLevel d due sn.tag v

/-- The records of KIND 5 whose variable a completed scan changed the wanted way, with bits 7 and 5 of its quality clear
(Table CAP-4). -/
def State.varTrigs (before s : State) (sn : Snapshot) : List Trig :=
  ((s.trigRecs 5).filter (fun i =>
    let v := trigSrcRef (s.rec_ .trigSrc i)
    let old := before.readVar sn v
    let new := s.readVar sn v
    varTask (s.rec_ .var v) == sn.task && isTrue old.v != isTrue new.v && edgeWanted (trigSrcEdges (s.rec_ .trigSrc i)) (isTrue new.v) &&
      !new.q.getLsbD 7 && !new.q.getLsbD 5)).map (fun i => s.trigOf i sn.tag 0)

/-- A scan completes (R319): its instance data, variables and outputs are written all at once, and the change is
mirrored (DELTA 1). -/
def State.completeScan (before s : State) (sn : Snapshot) (it : Item) : State :=
  let t := sn.task
  let s := { s with logic := { s.logic with lastTag := aput s.logic.lastTag t sn.tag
                                            snaps := s.logic.snaps.filter (fun x => x.task != t) } }
  let s := (s.bump (ck1 .scansCompleted t)).converge 12 t
  let s := s.resendLevels
  let s := forAll (s.taskOuts t 0) s (fun s o => s.outMember sn o)
  let s := forAll (s.taskOuts t 1) s (fun s o => s.outTrip sn it o)
  let s := forAll (s.taskOuts t 2) s (fun s o => s.outLevel sn o)
  let s := s.queueTrigs (before.varTrigs s sn)
  let insts := (s.taskInsts t).filter (fun i => aget before.logic.insts i != aget s.logic.insts i)
  let vars := (s.varsOf t 2).filter (fun v => aget before.logic.vars v != aget s.logic.vars v)
  if insts.isEmpty && vars.isEmpty then s else s.deltaLogic t sn.tag insts vars

end Sys2Proof.Machine
end

