-- ==== Sys2Proof/Machine/OscOps.lean ====
section
/-! DEFINITION. Oscillation detection and islanding under the other families (chapters 09 and 10): output indices, the release
of analytics outputs, alarms that drop, restarts, abandoned updates and detectors, and the start of an evaluation. -/

namespace Sys2Proof.Machine

/-! Analytics outputs (R243, R368). -/

/-- The latest of a list of outputs by tag, the one released later standing first. -/
def latestOut : List AnaOut → Option AnaOut
  | [] => none
  | o :: os => match latestOut os with | none => some o | some p => some (if o.tag < p.tag then p else o)

/-- Keep an output of an analytics index: an older one stays as long as a tag to come can still take it. -/
def State.putAna (s : State) (o : AnaOut) : State :=
  let old := s.align.ana.filter (fun p => p.index != o.index || decide (s.dt < p.tag + 1000000000) ||
    !(s.align.ana.any (fun q => q.index == p.index && decide (p.tag < q.tag) && decide (q.tag + 1000000000 ≤ s.dt))))
  { s with align := { s.align with ana := o :: old } }

/-- The band of an oscillation index (R243). -/
def oscBandOf (i : Nat) : Nat := if i < 0x8000 then i % 4 else i / 4 % 4

/-- The key of an index's band state: the bank's index, or slot 0 of a group's band. -/
def oscKey (i : Nat) : Nat := if i < 0x8000 then i else i / 4 * 4

/-- The keys of the configured outputs: signals and bands, groups and bands (R233, R237). -/
def State.oscKeys (s : State) : List Nat :=
  (s.valids .signal 127 8192).flatMap (fun n => (bitsOf 4 (signalBands (s.rec_ .signal n))).map (fun b => 4 * n + b)) ++
  (s.valids .groupEst 127 256).flatMap (fun g => (bitsOf 3 (groupEstBands (s.rec_ .groupEst g))).map (fun b => 0x8000 + 16 * g + 4 * b))

/-- The indices of a key: one of the bank, MODES slots of a group's band (R239). -/
def State.keyIndices (s : State) (k : Nat) : List Nat :=
  if k < 0x8000 then [k] else (List.range (oscBandModes (s.rec_ .oscBand (oscBandOf k)))).map (fun i => k + i)

/-- The parameter set of an index (R245). -/
def State.oscParam (s : State) (i : Nat) : Nat :=
  if i < 0x8000 then signalParam (s.rec_ .signal (i / 4)) else groupEstParam (s.rec_ .groupEst ((i - 0x8000) / 16))

/-- The unit under which Table OSC-14 counts a key. -/
def oscUnit (k : Nat) : Nat := oscKey k

/-- An index's band state. -/
def State.bandSt (s : State) (k : Nat) : BandSt := agetD s.osc.bands k { done := none, upTo := 0, first := none, gap := 0, inputs := [] }

/-- An index's alarm state before any update. -/
def ModeAlarm.fresh : ModeAlarm := { picked := 0, runs := List.replicate 4 0, drops := List.replicate 4 0, freq := none, occ := none }

/-- An index's alarm state. -/
def State.modeAlarm (s : State) (i : Nat) : ModeAlarm := agetD s.osc.alarms i ModeAlarm.fresh

/-- Set an index's alarm state. -/
def State.setAlarm (s : State) (i : Nat) (a : ModeAlarm) : State := { s with osc := { s.osc with alarms := aput s.osc.alarms i a } }

/-- Bits 235:224 of a mode record (Table OSC-8). -/
def ModeRec.flags (r : ModeRec) : Nat :=
  b2n (decide (0x8000 ≤ r.index)) * 2048 + b2n r.unconverged * 1024 + b2n r.invalid * 512 + b2n r.replay * 256 +
  b2n (r.picked.getLsbD 1) * 128 + b2n (r.picked.getLsbD 2) * 64 + b2n (r.picked != 0) * 32

/-- Append to the oscillation log of 65,536 records (R242). -/
def State.oscLog (s : State) (x : OscLog) : State :=
  let l := s.osc.log ++ [x]
  { s with osc := { s.osc with log := l.drop (l.length - 65536) } }

/-- Release a mode record (R242, R244): the latest of its index, in the log, and as the output that SOURCE 7 channels take. -/
def State.releaseMode (s : State) (r : ModeRec) : State :=
  let s := ({ s with osc := { s.osc with latest := aput s.osc.latest r.index r } }).oscLog (.mode r)
  s.putAna { index := r.index, tag := r.tag, vals := [r.freq, r.damping, r.amp, fOfInt r.conf, fOfInt r.flags]
             invalid := r.invalid || r.unconverged, test := r.replay }

/-- An invalid record (R242): quiet NaN in its floats, CONFIDENCE 0. -/
def State.invalidMode (s : State) (i : Nat) (tag : Ns) (unconverged : Bool) : ModeRec :=
  { index := i, unconverged := unconverged, invalid := true, replay := s.boot.mode == .replay, picked := (s.modeAlarm i).picked
    freq := qnan, damping := qnan, amp := qnan, conf := 0
    peak := if i < 0x8000 then (let r := s.rec_ .signal (i / 4); if signalQuantity r = 3 ∨ signalQuantity r = 4 then 0xFFFF else signalCh r) else 0xFFFF
    tag := tag, tsw := s.time.tsw }

/-! Alarm events (R247, R248). -/

/-- A pickup or drop-out of a kind, counted per parameter set and KIND; DAMPING or AMPLITUDE goes with it. -/
def State.oscEvent (s : State) (i kind : Nat) (edge : Bool) (cause : Nat) (tag : Ns) (v : Word) : State :=
  (s.bump (ck2 (if edge then .oscPickups else .oscDropouts) (s.oscParam i) kind)).raise
    { family := 1, tag := tag, index := i, kind := kind, edge := edge, cause := cause, grade := 0, topo := false, coh := false,
      fast := false, replay := s.boot.mode == .replay, value := v }

/-- DAMPING for kinds 0 to 2, AMPLITUDE for 3 (Table OSC-10). -/
def kindValue (r : ModeRec) (k : Nat) : Word := if k = 3 then r.amp else r.damping

/-- Drop every picked-up kind of an index with a cause between updates (R248), in KIND order; its counts start from zero. -/
def State.dropMode (s : State) (i cause : Nat) : State :=
  let a := s.modeAlarm i
  let s := s.setAlarm i { a with picked := 0, runs := List.replicate 4 0, drops := List.replicate 4 0 }
  forAll ((List.range 4).filter (fun k => a.picked.getLsbD k)) s (fun s k =>
    match aget s.osc.latest i with
    | some r => s.oscEvent i k false cause r.tag (kindValue r k)
    | none => s.oscEvent i k false cause s.dt qnan)

/-- A band with nothing in it behind a tag. -/
def State.emptyBand (s : State) (k : Nat) (upTo : Ns) : State :=
  { s with osc := { s.osc with bands := aput s.osc.bands k { (s.bandSt k) with upTo := upTo, first := none, gap := 0, inputs := [] } } }

/-- A band with nothing in it and its modes without history: no alarm is picked up in them. -/
def State.clearBand (s : State) (k : Nat) (upTo : Ns) : State :=
  forAll (s.keyIndices k) (s.emptyBand k upTo) (fun s i => s.setAlarm i { (s.modeAlarm i) with freq := none, occ := none })

/-- Restart a key's band (R241): its state and history are discarded, and its picked-up alarms drop with cause RESTART. -/
def State.restartBand (s : State) (k : Nat) (upTo : Ns) : State :=
  let s := (s.bump (ck1 .oscRestarts (oscUnit k))).emptyBand k upTo
  forAll (s.keyIndices k) s (fun s i => let s := s.dropMode i 1; s.setAlarm i { (s.modeAlarm i) with freq := none, occ := none })

/-- Every band of every signal and group restarts: a DT step, or REPLAY entered or left (Table OSC-7). -/
def State.restartOsc (s : State) (upTo : Ns) : State :=
  let s := { s with osc := { s.osc with rings := [], bands := s.osc.bands.map (fun e => (e.1, { e.2 with done := none })) } }
  forAll s.oscKeys s (fun s k => s.restartBand k upTo)

/-- The region of a key's input: that of its feed group, or of its waveform channel in band 3. -/
def State.oscRegion (s : State) (k : Nat) : Nat :=
  if 0x8000 ≤ k then groupRegion (s.rec_ .group ((k - 0x8000) / 16))
  else
    let r := s.rec_ .signal (k / 4)
    let c := if signalQuantity r = 3 ∨ signalQuantity r = 4 then branchVCh (s.rec_ .branch (signalBranch r)) else signalCh r
    let x := s.rec_ .chan c
    if chanSource x = 5 then chanSrcRef x / 16
    else if chanWgMember x = 1 then groupRegion (s.rec_ .group (chanWatchGroup x))
    else streamHomeRegion (s.rec_ .stream (chanSrcRef x))

/-- At a boundary (Table OSC-7): where OSC becomes shed every picked-up alarm drops with cause SHED; where it resumes every
band restarts, which counts as a shed restart alone (Tables OSC-7 and OSC-14). -/
def State.oscBoundary (s : State) : State :=
  let now := (List.range 4).filter (fun r => s.shed r 6)
  let was := s.osc.shed
  let s := { s with osc := { s.osc with shed := now } }
  let gone := s.oscKeys.filter (fun k => now.contains (s.oscRegion k) && !was.contains (s.oscRegion k))
  let back := s.oscKeys.filter (fun k => !now.contains (s.oscRegion k) && was.contains (s.oscRegion k))
  let s := forAll gone s (fun s k => forAll (s.keyIndices k) s (fun s i => s.dropMode i 3))
  let s := forAll back s (fun s k => s.clearBand k s.dt)
  if was.any (fun r => !now.contains r) then s.bump (ck .shedRestarts) else s

/-! Updates (R240). -/

/-- A band's update falls on a boundary, k-th of its DT second. -/
def State.updatesAt (s : State) (b k : Nat) (bd : Ns) : Bool :=
  let u := oscBandUpdateBeats (s.rec_ .oscBand b)
  u != 0 && (if u ≤ 2400 then k % u == 0 else k == 0 && bd / 1000000000 % (u / 2400) == 0)

/-- An update instant's parameter values are those in force at it, the change sets of its boundary among them (R240). -/
def State.noteParams (s : State) (k : Nat) (bd : Ns) : State :=
  let now := (List.range 64).map (fun n => s.rec_ .param n)
  forAll ((List.range 4).filter (fun b => s.updatesAt b k bd)) s (fun s b => { s with osc := { s.osc with params := aput s.osc.params b now } })

/-- A parameter set by which a band's update is judged. -/
def State.paramOf (s : State) (b n : Nat) : Nat :=
  match aget s.osc.params b with | some l => l.getD n 0 | none => s.rec_ .param n

/-- The latest update instant of a band at or before the last boundary. -/
def State.updateInstant (s : State) (b : Nat) : Option Ns :=
  let u := oscBandUpdateBeats (s.rec_ .oscBand b)
  match s.sch.beat with
  | none => none
  | some (k, t) =>
    let sec := t / 1000000000
    if u = 0 then none
    else if u ≤ 2400 then some (sec * 1000000000 + beatStart (k - k % u))
    else let n := u / 2400; some ((sec - sec % n) * 1000000000)

/-- An abandoned item (R240): the records of the updates that it covers are released with INVALID set, which breaks the runs
towards pickup (R247); the estimators stay as they were, and their next updates take the sets of both intervals. TAG of such a
record is that of the latest record of its index, and DT where there is none (DESIGN CHOICE, log entry 69). -/
def State.abandonOsc (s : State) (it : Item) : State :=
  let keys := s.oscKeys.filter (fun k => Config.oscCover it.template it.arg k)
  let s := forAll (keys.map oscBandOf).eraseDups s (fun s b => s.bump (ck1 .abandonedUpdates b))
  forAll keys s (fun s k =>
    let s := { s with osc := { s.osc with bands := aput s.osc.bands k { (s.bandSt k) with done := s.updateInstant (oscBandOf k) } } }
    forAll (s.keyIndices k) s (fun s i =>
      let tag := match aget s.osc.latest i with | some r => r.tag | none => s.dt
      let a := s.modeAlarm i
      (s.setAlarm i { a with runs := List.replicate 4 0 }).releaseMode (s.invalidMode i tag (match aget s.osc.latest i with | some r => r.unconverged | none => true))))

/-! Location runs (R251). -/

/-- A location set's state. -/
def State.locSt (s : State) (l : Nat) : LocSt := agetD s.osc.locs l { running := none, startedAt := 0, pending := none, pendAt := 0, spoilt := false }

/-- An abandoned item of a run that is going on marks the run's outputs invalid (R21); which runs an item serves stays open, as for
the updates (log entry 31). -/
def State.abandonLoc (s : State) (it : Item) : State :=
  forAll (List.range 16) s (fun s l =>
    if (s.locSt l).running.isSome && Config.oscCover it.template it.arg (0x9000 + l)
    then { s with osc := { s.osc with locs := aput s.osc.locs l { (s.locSt l) with spoilt := true } } } else s)

/-- A trigger of a location set becomes its one pending trigger; a replaced one is counted, also where the set does not run yet
(DESIGN CHOICE, log entry 69). -/
def State.trigLoc (s : State) (l index : Nat) (f : Word) (tag : Ns) : State :=
  let x := s.locSt l
  let s := if x.pending.isSome then s.bump (ck1 .locReplaced l) else s
  { s with osc := { s.osc with locs := aput s.osc.locs l { x with pending := some (index, f, tag), pendAt := s.sch.beats } } }

/-! Islanding evaluations and detectors under the dispatcher (R258, R259, R269). -/

/-- Islanding evaluations are configured (R257). -/
def State.islConfigured (s : State) : Bool := s.img.any (fun e => decide (e.1.1 = .watched) && e.2 != 0)

/-- The evaluation cell of the block in use, where it is in service (R259). -/
def State.islCell (s : State) : Option Nat :=
  match s.isl.block with
  | some b => ((List.range 4).map (fun i => 4 * b + i)).find? (fun c => (s.cell c).resv == 0x80 && (s.cell c).svc == .inService)
  | none => none

/-- Start an evaluation of every waiting set on the evaluation cell, when it is free (R258, R259): an item of class ALARM at level
15 without a template, whose use is charged at its completion (log entry 70). -/
def State.startEval (s : State) : State :=
  if !s.works || !s.islConfigured || s.isl.waiting.isEmpty then s
  else match s.islCell with
    | none => s
    | some c =>
      if (s.cell c).run.isSome then s
      else
        let (s, it) := s.newItem (regionOf c) 0xFFFF 1 15 3 0 0 0xFFF (.evaluation s.isl.waiting.length)
        let s := (s.bump (ck2 .itemsPosted it.region 1)).bump (ck2 .itemsDispatched it.region 1)
        (s.modCell c (fun x => { x with run := some it, since := s.lts, worked := false })).trace 1 it c 0

/-- A detector before its first close. -/
def DetSt.fresh : DetSt :=
  { run := 0, picked := false, prev := none, prevF := none, since := none, out := none, lastTag := 0, gated := true }

/-- A detector's state. -/
def State.detSt (s : State) (d : Nat) : DetSt := agetD s.isl.dets d DetSt.fresh

/-- The detectors of a group, in order. -/
def State.detsOf (s : State) (g : Nat) : List Nat :=
  (List.range (islHdrDetCount (s.rec_ .islHdr 0))).filter (fun d => detValid (s.rec_ .det d) == 1 && detGroup (s.rec_ .det d) == g)

/-- The outputs of the detectors of an abandoned item are invalid (R21), at the tag of its close. -/
def State.abandonDets (s : State) (gs : GroupSet) : State :=
  forAll (s.detsOf gs.group) s (fun s d =>
    let old := (s.detSt d).out
    s.putAna { index := 0xA000 + d, tag := gs.tag, invalid := true, test := s.boot.mode == .replay
               vals := match old with | some o => [o.2.1, o.2.2] | none => [0, qnan] })

end Sys2Proof.Machine
end

