-- ==== Sys2Proof/Machine/Dispatcher.lean ====
section
/-! DEFINITION. The dispatcher, cells and their faults, uncorrectable errors and shedding (R18-R27, R287-R294, R303-R309),
with the meanings of the commands of that family. -/

namespace Sys2Proof.Machine

/-! Delay list (R288). -/

/-- A due tick has been reached: the 32-bit difference of the tick and it is less than 2³¹. -/
def State.dueReached (s : State) (due : Nat) : Bool := !(BitVec.ofNat 32 s.tick - BitVec.ofNat 32 due).msb

/-- Move an item of the delay list to the tail of its level if it has fallen due and finds room; one that finds none stays
and is counted once (Table SCH-9). -/
def State.moveItem (s : State) (r : Nat) (it : Item) : State :=
  if !s.dueReached it.due then s
  else if s.readyRoom r it.prio then
    (s.modReg r (fun g => { g with delay := g.delay.filter (fun x => x.seq != it.seq) })).placeReady { it with origin := 1 }
  else if it.late then s
  else (s.modReg r (fun g => { g with delay := g.delay.map (fun x => if x.seq == it.seq then { x with late := true } else x) })).bump
    (ck1 .delayLate r)

/-- Move every item of a region's delay list that has fallen due, in due order (R288, Sequence SCH-1). -/
def State.moveDelay (s : State) (r : Nat) : State := forAll (s.reg r).delay s (fun s it => s.moveItem r it)

/-- DELAY_ITEM_DUE (R288). -/
def execDelayItemDue (r : Region) (s : State) : Host.Outcome State Fault Refusal :=
  .next (if s.steps then s.moveDelay r.val else s)

/-! Dispatch (R289, R291). -/

/-- The ready items of a region in the order in which the dispatcher looks at them: highest level first, oldest first. -/
def State.readyOrder (s : State) (r : Nat) : List Item :=
  (List.range 16).flatMap (fun l => (s.reg r).ready.filter (fun it => it.prio == 15 - l))

/-- The item and cell that the dispatcher takes, with the items that it passed. -/
def State.pickItem (s : State) : List Item → List Item → Option (Item × Nat × List Item)
  | _, [] => none
  | passed, it :: rest =>
    match (if s.admissible it then s.cellFor it else none) with
    | some c => some (it, c, passed)
    | none => s.pickItem (passed ++ [it]) rest

/-- Bits of the resources that an item's budget refuses (WAITED of Table SCH-10). -/
def State.waitBits (s : State) (it : Item) : Nat :=
  let d := s.shortfall it
  b2n (d.cycles != 0) + 2 * b2n (d.dram != 0) + 4 * b2n (d.flits != 0) + 8 * b2n (d.egress != 0)

/-- Count the first refusal for budget of an item. -/
def State.noteWait (s : State) (it : Item) : State :=
  if s.admissible it || s.scanBusy it || it.waited then s
  else
    let s := s.modReg it.region (fun g =>
      { g with ready := g.ready.map (fun x => if x.seq == it.seq then { x with waited := true } else x) })
    (s.bump (ck2 .budgetWaits it.region it.cls)).trace 3 it 0 (s.waitBits it)

/-- Dispatch an item to a cell: charged, its snapshot taken when it is a scan (R317), the cell started. -/
def State.startItem (s : State) (it : Item) (c : Nat) : State :=
  let s := s.modReg it.region (fun g => { g with ready := g.ready.filter (fun x => x.seq != it.seq) })
  let s := (s.chargeStart it).takeSnapshot it
  let s := s.modCell c (fun x => { x with run := some it, since := s.lts, worked := it.written })
  (s.bump (ck2 .itemsDispatched it.region it.cls)).trace 1 it c 0

/-- One decision of the dispatcher in a region. -/
def State.dispatchOne (s : State) (r : Nat) : State :=
  let order := s.readyOrder r
  match s.pickItem [] order with
  | some (it, c, passed) => (forAll passed s (fun s x => s.noteWait x)).startItem it c
  | none => forAll order s (fun s x => s.noteWait x)

/-- DISPATCH (R289): nothing is dispatched where no work runs (R506). -/
def execDispatch (r : Region) (s : State) : Host.Outcome State Fault Refusal := .next (if s.steps then s.dispatchOne r.val else s)

/-! Completion (R291, R507). -/

/-- An item's outputs are written by a command of its kernel before it completes (OSC_LOCATE runs one item per beat and
releases its result apart). -/
def State.needsWork (s : State) (it : Item) : Bool :=
  let k := s.kernelOf it
  k == kFast || k == kIsl || k == kBank || k == kModal || k == kFb || k == kHiska

/-- ITEM_COMPLETE: use beyond the declared costs is charged, and the cell is free again. -/
def execItemComplete (c : Cell) (used : Cost) (s : State) : Host.Outcome State Fault Refusal :=
  .next (match (s.cell c.val).run with
    | none => s
    | some it =>
      if s.needsWork it && !(s.cell c.val).worked then s
      else
        let excess := (used.minus (tmplCost (s.tmpl it.template))).pos
        let s := (s.charge it.region it.cls excess).modCell c.val (fun x => { x with run := none, worked := false })
        ((s.bump (ck2 .itemsCompleted it.region it.cls)).trace 2 it c.val (min (used.cycles.toNat / 64) 0xFFFF)).startEval)

/-! Faults (R20-R23). -/

/-- What an abandoned item leaves (R21, R240, R319, Table ISL-10). -/
def State.abandonItem (s : State) (it : Item) : State :=
  if s.isScan it then
    match s.itemTask it with
    | some t => ({ s with logic := { s.logic with snaps := s.logic.snaps.filter (fun x => x.task != t) } }).bump (ck1 .scansAbandoned t)
    | none => s
  else if s.kernelOf it == kBank || s.kernelOf it == kModal then s.abandonOsc it
  else if s.kernelOf it == kIsl then
    -- Table ISL-10: sets whose row has retired are lost, the others join the next evaluation
    let lost := s.isl.waiting.filter (fun g => !((s.slice (groupRegion (s.rec_ .group g.group))).rows.any (fun w => w.tag == g.tag && !w.retired)))
    let s := s.bumpBy (ck .setsLost) lost.length
    { s with isl := { s.isl with waiting := s.isl.waiting.filter (fun g => !lost.contains g) } }.startEval
  else if s.kernelOf it == kLocate then s.abandonLoc it
  else match it.ctx with
    | .group gs => s.abandonDets gs
    | _ => s

/-- A cell other than an evaluation's own is reserved to evaluations; without one an aborted evaluation has no cell for a second
run and is abandoned (DESIGN CHOICE, log entry 70). -/
def State.otherEval (s : State) (it : Item) (c : Nat) : Bool :=
  s.kernelOf it != kIsl || (cellsOf it.region).any (fun d => d != c && (s.cell d).resv == 0x80 && (s.cell d).healthy)

/-- An aborted item is re-issued once at the head of its level, or abandoned (R20, R21). -/
def State.reissue (s : State) (it : Item) (c reason : Nat) : State :=
  let s := (s.bump (ck1 .aborts it.region)).trace 4 it c reason
  if it.reissued || !s.otherEval it c then
    ((s.bumpOnce (ck1 .abandoned it.region) 4 .unit).trace 6 it c 0).abandonItem it
  else
    let it' := { it with reissued := true, firstCell := c, origin := 4 }
    ((s.modReg it.region (fun g => { g with ready := it' :: g.ready })).bump (ck1 .reissues it.region)).trace 5 it' c 0

/-- Abort the item that a cell runs (R20). Its second run reads exactly what the first read: where the first had written its
outputs, the second writes them over with the same ones. -/
def State.abortCell (s : State) (c reason : Nat) : State :=
  match (s.cell c).run with
  | none => s
  | some it =>
    let it := { it with written := (s.cell c).worked }
    (s.modCell c (fun x => { x with run := none, worked := false })).reissue it c reason

/-- A cell faults (R20, R22): 1 uncorrectable error, 2 instruction fault, 3 cycle limit, 4 watchdog. The third fault
within one second quarantines it from the next boundary. -/
def State.faultCell (s : State) (c reason : Nat) : State :=
  let s := s.modCell c (fun x =>
    let fs := (s.lts :: x.faults).take 3
    { x with faults := fs, faultNow := true
             quarNext := x.quarNext || (x.svc == .inService && match fs[2]? with | some t => decide (s.lts ≤ t + 1000000000) | none => false) })
  s.abortCell c reason

/-- Row of a structure in Table ARC-3, counted from 0. -/
def structRow : Struct → Nat
  | .cellMemory => 0 | .blockMemory => 1 | .inputQueueWord => 2 | .historyWord => 3 | .mgmtLockstep => 4
  | .captureArea | .traceRing | .workBuffers => 5
  | .timeUnit => 6 | .beatTables => 7 | .descriptors => 8 | .slotMemory => 9 | .logicData => 10 | .publisher => 11
  | .interconnect => 12 | .keyVault => 13

/-- Severity of a structure's errors (R26): 0 contained, 1 non-critical, 2 critical. -/
def severity (st : Struct) : Nat := if structRow st < 5 then 0 else if structRow st = 5 then 1 else 2

/-- A block's memory fails (Table ARC-3): its items are aborted and re-issued in the region, and its four cells count as
lost. -/
def State.loseBlock (s : State) (b : Nat) : State :=
  let s := { s with sch := { s.sch with lostBlocks := if s.sch.lostBlocks.contains b then s.sch.lostBlocks else s.sch.lostBlocks ++ [b] } }
  let s := forAll ((List.range 4).map (fun i => 4 * b + i)) s (fun s c => s.modCell c (fun x => { x with svc := .lost }))
  forAll ((List.range 4).map (fun i => 4 * b + i)) s (fun s c => s.abortCell c 1)

/-- A frame of history whose word failed: every block of it reads as invalid. -/
def Delivery.spoiled (d : Delivery) : Delivery := { d with blockInvalid := true, badBlocks := List.range 4096 }

/-- The value of a history entry whose word failed. -/
def SliceIn.spoiled : SliceIn → SliceIn
  | .est v => .est { v with invalid := true }
  | .frame d => .frame d.spoiled

/-- The record of an entry whose word failed. -/
def HistRec.spoiled : HistRec → HistRec
  | .entry v q => .entry { v with val := v.val.spoiled } q
  | .commit f => .commit f

/-- A word of history reads as invalid from now on (Table ARC-3): of the four regions' phasor rings (unit modulo 6 below 4), of
the sampled-value ring (4) or of its local samples (5); the entry is the unit divided by 6 (log entry 62). -/
def State.spoilHistory (s : State) (unit : Nat) : State :=
  let spoil {α : Type} (f : α → α) (l : List α) : List α := modAt l (unit / 6) f
  match unit % 6 with
  | 4 => { s with align := { s.align with svRing := spoil (fun e => (e.1, e.2.1, e.2.2.spoiled)) s.align.svRing } }
  | 5 => { s with align := { s.align with localRing := spoil (fun e => (e.1, e.2.1, e.2.2.1, false)) s.align.localRing } }
  | r => s.modSlice r (fun x => { x with hist := spoil (fun e => (e.1, e.2.spoiled)) x.hist })

/-- A fault of a unit has been reported in the present beat (R27), acted on or not: of a cell, of the cells of a block, of a lane
group's queue. -/
def State.noteFault (s : State) (st : Struct) (unit : Nat) : State :=
  match st with
  | .cellMemory => s.modCell (unit % 64) (fun x => { x with faultNow := true })
  | .blockMemory => forAll ((List.range 4).map (fun i => 4 * (unit % 16) + i)) s (fun s c => s.modCell c (fun x => { x with faultNow := true }))
  | .inputQueueWord => { s with swage := { s.swage with queues := modAt s.swage.queues (unit % 4) (fun q => { q with faultNow := true }) } }
  | _ => s

/-- The management processor restarts from its firmware copy (Table ARC-3): until MANAGEMENT_FIRMWARE_START the boot responder
answers, and the management shadow is formed anew from the hardware's digest. The data paths go on. -/
def State.restartManagement (s : State) : State :=
  { s with boot := { s.boot with mgmtUp := false }, sch := { s.sch with shadow := s.sch.digest, disagree := 0 } }

/-- An uncorrectable error in a structure (R24-R26): counted and recorded always; acted on unless a more severe error of
the same beat has been. -/
def State.uncorrectable (s : State) (st : Struct) (unit : Nat) : State :=
  let row := structRow st
  let s := s.bump (ck2 .uncorrectable row unit)
  let s := (s.bbxPost 0x0010 (natBe 1 row ++ natBe 2 unit ++ natBe 1 (Config.objectFill 0x0010 row).toNat))
  let s := s.noteFault st unit
  if severity st < s.sch.worst then s
  else
    let s := { s with sch := { s.sch with worst := max s.sch.worst (severity st) } }
    match st with
    | .cellMemory => s.faultCell (unit % 64) 1
    | .blockMemory => s.loseBlock (unit % 16)
    | .historyWord => s.spoilHistory unit
    | .inputQueueWord => s
    | .mgmtLockstep => s.restartManagement
    | .captureArea | .traceRing | .workBuffers => s.nonCritical
    | _ => s.critical

/-- CELL_FAULT (R20): an uncorrectable local-memory error or an instruction fault. -/
def execCellFault (c : Cell) (cause : Fin 2) (s : State) : Host.Outcome State Fault Refusal :=
  .next (if cause = 0 then s.uncorrectable .cellMemory c.val else s.faultCell c.val 2)

/-- CELL_WATCHDOG (R294): counted, and a fault of the cell. -/
def execCellWatchdog (c : Cell) (s : State) : Host.Outcome State Fault Refusal :=
  .next (match (s.cell c.val).run with
    | some it => (s.bump (ck1 .watchdogs it.region)).faultCell c.val 4
    | none => s)

/-- ITEM_LIMIT_REACHED (R294): the item is aborted as a fault. -/
def execItemLimitReached (c : Cell) (s : State) : Host.Outcome State Fault Refusal :=
  .next (match (s.cell c.val).run with | some _ => s.faultCell c.val 3 | none => s)

/-- UNCORRECTABLE_ERROR (R24-R26, Table ARC-3). -/
def execUncorrectableError (st : Struct) (unit : Nat) (s : State) : Host.Outcome State Fault Refusal :=
  .next (if s.boot.mode == .dormant then s else s.uncorrectable st unit)

/-- CORRECTABLE_ERROR (R24): corrected and counted; it never changes the mode. -/
def execCorrectableError (st : Struct) (unit : Nat) (s : State) : Host.Outcome State Fault Refusal :=
  .next (s.bump (ck2 .correctable (structRow st) unit))

/-! Capacity (R304). -/

/-- Cells of a region out of service. -/
def State.lostCells (s : State) (r : Nat) : Nat := ((cellsOf r).filter (fun c => (s.cell c).svc != .inService)).length

/-- MARGIN of a region (Table SCH-11): 0 intact, 1 absorbing, 2 exhausted. -/
def State.margin (s : State) (r : Nat) : Nat :=
  let lost := 480000 * s.lostCells r
  if lost = 0 then 0 else if lost ≤ budgetCycles (s.budgetRec r 0xFF) then 1 else 2

/-! Shedding (R307-R309). -/

/-- Shed level that a thermal level asks for; an inhibit holds at level 1 only. -/
def State.thermalShed (s : State) (l : Nat) : Nat :=
  let h := s.rec_ .dispHdr 0
  match l with
  | 0 => 0
  | 1 => if s.sch.inhibit then 0 else dispHdrS1 h
  | 2 => dispHdrS2 h
  | _ => dispHdrS3 h

/-- The region's shed level S (R308). -/
def State.shedLevelOf (s : State) (r : Nat) : Nat :=
  max (max (s.thermalShed (s.sens.level.getD r 0)) (if s.boot.mode == .degraded then dispHdrSDeg (s.rec_ .dispHdr 0) else 0))
    s.sch.shedReq

/-- The classes shed at a level in a region: with a budget entry, SHED_RANK below S and SHED_FLOOR clear. -/
def State.shedClasses (s : State) (r lvl : Nat) : List Nat :=
  (List.range 32).filter (fun c =>
    let b := s.budgetRec r c
    b != 0 && budgetShedFloor b == 0 && decide (budgetShedRank b < lvl))

/-- Recompute a region's shed state; the waiting items of a class that becomes shed are discarded and counted (R309). -/
def State.reshed (s : State) (r : Nat) : State :=
  let lvl := s.shedLevelOf r
  let now := s.shedClasses r lvl
  let new := now.filter (fun c => !(s.reg r).shed.contains c)
  let gone := ((s.reg r).ready ++ (s.reg r).delay ++ (s.reg r).stalled.map (fun p => p.2)).filter (fun it => new.contains it.cls)
  let s := forAll gone s (fun s it => s.shedItem it)
  s.modReg r (fun g => { g with shedLevel := lvl, shed := now
                                ready := g.ready.filter (fun it => !new.contains it.cls)
                                delay := g.delay.filter (fun it => !new.contains it.cls)
                                stalled := g.stalled.filter (fun p => !new.contains p.2.cls)
                                budgets := g.budgets.mapIdx (fun i b => if new.contains i then b.least Cost.zero else b) })

/-- An inhibit that yields at thermal level 2 or 3 is a conflict (R308, R38). -/
def State.thermalConflict (s : State) (r : Nat) : State := (s.bump (ck1 .thermalConflicts r)).conflict 1 (ctrObject (ck1 .thermalConflicts r))

/-- THERMAL_LEVEL_FALL (R307): one step, after 2,400 beats below the level's threshold minus 5 °C. -/
def execThermalLevelFall (r : Region) (s : State) : Host.Outcome State Fault Refusal :=
  .next (if decide (2400 ≤ s.sens.below.getD r.val 0) && decide (0 < s.sens.level.getD r.val 0) then
    ({ s with sens := { s.sens with level := modAt s.sens.level r.val (fun l => l - 1), below := setAt s.sens.below r.val 0 } }).reshed r.val
  else s)

end Sys2Proof.Machine
end

