-- ==== Sys2Proof/Machine/Logic.lean ====
section
/-! DEFINITION. The commands of Striker and of the ALARM streams (R317-R331, R372, Table LOG-9). -/

namespace Sys2Proof.Machine

/-- The cell and item of a running scan of a task whose outputs are still to be written. -/
def State.scanOf (s : State) (t : Nat) : Option (Nat × Item) :=
  (List.range 64).findSome? (fun c =>
    match (s.cell c).run with
    | some it => if !(s.cell c).worked && s.isScan it && s.itemTask it == some t then some (c, it) else none
    | none => none)

/-- A task's scan completes on its snapshot: its program runs and its outputs are written; an instruction fault aborts
the item instead (R319, R326). -/
def State.logicScan (s : State) (t : Nat) : State :=
  match s.scanOf t, s.logic.snaps.find? (fun x => x.task == t) with
  | some (c, it), some sn =>
    match s.runScan sn with
    | some s' => (State.completeScan s s' sn it).setWorked c
    | none => s.faultCell c 2
  | _, _ => s

/-- LOGIC_SCAN (R317, R319). -/
def execLogicScan (task : Fin 32) (s : State) : Host.Outcome State Fault Refusal := .next (s.logicScan task.val)

/-- Apply a level at a ball's output: suppressed where DO0-DO15 are not driven or the DO is forced (Table LOG-9). -/
def State.applyLevel (s : State) (d : Nat) (v : Bool) : State :=
  if !s.drivesDo || (s.doSt d).forced.isSome then s.bump (ck1 .suppressedWrites d)
  else s.modDo d (fun x => if x.level == some v then x else { x with level := some v, at_ := s.dt })

/-- PULSE_MIN of a DO in ns: of the output record that names it. -/
def State.pulseMin (s : State) (d : Nat) : Nat :=
  match (s.valids .outRec 255 512).find? (fun o => outRecKind (s.rec_ .outRec o) == 2 && outRecDoNo (s.rec_ .outRec o) == d) with
  | some o => outRecPulseMin (s.rec_ .outRec o) * 1000
  | none => 0

/-- The change due first, the one of the later tag where two are due at one instant (Table LOG-9). -/
def dueFirst : List (Ns × Ns × Bool) → Option (Ns × Ns × Bool)
  | [] => none
  | x :: xs => match dueFirst xs with
    | none => some x
    | some y => some (if y.1 < x.1 ∨ (y.1 = x.1 ∧ x.2.1 ≤ y.2.1) then y else x)

/-- A due change of level leaves crossing 11 and is applied, or deferred to the end of PULSE_MIN (R329, Table LOG-9). -/
def State.levelDue (s : State) (d : Nat) : State :=
  match dueFirst (s.doSt d).pend with
  | none => s
  | some (due, tag, v) =>
    if s.dt < due then s
    else
      let s := s.modDo d (fun x => { x with pend := x.pend.filter (fun y => y.1 != due) })
      let x := s.doSt d
      let stop := x.at_ + s.pulseMin d
      if x.level.isSome && x.level != some v && decide (s.dt < stop) then
        (s.modDo d (fun x => { x with deferred := match x.deferred with
          | some (_, t', v') => if tag < t' then some (stop, t', v') else some (stop, tag, v)
          | none => some (stop, tag, v) })).bump (ck1 .pulseDeferrals d)
      else (s.modDo d (fun x => { x with deferred := none })).applyLevel d v

/-- DO_LEVEL_APPLY (R329). -/
def execDoLevelApply (d : Fin 16) (s : State) : Host.Outcome State Fault Refusal := .next (s.levelDue d.val)

/-- PULSE_MIN_EXPIRY (Table LOG-9): the deferred change is applied. -/
def execPulseMinExpiry (d : Fin 16) (s : State) : Host.Outcome State Fault Refusal :=
  .next (match (s.doSt d.val).deferred with
    | some (t, _, v) => if t ≤ s.dt then (s.modDo d.val (fun x => { x with deferred := none })).applyLevel d.val v else s
    | none => s)

/-- RETRY_MS passes in a trip series (R328): the frame goes again while retries are left; then the series ends, counted
as unacknowledged when it has an ACK_VAR. -/
def State.tripDue (s : State) (o : Nat) : State :=
  match s.logic.trips.find? (fun y => y.out == o) with
  | none => s
  | some y =>
    if s.lts < y.due then s
    else
      let r := s.rec_ .outRec o
      let rest := s.logic.trips.filter (fun y => y.out != o)
      if y.left = 0 then
        let s := ({ s with logic := { s.logic with trips := rest } }).deltaTrip o false y.tag 0
        (s.bump (ck1 .tripUnacked o)).postFor 5 .unit (ck1 .tripUnacked o) 0
      else
        let left := y.left - 1
        let live : Bool := outRecAckVar r != 0xFFFF || left != 0
        let y' := { y with left := left, due := y.due + outRecRetryMs r * 1000000 }
        let s := { s with logic := { s.logic with trips := if live then rest ++ [y'] else rest } }
        let s := if s.mayPublish (outRecOutStream r) then
            ((s.alarmRetry (outRecOutStream r)).bump (ck1 .tripRetries o)).handOver o
          else s.bump (ck1 .suppressed (outRecOutStream r))
        s.deltaTrip o live y.tag left

/-- TRIP_RETRY (R328, R373). -/
def execTripRetry (out : Fin 512) (s : State) : Host.Outcome State Fault Refusal := .next (s.tripDue out.val)

/-- ALARM_STATE_CHANGE (R372): the changes that have reached the publisher share one frame. -/
def execAlarmStateChange (n : Fin 64) (s : State) : Host.Outcome State Fault Refusal :=
  .next (if s.works && (s.pubStream n.val).changed then
    (s.alarmChange n.val (s.pubStream n.val).launch).chargeGoose n.val 1 (2 * outStreamTMin (s.rec_ .outStream n.val)) else s)

/-- GOOSE_RETRANSMIT (R372, Table PUB-7): absorbed while a change frame awaits assembly. -/
def execGooseRetransmit (n : Fin 64) (s : State) : Host.Outcome State Fault Refusal :=
  .next (match (s.pubStream n.val).nextAt with
    | some t =>
      if s.lts < t ∨ !s.works then s
      else if (s.pubStream n.val).changed then
        (s.modPub n.val (fun p => { p with nextAt := none })).bump (ck1 .alarmAbsorbed n.val)
      else (s.alarmAgain n.val).chargeGoose n.val 3 (max (2 * (s.pubStream n.val).interval) (2 * outStreamTMin (s.rec_ .outStream n.val)))
    | none => s)

end Sys2Proof.Machine
end

