-- ==== Sys2Proof/Machine/Align.lean ====
section
/-! DEFINITION. The Anvil alignment engine (chapter 07): rows, entries, the three closes, history, and the meanings of
the commands of that family. -/

namespace Sys2Proof.Machine

/-! Grids and times (R165, R170). -/

/-- Row rate of a region. -/
def State.rowRate (s : State) (r : Nat) : Nat := 2400 / sliceRowDiv (s.rec_ .slice r)

/-- ns of ROW_LEAD, RETIRE_WAIT and HORIZON. -/
def State.leadNs (s : State) (r : Nat) : Nat := sliceRowLead (s.rec_ .slice r) * 1000
/-- RETIRE_WAIT. -/
def State.retireNs (s : State) (r : Nat) : Nat := sliceRetireWait (s.rec_ .slice r) * 1000
/-- HORIZON. -/
def State.horizonNs (s : State) (r : Nat) : Nat := sliceHorizon (s.rec_ .slice r) * 1000000

/-- The latest row tag of a region that is not later than t. -/
def State.rowTag (s : State) (r : Nat) (t : Ns) : Ns := gridPoint (s.rowRate r) (gridIndex (s.rowRate r) t)

/-- The first row tag of a region at or after t. -/
def State.rowTagFrom (s : State) (r : Nat) (t : Ns) : Ns :=
  let g := s.rowTag r t
  if g = t then t else gridPoint (s.rowRate r) (gridIndex (s.rowRate r) t + 1)

/-- A waveform channel is live (R173): its sampled-value stream is LIVE, or the lane of its local channel is in RUN. -/
def State.waveLive (s : State) (wc : Nat) : Bool :=
  let r := s.rec_ .chan wc
  if chanSource r = 4 then (s.streamSt (chanSrcRef r)).st == .live
  else match s.swage.lanes[chanSrcRef r / 8]? with | some l => l.st == .run | none => false

/-- A member's stream counts as LIVE (R173). -/
def State.memberLive (s : State) (c : Nat) : Bool :=
  let r := s.rec_ .chan c
  if chanSource r = 6 then s.waveLive (chanSrcRef r) else (s.streamSt (chanSrcRef r)).st == .live

/-- The reporting rate of a row channel: its stream's, or OUT_RATE of a synthesised phasor (R170). -/
def State.chanRate (s : State) (c : Nat) : Nat :=
  let r := s.rec_ .chan c
  if chanSource r = 6 then rateOf (chanOutRate r) else rateOf (streamRateCode (s.rec_ .stream (chanSrcRef r)))

/-- A channel is expected at a tag. -/
def State.expectedAt (s : State) (c : Nat) (t : Ns) : Bool := onGrid (s.chanRate c) t

/-- Home region of a channel (R70). -/
def State.chanRegion (s : State) (c : Nat) : Nat :=
  let r := s.rec_ .chan c
  let wave (r : Nat) : Nat := if chanSource r = 5 then chanSrcRef r / 16 else streamHomeRegion (s.rec_ .stream (chanSrcRef r))
  if chanSource r = 6 then
    (if chanWgMember r = 1 then groupRegion (s.rec_ .group (chanWatchGroup r)) else wave (s.rec_ .chan (chanSrcRef r)))
  else wave r

/-- The members of a watch group, ascending (R167). -/
def State.groupMembers (s : State) (g : Nat) : List Nat :=
  (s.valids .chan 255 65536).filter (fun c => let r := s.rec_ .chan c; chanWgMember r == 1 && chanWatchGroup r == g)

/-- The watch groups of a region that are in use. -/
def State.regionGroups (s : State) (r : Nat) : List Nat :=
  (s.valids .group 127 256).filter (fun g => groupRegion (s.rec_ .group g) == r)

/-! Entries as members (R173, R178). -/

/-- An entry holds a value of a channel. -/
def State.holds (s : State) (c : Nat) (e : SliceIn) : Bool :=
  let r := s.rec_ .chan c
  match e with
  | .frame d => decide (chanSource r < 4) && chanSrcRef r == d.sid
  | .est v => chanSource r == 6 && v.ch == c

/-- The entry of a row that serves a channel, entered before an instant. -/
def State.rowEntry (s : State) (w : Row) (c : Nat) (before : Ns) : Option RowEntry :=
  w.entries.find? (fun e => !e.between && !e.late && decide (e.entered < before) && s.holds c e.val)

/-- The formed value of a channel in a frame and whether its block is marked invalid (R115, R173). -/
def State.frameValue (s : State) (c : Nat) (d : Delivery) : (Word × Word) × Bool :=
  let r := s.rec_ .chan c
  let l := s.layout d.sid
  match l.vals.find? (fun v => v.source == chanSource r && v.pos == chanPosition r) with
  | some v => (scaled r (s.rawValue (streamExpFormat (s.rec_ .stream d.sid)) v d.bytes), d.badBlocks.contains v.block)
  | none => ((0, 0), true)

/-- The member of a channel at a tag from a row, closed before an instant (R178). -/
def State.memberAt (s : State) (w : Row) (c : Nat) (before : Ns) : Member :=
  let live := s.memberLive c
  match (if s.expectedAt c w.tag then s.rowEntry w c before else none) with
  | none =>
    { ch := c, status := statusByte false false false (!live) false false (!s.expectedAt c w.tag), v0 := 0, v1 := 0, v2 := 0,
      v3 := 0, tq := 0, gridOff := 0, nominal := false }
  | some e =>
    match e.val with
    | .frame d =>
      let x := s.frameValue c d
      { ch := c, status := statusByte true (x.2 || d.test || d.unsync) d.test (!live) d.mirror d.auth false
        v0 := x.1.1, v1 := x.1.2, v2 := 0, v3 := 0, tq := d.tq, gridOff := d.gridOff, nominal := false }
    | .est v =>
      { ch := c, status := statusByte true (v.invalid || v.test || v.unsync) v.test (!live) v.mirror false false
        v0 := v.mag, v1 := v.ang, v2 := v.freq, v3 := v.rocof, tq := 0, gridOff := 0, nominal := v.nominal }

/-- A value is valid (R173). -/
def Member.valid (m : Member) : Bool := m.status.getLsbD 7 && !m.status.getLsbD 6

/-! History (R184-R187). -/

/-- n rounded up to a multiple of 16. -/
def pad16 (n : Nat) : Nat := (n + 15) / 16 * 16

/-- ENTRY_LEN of a value (R185). -/
def entryLen : SliceIn → Nat
  | .frame d => 48 + pad16 d.len
  | .est _ => 64

/-- Bytes of a record of the phasor ring. -/
def HistRec.len : HistRec → Nat
  | .entry e _ => entryLen e.val
  | .commit _ => 2112

/-- Bytes of a region's part of the phasor ring (R184). -/
def State.ringPart (s : State) : Nat := planPhasorSize (s.rec_ .plan 0) * 1048576 / 4

/-- Where the next n bytes of a region's part go: after the last record, from the start where they do not fit. -/
def State.histPlace (s : State) (r n : Nat) : Nat :=
  let x := s.slice r
  if s.ringPart < x.histOff + n then 0 else x.histOff

/-- Append a record to a region's part: at its end writing goes on from the start and overwrites the oldest. -/
def State.appendHist (s : State) (r : Nat) (h : HistRec) : State :=
  let n := h.len
  let off := s.histPlace r n
  s.modSlice r (fun x =>
    { x with hist := (x.hist.filter (fun e => decide (e.1 + e.2.len ≤ off ∨ off + n ≤ e.1))) ++ [(off, h)], histOff := off + n })

/-- Change the row of a tag. -/
def State.modRow (s : State) (r : Nat) (t : Ns) (f : Row → Row) : State :=
  s.modSlice r (fun x => { x with rows := x.rows.map (fun w => if w.tag = t then f w else w) })

/-- A row's first and last entry after one more at a place. -/
def Row.placed (w : Row) (off : Nat) : Row :=
  { w with places := match w.places with | some (a, _) => some (a, off) | none => some (off, off) }

/-- Write a history entry of a row, charged to HISTORY; none while HISTORY is shed (R187). -/
def State.history (s : State) (r : Nat) (e : RowEntry) (w : Row) : State :=
  if s.shed r 4 then s
  else
    let off := s.histPlace r (entryLen e.val)
    ((s.modRow r w.tag (fun y => y.placed off)).charge r 4 (dramCost (entryLen e.val))).appendHist r (.entry e w.seq)

/-- The delivery header (Table INT-9). -/
def Delivery.fillHdr (d : Delivery) : FillHdr :=
  { sid := d.sid, kind := d.kind, tag := d.tag, gridOff := d.gridOff, arrival := d.arrival, tq := d.tq, port := d.port, digest := d.digest
    len := d.len
    flags := BitVec.ofNat 8 (b2n d.test * 128 + b2n d.unsync * 64 + b2n d.auth * 32 + b2n d.mirror * 16 + b2n d.cfgChange * 8 +
      b2n d.blockInvalid * 4 + b2n d.behind * 2) }

/-- Its 32 bytes. -/
def Delivery.header (d : Delivery) : Bytes := fillHdrBytes d.fillHdr

/-- The estimate header (Table WAV-12). -/
def State.estHeader (s : State) (e : Estimate) : Bytes :=
  let r := s.rec_ .chan e.ch
  natBe 2 e.ch ++ natBe 2 (chanSrcRef r) ++ natBe 8 (tim1 e.tag) ++
  natBe 2 ((if e.nominal then 3 else chanEstClass r) * 2 ^ 14 + b2n e.nominal * 2 ^ 13 + b2n e.invalid * 2 ^ 12 +
    b2n e.freqBad * 2 ^ 11 + b2n e.rocofBad * 2 ^ 10 + b2n e.test * 2 ^ 9) ++
  natBe 4 e.tsw.toNat ++ natBe 8 (tim1 e.released) ++ natBe 6 0

/-- The prefix of a history entry (Table ALN-7). -/
def RowEntry.head (e : RowEntry) (seq : Nat) : Bytes :=
  let synth : Bool := match e.val with | .est _ => true | .frame _ => false
  natBe 16 (entryLen e.val * 2 ^ 112 + b2n e.late * 2 ^ 111 + b2n e.between * 2 ^ 110 + b2n synth * 2 ^ 109 + tim1 e.entered * 2 ^ 32 + seq)

/-- The prefix and header of a history entry (R185); the values follow. -/
def State.entryHead (s : State) (e : RowEntry) (seq : Nat) : Bytes :=
  e.head seq ++ (match e.val with | .frame d => d.header | .est x => s.estHeader x)

/-- A bitmap of 1,024 bytes with the bits of some SIDs set: SID n in bit n mod 8 of byte n ÷ 8 (R186). -/
def sidMap (l : List Nat) : Bytes :=
  (List.range 1024).map (fun k => BitVec.ofNat 8 (((List.range 8).filter (fun b => l.contains (8 * k + b))).foldl (fun n b => n + 2 ^ b) 0))

/-- A commit record (Table ALN-8, R186); a count that its field cannot hold stands at the field's largest value, and the entry
places of a row without entries are open (log entry 67). -/
def State.commitRecord (s : State) (r : Nat) (f : FinalRow) : Bytes :=
  let w := f.row
  let p := w.places.getD (Config.noEntryPlace w.seq % 2 ^ 40, Config.noEntryPlace w.seq % 2 ^ 40)
  let riders := (w.entries.filter (fun e => e.between && (match e.val with | .frame _ => true | .est _ => false))).length
  let head := (tim1 w.tag * 2 ^ 448 + w.seq * 2 ^ 416 + r * 2 ^ 414 + sliceRowDiv (s.rec_ .slice r) * 2 ^ 402 + b2n f.stepped * 2 ^ 401 +
    b2n w.short * 2 ^ 400 + f.expected.length * 2 ^ 384 + f.onTime.length * 2 ^ 370 + f.late.length * 2 ^ 356 +
    (f.expected.length - f.onTime.length - f.late.length) * 2 ^ 342 + min w.conflicts 0x3FFF * 2 ^ 328 + min riders 0x3FFFF * 2 ^ 310 +
    tim1 f.finalAt * 2 ^ 240 + f.tsw.toNat * 2 ^ 208 + p.1 * 2 ^ 168 + p.2 * 2 ^ 128) / 2 ^ 32
  let maps := sidMap f.onTime ++ sidMap f.late
  let h := natBe 60 head
  h ++ natBe 4 (crc32c (h ++ maps)).toNat ++ maps

/-! QUORUM (R173-R175). -/

/-- The feed group of a signal (R234): that of the phasor it reads. -/
def State.feedGroup (s : State) (n : Nat) : Nat :=
  let r := s.rec_ .signal n
  let c := if signalQuantity r = 3 ∨ signalQuantity r = 4 then branchVCh (s.rec_ .branch (signalBranch r)) else signalCh r
  chanWatchGroup (s.rec_ .chan c)

/-- The group whose set ring a key reads; none in band 3. -/
def State.keyGroup (s : State) (k : Nat) : Option Nat :=
  if 0x8000 ≤ k then some ((k - 0x8000) / 16) else if k % 4 = 3 then none else some (s.feedGroup (k / 4))

/-- A watch group feeds oscillation detection (R235): a signal of a phasor quantity, or its own group estimator. -/
def State.feedsOsc (s : State) (g : Nat) : Bool :=
  groupEstValid (s.rec_ .groupEst g) == 1 ||
  (s.valids .signal 127 8192).any (fun n => signalQuantity (s.rec_ .signal n) != 5 && s.feedGroup n == g)

/-- Longest update interval, in ns, of the bands that a watch group feeds (R235). -/
def State.longestUpdate (s : State) (g : Nat) : Nat :=
  (((s.oscKeys.filter (fun k => s.keyGroup k == some g)).map oscBandOf).map (fun b => oscBandUpdateBeats (s.rec_ .oscBand b))).foldl max 0 *
    1000000000 / 2400

/-- A bus is watched (R255). -/
def State.watched (s : State) (b : Nat) : Bool := bitAt (s.rec_ .watched (b / 8)) (b % 8)

/-- The coherency pairs: number and its two buses. -/
def State.cohPairs (s : State) : List (Nat × Nat × Nat) :=
  (List.range (islHdrPairCount (s.rec_ .islHdr 0))).map (fun i => (i, pairRecBusA (s.rec_ .pairRec i), pairRecBusB (s.rec_ .pairRec i)))

/-- The channels that islanding reads (R256): statuses of branches, frequencies and angles of pair buses. -/
def State.islChannels (s : State) : List Nat :=
  ((s.valids .branch 127 16384).map (fun b => branchStatusCh (s.rec_ .branch b))).filter (fun c => c != 0xFFFF) ++
  s.cohPairs.flatMap (fun p => [busFCh (s.rec_ .bus p.2.1), busACh (s.rec_ .bus p.2.1), busFCh (s.rec_ .bus p.2.2), busACh (s.rec_ .bus p.2.2)])

/-- A watch group is an islanding group. -/
def State.islGroup (s : State) (g : Nat) : Bool :=
  s.islConfigured && s.islChannels.any (fun c => let r := s.rec_ .chan c; chanWgMember r == 1 && chanWatchGroup r == g)

/-- What a closed set of a watch group reaches (R175, R235): the set ring and its work item. -/
def State.groupClosed (s : State) (gs : GroupSet) (slot : Nat) : State :=
  let g := gs.group
  let r := s.rec_ .group g
  let s := if s.feedsOsc g then
      let old := agetD s.osc.rings g []
      let ring := old.filter (fun x => decide (gs.tag < x.tag + 3 * s.longestUpdate g)) ++ [gs]
      let lost := old.filter (fun x => decide (x.tag + 3 * s.longestUpdate g ≤ gs.tag) && s.oscKeys.any (fun k =>
        s.keyGroup k == some g && (s.bandSt k).first.isSome && decide ((s.bandSt k).upTo < x.tag)))
      let s := { s with osc := { s.osc with rings := aput s.osc.rings g ring } }.charge (groupRegion r) 6
        (dramCost (Config.setCopyBytes gs.members.length))
      if lost.isEmpty then s else (s.bumpBy (ck1 .ringOverruns g) lost.length).postOnce 3 .unit (ck1 .ringOverruns g) 0
    else s
  let (s, it) := s.newItem (groupRegion r) (groupQTemplate r) (groupQClass r) (groupQPriority r) 2
    (g * 2 ^ 24 + b2n gs.short * 2 ^ 23 + slot) 0 0xFFF (.group gs)
  s.postItem .quorum it

/-- Close a watch group on a row (R174, R175), with what entered before an instant; in REPLAY no work item follows (R190). -/
def State.closeGroup (s : State) (r : Nat) (w : Row) (g : Nat) (short : Bool) (before : Ns) : State :=
  let gs : GroupSet := { group := g, tag := w.tag, short := short, closed := s.dt, members := (s.groupMembers g).map (fun c => s.memberAt w c before) }
  let s := s.modRow r w.tag (fun w => { w with groups := w.groups ++ [g], short := w.short || short })
  let s := s.bump (ck1 (if short then .quorumShort else .quorumMet) g)
  if s.boot.mode == .replay then s else s.groupClosed gs w.slot

/-- Evaluate the quorum of a watch group on an open row (R173), before T + Q_WAIT, at which the group closes short (R174). -/
def State.evalQuorum (s : State) (r : Nat) (t : Ns) (g : Nat) : State :=
  match (s.slice r).rows.find? (fun w => w.tag == t && !w.retired) with
  | none => s
  | some w =>
    let rec_ := s.rec_ .group g
    let stop := t + groupQWait rec_ * 1000
    if w.groups.contains g || !onGrid (rateOf (groupSetRate rec_)) t || decide (stop ≤ s.dt) then s
    else
      let ms := (s.groupMembers g).map (fun c => (c, s.memberAt w c stop))
      let req := ms.filter (fun m => chanWgRequired (s.rec_ .chan m.1) == 1)
      if req.any (fun m => m.2.status.getLsbD 7 && !m.2.valid) then s.closeGroup r w g true stop
      else
        let e := ms.filter (fun m => s.expectedAt m.1 t && s.memberLive m.1)
        let p := (e.filter (fun m => m.2.valid)).length
        if decide (1 ≤ p) && decide ((groupQFrac rec_ * e.length + 63) / 64 ≤ p) && req.all (fun m => m.2.valid) then
          s.closeGroup r w g false stop
        else s

/-- Evaluate every group of a region on every open row: at each beat boundary and after a Q_FRAC change (R173). -/
def State.evalAll (s : State) (r : Nat) : State :=
  forAll ((s.slice r).rows.filter (fun w => !w.retired)) s (fun s w =>
    forAll (s.regionGroups r) s (fun s g => s.evalQuorum r w.tag g))

/-- QUORUM_WAIT_EXPIRY (R174): a group still unmet at T + Q_WAIT closes short. -/
def execQuorumWaitExpiry (g : Fin 256) (s : State) : Host.Outcome State Fault Refusal :=
  .next (
    let rec_ := s.rec_ .group g.val
    let r := groupRegion rec_
    let wait := groupQWait rec_ * 1000
    if !s.steps || groupValid rec_ == 0 then s
    else match (s.slice r).rows.find? (fun w =>
        !w.groups.contains g.val && onGrid (rateOf (groupSetRate rec_)) w.tag && decide (w.tag + wait ≤ s.dt)) with
      | some w => s.closeGroup r w g.val true (w.tag + wait)
      | none => s)

/-! DEADLINE (R176, R505, R368). -/

/-- The number of a beat-table entry: region, row and entry. -/
def postIndex (r row e : Nat) : Nat := (r * 2400 + row) * 64 + e

/-- The launch region of an output stream (R505): the region whose beat table holds its LAUNCH entries. -/
def State.launchRegion (s : State) (n : Nat) : Option Nat :=
  match s.img.find? (fun e => decide (e.1.1 = .post) && postValid e.2 == 1 && postOp e.2 == 2 && postTemplate e.2 == n) with
  | some e => some (e.1.2 / (2400 * 64))
  | none => none

/-- The channels of an output stream's content, each once. -/
def State.contentChans (s : State) (n : Nat) : List Nat :=
  (((s.outContent n).filter (fun e => contentBlockStart e == 0 && contentCh e != 0xFFFF)).map contentCh).eraseDups

/-- The SIDs whose STAT the stream relays (R509). -/
def State.relayed (s : State) (n : Nat) : List Nat :=
  (((s.outContent n).filter (fun e => contentBlockStart e == 1 && contentCh e != 0xFFFF)).map contentCh).eraseDups

/-- An output set has content in a region (R164, R313): a channel of a row there, or SOURCE 7 content in its launch region
(R505). -/
def State.contentIn (s : State) (n r : Nat) : Bool :=
  (s.contentChans n).any (fun c => if chanSource (s.rec_ .chan c) == 7 then s.launchRegion n == some r else s.chanRegion c == r)

/-- A region's slice closes a part of an output set: it holds content, a relayed stream, or it is the launch region (R505). -/
def State.holdsPart (s : State) (n r : Nat) : Bool :=
  s.contentIn n r || (s.relayed n).any (fun i => streamHomeRegion (s.rec_ .stream i) == r) || s.launchRegion n == some r

/-- ns of one update interval of an oscillation index, one grid step of an island or detector index (R368): how far an
output's tag may lie before T without STALE. -/
def State.anaStale (s : State) (i : Nat) : Option Nat :=
  if i < 0x9000 then
    let band := if i < 0x8000 then i % 4 else i / 4 % 4
    some (2 * oscBandUpdateBeats (s.rec_ .oscBand band) * 1000000000 / 2400)
  else if i < 0x9100 then none
  else if i < 0xA000 then some (1000000000 / rateOf (islHdrIslRate (s.rec_ .islHdr 0)))
  else some (1000000000 / rateOf (groupSetRate (s.rec_ .group (detGroup (s.rec_ .det (i - 0xA000))))))

/-- The member that a SOURCE 7 channel forms at the DEADLINE close of a tag (R368). -/
def State.anaMember (s : State) (c : Nat) (t : Ns) : Member :=
  let r := s.rec_ .chan c
  let i := chanSrcRef r
  match latestOut (s.align.ana.filter (fun o => o.index == i && decide (o.tag ≤ t))) with
  | none => { ch := c, status := 0, v0 := 0, v1 := 0, v2 := 0, v3 := 0, tq := 0, gridOff := 0, nominal := false }
  | some o =>
    let raw := o.vals.getD (chanPosition r) qnan
    let stale : Bool := match s.anaStale i with | some n => decide (o.tag + n < t) | none => false
    { ch := c, status := statusByte true (o.invalid || isNan raw) o.test stale false false false
      v0 := (scaled r (raw, 0)).1, v1 := 0, v2 := 0, v3 := 0, tq := 0, gridOff := 0, nominal := false }

/-- Close one region's part of an output set on a row (R176). -/
def State.closePart (s : State) (n r : Nat) (w : Row) (before : Ns) : State :=
  let chans := (s.contentChans n).filter (fun c => chanSource (s.rec_ .chan c) != 7 && s.chanRegion c == r)
  let ms := chans.map (fun c => s.memberAt w c before)
  let ana := if s.launchRegion n = some r then ((s.contentChans n).filter (fun c => chanSource (s.rec_ .chan c) == 7)).map (fun c => s.anaMember c w.tag)
    else []
  let frames := w.entries.filterMap (fun e => match e.val with
    | .frame d => if !e.between && !e.late && decide (e.entered < before) && (s.relayed n).contains d.sid &&
        streamHomeRegion (s.rec_ .stream d.sid) == r then some d else none
    | .est _ => none)
  let absent := (ms.filter (fun m => !m.status.getLsbD 7 && !m.status.getLsbD 1)).length
  let s := s.modRow r w.tag (fun w => { w with sets := w.sets ++ [n] })
  let s := (s.bump (ck1 .deadlineCloses n)).bumpBy (ck1 .deadlineAbsent n) absent
  if s.boot.mode == .replay then s
  else { s with align := { s.align with outParts := s.align.outParts ++ [{ set := n, region := r, tag := w.tag, members := ms ++ ana, frames := frames }] } }

/-- The scan of the BIND 1 task of an output set, once every part has closed (R317). -/
def State.postScan (s : State) (n : Nat) (t : Ns) : State :=
  match s.tasks.find? (fun k => taskBind (s.rec_ .task k) == 1 && taskSet (s.rec_ .task k) == n) with
  | none => s
  | some k =>
    let r := s.rec_ .task k
    let g := taskRegion r
    let slot := match (s.slice g).rows.find? (fun w => w.tag == t) with | some w => w.slot | none => 0
    let (s, it) := s.newItem g (taskTemplate r) (taskDClass r) (taskDPriority r) 3 (n * 2 ^ 24 + slot) 0 0xFFF
      (.output n t (s.align.outParts.filter (fun p => p.set == n && p.tag == t)))
    s.postItem .deadline it

/-- A row without entries: that of a tag which the row grid of a launch region without content need not hold (R505). -/
def emptyRow (t : Ns) : Row :=
  { tag := t, seq := 0, slot := 0, entries := [], retired := false, groups := [], sets := [], short := false, conflicts := 0, places := none }

/-- Close every part of an output set at one tag. -/
def State.closeSet (s : State) (n : Nat) (t before : Ns) : State :=
  let s := forAll (List.range 4) s (fun s r =>
    if s.holdsPart n r then
      match (s.slice r).rows.find? (fun w => w.tag == t && !w.sets.contains n) with
      | some w => s.closePart n r w before
      | none => if !s.contentIn n r && s.launchRegion n == some r then s.closePart n r (emptyRow t) before else s
    else s)
  if s.boot.mode == .replay then s else s.postScan n t

/-- The tags of an output set that are still to close, by the rows of the regions that hold it. -/
def State.openTags (s : State) (n : Nat) : List Ns :=
  let rate := rateOf (outSetSetRate (s.rec_ .outSet n))
  (List.range 4).flatMap (fun r => if s.holdsPart n r then
    ((s.slice r).rows.filter (fun w => !w.sets.contains n && onGrid rate w.tag)).map (fun w => w.tag)
    else [])

/-- DEADLINE_CLOSE (R176): the earliest tag of the set whose T + WAIT has been reached. -/
def execDeadlineClose (n : Fin 64) (s : State) : Host.Outcome State Fault Refusal :=
  .next (
    let wait := outSetWait (s.rec_ .outSet n.val) * 1000
    if !s.steps || !s.outInUse n.val || outStreamAlarm (s.rec_ .outStream n.val) == 1 then s
    else match (s.openTags n.val).filter (fun t => decide (t + wait ≤ s.dt)) with
      | [] => s
      | t :: ts => let m := ts.foldl min t; s.closeSet n.val m (m + wait))

/-! Rows (R165, R177, R181). -/

/-- ROW_OPEN (R165): DT has reached the opening instant of the region's next row tag. -/
def State.openRow (s : State) (r : Nat) : State :=
  let x := s.slice r
  match x.next with
  | none => s
  | some t =>
    let opens := x.rows.filter (fun w => !w.retired)
    if s.dt + s.leadNs r < t ∨ 256 ≤ opens.length then s
    else
      let slot := ((List.range 256).find? (fun i => !(opens.any (fun w => w.slot == i)))).getD 0
      let w : Row := { tag := t, seq := x.nextSeq, slot := slot, entries := [], retired := false, groups := [], sets := [],
                       short := false, conflicts := 0, places := none }
      (s.modSlice r (fun x => { x with rows := x.rows ++ [w], nextSeq := (x.nextSeq + 1) % 2 ^ 32
                                       first := match x.first with | some f => some f | none => some t
                                       next := some (s.rowTagFrom r (t + 1)), peakRows := max x.peakRows (opens.length + 1) })).bump
        (ck1 .rowsOpened r)

/-- ROW_OPEN. -/
def execRowOpen (r : Region) (s : State) : Host.Outcome State Fault Refusal := .next (if s.steps then s.openRow r.val else s)

/-- ROW_RETIRE (R177): the row leaves slot memory; its presence record stays. -/
def execRowRetire (r : Region) (s : State) : Host.Outcome State Fault Refusal :=
  .next (if !s.steps then s
    else
      let age := s.retireNs r.val
      let now := s.dt
      match (s.slice r.val).rows.find? (fun w => !w.retired && decide (w.tag + age ≤ now)) with
      | some w => ((s.modRow r.val w.tag (fun w => { w with retired := true })).modSlice r.val (fun x => { x with stall := false })).charge
          r.val 0 (dramCost 2112)
      | none => s)

/-- A SID counts in a region's commit records (R186): homed there, of a kind that enters rows, in use. -/
def State.homed (s : State) (r : Nat) : List Nat :=
  (s.valids .stream 511 8192).filter (fun i => let x := s.rec_ .stream i; streamHomeRegion x == r && decide (streamKind x < 2))

/-- The SIDs with an entry in a row that satisfies a test. -/
def Row.sids (w : Row) (p : RowEntry → Bool) : List Nat :=
  (w.entries.filterMap (fun e => match e.val with | .frame d => if p e && !e.between then some d.sid else none | .est _ => none)).eraseDups

/-- A row reaches FINAL (R165, R181, R187): missing streams are counted and its commit record awaits a HISTORY entry. -/
def State.finalRow (s : State) (r : Nat) (w : Row) (stepped : Bool) : State :=
  let home := s.homed r
  let expected := home.filter (fun i => (s.streamSt i).st != .off && onGrid (rateOf (streamRateCode (s.rec_ .stream i))) w.tag)
  let onTime := (w.sids (fun e => !e.late)).filter (fun i => home.contains i)
  let late := (w.sids (fun e => e.late)).filter (fun i => home.contains i && !onTime.contains i)
  let s := forAll (expected.filter (fun i => !onTime.contains i && !late.contains i)) s (fun s i => s.bump (ck1 .missing i))
  let s := s.modSlice r (fun x => { x with rows := x.rows.filter (fun y => y.tag != w.tag) })
  let s := if stepped then s.bump (ck1 .rowsStepped r) else s
  if s.shed r 4 then s.bump (ck1 .rowsUncommitted r)
  else s.modSlice r (fun x => { x with finals := x.finals ++
    [{ row := { w with retired := true }, stepped := stepped, expected := expected, onTime := onTime, late := late, finalAt := 0, tsw := s.time.tsw }] })

/-- ROW_FINAL. -/
def execRowFinal (r : Region) (s : State) : Host.Outcome State Fault Refusal :=
  .next (if !s.steps then s
    else
      let age := s.retireNs r.val + s.horizonNs r.val
      let now := s.dt
      match (s.slice r.val).rows.find? (fun w => decide (w.tag + age ≤ now)) with
      | some w => s.finalRow r.val w false
      | none => s)

/-- A HISTORY entry of a row (Table SCH-2): the commit records of up to ARG rows, no more than HISTORY's remaining DRAM
budget covers at 4,224 bytes each, their FINAL_AT the DT of the entry's boundary. -/
def State.commitRows (s : State) (r : Nat) (bd : Ns) : Nat → State
  | 0 => s
  | n + 1 =>
    match (s.slice r).finals with
    | [] => s
    | f :: fs =>
      if (s.left r 4).dram < 4224 then s
      else
        let s := (s.charge r 4 (dramCost 4224)).modSlice r (fun x => { x with finals := fs })
        ((s.appendHist r (.commit { f with finalAt := bd })).bump (ck1 .rowsCommitted r)).commitRows r bd n

/-! Entry (R180). -/

/-- Pages that values take in slot memory: whole pages per frame, one for four estimates (R188). -/
def slotPages (l : List SliceIn) : Nat :=
  let f := l.foldl (fun n v => match v with | .frame d => n + (48 + d.len + 255) / 256 | .est _ => n) 0
  let g := (l.filter (fun v => match v with | .est _ => true | _ => false)).length
  f + (g + 3) / 4

/-- The values that the open rows of a region hold. -/
def State.slotVals (s : State) (r : Nat) : List SliceIn :=
  ((s.slice r).rows.filter (fun w => !w.retired)).flatMap (fun w => w.entries.map (fun e => e.val))

/-- Pages that the entries of a region's open rows take. -/
def State.pages (s : State) (r : Nat) : Nat := slotPages (s.slotVals r)

/-- The tag, the unit under which Table ALN-6 counts, and the pages of a value. -/
def SliceIn.tag : SliceIn → Ns
  | .frame d => d.tag
  | .est e => e.tag
/-- SID of a frame; 65,536 and the channel of an estimate. -/
def SliceIn.unit : SliceIn → Nat
  | .frame d => d.sid
  | .est e => 65536 + e.ch

/-- A BEHIND_WINDOW frame against the entries of its tag (R180): the digest of the first copy. -/
def firstCopy (es : List RowEntry) (v : SliceIn) : Option (BitVec 32) :=
  match v with
  | .frame d => if d.behind then
      (match es.find? (fun e => match e.val with | .frame f => f.sid == d.sid && f.tag == d.tag | _ => false) with
        | some e => match e.val with | .frame f => some f.digest | _ => none
        | none => none)
    else none
  | .est _ => none

/-- Count a duplicate with its attention (Table INT-8). -/
def State.duplicate (s : State) (sid : Nat) : State :=
  if bitAt (streamSflags (s.rec_ .stream sid)) 1 then s.bump (ck1 .duplicates sid) else s.bumpOnce (ck1 .duplicates sid) 3 .unit

/-- Count a conflict with its attention. -/
def State.digestConflict (s : State) (sid : Nat) : State := s.bumpOnce (ck1 .conflicts sid) 4 .unit

/-- A value's home slice writes it to history (R179): the frame's home region, the slice of an estimate. -/
def State.atHome (s : State) (r : Nat) : SliceIn → Bool
  | .frame d => streamHomeRegion (s.rec_ .stream d.sid) == r
  | .est _ => true

/-- Place a value in an open row or as a late or BETWEEN entry, and write its history entry. -/
def State.putEntry (s : State) (r : Nat) (w : Row) (v : SliceIn) (between late : Bool) : State :=
  let e : RowEntry := { val := v, entered := s.dt, between := between, late := late }
  let s := s.modRow r w.tag (fun w => { w with entries := w.entries ++ [e] })
  let s := s.modSlice r (fun x => { x with peakPages := max x.peakPages (s.pages r) })
  if s.atHome r v then s.history r e w else s

/-- Consumers that hold a value's channels and have closed by ENTERED (Table ALN-6, R166): the groups closed at the tag or past
T + Q_WAIT, the sets past T + WAIT. Their counters. -/
def State.countAfter (s : State) (r : Nat) (w : Row) (v : SliceIn) : State :=
  let past (us : Nat) : Bool := decide (w.tag + us * 1000 ≤ s.dt)
  let groups := (s.regionGroups r).filter (fun g => let x := s.rec_ .group g
    onGrid (rateOf (groupSetRate x)) w.tag && (w.groups.contains g || past (groupQWait x)) &&
    (s.groupMembers g).any (fun c => s.holds c v && s.expectedAt c w.tag))
  let sets := s.outs.filter (fun n => let x := s.rec_ .outSet n
    outStreamAlarm (s.rec_ .outStream n) == 0 && onGrid (rateOf (outSetSetRate x)) w.tag && (w.sets.contains n || past (outSetWait x)) &&
    (s.contentChans n).any (fun c => chanSource (s.rec_ .chan c) != 7 && s.holds c v && s.chanRegion c == r))
  let s := forAll groups s (fun s g => s.bump (ck1 .afterQuorum g))
  forAll sets s (fun s n => s.bump (ck1 .afterDeadline n))

/-- A value enters a slice (R180, Table ALN-6), the first row that fits. Its row is told by its own times, so that a value
whose ENTERED is a close instant counts as after that close (R166). -/
def State.enterRow (s : State) (r : Nat) (v : SliceIn) : State :=
  let x := s.slice r
  let t := v.tag
  let u := v.unit
  let wt := s.rowTag r t
  let rate := match v with | .frame d => rateOf (streamRateCode (s.rec_ .stream d.sid)) | .est e => s.chanRate e.ch
  let opens := (x.rows.filter (fun w => !w.retired)).length
  let before : Bool := match x.first, x.next with
    | some f, _ => decide (t < f)
    | none, some n => decide (t < n)
    | none, none => true
  if 30720 < slotPages (v :: s.slotVals r) ∨ 256 ≤ opens then
    if x.stall then s else (s.modSlice r (fun x => { x with stall := true })).bumpOnce (ck1 .slotStalls r) 5 .unit
  else
    let s := s.modSlice r (fun x => { x with queue := x.queue.drop 1, stall := false })
    let s := s.charge r 0 { cycles := 0, dram := 0, flits := ((entryLen v - 16 + 31) / 32 : Nat), egress := 0 }
    if before then s.bump (ck1 .beforeStart u)
    else if s.dt + s.leadNs r < t then s.bumpOnce (ck1 .early u) 4 .unit
    else
      let s := s.openRow r
      match (s.slice r).rows.find? (fun w => w.tag == wt) with
      | none => s.bumpOnce (ck1 .afterFinal u) 2 .unit
      | some w =>
        if wt + s.retireNs r + s.horizonNs r ≤ s.dt then s.bumpOnce (ck1 .afterFinal u) 2 .unit
        else match firstCopy w.entries v with
        | some g =>
          if (match v with | .frame d => d.digest == g | .est _ => false) then s.duplicate u
          else (s.digestConflict u).modRow r wt (fun w => { w with conflicts := w.conflicts + 1 })
        | none =>
          let late : Bool := w.retired || decide (wt + s.retireNs r ≤ s.dt)
          if t ≠ wt ∧ onGrid rate t = true then (s.putEntry r w v true late).bump (ck1 .between u)
          else if late then (s.putEntry r w v false true).bump (ck1 .late u)
          else
            let s := (s.putEntry r w v false false).countAfter r w v
            forAll ((s.regionGroups r).filter (fun g => (s.groupMembers g).any (fun c => s.holds c v))) s (fun s g => s.evalQuorum r wt g)

/-- A sampled-value frame goes to the ring at the place of its tag (R182). -/
def State.enterSv (s : State) (r : Nat) (d : Delivery) : State :=
  let x := s.slice r
  let u := d.sid
  let s := s.modSlice r (fun x => { x with queue := x.queue.drop 1 })
  let before : Bool := match x.first, x.next with
    | some f, _ => decide (d.tag < f)
    | none, some n => decide (d.tag < n)
    | none, none => true
  let there := s.align.svRing.find? (fun e => e.1 == u && e.2.1 == d.tag)
  if before then s.bump (ck1 .beforeStart u)
  else if s.dt + s.leadNs r < d.tag then s.bumpOnce (ck1 .early u) 4 .unit
  else if d.tag + s.retireNs r + s.horizonNs r ≤ s.dt then s.bumpOnce (ck1 .afterFinal u) 2 .unit
  else match (if d.behind then there else none) with
    | some e => if e.2.2.digest = d.digest then s.duplicate u else s.digestConflict u
    | none =>
      if s.shed r 4 then s
      else
        let ring := s.align.svRing.filter (fun e => !(e.1 == u && e.2.1 == d.tag)) ++ [(u, d.tag, d)]
        let size := planSvSize (s.rec_ .plan 0) * 1048576
        let excess := ring.foldl (fun n e => n + entryLen (.frame e.2.2)) 0 - size
        let cut := (ring.foldl (fun (a : Nat × Nat) e => if a.1 = 0 then a else (a.1 - entryLen (.frame e.2.2), a.2 + 1)) (excess, 0)).2
        { s.charge r 4 (dramCost (entryLen (.frame d))) with align := { s.align with svRing := ring.drop cut } }

/-- SLICE_ENTRY (R166, R180): the oldest delivered value of a slice enters; a slice that stands still for its own post
takes none (Table SCH-9). -/
def execSliceEntry (r : Region) (s : State) : Host.Outcome State Fault Refusal :=
  .next (
    if !s.steps || (s.reg r.val).stalled.any (fun p => !p.1.isRow) then s
    else match (s.slice r.val).queue with
      | [] => s
      | v :: _ => match v with
        | .frame d => if 2 ≤ d.kind then s.enterSv r.val d else s.enterRow r.val v
        | .est _ => s.enterRow r.val v)

/-! Steps (R189). -/

/-- A DT step closes every row that is open or in the late table; rows open again from the first row tag whose opening
instant falls at or after the next beat boundary of the stepped time. `dtAfter` is that boundary. Values not yet entered stay,
and enter as those before start where their tags lie before that row. -/
def State.stepSlices (s : State) (dtAfter : Ns) : State :=
  forAll (List.range 4) s (fun s r =>
    let s := forAll (s.slice r).rows s (fun s w =>
      forAll ((s.regionGroups r).filter (fun g => !w.groups.contains g && onGrid (rateOf (groupSetRate (s.rec_ .group g))) w.tag)) s (fun s g =>
        match (s.slice r).rows.find? (fun y => y.tag == w.tag) with
        | some y => if y.retired then s else s.closeGroup r y g true (s.dt + 1)
        | none => s))
    let s := forAll (s.slice r).rows s (fun s w =>
      forAll (s.outs.filter (fun n => s.holdsPart n r && !w.sets.contains n && onGrid (rateOf (outSetSetRate (s.rec_ .outSet n))) w.tag)) s
        (fun s n => s.closeSet n w.tag (s.dt + 1)))
    let s := forAll (s.slice r).rows s (fun s w => s.finalRow r w true)
    s.modSlice r (fun x => { x with first := none, next := some (s.rowTagFrom r (dtAfter + s.leadNs r)), stall := false }))

/-- Rows begin at the first beat boundary (R165). -/
def State.startRows (s : State) (boundary : Ns) : State :=
  forAll (List.range 4) s (fun s r =>
    s.modSlice r (fun x => { x with first := none, next := some (s.rowTagFrom r (boundary + s.leadNs r)) }))

end Sys2Proof.Machine
end

