-- ==== Sys2Proof/Machine/Signal.lean ====
section
/-! DEFINITION. The arithmetic of the filter chain (R212-R215, R221, R227): real numbers in units of 2^-60, with the cosine
and the argument as open functions (log entry 15), and the formulas of resampling, phasor, frequency and rate of change. -/

namespace Sys2Proof.Machine

/-! Resampling (R212, R213). -/

/-- An input sample of a chain channel at its effective instant: nanoseconds from an origin and its code. -/
abbrev Tap := Int × Int

/-- The kernel at an offset in ns, from the table of 4,096 points per half-span by linear interpolation, in units of
2^-60 ÷ 625,000 (R213). `rate` is the channel's input rate as a fraction. -/
def kernelAt (rate : Nat × Nat) (off : Int) : Int :=
  let p := off.natAbs * 4096
  let j := p / 625000
  let f : Int := ((p % 625000 : Nat) : Int)
  Config.kernel rate.1 rate.2 j * (625000 - f) + Config.kernel rate.1 rate.2 (j + 1) * f

/-- Grid sample m (R212): the sum over the input samples within ±625 µs of its instant. -/
def gridSample (rate : Nat × Nat) (taps : List Tap) (m : Nat) : Int :=
  let t : Int := (gridPoint 9600 m : Nat)
  (taps.filter (fun x => decide ((x.1 - t).natAbs ≤ 625000))).foldl (fun n x => n + x.2 * kernelAt rate (x.1 - t)) 0

/-! Phasors (R214, R221). -/

/-- The weights of an estimator: grid offsets from the tag and w_i. -/
abbrev Weights := List (Int × Int)

/-- P class: 1 − |i| ÷ N over |i| < N. -/
def weightsP (n : Nat) : Weights :=
  (List.range (2 * n - 1)).map (fun (k : Nat) => let i : Int := (k : Int) - (n - 1 : Nat); (i, ((n : Int) - i.natAbs) * fxOne))

/-- One weight of M class: a sinc low-pass of cutoff 0.4 × f times a Hamming window over ±H. -/
def weightM (f h : Nat) (i : Int) : Int :=
  let y := fxPi * f * i / 12000
  let sinc := if y = 0 then fxOne else sinFx y * fxOne / y
  sinc * ((54 * fxOne + 46 * Config.cosFx (fxPi * i / h)) / 100) / fxOne

/-- M class. -/
def weightsM (f h : Nat) : Weights :=
  (List.range (2 * h + 1)).map (fun (k : Nat) => let i : Int := (k : Int) - h; (i, weightM f h i))

/-- The minimum-phase filter over the N newest grid samples, ending at T + D (R221), whose weights the spec leaves open. -/
def weightsFast (n d : Nat) : Weights :=
  (List.range n).map (fun (k : Nat) => ((d : Int) - k, Config.fastWeight n k))

/-- Σ w_i x_i e^(−j2πf0(T + i ÷ 9,600)) of R214 at grid sample m. -/
def phasorSum (x : Nat → Int) (f0 m : Nat) (w : Weights) : Int × Int :=
  w.foldl (fun v e =>
    let g := ((m : Int) + e.1).toNat
    let y := e.2 * x g
    (v.1 + y * cosTurn (g * f0) 9600, v.2 - y * sinTurn (g * f0) 9600)) (0, 0)

/-- |X| of R214: √2 ÷ Σ w_i times the length of the sum, whose units are 2^-180 ÷ 625,000. -/
def phasorMag (v : Int × Int) (w : Weights) : Word :=
  let sum := (w.foldl (fun (n : Int) (e : Int × Int) => n + e.2) 0).natAbs
  roundFrac (isqrt (2 * (v.1.natAbs * v.1.natAbs + v.2.natAbs * v.2.natAbs))) (max sum 1 * 2 ^ 120 * 625000)

/-! Frequency and rate of change (R215, R221). -/

/-- f0 plus an angle difference over so many grid samples, in Hz. -/
def freqOf (f0 span : Nat) (a b : Int) : Int := f0 * fxOne + fxWrap (b - a) * 9600 * fxOne / (2 * fxPi * span)

/-- A difference of frequencies over so many grid samples, in Hz/s. -/
def rateOfChange (span : Nat) (a b : Int) : Int := (b - a) * 9600 / span

/-- The four values of an estimate at grid sample m: magnitude, angle, frequency and rate of change; `fast` takes backward
differences over q (R221), else central ones (R215). -/
def estimateOf (x : Nat → Int) (f0 q m : Nat) (w : Weights) (fast : Bool) : Word × Word × Word × Word :=
  let sum (k : Nat) : Int × Int := phasorSum x f0 k w
  let th (k : Nat) : Int := argOf (sum k)
  let f (k : Nat) : Int := if fast then freqOf f0 q (th (k - q)) (th k) else freqOf f0 (2 * q) (th (k - q)) (th (k + q))
  let r := if fast then rateOfChange q (f (m - q)) (f m) else rateOfChange (2 * q) (f (m - q)) (f (m + q))
  (phasorMag (sum m) w, fWrap (fxWord (th m)), fxWord (f m), fxWord r)

/-! Rebuilt waveforms (R227). -/

/-- √2. -/
def fxRoot2 : Int := isqrt (2 * 2 ^ 120)

/-- The output code at history instant h between two stored estimates: √2 × |X| × cos(2π·f0·h + φ), with |X| and φ interpolated
linearly at `num ÷ den` of the way, φ along the shorter way round; divided by FULL_SCALE, times the largest code and rounded,
halves away from zero (log entry 26). -/
def replayCode (f0 : Nat) (h : Ns) (m0 a0 m1 a1 full : Word) (num den : Nat) (top : Nat) : Int :=
  let mix (a d : Int) : Int := a + d * num / max den 1
  let mag := mix (fxOfWord m0) (fxOfWord m1 - fxOfWord m0)
  let phi := mix (fxOfWord a0) (fxWrap (fxOfWord a1 - fxOfWord a0))
  let x := fxRoot2 * mag / fxOne * Config.cosFx (2 * fxPi * (f0 * (h % 1000000000) % 1000000000) / 1000000000 + phi) / fxOne
  let y := fracOf full
  roundHalf (x * top * y.2 * (if y.1 < 0 then -1 else 1)) (2 ^ 60 * y.1.natAbs)

end Sys2Proof.Machine
end

