-- ==== Sys2Proof/Machine/Modal.lean ====
section
/-! DEFINITION. The arithmetic of oscillation detection and source location (R230, R233, R236-R238, R252) over real numbers
in units of 2^-60: band samples, the spectral bank, the poles of the modal estimator, and the DEF rate of a branch. -/

namespace Sys2Proof.Machine

/-- Product. -/
def fxMul (a b : Int) : Int := a * b / fxOne

/-- Quotient; zero over zero is taken as zero where a formula meets it. -/
def fxDiv (a b : Int) : Int := if b = 0 then 0 else a * fxOne / b

/-- Square root. -/
def fxSqrt (a : Int) : Int := isqrt (a.toNat * 2 ^ 60)

/-- Sum. -/
def fxSum (l : List Int) : Int := l.foldl (· + ·) 0

/-- The mean of n values; zero of none. -/
def fxMean (l : List Int) : Int := fxSum l / max 1 (l.length : Int)

/-- An angle continued from the one before without a jump of more than half a turn (R233). -/
def unwrap (before now : Int) : Int := before + fxWrap (now - before)

/-! Band samples (R230, R241). -/

/-- An input of a band: its tag and the value of each member, the one value of a signal, or the two parts of a baseband sample. -/
abbrev BandVal := Ns × List Int

/-- A point of a linear interpolation: i steps of n from a to b. -/
def mixAt (a b : List Int) (i n : Nat) : List Int :=
  (a.zip b).map (fun e => e.1 + (e.2 - e.1) * (i : Int) / (max n 1 : Nat))

/-- The gap fills between two inputs on a grid (Table OSC-7). -/
def gapFills (rate : Nat) (a b : BandVal) (gap : Nat) : List BandVal :=
  (List.range gap).map (fun i => (gridPoint rate (gridIndex rate a.1 + 1 + i), mixAt a.2 b.2 (i + 1) (gap + 1)))

/-- The band sample of a tag: the anti-alias filter over the inputs whose tags lie within the filter delay of it, its taps open
(log entry 16). -/
def bandSampleAt (b rate : Nat) (delay : Nat) (inputs : List BandVal) (t : Ns) : List Int :=
  let near := inputs.filter (fun x => decide (t ≤ x.1 + delay) && decide (x.1 ≤ t + delay))
  let width := match near with | x :: _ => x.2.length | [] => 0
  (List.range width).map (fun m => fxSum (near.map (fun x =>
    let j := (gridIndex rate x.1 : Int) - gridIndex rate t
    fxMul (Config.bandFilter b rate j.natAbs) (x.2.getD m 0))))

/-- The band samples of the latest window: tags and values, oldest first. In band 3 the inputs are the band samples. -/
def bandSeries (b rate setRate delay n : Nat) (inputs : List BandVal) : List BandVal :=
  match inputs, inputs.getLast? with
  | f :: _, some l =>
    if b = 3 then inputs.drop (inputs.length - n)
    else
      let top := gridIndex rate (l.1 - delay)
      let g := gridIndex rate (f.1 + delay)
      let low := if gridPoint rate g = f.1 + delay then g else g + 1
      let count := min n (top + 1 - low)
      (List.range count).map (fun i =>
        let t := gridPoint rate (top + 1 - count + i)
        (t, bandSampleAt b setRate delay inputs t))
  | _, _ => []

/-! The spectral bank (R236). -/

/-- A series less its least-squares line. -/
def lineOff (l : List Int) : List Int :=
  let c (i : Nat) : Int := 2 * (i : Int) - ((l.length : Int) - 1)
  let mean := fxMean l
  let num := fxSum (l.zipIdx.map (fun e => c e.2 * e.1))
  let den := fxSum ((List.range l.length).map (fun i => c i * c i))
  l.zipIdx.map (fun e => e.1 - mean - (if den = 0 then 0 else c e.2 * num / den))

/-- The Hann window of n points (the symmetric form; log entry 16). -/
def hann (n i : Nat) : Int := (fxOne - cosTurn i (n - 1)) / 2

/-- Twice the next power of two from n. -/
def padTo2 (n : Nat) : Nat := 2 * 2 ^ (if n ≤ 1 then 0 else Nat.log2 (n - 1) + 1)

/-- Bin k of the zero-padded transform of N points of a windowed complex series. -/
def bin (n k : Nat) (re im : List Int) : Int × Int :=
  ((re.zip im).zipIdx).foldl (fun a e =>
    let c := cosTurn (k * e.2) n
    let s := sinTurn (k * e.2) n
    (a.1 + fxMul e.1.1 c + fxMul e.1.2 s, a.2 + fxMul e.1.2 c - fxMul e.1.1 s)) (0, 0)

/-- Frequency of bin k in Hz: the upper half of the bins are the negative ones. -/
def binFreq (n rate k : Nat) : Int := (if 2 * k < n then (k : Int) else (k : Int) - n) * rate * fxOne / n

/-- How far beyond a bin its power falls to a level, in bins, walking up (or down) through the transform, with linear
interpolation between the two bins about it (log entry 16). -/
def halfSpanBins (p : Nat → Int) (level : Int) (up : Bool) (n k : Nat) : Nat → Nat → Int
  | 0, i => (i : Int) * fxOne
  | f + 1, i =>
    let at_ (j : Nat) : Int := p (if up then (k + j) % n else (k + n - j) % n)
    if at_ (i + 1) < level then (i : Int) * fxOne + fxDiv (at_ i - level) (at_ i - at_ (i + 1))
    else halfSpanBins p level up n k f (i + 1)

/-- The median of a list; the mean of the two middle values of an even count. -/
def median (l : List Int) : Int :=
  let s := l.foldl (fun a x => insertBy Int.toNat x a) ([] : List Int)
  let n := s.length
  if n = 0 then 0 else (s.getD ((n - 1) / 2) 0 + s.getD (n / 2) 0) / 2

/-- min(255, ⌊32 × log₂ PBR⌋), and 0 when PBR is at most 1 (R236). -/
def pbrConf (p q : Nat) : Nat := ((List.range 255).filter (fun c => decide (q ^ 32 * 2 ^ (c + 1) ≤ p ^ 32))).length

/-- What the bank forms from the band samples of a window: frequency, damping ratio, amplitude and confidence; none where no bin
lies in the band. `inB` tells the band's frequencies, `window` is W in seconds. The parabola runs through the magnitudes of
the largest bin and its neighbours (log entry 16). -/
def bankMode (rate window : Nat) (inB : Int → Bool) (xs : List (List Int)) : Option (Int × Int × Int × Nat) :=
  let m := xs.length
  let n := padTo2 m
  let win (l : List Int) : List Int := (lineOff l).zipIdx.map (fun e => fxMul e.1 (hann m e.2))
  let re := win (xs.map (fun x => x.getD 0 0))
  let im := win (xs.map (fun x => x.getD 1 0))
  let power (k : Nat) : Int := let v := bin n k re im; v.1 * v.1 + v.2 * v.2
  let bins := (List.range n).filter (fun k => inB (((binFreq n rate k).natAbs : Nat) : Int))
  match bins with
  | [] => none
  | b0 :: bs =>
    let k := bs.foldl (fun a b => if power a < power b then b else a) b0
    let mag (j : Nat) : Int := isqrt (power (j % n)).toNat
    let a := mag (k + n - 1)
    let b := mag k
    let c := mag (k + 1)
    let d := fxDiv (a - c) (2 * (a - 2 * b + c))
    let peak := b - fxMul (a - c) d / 4
    let f := (((binFreq n rate k + d * rate / n).natAbs : Nat) : Int)
    let level := peak * peak / 2
    let bh := (halfSpanBins power level true n k n 0 + halfSpanBins power level false n k n 0) * rate / n
    let bw := 144 * fxOne / 100 / window
    let zeta := fxDiv (fxSqrt (fxMul bh bh - fxMul bw bw)) (2 * f)
    let sum := fxSum ((List.range m).map (fun i => hann m i))
    some (f, zeta, fxDiv (2 * peak) sum, pbrConf (power k).toNat (median (bins.map power)).toNat)

/-! The modal estimator (R237, R238). -/

/-- σ, f and ζ of a pole z of a model at band rate r: σ + jω = r × ln z. -/
def poleMode (rate : Nat) (z : Int × Int) : Int × Int :=
  let sigma := rate * Config.lnFx (fxSqrt (fxMul z.1 z.1 + fxMul z.2 z.2))
  let omega := rate * argOf z
  (fxDiv omega (2 * fxPi), fxDiv (-sigma) (fxSqrt (fxMul sigma sigma + fxMul omega omega)))

/-- ⌊255 × a × b⌋, with b = 1 − min(1, |Δf| ÷ (0.05 × f)), and 1 for a newly assigned slot (R237). -/
def poleConf (a f : Int) (before : Option Int) : Nat :=
  let b := match before with
    | some g => fxOne - min fxOne (fxDiv (((f - g).natAbs : Nat) : Int) (f / 20))
    | none => fxOne
  (255 * fxMul (max 0 (min fxOne a)) b / fxOne).toNat

/-! Source location (R252). -/

/-- A series with its gaps filled by linear interpolation, those at its ends with the nearest value (log entry 17). -/
def fillSeries (l : List (Option Int)) : List Int :=
  let ks := l.zipIdx.filterMap (fun e => match e.1 with | some v => some (e.2, v) | none => none)
  (List.range l.length).map (fun i =>
    match (ks.filter (fun e => decide (e.1 ≤ i))).getLast?, ks.find? (fun e => decide (i ≤ e.1)) with
    | some (a, x), some (b, y) => x + (y - x) * ((i - a : Nat) : Int) / (max 1 (b - a) : Nat)
    | some (_, x), none => x
    | none, some (_, y) => y
    | none, none => 0)

/-- A series less its mean, through the zero-phase band-pass centred on f_m, whose taps are open (log entry 17). -/
def bandPassed (rate : Nat) (fm : Int) (l : List Int) : List Int :=
  let mean := fxMean l
  let y := l.map (fun x => x - mean)
  (List.range y.length).map (fun i => fxSum (y.zipIdx.map (fun e => fxMul (Config.bandPass rate fm ((i : Int) - e.2).natAbs) e.1)))

/-- The differences of neighbours. -/
def diffs : List Int → List Int
  | a :: b :: rest => (b - a) :: diffs (b :: rest)
  | _ => []

/-- Running sums. -/
def runSums : Int → List Int → List Int
  | _, [] => []
  | a, x :: xs => (a + x) :: runSums (a + x) xs

/-- The least-squares slope of a series against time in s. -/
def slope (rate : Nat) (l : List Int) : Int :=
  let c (i : Nat) : Int := 2 * (i : Int) - ((l.length : Int) - 1)
  let den := fxSum ((List.range l.length).map (fun i => c i * c i))
  if den = 0 then 0 else 2 * rate * fxSum (l.zipIdx.map (fun e => c e.2 * e.1)) / den

/-- An angle series continued without jumps over its present values. -/
def unwrapAll : Option Int → List (Option Int) → List (Option Int)
  | _, [] => []
  | p, none :: xs => none :: unwrapAll p xs
  | none, some x :: xs => some x :: unwrapAll (some x) xs
  | some p, some x :: xs => some (unwrap p x) :: unwrapAll (some (unwrap p x)) xs

/-- The DEF rate of a branch (R252) from its V and I phasors, each magnitude and angle, oldest first. -/
def defRate (rate : Nat) (fm : Int) (l : List (Option (Int × Int × Int × Int))) : Int :=
  let series (f : Int × Int × Int × Int → Int) : List (Option Int) := l.map (fun o => o.map f)
  let through (o : List (Option Int)) : List Int := bandPassed rate fm (fillSeries o)
  let p := through (series (fun x => fxMul (fxMul x.1 x.2.2.1) (Config.cosFx (x.2.1 - x.2.2.2))))
  let q := through (series (fun x => fxMul (fxMul x.1 x.2.2.1) (sinFx (x.2.1 - x.2.2.2))))
  let th := through (unwrapAll none (series (fun x => x.2.1)))
  let ln := through (series (fun x => Config.lnFx x.1))
  let steps := ((p.drop 1).zip (diffs th)).zip ((q.drop 1).zip (diffs ln))
  slope rate (runSums 0 (steps.map (fun e => fxMul e.1.1 e.1.2 + fxMul e.2.1 e.2.2)))

end Sys2Proof.Machine
end

