-- ==== Sys2Proof/Machine/Swage.lean ====
section
/-! DEFINITION. The Swage waveform front end (chapter 08): lanes and their queues, the filter chain's samples and
restarts, estimates, threshold comparators and replay, with the meanings of the commands of that family. -/

namespace Sys2Proof.Machine

/-! Lanes and queues (R197-R209). -/

/-- One bit of the CRC-8 with polynomial 0x07. -/
def crc8Bit (c : BitVec 8) : BitVec 8 := if c.getLsbD 7 then (c <<< 1) ^^^ 0x07#8 else c <<< 1

/-- One byte of it. -/
def crc8Byte (c b : BitVec 8) : BitVec 8 :=
  crc8Bit (crc8Bit (crc8Bit (crc8Bit (crc8Bit (crc8Bit (crc8Bit (crc8Bit (c ^^^ b))))))))

/-- CRC-8 of a lane frame (R197): initial value zero, over SEQ through the last sample. -/
def crc8 (b : Bytes) : BitVec 8 := b.foldl crc8Byte 0

/-- A lane's state. -/
def State.lane (s : State) (l : Nat) : LaneSt := s.swage.lanes.getD l LaneSt.reset

/-- Change a lane. -/
def State.modLane (s : State) (l : Nat) (f : LaneSt → LaneSt) : State :=
  { s with swage := { s.swage with lanes := modAt s.swage.lanes l f } }

/-- A lane group's queue. -/
def State.wq (s : State) (g : Nat) : QueueSt := s.swage.queues.getD g QueueSt.reset

/-- Change a queue. -/
def State.modWq (s : State) (g : Nat) (f : QueueSt → QueueSt) : State :=
  { s with swage := { s.swage with queues := modAt s.swage.queues g f } }

/-- ns of one sample period of a lane: LANE_DIV cycles of the 50 MHz WV_CLK. -/
def State.lanePeriod (s : State) (l : Nat) : Nat := laneLaneDiv (s.rec_ .lane l) * 20

/-- Bytes of a sample of a WIDTH. -/
def sampleBytes (width : Nat) : Nat := if width = 0 then 2 else 3

/-- Fill of a queue (R205): words written and not yet read, both banks. -/
def QueueSt.fill (q : QueueSt) : Nat := q.reading.length + q.writing.length

/-- A stored word with its SECDED code over bits 267:0 (R202). -/
def qWord (b : Bytes) (first valid : Nat) : QWord :=
  { bytes := b, firstRec := first, valid := valid, ecc := Config.secded (valid * 2 ^ 262 + first * 2 ^ 256 + beNat b) }

/-- Close the partial word of the bank being written (R203). -/
def QueueSt.close (q : QueueSt) : QueueSt :=
  if q.part.isEmpty then q
  else { q with writing := q.writing ++ [qWord (padTo 32 q.part) q.partFirst q.part.length]
                part := [], partFirst := 63 }

/-- HIGH_WM and LOW_WM of a lane group (Table WAV-2). -/
def State.watermarks (s : State) (g : Nat) : Nat × Nat :=
  let r := s.rec_ .frontEnd 0
  let w := match g with | 0 => frontEndWmG0 r | 1 => frontEndWmG1 r | 2 => frontEndWmG2 r | _ => frontEndWmG3 r
  (fld w 15 8, fld w 7 0)

/-- WV_HOLD_Nn by the fill (R205): asserted at HIGH_WM or above, released at LOW_WM or below. -/
def State.evalHold (s : State) (g : Nat) : State :=
  let q := s.wq g
  let w := s.watermarks g
  if !q.hold && decide (w.1 ≤ q.fill) then
    (s.modWq g (fun q => { q with hold := true, holdSeen := true, holdNow := true })).bumpOnce (ck1 .holdAssertions g) 3 .unit
  else if q.hold && decide (q.fill ≤ w.2) then s.modWq g (fun q => { q with hold := false })
  else s

/-- The level of WV_HOLD_Nn at its ball (Table MOD-6); none while unpowered. -/
def State.holdBall (s : State) (g : Nat) : Option Bool :=
  match s.boot.mode with
  | .dormant => none
  | .unconfigured | .loading | .halt => some true
  | _ => some (s.wq g).hold

/-- Close the partial word of a group with its count. -/
def State.closePartial (s : State) (g : Nat) : State :=
  if (s.wq g).part.isEmpty then s else ((s.modWq g QueueSt.close).bump (ck1 .partialWords g)).evalHold g

/-- Hand the bank being written to the read side (R203). -/
def State.handOff (s : State) (g : Nat) : State :=
  (s.closePartial g).modWq g (fun q => { q with reading := q.writing, writing := [], bank := 1 - q.bank, since := none })

/-- Split bytes into whole words and the rest. -/
def wordsOf : Nat → Nat → Bytes → List QWord × Nat × Bytes
  | 0, f, b => ([], f, b)
  | n + 1, f, b =>
    if 32 ≤ b.length then
      let rest := wordsOf n 63 (b.drop 32)
      (qWord (b.take 32) f 32 :: rest.1, rest.2)
    else ([], f, b)

/-- Append a record to the bank being written. -/
def QueueSt.append (q : QueueSt) (now : Ns) (r : Bytes) : QueueSt :=
  let f := if q.partFirst = 63 then q.part.length else q.partFirst
  let w := wordsOf 129 f (q.part ++ r)
  { q with writing := q.writing ++ w.1, part := w.2.2, partFirst := if w.2.2.isEmpty then 63 else w.2.1
           since := match q.since with | some t => some t | none => some now }

/-- Bytes of room in the bank being written. -/
def QueueSt.room (q : QueueSt) : Nat := (128 - q.writing.length) * 32 - q.part.length

/-- Write a record of a lane into its group's queue: a bank that has no room is handed off if the other is free, else the
record is discarded (R203, R207, Table WAV-9). -/
def State.writeRecord (s : State) (l : Nat) (r : Bytes) : State :=
  let g := l / 2
  let s := if (s.wq g).room < r.length && (s.wq g).reading.isEmpty then s.handOff g else s
  let q := s.wq g
  if q.room < r.length then
    let s := if q.hold then s.bumpOnce (ck1 .laneOverflows l) 4 .unit else s.bump (ck1 .laneOverflows l)
    s.modLane l (fun x => { x with gap := true })
  else ((s.modWq g (fun q => q.append s.lts r)).modLane l (fun x => { x with gap := false, first := false })).evalHold g

/-- The 16-byte header of a queue record (Table WAV-7). -/
def recHeader (dt : Ns) (seq lane width count : Nat) (first gap switch : Bool) : Bytes :=
  natBe 16 (tim1 dt * 2 ^ 64 + seq * 2 ^ 48 + lane * 2 ^ 45 + width * 2 ^ 44 + count * 2 ^ 40 + b2n first * 2 ^ 39 +
    b2n gap * 2 ^ 38 + b2n switch * 2 ^ 37)

/-- A lane enters NOSYNC after 16 consecutive frames of one fault (Table WAV-6). -/
def State.laneNosync (s : State) (l : Nat) : State :=
  (s.modLane l (fun x => { x with st := .nosync, fmtRun := 0, seqRun := 0 })).bump (ck1 .laneNosync l) |>.postFor 4 .unit (ck1 .laneNosync l) 0

/-- WV_SYNC_N was low at an instant, in its present low time or in the last one. -/
def State.syncLow (s : State) (t : Ns) : Bool :=
  (match s.swage.sync with | some a => decide (a ≤ t) | none => false) ||
  (match s.swage.syncWas with | some (a, b) => decide (a ≤ t) && decide (t < b) | none => false)

/-- An accepted frame (Table WAV-6): the lane is in RUN at its number, the frame counts in its row, and its record is written, its
sample instant the recorded DT of its edge plus LANE_APERTURE (R198). -/
def State.acceptFrame (s : State) (l seq delta num count width : Nat) (switch : Bool) (edge : Ns) (data : Bytes) : State :=
  let x := s.lane l
  let gap := x.gap || decide (delta ≠ 1)
  let dt := ((edge : Int) + signed 32 (laneAperture (s.rec_ .lane l))).toNat
  let s := s.modLane l (fun x => { x with fmtRun := 0, seqRun := 0, st := .run, last := some num, at_ := s.lts })
  let s := if delta ≠ 1 then s.bump (ck1 .laneGaps l)
    else if switch then (s.bump (ck1 .laneSwitches l)).postFor 2 .unit (ck1 .laneSwitches l) 0
    else s.bump (ck1 .laneAccepted l)
  s.writeRecord l (recHeader dt seq l width count x.first gap switch ++ data)

/-- A lane frame (R200, Table WAV-6), the first row that fits. Its SYNC completed after its first 16 bits, 20 ns each. -/
def State.laneFrame (s : State) (l : Nat) (b : Bytes) : State :=
  let r := s.rec_ .lane l
  let x := s.lane l
  let h := beAt b 0 5
  let seq := fld h 23 8
  let count := fld h 7 4
  let width := fld h 3 3
  let switch := bitAt h 2
  let body := (b.drop 2).take (b.length - 3)
  let fresh (x : LaneSt) : LaneSt := { x with fmtRun := 0, seqRun := 0 }
  let delta := match x.last with | some n => (seq + 65536 - n % 65536) % 65536 | none => (seq + 1) % 65536
  let num := match x.last with | some n => n + delta | none => delta - 1
  let began := s.lts - 20 * (8 * b.length - 16)
  if fld h 39 24 ≠ 0xF0A5 ∨ laneEnable r = 0 then s
  else if x.st = .nosync then s.bump (ck1 .laneBeforeSync l)
  else if s.syncLow began then
    (s.modLane l fresh).bump (ck1 .laneDuringSync l)
  else if b.length ≠ 6 + count * sampleBytes width ∨ crc8 body ≠ b.getLastD 0 then
    (s.modLane l fresh).bumpOnce (ck1 .laneCrc l) 3 .unit
  else if count ≠ laneChCount r ∨ width ≠ laneWidth r then
    let s := (s.modLane l (fun x => { x with fmtRun := x.fmtRun + 1, seqRun := 0 })).bump (ck1 .laneFormat l)
    if 15 ≤ x.fmtRun then s.laneNosync l else s
  else if delta = 0 ∨ 64 < delta then
    let s := (s.modLane l (fun x => { x with seqRun := x.seqRun + 1, fmtRun := 0 })).bump (ck1 .laneSequence l)
    if 15 ≤ x.seqRun then s.laneNosync l else s
  else match x.edges.find? (fun e => e.1 == num) with
  | none => (s.modLane l fresh).bump (ck1 .laneLate l)
  | some edge => s.acceptFrame l seq delta num count width switch edge.2 ((b.drop 5).take (b.length - 6))

/-- LANE_FRAME: the frame of R197, its last byte the CRC-8. -/
def execLaneFrame (lane : Fin 8) (bits : Bytes) (crc : Byte) (s : State) : Host.Outcome State Fault Refusal :=
  .next (if s.works then s.laneFrame lane.val (bits ++ [crc]) else s)

/-- WV_SYNC_RELEASE (R198, R199): every enabled lane is in RUN, its cycle 0 is now, and it expects SEQ 0; the 64 local channels
restart at the first record that follows, which carries SYNC_FIRST (R219). -/
def execWvSyncRelease (s : State) : Host.Outcome State Fault Refusal :=
  .next (match s.swage.sync with
    | none => s
    | some low =>
      if !s.works then s
      else
        let s := forAll (List.range 8) s (fun s l =>
          if laneEnable (s.rec_ .lane l) = 1 then
            s.modLane l (fun x => { x with st := .run, last := none, fmtRun := 0, seqRun := 0, gap := false, first := true, at_ := s.lts
                                           edges := [(0, s.dt)], stepFrom := none })
          else s)
        { s with swage := { s.swage with sync := none, syncWas := some (low, s.lts), clk0 := some s.lts, clkLost := false } })

/-- WV_SYNC_ASSERT (R203): the partial words close. -/
def execWvSyncAssert (s : State) : Host.Outcome State Fault Refusal :=
  .next (if s.swage.sync.isSome || s.boot.mode == .dormant then s
    else
      let s := { s with swage := { s.swage with sync := some s.lts } }
      forAll (List.range 4) s (fun s g => s.closePartial g))

/-- WV_CLK_LOST (R199): every lane enters NOSYNC; each loss counts and posts, and no edge is recorded until a release. -/
def execWvClkLost (s : State) : Host.Outcome State Fault Refusal :=
  .next (if !s.works then s
    else
      let s := { s with swage := { s.swage with clkLost := true, lanes := s.swage.lanes.map (fun (x : LaneSt) => { x with st := .nosync }) } }
      (s.bump (ck .wvClkLosses)).postFor 5 .unit (ck .wvClkLosses) 0)

/-- LANE_STOP (R199, Table WAV-6): no frame accepted for four sample periods. -/
def execLaneStop (lane : Fin 8) (s : State) : Host.Outcome State Fault Refusal :=
  .next (let l := lane.val
    if s.works && (s.lane l).st == .run && decide ((s.lane l).at_ + 4 * s.lanePeriod l ≤ s.lts) then
      ((s.modLane l (fun x => { x with st := .stopped })).bumpOnce (ck1 .laneStops l) 3 .unit).closePartial (l / 2)
    else s)

/-- BANK_HANDOFF (R203): HANDOFF_US after the first write into the bank, once the other bank has been read. -/
def execBankHandoff (g : Fin 4) (s : State) : Host.Outcome State Fault Refusal :=
  .next (let q := s.wq g.val
    match q.since with
    | some t =>
      if s.works && decide (t + frontEndHandoffUs (s.rec_ .frontEnd 0) * 1000 ≤ s.lts) && q.reading.isEmpty then s.handOff g.val else s
    | none => s)

/-- A flush (R208): both banks are emptied at once; every lane of the group sets GAP in its next record. -/
def State.flushGroup (s : State) (g : Nat) : State :=
  let q := s.wq g
  let s := s.bumpBy (ck1 .flushedWords g) q.fill
  let s := if q.part.isEmpty then s else s.bump (ck1 .flushedPartial g)
  let s := s.modWq g (fun q => { q with reading := [], writing := [], part := [], partFirst := 63, since := none, parse := [], lost := true })
  ((s.modLane (2 * g) (fun x => { x with gap := true })).modLane (2 * g + 1) (fun x => { x with gap := true })).evalHold g

/-! Channels of the filter chain (R193, R210-R213). -/

/-- The chain channel of a channel-map entry of SOURCE 4 or 5. -/
def State.chainKey (s : State) (wc : Nat) : Nat :=
  let r := s.rec_ .chan wc
  if chanSource r = 5 then chanSrcRef r else 64 + 8 * chanSrcRef r + chanPosition r

/-- The lowest entry that names a chain channel. -/
def State.chainEntry (s : State) (k : Nat) : Option Nat :=
  (s.valids .chan 255 65536).find? (fun c => let r := s.rec_ .chan c; (chanSource r == 4 || chanSource r == 5) && s.chainKey c == k)

/-- The estimators on a chain channel. -/
def State.chainEsts (s : State) (k : Nat) : List Nat :=
  (s.valids .chan 255 65536).filter (fun c => let r := s.rec_ .chan c; chanSource r == 6 && s.chainKey (chanSrcRef r) == k)

/-- A chain channel before its first sample. -/
def ChainSt.fresh : ChainSt := { samples := [], held := [], restart := none, breaks := [], waiting := true, next := none, confRev := none }

/-- A chain channel's state. -/
def State.chain (s : State) (k : Nat) : ChainSt := agetD s.swage.chains k ChainSt.fresh

/-- Change a chain channel. -/
def State.modChain (s : State) (k : Nat) (f : ChainSt → ChainSt) : State :=
  { s with swage := { s.swage with chains := amod s.swage.chains k ChainSt.fresh f } }

/-- An estimator before its first estimate. -/
def EstSt.fresh : EstSt :=
  { next := none, nextFast := none, prev := none, latest := none, runs := List.replicate 5 0, picked := 0, freqSince := none }

/-- An estimator's state. -/
def State.est (s : State) (ch : Nat) : EstSt := agetD s.swage.ests ch EstSt.fresh

/-- Change an estimator. -/
def State.modEst (s : State) (ch : Nat) (f : EstSt → EstSt) : State :=
  { s with swage := { s.swage with ests := amod s.swage.ests ch EstSt.fresh f } }

/-- A threshold event record (Table WAV-13). -/
def threshRecord (ch : Nat) (tag : Ns) (kind : Nat) (edge restart fast : Bool) (v : Word) : Bytes :=
  natBe 16 (tim1 tag * 2 ^ 64 + ch * 2 ^ 48 + kind * 2 ^ 45 + b2n edge * 2 ^ 44 + b2n fast * 2 ^ 43 + b2n restart * 2 ^ 42 + v.toNat)

/-- A threshold event (R225), counted per set and KIND: its record goes to capture, logic and the analytics fabric. -/
def State.threshEvent (s : State) (ch set : Nat) (tag : Ns) (kind : Nat) (edge restart fast : Bool) (v : Word) : State :=
  let s := s.bump (ck2 .threshEvents set kind)
  { s with swage := { s.swage with event := threshRecord ch tag kind edge restart fast v } }.raise
    { family := 0, tag := tag, index := ch, kind := kind, edge := edge, cause := b2n restart, grade := 0, topo := false, coh := false,
      fast := fast, replay := false, value := v }

/-- The compared value of a level comparator (0 MAG_HI, 1 MAG_LO, 2 FREQ_HI, 3 FREQ_LO, 4 ROCOF), where valid (R223); an
estimate that carries TEST is taken as invalid (R119, R211). -/
def cmpValue (k : Nat) (e : Estimate) : Option Word :=
  if e.test then none
  else if k < 2 then (if e.invalid then none else some e.mag)
  else if k < 4 then (if e.freqBad then none else some e.freq)
  else if e.rocofBad then none else some (fAbs e.rocof)

/-- A chain channel restarts at an effective instant (R219): no window that begins before it is valid any more; each of its estimators counts a
restart and drops out every picked-up comparator, with RESTART set (R224); such a drop-out carries the TAG and value of the
estimate before, and where there is none the restart point and the quiet NaN (DESIGN CHOICE, log entry 68). -/
def State.restartChain (s : State) (k : Nat) (t : Ns) : State :=
  let s := s.modChain k (fun c =>
    let last := match c.samples.getLast? with | some x => x.at_ | none => 0
    { c with restart := some t, waiting := false
             breaks := c.breaks.filter (fun b => decide (t < b.2 + 40000000000)) ++ [(last, t)] })
  forAll (s.chainEsts k) s (fun s ch =>
    let e := s.est ch
    let r := s.rec_ .chan ch
    let s := (s.bump (ck1 .estRestarts ch)).modEst ch (fun e => { e with runs := List.replicate 5 0, picked := 0, prev := none, freqSince := none })
    forAll ((List.range 5).filter (fun n => e.picked.getLsbD n)) s (fun s n =>
      let tag := match e.prev with | some p => p.tag | none => t
      let v := match e.prev with | some p => (match cmpValue n p with | some v => v | none => qnan) | none => qnan
      s.threshEvent ch (chanThreshSet r) tag n false true (chanFastMinphase r == 1) v))

/-- A sample reaches the chain (R210, R211, R219): a missing one makes the next good one a restart. -/
def State.takeSample (s : State) (k : Nat) (x : Sample) : State :=
  if !x.ok then s.modChain k (fun c => { c with waiting := true })
  else
    let s := if (s.chain k).waiting then s.restartChain k x.at_ else s
    s.modChain k (fun c => { c with samples := c.samples.filter (fun y => decide (x.at_ < y.at_ + 41000000000)) ++ [x] })

/-- The effective instant of a sample (R213). -/
def State.effective (s : State) (k : Nat) (t : Ns) : Ns :=
  match s.chainEntry k with
  | some c => ((t : Int) - signed 32 (chanPhaseDelay (s.rec_ .chan c))).toNat
  | none => t

/-- A sample of a local channel is written to the sampled-value ring by its region's slice (R349): not while HISTORY is
shed; the ring's size bounds what it holds, 16 bytes for a sample (log entry 33). -/
def State.storeLocal (s : State) (ch : Nat) (t : Ns) (v : Word) : State :=
  if s.shed (ch / 16) 4 then s
  else
    let size := planSvSize (s.rec_ .plan 0) * 1048576
    let used := s.align.svRing.foldl (fun n e => n + entryLen (.frame e.2.2)) 0
    let ring := s.align.localRing ++ [(ch, t, v, true)]
    { s with align := { s.align with localRing := ring.drop (ring.length - (size - used) / 16) } }

/-- A record read from a queue (R201): its samples reach the chain; SYNC_FIRST, a gap in the lane's numbers, GAP or SWITCH
restarts the lane's channels; samples taken before a DT step do not follow it, and reach history only (R219). -/
def State.takeRecord (s : State) (b : Bytes) : State :=
  let h := beAt b 0 16
  let l := fld h 47 45
  let seq := fld h 63 48
  let n := sampleBytes (fld h 44 44)
  let t := ofTim1 (fld h 127 64)
  let first := bitAt h 39
  let broken := first || bitAt h 38 || bitAt h 37 || (match (s.lane l).rdSeq with | some q => seq != (q + 1) % 65536 | none => false)
  let stale := !first && (match (s.lane l).stepFrom with | some q => decide (32768 ≤ (seq + 65536 - q % 65536) % 65536) | none => false)
  let s := s.modLane l (fun x => { x with rdSeq := some seq, stepFrom := if stale then x.stepFrom else none })
  forAll (List.range (fld h 43 40)) s (fun s i =>
    let k := 8 * l + i
    let v := signed (8 * n) (beAt b (16 + n * i) n)
    let s := if broken then s.modChain k (fun c => { c with waiting := true }) else s
    let s := s.storeLocal k t (fOfInt v)
    if stale then s else s.takeSample k { at_ := s.effective k t, value := v, ok := true, test := false, mirror := false, rev := 0 })

/-- Take every whole record from the bytes read. -/
def State.takeRecords (g : Nat) : Nat → State → State
  | 0, s => s
  | n + 1, s =>
    let p := (s.wq g).parse
    let h := beAt p 0 16
    let len := 16 + fld h 43 40 * sampleBytes (fld h 44 44)
    if p.length < 16 ∨ p.length < len then s
    else State.takeRecords g n ((s.modWq g (fun q => { q with parse := q.parse.drop len })).takeRecord (p.take len))

/-- QUEUE_WORD_READ (R204, R205): the read side takes the oldest word; an uncorrectable one is discarded with every record
that has a byte in it, and parsing resumes at the next FIRST_REC. -/
def State.queueRead (s : State) (g : Nat) (err : WordErr) : State :=
  let q := s.wq g
  match q.reading with
  | [] => s
  | w :: rest =>
    let s := s.modWq g (fun q => { q with reading := rest })
    let bank := 1 - q.bank
    let s := match err with
      | .uncorrectable =>
        ((s.bump (ck2 .bankUncorrectable g bank)).uncorrectable .inputQueueWord g).modWq g (fun q => { q with parse := [], lost := true })
      | _ =>
        let s := if err == WordErr.corrected then (s.bump (ck2 .bankCorrected g bank)).bump (ck2 .correctable (structRow .inputQueueWord) g) else s
        if q.lost then
          (if w.firstRec < 32 then
            State.takeRecords g 3 (s.modWq g (fun q => { q with parse := (w.bytes.take w.valid).drop w.firstRec, lost := false }))
          else s)
        else State.takeRecords g 3 (s.modWq g (fun q => { q with parse := q.parse ++ w.bytes.take w.valid }))
    s.evalHold g

/-- QUEUE_WORD_READ. -/
def execQueueWordRead (g : Fin 4) (err : WordErr) (s : State) : Host.Outcome State Fault Refusal :=
  .next (if s.works then s.queueRead g.val err else s)

/-! Sampled-value channels (R210, R211). -/

/-- Sample rate of a sampled-value stream (Table IMG-4). -/
def svRate (code : Nat) : Nat := if code = 0x10 then 4800 else if code = 0x11 then 14400 else 0

/-- The tag of an ASDU (R119): not later than the arrival stamp, and less than 1 s earlier. -/
def svTag (rate smpCnt : Nat) (arrival : Ns) : Ns :=
  let sec := arrival / 1000000000
  let off := if rate = 0 then 0 else smpCnt * 1000000000 / rate
  if sec * 1000000000 + off ≤ arrival then sec * 1000000000 + off else (sec - 1) * 1000000000 + off

/-- Samples held for a sampled-value channel enter the chain in tag order as far as none before them is still awaited; a change
of confRev is a switch at the sample that brings it (R211). -/
def State.drainHeld (k rate : Nat) : Nat → State → State
  | 0, s => s
  | n + 1, s =>
    let c := s.chain k
    match c.held with
    | [] => s
    | x :: rest =>
      if (match c.next with | some t => decide (x.at_ ≤ t) | none => true) then
        let switched := match c.confRev with | some v => v != x.rev | none => false
        let s := s.modChain k (fun c => { c with held := rest, next := some (gridPoint rate (gridIndex rate x.at_ + 1))
                                                 confRev := some x.rev, waiting := c.waiting || switched })
        State.drainHeld k rate n (s.takeSample k { x with at_ := s.effective k x.at_ })
      else s

/-- Drain every held sample that no earlier one holds back. -/
def State.drain (s : State) (k rate : Nat) : State := State.drainHeld k rate ((s.chain k).held.length + 1) s

/-- SV_WAIT in ns. -/
def State.svWait (s : State) : Nat := frontEndSvWait (s.rec_ .frontEnd 0) * 1000

/-- One sample of a sampled-value channel, by its instant (R210): a further copy of one that the chain has is ignored; one past
its instant plus SV_WAIT, or before samples already taken, is late to filter, and the first one after LOADING or a step
that comes so late is missing as well; else it waits its turn. -/
def State.svSample (s : State) (k sid pos rate : Nat) (x : Sample) : State :=
  let c := s.chain k
  let eff := s.effective k x.at_
  if c.held.any (fun y => y.at_ == x.at_) || c.samples.any (fun y => y.at_ == eff) then s
  else if (match c.next with | some n => decide (x.at_ < n) | none => false) then s.bump (ck2 .lateToFilter sid pos)
  else if x.at_ + s.svWait < s.dt then
    let s := s.bump (ck2 .lateToFilter sid pos)
    if c.next.isSome then s
    else (s.bump (ck2 .missingSamples sid pos)).modChain k (fun c =>
      { c with waiting := true, next := some (gridPoint rate (gridIndex rate x.at_ + 1)) })
  else
    let s := if x.ok then s else s.bump (ck2 .missingSamples sid pos)
    (s.modChain k (fun c => { c with held := insertBy (fun y => y.at_) x c.held })).drain k rate

/-- The samples of a delivered frame of KIND 2 or 3 go to the chain (R125, R210, R211). -/
def State.svToChain (s : State) (d : Delivery) : State :=
  let rate := svRate (streamRateCode (s.rec_ .stream d.sid))
  forAll ((List.range 8).filter (fun p => (s.chainEntry (64 + 8 * d.sid + p)).isSome)) s (fun s p =>
    forAll d.asdus s (fun s a =>
      match a.samples[p]? with
      | none => s
      | some v =>
        s.svSample (64 + 8 * d.sid + p) d.sid p rate
          { at_ := svTag rate a.smpCnt d.arrival, value := v.1.toInt, ok := v.2.toNat % 4 == 0 && !d.unsync, test := d.test
            mirror := d.mirror, rev := a.confRev }))

/-- SV_SAMPLE_DEADLINE (R210): a sample that has not reached the chain by its instant plus SV_WAIT counts as missing. -/
def execSvSampleDeadline (sid : Fin 8192) (pos : Fin 8) (s : State) : Host.Outcome State Fault Refusal :=
  .next (
    let k := 64 + 8 * sid.val + pos.val
    let rate := svRate (streamRateCode (s.rec_ .stream sid.val))
    match (s.chain k).next with
    | some t =>
      if s.works && decide (t + s.svWait < s.dt) then
        ((s.bump (ck2 .missingSamples sid.val pos.val)).modChain k (fun c =>
          { c with waiting := true, next := some (gridPoint rate (gridIndex rate t + 1)) })).drain k rate
      else s
    | none => s)

/-! Estimates (R214-R222). -/

/-- N of R214: grid samples of one nominal cycle. -/
def State.cycleN (s : State) : Nat := if frontEndFNom (s.rec_ .frontEnd 0) = 1 then 160 else 192

/-- ns of n grid samples. -/
def gridNs (n : Nat) : Nat := n * 312500 / 3

/-- Half-span H of the phasor window (Table WAV-11): P class (0b01) and M class (0b10) by rate code. -/
def State.halfSpan (s : State) (cls code : Nat) : Nat :=
  let n := s.cycleN
  if cls = 1 then n - 1 else if code < 3 then 24 * n else if code < 6 then 12 * n else 6 * n

/-- The whole windows of the three values of a linear-phase estimate in ns: phasor, frequency, rate of change. -/
def State.spans (s : State) (cls code : Nat) : Nat × Nat × Nat :=
  let h := s.halfSpan cls code
  let q := s.cycleN / 4
  (gridNs (h + 6), gridNs (h + q + 6), gridNs (h + 2 * q + 6))

/-- The whole window of a fast estimate in ns (Table WAV-11), which its frequency and rate of change share: how far it reaches
before and after its tag. -/
def State.fastSpans (s : State) : Nat × Nat := if s.cycleN = 160 then (gridNs 221, gridNs 30) else (gridNs 263, gridNs 36)

/-- ns between samples of a chain channel. -/
def State.chainPeriod (s : State) (k : Nat) : Nat :=
  if k < 64 then s.lanePeriod (k / 8)
  else
    let rate := svRate (streamRateCode (s.rec_ .stream ((k - 64) / 8)))
    if rate = 0 then 0 else 1000000000 / rate

/-- The chain has every sample up to an instant. -/
def State.covers (s : State) (k : Nat) (hi : Ns) : Bool :=
  match (s.chain k).samples.getLast? with
  | some x => decide (hi < x.at_ + s.chainPeriod k)
  | none => false

/-- Every input sample of a window exists, is good and lies at or after the restart point (R219). -/
def State.windowOk (s : State) (k : Nat) (lo hi : Ns) : Bool :=
  (match (s.chain k).restart with | some r => decide (r ≤ lo) | none => false) && s.covers k hi

/-- The last input sample of a window has reached the chain or been declared missing (R216): that of a stopped lane once its
queue is read out, that of a sampled-value channel by the next sample awaited or, before any is, by SV_WAIT. -/
def State.windowIn (s : State) (k : Nat) (hi : Ns) : Bool :=
  s.covers k hi ||
  (if k < 64 then (s.lane (k / 8)).st != .run && (s.wq (k / 16)).fill == 0 && (s.wq (k / 16)).part.isEmpty
   else match (s.chain k).next with
    | some t => decide (hi < s.effective k t)
    | none => decide (2 * hi + s.svWait < s.dt + s.effective k hi))

/-- The input rate of a chain channel in samples/s, as a fraction. -/
def State.chainRate (s : State) (k : Nat) : Nat × Nat :=
  if k < 64 then (50000000, laneLaneDiv (s.rec_ .lane (k / 8))) else (svRate (streamRateCode (s.rec_ .stream ((k - 64) / 8))), 1)

/-- The weights of an entry's estimator (R214, R221). -/
def State.estWeights (s : State) (ch : Nat) (fast : Bool) : Weights :=
  let r := s.rec_ .chan ch
  let n := s.cycleN
  if fast then weightsFast n (if n = 160 then 24 else 30)
  else if chanEstClass r = 1 then weightsP n
  else weightsM (rateOf (chanOutRate r)) (s.halfSpan (chanEstClass r) (chanOutRate r))

/-- SCALE of an estimator for a tag: that of the boundary before the tag (R218). -/
def State.scaleAt (s : State) (ch : Nat) (t : Ns) : Word :=
  match (s.swage.scales.filter (fun x => x.1 == ch && decide (t < x.2.1))).getLast? with
  | some x => x.2.2
  | none => BitVec.ofNat 32 (chanScale (s.rec_ .chan ch))

/-- Form an estimate at a tag from the chain's samples (R214, R215, R219-R221): `lo`s are how far the three values reach
back from the tag, `hi`s how far forward. An invalid value is the quiet NaN. -/
def State.formEst (s : State) (ch : Nat) (t : Ns) (nominal : Bool) (lo hi : Nat × Nat × Nat) : Estimate :=
  let r := s.rec_ .chan ch
  let k := s.chainKey (chanSrcRef r)
  let ok := s.windowOk k (t - lo.1) (t + hi.1)
  let okF := ok && s.windowOk k (t - lo.2.1) (t + hi.2.1)
  let okR := okF && s.windowOk k (t - lo.2.2) (t + hi.2.2)
  let win := (s.chain k).samples.filter (fun x => decide (t - lo.2.2 ≤ x.at_) && decide (x.at_ ≤ t + hi.2.2))
  let taps := (s.chain k).samples.map (fun x => ((x.at_ : Int), x.value))
  let v := estimateOf (gridSample (s.chainRate k) taps) s.fNom (s.cycleN / 4) (gridIndex 9600 t) (s.estWeights ch nominal) nominal
  { ch := ch, tag := t
    mag := if ok then fMul v.1 (s.scaleAt ch t) else qnan
    ang := if ok then v.2.1 else qnan
    freq := if okF then v.2.2.1 else qnan
    rocof := if okR then v.2.2.2 else qnan
    invalid := !ok, test := win.any (fun x => x.test), unsync := false, freqBad := !okF, rocofBad := !okR, nominal := nominal
    settling := !ok, mirror := win.any (fun x => x.mirror), released := s.dt, tsw := s.time.tsw }

/-! Threshold comparators (R223-R225). -/

/-- An estimate lies beyond the threshold of a level comparator, and inside it by the hysteresis. -/
def levelCmp (r k : Nat) (v : Word) : Bool × Bool :=
  let w (hi lo : Nat) : Word := BitVec.ofNat 32 (fld r hi lo)
  let h (th : Word) : Word := fAbs (fMul th (fOfFrac (threshHyst r) 1000))
  let hf : Word := fOfFrac (threshHystF r) 1000
  match k with
  | 0 => let th := w 255 224; (fLt th v, fLe v (fSub th (h th)))
  | 1 => let th := w 223 192; (fLt v th, fLe (fAdd th (h th)) v)
  | 2 => let th := w 191 160; (fLt th v, fLe v (fSub th hf))
  | 3 => let th := w 159 128; (fLt v th, fLe (fAdd th hf) v)
  | _ => let th := w 127 96; (fLt th v, fLe v (fSub th (h th)))

/-- A level comparator on one estimate: pickup at the PICKUP-th consecutive valid estimate beyond, drop-out at the first
inside; gated, it raises nothing and its run stays at zero (R224, R51). -/
def State.runLevel (s : State) (ch set : Nat) (e : Estimate) (gated fast : Bool) (k : Nat) : State :=
  let r := s.rec_ .thresh set
  let x := s.est ch
  match cmpValue k e with
  | none => s.modEst ch (fun x => { x with runs := setAt x.runs k 0 })
  | some v =>
    let c := levelCmp r k v
    let picked := x.picked.getLsbD k
    if gated then s.modEst ch (fun x => { x with runs := setAt x.runs k 0 })
    else if c.1 then
      let n := x.runs.getD k 0 + 1
      let s := s.modEst ch (fun x => { x with runs := setAt x.runs k (min n 15) })
      if threshPickup r ≤ n ∧ !picked then
        (s.modEst ch (fun x => { x with picked := x.picked ||| (1#5 <<< k) })).threshEvent ch set e.tag k true false fast v
      else s
    else
      let s := s.modEst ch (fun x => { x with runs := setAt x.runs k 0 })
      if picked && c.2 then
        (s.modEst ch (fun x => { x with picked := x.picked &&& ~~~(1#5 <<< k) })).threshEvent ch set e.tag k false false fast v
      else s

/-- The size of a magnitude step relative to the value before, where one is formed. -/
def stepMag (p e : Estimate) : Option Word :=
  if p.invalid || e.invalid || p.test || e.test || !fLt 0 p.mag then none else some (fDiv (fAbs (fSub e.mag p.mag)) p.mag)

/-- The size of an angle step, with the phase that the frequency before accounts for taken off. -/
def stepAng (f0 : Nat) (p e : Estimate) : Option Word :=
  if p.invalid || e.invalid || p.test || e.test then none
  else
    let df := if p.freqBad then 0 else fSub p.freq (fOfInt f0)
    let turn := fMul (fMul (fMul (fOfInt 2) fPi) df) (fOfFrac ((e.tag - p.tag : Nat) : Int) 1000000000)
    some (fAbs (fWrap (fSub (fSub e.ang p.ang) turn)))

/-- The comparators of an estimator on its next estimate (R223-R225), in KIND order, and the gates of Table MOD-5. -/
def State.compare (s : State) (e : Estimate) (fast : Bool) : State :=
  let ch := e.ch
  let x := s.est ch
  let since := if e.freqBad then none else match x.freqSince with | some t => some t | none => some e.tag
  let settled := match since with | some t => decide (t + 1000000000 ≤ e.tag) | none => false
  let s := s.modEst ch (fun x => { x with freqSince := since })
  let s := if e.invalid then s else s.converge 1 ch
  let s := if e.freqBad then s else s.deliveredFn 2 ch
  let s := if settled then s.converge 2 ch else s
  let s := if e.invalid then s else s.deliveredFn 3 ch
  let twice := !e.invalid && (match x.prev with | some p => !p.invalid | none => false)
  let s := if twice then s.converge 3 ch else s
  let set := chanThreshSet (s.rec_ .chan ch)
  let r := s.rec_ .thresh set
  let on (k : Nat) : Bool := bitAt (threshEnable r) (6 - k)
  let s := if set = 0xFF then s
    else
      let s := forAll ((List.range 5).filter on) s (fun s k => s.runLevel ch set e (k == 4 && !settled) fast k)
      match x.prev with
      | none => s
      | some p =>
        let s := match (if on 5 then stepMag p e else none) with
          | some v => if fLe (BitVec.ofNat 32 (threshStepMag r)) v then s.threshEvent ch set e.tag 5 true false fast v else s
          | none => s
        match (if on 6 then stepAng s.fNom p e else none) with
        | some v => if fLe (BitVec.ofNat 32 (threshStepAng r)) v then s.threshEvent ch set e.tag 6 true false fast v else s
        | none => s
  s.modEst ch (fun x => { x with prev := some e })

/-- Release an estimate (R216, R220): counted when invalid, and put before the slice of its row where it enters one. -/
def State.releaseEst (s : State) (e : Estimate) (toRow comparators fast : Bool) : State :=
  let s := if e.invalid then s.bump (ck1 .estInvalid e.ch) else s
  let s := if toRow then
      (s.modSlice (s.chanRegion e.ch) (fun x => { x with queue := x.queue ++ [.est e] })).modEst e.ch (fun x => { x with latest := some e })
    else s
  if comparators then s.compare e fast else if e.invalid then s else s.converge 1 e.ch

/-- ESTIMATE_RELEASE (R214, R216): the next linear-phase estimate of an entry of SOURCE 6. -/
def State.estimateRelease (s : State) (ch : Nat) : State :=
  let r := s.rec_ .chan ch
  let cls := chanEstClass r
  if !s.works || chanValid r == 0 || chanSource r != 6 || cls == 0 || cls == 3 then s
  else
    let rate := rateOf (chanOutRate r)
    let w := s.spans cls (chanOutRate r)
    let t := match (s.est ch).next with | some t => t | none => gridPoint rate (gridIndex rate (s.dt - w.2.2))
    if s.dt < t + w.2.2 ∨ rate = 0 ∨ s.windowIn (s.chainKey (chanSrcRef r)) (t + w.2.2) = false then s
    else
      let e := s.formEst ch t false w w
      (s.modEst ch (fun x => { x with next := some (gridPoint rate (gridIndex rate t + 1)) })).releaseEst e true (chanFastMinphase r == 0) false

/-- ESTIMATE_RELEASE. -/
def execEstimateRelease (ch : Fin 65536) (s : State) : Host.Outcome State Fault Refusal := .next (s.estimateRelease ch.val)

/-- FAST_ESTIMATE (R221, R222): the next minimum-phase estimate; it enters a row for an entry with EST_CLASS 0b00 at a tag
of OUT_RATE. -/
def State.fastEstimate (s : State) (ch : Nat) : State :=
  let r := s.rec_ .chan ch
  if !s.works || chanValid r == 0 || chanSource r != 6 || chanFastMinphase r == 0 then s
  else
    let f := s.fastSpans
    let t := match (s.est ch).nextFast with | some t => t | none => gridPoint 1200 (gridIndex 1200 (s.dt - f.2))
    if s.dt < t + f.2 ∨ s.windowIn (s.chainKey (chanSrcRef r)) (t + f.2) = false then s
    else
      let e := s.formEst ch t true (f.1, f.1, f.1) (f.2, f.2, f.2)
      (s.modEst ch (fun x => { x with nextFast := some (gridPoint 1200 (gridIndex 1200 t + 1)) })).releaseEst e
        (chanEstClass r == 0 && onGrid (rateOf (chanOutRate r)) t) true true

/-- FAST_ESTIMATE. -/
def execFastEstimate (ch : Fin 65536) (s : State) : Host.Outcome State Fault Refusal := .next (s.fastEstimate ch.val)

/-- A DT step restarts every channel at the first sample that follows it, and every estimator goes on from the stepped time
(R219). -/
def State.stepSwage (s : State) : State :=
  { s with swage := { s.swage with
      lanes := s.swage.lanes.map (fun (x : LaneSt) => { x with stepFrom := some (match x.edges.getLast? with | some e => e.1 + 1 | none => 0) })
      chains := s.swage.chains.map (fun e => (e.1, { e.2 with waiting := true, samples := [], held := [], restart := none, breaks := [], next := none }))
      ests := s.swage.ests.map (fun e => (e.1, { e.2 with next := none, nextFast := none })) } }

/-! Replay (R226-R228). -/

/-- A stored value of a phasor channel at a tag, from history: magnitude, angle, valid, and marked TEST. -/
def State.histValue (s : State) (c : Nat) (t : Ns) : Option (Word × Word × Bool × Bool) :=
  (s.slice (s.chanRegion c)).hist.findSome? (fun h => match h.2 with
    | .entry e _ =>
      if e.val.tag = t ∧ s.holds c e.val = true then
        (match e.val with
          | .est v => some (v.mag, v.ang, !v.invalid, v.test)
          | .frame d => let x := s.frameValue c d; some (x.1.1, x.1.2, !x.2 && !d.unsync, d.test))
      else none
    | .commit _ => none)

/-- One outward sample at history instant h (R227): its code, whether it was clipped and whether history was missing. -/
def State.outSample (s : State) (c : Nat) (full : Word) (h : Ns) (width : Nat) : Int × Bool × Bool :=
  let rate := s.chanRate c
  let k := gridIndex rate h
  match s.histValue c (gridPoint rate k), s.histValue c (gridPoint rate (k + 1)) with
  | some (m0, a0, true, _), some (m1, a1, true, _) =>
    let top : Int := ((2 ^ ((if width = 1 then 24 else 16) - 1) - 1 : Nat) : Int)
    let t0 := gridPoint rate k
    let v := if [m0, a0, m1, a1, full].any (fun w => isNan w || isInf w) || isZero full then Config.replaySample h [m0, a0, m1, a1, full]
      else replayCode s.fNom h m0 a0 m1 a1 full (h - t0) (gridPoint rate (k + 1) - t0) top.toNat
    if v < -top then (-top, true, false) else if top < v then (top, true, false) else (v, false, false)
  | _, _ => (0, false, true)

/-- The bytes of an outward lane frame (R197): the header of Table WAV-5, the samples and the CRC-8. -/
def outBytes (seq width : Nat) (codes : List Int) : Bytes :=
  let n := sampleBytes width
  let body := natBe 3 (seq * 2 ^ 8 + codes.length * 2 ^ 4 + width * 2 ^ 3) ++ codes.flatMap (fun c => natBe n (wrap (8 * n) c))
  natBe 2 0xF0A5 ++ body ++ [crc8 body]

/-- The first WV_CLK edge at or after now, by LTS. -/
def State.nextWvEdge (s : State) : Ns :=
  match s.swage.clk0 with | some c => c + (s.lts - c + 19) / 20 * 20 | none => s.lts

/-- The level of WV_OUT0 or WV_OUT1 (R197, R226): the bit of a frame in transmission, most significant first, else the idle 1. -/
def State.waveLevel (s : State) (lane : Nat) : Bool :=
  match s.swage.out.find? (fun o => o.lane == lane) with
  | some o =>
    let i := (s.lts - o.start) / 20
    if s.lts < o.start ∨ 8 * o.bytes.length ≤ i then true else (o.bytes.getD (i / 8) 0).getLsbD (7 - i % 8)
  | none => true

/-- REPLAY_FRAME_OUT (R228): at the play instant of a lane's next frame plus REPLAY_OFFSET the frame is sent, or an
underrun is counted; SEQ advances either way. -/
def State.replayFrame (s : State) (lane : Nat) : State :=
  let r := s.rec_ .frontEnd 0
  match s.swage.replay with
  | none => s
  | some p =>
    let rate := if frontEndReplayFast r = 1 then 38400 else 9600
    let n := if lane = 0 then p.n0 else p.n1
    let tau := n * 1000000000 / rate
    let start : Int := ((p.p0 + tau : Nat) : Int) + signed 32 (frontEndReplayOffset r)
    if s.boot.mode != .replay || !bitAt p.mask lane || decide ((s.dt : Int) < start) || decide (p.lengthMs * 1000000 ≤ tau) then s
    else
      let s := { s with swage := { s.swage with replay := some (if lane = 0 then { p with n0 := n + 1 } else { p with n1 := n + 1 }) } }
      let s := s.draw
      if Config.replayEmpty s.free then s.bump (ck1 .underruns lane)
      else
        let xs := (if lane = 0 then p.lane0 else p.lane1).map (fun e => s.outSample e.1 e.2 (p.h0 + tau) (frontEndReplayWidth r))
        let s := s.bumpBy (ck1 .clips lane) (xs.filter (fun x => x.2.1)).length
        let s := s.bumpBy (ck1 .missingHistory lane) (xs.filter (fun x => x.2.2)).length
        let codes := xs.map (fun x => x.1)
        { s with swage := { s.swage with out := { lane := lane, seq := n % 65536, codes := codes, start := s.nextWvEdge
                                                  bytes := outBytes (n % 65536) (frontEndReplayWidth r) codes } ::
                                                  s.swage.out.filter (fun o => o.lane != lane) } }

/-- REPLAY_FRAME_OUT. -/
def execReplayFrameOut (lane : Fin 2) (s : State) : Host.Outcome State Fault Refusal := .next (s.replayFrame lane.val)

end Sys2Proof.Machine
end

