-- ==== Sys2Proof/Machine/Osc.lean ====
section
/-! DEFINITION. Oscillation detection and source location (chapter 09): the updates of the spectral bank and of the modal
estimator, alarms, and location runs, with the meanings of the commands of that family. -/

namespace Sys2Proof.Machine

/-- The mean of float32 words, formed exactly and rounded once (DESIGN CHOICE, log entry 26); the quiet NaN of none, or where one
is no finite number. -/
def fMean (l : List Word) : Word :=
  if l.isEmpty || l.any (fun w => isNan w || isInf w) then qnan
  else
    let x := l.foldl (fun (a : Int × Nat) w => let y := fracOf w; (a.1 * y.2 + y.1 * a.2, a.2 * y.2)) (0, 1)
    roundFrac x.1 (x.2 * l.length)

/-! Bands (R230). -/

/-- Window in s, and filter delay in ns, of a band (Table OSC-1). -/
def bandWindow (b : Nat) : Nat := match b with | 0 => 600 | 1 => 120 | 2 => 40 | _ => 20
/-- Filter delay. -/
def bandDelay (b : Nat) : Nat := match b with | 0 => 5000000000 | 1 => 1000000000 | 2 => 250000000 | _ => 20000000

/-- Band rate of a band fed at a set rate (Table OSC-1). -/
def bandRate (b setRate : Nat) : Nat :=
  if b = 3 then 200
  else setRate / max 1 (setRate / (match b with | 0 => 1 | 1 => 5 | _ => 20))

/-- A frequency lies in a band (Table OSC-1). -/
def inBand (b : Nat) (f : Int) : Bool :=
  match b with
  | 0 => decide (fxOne ≤ 100 * f) && decide (10 * f ≤ fxOne)
  | 1 => decide (fxOne < 10 * f) && decide (f ≤ fxOne)
  | 2 => decide (fxOne < f) && decide (f ≤ 4 * fxOne)
  | _ => decide (4 * fxOne < f) && decide (f ≤ 46 * fxOne)

/-! Input samples (R233, R235, R238). -/

/-- The member of a channel in a set, where its value is an input sample. -/
def inputOf (gs : GroupSet) (c : Nat) : Option Member := gs.members.find? (fun m => m.ch == c && inputSample m)

/-- The frequency that a member carries: of a SOURCE 6 estimate its third value. -/
def State.memberHz (s : State) (m : Member) : Int := fxOfWord (if chanSource (s.rec_ .chan m.ch) = 6 then m.v2 else m.v0)

/-- The value of a signal in a set of its feed group (R233): active power is Re(V × conj(I)), reactive power Im(V × conj(I)), three
times that with TRIPLE. -/
def State.signalValue (s : State) (n : Nat) (gs : GroupSet) : Option Int :=
  let r := s.rec_ .signal n
  match signalQuantity r with
  | 0 => (inputOf gs (signalCh r)).map (fun m => fxOfWord m.v0)
  | 1 => (match inputOf gs (signalCh r), inputOf gs (signalRefCh r) with
    | some a, some b => some (fxWrap (fxOfWord a.v1 - fxOfWord b.v1))
    | _, _ => none)
  | 2 => (inputOf gs (signalCh r)).map s.memberHz
  | q =>
    let b := s.rec_ .branch (signalBranch r)
    (match inputOf gs (branchVCh b), inputOf gs (branchICh b) with
      | some v, some i =>
        let th := fxOfWord v.v1 - fxOfWord i.v1
        let p := fxMul (fxMul (fxOfWord v.v0) (fxOfWord i.v0)) (if q = 3 then Config.cosFx th else sinFx th)
        some (if signalTriple r = 1 then 3 * p else p)
      | _, _ => none)

/-- The used members of a group estimator (R237). -/
def State.usedMembers (s : State) (g : Nat) : List Nat :=
  let q := groupEstQuantity (s.rec_ .groupEst g)
  (s.groupMembers g).filter (fun c =>
    let x := chanSource (s.rec_ .chan c)
    if q = 2 then x == 3 || x == 6 else x == 0 || x == 6)

/-- A member's value for a group estimator: less the reference's angle in QUANTITY 1. -/
def State.memberValue (s : State) (g c : Nat) (gs : GroupSet) : Option Int :=
  let r := s.rec_ .groupEst g
  match inputOf gs c with
  | none => none
  | some m =>
    match groupEstQuantity r with
    | 0 => some (fxOfWord m.v0)
    | 1 => (inputOf gs (groupEstRefCh r)).map (fun b => fxWrap (fxOfWord m.v1 - fxOfWord b.v1))
    | _ => some (s.memberHz m)

/-- A key's input in a set: its values, those of missing members left out; none where it is a missing sample (R235, R238). -/
def State.keySample (s : State) (k : Nat) (gs : GroupSet) : Option (List (Option Int)) :=
  if 0x8000 ≤ k then
    let g := (k - 0x8000) / 16
    let vs := (s.usedMembers g).map (fun c => s.memberValue g c gs)
    if groupEstGMin (s.rec_ .groupEst g) ≤ (vs.filter Option.isSome).length then some vs else none
  else (s.signalValue (k / 4) gs).map (fun v => [some v])

/-- A key's values are angles, which are unwrapped along its history (R233). -/
def State.keyAngle (s : State) (k : Nat) : Bool :=
  if 0x8000 ≤ k then groupEstQuantity (s.rec_ .groupEst ((k - 0x8000) / 16)) == 1 else signalQuantity (s.rec_ .signal (k / 4)) == 1

/-- A baseband sample of band 3 exists: the Swage grid marks nothing invalid in its filter span (R235), and no sample there
carries TEST (R119). -/
def State.basebandOk (s : State) (k : Nat) (t : Ns) : Bool :=
  let c := s.chainKey (signalCh (s.rec_ .signal (k / 4)))
  let lo := t - 20625000
  let hi := t + 20625000
  let x := s.chain c
  x.restart.isSome && s.covers c hi && !(x.breaks.any (fun b => decide (lo < b.2) && decide (b.1 < hi))) &&
  !(x.samples.any (fun y => y.test && decide (lo ≤ y.at_) && decide (y.at_ ≤ hi)))

/-- A baseband sample (R230): the grid demodulated at f0 and low-pass filtered over 20 ms about its centre, in the channel's units;
a component at f0 + fm appears at +fm, one at f0 − fm at −fm. -/
def State.baseband (s : State) (k : Nat) (t : Ns) : List (Option Int) :=
  let wc := signalCh (s.rec_ .signal (k / 4))
  let c := s.chainKey wc
  let taps := ((s.chain c).samples.filter (fun x => decide (t ≤ x.at_ + 21000000) && decide (x.at_ ≤ t + 21000000))).map
    (fun x => ((x.at_ : Int), x.value))
  let m := gridIndex 9600 t
  let scale := fxOfWord (BitVec.ofNat 32 (chanScale (s.rec_ .chan wc)))
  let part (turn : Nat → Int) : Int := fxSum ((List.range 385).map (fun j =>
    let g := m + j - 192
    fxMul (Config.basebandFilter ((j : Int) - 192).natAbs) (fxMul (gridSample (s.chainRate c) taps g / 625000) (turn g))))
  [some (fxMul scale (part (fun g => cosTurn (g * s.fNom) 9600))), some (fxMul scale (-(part (fun g => sinTurn (g * s.fNom) 9600))))]

/-- An input of an update: its tag, and its values unless it is missing. -/
abbrev BandIn := Ns × Option (List (Option Int))

/-- The inputs of an update (R240): tags in order, each with its sample, from the newest taken to the newest that has
closed before the update instant. -/
def State.bandInputs (s : State) (k : Nat) (u : Ns) : List BandIn :=
  let st := s.bandSt k
  match s.keyGroup k with
  | none =>
    let last := u - (20625000 + s.svWait)
    let n0 := gridIndex 200 (max st.upTo (last - 35000000000)) + 1
    (List.range (gridIndex 200 last + 1 - n0)).map (fun i =>
      let t := gridPoint 200 (n0 + i)
      (t, if s.basebandOk k t then some (s.baseband k t) else none))
  | some g =>
    let rate := rateOf (groupSetRate (s.rec_ .group g))
    let sets := (agetD s.osc.rings g []).filter (fun x => decide (x.closed < u) && decide (st.upTo < x.tag))
    match sets with
    | [] => []
    | x :: _ =>
      let low := sets.foldl (fun m y => min m y.tag) x.tag
      let top := sets.foldl (fun m y => max m y.tag) x.tag
      let n0 := if st.first.isSome then gridIndex rate st.upTo + 1 else gridIndex rate low
      (List.range (gridIndex rate top + 1 - n0)).map (fun i =>
        let t := gridPoint rate (n0 + i)
        (t, (sets.find? (fun y => y.tag == t)).bind (fun y => s.keySample k y)))

/-- What the inputs of an update leave: the band's state, samples filled, members filled and restarts (Table OSC-7). -/
structure BandRun where
  st : BandSt
  filled : Nat
  members : Nat
  restarts : Nat
  deriving DecidableEq, Repr

/-- The values of an input: a missing member has the estimator's one-step prediction (R238), and an angle goes on from the one
before without a jump (R233). -/
def inputVals (angle : Bool) (inputs : List BandVal) (vs : List (Option Int)) : List Int :=
  vs.zipIdx.map (fun e => match e.1 with
    | none => Config.prediction (inputs.map (fun x => x.2)) e.2
    | some v => (match inputs.getLast? with
      | some l => if angle then unwrap (l.2.getD e.2 0) v else v
      | none => v))

/-- One input of a band (Table OSC-7). -/
def bandStep (rate gapMax : Nat) (angle : Bool) (a : BandRun) (x : BandIn) : BandRun :=
  let st := { a.st with upTo := x.1 }
  match x.2 with
  | some vs =>
    let b : BandVal := (x.1, inputVals angle a.st.inputs vs)
    let fills := match a.st.inputs.getLast? with | some l => gapFills rate l b a.st.gap | none => []
    { a with st := { st with gap := 0, first := match a.st.first with | some f => some f | none => some x.1
                             inputs := a.st.inputs ++ fills ++ [b] }
             filled := a.filled + fills.length
             members := a.members + (vs.filter Option.isNone).length }
  | none =>
    match a.st.first with
    | none => { a with st := st }
    | some _ =>
      if gapMax < a.st.gap + 1 then { a with st := { st with first := none, gap := 0, inputs := [] }, restarts := a.restarts + 1 }
      else { a with st := { st with gap := a.st.gap + 1 } }

/-- The filter delay by which a band's inputs reach beyond its samples: none in band 3, whose inputs are its samples (R230). -/
def inputDelay (b : Nat) : Nat := if b = 3 then 0 else bandDelay b

/-- The inputs that a band's window still needs. -/
def BandSt.pruned (st : BandSt) (b : Nat) : BandSt :=
  { st with inputs := st.inputs.filter (fun x => decide (st.upTo < x.1 + (bandWindow b + 1) * 1000000000 + 2 * bandDelay b)) }

/-- Band samples processed since the restart, and the tag of the newest used (R230, R241, R242). -/
def bandSamples (b rate : Nat) (st : BandSt) : Nat × Ns :=
  let d := inputDelay b
  match st.first, st.inputs.getLast? with
  | some f, some l =>
    let top := gridIndex rate (l.1 - d)
    let g := gridIndex rate (f + d)
    let low := if gridPoint rate g = f + d then g else g + 1
    (top + 1 - low, gridPoint rate top)
  | _, _ => (0, gridPoint rate (gridIndex rate (st.upTo - d)))

/-! Alarms (R246-R248). -/

/-- The conditions of R246 for one update of a mode, by KIND: met, and failed by margin. -/
def kindConds (p : Nat) (z amp : Word) (df : Option Word) (k : Nat) : Bool × Bool :=
  let w (hi lo : Nat) : Word := BitVec.ofNat 32 (fld p hi lo)
  let za := w 255 224
  let zf := w 223 192
  let zh := w 191 160
  let fs := w 95 64
  let moved := match df with | some d => fLt fs d | none => false
  let still := match df with | some d => fLe d fs | none => false
  match k with
  | 0 => ((fLt zf z && fLt z za) || (fLe (fAbs z) zf && moved), fLe (fAdd za zh) z)
  | 1 => (fLe (fAbs z) zf && still,
      fLt (fAdd zf zh) (fAbs z) || (match df with | some d => fLt (fMul (fOfInt 2) fs) d | none => false))
  | 2 => (fLt z (fNeg zf), fLe (fAdd (fNeg zf) zh) z)
  | _ => (fLe (w 127 96) amp, fLt amp (fMul (fOfFrac 9 10) (w 127 96)))

/-- An enabled kind of a parameter set (Table OSC-9). -/
def kindOn (p k : Nat) : Bool := bitAt (paramKindEnable p) (3 - k)

/-- A kind's counts and state after one update: run, drop count, pickup, drop-out. -/
def kindStep (p : Nat) (r : ModeRec) (df : Option Word) (a : ModeAlarm) (k : Nat) : Nat × Nat × Bool × Bool :=
  let w (hi lo : Nat) : Word := BitVec.ofNat 32 (fld p hi lo)
  let run := a.runs.getD k 0
  let drop := a.drops.getD k 0
  let picked := a.picked.getLsbD k
  if r.invalid then (0, drop, false, false)
  else if r.unconverged || !kindOn p k then (0, 0, false, false)
  else
    let low := fLt r.amp (fMul (fOfFrac 9 10) (w 159 128)) || decide (r.conf < paramConfMin p - 16)
    let qual := fLe (w 159 128) r.amp && decide (paramConfMin p ≤ r.conf)
    let c := kindConds p r.damping r.amp df k
    let fails := low || (qual && c.2)
    let run' := if qual && c.1 then min (run + 1) 15 else 0
    let drop' := if picked && fails then drop + 1 else 0
    let up := !picked && qual && c.1 && decide (paramConfirm p ≤ run')
    let down := picked && fails && decide (paramDrop p ≤ drop')
    (run', if down then 0 else drop', up, down)

/-- Judge one update of a mode (R246-R248): the new alarm state, and the events: kind, edge and cause, drop-outs first. -/
def judge (p : Nat) (r : ModeRec) (a : ModeAlarm) : ModeAlarm × List (Nat × Bool × Nat) :=
  let df := match a.freq with | some f => some (fAbs (fSub r.freq f)) | none => none
  let steps := (List.range 4).map (kindStep p r df a)
  let up (k : Nat) : Bool := (steps.getD k (0, 0, false, false)).2.2.1
  let down (k : Nat) : Bool := (steps.getD k (0, 0, false, false)).2.2.2
  let ousted (k : Nat) : Bool := decide (k < 3) && a.picked.getLsbD k && !down k && (List.range 3).any (fun j => j != k && up j)
  let drops := (List.range 4).filter (fun k => down k || ousted k)
  let ups := (List.range 4).filter up
  let picked := (List.range 4).foldl (fun (m : BitVec 4) k =>
    if ups.contains k then m ||| (1#4 <<< k) else if drops.contains k then m &&& ~~~(1#4 <<< k) else m) a.picked
  ({ a with picked := picked
            runs := (List.range 4).map (fun k => if ousted k then 0 else (steps.getD k (0, 0, false, false)).1)
            drops := (List.range 4).map (fun k => if ousted k then 0 else (steps.getD k (0, 0, false, false)).2.1)
            freq := if r.invalid then a.freq else some r.freq },
   drops.map (fun k => (k, false, if down k then 0 else 4)) ++ ups.map (fun k => (k, true, 0)))

/-- Adopt the primary's alarm state of an index before its next update, when it differs for the same tag (R391). -/
def State.adoptOsc (s : State) (i : Nat) : State :=
  if s.pair.role != .standby || !s.pair.mirrorValid || !s.mapsMatch then s
  else match s.pair.mirror.find? (fun m => m.1 == 5 && m.2.1 == i), aget s.osc.latest i with
    | some (_, _, t, .oscAlarm _ picked runs f), some r =>
      let a := s.modeAlarm i
      if t = r.tag ∧ (a.picked ≠ picked ∨ a.runs ≠ runs ∨ a.freq ≠ (if f = 0 then none else some f)) then
        (s.setAlarm i { a with picked := picked, runs := runs, freq := if f = 0 then none else some f }).bump (ck1 .resyncs 5)
      else s
    | _, _ => s

/-- An event of an update: index, kind, edge, cause, value. -/
abbrev ModeEvent := Nat × Nat × Bool × Nat × Word

/-- The alarm state of one mode after an update's record, and its events (R247, R248). `forced` is the cause of a restart (1) or
reassignment (2): every picked-up kind drops with it and the counts start from zero; after a restart nothing picks up. -/
def State.judgeMode (s : State) (r : ModeRec) (forced : Option Nat) : ModeAlarm × List ModeEvent :=
  let a := s.modeAlarm r.index
  let p := s.paramOf (oscBandOf r.index) (s.oscParam r.index)
  let held := (List.range 4).filter (fun k => a.picked.getLsbD k)
  let clean := { a with picked := 0, runs := List.replicate 4 0, drops := List.replicate 4 0, freq := none }
  let event (k : Nat) (edge : Bool) (c : Nat) : ModeEvent := (r.index, k, edge, c, kindValue r k)
  match forced with
  | some c =>
    let j := if c = 1 then (clean, []) else judge p r clean
    (j.1, held.map (fun k => event k false c) ++ j.2.map (fun e => event e.1 e.2.1 e.2.2))
  | none => let j := judge p r a; (j.1, j.2.map (fun e => event e.1 e.2.1 e.2.2))

/-- Release the record of one mode with its new alarm state (R242), and count its convergence. -/
def State.putMode (s : State) (r : ModeRec) (a : ModeAlarm) : State :=
  let i := r.index
  let b := oscBandOf i
  let s := (s.setAlarm i a).releaseMode { r with picked := a.picked }
  let s := if r.invalid then s else s.deliveredFn (7 + b) (oscKey i)
  if r.invalid || r.unconverged then s else s.converge (7 + b) (oscKey i)

/-- A pickup of POORLY_DAMPED, FORCED or GROWING triggers the location set of its parameter set (R251). -/
def State.locateMode (s : State) (r : ModeRec) (es : List ModeEvent) : State :=
  let b := oscBandOf r.index
  let l := paramLocate (s.paramOf b (s.oscParam r.index))
  if es.any (fun e => e.1 == r.index && e.2.2.1 && decide (e.2.1 < 3)) && decide (l < 16) && decide (b < 3) &&
      bitAt (locSetBands (s.rec_ .locSet l)) b then s.trigLoc l r.index r.freq r.tag else s

/-- Release the records of one update (R242, R247, R248): its drop-outs are raised before its pickups, those of one edge in KIND
order; then location sets are triggered and the alarm states mirrored. -/
def State.oscRelease (s : State) (rs : List (ModeRec × Option Nat)) : State :=
  let js := rs.map (fun e => (e.1, s.judgeMode e.1 e.2))
  let s := forAll js s (fun s e => s.putMode e.1 e.2.1)
  let all := js.flatMap (fun e => e.2.2.map (fun v => (e.1.tag, v)))
  let pick (edge : Bool) (k : Nat) : List (Ns × ModeEvent) := all.filter (fun e => e.2.2.2.1 == edge && e.2.2.1 == k)
  let order := (List.range 4).flatMap (pick false) ++ (List.range 4).flatMap (pick true)
  let s := forAll order s (fun s e => s.oscEvent e.2.1 e.2.2.1 e.2.2.2.1 e.2.2.2.2.1 e.1 e.2.2.2.2.2)
  let s := forAll js s (fun s e => s.locateMode e.1 e.2.2)
  forAll js s (fun s e => s.mirror (.delta e.1.tag 0 1 (s.oscDelta e.1.index)))

/-! Slots of the modal estimator (R239). -/

/-- A pole as a mode (R237): frequency, damping, amplitude, peak member, and the fraction a of its confidence. -/
structure Pole where
  freq : Int
  damping : Int
  amp : Int
  peak : Nat
  part : Int
  deriving DecidableEq, Repr

/-- Insert by falling amplitude. -/
def insertPole (p : Pole) : List Pole → List Pole
  | [] => [p]
  | q :: qs => if q.amp < p.amp then p :: q :: qs else q :: insertPole p qs

/-- The poles of an update in order of falling amplitude (R237): those of the model with f inside the band, each with the largest
member amplitude and its member. -/
def State.poles (s : State) (k rate : Nat) (xs : List (List Int)) : List Pole :=
  let us := s.usedMembers ((k - 0x8000) / 16)
  let b := oscBandOf k
  let zs := Config.arPoles (oscBandModelOrder (s.rec_ .oscBand b)) (bandWindow b * rate) xs
  let near := xs.drop (xs.length - bandWindow b * rate / 4)
  zs.foldl (fun ps z =>
    let m := poleMode rate z
    let amps : List Int := (List.range us.length).map (fun i => ((Config.modalPeak z near i).natAbs : Nat))
    let amp := amps.foldl max 0
    let at_ := (amps.findIdx? (fun a => a == amp)).getD 0
    if decide (0 < m.1) && inBand b m.1 then
      insertPole { freq := m.1, damping := m.2, amp := amp, peak := us.getD at_ 0xFFFF, part := Config.explained z near } ps
    else ps) []

/-- The nearest slot of a previous frequency within MATCH_TOL that is still free. -/
def matchSlot (tol : Nat) (f : Word) : List (Nat × Word × Word) → Option Nat → Option Word → Option Nat
  | [], best, _ => best
  | (i, g, _) :: rest, best, dist =>
    let d := fAbs (fSub f g)
    if fLe d (fMul (fOfFrac tol 1000) g) && (match dist with | some x => fLt d x | none => true) then
      matchSlot tol f rest (some i) (some d)
    else matchSlot tol f rest best dist

/-- The slot of lowest previous amplitude. -/
def lowestSlot : List (Nat × Word × Word) → Option (Nat × Word)
  | [] => none
  | (i, _, a) :: rest => match lowestSlot rest with
    | none => some (i, a)
    | some (j, b) => some (if fLe a b then (i, a) else (j, b))

/-- Assign the poles to slots (R239): what each slot takes, and whether as the same mode. -/
def assignPoles (tol modes : Nat) (prev : List (Option (Word × Word))) : List Pole → List (Nat × Pole × Bool) → List (Nat × Pole × Bool)
  | [], acc => acc
  | p :: ps, acc =>
    let free := (List.range modes).filter (fun i => !acc.any (fun a => a.1 == i))
    let old := free.filterMap (fun i => match prev.getD i none with | some (f, a) => some (i, f, a) | none => none)
    let acc := match matchSlot tol (fxWord p.freq) old none none with
      | some i => acc ++ [(i, p, true)]
      | none =>
        match free.find? (fun i => (prev.getD i none).isNone) with
        | some i => acc ++ [(i, p, false)]
        | none =>
          match lowestSlot old with
          | some (i, a) => if fLt a (fxWord p.amp) then acc ++ [(i, p, false)] else acc
          | none => acc
    assignPoles tol modes prev ps acc

/-- The record that a slot releases with the pole it has taken, or empty, and the cause that drops its alarms: REASSIGNED where it
held another mode (R239). -/
def State.slotRec (s : State) (i : Nat) (tag : Ns) (conv : Bool) (x : Option (Nat × Pole × Bool)) : ModeRec × Option Nat :=
  let had := (s.modeAlarm i).occ
  let same := match x with | some a => a.2.2 | none => false
  let forced := if had.isSome && !same then some 2 else none
  match x with
  | some (_, p, _) =>
    let before := if same then had.map (fun o => fxOfWord o.1) else none
    ({ index := i, unconverged := !conv, invalid := false, replay := s.boot.mode == .replay, picked := 0, freq := fxWord p.freq
       damping := fxWord p.damping, amp := fxWord p.amp, conf := poleConf p.part p.freq before, peak := p.peak, tag := tag
       tsw := s.time.tsw }, forced)
  | none => (s.invalidMode i tag (!conv), forced)

/-- The slots of a group's band after an update; a restart of the band drops their alarms with cause RESTART. -/
def State.modalSlots (s : State) (k : Nat) (tag : Ns) (conv restarted : Bool) (ps : List Pole) : State :=
  let rec_ := s.rec_ .oscBand (oscBandOf k)
  let modes := oscBandModes rec_
  let prev := (List.range modes).map (fun i => (s.modeAlarm (k + i)).occ)
  let got := assignPoles (oscBandMatchTol rec_) modes prev ps []
  let rs := (List.range modes).map (fun i => s.slotRec (k + i) tag conv (got.find? (fun a => a.1 == i)))
  let moved := if restarted then 0 else (rs.filter (fun e => e.2.isSome)).length
  let s := s.bumpBy (ck2 .reassignments ((k - 0x8000) / 16) (oscBandOf k)) moved
  let s := forAll rs s (fun s e => s.setAlarm e.1.index { (s.modeAlarm e.1.index) with
    occ := if e.1.invalid then none else some (e.1.freq, e.1.amp) })
  s.oscRelease (rs.map (fun e => (e.1, if restarted then some 1 else e.2)))

/-- The record of the bank for one update (R236): invalid where there is no band sample, or no bin in the band. -/
def State.bankRec (s : State) (k rate : Nat) (tag : Ns) (conv : Bool) (xs : List (List Int)) : ModeRec :=
  let b := oscBandOf k
  match bankMode rate (bandWindow b) (inBand b) xs with
  | some (f, z, amp, conf) =>
    { s.invalidMode k tag (!conv) with invalid := false, picked := 0, freq := fxWord f, damping := fxWord z, amp := fxWord amp, conf := conf }
  | none => s.invalidMode k tag (!conv)

/-- One update of a key (R236-R242): its inputs are taken, its records released. -/
def State.oscUpdate (s : State) (k : Nat) (u : Ns) : State :=
  let b := oscBandOf k
  let s := forAll (s.keyIndices k) s (fun s i => s.adoptOsc i)
  let setRate := match s.keyGroup k with | some g => rateOf (groupSetRate (s.rec_ .group g)) | none => 200
  let rate := bandRate b setRate
  let run := (s.bandInputs k u).foldl (bandStep setRate (oscBandGapMax (s.rec_ .oscBand b)) (s.keyAngle k))
    { st := s.bandSt k, filled := 0, members := 0, restarts := 0 }
  let restarted := decide (run.restarts ≠ 0)
  let s := s.bumpBy (ck1 .oscFilled (oscUnit k)) run.filled
  let s := if 0x8000 ≤ k then s.bumpBy (ck1 .memberFills ((k - 0x8000) / 16)) run.members else s
  let s := if restarted then
      let s := s.bumpBy (ck1 .oscRestarts (oscUnit k)) run.restarts
      forAll (s.keyIndices k) s (fun s i => s.setAlarm i { (s.modeAlarm i) with freq := none, occ := none })
    else s
  let s := { s with osc := { s.osc with bands := aput s.osc.bands k { (run.st.pruned b) with done := some u } } }
  let n := bandSamples b rate run.st
  let conv := decide (bandWindow b * rate ≤ n.1)
  let xs := (bandSeries b rate setRate (bandDelay b) (bandWindow b * rate) run.st.inputs).map (fun x => x.2)
  if 0x8000 ≤ k then s.modalSlots k n.2 conv restarted (if n.1 = 0 then [] else s.poles k rate xs)
  else s.oscRelease [(if n.1 = 0 then s.invalidMode k n.2 true else s.bankRec k rate n.2 conv xs, if restarted then some 1 else none)]

/-- The key of a band update's target, where the image configures it. -/
def State.targetKey (s : State) (t : OscTarget) (band : Nat) : Option Nat :=
  let k := match t with | .bank n => 4 * n + band | .modal g => 0x8000 + 16 * g + 4 * band
  s.oscKeys.find? (fun x => x == k)

/-- BAND_UPDATE (R240): a running item of the bank's or the modal kernel carries out the update of a target that has not
taken the band's latest update instant yet; none runs while OSC is shed. -/
def execBandUpdate (t : OscTarget) (band : Fin 4) (s : State) : Host.Outcome State Fault Refusal :=
  .next (
    let kernel := match t with | .bank _ => kBank | .modal _ => kModal
    match s.targetKey t band.val, s.updateInstant band.val with
    | some k, some u =>
      let cell := (List.range 64).find? (fun c => match (s.cell c).run with | some it => s.kernelOf it == kernel | none => false)
      (match cell with
      | some c => if !s.works || s.shed (s.oscRegion k) 6 || (s.bandSt k).done == some u then s else (s.oscUpdate k u).setWorked c
      | none => s)
    | _, _ => s)

/-! Source location (R250-R253). -/

/-- LOCATION_RUN_START (R251): at the beat boundary after a trigger or after the end of the run before. -/
def execLocationRunStart (set : Fin 16) (s : State) : Host.Outcome State Fault Refusal :=
  .next (
    let x := s.locSt set.val
    match x.pending with
    | some p =>
      if s.works && x.running.isNone && decide (x.pendAt < s.sch.beats) && locSetValid (s.rec_ .locSet set.val) == 1 then
        ({ s with osc := { s.osc with locs := aput s.osc.locs set.val { running := some p, startedAt := s.sch.beats, pending := none, pendAt := 0, spoilt := false } } }).bump
          (ck1 .locRuns set.val)
      else s
    | none => s)

/-- The listed branches of a location set. -/
def State.locBranches (s : State) (l : Nat) : List Nat :=
  (List.range (locSetBrCount (s.rec_ .locSet l))).map (fun i => s.rec_ .locBranch (1024 * l + i))

/-- Part of a window has been overwritten in a region's part of the ring (R252). -/
def State.overwritten (s : State) (r : Nat) (lo : Ns) : Bool :=
  match (s.slice r).hist with
  | (off, h) :: _ => off != 0 && decide (lo < match h with | .entry e _ => e.val.tag | .commit f => f.row.tag)
  | [] => false

/-- The DEF rate of a branch over a window that ends at a tag; none when the branch is left out: fewer than 90% of its samples
present and valid in both channels, or part of the window overwritten (R252). A value marked TEST counts as invalid (R119). -/
def State.branchRate (s : State) (br : Nat) (f : Word) (tag : Ns) (window : Nat) : Option Int :=
  let b := s.rec_ .branch br
  let v := branchVCh b
  let i := branchICh b
  let rate := s.chanRate v
  let lo := tag - window * 1000000000
  let n := window * rate
  let top := gridIndex rate tag
  let xs : List (Option (Int × Int × Int × Int)) := (List.range n).map (fun j =>
    let t := gridPoint rate (top + j + 1 - n)
    match s.histValue v t, s.histValue i t with
    | some (vm, va, true, false), some (im, ia, true, false) => some (fxOfWord vm, fxOfWord va, fxOfWord im, fxOfWord ia)
    | _, _ => none)
  if (xs.filter Option.isSome).length * 10 < n * 9 ∨ s.overwritten (s.chanRegion v) lo = true ∨ s.overwritten (s.chanRegion i) lo = true then none
  else some (defRate rate (fxOfWord f) xs)

/-- The keys whose estimators read a phasor channel in a band: signals of it or of a branch with it, and group estimators. -/
def State.phasorKeys (s : State) (b c : Nat) : List Nat :=
  s.oscKeys.filter (fun k => oscBandOf k == b && (
    if 0x8000 ≤ k then (s.usedMembers ((k - 0x8000) / 16)).contains c
    else
      let r := s.rec_ .signal (k / 4)
      let br := s.rec_ .branch (signalBranch r)
      if signalQuantity r = 3 ∨ signalQuantity r = 4 then branchVCh br == c || branchICh br == c
      else signalCh r == c || (signalQuantity r == 1 && signalRefCh r == c)))

/-- The band of a key has converged: its latest records say so. -/
def State.keyConverged (s : State) (k : Nat) : Bool :=
  match aget s.osc.latest k with | some r => !r.unconverged | none => false

/-- The band of a mode frequency (Table OSC-1); band 0 where it lies in none. -/
def bandOfFreq (f : Word) : Nat := ((List.range 4).find? (fun b => inBand b (fxOfWord f))).getD 0

/-- The gate of forced-oscillation location (R51, Table MOD-5) on a branch: its band has converged for both phasors. A phasor that
no estimator reads in the band holds no gate (DESIGN CHOICE, log entry 69). -/
def State.branchReady (s : State) (b br : Nat) : Bool :=
  let r := s.rec_ .branch br
  [branchVCh r, branchICh r].all (fun c => let ks := s.phasorKeys b c; ks.isEmpty || ks.any s.keyConverged)

/-- Insert a bus by falling outflow, the lower number first among equals. -/
def insertOut (x : Nat × Int) : List (Nat × Int) → List (Nat × Int)
  | [] => [x]
  | y :: ys => if y.2 < x.2 then x :: y :: ys else y :: insertOut x ys

/-- ⌊255 × outflow ÷ TOTAL_DEF⌋ (R253). -/
def defShare (x total : Int) : Nat := if total ≤ 0 then 0 else (255 * x / total).toNat

/-- LOCATION_RESULT (R252, R253): the run's result is released, logged, and raises a LOCATED event, which is gated while no listed
branch has its band converged (R51). A gated branch is not kept. -/
def State.locResult (s : State) (l : Nat) : State :=
  let st := s.locSt l
  match st.running with
  | none => s
  | some (index, f, tag) =>
    let window := locSetWindow (s.rec_ .locSet l)
    let brs := s.locBranches l
    let band := if index = 0xFFFF then bandOfFreq f else oscBandOf index
    let rates := brs.map (fun br => (br, s.branchRate br f tag window))
    let open_ (br : Nat) : Bool := s.branchReady band br
    let kept := rates.filterMap (fun e => match e.2 with | some w => if open_ e.1 then some (e.1, w) else none | none => none)
    let s := s.bumpBy (ck1 .locLeftOut l) (rates.filter (fun e => e.2.isNone)).length
    let ends (br : Nat) : Nat × Nat := (branchFromBus (s.rec_ .branch br), branchToBus (s.rec_ .branch br))
    let buses := (kept.flatMap (fun e => [(ends e.1).1, (ends e.1).2])).eraseDups.foldl (fun a b => insertBy id b a) []
    let outflow (b : Nat) : Int :=
      fxSum (kept.map (fun e => (if (ends e.1).1 = b then e.2 else 0) - (if (ends e.1).2 = b then e.2 else 0)))
    let ranked := (buses.filterMap (fun b => let w := outflow b; if 0 < w then some (b, w) else none)).foldl (fun a x => insertOut x a) []
    let sum := fxSum (ranked.map (fun x => x.2))
    let total := fxWord sum
    let none_ := kept.isEmpty || decide (sum = 0)
    let top := if none_ then [] else ranked.take 4
    let part := match top with
      | (b, _) :: _ => (s.valids .branch 127 16384).any (fun br =>
          ((ends br).1 == b || (ends br).2 == b) && !kept.any (fun e => e.1 == br))
      | [] => false
    let r : LocRec := { set := l, tag := tag, modeIndex := index, fMode := f
                        buses := (List.range 4).map (fun i => match top[i]? with | some x => x.1 | none => 0xFFFF)
                        shares := (List.range 4).map (fun i => match top[i]? with | some x => defShare x.2 sum | none => 0)
                        total := total, used := kept.length, partialFlag := part, noneFound := none_
                        replay := s.boot.mode == .replay, released := s.dt, tsw := s.time.tsw
                        rates := rates.map (fun e => match e.2 with | some w => fxWord w | none => qnan) }
    let s := { s with osc := { s.osc with locs := aput s.osc.locs l { st with running := none, pendAt := s.sch.beats, spoilt := false }
                                          locLatest := aput s.osc.locLatest l r } }
    let s := (s.oscLog (.loc r)).putAna
      { index := 0x9000 + l, tag := tag
        vals := r.buses.map (fun (b : Nat) => fOfInt (Int.ofNat b)) ++ r.shares.map (fun (x : Nat) => fOfInt (Int.ofNat x)) ++
          [total, fOfInt ((r.used * 32 + b2n part * 16 + b2n none_ * 8 + b2n r.replay * 4 : Nat) : Int)]
        invalid := st.spoilt
        test := r.replay }
    let s := if kept.isEmpty then s else s.converge 11 l
    if !brs.any open_ then s
    else s.raise
      { family := 1, tag := tag, index := 0x9000 + l, kind := 4, edge := true, cause := 0, grade := 0, topo := false, coh := false
        fast := false, replay := r.replay, value := f }

/-- LOCATION_RESULT. -/
def execLocationResult (set : Fin 16) (s : State) : Host.Outcome State Fault Refusal :=
  .next (if s.works then s.locResult set.val else s)

end Sys2Proof.Machine
end

