-- ==== Sys2Proof/Machine/Island.lean ====
section
/-! DEFINITION. Islanding and the fast-path detectors (chapter 10), with the meanings of ISLAND_EVALUATION and
DETECTOR_WORK, and what breaks islanding state. -/

namespace Sys2Proof.Machine

/-! Sets and values. -/

/-- Rate of the islanding grid. -/
def State.islRate (s : State) : Nat := rateOf (islHdrIslRate (s.rec_ .islHdr 0))

/-- Grid steps from one tag to a later one. -/
def State.islSteps (s : State) (a b : Ns) : Nat := gridIndex s.islRate b - gridIndex s.islRate a

/-- The reference buses in list order (Table ISL-1). -/
def State.refBuses (s : State) : List Nat :=
  ((List.range 8).map (fun i => let v := islHdrRefBuses (s.rec_ .islHdr 0); fld v (127 - 16 * i) (112 - 16 * i))).filter (fun b => b != 0xFFFF)

/-- The valid buses and branches of TOPOLOGY. -/
def State.buses (s : State) : List Nat := s.valids .bus 63 8192
/-- Valid branches. -/
def State.branches (s : State) : List Nat := s.valids .branch 127 16384

/-- The frequency that a member carries. -/
def State.memberFreq (s : State) (m : Member) : Word := if chanSource (s.rec_ .chan m.ch) = 6 then m.v2 else m.v0

/-- A channel's member at a tag, among sets. -/
def memberOf (sets : List GroupSet) (c : Nat) (t : Ns) : Option Member :=
  sets.findSome? (fun g => if g.tag = t then g.members.find? (fun m => m.ch == c) else none)

/-- Insert a set by tag, then by group. -/
def insertSet (g : GroupSet) : List GroupSet → List GroupSet
  | [] => [g]
  | x :: xs => if g.tag < x.tag ∨ (g.tag = x.tag ∧ g.group < x.group) then g :: x :: xs else x :: insertSet g xs

/-- Sets in tag order, ascending group within a tag (R260). -/
def sortSets (gs : List GroupSet) : List GroupSet := gs.foldl (fun a g => insertSet g a) []

/-! Components (R262). -/

/-- Every bus with the number of its component, the lowest bus in it; one more link joins two of them. -/
def joinBuses (labels : List (Nat × Nat)) (a b : Nat) : List (Nat × Nat) :=
  match aget labels a, aget labels b with
  | some x, some y => if x = y then labels else labels.map (fun e => if e.2 = max x y then (e.1, min x y) else e)
  | _, _ => labels

/-- The connected components of buses over links, each as its buses in ascending order. -/
def components (buses : List Nat) (links : List (Nat × Nat)) : List (List Nat) :=
  let labels := links.foldl (fun l e => joinBuses l e.1 e.2) (buses.map (fun b => (b, b)))
  (labels.filter (fun e => e.1 == e.2)).map (fun e => (labels.filter (fun x => x.2 == e.1)).map (fun x => x.1))

/-- The component that holds the most reference buses; among equals the one with the earlier-listed one (R262). -/
def mainOf (refs : List Nat) (cs : List (List Nat)) : Option (List Nat) :=
  let n (c : List Nat) : Nat := (refs.filter (fun r => c.contains r)).length
  let top := cs.foldl (fun m c => max m (n c)) 0
  if top = 0 then none
  else match refs.find? (fun r => cs.any (fun c => c.contains r && n c == top)) with
    | some r => cs.find? (fun c => c.contains r)
    | none => none

/-- The main cluster (R265): by reference buses, else the largest, else the one with the lowest-numbered bus. -/
def mainCluster (refs : List Nat) (cs : List (List Nat)) : Option (List Nat) :=
  match mainOf refs cs with
  | some c => some c
  | none => let top := cs.foldl (fun m c => max m c.length) 0; cs.find? (fun c => c.length == top)

/-! Branch states (R261). -/

/-- A branch's state: open, and the tag of the set that gave it; none where no valid status has been given. -/
def State.branchSt (s : State) (b : Nat) : Option (Bool × Ns) := aget s.isl.core.branches b

/-- A branch is OPEN; one never given a status counts as CLOSED. -/
def State.branchOpen (s : State) (b : Nat) : Bool := match s.branchSt b with | some x => x.1 | none => false

/-- Change the core. -/
def State.modCore (s : State) (f : IslCore → IslCore) : State := { s with isl := { s.isl with core := f s.isl.core } }

/-- One branch against one covered set (Table ISL-3). -/
def State.branchStep (s : State) (g : GroupSet) (b : Nat) : State :=
  let r := s.rec_ .branch b
  match g.members.find? (fun m => m.ch == branchStatusCh r) with
  | none => s
  | some m =>
    if !inputSample m then s.bump (ck1 .heldStatuses b)
    else
      let open_ := bitAt m.v0.toNat (branchStatusBit r) == (branchStatusInvert r == 1)
      let newer := match s.branchSt b with | some x => decide (x.2 < g.tag) | none => true
      if !newer then s.bump (ck .statusBehind)
      else
        let s' := if s.branchOpen b != open_ then s.bump (ck1 .statusChanges b) else s
        (s'.modCore (fun c => { c with branches := aput c.branches b (open_, g.tag) })).converge 5 g.group

/-- A branch is FRESH at an evaluation's tag (R261): every branch without a status channel counts so. -/
def State.fresh (s : State) (b : Nat) (tag : Ns) : Bool :=
  match s.branchSt b with
  | some x => decide (x.2 ≤ tag) && decide (s.islSteps x.2 tag ≤ 1)
  | none => false

/-! Coherency (R263, R264). -/

/-- A pair with nothing learnt. -/
def PairCoh.fresh : PairCoh := { base := [], last := none, coherent := false, converged := false, angleSince := none }

/-- A pair's state. -/
def State.pairCoh (s : State) (i : Nat) : PairCoh := agetD s.isl.core.pairs i PairCoh.fresh

/-- Set a pair's state. -/
def State.setCoh (s : State) (i : Nat) (p : PairCoh) : State := s.modCore (fun c => { c with pairs := aput c.pairs i p })

/-- The circular mean of angles (R264): the angle of the sum of their unit vectors. -/
def circMean : List Word → Word
  | [a] => a
  | l => if l.any isNan then qnan
    else fWrap (fxWord (argOf (l.foldl (fun v a => (v.1 + Config.cosFx (fxOfWord a), v.2 + sinFx (fxOfWord a))) (0, 0))))

/-- The four values of a pair at a tag when it is complete: f_a, θ_a, f_b, θ_b. -/
def State.pairValues (s : State) (sets : List GroupSet) (a b : Nat) (t : Ns) : Option (Word × Word × Word × Word) :=
  let at_ (c : Nat) : Option Member := match memberOf sets c t with | some m => if m.valid then some m else none | none => none
  match at_ (busFCh (s.rec_ .bus a)), at_ (busACh (s.rec_ .bus a)), at_ (busFCh (s.rec_ .bus b)), at_ (busACh (s.rec_ .bus b)) with
  | some fa, some ta, some fb, some tb => some (s.memberFreq fa, ta.v1, s.memberFreq fb, tb.v1)
  | _, _, _, _ => none

/-- A pair evaluated at a tag (R263, R264). A tag older than the newest evaluated one gives its sample, and leaves the pair's
state with the newest (DESIGN CHOICE, log entry 70). -/
def State.pairStep (s : State) (i : Nat) (t : Ns) (v : Word × Word × Word × Word) : State :=
  let h := s.rec_ .islHdr 0
  let p := s.pairCoh i
  let df := fAbs (fSub v.1 v.2.2.1)
  let d := fWrap (fSub v.2.1 v.2.2.2)
  let base := p.base.filter (fun x => decide (t < x.1 + 2000000000))
  let fOk := fLe df (BitVec.ofNat 32 (islHdrCohFreq h))
  let b := circMean ((base.filter (fun x => x.2.2)).map (fun x => x.2.1))
  let aOk := !p.converged || fLe (fAbs (fWrap (fSub d b))) (BitVec.ofNat 32 (islHdrCohAng h))
  let coh := fOk && aOk
  let since := if fOk && !aOk then (match p.angleSince with | some x => some x | none => some t) else none
  let relearn := match since with | some x => decide (x + 2000000000 ≤ t) | none => false
  let base := base ++ [(t, d, coh)]
  let base := if relearn then base.map (fun x => (x.1, x.2.1, true)) else base
  let conv := p.converged || decide (2 * s.islRate ≤ (base.filter (fun x => x.2.2)).length)
  let s := s.deliveredFn 6 i
  let s := if conv then s.converge 6 i else s
  let s := if relearn then s.bump (ck1 .pairRelearns i) else s
  let s := match s.isl.cohSince with | some _ => s | none => { s with isl := { s.isl with cohSince := some t } }
  match p.last with
  | some l =>
    if t < l then s.setCoh i { p with base := base, converged := conv }
    else s.setCoh i { base := base, last := some t, coherent := coh, converged := conv, angleSince := if relearn then none else since }
  | none => s.setCoh i { base := base, last := some t, coherent := coh, converged := conv, angleSince := if relearn then none else since }

/-- A pair restarts from an empty baseline when it has had no complete tag for 1 s (R264). -/
def State.pairGap (s : State) (i : Nat) (t : Ns) : State :=
  match (s.pairCoh i).last with
  | some l => if l + 1000000000 ≤ t then (s.bump (ck1 .pairRestarts i)).setCoh i PairCoh.fresh else s
  | none => s

/-- A pair in one evaluation (R263, R264): evaluated at each tag at which the covered sets first make it complete, in tag order,
and restarted after 1 s without a complete tag. `before` are the sets of earlier evaluations. -/
def State.pairEval (s : State) (before sets : List GroupSet) (tags : List Ns) (tag : Ns) (e : Nat × Nat × Nat) : State :=
  (forAll tags s (fun s t =>
    match s.pairValues before e.2.1 e.2.2 t, s.pairValues sets e.2.1 e.2.2 t with
    | none, some v => (s.pairGap e.1 t).pairStep e.1 t v
    | _, _ => s)).pairGap e.1 tag

/-- A pair is UNKNOWN in an evaluation (R263). -/
def State.pairUnknown (s : State) (i : Nat) (tag : Ns) : Bool :=
  match (s.pairCoh i).last with | some l => decide (1 < s.islSteps l tag) | none => true

/-! Islands (R266-R268). -/

/-- An island of an evaluation: its bus set, topology basis, coherency basis, boundary branches. -/
structure Found where
  buses : List Nat
  topo : Bool
  coh : Bool
  boundary : List Nat
  held : Bool
  deriving DecidableEq, Repr

/-- Lowest-numbered watched bus of a set (R267). -/
def State.islId (s : State) (bs : List Nat) : Nat := (bs.filter s.watched).foldl min 0xFFFF

/-- Grade (Table ISL-4). -/
def Found.grade (f : Found) : Nat :=
  if !f.topo then 1 else if f.held then (if f.coh then 1 else 0) else if f.coh then 3 else 2

/-- A key's entry after an evaluation (R266): count, and the basis gained or withdrawn. -/
def State.keyStep (s : State) (tag : Ns) (pairs : List (Nat × Nat × Nat)) (gated : Bool) (k : Nat) (c : List Nat) : State :=
  let h := s.rec_ .islHdr 0
  let fresh := (aget s.isl.core.keys k).isNone
  let x := agetD s.isl.core.keys k { count := 0, changed := 0, last := 0, basis := false, buses := [] }
  let n := if !fresh && x.changed == tag then x.count
    else if !fresh && decide (x.changed < tag) && s.islSteps x.changed tag == 1 then x.count + 1 else 1
  let crossing := pairs.filter (fun p => c.contains p.2.1 != c.contains p.2.2)
  let gain := decide (islHdrCohConfirm h ≤ n) && crossing.all (fun p => (s.pairCoh p.1).converged) && !gated
  let y : IslKey := { count := n, changed := if !fresh && x.changed == tag then x.changed else tag, last := tag, basis := x.basis || gain, buses := c }
  s.modCore (fun core => { core with keys := aput core.keys k y })

/-- A key without a candidate in an evaluation: its count changes to 0, where it was not 0 already. -/
def State.keyIdle (s : State) (tag : Ns) (k : Nat) : State :=
  let wd := islHdrCohWithdraw (s.rec_ .islHdr 0)
  s.modCore (fun core => { core with keys := core.keys.map (fun e =>
    if e.1 = k then (k, { e.2 with count := 0, changed := if e.2.count = 0 then e.2.changed else tag, basis := e.2.basis && decide (s.islSteps e.2.last tag < wd) }) else e) })

/-- The newest usable member of a channel within one grid step of the evaluation's tag. -/
def State.usableAt (s : State) (sets : List GroupSet) (c : Nat) (tag : Ns) : Option Member :=
  match (sets.filter (fun g => decide (g.tag ≤ tag) && decide (s.islSteps g.tag tag ≤ 1) && g.members.any (fun m => m.ch == c && usable m))).reverse.head? with
  | some g => g.members.find? (fun m => m.ch == c)
  | none => none

/-- The usable frequencies of a bus set, and the angle of its lowest-numbered bus that has one. -/
def State.setFreqs (s : State) (sets : List GroupSet) (bs : List Nat) (tag : Ns) : List Word :=
  bs.filterMap (fun b => match s.usableAt sets (busFCh (s.rec_ .bus b)) tag with
    | some m => let f := s.memberFreq m; if isNan f then none else some f
    | none => none)

/-- The angle of the first of a list of buses with a usable A_CH. -/
def State.firstAngle (s : State) (sets : List GroupSet) (bs : List Nat) (tag : Ns) : Option Word :=
  bs.findSome? (fun b => match s.usableAt sets (busACh (s.rec_ .bus b)) tag with
    | some m => if isNan m.v1 then none else some m.v1
    | none => none)

/-- An island event (Table ISL-9). -/
def islEvent (r : IslRec) (slot : Nat) (kind : Nat) (edge : Bool) (cause : Nat) (tag : Ns) : Event :=
  { family := 2, tag := tag, index := 0x9100 + slot, kind := kind, edge := edge, cause := cause, grade := r.grade, topo := r.topo
    coh := r.coh, fast := false, replay := r.replay, value := r.fDiff }

/-- ISL is shed in the region of the block in use (R275). -/
def State.islShed (s : State) : Bool := match s.isl.block with | some b => s.shed (b / 4) 5 | none => false

/-- Charge bytes written for islanding to the ISL class of the block's region (R275, Table SCH-1). -/
def State.chargeIsl (s : State) (n : Nat) : State :=
  match s.isl.block with | some b => s.charge (b / 4) 5 (dramCost n) | none => s

/-- Raise an island event and log it, 16 bytes, with the 64-byte record as it stands (R274, R275). -/
def State.raiseIsl (s : State) (r : IslRec) (e : Event) : State :=
  let s := s.raise e
  if s.islShed then s
  else let l := s.isl.log ++ [(e, r)]; { s with isl := { s.isl with log := l.drop (l.length - 4096) } }.chargeIsl 80

/-- Copy the graph, pair and island state to working memory after an evaluation (R275); how many bytes that is stays open (log
entry 70). -/
def State.copyIsl (s : State) : State :=
  if s.islShed then s else { s with isl := { s.isl with copy := s.isl.core } }.chargeIsl (Config.islCopyBytes s.branches.length s.cohPairs.length)

/-- Put a slot's record. -/
def State.putIsl (s : State) (slot : Nat) (r : IslRec) : State := s.modCore (fun c => { c with slots := aput c.slots slot r })

/-- The slots with a declared island, in slot order. -/
def State.declared (s : State) : List (Nat × IslRec) :=
  (List.range 64).filterMap (fun i => match aget s.isl.core.slots i with | some r => if r.declared then some (i, r) else none | none => none)

/-- The output of an island slot and the summary (Table ISL-8). -/
def State.putIslOut (s : State) (slot : Nat) (r : IslRec) : State :=
  s.putAna { index := 0x9100 + slot, tag := r.tag
             vals := [fOfInt (b2n r.declared), fOfInt r.grade, fOfInt r.id, fOfInt r.buses.length, r.fMean, r.fDiff, r.angDiff]
             invalid := false, test := r.replay }

/-- The record of a found island (Table ISL-7). -/
def State.islRec (s : State) (sets : List GroupSet) (mainFreqs : List Word) (tag : Ns) (f : Found) (declaredAt : Ns) : IslRec :=
  let fs := s.setFreqs sets f.buses tag
  let mean := fMean fs
  { tag := tag, id := s.islId f.buses, declared := true, grade := f.grade, topo := f.topo, coh := f.coh, heldBoundary := f.held
    replay := s.boot.mode == .replay, stopped := false, buses := f.buses, measured := fs.length, boundary := f.boundary
    fMean := mean, fDiff := if fs.isEmpty || mainFreqs.isEmpty then qnan else fSub mean (fMean mainFreqs)
    angDiff := match s.firstAngle sets f.buses tag, s.firstAngle sets s.refBuses tag with
      | some a, some b => fWrap (fSub a b)
      | _, _ => qnan
    declaredAt := declaredAt, tsw := s.time.tsw }

/-- Withdraw a declared island. -/
def State.withdraw (s : State) (slot cause : Nat) (tag : Ns) : State :=
  match aget s.isl.core.slots slot with
  | some r =>
    let r := { r with declared := false, tag := tag }
    let s := ((s.putIsl slot r).putIslOut slot r).raiseIsl r (islEvent r slot 0 false cause tag)
    if cause = 2 then (s.bump (ck .islMerges)).postFor 3 .unit (ck .islMerges) 0
    else if cause = 0 then (s.bump (ck .islWithdrawn)).postFor 3 .unit (ck .islWithdrawn) 0
    else s
  | none => s

/-- Match the islands of an evaluation to the declared ones (Table ISL-5): the slot that each continues, and the slots to be
withdrawn as merged. A declared island continues in the first island that holds its ID bus. -/
def matchIslands : List Found → List (Nat × IslRec) → List (Found × Option Nat) × List Nat
  | [], _ => ([], [])
  | f :: fs, ds =>
    let mine := ds.filter (fun d => f.buses.contains d.2.id)
    let low := mine.foldl (fun m d => min m d.2.id) 0xFFFF
    let keep := mine.find? (fun d => d.2.id == low)
    let rest := matchIslands fs (ds.filter (fun d => !mine.any (fun m => m.1 == d.1)))
    ((f, keep.map (fun d => d.1)) :: rest.1, (mine.filter (fun d => some d.1 != keep.map (fun k => k.1))).map (fun d => d.1) ++ rest.2)

/-- Match islands, assign grades and raise events (R267, R268, R274). -/
def State.islMatch (s : State) (sets : List GroupSet) (mainFreqs : List Word) (tag : Ns) (found : List Found) : State :=
  let ds := s.declared
  let m := matchIslands found ds
  let merged := m.2
  let kept := m.1.filterMap (fun x => x.2)
  let gone := ds.filter (fun d => !kept.contains d.1)
  let s := forAll gone s (fun s d => s.withdraw d.1 (if merged.contains d.1 then 2 else 0) tag)
  -- continuing islands keep their slots; their records follow
  let cont := m.1.filterMap (fun x => match x.2 with | some slot => some (slot, x.1) | none => none)
  let graded := cont.filter (fun x => match aget s.isl.core.slots x.1 with | some r => r.grade != x.2.grade | none => false)
  let s := forAll cont s (fun s x =>
    match aget s.isl.core.slots x.1 with
    | some r => let r' := s.islRec sets mainFreqs tag x.2 r.declaredAt; (s.putIsl x.1 r').putIslOut x.1 r'
    | none => s)
  -- new islands take the lowest free slots
  let s := forAll (m.1.filterMap (fun x => match x.2 with | some _ => none | none => some x.1)) s (fun s f =>
    match (List.range 64).find? (fun i => !(s.declared.any (fun d => d.1 == i))) with
    | some slot =>
      let r := s.islRec sets mainFreqs tag f tag
      let s := ((s.putIsl slot r).putIslOut slot r).raiseIsl r (islEvent r slot 0 true 0 tag)
      (s.bump (ck .islDeclared)).postFor 6 .unit (ck .islDeclared) 0
    | none => s.bumpOnce (ck .islOverflows) 6 .unit)
  forAll ((List.range 64).filterMap (fun i => graded.find? (fun x => x.1 == i))) s (fun s x =>
    match aget s.isl.core.slots x.1 with
    | some r => (s.bump (ck .gradeChanges)).raiseIsl r (islEvent r x.1 1 true 0 tag)
    | none => s)

/-- The islands of an evaluation (R267): components with a topology basis, and coherency bases that share no watched bus
with one. -/
def State.findIslands (s : State) (comps : List (List Nat)) (tag : Ns) : List Found :=
  let main := mainOf s.refBuses comps
  let bases := s.isl.core.keys.filter (fun k => k.2.basis)
  let shares (a b : List Nat) : Bool := a.any (fun x => s.watched x && b.contains x)
  let topo := comps.filter (fun c => some c != main && c.any s.watched)
  topo.map (fun c =>
    let edge := s.branches.filter (fun b => let r := s.rec_ .branch b; c.contains (branchFromBus r) != c.contains (branchToBus r))
    { buses := c, topo := true, coh := bases.any (fun k => shares k.2.buses c), boundary := edge, held := edge.any (fun b => !s.fresh b tag) }) ++
  (bases.filter (fun k => !topo.any (fun c => shares k.2.buses c))).map (fun k =>
    { buses := k.2.buses, topo := false, coh := true, boundary := [], held := false })

/-- Adopt the primary's islanding state before the next evaluation, when it differs for the same tag (R391). -/
def State.adoptIsl (s : State) : State :=
  if s.pair.role != .standby || !s.pair.mirrorValid || !s.mapsMatch then s
  else
    let ms := s.pair.mirror.filter (fun m => m.1 == 6 && m.2.2.1 == s.isl.evalTag)
    let differ (m : Nat × Nat × Ns × Delta) : Bool := match m.2.2.2 with
      | .island slot id at_ decl counts brs =>
        let c := s.isl.core
        (match aget c.slots slot with | some r => r.id != id || r.declaredAt != at_ || r.declared != decl | none => decl) ||
          counts != c.keys.map (fun k => (k.1, k.2.count)) || brs != c.branches
      | _ => false
    let theirs := ms.filterMap (fun m => match m.2.2.2 with
      | .island slot id _ decl _ _ => if decl || id != 0 then some slot else none
      | _ => none)
    let ours (c : IslCore) : List (Nat × IslRec) := c.slots.filter (fun e => theirs.contains e.1)
    if ms.isEmpty || (!ms.any differ && (ours s.isl.core).length == s.isl.core.slots.length) then s
    else (forAll ms (s.modCore (fun c => { c with slots := ours c })) (fun s m => match m.2.2.2 with
      | .island slot id at_ decl counts brs =>
        s.modCore (fun c =>
          let old : IslRec := match aget c.slots slot with
            | some r => r
            | none => { tag := s.isl.evalTag, id := id, declared := decl, grade := 0, topo := false, coh := false, heldBoundary := false,
                        replay := false, stopped := false, buses := [id], measured := 0, boundary := [], fMean := qnan, fDiff := qnan,
                        angDiff := qnan, declaredAt := at_, tsw := s.time.tsw }
          { c with slots := if decl || (aget c.slots slot).isSome then aput c.slots slot { old with id := id, declaredAt := at_, declared := decl } else c.slots
                   branches := brs
                   keys := counts.map (fun e => (e.1, { (agetD c.keys e.1 { count := 0, changed := m.2.2.1, last := m.2.2.1, basis := false, buses := [] }) with count := e.2 })) })
      | _ => s)).bump (ck1 .resyncs 6)

/-- One evaluation of the first n waiting sets (R258-R268). -/
def State.islEvaluate (s : State) (n : Nat) : State :=
  let s := s.adoptIsl
  let h := s.rec_ .islHdr 0
  let covered := sortSets (s.isl.waiting.take n)
  let tag := covered.foldl (fun m g => max m g.tag) 0
  let before := s.isl.recent
  let pool := sortSets (before ++ covered)
  let s := (s.bump (ck .evaluations)).bumpBy (ck .coalesced) (covered.length - 1)
  -- 1 branch statuses
  let status := s.branches.filter (fun b => branchStatusCh (s.rec_ .branch b) != 0xFFFF)
  let s := forAll covered s (fun s g => forAll status s (fun s b => s.branchStep g b))
  -- 2 topology components
  let comps := components s.buses ((s.branches.filter (fun b => !s.branchOpen b)).map (fun b =>
    (branchFromBus (s.rec_ .branch b), branchToBus (s.rec_ .branch b))))
  -- 3 pairs
  let tags := (covered.map (fun g => g.tag)).eraseDups
  let s := forAll s.cohPairs s (fun s e => s.pairEval before pool tags tag e)
  -- 4 clusters
  let known := s.cohPairs.filter (fun e => !s.pairUnknown e.1 tag)
  let part := s.buses.filter (fun b => known.any (fun e => e.2.1 == b || e.2.2 == b))
  let clusters := components part ((known.filter (fun e => (s.pairCoh e.1).coherent)).map (fun e => (e.2.1, e.2.2)))
  let main := mainCluster s.refBuses clusters
  let cands := clusters.filter (fun c => some c != main && decide (islHdrCohMinBuses h ≤ c.length) && c.any s.watched)
  let gated := match s.isl.cohSince with | some t => decide (tag < t + 2000000000) | none => true
  let s := forAll (s.isl.core.keys.filter (fun k => !cands.any (fun c => s.islId c == k.1))) s (fun s k => s.keyIdle tag k.1)
  let s := forAll cands s (fun s c => s.keyStep tag s.cohPairs gated (s.islId c) c)
  -- 5, 6 islands and events
  let mainFreqs := match mainOf s.refBuses comps with | some c => s.setFreqs pool c tag | none => []
  let s := { s with isl := { s.isl with comps := comps.length, clusters := clusters.length, evalTag := tag } }
  let s := s.islMatch pool mainFreqs tag (s.findIslands comps tag)
  let s := s.putAna { index := 0x9140, tag := tag, vals := [fOfInt s.declared.length, fOfInt comps.length, fOfInt clusters.length]
                      invalid := false, test := s.boot.mode == .replay }
  let keep := (s.isl.recent ++ covered).filter (fun g => decide (tag < g.tag + 1000000000))
  let s := { s with isl := { s.isl with waiting := s.isl.waiting.drop n, recent := keep } }.copyIsl
  let slots := if s.declared.isEmpty then [0] else s.declared.map (fun d => d.1)
  forAll slots s (fun s i => s.mirror (.delta tag 0 1 (s.islDelta i)))

/-- A group's item hands its closed set to the islanding block (R258). -/
def State.handSet (s : State) (gs : GroupSet) : State :=
  if s.islGroup gs.group && s.isl.block.isSome then { s with isl := { s.isl with waiting := s.isl.waiting ++ [gs] } }.startEval else s

/-- How many waiting sets an ISL_EVAL item covers: those it was started with, or every one for an item that a row posted. -/
def State.evalSets (s : State) (it : Item) : Nat := match it.ctx with | .evaluation n => n | _ => s.isl.waiting.length

/-- ISLAND_EVALUATION (R258): the evaluation that runs on the evaluation cell does its work. -/
def execIslandEvaluation (s : State) : Host.Outcome State Fault Refusal :=
  .next (if !s.works || !s.islConfigured then s
    else
      let s := s.startEval
      match s.islCell with
      | none => s
      | some c =>
        match (s.cell c).run with
        | none => s
        | some it =>
          if s.kernelOf it != kIsl || (s.cell c).worked then s
          else (if s.isl.waiting.isEmpty then s else s.islEvaluate (s.evalSets it)).setWorked c)

/-! Detectors (R269-R271). -/

/-- Set a detector's state. -/
def State.setDet (s : State) (d : Nat) (x : DetSt) : State := { s with isl := { s.isl with dets := aput s.isl.dets d x } }

/-- The channels that a detector reads (Table ISL-2). -/
def State.detReads (s : State) (d : Nat) : List Nat :=
  let r := s.rec_ .det d
  match detKind r with
  | 2 => if detFreqCh r = 0xFFFF then [detCh r] else [detCh r, detFreqCh r]
  | 3 => [detCh r, detRefCh r]
  | _ => [detCh r]

/-- A channel carries fast-path estimates (R271). -/
def State.fastChan (s : State) (c : Nat) : Bool := chanSource (s.rec_ .chan c) == 6 && chanEstClass (s.rec_ .chan c) == 0

/-- A detector's event (Table ISL-9). -/
def State.detEvent (s : State) (d : Nat) (tag : Ns) (edge : Bool) (cause : Nat) (v : Word) : State :=
  s.raise { family := 2, tag := tag, index := 0xA000 + d, kind := 2 + detKind (s.rec_ .det d), edge := edge, cause := cause, grade := 0
            topo := false, coh := false, fast := (s.detReads d).any s.fastChan, replay := s.boot.mode == .replay, value := v }

/-- The convergence row of a detector's kind (Table MOD-5). -/
def detFn (kind : Nat) : Nat := match kind with | 0 => 2 | 1 | 2 => 3 | _ => 4

/-- A member's value usable for a detector: its status (R270), and no quiet NaN in the value compared. -/
def usableVal (m : Member) (v : Word) : Option Word := if usable m && !isNan v then some v else none

/-- The compared value of a detector at a close, where its inputs are usable (Table ISL-6); the quiet NaN where none is
formed from usable ones. -/
def State.detValue (s : State) (r : Nat) (x : DetSt) (m : Member) (ref : Option Member) (tag : Ns) : Option Word :=
  match detKind r with
  | 0 =>
    let v := if chanSource (s.rec_ .chan m.ch) = 6 then m.v3 else m.v1
    (usableVal m v).map fAbs
  | 1 =>
    match usableVal m m.v0, x.prev with
    | some v, some (p, _, true) => some (if isZero p then qnan else fDiv (fAbs (fSub v p)) p)
    | _, _ => none
  | 2 =>
    match usableVal m m.v1, x.prev with
    | some v, some (_, p, true) =>
      let df := match x.prevF with | some (f, true) => fSub f (fOfInt s.fNom) | _ => 0
      let turn := fMul (fMul (fMul (fOfInt 2) fPi) df) (fOfFrac ((tag - x.lastTag : Nat) : Int) 1000000000)
      some (fAbs (fWrap (fSub (fSub v p) turn)))
    | _, _ => none
  | _ =>
    match usableVal m m.v1, ref with
    | some v, some n => (usableVal n n.v1).map (fun w => fAbs (fWrap (fSub v w)))
    | _, _ => none

/-- One detector at a close of its group (R270, Table ISL-6). -/
def State.detStep (s : State) (gs : GroupSet) (d : Nat) : State :=
  let r := s.rec_ .det d
  let x := s.detSt d
  let find (c : Nat) : Option Member := gs.members.find? (fun m => m.ch == c)
  match find (detCh r) with
  | none => s
  | some m =>
    let ref := if detKind r = 3 then find (detRefCh r) else none
    if m.status.getLsbD 1 || (match ref with | some n => n.status.getLsbD 1 | none => false) then s
    else
      let v := s.detValue r x m ref gs.tag
      let th := BitVec.ofNat 32 (detThresh r)
      let low := fMul th (fOfFrac (((1000 - detHyst r : Nat)) : Int) 1000)
      let okCh := usable m
      let since := if okCh then (match x.since with | some t => some t | none => some gs.tag) else none
      let settled := match since with | some t => decide (t + 1000000000 ≤ gs.tag) | none => false
      let gated := match detKind r with | 0 => !settled | _ => v.isNone
      let fn := detFn (detKind r)
      let s := if okCh then s.deliveredFn fn (65536 + d) else s
      let s := if gated then s else s.converge fn (65536 + d)
      let level : Bool := detKind r == 0 || detKind r == 3
      let beyond := match v with | some w => fLe th w | none => false
      let run := if gated then 0 else if beyond then min (x.run + 1) 15 else 0
      let up := level && !gated && !x.picked && beyond && decide (detPickup r ≤ run)
      let down := level && !gated && x.picked && (match v with | some w => fLt w low | none => false)
      let fire := !level && !gated && beyond
      let picked := if up then true else if down then false else x.picked
      let value := match v with | some w => w | none => (match x.out with | some o => o.2.2 | none => qnan)
      let prevF := match (if detKind r = 2 ∧ detFreqCh r ≠ 0xFFFF then find (detFreqCh r) else none) with
        | some n => if n.status.getLsbD 1 then x.prevF else (let f := s.memberFreq n; some (f, usable n && !isNan f))
        | none => x.prevF
      let pos0 := if level then picked else fire
      let s := s.setDet d { run := run, picked := picked, prev := some (m.v0, m.v1, okCh), prevF := prevF, since := since
                            out := some (gs.tag, fOfInt (b2n pos0), value), lastTag := gs.tag, gated := gated }
      let s := s.putAna { index := 0xA000 + d, tag := gs.tag, vals := [fOfInt (b2n pos0), value], invalid := false
                          test := s.boot.mode == .replay }
      if up then (s.bump (ck1 .detPickups d)).detEvent d gs.tag true 0 value
      else if down then (s.bump (ck1 .detDropouts d)).detEvent d gs.tag false 0 value
      else if fire then (s.bump (ck1 .detSteps d)).detEvent d gs.tag true 0 value
      else s

/-- DETECTOR_WORK (R258, R269): the group's own running item carries out its detectors at its close and hands the closed set to
the islanding block. -/
def execDetectorWork (g : Fin 256) (s : State) : Host.Outcome State Fault Refusal :=
  .next (match s.runner kFast (fun it => match it.ctx with | .group gs => gs.group == g.val | _ => false) with
    | some (c, it) =>
      (match it.ctx with
      | .group gs => if s.works then ((forAll (s.detsOf g.val) s (fun s d => s.detStep gs d)).setWorked c).handSet gs else s
      | _ => s)
    | none => s)

/-! Breaks (R276, Table ISL-10). -/

/-- Every pair and detector restarts: previous values discarded, runs cleared, and each picked-up level detector drops out
with cause RESTART at the tag of its last close. -/
def State.restartPairsDets (s : State) : State :=
  let s := forAll s.cohPairs s (fun s e => (s.bump (ck1 .pairRestarts e.1)).setCoh e.1 PairCoh.fresh)
  let s := { s with isl := { s.isl with cohSince := none } }
  forAll ((List.range (islHdrDetCount (s.rec_ .islHdr 0))).filter (fun d => detValid (s.rec_ .det d) == 1)) s (fun s d =>
    let x := s.detSt d
    let s := (s.bump (ck1 .detRestarts d)).setDet d { x with run := 0, picked := false, prev := none, prevF := none, since := none, gated := true }
    if x.picked then s.detEvent d x.lastTag false 1 (match x.out with | some o => o.2.2 | none => qnan) else s)

/-- A DT step (Table ISL-10): branch states are kept, their tags begin again with the new time; islands held by a coherency
basis alone are withdrawn. -/
def State.stepIsl (s : State) : State :=
  let s := s.restartPairsDets
  let s := s.modCore (fun c => { c with keys := [], branches := c.branches.map (fun b => (b.1, b.2.1, 0)) })
  let s := { s with isl := { s.isl with recent := [], waiting := s.isl.waiting.filter (fun g => decide (g.tag ≤ s.dt + 1000000000)) } }
  forAll (s.declared.filter (fun d => !d.2.topo)) s (fun s d => s.withdraw d.1 1 d.2.tag)

/-- REPLAY entered or left (Table ISL-10): the graph returns to never-given status and every island is withdrawn. -/
def State.replayIsl (s : State) : State :=
  let s := s.restartPairsDets
  let s := s.modCore (fun c => { c with keys := [], branches := [] })
  let s := { s with isl := { s.isl with recent := [], waiting := [] } }
  forAll s.declared s (fun s d => s.withdraw d.1 1 d.2.tag)

/-- A block has a cell in service and its memory is whole. -/
def State.blockUp (s : State) (b : Nat) : Bool :=
  !s.sch.lostBlocks.contains b && (List.range 4).any (fun i => (s.cell (4 * b + i)).svc == .inService)

/-- Reserve to 0x80 the lowest-numbered cell in service of a block (R306). -/
def State.reserveIsl (s : State) (b : Nat) : State :=
  match (List.range 4).find? (fun i => (s.cell (4 * b + i)).svc == .inService) with
  | some i => s.modCell (4 * b + i) (fun c => { c with resv := 0x80 })
  | none => s

/-- The islanding block at a beat boundary (R276, R306): its evaluation cell moves, the block moves to ALT_BLOCK, or
islanding stops. -/
def State.islBoundary (s : State) : State :=
  match s.isl.block with
  | none => s
  | some b =>
    if s.blockUp b then
      if s.islCell.isSome then s
      else (((s.reserveIsl b).bump (ck .cellMoves)).postFor 4 .unit (ck .cellMoves) 0).startEval
    else
      let alt := islHdrAltBlock (s.rec_ .islHdr 0)
      if !s.isl.onAlt && s.blockUp alt then
        let s := { s with isl := { s.isl with block := some alt, onAlt := true, core := s.isl.copy } }
        let s := forAll s.cohPairs s (fun s e => (s.bump (ck1 .pairRestarts e.1)).setCoh e.1 PairCoh.fresh)
        let s := { s with isl := { s.isl with cohSince := none } }
        (((s.reserveIsl alt).bump (ck .blockMoves)).postFor 5 .unit (ck .blockMoves) 0).startEval
      else
        let ds := s.declared
        let s := { s with isl := { s.isl with block := none, waiting := [] } }
        let s := forAll ds s (fun s d =>
          let r := { d.2 with stopped := true }
          (s.putIsl d.1 r).raiseIsl r (islEvent r d.1 0 false 3 r.tag))
        (s.post 6 .fault 0x00180001 0).nonCritical

end Sys2Proof.Machine
end

