-- ==== Sys2Proof/Machine/PortOps.lean ====
section
/-! DEFINITION. What the line ports, intake and Hearth share (chapters 04-06): when a port takes and sends frames, the
match key, port-service frames, command frames to sources, the states of streams, and the sending side of TCP. -/

namespace Sys2Proof.Machine

/-! Ports. -/

/-- ENABLE of a port's record. -/
def State.portEnabled (s : State) (p : Nat) : Bool := portEnable (s.rec_ .port p) == 1

/-- A port takes frames (R50, R503): its firmware has started, its link is up, and, for LP0-LP3 and MP, the port is enabled
and beats run. -/
def State.portTakes (s : State) (p : Nat) : Bool :=
  (s.port p).on && (s.port p).link && (decide (5 ≤ p) || (s.portEnabled p && s.beatsRun))

/-- Picoseconds of one byte on a port's wire (PHY of Table PRT-1). -/
def bytePs (phy : Nat) : Nat := match phy with | 0 => 320 | 1 => 800 | _ => 8000

/-- ps of a byte on port p. -/
def State.bytePs (s : State) (p : Nat) : Nat := Sys2Proof.Machine.bytePs (portPhy (s.rec_ .port p))

/-- ns of a pause time in quanta of 512 bit times, a part of one counted whole (chapter 04). -/
def pauseNs (phy quanta : Nat) : Nat :=
  match phy with | 0 => (quanta * 2048 + 99) / 100 | 1 => (quanta * 512 + 9) / 10 | _ => quanta * 512

/-- ING_ASYM and EGR_ASYM of a port, signed ns (R138). -/
def State.ingAsym (s : State) (p : Nat) : Int := signed 32 (asymIng (s.rec_ .asym p))
/-- EGR_ASYM. -/
def State.egrAsym (s : State) (p : Nat) : Int := signed 32 (asymEgr (s.rec_ .asym p))

/-- An arrival stamp `ago` ns back from now (R93, R138). -/
def State.arrival (s : State) (p ago : Nat) : Ns := (((s.dt : Nat) : Int) - ago - s.ingAsym p).toNat

/-- The departure stamp of a frame whose start-of-frame delimiter leaves now (R93, R138). -/
def State.departure (s : State) (p : Nat) : Ns := (((s.dt : Nat) : Int) + s.egrAsym p).toNat

/-- The tags that the port recognises (R90), and whether what follows them is the frame's body; a tag of another TPID is
read as an EtherType. -/
def knownTags : List VTag → List VTag × Bool
  | [] => ([], true)
  | [a] => if a.tpid = 0x8100#16 then ([a], true) else ([], false)
  | a :: b :: rest =>
    if (a.tpid = 0x8100#16 ∨ a.tpid = 0x88A8#16) ∧ b.tpid = 0x8100#16 then
      match rest with
      | [] => ([a, b], true)
      | c :: _ => if c.tpid = 0x8100#16 then ([a, b, c], true) else ([a, b], false)
    else if a.tpid = 0x8100#16 then ([a], false)
    else ([], false)

/-- The VLAN of a frame: its outer tag's id, 0 where it is untagged (R90). -/
def frameVlan (f : RxFrame) : Nat := match (knownTags f.tags).1 with | a :: _ => a.vid.toNat | [] => 0

/-- What follows the recognised tags. -/
def frameBody (f : RxFrame) : RxBody := if (knownTags f.tags).2 then f.body else .other

/-- A group address (R91): the individual/group bit of its first byte. -/
def isGroup (a : BitVec 48) : Bool := a.getLsbD 40

/-! Descriptor match (R109, Table INT-2). -/

/-- SRC_MAC compared; 0 matches any. -/
def macFits (r : Nat) (m : BitVec 48) : Bool := streamSrcMac r == 0 || streamSrcMac r == m.toNat

/-- SRC_IPV4 compared; 0 matches any. -/
def ipFits (r : Nat) (a : BitVec 32) : Bool := streamSrcIp r == 0 || streamSrcIp r == a.toNat

/-- A descriptor matches a frame by the key of its KIND. -/
def streamFits (r vid : Nat) (src : BitVec 48) (b : RxBody) : Bool :=
  streamVlanId r == vid && macFits r src &&
  match b with
  | .udp ip _ _ dport _ (.c37 x) => streamKind r == 0 && ipFits r ip && streamDstPort r == dport && streamStreamId r == c37Id x
  | .udp ip _ _ dport _ (.sv f) => streamKind r == 2 && ipFits r ip && streamDstPort r == dport &&
      streamStreamId r == f.appid.toNat && streamSvidCrc r == f.svidCrc.toNat
  | .svL2 f => streamKind r == 3 && streamStreamId r == f.appid.toNat && streamSvidCrc r == f.svidCrc.toNat
  | _ => false

/-- A TCP segment belongs to a connection (R101): a stream of KIND 1 whose peer, peer port, local port and line port it names, on
the VLAN of the port's own segments. -/
def State.connFits (s : State) (p : Nat) (vid : Nat) (src : BitVec 32) (sport dport : Nat) : Bool :=
  (s.valids .stream 511 8192).any (fun n =>
    let r := s.rec_ .stream n
    let peer := s.rec_ .peer (streamPeerIndex r)
    streamKind r == 1 && peerLinePort peer == p && portVlanId (s.rec_ .port p) == vid && peerIp peer == src.toNat &&
    peerPport peer == sport && streamDstPort r == dport)

/-- The SID that a frame matches (R110: at most one). -/
def State.matchSid (s : State) (f : RxFrame) : Option Nat :=
  (s.valids .stream 511 8192).find? (fun n => streamFits (s.rec_ .stream n) (frameVlan f) f.src (frameBody f))

/-! Port-service frames (R55). -/

/-- Place a port-service frame; only PTP frames leave in HALT. -/
def State.serve (s : State) (p q : Nat) (f : TxFrame) : State :=
  let ptp := match f.body with | .ptp .. => true | _ => false
  if s.works || (s.beatsRun && ptp) then s.place p q f else s

/-- A port-service frame with L = 0. -/
def serviceFrame (vid n : Nat) (dst : BitVec 48) (ip : BitVec 32) (dport : Nat) (b : TxBody) : TxFrame :=
  { launch := 0, len := etherLen vid n, vid := vid, dstMac := dst, dstIp := ip, dport := dport, service := true, pcp := 0, body := b }

/-! TCP, the sending side (R101, R102). -/

/-- A connection at rest. -/
def TcpConn.reset : TcpConn :=
  { st := .closed, sndNxt := 0, sndUna := 0, rcvNxt := 0, partialBytes := [], unacked := 0, segs := 0, ackDue := none,
    flight := [], reopenAt := none, wscale := none, mss := 536, ts := false, tsRecent := 0 }

/-- A SID's connection. -/
def State.conn (s : State) (sid : Nat) : TcpConn := agetD s.tcp sid TcpConn.reset

/-- Change a connection. -/
def State.modConn (s : State) (sid : Nat) (f : TcpConn → TcpConn) : State := { s with tcp := amod s.tcp sid TcpConn.reset f }

/-- The peer entry of a stream. -/
def State.streamPeer (s : State) (sid : Nat) : Nat := s.rec_ .peer (streamPeerIndex (s.rec_ .stream sid))

/-- The line port of a connection. -/
def State.connPort (s : State) (sid : Nat) : Nat := peerLinePort (s.streamPeer sid)

/-- Bytes that a port's ingress buffer may still take (R94). -/
def State.ingressRoom (s : State) (p : Nat) : Nat := 2097152 - (s.port p).used

/-- The window advertised (R103): TCP_RWND, shrunk by a full ingress buffer, shifted when the peer takes window scaling. -/
def State.window (s : State) (sid : Nat) : Nat :=
  let r := s.rec_ .port (s.connPort sid)
  let w := min (portTcpRwnd r * 1024) (s.ingressRoom (s.connPort sid))
  match (s.conn sid).wscale with | some _ => w >>> portTcpWscale r | none => min w 65535

/-- Send one segment of a connection (Table PRT-4): MSS, window shift and timestamps offered in a SYN, and the timestamps, which
echo the peer's, where agreed. -/
def State.tcpSend (s : State) (sid : Nat) (syn ack rst : Bool) (seqNo : BitVec 32) (data : Bytes) : State :=
  let p := s.connPort sid
  let r := s.rec_ .port p
  let peer := s.streamPeer sid
  let c := s.conn sid
  let stamped : Bool := if syn then portTcpTs r == 1 else c.ts
  let opts : TcpOpts :=
    { mss := if syn then some (portTcpMss r) else none, wscale := if syn then some (portTcpWscale r) else none
      ts := if stamped then some (Config.tcpClock s.lts, if syn then 0 else c.tsRecent) else none }
  let len := (if syn then 8 else 0) + (if stamped then 12 else 0)
  let b : TxBody := .tcp sid syn ack rst seqNo (if ack then c.rcvNxt else 0) (s.window sid) opts data
  s.serve p s.cmdQueue (serviceFrame (portVlanId r) (40 + len + data.length) (BitVec.ofNat 48 (peerMac peer))
    (BitVec.ofNat 32 (peerIp peer)) (peerPport peer) b)

/-- Send an ACK for the next expected byte. -/
def State.tcpAck (s : State) (sid : Nat) : State :=
  (s.modConn sid (fun c => { c with segs := 0, unacked := 0, ackDue := none })).tcpSend sid false true false (s.conn sid).sndNxt []

/-! Commands to sources (R128). -/

/-- A C37.118.2 command frame of code `code` to a stream's source. -/
def State.commandFrame (s : State) (sid code : Nat) : Bytes :=
  let tb := fld (s.rec_ .tbWord sid) 23 0
  let sec := s.dt / 1000000000
  let frac := s.dt % 1000000000 * tb / 1000000000
  let b := [0xAA#8, 0x42#8] ++ natBe 2 18 ++ natBe 2 (streamStreamId (s.rec_ .stream sid)) ++ natBe 4 (s.socOf sec) ++
    natBe 1 (tqByte s.time.tsw) ++ natBe 3 frac ++ natBe 2 code
  b ++ natBe 2 (crcCcitt b).toNat

/-- Commands are sent for a stream: CMD_ENABLE, KIND 0 or 1, in the modes from WARMUP to TAMPERHOLD (R128). -/
def State.commands (s : State) (sid : Nat) : Bool :=
  let r := s.rec_ .stream sid
  streamValid r == 1 && bitAt (streamSflags r) 3 && decide (streamKind r ≤ 1) && s.works

/-- Cut bytes into at most n segments of the peer's MSS (Table PRT-4): a command frame of 18 bytes is one, unless the MSS is
smaller. -/
def segments : Nat → Nat → Bytes → List Bytes
  | 0, _, _ => []
  | n + 1, mss, b => if b.isEmpty then [] else b.take (max 1 mss) :: segments n mss (b.drop (max 1 mss))

/-- Send one segment of data, which stays in flight until it is acknowledged. -/
def State.sendData (s : State) (sid : Nat) (d : Bytes) : State :=
  let q := (s.conn sid).sndNxt
  let s := s.tcpSend sid false true false q d
  s.modConn sid (fun c => { c with sndNxt := q + BitVec.ofNat 32 d.length, flight := c.flight ++ [(q, d, s.lts + 200000000, 0)], segs := 0,
                                   unacked := 0, ackDue := none })

/-- Send one command frame to a source: over UDP, or over the stream's connection while it is open. -/
def State.sendCommand (s : State) (sid code : Nat) : State :=
  if !s.commands sid then s
  else
    let b := s.commandFrame sid code
    let peer := s.streamPeer sid
    if streamKind (s.rec_ .stream sid) = 0 then
      (s.bump (ck1 .commandsSent sid)).serve (peerLinePort peer) s.cmdQueue
        (serviceFrame (peerVlanId peer) (28 + b.length) (BitVec.ofNat 48 (peerMac peer)) (BitVec.ofNat 32 (peerIp peer))
          (peerPport peer) (.command sid b))
    else if (s.conn sid).st == .open then
      forAll (segments 18 (s.conn sid).mss b) (s.bump (ck1 .commandsSent sid)) (fun s d => s.sendData sid d)
    else s

/-! Stream states (R126, R127). -/

/-- Codes of Table INT-10. -/
def StrState.code : StrState → Nat
  | .off => 0 | .waiting => 1 | .live => 2 | .stale => 3 | .mismatch => 4

/-- A stream enters a state (Table INT-11), counted; WAITING, STALE and MISMATCH ask for CFG-2 (Table INT-12). -/
def State.streamEnter (s : State) (sid : Nat) (st : StrState) : State :=
  let due : Option Ns := match st with | .waiting | .stale | .mismatch => some s.lts | _ => none
  (s.modStream sid (fun x => { x with st := st, idle := 0, cfgDue := due, layoutRun := if st == .mismatch then 0 else x.layoutRun
                                      goodRun := 0 })).bump (ck2 .stateEntries sid st.code)

/-- An item of class UNIT for a stream's object. -/
def State.streamPost (s : State) (sid lvl : Nat) : State := s.postFor lvl .unit (ck1 .delivered sid) 0

/-- Enter MISMATCH (Table INT-11), from WAITING, LIVE or STALE. -/
def State.mismatch (s : State) (sid : Nat) : State :=
  match (s.streamSt sid).st with
  | .off | .mismatch => s
  | _ => (s.streamEnter sid .mismatch).streamPost sid 4

/-- Leave MISMATCH. -/
def State.unmismatch (s : State) (sid : Nat) : State :=
  if (s.streamSt sid).st == .mismatch then (s.streamEnter sid .waiting).streamPost sid 2 else s

/-- A layout error (R504): 16 in a run enter MISMATCH. -/
def State.layoutError (s : State) (sid : Nat) : State :=
  let s := s.bump (ck1 .layoutErrors sid)
  let s := s.modStream sid (fun x => { x with layoutRun := x.layoutRun + 1, goodRun := 0 })
  if 16 ≤ (s.streamSt sid).layoutRun then s.mismatch sid else s

/-- A frame passes the layout rows (R504). -/
def State.layoutPass (s : State) (sid : Nat) : State := s.modStream sid (fun x => { x with layoutRun := 0 })

/-- A frame of the stream fails a parse check (R504). -/
def State.parseFail (s : State) (sid : Nat) : State := s.modStream sid (fun x => { x with goodRun := 0 })

/-- A frame of a stream in MISMATCH passes every parse check: 16 in a run leave the state (R504). -/
def State.parsePass (s : State) (sid : Nat) : State :=
  if (s.streamSt sid).st == .mismatch then
    let s := s.modStream sid (fun x => { x with goodRun := x.goodRun + 1 })
    if 16 ≤ (s.streamSt sid).goodRun then s.unmismatch sid else s
  else s

/-! Connections going down (R101, R127). -/

/-- A connection is reset or closes: it is opened again after 1 s, and its stream goes to WAITING at once with attention. -/
def State.tcpDown (s : State) (sid : Nat) : State :=
  let c := s.conn sid
  let p := s.connPort sid
  let s := s.modPort p (fun x => { x with used := x.used - c.partialBytes.length })
  let s := s.modConn sid (fun _ => { TcpConn.reset with reopenAt := some (s.lts + 1000000000) })
  if (s.streamSt sid).st == .off then s else (s.streamEnter sid .waiting).streamPost sid 3

/-- The device resets a connection (R102, R103), counted: a RST leaves. -/
def State.tcpReset (s : State) (sid : Nat) : State :=
  let s := s.tcpSend sid false true true (s.conn sid).sndNxt []
  (s.bump (ck1 .tcpResets (s.connPort sid))).tcpDown sid

/-- Open a connection actively from DST_PORT (R101): a SYN leaves; it is tried again after 1 s. The initial sequence number
is a free value (log entry 10). -/
def State.tcpOpen (s : State) (sid : Nat) : State :=
  let iss := (Config.trng s.free).setWidth 32
  let s := s.draw.modConn sid (fun _ => { TcpConn.reset with st := .synSent, sndNxt := iss + 1, sndUna := iss
                                                             reopenAt := some (s.lts + 1000000000) })
  s.tcpSend sid true false false iss []

/-- A stream of KIND 1 that is served: valid, its firmware started, and in a mode that serves connections (R503). -/
def State.tcpServed (s : State) (sid : Nat) : Bool :=
  let r := s.rec_ .stream sid
  streamValid r == 1 && streamKind r == 1 && s.works && s.portEnabled (s.connPort sid)

end Sys2Proof.Machine
end

