-- ==== Sys2Proof/Machine/Ports.lean ====
section
/-! DEFINITION. Line ports and frames on the wire (chapter 04): receiving, flow control, transmit queues, modules and
links. -/

namespace Sys2Proof.Machine

/-! Receiving (R89-R94). -/

/-- An accepted frame goes to its port's ingress buffer, or is dropped whole when that is full (R94), charged to the stream that
its first 128 bytes match. -/
def State.ingest (s : State) (p : Nat) (f : RxFrame) : State :=
  if (s.port p).used + f.len ≤ 2097152 then
    let i : InFrame := { stamp := s.arrival p f.sfdAgo, tcp := none, frame := f }
    (s.bump (ck1 .framesReceived p)).modPort p (fun x => { x with ingress := x.ingress ++ [i], used := x.used + f.len })
  else
    match (if f.keyEnd ≤ 128 then s.matchSid f else none) with
    | some sid => s.bump (ck1 .ingressDrops sid)
    | none => s.bump (ck1 .unattributed p)

/-- A Woide frame goes to MP's receive queue of 1 MiB; one that finds it full is discarded and counted (Table ARC-4 row 4). -/
def State.ingestMp (s : State) (f : RxFrame) : State :=
  if (s.port 4).used + f.len ≤ 1048576 then
    let i : InFrame := { stamp := s.arrival 4 f.sfdAgo, tcp := none, frame := f }
    (s.bump (ck1 .framesReceived 4)).modPort 4 (fun x => { x with ingress := x.ingress ++ [i], used := x.used + f.len })
  else s.bump (ck1 .crossingRefused 4)

/-- What the port consumes itself or hands to a unit of its own row: ARP requests for its own address, MAC control, the
segments of its connections (R92, R103), and what MGP, SVP and MP carry. -/
def State.consumes (s : State) (p : Nat) (f : RxFrame) : Bool :=
  let r := s.rec_ .port p
  decide (4 ≤ p) || (match frameBody f with
    | .arp request ip => request && portIp r != 0 && portIp r == ip.toNat && portVlanId r == frameVlan f
    | .tcp src sport dport => s.connFits p (frameVlan f) src sport dport
    | .macControl => true
    | _ => false)

/-- A frame received whole (Tables PRT-2, R91): the first row that fits. -/
def State.receive (s : State) (p : Nat) (f : RxFrame) : State :=
  let r := s.rec_ .port p
  let n := (knownTags f.tags).1.length
  if f.len ≤ 63 then s.bump (ck1 .runts p)
  else if !f.fcsGood then s.bump (ck1 .fcsErrors p)
  else if maxFrame r (min n 2) < f.len then s.bump (ck1 .oversize p)
  else if 3 ≤ n then s.bump (ck1 .unsupportedTags p)
  else if !isGroup f.dst && f.dst.toNat != portMac r then s.bump (ck1 .wrongDest p)
  else if p = 4 ∧ frameBody f = .woide then s.ingestMp f
  else if s.consumes p f then s.bump (ck1 .framesReceived p)
  else s.ingest p f

/-- FRAME_RECEIVE (R89). -/
def execFrameReceive (p : Port) (f : RxFrame) (s : State) : Host.Outcome State Fault Refusal :=
  .next (if s.portTakes p.val then s.receive p.val f else s)

/-- ARP_REQUEST (R92): answered for IPV4_ADDR on the port's VLAN, in the queue that CMD_QUEUE names. MP answers none. -/
def execArpRequest (p : Port) (vid : BitVec 12) (target senderIp : BitVec 32) (senderMac : BitVec 48) (s : State) :
    Host.Outcome State Fault Refusal :=
  let r := s.rec_ .port p.val
  if s.portTakes p.val && p.val != 4 && (s.works || decide (5 ≤ p.val)) && portIp r != 0 && portIp r == target.toNat &&
      portVlanId r == vid.toNat then
    let f := serviceFrame (portVlanId r) 28 senderMac senderIp 0 (.arp senderIp senderMac)
    .next ((s.bump (ck1 .arpAnswered p.val)).place p.val (if p.val < 4 then s.cmdQueue else 0) f)
  else .next s

/-! Flow control (R98-R100, Table PRT-3). -/

/-- A queue is held: its pause timer runs (R99). -/
def State.held (s : State) (p q : Nat) : Bool := (s.port p).pause.any (fun e => e.1 == q && decide (s.lts < e.2))

/-- A hold of a queue ends. -/
def PortSt.free (x : PortSt) (q : Nat) : PortSt :=
  { x with pause := adel x.pause q, heldFrom := adel x.heldFrom q, stalled := x.stalled.filter (fun n => n != q) }

/-- Load, reload or cancel a queue's pause timer with a time in quanta (Table PRT-3). A hold begins at the end of a frame
in transmission. -/
def State.loadPause (s : State) (p q quanta : Nat) : State :=
  if quanta = 0 then s.modPort p (fun x => x.free q)
  else
    let due := s.lts + pauseNs (portPhy (s.rec_ .port p)) quanta
    let was := s.held p q
    s.modPort p (fun x =>
      let y := if was then x else x.free q
      { y with pause := aput y.pause q due, heldFrom := if was then y.heldFrom else aput y.heldFrom q s.lts })

/-- Q7 of a line port may be held (Q7_PAUSABLE). -/
def State.pausable (s : State) (p q : Nat) : Bool := q != 7 || portQ7Pausable (s.rec_ .port p) == 1

/-- The queues that PAUSE holds on a port: the eight of a line port, the one of MGP or SVP. -/
def State.pauseQueues (s : State) (p : Nat) : List Nat := if p < 4 then (List.range 8).filter (s.pausable p) else [0]

/-- PAUSE_FRAME (R98, R99). MP honours none and counts none. On a port with PAUSE_EN set, a Q7 that may not pause is passed over, and
nothing is counted for it as flow control ignored (DESIGN CHOICE, log entry 45). -/
def execPauseFrame (p : Port) (quanta : Nat) (s : State) : Host.Outcome State Fault Refusal :=
  if !s.portTakes p.val || p.val == 4 then .next s
  else if portPauseEn (s.rec_ .port p.val) = 0 then .next (s.bump (ck1 .flowIgnored p.val))
  else .next (forAll (s.pauseQueues p.val) (s.bump (ck1 .pauseFrames p.val)) (fun s q => s.loadPause p.val q (quanta % 65536)))

/-- PFC_FRAME (R98, R99): each priority whose class-enable bit is set; the Q7 part has no effect with Q7_PAUSABLE clear. -/
def execPfcFrame (p : Port) (vector : BitVec 8) (quanta : List Nat) (s : State) : Host.Outcome State Fault Refusal :=
  if !s.portTakes p.val || p.val == 4 then .next s
  else if portPfcEn (s.rec_ .port p.val) = 0 then .next (s.bump (ck1 .flowIgnored p.val))
  else
    let named := bitsOf 8 vector.toNat
    let qs := named.filter (s.pausable p.val)
    let s := if qs.length < named.length then s.bump (ck1 .flowIgnored p.val) else s
    let s := if qs.isEmpty && !named.isEmpty then s else s.bump (ck1 .pauseFrames p.val)
    .next (forAll qs s (fun s q => s.loadPause p.val q (quanta.getD q 0 % 65536)))

/-- MAC_CONTROL_OTHER (Table PRT-3). -/
def execMacControlOther (p : Port) (opcode : BitVec 16) (s : State) : Host.Outcome State Fault Refusal :=
  if s.portTakes p.val && p.val != 4 && opcode != 0x0001#16 && opcode != 0x0101#16 then .next (s.bump (ck1 .macOther p.val))
  else .next s

/-- PAUSE_TIMER_EXPIRY (R99). -/
def execPauseTimerExpiry (p : Port) (q : Queue) (s : State) : Host.Outcome State Fault Refusal :=
  match aget (s.port p.val).pause q.val with
  | some due => .next (if due ≤ s.lts then s.modPort p.val (fun x => x.free q.val) else s)
  | none => .next s

/-- PAUSE_STALL (Table PRT-3): counted once for each continuous hold of 100 ms. -/
def execPauseStall (p : Port) (q : Queue) (s : State) : Host.Outcome State Fault Refusal :=
  match aget (s.port p.val).heldFrom q.val with
  | some t =>
    if s.held p.val q.val && decide (t + 100000000 ≤ s.lts) && !(s.port p.val).stalled.contains q.val then
      .next ((s.modPort p.val (fun x => { x with stalled := x.stalled ++ [q.val] })).bumpOnce (ck1 .pauseStalls p.val) 3 .unit)
    else .next s
  | none => .next s

/-! Transmit queues (R95-R97, R158, R159, R370). -/

/-- The slack of a queue in ns (Table PUB-1). -/
def State.slackNs (s : State) (q : Nat) : Nat := fld (pubHdrSlacks (s.rec_ .pubHdr 0)) (16 * q + 15) (16 * q) * 1000

/-- A copy in Q0-Q6 has not started by L plus its queue's slack (R370). -/
def State.late (s : State) (q : Nat) (f : TxFrame) : Bool :=
  decide (q < 7) && f.launch != 0 && decide (f.launch + s.slackNs q ≤ s.dt)

/-- Discard the late copies of a queue of a line port, those held for room among them. -/
def State.dropLate (s : State) (p q : Nat) : State :=
  let x := s.port p
  let l := x.queues.getD q []
  let n := (l.filter (s.late q)).length + (x.waiting.filter (fun w => w.1 == q && s.late q w.2)).length
  if n = 0 then s
  else
    (s.bumpBy (ck2 .lateDrops p q) n).modPort p (fun x =>
      { x with
        queues := setAt x.queues q (l.filter (fun f => !s.late q f))
        waiting := x.waiting.filter (fun w => !(w.1 == q && s.late q w.2))
        armed := if (match l with | f :: _ => s.late q f | [] => false) then x.armed.filter (fun n => n != q) else x.armed })

/-- LATE_DROP (R370). -/
def execLateDrop (p : LinePort) (q : Queue) (s : State) : Host.Outcome State Fault Refusal := .next (s.dropLate p.val q.val)

/-- A queue's head may start: L is 0, the launch strobe has armed it, or L has been reached at the reference plane (R158). -/
def State.ready (s : State) (p q : Nat) (f : TxFrame) : Bool :=
  f.launch == 0 || (s.port p).armed.contains q || decide (f.launch ≤ s.departure p)

/-- The guard of R159: the frame's last bit, the inter-frame gap and a preamble leave at or before the launch time of every
higher queue's waiting head. -/
def State.guarded (s : State) (p q : Nat) (f : TxFrame) : Bool :=
  (List.range 8).all (fun h =>
    if h ≤ q then true
    else match ((s.port p).queues.getD h []) with
      | g :: _ => s.ready p h g || decide (s.departure p * 1000 + (f.len + 20) * s.bytePs p ≤ g.launch * 1000)
      | [] => true)

/-- The queue that starts next (R95): the highest that is not empty and not held, with an eligible head. -/
def State.nextQueue (s : State) (p : Nat) : Option (Nat × TxFrame) :=
  ((List.range 8).reverse).findSome? (fun q =>
    match (s.port p).queues.getD q [] with
    | f :: _ => if !s.held p q && s.ready p q f && s.guarded p q f then some (q, f) else none
    | [] => none)

/-- The record of a PTP domain on a port. -/
def State.ptpRecOf (s : State) (p domain : Nat) : Option Nat :=
  (List.range 2).find? (fun i =>
    let r := s.rec_ .ptpRec i
    ptpRecValid r == 1 && ptpRecDomain r == domain && bitAt (ptpRecPortMask r) p)

/-- Change one PTP record's state. -/
def State.modPtp (s : State) (i : Nat) (f : PtpSt → PtpSt) : State :=
  { s with time := { s.time with ptp := modAt s.time.ptp i f } }

/-- A frame of Hearth's own on a line port (R55, Table TIM-5): 2 Pdelay_Req, 3 Pdelay_Resp, 10 Pdelay_Resp_Follow_Up. -/
def State.ptpSend (s : State) (i p kind seq : Nat) (stamp : Ns) : State :=
  let r := s.rec_ .ptpRec i
  s.serve p (ptpRecTxQueue r) (serviceFrame (ptpRecVlanId r) 54 0x0180C200000E#48 0 0 (.ptp (ptpRecDomain r) kind seq stamp))

/-- A PTP frame departs (R93, R139): the stamp of a Pdelay_Req is t1; a Pdelay_Resp is followed up with its stamp. -/
def State.ptpDeparts (s : State) (p : Nat) (b : TxBody) (stamp : Ns) : State :=
  match b with
  | .ptp domain kind seq _ =>
    match s.ptpRecOf p domain with
    | some i =>
      if kind = 2 then s.modPtp i (fun x => { x with delays := x.delays.map (fun e =>
          if e.1 = p ∧ e.2.seq = seq then (e.1, { e.2 with t1 := some stamp }) else e) })
      else if kind = 3 then s.ptpSend i p 10 seq stamp
      else s
    | none => s
  | _ => s

/-- Take the head of a queue away. -/
def PortSt.pop (x : PortSt) (q : Nat) : PortSt :=
  { x with queues := modAt x.queues q List.tail, armed := x.armed.filter (fun n => n != q) }

/-- Frames that reach the head of a queue while the link is down are discarded (R104). -/
def State.dropHead (s : State) (p : Nat) : State :=
  match (List.range 8).reverse.find? (fun q => !((s.port p).queues.getD q []).isEmpty) with
  | some q => (s.bump (ck1 .undelivered p)).modPort p (fun x => x.pop q)
  | none => s

/-- Start a frame on the wire: the PCP of its tag is the number of its queue (R97). -/
def State.startFrame (s : State) (p q : Nat) (f : TxFrame) : State :=
  let d := s.departure p
  let s := if q = 7 ∧ p < 4 ∧ f.launch ≠ 0 ∧ f.launch + 3 < d then s.bump (ck2 .lateLaunches p q) else s
  let s := s.modPort p (fun x => { x.pop q with wire := some (q, { f with pcp := if f.vid = 0 then 0 else q }), wireAt := d, wireFrom := s.lts })
  s.ptpDeparts p f.body d

/-- TRANSMIT_START (R95, R158, R159). -/
def execTransmitStart (p : Port) (s : State) : Host.Outcome State Fault Refusal :=
  let x := s.port p.val
  if !x.on || x.wire.isSome || decide (s.lts < x.idleAt) then .next s
  else if !x.link then .next (s.dropHead p.val)
  else
    let s := if p.val < 4 then forAll (List.range 7) s (fun s q => s.dropLate p.val q) else s
    match s.nextQueue p.val with
    | some (q, f) => .next (s.startFrame p.val q f)
    | none => .next s

/-- TRANSMIT_END (R106): the last bit has left; a queue held in the meantime is held from here (Table PRT-3). -/
def execTransmitEnd (p : Port) (s : State) : Host.Outcome State Fault Refusal :=
  let x := s.port p.val
  match x.wire with
  | some (q, f) =>
    if (s.lts - x.wireFrom) * 1000 < f.len * s.bytePs p.val then .next s
    else
      let s := if p.val < 4 then s.bump (ck2 .framesTransmitted p.val q) else s
      let held := s.held p.val q
      .next (s.modPort p.val (fun x =>
        { x with
          wire := none, idleAt := s.lts + (12 * s.bytePs p.val + 999) / 1000
          heldFrom := if held then aput x.heldFrom q s.lts else x.heldFrom }))
  | none => .next s

/-- QUEUE_ROOM_AVAILABLE (R96, R55): the first frame held for a queue is placed once the queue has room. -/
def execQueueRoomAvailable (p : Port) (q : Queue) (s : State) : Host.Outcome State Fault Refusal :=
  let x := s.port p.val
  match x.waiting.findIdx? (fun w => w.1 == q.val) with
  | some i =>
    match x.waiting[i]? with
    | some (_, f) =>
      let l := x.queues.getD q.val []
      if queueUsed l + f.len ≤ queueRoom (s.rec_ .port p.val) p.val q.val then
        .next (s.modPort p.val (fun x => { x with queues := setAt x.queues q.val (l ++ [f]), waiting := x.waiting.eraseIdx i }))
      else .next s
    | none => .next s
  | none => .next s

/-- The queues of a port whose head's launch time has been reached. -/
def State.launchable (s : State) (p : Nat) : List Nat :=
  (List.range 8).filter (fun q => match (s.port p).queues.getD q [] with
    | f :: _ => f.launch != 0 && decide (f.launch ≤ s.departure p)
    | [] => false)

/-- LAUNCH_STROBE (R158): the head frames of the line ports' queues are armed. -/
def execLaunchStrobe (s : State) : Host.Outcome State Fault Refusal :=
  .next (forAll (List.range 4) s (fun s p =>
    let l := s.launchable p
    s.modPort p (fun x => { x with armed := l ++ x.armed.filter (fun q => !l.contains q) })))

/-! Modules and links (R104, R105). -/

/-- The link of a port goes down (R105): the frame in transmission is undelivered, and one in reception an FCS error. -/
def State.linkFalls (s : State) (p : Nat) (receiving : Bool) : State :=
  let s := s.bump (ck1 .linkDowns p)
  let s := if receiving && s.portTakes p then s.bump (ck1 .fcsErrors p) else s
  let s := if (s.port p).wire.isSome then s.bump (ck1 .undelivered p) else s
  s.modPort p (fun x => { x with link := false, wire := none, idleAt := s.lts })

/-- The cage of a port. -/
def State.cage (s : State) (c : Nat) : CageSt := s.cages.getD c CageSt.reset

/-- Change a cage. -/
def State.modCage (s : State) (c : Nat) (f : CageSt → CageSt) : State := { s with cages := modAt s.cages c f }

/-- MODULE_INSERTED (Sequence PRT-1): accepted after 10 ms at the present level. -/
def execModuleInserted (cage : Fin 5) (s : State) : Host.Outcome State Fault Refusal :=
  if (s.cage cage.val).present then .next s
  else
    let s := s.modCage cage.val (fun _ => { present := true, since := s.lts, txOn := false, initDone := false, supports := false })
    .next ((s.bump (ck1 .moduleInsertions cage.val)).postFor 2 .unit (ck1 .moduleInsertions cage.val) 0)

/-- MODULE_INIT_DONE (Sequence PRT-1): 300 ms after acceptance the identity has been read; the transmitter is enabled 10 ms
later when ENABLE is set and the module supports PHY. -/
def execModuleInitDone (cage : Fin 5) (supportsPhy : Bool) (s : State) : Host.Outcome State Fault Refusal :=
  let c := s.cage cage.val
  if !c.present || c.initDone || decide (s.lts < c.since + 300000000) then .next s
  else
    let ok := s.portEnabled cage.val && supportsPhy
    let s := s.modCage cage.val (fun c => { c with initDone := true, txOn := ok, supports := supportsPhy })
    .next (if ok then s else s.postFor 4 .unit (ck1 .moduleInsertions cage.val) 0)

/-- MODULE_REMOVED (R104): absent for 1 ms; the link is down from that moment. -/
def execModuleRemoved (x : CageFall) (s : State) : Host.Outcome State Fault Refusal :=
  if !(s.cage x.cage.val).present then .next s
  else
    let s := s.modCage x.cage.val (fun c => { c with present := false, txOn := false, initDone := false })
    .next (if (s.port x.cage.val).link then s.linkFalls x.cage.val x.receiving else s)

/-- The module of a port lets its link come up: MGP and SVP have no cage; elsewhere the transmitter is on, from 310 ms after
the module's acceptance. -/
def State.linkAble (s : State) (p : Nat) : Bool :=
  decide (p = 5) || (decide (p = 6) && s.panel.svcDet) || (decide (p < 5) && (s.cage p).present && (s.cage p).txOn && s.portEnabled p &&
    ((s.cage p).since == 0 || decide ((s.cage p).since + 310000000 ≤ s.lts)))

/-- LINK_UP (R104, R105): pause timers start empty. -/
def execLinkUp (p : Port) (s : State) : Host.Outcome State Fault Refusal :=
  if !(s.port p.val).on || (s.port p.val).link || !s.linkAble p.val then .next s
  else .next ((s.bump (ck1 .linkUps p.val)).modPort p.val (fun x => { x with link := true, pause := [], heldFrom := [], stalled := [] }))

/-- LINK_DOWN (R105). -/
def execLinkDown (x : LinkFall) (s : State) : Host.Outcome State Fault Refusal :=
  .next (if (s.port x.port.val).link then s.linkFalls x.port.val x.receiving else s)

end Sys2Proof.Machine
end

