-- ==== Sys2Proof/Machine/Tcp.lean ====
section
/-! DEFINITION. The TCP receive offload (R101-R103, Table PRT-4). -/

namespace Sys2Proof.Machine

/-- Cut a byte stream into whole C37.118.2 frames by FRAMESIZE (R103): the frames, the bytes left, and whether a FRAMESIZE
below 18 or above 65,535 less the bytes held before it resets the connection. `known` says that the first frame's FRAMESIZE
has been read before. -/
def rebuild : Nat → Nat → Bool → Bytes → List Bytes × Bytes × Bool
  | 0, _, _, b => ([], b, false)
  | n + 1, held, known, b =>
    if b.length < 4 then ([], b, false)
    else
      let size := c37Size b
      if !known && (decide (size < 18) || decide (65535 - held < size)) then ([], b, true)
      else if b.length < size then ([], b, false)
      else
        let r := rebuild n 0 false (b.drop size)
        (b.take size :: r.1, r.2)

/-- A frame of the offload in the ingress buffer, with the stamp of the segment that carried its last byte (R103). -/
def tcpFrame (sid : Nat) (stamp : Ns) (b : Bytes) : InFrame :=
  { stamp := stamp, tcp := some sid
    frame := { len := b.length, fcsGood := true, tags := [], dst := 0, src := 0, sfdAgo := 0, keyEnd := 0, body := .udp 0 0 0 0 b.length (.c37 b) } }

/-- What an ACK number acknowledges: data segments of n bytes that end at or before it. -/
def ackedBy (a q : BitVec 32) (n : Nat) : Bool := decide ((a - (q + BitVec.ofNat 32 n)).toNat < 2 ^ 31)

/-- Take an ACK number. -/
def State.takeAck (s : State) (sid : Nat) (a : Option (BitVec 32)) : State :=
  match a with
  | some a => s.modConn sid (fun c => { c with sndUna := a, flight := c.flight.filter (fun f => !ackedBy a f.1 f.2.1.length) })
  | none => s

/-- In-order data (R103): straight to the ingress buffer, whole frames passed on, an ACK for every second full segment and
otherwise within 500 µs (Table PRT-4). -/
def State.takeData (s : State) (sid : Nat) (seg : TcpSeg) : State :=
  let p := s.connPort sid
  let c := s.conn sid
  let held := c.partialBytes.length
  let r := rebuild (seg.data.length + held) held (decide (4 ≤ held)) (c.partialBytes ++ seg.data)
  let stamp := s.arrival p seg.sfdAgo
  let full := portTcpMss (s.rec_ .port p) ≤ seg.data.length
  let s := s.modPort p (fun x => { x with used := x.used + seg.data.length, ingress := x.ingress ++ r.1.map (tcpFrame sid stamp) })
  let s := s.modConn sid (fun c =>
    { c with
      rcvNxt := c.rcvNxt + BitVec.ofNat 32 seg.data.length, partialBytes := r.2.1, unacked := c.unacked + seg.data.length
      segs := if full then c.segs + 1 else c.segs
      ackDue := match c.ackDue with | some t => some t | none => some (s.lts + 500000) })
  if r.2.2 then s.tcpReset sid
  else if 2 ≤ (s.conn sid).segs then s.tcpAck sid else s

/-- A segment of a connection (R102, R103). -/
def State.tcpTake (s : State) (sid : Nat) (seg : TcpSeg) : State :=
  let p := s.connPort sid
  let c := s.conn sid
  if seg.options || seg.fragment then s.bump (ck1 .tcpDiscarded p)
  else match c.st with
    | .closed => s
    | .synSent =>
      if seg.rst then s.modConn sid (fun _ => { TcpConn.reset with reopenAt := some (s.lts + 1000000000) })
      else if seg.syn && seg.ackNo == some c.sndNxt then
        (s.modConn sid (fun c =>
          { c with st := .open, sndUna := c.sndNxt, rcvNxt := seg.seqNo + 1, reopenAt := none, wscale := seg.wscale
                   mss := seg.mss.getD 536, ts := seg.tsVal.isSome && portTcpTs (s.rec_ .port p) == 1, tsRecent := seg.tsVal.getD 0 })).tcpAck sid
      else s
    | .open =>
      if seg.rst then s.tcpDown sid
      else
        let s := s.takeAck sid seg.ackNo
        let s := if seg.seqNo = c.rcvNxt then s.modConn sid (fun c => { c with tsRecent := seg.tsVal.getD c.tsRecent }) else s
        if seg.data.isEmpty && !seg.fin then s
        else if seg.seqNo != c.rcvNxt then (s.bump (ck1 .tcpOutOfOrder p)).tcpAck sid
        else
          let s := if seg.data.isEmpty then s else s.takeData sid seg
          if seg.fin && (s.conn sid).st == .open then
            ((s.modConn sid (fun c => { c with rcvNxt := c.rcvNxt + 1 })).tcpAck sid).tcpDown sid
          else s

/-- TCP_SEGMENT. -/
def execTcpSegment (sid : Fin 8192) (seg : TcpSeg) (s : State) : Host.Outcome State Fault Refusal :=
  .next (if s.tcpServed sid.val && s.portTakes (s.connPort sid.val) then s.tcpTake sid.val seg else s)

/-- TCP_REOPEN (R101). -/
def execTcpReopen (sid : Fin 8192) (s : State) : Host.Outcome State Fault Refusal :=
  match (s.conn sid.val).reopenAt with
  | some t => .next (if s.tcpServed sid.val && decide (t ≤ s.lts) then s.tcpOpen sid.val else s)
  | none => .next s

/-- TCP_RETRANSMIT (Table PRT-4): 200 ms after a command segment was sent; after five retransmissions the connection is
reset. -/
def execTcpRetransmit (sid : Fin 8192) (s : State) : Host.Outcome State Fault Refusal :=
  match (s.conn sid.val).flight.find? (fun f => decide (f.2.2.1 ≤ s.lts)) with
  | some (q, b, _, n) =>
    if !s.tcpServed sid.val then .next s
    else if 5 ≤ n then .next (s.tcpReset sid.val)
    else
      let s := s.modConn sid.val (fun c => { c with flight := c.flight.map (fun f =>
        if f.1 = q then (q, b, s.lts + 200000000, n + 1) else f) })
      .next (s.tcpSend sid.val false true false q b)
  | none => .next s

/-- TCP_ACK_TIMER (Table PRT-4). -/
def execTcpAckTimer (sid : Fin 8192) (s : State) : Host.Outcome State Fault Refusal :=
  match (s.conn sid.val).ackDue with
  | some t => .next (if s.tcpServed sid.val && (s.conn sid.val).st == .open && decide (t ≤ s.lts) then s.tcpAck sid.val else s)
  | none => .next s

/-- TCP_CONNECTION_RESET (R127): an open connection is reset or closes. -/
def execTcpConnectionReset (sid : Fin 8192) (s : State) : Host.Outcome State Fault Refusal :=
  .next (if s.tcpServed sid.val && (s.conn sid.val).st == .open then s.tcpDown sid.val else s)

end Sys2Proof.Machine
end

