-- ==== Sys2Proof/Machine/Intake.lean ====
section
/-! DEFINITION. Stream intake and authentication (chapter 05): the classifier's stages, stream states and the commands to
sources. -/

namespace Sys2Proof.Machine

/-! Delivery (R125, R17, R390). -/

/-- The regions whose slices take a stream's frames (R17): its home region, and those of the watch groups with a member in
it. -/
def State.deliverTo (s : State) (sid : Nat) : List Nat :=
  let home := streamHomeRegion (s.rec_ .stream sid)
  let r := s.rec_ .stream sid
  let chans := (List.range (streamChanCount r)).map (fun i => s.rec_ .chan (streamChanBase r + i))
  home :: (List.range 4).filter (fun g => g != home && chans.any (fun c =>
    chanValid c == 1 && decide (chanSource c ≤ 3) && chanWgMember c == 1 && groupRegion (s.rec_ .group (chanWatchGroup c)) == g))

/-- ARRIVAL - TAG joins the latency statistic (R131). -/
def StreamSt.latency (x : StreamSt) (v : Int) : StreamSt :=
  { x with latMin := if x.lats.isEmpty then v else min x.latMin v, latMax := if x.lats.isEmpty then v else max x.latMax v
           lats := v :: x.lats.take 2399 }

/-- Fill the partner with a delivered frame (R390): matched maps, the frame's own content, at most 1,420 bytes; charged to
MIRROR at its home region, 32 bytes a flit (log entry 35). -/
def State.fillPartner (s : State) (d : Delivery) (body : UdpBody) : State :=
  if !s.paired || d.mirror || !bitAt (streamSflags (s.rec_ .stream d.sid)) 0 || !s.mapsMatch then s
  else
    let n := (fillContent body).length
    if 1420 < n then s.bump (ck .fillsTooLarge)
    else if s.woideOn && s.pair.link == .up then
      let s := s.charge (streamHomeRegion (s.rec_ .stream d.sid)) 8 { cycles := 0, dram := 0, flits := ((n + 31) / 32 : Nat), egress := 0 }
      (s.bump (ck .fillsSent)).mirror (.fill d.fillHdr body)
    else s

/-- A delivery's effect on the stream's state (R127): WAITING and STALE become LIVE. -/
def State.streamAlive (s : State) (sid : Nat) : State :=
  let s := match (s.streamSt sid).st with
    | .waiting => s.streamEnter sid .live
    | .stale => (s.streamEnter sid .live).streamPost sid 1
    | _ => s
  s.modStream sid (fun x => { x with fresh := true, idle := 0 })

/-- Deliver a frame (R125): counted, to its slices, and to the filter chain where it holds samples. -/
def State.deliver (s : State) (d : Delivery) (body : UdpBody) : State :=
  let s := (s.bump (ck1 .delivered d.sid)).streamAlive d.sid
  let s := s.modStream d.sid (fun x => x.latency ((d.arrival : Int) - d.tag))
  let s := forAll (s.deliverTo d.sid) s (fun s r => s.modSlice r (fun x => { x with queue := x.queue ++ [.frame d] }))
  let s := if 2 ≤ d.kind then s.svToChain d else s
  let s := if d.cfgChange && s.commands d.sid && decide ((s.streamSt d.sid).cfgHold ≤ s.lts) then
      (s.sendCommand d.sid 5).modStream d.sid (fun x => { x with cfgHold := s.lts + 5000000000 })
    else s
  s.fillPartner d body

/-! Duplicate window (R123, Table INT-8). -/

/-- The oldest tag of a window. -/
def oldestTag : List (Ns × BitVec 32) → Option Ns
  | [] => none
  | e :: es => match oldestTag es with | some t => some (min e.1 t) | none => some e.1

/-- A tag and digest enter the window; of more than 16 the oldest tag leaves. -/
def windowPut (w : List (Ns × BitVec 32)) (e : Ns × BitVec 32) : List (Ns × BitVec 32) :=
  if w.length < 16 then e :: w
  else match oldestTag w with | some t => e :: w.filter (fun x => x.1 != t) | none => [e]

/-- The duplicate window's verdict: none where the frame is discarded. -/
def State.window7 (s : State) (d : Delivery) : State × Option Delivery :=
  let w := (s.streamSt d.sid).window
  match w.find? (fun e => e.1 == d.tag) with
  | some e => if e.2 = d.digest then (s.duplicate d.sid, none) else (s.digestConflict d.sid, none)
  | none =>
    let old := match oldestTag w with | some t => decide (d.tag < t) | none => false
    if old then (s, some { d with behind := true })
    else (s.modStream d.sid (fun x => { x with window := windowPut x.window (d.tag, d.digest) }), some d)

/-! Tags (R119, R122). -/

/-- The tag of a C37.118.2 frame and its offset from the nearest grid point in ns; none where it is off-grid. -/
def State.gridTag (s : State) (sid : Nat) (b : Bytes) : Option (Ns × Int) :=
  let r := s.rec_ .stream sid
  let rate := rateOf (streamRateCode r)
  let tb := fld (s.rec_ .tbWord sid) 23 0
  let f := c37Frac b % 2 ^ 24
  let sec := s.secOfSoc (c37Soc b) (bitAt (c37Frac b) 29)
  if tb = 0 ∨ rate = 0 then none
  else
    let k := (2 * f * rate + tb) / (2 * tb)
    let off := roundHalf (((f * rate : Nat) : Int) * 1000000000 - ((k * tb : Nat) : Int) * 1000000000) (tb * rate)
    if off.natAbs ≤ streamOffgridTol r then some (gridPoint rate (sec * rate + k), off) else none

/-- Stages 6 and 7: tag check and duplicate window. -/
def State.tagCheck (s : State) (d : Delivery) : State × Option Delivery :=
  if d.kind ≤ 1 then
    match s.gridTag d.sid d.bytes with
    | some (t, o) => s.window7 { d with tag := t, gridOff := o }
    | none => (s.bump (ck1 .offGrid d.sid), none)
  else
    let rate := svRate (streamRateCode (s.rec_ .stream d.sid))
    s.window7 { d with tag := svTag rate (match d.asdus with | a :: _ => a.smpCnt | [] => 0) d.arrival }

/-! Parsing (R116-R118, Tables INT-5 and INT-6). -/

/-- A delivery with nothing marked. -/
def blankDelivery (sid kind port : Nat) (arrival : Ns) : Delivery :=
  { sid := sid, kind := kind, tag := 0, gridOff := 0, arrival := arrival, test := false, unsync := false, auth := false
    mirror := false, cfgChange := false, blockInvalid := false, behind := false, tq := 0, port := port, digest := 0, len := 0
    badBlocks := [], bytes := [], asdus := [] }

/-- Drop a frame at a parse check. -/
def State.parseDrop (s : State) (sid : Nat) (c : Ctr) : State := (s.bump (ck1 c sid)).parseFail sid

/-- The content of a C37.118.2 frame: SYNC up to the byte before CHK (R123). -/
def c37Content (b : Bytes) : Bytes := b.take (b.length - 2)

/-- A data frame past its checks: its delivery with the marks of Table INT-5. -/
def State.c37Marks (s : State) (sid p kind : Nat) (arrival : Ns) (b : Bytes) : State × Delivery :=
  let l := s.layout sid
  let stats := (List.range l.blocks).map (fun i => blockStat l b i)
  let bad := (List.range l.blocks).filter (fun i => bitAt (stats.getD i 0) 14)
  let test := stats.any (fun x => fld x 15 14 == 2)
  let cfg := stats.any (fun x => bitAt x 10)
  let s := s.bumpBy (ck1 .invalidBlocks sid) bad.length
  let s := if test then s.bump (ck1 .testFrames sid) else s
  let s := if cfg then s.bump (ck1 .cfgChanges sid) else s
  (s, { blankDelivery sid kind p arrival with
        test := test, cfgChange := cfg, blockInvalid := !bad.isEmpty, tq := fld (c37Frac b) 27 24, digest := crc32c (c37Content b)
        len := b.length - 16, badBlocks := bad, bytes := b })

/-- Counts of a layout's block: phasors, analogs, digital words. -/
def LayoutAcc.counts (l : LayoutAcc) (i : Nat) : Nat × Nat × Nat :=
  let n (src : Nat) : Nat := (l.vals.filter (fun v => v.block == i && v.source == src)).length
  (n 0, n 1, n 2)

/-- Compare the PMU entries of a CFG-2 frame from an offset on with the layout's blocks (R117): whether all agree, and the
offset behind them. -/
def cfgBlocks (b : Bytes) (fmt : Nat) (l : LayoutAcc) : List Nat → Nat → Bool × Nat
  | [], off => (true, off)
  | i :: is, off =>
    let ph := beAt b (off + 20) 2
    let an := beAt b (off + 22) 2
    let dg := beAt b (off + 24) 2
    let next := off + 26 + 16 * (ph + an + 16 * dg) + 4 * (ph + an + dg) + 4
    let r := cfgBlocks b fmt l is next
    (beAt b (off + 18) 2 == fmt && l.counts i == (ph, an, dg) && r.1, r.2)

/-- A CFG-2 frame agrees with the stream's layout and descriptor (R117). -/
def State.cfgAgrees (s : State) (sid : Nat) (b : Bytes) : Bool :=
  let r := s.rec_ .stream sid
  let l := s.layout sid
  let c := cfgBlocks b (streamExpFormat r) l (List.range l.blocks) 20
  beAt b 18 2 == l.blocks && c.1 && signed 16 (beAt b c.2 2) == ((rateOf (streamRateCode r) : Nat) : Int) &&
  fld (beAt b 14 4) 23 0 == fld (s.rec_ .tbWord sid) 23 0

/-- Parse a frame of KIND 0 or 1 (Table INT-5), in row order; the delivery where it is a data frame that passes. -/
def State.parseC37 (s : State) (sid p kind : Nat) (arrival : Ns) (b : Bytes) : State × Option Delivery :=
  let v := c37Version b
  let t := c37Type b
  if beAt b 0 1 ≠ 0xAA ∨ (v ≠ 1 ∧ v ≠ 2) ∨ 6 ≤ t then (s.parseDrop sid .parseErrors, none)
  else if kind = 0 ∧ c37Size b ≠ b.length then (s.parseDrop sid .sizeMismatches, none)
  else if !c37ChkOk b then (s.parseDrop sid .checkErrors, none)
  else if t = 3 then
    let s := s.bump (ck1 .cfg2 sid)
    (if s.cfgAgrees sid b then s.unmismatch sid else s.mismatch sid, none)
  else if t ≠ 0 then (s.bump (ck1 .cfgOther sid), none)
  else if c37Size b ≠ s.layoutSize sid then (s.layoutError sid, none)
  else
    if fld (s.rec_ .tbWord sid) 23 0 ≤ c37Frac b % 2 ^ 24 then (s.parseDrop sid .parseErrors, none)
    else
    let s := s.layoutPass sid
    if (s.streamSt sid).st == .mismatch then (s.parsePass sid, none)
    else
      let x := s.c37Marks sid p kind arrival b
      (x.1, some x.2)

/-- The highest POSITION mapped from a sampled-value stream, plus one. -/
def State.svChannels (s : State) (sid : Nat) : Nat :=
  ((List.range 8).filter (fun p => (s.chainEntry (64 + 8 * sid + p)).isSome)).foldl (fun m p => max m (p + 1)) 0

/-- smpCnt runs on from ASDU to ASDU, modulo the rate. -/
def consecutive (rate : Nat) : List Asdu → Bool
  | a :: b :: rest => (a.smpCnt + 1) % rate == b.smpCnt && consecutive rate (b :: rest)
  | _ => true

/-- Parse a frame of KIND 2 or 3 (Table INT-6), in row order. -/
def State.parseSv (s : State) (sid p kind : Nat) (arrival : Ns) (f : SvFrame) : State × Option Delivery :=
  let rate := svRate (streamRateCode (s.rec_ .stream sid))
  if kind = 2 ∧ (f.sessionId ≠ 0xA2#8 ∨ f.encrypted = true ∨ f.apduCount ≠ 1) then (s.parseDrop sid .unsupported, none)
  else if !f.berOk then (s.parseDrop sid .parseErrors, none)
  else if f.asdus.length ≠ rate / 2400 then (s.layoutError sid, none)
  else if f.asdus.any (fun a => decide (rate ≤ a.smpCnt)) || !consecutive rate f.asdus then (s.parseDrop sid .parseErrors, none)
  else if f.dataLen % 8 ≠ 0 ∨ 64 < f.dataLen ∨ f.dataLen < 8 * s.svChannels sid then (s.layoutError sid, none)
  else
    let s := s.layoutPass sid
    if (s.streamSt sid).st == .mismatch then (s.parsePass sid, none)
    else
      let quals := f.asdus.flatMap (fun a => a.samples.map (fun x => x.2.toNat))
      let bad := (quals.filter (fun q => q % 4 != 0)).length
      let unsync := f.asdus.any (fun a => a.smpSynch != 2)
      let test := f.simulation || quals.any (fun q => bitAt q 11)
      let s := if unsync then s.bump (ck1 .unsyncFrames sid) else s
      let s := s.bumpBy (ck1 .invalidSamples sid) bad
      let s := if test then s.bump (ck1 .testFrames sid) else s
      (s, some { blankDelivery sid kind p arrival with
                 test := test, unsync := unsync, blockInvalid := decide (0 < bad), digest := crc32c f.apdu
                 len := 8 * quals.length, asdus := f.asdus })

/-- The parse checks of a frame by its KIND. -/
def State.parse (s : State) (sid p : Nat) (arrival : Ns) (b : UdpBody) : State × Option Delivery :=
  let k := streamKind (s.rec_ .stream sid)
  match b with
  | .c37 x => s.parseC37 sid p k arrival x
  | .sv f => s.parseSv sid p k arrival f
  | .other => (s, none)

/-! Authentication (R120, R121, Table INT-7). -/

/-- The half that verifies a frame: the committed half, or the retired half that the key identifier names; its place. -/
def State.verifyHalf (s : State) (k : Nat) (keyId : Option (BitVec 32)) : Option (Half × Bool) :=
  let x := s.vslot k
  match x.half with
  | none => none
  | some c =>
    let own := match keyId with | some i => i == c.keyId | none => true
    if own then (if c.serves engIngress then some (c, x.commit) else none)
    else match x.retired with
      | some r => if keyId == some r.keyId && r.serves engIngress then some (r, !x.commit) else none
      | none => none

/-- A frame fails authentication. -/
def State.authFail (s : State) (sid : Nat) : State := s.bumpOnce (ck1 .authFailures sid) 5 .sec

/-- The outcome of authentication: none where the frame is dropped, else whether it is AUTHENTICATED. -/
def State.authenticate (s : State) (sid : Nat) (b : UdpBody) : State × Option Bool :=
  let r := s.rec_ .stream sid
  let a := match b with | .sv f => f.auth | _ => none
  if streamAuth r = 0 then
    match a with
    | some _ => (s.bumpOnce (ck1 .unexpectedSec sid) 3 .sec, some false)
    | none => (s, some false)
  else match a with
    | none => (s.authFail sid, none)
    | some a =>
      if a.alg ≠ streamAuth r then (s.authFail sid, none)
      else match s.verifyHalf (streamKeySlot r) a.keyId with
        | none => (s.authFail sid, none)
        | some (h, second) =>
          let s := s.countUse (streamKeySlot r) second
          if authVerifies a h.key then (s.bump (ck1 .authenticated sid), some true) else (s.authFail sid, none)

/-! Routing (R108, Table INT-1). -/

/-- A PTP frame (first row of Table INT-1). -/
def isPtp (b : RxBody) : Bool :=
  match b with
  | .ptp .. => true
  | .udp _ _ _ dport _ _ | .udp6 dport => dport == 319 || dport == 320
  | _ => false

/-- The two destinations of PTP frames (Table TIM-5). -/
def ptpMac (m : BitVec 48) : Bool := m == 0x011B19000000#48 || m == 0x0180C200000E#48

/-- Route a PTP frame to Hearth (Table ARC-4 row 17, Table TIM-5): UDP is discarded and counted, as are other destinations,
unknown domains and ports outside PORT_MASK, and frames that find the crossing's 8 KiB full. A domain that no valid record
names is counted with UDP (DESIGN CHOICE, log entry 66). -/
def State.toHearth (s : State) (p : Nat) (i : InFrame) : State :=
  let s := s.bump (ck1 .ptpFrames p)
  match frameBody i.frame with
  | .ptp d m =>
    match s.ptpRecOf p d with
    | some n =>
      if !ptpMac i.frame.dst then s.bump (ck1 .ptpDiscarded n) else
      let used := s.time.ptpIn.foldl (fun a x => a + x.len + 8) 0
      if 8192 < used + i.frame.len + 8 then s.bump (ck1 .ptpDiscarded n)
      else
        let x : PtpIn := { port := p, len := i.frame.len, vid := frameVlan i.frame, udp := false, stamp := i.stamp, domain := d, msg := m }
        { s with time := { s.time with ptpIn := s.time.ptpIn ++ [x] } }
    | none =>
      match (List.range 2).find? (fun n => ptpRecValid (s.rec_ .ptpRec n) == 1 && ptpRecDomain (s.rec_ .ptpRec n) == d) with
      | some n => s.bump (ck1 .ptpDiscarded n)
      | none => s.bump (ck1 .ptpDiscarded 2)
  | _ => s.bump (ck1 .ptpDiscarded 2)

/-- A C37.118.2 command frame to an output stream's command port, with its length and bytes. -/
def State.subCommand (s : State) (b : RxBody) : Option (BitVec 32 × Nat × Bytes) :=
  match b with
  | .udp ip _ _ dport _ (.c37 x) =>
    if beAt x 0 1 = 0xAA ∧ c37Type x = 4 ∧ (s.outs.any (fun n => outStreamCmdPort (s.rec_ .outStream n) == dport &&
        outStreamKind (s.rec_ .outStream n) == 0)) = true then some (ip, dport, x) else none
  | _ => none

/-- The body of a matched frame. -/
def streamBody (b : RxBody) : UdpBody :=
  match b with
  | .udp _ _ _ _ _ x => x
  | .svL2 f => .sv f
  | _ => .other

/-- Stages 3 to 7 of a matched frame (R107): what it does to the counters and states, and its delivery. -/
def State.streamPath (s : State) (p sid : Nat) (i : InFrame) (b : UdpBody) : State × Option Delivery :=
  if !bitAt (streamPortMask (s.rec_ .stream sid)) p then (s.bump (ck1 .wrongPort sid), none)
  else match s.parse sid p i.stamp b with
    | (s, none) => (s, none)
    | (s, some d) =>
      match s.authenticate sid b with
      | (s, none) => (s, none)
      | (s, some a) => s.tagCheck { d with auth := a }

/-- A frame of a PARTNER_WATCH stream (Table INT-1): parse checks only; role arbitration reads the stream's state. -/
def State.watchPath (s : State) (p sid : Nat) (i : InFrame) (b : UdpBody) : State :=
  match s.parse sid p i.stamp b with
  | (s, some d) =>
    let s := (s.bump (ck1 .delivered sid)).streamAlive sid
    let tag := match b with | .c37 x => (match s.gridTag sid x with | some g => g.1 | none => d.tag) | _ => d.tag
    { s with pair := { s.pair with seenTag := max s.pair.seenTag tag } }
  | (s, none) => s

/-- The classifier's work on one frame (Sequence ARC-1, R107, R503); none where it stalls because a slice cannot take the
delivery (R130). -/
def State.classify (s : State) (p : Nat) (i : InFrame) : Option State :=
  let b := frameBody i.frame
  if i.tcp.isNone && isPtp b then some (s.toHearth p i)
  else if s.boot.mode == .halt then some (s.bump (ck1 .unmatched p))
  else match (if i.tcp.isNone then s.subCommand b else none) with
    | some (ip, dport, x) =>
      let q : SubReq := { port := p, vid := frameVlan i.frame, mac := i.frame.src, ip := ip, dport := dport, len := x.length, bytes := x }
      some ({ s.bump (ck1 .commandsReceived p) with pub := { s.pub with cmds := s.pub.cmds ++ [q] } })
    | none =>
      match (match i.tcp with | some sid => some sid | none => s.matchSid i.frame) with
      | none => some (s.bump (ck1 .unmatched p))
      | some sid =>
        if bitAt (streamSflags (s.rec_ .stream sid)) 2 then some (s.watchPath p sid i (streamBody b))
        else
          match s.streamPath p sid i (streamBody b) with
          | (s', none) => some s'
          | (s', some d) =>
            if (s.deliverTo sid).any (fun r => s.sliceStalled r) then none
            else some (s'.deliver d (streamBody b))

/-- The line port whose buffer is served next (R130): round-robin over the buffers that hold a frame. -/
def State.turn (s : State) : Option Nat :=
  ([1, 2, 3, 4].map (fun k => (s.served + k) % 4)).find? (fun p => !(s.port p).ingress.isEmpty)

/-- CLASSIFY_FRAME (R107, R130): the oldest frame of the buffer whose turn it is; the row brings nothing but the port. -/
def execClassifyFrame (p : LinePort) (_ : Unit) (s : State) : Host.Outcome State Fault Refusal :=
  if !s.beatsRun || s.turn != some p.val then .next s
  else match (s.port p.val).ingress with
    | [] => .next s
    | i :: rest =>
      let t := ({ s with served := p.val }).modPort p.val (fun x => { x with ingress := rest, used := x.used - i.frame.len })
      match t.classify p.val i with
      | some t => .next t
      | none => .next s

/-! A frame from the partner (R124). -/

/-- A FILL enters intake at the tag check, with the partner's arrival stamp, the marks of its header and MIRROR. -/
def State.takeFill (s : State) (h : FillHdr) (b : UdpBody) : State :=
  let sid := h.sid
  let r := s.rec_ .stream sid
  let st := (s.streamSt sid).st
  if streamValid r ≠ 1 ∨ bitAt (streamSflags r) 0 = false ∨ st = .off ∨ st = .mismatch then s
  else
    let d0 := { blankDelivery sid (streamKind r) 0 h.arrival with
                test := h.flags.getLsbD 7, unsync := h.flags.getLsbD 6, auth := h.flags.getLsbD 5, mirror := true
                cfgChange := h.flags.getLsbD 3, blockInvalid := h.flags.getLsbD 2, tq := h.tq }
    let d := match b with
      | .c37 x =>
        let l := s.layout sid
        { d0 with bytes := x, len := x.length - 16, digest := crc32c (c37Content x)
                  badBlocks := (List.range l.blocks).filter (fun i => bitAt (blockStat l x i) 14) }
      | .sv f => { d0 with asdus := f.asdus, digest := crc32c f.apdu
                           len := 8 * (f.asdus.foldl (fun n a => n + a.samples.length) 0) }
      | .other => d0
    match s.tagCheck d with
    | (s, none) => s
    | (s, some d) => s.deliver d b

/-! Stream states in time (R127, R128). -/

/-- A whole beat has passed (R127): the beats without a delivery of each LIVE stream. -/
def State.countIdle (s : State) : State :=
  { s with streams := s.streams.map (fun e =>
      if e.2.st == .live then (e.1, { e.2 with idle := if e.2.fresh then 0 else e.2.idle + 1, fresh := false })
      else (e.1, { e.2 with fresh := false })) }

/-- STREAM_STALE (R127, Table INT-11): STALE_TIMEOUT whole beats without a delivery. The change belongs to the boundary, so its
quorums are evaluated again without the member (R173). -/
def execStreamStale (sid : Fin 8192) (s : State) : Host.Outcome State Fault Refusal :=
  let x := s.streamSt sid.val
  if s.works && x.st == .live && !x.fresh && decide (streamStaleTimeout (s.rec_ .stream sid.val) ≤ x.idle) then
    let s := (s.streamEnter sid.val .stale).postOnce 3 .unit (ck2 .stateEntries sid.val 3) 0
    .next (if s.steps then forAll (List.range 4) s (fun s r => s.evalAll r) else s)
  else .next s

/-- SOURCE_CMD_TIMER (R128, Table INT-12): CFG-2 on entry to WAITING, STALE or MISMATCH and every 5 s while there; turn-on
100 ms after each but in MISMATCH. -/
def execSourceCmdTimer (sid : Fin 8192) (s : State) : Host.Outcome State Fault Refusal :=
  let x := s.streamSt sid.val
  let cfg := match x.cfgDue with | some t => decide (t ≤ s.lts) | none => false
  let on := match x.onDue with | some t => decide (t ≤ s.lts) | none => false
  let s := if on then (s.sendCommand sid.val 2).modStream sid.val (fun x => { x with onDue := none }) else s
  .next (if cfg then
      (s.sendCommand sid.val 5).modStream sid.val (fun x =>
        { x with cfgDue := some (s.lts + 5000000000), onDue := if x.st == .mismatch then x.onDue else some (s.lts + 100000000) })
    else s)

end Sys2Proof.Machine
end

