-- ==== Sys2Proof/Machine/Publish.lean ====
section
/-! DEFINITION. The publisher (chapter 14): launches, C37.118.2 and R-SV frames, commands from subscribers and their
replies, and what a mode's entry discards. -/

namespace Sys2Proof.Machine

/-! Rendering (R508, R220). -/

/-- A member's value is invalid or absent for publishing. -/
def Member.unfit (m : Member) : Bool := !m.status.getLsbD 7 || m.status.getLsbD 6

/-- The conversion factor F of a channel in whole units of 10^-5 per count (R508, R375), saturated to its 24-bit field:
unsigned for a phasor, signed for an analog. -/
def convFactor (chan : Nat) (phasor : Bool) : Int :=
  let x := fracOf (BitVec.ofNat 32 (chanScale chan))
  let n := roundHalf (x.1 * 100000) x.2
  if phasor then (if n < 0 then 0 else if n > 16777215 then 16777215 else n)
  else (if n < -8388608 then -8388608 else if n > 8388607 then 8388607 else n)

/-- round(v ÷ F) as an int16 count; where F is 0 the spec states no count (log entry 19). -/
def countOf (w : Word) (f : Int) : Nat :=
  if isNan w then 0x8000
  else if f = 0 then (Config.unstated 0x100 [w]).toNat % 65536
  else
    let x := fracOf w
    if 0 < f then toInt16 (roundHalf (x.1 * 100000) (x.2 * f.toNat)) else toInt16 (roundHalf (-x.1 * 100000) (x.2 * (-f).toNat))

/-- round(v × n) as an int16 count. -/
def timesOf (w : Word) (n : Nat) : Nat := if isNan w then 0x8000 else toInt16 (fScaled w n 1)

/-- A float32 word in a frame: every NaN as the quiet NaN (R220). -/
def floatBytes (w : Word) : Bytes := natBe 4 (if isNan w then qnan else w).toNat

/-- The bytes of a value entry: FIELD 0 phasor, 1 frequency pair, 2 analog, 3 digital word (R508). -/
def State.renderValue (s : State) (fmt field chan : Nat) (m : Member) : Bytes :=
  let polar := bitAt fmt 0
  let pair : Word × Word := if chanSource chan = 6 then (m.v2, m.v3) else (m.v0, m.v1)
  match field with
  | 0 =>
    let p : Word × Word := if polar then (m.v0, m.v1) else rectOf m.v0 m.v1
    if bitAt fmt 1 then (if m.unfit then floatBytes qnan ++ floatBytes qnan else floatBytes p.1 ++ floatBytes p.2)
    else if m.unfit then natBe 2 0x8000 ++ natBe 2 0x8000
    else
      let f := convFactor chan true
      natBe 2 (countOf p.1 f) ++ natBe 2 (if polar then timesOf p.2 10000 else countOf p.2 f)
  | 1 =>
    if bitAt fmt 3 then (if m.unfit then floatBytes qnan ++ floatBytes qnan else floatBytes pair.1 ++ floatBytes pair.2)
    else if m.unfit then natBe 2 0x8000 ++ natBe 2 0x8000
    else
      let f := if isNan pair.1 then 0x8000
        else let x := fracOf pair.1; toInt16 (roundHalf ((x.1 - (s.fNom : Int) * x.2) * 1000) x.2)
      natBe 2 f ++ natBe 2 (timesOf pair.2 100)
  | 2 =>
    if bitAt fmt 2 then floatBytes (if m.unfit then qnan else m.v0)
    else natBe 2 (if m.unfit then 0x8000 else countOf m.v0 (convFactor chan false))
  | _ => natBe 2 (if m.unfit then 0x8000 else m.v0.toNat % 65536)

/-- A member of an R-SV dataset in its M_TYPE (R369); an invalid value takes the codes of R220. -/
def memberWord (mtype chan : Nat) (m : Member) : Word :=
  let digital := chanSource chan == 2
  if m.unfit then (match mtype with | 0 => 0 | 1 => 0x80000000#32 | _ => qnan)
  else match mtype with
    | 0 => boolWord (m.v0 != 0)
    | 1 => if digital then m.v0 else floatToInt m.v0
    | _ => if digital then fOfInt m.v0.toNat else if isNan m.v0 then qnan else m.v0

/-! C37.118.2 data frames (R367, R509, Table PUB-5). -/

/-- Content entries parted into blocks: the block start and the value entries after it. -/
def splitBlocks : List Nat → List (Nat × List Nat)
  | [] => []
  | e :: es =>
    if contentBlockStart e = 1 then
      (e, es.takeWhile (fun x => contentBlockStart x == 0)) :: splitBlocks es
    else splitBlocks es

/-- The member of a channel among the closed parts; absent where no part holds it. -/
def partMember (ms : List Member) (c : Nat) : Member :=
  match ms.find? (fun m => m.ch == c) with
  | some m => m
  | none => { ch := c, status := 0, v0 := 0, v1 := 0, v2 := 0, v3 := 0, tq := 0, gridOff := 0, nominal := false }

/-- STAT of the source block of a relayed block (R509); 0 where the frame is absent. -/
def State.sourceStat (s : State) (sid : Nat) (frame : Option Delivery) (vals : List Nat) : Nat :=
  match frame with
  | none => 0
  | some d =>
    let l := s.layout sid
    let first := vals.find? (fun e =>
      let r := s.rec_ .chan (contentCh e)
      decide (chanSource r < 4) && chanSrcRef r == sid)
    let block := match first with
      | some e =>
        let r := s.rec_ .chan (contentCh e)
        (match l.vals.find? (fun v => v.source == chanSource r && v.pos == chanPosition r) with | some v => v.block | none => 0)
      | none => 0
    blockStat l d.bytes block

/-- STAT of a published block (Table PUB-5), every row that fits. No value of such a block is FORCED: a force sets a variable, and a
variable fills a member of FIELD 4 alone (R331, R365). -/
def State.blockStatOut (s : State) (start : Nat) (vals : List Nat) (ms : List Member) (frames : List Delivery) : Nat :=
  let sid := contentCh start
  let relayed : Bool := sid != 0xFFFF
  let frame := frames.find? (fun d => d.sid == sid)
  let base := if relayed then
      let x := s.sourceStat sid frame vals
      b2n (bitAt x 13) * 0x2000 + b2n (bitAt x 11) * 0x800 + b2n (bitAt x 10) * 0x400 + x % 512
    else statTime s.time.tsw
  let stale := relayed && vals.any (fun e =>
    chanSrcRef (s.rec_ .chan (contentCh e)) == sid && (partMember ms (contentCh e)).status.getLsbD 4)
  let bad := (relayed && frame.isNone) || stale || vals.any (fun e => let m := partMember ms (contentCh e); m.status.getLsbD 6)
  let gated := !relayed && vals.any (fun e => s.srcGated (contentCh e) (if contentField e = 1 then 3 else 0))
  let top := bad || s.boot.mode == .replay
  base % 0x4000 - b2n (bitAt base 9) * 0x200 + b2n (bitAt base 9 || gated || s.boot.mode == .warmup) * 0x200 + b2n top * 0x8000

/-- A C37.118.2 frame around its body: SYNC of a type, FRAMESIZE, IDCODE, SOC, FRACSEC, the body and CHK. -/
def c37Frame (type id soc frac : Nat) (body : Bytes) : Bytes :=
  let b := [0xAA#8] ++ natBe 1 (type * 16 + 2) ++ natBe 2 (16 + body.length) ++ natBe 2 id ++ natBe 4 soc ++ natBe 4 frac ++ body
  b ++ natBe 2 (crcCcitt b).toNat

/-- The rate of an output stream. -/
def State.outRate (s : State) (n : Nat) : Nat := rateOf (outSetSetRate (s.rec_ .outSet n))

/-- The data frame of a KIND 0 stream for tag T from its closed parts (R367). -/
def State.dataFrame (s : State) (n : Nat) (t : Ns) (parts : List OutPart) : Bytes :=
  let r := s.rec_ .outStream n
  let ms := parts.flatMap (fun p => p.members)
  let frames := parts.flatMap (fun p => p.frames)
  let rate := s.outRate n
  let k := gridIndex rate t % rate
  let tb := outStreamTimeBase r
  let frac := (2 * k * tb + rate) / (2 * rate)
  let body := (splitBlocks (s.outContent n)).flatMap (fun b =>
    natBe 2 (s.blockStatOut b.1 b.2 ms frames) ++
    b.2.flatMap (fun e => s.renderValue (outStreamFormat r) (contentField e) (s.rec_ .chan (contentCh e)) (partMember ms (contentCh e))))
  c37Frame 0 (outStreamStreamId r) (s.socOf (t / 1000000000)) (tqByte s.time.tsw * 2 ^ 24 + frac % 2 ^ 24) body

/-! Dataset members of periodic streams (R327, R369, R374). -/

/-- The quality byte of a channel's member (R315): INVALID, STALE, TEST and GATED of its status byte and its source. -/
def memberByte (m : Member) (gated : Bool) : BitVec 8 :=
  BitVec.ofNat 8 (b2n m.unfit * 0x80 + b2n (m.status.getLsbD 4) * 0x40 + b2n (m.status.getLsbD 5) * 0x20 + b2n gated * 8)

/-- What fills position m of a periodic stream where its CH is 0xFFFF: the variable and quality that the output record of KIND 0
has last written; FALSE or 0 with INVALID before (log entry 56). -/
def State.writtenMember (s : State) (n m : Nat) : VarVal :=
  match (s.valids .outRec 255 512).find? (fun o =>
      let r := s.rec_ .outRec o
      outRecKind r == 0 && outRecOutStream r == n && outRecMember r == m) with
  | some o => agetD s.logic.outVals o { v := 0, q := 0x80 }
  | none => { v := 0, q := 0x80 }

/-- The members of a periodic stream: of a channel, its value in the member's M_TYPE at the tag; else what logic last wrote. -/
def State.periodicMembers (s : State) (n : Nat) (parts : List OutPart) : List VarVal :=
  let ms := parts.flatMap (fun p => p.members)
  (s.outMembers n).zipIdx.map (fun (e : Nat × Nat) =>
    let c := contentCh e.1
    if c = 0xFFFF then s.writtenMember n e.2
    else
      let m := partMember ms c
      { v := memberWord (contentMType e.1) (s.rec_ .chan c) m, q := memberByte m (s.srcGated c 0) })

/-- Length of the SV APDU of one ASDU of n members. -/
def State.svLen (s : State) (out n : Nat) : Nat :=
  let asdu := berTlv (s.nameText (outStreamNameRef (s.rec_ .outStream out)) 4).length + berTlv 2 + berTlv 4 + berTlv 1 + berTlv (8 * n)
  berTlv (berTlv 1 + berTlv (berTlv asdu))

/-! Launches (R366, R370, R376, R377, R399). -/

/-- The peers that may command an output stream (Table INT-3). -/
def State.subscribers (s : State) (n : Nat) : List Nat :=
  (s.valids .peer 255 1024).filter (fun p => peerSubRole (s.rec_ .peer p) == 1 && bitAt (peerOutMask (s.rec_ .peer p)) n)

/-- The copies of a launch: line port, VLAN, MAC, address, UDP port. SEND_MODE 1: one for each peer that is on. -/
def State.copies (s : State) (n : Nat) : List (Nat × Nat × Nat × Nat × Nat) :=
  let r := s.rec_ .outStream n
  if outStreamSendMode r = 1 then
    ((s.subscribers n).filter (fun p => (s.pubStream n).peers.contains p)).map (fun p =>
      let x := s.rec_ .peer p
      (peerLinePort x, peerVlanId x, peerMac x, peerIp x, peerPport x))
  else if (s.pubStream n).on then
    (maskPorts (outStreamPortMask r)).map (fun p => (p, outStreamVlanId r, outStreamDstMac r, outStreamDstIp r, outStreamDstPort r))
  else []

/-- Place the copies of a frame of a periodic stream. -/
def State.placeCopies (s : State) (n : Nat) (launch : Ns) (inner : Nat) (b : TxBody) : State :=
  let q := outStreamQueue (s.rec_ .outStream n)
  forAll (s.copies n) s (fun s c =>
    s.place c.1 q { launch := launch, len := etherLen c.2.1 inner, vid := c.2.1, dstMac := BitVec.ofNat 48 c.2.2.1
                    dstIp := BitVec.ofNat 32 c.2.2.2.1, dport := c.2.2.2.2, service := false, pcp := 0, body := b })

/-- A launch of a periodic stream of KIND 2 or 3: its GOOSE frame (R372), stNum one more where a member has changed since the last
launch, else sqNum one more, and timeAllowedToLive twice the launch interval (DESIGN CHOICE, log entry 56). -/
def State.sendGoose (s : State) (n : Nat) (launch : Ns) (vs : List VarVal) : State :=
  let rate := s.outRate n
  (s.modPub n (fun p =>
    if p.stNum ≠ 0 ∧ p.members = vs then { p with sqNum := nextSeq p.sqNum }
    else { p with members := vs, stNum := nextSeq p.stNum, sqNum := 0, t := s.dt })).goose n launch ((2000 + rate - 1) / rate)

/-- Assemble and place the frame of a tag (R367, R369, R372); a stream that no copy leaves sends nothing. -/
def State.sendSet (s : State) (n : Nat) (t launch : Ns) (parts : List OutPart) : State :=
  let r := s.rec_ .outStream n
  if (s.copies n).isEmpty then s
  else if outStreamKind r = 0 then
    let b := s.dataFrame n t parts
    s.placeCopies n launch (28 + b.length) (.data n t b)
  else if outStreamKind r ≠ 1 then s.sendGoose n launch (s.periodicMembers n parts)
  else match s.sign n with
    | (s, none) => s
    | (s, some signed) =>
      let ms := s.sentMembers n (s.periodicMembers n parts)
      let rate := s.outRate n
      s.placeCopies n launch (28 + Config.sessionHeader 0 + s.svLen n ms.length + authBytes (outStreamAuth r))
        (.sv n t (gridIndex rate t % rate) (smpSynchOf s.time.tsw) (headerGeneration (s.rec_ .header 0)) ms signed)

/-- The partner's claim for a stream (R399), under mismatched maps. -/
def State.claimed (s : State) (n : Nat) : Nat :=
  let r := s.rec_ .outStream n
  match s.pair.digest with
  | some d =>
    if s.paired && !s.mapsMatch then
      (match d.claims.find? (fun c => c.valid && c.kind == outStreamKind r && c.streamId == outStreamStreamId r) with | some c => c.claim | none => 0)
    else 0
  | none => 0

/-- The set of a tag has been taken: its parts and older ones go, and the stream has published in TAKEOVER (T10). -/
def State.takeTag (s : State) (n : Nat) (t : Ns) : State :=
  ({ s with align := { s.align with outParts := s.align.outParts.filter (fun p => !(p.set == n && decide (p.tag ≤ t))) } }).modPub n
    (fun p => { p with taken := some t, published := p.published || decide (s.boot.mode = Mode.takeover) })

/-- The closed tags of an output set that are still to launch, at a boundary. -/
def State.closedTags (s : State) (n : Nat) (b : Ns) : List Ns :=
  let wait := if s.boot.mode == .replay then 0 else outSetWait (s.rec_ .outSet n) * 1000
  (((s.align.outParts.filter (fun p => p.set == n && (s.boot.mode == .replay || decide (p.tag + wait ≤ b)))).map (fun p => p.tag)).eraseDups)

/-- A LAUNCH entry of output stream n acted on at boundary B with ARG (R366): the latest closed tag is taken, the older ones
skipped; each copy is sent or counted as suppressed. -/
def State.launch (s : State) (region n arg : Nat) (b : Ns) : State :=
  let r := s.rec_ .outStream n
  let leaving := match s.pair.leaveAt with | some e => decide (e ≤ b) | none => false
  if leaving || !s.outInUse n then s
  else
    let s := s.charge region 3 { cycles := 0, dram := 0, flits := outStreamLaunchFlits r, egress := outStreamLaunchBytes r }
    match s.closedTags n b with
    | [] => s.bump (ck1 .emptyLaunches n)
    | t :: ts =>
      let m := ts.foldl max t
      let parts := s.align.outParts.filter (fun p => p.set == n && p.tag == m)
      let s := s.bumpBy (ck1 .skippedSets n) ts.length
      let off := if outStreamSendMode r = 1 then ((s.subscribers n).filter (fun p => !(s.pubStream n).peers.contains p)).length else 0
      let s := (s.bumpBy (ck1 .suppressed n) off)
      let sent := if !s.mayPublish n then s.bumpBy (ck1 .suppressed n) (s.copies n).length
        else if tim1 m ≤ s.claimed n then s.bump (ck1 .yielded n)
        else s.sendSet n m (b + arg) parts
      sent.takeTag n m

/-! Subscribers (R129, Table INT-13, R376). -/

/-- Transmission turned on or off for a peer (R376), mirrored (DELTA 4). -/
def State.applySub (s : State) (n peer : Nat) (on : Bool) : State :=
  let s := if outStreamSendMode (s.rec_ .outStream n) = 1 then
      s.modPub n (fun p => { p with peers := (p.peers.filter (fun x => x != peer)) ++ (if on then [peer] else []) })
    else s.modPub n (fun p => { p with on := on })
  s.deltaSub n peer on

/-- The on and off changes due at a boundary, before its row entries (R376). -/
def State.applySubs (s : State) : State :=
  let cs := s.pub.changes
  forAll cs { s with pub := { s.pub with changes := [] } } (fun s c => s.applySub c.1 c.2.1 c.2.2)

/-- A name of 16 characters. -/
def State.name16 (s : State) (u : Nat) : Bytes := s.nameUnit u

/-- The value entries of a block of a FIELD. -/
def ofField (vals : List Nat) (f : Nat) : List Nat := vals.filter (fun e => contentField e == f)

/-- PHUNIT or ANUNIT (R375): the conversion factor in 24 bits below the type byte, which C37.118.2 gives (log entry 36). -/
def State.unitWord (s : State) (fmt : Nat) (phasor : Bool) (e : Nat) : Bytes :=
  let c := s.rec_ .chan (contentCh e)
  let type := if phasor && chanQuantity c == 1 then 1 else 0
  let f := if bitAt fmt (if phasor then 1 else 2) then 0 else convFactor c phasor
  natBe 1 type ++ natBe 3 (wrap 24 f)

/-- One PMU entry of a CFG-2 frame (R375). -/
def State.cfg2Block (s : State) (fmt : Nat) (b : Nat × List Nat) : Bytes :=
  let ph := ofField b.2 0
  let an := ofField b.2 2
  let dg := ofField b.2 3
  s.name16 (contentName b.1) ++ natBe 2 (contentIdcode b.1) ++ natBe 2 fmt ++ natBe 2 ph.length ++ natBe 2 an.length ++
  natBe 2 dg.length ++ (ph ++ an).flatMap (fun e => s.name16 (contentName e)) ++
  dg.flatMap (fun e => (List.range 16).flatMap (fun i => s.name16 (contentName e + i))) ++
  ph.flatMap (s.unitWord fmt true) ++ an.flatMap (s.unitWord fmt false) ++ dg.flatMap (fun _ => natBe 4 0x0000FFFF) ++
  natBe 2 (if s.fNom = 50 then 1 else 0) ++ natBe 2 (headerGeneration (s.rec_ .header 0))

/-- A variable-length name of CFG-3: its length and characters. -/
def State.name3 (s : State) (u : Nat) : Bytes := let b := s.nameText u 1; natBe 1 b.length ++ b

/-- An open word of a CFG-3 frame: contents that C37.118.2 holds and R375 does not state (log entry 20). -/
def openWord (n i : Nat) : Bytes := natBe 4 (Config.objectFill (0xCF30000 + n) i).toNat

/-- WINDOW of a block in µs (R375): the whole window of Table WAV-11 of its first synthesised phasor for a block of the
device's own, 0 for a relayed one. -/
def State.blockWindow (s : State) (b : Nat × List Nat) : Nat :=
  if contentCh b.1 != 0xFFFF then 0
  else match b.2.find? (fun e => chanSource (s.rec_ .chan (contentCh e)) == 6) with
    | some e =>
      let r := s.rec_ .chan (contentCh e)
      2 * (s.spans (chanEstClass r) (chanOutRate r)).2.2 / 1000
    | none => 0

/-- One PMU entry of a CFG-3 frame (R375). -/
def State.cfg3Block (s : State) (n fmt : Nat) (b : Nat × List Nat) : Bytes :=
  let ph := ofField b.2 0
  let an := ofField b.2 2
  let dg := ofField b.2 3
  let opens (k : Nat) (l : List Nat) : Bytes := l.flatMap (fun e => (List.range k).flatMap (fun i => openWord n (e * 4 + i)))
  s.name3 (contentName b.1) ++ natBe 2 (contentIdcode b.1) ++ (List.range 4).flatMap (openWord n) ++ natBe 2 fmt ++
  natBe 2 ph.length ++ natBe 2 an.length ++ natBe 2 dg.length ++ (ph ++ an).flatMap (fun e => s.name3 (contentName e)) ++
  dg.flatMap (fun e => (List.range 16).flatMap (fun i => s.name3 (contentName e + i))) ++ opens 3 ph ++ opens 2 an ++
  dg.flatMap (fun _ => natBe 4 0x0000FFFF) ++ floatBytes qnan ++ floatBytes qnan ++ floatBytes qnan ++
  [if contentMClass b.1 = 1 then 0x4D#8 else 0x50#8] ++ natBe 4 (s.blockWindow b) ++ natBe 4 0 ++
  natBe 2 (if s.fNom = 50 then 1 else 0) ++ natBe 2 (headerGeneration (s.rec_ .header 0))

/-- The reply to a subscriber's request (R375): 3 header, 4 CFG-1, 5 CFG-2, 6 CFG-3. -/
def State.replyFrame (s : State) (n code : Nat) : Bytes :=
  let r := s.rec_ .outStream n
  let h := s.rec_ .pubHdr 0
  let blocks := splitBlocks (s.outContent n)
  let fmt := outStreamFormat r
  let frac := tqByte s.time.tsw * 2 ^ 24 + s.dt % 1000000000 * outStreamTimeBase r / 1000000000
  let frame (t : Nat) (body : Bytes) : Bytes := c37Frame t (outStreamStreamId r) (s.socOf (s.dt / 1000000000)) frac body
  let cfg2 := natBe 4 (outStreamTimeBase r) ++ natBe 2 blocks.length ++ blocks.flatMap (s.cfg2Block fmt) ++ natBe 2 (s.outRate n)
  match code with
  | 3 =>
    let off := pubHdrHdrOffset h
    let units := (List.range (pubHdrHdrLen h / 16 + 2)).flatMap (fun i => s.nameUnit (off / 16 + i))
    frame 1 ((units.drop (off % 16)).take (pubHdrHdrLen h))
  | 4 => frame 2 cfg2
  | 5 => frame 3 cfg2
  | _ => frame 5 (natBe 2 0 ++ natBe 4 (outStreamTimeBase r) ++ natBe 2 blocks.length ++ blocks.flatMap (s.cfg3Block n fmt) ++
      natBe 2 (s.outRate n))

/-- Whether reply frames leave in the present mode (Table MOD-6, Table INT-13). -/
def State.replies (s : State) : Bool := s.publishes || (s.boot.mode == .tamperhold && s.policy 110)

/-- Send a reply to a peer (R375): with L = 0 in CMD_QUEUE; one that exceeds the port's maximum is counted with attention. -/
def State.sendReply (s : State) (n peer code : Nat) : State :=
  let x := s.rec_ .peer peer
  let b := s.replyFrame n code
  let f : TxFrame := { launch := 0, len := etherLen (peerVlanId x) (28 + b.length), vid := peerVlanId x
                       dstMac := BitVec.ofNat 48 (peerMac x), dstIp := BitVec.ofNat 32 (peerIp x), dport := peerPport x
                       service := false, pcp := 0, body := .reply n code b }
  if maxFrame (s.rec_ .port (peerLinePort x)) (b2n (peerVlanId x != 0)) < f.len then
    (s.bump (ck .repliesNotSent)).postFor 3 .unit (ck .repliesNotSent) 0
  else s.place (peerLinePort x) s.cmdQueue f

/-- The output stream and peer that an accepted command frame is for (R129). -/
def State.commandTarget (s : State) (q : SubReq) : Option (Nat × Nat) :=
  match s.outs.find? (fun n =>
      let r := s.rec_ .outStream n
      outStreamKind r == 0 && outStreamCmdPort r == q.dport && outStreamStreamId r == c37Id q.bytes) with
  | none => none
  | some n =>
    match (s.subscribers n).find? (fun p =>
        let x := s.rec_ .peer p
        peerMac x == q.mac.toNat && peerIp x == q.ip.toNat && peerVlanId x == q.vid && peerLinePort x == q.port) with
    | some p => if c37Size q.bytes = q.len ∧ c37ChkOk q.bytes = true then some (n, p) else none
    | none => none

/-- An accepted command (Table INT-13). -/
def State.subTake (s : State) (n p code : Nat) : State :=
  if code = 1 ∨ code = 2 then
    ({ s with pub := { s.pub with changes := s.pub.changes ++ [(n, p, code == 2)] } }).bump (ck .commandsAccepted)
  else if 3 ≤ code ∧ code ≤ 6 then
    let recent := s.pub.recent.filter (fun e => decide (s.lts < e.2.2.2 + 1000000000))
    if recent.any (fun e => e.1 == p && e.2.1 == n && e.2.2.1 == code) then s.bump (ck .commandsAbsorbed)
    else
      let s := ({ s with pub := { s.pub with recent := (p, n, code, s.lts) :: recent } }).bump (ck .commandsAccepted)
      if s.replies then s.sendReply n p code else s
  else s.bump (ck .commandsRefused)

/-- SUBSCRIBER_COMMAND (R129, Table INT-13): the oldest frame on the command path. -/
def execSubscriberCommand (s : State) : Host.Outcome State Fault Refusal :=
  match s.pub.cmds with
  | [] => .next s
  | q :: rest =>
    if !s.works then .next s
    else
      let s := { s with pub := { s.pub with cmds := rest } }
      match s.commandTarget q with
      | none => .next (s.bumpOnce (ck .commandsRefused) 3 .sec)
      | some (n, p) => .next (s.subTake n p (beAt q.bytes 14 2))

/-! What a mode's entry discards (R58, R59). -/

/-- The output stream of a published frame. -/
def streamOfBody : TxBody → Option Nat
  | .data n .. => some n
  | .sv n .. => some n
  | .goose n .. => some n
  | _ => none

/-- The present mode sends a queued frame of port p (Table MOD-6, R58); what was queued before REPLAY replays nothing. -/
def State.keeps (s : State) (p q : Nat) (f : TxFrame) : Bool :=
  if p < 4 then s.sends f (match streamOfBody f.body with | some n => outStreamAuth (s.rec_ .outStream n) == 0 | none => true) false q
  else if p = 4 then s.woideOn
  else true

/-- Count a discarded frame. -/
def State.countDiscard (s : State) (p q : Nat) (f : TxFrame) : State :=
  match streamOfBody f.body with
  | some n => s.bump (ck1 .suppressed n)
  | none => s.bump (ck2 .modeDiscards p q)

/-- On entry to a mode, discard and count every queued frame that it does not send; the frame on the wire is finished. -/
def State.purge (s : State) : State :=
  forAll (List.range 5) s (fun s p =>
    let x := s.port p
    let gone := ((List.range 8).flatMap (fun q => ((x.queues.getD q []).filter (fun f => !s.keeps p q f)).map (fun f => (q, f)))) ++
      x.waiting.filter (fun w => !s.keeps p w.1 w.2)
    let s := forAll gone s (fun s g => s.countDiscard p g.1 g.2)
    s.modPort p (fun x =>
      { x with
        queues := (List.range 8).map (fun q => (x.queues.getD q []).filter (fun f => s.keeps p q f))
        waiting := x.waiting.filter (fun w => s.keeps p w.1 w.2)
        armed := x.armed.filter (fun q => match (x.queues.getD q []) with | f :: _ => s.keeps p q f | [] => false) }))

end Sys2Proof.Machine
end

