-- ==== Sys2Proof/Machine/Capture.lean ====
section
/-! DEFINITION. Disturbance capture (chapter 13): trigger edges and their qualification, triggers per class, records and
their space, copy-out, rate reduction, and the meanings of the commands of that family. -/

namespace Sys2Proof.Machine

/-! Samples of a class (R336, R343). -/

/-- Base rate of a class in samples/s; 0 for local waveform channels, whose instants come from the sample clock. -/
def State.capRate (s : State) (c : Nat) : Nat :=
  let r := s.rec_ .capClass c
  if capClassRing r = 0 then rateOf (capClassRecRate r)
  else
    let f := s.rec_ .chan (s.rec_ .chList (capClassListBase r))
    if chanSource f = 4 then svRate (streamRateCode (s.rec_ .stream (chanSrcRef f))) else 0

/-- The listed channels of a class, in list order. -/
def State.capChans (s : State) (c : Nat) : List Nat :=
  let r := s.rec_ .capClass c
  (List.range (capClassNCh r)).map (fun i => s.rec_ .chList (capClassListBase r + i))

/-- The regions of a class's channels. -/
def State.capRegions (s : State) (c : Nat) : List Nat := ((s.capChans c).map (fun ch => s.chanRegion ch)).eraseDups

/-- The local waveform channel that gives a class of SOURCE 5 its instants. -/
def State.capLead (s : State) (c : Nat) : Nat := chanSrcRef (s.rec_ .chan (s.rec_ .chList (capClassListBase (s.rec_ .capClass c))))

/-- Base rate of a class as RATE_NUM and RATE_DEN (Table CAP-6). -/
def State.capRatio (s : State) (c : Nat) : Nat × Nat :=
  if s.capRate c ≠ 0 then (s.capRate c, 1) else (50000000, laneLaneDiv (s.rec_ .lane (s.capLead c / 8)))

/-- Sample period in ns of a local class. -/
def State.capPeriod (s : State) (c : Nat) : Nat := s.lanePeriod (s.capLead c / 8)

/-- Number of the first point of a grid at or after t. -/
def gridFrom (rate : Nat) (t : Ns) : Nat := let k := gridIndex rate t; if gridPoint rate k = t then k else k + 1

/-- Sample instants of a class in [a, b), ascending: the grid's, or those of the first listed local channel as the ring and
the tags lost from it give them (R343). -/
def State.capInstants (s : State) (c : Nat) (lost : List Ns) (a b : Ns) : List Ns :=
  let rate := s.capRate c
  if rate != 0 then
    let k := gridFrom rate a
    (List.range (gridFrom rate b - k)).map (fun i => gridPoint rate (k + i))
  else
    let l := s.capLead c
    ((s.align.localRing.filter (fun e => e.1 == l)).map (fun e => e.2.1) ++ lost).foldl
      (fun out t => if a ≤ t ∧ t < b ∧ !out.contains t then insertBy id t out else out) []

/-- How many samples of a class lie in [a, b), with the local channels' by their period. -/
def State.capCount (s : State) (c : Nat) (a b : Ns) : Nat :=
  let rate := s.capRate c
  if rate != 0 then gridFrom rate b - gridFrom rate a else (b - a + s.capPeriod c - 1) / s.capPeriod c

/-- The first sample instant of a class at or after t; t itself for a local class whose ring holds none. -/
def State.capFirst (s : State) (c : Nat) (t : Ns) : Ns :=
  let rate := s.capRate c
  if rate != 0 then gridPoint rate (gridFrom rate t)
  else match (s.align.localRing.filter (fun e => e.1 == s.capLead c && decide (t ≤ e.2.1))).map (fun e => e.2.1) with
    | [] => t
    | x :: xs => xs.foldl min x

/-- Values per sample of a channel (R350). -/
def capValues (source : Nat) : Nat := ([2, 1, 1, 2, 1, 1, 4] : List Nat).getD source 1

/-- Values of all channels of a class. -/
def State.capWidth (s : State) (c : Nat) : Nat := ((s.capChans c).map (fun ch => capValues (chanSource (s.rec_ .chan ch)))).foldl (· + ·) 0

/-- n rounded up to a multiple of 8. -/
def pad8 (n : Nat) : Nat := (n + 7) / 8 * 8

/-- Bytes of a full-rate or a min/max row (R356). -/
def State.capRow (s : State) (c : Nat) (minmax : Bool) : Nat :=
  let v := s.capWidth c
  pad8 (8 + (if minmax then 8 * v else 4 * v) + capClassNCh (s.rec_ .capClass c))

/-- n ÷ d rounded up. -/
def ceilDiv (n d : Nat) : Nat := (n + d - 1) / d

/-- Bytes that a record takes at a divisor (R359): header, trigger list, channel entries, 6 segment headers and its rows. -/
def State.capLen (s : State) (c code : Nat) (start post stop : Ns) : Nat :=
  let r := s.rec_ .capClass c
  let d := 2 ^ code
  128 + 128 + pad16 (4 * capClassNCh r) + 96 + ceilDiv (s.capCount c start post) d * s.capRow c false +
    ceilDiv (s.capCount c post stop) (capClassMmInterval r * d) * s.capRow c true

/-! Modes and shedding (R342, R360). -/

/-- Capture runs in the present mode (R360). -/
def State.captureOn (s : State) : Bool :=
  match s.boot.mode with
  | .warmup | .active | .standby | .takeover | .degraded | .forced | .replay => true
  | .tamperhold => s.policy 109
  | _ => false

/-- The COPYOUT entries of a class in a region: their ARG values. -/
def State.copyouts (s : State) (r c : Nat) : List Nat :=
  (s.img.filter (fun e => decide (e.1.1 = .post) && e.1.2 / (2400 * 64) == r && postValid e.2 == 1 && postOp e.2 == 3 &&
    postTemplate e.2 == c)).map (fun e => postArg e.2)

/-- CAPTURE counts as shed for a class while it is shed in a region that holds COPYOUT entries of it. -/
def State.captureShed (s : State) (c : Nat) : Bool := (List.range 4).any (fun r => s.shed r 7 && !(s.copyouts r c).isEmpty)

/-- The valid classes. -/
def State.capClasses (s : State) : List Nat := s.valids .capClass 511 16

/-! Records and space (R355-R359). -/

/-- A record of a SEQ. -/
def State.capRec (s : State) (seq : Nat) : Option CapRec := s.cap.recs.find? (fun x => x.seq == seq)

/-- Change a record. -/
def State.modRec (s : State) (seq : Nat) (f : CapRec → CapRec) : State :=
  { s with cap := { s.cap with recs := s.cap.recs.map (fun x => if x.seq = seq then f x else x) } }

/-- A record that may be reclaimed. -/
def CapRec.done (x : CapRec) : Bool := x.st == .complete || x.st == .overwritten

/-- Bytes of the index (R357). -/
def State.indexBytes (s : State) : Nat := planIndexCount (s.rec_ .plan 0) * 64

/-- Where a record of a length would lie (R359): after the previous reservation, or after the index. -/
def State.capPlace (s : State) (len : Nat) : Nat :=
  let prev := match s.capRec s.cap.seq with | some x => x.offset + x.len | none => s.indexBytes
  if prev + len ≤ planCaptureSize (s.rec_ .plan 0) * 1048576 then prev else s.indexBytes

/-- A reservation at an offset meets a record's. -/
def CapRec.meets (x : CapRec) (off len : Nat) : Bool := decide (x.offset < off + len) && decide (off < x.offset + x.len)

/-- The ring has never held a sample where a span from `want` on would begin (R344, R48), its first sample at or after that being
`start`: for a local class, whose instants the ring alone gives, it holds none before `want`, and one would have come in
between. -/
def State.spanShort (s : State) (c : Nat) (want start : Ns) : Bool :=
  if s.capRate c ≠ 0 then decide (want < start)
  else decide (want + s.capPeriod c ≤ start) && !s.align.localRing.any (fun e => e.1 == s.capLead c && decide (s.cap.ringFrom ≤ e.2.1) && decide (e.2.1 < want))

/-- Charge bytes that the engine writes outside copy-out to CAPTURE (Table SCH-1), in the region of the class's first channel
(DESIGN CHOICE, log entry 72). -/
def State.chargeCap (s : State) (c n : Nat) : State := s.charge ((s.capRegions c).headD 0) 7 (dramCost n)

/-- Start a record of a class with its trigger point (R343, R344, R359); none where no reservation is possible. The header, the
trigger list, the channel entries and the index entry are written. -/
def State.startRec (s : State) (c : Nat) (t : Trig) : Option State :=
  let r := s.rec_ .capClass c
  let at_ := if t.sub = 0 then t.dt else t.dt + 1
  let from_ := at_ - capClassPreMs r * 1000000
  let want := if s.capRate c = 0 then from_ else s.capFirst c from_
  let start := s.capFirst c (max (at_ - capClassPreMs r * 1000000) s.cap.ringFrom)
  let post := at_ + capClassPostMs r * 1000000
  let stop := post + capClassLongMs r * 1000000
  let code := min (capClassPrefDiv r) (capClassMaxDiv r)
  let len := s.capLen c code start post stop
  let off := s.capPlace len
  let seq := nextSeq s.cap.seq
  let n := planIndexCount (s.rec_ .plan 0)
  let sameEntry (x : CapRec) : Bool := x.seq % n == seq % n
  if s.cap.recs.any (fun x => !x.done && (sameEntry x || x.meets off len)) then none
  else
    let lost := (s.cap.recs.filter (fun x => x.st == .complete && (sameEntry x || x.meets off len))).length
    let recs := (s.cap.recs.filter (fun x => !sameEntry x)).map (fun x => if x.meets off len then { x with st := .overwritten } else x)
    let new : CapRec :=
      { seq := seq, cls := c, st := .collecting, trig := t, list := [], overflow := false, preShort := s.spanShort c want start,
        truncated := false, aborted := false, replay := s.boot.mode == .replay, spanStart := start, spanEnd := 0, postEnd := post,
        stop := stop, preUs := (t.dt - start) / 1000, div := code, div0 := code, segs := [], nextTag := start, idx := 0, moved := 0,
        dataLen := 0, lostRows := 0, lost := [], offset := off, len := len, completedAt := 0, limited := false }
    let s := { s with cap := { s.cap with recs := recs ++ [new], seq := seq } }
    let s := s.modCap c (fun x => { x with st := .collecting, rec_ := seq, left := 0, held := [] })
    some (((s.bumpBy (ck .overwrittenRecords) lost).bump (ck1 .recordsStarted c)).chargeCap c (320 + pad16 (4 * capClassNCh r)))

/-- Enter a trigger in a record's list, or note the overflow (Table CAP-5). -/
def CapRec.listTrig (x : CapRec) (t : Trig) : CapRec :=
  if x.list.length < 8 then { x with list := x.list ++ [t] } else { x with overflow := true }

/-- A trigger for one class (Table CAP-5). -/
def State.trigFor (s : State) (t : Trig) (c : Nat) : State :=
  let s := s.modCap c (fun x => { x with hit := match x.hit with | some h => some h | none => some t.dt })
  let x := s.capCls c
  if x.st == .off || s.captureShed c then s.bump (ck1 .triggersRefused c)
  else match x.st with
  | .off => s
  | .armed =>
    match s.startRec c t with
    | some s => s
    | none => s.bumpOnce (ck1 .captureFull c) 4 .unit
  | .collecting => ((s.modRec x.rec_ (fun y => y.listTrig t)).bump (ck1 .laterTriggers c)).chargeCap c 16
  | .closing =>
    ((s.modRec x.rec_ (fun y => y.listTrig { t with queued := true })).modCap c (fun y => { y with held := y.held ++ [t] })).bump
      (ck1 .queuedTriggers c) |>.chargeCap c 16

/-- The engine drives XTRIG_N for a driving trigger (R341). -/
def State.driveXtrig (s : State) : State :=
  let stop := s.dt + planXtrigPulse (s.rec_ .plan 0) * 1000
  match s.cap.xtrig with
  | some (a, _) => { s with cap := { s.cap with xtrig := some (a, stop) } }
  | none => ({ s with cap := { s.cap with xtrig := some (s.dt, stop) } }).bump (ck .xtrigPulses)

/-- The engine takes a trigger (R339, R341). -/
def State.takeTrig (s : State) (t : Trig) : State :=
  let s := if t.kind < 6 then s.bump (ck1 .triggersTaken t.src) else s
  let s := if t.drive && s.drivesXtrig then s.driveXtrig else s
  forAll (s.capClasses.filter (bitAt t.mask)) s (fun s c => s.trigFor t c)

/-! Edges (R160, R340). -/

/-- An instant in 125 ps units. -/
def finePs (dt sub : Nat) : Nat := dt * 8 + sub

/-- A trigger-source record takes an edge of an input. -/
def State.wantsEdge (s : State) (i input : Nat) (rising : Bool) : Bool :=
  let r := s.rec_ .trigSrc i
  trigSrcValid r == 1 && edgeWanted (trigSrcEdges r) rising &&
  (if input = 8 then trigSrcKind r == 1 else trigSrcKind r == 0 && trigSrcInput r == input)

/-- The records for which a stamp is still pending. -/
def State.pendingFor (s : State) (x : TrigStamp) : List Nat :=
  (s.valids .trigSrc 127 255).filter (fun i => s.wantsEdge i x.input x.rising && !x.done.contains i)

/-- An opposite edge ends the stamps whose level has not held for MIN_WIDTH (R340): each is a glitch. -/
def State.endGlitches (s : State) (input : Nat) (rising : Bool) (fine : Nat) : State :=
  let short (x : TrigStamp) : List Nat := if x.input = input ∧ x.rising ≠ rising then
      (s.pendingFor x).filter (fun i => decide (fine < finePs x.dt x.sub + trigSrcMinWidth (s.rec_ .trigSrc i) * 8000))
    else []
  let n := (s.cap.stamps.filter (fun x => !(short x).isEmpty)).length
  ({ s with cap := { s.cap with stamps := s.cap.stamps.map (fun (x : TrigStamp) => { x with done := x.done ++ short x }) } }).bumpBy (ck1 .glitches input) n

/-- The engine takes out of the store the stamps that no record waits for, once it sees them: 3 HTH cycles after the edge
(R160). -/
def State.dropStamps (s : State) : State :=
  { s with cap := { s.cap with stamps := s.cap.stamps.filter (fun x => !(s.pendingFor x).isEmpty || decide (s.dt < x.dt + 6)) } }

/-- Stamp an edge that is not lost: each input's store holds 16 (R160). The device's own edge of XTRIG_N is stamped and taken
by no record (R341). -/
def State.stampEdge (s : State) (input : Nat) (rising : Bool) (sub fine : Nat) : State :=
  let levels := (input, rising, fine) :: s.cap.levels.filter (fun e => e.1 != input)
  let s := ({ s with cap := { s.cap with levels := levels } }).endGlitches input rising fine
  let s := s.dropStamps
  let own : Bool := input == 8 && !rising && s.cap.xtrig.isSome
  let x : TrigStamp := { dt := s.dt, sub := sub, rising := rising, input := input, tsw := s.time.tsw
                         done := if own then s.valids .trigSrc 127 255 else [] }
  if 16 ≤ (s.cap.stamps.filter (fun y => y.input == input)).length then s.bump (ck1 .stampsDropped input)
  else { s with cap := { s.cap with stamps := s.cap.stamps ++ [x] } }

/-- TRIGGER_EDGE (R160): an edge at a trigger input is stamped and stored; one less than 8 ns after the one before is lost,
the device's own edge of XTRIG_N is never taken (R341). -/
def execTriggerEdge (input : Fin 9) (rising : Bool) (subns : Fin 8) (s : State) : Host.Outcome State Fault Refusal :=
  .next (
    if !s.dtRuns then s
    else
      let fine := finePs s.dt subns.val
      match s.cap.levels.find? (fun e => e.1 == input.val) with
      | some (_, _, last) =>
        if fine < last + 64 then
          ({ s with cap := { s.cap with levels := (input.val, rising, fine) :: s.cap.levels.filter (fun e => e.1 != input.val) } }).bump
            (ck1 .edgesLost input.val)
        else s.stampEdge input.val rising subns.val fine
      | none => s.stampEdge input.val rising subns.val fine)

/-- CAPTURE_TRIGGER (R339): the engine takes the trigger that reached it first, of equals the one of the lowest record; in
REPLAY the kinds 2 to 5 are not taken (R360). -/
def State.captureTrigger (s : State) : State :=
  let due := s.cap.stamps.flatMap (fun x => (s.pendingFor x).map (fun i =>
    (x, i, x.dt + max 6 (trigSrcMinWidth (s.rec_ .trigSrc i) * 1000))))
  let before (a b : Nat × Nat) : Bool := decide (a.1 < b.1) || (a.1 == b.1 && decide (a.2 < b.2))
  let first := (due.filter (fun e => decide (e.2.2 ≤ s.dt))).foldl (fun (o : Option (TrigStamp × Nat × Ns)) e => match o with
    | none => some e
    | some f => some (if before (e.2.2, e.2.1) (f.2.2, f.2.1) then e else f)) none
  let takeStamp (e : TrigStamp × Nat × Ns) : State :=
    let s := { s with cap := { s.cap with stamps := s.cap.stamps.map (fun (x : TrigStamp) => if x = e.1 then { x with done := x.done ++ [e.2.1] } else x) } }
    s.dropStamps.takeTrig { s.trigOf e.2.1 e.1.dt e.1.sub with tsw := e.1.tsw }
  let takeHead (t : Trig) : State :=
    let s := { s with cap := { s.cap with trigs := s.cap.trigs.drop 1 } }
    if s.boot.mode == .replay && decide (2 ≤ t.kind) && decide (t.kind < 6) then s else s.takeTrig t
  match first, s.cap.trigs with
  | none, [] => s
  | some e, [] => takeStamp e
  | none, t :: _ => takeHead t
  | some e, t :: _ => if before (t.reach, t.src) (e.2.2, e.2.1) then takeHead t else takeStamp e

/-- CAPTURE_TRIGGER. -/
def execCaptureTrigger (s : State) : Host.Outcome State Fault Refusal := .next (if s.dtRuns then s.captureTrigger else s)

/-- XTRIG_PULSE_END (R341): XTRIG_N is released. -/
def execXtrigPulseEnd (s : State) : Host.Outcome State Fault Refusal :=
  .next (match s.cap.xtrig with
    | some (_, stop) => if stop ≤ s.dt then { s with cap := { s.cap with xtrig := none } } else s
    | none => s)

/-! Copy-out (R349-R356). -/

/-- The tag below which a record's samples may be copied (R349). -/
def State.capFront (s : State) (x : CapRec) : Ns :=
  let least (ts : List Ns) (d : Ns) : Ns := ts.foldl min d
  let rs := s.capRegions x.cls
  let held (r : Nat) : List Ns := (s.slice r).rows.map (fun w => w.tag) ++ (s.slice r).finals.map (fun f => f.row.tag)
  if capClassRing (s.rec_ .capClass x.cls) = 0 then
    if x.aborted then least (rs.flatMap (fun r => (s.slice r).finals.map (fun f => f.row.tag))) x.stop
    else least (rs.flatMap (fun r => ((s.slice r).next.getD 0) :: held r)) x.stop
  else if x.aborted then x.stop
  else least (rs.map (fun r => s.dt + 1 - (s.retireNs r + s.horizonNs r))) x.stop

/-- At most n sample instants of a record in [a, b). -/
def State.capTake (s : State) (x : CapRec) (a b : Ns) (n : Nat) : List Ns :=
  let rate := s.capRate x.cls
  if rate != 0 then
    let k := gridFrom rate a
    (List.range (min n (gridFrom rate b - k))).map (fun i => gridPoint rate (k + i))
  else (s.capInstants x.cls x.lost a b).take n

/-- A channel of a row class as history stands (R350): its member at a tag, with bit 0 for a LATE value. -/
def State.histMember (s : State) (ch : Nat) (t : Ns) : Member :=
  let es := (s.slice (s.chanRegion ch)).hist.filterMap (fun h => match h.2 with
    | .entry e _ => if !e.between && e.val.tag == t && s.holds ch e.val then some e else none
    | .commit _ => none)
  match es with
  | [] => { ch := ch, status := 0, v0 := 0, v1 := 0, v2 := 0, v3 := 0, tq := 0, gridOff := 0, nominal := false }
  | e :: _ =>
    let late : BitVec 8 := if e.late then 1 else 0
    match e.val with
    | .frame d =>
      let x := s.frameValue ch d
      { ch := ch, status := statusByte true (x.2 || d.test || d.unsync) d.test false d.mirror d.auth false ||| late
        v0 := x.1.1, v1 := x.1.2, v2 := 0, v3 := 0, tq := d.tq, gridOff := d.gridOff, nominal := false }
    | .est v =>
      { ch := ch, status := statusByte true (v.invalid || v.test || v.unsync) v.test false v.mirror false false ||| late
        v0 := v.mag, v1 := v.ang, v2 := v.freq, v3 := v.rocof, tq := 0, gridOff := 0, nominal := v.nominal }

/-- A sample of a waveform channel in the sampled-value ring: its value and status byte (R350). -/
def State.ringSample (s : State) (ch : Nat) (t : Ns) : Option (Word × BitVec 8) :=
  let r := s.rec_ .chan ch
  if chanSource r = 4 then
    let rate := svRate (streamRateCode (s.rec_ .stream (chanSrcRef r)))
    s.align.svRing.findSome? (fun e =>
      if e.1 = chanSrcRef r then
        e.2.2.asdus.findSome? (fun a =>
          if svTag rate a.smpCnt e.2.2.arrival = t then
            match a.samples[chanPosition r]? with
            | some v => some ((scaled r (fOfInt v.1.toInt, 0)).1,
                statusByte true (v.2.toNat % 4 != 0 || e.2.2.unsync || e.2.2.test || e.2.2.blockInvalid) e.2.2.test false e.2.2.mirror false false)
            | none => none
          else none)
      else none)
  else
    match s.align.localRing.find? (fun e => e.1 == chanSrcRef r && e.2.1 == t) with
    | some e => some ((scaled r (e.2.2.1, 0)).1, statusByte true (!e.2.2.2) false false false false false)
    | none => none

/-- What an invalid value of a channel is written as (R350). -/
def capInvalid (source : Nat) : Word := if source = 2 then 0x80000000#32 else qnan

/-- A channel's values and status byte at a tag (R350). -/
def State.capSample (s : State) (ch : Nat) (t : Ns) : List Word × BitVec 8 :=
  let src := chanSource (s.rec_ .chan ch)
  let n := capValues src
  let blank := List.replicate n (capInvalid src)
  if src = 4 ∨ src = 5 then
    match s.ringSample ch t with
    | none => (blank, 0)
    | some v => (if v.2.getLsbD 6 then blank else [v.1], v.2)
  else
    let m := s.histMember ch t
    (if m.valid then [m.v0, m.v1, m.v2, m.v3].take n else blank, m.status)

/-- A value pair of a min/max row (R351). -/
def capPair (source : Nat) (vs : List Word) : List Word :=
  match vs with
  | [] => [capInvalid source, capInvalid source]
  | v :: rest =>
    if source = 2 then [rest.foldl (· &&& ·) v, rest.foldl (· ||| ·) v]
    else [rest.foldl (fun a x => if fLt x a then x else a) v, rest.foldl (fun a x => if fLt a x then x else a) v]

/-- A channel's pairs and status byte over an interval (R351). -/
def State.capInterval (s : State) (ch : Nat) (ts : List Ns) : List Word × BitVec 8 :=
  let src := chanSource (s.rec_ .chan ch)
  let xs := ts.map (fun t => s.capSample ch t)
  let good := (xs.filter (fun x => x.2.getLsbD 7 && !x.2.getLsbD 6)).map (fun x => x.1)
  let pairs := (List.range (capValues src)).flatMap (fun i => capPair src (good.filterMap (fun x => x[i]?)))
  let st := xs.foldl (fun (a : BitVec 8) x => a ||| x.2) 0
  (pairs, if good.isEmpty then st &&& 0x7F#8 else st)

/-- A row of a record over its instants: the values as held, or of a lost row (R354). -/
def State.capRowOf (s : State) (x : CapRec) (minmax : Bool) (tag : Ns) (ts : List Ns) : CapRow :=
  let chans := s.capChans x.cls
  if x.lost.contains tag then
    { tag := tag, status := chans.map (fun _ => 0)
      vals := chans.flatMap (fun ch => let src := chanSource (s.rec_ .chan ch)
        List.replicate (if minmax then 2 * capValues src else capValues src) (capInvalid src)) }
  else
    let xs := chans.map (fun ch => if minmax then s.capInterval ch ts else s.capSample ch tag)
    { tag := tag, vals := xs.flatMap (fun v => v.1), status := xs.map (fun v => v.2) }

/-- What the copy-out of a record comes to next. -/
inductive CapNext where
  /-- A row: min/max, its instants, and the position after it. -/
  | row (minmax : Bool) (tag : Ns) (ts : List Ns) (idx : Nat)
  /-- No row is left before this position. -/
  | skip (next : Ns)
  /-- The next row may not be copied yet, or the record is whole. -/
  | wait

/-- The next row of a record (R343, R351, R356). -/
def State.capNext (s : State) (x : CapRec) : CapNext :=
  let front := s.capFront x
  let d := 2 ^ x.div
  if x.stop ≤ x.nextTag then .wait
  else if x.nextTag < min x.postEnd x.stop then
    let stop := min x.postEnd x.stop
    let skip := (d - x.idx % d) % d
    match (s.capTake x x.nextTag (min front stop) (skip + 1)).drop skip with
    | t :: _ => .row false t [t] (x.idx + skip + 1)
    | [] => if stop ≤ front then .skip stop else .wait
  else
    let n := capClassMmInterval (s.rec_ .capClass x.cls) * d
    match s.capTake x x.nextTag (min front x.stop) n with
    | [] => if x.stop ≤ front then .skip x.stop else .wait
    | t :: ts => if ts.length + 1 = n ∨ x.stop ≤ front then .row true t (t :: ts) 0 else .wait

/-- Put a row into the record's segment, a new one where the kind or the divisor has changed (R356). -/
def CapRec.addRow (x : CapRec) (minmax : Bool) (len : Nat) (row : CapRow) : CapRec :=
  match x.segs.getLast? with
  | some g =>
    if g.minmax = minmax ∧ g.div = x.div then { x with segs := x.segs.dropLast ++ [{ g with rows := g.rows ++ [row] }] }
    else { x with segs := x.segs ++ [{ minmax := minmax, div := x.div, rowLen := len, rows := [row] }] }
  | none => { x with segs := [{ minmax := minmax, div := x.div, rowLen := len, rows := [row] }] }

/-- Bytes of a new segment header when the next row opens one. -/
def CapRec.opens (x : CapRec) (minmax : Bool) : Nat :=
  match x.segs.getLast? with
  | some g => if g.minmax = minmax ∧ g.div = x.div then 0 else 16
  | none => 16

/-- Copy rows of a record while bytes are left; what is left of them (R349). A row may be split across entries. -/
def State.copyRec (seq : Nat) : Nat → Nat → State → State × Nat
  | 0, left, s => (s, left)
  | n + 1, left, s =>
    match s.capRec seq with
    | none => (s, left)
    | some x =>
      match s.capNext x with
      | .wait => (s, left)
      | .skip t => State.copyRec seq n left (s.modRec seq (fun y => { y with nextTag := t, idx := 0 }))
      | .row minmax tag ts idx =>
        let len := s.capRow x.cls minmax
        let need := len + x.opens minmax - x.moved
        if left < need then (s.modRec seq (fun y => { y with moved := y.moved + left }), 0)
        else
          let row := s.capRowOf x minmax tag ts
          State.copyRec seq n (left - need) (s.modRec seq (fun y =>
            let y := (y.addRow minmax len row)
            { y with nextTag := ts.getLastD tag + 1, idx := idx, moved := 0, dataLen := y.dataLen + len + x.opens minmax }))

/-- Header bits 979:974 of a record: RING, PRE_SHORT, TRUNCATED, ABORTED, REPLAY, TRIG_OVERFLOW. -/
def State.capFlags (s : State) (x : CapRec) : Nat :=
  capClassRing (s.rec_ .capClass x.cls) * 32 + b2n x.preShort * 16 + b2n x.truncated * 8 + b2n x.aborted * 4 + b2n x.replay * 2 +
  b2n x.overflow

/-- State code of Table CAP-9. -/
def RecState.code : RecState → Nat
  | .collecting => 0 | .closing => 1 | .draining => 2 | .complete => 3 | .overwritten => 4

/-- The index entry of a record (Table CAP-9), 64 bytes. -/
def State.entryOf (s : State) (x : CapRec) : Bytes :=
  let b := natBe 2 (2 ^ 15 + x.st.code * 2 ^ 12 + x.cls * 2 ^ 8 + s.capFlags x * 4) ++ natBe 4 x.seq ++ natBe 8 (tim1 x.trig.dt) ++
    natBe 5 x.offset ++ natBe 4 x.len ++ natBe 8 (tim1 x.completedAt) ++ natBe 29 0
  b ++ natBe 4 (crc32c b).toNat

/-- A DRAINING record whose last row has been copied becomes COMPLETE (R358), and the partner is told (DELTA 7). -/
def State.completeRec (s : State) (seq : Nat) : State :=
  match s.capRec seq with
  | none => s
  | some x =>
    if x.st == .draining && decide (x.stop ≤ x.nextTag) then
      ((s.modRec seq (fun y => { y with st := .complete, completedAt := s.dt })).chargeCap x.cls 192).mirror
        (.delta x.trig.dt 0 1 (.captureIndex x.seq (s.entryOf { x with st := .complete, completedAt := s.dt })))
    else s

/-- A COPYOUT entry (R349, Table SCH-2): a class's uncompleted records, oldest first, by at most `arg` bytes and no more
than CAPTURE's DRAM budget covers; charged at twice the bytes moved. -/
def State.copyOut (s : State) (r c arg : Nat) : State :=
  if !s.captureOn then s
  else
    let budget := min arg ((s.left r 7).dram.toNat / 2)
    let seqs := (s.cap.recs.filter (fun x => x.cls == c && !x.done)).map (fun x => x.seq)
    let out := seqs.foldl (fun (a : State × Nat) q =>
      let b := State.copyRec q (a.2 + 3) a.2 a.1
      (b.1.completeRec q, b.2)) (s, budget)
    out.1.charge r 7 (dramCost (2 * (budget - out.2)))

/-- RING_OVERWRITE_LOSS (R354): a sample that an uncompleted record has selected and not copied is gone from the ring; its
row becomes a lost row. -/
def State.ringPast (s : State) (c : Nat) (t : Ns) : Bool :=
  (s.capChans c).any (fun ch =>
    let r := s.rec_ .chan ch
    if chanSource r = 4 then (match s.align.svRing with | e :: _ => decide (t < e.2.1) | [] => false)
    else if chanSource r = 5 then (match s.align.localRing with | e :: _ => decide (t < e.2.1) | [] => false)
    else match (s.slice (s.chanRegion ch)).hist with
      | (off, .entry e _) :: _ => off != 0 && decide (t < e.val.tag)
      | (off, .commit f) :: _ => off != 0 && decide (t < f.row.tag)
      | [] => false)

/-- The tag of the row that a sample of a record belongs to; none when the divisor does not keep it. -/
def State.rowOfSample (s : State) (x : CapRec) (t : Ns) : Option Ns :=
  let d := 2 ^ x.div
  if t < x.postEnd then
    (if (x.idx + s.capCount x.cls x.nextTag t) % d = 0 then some t else none)
  else
    let start := max x.nextTag (s.capFirst x.cls x.postEnd)
    let n := capClassMmInterval (s.rec_ .capClass x.cls) * d
    let k := s.capCount x.cls start t / n * n
    ((s.capTake x start (t + 1) (k + 1)).drop k).head?

/-- RING_OVERWRITE_LOSS. -/
def execRingOverwriteLoss (seq : Nat) (tag : Ns) (s : State) : Host.Outcome State Fault Refusal :=
  .next (match s.capRec seq with
    | none => s
    | some x =>
      let rate := s.capRate x.cls
      if x.done || decide (tag < x.nextTag) || decide (x.stop ≤ tag) || (rate != 0 && !onGrid rate tag) || !s.ringPast x.cls tag then s
      else match s.rowOfSample x tag with
        | none => s
        | some t =>
          if x.lost.contains t then s
          else
            let s := s.modRec seq (fun y => { y with lost := y.lost ++ [t], lostRows := y.lostRows + 1, truncated := true })
            ((s.bump (ck1 .lostRows x.cls)).bump (ck1 .truncations x.cls)).postOnce 4 .unit (ck1 .truncations x.cls) 0)

/-! Rate reduction (R352, R353). -/

/-- A class's allowance A: bytes per 2,400 beats. -/
def State.capAllowance (s : State) (c : Nat) : Nat :=
  ((List.range 4).map (fun r => (s.copyouts r c).foldl (· + ·) 0 * 2400 / beatHdrPeriod (s.rec_ .beatHdr r))).foldl (· + ·) 0

/-- A record's part of the demand D. -/
def State.capDemand (s : State) (x : CapRec) : Nat :=
  let c := x.cls
  let d := 2 ^ x.div
  let mm := capClassMmInterval (s.rec_ .capClass c) * d
  let front := s.capFront x
  let n1 := s.capCount c x.nextTag (min front x.postEnd)
  let n2 := s.capCount c (max x.nextTag x.postEnd) (min front x.stop)
  let rows := (ceilDiv (x.idx + n1) d - ceilDiv x.idx d)
  let base := s.capRatio c
  let flow := if x.stop ≤ front then 0
    else if front < x.postEnd then base.1 * s.capRow c false / (base.2 * d) else base.1 * s.capRow c true / (base.2 * mm)
  rows * s.capRow c false + n2 / mm * s.capRow c true - x.moved + flow

/-- At a boundary with a COLLECTING record, its divisor doubles when D exceeds A (R352), with the counts of R353. -/
def State.capReduce (s : State) (c : Nat) : State :=
  let x := s.capCls c
  if x.st != .collecting then s
  else match s.capRec x.rec_ with
  | none => s
  | some y =>
    let demand := ((s.cap.recs.filter (fun z => z.cls == c && !z.done)).map (fun z => s.capDemand z)).foldl (· + ·) 0
    if demand ≤ s.capAllowance c then s
    else if y.div < capClassMaxDiv (s.rec_ .capClass c) then
      ((s.modRec y.seq (fun z => { z with div := z.div + 1 })).bump (ck1 .rangeConflicts c)).conflict 0 (ctrObject (ck1 .rangeConflicts c))
    else if y.limited then s
    else (s.modRec y.seq (fun z => { z with limited := true })).bumpOnce (ck1 .rangeLimits c) 3 .unit

/-! The life of a record (R345, R348, R360, R361). -/

/-- The last sample instant of a record before its end. -/
def State.capLast (s : State) (x : CapRec) (stop : Ns) : Ns :=
  let rate := s.capRate x.cls
  if rate != 0 then max x.spanStart (gridPoint rate (gridFrom rate stop - 1))
  else (s.capInstants x.cls x.lost x.spanStart stop).getLastD x.spanStart

/-- Close a class's open record before its span has ended (R360, R361): ABORTED, its samples up to now. -/
def State.abortRec (s : State) (c : Nat) : State :=
  match s.capRec (s.capCls c).rec_ with
  | none => s
  | some x =>
    let stop := min x.stop s.dt
    (s.modRec x.seq (fun y => { y with st := .draining, aborted := true, stop := stop, spanEnd := s.capLast x stop })).bump
      (ck1 .abortedRecords c)

/-- A class holds an open record. -/
def CapCls.openRec (x : CapCls) : Bool := x.st == .collecting || x.st == .closing

/-- A class becomes ARMED (R342). -/
def CapCls.arm (x : CapCls) (now : Ns) : CapCls :=
  { x with st := .armed, armedAt := now, hit := none, autoDone := false, left := 0, held := [] }

/-- Capture by mode and shedding at a boundary (R342, R360), and XTRIG_N where the mode no longer drives it. -/
def State.captureModes (s : State) : State :=
  let s := if s.drivesXtrig then s else { s with cap := { s.cap with xtrig := none } }
  forAll s.capClasses s (fun s c =>
    let x := s.capCls c
    if !s.captureOn then
      let s := if x.openRec then s.abortRec c else s
      s.modCap c (fun y => { y with st := .off, held := [] })
    else if x.st == .closing then s.modCap c (fun y => { y with left := y.left - 1 })
    else if s.captureShed c then (if x.st == .armed then s.modCap c (fun y => { y with st := .off }) else s)
    else if x.st == .off then s.modCap c (fun y => y.arm s.dt)
    else s)

/-- The engine at each boundary: modes, then the divisors. -/
def State.captureBoundary (s : State) : State :=
  let s := s.captureModes
  forAll s.capClasses s (fun s c => s.capReduce c)

/-- A DT step closes every open record at once (R361), and no later span reaches back across it; `after` is the stepped
time's first boundary. -/
def State.stepCapture (s : State) (after : Ns) : State :=
  let s := forAll s.capClasses s (fun s c =>
    if (s.capCls c).openRec then (s.abortRec c).modCap c (fun y => y.arm after) else s)
  { s with cap := { s.cap with ringFrom := after } }

/-- DT of the last boundary. -/
def State.lastBoundary (s : State) : Option Ns := s.sch.beat.map (fun b => b.2)

/-- AUTO_TRIGGER (R348): at the first boundary at which AUTO_S have passed without a trigger since the class was ARMED. -/
def execAutoTrigger (cls : Fin 16) (s : State) : Host.Outcome State Fault Refusal :=
  .next (
    let c := cls.val
    let r := s.rec_ .capClass c
    let x := s.capCls c
    match s.lastBoundary with
    | none => s
    | some b =>
      let free : Bool := match x.hit with | none => true | some h => h == b
      if capClassValid r == 1 && capClassAuto r == 1 && (x.st == .armed || x.st == .collecting) && !x.autoDone && free &&
          decide (x.armedAt + capClassAutoS r * 1000000000 ≤ b) then
        (s.modCap c (fun y => { y with autoDone := true })).takeTrig
          { dt := b, sub := 0, reach := s.dt, kind := 7, src := 0xFF, mask := 2 ^ c, drive := false, tsw := s.time.tsw, queued := false }
      else s)

/-- SPAN_END (R345): at the first boundary at or after the span's end the class enters CLOSING. -/
def execSpanEnd (cls : Fin 16) (s : State) : Host.Outcome State Fault Refusal :=
  .next (
    let x := s.capCls cls.val
    match s.lastBoundary, s.capRec x.rec_ with
    | some b, some y =>
      if x.st == .collecting && decide (y.stop ≤ b) then
        ((s.modRec y.seq (fun z => { z with st := .closing, spanEnd := s.capLast y y.stop })).modCap cls.val
          (fun z => { z with st := .closing, left := 2 })).chargeCap cls.val 192
      else s
    | _, _ => s)

/-- CLOSING_END (R345): two boundaries later the list is sealed, the record is DRAINING and the class ARMED; a held trigger
starts the next record, and the later ones of the same CLOSING enter its list. -/
def execClosingEnd (cls : Fin 16) (s : State) : Host.Outcome State Fault Refusal :=
  .next (
    let c := cls.val
    let x := s.capCls c
    if x.st == .closing && x.left == 0 then
      let s := (s.modRec x.rec_ (fun y => { y with st := .draining })).modCap c (fun y => y.arm s.dt)
      forAll x.held s (fun s t => s.trigFor t c)
    else s)

end Sys2Proof.Machine
end

