-- ==== Sys2Proof/Machine/Time.lean ====
section
/-! DEFINITION. The Hearth time unit (chapter 06): its sources, the states of its bases, the vote, the servo, steps and
holdover, and the meanings of the commands of that family. -/

namespace Sys2Proof.Machine

/-! Bases (R134, R142). -/

/-- TBn_SRC: 0 none, 1 and 2 the PTP records, 3 GNSS, 4 IRIG-B (Table TIM-2). -/
def State.baseSrc (s : State) (b : Nat) : Nat := fld (timeHdrTbSrcs (s.rec_ .timeHdr 0)) (15 - 4 * b) (12 - 4 * b)

/-- The bases that a source feeds. -/
def State.basesOf (s : State) (src : Nat) : List Nat := (List.range 4).filter (fun b => s.baseSrc b == src)

/-- A base's state. -/
def State.base (s : State) (b : Nat) : BaseSt := s.time.bases.getD b BaseSt.reset

/-- Change a base's state. -/
def State.modBase (s : State) (b : Nat) (f : BaseSt → BaseSt) : State :=
  { s with time := { s.time with bases := modAt s.time.bases b f } }

/-- A base's counter in ns. -/
def BaseSt.ns (x : BaseSt) : Nat := x.acc / 2 ^ 40

/-- A source's reading of the present instant reaches the bases it feeds (R134): each is steered to it by a rate word that
the spec leaves open (log entry 14). -/
def State.sourceReads (s : State) (src : Nat) (reading : Int) : State :=
  forAll (s.basesOf src) s (fun s b => s.modBase b (fun x =>
    let off := reading - (x.ns : Int)
    { x with offset := off, updates := x.updates + 1, updated := true, rate := Config.baseRate b off x.updates }))

/-- BASE_STEP (R134): a base whose offset from its source exceeds 1,000 ns steps to it, in any mode. -/
def execBaseStep (b : Fin 4) (s : State) : Host.Outcome State Fault Refusal :=
  .next (
    let x := s.base b.val
    if s.dtRuns && s.baseSrc b.val != 0 && decide (1000 < x.offset.natAbs) then
      (s.modBase b.val (fun x => { x with acc := ((x.acc : Int) + x.offset * 2 ^ 40).toNat, offset := 0 })).bump (ck1 .baseSteps b.val)
    else s)

/-! PTP (R139). -/

/-- A PTP record's state. -/
def State.ptpSt (s : State) (i : Nat) : PtpSt := s.time.ptp.getD i PtpSt.reset

/-- The data sets of two masters compared by the default best master clock algorithm: the lesser list wins. -/
def Foreign.rank (f : Foreign) : List Nat :=
  [f.ann.prio1, f.ann.clockClass, f.ann.accuracyNs, f.ann.variance, f.ann.prio2, f.ann.gm.toNat, f.ann.stepsRemoved, f.port]

/-- Lexicographic order of two lists. -/
def lexLt : List Nat → List Nat → Bool
  | [], _ => false
  | _ :: _, [] => false
  | x :: xs, y :: ys => decide (x < y) || (x == y && lexLt xs ys)

/-- The best of the foreign masters that qualify: heard at least twice, the last time within three intervals. -/
def bestMaster (now : Ns) (l : List Foreign) : Option Foreign :=
  (l.filter (fun f => f.interval != 0 && decide (now < f.at_ + 3 * f.interval))).foldl (fun o f => match o with
    | none => some f
    | some g => some (if lexLt f.rank g.rank then f else g)) none

/-- Select a record's master anew; another grandmaster identity is noted for the vote (Table TIM-7). -/
def State.selectMaster (s : State) (i : Nat) : State :=
  let x := s.ptpSt i
  let m := bestMaster s.lts x.foreign
  let gm (o : Option Foreign) : Option (BitVec 64) := o.map (fun f => f.ann.gm)
  let s := s.modPtp i (fun y => { y with master := m, sync := if gm m = gm x.master then y.sync else none
                                         syncAt := if gm m = gm x.master then y.syncAt else none })
  if gm m = gm x.master ∨ x.master.isNone then s
  else forAll (s.basesOf (i + 1)) s (fun s b => s.modBase b (fun y => { y with gmChanged := true }))

/-- An Announce (Table TIM-5): ignored from a grandmaster of clockClass above MAX_CLASS. The Announce interval behind
announceReceiptTimeout is the spacing of the last two Announces of the master (DESIGN CHOICE, log entry 41). -/
def State.takeAnnounce (s : State) (i p : Nat) (a : Announce) : State :=
  if ptpRecMaxClass (s.rec_ .ptpRec i) < a.clockClass then s
  else
    let x := s.ptpSt i
    let same (f : Foreign) : Bool := f.port == p && f.ann.gm == a.gm
    let iv := match x.foreign.find? same with | some f => s.lts - f.at_ | none => 0
    let f : Foreign := { port := p, ann := a, at_ := s.lts, interval := iv }
    (s.modPtp i (fun y => { y with foreign := (y.foreign.filter (fun g => !same g)) ++ [f] })).selectMaster i

/-- The peer delay of a record's port, while it is valid: measured within the last four seconds (PRESUMED, log entry 41). -/
def State.peerDelay (s : State) (i p : Nat) : Option Int :=
  match aget (s.ptpSt i).delays p with
  | some d => match d.delay with | some v => if s.lts < d.at_ + 4000000000 then some v else none | none => none
  | none => none

/-- A Sync with its origin time and correction is used (R139): the master's time at its ingress, moved to now. -/
def State.useSync (s : State) (i p : Nat) (stamp : Ns) (origin : Ns) (corr : Int) : State :=
  match s.peerDelay i p with
  | none => s
  | some d =>
    let x := s.ptpSt i
    let iv := match x.syncAt with | some t => s.lts - t | none => 1000000000
    let s := s.modPtp i (fun y => { y with sync := none, syncAt := some s.lts, syncIv := iv })
    s.sourceReads (i + 1) ((origin : Int) + corr + d + ((s.dt : Int) - (stamp : Int)))

/-- The message comes from the record's selected master. -/
def State.fromMaster (s : State) (i p : Nat) (gm : BitVec 64) : Bool :=
  match (s.ptpSt i).master with | some m => m.port == p && m.ann.gm == gm | none => false

/-- Change the peer-delay measurement of a port where its sequence number matches. -/
def State.modDelay (s : State) (i p seq : Nat) (f : PeerDelay → PeerDelay) : State :=
  s.modPtp i (fun y => { y with delays := y.delays.map (fun e => if e.1 = p ∧ e.2.seq = seq then (e.1, f e.2) else e) })

/-- The peer delay of a completed exchange. -/
def PeerDelay.finish (d : PeerDelay) (t3 : Ns) (now : Ns) : PeerDelay :=
  match d.t1, d.t2, d.t4 with
  | some t1, some t2, some t4 => { d with delay := some ((((t4 : Int) - t1) - ((t3 : Int) - t2)) / 2), at_ := now }
  | _, _, _ => d

/-- A frame of a domain record (Table TIM-5). -/
def State.takePtp (s : State) (i : Nat) (x : PtpIn) : State :=
  match x.msg with
  | .announce a => s.takeAnnounce i x.port a
  | .sync gm seq origin corr =>
    if !s.fromMaster i x.port gm then s
    else match origin with
      | some o => s.useSync i x.port x.stamp o corr
      | none => s.modPtp i (fun y => { y with sync := some (seq, x.stamp, corr) })
  | .followUp gm seq origin corr =>
    (match (s.ptpSt i).sync with
      | some (q, stamp, own) => if s.fromMaster i x.port gm && q == seq then s.useSync i x.port stamp origin (own + corr) else s
      | none => s)
  | .pdelayReq seq => s.ptpSend i x.port 3 seq x.stamp
  | .pdelayResp seq t2 => s.modDelay i x.port seq (fun d => { d with t2 := some t2, t4 := some x.stamp })
  | .pdelayRespFollowUp seq t3 => s.modDelay i x.port seq (fun d => d.finish t3 s.lts)
  | .other => s

/-- PTP_FRAME (R139): Hearth takes the oldest frame routed to it. -/
def execPtpFrame (s : State) : Host.Outcome State Fault Refusal :=
  .next (match s.time.ptpIn with
    | [] => s
    | x :: rest =>
      let s := { s with time := { s.time with ptpIn := rest } }
      match s.ptpRecOf x.port x.domain with
      | none => s.bump (ck1 .ptpDiscarded 2)
      | some i => if ptpRecVlanId (s.rec_ .ptpRec i) != x.vid then s.bump (ck1 .ptpDiscarded i) else s.takePtp i x)

/-- A Pdelay_Req of a domain that still waits for room. -/
def pdelayWaits (domain : Nat) (w : Nat × TxFrame) : Bool :=
  match w.2.body with | .ptp d kind _ _ => d == domain && kind == 2 | _ => false

/-- A Pdelay_Req not placed within its 1 s interval is counted as missed, and not sent (Table ARC-4 row 18). -/
def State.missPdelay (s : State) (i p : Nat) : State :=
  let d := ptpRecDomain (s.rec_ .ptpRec i)
  if (s.port p).waiting.any (pdelayWaits d) then
    (s.modPort p (fun x => { x with waiting := x.waiting.filter (fun w => !pdelayWaits d w) })).bump (ck1 .crossingRefused 18)
  else s

/-- A Pdelay_Req of one record on a port. -/
def State.pdelayReq (s : State) (i p : Nat) : State :=
  let old := aget (s.ptpSt i).delays p
  let due : Bool := match old with | some d => decide (d.due ≤ s.lts) | none => true
  if !due then s
  else
    let seq := match old with | some d => (d.seq + 1) % 65536 | none => 0
    let d : PeerDelay := { seq := seq, t1 := none, t2 := none, t4 := none, delay := (old.bind (fun d => d.delay)),
                           at_ := match old with | some d => d.at_ | none => s.lts, due := s.lts + 1000000000 }
    ((s.missPdelay i p).modPtp i (fun y => { y with delays := aput y.delays p d })).ptpSend i p 2 seq 0

/-- PDELAY_REQ_TIMER (Table TIM-5): every 1 s on each port of PORT_MASK, for each record. -/
def execPdelayReqTimer (p : LinePort) (s : State) : Host.Outcome State Fault Refusal :=
  .next (if !(s.port p.val).on then s
    else forAll (List.range 2) s (fun s i =>
      let r := s.rec_ .ptpRec i
      if ptpRecValid r == 1 && bitAt (ptpRecPortMask r) p.val then s.pdelayReq i p.val else s))

/-- PTP_ANNOUNCE_RECEIPT_TIMEOUT (Table TIM-5): three intervals without an Announce of the selected grandmaster. -/
def execPtpAnnounceReceiptTimeout (rec : Fin 2) (s : State) : Host.Outcome State Fault Refusal :=
  .next (match (s.ptpSt rec.val).master with
    | none => s
    | some m =>
      match (s.ptpSt rec.val).foreign.find? (fun f => f.port == m.port && f.ann.gm == m.ann.gm) with
      | some f =>
        if f.at_ + 3 * f.interval ≤ s.lts then
          (s.modPtp rec.val (fun y => { y with foreign := y.foreign.filter (fun g => !(g.port == m.port && g.ann.gm == m.ann.gm)) })).selectMaster rec.val
        else s
      | none => s.selectMaster rec.val)

/-! GNSS and IRIG-B (R140, R141, R161). -/

/-- A signed 16-bit delay of the time header. -/
def delayNs (v : Nat) : Int := signed 16 v

/-- Change the GNSS receiver. -/
def State.modGnss (s : State) (f : WireSrc → WireSrc) : State := { s with time := { s.time with gnss := f s.time.gnss } }

/-- The TAI second of a UTC second, the inserted second 23:59:60 being the one after 23:59:59 (R135, R155). -/
def State.taiOf (s : State) (soc : Nat) (sixty : Bool) : Nat := s.secOfSoc soc false + b2n sixty

/-- A PPS edge is labelled with its TAI second (R140). -/
def State.labelEdge (s : State) (edge : Ns) (sec : Nat) : State :=
  let s := s.modGnss (fun g => { g with labelled := true, last := some sec, tod := none })
  s.sourceReads 3 ((sec : Int) * 1000000000 + ((s.lts : Int) - edge) + delayNs (timeHdrGnssDelay (s.rec_ .timeHdr 0)))

/-- GNSS_SENTENCE (R140). -/
def execGnssSentence (x : Sentence) (s : State) : Host.Outcome State Fault Refusal :=
  .next (if !s.dtRuns || (s.basesOf 3).isEmpty then s
    else match x with
    | .zda utc sixty =>
      let sec := s.taiOf utc sixty
      if timeHdrGnssTodNext (s.rec_ .timeHdr 0) = 1 then s.modGnss (fun g => { g with tod := some sec })
      else (match s.time.gnss.edge with
        | some e => if s.lts < e + 1000000000 then s.labelEdge e sec else s
        | none => s)
    | .gga fix sats => s.modGnss (fun g => { g with fix := fix, sats := sats })
    | .badChecksum => s.bump (ck .gnssFailed)
    | .other => s)

/-- GNSS_PPS_EDGE (R140): the on-time edge of GNSS_PPS_IN, `edgeAgo` ns back. -/
def execGnssPpsEdge (falling : Bool) (edgeAgo : Nat) (s : State) : Host.Outcome State Fault Refusal :=
  .next (if !s.dtRuns || (s.basesOf 3).isEmpty || b2n falling != timeHdrGnssPpsFalling (s.rec_ .timeHdr 0) then s
    else
      let e := s.lts - edgeAgo
      let next := timeHdrGnssTodNext (s.rec_ .timeHdr 0) == 1
      let g := s.time.gnss
      let bare := if next then g.tod.isNone else g.edge.isSome && !g.labelled
      let s := s.modGnss (fun g => { g with edge := some e, labelled := false, failed := g.failed || bare })
      match g.tod with
      | some sec => if next then s.labelEdge e sec else s
      | none => s)

/-- Days from 1970-01-01 to the first of January of a year. -/
def daysBefore (y : Nat) : Nat := 365 * (y - 1970) + (y - 1969) / 4 - (y - 1901) / 100 + (y - 1601) / 400

/-- The UTC year of a second of 1970, up to the year 2369. -/
def yearOf (soc : Nat) : Nat := 1970 + ((List.range 400).filter (fun k => decide (daysBefore (1971 + k) ≤ soc / 86400))).length

/-- The year of an IRIG-B frame (R141): the 1344 year, of 2000 to 2099 (DESIGN CHOICE, log entry 66), or that of DT. -/
def State.irigYear (s : State) (f : IrigFrame) (ext : Bool) : Nat :=
  if ext then 2000 + f.year else yearOf ((s.dt + 500000000) / 1000000000 - s.utcOffset)

/-- The DT second that an IRIG-B frame labels (R141): with IEEE 1344, UTC is the frame's time plus the time offset
(PRESUMED, log entry 66). -/
def State.irigSec (s : State) (f : IrigFrame) (ext : Bool) : Nat :=
  let sixty := f.second == 86400
  let utc : Int := (daysBefore (s.irigYear f ext) + (f.day - 1)) * 86400 + min f.second 86399 + (if ext then f.offset * 1800 else 0)
  s.taiOf utc.toNat sixty

/-- A frame's label follows the one before by the seconds that lie between their on-time points (Table TIM-7). -/
def State.irigFollows (s : State) (edge : Ns) (sec : Nat) : Bool :=
  match s.time.irig.edge, s.time.irig.last with
  | some e, some l => sec == l + (edge - e + 500000000) / 1000000000
  | _, _ => false

/-- IRIGB_FRAME (R141): with IRIG_1344 its parity is required and its fields used. -/
def execIrigbFrame (f : IrigFrame) (s : State) : Host.Outcome State Fault Refusal :=
  .next (
    let h := s.rec_ .timeHdr 0
    let ext := timeHdrIrig1344 h == 1
    if !s.dtRuns || (s.basesOf 4).isEmpty then s
    else if !f.wellFormed || (ext && !f.parityOk) then
      ({ s with time := { s.time with irig := { s.time.irig with failed := s.time.irig.failed || f.wellFormed } } }).bump (ck .irigFailed)
    else
      let sec := s.irigSec f ext
      let edge := s.lts - f.edgeAgo
      let irig := { s.time.irig with
        edge := some edge, last := some sec, labelled := true
        failed := s.time.irig.failed || !s.irigFollows edge sec || (ext && f.tqCode == 15)
        tqCode := if ext then f.tqCode else 15, leapPend := ext && f.leapPending, leapDel := ext && f.leapDelete }
      ({ s with time := { s.time with irig := irig } }).sourceReads 4
        ((sec : Int) * 1000000000 + f.edgeAgo + delayNs (timeHdrIrigDelay h)))

/-! Conditions of a source (Table TIM-7). -/

/-- A source's accuracy figure in ns; none where it gives none. -/
def State.accuracy (s : State) (src : Nat) : Option Nat :=
  let h := s.rec_ .timeHdr 0
  if src = 1 ∨ src = 2 then
    match (s.ptpSt (src - 1)).master with
    | some m => if ptpRecProfile (s.rec_ .ptpRec (src - 1)) = 1 then m.ann.inaccuracyNs else some (m.ann.accuracyNs + 50 * m.ann.stepsRemoved)
    | none => none
  else if src = 3 then some (timeHdrGnssAcc h)
  else if timeHdrIrig1344 h = 1 then
    (let c := s.time.irig.tqCode
     if c = 0 then some 200 else if c ≤ 0xB then some (max 200 (10 ^ (c - 1))) else none)
  else some 1000

/-- The accuracy figure is up to and including SRC_ACC_LIMIT. -/
def State.accurate (s : State) (src : Nat) : Bool :=
  match s.accuracy src with | some a => decide (a ≤ timeHdrSrcAccLimit (s.rec_ .timeHdr 0)) | none => false

/-- Consecutive expected updates missing: since the last Sync by its interval, the last edge by the second. -/
def State.missing (s : State) (src : Nat) : Nat :=
  let count (o : Option Ns) (iv : Nat) : Nat := match o with
    | some t => (s.lts - t + iv / 2) / (max iv 1)
    | none => 3
  if src = 1 ∨ src = 2 then count (s.ptpSt (src - 1)).syncAt (s.ptpSt (src - 1)).syncIv
  else if src = 3 then count s.time.gnss.edge 1000000000 else count s.time.irig.edge 1000000000

/-- The conditions that a source must satisfy while its updates come (Table TIM-7). The fix of the last GGA sentence holds
until the next (DESIGN CHOICE, log entry 66). -/
def State.sourceOk (s : State) (src : Nat) : Bool :=
  s.accurate src &&
  (if src = 1 ∨ src = 2 then
      (match (s.ptpSt (src - 1)).master with | some m => (s.peerDelay (src - 1) m.port).isSome | none => false)
   else if src = 3 then
      (s.time.gnss.fix == 1 || s.time.gnss.fix == 2) && decide (4 ≤ s.time.gnss.sats) && !s.time.gnss.failed
   else !s.time.irig.failed)

/-- The source's update of the past second has come, with what Table TIM-7 asks of it. -/
def State.sourceHeld (s : State) (src : Nat) (updated : Bool) : Bool :=
  s.sourceOk src && (if src = 1 ∨ src = 2 then decide (s.missing src < 3) else updated)

/-- Base offsets from DT in ns (R143). -/
def State.baseOff (s : State) (b : Nat) : Int := ((s.base b).ns : Int) - s.dt

/-- The QUALIFIED bases. -/
def State.qualified (s : State) : List Nat := (List.range 4).filter (fun b => (s.base b).st == .qualified)

/-- The states of one base before the vote (Table TIM-7). -/
def State.baseVote (s : State) (b : Nat) : State :=
  let h := s.rec_ .timeHdr 0
  let x := s.base b
  let src := s.baseSrc b
  let s := s.modBase b (fun x => { x with updated := false, gmChanged := false, missed := s.missing src })
  if src = 0 then s.modBase b (fun x => { x with st := .off })
  else match x.st with
  | .off | .acquiring =>
    let held := if s.sourceHeld src x.updated then x.held + 1 else 0
    let s := s.modBase b (fun x => { x with st := .acquiring, held := held })
    if timeHdrQualTime h ≤ held then
      (s.modBase b (fun x => { x with st := .qualified, agree := 0 })).bump (ck1 .qualifications b) |>.postFor 1 .time (ck1 .qualifications b) 0
    else s
  | st =>
    if 3 ≤ s.missing src ∨ x.gmChanged = true ∨ s.sourceOk src = false then
      (s.modBase b (fun x => { x with st := .acquiring, held := 0 })).bump (ck1 .disqualifications b) |>.postFor 3 .time (ck1 .disqualifications b) 0
    else if st == .dissent then
      let off := s.baseOff b
      let near := s.qualified.all (fun q => decide ((off - s.baseOff q).natAbs ≤ timeHdrVoteTol h))
      let agree := if near then x.agree + 1 else 0
      let s := s.modBase b (fun x => { x with agree := agree })
      if timeHdrQualTime h ≤ agree then
        (s.modBase b (fun x => { x with st := .qualified, agree := 0 })).bump (ck1 .qualifications b) |>.postFor 1 .time (ck1 .qualifications b) 0
      else s
    else s

/-! The vote (R143, R144). -/

/-- A candidate set: its bases, ascending, with the sum of their offsets. -/
structure VoteSet where
  bases : List Nat
  sum : Int

/-- Span of a set's offsets. -/
def State.span (s : State) (l : List Nat) : Nat :=
  match l.map (fun b => s.baseOff b) with
  | [] => 0
  | x :: xs => (xs.foldl max x - xs.foldl min x).toNat

/-- The sets of QUALIFIED bases that reach a majority. -/
def State.majorities (s : State) : List VoteSet :=
  let m := ((List.range 4).filter (fun b => s.baseSrc b != 0)).length
  let q := s.qualified
  if m = 0 then []
  else ((List.range 16).filterMap (fun k =>
    let l := bitsOf 4 k
    if l.all (fun b => q.contains b) && decide (m / 2 + 1 ≤ l.length) && decide (s.span l ≤ timeHdrVoteTol (s.rec_ .timeHdr 0)) then
      some { bases := l, sum := (l.map (fun b => s.baseOff b)).foldl (· + ·) 0 }
    else none))

/-- The set that the three rules prefer (R144). Where all three leave a tie, the first in order of the sets' bit masks stays
(DESIGN CHOICE, log entry 66). -/
def VoteSet.better (a b : VoteSet) : Bool :=
  let na := a.bases.length
  let nb := b.bases.length
  let da := a.sum.natAbs * nb
  let db := b.sum.natAbs * na
  decide (nb < na) || (na == nb && (decide (da < db) || (da == db && decide (a.bases.headD 4 < b.bases.headD 4))))

/-- The agreeing set. -/
def State.agreeing (s : State) : Option VoteSet :=
  s.majorities.foldl (fun o x => match o with
    | none => some x
    | some y => some (if x.better y then x else y)) none

/-! Servo and steps (R145). I and c are kept in 1/1536 ppb (log entry 27). -/

/-- A value held within ± a limit. -/
def clampI (v lim : Int) : Int := if lim < v then lim else if v < -lim then -lim else v

/-- FREQ_CORR_MAX in 1/1536 ppb. -/
def State.corrMax (s : State) : Int := (timeHdrFreqCorrMax (s.rec_ .timeHdr 0) : Int) * 1536

/-- The rate word of a correction in 1/1536 ppb, rounded down to its 2^-40 unit (DESIGN CHOICE, log entry 27). -/
def rateWord (c : Int) : Nat := (2 ^ 40 + c * 2 ^ 40 / 1536000000000).toNat

/-- The servo acts on a mean offset D = sum ÷ n ns. -/
def State.servo (s : State) (sum : Int) (n : Nat) : State :=
  let lim := s.corrMax
  let inc := 12 * sum / n
  let i := clampI (s.time.integ + inc) lim
  let c := 192 * sum / n + i
  let cc := clampI c lim
  let windup : Bool := (decide (lim < c) && decide (0 < inc)) || (decide (c < -lim) && decide (inc < 0))
  { s with time := { s.time with integ := if windup then s.time.integ else i, rate := rateWord cc } }

/-- I and c within a changed FREQ_CORR_MAX (R145, R37). -/
def State.clampServo (s : State) : State :=
  let lim := s.corrMax
  let hi := rateWord lim
  let lo := rateWord (-lim)
  { s with time := { s.time with integ := clampI s.time.integ lim, rate := max lo (min hi s.time.rate) } }

/-- DT steps (R145): open rows close, every history restarts, and beats go on from the next boundary of the stepped time. -/
def State.stepDt (s : State) (d : Int) : State :=
  let acc := ((s.time.acc : Int) + d).toNat
  let dt := acc / 2 ^ 40
  let after := boundaryFrom dt
  let s := (s.stepCapture after).stepSlices after
  let s := { s with time := { s.time with acc := acc, lockSecs := 0 } }
  let s := (s.stepSwage.restartOsc dt).stepIsl.unconverge
  let b := beatOf (after - 1)
  let s := { s with
    sch := { s.sch with beat := s.sch.beat.map (fun _ => (b.2, b.1 + beatStart b.2)) }
    pub := { s.pub with streams := s.pub.streams.map (fun (p : PubStream) => { p with taken := none }) } }
  s.bump (ck .dtSteps)

/-! Holdover and E (R146-R149). -/

/-- E in HOLDOVER (R147), with the crystal's figures after REF_LOST (R150). -/
def State.holdoverErr (s : State) : Nat :=
  let h := s.rec_ .timeHdr 0
  let t := s.hoSeconds
  if s.time.refLost then s.time.err0 + 2000 * errUnit * t
  else s.time.err0 + timeHdrHoFreq h * 172800 * t + timeHdrHoAging h * t * t

/-- E with a majority (R147): A + S ÷ 2 + |D|. -/
def State.majorityErr (s : State) (v : VoteSet) : Nat :=
  let a := (v.bases.map (fun b => (s.accuracy (s.baseSrc b)).getD 0)).foldl max 0
  a * errUnit + s.span v.bases * errUnit / 2 + v.sum.natAbs * errUnit / v.bases.length

/-- HOLDOVER begins (R146). -/
def State.beginHoldover (s : State) : State :=
  if s.time.holdover then s
  else ({ s with time := { s.time with holdover := true, hoSince := s.dt, err0 := s.time.err } }).bump (ck .holdoverEntries)

/-- A forced holdover lapses at the first vote at which E has reached HO_FORCE_LIMIT (R149). -/
def State.forceLapse (s : State) : State :=
  if s.time.forcedHo && decide (timeHdrHoForceLimit (s.rec_ .timeHdr 0) * 1000 * errUnit ≤ s.time.err) then
    (({ s with time := { s.time with forcedHo := false } }).bump (ck .forcedConflicts)).conflict 2 (ctrObject (ck .forcedConflicts))
  else s

/-- Bases outside the agreeing set dissent (Table TIM-7). -/
def State.dissent (s : State) (v : VoteSet) : State :=
  forAll (s.qualified.filter (fun b => !v.bases.contains b)) s (fun s b =>
    (s.modBase b (fun x => { x with st := .dissent, agree := 0 })).bumpOnce (ck1 .dissents b) 4 .time)

/-- A vote with a majority. -/
def State.voteMajority (s : State) (v : VoteSet) : State :=
  let n := v.bases.length
  let first := s.time.neverLocked
  let e := s.majorityErr v
  let held := s.time.majority && !s.time.holdover
  let s := s.dissent v
  let s := { s with time := { s.time with majority := true, neverLocked := false } }
  let s := if s.time.holdover then { s with time := { s.time with err := s.holdoverErr } } else s
  let s := s.forceLapse
  if s.time.forcedHo then { s with time := { s.time with lockSecs := 0 } }
  else
    let s := { s with time := { s.time with holdover := false, err := e, err0 := e, lockSecs := if held then s.time.lockSecs + 1 else 0 } }
    let stepping : Bool := s.boot.mode == .loading || s.boot.mode == .warmup
    if stepping && (first || decide (1000 * n < v.sum.natAbs)) then s.stepDt (v.sum * 2 ^ 40 / n)
    else s.servo v.sum n

/-- A vote without one. -/
def State.voteNone (s : State) : State :=
  let s := { s with time := { s.time with majority := false, lockSecs := 0 } }
  if s.time.neverLocked then s
  else
    let s := s.beginHoldover
    let s := { s with time := { s.time with err := s.holdoverErr } }
    s.forceLapse

/-! Leap seconds (R154). -/

/-- The leap announcement in force: insertion or deletion, none where no source gives one. -/
def State.leapNews (s : State) : Option Bool :=
  let ptp (i : Nat) : Option (Option Bool) :=
    if (s.basesOf (i + 1)).any (fun b => (s.base b).st == .qualified) then
      match (s.ptpSt i).master with
      | some m => if m.ann.utcOffset.isSome then some (if m.ann.leap61 then some false else if m.ann.leap59 then some true else none) else none
      | none => none
    else none
  match ptp 0, ptp 1 with
  | some v, _ => v
  | none, some v => v
  | none, none => if s.time.irig.leapPend && !(s.basesOf 4).isEmpty then some s.time.irig.leapDel else none

/-- Take or drop a leap event: announced for the end of the present UTC day; withdrawn before it; forgotten a day later
where a PTP base gives the new offset. -/
def State.takeLeap (s : State) : State :=
  let sec := s.dt / 1000000000
  let off := s.utcSource
  let dayEnd := ((sec - off) / 86400 + 1) * 86400 + off
  let fresh : State := match s.leapNews with
    | some del => { s with time := { s.time with leap := some (if del then dayEnd - 1 else dayEnd, del), leapOff := off } }
    | none => { s with time := { s.time with leap := none } }
  match s.time.leap with
  | none => fresh
  | some (e, _) =>
    if sec < e then (if s.leapNews.isNone then { s with time := { s.time with leap := none } } else s)
    else if e + 86400 ≤ sec then (if s.ptpUtc.isSome || s.leapNews.isSome then fresh else s)
    else s

/-- TIME_VOTE (R143): at each DT second boundary. -/
def execTimeVote (s : State) : Host.Outcome State Fault Refusal :=
  .next (if !s.dtRuns || decide (s.dt / 1000000000 ≤ s.time.voteSec) then s
    else
      let s := forAll (List.range 4) s (fun s b => s.baseVote b)
      let s := { s with time := { s.time with gnss := { s.time.gnss with failed := false }, irig := { s.time.irig with failed := false } } }
      let s := s.takeLeap
      let s := match s.agreeing with | some v => s.voteMajority v | none => s.voteNone
      { s with time := { s.time with voteSec := s.dt / 1000000000 } })

/-- REF_LOST is set (R150), with its attention. -/
def State.refLost (s : State) : State :=
  if s.time.refLost then s else ({ s with time := { s.time with refLost := true } }).post 6 .time 0x00120000 0

/-- TIME_REF_LOST (R150): the HTH clock runs on the crystal until the next reset, and from it where the reference is still
absent then (log entry 24). -/
def execTimeRefLost (s : State) : Host.Outcome State Fault Refusal :=
  .next (
    let s := { s with ext := { s.ext with timeRef := false } }
    if s.dtRuns then s.refLost else s)

/-- DT_LOCK_CONVERGED (Table MOD-5): a qualified majority has held DT for 10 s. -/
def execDtLockConverged (s : State) : Host.Outcome State Fault Refusal :=
  .next (if s.dtRuns && decide (10 ≤ s.time.lockSecs) && s.time.majority then s.converge 0 0 else s)

end Sys2Proof.Machine
end

