-- ==== Sys2Proof/Machine/Pair.lean ====
section
/-! DEFINITION. The redundant pair (chapter 15): the Tongs link, Woide frames received, the mirror copy, the paths and
roles, takeover, and the meanings of the commands of that family. -/

namespace Sys2Proof.Machine

/-! The link (R386). -/

/-- Change the pair function's state. -/
def State.modPair (s : State) (f : PairSt → PairSt) : State := { s with pair := f s.pair }

/-- MP can carry the link: the device is paired, the mode carries Woide and the port has its PCS lock (Table MOD-6). -/
def State.linkReady (s : State) : Bool :=
  s.paired && s.works && (s.boot.mode != .tamperhold || s.policy 108) && (s.port 4).link

/-- The SESSION of a new link start: the position in bit 31, the rest from the TRNG (Table PAI-2). -/
def newSession (posB : Bool) (r : BitVec 256) : BitVec 32 :=
  BitVec.ofNat 32 (b2n posB * 2 ^ 31 + r.toNat % 2 ^ 31)

/-- WOIDE_LINK_LOCK (R386): PCS lock has held for 1 ms; HANDSHAKE begins with a new SESSION and a HELLO. -/
def execWoideLinkLock (s : State) : Host.Outcome State Fault Refusal :=
  .next (if !s.linkReady || s.pair.link != .down then s
    else
      let r := Config.trng s.free
      (s.draw.modPair (fun p => { p with
        link := .handshake, session := newSession p.posB r, partner := none, partnerPosB := none, nctr := 0, txSeq := 0, rxSeq := 0,
        sent := [], backlog := [], held := [], parts := [], ackDue := none, helloDue := some (s.lts + 10000000), quiet := 0, heard := false,
        peerAck := 0 })).hello)

/-- HELLO_TIMER (R386): in HANDSHAKE a HELLO every 10 ms. -/
def execHelloTimer (s : State) : Host.Outcome State Fault Refusal :=
  .next (match s.pair.helloDue with
    | some t => if s.pair.link == .handshake && decide (t ≤ s.lts) then (s.modPair (fun p => { p with helloDue := some (t + 10000000) })).hello else s
    | none => s)

/-- A path that shows the partner becomes ABSENT, counted with its attention (Tables PAI-6, PAI-8): 0 token, 1 link,
2 observed streams. -/
def State.pathLost (s : State) (n : Nat) : State := (s.bump (ck1 .pathLosses n)).postOnce (if n = 2 then 3 else 4) .unit (ck1 .pathLosses n) 0

/-- The link falls to DOWN (R386): unacknowledged frames are discarded, and the mirror copy is invalid (R393). -/
def State.woideDown (s : State) : State :=
  if s.pair.link == .down then s
  else
    let up := s.pair.link == .up && s.pair.linkPath == .present
    let s := (s.modPair (fun p => { p with
      link := .down, partner := none, sent := [], backlog := [], held := [], ackDue := none, helloDue := none, mirrorValid := false,
      mirror := [], adopt := [], digestFresh := false, downAt := s.dt, linkPath := if up then .absent else p.linkPath })).bump (ck .woideDowns)
    if up then s.pathLost 1 else s

/-- A sequenced frame that is due for retransmission: 200 µs after its last transmission, and within 33 of the partner's
ACK (R387). -/
def State.resendDue (s : State) : Option WSent :=
  s.pair.sent.find? (fun x => decide (seqDist x.f.seq s.pair.peerAck ≤ 33) && decide (x.at_ + 200000 ≤ s.lts))

/-- WOIDE_LINK_DOWN (R386). -/
def execWoideLinkDown (why : WoideDown) (s : State) : Host.Outcome State Fault Refusal :=
  .next (match why with
    | .lockLost => s.woideDown
    | .noFrames => if 2 ≤ s.pair.quiet then s.woideDown else s
    | .retriesExhausted => match s.resendDue with
      | some x => if 8 ≤ x.tries then s.woideDown else s
      | none => s)

/-- WOIDE_RETRANSMIT (R387): the stored frame goes again byte for byte; after 8 the link goes DOWN. -/
def execWoideRetransmit (s : State) : Host.Outcome State Fault Refusal :=
  .next (match s.resendDue with
    | none => s
    | some x =>
      if 8 ≤ x.tries then s.woideDown
      else
        let t : TxFrame := { launch := 0, len := woideLen (woidePlen x.f.body), vid := 0, dstMac := s.pair.partnerMac, dstIp := 0, dport := 0,
                             service := false, pcp := 0, body := .woide x.f }
        let s := s.modPair (fun p => { p with sent := p.sent.map (fun y => if y.f.seq = x.f.seq then { y with at_ := s.lts, tries := y.tries + 1 } else y) })
        (s.place 4 0 t).bump (ck .woideRetransmits))

/-- RECEIVER_ACK_TIMER (R387): no frame has left within 10 µs. -/
def execReceiverAckTimer (s : State) : Host.Outcome State Fault Refusal :=
  .next (match s.pair.ackDue with
    | some t => if t ≤ s.lts then (s.modPair (fun p => { p with ackDue := none })).woideSend .ack else s
    | none => s)

/-! The mirror copy (R391, R393). -/

/-- The place of an item in the mirror copy: SUBTYPE and KEY, and the peer of a subscriber state. -/
def deltaKey (d : Delta) : Nat × Nat :=
  (deltaSubtype d, match d with | .subscriber n ip _ => n * 2 ^ 32 + ip.toNat | d => deltaIndex d)

/-- An item over the copy there: DELTA 1 carries only what the scan changed. -/
def mergeDelta (old new : Delta) : Delta :=
  match old, new with
  | .logicState _ is vs, .logicState t js ws =>
    .logicState t (is.filter (fun i => !js.any (fun j => j.id == i.id)) ++ js) (vs.filter (fun v => !ws.any (fun w => w.1 == v.1)) ++ ws)
  | _, d => d

/-- Keep an item in the mirror copy. -/
def State.keepMirror (s : State) (tag : Ns) (d : Delta) : State :=
  let k := deltaKey d
  let same (m : Nat × Nat × Ns × Delta) : Bool := m.1 == k.1 && m.2.1 == k.2
  let d := match s.pair.mirror.find? same with | some m => mergeDelta m.2.2.2 d | none => d
  s.modPair (fun p => { p with mirror := p.mirror.filter (fun m => !same m) ++ [(k.1, k.2, tag, d)] })

/-- An attention class by its code (Table EMP-3). -/
def attOf (n : Nat) : AttClass := ([.none, .mode, .unit, .sec, .fault, .time] : List AttClass).getD n .none

/-- Keep a partner's item in the partner log (R391). -/
def AttnLog.keep (a : AttnLog) (aseq lvl cls : Nat) (posted : Ns) (src detail : Nat) : AttnLog :=
  let p := a.place
  { a with slots := aput a.slots p.1 { aseq := aseq, posted := posted, lvl := lvl, cls := attOf cls, acked := false, source := src,
                                       detail := detail, ackedAt := 0 }
           head := aseq, toggle := !a.toggle, lost := if p.2 then satAdd a.lost 1 else a.lost
           lostNow := if p.2 then satAdd a.lostNow 1 else a.lostNow }

/-- This device's output stream for a stream of the partner: the same number under matched maps, and under mismatched maps the one
of the same KIND and STREAM_ID by the partner's claim entries (Table PAI-5). -/
def State.ownStream (s : State) (n : Nat) : Option Nat :=
  if s.mapsMatch then some n
  else match s.pair.digest with
  | none => none
  | some d => match d.claims[n]? with
    | none => none
    | some c => if c.valid then s.outs.find? (fun m =>
        outStreamKind (s.rec_ .outStream m) == c.kind && outStreamStreamId (s.rec_ .outStream m) == c.streamId) else none

/-- An item of the partner in this device's own numbers; none where Table PAI-5 does not match it. -/
def State.ownDelta (s : State) (d : Delta) : Option Delta :=
  match d with
  | .alarmState n st ms => (s.ownStream n).map (fun n => .alarmState n st ms)
  | .subscriber n ip on => (s.ownStream n).map (fun n => .subscriber n ip on)
  | d => if s.mapsMatch then some d else deltaMismatched d

/-- An item of the partner (R391, R394): the copy, the partner index, the partner log, or a refused change set. -/
def State.takeDelta (s : State) (tag : Ns) (d : Delta) : State :=
  match d with
  | .captureIndex q e => s.modPair (fun p => { p with partnerIndex := aput p.partnerIndex q e })
  | .attention a lvl cls posted src detail => { s with partnerLog := s.partnerLog.keep a lvl cls posted src detail }
  | .changeRefused b =>
    if s.emp.sets.any (fun x => x.at_ == b && !x.fromPartner) then
      ({ s with emp := { s.emp with sets := s.emp.sets.filter (fun x => !(x.at_ == b && !x.fromPartner)) } }).bump (ck .pairChangeRefused)
    else s
  | .logicState _ is _ =>
    let s := s.keepMirror tag d
    { s with logic := { s.logic with partnerRet := s.logic.partnerRet.filter (fun m => !is.any (fun i => i.id == m.id)) ++ is } }
  | d => s.keepMirror tag d

/-- An item as the maps let it be taken. -/
def State.takeItem (s : State) (tag : Ns) (d : Delta) : State :=
  match s.ownDelta d with
  | some d => s.takeDelta tag d
  | none => s

/-- A frame of an item in several frames: the item is there when every part has arrived (R389). -/
def State.takePart (s : State) (b : WoideBody) (parts : Nat) (of : Nat → WoideBody) : State × Bool :=
  if parts ≤ 1 then (s, true)
  else
    let got := s.pair.parts.filter (fun x => x != b) ++ [b]
    if (List.range parts).all (fun i => got.contains (of i)) then
      (s.modPair (fun p => { p with parts := got.filter (fun x => !(List.range parts).any (fun i => x == of i)) }), true)
    else (s.modPair (fun p => { p with parts := got }), false)

/-! Role frames (R401, R403). -/

/-- The partner's claims and task entries of a ROLE frame take the place of the last DIGEST's. -/
def State.noteClaims (s : State) (cs : List Claim) (ts : List TaskEntry) : State :=
  s.modPair (fun p => { p with digest := p.digest.map (fun d => { d with claims := cs, tasks := ts }) })

/-- A standby still meets the conditions of a handover (R403). -/
def State.handoverFit (s : State) : Bool :=
  s.boot.mode == .standby && s.pair.role == .standby && s.pair.link == .up && s.pair.mirrorValid

/-- A ROLE frame: 1 HANDOVER, 2 ACCEPT, 3 CANCEL, 4 RELEASE. -/
def State.takeRole (s : State) (code : Nat) (e : Ns) (cs : List Claim) (ts : List TaskEntry) : State :=
  match code with
  | 1 =>
    if s.handoverFit then
      ((s.noteClaims cs ts).modPair (fun p => { p with takeAt := some e, takeHand := true })).urgent (s.roleBody 2 e)
    else s
  | 2 =>
    s.modPair (fun p => { p with handover := match p.handover with
      | some (b, ok) => some (b, ok || (b == e && decide (boundaryFrom s.dt < e))) | none => none })
  | 3 => s.modPair (fun p => { p with takeAt := none, takeHand := false })
  | 4 => (s.noteClaims cs ts).modPair (fun p => { p with takeAt := some e, takeHand := false })
  | _ => s

/-- A change set of the partner (R394): checked by Table IMG-11; a fault is answered in the next DELTA 8. -/
def State.takeChange (s : State) (e : Ns) (cs : List ChangeEntry) : State :=
  match s.ovCheck cs with
  | some _ => s.mirror (.delta s.dt 0 1 (.changeRefused e))
  | none => s.addSet { at_ := e, entries := cs, fromPartner := true, task := none, carried := false, seq := 0 }

/-- Apply a sequenced body (Table PAI-3). -/
def State.applyBody (s : State) (b : WoideBody) : State :=
  match b with
  | .fill h f => s.takeFill h f
  | .delta tag part parts d =>
    match s.takePart (.delta tag part parts d) parts (fun i => .delta tag i parts d) with
    | (s, true) => s.takeItem tag d
    | (s, false) => s
  | .role code e cs ts => s.takeRole code e cs ts
  | .change e cs => s.takeChange e cs
  | .snapshot _ _ _ none => s.modPair (fun p => { p with mirrorValid := true })
  | .snapshot tag part parts (some d) =>
    match s.takePart (.snapshot tag part parts (some d)) parts (fun i => .snapshot tag i parts (some d)) with
    | (s, true) => s.takeItem tag d
    | (s, false) => s
  | _ => s

/-! Receiving (R388, Table PAI-4a). -/

/-- Acknowledgements of a frame (R387): what they cover is done with, and the window moves on. -/
def State.takeWoideAck (s : State) (f : WoideFrame) : State :=
  let old := s.pair.peerAck
  let new := if seqDist f.ack old < 2 ^ 31 then f.ack else old
  let acked (q : Nat) : Bool :=
    decide (seqDist new q < 2 ^ 31) || (let n := seqDist q new; decide (2 ≤ n) && decide (n ≤ 33) && f.ackMap.getLsbD (n - 2))
  let done := s.pair.sent.filter (fun x => acked x.f.seq)
  let carries (x : SetDue) (w : WSent) : Bool := match w.f.body with | .change b cs => b == x.at_ && cs == x.entries | _ => false
  let near (x : WSent) : WSent := if 33 < seqDist x.f.seq old ∧ seqDist x.f.seq new ≤ 33 then { x with at_ := s.lts } else x
  let s := s.modPair (fun p => { p with peerAck := new, sent := (p.sent.filter (fun x => !acked x.f.seq)).map near })
  let sets := s.emp.sets.map (fun x => { x with carried := x.carried && !done.any (carries x) })
  State.woideFlush 128 { s with emp := { s.emp with sets := sets } }

/-- Apply the held frames that now follow in order. -/
def State.drainWoide : Nat → State → State
  | 0, s => s
  | n + 1, s =>
    match s.pair.held.find? (fun f => seqDist f.seq s.pair.rxSeq == 1) with
    | none => s
    | some f =>
      State.drainWoide n ((s.modPair (fun p => { p with rxSeq := f.seq, held := p.held.filter (fun g => g.seq != f.seq) })).applyBody f.body |>.bump (ck .woideApplied))

/-- A HELLO (R386): the partner's session is adopted, and the link comes UP when it echoes this device's own. -/
def State.takeHello (s : State) (f : WoideFrame) (echo : BitVec 32) (hash : BitVec 64) : State :=
  let fits := echo == 0 || echo == s.pair.session
  let s := s.modPair (fun p => { p with partnerHash := some hash })
  let s := if s.pair.partner.isNone && fits then
      s.modPair (fun p => { p with partner := some f.session, partnerMac := f.src, partnerPosB := some (f.session.getLsbD 31) })
    else s
  if s.pair.link == .handshake && echo == s.pair.session && s.pair.partner == some f.session then
    ((s.modPair (fun p => { p with link := .up, mirrorValid := false, mirror := [], helloDue := none })).hello).snapshot
  else s

/-- The sqNum that a DIGEST's claims give an ALARM stream of this device for its present stNum (Table PAI-4). -/
def State.claimedSq (s : State) (d : DigestRec) (n : Nat) : Option Nat :=
  let r := s.rec_ .outStream n
  match d.claims.find? (fun c => c.valid && c.kind == outStreamKind r && c.streamId == outStreamStreamId r) with
  | some c => if c.claim / 2 ^ 32 = (s.pubStream n).stNum then some (c.claim % 2 ^ 32) else none
  | none => none

/-- The ALARM streams whose sqNum differs from the one that a DIGEST claims for the same stNum (R391), compared as it comes. -/
def State.sqDiffers (s : State) (d : DigestRec) : List (Nat × Nat) :=
  (s.outs.filter (fun n => outStreamAlarm (s.rec_ .outStream n) == 1)).filterMap (fun n => match s.claimedSq d n with
    | some q => if (s.pubStream n).sqNum = q then none else some (n, q)
    | none => none)

/-- A DIGEST (Table PAI-4), with the comparisons of R391 and R394. -/
def State.takeDigest (s : State) (d : DigestRec) : State :=
  let n := if d.ovCrc = crc32c s.ovBytes then 0 else s.pair.ovDiffer + 1
  let s := s.modPair (fun p => { p with digest := some d, digestFresh := true, ovDiffer := n, partnerHash := some d.mapHash,
                                        adopt := if p.role == .standby && p.mirrorValid then s.sqDiffers d else [] })
  if n = 2400 then s.bumpOnce (ck .ovDivergences) 4 .unit else s

/-- A frame of a type that is sequenced. -/
def woideSequenced : WoideBody → Bool
  | .fill .. | .delta .. | .role .. | .change .. | .snapshot .. => true
  | _ => false

/-- A sequenced frame by its SEQ. -/
def State.takeSeq (s : State) (f : WoideFrame) : State :=
  let d := seqDist f.seq s.pair.rxSeq
  let due (s : State) : State := s.modPair (fun p => { p with ackDue := match p.ackDue with | some t => some t | none => some (s.lts + 10000) })
  if d = 1 then
    due (State.drainWoide 128 (((s.modPair (fun p => { p with rxSeq := f.seq })).applyBody f.body).bump (ck .woideApplied)))
  else if d = 0 ∨ 2 ^ 31 ≤ d ∨ (s.pair.held.any (fun g => g.seq == f.seq)) = true then (s.bump (ck .woideRepeats)).woideSend .ack
  else if d ≤ 128 then due ((s.modPair (fun p => { p with held := p.held ++ [f] })).bump (ck .woideHeld))
  else s.bump (ck .woideBeyond)

/-- WOIDE_FRAME_RECEIVE (R388). -/
def State.woideReceive (s : State) (f : WoideFrame) : State :=
  match f.body with
  | .unknown _ => s.bump (ck .woideUnknown)
  | b =>
    if !s.woideVerifies f then (s.bump (ck .woideAuthFail)).postOnce 5 .sec (ck .woideAuthFail) 0
    else match b with
    | .hello echo _ _ hash _ _ => (s.modPair (fun p => { p with heard := true })).takeHello f echo hash
    | b =>
      if s.pair.partner != some f.session then s.bump (ck .woideStale)
      else
        let s := (s.modPair (fun p => { p with heard := true })).takeWoideAck f
        if woideSequenced b then s.takeSeq f
        else match b with
        | .digest beat mode role unfit valid hash ov _ cs ts =>
          s.takeDigest { beatDt := beat, mode := mode, role := role, unfit := unfit, mirrorValid := valid, mapHash := hash, ovCrc := ov,
                         claims := cs, tasks := ts }
        | _ => s

/-- WOIDE_FRAME_RECEIVE: the oldest frame of MP's receive queue (Table ARC-4 row 4) leaves it and is taken. -/
def execWoideFrameReceive (f : WoideFrame) (s : State) : Host.Outcome State Fault Refusal :=
  let s := s.modPort 4 (fun x => { x with ingress := x.ingress.drop 1, used := x.used - (match x.ingress with | i :: _ => i.frame.len | [] => 0) })
  .next (if s.linkReady && s.pair.link != .down then s.woideReceive f else s)

/-! Paths and roles (R383, R395, R396). -/

/-- The role code of a token pulse of a width: 0 STANDBY fit, 1 STANDBY unfit, 2 UNDECIDED, 3 PRIMARY. -/
def tokenCode (widthNs : Nat) : Option Nat :=
  (List.range 4).find? (fun i => decide (20000 * i + 15000 ≤ widthNs) && decide (widthNs ≤ 20000 * i + 25000))

/-- TOKEN_PULSE (R383): accepted within ±50 µs of this device's own boundary at one of the four widths. -/
def execTokenPulse (riseNs : Int) (widthNs : Nat) (s : State) : Host.Outcome State Fault Refusal :=
  .next (match tokenCode widthNs with
    | some c =>
      if s.paired && s.works && decide (riseNs.natAbs ≤ 50000) then s.modPair (fun p => { p with token := some c, tokenSeen := true })
      else s
    | none => s)

/-- A PARTNER_WATCH stream is LIVE (Table PAI-6). -/
def State.watchLive (s : State) : Bool :=
  (s.valids .stream 511 8192).any (fun i => bitAt (streamSflags (s.rec_ .stream i)) 2 && (s.streamSt i).st == .live)

/-- The three paths at a boundary (R395), on the token pulses, DIGESTs and frames since the last. -/
def State.judgePaths (s : State) : State :=
  let p := s.pair
  let missing := if p.tokenSeen then 0 else p.missing + 1
  let tokenGone := !p.tokenSeen && decide (2 ≤ missing) && p.tokenPath == .present
  let obs := s.watchLive
  let obsGone := !obs && p.obsPath == .present
  let token := if p.tokenSeen then .present else if tokenGone then .absent else p.tokenPath
  let link := if p.link == .up && p.digestFresh then .present else p.linkPath
  let obsPath := if obs then .present else if obsGone then .absent else p.obsPath
  let none_ := token != .present && link != .present && obsPath != .present
  let s := s.modPair (fun p => { p with
    missing := missing, token := if p.tokenSeen then p.token else none, tokenSeen := false, tokenPath := token, linkPath := link,
    obsPath := obsPath, digestFresh := false, quiet := if p.heard then 0 else p.quiet + 1, heard := false
    noPath := if none_ then p.noPath + 1 else 0 })
  let s := if tokenGone then s.pathLost 0 else s
  if obsGone then s.pathLost 2 else s

/-- What the token and the last DIGEST show of the partner's role: 0 UNDECIDED, 1 PRIMARY, 2 STANDBY (Table EMP-13). -/
def State.partnerShows (s : State) (fresh : Bool) (role : Nat) : Bool :=
  (match s.pair.token with | some c => (if c = 3 then 1 else if c = 2 then 0 else 2) == role | none => false) ||
  (match s.pair.digest with | some d => fresh && d.role == role | none => false)

/-- A role is decided (R396), counted with its attention. -/
def State.decideRole (s : State) (r : Role) (lvl : Nat) : State := ((s.setRole r).bump (ck .roleDecisions)).postFor lvl .mode (ck .roleDecisions) 0

/-- Table PAI-7: an UNDECIDED device decides at each boundary; `fresh` says that a DIGEST came for the last one. -/
def State.roleDecision (s : State) (fresh : Bool) : State :=
  if !s.paired || s.pair.role != .undecided || s.boot.mode != .warmup then s
  else if s.pair.partnerPosB == some s.pair.posB then (s.bump (ck .positionConflicts)).postOnce 7 .fault (ck .positionConflicts) 0
  else if s.partnerShows fresh 1 || s.pair.obsPath == .present then s.decideRole .standby 2
  else if s.partnerShows fresh 2 then s.decideRole .primary 2
  else if s.partnerShows fresh 0 then s.decideRole (if s.pair.posB then .standby else .primary) 2
  else if 24 ≤ s.pair.noPath then s.decideRole .primary 4
  else s

/-- A standby that cannot take over because two or more paths are UNKNOWN (Table PAI-8). -/
def State.unknownPaths (s : State) : State :=
  let n := ([s.pair.tokenPath, s.pair.linkPath, s.pair.obsPath].filter (fun x => x == .unknown)).length
  if s.paired && s.pair.role == .standby && decide (2 ≤ n) then s.postOnce 5 .unit (ck1 .pathLosses 3) 0 else s

/-- T9 is due at a boundary (R397): the partner is ABSENT on two paths, or a RELEASE or accepted HANDOVER names it. -/
def State.takeoverDue (s : State) : Bool :=
  let n := ([s.pair.tokenPath, s.pair.linkPath, s.pair.obsPath].filter (fun x => x == .absent)).length
  s.paired && s.pair.role == .standby && s.boot.mode == .standby &&
  (decide (2 ≤ n) || (match s.pair.takeAt with | some e => decide (e ≤ s.dt) | none => false))

/-! Takeover (R399-R401). -/

/-- The boundaries after a and before b, at most n of them. -/
def boundariesIn : Nat → Ns → Ns → List Ns
  | 0, _, _ => []
  | n + 1, a, b => let t := nextBoundary a; if t < b then t :: boundariesIn n t b else []

/-- The row of a region that the boundary at t steps (R281). -/
def State.rowAt (s : State) (r : Nat) (t : Ns) : Nat := (beatOf t).2 % beatHdrPeriod (s.rec_ .beatHdr r)

/-- The LAUNCH entries: region, row, stream and ARG. -/
def State.launches (s : State) : List (Nat × Nat × Nat × Nat) :=
  (s.img.filter (fun e => decide (e.1.1 = .post) && postValid e.2 == 1 && postOp e.2 == 2)).map
    (fun e => (e.1.2 / (2400 * 64), e.1.2 / 64 % 2400, postTemplate e.2, postArg e.2))

/-- The LAUNCH entries that act at a boundary. -/
def State.launchesAt (s : State) (b : Ns) : List (Nat × Nat × Nat × Nat) := s.launches.filter (fun l => s.rowAt l.1 b == l.2.1)

/-- Tags that no device launched (R401): the LAUNCH boundaries between the partner's last and this one. -/
def State.gapLaunches (s : State) : List (Nat × Nat × Nat × Nat) :=
  match s.pair.takeAt, s.pair.digest with
  | some e, _ => (boundariesIn 4800 (e - 1) s.dt).flatMap s.launchesAt
  | none, some d =>
    (if s.pair.link == .up then [] else (s.launchesAt d.beatDt).filter (fun l => decide (s.pair.downAt < d.beatDt + l.2.2.2))) ++
      (boundariesIn 4800 d.beatDt s.dt).flatMap s.launchesAt
  | none, none => []

/-- Count them as takeover gaps. The tag of the last DIGEST's boundary is among them when the link fell before its launch instant,
which is how this device sees the partner stop (DEDUCED, log entry 39). -/
def State.countGaps (s : State) : State := forAll s.gapLaunches s (fun s l => s.bump (ck1 .takeoverGaps l.2.2.1))

/-- An ALARM stream's first frame after a takeover (R400): a state change with the mirrored stNum plus 2. -/
def State.takeAlarm (s : State) (n : Nat) : State :=
  let st := match s.mirrorOf 3 n with | some (_, .alarmState _ st _) => st | _ => (s.pubStream n).stNum
  (s.modPub n (fun p => { p with stNum := nextSeq st })).alarmChange n 0

/-- The mirrored trip series and subscriber states go on (R400). -/
def State.takeMirrored (s : State) : State :=
  forAll s.pair.mirror s (fun s m => match m.2.2.2 with
    | .tripSeries o active tag left =>
      let trips := s.logic.trips.filter (fun t => t.out != o)
      { s with logic := { s.logic with trips := if active then
          trips ++ [match s.logic.trips.find? (fun t => t.out == o) with
            | some t => { t with tag := tag, left := left }
            | none => { out := o, tag := tag, left := left, due := s.lts + outRecRetryMs (s.rec_ .outRec o) * 1000000 }] else trips } }
    | .subscriber n ip on =>
      if outStreamSendMode (s.rec_ .outStream n) = 1 then
        match (s.subscribers n).find? (fun p => peerIp (s.rec_ .peer p) == ip.toNat) with
        | some peer => s.modPub n (fun p => { p with peers := p.peers.filter (fun x => x != peer) ++ (if on then [peer] else []) })
        | none => s
      else s.modPub n (fun p => { p with on := on })
    | _ => s)

/-- T9 (Table MOD-2): the standby claims the primary role and takes over at this boundary. -/
def State.takeOver (s : State) : State :=
  let lvl := if s.pair.takeHand then 2 else 5
  let s := s.countGaps
  let after := match s.pair.digest with
    | some d => (List.range 32).map (fun t => (t, (d.tasks.getD t { tag := 0, crc := 0 }).tag + 1))
    | none => []
  let s := s.transit 9 .takeover lvl .mode
  let s := { s with logic := { s.logic with ownAfter := after } }
  let s := s.takeMirrored
  let s := { s with pub := { s.pub with streams := s.pub.streams.map (fun (p : PubStream) => { p with published := false }) } }
  let s := forAll (s.outs.filter (fun n => outStreamAlarm (s.rec_ .outStream n) == 1)) s (fun s n => s.takeAlarm n)
  s.setRole .primary

/-! Adoption by a standby (R391). -/

/-- DELTA 3: an ALARM stream that differs from the copy takes it; its sqNum is the one that the last DIGEST claimed. -/
def State.adoptAlarm (s : State) (n : Nat) : State :=
  match s.mirrorOf 3 n with
  | some (_, .alarmState _ st ms) =>
    let own := s.pubStream n
    let copy : List VarVal := ms.map (fun m => { v := m.1, q := m.2 })
    let sq := aget s.pair.adopt n
    if own.stNum = st ∧ own.members = copy ∧ sq = none then s
    else
      let s := s.modPub n (fun p => { p with stNum := st, members := copy, changed := false })
      let q := match sq, s.pair.digest with
        | some q, _ => q
        | none, some d => (s.claimedSq d n).getD own.sqNum
        | none, none => own.sqNum
      (s.modPub n (fun p => { p with sqNum := q })).bump (ck1 .resyncs 3)
  | _ => s

/-- DELTA 5: a mode whose alarm state differs for the same update takes the primary's. -/
def State.adoptMode (s : State) (i : Nat) : State :=
  match s.mirrorOf 5 i, aget s.osc.latest i with
  | some (tag, .oscAlarm _ picked runs f), some r =>
    let a := s.modeAlarm i
    let freq := if f = 0 then none else some f
    if r.tag = tag ∧ (a.picked ≠ picked ∨ a.runs ≠ runs ∨ a.freq ≠ freq) then
      (s.setAlarm i { a with picked := picked, runs := runs, freq := freq }).bump (ck1 .resyncs 5)
    else s
  | _, _ => s

/-- The adoptions of a boundary; a task's is made at its scan boundary. -/
def State.adoptMirror (s : State) : State :=
  if s.pair.role != .standby || !s.pair.mirrorValid || s.pair.link != .up then s
  else
    let s := forAll (s.outs.filter (fun n => outStreamAlarm (s.rec_ .outStream n) == 1)) s (fun s n => s.adoptAlarm n)
    let s := s.modPair (fun p => { p with adopt := [] })
    if s.mapsMatch then forAll (s.osc.latest.map (fun e => e.1)) s (fun s i => s.adoptMode i) else s

/-! Leaving the role (R401-R403). -/

/-- A cause of R401 that awaits its boundary: T16, T21 from a restart request, T19 without MIRROR. -/
def State.leaving (s : State) : Bool :=
  s.boot.evs.any (fun e => match e with
    | .critical | .restart _ => true
    | .tamper => !s.policy 108
    | _ => false)

/-- RELEASE (R401): a leaving primary names E, the boundary at which its transition takes effect. -/
def execRelease (s : State) : Host.Outcome State Fault Refusal :=
  .next (if s.works && s.leaving && s.pair.leaveAt.isNone then s.releaseRole (nextBoundary s.dt) else s)

/-- The partner publishes beside this primary, or shows PRIMARY (R402): a PARTNER_WATCH frame of a tag after this device
took its role, the token, or a DIGEST. -/
def State.splitSeen (s : State) : Bool :=
  s.paired && s.works && s.pair.role == .primary &&
  ((s.watchLive && decide (s.pair.roleAt < s.pair.seenTag)) || s.partnerShows s.pair.digestFresh 1)

/-- SPLIT_BRAIN (R402): position B restarts at the next boundary, position A continues. -/
def execSplitBrain (s : State) : Host.Outcome State Fault Refusal :=
  .next (
    if !s.splitSeen || s.pair.split then s
    else
      let s := (s.modPair (fun p => { p with split := true })).bump (ck .splitBrains)
      if s.pair.posB then
        let s := s.bbxWith 6 .fault 0x001D0000 0 0x0050 [2#8, 0#8]
        let s := { s with boot := { s.boot with evs := s.boot.evs ++ [Ev.restart false] } }
        s.releaseRole (nextBoundary s.dt)
      else s.post 6 .fault 0x001D0000 0)

end Sys2Proof.Machine
end

