-- ==== Sys2Proof/Machine/EmpOps.lean ====
section
/-! DEFINITION. What every EMP request passes through (chapter 17): authority, version, sessions, the duplicate rules, the
modes of each opcode, replies and their cache, and the requests whose effect lies at a beat boundary. -/

namespace Sys2Proof.Machine

/-! Result codes (Table EMP-5). -/

/-- OK. -/
def rOk : Nat := 0x00
/-- ACCEPTED. -/
def rAccepted : Nat := 0x01
/-- DUPLICATE_STALE. -/
def rStale : Nat := 0x02
/-- SEQ_OLD. -/
def rOld : Nat := 0x03
/-- DUPLICATE_MISMATCH. -/
def rMismatch : Nat := 0x04
/-- NO_SESSION. -/
def rNoSession : Nat := 0x05
/-- SESSION_FULL. -/
def rFull : Nat := 0x06
/-- BAD_VERSION. -/
def rVersion : Nat := 0x07
/-- AUTHORITY. -/
def rAuthority : Nat := 0x09
/-- MODE. -/
def rMode : Nat := 0x0A
/-- NO_OBJECT. -/
def rNoObject : Nat := 0x0B
/-- ACCESS. -/
def rAccess : Nat := 0x0C
/-- RANGE. -/
def rRange : Nat := 0x0D
/-- BUSY. -/
def rBusy : Nat := 0x0E
/-- REFUSED. -/
def rRefused : Nat := 0x0F
/-- STAGE_FAIL. -/
def rStageFail : Nat := 0x10
/-- KEY_FAIL. -/
def rKeyFail : Nat := 0x11

/-! Authority (R442). -/

/-- The authorities that reach EMP. -/
inductive Auth where
  | read | operator | service
  deriving DecidableEq, Repr

/-- The authority of a request that arrives now: OPERATOR on MGP; on SVP SERVICE while SVC_KEY_N is asserted and the SVP
enable is in force, else read authority. -/
def State.authOf (s : State) (svp : Bool) : Auth :=
  if !svp then .operator else if s.panel.svcKey && s.panel.svpEnd.isSome then .service else .read

/-- Whether an authority may send an opcode at all (Table EMP-4). -/
def authAllows (op : Nat) (q : EmpReq) (a : Auth) : Bool :=
  match op with
  | 0x0001 | 0x0002 | 0x0003 => true
  | 0x0010 =>
    if q.object.toNat / 65536 = 0x001F then a != .read
    else if q.clear then (if q.object.toNat / 65536 = 0x001E then a == .service else a != .read)
    else true
  | 0x0011 => if q.object.toNat = 0x001E0400 then a == .service else a != .read
  | 0x0031 | 0x0032 | 0x0033 | 0x0034 | 0x0040 | 0x0041 | 0x0042 | 0x0043 | 0x0044 | 0x0045 | 0x0060 | 0x0061 => a == .service
  | _ => a != .read

/-- The opcodes marked "boot" (Table EMP-4). -/
def bootOp (op : Nat) : Bool :=
  ([0x0001, 0x0002, 0x0003, 0x0010, 0x0020, 0x0021, 0x0022, 0x0023, 0x0024, 0x0030, 0x0031, 0x0032, 0x0033, 0x0060, 0x0061] : List Nat).contains op

/-- WARMUP to TAMPERHOLD. -/
def Mode.toHold (m : Mode) : Bool :=
  match m with
  | .warmup | .active | .standby | .takeover | .degraded | .forced | .replay | .tamperhold => true
  | _ => false

/-- The image's firmware answers EMP; the boot responder does before it, in UNCONFIGURED and in DORMANT (R443). -/
def State.firmware (s : State) : Bool := s.boot.mgmtUp && s.boot.mode != .unconfigured && s.boot.mode != .dormant

/-- Whether an opcode's operation is allowed in the present mode (R443, R444 and the rule of each row). -/
def State.modeAllows (s : State) (op : Nat) (q : EmpReq) (a : Auth) : Bool :=
  let m := s.boot.mode
  if !s.firmware then
    if op = 0x0003 ∨ (op = 0x0010 ∧ q.object.toNat / 65536 = 1) then true
    else if m == .unconfigured then
      a == .service && bootOp op && !(op == 0x0010 && q.object.toNat / 65536 == 0x001F)
    else m == .dormant && a == .service && (op == 0x0001 || op == 0x0002 || op == 0x0060)
  else match op with
    | 0x0023 | 0x0024 => a == .service || m == .warmup || m == .active || m == .standby || m == .degraded
    | 0x0030 => m.toHold && (a == .service || m != .tamperhold)
    | 0x0031 => true
    | 0x0032 => false
    | 0x0033 => m.toHold
    | 0x0034 => m == .tamperhold
    | 0x0040 | 0x0041 => m == .active || m == .forced
    | 0x0042 => (m == .active && !s.paired) || (m == .standby && s.paired) || m == .replay
    | 0x0043 => m == .replay
    | 0x0050 => q.object != 1 && s.beatsRun || m == .active || m == .standby || m == .takeover || m == .degraded || m == .forced
    | 0x0044 | 0x0045 | 0x0051 | 0x0052 | 0x0053 | 0x0054 => s.beatsRun
    | _ => true

/-- The opcodes that request a transition of Table MOD-2: a refusal by mode counts as R42 states. -/
def eventOp (op : Nat) : Bool := ([0x0023, 0x0024, 0x0034, 0x0040, 0x0041, 0x0042, 0x0043, 0x0054] : List Nat).contains op

/-! Replies (R435, R438). -/

/-- The header of a request with a result (R435): STATUS and ATTN_HEAD as they stand now. -/
def State.reply (s : State) (op : Nat) (q : EmpReq) (service : Bool) (result : Nat) (payload : Bytes) : Reply :=
  { svp := q.svp, dst := q.src, opcode := op, session := q.session, seq := q.seq, service := service, cached := false, result := result,
    status := s.attn.status result, attnHead := s.attn.head, object := q.object, offset := q.offset, payload := payload }

/-- Send a reply. -/
def State.emSend (s : State) (r : Reply) : State := { s with emp := { s.emp with replies := s.emp.replies ++ [r] } }

/-- The port number of a request: 5 MGP, 6 SVP. -/
def empPort (svp : Bool) : Nat := if svp then 6 else 5

/-- CRC-32C of OPCODE, OBJECT, OFFSET and payload (R438). -/
def reqCrc (op : Nat) (q : EmpReq) : BitVec 32 :=
  crc32c (natBe 2 op ++ natBe 4 q.object.toNat ++ natBe 4 q.offset.toNat ++ q.payload)

/-- A session of a port. -/
def State.sess (s : State) (svp : Bool) (id : BitVec 32) : Option Sess :=
  s.emp.sessions.find? (fun e => e.svp == svp && e.id == id)

/-- Change a session. -/
def State.modSess (s : State) (svp : Bool) (id : BitVec 32) (f : Sess → Sess) : State :=
  { s with emp := { s.emp with sessions := s.emp.sessions.map (fun e => if e.svp = svp ∧ e.id = id then f e else e) } }

/-- How far b lies behind a, modulo 2^32. -/
def behind (a b : BitVec 32) : Nat := (a - b).toNat

/-- SEQ b is later than a (R438). -/
def laterSeq (a b : BitVec 32) : Bool := decide (0 < behind b a) && decide (behind b a < 2 ^ 31)

/-- A session remembers an executed SEQ with its reply, none while it is to come (R438). -/
def Sess.note (e : Sess) (q : EmpReq) (crc : BitVec 32) (r : Option Reply) : Sess :=
  let h := if laterSeq e.high q.seq then q.seq else e.high
  { e with high := h, done := (q.seq :: e.done).filter (fun x => decide (behind h x < 64)),
           cache := ({ seq := q.seq, crc := crc, reply := r } :: e.cache).take 16 }

/-- Send the outcome of an executed request and keep it in its session's cache. -/
def State.emFinish (s : State) (op : Nat) (q : EmpReq) (service : Bool) (out : Option (Nat × Bytes)) : State :=
  let r := out.map (fun o => s.reply op q service o.1 o.2)
  let s := if q.session = 0 then s else s.modSess q.svp q.session (fun e => e.note q (reqCrc op q) r)
  match r with
  | some r => s.emSend r
  | none => s

/-- Answer a boundary request after its boundary (R437): the reply, and its place in the cache. -/
def State.emAnswer (s : State) (b : BReq) (result : Nat) (payload : Bytes) : State :=
  if b.answered then s
  else
    let r := s.reply b.opcode b.req b.service result payload
    let s := s.modSess b.req.svp b.req.session (fun e =>
      { e with cache := e.cache.map (fun c => if c.seq = b.req.seq ∧ c.reply.isNone then { c with reply := some r } else c) })
    s.emSend r

/-! Taking a request (R435, R436, Table EMP-2). -/

/-- What the session check and the duplicate rules say. -/
inductive Dup where
  /-- Executed. -/
  | run
  /-- Answered with a result and not executed. -/
  | answer (result : Nat)
  /-- Answered from the cache. -/
  | cached (r : Reply)
  deriving DecidableEq, Repr

/-- Table EMP-2 for an existing session. -/
def Sess.judge (e : Sess) (op : Nat) (q : EmpReq) : Dup :=
  if laterSeq e.high q.seq then .run
  else if 64 ≤ behind e.high q.seq then .answer rOld
  else if !e.done.contains q.seq then .run
  else match e.cache.find? (fun c => c.seq == q.seq) with
    | some c => match c.reply with
      | some r => if c.crc = reqCrc op q then .cached r else .answer rMismatch
      | none => .answer rStale
    | none => .answer rStale

/-- The session check (R436) and Table EMP-2. Session 0 is stateless. -/
def State.judge (s : State) (op : Nat) (q : EmpReq) : Dup :=
  if q.session = 0 then (if op = 0x0003 ∨ (op = 0x0010 ∧ q.clear = false) then .run else .answer rNoSession)
  else match s.sess q.svp q.session with
    | some e => e.judge op q
    | none =>
      if op ≠ 0x0001 then .answer rNoSession
      else if 16 ≤ (s.emp.sessions.filter (fun e => e.svp == q.svp)).length then .answer rFull
      else .run

/-- The count of a duplicate decision (Table EMP-2). -/
def State.countDup (s : State) (svp : Bool) (result : Nat) : State :=
  let p := empPort svp
  if result = rOld then s.bump (ck1 .empOld p)
  else if result = rMismatch then s.bumpOnce (ck1 .empMismatch p) 3 .unit
  else if result = rStale then s.bump (ck1 .empStale p)
  else s

/-- Take a request through the checks of R435 in order, and execute it by `body`, which gives the outcome, or none where the
reply comes after a beat boundary. EMP runs while the island does. -/
def State.emTake (s : State) (op : Nat) (q : EmpReq) (body : State → Auth → State × Option (Nat × Bytes)) : State :=
  if !s.boot.island then s
  else
    let s := { s with emp := { s.emp with replies := [] } }
    let a := s.authOf q.svp
    let sv : Bool := a == .service
    if q.version ≠ 1 then s.emSend (s.reply op q sv rVersion [])
    else
      let s := s.modSess q.svp q.session (fun e => { e with at_ := s.rtc })
      match s.judge op q with
      | .answer r => let s := s.countDup q.svp r; s.emSend (s.reply op q sv r [])
      | .cached r =>
        let s := s.bump (ck1 .empCached (empPort q.svp))
        s.emSend { r with cached := true, status := s.attn.status r.result, attnHead := s.attn.head }
      | .run =>
        let s := s.bump (ck1 .empExecuted (empPort q.svp))
        if !authAllows op q a then (s.bump (ck1 .empNoAuthority (empPort q.svp))).emFinish op q sv (some (rAuthority, []))
        else if !s.modeAllows op q a then
          let s := s.bump (ck1 .empNoMode (empPort q.svp))
          -- a mode that takes no change set refuses it whole (Table IMG-11)
          let s := if op = 0x0012 then s.bump (ck .changeSetsRefused) else s
          (if eventOp op then s.refuseEvent else s).emFinish op q sv (some (rMode, []))
        else
          let r := body s a
          r.1.emFinish op q sv r.2

/-- Hold a request for the next beat boundary (R27, R437). -/
def State.emHold (s : State) (k : BReqKind) (op : Nat) (q : EmpReq) (a : Auth) (answered : Bool) : State :=
  { s with emp := { s.emp with breqs := s.emp.breqs ++ [{ kind := k, opcode := op, req := q, service := a == .service, answered := answered }] } }

/-- The first failing item that RANGE names (Table EMP-5). -/
def rangeItem (n : Nat) : Nat × Bytes := (rRange, natBe 4 n)

/-- REFUSED with its 32-bit detail (Table EMP-5). -/
def refusedWith (n : Nat) : Nat × Bytes := (rRefused, natBe 4 n)

end Sys2Proof.Machine
end

