-- ==== Sys2Proof/Machine/Power.lean ====
section
/-! DEFINITION. Resets and what they keep (Table MOD-4), power (R463, R476-R480), tampers (Table KEY-9), and the meanings of
the commands of those families that need no image. -/

namespace Sys2Proof.Machine

/-! Resets of the main domain (R46, Table MOD-4). -/

/-- Counters of the battery domain (R432), which no reset clears. -/
def batteryCtr (c : Ctr) : Bool :=
  match c with
  | .loadsCommitted | .loadsRefused | .loadsAborted | .latchOverflows | .zeroiseTamper | .zeroiseService | .rekeyRefusals
  | .halfUses | .exhaustions | .tampers => true
  | _ => false

/-- A staging that a reset cuts off ends (Table EMP-12). -/
def StageSt.afterReset (x : StageSt) : StageSt :=
  if x.st = .receiving ∨ x.st = .checking then { StageSt.reset with st := .failed, slot := x.slot } else { x with owner := none }

/-- A staging is cut off by a reset. -/
def StageSt.open_ (x : StageSt) : Bool := x.st == .receiving || x.st == .checking

/-- The management subsystem at a reset of the main domain: its sessions are kept (Table MOD-4), and what waited for a beat
boundary is gone. -/
def EmpSt.afterReset (x : EmpSt) : EmpSt :=
  { x with replies := [], breqs := [], stage := x.stage.afterReset, restart := none, sets := [] }

/-- Clear the main domain (Table MOD-4): logic, tables, SRAM and DRAM; counters and attention log unless the reset is a
restart. The battery domain keeps all but R415 and R421; LTS starts again, and DT is set from the real-time clock (R41). -/
def State.clearMain (s : State) (restart : Bool) : State :=
  let rtc := s.rtc
  let sv := s.vaultReset.vault
  let kept := if restart then s.ctrs else s.ctrs.filter (fun e => batteryCtr e.1.c)
  let s' : State :=
    { State.reset with
      boot := { BootSt.reset with rails := s.boot.rails, island := s.boot.island, pulses := s.boot.pulses, fell := s.boot.fell,
                                   heldFrom := s.boot.heldFrom }
      flash := s.flash, ctrs := kept, ctrsAt := kept.map (fun e => (e.1, e.2.val))
      attn := if restart then s.attn else AttnLog.reset
      partnerLog := if restart then s.partnerLog else AttnLog.reset
      bbx := s.bbx
      sens := { s.sens with level := List.replicate 4 0, below := List.replicate 4 0, hot := List.replicate 8 0,
                            still := List.replicate 8 0, seenNow := 0, clocks := [] }
      panel := s.panel
      ports := List.replicate 5 PortSt.reset ++
        [{ PortSt.reset with on := s.boot.island, link := (s.port 5).link }, { PortSt.reset with on := s.boot.island, link := (s.port 6).link }]
      cages := s.cages.map (fun (c : CageSt) => { c with since := 0, txOn := false, initDone := c.present })
      time := { TimeSt.reset with acc := rtc * 2 ^ 40, voteSec := rtc / 1000000000,
                                  bases := List.replicate 4 { BaseSt.reset with acc := rtc * 2 ^ 40 } }
      logic := { LogicSt.reset with retention := if restart then s.logic.retention else [], fresh := !restart }
      pair := { PairSt.reset with posB := s.ext.posB }
      otp := s.otp
      vault := { sv with rtc := rtc, armed := !s.ext.powerFail }
      emp := s.emp.afterReset
      tap := s.tap, ext := s.ext, free := s.free, pending := s.pending }
  if s.emp.stage.open_ then s'.bump (ck .stagingsFailed) else s'

/-- REF_LOST at a start without TIME_REF_IN (R150). -/
def State.checkRef (s : State) : State := if s.ext.timeRef then s else s.refLost

/-- What a fall of the main rails left for the next power-up (T1 of Table MOD-2): the item, at the level of T2, for which the
table gives none (log entry 7); and the record with its DT where the island was unfed at the fall. -/
def State.recordFall (s : State) : State :=
  match s.boot.fell with
  | none => s
  | some (old, at_, written) =>
    let s := ({ s with boot := { s.boot with fell := none } }).post 2 .mode 0x00010001 1
    if written then s
    else s.bbxQueue { s.bbxRec .mode 0x0001 s.attn.head [BitVec.ofNat 8 old.code, BitVec.ofNat 8 Mode.dormant.code, 1#8] with dt := at_, lts := 0 }

/-- A transition into LOADING with its record (T2, T6, T21); the attention comes at the start that follows, so that it
stands in a log that the reset has cleared. The mode left behind is the one in which the island's reset began to hold the
main domain, where it did. -/
def State.startBy (s : State) (t : Nat) (restart : Bool) : State :=
  let old := match s.boot.heldFrom with | some m => m | none => s.boot.mode
  let s := (s.clearMain restart).checkRef.recordFall
  let s := { s with boot := { s.boot with heldFrom := none } }
  s.bbxWith 2 .mode 0x00010001 t 0x0001 [BitVec.ofNat 8 old.code, BitVec.ofNat 8 Mode.loading.code, BitVec.ofNat 8 t]

/-- What the vault finds at T2 (R428, R429): tampers latched in DORMANT go to the black box with T2's item and are cleared;
a battery domain that lost its content gets a new root and counts as tampered by source 7. -/
def State.vaultAtT2 (s : State) : State :=
  let aseq := s.attn.head
  let ls := s.vault.latches
  let s := if ls.isEmpty then s else ({ s with vault := { s.vault with latches := [] } }).tamperRecords .mode aseq ls
  if s.vault.intact then s
  else
    let l : TamperLatch := { dt := s.rtc, source := 7 }
    let s := ({ s with vault := { s.vault with intact := true, tampered := true, root := none } }).ensureRoot
    (s.bbxQueue (s.bbxRec .mode 0x0030 aseq (latchEntry l))).bump (ck1 .tampers 7)

/-- MAIN_RAILS_FALL (T1, R476): main power-good turns false; the main domain is unpowered. The record waits in the island
while that is fed, and the item, with the record where the island is unfed, for the next power-up. -/
def execMainRailsFall (s : State) : Host.Outcome State Fault Refusal :=
  .next (if !s.boot.rails then s
    else
      let old := match s.boot.heldFrom with | some m => m | none => s.boot.mode
      let t := s.rtc
      let v := { s.vault with rtc := t, armed := false }
      let s := s.clearMain true
      let s := { s with boot := { s.boot with rails := false, mode := .dormant, fell := some (old, t, s.boot.island), heldFrom := none }
                        vault := v, logic := { s.logic with retention := [] } }
      if s.boot.island then s.bbxPost 0x0001 [BitVec.ofNat 8 old.code, BitVec.ofNat 8 Mode.dormant.code, 1#8] else s)

/-- POWER_ON_RESET (T2): main power-good and RESET_N released, in DORMANT with the island fed (R476, R479). -/
def execPowerOnReset (s : State) : Host.Outcome State Fault Refusal :=
  .next (if s.boot.rails || !s.boot.island then s
    else
      let s := { s with boot := { s.boot with rails := true }, bbx := { s.bbx with gasp := false } }
      (s.startBy 2 false).vaultAtT2)

/-- A reset by RESET_N (R47): T21 at the next beat boundary, at once where no beat runs (R44). -/
def State.pinReset (s : State) : State :=
  if s.beatsRun then { s with boot := { s.boot with evs := s.boot.evs ++ [.pinReset] } } else s.startBy 21 false

/-- PIN_RESET (R47): shorter than 1 µs ignored; from 10 µs on a reset; in between the part decides (log entry 11). -/
def execPinReset (lowNs : Nat) (s : State) : Host.Outcome State Fault Refusal :=
  .next (if !s.boot.rails || !s.boot.island || decide (lowNs < 1000) then s
    else if 10000 ≤ lowNs then s.pinReset
    else
      let s' := { s with boot := { s.boot with pulses := s.boot.pulses + 1 } }
      if Config.pulseResets s.boot.pulses then s'.pinReset else s')

/-- What the island holds, cleared by its own reset (Table MOD-4): queue of records, sensors, panel, sessions, the links of
MGP and SVP. -/
def State.clearIsland (s : State) : State :=
  { s with bbx := { s.bbx with queue := [], scanned := false, lossFlag := false, newest := none, gasp := false }
           sens := State.reset.sens, panel := State.reset.panel
           emp := { EmpSt.reset with stage := if s.emp.stage.open_ then s.emp.stage.afterReset else StageSt.reset }
           ports := modAt (modAt s.ports 5 (fun _ => PortSt.reset)) 6 (fun _ => PortSt.reset) }

/-- The battery domain after VDD_AON and VBAT have both lain below 2.0 V (R480): nothing of it is left, and the tamper
configuration has its reset value. -/
def State.loseBattery (s : State) : State :=
  { s with ctrs := s.ctrs.filter (fun e => !batteryCtr e.1.c), ctrsAt := s.ctrsAt.filter (fun e => !batteryCtr e.1.c)
           vault := { s.vault with slots := [], root := none, partner := none, tampered := false, latches := [], zeroises := 0,
                                   intact := false, cfg := 0xF000, rtc := 0 } }

/-- ISLAND_RESET (R479): VDD_AON falls below 2.7 V; the main domain is held in reset with the island, and the transition and its
record come with T21 at the island's power-on (R42). With VBAT below 2.0 V as last read, the battery domain loses its content
(R480). -/
def execIslandReset (s : State) : Host.Outcome State Fault Refusal :=
  .next (if !s.boot.island then s
    else
      let low : Bool := decide (s.sens.vbat < 2000)
      let old := s.boot.mode
      let dormant := old == .dormant
      let s := { s with boot := { s.boot with island := false, heldFrom := if dormant then none else some old } }
      let s := (s.clearMain false).clearIsland
      let s := if dormant then { s with boot := { s.boot with mode := .dormant } } else s
      if low then s.loseBattery else s)

/-- ISLAND_POWER_ON (Table MOD-4, R462): the island starts and scans the black box; with the main rails up, the main domain
is cleared and starts by T21. -/
def execIslandPowerOn (s : State) : Host.Outcome State Fault Refusal :=
  .next (if s.boot.island then s
    else
      let s := s.clearIsland
      let s := { s with boot := { s.boot with island := true } }
      let s := { s with ports := modAt (modAt s.ports 5 (fun p => { p with on := true })) 6 (fun p => { p with on := true }) }
      if s.boot.rails then (s.startBy 21 false).vaultAtT2
      else { s.clearMain false with boot := { (s.clearMain false).boot with mode := .dormant, rails := false } })

/-! Power failure (R463). -/

/-- POWER_FAIL_ASSERTED (R463): the glitch detectors are disarmed, the primary role is released (R401), and LAST_GASP is
placed at the head of the queue. -/
def execPowerFailAsserted (s : State) : Host.Outcome State Fault Refusal :=
  .next (if s.ext.powerFail then s
    else
      let s := { s with ext := { s.ext with powerFail := true }, vault := { s.vault with armed := false } }
      if !s.boot.island then s
      else (if s.works then s.releaseRole (nextBoundary s.dt) else s).lastGasp)

/-- A restart request of the device's own (R463, R402): T21 at the next boundary, at once where no beat runs (R44). -/
def State.requestRestart (s : State) : State :=
  if s.beatsRun then { s with boot := { s.boot with evs := s.boot.evs ++ [Ev.restart false] } } else s.startBy 21 true

/-- POWER_RESTORED (R463): POWER_FAIL_N high for 10 ms with the main rails valid: the record, and a restart request. -/
def execPowerRestored (s : State) : Host.Outcome State Fault Refusal :=
  .next (if !s.ext.powerFail then s
    else
      let s := { s with ext := { s.ext with powerFail := false }, vault := { s.vault with armed := true } }
      if s.boot.rails && s.boot.island then
        ({ s with bbx := { s.bbx with gasp := false } }.bbxPost 0x0003 []).requestRestart
      else s)

/-! Tampers (Table KEY-9). -/

/-- An owner-key enrolment that a tamper stops is answered REFUSED (R423). -/
def State.stopEnrol (s : State) : State :=
  let own (b : BReq) : Bool := b.kind == .ownerEnrol
  let s := forAll (s.emp.breqs.filter own) s (fun s b => s.emAnswer b rRefused (natBe 4 0))
  { s with emp := { s.emp with breqs := s.emp.breqs.filter (fun b => !own b) } }

/-- A tamper in DORMANT: zeroise and a latch entry per source, at most eight entries. -/
def State.tamperDormant (s : State) (ns : List Nat) : State :=
  forAll ns (s.zeroise true) (fun s n =>
    if s.vault.latches.length < 8 then { s with vault := { s.vault with latches := s.vault.latches ++ [{ dt := s.rtc, source := n }] } }
    else s.bump (ck .latchOverflows))

/-- A tamper outside DORMANT: zeroise within 10 µs, one item, and the records that carry it (R428). -/
def State.tamperAwake (s : State) (ns : List Nat) : State :=
  let t := s.now
  let burning := s.otp.burning.isSome
  let s := s.zeroise true
  let s := if burning then s.stopEnrol else s
  let s := s.postFor 7 .sec (ck1 .tampers (ns.headD 0)) 0
  let s := { s with boot := { s.boot with tamperAseq := s.attn.head } }
  s.tamperRecords .sec s.attn.head (ns.map (fun n => { dt := t, source := n }))

/-- The slots that the image names (R431). -/
def State.namedSlots (s : State) : List Nat :=
  let ks := (List.range (keysHdrKeyCount (s.rec_ .keysHdr 0))).map (fun i => keyEntSlot (s.rec_ .keyEnt i))
  (if s.paired then [8] else []) ++ ks.foldl (fun l k => insertBy id k l) []

/-- A re-key complete that is pending at a tamper is refused (Table KEY-9) and names the first named slot, which the zeroise has
emptied; 0 where the image names none. -/
def State.refuseRekey (s : State) : State :=
  let own (b : BReq) : Bool := b.kind == .rekey
  let s := forAll (s.emp.breqs.filter own) s (fun s b => (s.bump (ck .rekeyRefusals)).emAnswer b rRefused (natBe 4 (s.namedSlots.headD 0)))
  { s with emp := { s.emp with breqs := s.emp.breqs.filter (fun b => !own b) } }

/-- A tamper by its sources in code order (Table KEY-9). -/
def State.tamperBy (s : State) (ns : List Nat) : State :=
  let s := forAll ns s (fun s n => s.bump (ck1 .tampers n))
  match s.boot.mode with
  | .dormant => s.tamperDormant ns
  | .unconfigured => s.tamperAwake ns
  | .tamperhold => (s.tamperAwake ns).refuseRekey
  | .loading => let s := s.tamperAwake ns; { s with boot := { s.boot with toTamperhold := true } }
  | .halt => let s := s.tamperAwake ns; { s with boot := { s.boot with evs := s.boot.evs ++ [.tamper] } }
  | _ =>
    let s := if s.policy 108 then s else s.releaseRole (nextBoundary s.dt)
    let s := s.tamperAwake ns
    { s with boot := { s.boot with evs := s.boot.evs ++ [.tamper] } }

/-- The sources of a list that are tampers now, each once, in code order (R425, R426). -/
def State.tamperSources (s : State) (sources : List (Fin 8)) : List Nat :=
  (List.range 8).filter (fun n => sources.any (fun x => x.val == n) && s.tamperSource n)

/-- TAMPER (R425-R428). -/
def execTamper (sources : List (Fin 8)) (s : State) : Host.Outcome State Fault Refusal :=
  .next (if (s.tamperSources sources).isEmpty then s else s.tamperBy (s.tamperSources sources))

/-! Start-up (Sequence MOD-1). -/

/-- WARMUP_TIMEOUT (R53): T7 or T8 falls due at the next boundary. -/
def execWarmupTimeout (s : State) : Host.Outcome State Fault Refusal :=
  .next (if s.boot.mode == .warmup && decide (s.boot.warmAt + headerWarmupTimeout (s.rec_ .header 0) * 1000000000 ≤ s.lts) then
    { s with boot := { s.boot with timedOut := true } }
  else s)

/-- OWNER_KEY_BURN_COMPLETE (R423): the completion bit is burned, and OWNER_ENROL is answered OK. -/
def execOwnerKeyBurnComplete (s : State) : Host.Outcome State Fault Refusal :=
  .next (match s.otp.burning with
    | none => s
    | some (second, v) =>
      let s := { s with otp := if second then { s.otp with owner1 := .complete v, burning := none }
                               else { s.otp with owner0 := .complete v, burning := none } }
      let own (b : BReq) : Bool := b.kind == .ownerEnrol
      let s := { s with emp := { s.emp with replies := [] } }
      let s := forAll (s.emp.breqs.filter own) s (fun s b => s.emAnswer b rOk [])
      { s with emp := { s.emp with breqs := s.emp.breqs.filter (fun b => !own b) } })

end Sys2Proof.Machine
end

