-- ==== Sys2Proof/Machine/Sections.lean ====
section
/-! DEFINITION. The sections of an image as records: their layouts (R66, R67, R71-R73, R86, R112, R136, R163, R168, R195,
R231, R232, R255, R284, R285, R312, R334, R364, R416, R500), read from the stored or decrypted bytes of the slot tried. -/

namespace Sys2Proof.Machine

/-! Pieces. -/

/-- Cut bytes into at most n pieces of a size; what is left over is dropped. -/
def pieces : Nat → Nat → Bytes → List Bytes
  | 0, _, _ => []
  | n + 1, size, b => if (b.take size).length < size then [] else b.take size :: pieces n size (b.drop size)

/-- The records of a table from their bytes, numbered from `first`; records of zero are not listed. -/
def recsOf (t : Tbl) (first size count : Nat) (b : Bytes) : List ((Tbl × Nat) × Nat) :=
  ((pieces count size b).zipIdx).filterMap (fun e => if beNat e.1 = 0 then none else some ((t, first + e.2), beNat e.1))

/-- The one record that opens a part. -/
def headOf (t : Tbl) (size : Nat) (b : Bytes) : List ((Tbl × Nat) × Nat) := recsOf t 0 size 1 b

/-- A record of a list, zero where it is not listed. -/
def recIn (m : List ((Tbl × Nat) × Nat)) (t : Tbl) (i : Nat) : Nat := agetD m (t, i) 0

/-! The sections. -/

/-- TIME (R136): the header, two PTP records, seven asymmetry entries. -/
def parseTime (b : Bytes) : List ((Tbl × Nat) × Nat) :=
  headOf .timeHdr 64 b ++ recsOf .ptpRec 0 32 2 (b.drop 64) ++ recsOf .asym 0 8 7 (b.drop 128)

/-- PORTS (R86, R112): seven port records, 1,024 peers, 8,192 time-base words. -/
def parsePorts (b : Bytes) : List ((Tbl × Nat) × Nat) :=
  recsOf .port 0 32 7 b ++ recsOf .peer 0 32 1024 (b.drop 224) ++ recsOf .tbWord 0 4 8192 (b.drop 32992)

/-- TOPOLOGY (Table IMG-3): 8,192 bus records, then 16,384 branch records. -/
def parseTopology (b : Bytes) : List ((Tbl × Nat) × Nat) := recsOf .bus 0 8 8192 b ++ recsOf .branch 0 16 16384 (b.drop 65536)

/-- BEATS (R72): the tables of the regions from `r` on, each a header of 16 bytes and PERIOD rows of 512 bytes. -/
def parseBeats : Nat → Nat → Bytes → List ((Tbl × Nat) × Nat)
  | 0, _, _ => []
  | n + 1, r, b =>
    let p := min (beatHdrPeriod (beNat (b.take 16))) 2400
    recsOf .beatHdr r 16 1 b ++ recsOf .post (r * 2400 * 64) 8 (p * 64) (b.drop 16) ++ parseBeats n (r + 1) (b.drop (16 + p * 512))

/-- Bytes that BEATS takes by its headers. -/
def beatsLen : Nat → Bytes → Nat
  | 0, _ => 0
  | n + 1, b => let p := beatHdrPeriod (beNat (b.take 16)); 16 + p * 512 + beatsLen n (b.drop (16 + p * 512))

/-- The directory entries of ANALYTICS that are in use (R231). -/
def blockEntries (b : Bytes) : List Nat := ((pieces 16 16 (b.drop 4160)).map beNat).filter (fun e => directoryType e != 0)

/-- LENGTH of the block of a type by its directory entry, 0 without one. -/
def blockLength (b : Bytes) (ty : Nat) : Nat :=
  match (blockEntries b).find? (fun e => directoryType e == ty) with
  | some e => directoryLength e
  | none => 0

/-- The block of a type that the directory of ANALYTICS names (R231). -/
def blockBytes (b : Bytes) (ty : Nat) : Bytes :=
  match (blockEntries b).find? (fun e => directoryType e == ty) with
  | some e => (b.drop (directoryOffset e)).take (directoryLength e)
  | none => []

/-- Location sets (R250): a header and its padded branch list each; the branches of set l stand at 1,024 l. -/
def parseLocs : Nat → Nat → Bytes → List ((Tbl × Nat) × Nat)
  | 0, _, _ => []
  | n + 1, l, b =>
    let c := locSetBrCount (beNat (b.take 16))
    recsOf .locSet l 16 1 b ++ recsOf .locBranch (1024 * l) 2 c (b.drop 16) ++ parseLocs n (l + 1) (b.drop (16 + pad16 (2 * c)))

/-- Bytes of the location sets. -/
def locsLen : Nat → Bytes → Nat
  | 0, _ => 0
  | n + 1, b => let m := 16 + pad16 (2 * locSetBrCount (beNat (b.take 16))); m + locsLen n (b.drop m)

/-- The Swage block (R195). -/
def parseSwage (b : Bytes) : List ((Tbl × Nat) × Nat) :=
  headOf .frontEnd 64 b ++ recsOf .lane 0 16 8 (b.drop 64) ++ recsOf .thresh 0 32 255 (b.drop 192)

/-- The oscillation block (R232). -/
def parseOsc (b : Bytes) : List ((Tbl × Nat) × Nat) :=
  let h := beNat (b.take 64)
  let sig := 128 + 16 * oscHdrSigCount h
  let par := sig + 4096
  let loc := par + 32 * oscHdrParamCount h
  headOf .oscHdr 64 b ++ recsOf .oscBand 0 16 4 (b.drop 64) ++ recsOf .signal 0 16 (oscHdrSigCount h) (b.drop 128) ++
    recsOf .groupEst 0 16 256 (b.drop sig) ++ recsOf .param 0 32 (oscHdrParamCount h) (b.drop par) ++
    parseLocs (oscHdrLocCount h) 0 (b.drop loc)

/-- LENGTH of the oscillation block by its counts. -/
def oscLen (b : Bytes) : Nat :=
  let h := beNat (b.take 64)
  let loc := 128 + 16 * oscHdrSigCount h + 4096 + 32 * oscHdrParamCount h
  loc + locsLen (oscHdrLocCount h) (b.drop loc)

/-- The islanding block (R255). -/
def parseIsl (b : Bytes) : List ((Tbl × Nat) × Nat) :=
  let h := beNat (b.take 64)
  headOf .islHdr 64 b ++ recsOf .watched 0 1 1024 (b.drop 64) ++ recsOf .pairRec 0 4 (islHdrPairCount h) (b.drop 1088) ++
    recsOf .det 0 32 (islHdrDetCount h) (b.drop (1088 + pad16 (4 * islHdrPairCount h)))

/-- LENGTH of the islanding block by its counts. -/
def islLen (b : Bytes) : Nat :=
  let h := beNat (b.take 64)
  1088 + pad16 (4 * islHdrPairCount h) + 32 * islHdrDetCount h

/-- The template block (R284). -/
def parseTemplates (b : Bytes) : List ((Tbl × Nat) × Nat) :=
  headOf .dispHdr 64 b ++ recsOf .cellMap 0 1 64 (b.drop 64) ++
    recsOf .template 0 32 (dispHdrTemplateCount (beNat (b.take 64))) (b.drop 128)

/-- KERNEL_COUNT of the kernel block (R285). -/
def kernHdrCount (r : Nat) : Nat := fld r 127 112

/-- The kernel block (R285). -/
def parseKernels (b : Bytes) : List ((Tbl × Nat) × Nat) :=
  headOf .kernHdr 16 b ++ recsOf .kernel 0 16 (kernHdrCount (beNat (b.take 16))) (b.drop 16)

/-- ANALYTICS (R163, R231). -/
def parseAnalytics (b : Bytes) : List ((Tbl × Nat) × Nat) :=
  recsOf .slice 0 16 4 b ++ recsOf .group 0 16 256 (b.drop 64) ++ recsOf .directory 0 16 16 (b.drop 4160) ++
    parseSwage (blockBytes b 1) ++ parseOsc (blockBytes b 2) ++ parseIsl (blockBytes b 3) ++ parseTemplates (blockBytes b 4) ++
    parseKernels (blockBytes b 5)

/-- Where each part of LOGIC begins (R312): templates, tasks, variables, instances, output records, code, and the end. -/
def logicParts (b : Bytes) : List Nat :=
  let h := beNat (b.take 64)
  let t := 64 + 32 * logicHdrTemplateCount h
  let v := t + 32 * logicHdrTaskCount h
  let i := v + 16 * logicHdrVarCount h
  let o := i + 32 * logicHdrInstCount h
  let c := o + 32 * logicHdrOutCount h
  [64, t, v, i, o, c, c + logicHdrCodeLen h]

/-- LOGIC (R312). -/
def parseLogic (b : Bytes) : List ((Tbl × Nat) × Nat) :=
  let h := beNat (b.take 64)
  let at_ (n : Nat) : Bytes := b.drop ((logicParts b).getD n 0)
  headOf .logicHdr 64 b ++ recsOf .template 0x1000 32 (logicHdrTemplateCount h) (at_ 0) ++
    recsOf .task 0 32 (logicHdrTaskCount h) (at_ 1) ++ recsOf .var 0 16 (logicHdrVarCount h) (at_ 2) ++
    recsOf .inst 0 32 (logicHdrInstCount h) (at_ 3) ++ recsOf .outRec 0 32 (logicHdrOutCount h) (at_ 4) ++
    recsOf .code 0 4 (logicHdrCodeLen h / 4) (at_ 5)

/-- CAPTURE (R334). -/
def parseCapture (b : Bytes) : List ((Tbl × Nat) × Nat) :=
  let h := beNat (b.take 64)
  headOf .plan 64 b ++ recsOf .capClass 0 64 16 (b.drop 64) ++ recsOf .trigSrc 0 16 (planTrigCount h) (b.drop 1088) ++
    recsOf .chList 0 2 (planChlistCount h) (b.drop (1088 + 16 * planTrigCount h))

/-- LENGTH of CAPTURE by its counts. -/
def captureLen (b : Bytes) : Nat :=
  let h := beNat (b.take 64)
  1088 + 16 * planTrigCount h + pad16 (2 * planChlistCount h)

/-- PUBLISH (R168, R364). -/
def parsePublish (b : Bytes) : List ((Tbl × Nat) × Nat) :=
  let h := beNat ((b.drop 1024).take 64)
  let am := 5184 + 8 * pubHdrContentCount h
  recsOf .outSet 0 16 64 b ++ headOf .pubHdr 64 (b.drop 1024) ++ recsOf .outStream 0 64 64 (b.drop 1088) ++
    recsOf .content 0 8 (pubHdrContentCount h) (b.drop 5184) ++ recsOf .amap 0 8 (pubHdrAmapCount h) (b.drop am) ++
    recsOf .name 0 16 (pubHdrNameUnits h) (b.drop (am + 8 * pubHdrAmapCount h))

/-- LENGTH of PUBLISH by its counts. -/
def publishLen (b : Bytes) : Nat :=
  let h := beNat ((b.drop 1024).take 64)
  5184 + 8 * pubHdrContentCount h + 8 * pubHdrAmapCount h + 16 * pubHdrNameUnits h

/-- KEYS (R416). -/
def parseKeys (b : Bytes) : List ((Tbl × Nat) × Nat) :=
  headOf .keysHdr 16 b ++ recsOf .keyEnt 0 80 (keysHdrKeyCount (beNat (b.take 16))) (b.drop 16)

/-- Every record of the image in a slot. -/
def State.parseImage (s : State) (k : Nat) : List ((Tbl × Nat) × Nat) :=
  let b (t : Nat) : Bytes := s.sectionBytes k t
  [((.header, 0), s.slotHeader k)] ++ (List.range 15).map (fun i => ((Tbl.sectionHdr, i), s.slotSection k i)) ++
    parseTime (b 2) ++ parsePorts (b 3) ++ recsOf .stream 0 64 8192 (b 4) ++ recsOf .chan 0 32 65536 (b 5) ++ parseTopology (b 6) ++
    parseBeats 4 0 (b 7) ++ recsOf .budget 0 32 132 (b 8) ++ parseAnalytics (b 9) ++ parseLogic (b 10) ++ parseCapture (b 11) ++
    parsePublish (b 12) ++ parseKeys (b 13) ++ headOf .fwHdr 64 (b 14)

/-! Findings of the checks: failure code, section type, record index (R82). -/

/-- A check that fails: code, section type and record index of the detail word. -/
abbrev Finding := Nat × Nat × Nat

/-- A finding when a check fails. -/
def finding (bad : Bool) (code sect index : Nat) : List Finding := if bad then [(code, sect, index)] else []

/-- Lengths of the sections against their layouts (code 0x0B). -/
def State.lengthFindings (s : State) (k : Nat) : List Finding :=
  let b (t : Nat) : Bytes := s.sectionBytes k t
  let n (t : Nat) : Nat := (b t).length
  let bl (ty : Nat) : Nat := blockLength (b 9) ty
  finding (n 2 != 184) 0x0B 2 0 ++ finding (n 3 != 65760) 0x0B 3 0 ++ finding (n 4 != 64 * 8192) 0x0B 4 0 ++
  finding (n 5 != 32 * 65536) 0x0B 5 0 ++ finding (n 6 != 8 * 8192 + 16 * 16384) 0x0B 6 0 ++
  finding (n 7 != beatsLen 4 (b 7)) 0x0B 7 0 ++ finding (n 8 != 32 * sectionRecordCount (s.slotSection k 7)) 0x0B 8 0 ++
  finding (decide (n 9 < 4416)) 0x0B 9 0 ++ finding (decide (n 10 < (logicParts (b 10)).getD 6 0)) 0x0B 10 0 ++
  finding (n 11 != captureLen (b 11)) 0x0B 11 0 ++ finding (n 12 != publishLen (b 12)) 0x0B 12 0 ++
  finding (n 13 != 16 + 80 * keysHdrKeyCount (beNat ((b 13).take 16))) 0x0B 13 0 ++
  finding (bl 1 != 8352) 0x0B 9 0 ++ finding (bl 2 != oscLen (blockBytes (b 9) 2)) 0x0B 9 0 ++
  finding (bl 3 != islLen (blockBytes (b 9) 3)) 0x0B 9 0 ++
  finding (bl 4 != 128 + 32 * dispHdrTemplateCount (beNat ((blockBytes (b 9) 4).take 64))) 0x0B 9 0 ++
  finding (decide (bl 5 < 16 + 16 * kernHdrCount (beNat ((blockBytes (b 9) 5).take 16)))) 0x0B 9 0 ++
  finding ((blockEntries (b 9)).any (fun e => decide (n 9 < directoryOffset e + directoryLength e))) 0x0B 9 0

end Sys2Proof.Machine
end

