-- ==== Sys2Proof/Machine/Records.lean ====
section
/-! DEFINITION. The record checks of failure code 0x0B (R60, R67, R82): reserved bits and the stated range of every field of
every record in use. They run on the state whose image is the slot tried. -/

namespace Sys2Proof.Machine

/-- Section type of a table's records (Table IMG-3); 0 for the header sector. -/
def sectOf : Tbl → Nat
  | .header | .sectionHdr => 0
  | .timeHdr | .ptpRec | .asym => 2
  | .port | .peer | .tbWord => 3
  | .stream => 4
  | .chan => 5
  | .bus | .branch => 6
  | .beatHdr | .post => 7
  | .budget => 8
  | .slice | .group | .directory | .frontEnd | .lane | .thresh | .oscHdr | .oscBand | .signal | .groupEst | .param | .locSet
  | .locBranch | .islHdr | .watched | .pairRec | .det | .dispHdr | .cellMap | .kernHdr | .kernel | .template => 9
  | .logicHdr | .task | .var | .inst | .outRec | .code => 10
  | .plan | .capClass | .trigSrc | .chList => 11
  | .outSet | .pubHdr | .outStream | .content | .amap | .name => 12
  | .keysHdr | .keyEnt => 13
  | .fwHdr => 14

/-- Section type and record index of a record: templates 0x1000-0x1FFF stand in LOGIC (R284). -/
def placeOf (t : Tbl) (i : Nat) : Nat × Nat := if t == .template && decide (0x1000 ≤ i) then (10, i - 0x1000) else (sectOf t, i)

/-- The reserved bits of a table's records. -/
def reservedOf : Tbl → List (Nat × Nat)
  | .header => [(919, 913), (351, 350), (327, 32)]
  | .sectionHdr => [(247, 241), (143, 128), (95, 32)]
  | .timeHdr => [(296, 0)]
  | .ptpRec => [(249, 248), (224, 224), (215, 0)]
  | .port => [(245, 240), (147, 144), (102, 96), (31, 0)]
  | .peer => [(252, 252), (249, 248), (235, 232), (135, 128), (63, 0)]
  | .tbWord => [(31, 24)]
  | .stream => [(501, 496), (371, 368), (341, 336), (307, 304), (191, 188), (183, 0)]
  | .chan => [(211, 208), (101, 96), (60, 48), (31, 0)]
  | .bus => [(54, 48), (15, 0)]
  | .branch => [(123, 112), (58, 48), (15, 0)]
  | .beatHdr => [(119, 112), (95, 0)]
  | .post => [(50, 48)]
  | .budget => [(245, 240), (236, 232), (63, 0)]
  | .slice => [(125, 124), (47, 0)]
  | .group => [(115, 112), (47, 0)]
  | .directory => [(103, 96), (31, 0)]
  | .frontEnd => [(507, 496), (239, 0)]
  | .lane => [(121, 112), (63, 0)]
  | .thresh => [(4, 0)]
  | .oscHdr => [(497, 496), (482, 0)]
  | .oscBand => [(91, 80), (63, 0)]
  | .signal => [(64, 0)]
  | .groupEst => [(90, 0)]
  | .param => [(43, 40), (31, 0)]
  | .locSet => [(126, 124), (76, 0)]
  | .islHdr => [(323, 320), (255, 0)]
  | .det => [(151, 0)]
  | .dispHdr => [(498, 496), (415, 0)]
  | .template => [(253, 252), (247, 240), (63, 0)]
  | .kernHdr => [(111, 0)]
  | .kernel => [(31, 0)]
  | .logicHdr => [(503, 496), (450, 448), (437, 432), (367, 0)]
  | .task => [(234, 224), (175, 0)]
  | .var => [(113, 112), (87, 64), (31, 0)]
  | .inst => [(245, 240), (31, 0)]
  | .outRec => [(251, 240), (213, 208), (107, 104), (101, 96), (63, 0)]
  | .plan => [(226, 224), (187, 0)]
  | .capClass => [(508, 504), (469, 464), (351, 0)]
  | .trigSrc => [(120, 120), (63, 0)]
  | .outSet => [(126, 120), (79, 0)]
  | .pubHdr => [(466, 464), (307, 0)]
  | .outStream => [(504, 504), (484, 480), (333, 328), (139, 0)]
  | .content => [(58, 58), (55, 48)]
  | .amap => [(23, 0)]
  | .keysHdr => [(117, 112), (107, 0)]
  | .keyEnt => [(621, 608), (503, 480)]
  | .fwHdr => [(255, 0)]
  | .asym | .locBranch | .watched | .pairRec | .cellMap | .code | .chList | .name => []

/-- A reserved bit of a record is set. -/
def reservedSet (t : Tbl) (r : Nat) : Bool := (reservedOf t).any (fun f => fld r f.1 f.2 != 0)

/-- n lies in a range, ends included. -/
def within (lo n hi : Nat) : Bool := decide (lo ≤ n) && decide (n ≤ hi)

/-- A signed field lies within plus or minus a limit. -/
def withinI (w v lim : Nat) : Bool := decide (-(lim : Int) ≤ signed w v) && decide (signed w v ≤ lim)

/-- n is 0xFFFF, which names nothing, or at most a last number. -/
def orNone (n last : Nat) : Bool := n == 0xFFFF || decide (n ≤ last)

/-- Entry n of KV_TABLE: KERNEL_ID and KV_MAX (Table SCH-13). -/
def kvEntry (fw n : Nat) : Nat × Nat := let e := fld (fwHdrKvTable fw) (223 - 32 * n) (192 - 32 * n); (fld e 31 16, fld e 15 0)

/-! Ranges by section. Each function answers whether a record keeps every stated range. -/

/-- Table IMG-1. -/
def headerRange (r : Nat) : Bool :=
  decide (headerEpoch r ≤ 63) && within 10 (headerWarmupTimeout r) 3600 && within 1 (headerAlm1Level r) 7

/-- Table TIM-2. -/
def timeRange (r : Nat) : Bool :=
  (List.range 4).all (fun b => decide (fld (timeHdrTbSrcs r) (15 - 4 * b) (12 - 4 * b) ≤ 4)) && within 20 (timeHdrVoteTol r) 10000 &&
  within 1 (timeHdrQualTime r) 600 && decide (10 ≤ timeHdrSrcAccLimit r) && decide (1 ≤ timeHdrHoFreq r) &&
  within 1 (timeHdrHoForceLimit r) 10000 && within 1 (timeHdrFreqCorrMax r) 50000 && decide (10 ≤ timeHdrSyncLimit r) &&
  decide (timeHdrUtcOffsetDef r ≤ 255) && decide (1 ≤ timeHdrGnssAcc r) && decide (timeHdrGnssBaud r ≤ 4)

/-- Table TIM-3, R137. -/
def ptpRange (r : Nat) : Bool := ptpRecValid r == 0 || (ptpRecPortMask r != 0 && within 6 (ptpRecMaxClass r) 248)

/-- Sum of the QCARVE fields of a port. -/
def carveSum (r : Nat) : Nat := (List.range 8).foldl (fun n q => n + fld (portQcarve r) (8 * q + 7) (8 * q)) 0

/-- Table PRT-1 and R87, for port p, enabled or not. -/
def portRange (p r : Nat) : Bool :=
  (if p < 4 then decide (portPhy r ≤ 1) else if p = 4 then portPhy r == 0 else portPhy r == 2 || portPhy r == 3) &&
   portFec r != 3 && (portFec r != 2 || portPhy r == 0) && (portFec r == 0 || decide (portPhy r < 2)) &&
   (decide (p < 4) || (portJumbo r == 0 && portPfcEn r == 0 && portQcarve r == 0)) && !(portPauseEn r == 1 && portPfcEn r == 1) &&
   within 536 (portTcpMss r) (if portJumbo r = 1 then 8960 else 1460) && decide (portTcpWscale r ≤ 14) &&
   within 4 (portTcpRwnd r) 1024 && decide (portTcpRwnd r * 1024 / 2 ^ portTcpWscale r ≤ 65535) && decide (carveSum r ≤ 128) &&
   (portJumbo r == 0 || (List.range 8).all (fun q => let c := fld (portQcarve r) (8 * q + 7) (8 * q); c == 0 || decide (3 ≤ c)))

/-- Table INT-3. -/
def peerRange (r : Nat) : Bool := peerValid r == 0 || (peerIp r != 0 && (peerSubRole r == 1 || peerOutMask r == 0))

/-- Table INT-4: TIME_BASE of a SID by its descriptor. -/
def tbWordRange (stream r : Nat) : Bool :=
  if streamValid stream = 1 ∧ streamKind stream ≤ 1 then within 1 (r % 2 ^ 24) 16777215 else r % 2 ^ 24 == 0

/-- A reporting-rate code (0x00-0x0B), and not 240 frames/s where F_NOM is 50 Hz (R194). -/
def rateRange (fifty : Bool) (code : Nat) : Bool := decide (code ≤ 0x0B) && !(fifty && code == 0x0B)

/-- Table IMG-4 and R113. -/
def streamRange (fifty : Bool) (r : Nat) : Bool :=
  if streamValid r = 0 then r == 0
  else
    decide (streamKind r ≤ 3) && (streamKind r != 3 || (streamSrcIp r == 0 && streamDstPort r == 0)) &&
    (rateRange fifty (streamRateCode r) || streamRateCode r == 0x10 || streamRateCode r == 0x11) && decide (streamAuth r ≤ 5) &&
    (decide (1 < streamKind r) || streamAuth r == 0) && (decide (streamKind r ≤ 1) || !bitAt (streamSflags r) 3) &&
    within 1 (streamStaleTimeout r) 24000 && decide (streamOffgridTol r ≤ 50000)

/-- Table IMG-5 and R194. -/
def chanRange (fifty : Bool) (r : Nat) : Bool :=
  if chanValid r = 0 then r == 0
  else
    within 1 (chanEncoding r) 4 && (chanSource r != 5 || decide (chanSrcRef r ≤ 63)) &&
    (decide (4 ≤ chanSource r) || decide (chanSrcRef r ≤ 8191)) && (chanSource r != 4 || (decide (chanSrcRef r ≤ 8191) && decide (chanPosition r ≤ 7))) &&
    (if chanSource r = 4 ∨ chanSource r = 5 then withinI 32 (chanPhaseDelay r) 1000000 else chanPhaseDelay r == 0) &&
    (chanWgRequired r == 0 || chanWgMember r == 1) && orNone (chanBusRef r) 8191 && orNone (chanBranchRef r) 16383 &&
    (if chanSource r = 6 then
      chanEstClass r != 3 && !(chanEstClass r == 0 && chanFastMinphase r == 0) && rateRange fifty (chanOutRate r) &&
      !(chanEstClass r == 2 && decide (7 < chanOutRate r))
     else chanEstClass r == 0)

/-- R71: unused records are zero (R67). -/
def busRange (r : Nat) : Bool := busValid r == 1 || r == 0

/-- Table IMG-6. -/
def branchRange (r : Nat) : Bool :=
  if branchValid r = 0 then r == 0
  else decide (branchKind r ≤ 3) && decide (branchFromBus r ≤ 8191) && decide (branchToBus r ≤ 8191) && branchFromBus r != branchToBus r

/-- The region header of BEATS (R72). -/
def beatRange (n r : Nat) : Bool := beatHdrRegion r == n && within 1 (beatHdrPeriod r) 2400 && 2400 % beatHdrPeriod r == 0

/-- Table IMG-7, with the output stream 0 to 63 of a LAUNCH, and the ARG of DELAY (Table SCH-2) and LAUNCH (R366). -/
def postRange (r : Nat) : Bool :=
  postValid r == 0 || (decide (postOp r ≤ 4) && (postOp r != 1 || within 1 (postArg r) 10000000) && (postOp r != 2 || (within 40000 (postArg r) 416666 && decide (postTemplate r ≤ 63))))

/-- Table IMG-8. -/
def budgetRange (r : Nat) : Bool :=
  (decide (budgetClass r ≤ 31) || budgetClass r == 0xFF) && decide (budgetShedRank r ≤ 31) && (budgetClass r != 0xFF || budgetItemLimit r == 0)

/-- Table ALN-1. -/
def sliceRange (n r : Nat) : Bool :=
  sliceRegion r == n && within 1 (sliceRowDiv r) 240 && decide (sliceRowLead r ≤ 10000) && within 100 (sliceRetireWait r) 100000 &&
  decide (sliceHorizon r ≤ 10000)

/-- Table ALN-2. -/
def groupRange (fifty : Bool) (r : Nat) : Bool :=
  groupValid r == 0 || (rateRange fifty (groupSetRate r) && decide (groupQFrac r ≤ 64) && within 100 (groupQWait r) 100000)

/-- Table ALN-3. -/
def outSetRange (fifty : Bool) (r : Nat) : Bool :=
  outSetValid r == 0 || (rateRange fifty (outSetSetRate r) && within 100 (outSetWait r) 100000)

/-- Table WAV-2: a lane group's watermarks in 48 bits. -/
def wmRange (w : Nat) : Bool :=
  let hiMax := fld w 47 40
  let hiMin := fld w 39 32
  let loMax := fld w 31 24
  let loMin := fld w 23 16
  decide (loMax < hiMin) && decide (1 ≤ loMin) && within hiMin (fld w 15 8) hiMax && within loMin (fld w 7 0) loMax

/-- Table WAV-1. -/
def frontEndRange (r : Nat) : Bool :=
  decide (frontEndFNom r ≤ 1) && within 1 (frontEndHandoffUs r) 1000 && within 100 (frontEndSvWait r) 20000 &&
  withinI 32 (frontEndReplayOffset r) 100000 && ([frontEndWmG0 r, frontEndWmG1 r, frontEndWmG2 r, frontEndWmG3 r] : List Nat).all wmRange

/-- Table WAV-3, of a lane enabled or not. -/
def laneRange (r : Nat) : Bool :=
  within 1 (laneChCount r) 8 && within 782 (laneLaneDiv r) 10416 && withinI 32 (laneAperture r) 100000

/-- Table OSC-3. -/
def oscHdrRange (r : Nat) : Bool := decide (oscHdrSigCount r ≤ 8192) && within 1 (oscHdrParamCount r) 64 && decide (oscHdrLocCount r ≤ 16)

/-- UPDATE_BEATS of Table OSC-4: a divisor of 2,400, or 2,400 times 2 to 10. -/
def updateRange (n : Nat) : Bool := n != 0 && (2400 % n == 0 || (n % 2400 == 0 && within 2 (n / 2400) 10))

/-- Table OSC-4 of band b. -/
def oscBandRange (b r : Nat) : Bool :=
  updateRange (oscBandUpdateBeats r) && decide (([2400, 480, 120, 60] : List Nat).getD b 0 ≤ oscBandUpdateBeats r) &&
  decide (oscBandGapMax r ≤ 64) && within 10 (oscBandMatchTol r) 500 &&
  (if b = 3 then oscBandModelOrder r == 0 && oscBandModes r == 0
   else within 4 (oscBandModelOrder r) 32 && oscBandModelOrder r % 2 == 0 && within 1 (oscBandModes r) 4)

/-- Table OSC-5 and R234. -/
def signalRange (params r : Nat) : Bool :=
  let q := signalQuantity r
  signalValid r == 0 ||
  (decide (q ≤ 5) && (if q = 5 then signalBands r == 8 else !bitAt (signalBands r) 3) && (signalCh r == 0xFFFF || (q != 3 && q != 4)) &&
   (q == 1 || signalRefCh r == 0xFFFF) && (if q = 3 ∨ q = 4 then decide (signalBranch r ≤ 16383) else signalBranch r == 0xFFFF) &&
   decide (signalParam r < params))

/-- Table OSC-6. -/
def groupEstRange (params r : Nat) : Bool :=
  groupEstValid r == 0 ||
  (decide (groupEstQuantity r ≤ 2) && !bitAt (groupEstBands r) 3 && (groupEstQuantity r == 1 || groupEstRefCh r == 0xFFFF) &&
   within 2 (groupEstGMin r) 64 && decide (groupEstParam r < params))

/-- Table OSC-9: its OV fields as R85 ranges them, and the others. -/
def State.paramRange (s : State) (i r : Nat) : Bool :=
  (ovFields .param).all (fun f => s.ovRange .param i f.1 r) && decide (1 ≤ paramConfirm r) && decide (1 ≤ paramDrop r) &&
  (paramLocate r == 0xFF || decide (paramLocate r ≤ 15))

/-- Table OSC-12. -/
def locSetRange (r : Nat) : Bool :=
  locSetValid r == 0 ||
  (!bitAt (locSetBands r) 3 && within 10 (locSetWindow r) 60 && within 1 (locSetSpread r) 24000 && within 1 (locSetBrCount r) 1024)

/-- Table ISL-1, R256 and R257: the blocks and reference buses count only where evaluations are configured. -/
def State.islHdrRange (s : State) (fifty : Bool) (r : Nat) : Bool :=
  rateRange fifty (islHdrIslRate r) && decide (islHdrPairCount r ≤ 16384) && decide (islHdrDetCount r ≤ 4096) && decide (1 ≤ islHdrCohConfirm r) &&
  decide (1 ≤ islHdrCohWithdraw r) && within 1 (islHdrCohMinBuses r) 64 && s.ovRange .islHdr 0 288 r && s.ovRange .islHdr 0 256 r &&
  (!s.islConfigured ||
    (islHdrAltBlock r / 4 == islHdrIslBlock r / 4 && islHdrAltBlock r != islHdrIslBlock r &&
     (List.range 8).all (fun i => orNone (fld (islHdrRefBuses r) (127 - 16 * i) (112 - 16 * i)) 8191)))

/-- Table ISL-2. -/
def State.detRange (s : State) (i r : Nat) : Bool :=
  detValid r == 0 ||
  (decide (detKind r ≤ 3) && (detKind r == 1 || detKind r == 2 || decide (1 ≤ detPickup r)) && (detKind r == 3 || detRefCh r == 0xFFFF) &&
   (detKind r == 2 || detFreqCh r == 0xFFFF) && s.ovRange .det i 160 r)

/-- Table SCH-3. -/
def dispHdrRange (r : Nat) : Bool :=
  decide (dispHdrTemplateCount r ≤ 4096) && within 60 (dispHdrTh1 r) 110 && decide (dispHdrTh1 r < dispHdrTh2 r) &&
  decide (dispHdrTh2 r < dispHdrTh3 r) && decide (dispHdrTh3 r ≤ 110) && decide (dispHdrS1 r ≤ dispHdrS2 r) && decide (dispHdrS2 r ≤ dispHdrS3 r) &&
  decide (dispHdrS3 r ≤ 32) && decide (dispHdrSDeg r ≤ 32)

/-- A byte of the cell reservation map (R284). -/
def cellMapRange (b : Nat) : Bool := decide (b ≤ 0x1F) || b == 0x80 || b == 0xFF

/-- Table SCH-4. -/
def templateRange (r : Nat) : Bool := templateValid r == 0 || (within 1 (templateSecDiv r) 10 && within 1 (templateCostCycles r) 480000)

/-- Table LOG-1. -/
def logicHdrRange (r : Nat) : Bool :=
  decide (logicHdrProgKind r ≤ 1) && decide (logicHdrTaskCount r ≤ 32) && decide (logicHdrTemplateCount r ≤ 4096) && decide (logicHdrInstCount r ≤ 4096) &&
  decide (logicHdrOutCount r ≤ 512) && logicHdrCodeLen r % 4 == 0 && decide (logicHdrCodeLen r ≤ 16777216) &&
  (logicHdrProgKind r == 1 || logicHdrCodeLen r == 0)

/-- Table LOG-2. -/
def taskRange (hiska : Bool) (r : Nat) : Bool :=
  taskValid r == 0 ||
  ((if taskBind r = 1 then decide (taskSet r ≤ 63) else taskDClass r == 0 && taskDPriority r == 0) && within 0x1000 (taskTemplate r) 0x1FFF &&
   taskCodeEntry r % 4 == 0 && (hiska || taskCodeEntry r == 0))

/-- The variables that an instance or a Hiska store writes (R314), with repetition. -/
def State.writers (s : State) : List Nat :=
  let insts := (s.valids .inst 255 4096).flatMap (fun i => let r := s.rec_ .inst i; [instOut0 r, instOut1 r].filter (fun v => v != 0xFFFF))
  let words := (List.range (logicHdrCodeLen (s.rec_ .logicHdr 0) / 4)).map (fun w => s.rec_ .code w)
  insts ++ (words.filter (fun w => fld w 31 24 == 0x02)).map (fun w => fld w 15 0)

/-- Table LOG-3. -/
def varRange (written : Bool) (r : Nat) : Bool :=
  decide (varSeg r ≤ 4) && decide (varVtype r ≤ 2) && (varOnline r == 0 || varSeg r == 3 || (varSeg r == 2 && !written)) &&
  (varSeg r != 1 || varFamily r != 3) && (decide (varSeg r ≤ 1) || varSrc r == 0xFFFF) && (varSeg r != 0 || decide (varSub r ≤ 5)) &&
  (varVtype r != 0 || decide (varInit r ≤ 1))

/-- Input n of an instance record. -/
def instIn (r n : Nat) : Nat := fld (instIns r) (127 - 16 * n) (112 - 16 * n)

/-- Table LOG-4. -/
def instRange (r : Nat) : Bool :=
  instValid r == 0 ||
  (within 1 (instNIn r) 8 && (List.range 8).all (fun n => decide (n < instNIn r) || instIn r n == 0xFFFF))

/-- Table LOG-8. -/
def outRecRange (r : Nat) : Bool :=
  outRecValid r == 0 ||
  (decide (outRecKind r ≤ 2) && decide (outRecLaunchOffset r ≤ 1000000) && (outRecKind r != 1 || within 1 (outRecRetryMs r) 1000) &&
   (outRecKind r != 2 || decide (outRecPulseMin r ≤ 10000000)) && !(outRecOpenDrain r == 1 && outRecActiveHigh r == 1))

/-- Two areas of the memory plan have a byte in common. -/
def areasMeet (a b : Nat × Nat) : Bool := decide (a.1 < b.1 + b.2) && decide (b.1 < a.1 + a.2)

/-- The four areas of the memory plan: base and size in units of 2^20 bytes. -/
def planAreas (r : Nat) : List (Nat × Nat) :=
  [(planPhasorBase r, planPhasorSize r), (planSvBase r, planSvSize r), (planCaptureBase r, planCaptureSize r), (planWorkBase r, planWorkSize r)]

/-- No two elements of a list satisfy a relation. -/
def apart {α : Type} (p : α → α → Bool) : List α → Bool
  | [] => true
  | x :: xs => !xs.any (p x) && apart p xs

/-- Table CAP-1 and R335. -/
def planRange (r : Nat) : Bool :=
  planPhasorSize r % 4 == 0 && decide (4 ≤ planPhasorSize r) && decide (1 ≤ planSvSize r) && decide (1 ≤ planCaptureSize r) &&
  decide (2 ≤ planWorkSize r) && within 1 (planTraceSize r) (planWorkSize r / 2) && within 16 (planIndexCount r) 4096 &&
  within 10 (planXtrigPulse r) 1000 && decide (planChlistCount r ≤ 4080) && apart areasMeet (planAreas r)

/-- Table CAP-2. -/
def capClassRange (fifty : Bool) (r : Nat) : Bool :=
  capClassValid r == 0 ||
  ((if capClassRing r = 0 then rateRange fifty (capClassRecRate r) else capClassRecRate r == 0) && decide (1 ≤ capClassNCh r) &&
   decide (capClassMaxDiv r ≤ 4) && decide (capClassPrefDiv r ≤ 4) && decide (capClassPreMs r ≤ 30000) && within 1 (capClassPostMs r) 600000 &&
   decide (capClassLongMs r ≤ 86400000) && decide (2 ≤ capClassMmInterval r) && (capClassAuto r == 0 || decide (1 ≤ capClassAutoS r)))

/-- Table CAP-3 and R338. -/
def trigSrcRange (r : Nat) : Bool :=
  let k := trigSrcKind r
  trigSrcValid r == 0 ||
  (decide (k ≤ 5) && trigSrcEdges r != 0 && (k != 1 || (trigSrcDriveXtrig r == 0 && trigSrcEdges r == 2)) &&
   (if k = 0 then decide (trigSrcInput r ≤ 7) && decide (trigSrcMinWidth r ≤ 1000) else trigSrcInput r == 0 && trigSrcMinWidth r == 0) &&
   (if k = 2 then decide (trigSrcEvKind r ≤ 6) else if k = 3 then decide (trigSrcEvKind r ≤ 4)
    else if k = 4 then decide (trigSrcEvKind r ≤ 5) else trigSrcEvKind r == 0) &&
   (decide (2 ≤ k) || trigSrcRef r == 0xFFFF))

/-- Table PUB-2, of an output stream in use. -/
def outStreamRange (r : Nat) : Bool :=
  let k := outStreamKind r
  decide (k ≤ 3) && (outStreamAlarm r == 0 || decide (2 ≤ k)) && (outStreamSendMode r == 0 || k == 0) &&
  (k != 3 || (outStreamDstIp r == 0 && outStreamDstPort r == 0)) && decide (outStreamAuth r ≤ 5) && (k != 0 || outStreamAuth r == 0) &&
  decide (1 ≤ outStreamContentCount r) && (if k = 0 then decide (1 ≤ outStreamTimeBase r) else outStreamTimeBase r == 0 && outStreamFormat r == 0) &&
  (if outStreamAlarm r = 1 then within 2 (outStreamTMin r) 1000 && within (outStreamTMin r) (outStreamTMax r) 60000
   else outStreamTMin r == 0 && outStreamTMax r == 0)

/-- Table PUB-3. -/
def contentRange (r : Nat) : Bool :=
  if contentBlockStart r = 1 then true
  else decide (contentField r ≤ 4) && (contentField r != 4 || decide (contentMType r ≤ 2)) && contentIdcode r == 0

/-- Table KEY-4: ENGINES names INGRESS_AUTH and EGRESS_AUTH only, one at least. -/
def keyEntRange (r : Nat) : Bool :=
  decide (16 ≤ keyEntSlot r) && keyEntEngines r != 0 && keyEntEngines r % 8 == 0 && within 1 (keyEntLife r) 2 &&
  (if keyEntLife r = 1 then keyEntUses r != 0 else keyEntUses r == 0) &&
  (keyEntHasKey r == 1 || (keyEntIv r == 0 && keyEntWrapped r == 0 && keyEntTag r == 0))

/-- One record keeps its ranges. -/
def State.recordRange (s : State) (t : Tbl) (i r : Nat) : Bool :=
  let fifty : Bool := frontEndFNom (s.rec_ .frontEnd 0) == 0
  let params := oscHdrParamCount (s.rec_ .oscHdr 0)
  match t with
  | .header => headerRange r
  | .sectionHdr => sectionSversion r == 1
  | .timeHdr => timeRange r
  | .ptpRec => ptpRange r
  | .asym => withinI 32 (asymIng r) 100000 && withinI 32 (asymEgr r) 100000
  | .port => portRange i r
  | .peer => peerRange r
  | .tbWord => tbWordRange (s.rec_ .stream i) r
  | .stream => streamRange fifty r
  | .chan => chanRange fifty r
  | .bus => busRange r
  | .branch => branchRange r
  | .beatHdr => beatRange i r
  | .post => postRange r
  | .budget => budgetRange r
  | .slice => sliceRange i r
  | .group => groupRange fifty r
  | .directory => decide (directoryType r ≤ 5) && directoryBversion r == 1
  | .frontEnd => frontEndRange r
  | .lane => laneRange r
  | .thresh => decide (1 ≤ threshPickup r)
  | .oscHdr => oscHdrRange r
  | .oscBand => oscBandRange i r
  | .signal => signalRange params r
  | .groupEst => groupEstRange params r
  | .param => s.paramRange i r
  | .locSet => locSetRange r
  | .islHdr => s.islHdrRange fifty r
  | .det => s.detRange i r
  | .dispHdr => dispHdrRange r
  | .cellMap => cellMapRange r
  | .template => templateRange r
  | .kernel => kernelCodeOffset r % 16 == 0
  | .logicHdr => logicHdrRange r
  | .task => taskRange (logicHdrProgKind (s.rec_ .logicHdr 0) == 1) r
  | .var => varRange (s.writers.contains i) r
  | .inst => instRange r
  | .outRec => outRecRange r
  | .plan => planRange r
  | .capClass => capClassRange fifty r
  | .trigSrc => trigSrcRange r
  | .outSet => outSetRange fifty r
  | .outStream => outSetValid (s.rec_ .outSet i) == 0 || outStreamRange r
  | .content => contentRange r
  | .amap => amapFamily r != 3
  | .keysHdr => decide (keysHdrKeyCount r ≤ 1008)
  | .keyEnt => keyEntRange r
  | .fwHdr => (List.range 7).all (fun n => decide (1 ≤ (kvEntry r n).2))
  | .locBranch | .watched | .pairRec | .code | .chList | .name | .pubHdr | .kernHdr => true

/-- Records from first on, so many. -/
def recordsFrom (t : Tbl) (n : Nat) : List (Tbl × Nat) := (List.range n).map (fun i => (t, i))

/-- Records that are in use by their place or by a count of their section, whatever they hold: one of zero is judged too. The
tables with a VALID bit, and those whose every value is in range, are not among them. -/
def State.alwaysUsed (s : State) : List (Tbl × Nat) :=
  [(.timeHdr, 0), (.frontEnd, 0), (.oscHdr, 0), (.islHdr, 0), (.dispHdr, 0), (.plan, 0), (.fwHdr, 0)] ++ recordsFrom .port 7 ++
  recordsFrom .beatHdr 4 ++ recordsFrom .slice 4 ++ recordsFrom .lane 8 ++ recordsFrom .thresh 255 ++ recordsFrom .oscBand 4 ++
  recordsFrom .param (oscHdrParamCount (s.rec_ .oscHdr 0)) ++ recordsFrom .keyEnt (keysHdrKeyCount (s.rec_ .keysHdr 0))

/-- Ranges and reserved bits of every record; a post entry with VALID clear is ignored (R72). -/
def State.recordFindings (s : State) : List Finding :=
  let judge (k : Tbl × Nat) (r : Nat) : List Finding :=
    let skip : Bool := k.1 == .post && postValid r == 0
    finding (!skip && (reservedSet k.1 r || !s.recordRange k.1 k.2 r)) 0x0B (placeOf k.1 k.2).1 (placeOf k.1 k.2).2
  s.img.flatMap (fun e => judge e.1 e.2) ++
    (s.alwaysUsed.filter (fun k => s.rec_ k.1 k.2 == 0)).flatMap (fun k => judge k 0) ++
    (s.valids .stream 511 8192).flatMap (fun i => finding (!tbWordRange (s.rec_ .stream i) (s.rec_ .tbWord i)) 0x0B 3 i)

/-! Checks over several records. -/

/-- The directory (R231): each type from 1 to 5 once, blocks behind the directory at multiples of 16, none overlapping. -/
def State.directoryFindings (s : State) : List Finding :=
  let ds := ((List.range 16).map (fun i => s.rec_ .directory i)).filter (fun r => directoryType r != 0)
  finding (!([1, 2, 3, 4, 5] : List Nat).all (fun t => (ds.filter (fun r => directoryType r == t)).length == 1)) 0x0B 9 0 ++
  finding (ds.any (fun r => decide (directoryOffset r < 4416) || directoryOffset r % 16 != 0)) 0x0B 9 0 ++
  finding (!apart (fun a b => areasMeet (directoryOffset a, directoryLength a) (directoryOffset b, directoryLength b)) ds) 0x0B 9 0

/-- The order key of a budget entry: region, then class (R73). -/
def budgetKey (r : Nat) : Nat := budgetRegion r * 256 + budgetClass r

/-- Keys that rise strictly. -/
def rising : List Nat → Bool
  | a :: b :: l => decide (a < b) && rising (b :: l)
  | _ => true

/-- The entries of BUDGETS in order. -/
def State.budgets (s : State) : List Nat := (List.range (sectionRecordCount (s.rec_ .sectionHdr 7))).map (fun i => s.rec_ .budget i)

/-- BUDGETS (R73, R280): order, one entry per class, one spare margin per region, SHED_FLOOR and LENDER. -/
def State.budgetFindings (s : State) : List Finding :=
  let bs := s.budgets
  let named (c : Nat) : Bool := c == 0 || c == 1 || c == 4 || (s.valids .group 127 256).any (fun g => groupQClass (s.rec_ .group g) == c)
  finding (!rising (bs.map budgetKey)) 0x0B 8 0 ++
  finding (!(List.range 4).all (fun r => bs.any (fun b => budgetKey b == r * 256 + 255))) 0x0B 8 0 ++
  (bs.zipIdx).flatMap (fun e =>
    finding ((decide (budgetClass e.1 ≤ 1) && budgetShedFloor e.1 == 0) || (named (budgetClass e.1) && budgetLender e.1 == 1)) 0x0B 8 e.2)

end Sys2Proof.Machine
end

