-- ==== Sys2Proof/Machine/Refs.lean ====
section
/-! DEFINITION. The reference checks of failure code 0x0C for ports, time, intake, channels, the network model and
alignment (R70, R71, R87, R110, R113-R115, R137, R164, R169, R193, R244, R273, R314). -/

namespace Sys2Proof.Machine

/-- A finding of code 0x0C on a record. -/
def refFinding (bad : Bool) (t : Tbl) (i : Nat) : List Finding := finding bad 0x0C (placeOf t i).1 (placeOf t i).2

/-! Ports and time. -/

/-- QCARVE of a queue of a port. -/
def State.carve (s : State) (p q : Nat) : Nat := fld (portQcarve (s.rec_ .port p)) (8 * q + 7) (8 * q)

/-- CMD_QUEUE names a queue with QCARVE 0 on an enabled line port (R87). -/
def State.portRefs (s : State) : List Finding :=
  (List.range 4).flatMap (fun p => refFinding (portEnable (s.rec_ .port p) == 1 && s.carve p s.cmdQueue == 0) .pubHdr 0)

/-- Source code of time base b (Table TIM-2). -/
def State.tbSrc (s : State) (b : Nat) : Nat := fld (timeHdrTbSrcs (s.rec_ .timeHdr 0)) (15 - 4 * b) (12 - 4 * b)

/-- TIME (R137): sources named once, PTP records valid, domains apart, queues in use. -/
def State.timeRefs (s : State) : List Finding :=
  let p (d : Nat) : Nat := s.rec_ .ptpRec d
  let srcs := ((List.range 4).map s.tbSrc).filter (fun c => c != 0)
  refFinding (decide (srcs.eraseDups.length < srcs.length)) .timeHdr 0 ++
  refFinding ((List.range 2).any (fun d => srcs.contains (d + 1) && ptpRecValid (p d) == 0)) .timeHdr 0 ++
  refFinding (ptpRecValid (p 0) == 1 && ptpRecValid (p 1) == 1 && ptpRecDomain (p 0) == ptpRecDomain (p 1) &&
    (ptpRecPortMask (p 0) &&& ptpRecPortMask (p 1)) != 0) .ptpRec 1 ++
  (List.range 2).flatMap (fun d => refFinding (ptpRecValid (p d) == 1 &&
    (maskPorts (ptpRecPortMask (p d))).any (fun q => s.carve q (ptpRecTxQueue (p d)) == 0)) .ptpRec d)

/-! Stream descriptors (R110, R113-R115). -/

/-- A wildcard or two equal values. -/
def meets (a b : Nat) : Bool := a == 0 || b == 0 || a == b

/-- One frame could match two descriptors (R109, R110). -/
def bothMatch (a b : Nat) : Bool :=
  let k := streamKind a
  k == streamKind b && k != 1 && streamVlanId a == streamVlanId b && meets (streamSrcMac a) (streamSrcMac b) &&
  (k == 3 || (meets (streamSrcIp a) (streamSrcIp b) && streamDstPort a == streamDstPort b)) && streamStreamId a == streamStreamId b &&
  (k == 0 || streamSvidCrc a == streamSvidCrc b)

/-- A peer entry is there and valid. -/
def State.peerOk (s : State) (n : Nat) : Bool := decide (n ≤ 1023) && peerValid (s.rec_ .peer n) == 1

/-- A descriptor names a valid peer with SRC_ROLE. -/
def State.sourcePeer (s : State) (r : Nat) : Bool := s.peerOk (streamPeerIndex r) && peerSrcRole (s.rec_ .peer (streamPeerIndex r)) == 1

/-- A block's entries in order: phasors, one frequency pair, analogs, digital words (R114). -/
def blockOrder : List Nat → Nat → Bool
  | [], stage => decide (1 ≤ stage)
  | x :: xs, stage =>
    match x with
    | 0 => stage == 0 && blockOrder xs 0
    | 3 => stage == 0 && blockOrder xs 1
    | 1 => stage == 1 && blockOrder xs 1
    | _ => decide (1 ≤ stage) && blockOrder xs 2

/-- First appearances of a source carry POSITION 0, 1, 2 and so on (R115). -/
def positionsRun (l : LayoutAcc) (src : Nat) : Bool :=
  let ps := (l.vals.filter (fun v => v.source == src)).map (fun v => v.pos)
  decide (ps = List.range ps.length)

/-- ENCODING agrees with EXP_FORMAT (R115). -/
def encodingAgrees (fmt : Nat) (v : LayoutVal) : Bool :=
  let bit : Bool := match v.source with | 0 => bitAt fmt 1 | 1 => bitAt fmt 2 | 3 => bitAt fmt 3 | _ => false
  v.enc == (if bit then 4 else 1)

/-- The layout rules of a stream of KIND 0 or 1. -/
def State.layoutBad (s : State) (i : Nat) : Bool :=
  let r := s.rec_ .stream i
  let l := s.layout i
  let blocks := (List.range l.blocks).map (fun b => (l.vals.filter (fun v => v.block == b)).map (fun v => v.source))
  !blocks.all (fun b => blockOrder b 0) || !([0, 1, 2, 3] : List Nat).all (positionsRun l) ||
  !l.vals.all (encodingAgrees (streamExpFormat r)) || (streamExpFramesize r != 0 && streamExpFramesize r != s.layoutSize i)

/-- Stream descriptors. -/
def State.streamRefs (s : State) : List Finding :=
  let vs := s.valids .stream 511 8192
  vs.flatMap (fun i =>
    let r := s.rec_ .stream i
    refFinding ((vs.filter (fun j => decide (j < i))).any (fun j => bothMatch r (s.rec_ .stream j))) .stream i ++
    refFinding ((streamKind r == 1 || bitAt (streamSflags r) 3) && !s.sourcePeer r) .stream i ++
    refFinding (streamPeerIndex r != 0xFFFF && !s.peerOk (streamPeerIndex r)) .stream i ++
    refFinding (decide (65536 < streamChanBase r + streamChanCount r)) .stream i ++
    refFinding (decide (streamKind r ≤ 1) && s.layoutBad i) .stream i)

/-! Channel map (R69, R70, R193, R244, R273, R314). -/

/-- A channel entry is valid. -/
def State.chanOk (s : State) (c : Nat) : Bool := chanValid (s.rec_ .chan c) == 1

/-- A channel carries a synchrophasor: SOURCE 0 or 6. -/
def State.isPhasor (s : State) (c : Nat) : Bool := s.chanOk c && (chanSource (s.rec_ .chan c) == 0 || chanSource (s.rec_ .chan c) == 6)

/-- A channel carries frequency: SOURCE 3 or 6. -/
def State.isFreq (s : State) (c : Nat) : Bool := s.chanOk c && (chanSource (s.rec_ .chan c) == 3 || chanSource (s.rec_ .chan c) == 6)

/-- A channel carries samples: SOURCE 4 or 5. -/
def State.isWave (s : State) (c : Nat) : Bool := s.chanOk c && (chanSource (s.rec_ .chan c) == 4 || chanSource (s.rec_ .chan c) == 5)

/-- A bus record is valid. -/
def State.busOk (s : State) (b : Nat) : Bool := decide (b ≤ 8191) && busValid (s.rec_ .bus b) == 1

/-- A watch-group record is valid. -/
def State.groupOk (s : State) (g : Nat) : Bool := decide (g ≤ 255) && groupValid (s.rec_ .group g) == 1

/-- Positions of an analytics index (Tables OSC-8, OSC-13, ISL-8): how many it has; 0 where nothing produces it. -/
def State.anaPositions (s : State) (i : Nat) : Nat :=
  if i < 0x9000 then
    let b := oscBandOf i
    let k := oscKey i
    if !s.oscKeys.contains k then 0
    else if i < 0x8000 then 5
    else if i % 4 < oscBandModes (s.rec_ .oscBand b) then 5 else 0
  else if i < 0x9010 then (if locSetValid (s.rec_ .locSet (i - 0x9000)) = 1 then 10 else 0)
  else if 0x9100 ≤ i ∧ i < 0x9140 then (if s.islConfigured then 7 else 0)
  else if i = 0x9140 then (if s.islConfigured then 3 else 0)
  else if 0xA000 ≤ i ∧ i < 0xB000 then (if detValid (s.rec_ .det (i - 0xA000)) = 1 then 2 else 0)
  else 0

/-- SRC_REF of a channel entry names what its SOURCE needs. -/
def State.srcRefOk (s : State) (r : Nat) : Bool :=
  let x := s.rec_ .stream (chanSrcRef r)
  match chanSource r with
  | 0 | 1 | 2 | 3 => streamValid x == 1 && decide (streamKind x ≤ 1)
  | 4 => streamValid x == 1 && decide (2 ≤ streamKind x)
  | 5 => laneEnable (s.rec_ .lane (chanSrcRef r / 8)) == 1 && decide (chanSrcRef r % 8 < laneChCount (s.rec_ .lane (chanSrcRef r / 8)))
  | 6 => s.isWave (chanSrcRef r)
  | _ => decide (chanPosition r < s.anaPositions (chanSrcRef r))

/-- The channel map. -/
def State.chanRefs (s : State) : List Finding :=
  let vs := s.valids .chan 255 65536
  let six := vs.filter (fun c => chanSource (s.rec_ .chan c) == 6)
  let sv := ((vs.filter (fun c => chanSource (s.rec_ .chan c) == 4)).map (fun c => 8 * chanSrcRef (s.rec_ .chan c) + chanPosition (s.rec_ .chan c))).eraseDups
  vs.flatMap (fun c =>
    let r := s.rec_ .chan c
    refFinding (!s.srcRefOk r) .chan c ++
    refFinding (chanWgMember r == 1 && (!s.groupOk (chanWatchGroup r) || chanSource r == 7)) .chan c ++
    refFinding (chanBusRef r != 0xFFFF && !s.busOk (chanBusRef r)) .chan c ++
    refFinding (chanBranchRef r != 0xFFFF && branchValid (s.rec_ .branch (chanBranchRef r)) == 0) .chan c) ++
  refFinding (decide (4096 < sv.length)) .chan 0 ++ refFinding (decide (8192 < six.length)) .chan 0 ++
  refFinding (decide (1024 < (six.filter (fun c => chanFastMinphase (s.rec_ .chan c) == 1)).length)) .chan 0

/-! Network model (R71). -/

/-- Buses and branches: valid buses, a digital status, phasors and frequency where given. -/
def State.topologyRefs (s : State) : List Finding :=
  let opt (c : Nat) (p : Nat → Bool) : Bool := c == 0xFFFF || p c
  (s.valids .bus 63 8192).flatMap (fun b =>
    let r := s.rec_ .bus b
    refFinding (!opt (busFCh r) s.isFreq || !opt (busACh r) s.isPhasor) .bus b) ++
  (s.valids .branch 127 16384).flatMap (fun b =>
    let r := s.rec_ .branch b
    refFinding (!s.busOk (branchFromBus r) || !s.busOk (branchToBus r) ||
      !opt (branchStatusCh r) (fun c => s.chanOk c && chanSource (s.rec_ .chan c) == 2) ||
      !opt (branchVCh r) s.isPhasor || !opt (branchICh r) s.isPhasor) .branch b)

/-! Alignment (R70, R164, R169). -/

/-- The output streams in use that hold a part in a region and launch sets (ALARM streams take none, R366). -/
def State.regionOuts (s : State) (r : Nat) : List Nat := s.outs.filter (fun n => outStreamAlarm (s.rec_ .outStream n) == 0 && s.contentIn n r)

/-- A grid of f tags each second has a tag that no rate of a list has a tag at (R169). -/
def gridGap (f : Nat) (rates : List Nat) : Bool := (List.range f).any (fun k => !rates.any (fun g => k * g % f == 0))

/-- Waits in µs of the consumers of a region's rows (R164). -/
def State.sliceWaits (s : State) (r : Nat) : List Nat :=
  (s.regionGroups r).map (fun g => groupQWait (s.rec_ .group g)) ++ (s.regionOuts r).map (fun n => outSetWait (s.rec_ .outSet n))

/-- Rates of those consumers. -/
def State.sliceRates (s : State) (r : Nat) : List Nat :=
  (s.regionGroups r).map (fun g => rateOf (groupSetRate (s.rec_ .group g))) ++ (s.regionOuts r).map s.outRate

/-- A slice record (R164). -/
def State.sliceBad (s : State) (r : Nat) : Bool :=
  let x := s.rec_ .slice r
  let row := s.rowRate r
  let waits := s.sliceWaits r
  2400 % sliceRowDiv x != 0 || !(s.sliceRates r).all (fun g => row % g == 0) ||
  (!waits.isEmpty && sliceRetireWait x != waits.foldl max 0) ||
  decide (256 < ceilDiv ((sliceRowLead x + sliceRetireWait x) * row) 1000000 + 1)

/-- A watch group (R70, R169). -/
def State.groupBad (s : State) (g : Nat) : Bool :=
  let r := s.rec_ .group g
  let f := rateOf (groupSetRate r)
  let ms := s.groupMembers g
  let req := ms.filter (fun c => chanWgRequired (s.rec_ .chan c) == 1)
  decide (64 < ms.length) || req.any (fun c => s.chanRate c % f != 0) || gridGap f (ms.map s.chanRate) || (groupQFrac r == 0 && req.isEmpty)

/-- Some tag of an output stream's grid has no content stream that expects it (R169); a set of SOURCE 7 values alone has no
content stream, and is closed by its launch region (R505; DEDUCED, log entry 42). -/
def State.outGap (s : State) (n : Nat) : Bool :=
  let cs := s.contentChans n
  let rows := cs.filter (fun c => chanSource (s.rec_ .chan c) != 7)
  outStreamAlarm (s.rec_ .outStream n) == 0 && !(rows.isEmpty && !cs.isEmpty && (s.relayed n).isEmpty) &&
  gridGap (s.outRate n) (rows.map s.chanRate ++ (s.relayed n).map (fun i => rateOf (streamRateCode (s.rec_ .stream i))))

/-- Slices, groups and output sets. -/
def State.alignRefs (s : State) : List Finding :=
  (List.range 4).flatMap (fun r => refFinding (s.sliceBad r) .slice r) ++
  (s.valids .group 127 256).flatMap (fun g => refFinding (s.groupBad g) .group g) ++
  s.outs.flatMap (fun n => refFinding (s.outGap n) .outSet n)

end Sys2Proof.Machine
end

