-- ==== Sys2Proof/Machine/RefsFn.lean ====
section
/-! DEFINITION. The reference checks of failure code 0x0C for oscillation, islanding, dispatch, logic and capture (R234,
R237, R250, R256, R257, R269, R280, R285, R313, R314, R322, R326, R329, R337, R338, R500). -/

namespace Sys2Proof.Machine

/-! Oscillation (chapter 09). -/

/-- A channel is a member of a watch group. -/
def State.memberOf (s : State) (g c : Nat) : Bool := let r := s.rec_ .chan c; chanValid r == 1 && chanWgMember r == 1 && chanWatchGroup r == g

/-- The phasor and frequency channels that a signal uses (Table OSC-5). -/
def State.signalChans (s : State) (r : Nat) : List Nat :=
  if signalQuantity r = 3 ∨ signalQuantity r = 4 then [branchVCh (s.rec_ .branch (signalBranch r)), branchICh (s.rec_ .branch (signalBranch r))]
  else if signalQuantity r = 1 then [signalCh r, signalRefCh r] else [signalCh r]

/-- SET_RATE of a group in frames/s. -/
def State.setRate (s : State) (g : Nat) : Nat := rateOf (groupSetRate (s.rec_ .group g))

/-- A signal (R234). -/
def State.signalBad (s : State) (n : Nat) : Bool :=
  let r := s.rec_ .signal n
  let q := signalQuantity r
  let cs := s.signalChans r
  let g := s.feedGroup n
  if q = 5 then !s.isWave (signalCh r)
  else
    ((q == 3 || q == 4) && (branchValid (s.rec_ .branch (signalBranch r)) == 0 || cs.contains 0xFFFF)) ||
    (decide (q ≤ 1) && !cs.all s.isPhasor) || (q == 2 && !s.isFreq (signalCh r)) ||
    !cs.all (s.memberOf g) || !s.groupOk g || !cs.all (fun c => s.chanRate c % s.setRate g == 0) ||
    (bitAt (signalBands r) 2 && decide (s.setRate g < 20))

/-- A group estimator (R234, R237). -/
def State.groupEstBad (s : State) (g : Nat) : Bool :=
  let r := s.rec_ .groupEst g
  let cs := s.usedMembers g
  !s.groupOk g || decide (cs.length < groupEstGMin r) || !cs.all (fun c => s.chanRate c % s.setRate g == 0) ||
  (groupEstQuantity r == 1 && !(s.isPhasor (groupEstRefCh r) && s.memberOf g (groupEstRefCh r) && s.chanRate (groupEstRefCh r) % s.setRate g == 0)) ||
  (bitAt (groupEstBands r) 2 && decide (s.setRate g < 20))

/-- A location set (R250). -/
def State.locBad (s : State) (l : Nat) : Bool :=
  let r := s.rec_ .locSet l
  ((List.range (locSetBrCount r)).map (fun i => s.rec_ .locBranch (1024 * l + i))).any (fun b =>
    let x := s.rec_ .branch b
    branchValid x == 0 || branchVCh x == 0xFFFF || branchICh x == 0xFFFF || s.chanRate (branchVCh x) != s.chanRate (branchICh x) ||
    (bitAt (locSetBands r) 2 && decide (s.chanRate (branchVCh x) < 20)))

/-- The oscillation block. -/
def State.oscRefs (s : State) : List Finding :=
  let vs := s.valids .signal 127 8192
  vs.flatMap (fun n => refFinding (s.signalBad n) .signal n) ++
  refFinding (decide (1024 < (vs.filter (fun n => signalQuantity (s.rec_ .signal n) == 5)).length)) .signal 0 ++
  (s.valids .groupEst 127 256).flatMap (fun g => refFinding (s.groupEstBad g) .groupEst g) ++
  (List.range (oscHdrParamCount (s.rec_ .oscHdr 0))).flatMap (fun p =>
    let l := paramLocate (s.rec_ .param p)
    refFinding (l != 0xFF && !(decide (l < oscHdrLocCount (s.rec_ .oscHdr 0)) && locSetValid (s.rec_ .locSet l) == 1)) .param p) ++
  (s.valids .locSet 127 16).flatMap (fun l => refFinding (s.locBad l) .locSet l)

/-! Dispatch (chapter 11). -/

/-- A template is in use. -/
def State.tmplOk (s : State) (n : Nat) : Bool := templateValid (s.tmpl n) == 1

/-- KERNEL_ID of a template. -/
def State.tmplKernel (s : State) (n : Nat) : Nat := kernelId (s.rec_ .kernel (templateKernel (s.tmpl n)))

/-- The kernels of Table SCH-5, in table order. -/
def kernelIds : List Nat := [kFast, kIsl, kBank, kModal, kLocate, kFb, kHiska]

/-- KERNEL_COUNT (R285). -/
def State.kernels (s : State) : Nat := kernHdrCount (s.rec_ .kernHdr 0)

/-- The management firmware carries a kernel version (R500). -/
def State.carries (s : State) (id version : Nat) : Bool :=
  (List.range 7).any (fun n => (kvEntry (s.rec_ .fwHdr 0) n).1 == id && decide (1 ≤ version) && decide (version ≤ (kvEntry (s.rec_ .fwHdr 0) n).2))

/-- The valid post entries: index and record. -/
def State.posts (s : State) : List (Nat × Nat) :=
  (s.img.filter (fun e => decide (e.1.1 = .post) && postValid e.2 == 1)).map (fun e => (e.1.2, e.2))

/-- Region of a post entry. -/
def postRegion (i : Nat) : Nat := i / (2400 * 64)

/-- Row of a post entry. -/
def postRow (i : Nat) : Nat := i / 64 % 2400

/-- A class has an ITEM_LIMIT in a region (R280). -/
def State.limited (s : State) (r cls : Nat) : Bool := budgetItemLimit (s.budgetRec r cls) != 0

/-- A post entry (R280, R366, R337). -/
def State.postBad (s : State) (i r : Nat) : Bool :=
  match postOp r with
  | 0 | 1 => !s.tmplOk (postTemplate r) || (postClass r == 1 && postPriority r != 15) || !s.limited (postRegion i) (postClass r)
  | 2 => !s.outInUse (postTemplate r)
  | 3 => decide (15 < postTemplate r) || capClassValid (s.rec_ .capClass (postTemplate r)) == 0
  | _ => postClass r != 4

/-- Posts, groups' items, templates and kernels. -/
def State.dispatchRefs (s : State) : List Finding :=
  s.posts.flatMap (fun e => refFinding (s.postBad e.1 e.2) .post e.1) ++
  (s.valids .group 127 256).flatMap (fun g =>
    let r := s.rec_ .group g
    refFinding (!s.tmplOk (groupQTemplate r) || (groupQClass r == 1 && groupQPriority r != 15) || !s.limited (groupRegion r) (groupQClass r)) .group g) ++
  (s.valids .template 255 0x2000).flatMap (fun t => refFinding (decide (s.kernels ≤ templateKernel (s.rec_ .template t))) .template t) ++
  (List.range s.kernels).flatMap (fun k =>
    let r := s.rec_ .kernel k
    refFinding (!kernelIds.contains (kernelId r) || !s.carries (kernelId r) (kernelVersion r)) .kernel k)

/-! Islanding (chapter 10). -/

/-- A channel is a member of a valid watch group that runs at ISL_RATE (R256). -/
def State.islMember (s : State) (c : Nat) : Bool :=
  let r := s.rec_ .chan c
  chanWgMember r == 1 && s.groupOk (chanWatchGroup r) && groupSetRate (s.rec_ .group (chanWatchGroup r)) == islHdrIslRate (s.rec_ .islHdr 0)

/-- A watch group whose item is a fast-path item of class ALARM (R256). -/
def State.fastGroup (s : State) (g : Nat) : Bool :=
  groupQClass (s.rec_ .group g) == 1 && s.tmplKernel (groupQTemplate (s.rec_ .group g)) == kFast

/-- A coherency pair (R256). -/
def State.pairBad (s : State) (i a b : Nat) : Bool :=
  let bus (x : Nat) : Bool := let r := s.rec_ .bus x; s.busOk x && busFCh r != 0xFFFF && busACh r != 0xFFFF && s.isFreq (busFCh r) && s.isPhasor (busACh r) && s.islMember (busFCh r) && s.islMember (busACh r)
  !bus a || !bus b || a == b || (s.cohPairs.take i).any (fun p => (p.2.1 == a && p.2.2 == b) || (p.2.1 == b && p.2.2 == a))

/-- A detector (R269). -/
def State.detBad (s : State) (d : Nat) : Bool :=
  let r := s.rec_ .det d
  let g := detGroup r
  let opt (c : Nat) (p : Nat → Bool) : Bool := c == 0xFFFF || (s.memberOf g c && p c)
  !s.groupOk g || !s.fastGroup g || !(s.memberOf g (detCh r) && (if detKind r = 0 then s.isFreq (detCh r) else s.isPhasor (detCh r))) ||
  (detKind r == 3 && detRefCh r == 0xFFFF) || !opt (detRefCh r) s.isPhasor || !opt (detFreqCh r) s.isFreq

/-- The islanding block (R256, R257, R285). -/
def State.islRefs (s : State) : List Finding :=
  let h := s.rec_ .islHdr 0
  let stat := ((s.valids .branch 127 16384).map (fun b => branchStatusCh (s.rec_ .branch b))).filter (fun c => c != 0xFFFF)
  s.cohPairs.flatMap (fun p => refFinding (s.pairBad p.1 p.2.1 p.2.2) .pairRec p.1) ++
  refFinding (!s.islConfigured && islHdrPairCount h != 0) .islHdr 0 ++
  refFinding (!stat.all s.islMember) .islHdr 0 ++
  refFinding (!s.islChannels.all (fun c => s.fastGroup (chanWatchGroup (s.rec_ .chan c)))) .islHdr 0 ++
  refFinding (s.islConfigured && (!s.busOk (fld (islHdrRefBuses h) 127 112) ||
    (List.range 8).any (fun i => let b := fld (islHdrRefBuses h) (127 - 16 * i) (112 - 16 * i); b != 0xFFFF && !s.busOk b))) .islHdr 0 ++
  (List.range 1024).flatMap (fun y => refFinding ((List.range 8).any (fun i => s.watched (8 * y + i) && !s.busOk (8 * y + i))) .watched y) ++
  refFinding (s.islConfigured && !(List.range 4).any (fun i => s.rec_ .cellMap (4 * islHdrIslBlock h + i) == 0x80)) .cellMap 0 ++
  (s.valids .det 255 4096).flatMap (fun d => refFinding (s.detBad d) .det d)

/-! Logic (chapter 12). -/

/-- A variable index names a record. -/
def State.varIn (s : State) (v : Nat) : Bool := decide (v < logicHdrVarCount (s.rec_ .logicHdr 0))

/-- A task owns a variable. -/
def State.owned (s : State) (t v : Nat) : Bool := s.varIn v && varTask (s.rec_ .var v) == t

/-- A task (R313). -/
def State.taskBad (s : State) (t : Nat) : Bool :=
  let r := s.rec_ .task t
  let g := s.rec_ .group (taskSet r)
  let want := if logicHdrProgKind (s.rec_ .logicHdr 0) = 1 then kHiska else kFb
  !s.tmplOk (taskTemplate r) || s.tmplKernel (taskTemplate r) != want ||
  (if taskBind r = 0 then !s.groupOk (taskSet r) || groupQTemplate g != taskTemplate r || groupRegion g != taskRegion r
   else !s.outInUse (taskSet r) || !s.contentIn (taskSet r) (taskRegion r)) ||
  (s.tasks.filter (fun u => decide (u < t))).any (fun u => taskBind (s.rec_ .task u) == taskBind r && taskSet (s.rec_ .task u) == taskSet r)

/-- Class of a task's scans. -/
def State.taskClass (s : State) (t : Nat) : Nat :=
  let r := s.rec_ .task t
  if taskBind r = 0 then groupQClass (s.rec_ .group (taskSet r)) else taskDClass r

/-- Cells reserved to the classes of the tasks (R313). -/
def State.hiskaCells (s : State) : Nat :=
  let cs := s.tasks.map s.taskClass
  ((List.range 64).filter (fun c => cs.contains (s.rec_ .cellMap c))).length

/-- An INPUT variable's channel belongs to the task's set at a rate that makes it expected at every tag (R314). -/
def State.inputBad (s : State) (v : Nat) : Bool :=
  let r := s.rec_ .var v
  let t := s.rec_ .task (varTask r)
  let c := varSrc r
  let src := chanSource (s.rec_ .chan c)
  if taskBind t = 0 then !s.memberOf (taskSet t) c || src == 7 || s.chanRate c % s.setRate (taskSet t) != 0
  else !s.chanOk c || !(s.contentChans (taskSet t)).contains c || (src != 7 && s.chanRate c % s.outRate (taskSet t) != 0)

/-- An event's source exists: a channel for family 0, a produced analytics index otherwise (Table LOG-3, R371). -/
def State.eventRefOk (s : State) (family ref : Nat) : Bool := if family = 0 then s.chanOk ref else s.anaPositions ref != 0

/-- A variable. -/
def State.varBad (s : State) (v : Nat) : Bool :=
  let r := s.rec_ .var v
  taskValid (s.rec_ .task (varTask r)) == 0 ||
  (varSeg r == 0 && s.inputBad v) || (varSeg r == 1 && !s.eventRefOk (varFamily r) (varSrc r))

/-- A block's signature (Table LOG-5): fewest and most inputs, the types of its inputs, 3 for any, and of its outputs. -/
def fbSig (fb : Nat) : Option (Nat × Nat × List Nat × List Nat) :=
  match fb with
  | 0x10 | 0x11 => some (2, 8, List.replicate 8 0, [0])
  | 0x12 => some (2, 2, [0, 0], [0])
  | 0x13 | 0x20 | 0x21 => some (1, 1, [0], [0])
  | 0x18 => some (2, 8, 1 :: List.replicate 7 0, [0])
  | 0x28 | 0x29 => some (2, 2, [0, 0], [0])
  | 0x30 | 0x31 | 0x32 => some (2, 2, [0, 1], [0, 1])
  | 0x38 => some (3, 3, [0, 0, 1], [0, 1])
  | 0x40 | 0x41 | 0x42 | 0x43 | 0x45 | 0x46 | 0x50 => some (2, 2, [2, 2], [2])
  | 0x44 => some (1, 1, [2], [2])
  | 0x48 => some (3, 3, [2, 2, 2], [0])
  | 0x54 => some (3, 3, [2, 2, 2], [2])
  | 0x58 => some (3, 3, [0, 3, 3], [3])
  | 0x60 => some (1, 1, [3], [0, 1])
  | _ => none

/-- Engine cycles of a block (Table LOG-5). -/
def fbCycles (fb : Nat) : Nat :=
  match fb with
  | 0x13 => 2
  | 0x18 | 0x38 | 0x48 => 8
  | 0x30 | 0x31 | 0x32 => 10
  | 0x40 | 0x41 | 0x42 | 0x54 => 6
  | 0x43 => 20
  | 0x50 => 14
  | _ => 4

/-- A type fits a signature's type. -/
def typeFits (want got : Nat) : Bool := want == 3 || want == got

/-- An instance (R314, R322). -/
def State.instBad (s : State) (i : Nat) : Bool :=
  let r := s.rec_ .inst i
  let t := instTask r
  let n := instNIn r
  let ty (v : Nat) : Nat := varVtype (s.rec_ .var v)
  match fbSig (instFbType r) with
  | none => true
  | some sig =>
    let ins := (List.range n).map (instIn r)
    let outs := [instOut0 r, instOut1 r]
    let written := outs.filter (fun v => v != 0xFFFF)
    decide (n < sig.1) || decide (sig.2.1 < n) || taskValid (s.rec_ .task t) == 0 || !ins.all (s.owned t) ||
    !(ins.zip sig.2.2.1).all (fun e => typeFits e.2 (ty e.1)) ||
    !(outs.zipIdx).all (fun e => e.1 == 0xFFFF || (decide (e.2 < sig.2.2.2.length) && typeFits (sig.2.2.2.getD e.2 3) (ty e.1))) ||
    !written.all (fun v => s.owned t v && (varSeg (s.rec_ .var v) == 2 || varSeg (s.rec_ .var v) == 4)) ||
    (instFbType r == 0x58 && (ty (instIn r 1) != ty (instIn r 2) || (instOut0 r != 0xFFFF && ty (instOut0 r) != ty (instIn r 1))))

/-- The variables that instances write, with repetition. -/
def State.instWrites (s : State) : List Nat :=
  (s.valids .inst 255 4096).flatMap (fun i => let r := s.rec_ .inst i; [instOut0 r, instOut1 r].filter (fun v => v != 0xFFFF))

/-- An opcode of Table LOG-7. -/
def hiskaOp (op : Nat) : Bool :=
  ([1, 2, 3, 4, 8, 9, 10, 11, 0x10, 0x11, 0x12, 0x13, 0x14, 0x15, 0x16, 0x18, 0x19, 0x20, 0x21, 0x22, 0x24, 0x25, 0x28, 0x30, 0x34, 0x35, 0x38, 0x39,
    0x3A, 0x40, 0x7F] : List Nat).contains op

/-- The words of a task's code from a word number to its first END (R325); none where the section ends before. -/
def State.taskCode (s : State) : Nat → Nat → Option (List Nat)
  | 0, _ => none
  | n + 1, pc =>
    let w := s.rec_ .code pc
    if fld w 31 24 = 0x7F then some [w] else (State.taskCode s n (pc + 1)).map (fun l => w :: l)

/-- The code of a task (R325). -/
def State.codeOf (s : State) (t : Nat) : Option (List Nat) :=
  let words := logicHdrCodeLen (s.rec_ .logicHdr 0) / 4
  let entry := taskCodeEntry (s.rec_ .task t) / 4
  s.taskCode (words - entry) entry

/-- A word of a task's code, its place among n words (R314, R326). -/
def State.wordBad (s : State) (t n : Nat) (w pc : Nat) : Bool :=
  let op := fld w 31 24
  let v := fld w 15 0
  !hiskaOp op ||
  ((op == 0x38 || op == 0x39 || op == 0x3A) && (fld w 18 0 == 0 || decide (n ≤ pc + fld w 18 0))) ||
  ((op == 0x01 || op == 0x02) && !s.owned t v) ||
  (op == 0x02 && (!(varSeg (s.rec_ .var v) == 2 || varSeg (s.rec_ .var v) == 4) || s.instWrites.contains v)) ||
  (op == 0x40 && !(instValid (s.rec_ .inst (fld w 12 0)) == 1 && instTask (s.rec_ .inst (fld w 12 0)) == t))

/-- A Hiska task's code. -/
def State.codeBad (s : State) (t : Nat) : Bool :=
  match s.codeOf t with
  | none => true
  | some l => (l.zipIdx).any (fun e => s.wordBad t l.length e.1 e.2)

/-- An output record (Table LOG-8). -/
def State.outRecBad (s : State) (o : Nat) : Bool :=
  let r := s.rec_ .outRec o
  let v := s.rec_ .var (outRecVar r)
  let k := outRecKind r
  let ack := s.rec_ .var (outRecAckVar r)
  !s.varIn (outRecVar r) || varSeg v != 4 || (k != 0 && varVtype v != 0) || (k != 2 && !s.outInUse (outRecOutStream r)) ||
  (k == 1 && outRecAckVar r != 0xFFFF && !(s.varIn (outRecAckVar r) && varSeg ack == 0 && varTask ack == varTask v)) ||
  (outRecSubSid r != 0xFFFF && streamValid (s.rec_ .stream (outRecSubSid r)) == 0) ||
  (k == 0 && decide ((s.outMembers (outRecOutStream r)).length ≤ outRecMember r)) ||
  (k == 2 && ((s.valids .outRec 255 512).filter (fun p => decide (p < o))).any (fun p =>
    outRecKind (s.rec_ .outRec p) == 2 && outRecDoNo (s.rec_ .outRec p) == outRecDoNo r))

/-- The logic program. -/
def State.logicRefs (s : State) : List Finding :=
  let hiska : Bool := logicHdrProgKind (s.rec_ .logicHdr 0) == 1
  let ws := s.instWrites
  s.tasks.flatMap (fun t => refFinding (s.taskBad t || (hiska && s.codeBad t)) .task t) ++
  refFinding (hiska && decide (8 < s.hiskaCells)) .logicHdr 0 ++
  (List.range (logicHdrVarCount (s.rec_ .logicHdr 0))).flatMap (fun v => refFinding (s.varBad v) .var v) ++
  (s.valids .inst 255 4096).flatMap (fun i => refFinding (s.instBad i) .inst i) ++
  refFinding (decide (ws.eraseDups.length < ws.length)) .inst 0 ++
  (s.valids .outRec 255 512).flatMap (fun o => refFinding (s.outRecBad o) .outRec o)

/-! Capture (chapter 13). -/

/-- A capture class (R337). -/
def State.capBad (s : State) (c : Nat) : Bool :=
  let r := s.rec_ .capClass c
  let chs := s.capChans c
  let src (ch : Nat) : Nat := chanSource (s.rec_ .chan ch)
  let rate := rateOf (capClassRecRate r)
  let svRates := (chs.map (fun ch => streamRateCode (s.rec_ .stream (chanSrcRef (s.rec_ .chan ch))))).eraseDups
  let divs := (chs.map (fun ch => laneLaneDiv (s.rec_ .lane (chanSrcRef (s.rec_ .chan ch) / 8)))).eraseDups
  decide (planChlistCount (s.rec_ .plan 0) < capClassListBase r + capClassNCh r) || !chs.all s.chanOk ||
  (if capClassRing r = 0 then chs.any (fun ch => src ch == 4 || src ch == 5 || src ch == 7 || s.chanRate ch % rate != 0)
   else !((chs.all (fun ch => src ch == 4) && svRates.length == 1) || (chs.all (fun ch => src ch == 5) && divs.length == 1))) ||
  (List.range 4).all (fun g => (s.copyouts g c).isEmpty)

/-- The reservation of a class at its preferred divisor (R359): a record of the full span, from tag 0 on. -/
def State.capReserve (s : State) (c : Nat) : Nat :=
  let r := s.rec_ .capClass c
  let pre := capClassPreMs r * 1000000
  let post := pre + capClassPostMs r * 1000000
  s.capLen c (capClassPrefDiv r) 0 post (post + capClassLongMs r * 1000000)

/-- A trigger source (R338). -/
def State.trigBad (s : State) (i : Nat) : Bool :=
  let r := s.rec_ .trigSrc i
  let v := s.rec_ .var (trigSrcRef r)
  (bitsOf 16 (trigSrcClassMask r)).any (fun c => capClassValid (s.rec_ .capClass c) == 0) ||
  (match trigSrcKind r with
   | 2 => !s.eventRefOk 0 (trigSrcRef r)
   | 3 | 4 => !s.eventRefOk 1 (trigSrcRef r)
   | 5 => !(s.varIn (trigSrcRef r) && varVtype v == 0 && (varSeg v == 2 || varSeg v == 4))
   | _ => false)

/-- The capture plan. -/
def State.captureRefs (s : State) : List Finding :=
  let area := planCaptureSize (s.rec_ .plan 0) * 1048576
  s.capClasses.flatMap (fun c => refFinding (s.capBad c || decide (area - s.indexBytes < s.capReserve c)) .capClass c) ++
  (s.valids .trigSrc 127 256).flatMap (fun i => refFinding (s.trigBad i) .trigSrc i)

end Sys2Proof.Machine
end

