-- ==== Sys2Proof/Machine/RefsPub.lean ====
section
/-! DEFINITION. The reference checks of failure code 0x0C for publishing, the pair and keys (R365, R381, R410, R417,
R501), and all of them together. -/

namespace Sys2Proof.Machine

/-! The largest frame (R501). -/

/-- Longest BER encoding of a value with its Quality. -/
def memberMax (mtype : Nat) : Nat := (match mtype with | 0 => 3 | 1 => 6 | _ => 7) + 5

/-- Content bytes of an unsigned INTEGER of 32 bits at its largest value. -/
def uintMax : Nat := berUint 0xFFFFFFFF

/-- Largest GOOSE APDU of a stream. -/
def State.gooseMax (s : State) (n : Nat) : Nat :=
  let r := s.rec_ .outStream n
  let ms := s.outMembers n
  let name (i : Nat) : Nat := berTlv (s.nameText (outStreamNameRef r + 4 * i) 4).length
  let all := ms.foldl (fun a m => a + memberMax (contentMType m)) 0
  berTlv (name 0 + berTlv uintMax + name 1 + name 2 + berTlv 8 + berTlv uintMax + berTlv uintMax + berTlv 1 + berTlv uintMax + berTlv 1 +
    berTlv (berUint ms.length) + berTlv all)

/-- Bytes of a value of a FIELD in a data frame by FORMAT (R367, Table PUB-5). -/
def fieldBytes (fmt field : Nat) : Nat :=
  match field with
  | 0 => if bitAt fmt 1 then 8 else 4
  | 1 => if bitAt fmt 3 then 8 else 4
  | 2 => if bitAt fmt 2 then 4 else 2
  | _ => 2

/-- Bytes of a KIND 0 data frame. -/
def State.dataLen (s : State) (n : Nat) : Nat :=
  let fmt := outStreamFormat (s.rec_ .outStream n)
  16 + (splitBlocks (s.outContent n)).foldl (fun a b => b.2.foldl (fun a e => a + fieldBytes fmt (contentField e)) (a + 2)) 0

/-- The largest frame of an output stream for a VLAN tag, FCS included (R501). -/
def State.largest (s : State) (n vid : Nat) : Nat :=
  let r := s.rec_ .outStream n
  let auth := authBytes (outStreamAuth r)
  etherLen vid (match outStreamKind r with
    | 0 => 28 + s.dataLen n
    | 1 => 28 + Config.sessionHeader 0 + s.svLen n (s.outMembers n).length + auth
    | 2 => 28 + Config.sessionHeader 1 + s.gooseMax n + auth
    | _ => 8 + s.gooseMax n + auth)

/-- Every copy that a launch may make: line port and VLAN (R376, R379): each subscriber of SEND_MODE 1, else each port. -/
def State.allCopies (s : State) (n : Nat) : List (Nat × Nat) :=
  let r := s.rec_ .outStream n
  if outStreamSendMode r = 1 then (s.subscribers n).map (fun p => (peerLinePort (s.rec_ .peer p), peerVlanId (s.rec_ .peer p)))
  else (maskPorts (outStreamPortMask r)).map (fun p => (p, outStreamVlanId r))

/-! Output streams (R365). -/

/-- A value entry's channel is of a SOURCE that its FIELD takes. -/
def State.fieldTakes (s : State) (e : Nat) : Bool :=
  let c := contentCh e
  let src := chanSource (s.rec_ .chan c)
  s.chanOk c &&
  (match contentField e with
   | 0 => src == 0 || src == 6
   | 1 => src == 3 || src == 6
   | 2 => src == 1 || src == 7
   | 3 => src == 2
   | _ => src == 1 || src == 2 || src == 7)

/-- A block's value entries in the order of R114, by FIELD: phasors, one frequency pair, analogs, digital words. -/
def fieldOrder (es : List Nat) : Bool := blockOrder (es.map (fun e => ([0, 3, 1, 2] : List Nat).getD (contentField e) 9)) 0

/-- What fills a member with CH 0xFFFF: output records of KIND 0 and alarm-map entries. -/
def State.fillers (s : State) (n m : Nat) : Nat :=
  ((s.valids .outRec 255 512).filter (fun o =>
    let r := s.rec_ .outRec o
    outRecKind r == 0 && outRecOutStream r == n && outRecMember r == m)).length +
  ((List.range (pubHdrAmapCount (s.rec_ .pubHdr 0))).filter (fun i =>
    let r := s.rec_ .amap i
    amapOutStream r == n && amapMember r == m)).length

/-- The LAUNCH entries of a stream. -/
def State.launchPosts (s : State) (n : Nat) : List Nat :=
  (s.posts.filter (fun e => postOp e.2 == 2 && postTemplate e.2 == n)).map (fun e => e.1)

/-- A number's gaps to its followers in a list are all one number. -/
def evenly (step : Nat) : List Nat → Bool
  | a :: b :: l => a + step == b && evenly step (b :: l)
  | _ => true

/-- The launches of a periodic stream: one region, one entry every 2,400 ÷ rate beats, as many as the rate. -/
def State.launchBad (s : State) (n : Nat) : Bool :=
  let is := s.launchPosts n
  match is with
  | [] => true
  | i :: _ =>
    let r := postRegion i
    let p := beatHdrPeriod (s.rec_ .beatHdr r)
    let rows := (List.range 2400).flatMap (fun b => (is.filter (fun j => postRow j == b % p)).map (fun _ => b))
    is.any (fun j => postRegion j != r) || rows.length != s.outRate n || !evenly (2400 / s.outRate n) rows

/-- The name-table units that a stream's names take. -/
def State.namesOk (s : State) (n : Nat) : Bool :=
  let r := s.rec_ .outStream n
  let units := pubHdrNameUnits (s.rec_ .pubHdr 0)
  if outStreamKind r = 0 then
    decide (outStreamNameRef r < units) && (s.outContent n).all (fun e => decide (contentName e + (if contentBlockStart e = 0 ∧ contentField e = 3 then 16 else 1) ≤ units))
  else decide (outStreamNameRef r + (if outStreamKind r = 1 then 4 else 12) ≤ units)

/-- An output stream in use (R365). The first case of R169 cannot arise: a part is closed in the home region of its channel,
which the channel's stream always reaches (R17, R70). -/
def State.outBad (s : State) (n : Nat) : Bool :=
  let r := s.rec_ .outStream n
  let es := s.outContent n
  let k := outStreamKind r
  let alarm : Bool := outStreamAlarm r == 1
  let vals := es.filter (fun e => contentBlockStart e == 0)
  decide (pubHdrContentCount (s.rec_ .pubHdr 0) < outStreamContentBase r + outStreamContentCount r) || !s.namesOk n ||
  (if k = 0 then (match es with | e :: _ => contentBlockStart e == 0 | [] => true) || !(splitBlocks es).all (fun b => fieldOrder b.2)
   else es.any (fun e => contentBlockStart e == 1 || contentField e != 4)) ||
  es.any (fun e => contentBlockStart e == 1 && contentCh e != 0xFFFF && streamValid (s.rec_ .stream (contentCh e)) == 0) ||
  vals.any (fun e => (k == 0 || contentCh e != 0xFFFF) && !s.fieldTakes e) ||
  (vals.zipIdx).any (fun e => k != 0 && contentCh e.1 == 0xFFFF && s.fillers n e.2 != 1) ||
  (alarm && vals.any (fun e => contentCh e != 0xFFFF)) ||
  (if alarm then !(s.launchPosts n).isEmpty else s.launchBad n) ||
  (outStreamSendMode r == 1 && decide (8 < (s.subscribers n).length)) ||
  (s.allCopies n).any (fun c => decide (maxFrame (s.rec_ .port c.1) (b2n (c.2 != 0)) < s.largest n c.2) || s.carve c.1 (outStreamQueue r) == 0) ||
  (alarm != (outStreamQueue r == 7))

/-- The publishing section. -/
def State.publishRefs (s : State) : List Finding :=
  let h := s.rec_ .pubHdr 0
  s.outs.flatMap (fun n => refFinding (s.outBad n) .outStream n) ++
  (List.range (pubHdrAmapCount h)).flatMap (fun i =>
    let r := s.rec_ .amap i
    refFinding (!s.outInUse (amapOutStream r) || outStreamAlarm (s.rec_ .outStream (amapOutStream r)) == 0 ||
      decide ((s.outMembers (amapOutStream r)).length ≤ amapMember r) || !s.eventRefOk (amapFamily r) (amapRef r)) .amap i) ++
  refFinding (decide (16 * pubHdrNameUnits h < pubHdrHdrOffset h + pubHdrHdrLen h)) .pubHdr 0

/-! Pair and keys. -/

/-- A paired image (R381): bit 0 of SFLAGS is MIRROR_FILL, bit 1 DUP_EXPECTED, bit 2 PARTNER_WATCH. -/
def State.pairRefs (s : State) : List Finding :=
  if !s.paired then []
  else
    let vs := s.valids .stream 511 8192
    refFinding (portEnable (s.rec_ .port 4) == 0) .port 4 ++
    refFinding (!vs.any (fun i => bitAt (streamSflags (s.rec_ .stream i)) 2)) .stream 0 ++
    vs.flatMap (fun i => let f := streamSflags (s.rec_ .stream i); refFinding (bitAt f 0 && !bitAt f 1) .stream i)

/-- Keys (R410, R417). -/
def State.keyRefs (s : State) : List Finding :=
  let es := (List.range (keysHdrKeyCount (s.rec_ .keysHdr 0))).map (fun i => keyEntSlot (s.rec_ .keyEnt i))
  let bad (auth slot : Nat) : Bool := auth != 0 && (decide (slot < 16) || !es.contains slot)
  (es.zipIdx).flatMap (fun e => refFinding ((es.take e.2).contains e.1) .keyEnt e.2) ++
  (s.valids .stream 511 8192).flatMap (fun i => let r := s.rec_ .stream i; refFinding (bad (streamAuth r) (streamKeySlot r)) .stream i) ++
  s.outs.flatMap (fun n => let r := s.rec_ .outStream n; refFinding (bad (outStreamAuth r) (outStreamKeySlot r)) .outStream n)

/-- Every reference check. -/
def State.refFindings (s : State) : List Finding :=
  s.portRefs ++ s.timeRefs ++ s.streamRefs ++ s.chanRefs ++ s.topologyRefs ++ s.alignRefs ++ s.oscRefs ++ s.dispatchRefs ++ s.islRefs ++
  s.logicRefs ++ s.captureRefs ++ s.publishRefs ++ s.pairRefs ++ s.keyRefs

end Sys2Proof.Machine
end

