-- ==== Sys2Proof/Machine/Schedule.lean ====
section
/-! DEFINITION. The memory, budget and schedule checks of failure codes 0x0E, 0x0F and 0x10 (R188, R290, R295-R297, R321,
R335, R379). -/

namespace Sys2Proof.Machine

/-- The CAPTURE memory plan against the DRAM found (code 0x0E). -/
def State.memoryFindings (s : State) : List Finding :=
  finding ((planAreas (s.rec_ .plan 0)).any (fun a => decide ((s.ext.dram0 + s.ext.dram1) * 1024 < a.1 + a.2))) 0x0E 11 0

/-! Budget sums (Table SCH-8 step 1). -/

/-- Sum of costs. -/
def costSum (cs : List Cost) : Cost := cs.foldl Cost.plus Cost.zero

/-- A cost within another in every resource. -/
def costWithin (a b : Cost) : Bool := decide (a.cycles ≤ b.cycles) && decide (a.dram ≤ b.dram) && decide (a.flits ≤ b.flits) && decide (a.egress ≤ b.egress)

/-- A cost n times. -/
def costTimes (n : Nat) (a : Cost) : Cost := { cycles := n * a.cycles, dram := n * a.dram, flits := n * a.flits, egress := n * a.egress }

/-- Per region (Table SCH-7); egress is bounded for the chip alone. -/
def regionCap : Cost := { cycles := 7680000, dram := 12000000, flits := 800000, egress := 1562500 }

/-- Sums over the budgets up to each entry: its region's against the region's capacity, all against the chip's (code 0x0F). -/
def State.sumFindings (s : State) : List Finding :=
  let bs := s.budgets
  (bs.zipIdx).flatMap (fun e =>
    let upTo := bs.take (e.2 + 1)
    let reg := costSum ((upTo.filter (fun b => budgetRegion b == budgetRegion e.1)).map budgetCost)
    let all := costSum (upTo.map budgetCost)
    finding (!costWithin reg regionCap || decide (24000000 < all.dram) || decide (1562500 < all.egress)) 0x0F 8 e.2)

/-! Demand of the posts (R296). -/

/-- A finding of code 0x10 for a region and row (R295). -/
def schedFinding (bad : Bool) (r row : Nat) : List Finding := finding bad 0x10 7 (r * 4096 + row)

/-- Period of a region's table. -/
def State.period (s : State) (r : Nat) : Nat := beatHdrPeriod (s.rec_ .beatHdr r)

/-- A post entry acts in a row: a DELAY entry in the two rows that its due tick may fall in. -/
def actsIn (period row : Nat) (p : Nat × Nat) : Nat :=
  if postOp p.2 = 1 then
    let j := postArg p.2 * 2400 / 1000000
    b2n ((postRow p.1 + j) % period == row) + b2n ((postRow p.1 + j + 1) % period == row)
  else b2n (postRow p.1 == row)

/-- The cost of a post entry by Table SCH-2. -/
def State.postCost (s : State) (r : Nat) : Cost :=
  match postOp r with
  | 0 | 1 => tmplCost (s.tmpl (postTemplate r))
  | 2 => let x := s.rec_ .outStream (postTemplate r)
    { cycles := 0, dram := 0, flits := outStreamLaunchFlits x, egress := outStreamLaunchBytes x }
  | 3 => dramCost (2 * postArg r)
  | _ => dramCost (4224 * postArg r)

/-- The class that an entry's costs are charged to: PUBLISH for LAUNCH (R379). -/
def postCls (r : Nat) : Nat := if postOp r = 2 then 3 else postClass r

/-- Row demand of a class. -/
def State.rowDemand (s : State) (r row c : Nat) : Cost :=
  costSum (((s.posts.filter (fun p => postRegion p.1 == r && postCls p.2 == c))).map (fun p => costTimes (actsIn (s.period r) row p) (s.postCost p.2)))

/-- The templates that events post in a region: class, template, times in every row. -/
def State.eventPosts (s : State) (r : Nat) : List (Nat × Nat × Nat) :=
  let lead := sliceRowLead (s.rec_ .slice r)
  (s.regionGroups r).map (fun g =>
    let x := s.rec_ .group g
    (groupQClass x, groupQTemplate x, ceilDiv ((lead + groupQWait x) * rateOf (groupSetRate x)) 1000000 + 1)) ++
  (s.tasks.filter (fun t => taskBind (s.rec_ .task t) == 1 && taskRegion (s.rec_ .task t) == r)).map (fun t =>
    (taskDClass (s.rec_ .task t), taskTemplate (s.rec_ .task t), 1))

/-- Frames per second of a stream: sampled values come one frame per beat. -/
def State.frameRate (s : State) (i : Nat) : Nat :=
  let r := s.rec_ .stream i
  if streamKind r ≤ 1 then rateOf (streamRateCode r) else 2400

/-- PAYLOAD_LEN of a stream (Table INT-9). -/
def State.payloadLen (s : State) (i : Nat) : Nat :=
  let r := s.rec_ .stream i
  if streamKind r ≤ 1 then s.layoutSize i - 16 else 8 * s.svChannels i * (if streamRateCode r = 0x10 then 2 else 6)

/-- The valid streams that reach a region (R17). -/
def State.reaching (s : State) (r : Nat) : List Nat := (s.valids .stream 511 8192).filter (fun i => (s.deliverTo i).contains r)

/-- The SOURCE 6 channels of a region. -/
def State.estimatesOf (s : State) (r : Nat) : List Nat :=
  (s.valids .chan 255 65536).filter (fun c => chanSource (s.rec_ .chan c) == 6 && s.chanRegion c == r)

/-- Sum of a number over a list. -/
def sumOf {α : Type} (l : List α) (f : α → Nat) : Nat := l.foldl (fun a x => a + f x) 0

/-- Times that a source at a rate comes in one beat at most. -/
def perBeat (f : Nat) : Nat := ceilDiv f 2400 + 1

/-- What alignment and history take in every row. -/
def State.alignDemand (s : State) (r c : Nat) : Cost :=
  match c with
  | 0 => { cycles := 0, dram := 2112 * perBeat (s.rowRate r), egress := 0
           flits := sumOf (s.reaching r) (fun i => ceilDiv (32 + s.payloadLen i) 32 * perBeat (s.frameRate i)) }
  | 4 => dramCost (sumOf ((s.valids .stream 511 8192).filter (fun i => streamHomeRegion (s.rec_ .stream i) == r)) (fun i =>
      (48 + pad16 (s.payloadLen i)) * perBeat (s.frameRate i)) + sumOf (s.estimatesOf r) (fun c => 64 * perBeat (s.chanRate c)))
  | _ => Cost.zero

/-- Egress bytes of the ALARM streams' frames, in ALARM and, once more, in PUBLISH (R379). -/
def State.alarmDemand (s : State) (c : Nat) : Cost :=
  if c = 1 ∨ c = 3 then
    { cycles := 0, dram := 0, flits := 0
      egress := sumOf (s.outs.filter (fun n => outStreamAlarm (s.rec_ .outStream n) == 1)) (fun n =>
        sumOf (s.allCopies n) (fun x => s.largest n x.2 + 20)) }
  else Cost.zero

/-- Event demand of a class in every row. -/
def State.eventDemand (s : State) (r c : Nat) : Cost :=
  ((costSum (((s.eventPosts r).filter (fun e => e.1 == c)).map (fun e => costTimes e.2.2 (tmplCost (s.tmpl e.2.1))))).plus
    (s.alignDemand r c)).plus (s.alarmDemand c)

/-- The templates that a class posts in a region, and their row where a row posts them. -/
def State.postedBy (s : State) (r : Nat) : List (Nat × Nat × Nat) :=
  ((s.posts.filter (fun p => postRegion p.1 == r && decide (postOp p.2 ≤ 1))).map (fun p => (postClass p.2, postTemplate p.2, postRow p.1))) ++
  (s.eventPosts r).map (fun e => (e.1, e.2.1, 0))

/-! The proof, region by region (Table SCH-8 steps 2 to 6). -/

/-- Step 3 of one row and class; TRACE is not counted. -/
def State.rowBad (s : State) (r row c : Nat) (events : Cost) : Bool :=
  c != 10 && !costWithin ((s.rowDemand r row c).plus events) (budgetCost (s.budgetRec r c))

/-- Cells of a region that are reserved to a value of the map. -/
def State.cellsWith (s : State) (r v : Nat) : Nat := ((cellsOf r).filter (fun c => s.rec_ .cellMap c == v)).length

/-- A template is RESERVED_ONLY. -/
def State.reservedOnly (s : State) (t : Nat) : Bool := templateReservedOnly (s.tmpl t) == 1

/-- Step 5: cycles per row of a class's RESERVED_ONLY templates. -/
def State.reservedDemand (s : State) (r row c : Nat) : Int :=
  (costSum (((s.posts.filter (fun p => postRegion p.1 == r && decide (postOp p.2 ≤ 1) && postClass p.2 == c && s.reservedOnly (postTemplate p.2)))).map
    (fun p => costTimes (actsIn (s.period r) row p) (s.postCost p.2)))).cycles +
  (costSum (((s.eventPosts r).filter (fun e => e.1 == c && s.reservedOnly e.2.1)).map (fun e => costTimes e.2.2 (tmplCost (s.tmpl e.2.1))))).cycles

/-- Step 6: W + ⌈A ÷ m⌉ + C above 476,000. -/
def State.alarmLate (s : State) (r : Nat) : Bool :=
  let a := ((List.range (s.period r)).map (fun i => ((s.rowDemand r i 1).plus (s.eventDemand r 1)).cycles.toNat)).foldl max 0
  let m := s.cellsWith r 0xFF + s.cellsWith r 1 - budgetCycles (s.budgetRec r 255) / 480000
  let posted := s.postedBy r
  let c := ((posted.filter (fun e => e.1 == 1)).map (fun e => templateCostCycles (s.tmpl e.2.1))).foldl max 0
  let w := if s.cellsWith r 0xFF = 0 then 0
    else ((posted.filter (fun e => e.1 != 1 && !s.reservedOnly e.2.1 && s.tmplKernel e.2.1 != kIsl)).map (fun e =>
      budgetItemLimit (s.budgetRec r e.1))).foldl max 0
  if m = 0 then a != 0 else decide (476000 < w + ceilDiv a m + c)

/-- The slot memory of a region (R188): pages of 256 bytes. -/
def State.poolPages (s : State) (r : Nat) : Nat :=
  let x := s.rec_ .slice r
  let n (f : Nat) : Nat := ceilDiv ((sliceRowLead x + sliceRetireWait x) * f) 1000000 + 1
  sumOf (s.reaching r) (fun i => ceilDiv (48 + s.payloadLen i) 256 * n (s.frameRate i)) + ceilDiv (sumOf (s.estimatesOf r) (fun c => n (s.chanRate c))) 4

/-- Every step for one region. -/
def State.regionFindings (s : State) (r : Nat) : List Finding :=
  let rows := List.range (s.period r)
  (s.postedBy r).flatMap (fun e => schedFinding (decide (budgetItemLimit (s.budgetRec r e.1) < templateCostCycles (s.tmpl e.2.1))) r e.2.2) ++
  (List.range 32).flatMap (fun c =>
    let ev := s.eventDemand r c
    rows.flatMap (fun i => schedFinding (s.rowBad r i c ev) r i ++
      schedFinding (decide ((480000 * s.cellsWith r c : Nat) < s.reservedDemand r i c)) r i)) ++
  schedFinding (decide (sumOf (s.posts.filter (fun p => postRegion p.1 == r && postOp p.2 == 4)) (fun p => postArg p.2) * (2400 / s.period r) < s.rowRate r)) r 0 ++
  schedFinding (s.alarmLate r) r 0 ++ schedFinding (decide (30720 < s.poolPages r)) r 0

/-! Scan times (R321) and launches (R379). -/

/-- Engine cycles of a function-block scan of a task. -/
def State.engineTime (s : State) (t : Nat) : Nat :=
  320 + 4 * ((s.varsOf t 0).length + (s.varsOf t 1).length) +
    12 * ((s.valids .outRec 255 512).filter (fun o => varTask (s.rec_ .var (outRecVar (s.rec_ .outRec o))) == t)).length +
    sumOf (s.taskInsts t) (fun i => fbCycles (instFbType (s.rec_ .inst i)))

/-- Cycles of a Hiska instruction (Table LOG-7). -/
def State.hiskaCycles (s : State) (w : Nat) : Nat :=
  match fld w 31 24 with
  | 0x01 | 0x02 => 24
  | 0x10 | 0x11 | 0x12 | 0x14 | 0x15 | 0x16 | 0x20 | 0x21 | 0x22 | 0x24 | 0x25 => 12
  | 0x13 => 30
  | 0x28 => 20
  | 0x30 | 0x39 | 0x3A => 10
  | 0x40 => 40 + 4 * fbCycles (instFbType (s.rec_ .inst (fld w 12 0)))
  | _ => 8

/-- Cycles of the longest path from each word of a task's code, built from its end; jumps go forward. -/
def State.paths (s : State) (code : List Nat) : List Nat :=
  code.foldr (fun w (cs : List Nat) =>
    let next := cs.getD 0 0
    let jump := cs.getD (fld w 18 0 - 1) 0
    (s.hiskaCycles w + (match fld w 31 24 with
      | 0x7F => 0
      | 0x38 => jump
      | 0x39 | 0x3A => max next jump
      | _ => next)) :: cs) []

/-- Cycles that a task's scan takes at most. -/
def State.scanCycles (s : State) (t : Nat) : Nat :=
  if logicHdrProgKind (s.rec_ .logicHdr 0) = 1 then
    (match s.codeOf t with | some l => (s.paths l).getD 0 0 | none => 0)
  else s.engineTime t

/-- COST_CYCLES of the scans' templates, and LAUNCH_BYTES. -/
def State.costFindings (s : State) : List Finding :=
  s.tasks.flatMap (fun t =>
    let r := s.rec_ .task t
    schedFinding (decide (templateCostCycles (s.tmpl (taskTemplate r)) < s.scanCycles t + 2000)) (taskRegion r) 0) ++
  s.outs.flatMap (fun n =>
    let i := (s.launchPosts n).getD 0 0
    schedFinding (outStreamAlarm (s.rec_ .outStream n) == 0 &&
      decide (outStreamLaunchBytes (s.rec_ .outStream n) < sumOf (s.allCopies n) (fun x => s.largest n x.2 + 20))) (postRegion i) (postRow i))

/-- The repeated schedulability proof (code 0x10). -/
def State.schedFindings (s : State) : List Finding := (List.range 4).flatMap s.regionFindings ++ s.costFindings

end Sys2Proof.Machine
end

