-- ==== Sys2Proof/Machine/Load.lean ====
section
/-! DEFINITION. LOADING (R49, R79, R80, R82, Sequence MOD-1): the choice of a slot, the load checks in the order of their
codes, and the installation of an image that passes them. -/

namespace Sys2Proof.Machine

/-! The verdict over a slot (R82, Table IMG-10). -/

/-- One finding comes before another: by code, then section type, then record index. -/
def findingLess (a b : Finding) : Bool :=
  decide (a.1 < b.1) || (a.1 == b.1 && (decide (a.2.1 < b.2.1) || (a.2.1 == b.2.1 && decide (a.2.2 < b.2.2))))

/-- The first finding of a list in that order. -/
def firstFinding : List Finding → Option Finding
  | [] => none
  | f :: fs => match firstFinding fs with | none => some f | some g => some (if findingLess g f then g else f)

/-- The firmware header (R500) and the section's internal check. -/
def State.firmwareOk (s : State) (k : Nat) : Bool :=
  let fw := s.rec_ .fwHdr 0
  fwHdrMagic fw == 0x4657 && ((List.range 7).map (fun n => (kvEntry fw n).1)) == kernelIds &&
  Config.firmwareCheck (s.sectionBytes k 14)

/-- The entries of KEYS, in order. -/
def State.keyEntries (s : State) : List Nat := (List.range (keysHdrKeyCount (s.rec_ .keysHdr 0))).map (fun i => s.rec_ .keyEnt i)

/-- The checks of codes 0x0B to 0x11 on the state that holds the slot's image. -/
def State.imageFindings (s : State) (k : Nat) : List Finding :=
  let t := { s with img := s.parseImage k }
  s.lengthFindings k ++ t.recordFindings ++ t.directoryFindings ++ t.budgetFindings ++ t.refFindings ++
  (match keysBad (s.contentKey k) t.keyEntries with | some i => finding true 0x0D 13 i | none => []) ++
  t.memoryFindings ++ t.sumFindings ++ t.schedFindings ++ finding (!t.firmwareOk k) 0x11 14 0

/-- The check that fails on a slot, with its detail word; none when every check passes. -/
def State.loadCode (s : State) (k : Nat) (v : LoadVerdict) : Option (Nat × Nat) :=
  if !v.flashOk then some (0x12, 0)
  else if !s.signatureOk k then some (0x08, 0)
  else if headerEpoch (s.slotHeader k) < s.otp.epoch then some (0x09, 0)
  else match s.unwrapBad k with
  | some t => some (0x0A, t * 2 ^ 24)
  | none => (firstFinding (s.imageFindings k)).map (fun f => (f.1, f.2.1 * 2 ^ 24 + f.2.2))

/-! The choice (R79, R80). -/

/-- The boot responder answers EMP, and no line port is served (R50). -/
def State.stopFirmware (s : State) : State :=
  { s with boot := { s.boot with mgmtUp := false }
           ports := s.ports.zipIdx.map (fun (e : PortSt × Nat) => if e.2 < 5 then { e.1 with on := false } else e.1) }

/-- T4: no image loads. -/
def State.noImage (s : State) : State :=
  let s := (s.transit 4 .unconfigured 6 .mode).stopFirmware
  { s with boot := { s.boot with trying := false, second := false }, vault := { s.vault with content := none } }

/-- Take a candidate: a TRIAL slot appends ATTEMPT, or REJECTED after three attempts. True when the slot is tried. -/
def State.trySlot (s : State) (k : Nat) : Bool × State :=
  if s.slotState k = stTrial ∧ 3 ≤ s.attempts k then (false, (s.appendStatus k stRejected 0x13 0).loadResult k 0x13 0)
  else
    let s := if s.slotState k = stTrial then s.appendStatus k stAttempt 0 0 else s
    (true, { s with boot := { s.boot with trying := true, slot := k }, vault := { s.vault with content := s.contentKey k } })

/-- The slots in TRIAL whose header fails its checks: no candidates, and REJECTED (R79, R80). -/
def State.failedTrials (s : State) : List Nat := [0, 1].filter (fun k => s.slotState k == stTrial && (s.slotCode k).isSome)

/-- A slot whose header fails a check has its code recorded (R82). -/
def State.recordHeader (s : State) (k : Nat) : State :=
  match s.slotCode k with
  | some c => s.loadResult k c.1 c.2
  | none => s

/-- A slot that fails a check while in TRIAL is marked REJECTED with its code (R80), the checks of its header among them. -/
def State.rejectTrial (s : State) (k : Nat) : State :=
  match s.slotCode k with
  | some c => (s.appendStatus k stRejected c.1 c.2).loadResult k c.1 c.2
  | none => s

/-- No candidate is left: a slot whose header fails, other than those already recorded, has its code recorded, then T4. -/
def State.noCandidate (s : State) (done : List Nat) : State :=
  (forAll ([0, 1].filter (fun k => !done.contains k)) s State.recordHeader).noImage

/-- Choose the first slot to try (R79): slots in TRIAL whose header fails are rejected first. -/
def State.chooseSlot (s : State) : State :=
  let done := s.failedTrials
  let s := forAll done s State.rejectTrial
  match s.slotChoice with
  | none => s.noCandidate done
  | some k =>
    match s.trySlot k with
    | (true, s) => s
    | (false, s) =>
      match s.slotChoice with
      | none => s.noCandidate done
      | some k => match s.trySlot k with | (true, s) => s | (false, s) => s.noCandidate done

/-- A DRAM channel that failed training (R488). -/
def State.checkDram (s : State) : State :=
  let bad := (if s.ext.dram0 = 0 then [0] else []) ++ (if s.ext.dram1 = 0 then [1] else [])
  forAll bad s (fun s _ => s.post 6 .unit 0x00010001 0)

/-- What precedes the load checks: the OTP root (R408; code 0x14 in both load-result objects when neither field is
complete), DRAM training, the reads of both slots' headers and status records (code 0x12 where the flash does not answer), and
the choice. -/
def State.beginLoad (s : State) (v : LoadVerdict) : State :=
  if s.boot.trying then s
  else
    let s := s.burnRoot
    match s.otpRoot with
    | none => ((s.loadResult 0 0x14 0).loadResult 1 0x14 0).noImage
    | some _ =>
      if v.headersOk then s.checkDram.chooseSlot else ((s.checkDram.loadResult 0 0x12 0).loadResult 1 0x12 0).noImage

/-- The tried slot fails (R80, R82): recorded, REJECTED while it is in TRIAL, and the other slot is tried once. -/
def State.slotFails (s : State) (code detail : Nat) : State :=
  let k := s.boot.slot
  let s := if s.slotState k = stTrial then s.appendStatus k stRejected code detail else s
  let s := s.loadResult k code detail
  if !s.boot.second && s.candidate (1 - k) then
    match s.trySlot (1 - k) with
    | (true, s) => { s.stopFirmware with boot := { s.stopFirmware.boot with second := true } }
    | (false, s) => s.noImage
  else s.noImage

/-! Installation (Sequence MOD-1, R418). -/

/-- A KEYS entry with a key goes into its slot while that is EMPTY, as a committed H0 (R418). -/
def State.installKey (s : State) (content : Option (BitVec 256)) (e : Nat) : State :=
  let k := keyEntSlot e
  match content.bind (fun c => entryKey c e) with
  | none => s
  | some key =>
  if keyEntHasKey e = 1 ∧ (s.vslot k).half.isNone then
    s.ensureRoot.putSlot k
      { h0 := some { key := key, keyId := BitVec.ofNat 32 (keyEntKeyId e), kcv := BitVec.ofNat 24 (keyEntKcv e)
                     gen := BitVec.ofNat 16 (keyEntGen e), engines := BitVec.ofNat 5 (keyEntEngines e), life := keyEntLife e
                     uses := keyEntUses e, fresh := true }
        h1 := none, commit := false, pending := false }
  else s

/-- Every KEYS entry, unless TAMPERED is set (R430). -/
def State.installKeys (s : State) (content : Option (BitVec 256)) : State :=
  if s.vault.tampered || s.boot.toTamperhold then s else forAll s.keyEntries s (fun s e => s.installKey content e)

/-- MAP_HASH of a slot's image (R389): the first 8 bytes of SHA-384 over STREAMS, CHANNELS and PUBLISH in plaintext. -/
def State.mapHashOf (s : State) (k : Nat) : BitVec 64 :=
  ((Config.sha384 (s.sectionBytes k 4 ++ s.sectionBytes k 5 ++ s.sectionBytes k 12)) >>> 320).setWidth 64

/-- Ports, cages and streams at the end of LOADING (R50, R101, R104, R126). -/
def State.installPorts (s : State) : State :=
  let s := { s with
    ports := s.ports.map (fun (p : PortSt) => { p with on := true })
    cages := s.cages.zipIdx.map (fun (e : CageSt × Nat) => { e.1 with txOn := e.1.present && e.1.initDone && e.1.supports && s.portEnabled e.2 }) }
  forAll (s.valids .stream 511 8192) s (fun s i =>
    let s := s.streamEnter i .waiting
    if streamKind (s.rec_ .stream i) = 1 then s.modConn i (fun c => { c with reopenAt := some s.lts }) else s)

/-- The time bases that a source is configured for start acquiring (R142). -/
def State.installTime (s : State) : State :=
  forAll (List.range 4) s (fun s b =>
    { s with time := { s.time with bases := modAt s.time.bases b (fun (x : BaseSt) => { x with st := if s.tbSrc b = 0 then .off else .acquiring }) } })

/-- Output streams (R371, R376). -/
def State.installPub (s : State) : State :=
  forAll s.outs s (fun s n =>
    let r := s.rec_ .outStream n
    s.modPub n (fun p => { p with on := outStreamSendMode r == 0 && outStreamInitOn r == 1, members := s.initialMembers n }))

/-- Cells and islanding (R259, R284). -/
def State.installCells (s : State) : State :=
  let b := islHdrIslBlock (s.rec_ .islHdr 0)
  let cell := ((List.range 4).map (fun i => 4 * b + i)).find? (fun c => s.rec_ .cellMap c == 0x80)
  { s with
    sch := { s.sch with cells := s.sch.cells.zipIdx.map (fun (e : CellSt × Nat) => { e.1 with resv := s.rec_ .cellMap e.2 }) }
    isl := if s.islConfigured then { s.isl with block := some b, cell := (match cell with | some c => c | none => 4 * b) } else s.isl }

/-- Both slot tables are built (R302). -/
def State.installSlots (s : State) : State :=
  let d := slotTable 256 (s.slotWeights budgetDramBytes)
  { s with sch := { s.sch with dramSlots := [d, d], nocSlots := slotTable 1024 (s.slotWeights budgetFlits) } }

/-- An image that passes is installed; beats start at the next beat boundary of DT with T3, or in TAMPERHOLD (R41, R44). -/
def State.install (s : State) : State :=
  let k := s.boot.slot
  let content := s.contentKey k
  let s := { s with img := s.parseImage k
                    boot := { s.boot with running := true, trying := false, second := false, mgmtUp := true, evs := []
                                          toTamperhold := s.boot.toTamperhold || s.vault.tampered, mapHash := s.mapHashOf k }
                    vault := { s.vault with content := none }
                    -- the boundary of the present beat has passed: the next one is the first of the beats
                    sch := { s.sch with beat := some ((beatOf s.dt).2, (beatOf s.dt).1 + beatStart (beatOf s.dt).2) } }
  ((s.installKeys content).installPorts.installTime.installPub.installCells.installSlots).setRole (if s.paired then .undecided else .unpaired)

/-! The commands. -/

/-- Load checks run: LOADING, with the main domain out of reset and no image installed yet. -/
def State.loads (s : State) : Bool := s.boot.mode == .loading && s.boot.island && s.boot.rails && !s.boot.running

/-- LOADING_COMPLETE (R49): every check of the tried slot passes, and its image is installed. -/
def execLoadingComplete (v : LoadVerdict) (s : State) : Host.Outcome State Fault Refusal :=
  .next (if !s.loads then s
    else
      let t := s.beginLoad v
      if !t.boot.trying then t
      else match t.loadCode t.boot.slot v with
        | none => t.install
        | some _ => s)

/-- The firmware takes EMP over and enables every port (R50, Sequence MOD-1). -/
def State.startFirmware (s : State) : State :=
  { s with boot := { s.boot with mgmtUp := true }, ports := s.ports.map (fun (p : PortSt) => { p with on := true }) }

/-- MANAGEMENT_FIRMWARE_START (R2, R50): in LOADING the firmware of the tried slot's MGMTFW section starts once the slot has
passed its checks, signature among them, at reads that the flash answers; of a running image it starts again from its copy after a lockstep mismatch
(Table ARC-3). -/
def execManagementFirmwareStart (s : State) : Host.Outcome State Fault Refusal :=
  .next (if s.boot.mgmtUp || !s.boot.island || !s.boot.rails then s
    else if s.boot.running then s.startFirmware
    else if !s.loads then s
    else
      let t := s.beginLoad .answered
      if !t.boot.trying then t
      else match t.loadCode t.boot.slot .answered with
        | none => t.startFirmware
        | some _ => s)

/-- LOAD_CHECK_FAIL (R82): a check of the tried slot fails; its code is recorded, and the other slot is tried, or T4
follows. -/
def execLoadCheckFail (v : LoadVerdict) (s : State) : Host.Outcome State Fault Refusal :=
  .next (if !s.loads then s
    else
      let t := s.beginLoad v
      if !t.boot.trying then t
      else match t.loadCode t.boot.slot v with
        | some c => t.slotFails c.1 c.2
        | none => s)

end Sys2Proof.Machine
end

