-- ==== Sys2Proof/Machine/Objects.lean ====
section
/-! DEFINITION. The EMP objects (R446, R447, Tables EMP-8, EMP-13, EMP-14): what each object holds, as parts that are plain
bytes or counters, and how a part reads and is cleared. -/

namespace Sys2Proof.Machine

/-- A part of an object. -/
inductive Part where
  /-- State and value fields, and records with a map of their own. -/
  | raw (b : Bytes)
  /-- A counter, one word. -/
  | ctr (k : CtrKey)
  /-- The high-water marks of a region's slice (Table ALN-9). -/
  | pages (r : Nat)
  | rows (r : Nat)
  /-- The attention-lost counter of the own log, or of the partner's. -/
  | lost (partner : Bool)
  deriving DecidableEq, Repr

/-- A 32-bit word, right-aligned (R447). -/
def wd (n : Nat) : Part := .raw (natBe 4 n)

/-- A DT value or a stamp in Table TIM-1, 8 bytes. -/
def dd (t : Ns) : Part := .raw (natBe 8 (tim1 t))

/-- A counter for each of n units. -/
def perUnit (n : Nat) (f : Nat → CtrKey) : List Part := (List.range n).map (fun u => .ctr (f u))

/-- Several counters of one unit. -/
def ctrs1 (u : Nat) (cs : List Ctr) : List Part := cs.map (fun c => .ctr (ck1 c u))

/-- Bytes of a part. -/
def Part.len : Part → Nat
  | .raw b => b.length
  | _ => 4

/-- The value of a counter as a read returns it: as it stood at the last beat boundary while beats run (R13, R446). -/
def State.ctrRead (s : State) (k : CtrKey) : Nat := if s.beatsRun then agetD s.ctrsAt k 0 else s.ctr k

/-- A part as bytes. -/
def Part.bytes (s : State) : Part → Bytes
  | .raw b => b
  | .ctr k => natBe 4 (s.ctrRead k)
  | .pages r => natBe 4 (s.slice r).peakPages
  | .rows r => natBe 4 (s.slice r).peakRows
  | .lost p =>
    let a := if p then s.partnerLog else s.attn
    natBe 4 (if s.beatsRun then a.lostAt else a.lost)

/-- Clear a counter part that a READ with CLEAR returned: what the present beat has counted stays (R13); where no beat runs,
nothing does. -/
def State.clearPart (s : State) : Part → State
  | .raw _ => s
  | .ctr k => if s.beatsRun then s.clearCtr k else { s with ctrs := adel s.ctrs k, ctrsAt := adel s.ctrsAt k }
  | .pages r => s.modSlice r (fun x => { x with peakPages := 0 })
  | .rows r => s.modSlice r (fun x => { x with peakRows := 0 })
  | .lost p =>
    let clear (a : AttnLog) : AttnLog := if s.beatsRun then a.clearLost else { a with lost := 0, lostAt := 0, lostNow := 0 }
    if p then { s with partnerLog := clear s.partnerLog } else { s with attn := clear s.attn }

/-- Bytes of a list of parts. -/
def partsLen (ps : List Part) : Nat := ps.foldl (fun n p => n + p.len) 0

/-- The header word of R447 before an object's parts: its length, and layout version 1. A length beyond 16 bits is left open
(log entry 20). -/
def withHeader (obj : Nat) (ps : List Part) : List Part :=
  let n := 4 + partsLen ps
  wd ((if n < 65536 then n else (Config.objectFill obj 0).toNat % 65536) * 65536 + 1) :: ps

/-! Records with maps of their own. -/

/-- An attention item (Table EMP-6), 32 bytes. -/
def AttnItem.bytes (a : AttnItem) : Bytes := attentionBytes a.aseq a.posted a.lvl a.cls.code a.acked a.source a.detail a.ackedAt

/-- An estimate (Table WAV-12) and its four values. -/
def State.estBytes (s : State) (ch : Nat) : Bytes :=
  let x := s.est ch
  match x.latest with
  | none => List.replicate 48 0#8
  | some e =>
    s.estHeader e ++
    natBe 4 e.mag.toNat ++ natBe 4 e.ang.toNat ++ natBe 4 e.freq.toNat ++ natBe 4 e.rocof.toNat

/-- A mode record (Table OSC-8), 32 bytes. -/
def ModeRec.bytes (r : ModeRec) : Bytes :=
  natBe 2 r.index ++
  natBe 2 (oscBandOf r.index * 2 ^ 14 + (if r.index < 0x8000 then 0 else r.index % 4) * 2 ^ 12 + r.flags) ++
  natBe 4 r.freq.toNat ++ natBe 4 r.damping.toNat ++ natBe 4 r.amp.toNat ++ natBe 1 r.conf ++ natBe 2 r.peak ++ [0#8] ++
  natBe 8 (tim1 r.tag) ++ natBe 4 r.tsw.toNat

/-- A location result (Table OSC-13), 64 bytes. -/
def LocRec.bytes (r : LocRec) : Bytes :=
  let part (n : Nat) (d : Nat) (l : List Nat) : Bytes := (List.range 4).flatMap (fun i => natBe n (l.getD i d))
  natBe 8 (tim1 r.tag) ++ natBe 2 r.modeIndex ++ natBe 4 r.fMode.toNat ++ part 2 0xFFFF r.buses ++ part 1 0 r.shares ++
  natBe 4 r.total.toNat ++
  natBe 2 (r.used * 2 ^ 5 + b2n r.partialFlag * 2 ^ 4 + b2n r.noneFound * 2 ^ 3 + b2n r.replay * 2 ^ 2) ++
  natBe 8 (tim1 r.released) ++ natBe 4 r.tsw.toNat ++ natBe 20 0

/-- A record of the oscillation log. -/
def OscLog.bytes : OscLog → Bytes
  | .mode r => r.bytes
  | .loc r => r.bytes

/-- An island record (Table ISL-7), 64 bytes. -/
def IslRec.bytes (r : IslRec) (slot : Nat) : Bytes :=
  natBe 8 (tim1 r.tag) ++ natBe 2 (0x9100 + slot) ++ natBe 2 r.id ++
  natBe 2 (b2n r.declared * 2 ^ 15 + r.grade * 2 ^ 13 + b2n r.topo * 2 ^ 12 + b2n r.coh * 2 ^ 11 + b2n r.heldBoundary * 2 ^ 10 +
    b2n r.replay * 2 ^ 9 + b2n r.stopped * 2 ^ 8) ++
  natBe 6 (r.buses.length * 2 ^ 34 + r.measured * 2 ^ 20 + r.boundary.length * 2 ^ 5) ++
  natBe 4 r.fMean.toNat ++ natBe 4 r.fDiff.toNat ++ natBe 4 r.angDiff.toNat ++ natBe 8 (tim1 r.declaredAt) ++
  natBe 4 r.tsw.toNat ++ natBe 20 0

/-- An event of Table ISL-9, 16 bytes. -/
def Event.bytes (e : Event) : Bytes :=
  natBe 8 (tim1 e.tag) ++ natBe 2 e.index ++
  natBe 2 (e.kind * 2 ^ 12 + b2n e.edge * 2 ^ 11 + e.cause * 2 ^ 8 + e.grade * 2 ^ 6 + b2n e.topo * 2 ^ 5 + b2n e.coh * 2 ^ 4 +
    b2n e.fast * 2 ^ 3 + b2n e.replay * 2 ^ 2) ++ natBe 4 e.value.toNat

/-- A trigger-list entry (Table CAP-7), 16 bytes. -/
def Trig.bytes (t : Trig) : Bytes :=
  natBe 8 (tim1 t.dt) ++ natBe 4 (t.sub * 2 ^ 29 + b2n t.queued * 2 ^ 28 + t.kind * 2 ^ 24 + t.src * 2 ^ 16) ++ natBe 4 t.tsw.toNat

/-- A segment (Table CAP-8, R356): its header and rows, each padded to ROW_LEN. -/
def Segment.bytes (g : Segment) : Bytes :=
  natBe 2 ((if g.minmax then 1 else 0) * 2 ^ 14 + g.div * 2 ^ 11) ++ natBe 2 g.rowLen ++ natBe 4 g.rows.length ++
  natBe 8 (match g.rows with | r :: _ => tim1 r.tag | [] => 0) ++
  g.rows.flatMap (fun r => padTo g.rowLen (natBe 8 (tim1 r.tag) ++ r.vals.flatMap (fun v => natBe 4 v.toNat) ++ r.status.map (fun b => b)))

/-- Trigger list, channel entries and segments of a record (R355). -/
def State.capBody (s : State) (x : CapRec) : Bytes :=
  let chans := (s.capChans x.cls).flatMap (fun ch =>
    let src := chanSource (s.rec_ .chan ch)
    natBe 4 (ch * 2 ^ 16 + src * 2 ^ 13 + capValues src * 2 ^ 10))
  padTo 128 (x.list.flatMap Trig.bytes) ++ padTo (pad16 chans.length) chans ++ x.segs.flatMap Segment.bytes

/-- A record (R355): the header of Table CAP-6, whose CRCs are written when the record becomes COMPLETE, and its body. -/
def State.capBytes (s : State) (x : CapRec) : Bytes :=
  let q := s.capRatio x.cls
  let body := s.capBody x
  let lo := x.lost.foldl min (x.lost.headD 0)
  let hi := x.lost.foldl max 0
  let top := x.cls * 2 ^ 212 + s.capFlags x * 2 ^ 206 + x.trig.kind * 2 ^ 202 + x.seq * 2 ^ 168 + tim1 x.trig.dt * 2 ^ 104 +
    x.trig.sub * 2 ^ 101 + x.trig.src * 2 ^ 93 + capClassNCh (s.rec_ .capClass x.cls) * 2 ^ 85 + q.1 * 2 ^ 53 + q.2 * 2 ^ 37 +
    (x.div - x.div0) * 2 ^ 34 + x.segs.length * 2 ^ 31 + x.list.length * 2 ^ 27
  let h := natBe 4 0x43415052 ++ [0x01#8] ++ natBe 27 top ++ natBe 8 (tim1 x.spanStart) ++ natBe 8 (tim1 x.spanEnd) ++
    natBe 4 x.preUs ++ natBe 8 (tim1 lo) ++ natBe 8 (tim1 hi) ++ natBe 4 x.lostRows ++ natBe 4 x.trig.tsw.toNat ++
    natBe 4 x.dataLen ++ natBe 4 x.len ++ natBe 4 (if x.done then (crc32c body).toNat else 0) ++ natBe 36 0
  h ++ natBe 4 (if x.done then (crc32c h).toNat else 0) ++ body

/-- The record that index entry e holds: the newest with that number (R357). -/
def State.capEntry (s : State) (e : Nat) : Option CapRec :=
  (s.cap.recs.filter (fun x => x.seq % planIndexCount (s.rec_ .plan 0) == e)).foldl
    (fun a x => match a with | some y => if y.seq ≤ x.seq then some x else some y | none => some x) none

/-- An index entry (Table CAP-9), 64 bytes. -/
def State.indexEntry (s : State) (e : Nat) : Bytes :=
  match s.capEntry e with
  | none => List.replicate 64 0#8
  | some x => s.entryOf x

/-- Stage state code (Table EMP-10). -/
def StageState.code : StageState → Nat
  | .idle => 0 | .receiving => 1 | .checking => 2 | .staged => 3 | .failed => 4

/-- Stage status (Table EMP-10), 16 bytes. -/
def StageSt.bytes (x : StageSt) : Bytes :=
  natBe 1 (x.st.code * 32 + x.slot * 16) ++ natBe 1 x.code ++ natBe 4 x.detail ++ natBe 4 x.received ++ natBe 6 0

/-! Group 0x0001 to 0x0012. -/

/-- State code of a link (Table EMP-13). -/
def LinkState.code : LinkState → Nat
  | .down => 0 | .handshake => 1 | .up => 2

/-- The device object 1 (Table EMP-13). -/
def State.deviceWords (s : State) : List Part :=
  [wd s.boot.mode.code, wd (s.pair.role.code + s.pair.link.code * 4 + s.boot.slot * 16 + b2n s.vault.tampered * 32), wd s.time.tsw.toNat]

/-- Group 0x0001. -/
def State.deviceObj (s : State) (i : Nat) : Option (List Part) :=
  let obj := 0x00010000 + i
  match i with
  | 0 =>
    let h := s.rec_ .header 0
    some (withHeader obj [.raw (natBe 16 (headerImageUuid h)), wd (headerGeneration h), wd (logicHdrProgramId (s.rec_ .logicHdr 0)), wd 0xB0])
  | 1 => some (withHeader obj s.deviceWords)
  | 2 => some (withHeader obj [.raw s.identity, .raw (natBe 48 (Config.sha384 s.identity).toNat)])
  | 3 => some [.raw (natBe 64 s.sch.digest)]
  | 4 => some (withHeader obj [wd s.boot.loadA.1, wd s.boot.loadA.2])
  | 5 => some (withHeader obj [wd s.boot.loadB.1, wd s.boot.loadB.2])
  | 6 => some (.raw s.emp.stage.bytes :: [Ctr.stagingRefused, .stagingsStarted, .stagingsFailed, .activations].map (fun c => .ctr (ck c)))
  | 7 => some (withHeader obj [wd s.otp.epoch])
  | _ => none

/-- The oldest ASEQ that a log holds; 0 when it holds none. -/
def AttnLog.oldest (a : AttnLog) : Nat := match oldestSlot a.slots with | some e => e.2.aseq | none => 0

/-- Groups 0x0002 and 0x0003: the head, an item by slot, or the item of an ASEQ. -/
def logObj (a : AttnLog) (obj : Nat) (partner : Bool) (i aseq : Nat) : Option (List Part) :=
  if i = 0 then
    some (withHeader obj ([wd a.head, wd a.oldest] ++
      (List.range 7).map (fun n => wd ((a.open_.filter (fun x => x.lvl == n + 1)).length)) ++ [.lost partner]))
  else if i = 0xFFFF then
    match a.slots.find? (fun e => e.2.aseq == aseq) with
    | some e => some [.raw e.2.bytes]
    | none => none
  else if 1 ≤ i ∧ i ≤ 1024 then
    some [.raw (match aget a.slots (i - 1) with | some x => x.bytes | none => List.replicate 32 0#8)]
  else none

/-- Group 0x0010: the rows of Table PRT-5, R58's discards, the counters of Table INT-1, and EMP's (R455). -/
def portParts (p : Nat) : List Part :=
  ctrs1 p [.framesReceived, .runts, .oversize, .fcsErrors, .unsupportedTags, .wrongDest, .unattributed, .pauseFrames, .flowIgnored,
    .macOther, .pauseStalls] ++
  perUnit 8 (fun q => ck2 .framesTransmitted p q) ++
  ctrs1 p [.oversizeTx, .undelivered, .arpAnswered, .tcpOutOfOrder, .tcpResets, .tcpDiscarded, .linkUps, .linkDowns, .moduleInsertions] ++
  perUnit 8 (fun q => ck2 .modeDiscards p q) ++
  ctrs1 p [.unmatched, .ptpFrames, .commandsReceived, .empExecuted, .empDiscarded, .empQueueDiscards, .empCached, .empMismatch,
    .empStale, .empOld, .empNoAuthority, .empNoMode, .empExpired]

/-- A latency in signed ns, saturating (Table EMP-14). -/
def latWord (v : Int) : Part := wd (wrap 32 (if 2147483647 < v then 2147483647 else if v < -2147483647 then -2147483647 else v))

/-- The running mean of the latency (R131), rounded down. -/
def StreamSt.latMean (x : StreamSt) : Int := if x.lats.isEmpty then 0 else x.lats.foldl (fun a v => a + v) 0 / (x.lats.length : Int)

/-- The stream object (Table EMP-14). -/
def State.streamParts (s : State) (sid : Nat) : List Part :=
  let x := s.streamSt sid
  [wd x.st.code, latWord x.latMin, latWord x.latMax, latWord x.latMean] ++
  ctrs1 sid [.delivered, .ingressDrops, .wrongPort, .parseErrors, .sizeMismatches, .checkErrors, .layoutErrors, .unsupported, .cfgOther,
    .cfg2, .cfgChanges, .invalidBlocks, .invalidSamples, .testFrames, .unsyncFrames, .authenticated, .authFailures, .unexpectedSec,
    .offGrid, .duplicates, .conflicts, .commandsSent] ++
  perUnit 5 (fun n => ck2 .stateEntries sid n) ++
  ctrs1 sid [.beforeStart, .early, .afterFinal, .between, .late, .missing]

/-- State code of a time base (Table TIM-6). -/
def BaseState.code : BaseState → Nat
  | .off => 0 | .acquiring => 1 | .qualified => 2 | .dissent => 3

/-- E in ns as object 0x00120000 gives it. -/
def State.errWord (s : State) : Nat := if s.time.neverLocked then 0xFFFFFFFF else min s.errNs 0xFFFFFFFE

/-- Group 0x0012. -/
def State.hearthParts (s : State) (i : Nat) : Option (List Part) :=
  if i = 0 then some [wd s.time.tsw.toNat, wd s.errWord]
  else if i ≤ 4 then
    some (wd (s.base (i - 1)).st.code :: ctrs1 (i - 1) [.qualifications, .disqualifications, .dissents, .baseSteps])
  else if i = 5 then
    some ([Ctr.holdoverEntries, .forcedConflicts, .dtSteps].map (fun c => .ctr (ck c)) ++ perUnit 3 (fun u => ck1 .ptpDiscarded u) ++
      [Ctr.gnssFailed, .irigFailed].map (fun c => .ctr (ck c)))
  else if 8 ≤ i ∧ i ≤ 16 then some (ctrs1 (i - 8) [.edgesLost, .stampsDropped, .glitches])
  else none

/-! Groups 0x0013 to 0x001A. -/

/-- Group 0x0013 (Table ALN-9). -/
def alignParts (i : Nat) : Option (List Part) :=
  if i ≤ 3 then some (ctrs1 i [.rowsOpened, .rowsCommitted, .rowsUncommitted, .rowsStepped, .slotStalls] ++ [.pages i, .rows i])
  else if 0x100 ≤ i ∧ i ≤ 0x1FF then some (ctrs1 (i - 0x100) [.quorumMet, .quorumShort, .afterQuorum])
  else if 0x200 ≤ i ∧ i ≤ 0x23F then some (ctrs1 (i - 0x200) [.deadlineCloses, .deadlineAbsent, .afterDeadline])
  else none

/-- The sampled-value chain channels in ascending order of SID and POSITION (R193). -/
def State.svChains (s : State) : List (Nat × Nat) :=
  let keys := (((s.valids .chan 255 65536).filter (fun c => chanSource (s.rec_ .chan c) == 4)).map s.chainKey).eraseDups
  (keys.foldl (fun l k => insertBy id k l) []).map (fun k => ((k - 64) / 8, (k - 64) % 8))

/-- Group 0x0014 (Table WAV-14). The counters kept once, and those per threshold set and KIND, stand in the object of lane
0. -/
def State.swageParts (s : State) (i : Nat) : Option (List Part) :=
  if i ≤ 7 then
    some (ctrs1 i [.laneAccepted, .laneBeforeSync, .laneDuringSync, .laneCrc, .laneFormat, .laneSequence, .laneLate, .laneGaps,
      .laneSwitches, .laneStops, .laneNosync, .laneOverflows] ++
      (if i = 0 then (List.range 256).flatMap (fun t => perUnit 7 (fun k => ck2 .threshEvents t k)) ++ [.ctr (ck .wvClkLosses)] else []))
  else if 0x100 ≤ i ∧ i ≤ 0x103 then
    let g := i - 0x100
    some (wd (b2n (s.wq g).holdSeen) :: perUnit 2 (fun b => ck2 .bankCorrected g b) ++ perUnit 2 (fun b => ck2 .bankUncorrectable g b) ++
      ctrs1 g [.partialWords, .flushedWords, .flushedPartial, .holdAssertions])
  else if i = 0x1000 ∨ i = 0x1001 then some (ctrs1 (i - 0x1000) [.underruns, .clips, .missingHistory])
  else if 0x2000 ≤ i then
    match s.svChains[i - 0x2000]? with
    | some c => some [.ctr (ck2 .lateToFilter c.1 c.2), .ctr (ck2 .missingSamples c.1 c.2)]
    | none => none
  else none

/-- Group 0x0015: the latest estimate, its counters, and the slice's for a channel of SOURCE 6 (R183). -/
def State.estParts (s : State) (ch : Nat) : Option (List Part) :=
  if chanValid (s.rec_ .chan ch) = 1 ∧ chanSource (s.rec_ .chan ch) = 6 then
    some (.raw (s.estBytes ch) :: ctrs1 ch [.estRestarts, .estInvalid] ++
      ctrs1 (65536 + ch) [.beforeStart, .early, .afterFinal, .between, .late])
  else none

/-- Group 0x0016: the latest record of an analytics index and its counters; counters with no index of their own stand with
index 0. -/
def State.oscParts (s : State) (i : Nat) : Option (List Part) :=
  if i < 0x9000 then
    let k := oscKey i
    let r : Part := .raw (match aget s.osc.latest i with | some r => r.bytes | none => List.replicate 32 0#8)
    let own := ctrs1 k [.oscFilled, .oscRestarts] ++
      (if i < 0x8000 then [] else
        let g := (i - 0x8000) / 16
        ctrs1 g [.memberFills, .ringOverruns] ++ [.ctr (ck2 .reassignments g (oscBandOf i))])
    let once := if i = 0 then
        .ctr (ck .shedRestarts) :: perUnit 4 (fun b => ck1 .abandonedUpdates b) ++
        (List.range 64).flatMap (fun p => perUnit 4 (fun k => ck2 .oscPickups p k)) ++
        (List.range 64).flatMap (fun p => perUnit 4 (fun k => ck2 .oscDropouts p k))
      else []
    some (r :: own ++ once)
  else if i ≤ 0x900F then
    some (.raw (match aget s.osc.locLatest (i - 0x9000) with | some r => r.bytes | none => List.replicate 64 0#8) ::
      ctrs1 (i - 0x9000) [.locRuns, .locReplaced, .locLeftOut])
  else none

/-- The copy of graph, pair and island state (R275) and the counters of Table ISL-11 but the detectors'. -/
def State.islCopy (s : State) : List Part :=
  let c := s.isl.copy
  c.branches.flatMap (fun b => [wd (b.1 * 65536 + b2n b.2.1), dd b.2.2]) ++
  c.pairs.map (fun p => wd (p.1 * 65536 + b2n p.2.converged * 2 + b2n p.2.coherent)) ++
  c.keys.map (fun k => wd (k.1 * 65536 + k.2.count)) ++
  c.slots.map (fun x => .raw (x.2.bytes x.1)) ++
  perUnit 16384 (fun b => ck1 .statusChanges b) ++ perUnit 16384 (fun b => ck1 .heldStatuses b) ++
  [Ctr.statusBehind, .evaluations, .coalesced].map (fun c => .ctr (ck c)) ++
  perUnit 16384 (fun p => ck1 .pairRelearns p) ++ perUnit 16384 (fun p => ck1 .pairRestarts p) ++
  [Ctr.islDeclared, .islWithdrawn, .islMerges, .gradeChanges, .islOverflows, .setsLost, .blockMoves, .cellMoves].map (fun c => .ctr (ck c))

/-- Group 0x0018. -/
def State.islObj (s : State) (i : Nat) : Option (List Part) :=
  let obj := 0x00180000 + i
  if i = 0 then some (s.isl.log.map (fun e => .raw (e.1.bytes ++ e.2.bytes (e.1.index - 0x9100))))
  else if i = 1 then some (withHeader obj s.islCopy)
  else if 0x9100 ≤ i ∧ i ≤ 0x913F then
    some [.raw (match aget s.isl.core.slots (i - 0x9100) with | some r => r.bytes (i - 0x9100) | none => List.replicate 64 0#8)]
  else if i = 0x9140 then
    some (withHeader obj [wd s.declared.length, wd s.isl.comps, wd s.isl.clusters])
  else if 0xA000 ≤ i ∧ i ≤ 0xAFFF then
    some (withHeader obj (ctrs1 (i - 0xA000) [.detPickups, .detDropouts, .detSteps, .detRestarts]))
  else if 0x4000 ≤ i ∧ i ≤ 0x403F then
    some (withHeader obj ((match aget s.isl.core.slots (i - 0x4000) with | some r => r.boundary | none => []).map wd))
  else none

/-- Group 0x0019 (Table SCH-12). -/
def State.schObj (s : State) (i : Nat) : Option (List Part) :=
  if i ≤ 3 then
    some (withHeader (0x00190000 + i)
      ([Ctr.itemsPosted, .itemsDispatched, .itemsCompleted, .budgetWaits, .overruns, .borrowings].flatMap (fun c => perUnit 32 (fun k => ck2 c i k)) ++
       ctrs1 i [.aborts, .reissues, .abandoned, .watchdogs, .latePosts, .discardedPosts, .quorumStalls, .deadlineStalls, .delayLate] ++
       perUnit 32 (fun k => ck2 .shedDiscards i k) ++
       ctrs1 i [.thermalConflicts, .thermalEntries, .quarantines, .releasesRefused]))
  else if i = 4 then
    some (s.sch.trace.map (fun x => .raw (natBe 16 x)) ++ [Ctr.traceDrops, .shadowDisagreements].map (fun c => .ctr (ck c)))
  else none

/-- Group 0x001A (Table LOG-12). -/
def State.logicParts (s : State) (i : Nat) : Option (List Part) :=
  if i ≤ 31 then some (ctrs1 i [.scansCompleted, .scansAbandoned, .tagDiscontinuities])
  else if 0x100 ≤ i ∧ i ≤ 0x2FF then some (ctrs1 (i - 0x100) [.undeliveredWrites, .tripLaunches, .tripRetries, .tripUnacked])
  else if 0x400 ≤ i ∧ i ≤ 0x40F then some (ctrs1 (i - 0x400) [.lateLevels, .pulseDeferrals, .refusedEntries, .suppressedWrites])
  else if i = 0x500 then
    some (s.logic.forces.flatMap (fun f => [wd f.1, wd f.2.toNat]) ++
      [Ctr.forcesApplied, .forcesReleased, .forcesRefused].map (fun c => .ctr (ck c)))
  else if i = 0x600 then
    some (s.logic.retention.map (fun m => .raw (instBytes m)) ++ [Ctr.instKept, .instReset, .instNew].map (fun c => .ctr (ck c)))
  else none

/-! Groups 0x001B to 0x0020. -/

/-- Group 0x001B. The index by OFFSET carries the counters kept once and per trigger-source record after its entries. -/
def State.capObj (s : State) (i : Nat) : Option (List Part) :=
  let n := planIndexCount (s.rec_ .plan 0)
  if i = 0 then
    some ((List.range n).map (fun e => .raw (s.indexEntry e)) ++ perUnit 256 (fun t => ck1 .triggersTaken t) ++
      [Ctr.overwrittenRecords, .xtrigPulses].map (fun c => .ctr (ck c)))
  else if 0x100 ≤ i ∧ i ≤ 0x10F then
    some (withHeader (0x001B0000 + i) (ctrs1 (i - 0x100) [.recordsStarted, .triggersRefused, .captureFull, .laterTriggers, .queuedTriggers,
      .rangeConflicts, .rangeLimits, .truncations, .lostRows, .abortedRecords]))
  else if 0x1000 ≤ i ∧ i < 0x1000 + n then
    match s.capEntry (i - 0x1000) with
    | some x => some [.raw (s.capBytes x)]
    | none => some []
  else none

/-- Group 0x001C (R380). The counters kept once stand with stream 0. -/
def pubParts (i : Nat) : Option (List Part) :=
  if i ≤ 63 then
    some (ctrs1 i [.emptyLaunches, .skippedSets, .suppressed, .unsendable, .alarmChanges, .alarmRetransmits, .alarmAbsorbed,
      .takeoverGaps, .yielded] ++
      (if i = 0 then [Ctr.repliesNotSent, .commandsAccepted, .commandsRefused, .commandsAbsorbed].map (fun c => .ctr (ck c)) else []))
  else if 0x100 ≤ i ∧ i < 0x100 + 56 then
    let p := (i - 0x100) / 8
    let q := (i - 0x100) % 8
    some [.ctr (ck2 .lateDrops p q), .ctr (ck2 .lateLaunches p q), .ctr (ck2 .queueHolds p q)]
  else none

/-- Group 0x001D (Table PAI-9). -/
def State.pairParts (s : State) (i : Nat) : Option (List Part) :=
  if i = 0 then
    some ([Ctr.woideAuthFail, .woideStale, .woideApplied, .woideHeld, .woideRepeats, .woideBeyond, .woideUnknown, .woideRetransmits,
      .woideDowns, .fillsSent, .fillsTooLarge].map (fun c => .ctr (ck c)) ++ perUnit 8 (fun u => ck1 .resyncs (u + 1)) ++
      [Ctr.pairChangeRefused, .unmirrored, .ovDivergences, .roleDecisions, .positionConflicts].map (fun c => .ctr (ck c)) ++
      perUnit 3 (fun u => ck1 .pathLosses u) ++ [.ctr (ck .splitBrains)])
  else if i = 1 then
    some (s.pair.partnerIndex.map (fun e => .raw e.2))
  else none

/-- Group 0x001E: slot status (Table KEY-3), the tamper configuration, the counters of Table KEY-10. -/
def State.vaultObj (s : State) (i : Nat) : Option (List Part) :=
  if i ≤ 1023 then some [.raw (natBe 16 (s.vslot i).status)]
  else if i = 0x400 then some [wd s.vault.cfg.toNat]
  else if i = 0x401 then
    some (withHeader 0x001E0401 ([Ctr.loadsCommitted, .loadsRefused, .loadsAborted].map (fun c => .ctr (ck c)) ++
      (List.range 1024).flatMap (fun k => perUnit 2 (fun h => ck2 .halfUses k h)) ++ perUnit 1024 (fun k => ck1 .exhaustions k) ++
      perUnit 8 (fun n => ck1 .tampers n) ++ [Ctr.latchOverflows, .zeroiseTamper, .zeroiseService, .rekeyRefusals].map (fun c => .ctr (ck c))))
  else none

/-- The 256 bytes of a black-box slot; one that the device has never written holds what the MRAM holds (log entry 12). -/
def State.bboxSlot (s : State) (n : Nat) : Bytes :=
  match aget s.bbx.mram n with
  | some r => r.bytes
  | none => (List.range 256).map (fun i => Config.mramFill (n * 256 + i))

/-- Group 0x001F (R472). -/
def State.bboxObj (s : State) (i : Nat) : Option (List Part) :=
  if i ≤ 8191 then
    some [wd (b2n (aget s.bbx.mram i).isSome * 2 ^ 31 + b2n (s.bbxProtected i) * 2 ^ 30), .raw (s.bboxSlot i)]
  else if i = 0xFFFF then
    let valid := s.bbx.mram.length
    some (withHeader 0x001FFFFF ([wd (match s.bbx.newest with | some n => n | none => 0), wd s.bbxSeq, wd s.bbxEpoch, wd s.bbxProtectedCount,
      wd valid, wd (8192 - valid)] ++ [Ctr.bbxWritten, .bbxDropped].map (fun c => .ctr (ck c))))
  else none

/-- Minutes that the SVP enable has left, rounded up (R473). -/
def State.svpMinutes (s : State) : Nat := match s.panel.svpEnd with | some e => ceilDiv (e - s.rtc) 60000000000 | none => 0

/-- Group 0x0020 (R473). -/
def State.sensorObj (s : State) (i : Nat) : Option (List Part) :=
  let obj := 0x00200000 + i
  match i with
  | 0 => some (withHeader obj (.raw (s.sens.temps.flatMap (fun t => natBe 2 (wrap 16 t))) :: s.sens.level.map wd))
  | 1 => some (withHeader obj (s.sens.railMv.map wd))
  | 2 => some (withHeader obj ((List.range 5).map (fun d => wd (b2n (s.sens.clocks.contains d)))))
  | 3 => some (withHeader obj [wd s.sens.vbat, wd (b2n s.vault.tampered)])
  | 4 => some (withHeader obj ([wd s.panel.keys.toNat] ++ s.panel.touch.map (fun t => wd (b2n t.touched)) ++
      s.cages.map (fun c => wd (b2n (!c.present))) ++
      [wd (b2n s.panel.svcDet), wd (b2n s.panel.svcKey), wd (b2n s.panel.svpEnd.isSome), wd s.svpMinutes]))
  | 5 => some [wd s.sens.seen.toNat]
  | 6 => some (withHeader obj (perUnit 32 (fun n => ck1 .crossings n) ++
      [Ctr.ghostScans, .touchRecals].map (fun c => .ctr (ck c)) ++ perUnit 5 (fun d => ck1 .clockFaults d)))
  | _ => none

/-! Reading. -/

/-- An OV value (Table EMP-8, groups 0x0102 to 0x010C): the field that index, TABLE and LSB name. -/
def State.ovObj (s : State) (sect i off : Nat) : Option (List Part) :=
  match s.ovTable sect (off / 65536) with
  | none => none
  | some t =>
    if t.2 ≤ i then none
    else match (ovFields t.1).find? (fun f => f.1 == off % 65536) with
      | some f => some [wd (fld (s.rec_ t.1 i) (f.1 + f.2 - 1) f.1)]
      | none => none

/-- An object by group and index (Table EMP-8); OFFSET matters for items named by ASEQ and for OV values. -/
def State.object (s : State) (g i off : Nat) : Option (List Part) :=
  let headed (ps : Option (List Part)) : Option (List Part) := ps.map (withHeader (g * 65536 + i))
  match g with
  | 0x0001 => s.deviceObj i
  | 0x0002 => logObj s.attn (0x00020000 + i) false i off
  | 0x0003 => logObj s.partnerLog (0x00030000 + i) true i off
  | 0x0010 => if i ≤ 6 then headed (some (portParts i)) else none
  | 0x0011 => if i ≤ 8191 then headed (some (s.streamParts i)) else none
  | 0x0012 => headed (s.hearthParts i)
  | 0x0013 => headed (alignParts i)
  | 0x0014 => headed (s.swageParts i)
  | 0x0015 => headed (s.estParts i)
  | 0x0016 => headed (s.oscParts i)
  | 0x0017 => if i = 0 then some (s.osc.log.map (fun x => .raw x.bytes)) else none
  | 0x0018 => s.islObj i
  | 0x0019 => s.schObj i
  | 0x001A => headed (s.logicParts i)
  | 0x001B => s.capObj i
  | 0x001C => headed (pubParts i)
  | 0x001D => headed (s.pairParts i)
  | 0x001E => s.vaultObj i
  | 0x001F => s.bboxObj i
  | 0x0020 => s.sensorObj i
  | _ => if 0x0102 ≤ g ∧ g ≤ 0x010C then s.ovObj (g - 0x100) i off else none

/-- Where within its object an OFFSET reads: index 0xFFFF of the logs and the OV values are read whole; a location set's DEF
rates stand from 0x10000 on (Table EMP-8). -/
def State.readAt (s : State) (g i off : Nat) (ps : List Part) : List Part × Nat :=
  if ((g = 2 ∨ g = 3) ∧ i = 0xFFFF) ∨ 0x0102 ≤ g then (ps, 0)
  else if g = 0x16 ∧ 0x9000 ≤ i ∧ 0x10000 ≤ off then
    ((match aget s.osc.locLatest (i - 0x9000) with | some r => r.rates | none => []).map (fun (w : Word) => wd w.toNat), off - 0x10000)
  else (ps, off)

/-- The parts wholly inside [a, b) of an object. -/
def partsIn (a b : Nat) : Nat → List Part → List Part
  | _, [] => []
  | at_, p :: ps => if a ≤ at_ ∧ at_ + p.len ≤ b then p :: partsIn a b (at_ + p.len) ps else partsIn a b (at_ + p.len) ps

end Sys2Proof.Machine
end

