-- ==== Sys2Proof/Machine/Emp.lean ====
section
/-! DEFINITION. The EMP requests (chapter 17) but staging: sessions, reading and writing objects, change sets, attention,
key operations, and the requests whose effect lies at a beat boundary. -/

namespace Sys2Proof.Machine

/-- The outcome of a request whose body leaves the state alone. -/
def answerWith (s : State) (r : Nat × Bytes) : State × Option (Nat × Bytes) := (s, some r)

/-- OK with nothing more. -/
def okay : Nat × Bytes := (rOk, [])

/-- ACCEPTED with nothing more. -/
def accepted : Nat × Bytes := (rAccepted, [])

/-- NO_OBJECT. -/
def noObject : Nat × Bytes := (rNoObject, [])

/-- A float32 at the start of a payload. -/
def payloadWord (b : Bytes) : Word := BitVec.ofNat 32 (beAt b 0 4)

/-! Sessions. -/

/-- OPEN (R436): a session comes to exist, or its duplicate memory is cleared. -/
def State.openSession (s : State) (q : EmpReq) : State :=
  let e : Sess := { svp := q.svp, id := q.session, high := q.seq, done := [], cache := [], at_ := s.rtc }
  { s with emp := { s.emp with sessions := s.emp.sessions.filter (fun x => !(x.svp == q.svp && x.id == q.session)) ++ [e] } }

/-- Executes `OPEN`. -/
def execEmOpen (q : EmpReq) (s : State) : Host.Outcome State Fault Refusal :=
  .next (s.emTake 0x0001 q (fun s _ => (s.openSession q, some okay)))

/-- CLOSE (R436): the session ends. -/
def State.closeSession (s : State) (svp : Bool) (id : BitVec 32) : State :=
  { s with emp := { s.emp with sessions := s.emp.sessions.filter (fun x => !(x.svp == svp && x.id == id)) } }

/-- Executes `CLOSE`. -/
def execEmClose (q : EmpReq) (s : State) : Host.Outcome State Fault Refusal :=
  .next (s.emTake 0x0002 q (fun s _ => (s.closeSession q.svp q.session, some okay)))

/-- STATUS (R439): the reply's header says all. -/
def execEmStatus (q : EmpReq) (s : State) : Host.Outcome State Fault Refusal :=
  .next (s.emTake 0x0003 q (fun s _ => answerWith s okay))

/-- SESSION_EXPIRY (R436): 60 s without a request. -/
def execSessionExpiry (svp : Bool) (session : BitVec 32) (s : State) : Host.Outcome State Fault Refusal :=
  .next (match s.sess svp session with
    | some e => if s.boot.island && decide (e.at_ + 60000000000 ≤ s.rtc) then (s.closeSession svp session).bump (ck1 .empExpired (empPort svp)) else s
    | none => s)

/-- EMP_DATAGRAM_DISCARD (R433, R435, R437). -/
def execEmpDatagramDiscard (svp : Bool) (why : EmpDrop) (s : State) : Host.Outcome State Fault Refusal :=
  .next (if s.boot.island then s.bump (ck1 (if why = .queueFull then .empQueueDiscards else .empDiscarded) (empPort svp)) else s)

/-! READ and WRITE (R446, R448). -/

/-- An object that lies in DRAM (R242, R275, R310, R355): the oscillation and islanding logs, the islanding state copy, the trace
ring, the capture index and the capture records. -/
def dramObject (g i : Nat) : Bool :=
  g == 0x0017 || (g == 0x0018 && decide (i ≤ 1)) || (g == 0x0019 && i == 4) || (g == 0x001B && (i == 0 || decide (0x1000 ≤ i)))

/-- Bytes read from a DRAM object await their charge to MGMT (Table SCH-1). -/
def State.oweRead (s : State) (g i n : Nat) : State :=
  if dramObject g i then { s with emp := { s.emp with owed := s.emp.owed + n } } else s

/-- READ: up to the wanted length, never more than 1,400 bytes, from OFFSET; with CLEAR the counters returned are cleared, and
a stream's latency statistic with them. -/
def State.emRead (s : State) (q : EmpReq) : State × Option (Nat × Bytes) :=
  let g := q.object.toNat / 65536
  let i := q.object.toNat % 65536
  let off := q.offset.toNat
  if q.payload.length ≠ 2 then answerWith s (rangeItem 0)
  else match s.object g i off with
    | none => answerWith s noObject
    | some ps =>
      let v := s.readAt g i off ps
      let n := min (beNat q.payload) 1400
      if partsLen v.1 ≤ v.2 then answerWith s (rangeItem 0)
      else
        let bytes := ((v.1.flatMap (Part.bytes s)).drop v.2).take n
        let s := s.oweRead g i bytes.length
        if !q.clear then answerWith s (rOk, bytes)
        else
          let s := forAll (partsIn v.2 (v.2 + n) 0 v.1) s (fun s p => s.clearPart p)
          let s := if g = 0x0011 then s.modStream i (fun x => { x with latMin := 0, latMax := 0, lats := [] }) else s
          (s, some (rOk, bytes))

/-- Executes `READ`. -/
def execEmRead (q : EmpReq) (s : State) : Host.Outcome State Fault Refusal := .next (s.emTake 0x0010 q (fun s _ => s.emRead q))

/-- Bits of a W1C object that a write clears (R11, R12): those written 1, but for bits that hardware set in the present
beat. -/
def State.w1c (s : State) (old now : BitVec 32) (w : Nat) : BitVec 32 :=
  old &&& ~~~(BitVec.ofNat 32 w &&& ~~~(if s.beatsRun then now else 0#32))

/-- WRITE: the W1C bits of HOLD_SEEN and of Table BBX-4, and the tamper configuration; every other object is answered ACCESS. A
bit above an object's map is answered RANGE (R447). -/
def State.emWrite (s : State) (q : EmpReq) : State × Option (Nat × Bytes) :=
  let o := q.object.toNat
  let v := beNat q.payload
  if 0x00140100 ≤ o ∧ o ≤ 0x00140103 then
    if q.payload.length ≠ 4 ∨ 1 < v then answerWith s (rangeItem 0)
    else
      let g := o - 0x00140100
      let x := s.wq g
      (s.modWq g (fun y => { y with holdSeen := x.holdSeen && (v == 0 || (x.holdNow && s.beatsRun)) }), some okay)
  else if o = 0x00200005 then
    if q.payload.length ≠ 4 then answerWith s (rangeItem 0)
    else ({ s with sens := { s.sens with seen := s.w1c s.sens.seen s.sens.seenNow v } }, some okay)
  else if o = 0x001E0400 then
    if q.payload.length ≠ 4 ∨ 65536 ≤ v then answerWith s (rangeItem 0)
    else ({ s with vault := { s.vault with cfg := BitVec.ofNat 16 v &&& 0xFF00#16 } }, some okay)
  else if (s.object (o / 65536) (o % 65536) q.offset.toNat).isSome then answerWith s (rAccess, [])
  else answerWith s noObject

/-- Executes `WRITE`. -/
def execEmWrite (q : EmpReq) (s : State) : Host.Outcome State Fault Refusal := .next (s.emTake 0x0011 q (fun s _ => s.emWrite q))

/-! CHANGE_SET (R449, R450). -/

/-- The entries of a payload of Table EMP-7; none where its length does not fit N, or N is 0. -/
def changeEntries (b : Bytes) : Option (List ChangeEntry) :=
  let n := beAt b 0 1
  if n = 0 ∨ b.length ≠ 8 + 16 * n then none
  else some ((List.range n).map (fun i => ofEntryBytes ((b.drop (8 + 16 * i)).take 16)))

/-- Every value of a set belongs to the logic program (R84). -/
def allLogic (es : List ChangeEntry) : Bool := es.all (fun e => e.sect == 0x0A)

/-- Refuse a whole set with its first failing entry (Table IMG-11). -/
def State.refuseSet (s : State) (result n : Nat) : State × Option (Nat × Bytes) :=
  (s.bump (ck .changeSetsRefused), some (result, natBe 4 n))

/-- Accept a set on a device without a pair (R84): at the scan boundary of its task, or at the next beat boundary that
fits. -/
def State.acceptSet (s : State) (es : List ChangeEntry) : State × Option (Nat × Bytes) :=
  match allLogic es, s.ovTasks es with
  | true, t :: _ =>
    ({ s with logic := { s.logic with sets := s.logic.sets ++ [(t, s.emp.setSeq, es)] }
              emp := { s.emp with setSeq := s.emp.setSeq + 1 } }, some (rAccepted, natBe 8 0))
  | _, ts =>
    let b := nextBoundary s.dt
    (s.addSet { at_ := b, entries := es, fromPartner := false, task := ts.head?, carried := false, seq := 0 }, some (rAccepted, natBe 8 (if ts.isEmpty then tim1 b else 0)))

/-- Accept a set in a pair (R394): B is the first boundary at least 8 beats on, and a CHANGE frame names it; without a link the
set applies here alone and counts as unmirrored. -/
def State.acceptPair (s : State) (q : EmpReq) (a : Auth) (es : List ChangeEntry) : State × Option (Nat × Bytes) :=
  if !s.mapsMatch then s.refuseSet rRange 0
  else
    let b := boundaryAfter 8 (boundaryFrom s.dt)
    let up : Bool := s.woideOn && s.pair.link == .up
    let s := s.addSet { at_ := b, entries := es, fromPartner := false, task := none, carried := up, seq := 0 }
    if up then ((s.mirror (.change b es)).emHold (.changeSet b) 0x0012 q a false, none)
    else ((s.bump (ck .unmirrored)).postFor 4 .unit (ck .unmirrored) 0, some (rAccepted, natBe 8 (tim1 b)))

/-- CHANGE_SET. -/
def State.emChange (s : State) (q : EmpReq) (a : Auth) : State × Option (Nat × Bytes) :=
  match changeEntries q.payload with
  | none => s.refuseSet rRange 0
  | some es =>
    match s.ovCheck es with
    | some (k, n) => s.refuseSet (if k = 4 then rMode else if k = 1 then rAccess else rRange) n
    | none => if s.paired then s.acceptPair q a es else s.acceptSet es

/-- Executes `CHANGE_SET`. -/
def execEmChangeSet (q : EmpReq) (s : State) : Host.Outcome State Fault Refusal := .next (s.emTake 0x0012 q (fun s a => s.emChange q a))

/-! Attention (R441). -/

/-- Acknowledge every item not later than A, and re-arm its latches. -/
def State.acknowledge (s : State) (a : Nat) : State :=
  let ack (e : Nat × AttnItem) : Nat × AttnItem :=
    if !e.2.acked && notLater e.2.aseq a then (e.1, { e.2 with acked := true, ackedAt := s.now }) else e
  { s with attn := { s.attn with slots := s.attn.slots.map ack, latched := s.attn.latched.filter (fun l => !notLater l.2 a) } }

/-- Executes `ATTN_ACK`. -/
def execEmAttnAck (q : EmpReq) (s : State) : Host.Outcome State Fault Refusal :=
  .next (s.emTake 0x0013 q (fun s _ => (s.acknowledge q.object.toNat, some okay)))

/-! Restart (R42, R44, T6, T21). -/

/-- Carry out an accepted restart: an event of the present beat while beats run; at once in UNCONFIGURED (T6) and LOADING,
where the reply has left before. -/
def State.carryRestart (s : State) : State :=
  match s.emp.restart with
  | none => s
  | some op =>
    let s := { s with emp := { s.emp with restart := none } }
    if s.beatsRun then { s with boot := { s.boot with evs := s.boot.evs ++ [Ev.restart op] } }
    else
      let r := s.emp.replies
      let s := s.startBy (if s.boot.mode = .unconfigured then 6 else 21) true
      { s with emp := { s.emp with replies := r } }

/-- Ask for a restart. -/
def State.askRestart (s : State) (a : Auth) : State := { s with emp := { s.emp with restart := some (a == .operator) } }

/-- Executes `RESTART`. -/
def execEmRestart (q : EmpReq) (s : State) : Host.Outcome State Fault Refusal :=
  .next (s.emTake 0x0024 q (fun s a => (s.askRestart a, some accepted))).carryRestart

/-! Keys (R419-R427, R451). -/

/-- A slot changed outside the beats: no boundary will come, so the commit follows the reply (R44). -/
def State.commitIfStill (s : State) (k : Nat) : State := if s.beatsRun then s else s.commitSlot k

/-- The key that a load carries (R419): behind the 20 bytes, the sender's ephemeral key, 97 bytes, a 12-byte IV, the 32-byte
wrapped key and a 16-byte tag, with the 20 bytes as additional authenticated data; none where the tag fails. -/
def State.loadedKey (s : State) (b : Bytes) : Option (BitVec 256) :=
  match s.otpRoot with
  | none => none
  | some root =>
    let kek := kekOf root ((b.drop 20).take 97) (b.take 20)
    let iv := (b.drop 117).take 12
    let wrapped := (b.drop 129).take 32
    if gcmOk kek iv (b.take 20) wrapped ((b.drop 161).take 16) then some (keyOfBytes (gcmPlain kek iv wrapped)) else none

/-- The loaded key whose check value is KCV (R412, R420). -/
def State.checkedKey (s : State) (b : Bytes) (kcv : Nat) : Option (BitVec 256) :=
  (s.loadedKey b).filter (fun k => (Config.kcv k).toNat == kcv)

/-- KEY_LOAD (R420, Table KEY-6). -/
def State.emKeyLoad (s : State) (q : EmpReq) : State × Option (Nat × Bytes) :=
  let k := q.object.toNat
  let e := beAt q.payload 0 20 * 2 ^ 480
  let fieldsOk : Bool := q.payload.length == 177 && decide (16 ≤ k) && decide (k ≤ 1023) && keyEntHasKey e == 1 && keyEntRange e &&
    fld e 621 608 == 0 && fld e 503 480 == 0 && keyEntSlot e == k
  if !fieldsOk then (s.bump (ck .loadsRefused), some (rangeItem 0))
  else if (s.vslot k).pending then (s.bump (ck .loadsRefused), some (rBusy, []))
  else match s.checkedKey q.payload (keyEntKcv e) with
  | none => ((s.bump (ck .loadsRefused)).postOnce 4 .sec (ck .loadsRefused) k, some (rKeyFail, []))
  | some key =>
    let h : Half := { key := key, keyId := BitVec.ofNat 32 (keyEntKeyId e), kcv := BitVec.ofNat 24 (keyEntKcv e), gen := 0
                      engines := BitVec.ofNat 5 (keyEntEngines e), life := keyEntLife e, uses := keyEntUses e, fresh := true }
    ((s.writeIdle k h).commitIfStill k, some accepted)

/-- Executes `KEY_LOAD`; `wrapped` ends the payload. -/
def execEmKeyLoad (q : EmpReq) (wrapped : Bytes) (s : State) : Host.Outcome State Fault Refusal :=
  .next (s.emTake 0x0030 (q.carrying wrapped) (fun s _ => s.emKeyLoad (q.carrying wrapped)))

/-- ZEROISE from SERVICE (R427): the battery keys are cleared, no mode changes. -/
def execEmZeroise (q : EmpReq) (s : State) : Host.Outcome State Fault Refusal :=
  .next (s.emTake 0x0031 q (fun s _ =>
    ((s.zeroise false).bbxWith 5 .sec (ctrObject (ck .zeroiseService)) 0 0x0031 [1#8], some okay)))

/-- The OTP owner field that an enrolment burns (R423): the first that no burn has touched, none once one is complete. -/
def OtpSt.enrolField (o : OtpSt) : Option Bool :=
  match o.owner0, o.owner1 with
  | .complete _, _ => none
  | _, .complete _ => none
  | .blank, _ => some false
  | .incomplete, .blank => some true
  | .incomplete, .incomplete => none

/-- OWNER_ENROL (R423): the burn begins; the reply comes when it completes. -/
def State.emOwner (s : State) (q : EmpReq) (a : Auth) : State × Option (Nat × Bytes) :=
  if q.payload.length ≠ 97 then answerWith s (rangeItem 0)
  else if s.otp.burning.isSome then answerWith s (refusedWith 0)
  else match s.otp.enrolField with
    | none => answerWith s (refusedWith 0)
    | some second =>
      (({ s with otp := { s.otp with burning := some (second, q.payload) } }).emHold .ownerEnrol 0x0032 q a false, none)

/-- Executes `OWNER_ENROL`. -/
def execEmOwnerEnrol (q : EmpReq) (s : State) : Host.Outcome State Fault Refusal := .next (s.emTake 0x0032 q (fun s a => s.emOwner q a))

/-- PAIR_ENROL (R424): the partner's key in the battery domain, and the pair key in slot 8. -/
def State.emPairEnrol (s : State) (q : EmpReq) : State × Option (Nat × Bytes) :=
  if q.payload.length ≠ 97 then answerWith s (rangeItem 0)
  else if (s.vslot 8).pending then answerWith s (rBusy, [])
  else
    let key := s.pairKeyOf q.payload
    let h : Half := { key := key, keyId := 0, kcv := Config.kcv key, gen := 0, engines := 4, life := 0, uses := 0, fresh := true }
    let s := { s with vault := { s.vault with partner := some q.payload } }
    ((s.writeIdle 8 h).commitIfStill 8, some accepted)

/-- Executes `PAIR_ENROL`. -/
def execEmPairEnrol (q : EmpReq) (s : State) : Host.Outcome State Fault Refusal := .next (s.emTake 0x0033 q (fun s _ => s.emPairEnrol q))

/-- REKEY_DONE (R431): judged at the next boundary. -/
def execEmRekeyDone (q : EmpReq) (s : State) : Host.Outcome State Fault Refusal :=
  .next (s.emTake 0x0034 q (fun s a => (s.emHold .rekey 0x0034 q a false, none)))

/-! Forces (R331, R451). -/

/-- The request that a FORCE or UNFORCE makes of its target: a variable that can be forced, or a DO. -/
def State.forceKind (s : State) (obj : Nat) (v : Option Word) : Option (BReqKind × Bool) :=
  let i := obj % 65536
  if obj / 65536 = 0 then
    let r := s.rec_ .var i
    if s.varIn i && varSeg r != 3 then
      some (match v with
        | some w => (.force obj w, varVtype r != 0 || decide (w.toNat ≤ 1))
        | none => (.unforce obj, true))
    else none
  else if obj / 65536 = 1 ∧ i < 16 then
    some (.forceDo i (v.map (fun w => w == 1#32)), match v with | some w => decide (w.toNat ≤ 1) | none => true)
  else none

/-- FORCE and UNFORCE are answered ACCEPTED at once and evaluated at the next boundary (R44). -/
def State.emForce (s : State) (op : Nat) (q : EmpReq) (a : Auth) (v : Option Word) : State × Option (Nat × Bytes) :=
  match s.forceKind q.object.toNat v with
  | none => answerWith s noObject
  | some (k, ok) => if ok then (s.emHold k op q a true, some accepted) else answerWith s (rangeItem 0)

/-- Executes `FORCE`. -/
def execEmForce (q : EmpReq) (s : State) : Host.Outcome State Fault Refusal :=
  .next (s.emTake 0x0040 q (fun s a =>
    if q.payload.length ≠ 4 then answerWith s (rangeItem 0) else s.emForce 0x0040 q a (some (payloadWord q.payload))))

/-- Executes `UNFORCE`. -/
def execEmUnforce (q : EmpReq) (s : State) : Host.Outcome State Fault Refusal :=
  .next (s.emTake 0x0041 q (fun s a => s.emForce 0x0041 q a none))

/-! Replay (R226, R452). -/

/-- The channels of one lane of Table EMP-9: CH and FULL_SCALE. -/
def replayLane (b : Bytes) (base n : Nat) : List (Nat × Word) :=
  (List.range n).map (fun i => (beAt b (base + 8 * i) 2, BitVec.ofNat 32 (beAt b (base + 8 * i + 4) 4)))

/-- The first field of a replay request outside its range, as its byte offset in Table EMP-9. -/
def State.replayFault (s : State) (b : Bytes) : Option Nat :=
  let mask := beAt b 20 1
  let laneOk (l base n : Nat) : Bool := !bitAt mask l || (decide (1 ≤ n) && decide (n ≤ 8) && (replayLane b base n).all (fun c => s.isPhasor c.1))
  if b.length ≠ 152 then some 0
  else if beAt b 8 4 = 0 ∨ 600000 < beAt b 8 4 then some 8
  else if ofTim1 (beAt b 12 8) < nextBoundary s.dt + 1000000000 then some 12
  else if 3 < mask then some 20
  else if !laneOk 0 24 (beAt b 21 1) then some 24
  else if !laneOk 1 88 (beAt b 22 1) then some 88
  else none

/-- REPLAY_START: checked now, taken at the next boundary. -/
def State.emReplay (s : State) (q : EmpReq) (a : Auth) : State × Option (Nat × Bytes) :=
  let b := q.payload
  match s.replayFault b with
  | some n => answerWith s (rangeItem n)
  | none =>
    let mask := beAt b 20 1
    let h0 := ofTim1 (beAt b 0 8)
    let r : ReplaySt := { h0 := h0, lengthMs := beAt b 8 4, p0 := ofTim1 (beAt b 12 8), mask := mask
                          lane0 := if bitAt mask 0 then replayLane b 24 (beAt b 21 1) else []
                          lane1 := if bitAt mask 1 then replayLane b 88 (beAt b 22 1) else [], n0 := 0, n1 := 0, upTo := h0 }
    (s.emHold (.replayStart r) 0x0042 q a false, none)

/-- Executes `REPLAY_START`. -/
def execEmReplayStart (q : EmpReq) (s : State) : Host.Outcome State Fault Refusal := .next (s.emTake 0x0042 q (fun s a => s.emReplay q a))

/-- Executes `REPLAY_STOP` (T18). -/
def execEmReplayStop (q : EmpReq) (s : State) : Host.Outcome State Fault Refusal :=
  .next (s.emTake 0x0043 q (fun s a => (s.emHold .replayStop 0x0043 q a false, none)))

/-! Requests on units (R27). -/

/-- Hold a request on an object that exists; NO_OBJECT otherwise. -/
def State.emUnit (s : State) (k : BReqKind) (op : Nat) (q : EmpReq) (a : Auth) (exists_ : Bool) : State × Option (Nat × Bytes) :=
  if exists_ then (s.emHold k op q a false, none) else answerWith s noObject

/-- Executes `FLUSH` (R208). -/
def execEmFlush (q : EmpReq) (s : State) : Host.Outcome State Fault Refusal :=
  .next (s.emTake 0x0044 q (fun s a => s.emUnit (.flush q.object.toNat) 0x0044 q a (decide (q.object.toNat ≤ 3))))

/-- Executes `RELEASE_CELL` (R305): the self-test runs now; the release is judged at the boundary. -/
def execEmReleaseCell (q : EmpReq) (selfTest : Bool) (s : State) : Host.Outcome State Fault Refusal :=
  .next (s.emTake 0x0045 q (fun s a => s.emUnit (.releaseCell q.object.toNat selfTest) 0x0045 q a (decide (q.object.toNat ≤ 63))))

/-- Executes `HOLDOVER` (R149). -/
def execEmHoldover (q : EmpReq) (s : State) : Host.Outcome State Fault Refusal :=
  .next (s.emTake 0x0050 q (fun s a =>
    if 1 < q.object.toNat then answerWith s (rangeItem 0)
    else if q.object = 1 ∧ s.time.neverLocked then answerWith s (refusedWith 0)
    else (s.emHold (.holdover (q.object == 1)) 0x0050 q a false, none)))

/-- Executes `SHED` (R308). -/
def execEmShed (q : EmpReq) (s : State) : Host.Outcome State Fault Refusal :=
  .next (s.emTake 0x0051 q (fun s a =>
    if q.payload.length ≠ 2 ∨ 32 < beAt q.payload 0 1 then answerWith s (rangeItem 0)
    else if 1 < beAt q.payload 1 1 then answerWith s (rangeItem 1)
    else (s.emHold (.shed (beAt q.payload 0 1) (beAt q.payload 1 1 == 1)) 0x0051 q a false, none)))

/-- Executes `TRIGGER` (R347). -/
def execEmTrigger (q : EmpReq) (s : State) : Host.Outcome State Fault Refusal :=
  .next (s.emTake 0x0052 q (fun s a =>
    if 65535 < q.object.toNat then answerWith s (rangeItem 0)
    else (s.emHold (.trigger q.object.toNat) 0x0052 q a false, none)))

/-- Executes `LOCATE` (R251). -/
def execEmLocate (q : EmpReq) (s : State) : Host.Outcome State Fault Refusal :=
  .next (s.emTake 0x0053 q (fun s a =>
    if q.payload.length ≠ 4 then answerWith s (rangeItem 0)
    else s.emUnit (.locate q.object.toNat (payloadWord q.payload)) 0x0053 q a
      (decide (q.object.toNat ≤ 15) && locSetValid (s.rec_ .locSet q.object.toNat) == 1)))

/-- The primary may hand over (R403). -/
def State.canHandOver (s : State) : Bool :=
  s.paired && s.boot.mode == .active && s.pair.role == .primary && s.pair.link == .up && s.pair.handover.isNone &&
  (match s.pair.digest with
   | some d => d.mode == Mode.standby.code && !d.unfit && d.mirrorValid
   | none => false)

/-- HANDOVER (R403): E is the first boundary at least 24 beats later, HANDOVER names it, and the reply comes at E. -/
def State.emHandover (s : State) (q : EmpReq) (a : Auth) : State × Option (Nat × Bytes) :=
  if s.canHandOver then
    let e := boundaryAfter 24 (boundaryFrom s.dt)
    let s := (s.modPair (fun p => { p with handover := some (e, false) })).urgent (s.roleBody 1 e)
    (s.emHold .handover 0x0054 q a false, none)
  else answerWith s.refuseEvent (refusedWith 0)

/-- Executes `HANDOVER`. -/
def execEmHandover (q : EmpReq) (s : State) : Host.Outcome State Fault Refusal := .next (s.emTake 0x0054 q (fun s a => s.emHandover q a))

/-! The black box (R460, R472). -/

/-- Executes `BBOX_RAW`: a slot's stored bytes, whatever its verdict. -/
def execEmBboxRaw (q : EmpReq) (s : State) : Host.Outcome State Fault Refusal :=
  .next (s.emTake 0x0060 q (fun s _ =>
    if 8191 < q.object.toNat then answerWith s noObject else answerWith s (rOk, s.bboxSlot q.object.toNat)))

/-- Executes `BBOX_CLEAR`: a CLEAR record with the next epoch. -/
def execEmBboxClear (q : EmpReq) (s : State) : Host.Outcome State Fault Refusal :=
  .next (s.emTake 0x0061 q (fun s _ => (s.bbxPost 0x00F0 (natBe 2 s.bbxEpoch), some okay)))

end Sys2Proof.Machine
end

