-- ==== Sys2Proof/Machine/Stage.lean ====
section
/-! DEFINITION. Staging and activation of an image over EMP (R78, R453, R454, Tables EMP-10 and EMP-12). -/

namespace Sys2Proof.Machine

/-- Change the stage. -/
def State.modStage (s : State) (f : StageSt → StageSt) : State := { s with emp := { s.emp with stage := f s.emp.stage } }

/-- A request comes from another session while a staging runs (Table EMP-12). -/
def State.stageBusy (s : State) (q : EmpReq) : Bool :=
  s.emp.stage.open_ && s.emp.stage.owner != some (q.svp, q.session)

/-- Refuse a staging request (Table EMP-12). -/
def State.refuseStage (s : State) (r : Nat × Bytes) : State × Option (Nat × Bytes) := (s.bump (ck .stagingRefused), some r)

/-- The slot that a STAGE_BEGIN writes: the one that OBJECT names in UNCONFIGURED, the idle one elsewhere; none where OBJECT is
outside its range (Table EMP-4). -/
def State.stageTarget (s : State) (obj : Nat) : Option Nat :=
  if s.boot.mode = .unconfigured then (if obj ≤ 1 then some obj else none)
  else if obj = 0xFFFFFFFF then some (1 - s.boot.slot) else none

/-- STAGE_BEGIN (R453, R454): the header's checks, then the erasure of the target's status and header sectors. -/
def State.stageBegin (s : State) (q : EmpReq) : State × Option (Nat × Bytes) :=
  match s.stageTarget q.object.toNat with
  | none => answerWith s (rangeItem 0)
  | some k =>
    if s.stageBusy q then s.refuseStage (rBusy, [])
    else if s.boot.mode ≠ .unconfigured ∧ s.slotState s.boot.slot ≠ stGood then s.refuseStage (refusedWith 0)
    else if q.payload.length ≠ 128 then answerWith s (rangeItem 0)
    else match stageCode q.payload s.ownerKey with
      | some c => answerWith s (rStageFail, natBe 4 c ++ natBe 4 0)
      | none =>
        let s := { s with flash := memErase (memErase s.flash (statusBase k) 4096) (slotBase k) 4096 }
        let x : StageSt := { st := .receiving, slot := k, code := 0, detail := 0, owner := some (q.svp, q.session), header := q.payload
                             sector := [], got := [], received := 0, at_ := s.lts }
        ((s.modStage (fun _ => x)).bump (ck .stagingsStarted), some okay)

/-- Executes `STAGE_BEGIN`. -/
def execEmStageBegin (q : EmpReq) (s : State) : Host.Outcome State Fault Refusal := .next (s.emTake 0x0020 q (fun s _ => s.stageBegin q))

/-- The bytes of a piece already received: the first 4,096 bytes of the image are held in RAM, the others stand in flash. -/
def State.stagePiece (s : State) (off len : Nat) : Bytes :=
  if off < 4096 then agetD s.emp.stage.sector off [] else memBytes s.flash (slotBase s.emp.stage.slot + off) len

/-- STAGE_DATA (R453). -/
def State.stageData (s : State) (q : EmpReq) : State × Option (Nat × Bytes) :=
  let x := s.emp.stage
  let off := q.offset.toNat
  let len := headerImageLen (beNat x.header)
  let n := min 1024 (len - off)
  if s.stageBusy q then s.refuseStage (rBusy, [])
  else if x.st ≠ .receiving then answerWith s (refusedWith 0)
  else if off % 1024 ≠ 0 ∨ len ≤ off ∨ q.payload.length ≠ n then answerWith s (rangeItem 0)
  else
    let s := s.modStage (fun x => { x with at_ := s.lts })
    if x.got.contains (off / 1024) then
      answerWith s (if s.stagePiece off n = q.payload then okay else rangeItem 0)
    else
      let s := if off < 4096 then s.modStage (fun x => { x with sector := aput x.sector off q.payload })
               else { s with flash := memWriteBytes s.flash (slotBase x.slot + off) q.payload }
      (s.modStage (fun x => { x with got := off / 1024 :: x.got, received := x.received + n }), some okay)

/-- Executes `STAGE_DATA`. -/
def execEmStageData (q : EmpReq) (s : State) : Host.Outcome State Fault Refusal := .next (s.emTake 0x0021 q (fun s _ => s.stageData q))

/-- STAGE_END (R453): REFUSED with the first missing offset, or CHECKING. -/
def State.stageEnd (s : State) (q : EmpReq) : State × Option (Nat × Bytes) :=
  let x := s.emp.stage
  if s.stageBusy q then s.refuseStage (rBusy, [])
  else if x.st ≠ .receiving then answerWith s (refusedWith 0)
  else
    let s := s.modStage (fun x => { x with at_ := s.lts })
    match (List.range (ceilDiv (headerImageLen (beNat x.header)) 1024)).find? (fun i => !x.got.contains i) with
    | some i => answerWith s (refusedWith (1024 * i))
    | none => (s.modStage (fun x => { x with st := .checking }), some accepted)

/-- Executes `STAGE_END`. -/
def execEmStageEnd (q : EmpReq) (s : State) : Host.Outcome State Fault Refusal := .next (s.emTake 0x0022 q (fun s _ => s.stageEnd q))

/-- A staging fails (Table EMP-12). -/
def State.stageFailed (s : State) (code detail lvl : Nat) : State :=
  ((s.modStage (fun x => { x with st := .failed, code := code, detail := detail, owner := none })).bump (ck .stagingsFailed)).postFor lvl .unit
    (ck .stagingsFailed) code

/-- The slot with the header sector that is held in RAM. -/
def State.withSector (s : State) : State :=
  let x := s.emp.stage
  { s with flash := forAll x.sector s.flash (fun m p => memWriteBytes m (slotBase x.slot + p.1) p.2) }

/-- The check of codes 0x01 to 0x09 that fails on the received image (R78, R453). -/
def State.stageCheck (s : State) (v : LoadVerdict) : Option (Nat × Nat) :=
  let k := s.emp.stage.slot
  let t := s.withSector
  if !v.flashOk then some (0x12, 0)
  else match t.slotCode k with
    | some c => some c
    | none =>
      if !t.signatureOk k then some (0x08, 0) else if headerEpoch (t.slotHeader k) < s.otp.epoch then some (0x09, 0) else none

/-- STAGE_CHECK_DONE (R453): the header sector is written and STAGED appended, or the staging fails with its code. -/
def execStageCheckDone (v : LoadVerdict) (s : State) : Host.Outcome State Fault Refusal :=
  .next (if s.emp.stage.st ≠ .checking then s
    else match s.stageCheck v with
      | some c => s.stageFailed c.1 c.2 4
      | none =>
        (s.withSector.appendStatus s.emp.stage.slot stStaged 0 0).modStage (fun x => { x with st := .staged, sector := [], owner := none }))

/-- STAGING_TIMEOUT (R454): 60 s without STAGE_DATA or STAGE_END while RECEIVING. -/
def execStagingTimeout (s : State) : Host.Outcome State Fault Refusal :=
  .next (if s.emp.stage.st = .receiving ∧ s.emp.stage.at_ + 60000000000 ≤ s.lts then s.stageFailed 0 0 3 else s)

/-- ACTIVATE (R454): TRIAL is appended to the staged slot, and the device restarts when the reply has left. -/
def State.activate (s : State) (a : Auth) : State × Option (Nat × Bytes) :=
  if s.emp.stage.st ≠ .staged then s.refuseStage (refusedWith 0)
  else (((s.appendStatus s.emp.stage.slot stTrial 0 0).bump (ck .activations)).askRestart a, some accepted)

/-- Executes `ACTIVATE`. -/
def execEmActivate (q : EmpReq) (s : State) : Host.Outcome State Fault Refusal :=
  .next (s.emTake 0x0023 q (fun s a => s.activate a)).carryRestart

end Sys2Proof.Machine
end

