-- ==== Sys2Proof/Machine/Modes.lean ====
section
/-! DEFINITION. Mode transitions at a beat boundary (R42-R45, Tables MOD-2 and MOD-3) and the management requests whose
effect lies at one (R27, R437). -/

namespace Sys2Proof.Machine

/-! What a transition leaves behind. -/

/-- What T18 and T20 discard (Table MOD-2): the estimators' and the logic program's state; every instance starts as new
(Table LOG-11), and DO0-DO15 wait for the first scan that writes them (R329). Scans that run keep their snapshots. -/
def State.discardState (s : State) : State :=
  let s := ((s.stepSwage.restartOsc s.dt).replayIsl).unconverge
  { s with
    swage := { s.swage with replay := none }
    logic := { LogicSt.reset with
      forces := s.logic.forces, snaps := s.logic.snaps, sets := s.logic.sets, partnerRet := s.logic.partnerRet
      dos := s.logic.dos.map (fun (d : DoSt) => { d with level := none, pend := [], deferred := none, resend := none }) } }

/-- The initial frame of every ALARM stream (R372). -/
def State.initialFrames (s : State) : State :=
  forAll (s.outs.filter (fun n => outStreamAlarm (s.rec_ .outStream n) == 1)) s (fun s n => s.alarmInitial n)

/-- WARMUP begins (R52, R53, R396, R372): its timeout runs, a paired device is UNDECIDED, the ALARM streams start, and
capture, which converges at once, has converged. -/
def State.warmupBegins (s : State) : State :=
  let s := { s with boot := { s.boot with warmAt := s.lts, timedOut := false, degStandby := false } }
  let s := if s.paired then s.setRole .undecided else s
  forAll s.capClasses s.initialFrames (fun s c => s.converge 13 c)

/-- What every change of mode brings with it: frames that the new mode does not send go (R58, R59), a DO that is no longer
driven is high impedance until the next scan that it may follow writes it (R57, R329), and a replay ends with its mode. -/
def State.modeEntered (s : State) : State :=
  let s := s.purge
  let s := if s.drivesDo then s
    else { s with logic := { s.logic with dos := s.logic.dos.map (fun (d : DoSt) => { d with level := none }) } }
  if s.boot.mode = .replay then s else { s with swage := { s.swage with replay := none } }

/-- Leave the primary role at this boundary where no RELEASE has named one (R401). -/
def State.leaveNow (s : State) (b : Ns) : State := if s.pair.leaveAt.isNone then s.releaseRole b else s

/-! Forces (R331, Table LOG-10). -/

/-- The object of a DO's force. -/
def doObject (d : Nat) : Nat := 65536 + d

/-- An output record names a DO. -/
def State.doNamed (s : State) (d : Nat) : Bool :=
  (s.valids .outRec 255 512).any (fun o => outRecKind (s.rec_ .outRec o) == 2 && outRecDoNo (s.rec_ .outRec o) == d)

/-- Force a DO, at a beat boundary. -/
def State.applyDoForce (s : State) (d : Nat) (v : Bool) : State :=
  let s := { s with logic := { s.logic with forces := aput s.logic.forces (doObject d) (boolWord v) } }
  (s.modDo d (fun x => { x with forced := some v })).bump (ck .forcesApplied)

/-- A DO's force ends: an output that no record names returns to high impedance. -/
def State.endDoForce (s : State) (d : Nat) : State :=
  s.modDo d (fun x => { x with forced := none, level := if s.doNamed d then x.level else none })

/-- Release a DO, at a beat boundary. -/
def State.releaseDoForce (s : State) (d : Nat) : State :=
  if (aget s.logic.forces (doObject d)).isSome then
    (({ s with logic := { s.logic with forces := adel s.logic.forces (doObject d) } }).endDoForce d).bump (ck .forcesReleased)
  else s

/-- Every force ends, counted; `rec` writes the black-box record of each (T14). -/
def State.releaseForces (s : State) (records : Bool) : State :=
  let fs := s.logic.forces
  let s := { s with logic := { s.logic with forces := [], forceReq := [] } }
  let s := forAll (List.range 16) s (fun s d => if (s.doSt d).forced.isSome then s.endDoForce d else s)
  forAll fs s (fun s f =>
    let s := s.bump (ck .forcesReleased)
    if records then s.bbxPost 0x0022 (natBe 4 f.1 ++ natBe 4 f.2.toNat) else s)

/-- The targets under force, and those whose force waits for its scan boundary. -/
def State.forceCount (s : State) : Nat :=
  ((s.logic.forces.map (fun f => f.1)) ++ (s.logic.forceReq.filter (fun q => q.2.isSome)).map (fun q => q.1)).eraseDups.length

/-- A force on a target fits: 64 targets at most. -/
def State.forceFits (s : State) (obj : Nat) : Bool :=
  (aget s.logic.forces obj).isSome || s.logic.forceReq.any (fun q => q.1 == obj && q.2.isSome) || decide (s.forceCount < 64)

/-- No force stands and none waits. -/
def State.noForce (s : State) : Bool := s.logic.forces.isEmpty && s.logic.forceReq.isEmpty

/-! Events (R44). -/

/-- The place of an event in the order of R44. -/
def evRank : Ev → Nat
  | .tamper => 0
  | .critical => 1
  | .nonCritical => 2
  | .partnerAbsent => 3
  | .restart _ | .pinReset => 4
  | .svcKeyReleased => 5

/-- Table MOD-2 lists an event for the present mode. -/
def State.evApplies (s : State) (e : Ev) : Bool :=
  let m := s.boot.mode
  match e with
  | .tamper => s.beatsRun && m != .tamperhold
  | .critical => s.beatsRun && m != .halt
  | .nonCritical => m == .forced || m == .warmup || m == .active || m == .standby || m == .takeover
  | .partnerAbsent => s.takeoverDue
  | .pinReset => true
  | .restart operator => !operator || m == .warmup || m == .active || m == .standby || m == .degraded
  | .svcKeyReleased => m == .replay

/-- The event that a boundary takes: the first in order that the mode lists. -/
def State.pickEvent (s : State) (es : List Ev) : Option Ev :=
  (List.range 6).findSome? (fun k => es.find? (fun e => evRank e == k && s.evApplies e))

/-- T16 (R401, R506): the role is released and Woide stops; waiting items and unplaced row posts are discarded and counted;
every lane group's queue is emptied, and nothing steps any more. -/
def State.enterHalt (s : State) (b : Ns) : State :=
  let s := (s.leaveNow b).transit 16 .halt 7 .fault
  let s := { s with sch := { s.sch with halted := true } }
  let s := if s.paired then { s with pair := { s.pair with link := .down, sent := [], backlog := [] } } else s
  let s := forAll (List.range 4) s (fun s g => s.flushGroup g)
  forAll (List.range 4) s (fun s r =>
    let g := s.reg r
    let s := forAll (g.ready ++ g.delay) s (fun s it => s.bump (ck2 .shedDiscards it.region it.cls))
    let posts := (g.stalled.filter (fun p => match p.1 with | .row op => decide (op ≤ 1) | _ => false)).length
    (s.bumpBy (ck1 .discardedPosts r) posts).modReg r (fun g => { g with ready := [], delay := [], stalled := [] }))

/-- T19: the policy of TAMPERHOLD; the record carries the tamper's item (R428), and no further item is posted. -/
def State.enterTamperhold (s : State) (b : Ns) : State :=
  let s := if s.policy 108 then s else s.leaveNow b
  let old := s.boot.mode
  let s := { s with boot := { s.boot with mode := .tamperhold } }
  s.bbxQueue (s.bbxRec .sec 0x0001 s.boot.tamperAseq [BitVec.ofNat 8 old.code, BitVec.ofNat 8 Mode.tamperhold.code, 19#8])

/-- T18 and T20 lead to WARMUP with nothing kept. -/
def State.freshWarmup (s : State) (t : Nat) : State := ((s.discardState.transit t .warmup 3 .mode).warmupBegins)

/-- The retention store as an orderly restart writes it (R332). -/
def State.retain (s : State) : State :=
  let s := forAll s.tasks s (fun s t => s.logicScan t)
  { s with logic := { s.logic with retention := (s.tasks.flatMap (fun t => s.taskInsts t)).map (fun i => s.instMirror i) } }

/-- T21 at a boundary: running scans complete, instance state is retained, forces end, and what waited is answered MODE. -/
def State.restartNow (s : State) : State :=
  let s := s.retain.releaseForces false
  let s := forAll (s.emp.breqs.filter (fun b => b.kind != .ownerEnrol)) s (fun s b => s.emAnswer b rMode [])
  let r := s.emp.replies
  let s := s.startBy 21 true
  { s with emp := { s.emp with replies := r } }

/-- Take an event (Tables MOD-2 and MOD-3). -/
def State.takeEvent (s : State) (b : Ns) (e : Ev) : State :=
  match e with
  | .tamper => s.enterTamperhold b
  | .critical => s.enterHalt b
  | .nonCritical =>
    if s.boot.mode = .forced then (s.releaseForces true).transit 14 .degraded 6 .mode
    else
      let sb := s.standbyColumn
      let s := s.transit 15 .degraded 6 .mode
      { s with boot := { s.boot with degStandby := sb } }
  | .partnerAbsent => s.takeOver
  | .restart _ => s.restartNow
  | .pinReset => s.startBy 21 false
  | .svcKeyReleased => s.freshWarmup 18

/-- The first boundary after LOADING (R41, Table MOD-3): WARMUP by T3, or TAMPERHOLD in its place; rows begin. -/
def State.firstBoundary (s : State) (b : Ns) : State :=
  let s := if !s.boot.toTamperhold then (s.transit 3 .warmup 1 .mode).warmupBegins
    else if s.boot.tamperAseq = 0 then s.transit 5 .tamperhold 7 .sec
    else
      let s := { s with boot := { s.boot with mode := .tamperhold } }
      s.bbxQueue (s.bbxRec .sec 0x0001 s.boot.tamperAseq [BitVec.ofNat 8 Mode.loading.code, BitVec.ofNat 8 Mode.tamperhold.code, 5#8])
  let s := s.startRows b
  { s with cap := { s.cap with ringFrom := b } }

/-- The regions whose loss exceeds the spare margin since the last digest (R304). -/
def State.marginLost (s : State) : Bool :=
  (List.range 4).any (fun r => s.margin r == 2 && fld s.sch.digest (361 + 2 * r) (360 + 2 * r) != 2)

/-- The transition that a boundary takes from its events (R44): the first in order; the others are counted, and stand to be
evaluated against the new mode at the next boundary. True when one has been taken. -/
def State.takeEvents (s : State) (b : Ns) : State × Bool :=
  let es := s.boot.evs ++ (if s.marginLost then [Ev.nonCritical] else []) ++ (if s.takeoverDue then [Ev.partnerAbsent] else [])
  let evs := s.boot.evs
  let s := { s with boot := { s.boot with evs := [] } }
  match s.pickEvent es with
  | some e =>
    let s := ({ s with boot := { s.boot with evs := evs.erase e } }).bumpBy (ck .modeRefused) (es.length - 1)
    let t := s.takeEvent b e
    (if t.beatsRun then t.modeEntered else t, true)
  | none => (s.bumpBy (ck .modeRefused) es.length, false)

/-! Requests of management (R27, R437). -/

/-- Refuse a request for the mode it meets at its boundary (R42, R44). -/
def State.refuseMode (s : State) (b : BReq) : State := s.refuseEvent.emAnswer b rMode []

/-- A force (Table LOG-10); the first takes T12. -/
def State.boundaryForce (s : State) (taken : Bool) (b : BReq) (obj : Nat) (apply : State → State) : State × Bool :=
  let m := s.boot.mode
  if (m ≠ .active ∧ m ≠ .forced) ∨ (m = .active ∧ taken) then (s.refuseMode b, taken)
  else if !s.forceFits obj then (s.bump (ck .forcesRefused), taken)
  else
    let s := apply s
    if m = .active then ((s.transit 12 .forced 4 .mode).modeEntered, true) else (s, taken)

/-- The release of a force. -/
def State.boundaryUnforce (s : State) (taken : Bool) (b : BReq) (apply : State → State) : State × Bool :=
  if s.boot.mode = .active ∨ s.boot.mode = .forced then (apply s, taken) else (s.refuseMode b, taken)

/-- A force request of a variable waits for the scan boundary of its task. -/
def State.askForce (s : State) (obj : Nat) (v : Option Word) : State :=
  { s with logic := { s.logic with forceReq := s.logic.forceReq ++ [(obj, v)] } }

/-- REPLAY_START at its boundary (T17, R452). -/
def State.boundaryReplay (s : State) (taken : Bool) (b : BReq) (bd : Ns) (r : ReplaySt) : State × Bool :=
  let m := s.boot.mode
  let enters : Bool := (m == .active && !s.paired) || (m == .standby && s.paired)
  if !(enters && !taken) && m != .replay then (s.refuseMode b, taken)
  else if r.p0 < bd + 1000000000 then (s.emAnswer b rRange (natBe 4 12), taken)
  else
    let start (s : State) : State := { s with swage := { s.swage with replay := some r } }
    if m = .replay then ((start s).emAnswer b rOk [], taken)
    else
      let s := ((s.restartOsc s.dt).replayIsl.transit 17 .replay 4 .mode).modeEntered
      ((start s).emAnswer b rOk [], true)

/-- RELEASE_CELL at its boundary (R305): the first condition that fails is named. -/
def State.boundaryRelease (s : State) (b : BReq) (c : Nat) (ok : Bool) : State :=
  let x := s.cell c
  let fault : Nat := if !ok then 1 else if x.faultNow then 2 else if s.boot.mode = .halt then 3 else if x.svc ≠ .quarantined then 4 else 0
  if fault ≠ 0 then (s.bump (ck1 .releasesRefused (regionOf c))).emAnswer b rRefused (natBe 4 fault)
  else (s.modCell c (fun x => { x with svc := .inService, faults := [], quarNext := false })).emAnswer b rOk []

/-- HOLDOVER at its boundary (R149): HOLDOVER begins where a forced holdover takes effect (R146). -/
def State.boundaryHoldover (s : State) (b : BReq) (on : Bool) : State :=
  let m := s.boot.mode
  if !on then (({ s with time := { s.time with forcedHo := false } }).latchTsw).emAnswer b rOk []
  else if m ≠ .active ∧ m ≠ .standby ∧ m ≠ .takeover ∧ m ≠ .degraded ∧ m ≠ .forced then s.refuseMode b
  else if s.time.neverLocked then s.emAnswer b rRefused (natBe 4 0)
  else (({ s with time := { s.time with forcedHo := true } }).beginHoldover.latchTsw).emAnswer b rOk []

/-- SHED at its boundary (R308): an inhibit that meets thermal level 2 or 3 is a conflict. -/
def State.boundaryShed (s : State) (b : BReq) (lvl : Nat) (inhibit : Bool) : State :=
  let s := { s with sch := { s.sch with shedReq := lvl, inhibit := inhibit } }
  let s := if inhibit then forAll ((List.range 4).filter (fun r => decide (2 ≤ s.sens.level.getD r 0))) s (fun s r => s.thermalConflict r) else s
  s.emAnswer b rOk []

/-- HANDOVER at each boundary until E (R403): T11 at E when ACCEPT has come; CANCEL one beat before E when it has not. The flag
says that the request waits on. -/
def State.boundaryHandover (s : State) (taken : Bool) (b : BReq) (bd : Ns) : State × Bool × Bool :=
  let cancel (e : Ns) : State :=
    ((s.modPair (fun p => { p with handover := none })).urgent (s.roleBody 3 e)).emAnswer b rRefused (natBe 4 0)
  match s.pair.handover with
  | none => (s.emAnswer b rRefused (natBe 4 0), taken, false)
  | some (e, acc) =>
    if s.boot.mode ≠ .active ∨ s.pair.role ≠ .primary then (cancel e, taken, false)
    else if e ≤ bd then
      if acc && !taken then
        let s := (s.transit 11 .standby 2 .mode).setRole .standby
        (s.modeEntered.emAnswer b rOk [], true, false)
      else (cancel e, taken, false)
    else if !acc && decide (e ≤ nextBoundary bd) then (cancel e, taken, false)
    else (s, taken, true)

/-- The first named slot without a committed half written since the tamper. -/
def State.rekeyFails (s : State) : Option Nat :=
  s.namedSlots.find? (fun k => match (s.vslot k).half with | some h => !h.fresh | none => true)

/-- REKEY_DONE at its boundary (T20, R431). -/
def State.boundaryRekey (s : State) (taken : Bool) (b : BReq) : State × Bool :=
  if s.boot.mode ≠ .tamperhold ∨ taken then (s.refuseMode b, taken)
  else match s.rekeyFails with
    | some k => ((s.bump (ck .rekeyRefusals)).emAnswer b rRefused (natBe 4 k), taken)
    | none =>
      let s := { s with vault := { s.vault with tampered := false }, boot := { s.boot with toTamperhold := false, tamperAseq := 0 } }
      ((s.freshWarmup 20).modeEntered.emAnswer b rOk [], true)

/-- A change set of a pair (R394): answered once the partner has acknowledged it, refused when the partner found a fault. -/
def State.boundarySet (s : State) (b : BReq) (at_ : Ns) : State × Bool :=
  match s.emp.sets.find? (fun x => x.at_ == at_ && !x.fromPartner) with
  | none => ((s.bump (ck .changeSetsRefused)).emAnswer b rRange (natBe 4 0), false)
  | some x => if x.carried then (s, true) else (s.emAnswer b rAccepted (natBe 8 (tim1 at_)), false)

/-- One request at its boundary, whose DT is `bd`: the state, whether a transition has been taken, and whether the request waits on.
The window of a location run that is asked for here ends at `bd` (R252; DESIGN CHOICE, log entry 69). -/
def State.takeRequest (s : State) (taken : Bool) (bd : Ns) (b : BReq) : State × Bool × Bool :=
  let gone (r : State × Bool) : State × Bool × Bool := (r.1, r.2, false)
  match b.kind with
  | .force obj v => gone (s.boundaryForce taken b obj (fun s => s.askForce obj (some v)))
  | .unforce obj => gone (s.boundaryUnforce taken b (fun s => s.askForce obj none))
  | .forceDo d (some v) => gone (s.boundaryForce taken b (doObject d) (fun s => s.applyDoForce d v))
  | .forceDo d none => gone (s.boundaryUnforce taken b (fun s => s.releaseDoForce d))
  | .replayStart r => gone (s.boundaryReplay taken b bd r)
  | .replayStop =>
    if s.boot.mode = .replay ∧ taken = false then (((s.freshWarmup 18).modeEntered).emAnswer b rOk [], true, false)
    else (s.refuseMode b, taken, false)
  | .flush g =>
    if (s.wq g).faultNow then (s.emAnswer b rRefused (natBe 4 0), taken, false)
    else ((s.flushGroup g).emAnswer b rOk [], taken, false)
  | .releaseCell c ok => (s.boundaryRelease b c ok, taken, false)
  | .holdover on => (s.boundaryHoldover b on, taken, false)
  | .shed lvl inhibit => (s.boundaryShed b lvl inhibit, taken, false)
  | .trigger mask =>
    ((s.takeTrig { dt := bd, sub := 0, reach := s.dt, kind := 6, src := 0xFF, mask := mask, drive := false, tsw := s.time.tsw,
                   queued := false }).emAnswer b rOk [], taken, false)
  | .locate l f => ((s.trigLoc l 0xFFFF f bd).emAnswer b rOk [], taken, false)
  | .handover => s.boundaryHandover taken b bd
  | .rekey => gone (s.boundaryRekey taken b)
  | .changeSet at_ => let r := s.boundarySet b at_; (r.1, taken, r.2)
  | .ownerEnrol => (s, taken, true)

/-- Every request that waits, in order of arrival; those that wait on are kept. -/
def State.takeRequests (bd : Ns) : List BReq → State → Bool → State × Bool
  | [], s, taken => (s, taken)
  | b :: bs, s, taken =>
    let r := s.takeRequest taken bd b
    let s := if r.2.2 then { r.1 with emp := { (r.1).emp with breqs := (r.1).emp.breqs ++ [b] } } else r.1
    State.takeRequests bd bs s r.2.1

/-! Transitions that follow conditions of the device's own (T7, T8, T10, T13). -/

/-- WARMUP may end (R52, R53, R396): every mandatory function has converged or the timeout has expired, in a role that
leaves it. -/
def State.warmupDone (s : State) : Bool :=
  s.boot.mode == .warmup && (s.unconvergedFns.isEmpty || s.boot.timedOut) && (!s.paired || s.pair.role == .primary || s.pair.role == .standby)

/-- T7 or T8 (R53, R80, R81): an item for each function that the timeout left unconverged, and the slot marked GOOD. -/
def State.leaveWarmup (s : State) : State :=
  let fns := s.unconvergedFns
  -- DESIGN CHOICE (log entry 53): level 4 for each function's item, for which R53 gives the class alone
  let lvl := if fns.isEmpty then 1 else 4
  let s := if s.paired && s.pair.role == .standby then s.transit 8 .standby lvl .mode else s.transit 7 .active lvl .mode
  let s := forAll fns s (fun s _ => s.post 4 .unit 0x00010001 0)
  ({ s with boot := { s.boot with timedOut := false } }).markGood

/-- Every output stream in use that has a LAUNCH entry has published one tag in TAKEOVER (T10). -/
def State.allPublished (s : State) : Bool :=
  (s.outs.filter (fun n => outStreamAlarm (s.rec_ .outStream n) != 1 && (s.launchRegion n).isSome)).all (fun n => (s.pubStream n).published)

/-- The transitions of the device's own conditions, when no other has been taken. -/
def State.ownTransitions (s : State) : State :=
  if s.boot.mode = .forced ∧ s.noForce then (s.transit 13 .active 2 .mode).modeEntered
  else if s.warmupDone then s.leaveWarmup.modeEntered
  else if s.boot.mode = .takeover ∧ s.allPublished then (s.transit 10 .active 1 .mode).modeEntered
  else s

/-- The mode transition and the management requests of a boundary (R44, Sequence SCH-1); an item of LOADING takes its first
boundary instead. -/
def State.boundaryModes (s : State) (bd : Ns) : State :=
  let r := if s.boot.mode = .loading then (({ s with boot := { s.boot with evs := [] } }).firstBoundary bd, true) else s.takeEvents bd
  if !(r.1).beatsRun then r.1
  else
    let bs := (r.1).emp.breqs
    let q := State.takeRequests bd bs { r.1 with emp := { (r.1).emp with breqs := [] } } r.2
    if q.2 then q.1 else (q.1).ownTransitions

end Sys2Proof.Machine
end

