-- ==== Sys2Proof/Machine/Boundary.lean ====
section
/-! DEFINITION. The beat boundary (R283, Sequence SCH-1) and POST_ROOM_AVAILABLE (R299). -/

namespace Sys2Proof.Machine

/-! Change sets and what else applies at a boundary (R84, R394, R420). -/

/-- A CHANGE frame still unacknowledged at the boundary before B: the set applies here alone (R394). -/
def State.uncarried (s : State) (bd : Ns) : State :=
  let late (x : SetDue) : Bool := x.carried && decide (x.at_ ≤ nextBoundary bd)
  let n := (s.emp.sets.filter late).length
  let s := { s with emp := { s.emp with sets := s.emp.sets.map (fun (x : SetDue) => if late x then { x with carried := false } else x) } }
  forAll (List.range n) s (fun s _ => (s.bump (ck .unmirrored)).postFor 4 .unit (ck .unmirrored) 0)

/-- Apply one due set (R84, R320): a set of the logic program alone waits for the scan boundary of its task; a mixed one for a
boundary with no scan of the task running or waiting, which is a scan boundary of the task too: there it takes its place among
the task's sets in order of acceptance. -/
def State.applyDue (s : State) (x : SetDue) : State :=
  match s.ovTasks x.entries with
  | [] => s.ovApply x.entries
  | t :: _ =>
    if allLogic x.entries then s.orderSet t x
    else if s.scanRunning t || s.scanWaiting t then s.keepSet x
    else (s.orderSet t x).scanBoundary t

/-- The change sets due at a boundary, in order of acceptance. -/
def State.applySets (s : State) (bd : Ns) : State :=
  let due := s.emp.sets.filter (fun x => decide (x.at_ ≤ bd))
  forAll due { s with emp := { s.emp with sets := s.emp.sets.filter (fun x => !decide (x.at_ ≤ bd)) } } (fun s x => s.applyDue x)

/-- What a boundary applies after its requests: change sets and range moves (R37, R84), subscribers (R376), pending keys (R420) and the
watermarks. -/
def State.boundaryMoves (s : State) (bd : Ns) : State :=
  let s := ((s.applySets bd).applySubs.clampServo).commitKeys
  forAll (List.range 4) s (fun s g => s.evalHold g)

/-! Sensors and shedding (R307-R309, R464). -/

/-- A region's temperature in 1/16 °C: the higher reading of its two sensors that are not ignored; none when both are. -/
def State.regionTemp (s : State) (r : Nat) : Option Int :=
  match ([2 * r, 2 * r + 1].filter (fun i => !s.sens.bad.contains i)).map (fun i => s.sens.temps.getD i 0) with
  | [] => none
  | t :: ts => some (ts.foldl max t)

/-- Threshold of a thermal level in 1/16 °C. -/
def State.thermalTh (s : State) (l : Nat) : Int :=
  let h := s.rec_ .dispHdr 0
  (((if l = 1 then dispHdrTh1 h else if l = 2 then dispHdrTh2 h else dispHdrTh3 h) * 16 : Nat) : Int)

/-- The level that a temperature reaches: 3 with both sensors ignored. -/
def State.levelFor (s : State) (t : Option Int) : Nat :=
  match t with
  | none => 3
  | some t => if s.thermalTh 3 ≤ t then 3 else if s.thermalTh 2 ≤ t then 2 else if s.thermalTh 1 ≤ t then 1 else 0

/-- Take the readings of a beat: the runs of unchanged readings and of 118 °C and above. -/
def State.readSensors (s : State) (b : BoundaryIn) : State :=
  let x := s.sens
  let new : List Int := (List.range 8).map (fun i => b.temps.getD i (x.temps.getD i 0))
  { s with sens := { x with
      temps := new
      railMv := (List.range 6).map (fun i => b.rails.getD i (x.railMv.getD i 0))
      still := (List.range 8).map (fun i => if new.getD i 0 = x.temps.getD i 0 then x.still.getD i 0 + 1 else 0)
      hot := (List.range 8).map (fun i => if 118 * 16 ≤ new.getD i 0 then x.hot.getD i 0 + 1 else 0) } }

/-- A region's thermal level and TEMP_HIGH latch at a boundary (R307, R465): it rises at once; its fall is counted towards. -/
def State.thermal (s : State) (r : Nat) : State :=
  let t := s.regionTemp r
  let old := s.sens.level.getD r 0
  let new := max old (s.levelFor t)
  let below := match t with
    | some t => if decide (0 < old) && decide (t < s.thermalTh old - 80) then s.sens.below.getD r 0 + 1 else 0
    | none => 0
  let s := { s with sens := { s.sens with level := setAt s.sens.level r new, below := setAt s.sens.below r (if old < new then 0 else below) } }
  let s := if old < new then s.bump (ck1 .thermalEntries r) else s
  let s := if s.sch.inhibit && decide (old < 2) && decide (2 ≤ new) then s.thermalConflict r else s
  match t with
  | some t =>
    let w := BitVec.ofInt 32 t
    if 112 * 16 ≤ t then s.crossLatch (28 + r) w (BitVec.ofNat 32 (112 * 16)) else if latchReleased (28 + r) t then s.releaseLatch (28 + r) else s
  | none => s

/-! Budgets (R292, R303). -/

/-- One class's budget at a boundary: its budget, nothing while it is shed, less its debt, which one beat's budget caps; and whether it
carried debt. -/
def refreshed (own left : Cost) (shed : Bool) : Cost × Bool :=
  let debt := ((Cost.zero.minus left).pos).least own
  ((if shed then Cost.zero else own).minus debt, !debt.none)

/-- Refresh every budget of a region; each class that carried debt counts an overrun. -/
def State.refreshBudgets (s : State) (r : Nat) : State :=
  let g := s.reg r
  let all : List (Cost × Bool) := (List.range 32).map (fun c =>
    refreshed (budgetCost (s.budgetRec r c)) (g.budgets.getD c Cost.zero) (g.shed.contains c))
  let s := s.modReg r (fun g => { g with budgets := all.map (fun e => e.1), spare := budgetCost (s.budgetRec r 0xFF) })
  forAll ((List.range 32).filter (fun c => (all.getD c (Cost.zero, false)).2)) s (fun s c => s.bumpOnce (ck2 .overruns r c) 3 .unit)

/-- Cells that go out of service at this boundary (R22); a region whose loss then exceeds its margin reports it, and T14 or T15
follows at the next boundary (R304). -/
def State.quarantine (s : State) : State :=
  let before := (List.range 4).map (fun r => s.margin r)
  let gone := (List.range 64).filter (fun c => (s.cell c).quarNext)
  let s := forAll gone s (fun s c =>
    (s.modCell c (fun x => { x with svc := if x.svc = .inService then .quarantined else x.svc, quarNext := false })).bump
      (ck1 .quarantines (regionOf c)))
  if (List.range 4).any (fun r => s.margin r == 2 && before.getD r 0 != 2) then s.nonCritical else s

/-- Charge what the delta frames and the management reads of the beat that ends have used to MIRROR and MGMT (Table SCH-1); the
rules name no region, RG0 is the model's (DESIGN CHOICE, log entry 71). -/
def State.chargeOwed (s : State) : State :=
  let s := (s.charge 0 8 { cycles := 0, dram := 0, flits := ((s.pair.owed + 31) / 32 : Nat), egress := 0 }).charge 0 9 (dramCost s.emp.owed)
  { s with pair := { s.pair with owed := 0 }, emp := { s.emp with owed := 0 } }

/-- Thermal level, shed state and budgets of every region, then the cells (Sequence SCH-1). -/
def State.boundaryGuard (s : State) (b : BoundaryIn) : State :=
  let s := s.chargeOwed
  let s := forAll (List.range 4) (s.readSensors b) (fun s r => s.thermal r)
  let s := forAll (List.range 4) s (fun s r => (s.reshed r).refreshBudgets r)
  s.quarantine

/-! Row entries (R282, R299). -/

/-- A LAUNCH, COPYOUT or HISTORY entry carried out (Table SCH-2); a shed class's is discarded and counted (R309). -/
def State.rowOp (s : State) (r op n arg : Nat) (bd : Ns) : State :=
  let cls := if op = 2 then 3 else if op = 3 then 7 else 4
  if s.shed r cls then s.bump (ck2 .shedDiscards r cls)
  else if op = 2 then s.launch r n arg bd
  else if op = 3 then s.copyOut r n arg
  else s.commitRows r bd arg

/-- A row has a stalled entry (Table SCH-9). -/
def State.rowStalled (s : State) (r : Nat) : Bool := (s.reg r).stalled.any (fun p => p.1.isRow)

/-- An entry that stands behind a stalled post of its row. -/
def rowWait (r op n arg : Nat) (row : Nat) (posted : Ns) : PostSrc × Item :=
  (.row op,
   { template := n, cls := if op = 2 then 3 else if op = 3 then 7 else 4, prio := 0, origin := 0, region := r, reissued := false,
     firstCell := 0, arg := arg, due := 0, posted := posted, seq := 0, row := row, ctx := .plain, waited := false, late := false, written := false })

/-- The tick of a boundary of the present beat. -/
def State.tickAt (s : State) (bd : Ns) : Nat := (s.lts - (s.dt - bd)) / 1000

/-- One entry of a row (R282): a post or delay whose SEC_DIV lets it act in this second, or another operation. -/
def State.rowEntryAct (s : State) (r row : Nat) (bd : Ns) (e : Nat) : State :=
  let p := s.rec_ .post (postIndex r row e)
  let op := postOp p
  let n := postTemplate p
  let sec := bd / 1000000000
  if postValid p = 0 ∨ 4 < op then s
  else if op ≤ 1 then
    if sec % templateSecDiv (s.tmpl n) ≠ 0 then s
    else
      let due := if op = 1 then (s.tickAt bd + postArg p) % 2 ^ 32 else 0
      let i := s.newItem r n (postClass p) (postPriority p) op (postArg p) due row .plain
      (i.1).postItem (.row op) i.2
  else if s.rowStalled r then s.modReg r (fun g => { g with stalled := g.stalled ++ [rowWait r op n (postArg p) row s.dt] })
  else s.rowOp r op n (postArg p) bd

/-- Posts of the last row that found no place are discarded and counted (Table SCH-9). -/
def State.dropUnplaced (s : State) (r : Nat) : State :=
  let rows := (s.reg r).stalled.filter (fun p => p.1.isRow)
  let s := s.modReg r (fun g => { g with stalled := g.stalled.filter (fun p => !p.1.isRow) })
  forAll rows s (fun s p => match p.1 with
    | .row op => if op ≤ 1 then (s.bumpOnce (ck1 .discardedPosts r) 5 .unit).trace 7 p.2 0 2 else s
    | _ => s)

/-- Step a region's row (R281): row k mod PERIOD, its entries in order. -/
def State.stepRow (s : State) (k : Nat) (bd : Ns) (r : Nat) : State :=
  let s := s.dropUnplaced r
  let row := k % beatHdrPeriod (s.rec_ .beatHdr r)
  let s := s.modReg r (fun g => { g with row := row, rowAt := s.lts })
  forAll (List.range 64) s (fun s e => s.rowEntryAct r row bd e)

/-! Sets of a replay (R190, T17; log entry 43). -/

/-- The row of a tag as history holds it in a region. -/
def State.replayRow (s : State) (r : Nat) (t : Ns) : Row :=
  { tag := t, seq := 0, slot := 0, entries := (s.slice r).hist.filterMap (fun h => match h.2 with
      | .entry e _ => if e.val.tag = t then some e else none
      | .commit _ => none)
    retired := false, groups := [], sets := [], short := false, conflicts := 0, places := none }

/-- Close the watch groups of a replayed row. -/
def State.replayGroups (s : State) (r : Nat) (w : Row) : State :=
  forAll ((s.regionGroups r).filter (fun g => onGrid (rateOf (groupSetRate (s.rec_ .group g))) w.tag)) s (fun s g =>
    let ms := (s.groupMembers g).map (fun c => s.memberAt w c (w.tag + groupQWait (s.rec_ .group g) * 1000))
    s.groupClosed { group := g, tag := w.tag, short := ms.any (fun m => !m.valid), closed := s.dt, members := ms } w.slot)

/-- Close a region's parts of the output sets on a replayed row. -/
def State.replayParts (s : State) (r : Nat) (w : Row) : State :=
  forAll (s.outs.filter (fun n => outStreamAlarm (s.rec_ .outStream n) != 1 && s.holdsPart n r &&
      onGrid (rateOf (outSetSetRate (s.rec_ .outSet n))) w.tag)) s (fun s n =>
    let before := w.tag + outSetWait (s.rec_ .outSet n) * 1000
    let chans := (s.contentChans n).filter (fun c => chanSource (s.rec_ .chan c) != 7 && s.chanRegion c == r)
    let ana := if s.launchRegion n = some r then
        ((s.contentChans n).filter (fun c => chanSource (s.rec_ .chan c) == 7)).map (fun c => s.anaMember c w.tag) else []
    { s with align := { s.align with outParts := s.align.outParts ++
        [{ set := n, region := r, tag := w.tag, members := chans.map (fun c => s.memberAt w c before) ++ ana, frames := [] }] } })

/-- The row tags of a region from a to b. -/
def State.replayTags (s : State) (r : Nat) (a b : Ns) : List Ns :=
  let rate := s.rowRate r
  let k := gridFrom rate a
  if b < gridPoint rate k then [] else (List.range (gridIndex rate b + 1 - k)).map (fun i => gridPoint rate (k + i))

/-- The history time that a boundary of REPLAY has reached. -/
def ReplaySt.histAt (x : ReplaySt) (bd : Ns) : Ns := x.h0 + min (bd - x.p0) (x.lengthMs * 1000000)

/-- The rows of REPLAY whose history time has been reached, released again. -/
def State.feedRows (s : State) (x : ReplaySt) (h : Ns) : State :=
  forAll (List.range 4) s (fun s r => forAll (s.replayTags r x.upTo h) s (fun s t =>
    (s.replayGroups r (s.replayRow r t)).replayParts r (s.replayRow r t)))

/-- The scans of the sets whose history time has been reached. -/
def State.feedScans (s : State) (x : ReplaySt) (h : Ns) : State :=
  forAll (((s.align.outParts.filter (fun p => decide (x.upTo ≤ p.tag) && decide (p.tag ≤ h))).map (fun p => (p.set, p.tag))).eraseDups) s
    (fun s e => s.postScan e.1 e.2)

/-- Feed analytics and logic the sets whose history time a boundary of REPLAY has reached. -/
def State.feedReplay (s : State) (bd : Ns) : State :=
  match s.swage.replay with
  | none => s
  | some x =>
    if s.boot.mode ≠ .replay ∨ bd < x.p0 then s
    else
      let s := (s.feedRows x (x.histAt bd)).feedScans x (x.histAt bd)
      { s with swage := { s.swage with replay := some { x with upTo := x.histAt bd + 1 } } }

/-! The end of a boundary. -/

/-- The gates of the alarm-map members as they now stand (R371). -/
def State.regateAlarms (s : State) : State :=
  forAll (s.outs.filter (fun n => outStreamAlarm (s.rec_ .outStream n) == 1)) s (fun s n =>
    forAll (List.range (s.outMembers n).length) s (fun s m =>
      s.setMember n m (s.gateMember n m ((s.pubStream n).members.getD m { v := 0, q := 0 })) 0))

/-- State of a cell in the digest (Table SCH-11). -/
def cellCode (x : CellSt) : Nat :=
  match x.svc with
  | .lost => 3
  | .quarantined => 1
  | .inService => if x.resv = 0xFF then 0 else 2

/-- A number read high part first from parts of one width, the last part lowest. -/
def packParts (w : Nat) (xs : List Nat) : Nat := xs.foldl (fun n x => n * 2 ^ w + x) 0

/-- The state digest of a boundary (Table SCH-11). -/
def State.digestNow (s : State) (bd : Ns) : Nat :=
  let regs (f : Nat → Nat) : List Nat := [f 3, f 2, f 1, f 0]
  let lost (b : Nat) : Bool := decide (1 < ((List.range 4).filter (fun i => (s.cell (4 * b + i)).svc != .inService)).length)
  let body := packParts 2 ((List.range 64).map (fun i => cellCode (s.cell (63 - i)))) * 2 ^ 384 +
    packParts 1 ((List.range 16).map (fun i => b2n (lost (15 - i)))) * 2 ^ 368 +
    packParts 2 (regs s.margin) * 2 ^ 360 + packParts 6 (regs (fun r => (s.reg r).shedLevel)) * 2 ^ 336 +
    packParts 2 (regs (fun r => s.sens.level.getD r 0)) * 2 ^ 328 + s.boot.mode.code * 2 ^ 324 + tim1 bd * 2 ^ 256
  body + (crc32c ((natBe 64 body).take 60)).toNat

/-- Latch the digest (R310); a shadow that disagrees with two in a row is reported and replaced. -/
def State.latchDigest (s : State) (bd : Ns) (agrees : Bool) : State :=
  let d := s.digestNow bd
  if agrees then { s with sch := { s.sch with digest := d, shadow := d, disagree := 0 } }
  else if s.sch.disagree = 0 then { s with sch := { s.sch with digest := d, disagree := 1 } }
  else
    let payload := natBe 64 s.sch.shadow ++ natBe 64 d
    let s := (s.bump (ck .shadowDisagreements)).bbxWith 4 .unit (ctrObject (ck .shadowDisagreements)) 0 0x0011 payload
    { s with sch := { s.sch with digest := d, shadow := d, disagree := 0 } }

/-- A boundary begins its beat: the time-status word is latched (R151), what a read of a counter returns in it is the value of
now (R13, R446), and no event of it has come (R12, R26). -/
def State.boundaryBegin (s : State) : State :=
  { s with
    time := (s.latchTsw).time
    ctrs := s.ctrs.map (fun e => (e.1, { e.2 with now := 0 }))
    ctrsAt := s.ctrs.map (fun e => (e.1, e.2.val))
    attn := s.attn.newBeat, partnerLog := s.partnerLog.newBeat
    sens := { s.sens with seenNow := 0 }
    swage := { s.swage with queues := s.swage.queues.map (fun (q : QueueSt) => { q with holdNow := false }) }
    sch := { s.sch with worst := 0 } }

/-- What every boundary ends with: the digest, the boundary's place, and the faults that its requests were held against (R27). -/
def State.boundaryEnd (s : State) (k : Nat) (bd : Ns) (agrees : Bool) : State :=
  let s := (s.latchDigest bd agrees).burnEpoch
  { s with
    swage := { s.swage with queues := s.swage.queues.map (fun (q : QueueSt) => { q with faultNow := false }) }
    sch := { s.sch with beat := some (k, bd), beats := s.sch.beats + 1
                        cells := s.sch.cells.map (fun (c : CellSt) => { c with faultNow := false }) } }

/-- The pair at a boundary, before the mode machine (R395-R397). -/
def State.boundaryPaths (s : State) : State :=
  if !s.paired || !s.beatsRun then s
  else
    let fresh := s.pair.digestFresh
    let s := (s.judgePaths.roleDecision fresh).unknownPaths
    if s.splitSeen then s else s.modPair (fun p => { p with split := false })

/-- The work of a boundary while sequencers run: due items, islanding, oscillation, quorums, replayed sets, rows, and what rests on
them. -/
def State.boundaryWork (s : State) (k : Nat) (bd : Ns) : State :=
  let s := forAll (List.range 4) s (fun s r => s.moveDelay r)
  let s := ((s.islBoundary.oscBoundary.noteParams k bd).adoptMirror).countIdle
  let s := forAll (List.range 4) s (fun s r => s.evalAll r)
  let s := forAll (List.range 4) (s.feedReplay bd) (fun s r => s.stepRow k bd r)
  s.regateAlarms.captureBoundary

/-- A beat boundary, k-th of its DT second, at `bd` (Sequence SCH-1). -/
def State.beatBoundary (s : State) (b : BoundaryIn) (k : Nat) (bd : Ns) : State :=
  let s := { s with emp := { s.emp with replies := [] } }.boundaryBegin
  let s := ((s.uncarried bd).boundaryPaths).boundaryModes bd
  if !s.beatsRun then s
  else
    let s := (s.boundaryMoves bd).boundaryGuard b
    let s := if s.steps then s.boundaryWork k bd else s.captureBoundary
    let s := if s.paired then s.woideSend s.digestBody else s
    s.boundaryEnd k bd b.shadowAgrees

/-- A beat strobe falls now: beats run or are about to, and the boundary of the present beat has not been acted on (R156, R41). -/
def State.boundaryDue (s : State) : Bool :=
  s.boot.rails && s.boot.island && (s.beatsRun || (s.boot.mode == .loading && s.boot.running)) &&
  (match s.sch.beat with | some (_, l) => decide (l < s.presentBoundary.2) | none => true)

/-- BEAT_BOUNDARY (R283). -/
def execBeatBoundary (b : BoundaryIn) (s : State) : Host.Outcome State Fault Refusal :=
  .next (if s.boundaryDue then s.beatBoundary b s.presentBoundary.1 s.presentBoundary.2 else s)

/-! Room (R299). -/

/-- Take the first stalled entry of a kind off the list. -/
def State.unstall (s : State) (r : Nat) (row : Bool) : State :=
  s.modReg r (fun g => { g with stalled := g.stalled.eraseP (fun p => p.1.isRow == row) })

/-- A row post placed later than 20 µs after its boundary is late (Table SCH-9). -/
def State.noteLate (s : State) (r : Nat) : State :=
  if (s.reg r).rowAt + 20000 < s.lts then s.bumpOnce (ck1 .latePosts r) 4 .unit else s

/-- Place stalled entries of a sequencer (row) or of a slice in order, as far as there is room. -/
def State.placeStalled (r : Nat) (row : Bool) (bd : Ns) : Nat → State → State
  | 0, s => s
  | n + 1, s =>
    match (s.reg r).stalled.find? (fun p => p.1.isRow == row) with
    | none => s
    | some p =>
      let other : Option Nat := match p.1 with | .row op => if 2 ≤ op then some op else none | _ => none
      match other with
      | some op => State.placeStalled r row bd n ((s.unstall r row).rowOp r op p.2.template p.2.arg bd)
      | none =>
        if s.postRoom p.1 p.2 then
          let s := (s.unstall r row).postNow p.1 p.2
          State.placeStalled r row bd n (if row then s.noteLate r else s)
        else s

/-- POST_ROOM_AVAILABLE (R299, Table SCH-9): stalled posts are placed as room appears. -/
def execPostRoomAvailable (r : Region) (s : State) : Host.Outcome State Fault Refusal :=
  .next (if s.steps then
    let n := (s.reg r.val).stalled.length
    let bd := match s.sch.beat with | some (_, b) => b | none => s.dt
    State.placeStalled r.val false bd n (State.placeStalled r.val true bd n s)
  else s)

end Sys2Proof.Machine
end

