-- ==== Sys2Proof/Machine/Tap.lean ====
section
/-! DEFINITION. The test access port (R498, R499, Table ELE-11). -/

namespace Sys2Proof.Machine

/-- What the test access port does to the balls of the boundary chain. -/
inductive TapInstr where
  | extest | idcode | samplePreload | highz | clamp | bypass
  deriving DecidableEq, Repr

/-- The instruction that a code selects (Table ELE-11): EXTEST, HIGHZ and CLAMP in UNCONFIGURED only, every other code
BYPASS. -/
def tapInstr (code : BitVec 8) (m : Mode) : TapInstr :=
  let free : Bool := m == .unconfigured
  match code.toNat with
  | 0x00 => if free then .extest else .bypass
  | 0x01 => .idcode
  | 0x02 => .samplePreload
  | 0x07 => if free then .highz else .bypass
  | 0x08 => if free then .clamp else .bypass
  | _ => .bypass

/-- The instruction in effect. -/
def State.tapNow (s : State) : TapInstr := tapInstr s.tap.ir s.boot.mode

/-- IDCODE (R498). -/
def tapIdcode : BitVec 32 := 0x181920FF#32

/-- What drives the balls of the chain: the device, the cells of the chain, or nothing. -/
inductive BallDrive where
  | device
  | cells (c : BitVec 279)
  | none
  deriving DecidableEq, Repr

/-- The drive of the chain's balls (R499): an instruction that the table does not allow never changes a ball. -/
def State.ballDrive (s : State) : BallDrive :=
  match s.tapNow with
  | .extest | .clamp => .cells s.tap.cells
  | .highz => .none
  | _ => .device

/-- TAP_INSTRUCTION_UPDATE (R498). -/
def execTapInstructionUpdate (code : BitVec 8) (s : State) : Host.Outcome State Fault Refusal :=
  .next { s with tap := { s.tap with ir := code } }

/-- TAP_DATA_UPDATE (R499): under EXTEST or SAMPLE/PRELOAD the chain's cells are loaded. -/
def execTapDataUpdate (data : BitVec 279) (s : State) : Host.Outcome State Fault Refusal :=
  .next (if s.tapNow = .extest ∨ s.tapNow = .samplePreload then { s with tap := { s.tap with cells := data } } else s)

/-- TAP_TEST_LOGIC_RESET (R498): IDCODE is selected. -/
def execTapTestLogicReset (s : State) : Host.Outcome State Fault Refusal := .next { s with tap := { s.tap with ir := 0x01 } }

end Sys2Proof.Machine
end

