-- ==== Sys2Proof/Machine/Dispatch.lean ====
section
/-! DEFINITION. The one place where a command meets its meaning: one arm per constructor of `Instr`. -/

namespace Sys2Proof.Machine

/-- A command's effect on everything but the queue. -/
def exec (i : Instr) (s : State) : Host.Outcome State Fault Refusal :=
  match i with
  | .mainRailsFall => Sys2Proof.Machine.execMainRailsFall s
  | .powerOnReset => Sys2Proof.Machine.execPowerOnReset s
  | .pinReset lowNs => Sys2Proof.Machine.execPinReset lowNs s
  | .islandPowerOn => Sys2Proof.Machine.execIslandPowerOn s
  | .islandReset => Sys2Proof.Machine.execIslandReset s
  | .blackBoxScan => Sys2Proof.Machine.execBlackBoxScan s
  | .loadingComplete v => Sys2Proof.Machine.execLoadingComplete v s
  | .loadCheckFail v => Sys2Proof.Machine.execLoadCheckFail v s
  | .powerFailAsserted => Sys2Proof.Machine.execPowerFailAsserted s
  | .powerRestored => Sys2Proof.Machine.execPowerRestored s
  | .tamper sources => Sys2Proof.Machine.execTamper sources s
  | .beatBoundary b => Sys2Proof.Machine.execBeatBoundary b s
  | .postRoomAvailable r => Sys2Proof.Machine.execPostRoomAvailable r s
  | .delayItemDue r => Sys2Proof.Machine.execDelayItemDue r s
  | .dispatch r => Sys2Proof.Machine.execDispatch r s
  | .itemComplete c used => Sys2Proof.Machine.execItemComplete c used s
  | .cellFault c cause => Sys2Proof.Machine.execCellFault c cause s
  | .cellWatchdog c => Sys2Proof.Machine.execCellWatchdog c s
  | .itemLimitReached c => Sys2Proof.Machine.execItemLimitReached c s
  | .uncorrectableError st unit => Sys2Proof.Machine.execUncorrectableError st unit s
  | .correctableError st unit => Sys2Proof.Machine.execCorrectableError st unit s
  | .thermalLevelFall r => Sys2Proof.Machine.execThermalLevelFall r s
  | .warmupTimeout => Sys2Proof.Machine.execWarmupTimeout s
  | .dtLockConverged => Sys2Proof.Machine.execDtLockConverged s
  | .frameReceive p f => Sys2Proof.Machine.execFrameReceive p f s
  | .arpRequest p vid target senderIp senderMac => Sys2Proof.Machine.execArpRequest p vid target senderIp senderMac s
  | .pauseFrame p quanta => Sys2Proof.Machine.execPauseFrame p quanta s
  | .pfcFrame p vector quanta => Sys2Proof.Machine.execPfcFrame p vector quanta s
  | .macControlOther p opcode => Sys2Proof.Machine.execMacControlOther p opcode s
  | .pauseTimerExpiry p q => Sys2Proof.Machine.execPauseTimerExpiry p q s
  | .pauseStall p q => Sys2Proof.Machine.execPauseStall p q s
  | .transmitStart p => Sys2Proof.Machine.execTransmitStart p s
  | .transmitEnd p => Sys2Proof.Machine.execTransmitEnd p s
  | .queueRoomAvailable p q => Sys2Proof.Machine.execQueueRoomAvailable p q s
  | .launchStrobe => Sys2Proof.Machine.execLaunchStrobe s
  | .lateDrop p q => Sys2Proof.Machine.execLateDrop p q s
  | .moduleInserted cage => Sys2Proof.Machine.execModuleInserted cage s
  | .moduleInitDone cage supportsPhy => Sys2Proof.Machine.execModuleInitDone cage supportsPhy s
  | .moduleRemoved x => Sys2Proof.Machine.execModuleRemoved x s
  | .linkUp p => Sys2Proof.Machine.execLinkUp p s
  | .linkDown x => Sys2Proof.Machine.execLinkDown x s
  | .tcpSegment sid seg => Sys2Proof.Machine.execTcpSegment sid seg s
  | .tcpReopen sid => Sys2Proof.Machine.execTcpReopen sid s
  | .tcpRetransmit sid => Sys2Proof.Machine.execTcpRetransmit sid s
  | .tcpAckTimer sid => Sys2Proof.Machine.execTcpAckTimer sid s
  | .tcpConnectionReset sid => Sys2Proof.Machine.execTcpConnectionReset sid s
  | .classifyFrame p u => Sys2Proof.Machine.execClassifyFrame p u s
  | .ptpFrame => Sys2Proof.Machine.execPtpFrame s
  | .pdelayReqTimer p => Sys2Proof.Machine.execPdelayReqTimer p s
  | .gnssSentence x => Sys2Proof.Machine.execGnssSentence x s
  | .gnssPpsEdge falling edgeAgo => Sys2Proof.Machine.execGnssPpsEdge falling edgeAgo s
  | .irigbFrame f => Sys2Proof.Machine.execIrigbFrame f s
  | .timeVote => Sys2Proof.Machine.execTimeVote s
  | .baseStep b => Sys2Proof.Machine.execBaseStep b s
  | .timeRefLost => Sys2Proof.Machine.execTimeRefLost s
  | .triggerEdge input rising subns => Sys2Proof.Machine.execTriggerEdge input rising subns s
  | .rowOpen r => Sys2Proof.Machine.execRowOpen r s
  | .sliceEntry r => Sys2Proof.Machine.execSliceEntry r s
  | .quorumWaitExpiry g => Sys2Proof.Machine.execQuorumWaitExpiry g s
  | .deadlineClose n => Sys2Proof.Machine.execDeadlineClose n s
  | .rowRetire r => Sys2Proof.Machine.execRowRetire r s
  | .rowFinal r => Sys2Proof.Machine.execRowFinal r s
  | .streamStale sid => Sys2Proof.Machine.execStreamStale sid s
  | .sourceCmdTimer sid => Sys2Proof.Machine.execSourceCmdTimer sid s
  | .subscriberCommand => Sys2Proof.Machine.execSubscriberCommand s
  | .laneFrame lane bits crc => Sys2Proof.Machine.execLaneFrame lane bits crc s
  | .wvSyncRelease => Sys2Proof.Machine.execWvSyncRelease s
  | .wvSyncAssert => Sys2Proof.Machine.execWvSyncAssert s
  | .wvClkLost => Sys2Proof.Machine.execWvClkLost s
  | .laneStop lane => Sys2Proof.Machine.execLaneStop lane s
  | .bankHandoff g => Sys2Proof.Machine.execBankHandoff g s
  | .queueWordRead g err => Sys2Proof.Machine.execQueueWordRead g err s
  | .svSampleDeadline sid pos => Sys2Proof.Machine.execSvSampleDeadline sid pos s
  | .estimateRelease ch => Sys2Proof.Machine.execEstimateRelease ch s
  | .fastEstimate ch => Sys2Proof.Machine.execFastEstimate ch s
  | .replayFrameOut lane => Sys2Proof.Machine.execReplayFrameOut lane s
  | .bandUpdate t band => Sys2Proof.Machine.execBandUpdate t band s
  | .locationRunStart set => Sys2Proof.Machine.execLocationRunStart set s
  | .locationResult set => Sys2Proof.Machine.execLocationResult set s
  | .islandEvaluation => Sys2Proof.Machine.execIslandEvaluation s
  | .detectorWork g => Sys2Proof.Machine.execDetectorWork g s
  | .logicScan task => Sys2Proof.Machine.execLogicScan task s
  | .doLevelApply d => Sys2Proof.Machine.execDoLevelApply d s
  | .pulseMinExpiry d => Sys2Proof.Machine.execPulseMinExpiry d s
  | .tripRetry out => Sys2Proof.Machine.execTripRetry out s
  | .captureTrigger => Sys2Proof.Machine.execCaptureTrigger s
  | .xtrigPulseEnd => Sys2Proof.Machine.execXtrigPulseEnd s
  | .autoTrigger cls => Sys2Proof.Machine.execAutoTrigger cls s
  | .spanEnd cls => Sys2Proof.Machine.execSpanEnd cls s
  | .closingEnd cls => Sys2Proof.Machine.execClosingEnd cls s
  | .ringOverwriteLoss seq tag => Sys2Proof.Machine.execRingOverwriteLoss seq tag s
  | .alarmStateChange n => Sys2Proof.Machine.execAlarmStateChange n s
  | .gooseRetransmit n => Sys2Proof.Machine.execGooseRetransmit n s
  | .woideLinkLock => Sys2Proof.Machine.execWoideLinkLock s
  | .helloTimer => Sys2Proof.Machine.execHelloTimer s
  | .woideFrameReceive f => Sys2Proof.Machine.execWoideFrameReceive f s
  | .woideRetransmit => Sys2Proof.Machine.execWoideRetransmit s
  | .woideLinkDown why => Sys2Proof.Machine.execWoideLinkDown why s
  | .receiverAckTimer => Sys2Proof.Machine.execReceiverAckTimer s
  | .tokenPulse riseNs widthNs => Sys2Proof.Machine.execTokenPulse riseNs widthNs s
  | .release => Sys2Proof.Machine.execRelease s
  | .splitBrain => Sys2Proof.Machine.execSplitBrain s
  | .emOpen q => Sys2Proof.Machine.execEmOpen q s
  | .emClose q => Sys2Proof.Machine.execEmClose q s
  | .emStatus q => Sys2Proof.Machine.execEmStatus q s
  | .emRead q => Sys2Proof.Machine.execEmRead q s
  | .emWrite q => Sys2Proof.Machine.execEmWrite q s
  | .emChangeSet q => Sys2Proof.Machine.execEmChangeSet q s
  | .emAttnAck q => Sys2Proof.Machine.execEmAttnAck q s
  | .emStageBegin q => Sys2Proof.Machine.execEmStageBegin q s
  | .emStageData q => Sys2Proof.Machine.execEmStageData q s
  | .emStageEnd q => Sys2Proof.Machine.execEmStageEnd q s
  | .stageCheckDone v => Sys2Proof.Machine.execStageCheckDone v s
  | .stagingTimeout => Sys2Proof.Machine.execStagingTimeout s
  | .emActivate q => Sys2Proof.Machine.execEmActivate q s
  | .emRestart q => Sys2Proof.Machine.execEmRestart q s
  | .emKeyLoad q wrapped => Sys2Proof.Machine.execEmKeyLoad q wrapped s
  | .emZeroise q => Sys2Proof.Machine.execEmZeroise q s
  | .emOwnerEnrol q => Sys2Proof.Machine.execEmOwnerEnrol q s
  | .emPairEnrol q => Sys2Proof.Machine.execEmPairEnrol q s
  | .emRekeyDone q => Sys2Proof.Machine.execEmRekeyDone q s
  | .emForce q => Sys2Proof.Machine.execEmForce q s
  | .emUnforce q => Sys2Proof.Machine.execEmUnforce q s
  | .emReplayStart q => Sys2Proof.Machine.execEmReplayStart q s
  | .emReplayStop q => Sys2Proof.Machine.execEmReplayStop q s
  | .emFlush q => Sys2Proof.Machine.execEmFlush q s
  | .emReleaseCell q selfTest => Sys2Proof.Machine.execEmReleaseCell q selfTest s
  | .emHoldover q => Sys2Proof.Machine.execEmHoldover q s
  | .emShed q => Sys2Proof.Machine.execEmShed q s
  | .emTrigger q => Sys2Proof.Machine.execEmTrigger q s
  | .emLocate q => Sys2Proof.Machine.execEmLocate q s
  | .emHandover q => Sys2Proof.Machine.execEmHandover q s
  | .emBboxRaw q => Sys2Proof.Machine.execEmBboxRaw q s
  | .emBboxClear q => Sys2Proof.Machine.execEmBboxClear q s
  | .empDatagramDiscard svp why => Sys2Proof.Machine.execEmpDatagramDiscard svp why s
  | .sessionExpiry svp session => Sys2Proof.Machine.execSessionExpiry svp session s
  | .blackBoxWrite => Sys2Proof.Machine.execBlackBoxWrite s
  | .sensorCrossing latch value limit => Sys2Proof.Machine.execSensorCrossing latch value limit s
  | .tempCritical sensor reading => Sys2Proof.Machine.execTempCritical sensor reading s
  | .sensorFail sensor => Sys2Proof.Machine.execSensorFail sensor s
  | .vbatRead mv => Sys2Proof.Machine.execVbatRead mv s
  | .clockFault domain => Sys2Proof.Machine.execClockFault domain s
  | .panelScan keys => Sys2Proof.Machine.execPanelScan keys s
  | .touchMeasure ch count => Sys2Proof.Machine.execTouchMeasure ch count s
  | .lampTestEnd => Sys2Proof.Machine.execLampTestEnd s
  | .svpEnable => Sys2Proof.Machine.execSvpEnable s
  | .svpEnableExpiry => Sys2Proof.Machine.execSvpEnableExpiry s
  | .svcKeyRelease => Sys2Proof.Machine.execSvcKeyRelease s
  | .svcKeyAssert => Sys2Proof.Machine.execSvcKeyAssert s
  | .svcDetChange asserted => Sys2Proof.Machine.execSvcDetChange asserted s
  | .managementFirmwareStart => Sys2Proof.Machine.execManagementFirmwareStart s
  | .ptpAnnounceReceiptTimeout rec => Sys2Proof.Machine.execPtpAnnounceReceiptTimeout rec s
  | .ownerKeyBurnComplete => Sys2Proof.Machine.execOwnerKeyBurnComplete s
  | .sensorConditionReleased latch value => Sys2Proof.Machine.execSensorConditionReleased latch value s
  | .tapInstructionUpdate code => Sys2Proof.Machine.execTapInstructionUpdate code s
  | .tapDataUpdate data => Sys2Proof.Machine.execTapDataUpdate data s
  | .tapTestLogicReset => Sys2Proof.Machine.execTapTestLogicReset s

end Sys2Proof.Machine
end

