-- ==== Sys2Proof/Safety.lean ====
section
/-! DEFINITION. What the statements are told in: the parts of State and frames over them, one count of one counter, and the
invariant that every step keeps. -/

namespace Sys2Proof.Machine

/-- The parts of State. -/
inductive StatePart where
  | boot | img | flash | ctrs | ctrsAt | attn | partnerLog | bbx | sens | panel | ports | cages | tcp | streams | time | align
  | swage | osc | isl | sch | logic | cap | pub | pair | otp | vault | emp | tap | ext | served | free | pending
  deriving DecidableEq, Repr

/-- A part is the same in two states. -/
def StatePart.same : StatePart → State → State → Prop
  | .boot, s, t => t.boot = s.boot | .img, s, t => t.img = s.img | .flash, s, t => t.flash = s.flash
  | .ctrs, s, t => t.ctrs = s.ctrs | .ctrsAt, s, t => t.ctrsAt = s.ctrsAt | .attn, s, t => t.attn = s.attn
  | .partnerLog, s, t => t.partnerLog = s.partnerLog | .bbx, s, t => t.bbx = s.bbx | .sens, s, t => t.sens = s.sens
  | .panel, s, t => t.panel = s.panel | .ports, s, t => t.ports = s.ports | .cages, s, t => t.cages = s.cages
  | .tcp, s, t => t.tcp = s.tcp | .streams, s, t => t.streams = s.streams | .time, s, t => t.time = s.time
  | .align, s, t => t.align = s.align | .swage, s, t => t.swage = s.swage | .osc, s, t => t.osc = s.osc
  | .isl, s, t => t.isl = s.isl | .sch, s, t => t.sch = s.sch | .logic, s, t => t.logic = s.logic
  | .cap, s, t => t.cap = s.cap | .pub, s, t => t.pub = s.pub | .pair, s, t => t.pair = s.pair
  | .otp, s, t => t.otp = s.otp | .vault, s, t => t.vault = s.vault | .emp, s, t => t.emp = s.emp
  | .tap, s, t => t.tap = s.tap | .ext, s, t => t.ext = s.ext | .served, s, t => t.served = s.served
  | .free, s, t => t.free = s.free | .pending, s, t => t.pending = s.pending

/-- Nothing changes from s to t outside the listed parts. -/
def ChangesOnly (ps : List StatePart) (s t : State) : Prop := ∀ p : StatePart, p ∉ ps → p.same s t

/-- The listed parts are the same in s and t. -/
def Keeps (ps : List StatePart) (s t : State) : Prop := ∀ p ∈ ps, p.same s t

/-- From s the command completes, in a state of which Q holds. -/
def Completes (c : Instr) (s : State) (Q : State → Prop) : Prop := ∃ t, exec c s = .next t ∧ Q t

/-- From s the command completes, in a state of which Q holds, and nothing changes outside the listed parts. -/
def Does (c : Instr) (s : State) (ps : List StatePart) (Q : State → Prop) : Prop := Completes c s (fun t => Q t ∧ ChangesOnly ps s t)

/-- One counter counts one event (R9), and every other counter keeps its value. -/
def CountsOnce (k : CtrKey) (s t : State) : Prop :=
  t.ctr k = satAdd (s.ctr k) 1 ∧ ∀ k', k' ≠ k → t.ctr k' = s.ctr k'

/-- A request as EMP takes it (R435): the replies of the request before have left, and its session has been heard. -/
def State.emHeard (s : State) (q : EmpReq) : State :=
  { s with emp := { s.emp with replies := [], sessions := s.emp.sessions.map (fun e => if e.svp = q.svp ∧ e.id = q.session then { e with at_ := s.rtc } else e) } }

/-- The state in which the operation of a request runs: heard, and counted as executed. -/
def State.emAt (s : State) (q : EmpReq) : State := (s.emHeard q).bump (ck1 .empExecuted (empPort q.svp))

/-- A request passes every check of R435: version, session, duplicates, authority and mode. -/
def State.emRuns (s : State) (op : Nat) (q : EmpReq) : Prop :=
  s.boot.island = true ∧ q.version = 1 ∧ (s.emHeard q).judge op q = .run ∧ authAllows op q (s.authOf q.svp) = true ∧
  (s.emAt q).modeAllows op q (s.authOf q.svp) = true

/-- The one reply that left answers the request with this result and payload. -/
def OneReply (t : State) (op : Nat) (q : EmpReq) (r : Nat × Bytes) : Prop :=
  ∃ x, t.emp.replies = [x] ∧ x.opcode = op ∧ x.svp = q.svp ∧ x.session = q.session ∧ x.seq = q.seq ∧ x.cached = false ∧
    x.result = r.1 ∧ x.payload = r.2

/-- The request waits for the next beat boundary behind those that waited (R27). -/
def WaitsForBoundary (s t : State) (k : BReqKind) (op : Nat) (q : EmpReq) : Prop :=
  ∃ b : BReq, t.emp.breqs = s.emp.breqs ++ [b] ∧ b.kind = k ∧ b.opcode = op ∧ b.req = q

/-- The EMP request of a command, with its opcode (Table EMP-4). -/
def emRequest : Instr → Option (Nat × EmpReq)
  | .emOpen q => some (0x0001, q) | .emClose q => some (0x0002, q) | .emStatus q => some (0x0003, q) | .emRead q => some (0x0010, q)
  | .emWrite q => some (0x0011, q) | .emChangeSet q => some (0x0012, q) | .emAttnAck q => some (0x0013, q)
  | .emStageBegin q => some (0x0020, q) | .emStageData q => some (0x0021, q) | .emStageEnd q => some (0x0022, q)
  | .emActivate q => some (0x0023, q) | .emRestart q => some (0x0024, q) | .emKeyLoad q w => some (0x0030, q.carrying w)
  | .emZeroise q => some (0x0031, q) | .emOwnerEnrol q => some (0x0032, q) | .emPairEnrol q => some (0x0033, q)
  | .emRekeyDone q => some (0x0034, q) | .emForce q => some (0x0040, q) | .emUnforce q => some (0x0041, q)
  | .emReplayStart q => some (0x0042, q) | .emReplayStop q => some (0x0043, q) | .emFlush q => some (0x0044, q)
  | .emReleaseCell q _ => some (0x0045, q) | .emHoldover q => some (0x0050, q) | .emShed q => some (0x0051, q)
  | .emTrigger q => some (0x0052, q) | .emLocate q => some (0x0053, q) | .emHandover q => some (0x0054, q)
  | .emBboxRaw q => some (0x0060, q) | .emBboxClear q => some (0x0061, q)
  | _ => none

/-- The parts of State that a command may change: the footprint of its meaning. -/
def footprint : Instr → List StatePart
  | .mainRailsFall | .pinReset _ | .emRestart _ =>
    [.boot, .img, .ctrs, .ctrsAt, .attn, .partnerLog, .bbx, .sens, .ports, .cages, .tcp, .streams, .time, .align, .swage,
      .osc, .isl, .sch, .logic, .cap, .pub, .pair, .vault, .emp, .served]
  | .powerOnReset =>
    [.boot, .img, .ctrs, .ctrsAt, .attn, .partnerLog, .bbx, .sens, .ports, .cages, .tcp, .streams, .time, .align, .swage,
      .osc, .isl, .sch, .logic, .cap, .pub, .pair, .vault, .emp, .served, .free]
  | .islandPowerOn =>
    [.boot, .img, .ctrs, .ctrsAt, .attn, .partnerLog, .bbx, .sens, .panel, .ports, .cages, .tcp, .streams, .time, .align,
      .swage, .osc, .isl, .sch, .logic, .cap, .pub, .pair, .vault, .emp, .served, .free]
  | .islandReset =>
    [.boot, .img, .ctrs, .ctrsAt, .attn, .partnerLog, .bbx, .sens, .panel, .ports, .cages, .tcp, .streams, .time, .align,
      .swage, .osc, .isl, .sch, .logic, .cap, .pub, .pair, .vault, .emp, .served]
  | .blackBoxScan | .sensorFail _ | .vbatRead _ => [.ctrs, .attn, .bbx, .sens, .ports, .pair]
  | .loadingComplete _ =>
    [.boot, .img, .flash, .ctrs, .attn, .bbx, .sens, .ports, .cages, .tcp, .streams, .time, .isl, .sch, .pub, .pair,
      .otp, .vault, .free]
  | .loadCheckFail _ | .managementFirmwareStart =>
    [.boot, .flash, .ctrs, .attn, .bbx, .sens, .ports, .pair, .otp, .vault, .free]
  | .powerFailAsserted => [.ctrs, .attn, .bbx, .sens, .ports, .pair, .vault, .ext]
  | .powerRestored =>
    [.boot, .img, .ctrs, .ctrsAt, .attn, .partnerLog, .bbx, .sens, .ports, .cages, .tcp, .streams, .time, .align, .swage,
      .osc, .isl, .sch, .logic, .cap, .pub, .pair, .vault, .emp, .ext, .served]
  | .tamper _ => [.boot, .ctrs, .attn, .bbx, .sens, .ports, .pair, .otp, .vault, .emp]
  | .beatBoundary _ =>
    [.boot, .img, .flash, .ctrs, .ctrsAt, .attn, .partnerLog, .bbx, .sens, .ports, .cages, .tcp, .streams, .time, .align,
      .swage, .osc, .isl, .sch, .logic, .cap, .pub, .pair, .otp, .vault, .emp, .served]
  | .postRoomAvailable _ => [.ctrs, .attn, .ports, .streams, .align, .sch, .cap, .pub, .pair, .vault]
  | .delayItemDue _ | .itemComplete _ _ => [.ctrs, .sch]
  | .dispatch _ => [.img, .ctrs, .attn, .bbx, .sens, .ports, .swage, .sch, .logic, .pair]
  | .cellFault _ _ | .uncorrectableError _ _ =>
    [.boot, .ctrs, .attn, .bbx, .sens, .ports, .align, .swage, .osc, .isl, .sch, .logic, .pair]
  | .cellWatchdog _ | .itemLimitReached _ => [.ctrs, .attn, .ports, .align, .osc, .isl, .sch, .logic, .pair]
  | .correctableError _ _ | .macControlOther _ _ | .empDatagramDiscard _ _ => [.ctrs]
  | .thermalLevelFall _ => [.ctrs, .sens, .sch]
  | .warmupTimeout | .dtLockConverged => [.boot]
  | .frameReceive _ _ | .tcpAckTimer _ => [.ctrs, .ports, .tcp]
  | .arpRequest _ _ _ _ _ | .pauseFrame _ _ | .pfcFrame _ _ _ | .transmitEnd _ | .lateDrop _ _ | .linkUp _ | .linkDown _ =>
    [.ctrs, .ports]
  | .pauseTimerExpiry _ _ | .queueRoomAvailable _ _ | .launchStrobe => [.ports]
  | .pauseStall _ _ | .woideRetransmit | .woideLinkDown _ => [.ctrs, .attn, .ports, .pair]
  | .transmitStart _ | .ptpFrame | .pdelayReqTimer _ => [.ctrs, .ports, .time]
  | .moduleInserted _ | .moduleInitDone _ _ => [.ctrs, .attn, .ports, .cages, .pair]
  | .moduleRemoved _ => [.ctrs, .ports, .cages]
  | .tcpSegment _ _ | .tcpRetransmit _ | .tcpConnectionReset _ | .sourceCmdTimer _ =>
    [.ctrs, .attn, .ports, .tcp, .streams, .pair]
  | .tcpReopen _ => [.ctrs, .ports, .tcp, .free]
  | .classifyFrame _ _ =>
    [.ctrs, .attn, .ports, .tcp, .streams, .time, .align, .swage, .sch, .logic, .cap, .pub, .pair, .vault, .served]
  | .gnssSentence _ | .irigbFrame _ | .baseStep _ => [.ctrs, .time]
  | .gnssPpsEdge _ _ | .ptpAnnounceReceiptTimeout _ => [.time]
  | .timeVote => [.boot, .ctrs, .attn, .ports, .streams, .time, .align, .swage, .osc, .isl, .sch, .logic, .cap, .pub, .pair]
  | .timeRefLost => [.ctrs, .attn, .ports, .time, .pair, .ext]
  | .triggerEdge _ _ _ => [.ctrs, .cap]
  | .rowOpen _ | .rowFinal _ => [.ctrs, .align]
  | .sliceEntry _ | .quorumWaitExpiry _ => [.ctrs, .attn, .ports, .align, .osc, .sch, .pair]
  | .deadlineClose _ => [.ctrs, .attn, .ports, .align, .sch, .pair]
  | .rowRetire _ => [.align, .sch]
  | .streamStale _ => [.ctrs, .attn, .ports, .streams, .align, .osc, .sch, .pair]
  | .subscriberCommand => [.ctrs, .attn, .ports, .pub, .pair]
  | .laneFrame _ _ _ | .wvSyncAssert | .wvClkLost | .laneStop _ | .bankHandoff _ => [.ctrs, .attn, .ports, .swage, .pair]
  | .wvSyncRelease => [.swage]
  | .queueWordRead _ _ =>
    [.boot, .ctrs, .attn, .bbx, .sens, .ports, .streams, .align, .swage, .osc, .isl, .sch, .logic, .cap, .pub, .pair]
  | .svSampleDeadline _ _ => [.ctrs, .streams, .swage, .logic, .cap, .pub]
  | .estimateRelease _ | .fastEstimate _ => [.boot, .ctrs, .streams, .align, .swage, .logic, .cap, .pub]
  | .replayFrameOut _ => [.ctrs, .swage, .free]
  | .bandUpdate _ _ => [.boot, .ctrs, .ports, .streams, .align, .osc, .sch, .logic, .cap, .pub, .pair]
  | .locationRunStart _ => [.ctrs, .osc]
  | .locationResult _ => [.boot, .ctrs, .streams, .align, .osc, .logic, .cap, .pub]
  | .islandEvaluation => [.boot, .ctrs, .attn, .ports, .streams, .align, .isl, .sch, .logic, .cap, .pub, .pair]
  | .detectorWork _ => [.boot, .ctrs, .streams, .align, .isl, .sch, .logic, .cap, .pub]
  | .logicScan _ => [.boot, .ctrs, .attn, .ports, .streams, .align, .osc, .isl, .sch, .logic, .cap, .pub, .pair, .vault]
  | .doLevelApply _ | .pulseMinExpiry _ => [.ctrs, .logic]
  | .tripRetry _ => [.ctrs, .attn, .ports, .streams, .logic, .pub, .pair, .vault]
  | .captureTrigger | .autoTrigger _ | .closingEnd _ => [.ctrs, .attn, .ports, .sch, .cap, .pair]
  | .xtrigPulseEnd => [.cap]
  | .spanEnd _ => [.sch, .cap]
  | .ringOverwriteLoss _ _ => [.ctrs, .attn, .ports, .cap, .pair]
  | .alarmStateChange _ | .gooseRetransmit _ => [.ctrs, .attn, .ports, .streams, .sch, .pub, .pair, .vault]
  | .woideLinkLock => [.ctrs, .ports, .pair, .free]
  | .helloTimer | .receiverAckTimer | .release => [.ctrs, .ports, .pair]
  | .woideFrameReceive _ =>
    [.ctrs, .attn, .partnerLog, .ports, .tcp, .streams, .align, .swage, .sch, .logic, .cap, .pub, .pair, .emp]
  | .tokenPulse _ _ => [.pair]
  | .splitBrain | .sensorCrossing _ _ _ => [.boot, .ctrs, .attn, .bbx, .sens, .ports, .pair]
  | .emOpen _ | .emClose _ | .emStatus _ | .emAttnAck _ | .emStageEnd _ | .stagingTimeout | .emRekeyDone _ | .emForce _
  | .emUnforce _ | .emReplayStart _ | .emReplayStop _ | .emFlush _ | .emReleaseCell _ _ | .emHoldover _ | .emShed _
  | .emTrigger _ | .emLocate _ | .emHandover _ | .emBboxRaw _ => [.ctrs, .attn, .ports, .pair, .emp]
  | .emRead _ => [.ctrs, .ctrsAt, .attn, .partnerLog, .ports, .streams, .align, .pair, .emp]
  | .emWrite _ => [.ctrs, .attn, .sens, .ports, .swage, .pair, .vault, .emp]
  | .emChangeSet _ => [.ctrs, .attn, .ports, .logic, .pair, .emp]
  | .emStageBegin _ | .emStageData _ | .stageCheckDone _ => [.flash, .ctrs, .attn, .ports, .pair, .emp]
  | .emActivate _ =>
    [.boot, .img, .flash, .ctrs, .ctrsAt, .attn, .partnerLog, .bbx, .sens, .ports, .cages, .tcp, .streams, .time, .align,
      .swage, .osc, .isl, .sch, .logic, .cap, .pub, .pair, .vault, .emp, .served]
  | .emKeyLoad _ _ | .emPairEnrol _ => [.ctrs, .attn, .ports, .pair, .vault, .emp, .free]
  | .emZeroise _ => [.ctrs, .attn, .bbx, .sens, .ports, .pair, .otp, .vault, .emp]
  | .emOwnerEnrol _ => [.ctrs, .attn, .ports, .pair, .otp, .emp]
  | .emBboxClear _ => [.ctrs, .attn, .bbx, .sens, .ports, .pair, .emp]
  | .sessionExpiry _ _ => [.ctrs, .emp]
  | .blackBoxWrite => [.ctrs, .bbx, .sens]
  | .tempCritical _ _ => [.boot, .ctrs]
  | .clockFault _ => [.boot, .ctrs, .sens]
  | .panelScan _ | .touchMeasure _ _ => [.ctrs, .attn, .bbx, .sens, .panel, .ports, .pair]
  | .lampTestEnd | .svpEnable | .svpEnableExpiry | .svcKeyAssert => [.panel]
  | .svcKeyRelease => [.boot, .panel]
  | .svcDetChange _ => [.panel, .ports, .emp]
  | .ownerKeyBurnComplete => [.otp, .emp]
  | .sensorConditionReleased _ _ => [.sens]
  | .tapInstructionUpdate _ | .tapDataUpdate _ | .tapTestLogicReset => [.tap]

/-- What the invariant says of the three parts it is about: the flash is in its canonical form (R61), every counter lies
within 32 bits (R9), and no more than 16 black-box records wait (R461). -/
def SoundOf (flash : Memory) (ctrs : List (CtrKey × CtrVal)) (queue : List BbxRec) : Prop :=
  flash.wf = true ∧ (∀ e ∈ ctrs, e.2.now ≤ e.2.val ∧ e.2.val ≤ 0xFFFFFFFF) ∧ queue.length ≤ 16

/-- The invariant. -/
def State.Sound (s : State) : Prop := SoundOf s.flash s.ctrs s.bbx.queue

end Sys2Proof.Machine
end

