-- ==== Sys2Proof/Certificates/Slice0/Obligations.lean ====
section
/-! DEFINITION. The statements for the provers, in terms of exec and step, of State and of the frames of Safety.lean. Each docstring names the
rules and tables of the spec that its statement rests on. -/

open Sys2Proof Sys2Proof.Machine

/-! The queue of commands, reset and the whole machine. -/

/-- A step takes the command at the front of the queue and runs it with the queue's rest; with no command waiting one cycle of
the HTH clock passes (the model's choice, log entry 2), in which LTS gains 2 ns outside DORMANT (R132). -/
def Obligations.StepRunsTheFrontCommand : Prop := ∀ (c : Instr) (rest : List Instr) (s : State),
  (s.pending = c :: rest → step s = exec c { s with pending := rest }) ∧
  (s.pending = [] → step s = .next s.cycle ∧ s.cycle.pending = [] ∧
    (s.boot.mode ≠ .dormant → s.cycle.lts = s.lts + 2 ∧ s.cycle.vault.rtc = s.vault.rtc) ∧
    (s.boot.mode = .dormant → s.cycle.lts = s.lts ∧ s.cycle.vault.rtc = s.vault.rtc + 2))

/-- What reset leaves (Table MOD-4 and Table MOD-2, T2; the values that the spec does not give are the model's, log entries
23, 24 and 44): LOADING with nothing loaded, every counter at 0, LTS at 0, no request, record or frame waiting, no key held,
no link up, no cell busy, no command queued, and a flash that lists nothing. -/
def Obligations.ResetValues : Prop :=
  State.reset.pending = [] ∧ State.reset.boot.mode = .loading ∧ State.reset.boot.running = false ∧ State.reset.img = [] ∧
  State.reset.flash = [] ∧ (∀ k, State.reset.ctr k = 0) ∧ State.reset.bbx.queue = [] ∧ State.reset.emp.sessions = [] ∧
  State.reset.emp.breqs = [] ∧ (∀ k, (State.reset.vslot k).half = none) ∧ State.reset.lts = 0 ∧ State.reset.time.refLost = false ∧
  (∀ p : Nat, (State.reset.port p).ingress = [] ∧ (State.reset.port p).wire = none ∧ (State.reset.port p).link = false) ∧
  (∀ c : Nat, (State.reset.cell c).run = none)

/-- The invariant holds of the reset state: its flash is in canonical form, its counters lie within 32 bits, none with
more increments in the present beat than its value, and no more than 16 black-box records wait. -/
def Obligations.ResetIsSound : Prop := State.reset.Sound

/-- The invariant that every step keeps: the flash stays in its canonical form, no counter leaves its 32 bits (R9: it stops at
2^32 - 1) or holds more increments of the present beat than its value, and no more than 16 black-box records wait (R461). -/
def Obligations.StepKeepsSound : Prop := ∀ s t : State, s.Sound → step s = .next t → t.Sound

/-- Every command completes in every state, with every operand, and changes nothing outside its footprint: the frame of the
whole machine. No command touches the queue of commands (`pending` is in no footprint). -/
def Obligations.EveryCommandKeepsToItsFootprint : Prop :=
  (∀ (c : Instr) (s : State), Completes c s (ChangesOnly (footprint c) s)) ∧ ∀ c : Instr, StatePart.pending ∉ footprint c

/-! Power, resets and tampers (chapters 02, 16, 18 and 19). -/

/-- R476, T1 of Table MOD-2: when the main rails fall, the device is in DORMANT with no image, LTS 0 and the retention store
empty; its real-time clock stands where it stood (R41), the glitch detectors are disarmed (R425) and the rest of the vault is
as it was; the flash, the OTP, the panel, the boundary chain and the black box's MRAM are untouched (Table MOD-4), and a fed
island with room in its queue keeps the record of the transition. With the rails already down nothing happens. T2 of Table
MOD-2 (R476, R479): the release of reset in DORMANT with the island fed enters LOADING with no image, LTS 0 and DT at the
real-time clock (R41), and no half of any key slot awaits its commit (R421). With the rails up, or the island unfed, it does
nothing. -/
def Obligations.MainPowerLossAndReturn : Prop := ∀ s : State,
  (s.boot.rails = true → Does .mainRailsFall s (footprint .mainRailsFall) (fun t =>
    t.boot.mode = .dormant ∧ t.boot.rails = false ∧ t.boot.island = s.boot.island ∧ t.boot.running = false ∧ t.img = [] ∧
    t.lts = 0 ∧ t.vault = { s.vault with rtc := s.rtc, armed := false } ∧ t.logic.retention = [] ∧ t.bbx.mram = s.bbx.mram ∧
    t.panel = s.panel ∧ t.flash = s.flash ∧ t.otp = s.otp ∧ t.tap = s.tap ∧
    (s.boot.island = true → s.bbx.queue.length < 16 → ∃ r : BbxRec, t.bbx.queue = s.bbx.queue ++ [r] ∧ r.event = 0x0001))) ∧
  (s.boot.rails = false → exec .mainRailsFall s = .next s) ∧
  (s.boot.rails = false → s.boot.island = true → Does .powerOnReset s (footprint .powerOnReset) (fun t =>
    t.boot.mode = .loading ∧ t.boot.rails = true ∧ t.boot.island = true ∧ t.boot.running = false ∧ t.img = [] ∧ t.lts = 0 ∧
    t.dt = s.rtc ∧ (∀ e ∈ t.vault.slots, e.2.pending = false) ∧ t.bbx.mram = s.bbx.mram ∧ t.panel = s.panel ∧
    t.flash = s.flash ∧ t.otp = s.otp ∧ t.tap = s.tap)) ∧
  (s.boot.rails = true ∨ s.boot.island = false → exec .powerOnReset s = .next s)

/-- R47: a RESET_N pulse shorter than 1 µs is ignored; one held low for at least 10 µs resets: the event of the reset waits for
the next beat boundary where beats run (R44), and where none run the main domain stands reset in LOADING at once; one in
between resets in that way or does nothing but be one more such pulse, and which is left open (log entry 11). Without the main
rails or the island there is nothing to reset. -/
def Obligations.ResetPulseWidths : Prop := ∀ (n : Nat) (s : State),
  (n < 1000 → exec (.pinReset n) s = .next s) ∧
  (s.boot.rails = false ∨ s.boot.island = false → exec (.pinReset n) s = .next s) ∧
  (10000 ≤ n → s.boot.rails = true → s.boot.island = true →
    (s.beatsRun = true → Does (.pinReset n) s [.boot] (fun t => t.boot = { s.boot with evs := s.boot.evs ++ [.pinReset] })) ∧
    (s.beatsRun = false → Does (.pinReset n) s (footprint (.pinReset n)) (fun t =>
      t.boot.mode = .loading ∧ t.boot.running = false ∧ t.lts = 0 ∧ t.dt = s.rtc ∧ t.img = []))) ∧
  (1000 ≤ n → n < 10000 → s.boot.rails = true → s.boot.island = true →
    (s.beatsRun = true → Does (.pinReset n) s [.boot] (fun t =>
      t.boot = { s.boot with pulses := s.boot.pulses + 1, evs := s.boot.evs ++ [.pinReset] } ∨
      t.boot = { s.boot with pulses := s.boot.pulses + 1 })) ∧
    (s.beatsRun = false → Does (.pinReset n) s (footprint (.pinReset n)) (fun t =>
      (t.boot.mode = .loading ∧ t.boot.running = false ∧ t.lts = 0 ∧ t.dt = s.rtc ∧ t.img = []) ∨
      (t.boot = { s.boot with pulses := s.boot.pulses + 1 } ∧ ChangesOnly [.boot] s t))))

/-- Table MOD-4 (R479, R480): the island's own reset ends its sessions, its replies, its queue of records, its panel and
sensor state and the links of MGP and SVP, and the main domain stands reset with it; a main domain in DORMANT stays there. The
black box's MRAM, the flash, the OTP and the boundary chain are kept. When VBAT lies below 2.0 V the battery domain loses its
keys and its clock. The start of the island brings up MGP and SVP in the state after reset, its black-box scan still to come;
with the main rails up LOADING begins, else the device is in DORMANT. A reset of an unfed island, and a start of a fed one, do
nothing. -/
def Obligations.IslandResetAndStart : Prop := ∀ s : State,
  (s.boot.island = true → Does .islandReset s (footprint .islandReset) (fun t =>
    t.boot.island = false ∧ t.boot.rails = s.boot.rails ∧ (s.boot.mode = .dormant → t.boot.mode = .dormant) ∧
    (s.boot.mode ≠ .dormant → t.boot.mode = .loading) ∧ t.boot.running = false ∧ t.img = [] ∧ t.emp.sessions = [] ∧
    t.emp.replies = [] ∧ t.bbx.queue = [] ∧ t.bbx.scanned = false ∧ t.bbx.mram = s.bbx.mram ∧ t.panel = State.reset.panel ∧
    t.sens = State.reset.sens ∧ t.port 5 = PortSt.reset ∧ t.port 6 = PortSt.reset ∧
    (s.sens.vbat < 2000 → t.vault.slots = [] ∧ t.vault.intact = false ∧ t.vault.rtc = 0) ∧
    t.flash = s.flash ∧ t.otp = s.otp ∧ t.tap = s.tap)) ∧
  (s.boot.island = false → exec .islandReset s = .next s) ∧
  (s.boot.island = false → Does .islandPowerOn s (footprint .islandPowerOn) (fun t =>
    t.boot.island = true ∧ t.boot.rails = s.boot.rails ∧ t.bbx.scanned = false ∧ t.bbx.mram = s.bbx.mram ∧ t.emp.sessions = [] ∧
    t.panel = State.reset.panel ∧ (s.boot.rails = true → t.boot.mode = .loading ∧ t.lts = 0 ∧ t.dt = s.rtc) ∧
    (s.boot.rails = false → t.boot.mode = .dormant ∧ (t.port 5).on = true ∧ (t.port 5).link = false ∧ (t.port 6).on = true ∧
      (t.port 6).link = false) ∧ t.flash = s.flash ∧ t.otp = s.otp ∧ t.tap = s.tap)) ∧
  (s.boot.island = true → exec .islandPowerOn s = .next s)

/-- R46: no reset touches the OTP root, the black box or the enrolled owner key. Said here of the five commands that are
resets, for every state and operand, whatever they do. -/
def Obligations.ResetsKeepRootBlackBoxAndOwnerKey : Prop := ∀ (c : Instr) (n : Nat) (s t : State),
  c ∈ [Instr.mainRailsFall, .powerOnReset, .pinReset n, .islandReset, .islandPowerOn] → exec c s = .next t →
    t.otp = s.otp ∧ t.bbx.mram = s.bbx.mram ∧ t.flash = s.flash

/-- R463: the assertion of POWER_FAIL_N disarms the glitch detectors (R425); with the island fed a LAST_GASP record stands at the
head of the queue, before the 15 oldest of those that waited, and a primary of a pair that works names the next boundary for its
leaving (R401). Its release arms the detectors again; with the rails and the island up it asks for a restart, at the next
boundary while beats run, and where none run the restart takes place at once. An assertion or a release that repeats the one
before does nothing. -/
def Obligations.PowerFailAndReturn : Prop := ∀ s : State,
  (s.ext.powerFail = false →
    (s.boot.island = true → Does .powerFailAsserted s (footprint .powerFailAsserted) (fun t =>
      t.ext = { s.ext with powerFail := true } ∧ t.vault = { s.vault with armed := false } ∧ t.bbx.gasp = true ∧
      t.bbx.mram = s.bbx.mram ∧ (∃ r rest, t.bbx.queue = r :: rest ∧ r.event = 0x0002 ∧ rest = s.bbx.queue.take 15) ∧
      (s.works = true → s.paired = true → s.pair.role = .primary → t.pair.leaveAt = some (nextBoundary s.dt)))) ∧
    (s.boot.island = false → Does .powerFailAsserted s [.vault, .ext] (fun t =>
      t.ext = { s.ext with powerFail := true } ∧ t.vault = { s.vault with armed := false }))) ∧
  (s.ext.powerFail = true → exec .powerFailAsserted s = .next s) ∧
  (s.ext.powerFail = true →
    (s.boot.rails = true → s.boot.island = true →
      (s.beatsRun = true → Does .powerRestored s [.boot, .ctrs, .attn, .bbx, .sens, .ports, .pair, .vault, .ext] (fun t =>
        t.ext = { s.ext with powerFail := false } ∧ t.vault = { s.vault with armed := true } ∧ t.bbx.gasp = false ∧
        t.boot = { s.boot with evs := s.boot.evs ++ [.restart false] })) ∧
      (s.beatsRun = false → Does .powerRestored s (footprint .powerRestored) (fun t =>
        t.ext = { s.ext with powerFail := false } ∧ t.vault.armed = true ∧ t.boot.mode = .loading ∧ t.boot.running = false))) ∧
    (s.boot.rails = false ∨ s.boot.island = false → Does .powerRestored s [.vault, .ext] (fun t =>
      t.ext = { s.ext with powerFail := false } ∧ t.vault = { s.vault with armed := true }))) ∧
  (s.ext.powerFail = false → exec .powerRestored s = .next s)

/-- R425, R427 and R428 (Table KEY-9): a tamper clears every key slot, the battery root and the partner's key at once and sets
TAMPERED, and the mode stays as it is until the boundary; an owner key whose burn runs becomes incomplete (R423). A command that
names no source which is a tamper now does nothing. -/
def Obligations.TamperZeroisesKeys : Prop := ∀ (sources : List (Fin 8)) (s : State),
  (s.tamperSources sources ≠ [] → Does (.tamper sources) s (footprint (.tamper sources)) (fun t =>
    t.vault.slots = [] ∧ t.vault.root = none ∧ t.vault.partner = none ∧ t.vault.tampered = true ∧ t.vault.cfg = s.vault.cfg ∧
    t.otp.burning = none ∧ (∀ v, s.otp.burning = some (false, v) → t.otp.owner0 = .incomplete) ∧
    (∀ v, s.otp.burning = some (true, v) → t.otp.owner1 = .incomplete) ∧
    t.otp.root0 = s.otp.root0 ∧ t.otp.root1 = s.otp.root1 ∧ t.boot.mode = s.boot.mode ∧ t.bbx.mram = s.bbx.mram)) ∧
  (s.tamperSources sources = [] → exec (.tamper sources) s = .next s)

/-! Loading and start-up (chapters 02, 03 and 16). -/

/-- R49 and R82 (Sequence MOD-1): while a slot is tried in LOADING, a verdict with which every check of the slot passes installs
the image of that slot and clears every fault of the load, and beats are to start; the mode stays LOADING until the boundary, and
TAMPERED leads to TAMPERHOLD instead. A completion whose verdict fails a check does nothing. A failed check of a slot that is not
in TRIAL, with no other candidate, puts its code and detail into the slot's load-result object, and T4 leads to UNCONFIGURED. A
failure whose verdict passes every check does nothing, and outside LOADING neither does. -/
def Obligations.LoadVerdicts : Prop := ∀ (v : LoadVerdict) (s : State),
  (s.loads = true → s.boot.trying = true →
    Does (.loadingComplete v) s [.boot, .img, .ctrs, .attn, .bbx, .sens, .ports, .cages, .tcp, .streams, .time, .isl, .sch, .pub,
      .pair, .vault, .free] (fun t =>
      (s.loadCode s.boot.slot v = none → t.boot.running = true ∧ t.boot.trying = false ∧ t.boot.mode = .loading ∧ t.boot.mgmtUp = true ∧
        t.boot.evs = [] ∧ t.img = s.parseImage s.boot.slot ∧ t.boot.toTamperhold = (s.boot.toTamperhold || s.vault.tampered)) ∧
      (s.loadCode s.boot.slot v ≠ none → t = s)) ∧
    Completes (.loadCheckFail v) s (fun t => s.loadCode s.boot.slot v = none → t = s) ∧
    (∀ code detail, s.loadCode s.boot.slot v = some (code, detail) →
      (s.slotState s.boot.slot ≠ stTrial → (s.boot.second = true ∨ s.candidate (1 - s.boot.slot) = false) →
        Completes (.loadCheckFail v) s (fun t =>
          t.boot.mode = .unconfigured ∧ t.boot.trying = false ∧ t.boot.running = false ∧ t.boot.mgmtUp = false ∧ t.flash = s.flash ∧
          (s.boot.slot = 0 → t.boot.loadA = (code, detail) ∧ t.boot.loadB = s.boot.loadB) ∧
          (s.boot.slot ≠ 0 → t.boot.loadB = (code, detail) ∧ t.boot.loadA = s.boot.loadA))))) ∧
  (s.loads = false → exec (.loadingComplete v) s = .next s ∧ exec (.loadCheckFail v) s = .next s)

/-- R50, R53, Table MOD-5 and R423: the firmware of the tried slot takes EMP over during LOADING, and enables every port, once the
slot passes its checks (R2), and does nothing when it does not; the firmware of a running image that is down starts again in the
same way; firmware that is up does not start again. The WARMUP timeout falls due for the next boundary once its seconds of LTS have
passed; the DT lock converges after 10 s of a qualified majority; the owner key whose burn ends is complete, and its enrolment
waits no more. -/
def Obligations.StartUpEvents : Prop := ∀ s : State,
  (s.boot.mgmtUp = false → s.boot.island = true → s.boot.rails = true →
    (s.boot.running = true ∨ (s.boot.mode = .loading ∧ s.boot.trying = true ∧ s.loadCode s.boot.slot .answered = none) →
      Does .managementFirmwareStart s [.boot, .ports] (fun t =>
        t.boot = { s.boot with mgmtUp := true } ∧ t.ports.length = s.ports.length ∧ ∀ p ∈ t.ports, p.on = true)) ∧
    (s.boot.running = false → s.boot.trying = true → s.loadCode s.boot.slot .answered ≠ none →
      exec .managementFirmwareStart s = .next s)) ∧
  (s.boot.mgmtUp = true → exec .managementFirmwareStart s = .next s) ∧
  (s.boot.mode = .warmup → s.boot.warmAt + headerWarmupTimeout (s.rec_ .header 0) * 1000000000 ≤ s.lts →
    Does .warmupTimeout s [.boot] (fun t => t.boot = { s.boot with timedOut := true })) ∧
  (s.dtRuns = true → 10 ≤ s.time.lockSecs → s.time.majority = true →
    Does .dtLockConverged s [.boot] (fun t => (0, 0) ∈ t.boot.converged ∧ (0, 0) ∈ t.boot.delivered ∧ t.boot.mode = s.boot.mode)) ∧
  (∀ v, s.otp.burning = some (false, v) →
    Does .ownerKeyBurnComplete s [.otp, .emp] (fun t => t.otp = { s.otp with owner0 := .complete v, burning := none } ∧
      ∀ b ∈ t.emp.breqs, b.kind ≠ .ownerEnrol)) ∧
  (∀ v, s.otp.burning = some (true, v) →
    Does .ownerKeyBurnComplete s [.otp, .emp] (fun t => t.otp = { s.otp with owner1 := .complete v, burning := none } ∧
      ∀ b ∈ t.emp.breqs, b.kind ≠ .ownerEnrol)) ∧
  (s.otp.burning = none → exec .ownerKeyBurnComplete s = .next s)

/-! Time (chapter 06). -/

/-- R134: a time base steps to its source when its offset exceeds 1,000 ns, in any mode in which DT runs; DT, LTS and the
other bases stay as they are, and the step is counted. Within 1,000 ns nothing steps. -/
def Obligations.BaseStepsToItsSource : Prop := ∀ (b : Fin 4) (s : State) (x : BaseSt),
  s.time.bases[b.val]? = some x → s.dtRuns = true → s.baseSrc b.val ≠ 0 →
  (1000 < x.offset.natAbs → Does (.baseStep b) s [.ctrs, .time] (fun t =>
    t.base b.val = { x with acc := ((x.acc : Int) + x.offset * 2 ^ 40).toNat, offset := 0 } ∧
    (∀ b' : Nat, b' ≠ b.val → t.base b' = s.base b') ∧ t.dt = s.dt ∧ t.lts = s.lts ∧ CountsOnce (ck1 .baseSteps b.val) s t)) ∧
  (x.offset.natAbs ≤ 1000 → exec (.baseStep b) s = .next s)

/-- R143: at a second boundary of DT that has not had its vote one vote is taken, and that second has then had it; LTS does not
step. A vote of a second that has had one does nothing, and while DT does not run there is none. R150: the loss of TIME_REF_IN
while DT runs sets REF_LOST without a step of DT or LTS, and it stays set; while DT does not run the input alone is lost. -/
def Obligations.VotesAndReferenceLoss : Prop := ∀ s : State,
  (s.dtRuns = true →
    (s.time.voteSec < s.dt / 1000000000 → Does .timeVote s (footprint .timeVote) (fun t =>
      t.time.voteSec = t.dt / 1000000000 ∧ t.lts = s.lts)) ∧
    (s.dt / 1000000000 ≤ s.time.voteSec → exec .timeVote s = .next s) ∧
    (s.time.refLost = false → Does .timeRefLost s (footprint .timeRefLost) (fun t =>
      t.time = { s.time with refLost := true } ∧ t.ext = { s.ext with timeRef := false } ∧ t.dt = s.dt ∧ t.lts = s.lts))) ∧
  (s.dtRuns = false → exec .timeVote s = .next s) ∧
  (s.dtRuns = false ∨ s.time.refLost = true → Does .timeRefLost s [.ext] (fun t => t.ext = { s.ext with timeRef := false }))

/-- R139 and Table TIM-5: Hearth takes the oldest PTP frame routed to it; one of no configured port and domain, or of another VLAN
than its record's, is discarded and counted. After the Pdelay timer of a port the next Pdelay_Req of each record whose mask has the
port lies ahead. A master whose Announce has been missing for three intervals is no longer among the candidates. R140 and R141:
while DT runs and a base has the source, a GGA sentence gives the fix; a ZDA sentence gives the second of the next edge or, as the
header says, labels the edge of the last second, 23:59:60 being the second after 23:59:59; a bad checksum only counts; the on-time
edge of GNSS_PPS_IN is noted and the other one is not; a well-formed IRIG-B frame whose required parity holds labels its edge with
its second, and another one is counted and not used. -/
def Obligations.TimeSourcesAreRead : Prop :=
  (∀ s : State,
  (∀ x rest, s.time.ptpIn = x :: rest →
    (s.ptpRecOf x.port x.domain = none → Does .ptpFrame s [.ctrs, .time] (fun t =>
      t.time = { s.time with ptpIn := rest } ∧ CountsOnce (ck1 .ptpDiscarded 2) s t)) ∧
    (∀ i, s.ptpRecOf x.port x.domain = some i →
      (ptpRecVlanId (s.rec_ .ptpRec i) ≠ x.vid → Does .ptpFrame s [.ctrs, .time] (fun t =>
        t.time = { s.time with ptpIn := rest } ∧ CountsOnce (ck1 .ptpDiscarded i) s t)) ∧
      (ptpRecVlanId (s.rec_ .ptpRec i) = x.vid → Does .ptpFrame s [.ctrs, .ports, .time] (fun t => t.time.ptpIn = rest ∧
        t.dt = s.dt ∧ t.lts = s.lts)))) ∧
  (s.time.ptpIn = [] → exec .ptpFrame s = .next s) ∧
  (∀ p : LinePort, (s.port p.val).on = true → Does (.pdelayReqTimer p) s [.ctrs, .ports, .time] (fun t =>
    t.dt = s.dt ∧ t.lts = s.lts ∧ ∀ i : Nat, i < 2 → ptpRecValid (s.rec_ .ptpRec i) = 1 → bitAt (ptpRecPortMask (s.rec_ .ptpRec i)) p.val = true →
      i < s.time.ptp.length → ∃ d, aget (t.ptpSt i).delays p.val = some d ∧ s.lts < d.due)) ∧
  (∀ (r : Fin 2) (m f : Foreign), (s.ptpSt r.val).master = some m →
    (s.ptpSt r.val).foreign.find? (fun f => f.port == m.port && f.ann.gm == m.ann.gm) = some f → f.at_ + 3 * f.interval ≤ s.lts →
    Does (.ptpAnnounceReceiptTimeout r) s [.time] (fun t => t.dt = s.dt ∧ t.lts = s.lts ∧
      ∀ g ∈ (t.ptpSt r.val).foreign, ¬ (g.port = m.port ∧ g.ann.gm = m.ann.gm)))) ∧
  (∀ s : State, s.dtRuns = true →
  (s.basesOf 3 ≠ [] →
    (∀ fix sats, Does (.gnssSentence (.gga fix sats)) s [.time] (fun t =>
      t.time = { s.time with gnss := { s.time.gnss with fix := fix, sats := sats } })) ∧
    (∀ utc sixty, timeHdrGnssTodNext (s.rec_ .timeHdr 0) = 1 → Does (.gnssSentence (.zda utc sixty)) s [.time] (fun t =>
      t.time = { s.time with gnss := { s.time.gnss with tod := some (s.secOfSoc utc false + (if sixty then 1 else 0)) } })) ∧
    (∀ utc sixty e, timeHdrGnssTodNext (s.rec_ .timeHdr 0) ≠ 1 → s.time.gnss.edge = some e → s.lts < e + 1000000000 →
      Does (.gnssSentence (.zda utc sixty)) s [.time] (fun t => t.time.gnss = { s.time.gnss with
        labelled := true, last := some (s.secOfSoc utc false + (if sixty then 1 else 0)), tod := none } ∧ t.dt = s.dt ∧ t.lts = s.lts)) ∧
    Does (.gnssSentence .badChecksum) s [.ctrs] (CountsOnce (ck .gnssFailed) s) ∧
    exec (.gnssSentence .other) s = .next s ∧
    (∀ falling ago, b2n falling = timeHdrGnssPpsFalling (s.rec_ .timeHdr 0) → Does (.gnssPpsEdge falling ago) s [.time] (fun t =>
      t.time.gnss.edge = some (s.lts - ago) ∧ t.dt = s.dt ∧ t.lts = s.lts)) ∧
    (∀ falling ago, b2n falling ≠ timeHdrGnssPpsFalling (s.rec_ .timeHdr 0) → exec (.gnssPpsEdge falling ago) s = .next s)) ∧
  (s.basesOf 4 ≠ [] → ∀ f : IrigFrame,
    (f.wellFormed = true → (timeHdrIrig1344 (s.rec_ .timeHdr 0) = 1 → f.parityOk = true) → Does (.irigbFrame f) s [.time] (fun t =>
      t.time.irig.last = some (s.irigSec f (timeHdrIrig1344 (s.rec_ .timeHdr 0) == 1)) ∧ t.time.irig.labelled = true ∧
      t.time.irig.edge = some (s.lts - f.edgeAgo) ∧ t.dt = s.dt ∧ t.lts = s.lts)) ∧
    (f.wellFormed = false ∨ (timeHdrIrig1344 (s.rec_ .timeHdr 0) = 1 ∧ f.parityOk = false) → Does (.irigbFrame f) s [.ctrs, .time] (fun t =>
      t.time = { s.time with irig := { s.time.irig with failed := s.time.irig.failed || f.wellFormed } } ∧ CountsOnce (ck .irigFailed) s t))))

/-- R160: an edge that follows the edge before it on the same input by less than 8 ns is lost and counted, and no stamp is
kept of it. Any other edge, while the input's store of 16 has room, is stamped with DT, its part of 8 ns and its direction, behind
the stamps that are kept. While DT does not run nothing is stamped. -/
def Obligations.TriggerEdgesLessThan8nsApartAreLost : Prop := ∀ (i : Fin 9) (rising : Bool) (sub : Fin 8) (s : State),
  (s.dtRuns = true → ∀ a b last, s.cap.levels.find? (fun e => e.1 == i.val) = some (a, b, last) → finePs s.dt sub.val < last + 64 →
    Does (.triggerEdge i rising sub) s [.ctrs, .cap] (fun t => t.cap.stamps = s.cap.stamps ∧ t.cap.recs = s.cap.recs ∧
      t.cap.levels.head? = some (i.val, rising, finePs s.dt sub.val) ∧ CountsOnce (ck1 .edgesLost i.val) s t)) ∧
  (s.dtRuns = true → (∀ e, s.cap.levels.find? (fun e => e.1 == i.val) = some e → e.2.2 + 64 ≤ finePs s.dt sub.val) →
    (s.cap.stamps.filter (fun y => y.input == i.val)).length < 16 →
    Does (.triggerEdge i rising sub) s [.ctrs, .cap] (fun t => t.cap.levels.head? = some (i.val, rising, finePs s.dt sub.val) ∧
      t.cap.recs = s.cap.recs ∧ ∃ kept x, t.cap.stamps = kept ++ [x] ∧ kept.length ≤ s.cap.stamps.length ∧ x.dt = s.dt ∧
        x.sub = sub.val ∧ x.rising = rising ∧ x.input = i.val)) ∧
  (s.dtRuns = false → exec (.triggerEdge i rising sub) s = .next s)

/-! Ports (chapter 04). -/

/-- R89, R91 and Table PRT-2, in the table's order: a received frame that is too short, damaged, too long, has three tags or
more or another unicast destination is dropped and counted in the one counter its row names, and nothing else changes. A port
that takes no frame changes nothing. -/
def Obligations.ReceivedFramesDroppedByLengthFcsTagsAndAddress : Prop := ∀ (p : Port) (f : RxFrame) (s : State),
  (s.portTakes p.val = true →
    (f.len ≤ 63 → Does (.frameReceive p f) s [.ctrs] (CountsOnce (ck1 .runts p.val) s)) ∧
    (64 ≤ f.len → f.fcsGood = false → Does (.frameReceive p f) s [.ctrs] (CountsOnce (ck1 .fcsErrors p.val) s)) ∧
    (64 ≤ f.len → f.fcsGood = true → maxFrame (s.rec_ .port p.val) (min (knownTags f.tags).1.length 2) < f.len →
      Does (.frameReceive p f) s [.ctrs] (CountsOnce (ck1 .oversize p.val) s)) ∧
    (64 ≤ f.len → f.fcsGood = true → f.len ≤ maxFrame (s.rec_ .port p.val) (min (knownTags f.tags).1.length 2) →
      3 ≤ (knownTags f.tags).1.length → Does (.frameReceive p f) s [.ctrs] (CountsOnce (ck1 .unsupportedTags p.val) s)) ∧
    (64 ≤ f.len → f.fcsGood = true → f.len ≤ maxFrame (s.rec_ .port p.val) (min (knownTags f.tags).1.length 2) →
      (knownTags f.tags).1.length < 3 → isGroup f.dst = false → f.dst.toNat ≠ portMac (s.rec_ .port p.val) →
      Does (.frameReceive p f) s [.ctrs] (CountsOnce (ck1 .wrongDest p.val) s))) ∧
  (s.portTakes p.val = false → exec (.frameReceive p f) s = .next s)

/-- R92, R94 and Table ARC-4 row 4: a frame that a line port passes on enters the ingress buffer behind the frames in it, with
its arrival stamp, and is counted, while the 2 MiB hold it; else the buffer stays as it is and the frame is counted as a drop
against the stream that its first 128 bytes match, or as unattributed. A Woide frame enters MP's receive queue while the 1 MiB
hold it, and is counted as refused else. What the port consumes itself is counted and enters no buffer. -/
def Obligations.FramesEnterTheIngressBuffer : Prop := ∀ (p : Port) (f : RxFrame) (s : State) (x : PortSt),
  s.ports[p.val]? = some x → s.portTakes p.val = true → 64 ≤ f.len → f.fcsGood = true →
  f.len ≤ maxFrame (s.rec_ .port p.val) (min (knownTags f.tags).1.length 2) → (knownTags f.tags).1.length < 3 →
  (isGroup f.dst = true ∨ f.dst.toNat = portMac (s.rec_ .port p.val)) →
  (s.consumes p.val f = false →
    (x.used + f.len ≤ 2097152 → Does (.frameReceive p f) s [.ctrs, .ports] (fun t =>
      t.port p.val = { x with ingress := x.ingress ++ [{ stamp := s.arrival p.val f.sfdAgo, tcp := none, frame := f }], used := x.used + f.len } ∧
      (∀ p' : Nat, p' ≠ p.val → t.port p' = s.port p') ∧ CountsOnce (ck1 .framesReceived p.val) s t)) ∧
    (2097152 < x.used + f.len → Does (.frameReceive p f) s [.ctrs] (fun t =>
      (∀ sid, f.keyEnd ≤ 128 → s.matchSid f = some sid → CountsOnce (ck1 .ingressDrops sid) s t) ∧
      (128 < f.keyEnd ∨ s.matchSid f = none → CountsOnce (ck1 .unattributed p.val) s t)))) ∧
  (s.consumes p.val f = true → ¬ (p.val = 4 ∧ frameBody f = .woide) →
    Does (.frameReceive p f) s [.ctrs] (CountsOnce (ck1 .framesReceived p.val) s)) ∧
  (p.val = 4 → frameBody f = .woide →
    (x.used + f.len ≤ 1048576 → Does (.frameReceive p f) s [.ctrs, .ports] (fun t =>
      t.port 4 = { x with ingress := x.ingress ++ [{ stamp := s.arrival 4 f.sfdAgo, tcp := none, frame := f }], used := x.used + f.len } ∧
      (∀ p' : Nat, p' ≠ 4 → t.port p' = s.port p') ∧ CountsOnce (ck1 .framesReceived 4) s t)) ∧
    (1048576 < x.used + f.len → Does (.frameReceive p f) s [.ctrs] (CountsOnce (ck1 .crossingRefused 4) s)))

/-- R98 and R99: with PAUSE_EN set a PAUSE frame is counted and loads the timer of every queue that it pauses on its port: of a
line port Q0 to Q6, and Q7 as well only when Q7_PAUSABLE is set; of MGP and SVP their one queue. A time of 0 ends the hold. The other
queues' timers, and what the queues and the wire hold, stay. With PAUSE_EN clear it is counted as ignored. A PFC frame does the
same to the priorities whose class-enable bit is set, each with its own time, Q7 only when Q7_PAUSABLE is set; with PFC_EN clear it
is counted as ignored. A timer that has run out frees its queue, and one that has not does not. MP honours neither frame. -/
def Obligations.FlowControlHoldsQueues : Prop := ∀ (p : Port) (quanta : Nat) (s : State) (x : PortSt), s.ports[p.val]? = some x →
  (s.portTakes p.val = true → p.val ≠ 4 →
    (portPauseEn (s.rec_ .port p.val) = 0 → Does (.pauseFrame p quanta) s [.ctrs] (CountsOnce (ck1 .flowIgnored p.val) s)) ∧
    (portPauseEn (s.rec_ .port p.val) ≠ 0 → Does (.pauseFrame p quanta) s [.ctrs, .ports] (fun t =>
      (∀ q : Nat, q < 8 → aget (t.port p.val).pause q =
        if (p.val < 4 ∧ (q ≠ 7 ∨ portQ7Pausable (s.rec_ .port p.val) = 1)) ∨ (4 < p.val ∧ q = 0) then
          (if quanta % 65536 = 0 then none else some (s.lts + pauseNs (portPhy (s.rec_ .port p.val)) (quanta % 65536)))
        else aget x.pause q) ∧
      (t.port p.val).queues = x.queues ∧ (t.port p.val).wire = x.wire ∧ (∀ p' : Nat, p' ≠ p.val → t.port p' = s.port p') ∧
      CountsOnce (ck1 .pauseFrames p.val) s t)) ∧
    (∀ (v : BitVec 8) (qs : List Nat), portPfcEn (s.rec_ .port p.val) = 0 →
      Does (.pfcFrame p v qs) s [.ctrs] (CountsOnce (ck1 .flowIgnored p.val) s)) ∧
    (∀ (v : BitVec 8) (qs : List Nat), portPfcEn (s.rec_ .port p.val) ≠ 0 →
      Does (.pfcFrame p v qs) s [.ctrs, .ports] (fun t =>
        (∀ q : Nat, q < 8 → aget (t.port p.val).pause q =
          if v.getLsbD q ∧ (q ≠ 7 ∨ portQ7Pausable (s.rec_ .port p.val) = 1) then
            (if qs.getD q 0 % 65536 = 0 then none else some (s.lts + pauseNs (portPhy (s.rec_ .port p.val)) (qs.getD q 0 % 65536)))
          else aget x.pause q) ∧
        (t.port p.val).queues = x.queues ∧ (t.port p.val).wire = x.wire ∧ (∀ p' : Nat, p' ≠ p.val → t.port p' = s.port p')))) ∧
  (p.val = 4 ∨ s.portTakes p.val = false → exec (.pauseFrame p quanta) s = .next s ∧ ∀ v qs, exec (.pfcFrame p v qs) s = .next s) ∧
  (∀ (q : Queue) (due : Ns), aget x.pause q.val = some due →
    (due ≤ s.lts → Does (.pauseTimerExpiry p q) s [.ports] (fun t => aget (t.port p.val).pause q.val = none ∧
      aget (t.port p.val).heldFrom q.val = none ∧ (t.port p.val).queues = x.queues ∧ ∀ p' : Nat, p' ≠ p.val → t.port p' = s.port p')) ∧
    (s.lts < due → exec (.pauseTimerExpiry p q) s = .next s))

/-- Table PRT-3: a queue held without a break for 100 ms counts one stall for that hold, and no second one; another MAC
control frame is counted and has no effect. R92: a request for the port's own address on its VLAN is counted as answered, and the
answer to the asker is placed for transmission, in the command queue of a line port; a request for another address or on another
VLAN is not answered. -/
def Obligations.StallsMacControlAndArp : Prop := ∀ (p : Port) (s : State) (x : PortSt), s.ports[p.val]? = some x →
  (∀ (q : Queue) (since : Ns), aget x.heldFrom q.val = some since → s.held p.val q.val = true → since + 100000000 ≤ s.lts →
    (q.val ∉ x.stalled → Does (.pauseStall p q) s [.ctrs, .attn, .ports, .pair] (fun t =>
      (t.port p.val).stalled = x.stalled ++ [q.val] ∧ t.ctr (ck1 .pauseStalls p.val) = satAdd (s.ctr (ck1 .pauseStalls p.val)) 1)) ∧
    (q.val ∈ x.stalled → exec (.pauseStall p q) s = .next s)) ∧
  (∀ op : BitVec 16, s.portTakes p.val = true → p.val ≠ 4 → op ≠ 0x0001#16 → op ≠ 0x0101#16 →
    Does (.macControlOther p op) s [.ctrs] (CountsOnce (ck1 .macOther p.val) s)) ∧
  (∀ (vid : BitVec 12) (ip sender : BitVec 32) (mac : BitVec 48), s.portTakes p.val = true → p.val ≠ 4 →
    (s.works = true ∨ 4 < p.val) → ip.toNat ≠ 0 →
    (portIp (s.rec_ .port p.val) = ip.toNat → portVlanId (s.rec_ .port p.val) = vid.toNat →
      Does (.arpRequest p vid ip sender mac) s [.ctrs, .ports] (fun t =>
        t.ctr (ck1 .arpAnswered p.val) = satAdd (s.ctr (ck1 .arpAnswered p.val)) 1 ∧
        t.ports = (s.place p.val (if p.val < 4 then s.cmdQueue else 0)
          (serviceFrame (portVlanId (s.rec_ .port p.val)) 28 mac sender 0 (.arp sender mac))).ports)) ∧
    (portIp (s.rec_ .port p.val) ≠ ip.toNat ∨ portVlanId (s.rec_ .port p.val) ≠ vid.toNat →
      exec (.arpRequest p vid ip sender mac) s = .next s))

/-- R95, R97, R104 and R106: with the link up, the wire idle, no frame of a line port late and a queue chosen, its head goes onto
the wire with the queue's number as the PCP of its tag; with the link down the head of the highest queue that is not empty is
counted as undelivered. When its last bit has left, and not before, the wire is free and a line port counts the frame. R96: the
first frame held for a queue enters it behind the frames in it once the queue has room. -/
def Obligations.TransmissionOfFrames : Prop := ∀ (p : Port) (s : State) (x : PortSt), s.ports[p.val]? = some x →
  (∀ q f, (p.val < 4 → ∀ q' : Nat, q' < 7 → (x.queues.getD q' []).filter (s.late q') = [] ∧
      x.waiting.filter (fun w => w.1 == q' && s.late q' w.2) = []) →
    x.on = true → x.wire = none → x.idleAt ≤ s.lts → x.link = true → s.nextQueue p.val = some (q, f) →
    Does (.transmitStart p) s [.ctrs, .ports, .time] (fun t =>
      (t.port p.val).wire = some (q, { f with pcp := if f.vid = 0 then 0 else q }) ∧ (t.port p.val).wireFrom = s.lts ∧
      (t.port p.val).wireAt = s.departure p.val ∧ t.dt = s.dt ∧ t.lts = s.lts ∧ ∀ p' : Nat, p' ≠ p.val → t.port p' = s.port p')) ∧
  (x.on = true → x.wire = none → x.idleAt ≤ s.lts → x.link = false → (∃ l ∈ x.queues, l ≠ []) → x.queues.length = 8 →
    Does (.transmitStart p) s [.ctrs, .ports] (fun t => CountsOnce (ck1 .undelivered p.val) s t ∧ (t.port p.val).wire = none ∧
      ((t.port p.val).queues.map List.length).sum + 1 = (x.queues.map List.length).sum)) ∧
  (∀ q f, x.wire = some (q, f) →
    (f.len * s.bytePs p.val ≤ (s.lts - x.wireFrom) * 1000 → Does (.transmitEnd p) s [.ctrs, .ports] (fun t =>
      (t.port p.val).wire = none ∧ s.lts ≤ (t.port p.val).idleAt ∧ (t.port p.val).queues = x.queues ∧
      (p.val < 4 → CountsOnce (ck2 .framesTransmitted p.val q) s t) ∧ (4 ≤ p.val → t.ctrs = s.ctrs) ∧
      ∀ p' : Nat, p' ≠ p.val → t.port p' = s.port p')) ∧
    ((s.lts - x.wireFrom) * 1000 < f.len * s.bytePs p.val → exec (.transmitEnd p) s = .next s)) ∧
  (x.wire = none → exec (.transmitEnd p) s = .next s) ∧
  (∀ (q : Queue) (f : TxFrame) (before rest : List (Nat × TxFrame)), x.waiting = before ++ (q.val, f) :: rest →
    (∀ w ∈ before, w.1 ≠ q.val) → q.val < x.queues.length →
    (queueUsed (x.queues.getD q.val []) + f.len ≤ queueRoom (s.rec_ .port p.val) p.val q.val →
      Does (.queueRoomAvailable p q) s [.ports] (fun t => (t.port p.val).waiting = before ++ rest ∧
        (t.port p.val).queues.getD q.val [] = x.queues.getD q.val [] ++ [f] ∧ ∀ p' : Nat, p' ≠ p.val → t.port p' = s.port p')) ∧
    (queueRoom (s.rec_ .port p.val) p.val q.val < queueUsed (x.queues.getD q.val []) + f.len →
      exec (.queueRoomAvailable p q) s = .next s))

/-- R158 and R370: the launch strobe arms exactly the queues of the line ports whose head frame is launchable, beside those
armed before; late frames of a queue are dropped and counted, and the frames that are not late keep their order. -/
def Obligations.LaunchStrobeAndLateFrames : Prop := ∀ s : State,
  Does .launchStrobe s [.ports] (fun t => ∀ p : Nat, p < s.ports.length →
    (t.port p).queues = (s.port p).queues ∧ (t.port p).wire = (s.port p).wire ∧
    ∀ q : Nat, q ∈ (t.port p).armed ↔ (p < 4 ∧ q ∈ s.launchable p) ∨ q ∈ (s.port p).armed) ∧
  (∀ (p : LinePort) (q : Queue), p.val < s.ports.length → q.val < (s.port p.val).queues.length →
    (0 < (((s.port p.val).queues.getD q.val []).filter (s.late q.val)).length → Does (.lateDrop p q) s [.ctrs, .ports] (fun t =>
      (t.port p.val).queues.getD q.val [] = ((s.port p.val).queues.getD q.val []).filter (fun f => !s.late q.val f) ∧
      (∀ w ∈ (t.port p.val).waiting, w.1 = q.val → s.late q.val w.2 = false) ∧
      t.ctr (ck2 .lateDrops p.val q.val) = satAdd (s.ctr (ck2 .lateDrops p.val q.val))
        ((((s.port p.val).queues.getD q.val []).filter (s.late q.val)).length +
          ((s.port p.val).waiting.filter (fun w => w.1 == q.val && s.late q.val w.2)).length))) ∧
    (((s.port p.val).queues.getD q.val []).filter (s.late q.val) = [] → (s.port p.val).waiting = [] → exec (.lateDrop p q) s = .next s))

/-- R104 and Sequence PRT-1: an accepted module is present with its transmitter off, and is counted; 300 ms later, and not
before, the transmitter is on when the port is enabled and the module supports its PHY, else it stays off; a removed module leaves
no transmitter on, and its port's link is down. R104 and R105: a link that may come up comes up with empty pause timers and is
counted; when a link goes down the fall is counted, the frame on the wire is counted as undelivered, one in reception on a port that
takes frames as an FCS error, and the wire is free. -/
def Obligations.ModulesAndLinks : Prop :=
  (∀ (k : Fin 5) (s : State) (x : CageSt), s.cages[k.val]? = some x →
  (x.present = false → Does (.moduleInserted k) s [.ctrs, .attn, .ports, .cages, .pair] (fun t =>
    t.cage k.val = { present := true, since := s.lts, txOn := false, initDone := false, supports := false } ∧
    t.ctr (ck1 .moduleInsertions k.val) = satAdd (s.ctr (ck1 .moduleInsertions k.val)) 1 ∧ ∀ k' : Nat, k' ≠ k.val → t.cage k' = s.cage k')) ∧
  (x.present = true → exec (.moduleInserted k) s = .next s) ∧
  (∀ ok : Bool, x.present = true → x.initDone = false →
    (x.since + 300000000 ≤ s.lts → Does (.moduleInitDone k ok) s [.ctrs, .attn, .ports, .cages, .pair] (fun t =>
      t.cage k.val = { x with initDone := true, txOn := s.portEnabled k.val && ok, supports := ok } ∧ ∀ k' : Nat, k' ≠ k.val → t.cage k' = s.cage k')) ∧
    (s.lts < x.since + 300000000 → exec (.moduleInitDone k ok) s = .next s)) ∧
  (∀ receiving : Bool, x.present = true → Does (.moduleRemoved { cage := k, receiving := receiving }) s [.ctrs, .ports, .cages] (fun t =>
    t.cage k.val = { x with present := false, txOn := false, initDone := false } ∧
    (k.val < s.ports.length → (t.port k.val).link = false) ∧ ∀ k' : Nat, k' ≠ k.val → t.cage k' = s.cage k'))) ∧
  (∀ (p : Port) (s : State) (x : PortSt), s.ports[p.val]? = some x →
  (x.on = true → x.link = false → s.linkAble p.val = true → Does (.linkUp p) s [.ctrs, .ports] (fun t =>
    t.port p.val = { x with link := true, pause := [], heldFrom := [], stalled := [] } ∧ CountsOnce (ck1 .linkUps p.val) s t ∧
    ∀ p' : Nat, p' ≠ p.val → t.port p' = s.port p')) ∧
  (∀ receiving : Bool, x.link = true → Does (.linkDown { port := p, receiving := receiving }) s [.ctrs, .ports] (fun t =>
    t.port p.val = { x with link := false, wire := none, idleAt := s.lts } ∧
    t.ctr (ck1 .linkDowns p.val) = satAdd (s.ctr (ck1 .linkDowns p.val)) 1 ∧
    (x.wire.isSome = true → t.ctr (ck1 .undelivered p.val) = satAdd (s.ctr (ck1 .undelivered p.val)) 1) ∧
    (x.wire = none → t.ctr (ck1 .undelivered p.val) = s.ctr (ck1 .undelivered p.val)) ∧
    (receiving = true → s.portTakes p.val = true → t.ctr (ck1 .fcsErrors p.val) = satAdd (s.ctr (ck1 .fcsErrors p.val)) 1) ∧
    (receiving = false → t.ctr (ck1 .fcsErrors p.val) = s.ctr (ck1 .fcsErrors p.val)) ∧
    ∀ p' : Nat, p' ≠ p.val → t.port p' = s.port p')) ∧
  (∀ receiving : Bool, x.link = false → exec (.linkDown { port := p, receiving := receiving }) s = .next s))

/-! TCP, intake and alignment (chapters 04, 05 and 07). -/

/-- R101 to R103 and Table PRT-4: a segment with IP options or a fragment is discarded and counted; the peer's SYN with the right
acknowledgement opens the connection one past its sequence number, with the peer's segment size and timestamp; data in order move the
next expected byte past them; data out of order are counted and move nothing; a reset closes an open connection, which is opened
again 1 s later. R101, R127 and Table PRT-4: a connection that is due is opened with a SYN and tried again after 1 s; a command
segment not acknowledged is sent again after 200 ms, and after five times the connection is reset; a delayed acknowledgement leaves;
an open connection that is reset is closed, to be opened again 1 s later. -/
def Obligations.TcpConnections : Prop :=
  (∀ (sid : Fin 8192) (seg : TcpSeg) (s : State),
  s.tcpServed sid.val = true → s.portTakes (s.connPort sid.val) = true →
  (seg.options = true ∨ seg.fragment = true → Does (.tcpSegment sid seg) s [.ctrs] (CountsOnce (ck1 .tcpDiscarded (s.connPort sid.val)) s)) ∧
  (seg.options = false → seg.fragment = false →
    ((s.conn sid.val).st = .synSent → seg.rst = false → seg.syn = true → seg.ackNo = some (s.conn sid.val).sndNxt →
      Does (.tcpSegment sid seg) s [.ctrs, .ports, .tcp] (fun t =>
        (t.conn sid.val).st = .open ∧ (t.conn sid.val).rcvNxt = seg.seqNo + 1 ∧ (t.conn sid.val).reopenAt = none ∧
        (t.conn sid.val).mss = seg.mss.getD 536 ∧ (t.conn sid.val).tsRecent = seg.tsVal.getD 0 ∧
        ∀ k : Nat, k ≠ sid.val → t.conn k = s.conn k)) ∧
    ((s.conn sid.val).st = .open → seg.rst = false → seg.data ≠ [] → seg.ackNo = none →
      (seg.seqNo ≠ (s.conn sid.val).rcvNxt → Does (.tcpSegment sid seg) s [.ctrs, .ports, .tcp] (fun t =>
        (t.conn sid.val).rcvNxt = (s.conn sid.val).rcvNxt ∧ (t.conn sid.val).partialBytes = (s.conn sid.val).partialBytes ∧
        t.ctr (ck1 .tcpOutOfOrder (s.connPort sid.val)) = satAdd (s.ctr (ck1 .tcpOutOfOrder (s.connPort sid.val))) 1)) ∧
      (seg.seqNo = (s.conn sid.val).rcvNxt → seg.fin = false →
        (rebuild (seg.data.length + (s.conn sid.val).partialBytes.length) (s.conn sid.val).partialBytes.length
          (decide (4 ≤ (s.conn sid.val).partialBytes.length)) ((s.conn sid.val).partialBytes ++ seg.data)).2.2 = false →
        Does (.tcpSegment sid seg) s [.ctrs, .ports, .tcp] (fun t => (t.conn sid.val).st = .open ∧
          (t.conn sid.val).rcvNxt = (s.conn sid.val).rcvNxt + BitVec.ofNat 32 seg.data.length))) ∧
    ((s.conn sid.val).st = .open → seg.rst = true → Does (.tcpSegment sid seg) s [.ctrs, .attn, .ports, .tcp, .streams, .pair] (fun t =>
      t.conn sid.val = { TcpConn.reset with reopenAt := some (s.lts + 1000000000) } ∧ ∀ k : Nat, k ≠ sid.val → t.conn k = s.conn k)))) ∧
  (∀ (sid : Fin 8192) (s : State), s.tcpServed sid.val = true →
  (∀ due, (s.conn sid.val).reopenAt = some due → due ≤ s.lts → Does (.tcpReopen sid) s [.ctrs, .ports, .tcp, .free] (fun t =>
    (t.conn sid.val).st = .synSent ∧ (t.conn sid.val).sndNxt = (t.conn sid.val).sndUna + 1 ∧
    (t.conn sid.val).reopenAt = some (s.lts + 1000000000))) ∧
  (∀ q b due n, (s.conn sid.val).flight.find? (fun f => decide (f.2.2.1 ≤ s.lts)) = some (q, b, due, n) →
    (n < 5 → Does (.tcpRetransmit sid) s [.ctrs, .ports, .tcp] (fun t =>
      (q, b, s.lts + 200000000, n + 1) ∈ (t.conn sid.val).flight ∧ (t.conn sid.val).st = (s.conn sid.val).st)) ∧
    (5 ≤ n → Does (.tcpRetransmit sid) s [.ctrs, .attn, .ports, .tcp, .streams, .pair] (fun t =>
      t.conn sid.val = { TcpConn.reset with reopenAt := some (s.lts + 1000000000) } ∧
      t.ctr (ck1 .tcpResets (s.connPort sid.val)) = satAdd (s.ctr (ck1 .tcpResets (s.connPort sid.val))) 1))) ∧
  (∀ due, (s.conn sid.val).ackDue = some due → due ≤ s.lts → (s.conn sid.val).st = .open →
    Does (.tcpAckTimer sid) s [.ctrs, .ports, .tcp] (fun t => t.conn sid.val = { s.conn sid.val with segs := 0, unacked := 0, ackDue := none })) ∧
  ((s.conn sid.val).st = .open → Does (.tcpConnectionReset sid) s [.ctrs, .attn, .ports, .tcp, .streams, .pair] (fun t =>
    t.conn sid.val = { TcpConn.reset with reopenAt := some (s.lts + 1000000000) })))

/-- R107, R109, R111 and R130: the classifier takes the oldest frame of the buffer whose turn it is, and that port has then been
served. A PTP frame goes on to Hearth. A frame that matches no descriptor is counted as unmatched on its port; one that matches a
descriptor but arrives on a line port whose bit in PORT_MASK is clear is dropped and counted as wrong port against that SID; one that
passes the stages of its stream is delivered, and waits in its buffer while a slice that it is for cannot take it. While it is not
this port's turn nothing is taken. -/
def Obligations.ClassifierDropsUnmatchedAndWrongPort : Prop := ∀ (p : LinePort) (s : State) (x : PortSt) (i : InFrame) (rest : List InFrame),
  s.ports[p.val]? = some x → x.ingress = i :: rest → s.beatsRun = true →
  (s.turn = some p.val →
    (i.tcp = none → isPtp (frameBody i.frame) = true → Does (.classifyFrame p ()) s [.ctrs, .ports, .time, .served] (fun t =>
      t.port p.val = { x with ingress := rest, used := x.used - i.frame.len } ∧ t.served = p.val ∧ t.dt = s.dt ∧ t.lts = s.lts ∧
      t.ctr (ck1 .ptpFrames p.val) = satAdd (s.ctr (ck1 .ptpFrames p.val)) 1)) ∧
    (s.boot.mode ≠ .halt → i.tcp = none → isPtp (frameBody i.frame) = false → s.subCommand (frameBody i.frame) = none →
      (s.matchSid i.frame = none → Does (.classifyFrame p ()) s [.ctrs, .ports, .served] (fun t =>
        t.port p.val = { x with ingress := rest, used := x.used - i.frame.len } ∧ t.served = p.val ∧
        (∀ p' : Nat, p' ≠ p.val → t.port p' = s.port p') ∧ CountsOnce (ck1 .unmatched p.val) s t)) ∧
      (∀ sid, s.matchSid i.frame = some sid → bitAt (streamSflags (s.rec_ .stream sid)) 2 = false →
        (bitAt (streamPortMask (s.rec_ .stream sid)) p.val = false → Does (.classifyFrame p ()) s [.ctrs, .ports, .served] (fun t =>
          t.port p.val = { x with ingress := rest, used := x.used - i.frame.len } ∧ t.served = p.val ∧
          (∀ p' : Nat, p' ≠ p.val → t.port p' = s.port p') ∧ CountsOnce (ck1 .wrongPort sid) s t)) ∧
        (∀ u v d, u = ({ s with served := p.val }).modPort p.val (fun y => { y with ingress := rest, used := y.used - i.frame.len }) →
          u.streamPath p.val sid i (streamBody (frameBody i.frame)) = (v, some d) →
          ((s.deliverTo sid).any (fun r => s.sliceStalled r) = false →
            exec (.classifyFrame p ()) s = .next (v.deliver d (streamBody (frameBody i.frame)))) ∧
          ((s.deliverTo sid).any (fun r => s.sliceStalled r) = true → exec (.classifyFrame p ()) s = .next s))))) ∧
  (s.turn ≠ some p.val → exec (.classifyFrame p ()) s = .next s)

/-- R127 and R128 (Tables INT-11, INT-12): a LIVE stream without a delivery for STALE_TIMEOUT beats becomes STALE, and no other
stream changes; a CFG-2 request is due every 5 s, and a turn-on 100 ms after it but in MISMATCH. R129 and Table INT-13: the oldest
command on the command path is taken; one that names no output stream of this device is refused and counted, and one that turns the
stream of a subscriber on or off is accepted, counted, and the change waits for its boundary. -/
def Obligations.StaleStreamsAndCommands : Prop := ∀ s : State,
  (∀ sid : Fin 8192, s.works = true → (s.streamSt sid.val).st = .live → (s.streamSt sid.val).fresh = false →
    streamStaleTimeout (s.rec_ .stream sid.val) ≤ (s.streamSt sid.val).idle →
    Does (.streamStale sid) s (footprint (.streamStale sid)) (fun t =>
      (t.streamSt sid.val).st = .stale ∧ (t.streamSt sid.val).cfgDue = some s.lts ∧ ∀ k : Nat, k ≠ sid.val → t.streamSt k = s.streamSt k)) ∧
  (∀ (sid : Fin 8192) (due : Ns), (s.streamSt sid.val).cfgDue = some due → due ≤ s.lts → (s.streamSt sid.val).onDue = none →
    Does (.sourceCmdTimer sid) s (footprint (.sourceCmdTimer sid)) (fun t => (t.streamSt sid.val).cfgDue = some (s.lts + 5000000000) ∧
      (t.streamSt sid.val).st = (s.streamSt sid.val).st ∧
      ((s.streamSt sid.val).st ≠ .mismatch → (t.streamSt sid.val).onDue = some (s.lts + 100000000)) ∧
      ((s.streamSt sid.val).st = .mismatch → (t.streamSt sid.val).onDue = none))) ∧
  (∀ q rest, s.pub.cmds = q :: rest → s.works = true →
    (s.commandTarget q = none → Does .subscriberCommand s [.ctrs, .attn, .ports, .pub, .pair] (fun t =>
      t.pub = { s.pub with cmds := rest } ∧ t.ctr (ck .commandsRefused) = satAdd (s.ctr (ck .commandsRefused)) 1)) ∧
    (∀ n p, s.commandTarget q = some (n, p) → beAt q.bytes 14 2 = 1 ∨ beAt q.bytes 14 2 = 2 → Does .subscriberCommand s [.ctrs, .pub] (fun t =>
      t.pub = { s.pub with cmds := rest, changes := s.pub.changes ++ [(n, p, beAt q.bytes 14 2 == 2)] } ∧ CountsOnce (ck .commandsAccepted) s t)))

/-- R164, R166 and R177: a row opens LEAD before its tag with the next SEQ, empty, and not earlier; a value leaves the front of its
slice's queue while its slots have room for it: one on time and first of its kind in an open row enters that row with DT behind the
values there, and one older than the first row is counted as before start and opens nothing; a row retires from slot memory and
stays as a presence record; a row past its horizon leaves the slice. -/
def Obligations.RowsOpenFillAndRetire : Prop := ∀ (r : Region) (s : State) (x : SliceSt), s.align.slices[r.val]? = some x → s.steps = true →
  (∀ tag : Ns, x.next = some tag → tag ≤ s.dt + s.leadNs r.val → (x.rows.filter (fun w => !w.retired)).length < 256 →
    Does (.rowOpen r) s [.ctrs, .align] (fun t => (∃ w, (t.slice r.val).rows = x.rows ++ [w] ∧ w.tag = tag ∧ w.seq = x.nextSeq ∧
        w.entries = [] ∧ w.groups = [] ∧ w.sets = [] ∧ w.retired = false) ∧
      (t.slice r.val).queue = x.queue ∧ CountsOnce (ck1 .rowsOpened r.val) s t ∧ ∀ r' : Nat, r' ≠ r.val → t.slice r' = s.slice r')) ∧
  (∀ tag : Ns, x.next = some tag → s.dt + s.leadNs r.val < tag → exec (.rowOpen r) s = .next s) ∧
  (∀ w : Row, x.rows.find? (fun w => !w.retired && decide (w.tag + s.retireNs r.val ≤ s.dt)) = some w → Does (.rowRetire r) s [.align, .sch] (fun t =>
    (t.slice r.val).rows = x.rows.map (fun y => if y.tag = w.tag then { y with retired := true } else y) ∧ (t.slice r.val).queue = x.queue)) ∧
  (∀ w : Row, x.rows.find? (fun w => decide (w.tag + (s.retireNs r.val + s.horizonNs r.val) ≤ s.dt)) = some w →
    Does (.rowFinal r) s [.ctrs, .align] (fun t => (t.slice r.val).rows = x.rows.filter (fun y => y.tag != w.tag) ∧ (t.slice r.val).queue = x.queue)) ∧
  (∀ (v : SliceIn) (rest : List SliceIn) (first : Ns), x.queue = v :: rest → (∀ d, v = .frame d → d.kind < 2) →
    (s.reg r.val).stalled = [] → x.first = some first → slotPages (v :: s.slotVals r.val) ≤ 30720 →
    (x.rows.filter (fun w => !w.retired)).length < 256 →
    (v.tag < first → Does (.sliceEntry r) s [.ctrs, .align, .sch] (fun t => (t.slice r.val).queue = rest ∧ (t.slice r.val).rows = x.rows ∧
      CountsOnce (ck1 .beforeStart v.unit) s t)) ∧
    (∀ (w : Row) (nx : Ns), first ≤ v.tag → v.tag ≤ s.dt + s.leadNs r.val → x.next = some nx → s.dt + s.leadNs r.val < nx →
      s.rowTag r.val v.tag = v.tag → x.rows.find? (fun y => y.tag == v.tag) = some w → w.retired = false →
      s.dt < v.tag + s.retireNs r.val → firstCopy w.entries v = none →
      Does (.sliceEntry r) s (footprint (.sliceEntry r)) (fun t => (t.slice r.val).queue = rest ∧
        ∃ y ∈ (t.slice r.val).rows, y.tag = v.tag ∧
          y.entries = w.entries ++ [{ val := v, entered := s.dt, between := false, late := false }])))

/-- R174 and R176: a watch group whose quorum is unmet closes short once Q_WAIT has passed, which is counted; an output set closes at
its earliest open tag whose WAIT has been reached, and no row of that tag holds an open part of the set any more. While no WAIT has been
reached nothing closes, nor does a group that the image does not hold. -/
def Obligations.QuorumAndDeadlineCloses : Prop := ∀ s : State, s.steps = true →
  (∀ (g : Fin 256) (w : Row), groupValid (s.rec_ .group g.val) ≠ 0 → groupRegion (s.rec_ .group g.val) < s.align.slices.length →
    (s.slice (groupRegion (s.rec_ .group g.val))).rows.find? (fun w => !w.groups.contains g.val &&
      onGrid (rateOf (groupSetRate (s.rec_ .group g.val))) w.tag && decide (w.tag + groupQWait (s.rec_ .group g.val) * 1000 ≤ s.dt)) = some w →
    Does (.quorumWaitExpiry g) s (footprint (.quorumWaitExpiry g)) (fun t =>
      t.ctr (ck1 .quorumShort g.val) = satAdd (s.ctr (ck1 .quorumShort g.val)) 1 ∧ t.dt = s.dt ∧
      ∀ y ∈ (t.slice (groupRegion (s.rec_ .group g.val))).rows, y.tag = w.tag → g.val ∈ y.groups ∧ y.short = true)) ∧
  (∀ g : Fin 256, groupValid (s.rec_ .group g.val) = 0 → exec (.quorumWaitExpiry g) s = .next s) ∧
  (∀ n : Fin 64, s.outInUse n.val = true → outStreamAlarm (s.rec_ .outStream n.val) ≠ 1 →
    ((s.openTags n.val).filter (fun t => decide (t + outSetWait (s.rec_ .outSet n.val) * 1000 ≤ s.dt)) = [] →
      exec (.deadlineClose n) s = .next s) ∧
    (∀ tag : Ns, tag ∈ (s.openTags n.val).filter (fun t => decide (t + outSetWait (s.rec_ .outSet n.val) * 1000 ≤ s.dt)) →
      (∀ u ∈ (s.openTags n.val).filter (fun t => decide (t + outSetWait (s.rec_ .outSet n.val) * 1000 ≤ s.dt)), tag ≤ u) →
      Does (.deadlineClose n) s (footprint (.deadlineClose n)) (fun t => t.dt = s.dt ∧
        ∀ r : Nat, r < 4 → r < s.align.slices.length → s.holdsPart n.val r = true →
          ∀ y ∈ (t.slice r).rows, y.tag = tag → n.val ∈ y.sets)))

/-! Waveforms, estimates and replay (chapters 08 and 17). -/

/-- R198, R199 and Table WAV-6, rows 1 to 3 and the accepted one: a frame of an enabled lane in NOSYNC is counted and not used; one
whose SYNC had completed while WV_SYNC_N was low is counted as during sync; one whose length or CRC-8 is wrong is counted, and the lane
stays where it is; a frame that passes every check, next in sequence and with its edge in the ring, is accepted: the lane is in RUN,
remembers its number and counts it. A frame of a lane that is not enabled, or without the pattern of SYNC, changes nothing. -/
def Obligations.LaneFrames : Prop := ∀ (l : Fin 8) (b d : Bytes) (crc : Byte) (s : State) (x : LaneSt),
  s.swage.lanes[l.val]? = some x → b = d ++ [crc] →
  (s.works = false ∨ laneEnable (s.rec_ .lane l.val) = 0 ∨ fld (beAt b 0 5) 39 24 ≠ 0xF0A5 → exec (.laneFrame l d crc) s = .next s) ∧
  (s.works = true → laneEnable (s.rec_ .lane l.val) ≠ 0 → fld (beAt b 0 5) 39 24 = 0xF0A5 →
    (x.st = .nosync → Does (.laneFrame l d crc) s [.ctrs] (CountsOnce (ck1 .laneBeforeSync l.val) s)) ∧
    (x.st ≠ .nosync → s.syncLow (s.lts - 20 * (8 * b.length - 16)) = true → Does (.laneFrame l d crc) s [.ctrs, .swage] (fun t =>
      t.lane l.val = { x with fmtRun := 0, seqRun := 0 } ∧ CountsOnce (ck1 .laneDuringSync l.val) s t)) ∧
    (x.st ≠ .nosync → s.syncLow (s.lts - 20 * (8 * b.length - 16)) = false →
      (crc8 ((b.drop 2).take (b.length - 3)) ≠ crc ∨
          b.length ≠ 6 + fld (beAt b 0 5) 7 4 * sampleBytes (fld (beAt b 0 5) 3 3) →
        Does (.laneFrame l d crc) s [.ctrs, .attn, .ports, .swage, .pair] (fun t =>
          t.lane l.val = { x with fmtRun := 0, seqRun := 0 } ∧ t.ctr (ck1 .laneCrc l.val) = satAdd (s.ctr (ck1 .laneCrc l.val)) 1)) ∧
      (∀ num edge, crc8 ((b.drop 2).take (b.length - 3)) = crc →
        b.length = 6 + fld (beAt b 0 5) 7 4 * sampleBytes (fld (beAt b 0 5) 3 3) →
        fld (beAt b 0 5) 7 4 = laneChCount (s.rec_ .lane l.val) → fld (beAt b 0 5) 3 3 = laneWidth (s.rec_ .lane l.val) →
        bitAt (beAt b 0 5) 2 = false →
        (x.last = none ∧ fld (beAt b 0 5) 23 8 = 0 ∧ num = 0 ∨
          ∃ n, x.last = some n ∧ (fld (beAt b 0 5) 23 8 + 65536 - n % 65536) % 65536 = 1 ∧ num = n + 1) →
        x.edges.find? (fun e => e.1 == num) = some edge →
        Does (.laneFrame l d crc) s [.ctrs, .attn, .ports, .swage, .pair] (fun t =>
          (t.lane l.val).st = .run ∧ (t.lane l.val).last = some num ∧ (t.lane l.val).at_ = s.lts ∧
          t.ctr (ck1 .laneAccepted l.val) = satAdd (s.ctr (ck1 .laneAccepted l.val)) 1))))

/-- R198, R199, R203 and Table WAV-6: the release of WV_SYNC_N puts every enabled lane in RUN with cycle 0 at the present DT, expecting
its first frame; its assertion closes every partial word; each loss of WV_CLK puts every lane in NOSYNC and is counted; four sample
periods without a frame stop a lane, which is counted, and close the partial word of its group. -/
def Obligations.LaneStates : Prop := ∀ s : State, s.swage.lanes.length = 8 → s.swage.queues.length = 4 → s.works = true →
  (∀ low, s.swage.sync = some low → Does .wvSyncRelease s [.swage] (fun t =>
    t.swage.sync = none ∧ t.swage.clkLost = false ∧ t.swage.clk0 = some s.lts ∧ t.swage.syncWas = some (low, s.lts) ∧
    ∀ l : Nat, l < 8 → (laneEnable (s.rec_ .lane l) = 1 → (t.lane l).st = .run ∧ (t.lane l).last = none ∧ (t.lane l).first = true ∧
        (t.lane l).edges = [(0, s.dt)]) ∧
      (laneEnable (s.rec_ .lane l) ≠ 1 → t.lane l = s.lane l))) ∧
  (s.swage.sync = none → exec .wvSyncRelease s = .next s ∧ Does .wvSyncAssert s [.ctrs, .attn, .ports, .swage, .pair] (fun t =>
    t.swage.sync = some s.lts ∧ t.swage.lanes = s.swage.lanes ∧ ∀ g : Nat, g < 4 → (t.wq g).part = [])) ∧
  (s.swage.sync ≠ none → exec .wvSyncAssert s = .next s) ∧
  Does .wvClkLost s [.ctrs, .attn, .ports, .swage, .pair] (fun t =>
    t.swage.clkLost = true ∧ (∀ l : Nat, l < 8 → (t.lane l).st = .nosync) ∧ t.swage.queues = s.swage.queues ∧
    t.ctr (ck .wvClkLosses) = satAdd (s.ctr (ck .wvClkLosses)) 1) ∧
  (∀ l : Fin 8, (s.lane l.val).st = .run →
    ((s.lane l.val).at_ + 4 * s.lanePeriod l.val ≤ s.lts →
      Does (.laneStop l) s [.ctrs, .attn, .ports, .swage, .pair] (fun t => t.lane l.val = { s.lane l.val with st := .stopped } ∧
        (∀ l' : Nat, l' ≠ l.val → t.lane l' = s.lane l') ∧ (t.wq (l.val / 2)).part = [] ∧
        t.ctr (ck1 .laneStops l.val) = satAdd (s.ctr (ck1 .laneStops l.val)) 1)) ∧
    (s.lts < (s.lane l.val).at_ + 4 * s.lanePeriod l.val → exec (.laneStop l) s = .next s))

/-- R202 to R204: HANDOFF_US after the first write into it, and not while the other bank is unread, a bank becomes readable and the
other bank is written; its partial word, if it has one, is closed with its count behind the words of the bank. The reader takes the
oldest word: its bytes go to the record being read, or, while a record was lost, wait for the next FIRST_REC; an uncorrectable word
is thrown away and counted, and the reader skips to the next record. -/
def Obligations.InputQueueBanks : Prop := ∀ (g : Fin 4) (s : State) (q : QueueSt), s.swage.queues[g.val]? = some q → s.works = true →
  (∀ since : Ns, q.since = some since → q.reading = [] → since + frontEndHandoffUs (s.rec_ .frontEnd 0) * 1000 ≤ s.lts →
    (q.part = [] → Does (.bankHandoff g) s [.swage] (fun t =>
      t.wq g.val = { q with reading := q.writing, writing := [], bank := 1 - q.bank, since := none } ∧ ∀ g' : Nat, g' ≠ g.val → t.wq g' = s.wq g')) ∧
    (q.part ≠ [] → Does (.bankHandoff g) s [.ctrs, .attn, .ports, .swage, .pair] (fun t =>
      (t.wq g.val).reading = q.writing ++ [qWord (padTo 32 q.part) q.partFirst q.part.length] ∧
      (t.wq g.val).part = [] ∧ (t.wq g.val).writing = [] ∧ (t.wq g.val).since = none ∧
      t.ctr (ck1 .partialWords g.val) = satAdd (s.ctr (ck1 .partialWords g.val)) 1))) ∧
  (q.reading ≠ [] → exec (.bankHandoff g) s = .next s) ∧
  (∀ w rest, q.reading = w :: rest →
    (q.lost = false → (q.parse ++ w.bytes.take w.valid).length < 16 →
      Does (.queueWordRead g .none) s [.ctrs, .attn, .ports, .swage, .pair] (fun t =>
        (t.wq g.val).reading = rest ∧ (t.wq g.val).parse = q.parse ++ w.bytes.take w.valid ∧ (t.wq g.val).lost = false)) ∧
    (q.lost = true → 32 ≤ w.firstRec → Does (.queueWordRead g .none) s [.ctrs, .attn, .ports, .swage, .pair] (fun t =>
      (t.wq g.val).reading = rest ∧ (t.wq g.val).parse = q.parse ∧ (t.wq g.val).lost = true)) ∧
    Does (.queueWordRead g .uncorrectable) s (footprint (.queueWordRead g .uncorrectable)) (fun t =>
      (t.wq g.val).reading = rest ∧ (t.wq g.val).parse = [] ∧ (t.wq g.val).lost = true ∧
      t.ctr (ck2 .bankUncorrectable g.val (1 - q.bank)) = satAdd (s.ctr (ck2 .bankUncorrectable g.val (1 - q.bank))) 1)) ∧
  (q.reading = [] → ∀ e, exec (.queueWordRead g e) s = .next s)

/-- R210, R214, R216 and R222: a sample that has not come by its instant and SV_WAIT, with none held behind it, counts as missing and
the next instant of its grid is expected; an estimate whose window is in leaves at its grid instant, enters the queue of its slice,
and the next instant follows; a fast estimate does the same at 1,200 Hz, and enters the queue only at the tags of an entry with
EST_CLASS 0b00. -/
def Obligations.SamplesAndEstimates : Prop := ∀ s : State, s.works = true →
  (∀ (sid : Fin 8192) (pos : Fin 8) (due : Ns), (s.chain (64 + 8 * sid.val + pos.val)).next = some due →
    (due + s.svWait < s.dt → (s.chain (64 + 8 * sid.val + pos.val)).held = [] →
      Does (.svSampleDeadline sid pos) s [.ctrs, .swage] (fun t =>
        t.chain (64 + 8 * sid.val + pos.val) = { s.chain (64 + 8 * sid.val + pos.val) with
          waiting := true
          next := some (gridPoint (svRate (streamRateCode (s.rec_ .stream sid.val))) (gridIndex (svRate (streamRateCode (s.rec_ .stream sid.val))) due + 1)) } ∧
        CountsOnce (ck2 .missingSamples sid.val pos.val) s t)) ∧
    (s.dt ≤ due + s.svWait → exec (.svSampleDeadline sid pos) s = .next s)) ∧
  (∀ (ch : Fin 65536) (due : Ns) (w : Nat × Nat × Nat), chanValid (s.rec_ .chan ch.val) ≠ 0 → chanSource (s.rec_ .chan ch.val) = 6 →
    chanEstClass (s.rec_ .chan ch.val) ≠ 0 → chanEstClass (s.rec_ .chan ch.val) ≠ 3 → rateOf (chanOutRate (s.rec_ .chan ch.val)) ≠ 0 →
    s.spans (chanEstClass (s.rec_ .chan ch.val)) (chanOutRate (s.rec_ .chan ch.val)) = w → (s.est ch.val).next = some due →
    (due + w.2.2 ≤ s.dt → s.windowIn (s.chainKey (chanSrcRef (s.rec_ .chan ch.val))) (due + w.2.2) = true →
      Does (.estimateRelease ch) s (footprint (.estimateRelease ch)) (fun t =>
        (t.est ch.val).next = some (gridPoint (rateOf (chanOutRate (s.rec_ .chan ch.val))) (gridIndex (rateOf (chanOutRate (s.rec_ .chan ch.val))) due + 1)) ∧
        (s.chanRegion ch.val < s.align.slices.length → (t.slice (s.chanRegion ch.val)).queue =
          (s.slice (s.chanRegion ch.val)).queue ++ [.est (s.formEst ch.val due false w w)]))) ∧
    (s.dt < due + w.2.2 → exec (.estimateRelease ch) s = .next s)) ∧
  (∀ (ch : Fin 65536) (due : Ns), chanValid (s.rec_ .chan ch.val) ≠ 0 → chanSource (s.rec_ .chan ch.val) = 6 →
    chanFastMinphase (s.rec_ .chan ch.val) ≠ 0 → (s.est ch.val).nextFast = some due →
    (due + s.fastSpans.2 ≤ s.dt → s.windowIn (s.chainKey (chanSrcRef (s.rec_ .chan ch.val))) (due + s.fastSpans.2) = true →
      Does (.fastEstimate ch) s (footprint (.fastEstimate ch)) (fun t =>
        (t.est ch.val).nextFast = some (gridPoint 1200 (gridIndex 1200 due + 1)) ∧ (t.est ch.val).next = (s.est ch.val).next ∧
        (s.chanRegion ch.val < s.align.slices.length → (t.slice (s.chanRegion ch.val)).queue = (s.slice (s.chanRegion ch.val)).queue ++
          (if chanEstClass (s.rec_ .chan ch.val) = 0 ∧ onGrid (rateOf (chanOutRate (s.rec_ .chan ch.val))) due = true then
            [.est (s.formEst ch.val due true (s.fastSpans.1, s.fastSpans.1, s.fastSpans.1) (s.fastSpans.2, s.fastSpans.2, s.fastSpans.2))]
           else [])))) ∧
    (s.dt < due + s.fastSpans.2 → exec (.fastEstimate ch) s = .next s))

/-- R227 and R228: in REPLAY a lane of the mask whose frame is due sends it, with its number as SEQ, one code for each of its channels and
the bytes of the frame, and the lane's count of frames goes up by one; either the output was ready, or the underrun is counted and
nothing is sent (log entry 32: a free value says which). Before the frame is due, after the end of the replay, for a lane outside the
mask, and outside REPLAY nothing is sent. -/
def Obligations.ReplayFramesLeave : Prop := ∀ (lane : Fin 2) (s : State) (x : ReplaySt) (n : Nat) (tau : Ns), s.swage.replay = some x →
  n = (if lane.val = 0 then x.n0 else x.n1) →
  tau = n * 1000000000 / (if frontEndReplayFast (s.rec_ .frontEnd 0) = 1 then 38400 else 9600) →
  (s.boot.mode = .replay → bitAt x.mask lane.val = true → tau < x.lengthMs * 1000000 →
    ((x.p0 + tau : Nat) : Int) + signed 32 (frontEndReplayOffset (s.rec_ .frontEnd 0)) ≤ (s.dt : Int) →
    Does (.replayFrameOut lane) s [.ctrs, .swage, .free] (fun t =>
      t.swage.replay = some (if lane.val = 0 then { x with n0 := n + 1 } else { x with n1 := n + 1 }) ∧
      ((∃ o, t.swage.out = o :: s.swage.out.filter (fun o => o.lane != lane.val) ∧ o.lane = lane.val ∧ o.seq = n % 65536 ∧
          o.codes.length = (if lane.val = 0 then x.lane0 else x.lane1).length ∧
          o.bytes = outBytes (n % 65536) (frontEndReplayWidth (s.rec_ .frontEnd 0)) o.codes) ∨
       (t.swage.out = s.swage.out ∧ CountsOnce (ck1 .underruns lane.val) s t)))) ∧
  (s.boot.mode ≠ .replay ∨ bitAt x.mask lane.val = false ∨ x.lengthMs * 1000000 ≤ tau ∨
      (s.dt : Int) < ((x.p0 + tau : Nat) : Int) + signed 32 (frontEndReplayOffset (s.rec_ .frontEnd 0)) →
    exec (.replayFrameOut lane) s = .next s)

/-! Oscillation, islanding, logic and outputs (chapters 09, 10, 12 and 14). -/

/-- R240: an update of a band runs once for each update instant: a running item of its kernel carries it out and is thereby
worked; an update instant already taken, or one while no item of the kernel runs, changes nothing. R251: a pending location
run starts after the boundary, and one run of a set runs at a time; its result ends it and is the set's latest. -/
def Obligations.OscillationUpdatesAndLocation : Prop := ∀ s : State, s.works = true →
  (∀ (t : OscTarget) (band : Fin 4) (k : Nat) (u : Ns) (c : Nat), s.targetKey t band.val = some k → s.updateInstant band.val = some u →
    (List.range 64).find? (fun c => match (s.cell c).run with
      | some it => s.kernelOf it == (match t with | .bank _ => kBank | .modal _ => kModal) | none => false) = some c →
    (s.shed (s.oscRegion k) 6 = false → (s.bandSt k).done ≠ some u → c < s.sch.cells.length → Does (.bandUpdate t band) s (footprint (.bandUpdate t band)) (fun t' =>
      (t'.bandSt k).done = some u ∧ (t'.cell c).worked = true)) ∧
    ((s.bandSt k).done = some u ∨ s.shed (s.oscRegion k) 6 = true → exec (.bandUpdate t band) s = .next s)) ∧
  (∀ (l : Fin 16) (p : Nat × Word × Ns), (s.locSt l.val).pending = some p → (s.locSt l.val).pendAt < s.sch.beats →
    locSetValid (s.rec_ .locSet l.val) = 1 →
    ((s.locSt l.val).running = none → Does (.locationRunStart l) s [.ctrs, .osc] (fun t =>
      t.locSt l.val = { running := some p, startedAt := s.sch.beats, pending := none, pendAt := 0, spoilt := false } ∧
      (∀ l' : Nat, l' ≠ l.val → t.locSt l' = s.locSt l') ∧ CountsOnce (ck1 .locRuns l.val) s t)) ∧
    ((s.locSt l.val).running ≠ none → exec (.locationRunStart l) s = .next s)) ∧
  (∀ (l : Fin 16) (i : Nat) (f : Word) (tag : Ns), (s.locSt l.val).running = some (i, f, tag) → Does (.locationResult l) s (footprint (.locationResult l)) (fun t =>
    (t.locSt l.val).running = none ∧ (∃ r, aget t.osc.locLatest l.val = some r ∧ r.set = l.val ∧ r.tag = tag ∧ r.modeIndex = i ∧ r.buses.length = 4))) ∧
  (∀ l : Fin 16, (s.locSt l.val).running = none → exec (.locationResult l) s = .next s)

/-- R258 and R259: the evaluation that runs on the reserved cell (Table ISL-3) covers the sets its item was posted over and no
other that waits; its tag is the latest of theirs, it is counted, and its outputs are written. With sets waiting and the cell free the
evaluation begins there and covers all of them. Without a configured islanding function, without a reserved cell, or with an
evaluation whose outputs are written, nothing is evaluated. R269 and R175: the running item of a group's close runs the group's own
detectors, and no other detector changes; the closed set then waits for the next evaluation where the group has a part in islanding. -/
def Obligations.IslandingEvaluationAndDetectors : Prop := ∀ s : State, s.works = true →
  (∀ c it, s.islConfigured = true → s.islCell = some c → c < s.sch.cells.length → (s.cell c).run = some it → s.kernelOf it = kIsl →
    (s.cell c).worked = false →
    (s.isl.waiting ≠ [] → Does .islandEvaluation s (footprint .islandEvaluation) (fun t =>
      t.isl.waiting = s.isl.waiting.drop (s.evalSets it) ∧ (t.cell c).worked = true ∧
      t.isl.evalTag = (sortSets (s.isl.waiting.take (s.evalSets it))).foldl (fun m g => max m g.tag) 0 ∧
      t.ctr (ck .evaluations) = satAdd (s.ctr (ck .evaluations)) 1)) ∧
    (s.isl.waiting = [] → Does .islandEvaluation s [.sch] (fun t => (t.cell c).worked = true))) ∧
  (∀ c, s.islConfigured = true → s.islCell = some c → c < s.sch.cells.length → (s.cell c).run = none → s.isl.waiting ≠ [] →
    Does .islandEvaluation s (footprint .islandEvaluation) (fun t => t.isl.waiting = [] ∧ (t.cell c).worked = true ∧
      t.isl.evalTag = (sortSets s.isl.waiting).foldl (fun m g => max m g.tag) 0 ∧
      t.ctr (ck .evaluations) = satAdd (s.ctr (ck .evaluations)) 1)) ∧
  (s.islConfigured = false → exec .islandEvaluation s = .next s) ∧
  (s.islCell = none → exec .islandEvaluation s = .next s) ∧
  (∀ c it, s.islCell = some c → (s.cell c).run = some it → (s.cell c).worked = true → exec .islandEvaluation s = .next s) ∧
  (∀ (g : Fin 256) (c : Nat) (it : Item) (gs : GroupSet),
    s.runner kFast (fun it => match it.ctx with | .group gs => gs.group == g.val | _ => false) = some (c, it) → it.ctx = .group gs →
    c < s.sch.cells.length → Does (.detectorWork g) s (footprint (.detectorWork g)) (fun t => (t.cell c).worked = true ∧
      (∀ d : Nat, d ∉ s.detsOf g.val → t.detSt d = s.detSt d) ∧
      t.isl.waiting = s.isl.waiting ++ (if s.islGroup gs.group = true ∧ s.isl.block.isSome = true then [gs] else []))) ∧
  (∀ g : Fin 256, s.runner kFast (fun it => match it.ctx with | .group gs => gs.group == g.val | _ => false) = none →
    exec (.detectorWork g) s = .next s)

/-- R317 and R319: the running item of a task carries out its scan on the snapshot that waits for it: the scan is counted, its
tag is the task's last, the snapshot is gone and the outputs are written. A HISKA scan that does not end normally faults its cell
(R311). Without an item or a snapshot nothing is scanned. -/
def Obligations.LogicScans : Prop := ∀ (task : Fin 32) (s : State),
  (∀ (c : Nat) (it : Item) (sn : Snapshot), s.scanOf task.val = some (c, it) →
    s.logic.snaps.find? (fun x => x.task == task.val) = some sn → c < s.sch.cells.length →
    (∀ s' : State, s.runScan sn = some s' → Does (.logicScan task) s (footprint (.logicScan task)) (fun t =>
      aget t.logic.lastTag task.val = some sn.tag ∧ (∀ x ∈ t.logic.snaps, x.task ≠ task.val) ∧
      (t.cell c).worked = true ∧ t.ctr (ck1 .scansCompleted task.val) = satAdd (s'.ctr (ck1 .scansCompleted task.val)) 1 ∧
      (12, task.val) ∈ t.boot.converged)) ∧
    (s.runScan sn = none → Does (.logicScan task) s (footprint (.logicScan task)) (fun t =>
      (t.cell c).faultNow = true ∧ (t.cell c).faults = (s.lts :: (s.cell c).faults).take 3))) ∧
  (s.scanOf task.val = none → exec (.logicScan task) s = .next s) ∧
  (s.logic.snaps.find? (fun x => x.task == task.val) = none → exec (.logicScan task) s = .next s)

/-- R329 and Table LOG-9: a level that is due is applied to its output while the mode drives the outputs and no force holds
it; a change within the minimum pulse of the level before it is deferred and counted, and applied when the pulse is over; in a mode
that does not drive the outputs, or under a force, it is counted as suppressed. -/
def Obligations.OutputLevels : Prop := ∀ (d : Fin 16) (s : State) (x : DoSt), s.logic.dos[d.val]? = some x →
  (∀ due tag v, dueFirst x.pend = some (due, tag, v) → due ≤ s.dt →
    (x.level = none ∨ x.level = some v ∨ x.at_ + s.pulseMin d.val ≤ s.dt →
      (s.drivesDo = true → x.forced = none → Does (.doLevelApply d) s [.logic] (fun t =>
        (t.doSt d.val).level = some v ∧ (x.level ≠ some v → (t.doSt d.val).at_ = s.dt) ∧ (x.level = some v → (t.doSt d.val).at_ = x.at_) ∧
        (t.doSt d.val).pend = x.pend.filter (fun y => y.1 != due) ∧ (t.doSt d.val).deferred = none ∧
        ∀ d' : Nat, d' ≠ d.val → t.doSt d' = s.doSt d')) ∧
      (s.drivesDo = false ∨ x.forced ≠ none → Does (.doLevelApply d) s [.ctrs, .logic] (fun t =>
        (t.doSt d.val).level = x.level ∧ (t.doSt d.val).at_ = x.at_ ∧ CountsOnce (ck1 .suppressedWrites d.val) s t))) ∧
    (s.dt < x.at_ + s.pulseMin d.val → x.level = some (!v) → Does (.doLevelApply d) s [.ctrs, .logic] (fun t =>
      (t.doSt d.val).level = x.level ∧ (x.deferred = none → (t.doSt d.val).deferred = some (x.at_ + s.pulseMin d.val, tag, v)) ∧
      CountsOnce (ck1 .pulseDeferrals d.val) s t))) ∧
  (∀ due tag v, dueFirst x.pend = some (due, tag, v) → s.dt < due → exec (.doLevelApply d) s = .next s) ∧
  (dueFirst x.pend = none → exec (.doLevelApply d) s = .next s) ∧
  (∀ stop tag v, x.deferred = some (stop, tag, v) →
    (stop ≤ s.dt → s.drivesDo = true → x.forced = none → Does (.pulseMinExpiry d) s [.logic] (fun t =>
      (t.doSt d.val).level = some v ∧ (t.doSt d.val).deferred = none ∧ (t.doSt d.val).pend = x.pend)) ∧
    (stop ≤ s.dt → s.drivesDo = false ∨ x.forced ≠ none → Does (.pulseMinExpiry d) s [.ctrs, .logic] (fun t =>
      (t.doSt d.val).level = x.level ∧ (t.doSt d.val).deferred = none ∧ CountsOnce (ck1 .suppressedWrites d.val) s t)) ∧
    (s.dt < stop → exec (.pulseMinExpiry d) s = .next s)) ∧
  (x.deferred = none → exec (.pulseMinExpiry d) s = .next s)

/-- R328, R372 and Table PUB-7: a change that has reached the publisher raises stNum by one and sets sqNum to 0, and the next frame
follows after T_MIN; a retransmission raises sqNum by one and doubles the interval up to T_MAX, and is absorbed while a change frame
awaits assembly; a trip whose repetitions are used up ends unacknowledged, which is counted, and one with repetitions left has one
fewer, the next after RETRY_MS. nextSeq gives the number after. -/
def Obligations.AlarmFramesAndTripRepetitions : Prop := ∀ s : State, s.works = true →
  (∀ (n : Fin 64) (x : PubStream), s.pub.streams[n.val]? = some x →
    (x.changed = true → Does (.alarmStateChange n) s (footprint (.alarmStateChange n)) (fun t =>
      (t.pubStream n.val).stNum = nextSeq x.stNum ∧ (t.pubStream n.val).sqNum = 0 ∧ (t.pubStream n.val).changed = false ∧
      (t.pubStream n.val).interval = outStreamTMin (s.rec_ .outStream n.val) ∧
      t.ctr (ck1 .alarmChanges n.val) = satAdd (s.ctr (ck1 .alarmChanges n.val)) 1 ∧ ∀ n' : Nat, n' ≠ n.val → t.pubStream n' = s.pubStream n')) ∧
    (x.changed = false → exec (.alarmStateChange n) s = .next s)) ∧
  (∀ (n : Fin 64) (x : PubStream) (due : Ns), s.pub.streams[n.val]? = some x → x.nextAt = some due →
    (due ≤ s.lts → x.changed = true → Does (.gooseRetransmit n) s [.ctrs, .pub] (fun t =>
      t.pubStream n.val = { x with nextAt := none } ∧ CountsOnce (ck1 .alarmAbsorbed n.val) s t)) ∧
    (due ≤ s.lts → x.changed = false → Does (.gooseRetransmit n) s (footprint (.gooseRetransmit n)) (fun t =>
      (t.pubStream n.val).sqNum = nextSeq x.sqNum ∧ (t.pubStream n.val).stNum = x.stNum ∧
      (t.pubStream n.val).interval = min (2 * x.interval) (outStreamTMax (s.rec_ .outStream n.val)) ∧
      t.ctr (ck1 .alarmRetransmits n.val) = satAdd (s.ctr (ck1 .alarmRetransmits n.val)) 1)) ∧
    (s.lts < due → exec (.gooseRetransmit n) s = .next s)) ∧
  (∀ (o : Fin 512) (y : Trip), s.logic.trips.find? (fun y => y.out == o.val) = some y →
    (y.due ≤ s.lts → y.left = 0 → Does (.tripRetry o) s [.ctrs, .attn, .ports, .logic, .pair] (fun t =>
      t.logic = { s.logic with trips := s.logic.trips.filter (fun y => y.out != o.val) } ∧
      t.ctr (ck1 .tripUnacked o.val) = satAdd (s.ctr (ck1 .tripUnacked o.val)) 1)) ∧
    (y.due ≤ s.lts → 0 < y.left → Does (.tripRetry o) s (footprint (.tripRetry o)) (fun t => ∀ z ∈ t.logic.trips, z.out = o.val →
      z.left = y.left - 1 ∧ z.due = y.due + outRecRetryMs (s.rec_ .outRec o.val) * 1000000)) ∧
    (s.lts < y.due → exec (.tripRetry o) s = .next s))

/-! Capture and the pair (chapters 13 and 15). -/

/-- R339 to R341: with no stamp waiting, the engine takes the oldest waiting trigger, which is counted when a source record
made it; with nothing waiting it takes nothing, and in REPLAY it passes over what is no source edge. XTRIG_N is released when its
pulse is over, and not before. -/
def Obligations.CaptureTakesTriggers : Prop := ∀ s : State,
  (s.dtRuns = true → s.cap.stamps = [] → (∀ x rest, s.cap.trigs = x :: rest →
    (x.kind < 6 → s.boot.mode ≠ .replay → Does .captureTrigger s (footprint .captureTrigger) (fun t =>
      t.cap.trigs = rest ∧ t.ctr (ck1 .triggersTaken x.src) = satAdd (s.ctr (ck1 .triggersTaken x.src)) 1)) ∧
    (2 ≤ x.kind → x.kind < 6 → s.boot.mode = .replay → Does .captureTrigger s [.cap] (fun t => t.cap = { s.cap with trigs := rest }))) ∧
    (s.cap.trigs = [] → exec .captureTrigger s = .next s)) ∧
  (s.dtRuns = false → exec .captureTrigger s = .next s) ∧
  (∀ from_ stop, s.cap.xtrig = some (from_, stop) →
    (stop ≤ s.dt → Does .xtrigPulseEnd s [.cap] (fun t => t.cap = { s.cap with xtrig := none })) ∧
    (s.dt < stop → exec .xtrigPulseEnd s = .next s)) ∧
  (s.cap.xtrig = none → exec .xtrigPulseEnd s = .next s)

/-- R345 and R348: at the first boundary at or after the end of its span a class goes from COLLECTING to CLOSING for two
boundaries and its record with it; then the record is DRAINING and the class ARMED. A class with AUTO set that has seen no
trigger in an earlier beat for AUTO_S takes one auto trigger. R354: a selected sample of an uncompleted record that is gone from the ring makes
its row a lost row, once; the row is counted and the record is marked truncated. -/
def Obligations.CaptureClassesAndRecords : Prop :=
  (∀ (k : Fin 16) (s : State) (x : CapCls), s.cap.classes[k.val]? = some x →
  (∀ b y, s.lastBoundary = some b → s.capRec x.rec_ = some y → x.st = .collecting →
    (y.stop ≤ b → Does (.spanEnd k) s [.sch, .cap] (fun t => t.capCls k.val = { x with st := .closing, left := 2 } ∧
      (∃ z, t.capRec x.rec_ = some z ∧ z.st = .closing) ∧ t.cap.recs.length = s.cap.recs.length ∧
      ∀ k' : Nat, k' ≠ k.val → t.capCls k' = s.capCls k')) ∧
    (b < y.stop → exec (.spanEnd k) s = .next s)) ∧
  (x.st = .closing → x.left = 0 → x.held = [] → Does (.closingEnd k) s [.cap] (fun t => t.capCls k.val = x.arm s.dt ∧
    (∀ z ∈ t.cap.recs, z.seq = x.rec_ → z.st = .draining) ∧ t.cap.recs.length = s.cap.recs.length)) ∧
  (x.st = .closing → x.left ≠ 0 → exec (.closingEnd k) s = .next s) ∧
  (∀ b, s.lastBoundary = some b → capClassValid (s.rec_ .capClass k.val) = 1 → capClassAuto (s.rec_ .capClass k.val) = 1 →
    x.st = .armed ∨ x.st = .collecting → x.autoDone = false → x.hit = none ∨ x.hit = some b → x.armedAt + capClassAutoS (s.rec_ .capClass k.val) * 1000000000 ≤ b →
    Does (.autoTrigger k) s (footprint (.autoTrigger k)) (fun t => (t.capCls k.val).autoDone = true)) ∧
  (x.autoDone = true → exec (.autoTrigger k) s = .next s)) ∧
  (∀ (seq : Nat) (tag row : Ns) (s : State) (x : CapRec), s.capRec seq = some x →
  (x.done = false → x.nextTag ≤ tag → tag < x.stop → (s.capRate x.cls = 0 ∨ onGrid (s.capRate x.cls) tag = true) → s.ringPast x.cls tag = true →
    s.rowOfSample x tag = some row → row ∉ x.lost → Does (.ringOverwriteLoss seq tag) s [.ctrs, .attn, .ports, .cap, .pair] (fun t =>
      (∃ y, t.capRec seq = some y ∧ y.lost = x.lost ++ [row] ∧ y.lostRows = x.lostRows + 1 ∧ y.truncated = true) ∧
      t.ctr (ck1 .lostRows x.cls) = satAdd (s.ctr (ck1 .lostRows x.cls)) 1 ∧
      t.ctr (ck1 .truncations x.cls) = satAdd (s.ctr (ck1 .truncations x.cls)) 1)) ∧
  (x.done = true → exec (.ringOverwriteLoss seq tag) s = .next s))

/-- R386 and R387: the lock of the Woide link begins a HANDSHAKE with a new session drawn from the random source (its uppermost bit the
position) and a HELLO every 10 ms; the loss of the link empties what was in flight and makes the mirror copy invalid (R393); a frame
not acknowledged in 200 µs goes again, eight times at most, and then the link goes DOWN; a pending acknowledgement leaves. R384, R385
and R388: a Woide frame of an unknown type is counted and dropped; one whose tag does not verify under the pair key is counted and
dropped; one of another session is counted as stale and dropped; an authentic acknowledgement of the partner's session is heard and
applied; an authentic DIGEST stands as the partner's latest. While the link is DOWN nothing is received. -/
def Obligations.WoideLinkAndFrames : Prop :=
  (∀ s : State,
  (s.linkReady = true → s.pair.link = .down → Does .woideLinkLock s [.ctrs, .ports, .pair, .free] (fun t =>
    t.pair.link = .handshake ∧ t.pair.session = newSession s.pair.posB (Config.trng s.free) ∧ t.pair.partner = none ∧
    t.pair.helloDue = some (s.lts + 10000000) ∧ t.pair.rxSeq = 0 ∧ t.pair.role = s.pair.role)) ∧
  (s.linkReady = false ∨ s.pair.link ≠ .down → exec .woideLinkLock s = .next s) ∧
  (∀ due, s.pair.helloDue = some due → s.pair.link = .handshake →
    (due ≤ s.lts → Does .helloTimer s [.ctrs, .ports, .pair] (fun t => t.pair.helloDue = some (due + 10000000) ∧ t.pair.link = .handshake)) ∧
    (s.lts < due → exec .helloTimer s = .next s)) ∧
  (s.pair.link ≠ .down → Does (.woideLinkDown .lockLost) s [.ctrs, .attn, .ports, .pair] (fun t =>
    t.pair.link = .down ∧ t.pair.partner = none ∧ t.pair.mirrorValid = false ∧ t.pair.mirror = [] ∧ t.pair.sent = [] ∧
    t.ctr (ck .woideDowns) = satAdd (s.ctr (ck .woideDowns)) 1)) ∧
  (s.pair.quiet < 2 → exec (.woideLinkDown .noFrames) s = .next s) ∧
  (∀ x, s.resendDue = some x →
    (x.tries < 8 → Does .woideRetransmit s [.ctrs, .ports, .pair] (fun t => t.pair.link = s.pair.link ∧
      (∃ y ∈ t.pair.sent, y.f = x.f ∧ y.at_ = s.lts ∧ y.tries = x.tries + 1) ∧ t.pair.sent.length = s.pair.sent.length ∧
      t.ctr (ck .woideRetransmits) = satAdd (s.ctr (ck .woideRetransmits)) 1)) ∧
    (8 ≤ x.tries → s.pair.link ≠ .down → Does .woideRetransmit s [.ctrs, .attn, .ports, .pair] (fun t => t.pair.link = .down)) ∧
    (x.tries < 8 → exec (.woideLinkDown .retriesExhausted) s = .next s)) ∧
  (s.resendDue = none → exec .woideRetransmit s = .next s) ∧
  (∀ due, s.pair.ackDue = some due →
    (due ≤ s.lts → Does .receiverAckTimer s [.ctrs, .ports, .pair] (fun t => t.pair.ackDue = none ∧ t.pair.link = s.pair.link)) ∧
    (s.lts < due → exec .receiverAckTimer s = .next s)) ∧
  (s.pair.ackDue = none → exec .receiverAckTimer s = .next s)) ∧
  (∀ (f : WoideFrame) (s : State),
  (s.linkReady = true → s.pair.link ≠ .down →
    (∀ n, f.body = .unknown n → Does (.woideFrameReceive f) s [.ctrs, .ports] (CountsOnce (ck .woideUnknown) s)) ∧
    ((∀ n, f.body ≠ .unknown n) → s.woideVerifies f = false → Does (.woideFrameReceive f) s [.ctrs, .attn, .ports, .pair] (fun t =>
      t.pair.link = s.pair.link ∧ t.pair.partner = s.pair.partner ∧ t.ctr (ck .woideAuthFail) = satAdd (s.ctr (ck .woideAuthFail)) 1)) ∧
    ((∀ n, f.body ≠ .unknown n) → (∀ e u g h m r, f.body ≠ .hello e u g h m r) → s.woideVerifies f = true →
      s.pair.partner ≠ some f.session → Does (.woideFrameReceive f) s [.ctrs, .ports] (CountsOnce (ck .woideStale) s)) ∧
    (f.body = .ack → s.woideVerifies f = true → s.pair.partner = some f.session →
      Does (.woideFrameReceive f) s [.ctrs, .ports, .pair, .emp] (fun t =>
        t.pair.heard = true ∧ t.pair.link = s.pair.link ∧ t.pair.role = s.pair.role)) ∧
    (∀ b m r u v h o w cs ts, f.body = .digest b m r u v h o w cs ts → s.woideVerifies f = true → s.pair.partner = some f.session →
      Does (.woideFrameReceive f) s (footprint (.woideFrameReceive f)) (fun t => t.pair.heard = true ∧ t.pair.digestFresh = true ∧
        t.pair.partnerHash = some h ∧ ∃ d, t.pair.digest = some d ∧ d.beatDt = b ∧ d.mode = m ∧ d.role = r ∧ d.claims = cs ∧ d.tasks = ts))) ∧
  (s.linkReady = false ∨ s.pair.link = .down → Does (.woideFrameReceive f) s [.ports] (fun t => ∀ p : Nat, p ≠ 4 → t.port p = s.port p)))

/-- R383, R401 and R402: a token pulse at the boundary with one of the four widths is seen with its code, and any other is not; a leaving
primary names the next boundary; a primary that finds its partner primary counts the split brain once, and in position B it asks for
a restart at the next boundary. -/
def Obligations.TokensReleaseAndSplitBrain : Prop := ∀ s : State, s.paired = true → s.works = true →
  (∀ (rise : Int) (width : Nat),
    (∀ code, tokenCode width = some code →
      (rise.natAbs ≤ 50000 → Does (.tokenPulse rise width) s [.pair] (fun t => t.pair = { s.pair with token := some code, tokenSeen := true })) ∧
      (50000 < rise.natAbs → exec (.tokenPulse rise width) s = .next s)) ∧
    (tokenCode width = none → exec (.tokenPulse rise width) s = .next s)) ∧
  (s.pair.role = .primary → s.leaving = true → s.pair.leaveAt = none → Does .release s [.ctrs, .ports, .pair] (fun t =>
    t.pair.leaveAt = some (nextBoundary s.dt) ∧ t.pair.role = .primary)) ∧
  (s.leaving = false ∨ s.pair.leaveAt ≠ none ∨ s.pair.role ≠ .primary → exec .release s = .next s) ∧
  (s.splitSeen = true → s.pair.split = false → Does .splitBrain s (footprint .splitBrain) (fun t => t.pair.split = true ∧
    t.ctr (ck .splitBrains) = satAdd (s.ctr (ck .splitBrains)) 1 ∧ t.boot.mode = s.boot.mode ∧
    (s.pair.posB = true → t.boot.evs = s.boot.evs ++ [.restart false]) ∧ (s.pair.posB = false → t.boot.evs = s.boot.evs))) ∧
  (s.splitSeen = false ∨ s.pair.split = true → exec .splitBrain s = .next s)

/-! Beats, dispatch and errors (chapters 01 and 11). -/

/-- R41, R283 and R446: a beat boundary of the present beat is acted on once; where beats run after it, it is the present boundary, the
counters that a read returns are those of the boundary (their values before it), and no cell and no input queue counts as faulted in
the new beat. -/
def Obligations.BeatBoundaryIsActedOnOnce : Prop := ∀ (b : BoundaryIn) (s : State),
  (s.boundaryDue = true → Does (.beatBoundary b) s (footprint (.beatBoundary b)) (fun t => t.beatsRun = true →
    t.sch.beat = some s.presentBoundary ∧ t.ctrsAt = s.ctrs.map (fun e => (e.1, e.2.val)) ∧
    (∀ c ∈ t.sch.cells, c.faultNow = false) ∧ ∀ q ∈ t.swage.queues, q.faultNow = false)) ∧
  (s.boundaryDue = false → exec (.beatBoundary b) s = .next s)

/-- R288, R289 and R299: an item of the delay list that is due and finds room leaves it for the ready queue, and one that finds none is
counted late once; the first item of the ready order that may run starts on its cell, and is counted; a stalled post is placed once
there is room. Where the sequencers do not step nothing moves. -/
def Obligations.ItemsMoveAndStart : Prop := ∀ (r : Region) (s : State) (x : RegSt), s.sch.regs[r.val]? = some x →
  (s.steps = true →
  (∀ it, x.delay = [it] → it.region = r.val →
    (s.dueReached it.due = true → s.readyRoom r.val it.prio = true → Does (.delayItemDue r) s [.ctrs, .sch] (fun t =>
      (t.reg r.val).delay = [] ∧ (t.reg r.val).ready = x.ready ++ [{ it with origin := 1 }] ∧ ∀ r' : Nat, r' ≠ r.val → (t.reg r').ready = (s.reg r').ready)) ∧
    (s.dueReached it.due = true → s.readyRoom r.val it.prio = false → it.late = false → Does (.delayItemDue r) s [.ctrs, .sch] (fun t =>
      (t.reg r.val).delay = [{ it with late := true }] ∧ CountsOnce (ck1 .delayLate r.val) s t)) ∧
    (s.dueReached it.due = false → exec (.delayItemDue r) s = .next s)) ∧
  (∀ it c passed, s.pickItem [] (s.readyOrder r.val) = some (it, c, passed) → c < s.sch.cells.length →
    Does (.dispatch r) s (footprint (.dispatch r)) (fun t =>
      (t.cell c).run = some it ∧ (t.cell c).worked = it.written ∧ (t.cell c).since = s.lts ∧ (∀ y ∈ (t.reg it.region).ready, y.seq ≠ it.seq) ∧
      t.ctr (ck2 .itemsDispatched it.region it.cls) = satAdd (s.ctr (ck2 .itemsDispatched it.region it.cls)) 1)) ∧
  (x.ready = [] → exec (.dispatch r) s = .next s) ∧
  (∀ it, x.stalled = [(.quorum, it)] → it.region = r.val → s.readyRoom r.val it.prio = true →
    Does (.postRoomAvailable r) s (footprint (.postRoomAvailable r)) (fun t =>
      (t.reg r.val).stalled = [] ∧ (t.reg r.val).ready = x.ready ++ [it] ∧
      t.ctr (ck2 .itemsPosted r.val it.cls) = satAdd (s.ctr (ck2 .itemsPosted r.val it.cls)) 1)) ∧
  (x.stalled = [] → exec (.postRoomAvailable r) s = .next s)) ∧
  (s.steps = false → exec (.delayItemDue r) s = .next s ∧ exec (.dispatch r) s = .next s ∧ exec (.postRoomAvailable r) s = .next s)

/-- Sequence SCH-1, R20 and R294: an item whose outputs are written, or that needs no work, completes: it is counted and its cell is free,
for the islanding evaluation that waits for it at the most. A fault, a watchdog and an item limit abort the item: the cell no longer runs
it, is marked as faulted in this beat and remembers when; the watchdog is counted on its region. An idle cell completes nothing and has
no watchdog. -/
def Obligations.ItemsCompleteOrFault : Prop := ∀ (c : Cell) (s : State) (x : CellSt), s.sch.cells[c.val]? = some x →
  (∀ it, x.run = some it →
    (∀ used, (s.needsWork it = false ∨ x.worked = true → Does (.itemComplete c used) s [.ctrs, .sch] (fun t =>
        ((t.cell c.val).run = none ∨ ∃ e n, (t.cell c.val).run = some e ∧ e.ctx = .evaluation n) ∧ (t.cell c.val).worked = false ∧
        (s.isl.waiting = [] → t.cell c.val = { x with run := none, worked := false } ∧ ∀ c' : Nat, c' ≠ c.val → t.cell c' = s.cell c') ∧
        t.ctr (ck2 .itemsCompleted it.region it.cls) = satAdd (s.ctr (ck2 .itemsCompleted it.region it.cls)) 1)) ∧
      (s.needsWork it = true → x.worked = false → exec (.itemComplete c used) s = .next s)) ∧
    Does (.cellWatchdog c) s (footprint (.cellWatchdog c)) (fun t =>
      ((t.cell c.val).run = none ∨ ∃ e n, (t.cell c.val).run = some e ∧ e.ctx = .evaluation n) ∧ (t.cell c.val).faultNow = true ∧
      (t.cell c.val).faults.head? = some s.lts ∧ t.ctr (ck1 .watchdogs it.region) = satAdd (s.ctr (ck1 .watchdogs it.region)) 1) ∧
    Does (.itemLimitReached c) s (footprint (.itemLimitReached c)) (fun t =>
      ((t.cell c.val).run = none ∨ ∃ e n, (t.cell c.val).run = some e ∧ e.ctx = .evaluation n) ∧ (t.cell c.val).faultNow = true ∧
      (t.cell c.val).faults.head? = some s.lts)) ∧
  (x.run = none → (∀ used, exec (.itemComplete c used) s = .next s) ∧ exec (.cellWatchdog c) s = .next s ∧ exec (.itemLimitReached c) s = .next s) ∧
  Does (.cellFault c 1) s (footprint (.cellWatchdog c)) (fun t =>
    ((t.cell c.val).run = none ∨ ∃ e n, (t.cell c.val).run = some e ∧ e.ctx = .evaluation n) ∧ (t.cell c.val).faultNow = true ∧
    (t.cell c.val).faults.head? = some s.lts) ∧
  Does (.cellFault c 0) s (footprint (.cellFault c 0)) (fun t => (t.cell c.val).faultNow = true ∧
    t.ctr (ck2 .uncorrectable (structRow .cellMemory) c.val) = satAdd (s.ctr (ck2 .uncorrectable (structRow .cellMemory) c.val)) 1)

/-- R24, R25 and R26 (Table ARC-3): a correctable error is counted and changes nothing else, the mode least of all. An
uncorrectable one is counted whatever its severity; when no more severe one came in this beat and beats run outside HALT, a critical
one is collected for T16 and a non-critical one for DEGRADED, at the next boundary; a lockstep mismatch restarts the management
processor when no more severe error came. R307: after 2,400 beats below its threshold the thermal level of a region falls by one and
the count starts again; before that, or at level 0, nothing changes. -/
def Obligations.ErrorsAndHeat : Prop :=
  (∀ (st : Struct) (unit : Nat) (s : State),
  Does (.correctableError st unit) s [.ctrs] (CountsOnce (ck2 .correctable (structRow st) unit) s) ∧
  (s.boot.mode ≠ .dormant → Does (.uncorrectableError st unit) s (footprint (.uncorrectableError st unit)) (fun t =>
    t.boot.mode = s.boot.mode ∧
    t.ctr (ck2 .uncorrectable (structRow st) unit) = satAdd (s.ctr (ck2 .uncorrectable (structRow st) unit)) 1 ∧
    (severity st = 2 → s.sch.worst ≤ 2 → s.beatsRun = true → s.boot.mode ≠ .halt → t.boot.evs = s.boot.evs ++ [.critical] ∧ t.sch.worst = 2) ∧
    (severity st = 1 → s.sch.worst ≤ 1 → s.beatsRun = true → t.boot.evs = s.boot.evs ++ [.nonCritical] ∧ t.sch.worst = 1) ∧
    (st = .mgmtLockstep → s.sch.worst = 0 → t.boot.mgmtUp = false ∧ t.boot.evs = s.boot.evs))) ∧
  (s.boot.mode = .dormant → exec (.uncorrectableError st unit) s = .next s)) ∧
  (∀ (r : Region) (s : State), r.val < s.sens.level.length → r.val < s.sens.below.length →
  (2400 ≤ s.sens.below.getD r.val 0 → 0 < s.sens.level.getD r.val 0 → Does (.thermalLevelFall r) s [.ctrs, .sens, .sch] (fun t =>
    t.sens.level.getD r.val 0 = s.sens.level.getD r.val 0 - 1 ∧ t.sens.below.getD r.val 0 = 0 ∧
    ∀ r' : Nat, r' ≠ r.val → t.sens.level.getD r' 0 = s.sens.level.getD r' 0)) ∧
  (s.sens.below.getD r.val 0 < 2400 ∨ s.sens.level.getD r.val 0 = 0 → exec (.thermalLevelFall r) s = .next s))

/-! The management protocol EMP (chapter 17). -/

/-- R435 and R438 (Tables EMP-2 and EMP-5): a request is checked in order. A version other than 1 is answered BAD_VERSION; a
SEQ that the duplicate rules or the session check turn away is answered with their result and not executed, a repeat of an executed one from the cache; a request without
the authority of its opcode is answered AUTHORITY, and one that the mode does not allow MODE. While the island has no power
EMP is silent. -/
def Obligations.RequestChecks : Prop := ∀ (c : Instr) (op : Nat) (q : EmpReq) (s : State), emRequest c = some (op, q) → s.emp.restart = none →
  (s.boot.island = false → exec c s = .next s) ∧
  (s.boot.island = true → q.version ≠ 1 → Does c s [.emp] (fun t => OneReply t op q (rVersion, []))) ∧
  (s.boot.island = true → q.version = 1 →
    (∀ r, (s.emHeard q).judge op q = .answer r → Does c s [.ctrs, .attn, .ports, .pair, .emp] (fun t => OneReply t op q (r, []) ∧
      t.emp.breqs = s.emp.breqs ∧ t.emp.stage = s.emp.stage)) ∧
    (∀ r, (s.emHeard q).judge op q = .cached r → Does c s [.ctrs, .emp] (fun t =>
      t.emp.replies = [{ r with cached := true, status := s.attn.status r.result, attnHead := s.attn.head }] ∧
      t.emp.breqs = s.emp.breqs ∧ t.emp.stage = s.emp.stage)) ∧
    ((s.emHeard q).judge op q = .run → authAllows op q (s.authOf q.svp) = false → Does c s [.ctrs, .emp] (fun t =>
      OneReply t op q (rAuthority, []) ∧ t.emp.breqs = s.emp.breqs ∧ t.emp.stage = s.emp.stage ∧
      t.ctr (ck1 .empExecuted (empPort q.svp)) = satAdd (s.ctr (ck1 .empExecuted (empPort q.svp))) 1 ∧
      t.ctr (ck1 .empNoAuthority (empPort q.svp)) = satAdd (s.ctr (ck1 .empNoAuthority (empPort q.svp))) 1)) ∧
    ((s.emHeard q).judge op q = .run → authAllows op q (s.authOf q.svp) = true →
      (s.emAt q).modeAllows op q (s.authOf q.svp) = false → Does c s [.ctrs, .attn, .ports, .pair, .emp] (fun t =>
      OneReply t op q (rMode, []) ∧ t.emp.breqs = s.emp.breqs ∧ t.emp.stage = s.emp.stage)))

/-- R436 and R439: OPEN brings a session into being at the request's SEQ and leaves the other sessions alone, CLOSE ends it,
STATUS answers with the STATUS word and the head of the attention log; a session without a request for 60 s ends; a discarded
datagram is counted in the counter of its cause. -/
def Obligations.SessionsOpenCloseAndExpire : Prop := ∀ (q : EmpReq) (s : State),
  (s.emRuns 0x0001 q → Does (.emOpen q) s [.ctrs, .emp] (fun t => OneReply t 0x0001 q (rOk, []) ∧
    (∃ e, t.sess q.svp q.session = some e ∧ e.high = q.seq ∧ e.done = [q.seq] ∧ e.at_ = s.rtc) ∧
    ∀ v id, (v, id) ≠ (q.svp, q.session) → t.sess v id = s.sess v id)) ∧
  (s.emRuns 0x0002 q → Does (.emClose q) s [.ctrs, .emp] (fun t => OneReply t 0x0002 q (rOk, []) ∧ t.sess q.svp q.session = none ∧
    ∀ v id, (v, id) ≠ (q.svp, q.session) → t.sess v id = s.sess v id)) ∧
  (s.emRuns 0x0003 q → Does (.emStatus q) s [.ctrs, .emp] (fun t => OneReply t 0x0003 q (rOk, []) ∧ t.emp.breqs = s.emp.breqs ∧
    ∀ x ∈ t.emp.replies, x.status = s.attn.status rOk ∧ x.attnHead = s.attn.head)) ∧
  (∀ (svp : Bool) (id : BitVec 32) (e : Sess), s.sess svp id = some e →
    (s.boot.island = true → e.at_ + 60000000000 ≤ s.rtc → Does (.sessionExpiry svp id) s [.ctrs, .emp] (fun t =>
      t.sess svp id = none ∧ t.emp.replies = s.emp.replies ∧ CountsOnce (ck1 .empExpired (empPort svp)) s t)) ∧
    (s.rtc < e.at_ + 60000000000 → exec (.sessionExpiry svp id) s = .next s)) ∧
  (∀ (svp : Bool) (id : BitVec 32), s.sess svp id = none → exec (.sessionExpiry svp id) s = .next s) ∧
  (∀ (svp : Bool) (why : EmpDrop),
    (s.boot.island = true → Does (.empDatagramDiscard svp why) s [.ctrs]
      (CountsOnce (ck1 (if why = .queueFull then .empQueueDiscards else .empDiscarded) (empPort svp)) s)) ∧
    (s.boot.island = false → exec (.empDatagramDiscard svp why) s = .next s))

/-- R11, R441 and R446 to R448, R460 and R472: READ answers NO_OBJECT where there is none and never more than 1,400 bytes, and
without CLEAR changes nothing; WRITE clears the bits of a W1C object that are written 1, but those that hardware set in the
present beat, writes the tamper configuration, and answers ACCESS for an object it does not write; ATTN_ACK acknowledges every
item not later than the one named; BBOX_RAW gives a slot's bytes; BBOX_CLEAR queues a CLEAR record with the epoch. -/
def Obligations.ObjectsAreReadWrittenAndAcknowledged : Prop := ∀ (q : EmpReq) (s : State),
  (s.emRuns 0x0010 q → q.clear = false → Does (.emRead q) s [.ctrs, .emp] (fun t => ∃ r : Nat × Bytes, OneReply t 0x0010 q r ∧
    (q.payload.length ≠ 2 → r = (rRange, natBe 4 0)) ∧
    (q.payload.length = 2 → (s.emAt q).object (q.object.toNat / 65536) (q.object.toNat % 65536) q.offset.toNat = none → r = (rNoObject, [])) ∧
    (r.1 = rOk → r.2.length ≤ min (beNat q.payload) 1400))) ∧
  (s.emRuns 0x0010 q → q.clear = true → Does (.emRead q) s (footprint (.emRead q)) (fun t => ∃ r : Nat × Bytes, OneReply t 0x0010 q r ∧
    (r.1 = rOk → r.2.length ≤ min (beNat q.payload) 1400))) ∧
  (s.emRuns 0x0011 q →
    (∀ (g : Nat) (x : QueueSt), g < 4 → s.swage.queues[g]? = some x → q.object.toNat = 0x00140100 + g → q.payload.length = 4 →
      beNat q.payload ≤ 1 → Does (.emWrite q) s [.ctrs, .swage, .emp] (fun t => OneReply t 0x0011 q (rOk, []) ∧
        t.wq g = { x with holdSeen := x.holdSeen && (beNat q.payload == 0 || (x.holdNow && s.beatsRun)) } ∧
        ∀ g' : Nat, g' ≠ g → t.wq g' = s.wq g')) ∧
    (q.object.toNat = 0x00200005 → q.payload.length = 4 → Does (.emWrite q) s [.ctrs, .sens, .emp] (fun t =>
      OneReply t 0x0011 q (rOk, []) ∧ t.sens.cond = s.sens.cond ∧ ∀ i : Nat, i < 32 → t.sens.seen.getLsbD i =
        (s.sens.seen.getLsbD i && !(bitAt (beNat q.payload) i && !(s.beatsRun && s.sens.seenNow.getLsbD i))))) ∧
    (q.object.toNat = 0x001E0400 → q.payload.length = 4 → beNat q.payload < 65536 → Does (.emWrite q) s [.ctrs, .vault, .emp] (fun t =>
      OneReply t 0x0011 q (rOk, []) ∧ t.vault = { s.vault with cfg := BitVec.ofNat 16 (beNat q.payload) &&& 0xFF00#16 })) ∧
    (q.object.toNat / 65536 ≠ 0x0014 → q.object.toNat / 65536 ≠ 0x0020 → q.object.toNat / 65536 ≠ 0x001E →
      Does (.emWrite q) s [.ctrs, .emp] (fun t => OneReply t 0x0011 q
        (if ((s.emAt q).object (q.object.toNat / 65536) (q.object.toNat % 65536) q.offset.toNat).isSome then (rAccess, []) else (rNoObject, []))))) ∧
  (s.emRuns 0x0013 q → Does (.emAttnAck q) s [.ctrs, .attn, .emp] (fun t => OneReply t 0x0013 q (rOk, []) ∧
    (∀ e ∈ t.attn.slots, notLater e.2.aseq q.object.toNat = true → e.2.acked = true) ∧
    t.attn.slots.map (fun e => (e.1, e.2.aseq)) = s.attn.slots.map (fun e => (e.1, e.2.aseq)) ∧
    (∀ e ∈ s.attn.slots, notLater e.2.aseq q.object.toNat = false → e ∈ t.attn.slots) ∧
    t.attn.latched = s.attn.latched.filter (fun l => !notLater l.2 q.object.toNat) ∧ t.attn.head = s.attn.head)) ∧
  (s.emRuns 0x0060 q → Does (.emBboxRaw q) s [.ctrs, .emp] (fun t =>
    OneReply t 0x0060 q (if q.object.toNat ≤ 8191 then (rOk, s.bboxSlot q.object.toNat) else (rNoObject, [])))) ∧
  (s.emRuns 0x0061 q → s.bbx.queue.length < 16 → Does (.emBboxClear q) s [.ctrs, .bbx, .emp] (fun t => OneReply t 0x0061 q (rOk, []) ∧
    (∃ r, t.bbx.queue = s.bbx.queue ++ [r] ∧ r.event = 0x00F0 ∧ r.payload = natBe 2 s.bbxEpoch) ∧ t.bbx.mram = s.bbx.mram))

/-- R12: a W1C write of a bit that hardware set in the same beat leaves the bit set, in the seen bits of the level events and
in HOLD_SEEN of each lane group, which are the objects of that access. -/
def Obligations.W1cWritesKeepTheEventsOfTheBeat : Prop := ∀ (q : EmpReq) (s : State), s.emRuns 0x0011 q → s.beatsRun = true →
  q.payload.length = 4 →
  (q.object.toNat = 0x00200005 → Does (.emWrite q) s [.ctrs, .sens, .emp] (fun t => OneReply t 0x0011 q (rOk, []) ∧
    ∀ i : Nat, i < 32 → s.sens.seen.getLsbD i = true → s.sens.seenNow.getLsbD i = true → t.sens.seen.getLsbD i = true)) ∧
  (∀ (g : Nat) (x : QueueSt), g < 4 → s.swage.queues[g]? = some x → q.object.toNat = 0x00140100 + g → beNat q.payload ≤ 1 →
    x.holdSeen = true → x.holdNow = true → Does (.emWrite q) s [.ctrs, .swage, .emp] (fun t => OneReply t 0x0011 q (rOk, []) ∧
      (t.wq g).holdSeen = true))

/-- R84, R394, R449 and R450 (Table EMP-7): a change set is taken whole or not at all. A payload that is no set, or an entry
that fails a check, is refused with the first failing entry and counted; a good set of a device without a pair waits for the
scan boundary of its task when every value is of the logic program, else for the next beat boundary; in a pair whose maps
differ it is refused; over the link it waits for the boundary 8 beats on and is answered then, and with no link it does the same, counted
as unmirrored and answered at once. -/
def Obligations.ChangeSetsAreTakenWholeOrRefused : Prop := ∀ (q : EmpReq) (s : State), s.emRuns 0x0012 q →
  (changeEntries q.payload = none → Does (.emChangeSet q) s [.ctrs, .emp] (fun t => OneReply t 0x0012 q (rRange, natBe 4 0) ∧
    t.emp.sets = s.emp.sets ∧ t.ctr (ck .changeSetsRefused) = satAdd (s.ctr (ck .changeSetsRefused)) 1)) ∧
  (∀ es, changeEntries q.payload = some es →
    (∀ k n, (s.emAt q).ovCheck es = some (k, n) → Does (.emChangeSet q) s [.ctrs, .emp] (fun t =>
      OneReply t 0x0012 q (if k = 4 then rMode else if k = 1 then rAccess else rRange, natBe 4 n) ∧
      t.emp.sets = s.emp.sets ∧ t.ctr (ck .changeSetsRefused) = satAdd (s.ctr (ck .changeSetsRefused)) 1)) ∧
    ((s.emAt q).ovCheck es = none →
      (∀ task rest, s.paired = false → allLogic es = true → (s.emAt q).ovTasks es = task :: rest →
        Does (.emChangeSet q) s [.ctrs, .logic, .emp] (fun t => OneReply t 0x0012 q (rAccepted, natBe 8 0) ∧ t.emp.sets = s.emp.sets ∧
          t.emp.setSeq = s.emp.setSeq + 1 ∧ t.logic = { s.logic with sets := s.logic.sets ++ [(task, s.emp.setSeq, es)] })) ∧
      (s.paired = false → allLogic es = false → Does (.emChangeSet q) s [.ctrs, .emp] (fun t =>
        ∃ d : SetDue, t.emp.sets = s.emp.sets ++ [d] ∧ d.at_ = nextBoundary s.dt ∧ d.entries = es ∧ d.fromPartner = false ∧ d.carried = false ∧
          d.seq = s.emp.setSeq ∧ t.emp.setSeq = s.emp.setSeq + 1)) ∧
      (s.paired = true → (s.emAt q).mapsMatch = false → Does (.emChangeSet q) s [.ctrs, .emp] (fun t =>
        OneReply t 0x0012 q (rRange, natBe 4 0) ∧ t.emp.sets = s.emp.sets)) ∧
      (s.paired = true → (s.emAt q).mapsMatch = true → s.pair.link ≠ .up → Does (.emChangeSet q) s [.ctrs, .attn, .ports, .pair, .emp] (fun t =>
        (∃ d : SetDue, t.emp.sets = s.emp.sets ++ [d] ∧ d.at_ = boundaryAfter 8 (boundaryFrom s.dt) ∧ d.entries = es ∧ d.carried = false) ∧
        t.ctr (ck .unmirrored) = satAdd (s.ctr (ck .unmirrored)) 1)) ∧
      (s.paired = true → (s.emAt q).mapsMatch = true → (s.emAt q).woideOn = true → s.pair.link = .up →
        Does (.emChangeSet q) s (footprint (.emChangeSet q)) (fun t =>
          (∃ d : SetDue, t.emp.sets = s.emp.sets ++ [d] ∧ d.at_ = boundaryAfter 8 (boundaryFrom s.dt) ∧ d.entries = es ∧ d.carried = true) ∧
          WaitsForBoundary s t (.changeSet (boundaryAfter 8 (boundaryFrom s.dt))) 0x0012 q ∧ t.emp.replies = []))))

/-- R453, R454 and R78 (Tables EMP-10 and EMP-12): STAGE_BEGIN with a header that passes erases the status and header sectors
of the target and nothing else of the flash, and the staging receives; STAGE_DATA keeps a piece once, in RAM while it lies in
the header sector; STAGE_END with every piece received goes to CHECKING, else names the first missing offset; the check stages
the image or fails with its code; 60 s of silence fail it. ACTIVATE of a staged image appends TRIAL and restarts; RESTART is
answered ACCEPTED and is an event of the present beat, or takes place at once where no beats run. -/
def Obligations.StagingActivationAndRestart : Prop := ∀ (q : EmpReq) (s : State),
  (∀ k, s.emRuns 0x0020 q → (s.emAt q).stageTarget q.object.toNat = some k → s.stageBusy q = false →
    (s.boot.mode = .unconfigured ∨ s.slotState s.boot.slot = stGood) → q.payload.length = 128 →
    Does (.emStageBegin q) s [.flash, .ctrs, .emp] (fun t => stageCode q.payload s.ownerKey = none → OneReply t 0x0020 q (rOk, []) ∧
      t.emp.stage.st = .receiving ∧ t.emp.stage.slot = k ∧ t.emp.stage.header = q.payload ∧ t.emp.stage.got = [] ∧
      t.emp.stage.owner = some (q.svp, q.session) ∧
      ∀ a, memRead t.flash a = if (statusBase k ≤ a ∧ a < statusBase k + 4096) ∨ (slotBase k ≤ a ∧ a < slotBase k + 4096)
        then Memory.blank else memRead s.flash a) ∧
    (∀ c, stageCode q.payload s.ownerKey = some c → Does (.emStageBegin q) s [.ctrs, .emp] (fun t =>
      OneReply t 0x0020 q (rStageFail, natBe 4 c ++ natBe 4 0) ∧ t.emp.stage = s.emp.stage))) ∧
  (s.emRuns 0x0021 q → s.stageBusy q = false → s.emp.stage.st = .receiving → q.offset.toNat % 1024 = 0 →
    q.offset.toNat < headerImageLen (beNat s.emp.stage.header) →
    q.payload.length = min 1024 (headerImageLen (beNat s.emp.stage.header) - q.offset.toNat) →
    (q.offset.toNat / 1024 ∉ s.emp.stage.got → q.offset.toNat < 4096 → Does (.emStageData q) s [.ctrs, .emp] (fun t =>
      OneReply t 0x0021 q (rOk, []) ∧ aget t.emp.stage.sector q.offset.toNat = some q.payload ∧
      t.emp.stage.got = q.offset.toNat / 1024 :: s.emp.stage.got)) ∧
    (q.offset.toNat / 1024 ∉ s.emp.stage.got → 4096 ≤ q.offset.toNat → s.flash.wf = true → Does (.emStageData q) s [.flash, .ctrs, .emp] (fun t =>
      OneReply t 0x0021 q (rOk, []) ∧ t.emp.stage.got = q.offset.toNat / 1024 :: s.emp.stage.got ∧
      memBytes t.flash (slotBase s.emp.stage.slot + q.offset.toNat) q.payload.length = q.payload ∧
      ∀ a, a < slotBase s.emp.stage.slot + q.offset.toNat ∨ slotBase s.emp.stage.slot + q.offset.toNat + q.payload.length ≤ a →
        memRead t.flash a = memRead s.flash a)) ∧
    (q.offset.toNat / 1024 ∈ s.emp.stage.got → Does (.emStageData q) s [.ctrs, .emp] (fun t => t.emp.stage.got = s.emp.stage.got ∧
      OneReply t 0x0021 q (if s.stagePiece q.offset.toNat q.payload.length = q.payload then (rOk, []) else (rRange, natBe 4 0))))) ∧
  (s.emRuns 0x0022 q → s.stageBusy q = false → s.emp.stage.st = .receiving →
    ((∀ i, i < ceilDiv (headerImageLen (beNat s.emp.stage.header)) 1024 → i ∈ s.emp.stage.got) → Does (.emStageEnd q) s [.ctrs, .emp] (fun t =>
      OneReply t 0x0022 q (rAccepted, []) ∧ t.emp.stage.st = .checking)) ∧
    (∀ i, i < ceilDiv (headerImageLen (beNat s.emp.stage.header)) 1024 → i ∉ s.emp.stage.got → (∀ j, j < i → j ∈ s.emp.stage.got) →
      Does (.emStageEnd q) s [.ctrs, .emp] (fun t => OneReply t 0x0022 q (rRefused, natBe 4 (1024 * i)) ∧ t.emp.stage.st = .receiving))) ∧
  (∀ v : LoadVerdict, s.emp.stage.st = .checking →
    Does (.stageCheckDone v) s (footprint (.stageCheckDone v)) (fun t => (s.stageCheck v = none → t.emp.stage.st = .staged ∧
      t.emp.stage.owner = none ∧ t.flash = (s.withSector.appendStatus s.emp.stage.slot stStaged 0 0).flash ∧ t.ctrs = s.ctrs)) ∧
    (∀ c, s.stageCheck v = some c → Does (.stageCheckDone v) s [.ctrs, .attn, .ports, .pair, .emp] (fun t =>
      t.emp.stage.st = .failed ∧ t.emp.stage.code = c.1 ∧ t.emp.stage.detail = c.2 ∧ t.ctr (ck .stagingsFailed) = satAdd (s.ctr (ck .stagingsFailed)) 1))) ∧
  (s.emp.stage.st = .receiving →
    (s.emp.stage.at_ + 60000000000 ≤ s.lts → Does .stagingTimeout s [.ctrs, .attn, .ports, .pair, .emp] (fun t => t.emp.stage.st = .failed)) ∧
    (s.lts < s.emp.stage.at_ + 60000000000 → exec .stagingTimeout s = .next s)) ∧
  (s.emRuns 0x0023 q → s.emp.stage.st = .staged → s.beatsRun = true → Does (.emActivate q) s [.boot, .flash, .ctrs, .emp] (fun t =>
    OneReply t 0x0023 q (rAccepted, []) ∧ t.boot = { s.boot with evs := s.boot.evs ++ [.restart (s.authOf q.svp == .operator)] } ∧
    t.flash = ((s.emAt q).appendStatus s.emp.stage.slot stTrial 0 0).flash)) ∧
  (s.emRuns 0x0023 q → s.emp.stage.st = .staged → s.beatsRun = false → Does (.emActivate q) s (footprint (.emActivate q)) (fun t =>
    OneReply t 0x0023 q (rAccepted, []) ∧ t.boot.mode = .loading ∧
    t.flash = ((s.emAt q).appendStatus s.emp.stage.slot stTrial 0 0).flash)) ∧
  (s.emRuns 0x0023 q → s.emp.stage.st ≠ .staged → Does (.emActivate q) s [.ctrs, .emp] (fun t => OneReply t 0x0023 q (rRefused, natBe 4 0))) ∧
  (s.emRuns 0x0024 q →
    (s.beatsRun = true → Does (.emRestart q) s [.boot, .ctrs, .emp] (fun t => OneReply t 0x0024 q (rAccepted, []) ∧
      t.boot = { s.boot with evs := s.boot.evs ++ [.restart (s.authOf q.svp == .operator)] })) ∧
    (s.beatsRun = false → Does (.emRestart q) s (footprint (.emRestart q)) (fun t => OneReply t 0x0024 q (rAccepted, []) ∧ t.boot.mode = .loading)))

/-- R419 to R427 (Table KEY-6): KEY_LOAD whose envelope opens under the device's root to a key of the stated check
value writes it into the idle half of its slot and leaves the half in use and
every other slot alone; while beats run it becomes the half in use at the next boundary, else at once. A bad envelope, or a slot whose load
is pending, is refused and changes no slot. ZEROISE clears every slot, the battery root and the partner's key without a change
of mode. OWNER_ENROL starts the burn of the first blank field and is answered when it ends; PAIR_ENROL keeps the partner's key
and loads slot 8. -/
def Obligations.KeyRequests : Prop := ∀ (q : EmpReq) (s : State),
  (∀ (r : EmpReq) (w : Bytes), q = r.carrying w → s.emRuns 0x0030 q → q.payload.length = 177 → 16 ≤ q.object.toNat → q.object.toNat ≤ 1023 →
    keyEntHasKey (beAt q.payload 0 20 * 2 ^ 480) = 1 → keyEntRange (beAt q.payload 0 20 * 2 ^ 480) = true →
    fld (beAt q.payload 0 20 * 2 ^ 480) 621 608 = 0 → fld (beAt q.payload 0 20 * 2 ^ 480) 503 480 = 0 → keyEntSlot (beAt q.payload 0 20 * 2 ^ 480) = q.object.toNat →
    (s.vslot q.object.toNat).pending = false →
    Does (.emKeyLoad r w) s (footprint (.emKeyLoad r w)) (fun t => t.vault.partner = s.vault.partner ∧
      (∀ k : Nat, k ≠ q.object.toNat → t.vslot k = s.vslot k) ∧
      ∀ key, s.checkedKey q.payload (keyEntKcv (beAt q.payload 0 20 * 2 ^ 480)) = some key → OneReply t 0x0030 q (rAccepted, []) ∧
        (t.vslot q.object.toNat).pending = s.beatsRun ∧
        (s.beatsRun = true → (t.vslot q.object.toNat).half = (s.vslot q.object.toNat).half ∧
          ∃ h, (t.vslot q.object.toNat).idle = some h ∧ h.key = key) ∧
        (s.beatsRun = false → ∃ h, (t.vslot q.object.toNat).half = some h ∧ h.key = key)) ∧
    (s.checkedKey q.payload (keyEntKcv (beAt q.payload 0 20 * 2 ^ 480)) = none → Does (.emKeyLoad r w) s [.ctrs, .attn, .ports, .pair, .emp] (fun t =>
      OneReply t 0x0030 q (rKeyFail, []) ∧ t.ctr (ck .loadsRefused) = satAdd (s.ctr (ck .loadsRefused)) 1))) ∧
  (∀ (r : EmpReq) (w : Bytes), q = r.carrying w → s.emRuns 0x0030 q → q.payload.length ≠ 177 → Does (.emKeyLoad r w) s [.ctrs, .emp] (fun t => OneReply t 0x0030 q (rRange, natBe 4 0))) ∧
  (s.emRuns 0x0031 q → Does (.emZeroise q) s [.ctrs, .attn, .bbx, .sens, .ports, .pair, .vault, .emp] (fun t =>
    OneReply t 0x0031 q (rOk, []) ∧ t.vault.slots = [] ∧ t.vault.root = none ∧ t.vault.partner = none ∧ t.vault.content = none ∧
    t.vault.tampered = s.vault.tampered ∧ t.vault.rtc = s.vault.rtc ∧ t.vault.cfg = s.vault.cfg)) ∧
  (s.emRuns 0x0032 q → q.payload.length = 97 →
    (∀ second, s.otp.burning = none → s.otp.enrolField = some second → Does (.emOwnerEnrol q) s [.ctrs, .otp, .emp] (fun t =>
      t.otp = { s.otp with burning := some (second, q.payload) } ∧ WaitsForBoundary s t .ownerEnrol 0x0032 q ∧ t.emp.replies = [])) ∧
    (s.otp.burning ≠ none ∨ s.otp.enrolField = none → Does (.emOwnerEnrol q) s [.ctrs, .emp] (fun t =>
      OneReply t 0x0032 q (rRefused, natBe 4 0)))) ∧
  (s.emRuns 0x0033 q → q.payload.length = 97 →
    ((s.vslot 8).pending = false → s.beatsRun = true → Does (.emPairEnrol q) s [.ctrs, .vault, .emp, .free] (fun t =>
      OneReply t 0x0033 q (rAccepted, []) ∧ t.vault.partner = some q.payload ∧ (t.vslot 8).pending = true ∧
      (t.vslot 8).half = (s.vslot 8).half ∧ ∀ k : Nat, k ≠ 8 → t.vslot k = s.vslot k)) ∧
    ((s.vslot 8).pending = false → s.beatsRun = false → Does (.emPairEnrol q) s (footprint (.emPairEnrol q)) (fun t =>
      OneReply t 0x0033 q (rAccepted, []) ∧ t.vault.partner = some q.payload ∧ (t.vslot 8).pending = false ∧
      (∃ h, (t.vslot 8).half = some h ∧ h.key = s.pairKeyOf q.payload) ∧ ∀ k : Nat, k ≠ 8 → t.vslot k = s.vslot k)) ∧
    ((s.vslot 8).pending = true → Does (.emPairEnrol q) s [.ctrs, .emp] (fun t => OneReply t 0x0033 q (rBusy, []))))

/-- R27 and R437: a request on a unit waits for the next beat boundary, and no reply leaves before it; one whose object or
operands lie outside their range is answered at once and does not wait. -/
def Obligations.RequestsWaitForTheBoundary : Prop := ∀ (q : EmpReq) (s : State),
  (s.emRuns 0x0034 q → Does (.emRekeyDone q) s [.ctrs, .emp] (fun t => WaitsForBoundary s t .rekey 0x0034 q ∧ t.emp.replies = [])) ∧
  (s.emRuns 0x0042 q →
    (s.replayFault q.payload = none → Does (.emReplayStart q) s [.ctrs, .emp] (fun t =>
      (∃ r : ReplaySt, r.lengthMs = beAt q.payload 8 4 ∧ r.mask = beAt q.payload 20 1 ∧ r.n0 = 0 ∧ r.n1 = 0 ∧
        WaitsForBoundary s t (.replayStart r) 0x0042 q) ∧ t.emp.replies = [] ∧ t.swage.replay = s.swage.replay)) ∧
    (∀ n, s.replayFault q.payload = some n → Does (.emReplayStart q) s [.ctrs, .emp] (fun t =>
      OneReply t 0x0042 q (rRange, natBe 4 n) ∧ t.emp.breqs = s.emp.breqs))) ∧
  (s.emRuns 0x0043 q → Does (.emReplayStop q) s [.ctrs, .emp] (fun t => WaitsForBoundary s t .replayStop 0x0043 q ∧ t.emp.replies = [])) ∧
  (s.emRuns 0x0044 q →
    (q.object.toNat ≤ 3 → Does (.emFlush q) s [.ctrs, .emp] (fun t => WaitsForBoundary s t (.flush q.object.toNat) 0x0044 q ∧ t.emp.replies = [])) ∧
    (3 < q.object.toNat → Does (.emFlush q) s [.ctrs, .emp] (fun t => OneReply t 0x0044 q (rNoObject, []) ∧ t.emp.breqs = s.emp.breqs))) ∧
  (∀ ok : Bool, s.emRuns 0x0045 q →
    (q.object.toNat ≤ 63 → Does (.emReleaseCell q ok) s [.ctrs, .emp] (fun t =>
      WaitsForBoundary s t (.releaseCell q.object.toNat ok) 0x0045 q ∧ t.emp.replies = [])) ∧
    (63 < q.object.toNat → Does (.emReleaseCell q ok) s [.ctrs, .emp] (fun t => OneReply t 0x0045 q (rNoObject, []) ∧ t.emp.breqs = s.emp.breqs))) ∧
  (s.emRuns 0x0050 q →
    (q.object = 0#32 ∨ (q.object = 1#32 ∧ s.time.neverLocked = false) → Does (.emHoldover q) s [.ctrs, .emp] (fun t =>
      WaitsForBoundary s t (.holdover (q.object == 1)) 0x0050 q ∧ t.emp.replies = [])) ∧
    (q.object = 1#32 → s.time.neverLocked = true → Does (.emHoldover q) s [.ctrs, .emp] (fun t =>
      OneReply t 0x0050 q (rRefused, natBe 4 0) ∧ t.emp.breqs = s.emp.breqs))) ∧
  (s.emRuns 0x0051 q → q.payload.length = 2 → beAt q.payload 0 1 ≤ 32 → beAt q.payload 1 1 ≤ 1 → Does (.emShed q) s [.ctrs, .emp] (fun t =>
    WaitsForBoundary s t (.shed (beAt q.payload 0 1) (beAt q.payload 1 1 == 1)) 0x0051 q ∧ t.emp.replies = [])) ∧
  (s.emRuns 0x0052 q →
    (q.object.toNat ≤ 65535 → Does (.emTrigger q) s [.ctrs, .emp] (fun t =>
      WaitsForBoundary s t (.trigger q.object.toNat) 0x0052 q ∧ t.emp.replies = [] ∧ t.cap = s.cap)) ∧
    (65535 < q.object.toNat → Does (.emTrigger q) s [.ctrs, .emp] (fun t => OneReply t 0x0052 q (rRange, natBe 4 0)))) ∧
  (s.emRuns 0x0053 q → q.payload.length = 4 →
    (q.object.toNat ≤ 15 → locSetValid (s.rec_ .locSet q.object.toNat) = 1 → Does (.emLocate q) s [.ctrs, .emp] (fun t =>
      WaitsForBoundary s t (.locate q.object.toNat (BitVec.ofNat 32 (beAt q.payload 0 4))) 0x0053 q ∧ t.emp.replies = [])) ∧
    (15 < q.object.toNat ∨ locSetValid (s.rec_ .locSet q.object.toNat) ≠ 1 → Does (.emLocate q) s [.ctrs, .emp] (fun t =>
      OneReply t 0x0053 q (rNoObject, []))))

/-- R331, R403, R44 and R437: a force or its release of an output or of a variable is answered ACCEPTED at once and waits for
the next boundary, and no force stands before it; HANDOVER by a primary that may hand over names a boundary at least 24 beats
on and is answered there, and is refused otherwise. -/
def Obligations.ForcesAndHandoverAreNamedForABoundary : Prop := ∀ (q : EmpReq) (s : State),
  (s.emRuns 0x0040 q → q.payload.length = 4 →
    (∀ i : Nat, i < 16 → q.object.toNat = 65536 + i → beAt q.payload 0 4 ≤ 1 → Does (.emForce q) s [.ctrs, .emp] (fun t =>
      WaitsForBoundary s t (.forceDo i (some (beAt q.payload 0 4 == 1))) 0x0040 q ∧ OneReply t 0x0040 q (rAccepted, []) ∧ t.logic = s.logic)) ∧
    (q.object.toNat < 65536 → s.varIn q.object.toNat = true → varSeg (s.rec_ .var q.object.toNat) ≠ 3 →
      varVtype (s.rec_ .var q.object.toNat) ≠ 0 → Does (.emForce q) s [.ctrs, .emp] (fun t =>
        WaitsForBoundary s t (.force q.object.toNat (BitVec.ofNat 32 (beAt q.payload 0 4))) 0x0040 q ∧ OneReply t 0x0040 q (rAccepted, []))) ∧
    (131072 ≤ q.object.toNat → Does (.emForce q) s [.ctrs, .emp] (fun t => OneReply t 0x0040 q (rNoObject, []) ∧ t.emp.breqs = s.emp.breqs))) ∧
  (s.emRuns 0x0041 q →
    (∀ i : Nat, i < 16 → q.object.toNat = 65536 + i → Does (.emUnforce q) s [.ctrs, .emp] (fun t =>
      WaitsForBoundary s t (.forceDo i none) 0x0041 q ∧ OneReply t 0x0041 q (rAccepted, []) ∧ t.logic = s.logic)) ∧
    (q.object.toNat < 65536 → s.varIn q.object.toNat = true → varSeg (s.rec_ .var q.object.toNat) ≠ 3 → Does (.emUnforce q) s [.ctrs, .emp] (fun t =>
      WaitsForBoundary s t (.unforce q.object.toNat) 0x0041 q ∧ OneReply t 0x0041 q (rAccepted, [])))) ∧
  (s.emRuns 0x0054 q →
    ((s.emAt q).canHandOver = true → Does (.emHandover q) s [.ctrs, .ports, .pair, .emp] (fun t =>
      WaitsForBoundary s t .handover 0x0054 q ∧ t.emp.replies = [] ∧ t.pair.role = .primary ∧
      t.pair.handover = some (boundaryAfter 24 (boundaryFrom s.dt), false))) ∧
    ((s.emAt q).canHandOver = false → Does (.emHandover q) s [.ctrs, .emp] (fun t => OneReply t 0x0054 q (rRefused, natBe 4 0) ∧
      t.pair = s.pair ∧ t.ctr (ck .modeRefused) = satAdd (s.ctr (ck .modeRefused)) 1)))

/-! The black box, the sensors, the front panel and the test access port (chapters 18 and 19). -/

/-- R457 to R462: the scan at the start of the island finds the slot of the newest record and queues a SCAN record; a write
takes the head of the queue, stores it in a slot, and no other slot changes. -/
def Obligations.BlackBoxScanAndWrite : Prop := ∀ s : State,
  (s.boot.island = true → s.bbx.scanned = false → s.bbx.queue.length < 16 → Does .blackBoxScan s [.bbx] (fun t =>
    t.bbx.scanned = true ∧ t.bbx.mram = s.bbx.mram ∧ (∃ r, t.bbx.queue = s.bbx.queue ++ [r] ∧ r.event = 0x00F1) ∧
    (s.bbx.mram = [] → t.bbx.newest = none) ∧
    (s.bbx.mram ≠ [] → ∃ e ∈ s.bbx.mram, t.bbx.newest = some e.1 ∧ ∀ x ∈ s.bbx.mram, x.2.seq ≤ e.2.seq))) ∧
  (s.boot.island = false ∨ s.bbx.scanned = true → exec .blackBoxScan s = .next s) ∧
  (∀ r rest, s.boot.island = true → s.bbx.scanned = true → s.bbx.queue = r :: rest → Does .blackBoxWrite s [.ctrs, .bbx, .sens] (fun t =>
    t.bbx.queue = rest ∧ (∃ n, n < 8192 ∧ t.bbx.newest = some n ∧ aget t.bbx.mram n = some (s.bbxStored r) ∧
      ∀ n' : Nat, n' ≠ n → aget t.bbx.mram n' = aget s.bbx.mram n') ∧ CountsOnce (ck .bbxWritten) s t)) ∧
  (s.boot.island = false ∨ s.bbx.scanned = false ∨ s.bbx.queue = [] → exec .blackBoxWrite s = .next s)

/-- R463 to R466 and R471 (Tables BBX-4 and BBX-5): a crossing sets its condition and its seen bit once and counts; a rail
below 92 % of its nominal value makes the last-gasp record, once; a rail above 108 % of it, a critical temperature and a clock fault are critical errors of the present beat; a
condition is released by its own value; a sensor that fails is taken out; VBAT sets and releases its three latches with their
hysteresis. -/
def Obligations.SensorsLatchTheirConditions : Prop := ∀ s : State,
  (∀ (n : Fin 32) (value limit : Word), s.boot.island = true →
    (6 ≤ n.val → (n.val < 23 ∨ 27 < n.val) → s.sens.cond.getLsbD n.val = false → s.bbx.queue.length < 16 →
      Does (.sensorCrossing n value limit) s [.ctrs, .attn, .bbx, .sens, .ports, .pair] (fun t =>
        t.sens.cond = s.sens.cond ||| latchBit n.val ∧ t.sens.seen = s.sens.seen ||| latchBit n.val ∧
        t.ctr (ck1 .crossings n.val) = satAdd (s.ctr (ck1 .crossings n.val)) 1)) ∧
    (23 ≤ n.val → n.val ≤ 27 → railNominal n.val * 108 < value.toNat * 100 → s.beatsRun = true → s.boot.mode ≠ .halt →
      Does (.sensorCrossing n value limit) s (footprint (.sensorCrossing n value limit)) (fun t =>
        t.boot = { s.boot with evs := s.boot.evs ++ [.critical] })) ∧
    (23 ≤ n.val → n.val ≤ 27 → value.toNat * 100 < railNominal n.val * 92 → s.bbx.gasp = false →
      Does (.sensorCrossing n value limit) s (footprint (.sensorCrossing n value limit)) (fun t => t.boot = s.boot ∧ t.bbx.gasp = true ∧
        ∃ r rest, t.bbx.queue = r :: rest ∧ r.event = 0x0002))) ∧
  (∀ (n : Fin 32) (value limit : Word), s.boot.island = false → exec (.sensorCrossing n value limit) s = .next s) ∧
  (∀ (n : Fin 32) (value : Word), s.boot.island = true → 6 ≤ n.val → latchReleased n.val value.toInt = true →
    Does (.sensorConditionReleased n value) s [.sens] (fun t => t.sens.cond = s.sens.cond &&& ~~~latchBit n.val ∧ t.sens.seen = s.sens.seen)) ∧
  (∀ (n : Fin 32) (value : Word), latchReleased n.val value.toInt = false → exec (.sensorConditionReleased n value) s = .next s) ∧
  (∀ (i : Fin 8) (reading : Int), i.val ∉ s.sens.bad →
    (125 * 16 ≤ reading ∨ 2400 ≤ s.sens.hot.getD i.val 0 → s.beatsRun = true → s.boot.mode ≠ .halt → Does (.tempCritical i reading) s [.boot, .ctrs] (fun t =>
      t.boot = { s.boot with evs := s.boot.evs ++ [.critical] } ∧ CountsOnce (ck1 .crossings (28 + i.val / 2)) s t)) ∧
    (reading < 125 * 16 → s.sens.hot.getD i.val 0 < 2400 → exec (.tempCritical i reading) s = .next s)) ∧
  (∀ i : Fin 8, i.val ∉ s.sens.bad →
    (s.sensorFailed i.val = true → Does (.sensorFail i) s [.ctrs, .attn, .bbx, .sens, .ports, .pair] (fun t =>
      t.sens.bad = s.sens.bad ++ [i.val] ∧ t.sens.cond.getLsbD (10 + i.val) = true)) ∧
    (s.sensorFailed i.val = false → exec (.sensorFail i) s = .next s)) ∧
  (∀ mv : Nat, s.boot.island = true → Does (.vbatRead mv) s [.ctrs, .attn, .bbx, .sens, .ports, .pair] (fun t => t.sens.vbat = mv ∧
    t.sens.cond.getLsbD 20 = (decide (mv < 2700) || (s.sens.cond.getLsbD 20 && decide (mv < 2800))) ∧
    t.sens.cond.getLsbD 19 = (decide (mv < 2500) || (s.sens.cond.getLsbD 19 && decide (mv < 2600))) ∧
    t.sens.cond.getLsbD 18 = (decide (3600 < mv) || (s.sens.cond.getLsbD 18 && decide (3500 < mv))))) ∧
  (∀ d : Fin 5, s.boot.rails = true → s.beatsRun = true → s.boot.mode ≠ .halt → Does (.clockFault d) s [.boot, .ctrs, .sens] (fun t =>
    t.boot = { s.boot with evs := s.boot.evs ++ [.critical] } ∧ d.val ∈ t.sens.clocks ∧ CountsOnce (ck .clockFaults) s t)) ∧
  (∀ d : Fin 5, s.boot.rails = false → exec (.clockFault d) s = .next s)

/-- R467 to R470: a key takes a new state at the third scan in a row that sees it, and a scan that sees three keys or more is
a ghost and changes none; a touch key is touched at its second measure above the threshold and recalibrated when it has been
held for 60 s; the lamp test and the SVP enable end when their time is over, and key 2 held for 3 s with the service key
asserted starts the enable for 30 minutes; the release of the service key ends it, and ends a replay (T18). -/
def Obligations.FrontPanelAndServiceKey : Prop := ∀ s : State,
  (∀ keys : BitVec 16, s.boot.island = true →
    (3 ≤ (bitsOf 16 keys.toNat).length → Does (.panelScan keys) s [.ctrs, .attn, .bbx, .sens, .ports, .pair] (fun t =>
      t.ctr (ck .ghostScans) = satAdd (s.ctr (ck .ghostScans)) 1)) ∧
    ((bitsOf 16 keys.toNat).length < 3 → Does (.panelScan keys) s [.sens, .panel] (fun t => ∀ n : Nat, n < 16 →
      t.panel.keys.getLsbD n = if keys.getLsbD n ≠ s.panel.keys.getLsbD n ∧ agetD s.panel.runs n 0 < 2 then s.panel.keys.getLsbD n
        else keys.getLsbD n))) ∧
  (∀ (c : Fin 4) (count : Nat) (x : Touch), s.boot.island = true → s.panel.touch[c.val]? = some x →
    (x.touched = false → x.baseline ≠ 0 → x.baseline * 103 < count * 100 → 1 ≤ x.above → Does (.touchMeasure c count) s [.panel] (fun t =>
      t.panel.touch[c.val]? = some { x with count := count, above := 0, touched := true, since := s.rtc } ∧ t.panel.keys = s.panel.keys)) ∧
    (x.touched = true → x.baseline ≠ 0 → x.baseline * 1015 < count * 1000 → 60000000000 ≤ s.rtc - x.since → s.bbx.queue.length < 16 →
      Does (.touchMeasure c count) s [.ctrs, .attn, .bbx, .sens, .panel, .ports, .pair] (fun t =>
        t.panel.touch[c.val]? = some { x with count := count, baseline := count, touched := false, above := 0 } ∧
        t.ctr (ck .touchRecals) = satAdd (s.ctr (ck .touchRecals)) 1 ∧ t.sens.cond.getLsbD 7 = false))) ∧
  (∀ e, s.panel.lampEnd = some e →
    (e ≤ s.rtc → Does .lampTestEnd s [.panel] (fun t => t.panel = { s.panel with lampEnd := none })) ∧
    (s.rtc < e → exec .lampTestEnd s = .next s)) ∧
  (∀ since, s.panel.key2Since = some since → s.panel.svcKey = true →
    (since + 3000000000 ≤ s.rtc → Does .svpEnable s [.panel] (fun t => t.panel = { s.panel with svpEnd := some (s.rtc + 1800000000000) })) ∧
    (s.rtc < since + 3000000000 → exec .svpEnable s = .next s)) ∧
  (∀ e, s.panel.svpEnd = some e →
    (e ≤ s.rtc → Does .svpEnableExpiry s [.panel] (fun t => t.panel = { s.panel with svpEnd := none } ∧ t.authOf true = .read)) ∧
    (s.rtc < e → exec .svpEnableExpiry s = .next s)) ∧
  (s.panel.svcKey = true → exec .svcKeyAssert s = .next s ∧ Does .svcKeyRelease s [.boot, .panel] (fun t =>
    t.panel = { s.panel with svcKey := false, svpEnd := none, key2Since := none } ∧ t.authOf true = .read ∧
    t.boot = { s.boot with evs := s.boot.evs ++ (if s.boot.mode = .replay then [.svcKeyReleased] else []) })) ∧
  (s.panel.svcKey = false → exec .svcKeyRelease s = .next s ∧ Does .svcKeyAssert s [.panel] (fun t =>
    t.panel.svcKey = true ∧ t.panel.svpEnd = s.panel.svpEnd ∧ t.panel.key2Since = if s.panel.down 2 then some s.rtc else none)) ∧
  Does (.svcDetChange true) s [.panel] (fun t => t.panel = { s.panel with svcDet := true }) ∧
  Does (.svcDetChange false) s [.panel, .ports, .emp] (fun t => t.panel = { s.panel with svcDet := false } ∧
    (6 < s.ports.length → (t.port 6).link = false) ∧ (∀ e ∈ t.emp.sessions, e.svp = false) ∧
    ∀ e ∈ s.emp.sessions, e.svp = false → e ∈ t.emp.sessions)

/-- R498 and R499 (Table ELE-11): an update of the instruction register selects the instruction, and outside UNCONFIGURED none
of them changes a ball; the chain's cells load under EXTEST and SAMPLE/PRELOAD alone; Test-Logic-Reset selects IDCODE and
leaves the balls to the device. -/
def Obligations.TestAccessPort : Prop := ∀ s : State,
  (∀ code : BitVec 8, Does (.tapInstructionUpdate code) s [.tap] (fun t => t.tap = { s.tap with ir := code } ∧
    (s.boot.mode ≠ .unconfigured → t.ballDrive = .device))) ∧
  (∀ data : BitVec 279,
    (s.tapNow = .extest ∨ s.tapNow = .samplePreload → Does (.tapDataUpdate data) s [.tap] (fun t =>
      t.tap = { s.tap with cells := data } ∧ (s.tapNow = .extest → t.ballDrive = .cells data))) ∧
    (s.tapNow ≠ .extest → s.tapNow ≠ .samplePreload → exec (.tapDataUpdate data) s = .next s)) ∧
  Does .tapTestLogicReset s [.tap] (fun t => t.tap.ir = 0x01 ∧ t.tap.cells = s.tap.cells ∧ t.tapNow = .idcode ∧ t.ballDrive = .device)
end

