-- ==== Sys2Proof/Laws/State.lean ====
section
/-! SUPPORT. What each plain update of State does to each of its fields: one lemma per field per update, true by rfl, so that no
proof unfolds a record update. -/

namespace Sys2Proof.Machine

/-! `State.bumpBy` changes `ctrs` alone. -/

@[simp] theorem State.bumpBy_boot (s : State) (k : CtrKey) (n : Nat) : (s.bumpBy k n).boot = s.boot := (rfl)
@[simp] theorem State.bumpBy_img (s : State) (k : CtrKey) (n : Nat) : (s.bumpBy k n).img = s.img := (rfl)
@[simp] theorem State.bumpBy_flash (s : State) (k : CtrKey) (n : Nat) : (s.bumpBy k n).flash = s.flash := (rfl)
@[simp] theorem State.bumpBy_ctrs (s : State) (k : CtrKey) (n : Nat) : (s.bumpBy k n).ctrs = aput s.ctrs k { val := satAdd (s.ctr k) n, now := satAdd (s.ctrNow k) n } := (rfl)
@[simp] theorem State.bumpBy_ctrsAt (s : State) (k : CtrKey) (n : Nat) : (s.bumpBy k n).ctrsAt = s.ctrsAt := (rfl)
@[simp] theorem State.bumpBy_attn (s : State) (k : CtrKey) (n : Nat) : (s.bumpBy k n).attn = s.attn := (rfl)
@[simp] theorem State.bumpBy_partnerLog (s : State) (k : CtrKey) (n : Nat) : (s.bumpBy k n).partnerLog = s.partnerLog := (rfl)
@[simp] theorem State.bumpBy_bbx (s : State) (k : CtrKey) (n : Nat) : (s.bumpBy k n).bbx = s.bbx := (rfl)
@[simp] theorem State.bumpBy_sens (s : State) (k : CtrKey) (n : Nat) : (s.bumpBy k n).sens = s.sens := (rfl)
@[simp] theorem State.bumpBy_panel (s : State) (k : CtrKey) (n : Nat) : (s.bumpBy k n).panel = s.panel := (rfl)
@[simp] theorem State.bumpBy_ports (s : State) (k : CtrKey) (n : Nat) : (s.bumpBy k n).ports = s.ports := (rfl)
@[simp] theorem State.bumpBy_cages (s : State) (k : CtrKey) (n : Nat) : (s.bumpBy k n).cages = s.cages := (rfl)
@[simp] theorem State.bumpBy_tcp (s : State) (k : CtrKey) (n : Nat) : (s.bumpBy k n).tcp = s.tcp := (rfl)
@[simp] theorem State.bumpBy_streams (s : State) (k : CtrKey) (n : Nat) : (s.bumpBy k n).streams = s.streams := (rfl)
@[simp] theorem State.bumpBy_time (s : State) (k : CtrKey) (n : Nat) : (s.bumpBy k n).time = s.time := (rfl)
@[simp] theorem State.bumpBy_align (s : State) (k : CtrKey) (n : Nat) : (s.bumpBy k n).align = s.align := (rfl)
@[simp] theorem State.bumpBy_swage (s : State) (k : CtrKey) (n : Nat) : (s.bumpBy k n).swage = s.swage := (rfl)
@[simp] theorem State.bumpBy_osc (s : State) (k : CtrKey) (n : Nat) : (s.bumpBy k n).osc = s.osc := (rfl)
@[simp] theorem State.bumpBy_isl (s : State) (k : CtrKey) (n : Nat) : (s.bumpBy k n).isl = s.isl := (rfl)
@[simp] theorem State.bumpBy_sch (s : State) (k : CtrKey) (n : Nat) : (s.bumpBy k n).sch = s.sch := (rfl)
@[simp] theorem State.bumpBy_logic (s : State) (k : CtrKey) (n : Nat) : (s.bumpBy k n).logic = s.logic := (rfl)
@[simp] theorem State.bumpBy_cap (s : State) (k : CtrKey) (n : Nat) : (s.bumpBy k n).cap = s.cap := (rfl)
@[simp] theorem State.bumpBy_pub (s : State) (k : CtrKey) (n : Nat) : (s.bumpBy k n).pub = s.pub := (rfl)
@[simp] theorem State.bumpBy_pair (s : State) (k : CtrKey) (n : Nat) : (s.bumpBy k n).pair = s.pair := (rfl)
@[simp] theorem State.bumpBy_otp (s : State) (k : CtrKey) (n : Nat) : (s.bumpBy k n).otp = s.otp := (rfl)
@[simp] theorem State.bumpBy_vault (s : State) (k : CtrKey) (n : Nat) : (s.bumpBy k n).vault = s.vault := (rfl)
@[simp] theorem State.bumpBy_emp (s : State) (k : CtrKey) (n : Nat) : (s.bumpBy k n).emp = s.emp := (rfl)
@[simp] theorem State.bumpBy_tap (s : State) (k : CtrKey) (n : Nat) : (s.bumpBy k n).tap = s.tap := (rfl)
@[simp] theorem State.bumpBy_ext (s : State) (k : CtrKey) (n : Nat) : (s.bumpBy k n).ext = s.ext := (rfl)
@[simp] theorem State.bumpBy_served (s : State) (k : CtrKey) (n : Nat) : (s.bumpBy k n).served = s.served := (rfl)
@[simp] theorem State.bumpBy_free (s : State) (k : CtrKey) (n : Nat) : (s.bumpBy k n).free = s.free := (rfl)
@[simp] theorem State.bumpBy_pending (s : State) (k : CtrKey) (n : Nat) : (s.bumpBy k n).pending = s.pending := (rfl)

/-! `State.bump` changes `ctrs` alone. -/

@[simp] theorem State.bump_boot (s : State) (k : CtrKey) : (s.bump k).boot = s.boot := (rfl)
@[simp] theorem State.bump_img (s : State) (k : CtrKey) : (s.bump k).img = s.img := (rfl)
@[simp] theorem State.bump_flash (s : State) (k : CtrKey) : (s.bump k).flash = s.flash := (rfl)
@[simp] theorem State.bump_ctrs (s : State) (k : CtrKey) : (s.bump k).ctrs = aput s.ctrs k { val := satAdd (s.ctr k) 1, now := satAdd (s.ctrNow k) 1 } := (rfl)
@[simp] theorem State.bump_ctrsAt (s : State) (k : CtrKey) : (s.bump k).ctrsAt = s.ctrsAt := (rfl)
@[simp] theorem State.bump_attn (s : State) (k : CtrKey) : (s.bump k).attn = s.attn := (rfl)
@[simp] theorem State.bump_partnerLog (s : State) (k : CtrKey) : (s.bump k).partnerLog = s.partnerLog := (rfl)
@[simp] theorem State.bump_bbx (s : State) (k : CtrKey) : (s.bump k).bbx = s.bbx := (rfl)
@[simp] theorem State.bump_sens (s : State) (k : CtrKey) : (s.bump k).sens = s.sens := (rfl)
@[simp] theorem State.bump_panel (s : State) (k : CtrKey) : (s.bump k).panel = s.panel := (rfl)
@[simp] theorem State.bump_ports (s : State) (k : CtrKey) : (s.bump k).ports = s.ports := (rfl)
@[simp] theorem State.bump_cages (s : State) (k : CtrKey) : (s.bump k).cages = s.cages := (rfl)
@[simp] theorem State.bump_tcp (s : State) (k : CtrKey) : (s.bump k).tcp = s.tcp := (rfl)
@[simp] theorem State.bump_streams (s : State) (k : CtrKey) : (s.bump k).streams = s.streams := (rfl)
@[simp] theorem State.bump_time (s : State) (k : CtrKey) : (s.bump k).time = s.time := (rfl)
@[simp] theorem State.bump_align (s : State) (k : CtrKey) : (s.bump k).align = s.align := (rfl)
@[simp] theorem State.bump_swage (s : State) (k : CtrKey) : (s.bump k).swage = s.swage := (rfl)
@[simp] theorem State.bump_osc (s : State) (k : CtrKey) : (s.bump k).osc = s.osc := (rfl)
@[simp] theorem State.bump_isl (s : State) (k : CtrKey) : (s.bump k).isl = s.isl := (rfl)
@[simp] theorem State.bump_sch (s : State) (k : CtrKey) : (s.bump k).sch = s.sch := (rfl)
@[simp] theorem State.bump_logic (s : State) (k : CtrKey) : (s.bump k).logic = s.logic := (rfl)
@[simp] theorem State.bump_cap (s : State) (k : CtrKey) : (s.bump k).cap = s.cap := (rfl)
@[simp] theorem State.bump_pub (s : State) (k : CtrKey) : (s.bump k).pub = s.pub := (rfl)
@[simp] theorem State.bump_pair (s : State) (k : CtrKey) : (s.bump k).pair = s.pair := (rfl)
@[simp] theorem State.bump_otp (s : State) (k : CtrKey) : (s.bump k).otp = s.otp := (rfl)
@[simp] theorem State.bump_vault (s : State) (k : CtrKey) : (s.bump k).vault = s.vault := (rfl)
@[simp] theorem State.bump_emp (s : State) (k : CtrKey) : (s.bump k).emp = s.emp := (rfl)
@[simp] theorem State.bump_tap (s : State) (k : CtrKey) : (s.bump k).tap = s.tap := (rfl)
@[simp] theorem State.bump_ext (s : State) (k : CtrKey) : (s.bump k).ext = s.ext := (rfl)
@[simp] theorem State.bump_served (s : State) (k : CtrKey) : (s.bump k).served = s.served := (rfl)
@[simp] theorem State.bump_free (s : State) (k : CtrKey) : (s.bump k).free = s.free := (rfl)
@[simp] theorem State.bump_pending (s : State) (k : CtrKey) : (s.bump k).pending = s.pending := (rfl)

/-! `State.clearCtr` changes `ctrs` and `ctrsAt`. -/

@[simp] theorem State.clearCtr_boot (s : State) (k : CtrKey) : (s.clearCtr k).boot = s.boot := (rfl)
@[simp] theorem State.clearCtr_img (s : State) (k : CtrKey) : (s.clearCtr k).img = s.img := (rfl)
@[simp] theorem State.clearCtr_flash (s : State) (k : CtrKey) : (s.clearCtr k).flash = s.flash := (rfl)
@[simp] theorem State.clearCtr_ctrs (s : State) (k : CtrKey) : (s.clearCtr k).ctrs = aput s.ctrs k { val := s.ctrNow k, now := s.ctrNow k } := (rfl)
@[simp] theorem State.clearCtr_ctrsAt (s : State) (k : CtrKey) : (s.clearCtr k).ctrsAt = adel s.ctrsAt k := (rfl)
@[simp] theorem State.clearCtr_attn (s : State) (k : CtrKey) : (s.clearCtr k).attn = s.attn := (rfl)
@[simp] theorem State.clearCtr_partnerLog (s : State) (k : CtrKey) : (s.clearCtr k).partnerLog = s.partnerLog := (rfl)
@[simp] theorem State.clearCtr_bbx (s : State) (k : CtrKey) : (s.clearCtr k).bbx = s.bbx := (rfl)
@[simp] theorem State.clearCtr_sens (s : State) (k : CtrKey) : (s.clearCtr k).sens = s.sens := (rfl)
@[simp] theorem State.clearCtr_panel (s : State) (k : CtrKey) : (s.clearCtr k).panel = s.panel := (rfl)
@[simp] theorem State.clearCtr_ports (s : State) (k : CtrKey) : (s.clearCtr k).ports = s.ports := (rfl)
@[simp] theorem State.clearCtr_cages (s : State) (k : CtrKey) : (s.clearCtr k).cages = s.cages := (rfl)
@[simp] theorem State.clearCtr_tcp (s : State) (k : CtrKey) : (s.clearCtr k).tcp = s.tcp := (rfl)
@[simp] theorem State.clearCtr_streams (s : State) (k : CtrKey) : (s.clearCtr k).streams = s.streams := (rfl)
@[simp] theorem State.clearCtr_time (s : State) (k : CtrKey) : (s.clearCtr k).time = s.time := (rfl)
@[simp] theorem State.clearCtr_align (s : State) (k : CtrKey) : (s.clearCtr k).align = s.align := (rfl)
@[simp] theorem State.clearCtr_swage (s : State) (k : CtrKey) : (s.clearCtr k).swage = s.swage := (rfl)
@[simp] theorem State.clearCtr_osc (s : State) (k : CtrKey) : (s.clearCtr k).osc = s.osc := (rfl)
@[simp] theorem State.clearCtr_isl (s : State) (k : CtrKey) : (s.clearCtr k).isl = s.isl := (rfl)
@[simp] theorem State.clearCtr_sch (s : State) (k : CtrKey) : (s.clearCtr k).sch = s.sch := (rfl)
@[simp] theorem State.clearCtr_logic (s : State) (k : CtrKey) : (s.clearCtr k).logic = s.logic := (rfl)
@[simp] theorem State.clearCtr_cap (s : State) (k : CtrKey) : (s.clearCtr k).cap = s.cap := (rfl)
@[simp] theorem State.clearCtr_pub (s : State) (k : CtrKey) : (s.clearCtr k).pub = s.pub := (rfl)
@[simp] theorem State.clearCtr_pair (s : State) (k : CtrKey) : (s.clearCtr k).pair = s.pair := (rfl)
@[simp] theorem State.clearCtr_otp (s : State) (k : CtrKey) : (s.clearCtr k).otp = s.otp := (rfl)
@[simp] theorem State.clearCtr_vault (s : State) (k : CtrKey) : (s.clearCtr k).vault = s.vault := (rfl)
@[simp] theorem State.clearCtr_emp (s : State) (k : CtrKey) : (s.clearCtr k).emp = s.emp := (rfl)
@[simp] theorem State.clearCtr_tap (s : State) (k : CtrKey) : (s.clearCtr k).tap = s.tap := (rfl)
@[simp] theorem State.clearCtr_ext (s : State) (k : CtrKey) : (s.clearCtr k).ext = s.ext := (rfl)
@[simp] theorem State.clearCtr_served (s : State) (k : CtrKey) : (s.clearCtr k).served = s.served := (rfl)
@[simp] theorem State.clearCtr_free (s : State) (k : CtrKey) : (s.clearCtr k).free = s.free := (rfl)
@[simp] theorem State.clearCtr_pending (s : State) (k : CtrKey) : (s.clearCtr k).pending = s.pending := (rfl)

/-! `State.draw` changes `free` alone. -/

@[simp] theorem State.draw_boot (s : State) : (s.draw).boot = s.boot := (rfl)
@[simp] theorem State.draw_img (s : State) : (s.draw).img = s.img := (rfl)
@[simp] theorem State.draw_flash (s : State) : (s.draw).flash = s.flash := (rfl)
@[simp] theorem State.draw_ctrs (s : State) : (s.draw).ctrs = s.ctrs := (rfl)
@[simp] theorem State.draw_ctrsAt (s : State) : (s.draw).ctrsAt = s.ctrsAt := (rfl)
@[simp] theorem State.draw_attn (s : State) : (s.draw).attn = s.attn := (rfl)
@[simp] theorem State.draw_partnerLog (s : State) : (s.draw).partnerLog = s.partnerLog := (rfl)
@[simp] theorem State.draw_bbx (s : State) : (s.draw).bbx = s.bbx := (rfl)
@[simp] theorem State.draw_sens (s : State) : (s.draw).sens = s.sens := (rfl)
@[simp] theorem State.draw_panel (s : State) : (s.draw).panel = s.panel := (rfl)
@[simp] theorem State.draw_ports (s : State) : (s.draw).ports = s.ports := (rfl)
@[simp] theorem State.draw_cages (s : State) : (s.draw).cages = s.cages := (rfl)
@[simp] theorem State.draw_tcp (s : State) : (s.draw).tcp = s.tcp := (rfl)
@[simp] theorem State.draw_streams (s : State) : (s.draw).streams = s.streams := (rfl)
@[simp] theorem State.draw_time (s : State) : (s.draw).time = s.time := (rfl)
@[simp] theorem State.draw_align (s : State) : (s.draw).align = s.align := (rfl)
@[simp] theorem State.draw_swage (s : State) : (s.draw).swage = s.swage := (rfl)
@[simp] theorem State.draw_osc (s : State) : (s.draw).osc = s.osc := (rfl)
@[simp] theorem State.draw_isl (s : State) : (s.draw).isl = s.isl := (rfl)
@[simp] theorem State.draw_sch (s : State) : (s.draw).sch = s.sch := (rfl)
@[simp] theorem State.draw_logic (s : State) : (s.draw).logic = s.logic := (rfl)
@[simp] theorem State.draw_cap (s : State) : (s.draw).cap = s.cap := (rfl)
@[simp] theorem State.draw_pub (s : State) : (s.draw).pub = s.pub := (rfl)
@[simp] theorem State.draw_pair (s : State) : (s.draw).pair = s.pair := (rfl)
@[simp] theorem State.draw_otp (s : State) : (s.draw).otp = s.otp := (rfl)
@[simp] theorem State.draw_vault (s : State) : (s.draw).vault = s.vault := (rfl)
@[simp] theorem State.draw_emp (s : State) : (s.draw).emp = s.emp := (rfl)
@[simp] theorem State.draw_tap (s : State) : (s.draw).tap = s.tap := (rfl)
@[simp] theorem State.draw_ext (s : State) : (s.draw).ext = s.ext := (rfl)
@[simp] theorem State.draw_served (s : State) : (s.draw).served = s.served := (rfl)
@[simp] theorem State.draw_free (s : State) : (s.draw).free = s.free + 1 := (rfl)
@[simp] theorem State.draw_pending (s : State) : (s.draw).pending = s.pending := (rfl)

/-! `State.modStream` changes `streams` alone. -/

@[simp] theorem State.modStream_boot (s : State) (i : Nat) (f : StreamSt → StreamSt) : (s.modStream i f).boot = s.boot := (rfl)
@[simp] theorem State.modStream_img (s : State) (i : Nat) (f : StreamSt → StreamSt) : (s.modStream i f).img = s.img := (rfl)
@[simp] theorem State.modStream_flash (s : State) (i : Nat) (f : StreamSt → StreamSt) : (s.modStream i f).flash = s.flash := (rfl)
@[simp] theorem State.modStream_ctrs (s : State) (i : Nat) (f : StreamSt → StreamSt) : (s.modStream i f).ctrs = s.ctrs := (rfl)
@[simp] theorem State.modStream_ctrsAt (s : State) (i : Nat) (f : StreamSt → StreamSt) : (s.modStream i f).ctrsAt = s.ctrsAt := (rfl)
@[simp] theorem State.modStream_attn (s : State) (i : Nat) (f : StreamSt → StreamSt) : (s.modStream i f).attn = s.attn := (rfl)
@[simp] theorem State.modStream_partnerLog (s : State) (i : Nat) (f : StreamSt → StreamSt) : (s.modStream i f).partnerLog = s.partnerLog := (rfl)
@[simp] theorem State.modStream_bbx (s : State) (i : Nat) (f : StreamSt → StreamSt) : (s.modStream i f).bbx = s.bbx := (rfl)
@[simp] theorem State.modStream_sens (s : State) (i : Nat) (f : StreamSt → StreamSt) : (s.modStream i f).sens = s.sens := (rfl)
@[simp] theorem State.modStream_panel (s : State) (i : Nat) (f : StreamSt → StreamSt) : (s.modStream i f).panel = s.panel := (rfl)
@[simp] theorem State.modStream_ports (s : State) (i : Nat) (f : StreamSt → StreamSt) : (s.modStream i f).ports = s.ports := (rfl)
@[simp] theorem State.modStream_cages (s : State) (i : Nat) (f : StreamSt → StreamSt) : (s.modStream i f).cages = s.cages := (rfl)
@[simp] theorem State.modStream_tcp (s : State) (i : Nat) (f : StreamSt → StreamSt) : (s.modStream i f).tcp = s.tcp := (rfl)
@[simp] theorem State.modStream_streams (s : State) (i : Nat) (f : StreamSt → StreamSt) : (s.modStream i f).streams = amod s.streams i StreamSt.reset f := (rfl)
@[simp] theorem State.modStream_time (s : State) (i : Nat) (f : StreamSt → StreamSt) : (s.modStream i f).time = s.time := (rfl)
@[simp] theorem State.modStream_align (s : State) (i : Nat) (f : StreamSt → StreamSt) : (s.modStream i f).align = s.align := (rfl)
@[simp] theorem State.modStream_swage (s : State) (i : Nat) (f : StreamSt → StreamSt) : (s.modStream i f).swage = s.swage := (rfl)
@[simp] theorem State.modStream_osc (s : State) (i : Nat) (f : StreamSt → StreamSt) : (s.modStream i f).osc = s.osc := (rfl)
@[simp] theorem State.modStream_isl (s : State) (i : Nat) (f : StreamSt → StreamSt) : (s.modStream i f).isl = s.isl := (rfl)
@[simp] theorem State.modStream_sch (s : State) (i : Nat) (f : StreamSt → StreamSt) : (s.modStream i f).sch = s.sch := (rfl)
@[simp] theorem State.modStream_logic (s : State) (i : Nat) (f : StreamSt → StreamSt) : (s.modStream i f).logic = s.logic := (rfl)
@[simp] theorem State.modStream_cap (s : State) (i : Nat) (f : StreamSt → StreamSt) : (s.modStream i f).cap = s.cap := (rfl)
@[simp] theorem State.modStream_pub (s : State) (i : Nat) (f : StreamSt → StreamSt) : (s.modStream i f).pub = s.pub := (rfl)
@[simp] theorem State.modStream_pair (s : State) (i : Nat) (f : StreamSt → StreamSt) : (s.modStream i f).pair = s.pair := (rfl)
@[simp] theorem State.modStream_otp (s : State) (i : Nat) (f : StreamSt → StreamSt) : (s.modStream i f).otp = s.otp := (rfl)
@[simp] theorem State.modStream_vault (s : State) (i : Nat) (f : StreamSt → StreamSt) : (s.modStream i f).vault = s.vault := (rfl)
@[simp] theorem State.modStream_emp (s : State) (i : Nat) (f : StreamSt → StreamSt) : (s.modStream i f).emp = s.emp := (rfl)
@[simp] theorem State.modStream_tap (s : State) (i : Nat) (f : StreamSt → StreamSt) : (s.modStream i f).tap = s.tap := (rfl)
@[simp] theorem State.modStream_ext (s : State) (i : Nat) (f : StreamSt → StreamSt) : (s.modStream i f).ext = s.ext := (rfl)
@[simp] theorem State.modStream_served (s : State) (i : Nat) (f : StreamSt → StreamSt) : (s.modStream i f).served = s.served := (rfl)
@[simp] theorem State.modStream_free (s : State) (i : Nat) (f : StreamSt → StreamSt) : (s.modStream i f).free = s.free := (rfl)
@[simp] theorem State.modStream_pending (s : State) (i : Nat) (f : StreamSt → StreamSt) : (s.modStream i f).pending = s.pending := (rfl)

/-! `State.modPort` changes `ports` alone. -/

@[simp] theorem State.modPort_boot (s : State) (p : Nat) (f : PortSt → PortSt) : (s.modPort p f).boot = s.boot := (rfl)
@[simp] theorem State.modPort_img (s : State) (p : Nat) (f : PortSt → PortSt) : (s.modPort p f).img = s.img := (rfl)
@[simp] theorem State.modPort_flash (s : State) (p : Nat) (f : PortSt → PortSt) : (s.modPort p f).flash = s.flash := (rfl)
@[simp] theorem State.modPort_ctrs (s : State) (p : Nat) (f : PortSt → PortSt) : (s.modPort p f).ctrs = s.ctrs := (rfl)
@[simp] theorem State.modPort_ctrsAt (s : State) (p : Nat) (f : PortSt → PortSt) : (s.modPort p f).ctrsAt = s.ctrsAt := (rfl)
@[simp] theorem State.modPort_attn (s : State) (p : Nat) (f : PortSt → PortSt) : (s.modPort p f).attn = s.attn := (rfl)
@[simp] theorem State.modPort_partnerLog (s : State) (p : Nat) (f : PortSt → PortSt) : (s.modPort p f).partnerLog = s.partnerLog := (rfl)
@[simp] theorem State.modPort_bbx (s : State) (p : Nat) (f : PortSt → PortSt) : (s.modPort p f).bbx = s.bbx := (rfl)
@[simp] theorem State.modPort_sens (s : State) (p : Nat) (f : PortSt → PortSt) : (s.modPort p f).sens = s.sens := (rfl)
@[simp] theorem State.modPort_panel (s : State) (p : Nat) (f : PortSt → PortSt) : (s.modPort p f).panel = s.panel := (rfl)
@[simp] theorem State.modPort_ports (s : State) (p : Nat) (f : PortSt → PortSt) : (s.modPort p f).ports = modAt s.ports p f := (rfl)
@[simp] theorem State.modPort_cages (s : State) (p : Nat) (f : PortSt → PortSt) : (s.modPort p f).cages = s.cages := (rfl)
@[simp] theorem State.modPort_tcp (s : State) (p : Nat) (f : PortSt → PortSt) : (s.modPort p f).tcp = s.tcp := (rfl)
@[simp] theorem State.modPort_streams (s : State) (p : Nat) (f : PortSt → PortSt) : (s.modPort p f).streams = s.streams := (rfl)
@[simp] theorem State.modPort_time (s : State) (p : Nat) (f : PortSt → PortSt) : (s.modPort p f).time = s.time := (rfl)
@[simp] theorem State.modPort_align (s : State) (p : Nat) (f : PortSt → PortSt) : (s.modPort p f).align = s.align := (rfl)
@[simp] theorem State.modPort_swage (s : State) (p : Nat) (f : PortSt → PortSt) : (s.modPort p f).swage = s.swage := (rfl)
@[simp] theorem State.modPort_osc (s : State) (p : Nat) (f : PortSt → PortSt) : (s.modPort p f).osc = s.osc := (rfl)
@[simp] theorem State.modPort_isl (s : State) (p : Nat) (f : PortSt → PortSt) : (s.modPort p f).isl = s.isl := (rfl)
@[simp] theorem State.modPort_sch (s : State) (p : Nat) (f : PortSt → PortSt) : (s.modPort p f).sch = s.sch := (rfl)
@[simp] theorem State.modPort_logic (s : State) (p : Nat) (f : PortSt → PortSt) : (s.modPort p f).logic = s.logic := (rfl)
@[simp] theorem State.modPort_cap (s : State) (p : Nat) (f : PortSt → PortSt) : (s.modPort p f).cap = s.cap := (rfl)
@[simp] theorem State.modPort_pub (s : State) (p : Nat) (f : PortSt → PortSt) : (s.modPort p f).pub = s.pub := (rfl)
@[simp] theorem State.modPort_pair (s : State) (p : Nat) (f : PortSt → PortSt) : (s.modPort p f).pair = s.pair := (rfl)
@[simp] theorem State.modPort_otp (s : State) (p : Nat) (f : PortSt → PortSt) : (s.modPort p f).otp = s.otp := (rfl)
@[simp] theorem State.modPort_vault (s : State) (p : Nat) (f : PortSt → PortSt) : (s.modPort p f).vault = s.vault := (rfl)
@[simp] theorem State.modPort_emp (s : State) (p : Nat) (f : PortSt → PortSt) : (s.modPort p f).emp = s.emp := (rfl)
@[simp] theorem State.modPort_tap (s : State) (p : Nat) (f : PortSt → PortSt) : (s.modPort p f).tap = s.tap := (rfl)
@[simp] theorem State.modPort_ext (s : State) (p : Nat) (f : PortSt → PortSt) : (s.modPort p f).ext = s.ext := (rfl)
@[simp] theorem State.modPort_served (s : State) (p : Nat) (f : PortSt → PortSt) : (s.modPort p f).served = s.served := (rfl)
@[simp] theorem State.modPort_free (s : State) (p : Nat) (f : PortSt → PortSt) : (s.modPort p f).free = s.free := (rfl)
@[simp] theorem State.modPort_pending (s : State) (p : Nat) (f : PortSt → PortSt) : (s.modPort p f).pending = s.pending := (rfl)

/-! `State.modSlice` changes `align` alone. -/

@[simp] theorem State.modSlice_boot (s : State) (r : Nat) (f : SliceSt → SliceSt) : (s.modSlice r f).boot = s.boot := (rfl)
@[simp] theorem State.modSlice_img (s : State) (r : Nat) (f : SliceSt → SliceSt) : (s.modSlice r f).img = s.img := (rfl)
@[simp] theorem State.modSlice_flash (s : State) (r : Nat) (f : SliceSt → SliceSt) : (s.modSlice r f).flash = s.flash := (rfl)
@[simp] theorem State.modSlice_ctrs (s : State) (r : Nat) (f : SliceSt → SliceSt) : (s.modSlice r f).ctrs = s.ctrs := (rfl)
@[simp] theorem State.modSlice_ctrsAt (s : State) (r : Nat) (f : SliceSt → SliceSt) : (s.modSlice r f).ctrsAt = s.ctrsAt := (rfl)
@[simp] theorem State.modSlice_attn (s : State) (r : Nat) (f : SliceSt → SliceSt) : (s.modSlice r f).attn = s.attn := (rfl)
@[simp] theorem State.modSlice_partnerLog (s : State) (r : Nat) (f : SliceSt → SliceSt) : (s.modSlice r f).partnerLog = s.partnerLog := (rfl)
@[simp] theorem State.modSlice_bbx (s : State) (r : Nat) (f : SliceSt → SliceSt) : (s.modSlice r f).bbx = s.bbx := (rfl)
@[simp] theorem State.modSlice_sens (s : State) (r : Nat) (f : SliceSt → SliceSt) : (s.modSlice r f).sens = s.sens := (rfl)
@[simp] theorem State.modSlice_panel (s : State) (r : Nat) (f : SliceSt → SliceSt) : (s.modSlice r f).panel = s.panel := (rfl)
@[simp] theorem State.modSlice_ports (s : State) (r : Nat) (f : SliceSt → SliceSt) : (s.modSlice r f).ports = s.ports := (rfl)
@[simp] theorem State.modSlice_cages (s : State) (r : Nat) (f : SliceSt → SliceSt) : (s.modSlice r f).cages = s.cages := (rfl)
@[simp] theorem State.modSlice_tcp (s : State) (r : Nat) (f : SliceSt → SliceSt) : (s.modSlice r f).tcp = s.tcp := (rfl)
@[simp] theorem State.modSlice_streams (s : State) (r : Nat) (f : SliceSt → SliceSt) : (s.modSlice r f).streams = s.streams := (rfl)
@[simp] theorem State.modSlice_time (s : State) (r : Nat) (f : SliceSt → SliceSt) : (s.modSlice r f).time = s.time := (rfl)
@[simp] theorem State.modSlice_align (s : State) (r : Nat) (f : SliceSt → SliceSt) : (s.modSlice r f).align = { s.align with slices := modAt s.align.slices r f } := (rfl)
@[simp] theorem State.modSlice_swage (s : State) (r : Nat) (f : SliceSt → SliceSt) : (s.modSlice r f).swage = s.swage := (rfl)
@[simp] theorem State.modSlice_osc (s : State) (r : Nat) (f : SliceSt → SliceSt) : (s.modSlice r f).osc = s.osc := (rfl)
@[simp] theorem State.modSlice_isl (s : State) (r : Nat) (f : SliceSt → SliceSt) : (s.modSlice r f).isl = s.isl := (rfl)
@[simp] theorem State.modSlice_sch (s : State) (r : Nat) (f : SliceSt → SliceSt) : (s.modSlice r f).sch = s.sch := (rfl)
@[simp] theorem State.modSlice_logic (s : State) (r : Nat) (f : SliceSt → SliceSt) : (s.modSlice r f).logic = s.logic := (rfl)
@[simp] theorem State.modSlice_cap (s : State) (r : Nat) (f : SliceSt → SliceSt) : (s.modSlice r f).cap = s.cap := (rfl)
@[simp] theorem State.modSlice_pub (s : State) (r : Nat) (f : SliceSt → SliceSt) : (s.modSlice r f).pub = s.pub := (rfl)
@[simp] theorem State.modSlice_pair (s : State) (r : Nat) (f : SliceSt → SliceSt) : (s.modSlice r f).pair = s.pair := (rfl)
@[simp] theorem State.modSlice_otp (s : State) (r : Nat) (f : SliceSt → SliceSt) : (s.modSlice r f).otp = s.otp := (rfl)
@[simp] theorem State.modSlice_vault (s : State) (r : Nat) (f : SliceSt → SliceSt) : (s.modSlice r f).vault = s.vault := (rfl)
@[simp] theorem State.modSlice_emp (s : State) (r : Nat) (f : SliceSt → SliceSt) : (s.modSlice r f).emp = s.emp := (rfl)
@[simp] theorem State.modSlice_tap (s : State) (r : Nat) (f : SliceSt → SliceSt) : (s.modSlice r f).tap = s.tap := (rfl)
@[simp] theorem State.modSlice_ext (s : State) (r : Nat) (f : SliceSt → SliceSt) : (s.modSlice r f).ext = s.ext := (rfl)
@[simp] theorem State.modSlice_served (s : State) (r : Nat) (f : SliceSt → SliceSt) : (s.modSlice r f).served = s.served := (rfl)
@[simp] theorem State.modSlice_free (s : State) (r : Nat) (f : SliceSt → SliceSt) : (s.modSlice r f).free = s.free := (rfl)
@[simp] theorem State.modSlice_pending (s : State) (r : Nat) (f : SliceSt → SliceSt) : (s.modSlice r f).pending = s.pending := (rfl)

/-! `State.modReg` changes `sch` alone. -/

@[simp] theorem State.modReg_boot (s : State) (r : Nat) (f : RegSt → RegSt) : (s.modReg r f).boot = s.boot := (rfl)
@[simp] theorem State.modReg_img (s : State) (r : Nat) (f : RegSt → RegSt) : (s.modReg r f).img = s.img := (rfl)
@[simp] theorem State.modReg_flash (s : State) (r : Nat) (f : RegSt → RegSt) : (s.modReg r f).flash = s.flash := (rfl)
@[simp] theorem State.modReg_ctrs (s : State) (r : Nat) (f : RegSt → RegSt) : (s.modReg r f).ctrs = s.ctrs := (rfl)
@[simp] theorem State.modReg_ctrsAt (s : State) (r : Nat) (f : RegSt → RegSt) : (s.modReg r f).ctrsAt = s.ctrsAt := (rfl)
@[simp] theorem State.modReg_attn (s : State) (r : Nat) (f : RegSt → RegSt) : (s.modReg r f).attn = s.attn := (rfl)
@[simp] theorem State.modReg_partnerLog (s : State) (r : Nat) (f : RegSt → RegSt) : (s.modReg r f).partnerLog = s.partnerLog := (rfl)
@[simp] theorem State.modReg_bbx (s : State) (r : Nat) (f : RegSt → RegSt) : (s.modReg r f).bbx = s.bbx := (rfl)
@[simp] theorem State.modReg_sens (s : State) (r : Nat) (f : RegSt → RegSt) : (s.modReg r f).sens = s.sens := (rfl)
@[simp] theorem State.modReg_panel (s : State) (r : Nat) (f : RegSt → RegSt) : (s.modReg r f).panel = s.panel := (rfl)
@[simp] theorem State.modReg_ports (s : State) (r : Nat) (f : RegSt → RegSt) : (s.modReg r f).ports = s.ports := (rfl)
@[simp] theorem State.modReg_cages (s : State) (r : Nat) (f : RegSt → RegSt) : (s.modReg r f).cages = s.cages := (rfl)
@[simp] theorem State.modReg_tcp (s : State) (r : Nat) (f : RegSt → RegSt) : (s.modReg r f).tcp = s.tcp := (rfl)
@[simp] theorem State.modReg_streams (s : State) (r : Nat) (f : RegSt → RegSt) : (s.modReg r f).streams = s.streams := (rfl)
@[simp] theorem State.modReg_time (s : State) (r : Nat) (f : RegSt → RegSt) : (s.modReg r f).time = s.time := (rfl)
@[simp] theorem State.modReg_align (s : State) (r : Nat) (f : RegSt → RegSt) : (s.modReg r f).align = s.align := (rfl)
@[simp] theorem State.modReg_swage (s : State) (r : Nat) (f : RegSt → RegSt) : (s.modReg r f).swage = s.swage := (rfl)
@[simp] theorem State.modReg_osc (s : State) (r : Nat) (f : RegSt → RegSt) : (s.modReg r f).osc = s.osc := (rfl)
@[simp] theorem State.modReg_isl (s : State) (r : Nat) (f : RegSt → RegSt) : (s.modReg r f).isl = s.isl := (rfl)
@[simp] theorem State.modReg_sch (s : State) (r : Nat) (f : RegSt → RegSt) : (s.modReg r f).sch = { s.sch with regs := modAt s.sch.regs r f } := (rfl)
@[simp] theorem State.modReg_logic (s : State) (r : Nat) (f : RegSt → RegSt) : (s.modReg r f).logic = s.logic := (rfl)
@[simp] theorem State.modReg_cap (s : State) (r : Nat) (f : RegSt → RegSt) : (s.modReg r f).cap = s.cap := (rfl)
@[simp] theorem State.modReg_pub (s : State) (r : Nat) (f : RegSt → RegSt) : (s.modReg r f).pub = s.pub := (rfl)
@[simp] theorem State.modReg_pair (s : State) (r : Nat) (f : RegSt → RegSt) : (s.modReg r f).pair = s.pair := (rfl)
@[simp] theorem State.modReg_otp (s : State) (r : Nat) (f : RegSt → RegSt) : (s.modReg r f).otp = s.otp := (rfl)
@[simp] theorem State.modReg_vault (s : State) (r : Nat) (f : RegSt → RegSt) : (s.modReg r f).vault = s.vault := (rfl)
@[simp] theorem State.modReg_emp (s : State) (r : Nat) (f : RegSt → RegSt) : (s.modReg r f).emp = s.emp := (rfl)
@[simp] theorem State.modReg_tap (s : State) (r : Nat) (f : RegSt → RegSt) : (s.modReg r f).tap = s.tap := (rfl)
@[simp] theorem State.modReg_ext (s : State) (r : Nat) (f : RegSt → RegSt) : (s.modReg r f).ext = s.ext := (rfl)
@[simp] theorem State.modReg_served (s : State) (r : Nat) (f : RegSt → RegSt) : (s.modReg r f).served = s.served := (rfl)
@[simp] theorem State.modReg_free (s : State) (r : Nat) (f : RegSt → RegSt) : (s.modReg r f).free = s.free := (rfl)
@[simp] theorem State.modReg_pending (s : State) (r : Nat) (f : RegSt → RegSt) : (s.modReg r f).pending = s.pending := (rfl)

/-! `State.modCell` changes `sch` alone. -/

@[simp] theorem State.modCell_boot (s : State) (c : Nat) (f : CellSt → CellSt) : (s.modCell c f).boot = s.boot := (rfl)
@[simp] theorem State.modCell_img (s : State) (c : Nat) (f : CellSt → CellSt) : (s.modCell c f).img = s.img := (rfl)
@[simp] theorem State.modCell_flash (s : State) (c : Nat) (f : CellSt → CellSt) : (s.modCell c f).flash = s.flash := (rfl)
@[simp] theorem State.modCell_ctrs (s : State) (c : Nat) (f : CellSt → CellSt) : (s.modCell c f).ctrs = s.ctrs := (rfl)
@[simp] theorem State.modCell_ctrsAt (s : State) (c : Nat) (f : CellSt → CellSt) : (s.modCell c f).ctrsAt = s.ctrsAt := (rfl)
@[simp] theorem State.modCell_attn (s : State) (c : Nat) (f : CellSt → CellSt) : (s.modCell c f).attn = s.attn := (rfl)
@[simp] theorem State.modCell_partnerLog (s : State) (c : Nat) (f : CellSt → CellSt) : (s.modCell c f).partnerLog = s.partnerLog := (rfl)
@[simp] theorem State.modCell_bbx (s : State) (c : Nat) (f : CellSt → CellSt) : (s.modCell c f).bbx = s.bbx := (rfl)
@[simp] theorem State.modCell_sens (s : State) (c : Nat) (f : CellSt → CellSt) : (s.modCell c f).sens = s.sens := (rfl)
@[simp] theorem State.modCell_panel (s : State) (c : Nat) (f : CellSt → CellSt) : (s.modCell c f).panel = s.panel := (rfl)
@[simp] theorem State.modCell_ports (s : State) (c : Nat) (f : CellSt → CellSt) : (s.modCell c f).ports = s.ports := (rfl)
@[simp] theorem State.modCell_cages (s : State) (c : Nat) (f : CellSt → CellSt) : (s.modCell c f).cages = s.cages := (rfl)
@[simp] theorem State.modCell_tcp (s : State) (c : Nat) (f : CellSt → CellSt) : (s.modCell c f).tcp = s.tcp := (rfl)
@[simp] theorem State.modCell_streams (s : State) (c : Nat) (f : CellSt → CellSt) : (s.modCell c f).streams = s.streams := (rfl)
@[simp] theorem State.modCell_time (s : State) (c : Nat) (f : CellSt → CellSt) : (s.modCell c f).time = s.time := (rfl)
@[simp] theorem State.modCell_align (s : State) (c : Nat) (f : CellSt → CellSt) : (s.modCell c f).align = s.align := (rfl)
@[simp] theorem State.modCell_swage (s : State) (c : Nat) (f : CellSt → CellSt) : (s.modCell c f).swage = s.swage := (rfl)
@[simp] theorem State.modCell_osc (s : State) (c : Nat) (f : CellSt → CellSt) : (s.modCell c f).osc = s.osc := (rfl)
@[simp] theorem State.modCell_isl (s : State) (c : Nat) (f : CellSt → CellSt) : (s.modCell c f).isl = s.isl := (rfl)
@[simp] theorem State.modCell_sch (s : State) (c : Nat) (f : CellSt → CellSt) : (s.modCell c f).sch = { s.sch with cells := modAt s.sch.cells c f } := (rfl)
@[simp] theorem State.modCell_logic (s : State) (c : Nat) (f : CellSt → CellSt) : (s.modCell c f).logic = s.logic := (rfl)
@[simp] theorem State.modCell_cap (s : State) (c : Nat) (f : CellSt → CellSt) : (s.modCell c f).cap = s.cap := (rfl)
@[simp] theorem State.modCell_pub (s : State) (c : Nat) (f : CellSt → CellSt) : (s.modCell c f).pub = s.pub := (rfl)
@[simp] theorem State.modCell_pair (s : State) (c : Nat) (f : CellSt → CellSt) : (s.modCell c f).pair = s.pair := (rfl)
@[simp] theorem State.modCell_otp (s : State) (c : Nat) (f : CellSt → CellSt) : (s.modCell c f).otp = s.otp := (rfl)
@[simp] theorem State.modCell_vault (s : State) (c : Nat) (f : CellSt → CellSt) : (s.modCell c f).vault = s.vault := (rfl)
@[simp] theorem State.modCell_emp (s : State) (c : Nat) (f : CellSt → CellSt) : (s.modCell c f).emp = s.emp := (rfl)
@[simp] theorem State.modCell_tap (s : State) (c : Nat) (f : CellSt → CellSt) : (s.modCell c f).tap = s.tap := (rfl)
@[simp] theorem State.modCell_ext (s : State) (c : Nat) (f : CellSt → CellSt) : (s.modCell c f).ext = s.ext := (rfl)
@[simp] theorem State.modCell_served (s : State) (c : Nat) (f : CellSt → CellSt) : (s.modCell c f).served = s.served := (rfl)
@[simp] theorem State.modCell_free (s : State) (c : Nat) (f : CellSt → CellSt) : (s.modCell c f).free = s.free := (rfl)
@[simp] theorem State.modCell_pending (s : State) (c : Nat) (f : CellSt → CellSt) : (s.modCell c f).pending = s.pending := (rfl)

/-! `State.modPub` changes `pub` alone. -/

@[simp] theorem State.modPub_boot (s : State) (n : Nat) (f : PubStream → PubStream) : (s.modPub n f).boot = s.boot := (rfl)
@[simp] theorem State.modPub_img (s : State) (n : Nat) (f : PubStream → PubStream) : (s.modPub n f).img = s.img := (rfl)
@[simp] theorem State.modPub_flash (s : State) (n : Nat) (f : PubStream → PubStream) : (s.modPub n f).flash = s.flash := (rfl)
@[simp] theorem State.modPub_ctrs (s : State) (n : Nat) (f : PubStream → PubStream) : (s.modPub n f).ctrs = s.ctrs := (rfl)
@[simp] theorem State.modPub_ctrsAt (s : State) (n : Nat) (f : PubStream → PubStream) : (s.modPub n f).ctrsAt = s.ctrsAt := (rfl)
@[simp] theorem State.modPub_attn (s : State) (n : Nat) (f : PubStream → PubStream) : (s.modPub n f).attn = s.attn := (rfl)
@[simp] theorem State.modPub_partnerLog (s : State) (n : Nat) (f : PubStream → PubStream) : (s.modPub n f).partnerLog = s.partnerLog := (rfl)
@[simp] theorem State.modPub_bbx (s : State) (n : Nat) (f : PubStream → PubStream) : (s.modPub n f).bbx = s.bbx := (rfl)
@[simp] theorem State.modPub_sens (s : State) (n : Nat) (f : PubStream → PubStream) : (s.modPub n f).sens = s.sens := (rfl)
@[simp] theorem State.modPub_panel (s : State) (n : Nat) (f : PubStream → PubStream) : (s.modPub n f).panel = s.panel := (rfl)
@[simp] theorem State.modPub_ports (s : State) (n : Nat) (f : PubStream → PubStream) : (s.modPub n f).ports = s.ports := (rfl)
@[simp] theorem State.modPub_cages (s : State) (n : Nat) (f : PubStream → PubStream) : (s.modPub n f).cages = s.cages := (rfl)
@[simp] theorem State.modPub_tcp (s : State) (n : Nat) (f : PubStream → PubStream) : (s.modPub n f).tcp = s.tcp := (rfl)
@[simp] theorem State.modPub_streams (s : State) (n : Nat) (f : PubStream → PubStream) : (s.modPub n f).streams = s.streams := (rfl)
@[simp] theorem State.modPub_time (s : State) (n : Nat) (f : PubStream → PubStream) : (s.modPub n f).time = s.time := (rfl)
@[simp] theorem State.modPub_align (s : State) (n : Nat) (f : PubStream → PubStream) : (s.modPub n f).align = s.align := (rfl)
@[simp] theorem State.modPub_swage (s : State) (n : Nat) (f : PubStream → PubStream) : (s.modPub n f).swage = s.swage := (rfl)
@[simp] theorem State.modPub_osc (s : State) (n : Nat) (f : PubStream → PubStream) : (s.modPub n f).osc = s.osc := (rfl)
@[simp] theorem State.modPub_isl (s : State) (n : Nat) (f : PubStream → PubStream) : (s.modPub n f).isl = s.isl := (rfl)
@[simp] theorem State.modPub_sch (s : State) (n : Nat) (f : PubStream → PubStream) : (s.modPub n f).sch = s.sch := (rfl)
@[simp] theorem State.modPub_logic (s : State) (n : Nat) (f : PubStream → PubStream) : (s.modPub n f).logic = s.logic := (rfl)
@[simp] theorem State.modPub_cap (s : State) (n : Nat) (f : PubStream → PubStream) : (s.modPub n f).cap = s.cap := (rfl)
@[simp] theorem State.modPub_pub (s : State) (n : Nat) (f : PubStream → PubStream) : (s.modPub n f).pub = { s.pub with streams := modAt s.pub.streams n f } := (rfl)
@[simp] theorem State.modPub_pair (s : State) (n : Nat) (f : PubStream → PubStream) : (s.modPub n f).pair = s.pair := (rfl)
@[simp] theorem State.modPub_otp (s : State) (n : Nat) (f : PubStream → PubStream) : (s.modPub n f).otp = s.otp := (rfl)
@[simp] theorem State.modPub_vault (s : State) (n : Nat) (f : PubStream → PubStream) : (s.modPub n f).vault = s.vault := (rfl)
@[simp] theorem State.modPub_emp (s : State) (n : Nat) (f : PubStream → PubStream) : (s.modPub n f).emp = s.emp := (rfl)
@[simp] theorem State.modPub_tap (s : State) (n : Nat) (f : PubStream → PubStream) : (s.modPub n f).tap = s.tap := (rfl)
@[simp] theorem State.modPub_ext (s : State) (n : Nat) (f : PubStream → PubStream) : (s.modPub n f).ext = s.ext := (rfl)
@[simp] theorem State.modPub_served (s : State) (n : Nat) (f : PubStream → PubStream) : (s.modPub n f).served = s.served := (rfl)
@[simp] theorem State.modPub_free (s : State) (n : Nat) (f : PubStream → PubStream) : (s.modPub n f).free = s.free := (rfl)
@[simp] theorem State.modPub_pending (s : State) (n : Nat) (f : PubStream → PubStream) : (s.modPub n f).pending = s.pending := (rfl)

/-! `State.modDo` changes `logic` alone. -/

@[simp] theorem State.modDo_boot (s : State) (d : Nat) (f : DoSt → DoSt) : (s.modDo d f).boot = s.boot := (rfl)
@[simp] theorem State.modDo_img (s : State) (d : Nat) (f : DoSt → DoSt) : (s.modDo d f).img = s.img := (rfl)
@[simp] theorem State.modDo_flash (s : State) (d : Nat) (f : DoSt → DoSt) : (s.modDo d f).flash = s.flash := (rfl)
@[simp] theorem State.modDo_ctrs (s : State) (d : Nat) (f : DoSt → DoSt) : (s.modDo d f).ctrs = s.ctrs := (rfl)
@[simp] theorem State.modDo_ctrsAt (s : State) (d : Nat) (f : DoSt → DoSt) : (s.modDo d f).ctrsAt = s.ctrsAt := (rfl)
@[simp] theorem State.modDo_attn (s : State) (d : Nat) (f : DoSt → DoSt) : (s.modDo d f).attn = s.attn := (rfl)
@[simp] theorem State.modDo_partnerLog (s : State) (d : Nat) (f : DoSt → DoSt) : (s.modDo d f).partnerLog = s.partnerLog := (rfl)
@[simp] theorem State.modDo_bbx (s : State) (d : Nat) (f : DoSt → DoSt) : (s.modDo d f).bbx = s.bbx := (rfl)
@[simp] theorem State.modDo_sens (s : State) (d : Nat) (f : DoSt → DoSt) : (s.modDo d f).sens = s.sens := (rfl)
@[simp] theorem State.modDo_panel (s : State) (d : Nat) (f : DoSt → DoSt) : (s.modDo d f).panel = s.panel := (rfl)
@[simp] theorem State.modDo_ports (s : State) (d : Nat) (f : DoSt → DoSt) : (s.modDo d f).ports = s.ports := (rfl)
@[simp] theorem State.modDo_cages (s : State) (d : Nat) (f : DoSt → DoSt) : (s.modDo d f).cages = s.cages := (rfl)
@[simp] theorem State.modDo_tcp (s : State) (d : Nat) (f : DoSt → DoSt) : (s.modDo d f).tcp = s.tcp := (rfl)
@[simp] theorem State.modDo_streams (s : State) (d : Nat) (f : DoSt → DoSt) : (s.modDo d f).streams = s.streams := (rfl)
@[simp] theorem State.modDo_time (s : State) (d : Nat) (f : DoSt → DoSt) : (s.modDo d f).time = s.time := (rfl)
@[simp] theorem State.modDo_align (s : State) (d : Nat) (f : DoSt → DoSt) : (s.modDo d f).align = s.align := (rfl)
@[simp] theorem State.modDo_swage (s : State) (d : Nat) (f : DoSt → DoSt) : (s.modDo d f).swage = s.swage := (rfl)
@[simp] theorem State.modDo_osc (s : State) (d : Nat) (f : DoSt → DoSt) : (s.modDo d f).osc = s.osc := (rfl)
@[simp] theorem State.modDo_isl (s : State) (d : Nat) (f : DoSt → DoSt) : (s.modDo d f).isl = s.isl := (rfl)
@[simp] theorem State.modDo_sch (s : State) (d : Nat) (f : DoSt → DoSt) : (s.modDo d f).sch = s.sch := (rfl)
@[simp] theorem State.modDo_logic (s : State) (d : Nat) (f : DoSt → DoSt) : (s.modDo d f).logic = { s.logic with dos := modAt s.logic.dos d f } := (rfl)
@[simp] theorem State.modDo_cap (s : State) (d : Nat) (f : DoSt → DoSt) : (s.modDo d f).cap = s.cap := (rfl)
@[simp] theorem State.modDo_pub (s : State) (d : Nat) (f : DoSt → DoSt) : (s.modDo d f).pub = s.pub := (rfl)
@[simp] theorem State.modDo_pair (s : State) (d : Nat) (f : DoSt → DoSt) : (s.modDo d f).pair = s.pair := (rfl)
@[simp] theorem State.modDo_otp (s : State) (d : Nat) (f : DoSt → DoSt) : (s.modDo d f).otp = s.otp := (rfl)
@[simp] theorem State.modDo_vault (s : State) (d : Nat) (f : DoSt → DoSt) : (s.modDo d f).vault = s.vault := (rfl)
@[simp] theorem State.modDo_emp (s : State) (d : Nat) (f : DoSt → DoSt) : (s.modDo d f).emp = s.emp := (rfl)
@[simp] theorem State.modDo_tap (s : State) (d : Nat) (f : DoSt → DoSt) : (s.modDo d f).tap = s.tap := (rfl)
@[simp] theorem State.modDo_ext (s : State) (d : Nat) (f : DoSt → DoSt) : (s.modDo d f).ext = s.ext := (rfl)
@[simp] theorem State.modDo_served (s : State) (d : Nat) (f : DoSt → DoSt) : (s.modDo d f).served = s.served := (rfl)
@[simp] theorem State.modDo_free (s : State) (d : Nat) (f : DoSt → DoSt) : (s.modDo d f).free = s.free := (rfl)
@[simp] theorem State.modDo_pending (s : State) (d : Nat) (f : DoSt → DoSt) : (s.modDo d f).pending = s.pending := (rfl)

/-! `State.modCap` changes `cap` alone. -/

@[simp] theorem State.modCap_boot (s : State) (c : Nat) (f : CapCls → CapCls) : (s.modCap c f).boot = s.boot := (rfl)
@[simp] theorem State.modCap_img (s : State) (c : Nat) (f : CapCls → CapCls) : (s.modCap c f).img = s.img := (rfl)
@[simp] theorem State.modCap_flash (s : State) (c : Nat) (f : CapCls → CapCls) : (s.modCap c f).flash = s.flash := (rfl)
@[simp] theorem State.modCap_ctrs (s : State) (c : Nat) (f : CapCls → CapCls) : (s.modCap c f).ctrs = s.ctrs := (rfl)
@[simp] theorem State.modCap_ctrsAt (s : State) (c : Nat) (f : CapCls → CapCls) : (s.modCap c f).ctrsAt = s.ctrsAt := (rfl)
@[simp] theorem State.modCap_attn (s : State) (c : Nat) (f : CapCls → CapCls) : (s.modCap c f).attn = s.attn := (rfl)
@[simp] theorem State.modCap_partnerLog (s : State) (c : Nat) (f : CapCls → CapCls) : (s.modCap c f).partnerLog = s.partnerLog := (rfl)
@[simp] theorem State.modCap_bbx (s : State) (c : Nat) (f : CapCls → CapCls) : (s.modCap c f).bbx = s.bbx := (rfl)
@[simp] theorem State.modCap_sens (s : State) (c : Nat) (f : CapCls → CapCls) : (s.modCap c f).sens = s.sens := (rfl)
@[simp] theorem State.modCap_panel (s : State) (c : Nat) (f : CapCls → CapCls) : (s.modCap c f).panel = s.panel := (rfl)
@[simp] theorem State.modCap_ports (s : State) (c : Nat) (f : CapCls → CapCls) : (s.modCap c f).ports = s.ports := (rfl)
@[simp] theorem State.modCap_cages (s : State) (c : Nat) (f : CapCls → CapCls) : (s.modCap c f).cages = s.cages := (rfl)
@[simp] theorem State.modCap_tcp (s : State) (c : Nat) (f : CapCls → CapCls) : (s.modCap c f).tcp = s.tcp := (rfl)
@[simp] theorem State.modCap_streams (s : State) (c : Nat) (f : CapCls → CapCls) : (s.modCap c f).streams = s.streams := (rfl)
@[simp] theorem State.modCap_time (s : State) (c : Nat) (f : CapCls → CapCls) : (s.modCap c f).time = s.time := (rfl)
@[simp] theorem State.modCap_align (s : State) (c : Nat) (f : CapCls → CapCls) : (s.modCap c f).align = s.align := (rfl)
@[simp] theorem State.modCap_swage (s : State) (c : Nat) (f : CapCls → CapCls) : (s.modCap c f).swage = s.swage := (rfl)
@[simp] theorem State.modCap_osc (s : State) (c : Nat) (f : CapCls → CapCls) : (s.modCap c f).osc = s.osc := (rfl)
@[simp] theorem State.modCap_isl (s : State) (c : Nat) (f : CapCls → CapCls) : (s.modCap c f).isl = s.isl := (rfl)
@[simp] theorem State.modCap_sch (s : State) (c : Nat) (f : CapCls → CapCls) : (s.modCap c f).sch = s.sch := (rfl)
@[simp] theorem State.modCap_logic (s : State) (c : Nat) (f : CapCls → CapCls) : (s.modCap c f).logic = s.logic := (rfl)
@[simp] theorem State.modCap_cap (s : State) (c : Nat) (f : CapCls → CapCls) : (s.modCap c f).cap = { s.cap with classes := modAt s.cap.classes c f } := (rfl)
@[simp] theorem State.modCap_pub (s : State) (c : Nat) (f : CapCls → CapCls) : (s.modCap c f).pub = s.pub := (rfl)
@[simp] theorem State.modCap_pair (s : State) (c : Nat) (f : CapCls → CapCls) : (s.modCap c f).pair = s.pair := (rfl)
@[simp] theorem State.modCap_otp (s : State) (c : Nat) (f : CapCls → CapCls) : (s.modCap c f).otp = s.otp := (rfl)
@[simp] theorem State.modCap_vault (s : State) (c : Nat) (f : CapCls → CapCls) : (s.modCap c f).vault = s.vault := (rfl)
@[simp] theorem State.modCap_emp (s : State) (c : Nat) (f : CapCls → CapCls) : (s.modCap c f).emp = s.emp := (rfl)
@[simp] theorem State.modCap_tap (s : State) (c : Nat) (f : CapCls → CapCls) : (s.modCap c f).tap = s.tap := (rfl)
@[simp] theorem State.modCap_ext (s : State) (c : Nat) (f : CapCls → CapCls) : (s.modCap c f).ext = s.ext := (rfl)
@[simp] theorem State.modCap_served (s : State) (c : Nat) (f : CapCls → CapCls) : (s.modCap c f).served = s.served := (rfl)
@[simp] theorem State.modCap_free (s : State) (c : Nat) (f : CapCls → CapCls) : (s.modCap c f).free = s.free := (rfl)
@[simp] theorem State.modCap_pending (s : State) (c : Nat) (f : CapCls → CapCls) : (s.modCap c f).pending = s.pending := (rfl)

/-! `State.modRec` changes `cap` alone. -/

@[simp] theorem State.modRec_boot (s : State) (q : Nat) (f : CapRec → CapRec) : (s.modRec q f).boot = s.boot := (rfl)
@[simp] theorem State.modRec_img (s : State) (q : Nat) (f : CapRec → CapRec) : (s.modRec q f).img = s.img := (rfl)
@[simp] theorem State.modRec_flash (s : State) (q : Nat) (f : CapRec → CapRec) : (s.modRec q f).flash = s.flash := (rfl)
@[simp] theorem State.modRec_ctrs (s : State) (q : Nat) (f : CapRec → CapRec) : (s.modRec q f).ctrs = s.ctrs := (rfl)
@[simp] theorem State.modRec_ctrsAt (s : State) (q : Nat) (f : CapRec → CapRec) : (s.modRec q f).ctrsAt = s.ctrsAt := (rfl)
@[simp] theorem State.modRec_attn (s : State) (q : Nat) (f : CapRec → CapRec) : (s.modRec q f).attn = s.attn := (rfl)
@[simp] theorem State.modRec_partnerLog (s : State) (q : Nat) (f : CapRec → CapRec) : (s.modRec q f).partnerLog = s.partnerLog := (rfl)
@[simp] theorem State.modRec_bbx (s : State) (q : Nat) (f : CapRec → CapRec) : (s.modRec q f).bbx = s.bbx := (rfl)
@[simp] theorem State.modRec_sens (s : State) (q : Nat) (f : CapRec → CapRec) : (s.modRec q f).sens = s.sens := (rfl)
@[simp] theorem State.modRec_panel (s : State) (q : Nat) (f : CapRec → CapRec) : (s.modRec q f).panel = s.panel := (rfl)
@[simp] theorem State.modRec_ports (s : State) (q : Nat) (f : CapRec → CapRec) : (s.modRec q f).ports = s.ports := (rfl)
@[simp] theorem State.modRec_cages (s : State) (q : Nat) (f : CapRec → CapRec) : (s.modRec q f).cages = s.cages := (rfl)
@[simp] theorem State.modRec_tcp (s : State) (q : Nat) (f : CapRec → CapRec) : (s.modRec q f).tcp = s.tcp := (rfl)
@[simp] theorem State.modRec_streams (s : State) (q : Nat) (f : CapRec → CapRec) : (s.modRec q f).streams = s.streams := (rfl)
@[simp] theorem State.modRec_time (s : State) (q : Nat) (f : CapRec → CapRec) : (s.modRec q f).time = s.time := (rfl)
@[simp] theorem State.modRec_align (s : State) (q : Nat) (f : CapRec → CapRec) : (s.modRec q f).align = s.align := (rfl)
@[simp] theorem State.modRec_swage (s : State) (q : Nat) (f : CapRec → CapRec) : (s.modRec q f).swage = s.swage := (rfl)
@[simp] theorem State.modRec_osc (s : State) (q : Nat) (f : CapRec → CapRec) : (s.modRec q f).osc = s.osc := (rfl)
@[simp] theorem State.modRec_isl (s : State) (q : Nat) (f : CapRec → CapRec) : (s.modRec q f).isl = s.isl := (rfl)
@[simp] theorem State.modRec_sch (s : State) (q : Nat) (f : CapRec → CapRec) : (s.modRec q f).sch = s.sch := (rfl)
@[simp] theorem State.modRec_logic (s : State) (q : Nat) (f : CapRec → CapRec) : (s.modRec q f).logic = s.logic := (rfl)
@[simp] theorem State.modRec_cap (s : State) (q : Nat) (f : CapRec → CapRec) : (s.modRec q f).cap = { s.cap with recs := s.cap.recs.map (fun x => if x.seq = q then f x else x) } := (rfl)
@[simp] theorem State.modRec_pub (s : State) (q : Nat) (f : CapRec → CapRec) : (s.modRec q f).pub = s.pub := (rfl)
@[simp] theorem State.modRec_pair (s : State) (q : Nat) (f : CapRec → CapRec) : (s.modRec q f).pair = s.pair := (rfl)
@[simp] theorem State.modRec_otp (s : State) (q : Nat) (f : CapRec → CapRec) : (s.modRec q f).otp = s.otp := (rfl)
@[simp] theorem State.modRec_vault (s : State) (q : Nat) (f : CapRec → CapRec) : (s.modRec q f).vault = s.vault := (rfl)
@[simp] theorem State.modRec_emp (s : State) (q : Nat) (f : CapRec → CapRec) : (s.modRec q f).emp = s.emp := (rfl)
@[simp] theorem State.modRec_tap (s : State) (q : Nat) (f : CapRec → CapRec) : (s.modRec q f).tap = s.tap := (rfl)
@[simp] theorem State.modRec_ext (s : State) (q : Nat) (f : CapRec → CapRec) : (s.modRec q f).ext = s.ext := (rfl)
@[simp] theorem State.modRec_served (s : State) (q : Nat) (f : CapRec → CapRec) : (s.modRec q f).served = s.served := (rfl)
@[simp] theorem State.modRec_free (s : State) (q : Nat) (f : CapRec → CapRec) : (s.modRec q f).free = s.free := (rfl)
@[simp] theorem State.modRec_pending (s : State) (q : Nat) (f : CapRec → CapRec) : (s.modRec q f).pending = s.pending := (rfl)

/-! `State.modPair` changes `pair` alone. -/

@[simp] theorem State.modPair_boot (s : State) (f : PairSt → PairSt) : (s.modPair f).boot = s.boot := (rfl)
@[simp] theorem State.modPair_img (s : State) (f : PairSt → PairSt) : (s.modPair f).img = s.img := (rfl)
@[simp] theorem State.modPair_flash (s : State) (f : PairSt → PairSt) : (s.modPair f).flash = s.flash := (rfl)
@[simp] theorem State.modPair_ctrs (s : State) (f : PairSt → PairSt) : (s.modPair f).ctrs = s.ctrs := (rfl)
@[simp] theorem State.modPair_ctrsAt (s : State) (f : PairSt → PairSt) : (s.modPair f).ctrsAt = s.ctrsAt := (rfl)
@[simp] theorem State.modPair_attn (s : State) (f : PairSt → PairSt) : (s.modPair f).attn = s.attn := (rfl)
@[simp] theorem State.modPair_partnerLog (s : State) (f : PairSt → PairSt) : (s.modPair f).partnerLog = s.partnerLog := (rfl)
@[simp] theorem State.modPair_bbx (s : State) (f : PairSt → PairSt) : (s.modPair f).bbx = s.bbx := (rfl)
@[simp] theorem State.modPair_sens (s : State) (f : PairSt → PairSt) : (s.modPair f).sens = s.sens := (rfl)
@[simp] theorem State.modPair_panel (s : State) (f : PairSt → PairSt) : (s.modPair f).panel = s.panel := (rfl)
@[simp] theorem State.modPair_ports (s : State) (f : PairSt → PairSt) : (s.modPair f).ports = s.ports := (rfl)
@[simp] theorem State.modPair_cages (s : State) (f : PairSt → PairSt) : (s.modPair f).cages = s.cages := (rfl)
@[simp] theorem State.modPair_tcp (s : State) (f : PairSt → PairSt) : (s.modPair f).tcp = s.tcp := (rfl)
@[simp] theorem State.modPair_streams (s : State) (f : PairSt → PairSt) : (s.modPair f).streams = s.streams := (rfl)
@[simp] theorem State.modPair_time (s : State) (f : PairSt → PairSt) : (s.modPair f).time = s.time := (rfl)
@[simp] theorem State.modPair_align (s : State) (f : PairSt → PairSt) : (s.modPair f).align = s.align := (rfl)
@[simp] theorem State.modPair_swage (s : State) (f : PairSt → PairSt) : (s.modPair f).swage = s.swage := (rfl)
@[simp] theorem State.modPair_osc (s : State) (f : PairSt → PairSt) : (s.modPair f).osc = s.osc := (rfl)
@[simp] theorem State.modPair_isl (s : State) (f : PairSt → PairSt) : (s.modPair f).isl = s.isl := (rfl)
@[simp] theorem State.modPair_sch (s : State) (f : PairSt → PairSt) : (s.modPair f).sch = s.sch := (rfl)
@[simp] theorem State.modPair_logic (s : State) (f : PairSt → PairSt) : (s.modPair f).logic = s.logic := (rfl)
@[simp] theorem State.modPair_cap (s : State) (f : PairSt → PairSt) : (s.modPair f).cap = s.cap := (rfl)
@[simp] theorem State.modPair_pub (s : State) (f : PairSt → PairSt) : (s.modPair f).pub = s.pub := (rfl)
@[simp] theorem State.modPair_pair (s : State) (f : PairSt → PairSt) : (s.modPair f).pair = f s.pair := (rfl)
@[simp] theorem State.modPair_otp (s : State) (f : PairSt → PairSt) : (s.modPair f).otp = s.otp := (rfl)
@[simp] theorem State.modPair_vault (s : State) (f : PairSt → PairSt) : (s.modPair f).vault = s.vault := (rfl)
@[simp] theorem State.modPair_emp (s : State) (f : PairSt → PairSt) : (s.modPair f).emp = s.emp := (rfl)
@[simp] theorem State.modPair_tap (s : State) (f : PairSt → PairSt) : (s.modPair f).tap = s.tap := (rfl)
@[simp] theorem State.modPair_ext (s : State) (f : PairSt → PairSt) : (s.modPair f).ext = s.ext := (rfl)
@[simp] theorem State.modPair_served (s : State) (f : PairSt → PairSt) : (s.modPair f).served = s.served := (rfl)
@[simp] theorem State.modPair_free (s : State) (f : PairSt → PairSt) : (s.modPair f).free = s.free := (rfl)
@[simp] theorem State.modPair_pending (s : State) (f : PairSt → PairSt) : (s.modPair f).pending = s.pending := (rfl)

/-! `State.modConn` changes `tcp` alone. -/

@[simp] theorem State.modConn_boot (s : State) (i : Nat) (f : TcpConn → TcpConn) : (s.modConn i f).boot = s.boot := (rfl)
@[simp] theorem State.modConn_img (s : State) (i : Nat) (f : TcpConn → TcpConn) : (s.modConn i f).img = s.img := (rfl)
@[simp] theorem State.modConn_flash (s : State) (i : Nat) (f : TcpConn → TcpConn) : (s.modConn i f).flash = s.flash := (rfl)
@[simp] theorem State.modConn_ctrs (s : State) (i : Nat) (f : TcpConn → TcpConn) : (s.modConn i f).ctrs = s.ctrs := (rfl)
@[simp] theorem State.modConn_ctrsAt (s : State) (i : Nat) (f : TcpConn → TcpConn) : (s.modConn i f).ctrsAt = s.ctrsAt := (rfl)
@[simp] theorem State.modConn_attn (s : State) (i : Nat) (f : TcpConn → TcpConn) : (s.modConn i f).attn = s.attn := (rfl)
@[simp] theorem State.modConn_partnerLog (s : State) (i : Nat) (f : TcpConn → TcpConn) : (s.modConn i f).partnerLog = s.partnerLog := (rfl)
@[simp] theorem State.modConn_bbx (s : State) (i : Nat) (f : TcpConn → TcpConn) : (s.modConn i f).bbx = s.bbx := (rfl)
@[simp] theorem State.modConn_sens (s : State) (i : Nat) (f : TcpConn → TcpConn) : (s.modConn i f).sens = s.sens := (rfl)
@[simp] theorem State.modConn_panel (s : State) (i : Nat) (f : TcpConn → TcpConn) : (s.modConn i f).panel = s.panel := (rfl)
@[simp] theorem State.modConn_ports (s : State) (i : Nat) (f : TcpConn → TcpConn) : (s.modConn i f).ports = s.ports := (rfl)
@[simp] theorem State.modConn_cages (s : State) (i : Nat) (f : TcpConn → TcpConn) : (s.modConn i f).cages = s.cages := (rfl)
@[simp] theorem State.modConn_tcp (s : State) (i : Nat) (f : TcpConn → TcpConn) : (s.modConn i f).tcp = amod s.tcp i TcpConn.reset f := (rfl)
@[simp] theorem State.modConn_streams (s : State) (i : Nat) (f : TcpConn → TcpConn) : (s.modConn i f).streams = s.streams := (rfl)
@[simp] theorem State.modConn_time (s : State) (i : Nat) (f : TcpConn → TcpConn) : (s.modConn i f).time = s.time := (rfl)
@[simp] theorem State.modConn_align (s : State) (i : Nat) (f : TcpConn → TcpConn) : (s.modConn i f).align = s.align := (rfl)
@[simp] theorem State.modConn_swage (s : State) (i : Nat) (f : TcpConn → TcpConn) : (s.modConn i f).swage = s.swage := (rfl)
@[simp] theorem State.modConn_osc (s : State) (i : Nat) (f : TcpConn → TcpConn) : (s.modConn i f).osc = s.osc := (rfl)
@[simp] theorem State.modConn_isl (s : State) (i : Nat) (f : TcpConn → TcpConn) : (s.modConn i f).isl = s.isl := (rfl)
@[simp] theorem State.modConn_sch (s : State) (i : Nat) (f : TcpConn → TcpConn) : (s.modConn i f).sch = s.sch := (rfl)
@[simp] theorem State.modConn_logic (s : State) (i : Nat) (f : TcpConn → TcpConn) : (s.modConn i f).logic = s.logic := (rfl)
@[simp] theorem State.modConn_cap (s : State) (i : Nat) (f : TcpConn → TcpConn) : (s.modConn i f).cap = s.cap := (rfl)
@[simp] theorem State.modConn_pub (s : State) (i : Nat) (f : TcpConn → TcpConn) : (s.modConn i f).pub = s.pub := (rfl)
@[simp] theorem State.modConn_pair (s : State) (i : Nat) (f : TcpConn → TcpConn) : (s.modConn i f).pair = s.pair := (rfl)
@[simp] theorem State.modConn_otp (s : State) (i : Nat) (f : TcpConn → TcpConn) : (s.modConn i f).otp = s.otp := (rfl)
@[simp] theorem State.modConn_vault (s : State) (i : Nat) (f : TcpConn → TcpConn) : (s.modConn i f).vault = s.vault := (rfl)
@[simp] theorem State.modConn_emp (s : State) (i : Nat) (f : TcpConn → TcpConn) : (s.modConn i f).emp = s.emp := (rfl)
@[simp] theorem State.modConn_tap (s : State) (i : Nat) (f : TcpConn → TcpConn) : (s.modConn i f).tap = s.tap := (rfl)
@[simp] theorem State.modConn_ext (s : State) (i : Nat) (f : TcpConn → TcpConn) : (s.modConn i f).ext = s.ext := (rfl)
@[simp] theorem State.modConn_served (s : State) (i : Nat) (f : TcpConn → TcpConn) : (s.modConn i f).served = s.served := (rfl)
@[simp] theorem State.modConn_free (s : State) (i : Nat) (f : TcpConn → TcpConn) : (s.modConn i f).free = s.free := (rfl)
@[simp] theorem State.modConn_pending (s : State) (i : Nat) (f : TcpConn → TcpConn) : (s.modConn i f).pending = s.pending := (rfl)

/-! `State.modPtp` changes `time` alone. -/

@[simp] theorem State.modPtp_boot (s : State) (i : Nat) (f : PtpSt → PtpSt) : (s.modPtp i f).boot = s.boot := (rfl)
@[simp] theorem State.modPtp_img (s : State) (i : Nat) (f : PtpSt → PtpSt) : (s.modPtp i f).img = s.img := (rfl)
@[simp] theorem State.modPtp_flash (s : State) (i : Nat) (f : PtpSt → PtpSt) : (s.modPtp i f).flash = s.flash := (rfl)
@[simp] theorem State.modPtp_ctrs (s : State) (i : Nat) (f : PtpSt → PtpSt) : (s.modPtp i f).ctrs = s.ctrs := (rfl)
@[simp] theorem State.modPtp_ctrsAt (s : State) (i : Nat) (f : PtpSt → PtpSt) : (s.modPtp i f).ctrsAt = s.ctrsAt := (rfl)
@[simp] theorem State.modPtp_attn (s : State) (i : Nat) (f : PtpSt → PtpSt) : (s.modPtp i f).attn = s.attn := (rfl)
@[simp] theorem State.modPtp_partnerLog (s : State) (i : Nat) (f : PtpSt → PtpSt) : (s.modPtp i f).partnerLog = s.partnerLog := (rfl)
@[simp] theorem State.modPtp_bbx (s : State) (i : Nat) (f : PtpSt → PtpSt) : (s.modPtp i f).bbx = s.bbx := (rfl)
@[simp] theorem State.modPtp_sens (s : State) (i : Nat) (f : PtpSt → PtpSt) : (s.modPtp i f).sens = s.sens := (rfl)
@[simp] theorem State.modPtp_panel (s : State) (i : Nat) (f : PtpSt → PtpSt) : (s.modPtp i f).panel = s.panel := (rfl)
@[simp] theorem State.modPtp_ports (s : State) (i : Nat) (f : PtpSt → PtpSt) : (s.modPtp i f).ports = s.ports := (rfl)
@[simp] theorem State.modPtp_cages (s : State) (i : Nat) (f : PtpSt → PtpSt) : (s.modPtp i f).cages = s.cages := (rfl)
@[simp] theorem State.modPtp_tcp (s : State) (i : Nat) (f : PtpSt → PtpSt) : (s.modPtp i f).tcp = s.tcp := (rfl)
@[simp] theorem State.modPtp_streams (s : State) (i : Nat) (f : PtpSt → PtpSt) : (s.modPtp i f).streams = s.streams := (rfl)
@[simp] theorem State.modPtp_time (s : State) (i : Nat) (f : PtpSt → PtpSt) : (s.modPtp i f).time = { s.time with ptp := modAt s.time.ptp i f } := (rfl)
@[simp] theorem State.modPtp_align (s : State) (i : Nat) (f : PtpSt → PtpSt) : (s.modPtp i f).align = s.align := (rfl)
@[simp] theorem State.modPtp_swage (s : State) (i : Nat) (f : PtpSt → PtpSt) : (s.modPtp i f).swage = s.swage := (rfl)
@[simp] theorem State.modPtp_osc (s : State) (i : Nat) (f : PtpSt → PtpSt) : (s.modPtp i f).osc = s.osc := (rfl)
@[simp] theorem State.modPtp_isl (s : State) (i : Nat) (f : PtpSt → PtpSt) : (s.modPtp i f).isl = s.isl := (rfl)
@[simp] theorem State.modPtp_sch (s : State) (i : Nat) (f : PtpSt → PtpSt) : (s.modPtp i f).sch = s.sch := (rfl)
@[simp] theorem State.modPtp_logic (s : State) (i : Nat) (f : PtpSt → PtpSt) : (s.modPtp i f).logic = s.logic := (rfl)
@[simp] theorem State.modPtp_cap (s : State) (i : Nat) (f : PtpSt → PtpSt) : (s.modPtp i f).cap = s.cap := (rfl)
@[simp] theorem State.modPtp_pub (s : State) (i : Nat) (f : PtpSt → PtpSt) : (s.modPtp i f).pub = s.pub := (rfl)
@[simp] theorem State.modPtp_pair (s : State) (i : Nat) (f : PtpSt → PtpSt) : (s.modPtp i f).pair = s.pair := (rfl)
@[simp] theorem State.modPtp_otp (s : State) (i : Nat) (f : PtpSt → PtpSt) : (s.modPtp i f).otp = s.otp := (rfl)
@[simp] theorem State.modPtp_vault (s : State) (i : Nat) (f : PtpSt → PtpSt) : (s.modPtp i f).vault = s.vault := (rfl)
@[simp] theorem State.modPtp_emp (s : State) (i : Nat) (f : PtpSt → PtpSt) : (s.modPtp i f).emp = s.emp := (rfl)
@[simp] theorem State.modPtp_tap (s : State) (i : Nat) (f : PtpSt → PtpSt) : (s.modPtp i f).tap = s.tap := (rfl)
@[simp] theorem State.modPtp_ext (s : State) (i : Nat) (f : PtpSt → PtpSt) : (s.modPtp i f).ext = s.ext := (rfl)
@[simp] theorem State.modPtp_served (s : State) (i : Nat) (f : PtpSt → PtpSt) : (s.modPtp i f).served = s.served := (rfl)
@[simp] theorem State.modPtp_free (s : State) (i : Nat) (f : PtpSt → PtpSt) : (s.modPtp i f).free = s.free := (rfl)
@[simp] theorem State.modPtp_pending (s : State) (i : Nat) (f : PtpSt → PtpSt) : (s.modPtp i f).pending = s.pending := (rfl)

/-! `State.modBase` changes `time` alone. -/

@[simp] theorem State.modBase_boot (s : State) (b : Nat) (f : BaseSt → BaseSt) : (s.modBase b f).boot = s.boot := (rfl)
@[simp] theorem State.modBase_img (s : State) (b : Nat) (f : BaseSt → BaseSt) : (s.modBase b f).img = s.img := (rfl)
@[simp] theorem State.modBase_flash (s : State) (b : Nat) (f : BaseSt → BaseSt) : (s.modBase b f).flash = s.flash := (rfl)
@[simp] theorem State.modBase_ctrs (s : State) (b : Nat) (f : BaseSt → BaseSt) : (s.modBase b f).ctrs = s.ctrs := (rfl)
@[simp] theorem State.modBase_ctrsAt (s : State) (b : Nat) (f : BaseSt → BaseSt) : (s.modBase b f).ctrsAt = s.ctrsAt := (rfl)
@[simp] theorem State.modBase_attn (s : State) (b : Nat) (f : BaseSt → BaseSt) : (s.modBase b f).attn = s.attn := (rfl)
@[simp] theorem State.modBase_partnerLog (s : State) (b : Nat) (f : BaseSt → BaseSt) : (s.modBase b f).partnerLog = s.partnerLog := (rfl)
@[simp] theorem State.modBase_bbx (s : State) (b : Nat) (f : BaseSt → BaseSt) : (s.modBase b f).bbx = s.bbx := (rfl)
@[simp] theorem State.modBase_sens (s : State) (b : Nat) (f : BaseSt → BaseSt) : (s.modBase b f).sens = s.sens := (rfl)
@[simp] theorem State.modBase_panel (s : State) (b : Nat) (f : BaseSt → BaseSt) : (s.modBase b f).panel = s.panel := (rfl)
@[simp] theorem State.modBase_ports (s : State) (b : Nat) (f : BaseSt → BaseSt) : (s.modBase b f).ports = s.ports := (rfl)
@[simp] theorem State.modBase_cages (s : State) (b : Nat) (f : BaseSt → BaseSt) : (s.modBase b f).cages = s.cages := (rfl)
@[simp] theorem State.modBase_tcp (s : State) (b : Nat) (f : BaseSt → BaseSt) : (s.modBase b f).tcp = s.tcp := (rfl)
@[simp] theorem State.modBase_streams (s : State) (b : Nat) (f : BaseSt → BaseSt) : (s.modBase b f).streams = s.streams := (rfl)
@[simp] theorem State.modBase_time (s : State) (b : Nat) (f : BaseSt → BaseSt) : (s.modBase b f).time = { s.time with bases := modAt s.time.bases b f } := (rfl)
@[simp] theorem State.modBase_align (s : State) (b : Nat) (f : BaseSt → BaseSt) : (s.modBase b f).align = s.align := (rfl)
@[simp] theorem State.modBase_swage (s : State) (b : Nat) (f : BaseSt → BaseSt) : (s.modBase b f).swage = s.swage := (rfl)
@[simp] theorem State.modBase_osc (s : State) (b : Nat) (f : BaseSt → BaseSt) : (s.modBase b f).osc = s.osc := (rfl)
@[simp] theorem State.modBase_isl (s : State) (b : Nat) (f : BaseSt → BaseSt) : (s.modBase b f).isl = s.isl := (rfl)
@[simp] theorem State.modBase_sch (s : State) (b : Nat) (f : BaseSt → BaseSt) : (s.modBase b f).sch = s.sch := (rfl)
@[simp] theorem State.modBase_logic (s : State) (b : Nat) (f : BaseSt → BaseSt) : (s.modBase b f).logic = s.logic := (rfl)
@[simp] theorem State.modBase_cap (s : State) (b : Nat) (f : BaseSt → BaseSt) : (s.modBase b f).cap = s.cap := (rfl)
@[simp] theorem State.modBase_pub (s : State) (b : Nat) (f : BaseSt → BaseSt) : (s.modBase b f).pub = s.pub := (rfl)
@[simp] theorem State.modBase_pair (s : State) (b : Nat) (f : BaseSt → BaseSt) : (s.modBase b f).pair = s.pair := (rfl)
@[simp] theorem State.modBase_otp (s : State) (b : Nat) (f : BaseSt → BaseSt) : (s.modBase b f).otp = s.otp := (rfl)
@[simp] theorem State.modBase_vault (s : State) (b : Nat) (f : BaseSt → BaseSt) : (s.modBase b f).vault = s.vault := (rfl)
@[simp] theorem State.modBase_emp (s : State) (b : Nat) (f : BaseSt → BaseSt) : (s.modBase b f).emp = s.emp := (rfl)
@[simp] theorem State.modBase_tap (s : State) (b : Nat) (f : BaseSt → BaseSt) : (s.modBase b f).tap = s.tap := (rfl)
@[simp] theorem State.modBase_ext (s : State) (b : Nat) (f : BaseSt → BaseSt) : (s.modBase b f).ext = s.ext := (rfl)
@[simp] theorem State.modBase_served (s : State) (b : Nat) (f : BaseSt → BaseSt) : (s.modBase b f).served = s.served := (rfl)
@[simp] theorem State.modBase_free (s : State) (b : Nat) (f : BaseSt → BaseSt) : (s.modBase b f).free = s.free := (rfl)
@[simp] theorem State.modBase_pending (s : State) (b : Nat) (f : BaseSt → BaseSt) : (s.modBase b f).pending = s.pending := (rfl)

/-! `State.modGnss` changes `time` alone. -/

@[simp] theorem State.modGnss_boot (s : State) (f : WireSrc → WireSrc) : (s.modGnss f).boot = s.boot := (rfl)
@[simp] theorem State.modGnss_img (s : State) (f : WireSrc → WireSrc) : (s.modGnss f).img = s.img := (rfl)
@[simp] theorem State.modGnss_flash (s : State) (f : WireSrc → WireSrc) : (s.modGnss f).flash = s.flash := (rfl)
@[simp] theorem State.modGnss_ctrs (s : State) (f : WireSrc → WireSrc) : (s.modGnss f).ctrs = s.ctrs := (rfl)
@[simp] theorem State.modGnss_ctrsAt (s : State) (f : WireSrc → WireSrc) : (s.modGnss f).ctrsAt = s.ctrsAt := (rfl)
@[simp] theorem State.modGnss_attn (s : State) (f : WireSrc → WireSrc) : (s.modGnss f).attn = s.attn := (rfl)
@[simp] theorem State.modGnss_partnerLog (s : State) (f : WireSrc → WireSrc) : (s.modGnss f).partnerLog = s.partnerLog := (rfl)
@[simp] theorem State.modGnss_bbx (s : State) (f : WireSrc → WireSrc) : (s.modGnss f).bbx = s.bbx := (rfl)
@[simp] theorem State.modGnss_sens (s : State) (f : WireSrc → WireSrc) : (s.modGnss f).sens = s.sens := (rfl)
@[simp] theorem State.modGnss_panel (s : State) (f : WireSrc → WireSrc) : (s.modGnss f).panel = s.panel := (rfl)
@[simp] theorem State.modGnss_ports (s : State) (f : WireSrc → WireSrc) : (s.modGnss f).ports = s.ports := (rfl)
@[simp] theorem State.modGnss_cages (s : State) (f : WireSrc → WireSrc) : (s.modGnss f).cages = s.cages := (rfl)
@[simp] theorem State.modGnss_tcp (s : State) (f : WireSrc → WireSrc) : (s.modGnss f).tcp = s.tcp := (rfl)
@[simp] theorem State.modGnss_streams (s : State) (f : WireSrc → WireSrc) : (s.modGnss f).streams = s.streams := (rfl)
@[simp] theorem State.modGnss_time (s : State) (f : WireSrc → WireSrc) : (s.modGnss f).time = { s.time with gnss := f s.time.gnss } := (rfl)
@[simp] theorem State.modGnss_align (s : State) (f : WireSrc → WireSrc) : (s.modGnss f).align = s.align := (rfl)
@[simp] theorem State.modGnss_swage (s : State) (f : WireSrc → WireSrc) : (s.modGnss f).swage = s.swage := (rfl)
@[simp] theorem State.modGnss_osc (s : State) (f : WireSrc → WireSrc) : (s.modGnss f).osc = s.osc := (rfl)
@[simp] theorem State.modGnss_isl (s : State) (f : WireSrc → WireSrc) : (s.modGnss f).isl = s.isl := (rfl)
@[simp] theorem State.modGnss_sch (s : State) (f : WireSrc → WireSrc) : (s.modGnss f).sch = s.sch := (rfl)
@[simp] theorem State.modGnss_logic (s : State) (f : WireSrc → WireSrc) : (s.modGnss f).logic = s.logic := (rfl)
@[simp] theorem State.modGnss_cap (s : State) (f : WireSrc → WireSrc) : (s.modGnss f).cap = s.cap := (rfl)
@[simp] theorem State.modGnss_pub (s : State) (f : WireSrc → WireSrc) : (s.modGnss f).pub = s.pub := (rfl)
@[simp] theorem State.modGnss_pair (s : State) (f : WireSrc → WireSrc) : (s.modGnss f).pair = s.pair := (rfl)
@[simp] theorem State.modGnss_otp (s : State) (f : WireSrc → WireSrc) : (s.modGnss f).otp = s.otp := (rfl)
@[simp] theorem State.modGnss_vault (s : State) (f : WireSrc → WireSrc) : (s.modGnss f).vault = s.vault := (rfl)
@[simp] theorem State.modGnss_emp (s : State) (f : WireSrc → WireSrc) : (s.modGnss f).emp = s.emp := (rfl)
@[simp] theorem State.modGnss_tap (s : State) (f : WireSrc → WireSrc) : (s.modGnss f).tap = s.tap := (rfl)
@[simp] theorem State.modGnss_ext (s : State) (f : WireSrc → WireSrc) : (s.modGnss f).ext = s.ext := (rfl)
@[simp] theorem State.modGnss_served (s : State) (f : WireSrc → WireSrc) : (s.modGnss f).served = s.served := (rfl)
@[simp] theorem State.modGnss_free (s : State) (f : WireSrc → WireSrc) : (s.modGnss f).free = s.free := (rfl)
@[simp] theorem State.modGnss_pending (s : State) (f : WireSrc → WireSrc) : (s.modGnss f).pending = s.pending := (rfl)

/-! `State.modCage` changes `cages` alone. -/

@[simp] theorem State.modCage_boot (s : State) (c : Nat) (f : CageSt → CageSt) : (s.modCage c f).boot = s.boot := (rfl)
@[simp] theorem State.modCage_img (s : State) (c : Nat) (f : CageSt → CageSt) : (s.modCage c f).img = s.img := (rfl)
@[simp] theorem State.modCage_flash (s : State) (c : Nat) (f : CageSt → CageSt) : (s.modCage c f).flash = s.flash := (rfl)
@[simp] theorem State.modCage_ctrs (s : State) (c : Nat) (f : CageSt → CageSt) : (s.modCage c f).ctrs = s.ctrs := (rfl)
@[simp] theorem State.modCage_ctrsAt (s : State) (c : Nat) (f : CageSt → CageSt) : (s.modCage c f).ctrsAt = s.ctrsAt := (rfl)
@[simp] theorem State.modCage_attn (s : State) (c : Nat) (f : CageSt → CageSt) : (s.modCage c f).attn = s.attn := (rfl)
@[simp] theorem State.modCage_partnerLog (s : State) (c : Nat) (f : CageSt → CageSt) : (s.modCage c f).partnerLog = s.partnerLog := (rfl)
@[simp] theorem State.modCage_bbx (s : State) (c : Nat) (f : CageSt → CageSt) : (s.modCage c f).bbx = s.bbx := (rfl)
@[simp] theorem State.modCage_sens (s : State) (c : Nat) (f : CageSt → CageSt) : (s.modCage c f).sens = s.sens := (rfl)
@[simp] theorem State.modCage_panel (s : State) (c : Nat) (f : CageSt → CageSt) : (s.modCage c f).panel = s.panel := (rfl)
@[simp] theorem State.modCage_ports (s : State) (c : Nat) (f : CageSt → CageSt) : (s.modCage c f).ports = s.ports := (rfl)
@[simp] theorem State.modCage_cages (s : State) (c : Nat) (f : CageSt → CageSt) : (s.modCage c f).cages = modAt s.cages c f := (rfl)
@[simp] theorem State.modCage_tcp (s : State) (c : Nat) (f : CageSt → CageSt) : (s.modCage c f).tcp = s.tcp := (rfl)
@[simp] theorem State.modCage_streams (s : State) (c : Nat) (f : CageSt → CageSt) : (s.modCage c f).streams = s.streams := (rfl)
@[simp] theorem State.modCage_time (s : State) (c : Nat) (f : CageSt → CageSt) : (s.modCage c f).time = s.time := (rfl)
@[simp] theorem State.modCage_align (s : State) (c : Nat) (f : CageSt → CageSt) : (s.modCage c f).align = s.align := (rfl)
@[simp] theorem State.modCage_swage (s : State) (c : Nat) (f : CageSt → CageSt) : (s.modCage c f).swage = s.swage := (rfl)
@[simp] theorem State.modCage_osc (s : State) (c : Nat) (f : CageSt → CageSt) : (s.modCage c f).osc = s.osc := (rfl)
@[simp] theorem State.modCage_isl (s : State) (c : Nat) (f : CageSt → CageSt) : (s.modCage c f).isl = s.isl := (rfl)
@[simp] theorem State.modCage_sch (s : State) (c : Nat) (f : CageSt → CageSt) : (s.modCage c f).sch = s.sch := (rfl)
@[simp] theorem State.modCage_logic (s : State) (c : Nat) (f : CageSt → CageSt) : (s.modCage c f).logic = s.logic := (rfl)
@[simp] theorem State.modCage_cap (s : State) (c : Nat) (f : CageSt → CageSt) : (s.modCage c f).cap = s.cap := (rfl)
@[simp] theorem State.modCage_pub (s : State) (c : Nat) (f : CageSt → CageSt) : (s.modCage c f).pub = s.pub := (rfl)
@[simp] theorem State.modCage_pair (s : State) (c : Nat) (f : CageSt → CageSt) : (s.modCage c f).pair = s.pair := (rfl)
@[simp] theorem State.modCage_otp (s : State) (c : Nat) (f : CageSt → CageSt) : (s.modCage c f).otp = s.otp := (rfl)
@[simp] theorem State.modCage_vault (s : State) (c : Nat) (f : CageSt → CageSt) : (s.modCage c f).vault = s.vault := (rfl)
@[simp] theorem State.modCage_emp (s : State) (c : Nat) (f : CageSt → CageSt) : (s.modCage c f).emp = s.emp := (rfl)
@[simp] theorem State.modCage_tap (s : State) (c : Nat) (f : CageSt → CageSt) : (s.modCage c f).tap = s.tap := (rfl)
@[simp] theorem State.modCage_ext (s : State) (c : Nat) (f : CageSt → CageSt) : (s.modCage c f).ext = s.ext := (rfl)
@[simp] theorem State.modCage_served (s : State) (c : Nat) (f : CageSt → CageSt) : (s.modCage c f).served = s.served := (rfl)
@[simp] theorem State.modCage_free (s : State) (c : Nat) (f : CageSt → CageSt) : (s.modCage c f).free = s.free := (rfl)
@[simp] theorem State.modCage_pending (s : State) (c : Nat) (f : CageSt → CageSt) : (s.modCage c f).pending = s.pending := (rfl)

/-! `State.modStage` changes `emp` alone. -/

@[simp] theorem State.modStage_boot (s : State) (f : StageSt → StageSt) : (s.modStage f).boot = s.boot := (rfl)
@[simp] theorem State.modStage_img (s : State) (f : StageSt → StageSt) : (s.modStage f).img = s.img := (rfl)
@[simp] theorem State.modStage_flash (s : State) (f : StageSt → StageSt) : (s.modStage f).flash = s.flash := (rfl)
@[simp] theorem State.modStage_ctrs (s : State) (f : StageSt → StageSt) : (s.modStage f).ctrs = s.ctrs := (rfl)
@[simp] theorem State.modStage_ctrsAt (s : State) (f : StageSt → StageSt) : (s.modStage f).ctrsAt = s.ctrsAt := (rfl)
@[simp] theorem State.modStage_attn (s : State) (f : StageSt → StageSt) : (s.modStage f).attn = s.attn := (rfl)
@[simp] theorem State.modStage_partnerLog (s : State) (f : StageSt → StageSt) : (s.modStage f).partnerLog = s.partnerLog := (rfl)
@[simp] theorem State.modStage_bbx (s : State) (f : StageSt → StageSt) : (s.modStage f).bbx = s.bbx := (rfl)
@[simp] theorem State.modStage_sens (s : State) (f : StageSt → StageSt) : (s.modStage f).sens = s.sens := (rfl)
@[simp] theorem State.modStage_panel (s : State) (f : StageSt → StageSt) : (s.modStage f).panel = s.panel := (rfl)
@[simp] theorem State.modStage_ports (s : State) (f : StageSt → StageSt) : (s.modStage f).ports = s.ports := (rfl)
@[simp] theorem State.modStage_cages (s : State) (f : StageSt → StageSt) : (s.modStage f).cages = s.cages := (rfl)
@[simp] theorem State.modStage_tcp (s : State) (f : StageSt → StageSt) : (s.modStage f).tcp = s.tcp := (rfl)
@[simp] theorem State.modStage_streams (s : State) (f : StageSt → StageSt) : (s.modStage f).streams = s.streams := (rfl)
@[simp] theorem State.modStage_time (s : State) (f : StageSt → StageSt) : (s.modStage f).time = s.time := (rfl)
@[simp] theorem State.modStage_align (s : State) (f : StageSt → StageSt) : (s.modStage f).align = s.align := (rfl)
@[simp] theorem State.modStage_swage (s : State) (f : StageSt → StageSt) : (s.modStage f).swage = s.swage := (rfl)
@[simp] theorem State.modStage_osc (s : State) (f : StageSt → StageSt) : (s.modStage f).osc = s.osc := (rfl)
@[simp] theorem State.modStage_isl (s : State) (f : StageSt → StageSt) : (s.modStage f).isl = s.isl := (rfl)
@[simp] theorem State.modStage_sch (s : State) (f : StageSt → StageSt) : (s.modStage f).sch = s.sch := (rfl)
@[simp] theorem State.modStage_logic (s : State) (f : StageSt → StageSt) : (s.modStage f).logic = s.logic := (rfl)
@[simp] theorem State.modStage_cap (s : State) (f : StageSt → StageSt) : (s.modStage f).cap = s.cap := (rfl)
@[simp] theorem State.modStage_pub (s : State) (f : StageSt → StageSt) : (s.modStage f).pub = s.pub := (rfl)
@[simp] theorem State.modStage_pair (s : State) (f : StageSt → StageSt) : (s.modStage f).pair = s.pair := (rfl)
@[simp] theorem State.modStage_otp (s : State) (f : StageSt → StageSt) : (s.modStage f).otp = s.otp := (rfl)
@[simp] theorem State.modStage_vault (s : State) (f : StageSt → StageSt) : (s.modStage f).vault = s.vault := (rfl)
@[simp] theorem State.modStage_emp (s : State) (f : StageSt → StageSt) : (s.modStage f).emp = { s.emp with stage := f s.emp.stage } := (rfl)
@[simp] theorem State.modStage_tap (s : State) (f : StageSt → StageSt) : (s.modStage f).tap = s.tap := (rfl)
@[simp] theorem State.modStage_ext (s : State) (f : StageSt → StageSt) : (s.modStage f).ext = s.ext := (rfl)
@[simp] theorem State.modStage_served (s : State) (f : StageSt → StageSt) : (s.modStage f).served = s.served := (rfl)
@[simp] theorem State.modStage_free (s : State) (f : StageSt → StageSt) : (s.modStage f).free = s.free := (rfl)
@[simp] theorem State.modStage_pending (s : State) (f : StageSt → StageSt) : (s.modStage f).pending = s.pending := (rfl)

/-! `State.modSess` changes `emp` alone. -/

@[simp] theorem State.modSess_boot (s : State) (v : Bool) (i : BitVec 32) (f : Sess → Sess) : (s.modSess v i f).boot = s.boot := (rfl)
@[simp] theorem State.modSess_img (s : State) (v : Bool) (i : BitVec 32) (f : Sess → Sess) : (s.modSess v i f).img = s.img := (rfl)
@[simp] theorem State.modSess_flash (s : State) (v : Bool) (i : BitVec 32) (f : Sess → Sess) : (s.modSess v i f).flash = s.flash := (rfl)
@[simp] theorem State.modSess_ctrs (s : State) (v : Bool) (i : BitVec 32) (f : Sess → Sess) : (s.modSess v i f).ctrs = s.ctrs := (rfl)
@[simp] theorem State.modSess_ctrsAt (s : State) (v : Bool) (i : BitVec 32) (f : Sess → Sess) : (s.modSess v i f).ctrsAt = s.ctrsAt := (rfl)
@[simp] theorem State.modSess_attn (s : State) (v : Bool) (i : BitVec 32) (f : Sess → Sess) : (s.modSess v i f).attn = s.attn := (rfl)
@[simp] theorem State.modSess_partnerLog (s : State) (v : Bool) (i : BitVec 32) (f : Sess → Sess) : (s.modSess v i f).partnerLog = s.partnerLog := (rfl)
@[simp] theorem State.modSess_bbx (s : State) (v : Bool) (i : BitVec 32) (f : Sess → Sess) : (s.modSess v i f).bbx = s.bbx := (rfl)
@[simp] theorem State.modSess_sens (s : State) (v : Bool) (i : BitVec 32) (f : Sess → Sess) : (s.modSess v i f).sens = s.sens := (rfl)
@[simp] theorem State.modSess_panel (s : State) (v : Bool) (i : BitVec 32) (f : Sess → Sess) : (s.modSess v i f).panel = s.panel := (rfl)
@[simp] theorem State.modSess_ports (s : State) (v : Bool) (i : BitVec 32) (f : Sess → Sess) : (s.modSess v i f).ports = s.ports := (rfl)
@[simp] theorem State.modSess_cages (s : State) (v : Bool) (i : BitVec 32) (f : Sess → Sess) : (s.modSess v i f).cages = s.cages := (rfl)
@[simp] theorem State.modSess_tcp (s : State) (v : Bool) (i : BitVec 32) (f : Sess → Sess) : (s.modSess v i f).tcp = s.tcp := (rfl)
@[simp] theorem State.modSess_streams (s : State) (v : Bool) (i : BitVec 32) (f : Sess → Sess) : (s.modSess v i f).streams = s.streams := (rfl)
@[simp] theorem State.modSess_time (s : State) (v : Bool) (i : BitVec 32) (f : Sess → Sess) : (s.modSess v i f).time = s.time := (rfl)
@[simp] theorem State.modSess_align (s : State) (v : Bool) (i : BitVec 32) (f : Sess → Sess) : (s.modSess v i f).align = s.align := (rfl)
@[simp] theorem State.modSess_swage (s : State) (v : Bool) (i : BitVec 32) (f : Sess → Sess) : (s.modSess v i f).swage = s.swage := (rfl)
@[simp] theorem State.modSess_osc (s : State) (v : Bool) (i : BitVec 32) (f : Sess → Sess) : (s.modSess v i f).osc = s.osc := (rfl)
@[simp] theorem State.modSess_isl (s : State) (v : Bool) (i : BitVec 32) (f : Sess → Sess) : (s.modSess v i f).isl = s.isl := (rfl)
@[simp] theorem State.modSess_sch (s : State) (v : Bool) (i : BitVec 32) (f : Sess → Sess) : (s.modSess v i f).sch = s.sch := (rfl)
@[simp] theorem State.modSess_logic (s : State) (v : Bool) (i : BitVec 32) (f : Sess → Sess) : (s.modSess v i f).logic = s.logic := (rfl)
@[simp] theorem State.modSess_cap (s : State) (v : Bool) (i : BitVec 32) (f : Sess → Sess) : (s.modSess v i f).cap = s.cap := (rfl)
@[simp] theorem State.modSess_pub (s : State) (v : Bool) (i : BitVec 32) (f : Sess → Sess) : (s.modSess v i f).pub = s.pub := (rfl)
@[simp] theorem State.modSess_pair (s : State) (v : Bool) (i : BitVec 32) (f : Sess → Sess) : (s.modSess v i f).pair = s.pair := (rfl)
@[simp] theorem State.modSess_otp (s : State) (v : Bool) (i : BitVec 32) (f : Sess → Sess) : (s.modSess v i f).otp = s.otp := (rfl)
@[simp] theorem State.modSess_vault (s : State) (v : Bool) (i : BitVec 32) (f : Sess → Sess) : (s.modSess v i f).vault = s.vault := (rfl)
@[simp] theorem State.modSess_emp (s : State) (v : Bool) (i : BitVec 32) (f : Sess → Sess) : (s.modSess v i f).emp = { s.emp with sessions := s.emp.sessions.map (fun e => if e.svp = v ∧ e.id = i then f e else e) } := (rfl)
@[simp] theorem State.modSess_tap (s : State) (v : Bool) (i : BitVec 32) (f : Sess → Sess) : (s.modSess v i f).tap = s.tap := (rfl)
@[simp] theorem State.modSess_ext (s : State) (v : Bool) (i : BitVec 32) (f : Sess → Sess) : (s.modSess v i f).ext = s.ext := (rfl)
@[simp] theorem State.modSess_served (s : State) (v : Bool) (i : BitVec 32) (f : Sess → Sess) : (s.modSess v i f).served = s.served := (rfl)
@[simp] theorem State.modSess_free (s : State) (v : Bool) (i : BitVec 32) (f : Sess → Sess) : (s.modSess v i f).free = s.free := (rfl)
@[simp] theorem State.modSess_pending (s : State) (v : Bool) (i : BitVec 32) (f : Sess → Sess) : (s.modSess v i f).pending = s.pending := (rfl)

/-! `State.modLane` changes `swage` alone. -/

@[simp] theorem State.modLane_boot (s : State) (l : Nat) (f : LaneSt → LaneSt) : (s.modLane l f).boot = s.boot := (rfl)
@[simp] theorem State.modLane_img (s : State) (l : Nat) (f : LaneSt → LaneSt) : (s.modLane l f).img = s.img := (rfl)
@[simp] theorem State.modLane_flash (s : State) (l : Nat) (f : LaneSt → LaneSt) : (s.modLane l f).flash = s.flash := (rfl)
@[simp] theorem State.modLane_ctrs (s : State) (l : Nat) (f : LaneSt → LaneSt) : (s.modLane l f).ctrs = s.ctrs := (rfl)
@[simp] theorem State.modLane_ctrsAt (s : State) (l : Nat) (f : LaneSt → LaneSt) : (s.modLane l f).ctrsAt = s.ctrsAt := (rfl)
@[simp] theorem State.modLane_attn (s : State) (l : Nat) (f : LaneSt → LaneSt) : (s.modLane l f).attn = s.attn := (rfl)
@[simp] theorem State.modLane_partnerLog (s : State) (l : Nat) (f : LaneSt → LaneSt) : (s.modLane l f).partnerLog = s.partnerLog := (rfl)
@[simp] theorem State.modLane_bbx (s : State) (l : Nat) (f : LaneSt → LaneSt) : (s.modLane l f).bbx = s.bbx := (rfl)
@[simp] theorem State.modLane_sens (s : State) (l : Nat) (f : LaneSt → LaneSt) : (s.modLane l f).sens = s.sens := (rfl)
@[simp] theorem State.modLane_panel (s : State) (l : Nat) (f : LaneSt → LaneSt) : (s.modLane l f).panel = s.panel := (rfl)
@[simp] theorem State.modLane_ports (s : State) (l : Nat) (f : LaneSt → LaneSt) : (s.modLane l f).ports = s.ports := (rfl)
@[simp] theorem State.modLane_cages (s : State) (l : Nat) (f : LaneSt → LaneSt) : (s.modLane l f).cages = s.cages := (rfl)
@[simp] theorem State.modLane_tcp (s : State) (l : Nat) (f : LaneSt → LaneSt) : (s.modLane l f).tcp = s.tcp := (rfl)
@[simp] theorem State.modLane_streams (s : State) (l : Nat) (f : LaneSt → LaneSt) : (s.modLane l f).streams = s.streams := (rfl)
@[simp] theorem State.modLane_time (s : State) (l : Nat) (f : LaneSt → LaneSt) : (s.modLane l f).time = s.time := (rfl)
@[simp] theorem State.modLane_align (s : State) (l : Nat) (f : LaneSt → LaneSt) : (s.modLane l f).align = s.align := (rfl)
@[simp] theorem State.modLane_swage (s : State) (l : Nat) (f : LaneSt → LaneSt) : (s.modLane l f).swage = { s.swage with lanes := modAt s.swage.lanes l f } := (rfl)
@[simp] theorem State.modLane_osc (s : State) (l : Nat) (f : LaneSt → LaneSt) : (s.modLane l f).osc = s.osc := (rfl)
@[simp] theorem State.modLane_isl (s : State) (l : Nat) (f : LaneSt → LaneSt) : (s.modLane l f).isl = s.isl := (rfl)
@[simp] theorem State.modLane_sch (s : State) (l : Nat) (f : LaneSt → LaneSt) : (s.modLane l f).sch = s.sch := (rfl)
@[simp] theorem State.modLane_logic (s : State) (l : Nat) (f : LaneSt → LaneSt) : (s.modLane l f).logic = s.logic := (rfl)
@[simp] theorem State.modLane_cap (s : State) (l : Nat) (f : LaneSt → LaneSt) : (s.modLane l f).cap = s.cap := (rfl)
@[simp] theorem State.modLane_pub (s : State) (l : Nat) (f : LaneSt → LaneSt) : (s.modLane l f).pub = s.pub := (rfl)
@[simp] theorem State.modLane_pair (s : State) (l : Nat) (f : LaneSt → LaneSt) : (s.modLane l f).pair = s.pair := (rfl)
@[simp] theorem State.modLane_otp (s : State) (l : Nat) (f : LaneSt → LaneSt) : (s.modLane l f).otp = s.otp := (rfl)
@[simp] theorem State.modLane_vault (s : State) (l : Nat) (f : LaneSt → LaneSt) : (s.modLane l f).vault = s.vault := (rfl)
@[simp] theorem State.modLane_emp (s : State) (l : Nat) (f : LaneSt → LaneSt) : (s.modLane l f).emp = s.emp := (rfl)
@[simp] theorem State.modLane_tap (s : State) (l : Nat) (f : LaneSt → LaneSt) : (s.modLane l f).tap = s.tap := (rfl)
@[simp] theorem State.modLane_ext (s : State) (l : Nat) (f : LaneSt → LaneSt) : (s.modLane l f).ext = s.ext := (rfl)
@[simp] theorem State.modLane_served (s : State) (l : Nat) (f : LaneSt → LaneSt) : (s.modLane l f).served = s.served := (rfl)
@[simp] theorem State.modLane_free (s : State) (l : Nat) (f : LaneSt → LaneSt) : (s.modLane l f).free = s.free := (rfl)
@[simp] theorem State.modLane_pending (s : State) (l : Nat) (f : LaneSt → LaneSt) : (s.modLane l f).pending = s.pending := (rfl)

/-! `State.modWq` changes `swage` alone. -/

@[simp] theorem State.modWq_boot (s : State) (g : Nat) (f : QueueSt → QueueSt) : (s.modWq g f).boot = s.boot := (rfl)
@[simp] theorem State.modWq_img (s : State) (g : Nat) (f : QueueSt → QueueSt) : (s.modWq g f).img = s.img := (rfl)
@[simp] theorem State.modWq_flash (s : State) (g : Nat) (f : QueueSt → QueueSt) : (s.modWq g f).flash = s.flash := (rfl)
@[simp] theorem State.modWq_ctrs (s : State) (g : Nat) (f : QueueSt → QueueSt) : (s.modWq g f).ctrs = s.ctrs := (rfl)
@[simp] theorem State.modWq_ctrsAt (s : State) (g : Nat) (f : QueueSt → QueueSt) : (s.modWq g f).ctrsAt = s.ctrsAt := (rfl)
@[simp] theorem State.modWq_attn (s : State) (g : Nat) (f : QueueSt → QueueSt) : (s.modWq g f).attn = s.attn := (rfl)
@[simp] theorem State.modWq_partnerLog (s : State) (g : Nat) (f : QueueSt → QueueSt) : (s.modWq g f).partnerLog = s.partnerLog := (rfl)
@[simp] theorem State.modWq_bbx (s : State) (g : Nat) (f : QueueSt → QueueSt) : (s.modWq g f).bbx = s.bbx := (rfl)
@[simp] theorem State.modWq_sens (s : State) (g : Nat) (f : QueueSt → QueueSt) : (s.modWq g f).sens = s.sens := (rfl)
@[simp] theorem State.modWq_panel (s : State) (g : Nat) (f : QueueSt → QueueSt) : (s.modWq g f).panel = s.panel := (rfl)
@[simp] theorem State.modWq_ports (s : State) (g : Nat) (f : QueueSt → QueueSt) : (s.modWq g f).ports = s.ports := (rfl)
@[simp] theorem State.modWq_cages (s : State) (g : Nat) (f : QueueSt → QueueSt) : (s.modWq g f).cages = s.cages := (rfl)
@[simp] theorem State.modWq_tcp (s : State) (g : Nat) (f : QueueSt → QueueSt) : (s.modWq g f).tcp = s.tcp := (rfl)
@[simp] theorem State.modWq_streams (s : State) (g : Nat) (f : QueueSt → QueueSt) : (s.modWq g f).streams = s.streams := (rfl)
@[simp] theorem State.modWq_time (s : State) (g : Nat) (f : QueueSt → QueueSt) : (s.modWq g f).time = s.time := (rfl)
@[simp] theorem State.modWq_align (s : State) (g : Nat) (f : QueueSt → QueueSt) : (s.modWq g f).align = s.align := (rfl)
@[simp] theorem State.modWq_swage (s : State) (g : Nat) (f : QueueSt → QueueSt) : (s.modWq g f).swage = { s.swage with queues := modAt s.swage.queues g f } := (rfl)
@[simp] theorem State.modWq_osc (s : State) (g : Nat) (f : QueueSt → QueueSt) : (s.modWq g f).osc = s.osc := (rfl)
@[simp] theorem State.modWq_isl (s : State) (g : Nat) (f : QueueSt → QueueSt) : (s.modWq g f).isl = s.isl := (rfl)
@[simp] theorem State.modWq_sch (s : State) (g : Nat) (f : QueueSt → QueueSt) : (s.modWq g f).sch = s.sch := (rfl)
@[simp] theorem State.modWq_logic (s : State) (g : Nat) (f : QueueSt → QueueSt) : (s.modWq g f).logic = s.logic := (rfl)
@[simp] theorem State.modWq_cap (s : State) (g : Nat) (f : QueueSt → QueueSt) : (s.modWq g f).cap = s.cap := (rfl)
@[simp] theorem State.modWq_pub (s : State) (g : Nat) (f : QueueSt → QueueSt) : (s.modWq g f).pub = s.pub := (rfl)
@[simp] theorem State.modWq_pair (s : State) (g : Nat) (f : QueueSt → QueueSt) : (s.modWq g f).pair = s.pair := (rfl)
@[simp] theorem State.modWq_otp (s : State) (g : Nat) (f : QueueSt → QueueSt) : (s.modWq g f).otp = s.otp := (rfl)
@[simp] theorem State.modWq_vault (s : State) (g : Nat) (f : QueueSt → QueueSt) : (s.modWq g f).vault = s.vault := (rfl)
@[simp] theorem State.modWq_emp (s : State) (g : Nat) (f : QueueSt → QueueSt) : (s.modWq g f).emp = s.emp := (rfl)
@[simp] theorem State.modWq_tap (s : State) (g : Nat) (f : QueueSt → QueueSt) : (s.modWq g f).tap = s.tap := (rfl)
@[simp] theorem State.modWq_ext (s : State) (g : Nat) (f : QueueSt → QueueSt) : (s.modWq g f).ext = s.ext := (rfl)
@[simp] theorem State.modWq_served (s : State) (g : Nat) (f : QueueSt → QueueSt) : (s.modWq g f).served = s.served := (rfl)
@[simp] theorem State.modWq_free (s : State) (g : Nat) (f : QueueSt → QueueSt) : (s.modWq g f).free = s.free := (rfl)
@[simp] theorem State.modWq_pending (s : State) (g : Nat) (f : QueueSt → QueueSt) : (s.modWq g f).pending = s.pending := (rfl)

/-! `State.modChain` changes `swage` alone. -/

@[simp] theorem State.modChain_boot (s : State) (k : Nat) (f : ChainSt → ChainSt) : (s.modChain k f).boot = s.boot := (rfl)
@[simp] theorem State.modChain_img (s : State) (k : Nat) (f : ChainSt → ChainSt) : (s.modChain k f).img = s.img := (rfl)
@[simp] theorem State.modChain_flash (s : State) (k : Nat) (f : ChainSt → ChainSt) : (s.modChain k f).flash = s.flash := (rfl)
@[simp] theorem State.modChain_ctrs (s : State) (k : Nat) (f : ChainSt → ChainSt) : (s.modChain k f).ctrs = s.ctrs := (rfl)
@[simp] theorem State.modChain_ctrsAt (s : State) (k : Nat) (f : ChainSt → ChainSt) : (s.modChain k f).ctrsAt = s.ctrsAt := (rfl)
@[simp] theorem State.modChain_attn (s : State) (k : Nat) (f : ChainSt → ChainSt) : (s.modChain k f).attn = s.attn := (rfl)
@[simp] theorem State.modChain_partnerLog (s : State) (k : Nat) (f : ChainSt → ChainSt) : (s.modChain k f).partnerLog = s.partnerLog := (rfl)
@[simp] theorem State.modChain_bbx (s : State) (k : Nat) (f : ChainSt → ChainSt) : (s.modChain k f).bbx = s.bbx := (rfl)
@[simp] theorem State.modChain_sens (s : State) (k : Nat) (f : ChainSt → ChainSt) : (s.modChain k f).sens = s.sens := (rfl)
@[simp] theorem State.modChain_panel (s : State) (k : Nat) (f : ChainSt → ChainSt) : (s.modChain k f).panel = s.panel := (rfl)
@[simp] theorem State.modChain_ports (s : State) (k : Nat) (f : ChainSt → ChainSt) : (s.modChain k f).ports = s.ports := (rfl)
@[simp] theorem State.modChain_cages (s : State) (k : Nat) (f : ChainSt → ChainSt) : (s.modChain k f).cages = s.cages := (rfl)
@[simp] theorem State.modChain_tcp (s : State) (k : Nat) (f : ChainSt → ChainSt) : (s.modChain k f).tcp = s.tcp := (rfl)
@[simp] theorem State.modChain_streams (s : State) (k : Nat) (f : ChainSt → ChainSt) : (s.modChain k f).streams = s.streams := (rfl)
@[simp] theorem State.modChain_time (s : State) (k : Nat) (f : ChainSt → ChainSt) : (s.modChain k f).time = s.time := (rfl)
@[simp] theorem State.modChain_align (s : State) (k : Nat) (f : ChainSt → ChainSt) : (s.modChain k f).align = s.align := (rfl)
@[simp] theorem State.modChain_swage (s : State) (k : Nat) (f : ChainSt → ChainSt) : (s.modChain k f).swage = { s.swage with chains := amod s.swage.chains k ChainSt.fresh f } := (rfl)
@[simp] theorem State.modChain_osc (s : State) (k : Nat) (f : ChainSt → ChainSt) : (s.modChain k f).osc = s.osc := (rfl)
@[simp] theorem State.modChain_isl (s : State) (k : Nat) (f : ChainSt → ChainSt) : (s.modChain k f).isl = s.isl := (rfl)
@[simp] theorem State.modChain_sch (s : State) (k : Nat) (f : ChainSt → ChainSt) : (s.modChain k f).sch = s.sch := (rfl)
@[simp] theorem State.modChain_logic (s : State) (k : Nat) (f : ChainSt → ChainSt) : (s.modChain k f).logic = s.logic := (rfl)
@[simp] theorem State.modChain_cap (s : State) (k : Nat) (f : ChainSt → ChainSt) : (s.modChain k f).cap = s.cap := (rfl)
@[simp] theorem State.modChain_pub (s : State) (k : Nat) (f : ChainSt → ChainSt) : (s.modChain k f).pub = s.pub := (rfl)
@[simp] theorem State.modChain_pair (s : State) (k : Nat) (f : ChainSt → ChainSt) : (s.modChain k f).pair = s.pair := (rfl)
@[simp] theorem State.modChain_otp (s : State) (k : Nat) (f : ChainSt → ChainSt) : (s.modChain k f).otp = s.otp := (rfl)
@[simp] theorem State.modChain_vault (s : State) (k : Nat) (f : ChainSt → ChainSt) : (s.modChain k f).vault = s.vault := (rfl)
@[simp] theorem State.modChain_emp (s : State) (k : Nat) (f : ChainSt → ChainSt) : (s.modChain k f).emp = s.emp := (rfl)
@[simp] theorem State.modChain_tap (s : State) (k : Nat) (f : ChainSt → ChainSt) : (s.modChain k f).tap = s.tap := (rfl)
@[simp] theorem State.modChain_ext (s : State) (k : Nat) (f : ChainSt → ChainSt) : (s.modChain k f).ext = s.ext := (rfl)
@[simp] theorem State.modChain_served (s : State) (k : Nat) (f : ChainSt → ChainSt) : (s.modChain k f).served = s.served := (rfl)
@[simp] theorem State.modChain_free (s : State) (k : Nat) (f : ChainSt → ChainSt) : (s.modChain k f).free = s.free := (rfl)
@[simp] theorem State.modChain_pending (s : State) (k : Nat) (f : ChainSt → ChainSt) : (s.modChain k f).pending = s.pending := (rfl)

/-! `State.modEst` changes `swage` alone. -/

@[simp] theorem State.modEst_boot (s : State) (k : Nat) (f : EstSt → EstSt) : (s.modEst k f).boot = s.boot := (rfl)
@[simp] theorem State.modEst_img (s : State) (k : Nat) (f : EstSt → EstSt) : (s.modEst k f).img = s.img := (rfl)
@[simp] theorem State.modEst_flash (s : State) (k : Nat) (f : EstSt → EstSt) : (s.modEst k f).flash = s.flash := (rfl)
@[simp] theorem State.modEst_ctrs (s : State) (k : Nat) (f : EstSt → EstSt) : (s.modEst k f).ctrs = s.ctrs := (rfl)
@[simp] theorem State.modEst_ctrsAt (s : State) (k : Nat) (f : EstSt → EstSt) : (s.modEst k f).ctrsAt = s.ctrsAt := (rfl)
@[simp] theorem State.modEst_attn (s : State) (k : Nat) (f : EstSt → EstSt) : (s.modEst k f).attn = s.attn := (rfl)
@[simp] theorem State.modEst_partnerLog (s : State) (k : Nat) (f : EstSt → EstSt) : (s.modEst k f).partnerLog = s.partnerLog := (rfl)
@[simp] theorem State.modEst_bbx (s : State) (k : Nat) (f : EstSt → EstSt) : (s.modEst k f).bbx = s.bbx := (rfl)
@[simp] theorem State.modEst_sens (s : State) (k : Nat) (f : EstSt → EstSt) : (s.modEst k f).sens = s.sens := (rfl)
@[simp] theorem State.modEst_panel (s : State) (k : Nat) (f : EstSt → EstSt) : (s.modEst k f).panel = s.panel := (rfl)
@[simp] theorem State.modEst_ports (s : State) (k : Nat) (f : EstSt → EstSt) : (s.modEst k f).ports = s.ports := (rfl)
@[simp] theorem State.modEst_cages (s : State) (k : Nat) (f : EstSt → EstSt) : (s.modEst k f).cages = s.cages := (rfl)
@[simp] theorem State.modEst_tcp (s : State) (k : Nat) (f : EstSt → EstSt) : (s.modEst k f).tcp = s.tcp := (rfl)
@[simp] theorem State.modEst_streams (s : State) (k : Nat) (f : EstSt → EstSt) : (s.modEst k f).streams = s.streams := (rfl)
@[simp] theorem State.modEst_time (s : State) (k : Nat) (f : EstSt → EstSt) : (s.modEst k f).time = s.time := (rfl)
@[simp] theorem State.modEst_align (s : State) (k : Nat) (f : EstSt → EstSt) : (s.modEst k f).align = s.align := (rfl)
@[simp] theorem State.modEst_swage (s : State) (k : Nat) (f : EstSt → EstSt) : (s.modEst k f).swage = { s.swage with ests := amod s.swage.ests k EstSt.fresh f } := (rfl)
@[simp] theorem State.modEst_osc (s : State) (k : Nat) (f : EstSt → EstSt) : (s.modEst k f).osc = s.osc := (rfl)
@[simp] theorem State.modEst_isl (s : State) (k : Nat) (f : EstSt → EstSt) : (s.modEst k f).isl = s.isl := (rfl)
@[simp] theorem State.modEst_sch (s : State) (k : Nat) (f : EstSt → EstSt) : (s.modEst k f).sch = s.sch := (rfl)
@[simp] theorem State.modEst_logic (s : State) (k : Nat) (f : EstSt → EstSt) : (s.modEst k f).logic = s.logic := (rfl)
@[simp] theorem State.modEst_cap (s : State) (k : Nat) (f : EstSt → EstSt) : (s.modEst k f).cap = s.cap := (rfl)
@[simp] theorem State.modEst_pub (s : State) (k : Nat) (f : EstSt → EstSt) : (s.modEst k f).pub = s.pub := (rfl)
@[simp] theorem State.modEst_pair (s : State) (k : Nat) (f : EstSt → EstSt) : (s.modEst k f).pair = s.pair := (rfl)
@[simp] theorem State.modEst_otp (s : State) (k : Nat) (f : EstSt → EstSt) : (s.modEst k f).otp = s.otp := (rfl)
@[simp] theorem State.modEst_vault (s : State) (k : Nat) (f : EstSt → EstSt) : (s.modEst k f).vault = s.vault := (rfl)
@[simp] theorem State.modEst_emp (s : State) (k : Nat) (f : EstSt → EstSt) : (s.modEst k f).emp = s.emp := (rfl)
@[simp] theorem State.modEst_tap (s : State) (k : Nat) (f : EstSt → EstSt) : (s.modEst k f).tap = s.tap := (rfl)
@[simp] theorem State.modEst_ext (s : State) (k : Nat) (f : EstSt → EstSt) : (s.modEst k f).ext = s.ext := (rfl)
@[simp] theorem State.modEst_served (s : State) (k : Nat) (f : EstSt → EstSt) : (s.modEst k f).served = s.served := (rfl)
@[simp] theorem State.modEst_free (s : State) (k : Nat) (f : EstSt → EstSt) : (s.modEst k f).free = s.free := (rfl)
@[simp] theorem State.modEst_pending (s : State) (k : Nat) (f : EstSt → EstSt) : (s.modEst k f).pending = s.pending := (rfl)

/-! `State.modCore` changes `isl` alone. -/

@[simp] theorem State.modCore_boot (s : State) (f : IslCore → IslCore) : (s.modCore f).boot = s.boot := (rfl)
@[simp] theorem State.modCore_img (s : State) (f : IslCore → IslCore) : (s.modCore f).img = s.img := (rfl)
@[simp] theorem State.modCore_flash (s : State) (f : IslCore → IslCore) : (s.modCore f).flash = s.flash := (rfl)
@[simp] theorem State.modCore_ctrs (s : State) (f : IslCore → IslCore) : (s.modCore f).ctrs = s.ctrs := (rfl)
@[simp] theorem State.modCore_ctrsAt (s : State) (f : IslCore → IslCore) : (s.modCore f).ctrsAt = s.ctrsAt := (rfl)
@[simp] theorem State.modCore_attn (s : State) (f : IslCore → IslCore) : (s.modCore f).attn = s.attn := (rfl)
@[simp] theorem State.modCore_partnerLog (s : State) (f : IslCore → IslCore) : (s.modCore f).partnerLog = s.partnerLog := (rfl)
@[simp] theorem State.modCore_bbx (s : State) (f : IslCore → IslCore) : (s.modCore f).bbx = s.bbx := (rfl)
@[simp] theorem State.modCore_sens (s : State) (f : IslCore → IslCore) : (s.modCore f).sens = s.sens := (rfl)
@[simp] theorem State.modCore_panel (s : State) (f : IslCore → IslCore) : (s.modCore f).panel = s.panel := (rfl)
@[simp] theorem State.modCore_ports (s : State) (f : IslCore → IslCore) : (s.modCore f).ports = s.ports := (rfl)
@[simp] theorem State.modCore_cages (s : State) (f : IslCore → IslCore) : (s.modCore f).cages = s.cages := (rfl)
@[simp] theorem State.modCore_tcp (s : State) (f : IslCore → IslCore) : (s.modCore f).tcp = s.tcp := (rfl)
@[simp] theorem State.modCore_streams (s : State) (f : IslCore → IslCore) : (s.modCore f).streams = s.streams := (rfl)
@[simp] theorem State.modCore_time (s : State) (f : IslCore → IslCore) : (s.modCore f).time = s.time := (rfl)
@[simp] theorem State.modCore_align (s : State) (f : IslCore → IslCore) : (s.modCore f).align = s.align := (rfl)
@[simp] theorem State.modCore_swage (s : State) (f : IslCore → IslCore) : (s.modCore f).swage = s.swage := (rfl)
@[simp] theorem State.modCore_osc (s : State) (f : IslCore → IslCore) : (s.modCore f).osc = s.osc := (rfl)
@[simp] theorem State.modCore_isl (s : State) (f : IslCore → IslCore) : (s.modCore f).isl = { s.isl with core := f s.isl.core } := (rfl)
@[simp] theorem State.modCore_sch (s : State) (f : IslCore → IslCore) : (s.modCore f).sch = s.sch := (rfl)
@[simp] theorem State.modCore_logic (s : State) (f : IslCore → IslCore) : (s.modCore f).logic = s.logic := (rfl)
@[simp] theorem State.modCore_cap (s : State) (f : IslCore → IslCore) : (s.modCore f).cap = s.cap := (rfl)
@[simp] theorem State.modCore_pub (s : State) (f : IslCore → IslCore) : (s.modCore f).pub = s.pub := (rfl)
@[simp] theorem State.modCore_pair (s : State) (f : IslCore → IslCore) : (s.modCore f).pair = s.pair := (rfl)
@[simp] theorem State.modCore_otp (s : State) (f : IslCore → IslCore) : (s.modCore f).otp = s.otp := (rfl)
@[simp] theorem State.modCore_vault (s : State) (f : IslCore → IslCore) : (s.modCore f).vault = s.vault := (rfl)
@[simp] theorem State.modCore_emp (s : State) (f : IslCore → IslCore) : (s.modCore f).emp = s.emp := (rfl)
@[simp] theorem State.modCore_tap (s : State) (f : IslCore → IslCore) : (s.modCore f).tap = s.tap := (rfl)
@[simp] theorem State.modCore_ext (s : State) (f : IslCore → IslCore) : (s.modCore f).ext = s.ext := (rfl)
@[simp] theorem State.modCore_served (s : State) (f : IslCore → IslCore) : (s.modCore f).served = s.served := (rfl)
@[simp] theorem State.modCore_free (s : State) (f : IslCore → IslCore) : (s.modCore f).free = s.free := (rfl)
@[simp] theorem State.modCore_pending (s : State) (f : IslCore → IslCore) : (s.modCore f).pending = s.pending := (rfl)

end Sys2Proof.Machine
end

