-- ==== Sys2Proof/Laws/Ops.lean ====
section
/-! SUPPORT. What each shared operation of Ops.lean leaves unchanged, said once (a frame lemma per operation, which simp uses
as one rewriting rule per field), and what it does to the part that it changes. -/

namespace Sys2Proof.Machine

/-- Placing a frame changes the ports and the counters alone (R96). -/
@[simp] theorem State.place_frame (s : State) (p q : Nat) (f : TxFrame) :
    (s.place p q f).boot = s.boot ∧ (s.place p q f).img = s.img ∧ (s.place p q f).flash = s.flash ∧
    (s.place p q f).ctrsAt = s.ctrsAt ∧ (s.place p q f).attn = s.attn ∧ (s.place p q f).partnerLog = s.partnerLog ∧
    (s.place p q f).bbx = s.bbx ∧ (s.place p q f).sens = s.sens ∧ (s.place p q f).panel = s.panel ∧
    (s.place p q f).cages = s.cages ∧ (s.place p q f).tcp = s.tcp ∧ (s.place p q f).streams = s.streams ∧
    (s.place p q f).time = s.time ∧ (s.place p q f).align = s.align ∧ (s.place p q f).swage = s.swage ∧
    (s.place p q f).osc = s.osc ∧ (s.place p q f).isl = s.isl ∧ (s.place p q f).sch = s.sch ∧
    (s.place p q f).logic = s.logic ∧ (s.place p q f).cap = s.cap ∧ (s.place p q f).pub = s.pub ∧
    (s.place p q f).pair = s.pair ∧ (s.place p q f).otp = s.otp ∧ (s.place p q f).vault = s.vault ∧
    (s.place p q f).emp = s.emp ∧ (s.place p q f).tap = s.tap ∧ (s.place p q f).ext = s.ext ∧
    (s.place p q f).served = s.served ∧ (s.place p q f).free = s.free ∧ (s.place p q f).pending = s.pending := by
  unfold State.place; simp only []; repeat' split
  all_goals simp

/-- A Woide frame changes the link state, the ports and their counters alone (R384). -/
@[simp] theorem State.woideBuild_frame (s : State) (q : Nat) (b : WoideBody) :
    (s.woideBuild q b).boot = s.boot ∧ (s.woideBuild q b).img = s.img ∧ (s.woideBuild q b).flash = s.flash ∧
    (s.woideBuild q b).ctrsAt = s.ctrsAt ∧
    (s.woideBuild q b).attn = s.attn ∧ (s.woideBuild q b).partnerLog = s.partnerLog ∧
    (s.woideBuild q b).bbx = s.bbx ∧ (s.woideBuild q b).sens = s.sens ∧ (s.woideBuild q b).panel = s.panel ∧
    (s.woideBuild q b).cages = s.cages ∧ (s.woideBuild q b).tcp = s.tcp ∧
    (s.woideBuild q b).streams = s.streams ∧ (s.woideBuild q b).time = s.time ∧
    (s.woideBuild q b).align = s.align ∧ (s.woideBuild q b).swage = s.swage ∧ (s.woideBuild q b).osc = s.osc ∧
    (s.woideBuild q b).isl = s.isl ∧ (s.woideBuild q b).sch = s.sch ∧ (s.woideBuild q b).logic = s.logic ∧
    (s.woideBuild q b).cap = s.cap ∧ (s.woideBuild q b).pub = s.pub ∧ (s.woideBuild q b).otp = s.otp ∧
    (s.woideBuild q b).vault = s.vault ∧ (s.woideBuild q b).emp = s.emp ∧ (s.woideBuild q b).tap = s.tap ∧
    (s.woideBuild q b).ext = s.ext ∧ (s.woideBuild q b).served = s.served ∧ (s.woideBuild q b).free = s.free ∧
    (s.woideBuild q b).pending = s.pending := by
  simp [State.woideBuild]

/-- Sending what waits changes the link state, the ports and their counters alone (R387). -/
@[simp] theorem State.woideFlush_frame (n : Nat) (s : State) :
    (State.woideFlush n s).boot = s.boot ∧ (State.woideFlush n s).img = s.img ∧
    (State.woideFlush n s).flash = s.flash ∧ (State.woideFlush n s).ctrsAt = s.ctrsAt ∧ (State.woideFlush n s).attn = s.attn ∧
    (State.woideFlush n s).partnerLog = s.partnerLog ∧ (State.woideFlush n s).bbx = s.bbx ∧
    (State.woideFlush n s).sens = s.sens ∧ (State.woideFlush n s).panel = s.panel ∧
    (State.woideFlush n s).cages = s.cages ∧ (State.woideFlush n s).tcp = s.tcp ∧
    (State.woideFlush n s).streams = s.streams ∧ (State.woideFlush n s).time = s.time ∧
    (State.woideFlush n s).align = s.align ∧ (State.woideFlush n s).swage = s.swage ∧
    (State.woideFlush n s).osc = s.osc ∧ (State.woideFlush n s).isl = s.isl ∧ (State.woideFlush n s).sch = s.sch ∧
    (State.woideFlush n s).logic = s.logic ∧ (State.woideFlush n s).cap = s.cap ∧
    (State.woideFlush n s).pub = s.pub ∧ (State.woideFlush n s).otp = s.otp ∧
    (State.woideFlush n s).vault = s.vault ∧ (State.woideFlush n s).emp = s.emp ∧
    (State.woideFlush n s).tap = s.tap ∧ (State.woideFlush n s).ext = s.ext ∧
    (State.woideFlush n s).served = s.served ∧ (State.woideFlush n s).free = s.free ∧
    (State.woideFlush n s).pending = s.pending := by
  induction n generalizing s with
  | zero => simp [State.woideFlush]
  | succ n ih =>
    unfold State.woideFlush
    split
    · simp
    · split
      · simp [ih]
      · simp

/-- Mirroring changes the link state, the ports and their counters alone (R386). -/
@[simp] theorem State.mirror_frame (s : State) (b : WoideBody) :
    (s.mirror b).boot = s.boot ∧ (s.mirror b).img = s.img ∧ (s.mirror b).flash = s.flash ∧ (s.mirror b).ctrsAt = s.ctrsAt ∧
    (s.mirror b).attn = s.attn ∧
    (s.mirror b).partnerLog = s.partnerLog ∧ (s.mirror b).bbx = s.bbx ∧ (s.mirror b).sens = s.sens ∧
    (s.mirror b).panel = s.panel ∧ (s.mirror b).cages = s.cages ∧ (s.mirror b).tcp = s.tcp ∧
    (s.mirror b).streams = s.streams ∧ (s.mirror b).time = s.time ∧ (s.mirror b).align = s.align ∧
    (s.mirror b).swage = s.swage ∧ (s.mirror b).osc = s.osc ∧ (s.mirror b).isl = s.isl ∧ (s.mirror b).sch = s.sch ∧
    (s.mirror b).logic = s.logic ∧ (s.mirror b).cap = s.cap ∧ (s.mirror b).pub = s.pub ∧ (s.mirror b).otp = s.otp ∧
    (s.mirror b).vault = s.vault ∧ (s.mirror b).emp = s.emp ∧ (s.mirror b).tap = s.tap ∧ (s.mirror b).ext = s.ext ∧
    (s.mirror b).served = s.served ∧ (s.mirror b).free = s.free ∧ (s.mirror b).pending = s.pending := by
  unfold State.mirror; simp only []; split <;> simp

/-- Posting changes the log, and by mirroring the link state, the ports and their counters (R440). -/
@[simp] theorem State.post_frame (s : State) (l : Nat) (c : AttClass) (src d : Nat) :
    (s.post l c src d).boot = s.boot ∧ (s.post l c src d).img = s.img ∧ (s.post l c src d).flash = s.flash ∧
    (s.post l c src d).ctrsAt = s.ctrsAt ∧
    (s.post l c src d).partnerLog = s.partnerLog ∧ (s.post l c src d).bbx = s.bbx ∧
    (s.post l c src d).sens = s.sens ∧ (s.post l c src d).panel = s.panel ∧ (s.post l c src d).cages = s.cages ∧
    (s.post l c src d).tcp = s.tcp ∧ (s.post l c src d).streams = s.streams ∧ (s.post l c src d).time = s.time ∧
    (s.post l c src d).align = s.align ∧ (s.post l c src d).swage = s.swage ∧ (s.post l c src d).osc = s.osc ∧
    (s.post l c src d).isl = s.isl ∧ (s.post l c src d).sch = s.sch ∧ (s.post l c src d).logic = s.logic ∧
    (s.post l c src d).cap = s.cap ∧ (s.post l c src d).pub = s.pub ∧ (s.post l c src d).otp = s.otp ∧
    (s.post l c src d).vault = s.vault ∧ (s.post l c src d).emp = s.emp ∧ (s.post l c src d).tap = s.tap ∧
    (s.post l c src d).ext = s.ext ∧ (s.post l c src d).served = s.served ∧ (s.post l c src d).free = s.free ∧
    (s.post l c src d).pending = s.pending := by
  simp [State.post]

/-- Posting for a counter, as posting. -/
@[simp] theorem State.postFor_frame (s : State) (l : Nat) (c : AttClass) (k : CtrKey) (d : Nat) :
    (s.postFor l c k d).boot = s.boot ∧ (s.postFor l c k d).img = s.img ∧ (s.postFor l c k d).flash = s.flash ∧
    (s.postFor l c k d).ctrsAt = s.ctrsAt ∧
    (s.postFor l c k d).partnerLog = s.partnerLog ∧ (s.postFor l c k d).bbx = s.bbx ∧
    (s.postFor l c k d).sens = s.sens ∧ (s.postFor l c k d).panel = s.panel ∧ (s.postFor l c k d).cages = s.cages ∧
    (s.postFor l c k d).tcp = s.tcp ∧ (s.postFor l c k d).streams = s.streams ∧ (s.postFor l c k d).time = s.time ∧
    (s.postFor l c k d).align = s.align ∧ (s.postFor l c k d).swage = s.swage ∧ (s.postFor l c k d).osc = s.osc ∧
    (s.postFor l c k d).isl = s.isl ∧ (s.postFor l c k d).sch = s.sch ∧ (s.postFor l c k d).logic = s.logic ∧
    (s.postFor l c k d).cap = s.cap ∧ (s.postFor l c k d).pub = s.pub ∧ (s.postFor l c k d).otp = s.otp ∧
    (s.postFor l c k d).vault = s.vault ∧ (s.postFor l c k d).emp = s.emp ∧ (s.postFor l c k d).tap = s.tap ∧
    (s.postFor l c k d).ext = s.ext ∧ (s.postFor l c k d).served = s.served ∧ (s.postFor l c k d).free = s.free ∧
    (s.postFor l c k d).pending = s.pending := by
  simp [State.postFor]

/-- Posting once per latch, as posting (R441). -/
@[simp] theorem State.postOnce_frame (s : State) (l : Nat) (c : AttClass) (k : CtrKey) (d : Nat) :
    (s.postOnce l c k d).boot = s.boot ∧ (s.postOnce l c k d).img = s.img ∧ (s.postOnce l c k d).flash = s.flash ∧
    (s.postOnce l c k d).ctrsAt = s.ctrsAt ∧
    (s.postOnce l c k d).partnerLog = s.partnerLog ∧ (s.postOnce l c k d).bbx = s.bbx ∧
    (s.postOnce l c k d).sens = s.sens ∧ (s.postOnce l c k d).panel = s.panel ∧
    (s.postOnce l c k d).cages = s.cages ∧ (s.postOnce l c k d).tcp = s.tcp ∧
    (s.postOnce l c k d).streams = s.streams ∧ (s.postOnce l c k d).time = s.time ∧
    (s.postOnce l c k d).align = s.align ∧ (s.postOnce l c k d).swage = s.swage ∧ (s.postOnce l c k d).osc = s.osc ∧
    (s.postOnce l c k d).isl = s.isl ∧ (s.postOnce l c k d).sch = s.sch ∧ (s.postOnce l c k d).logic = s.logic ∧
    (s.postOnce l c k d).cap = s.cap ∧ (s.postOnce l c k d).pub = s.pub ∧ (s.postOnce l c k d).otp = s.otp ∧
    (s.postOnce l c k d).vault = s.vault ∧ (s.postOnce l c k d).emp = s.emp ∧ (s.postOnce l c k d).tap = s.tap ∧
    (s.postOnce l c k d).ext = s.ext ∧ (s.postOnce l c k d).served = s.served ∧ (s.postOnce l c k d).free = s.free ∧
    (s.postOnce l c k d).pending = s.pending := by
  unfold State.postOnce; split <;> simp

/-- Counting and posting once. -/
@[simp] theorem State.bumpOnce_frame (s : State) (k : CtrKey) (l : Nat) (c : AttClass) :
    (s.bumpOnce k l c).boot = s.boot ∧ (s.bumpOnce k l c).img = s.img ∧ (s.bumpOnce k l c).flash = s.flash ∧
    (s.bumpOnce k l c).ctrsAt = s.ctrsAt ∧ (s.bumpOnce k l c).partnerLog = s.partnerLog ∧
    (s.bumpOnce k l c).bbx = s.bbx ∧ (s.bumpOnce k l c).sens = s.sens ∧ (s.bumpOnce k l c).panel = s.panel ∧
    (s.bumpOnce k l c).cages = s.cages ∧ (s.bumpOnce k l c).tcp = s.tcp ∧ (s.bumpOnce k l c).streams = s.streams ∧
    (s.bumpOnce k l c).time = s.time ∧ (s.bumpOnce k l c).align = s.align ∧ (s.bumpOnce k l c).swage = s.swage ∧
    (s.bumpOnce k l c).osc = s.osc ∧ (s.bumpOnce k l c).isl = s.isl ∧ (s.bumpOnce k l c).sch = s.sch ∧
    (s.bumpOnce k l c).logic = s.logic ∧ (s.bumpOnce k l c).cap = s.cap ∧ (s.bumpOnce k l c).pub = s.pub ∧
    (s.bumpOnce k l c).otp = s.otp ∧ (s.bumpOnce k l c).vault = s.vault ∧ (s.bumpOnce k l c).emp = s.emp ∧
    (s.bumpOnce k l c).tap = s.tap ∧ (s.bumpOnce k l c).ext = s.ext ∧ (s.bumpOnce k l c).served = s.served ∧
    (s.bumpOnce k l c).free = s.free ∧ (s.bumpOnce k l c).pending = s.pending := by
  simp [State.bumpOnce]

/-- A loop conflict (R38). -/
@[simp] theorem State.conflict_frame (s : State) (n src : Nat) :
    (s.conflict n src).boot = s.boot ∧ (s.conflict n src).img = s.img ∧ (s.conflict n src).flash = s.flash ∧
    (s.conflict n src).ctrsAt = s.ctrsAt ∧ (s.conflict n src).partnerLog = s.partnerLog ∧
    (s.conflict n src).bbx = s.bbx ∧ (s.conflict n src).sens = s.sens ∧ (s.conflict n src).panel = s.panel ∧
    (s.conflict n src).cages = s.cages ∧ (s.conflict n src).tcp = s.tcp ∧ (s.conflict n src).streams = s.streams ∧
    (s.conflict n src).time = s.time ∧ (s.conflict n src).align = s.align ∧ (s.conflict n src).swage = s.swage ∧
    (s.conflict n src).osc = s.osc ∧ (s.conflict n src).isl = s.isl ∧ (s.conflict n src).sch = s.sch ∧
    (s.conflict n src).logic = s.logic ∧ (s.conflict n src).cap = s.cap ∧ (s.conflict n src).pub = s.pub ∧
    (s.conflict n src).otp = s.otp ∧ (s.conflict n src).vault = s.vault ∧ (s.conflict n src).emp = s.emp ∧
    (s.conflict n src).tap = s.tap ∧ (s.conflict n src).ext = s.ext ∧ (s.conflict n src).served = s.served ∧
    (s.conflict n src).free = s.free ∧ (s.conflict n src).pending = s.pending := by
  unfold State.conflict; simp only []; split <;> simp

/-- A dropped record (R461). -/
@[simp] theorem State.bbxDrop_frame (s : State) :
    (s.bbxDrop).boot = s.boot ∧ (s.bbxDrop).img = s.img ∧ (s.bbxDrop).flash = s.flash ∧
    (s.bbxDrop).ctrsAt = s.ctrsAt ∧ (s.bbxDrop).partnerLog = s.partnerLog ∧ (s.bbxDrop).panel = s.panel ∧
    (s.bbxDrop).cages = s.cages ∧ (s.bbxDrop).tcp = s.tcp ∧ (s.bbxDrop).streams = s.streams ∧
    (s.bbxDrop).time = s.time ∧ (s.bbxDrop).align = s.align ∧ (s.bbxDrop).swage = s.swage ∧ (s.bbxDrop).osc = s.osc ∧
    (s.bbxDrop).isl = s.isl ∧ (s.bbxDrop).sch = s.sch ∧ (s.bbxDrop).logic = s.logic ∧ (s.bbxDrop).cap = s.cap ∧
    (s.bbxDrop).pub = s.pub ∧ (s.bbxDrop).otp = s.otp ∧ (s.bbxDrop).vault = s.vault ∧ (s.bbxDrop).emp = s.emp ∧
    (s.bbxDrop).tap = s.tap ∧ (s.bbxDrop).ext = s.ext ∧ (s.bbxDrop).served = s.served ∧ (s.bbxDrop).free = s.free ∧
    (s.bbxDrop).pending = s.pending := by
  unfold State.bbxDrop; simp only []; split <;> simp

/-- Queueing a record (R461). -/
@[simp] theorem State.bbxQueue_frame (s : State) (r : BbxRec) :
    (s.bbxQueue r).boot = s.boot ∧ (s.bbxQueue r).img = s.img ∧ (s.bbxQueue r).flash = s.flash ∧
    (s.bbxQueue r).ctrsAt = s.ctrsAt ∧ (s.bbxQueue r).partnerLog = s.partnerLog ∧ (s.bbxQueue r).panel = s.panel ∧
    (s.bbxQueue r).cages = s.cages ∧ (s.bbxQueue r).tcp = s.tcp ∧ (s.bbxQueue r).streams = s.streams ∧
    (s.bbxQueue r).time = s.time ∧ (s.bbxQueue r).align = s.align ∧ (s.bbxQueue r).swage = s.swage ∧
    (s.bbxQueue r).osc = s.osc ∧ (s.bbxQueue r).isl = s.isl ∧ (s.bbxQueue r).sch = s.sch ∧
    (s.bbxQueue r).logic = s.logic ∧ (s.bbxQueue r).cap = s.cap ∧ (s.bbxQueue r).pub = s.pub ∧
    (s.bbxQueue r).otp = s.otp ∧ (s.bbxQueue r).vault = s.vault ∧ (s.bbxQueue r).emp = s.emp ∧
    (s.bbxQueue r).tap = s.tap ∧ (s.bbxQueue r).ext = s.ext ∧ (s.bbxQueue r).served = s.served ∧
    (s.bbxQueue r).free = s.free ∧ (s.bbxQueue r).pending = s.pending := by
  unfold State.bbxQueue; simp only []; repeat' split
  all_goals simp

/-- Posting a record without an item. -/
@[simp] theorem State.bbxPost_frame (s : State) (e : Nat) (p : Bytes) :
    (s.bbxPost e p).boot = s.boot ∧ (s.bbxPost e p).img = s.img ∧ (s.bbxPost e p).flash = s.flash ∧
    (s.bbxPost e p).ctrsAt = s.ctrsAt ∧ (s.bbxPost e p).partnerLog = s.partnerLog ∧ (s.bbxPost e p).panel = s.panel ∧
    (s.bbxPost e p).cages = s.cages ∧ (s.bbxPost e p).tcp = s.tcp ∧ (s.bbxPost e p).streams = s.streams ∧
    (s.bbxPost e p).time = s.time ∧ (s.bbxPost e p).align = s.align ∧ (s.bbxPost e p).swage = s.swage ∧
    (s.bbxPost e p).osc = s.osc ∧ (s.bbxPost e p).isl = s.isl ∧ (s.bbxPost e p).sch = s.sch ∧
    (s.bbxPost e p).logic = s.logic ∧ (s.bbxPost e p).cap = s.cap ∧ (s.bbxPost e p).pub = s.pub ∧
    (s.bbxPost e p).otp = s.otp ∧ (s.bbxPost e p).vault = s.vault ∧ (s.bbxPost e p).emp = s.emp ∧
    (s.bbxPost e p).tap = s.tap ∧ (s.bbxPost e p).ext = s.ext ∧ (s.bbxPost e p).served = s.served ∧
    (s.bbxPost e p).free = s.free ∧ (s.bbxPost e p).pending = s.pending := by
  simp [State.bbxPost]

/-- Posting an item with its record. -/
@[simp] theorem State.bbxWith_frame (s : State) (l : Nat) (c : AttClass) (src d e : Nat) (p : Bytes) :
    (s.bbxWith l c src d e p).boot = s.boot ∧ (s.bbxWith l c src d e p).img = s.img ∧
    (s.bbxWith l c src d e p).flash = s.flash ∧ (s.bbxWith l c src d e p).ctrsAt = s.ctrsAt ∧
    (s.bbxWith l c src d e p).partnerLog = s.partnerLog ∧ (s.bbxWith l c src d e p).panel = s.panel ∧
    (s.bbxWith l c src d e p).cages = s.cages ∧ (s.bbxWith l c src d e p).tcp = s.tcp ∧
    (s.bbxWith l c src d e p).streams = s.streams ∧ (s.bbxWith l c src d e p).time = s.time ∧
    (s.bbxWith l c src d e p).align = s.align ∧ (s.bbxWith l c src d e p).swage = s.swage ∧
    (s.bbxWith l c src d e p).osc = s.osc ∧ (s.bbxWith l c src d e p).isl = s.isl ∧
    (s.bbxWith l c src d e p).sch = s.sch ∧ (s.bbxWith l c src d e p).logic = s.logic ∧
    (s.bbxWith l c src d e p).cap = s.cap ∧ (s.bbxWith l c src d e p).pub = s.pub ∧
    (s.bbxWith l c src d e p).otp = s.otp ∧ (s.bbxWith l c src d e p).vault = s.vault ∧
    (s.bbxWith l c src d e p).emp = s.emp ∧ (s.bbxWith l c src d e p).tap = s.tap ∧
    (s.bbxWith l c src d e p).ext = s.ext ∧ (s.bbxWith l c src d e p).served = s.served ∧
    (s.bbxWith l c src d e p).free = s.free ∧ (s.bbxWith l c src d e p).pending = s.pending := by
  simp [State.bbxWith]

/-- A transition (R42) changes the mode and posts. -/
@[simp] theorem State.transit_frame (s : State) (n : Nat) (m : Mode) (l : Nat) (c : AttClass) :
    (s.transit n m l c).img = s.img ∧ (s.transit n m l c).flash = s.flash ∧ (s.transit n m l c).ctrsAt = s.ctrsAt ∧
    (s.transit n m l c).partnerLog = s.partnerLog ∧ (s.transit n m l c).panel = s.panel ∧
    (s.transit n m l c).cages = s.cages ∧ (s.transit n m l c).tcp = s.tcp ∧ (s.transit n m l c).streams = s.streams ∧
    (s.transit n m l c).time = s.time ∧ (s.transit n m l c).align = s.align ∧ (s.transit n m l c).swage = s.swage ∧
    (s.transit n m l c).osc = s.osc ∧ (s.transit n m l c).isl = s.isl ∧ (s.transit n m l c).sch = s.sch ∧
    (s.transit n m l c).logic = s.logic ∧ (s.transit n m l c).cap = s.cap ∧ (s.transit n m l c).pub = s.pub ∧
    (s.transit n m l c).otp = s.otp ∧ (s.transit n m l c).vault = s.vault ∧ (s.transit n m l c).emp = s.emp ∧
    (s.transit n m l c).tap = s.tap ∧ (s.transit n m l c).ext = s.ext ∧ (s.transit n m l c).served = s.served ∧
    (s.transit n m l c).free = s.free ∧ (s.transit n m l c).pending = s.pending := by
  simp [State.transit]

/-- A refused event is counted alone (R42). -/
@[simp] theorem State.refuseEvent_frame (s : State) :
    (s.refuseEvent).boot = s.boot ∧ (s.refuseEvent).img = s.img ∧ (s.refuseEvent).flash = s.flash ∧
    (s.refuseEvent).ctrsAt = s.ctrsAt ∧ (s.refuseEvent).attn = s.attn ∧ (s.refuseEvent).partnerLog = s.partnerLog ∧
    (s.refuseEvent).bbx = s.bbx ∧ (s.refuseEvent).sens = s.sens ∧ (s.refuseEvent).panel = s.panel ∧
    (s.refuseEvent).ports = s.ports ∧ (s.refuseEvent).cages = s.cages ∧ (s.refuseEvent).tcp = s.tcp ∧
    (s.refuseEvent).streams = s.streams ∧ (s.refuseEvent).time = s.time ∧ (s.refuseEvent).align = s.align ∧
    (s.refuseEvent).swage = s.swage ∧ (s.refuseEvent).osc = s.osc ∧ (s.refuseEvent).isl = s.isl ∧
    (s.refuseEvent).sch = s.sch ∧ (s.refuseEvent).logic = s.logic ∧ (s.refuseEvent).cap = s.cap ∧
    (s.refuseEvent).pub = s.pub ∧ (s.refuseEvent).pair = s.pair ∧ (s.refuseEvent).otp = s.otp ∧
    (s.refuseEvent).vault = s.vault ∧ (s.refuseEvent).emp = s.emp ∧ (s.refuseEvent).tap = s.tap ∧
    (s.refuseEvent).ext = s.ext ∧ (s.refuseEvent).served = s.served ∧ (s.refuseEvent).free = s.free ∧
    (s.refuseEvent).pending = s.pending := by
  simp [State.refuseEvent]

/-- Delivery noted. -/
@[simp] theorem State.deliveredFn_frame (s : State) (n u : Nat) :
    (s.deliveredFn n u).img = s.img ∧ (s.deliveredFn n u).flash = s.flash ∧ (s.deliveredFn n u).ctrs = s.ctrs ∧
    (s.deliveredFn n u).ctrsAt = s.ctrsAt ∧ (s.deliveredFn n u).attn = s.attn ∧
    (s.deliveredFn n u).partnerLog = s.partnerLog ∧ (s.deliveredFn n u).bbx = s.bbx ∧
    (s.deliveredFn n u).sens = s.sens ∧ (s.deliveredFn n u).panel = s.panel ∧ (s.deliveredFn n u).ports = s.ports ∧
    (s.deliveredFn n u).cages = s.cages ∧ (s.deliveredFn n u).tcp = s.tcp ∧ (s.deliveredFn n u).streams = s.streams ∧
    (s.deliveredFn n u).time = s.time ∧ (s.deliveredFn n u).align = s.align ∧ (s.deliveredFn n u).swage = s.swage ∧
    (s.deliveredFn n u).osc = s.osc ∧ (s.deliveredFn n u).isl = s.isl ∧ (s.deliveredFn n u).sch = s.sch ∧
    (s.deliveredFn n u).logic = s.logic ∧ (s.deliveredFn n u).cap = s.cap ∧ (s.deliveredFn n u).pub = s.pub ∧
    (s.deliveredFn n u).pair = s.pair ∧ (s.deliveredFn n u).otp = s.otp ∧ (s.deliveredFn n u).vault = s.vault ∧
    (s.deliveredFn n u).emp = s.emp ∧ (s.deliveredFn n u).tap = s.tap ∧ (s.deliveredFn n u).ext = s.ext ∧
    (s.deliveredFn n u).served = s.served ∧ (s.deliveredFn n u).free = s.free ∧
    (s.deliveredFn n u).pending = s.pending := by
  unfold State.deliveredFn; split <;> simp

/-- Convergence noted (R52). -/
@[simp] theorem State.converge_frame (s : State) (n u : Nat) :
    (s.converge n u).img = s.img ∧ (s.converge n u).flash = s.flash ∧ (s.converge n u).ctrs = s.ctrs ∧
    (s.converge n u).ctrsAt = s.ctrsAt ∧ (s.converge n u).attn = s.attn ∧
    (s.converge n u).partnerLog = s.partnerLog ∧ (s.converge n u).bbx = s.bbx ∧ (s.converge n u).sens = s.sens ∧
    (s.converge n u).panel = s.panel ∧ (s.converge n u).ports = s.ports ∧ (s.converge n u).cages = s.cages ∧
    (s.converge n u).tcp = s.tcp ∧ (s.converge n u).streams = s.streams ∧ (s.converge n u).time = s.time ∧
    (s.converge n u).align = s.align ∧ (s.converge n u).swage = s.swage ∧ (s.converge n u).osc = s.osc ∧
    (s.converge n u).isl = s.isl ∧ (s.converge n u).sch = s.sch ∧ (s.converge n u).logic = s.logic ∧
    (s.converge n u).cap = s.cap ∧ (s.converge n u).pub = s.pub ∧ (s.converge n u).pair = s.pair ∧
    (s.converge n u).otp = s.otp ∧ (s.converge n u).vault = s.vault ∧ (s.converge n u).emp = s.emp ∧
    (s.converge n u).tap = s.tap ∧ (s.converge n u).ext = s.ext ∧ (s.converge n u).served = s.served ∧
    (s.converge n u).free = s.free ∧ (s.converge n u).pending = s.pending := by
  unfold State.converge; simp only []; split <;> simp

/-- The mode after a transition is the one it enters (R42). -/
@[simp] theorem State.transit_mode (s : State) (n : Nat) (m : Mode) (l : Nat) (c : AttClass) :
    (s.transit n m l c).boot = { s.boot with mode := m } := by
  simp [State.transit]

/-- Reading back a stored key. -/
theorem aget_aput {K V : Type} [DecidableEq K] (m : List (K × V)) (k k' : K) (v : V) :
    aget (aput m k v) k' = if k = k' then some v else aget m k' := by
  induction m with
  | nil => simp [aput, aget]
  | cons e m ih =>
    obtain ⟨a, b⟩ := e
    unfold aput
    by_cases h : a = k
    · subst h
      simp only [if_true, aget]
      split <;> rfl
    · simp only [h, if_false, aget, ih]
      by_cases h2 : a = k'
      · subst h2
        simp [Ne.symm h]
      · simp [h2]

/-- A counter after a count (R9): it saturates at 0xFFFF_FFFF; every other counter keeps its value. -/
theorem State.ctr_bumpBy (s : State) (k k' : CtrKey) (n : Nat) :
    (s.bumpBy k n).ctr k' = if k = k' then satAdd (s.ctr k) n else s.ctr k' := by
  by_cases h : k = k' <;> simp [State.ctr, agetD, State.bumpBy, aget_aput, h]

/-- A counter after one more event (R9). -/
theorem State.ctr_bump (s : State) (k k' : CtrKey) :
    (s.bump k).ctr k' = if k = k' then satAdd (s.ctr k) 1 else s.ctr k' := s.ctr_bumpBy k k' 1

end Sys2Proof.Machine
end

