-- ==== Sys2Proof/Laws/ForAll.lean ====
section
/-! SUPPORT. Loops and conditionals over State, field by field: a loop whose every round keeps a field keeps it. -/

namespace Sys2Proof.Machine

/-- A loop keeps what every round keeps. -/
theorem forAll_keep {σ α β : Type} (g : σ → β) (f : σ → α → σ) (h : ∀ s x, g (f s x) = g s) (xs : List α) (s : σ) :
    g (forAll xs s f) = g s := by
  induction xs generalizing s with
  | nil => rfl
  | cons x xs ih => exact (ih (f s x)).trans (h s x)

/-- A loop keeps an invariant that every round keeps. -/
theorem forAll_inv {σ α : Type} (P : σ → Prop) (f : σ → α → σ) (h : ∀ s x, P s → P (f s x)) (xs : List α) (s : σ) (hs : P s) :
    P (forAll xs s f) := by
  induction xs generalizing s with
  | nil => exact hs
  | cons x xs ih => exact ih (f s x) (h s x hs)

@[simp] theorem forAll_boot {α : Type} (xs : List α) (s : State) (f : State → α → State) (h : ∀ s x, (f s x).boot = s.boot) :
    (forAll xs s f).boot = s.boot := forAll_keep (fun s => s.boot) f h xs s
@[simp] theorem ite_boot (c : Prop) [Decidable c] (a b : State) : (if c then a else b).boot = if c then a.boot else b.boot := by
  split <;> rfl
@[simp] theorem forAll_img {α : Type} (xs : List α) (s : State) (f : State → α → State) (h : ∀ s x, (f s x).img = s.img) :
    (forAll xs s f).img = s.img := forAll_keep (fun s => s.img) f h xs s
@[simp] theorem ite_img (c : Prop) [Decidable c] (a b : State) : (if c then a else b).img = if c then a.img else b.img := by
  split <;> rfl
@[simp] theorem forAll_flash {α : Type} (xs : List α) (s : State) (f : State → α → State) (h : ∀ s x, (f s x).flash = s.flash) :
    (forAll xs s f).flash = s.flash := forAll_keep (fun s => s.flash) f h xs s
@[simp] theorem ite_flash (c : Prop) [Decidable c] (a b : State) : (if c then a else b).flash = if c then a.flash else b.flash := by
  split <;> rfl
@[simp] theorem forAll_ctrs {α : Type} (xs : List α) (s : State) (f : State → α → State) (h : ∀ s x, (f s x).ctrs = s.ctrs) :
    (forAll xs s f).ctrs = s.ctrs := forAll_keep (fun s => s.ctrs) f h xs s
@[simp] theorem ite_ctrs (c : Prop) [Decidable c] (a b : State) : (if c then a else b).ctrs = if c then a.ctrs else b.ctrs := by
  split <;> rfl
@[simp] theorem forAll_ctrsAt {α : Type} (xs : List α) (s : State) (f : State → α → State) (h : ∀ s x, (f s x).ctrsAt = s.ctrsAt) :
    (forAll xs s f).ctrsAt = s.ctrsAt := forAll_keep (fun s => s.ctrsAt) f h xs s
@[simp] theorem ite_ctrsAt (c : Prop) [Decidable c] (a b : State) : (if c then a else b).ctrsAt = if c then a.ctrsAt else b.ctrsAt := by
  split <;> rfl
@[simp] theorem forAll_attn {α : Type} (xs : List α) (s : State) (f : State → α → State) (h : ∀ s x, (f s x).attn = s.attn) :
    (forAll xs s f).attn = s.attn := forAll_keep (fun s => s.attn) f h xs s
@[simp] theorem ite_attn (c : Prop) [Decidable c] (a b : State) : (if c then a else b).attn = if c then a.attn else b.attn := by
  split <;> rfl
@[simp] theorem forAll_partnerLog {α : Type} (xs : List α) (s : State) (f : State → α → State) (h : ∀ s x, (f s x).partnerLog = s.partnerLog) :
    (forAll xs s f).partnerLog = s.partnerLog := forAll_keep (fun s => s.partnerLog) f h xs s
@[simp] theorem ite_partnerLog (c : Prop) [Decidable c] (a b : State) : (if c then a else b).partnerLog = if c then a.partnerLog else b.partnerLog := by
  split <;> rfl
@[simp] theorem forAll_bbx {α : Type} (xs : List α) (s : State) (f : State → α → State) (h : ∀ s x, (f s x).bbx = s.bbx) :
    (forAll xs s f).bbx = s.bbx := forAll_keep (fun s => s.bbx) f h xs s
@[simp] theorem ite_bbx (c : Prop) [Decidable c] (a b : State) : (if c then a else b).bbx = if c then a.bbx else b.bbx := by
  split <;> rfl
@[simp] theorem forAll_sens {α : Type} (xs : List α) (s : State) (f : State → α → State) (h : ∀ s x, (f s x).sens = s.sens) :
    (forAll xs s f).sens = s.sens := forAll_keep (fun s => s.sens) f h xs s
@[simp] theorem ite_sens (c : Prop) [Decidable c] (a b : State) : (if c then a else b).sens = if c then a.sens else b.sens := by
  split <;> rfl
@[simp] theorem forAll_panel {α : Type} (xs : List α) (s : State) (f : State → α → State) (h : ∀ s x, (f s x).panel = s.panel) :
    (forAll xs s f).panel = s.panel := forAll_keep (fun s => s.panel) f h xs s
@[simp] theorem ite_panel (c : Prop) [Decidable c] (a b : State) : (if c then a else b).panel = if c then a.panel else b.panel := by
  split <;> rfl
@[simp] theorem forAll_ports {α : Type} (xs : List α) (s : State) (f : State → α → State) (h : ∀ s x, (f s x).ports = s.ports) :
    (forAll xs s f).ports = s.ports := forAll_keep (fun s => s.ports) f h xs s
@[simp] theorem ite_ports (c : Prop) [Decidable c] (a b : State) : (if c then a else b).ports = if c then a.ports else b.ports := by
  split <;> rfl
@[simp] theorem forAll_cages {α : Type} (xs : List α) (s : State) (f : State → α → State) (h : ∀ s x, (f s x).cages = s.cages) :
    (forAll xs s f).cages = s.cages := forAll_keep (fun s => s.cages) f h xs s
@[simp] theorem ite_cages (c : Prop) [Decidable c] (a b : State) : (if c then a else b).cages = if c then a.cages else b.cages := by
  split <;> rfl
@[simp] theorem forAll_tcp {α : Type} (xs : List α) (s : State) (f : State → α → State) (h : ∀ s x, (f s x).tcp = s.tcp) :
    (forAll xs s f).tcp = s.tcp := forAll_keep (fun s => s.tcp) f h xs s
@[simp] theorem ite_tcp (c : Prop) [Decidable c] (a b : State) : (if c then a else b).tcp = if c then a.tcp else b.tcp := by
  split <;> rfl
@[simp] theorem forAll_streams {α : Type} (xs : List α) (s : State) (f : State → α → State) (h : ∀ s x, (f s x).streams = s.streams) :
    (forAll xs s f).streams = s.streams := forAll_keep (fun s => s.streams) f h xs s
@[simp] theorem ite_streams (c : Prop) [Decidable c] (a b : State) : (if c then a else b).streams = if c then a.streams else b.streams := by
  split <;> rfl
@[simp] theorem forAll_time {α : Type} (xs : List α) (s : State) (f : State → α → State) (h : ∀ s x, (f s x).time = s.time) :
    (forAll xs s f).time = s.time := forAll_keep (fun s => s.time) f h xs s
@[simp] theorem ite_time (c : Prop) [Decidable c] (a b : State) : (if c then a else b).time = if c then a.time else b.time := by
  split <;> rfl
@[simp] theorem forAll_align {α : Type} (xs : List α) (s : State) (f : State → α → State) (h : ∀ s x, (f s x).align = s.align) :
    (forAll xs s f).align = s.align := forAll_keep (fun s => s.align) f h xs s
@[simp] theorem ite_align (c : Prop) [Decidable c] (a b : State) : (if c then a else b).align = if c then a.align else b.align := by
  split <;> rfl
@[simp] theorem forAll_swage {α : Type} (xs : List α) (s : State) (f : State → α → State) (h : ∀ s x, (f s x).swage = s.swage) :
    (forAll xs s f).swage = s.swage := forAll_keep (fun s => s.swage) f h xs s
@[simp] theorem ite_swage (c : Prop) [Decidable c] (a b : State) : (if c then a else b).swage = if c then a.swage else b.swage := by
  split <;> rfl
@[simp] theorem forAll_osc {α : Type} (xs : List α) (s : State) (f : State → α → State) (h : ∀ s x, (f s x).osc = s.osc) :
    (forAll xs s f).osc = s.osc := forAll_keep (fun s => s.osc) f h xs s
@[simp] theorem ite_osc (c : Prop) [Decidable c] (a b : State) : (if c then a else b).osc = if c then a.osc else b.osc := by
  split <;> rfl
@[simp] theorem forAll_isl {α : Type} (xs : List α) (s : State) (f : State → α → State) (h : ∀ s x, (f s x).isl = s.isl) :
    (forAll xs s f).isl = s.isl := forAll_keep (fun s => s.isl) f h xs s
@[simp] theorem ite_isl (c : Prop) [Decidable c] (a b : State) : (if c then a else b).isl = if c then a.isl else b.isl := by
  split <;> rfl
@[simp] theorem forAll_sch {α : Type} (xs : List α) (s : State) (f : State → α → State) (h : ∀ s x, (f s x).sch = s.sch) :
    (forAll xs s f).sch = s.sch := forAll_keep (fun s => s.sch) f h xs s
@[simp] theorem ite_sch (c : Prop) [Decidable c] (a b : State) : (if c then a else b).sch = if c then a.sch else b.sch := by
  split <;> rfl
@[simp] theorem forAll_logic {α : Type} (xs : List α) (s : State) (f : State → α → State) (h : ∀ s x, (f s x).logic = s.logic) :
    (forAll xs s f).logic = s.logic := forAll_keep (fun s => s.logic) f h xs s
@[simp] theorem ite_logic (c : Prop) [Decidable c] (a b : State) : (if c then a else b).logic = if c then a.logic else b.logic := by
  split <;> rfl
@[simp] theorem forAll_cap {α : Type} (xs : List α) (s : State) (f : State → α → State) (h : ∀ s x, (f s x).cap = s.cap) :
    (forAll xs s f).cap = s.cap := forAll_keep (fun s => s.cap) f h xs s
@[simp] theorem ite_cap (c : Prop) [Decidable c] (a b : State) : (if c then a else b).cap = if c then a.cap else b.cap := by
  split <;> rfl
@[simp] theorem forAll_pub {α : Type} (xs : List α) (s : State) (f : State → α → State) (h : ∀ s x, (f s x).pub = s.pub) :
    (forAll xs s f).pub = s.pub := forAll_keep (fun s => s.pub) f h xs s
@[simp] theorem ite_pub (c : Prop) [Decidable c] (a b : State) : (if c then a else b).pub = if c then a.pub else b.pub := by
  split <;> rfl
@[simp] theorem forAll_pair {α : Type} (xs : List α) (s : State) (f : State → α → State) (h : ∀ s x, (f s x).pair = s.pair) :
    (forAll xs s f).pair = s.pair := forAll_keep (fun s => s.pair) f h xs s
@[simp] theorem ite_pair (c : Prop) [Decidable c] (a b : State) : (if c then a else b).pair = if c then a.pair else b.pair := by
  split <;> rfl
@[simp] theorem forAll_otp {α : Type} (xs : List α) (s : State) (f : State → α → State) (h : ∀ s x, (f s x).otp = s.otp) :
    (forAll xs s f).otp = s.otp := forAll_keep (fun s => s.otp) f h xs s
@[simp] theorem ite_otp (c : Prop) [Decidable c] (a b : State) : (if c then a else b).otp = if c then a.otp else b.otp := by
  split <;> rfl
@[simp] theorem forAll_vault {α : Type} (xs : List α) (s : State) (f : State → α → State) (h : ∀ s x, (f s x).vault = s.vault) :
    (forAll xs s f).vault = s.vault := forAll_keep (fun s => s.vault) f h xs s
@[simp] theorem ite_vault (c : Prop) [Decidable c] (a b : State) : (if c then a else b).vault = if c then a.vault else b.vault := by
  split <;> rfl
@[simp] theorem forAll_emp {α : Type} (xs : List α) (s : State) (f : State → α → State) (h : ∀ s x, (f s x).emp = s.emp) :
    (forAll xs s f).emp = s.emp := forAll_keep (fun s => s.emp) f h xs s
@[simp] theorem ite_emp (c : Prop) [Decidable c] (a b : State) : (if c then a else b).emp = if c then a.emp else b.emp := by
  split <;> rfl
@[simp] theorem forAll_tap {α : Type} (xs : List α) (s : State) (f : State → α → State) (h : ∀ s x, (f s x).tap = s.tap) :
    (forAll xs s f).tap = s.tap := forAll_keep (fun s => s.tap) f h xs s
@[simp] theorem ite_tap (c : Prop) [Decidable c] (a b : State) : (if c then a else b).tap = if c then a.tap else b.tap := by
  split <;> rfl
@[simp] theorem forAll_ext {α : Type} (xs : List α) (s : State) (f : State → α → State) (h : ∀ s x, (f s x).ext = s.ext) :
    (forAll xs s f).ext = s.ext := forAll_keep (fun s => s.ext) f h xs s
@[simp] theorem ite_ext (c : Prop) [Decidable c] (a b : State) : (if c then a else b).ext = if c then a.ext else b.ext := by
  split <;> rfl
@[simp] theorem forAll_served {α : Type} (xs : List α) (s : State) (f : State → α → State) (h : ∀ s x, (f s x).served = s.served) :
    (forAll xs s f).served = s.served := forAll_keep (fun s => s.served) f h xs s
@[simp] theorem ite_served (c : Prop) [Decidable c] (a b : State) : (if c then a else b).served = if c then a.served else b.served := by
  split <;> rfl
@[simp] theorem forAll_free {α : Type} (xs : List α) (s : State) (f : State → α → State) (h : ∀ s x, (f s x).free = s.free) :
    (forAll xs s f).free = s.free := forAll_keep (fun s => s.free) f h xs s
@[simp] theorem ite_free (c : Prop) [Decidable c] (a b : State) : (if c then a else b).free = if c then a.free else b.free := by
  split <;> rfl
@[simp] theorem forAll_pending {α : Type} (xs : List α) (s : State) (f : State → α → State) (h : ∀ s x, (f s x).pending = s.pending) :
    (forAll xs s f).pending = s.pending := forAll_keep (fun s => s.pending) f h xs s
@[simp] theorem ite_pending (c : Prop) [Decidable c] (a b : State) : (if c then a else b).pending = if c then a.pending else b.pending := by
  split <;> rfl

end Sys2Proof.Machine
end

