-- ==== Sys2Proof/Laws/FrameOps.lean ====
section
/-! SUPPORT. What each operation of Machine/Ops.lean leaves unchanged: one frame lemma per operation. -/

namespace Sys2Proof.Machine

@[simp] theorem State.unconverge_frame (s : State) :
    (State.unconverge s).img = s.img ∧ (State.unconverge s).flash = s.flash ∧ (State.unconverge s).ctrs = s.ctrs ∧
    (State.unconverge s).ctrsAt = s.ctrsAt ∧ (State.unconverge s).attn = s.attn ∧
    (State.unconverge s).partnerLog = s.partnerLog ∧ (State.unconverge s).bbx = s.bbx ∧
    (State.unconverge s).sens = s.sens ∧ (State.unconverge s).panel = s.panel ∧ (State.unconverge s).ports = s.ports ∧
    (State.unconverge s).cages = s.cages ∧ (State.unconverge s).tcp = s.tcp ∧ (State.unconverge s).streams = s.streams ∧
    (State.unconverge s).time = s.time ∧ (State.unconverge s).align = s.align ∧ (State.unconverge s).swage = s.swage ∧
    (State.unconverge s).osc = s.osc ∧ (State.unconverge s).isl = s.isl ∧ (State.unconverge s).sch = s.sch ∧
    (State.unconverge s).logic = s.logic ∧ (State.unconverge s).cap = s.cap ∧ (State.unconverge s).pub = s.pub ∧
    (State.unconverge s).pair = s.pair ∧ (State.unconverge s).otp = s.otp ∧ (State.unconverge s).vault = s.vault ∧
    (State.unconverge s).emp = s.emp ∧ (State.unconverge s).tap = s.tap ∧ (State.unconverge s).ext = s.ext ∧
    (State.unconverge s).served = s.served ∧ (State.unconverge s).free = s.free ∧ (State.unconverge s).pending = s.pending := by
  simp [State.unconverge]

end Sys2Proof.Machine
end

