-- ==== Sys2Proof/Laws/FrameFlags.lean ====
section
/-! SUPPORT. What each operation of Machine/Flags.lean leaves unchanged: one frame lemma per operation. -/

namespace Sys2Proof.Machine

@[simp] theorem State.latchTsw_frame (s : State) :
    (State.latchTsw s).boot = s.boot ∧ (State.latchTsw s).img = s.img ∧ (State.latchTsw s).flash = s.flash ∧
    (State.latchTsw s).ctrs = s.ctrs ∧ (State.latchTsw s).ctrsAt = s.ctrsAt ∧ (State.latchTsw s).attn = s.attn ∧
    (State.latchTsw s).partnerLog = s.partnerLog ∧ (State.latchTsw s).bbx = s.bbx ∧ (State.latchTsw s).sens = s.sens ∧
    (State.latchTsw s).panel = s.panel ∧ (State.latchTsw s).ports = s.ports ∧ (State.latchTsw s).cages = s.cages ∧
    (State.latchTsw s).tcp = s.tcp ∧ (State.latchTsw s).streams = s.streams ∧ (State.latchTsw s).align = s.align ∧
    (State.latchTsw s).swage = s.swage ∧ (State.latchTsw s).osc = s.osc ∧ (State.latchTsw s).isl = s.isl ∧
    (State.latchTsw s).sch = s.sch ∧ (State.latchTsw s).logic = s.logic ∧ (State.latchTsw s).cap = s.cap ∧
    (State.latchTsw s).pub = s.pub ∧ (State.latchTsw s).pair = s.pair ∧ (State.latchTsw s).otp = s.otp ∧
    (State.latchTsw s).vault = s.vault ∧ (State.latchTsw s).emp = s.emp ∧ (State.latchTsw s).tap = s.tap ∧
    (State.latchTsw s).ext = s.ext ∧ (State.latchTsw s).served = s.served ∧ (State.latchTsw s).free = s.free ∧
    (State.latchTsw s).pending = s.pending := by
  unfold State.latchTsw
  try dsimp only
  repeat' split
  all_goals simp

end Sys2Proof.Machine
end

