-- ==== Sys2Proof/Laws/FrameFlash.lean ====
section
/-! SUPPORT. What each operation of Machine/Flash.lean leaves unchanged: one frame lemma per operation. -/

namespace Sys2Proof.Machine

@[simp] theorem State.appendStatus_frame (s : State) (k state code detail : Nat) :
    (State.appendStatus s k state code detail).boot = s.boot ∧ (State.appendStatus s k state code detail).img = s.img ∧
    (State.appendStatus s k state code detail).ctrs = s.ctrs ∧
    (State.appendStatus s k state code detail).ctrsAt = s.ctrsAt ∧
    (State.appendStatus s k state code detail).attn = s.attn ∧
    (State.appendStatus s k state code detail).partnerLog = s.partnerLog ∧
    (State.appendStatus s k state code detail).bbx = s.bbx ∧ (State.appendStatus s k state code detail).sens = s.sens ∧
    (State.appendStatus s k state code detail).panel = s.panel ∧
    (State.appendStatus s k state code detail).ports = s.ports ∧
    (State.appendStatus s k state code detail).cages = s.cages ∧ (State.appendStatus s k state code detail).tcp = s.tcp ∧
    (State.appendStatus s k state code detail).streams = s.streams ∧
    (State.appendStatus s k state code detail).time = s.time ∧
    (State.appendStatus s k state code detail).align = s.align ∧
    (State.appendStatus s k state code detail).swage = s.swage ∧ (State.appendStatus s k state code detail).osc = s.osc ∧
    (State.appendStatus s k state code detail).isl = s.isl ∧ (State.appendStatus s k state code detail).sch = s.sch ∧
    (State.appendStatus s k state code detail).logic = s.logic ∧ (State.appendStatus s k state code detail).cap = s.cap ∧
    (State.appendStatus s k state code detail).pub = s.pub ∧ (State.appendStatus s k state code detail).pair = s.pair ∧
    (State.appendStatus s k state code detail).otp = s.otp ∧ (State.appendStatus s k state code detail).vault = s.vault ∧
    (State.appendStatus s k state code detail).emp = s.emp ∧ (State.appendStatus s k state code detail).tap = s.tap ∧
    (State.appendStatus s k state code detail).ext = s.ext ∧
    (State.appendStatus s k state code detail).served = s.served ∧
    (State.appendStatus s k state code detail).free = s.free ∧
    (State.appendStatus s k state code detail).pending = s.pending := by
  unfold State.appendStatus
  try dsimp only
  repeat' split
  all_goals simp

@[simp] theorem State.loadResult_frame (s : State) (k code detail : Nat) :
    (State.loadResult s k code detail).img = s.img ∧ (State.loadResult s k code detail).flash = s.flash ∧
    (State.loadResult s k code detail).ctrsAt = s.ctrsAt ∧ (State.loadResult s k code detail).partnerLog = s.partnerLog ∧
    (State.loadResult s k code detail).panel = s.panel ∧ (State.loadResult s k code detail).cages = s.cages ∧
    (State.loadResult s k code detail).tcp = s.tcp ∧ (State.loadResult s k code detail).streams = s.streams ∧
    (State.loadResult s k code detail).time = s.time ∧ (State.loadResult s k code detail).align = s.align ∧
    (State.loadResult s k code detail).swage = s.swage ∧ (State.loadResult s k code detail).osc = s.osc ∧
    (State.loadResult s k code detail).isl = s.isl ∧ (State.loadResult s k code detail).sch = s.sch ∧
    (State.loadResult s k code detail).logic = s.logic ∧ (State.loadResult s k code detail).cap = s.cap ∧
    (State.loadResult s k code detail).pub = s.pub ∧ (State.loadResult s k code detail).otp = s.otp ∧
    (State.loadResult s k code detail).vault = s.vault ∧ (State.loadResult s k code detail).emp = s.emp ∧
    (State.loadResult s k code detail).tap = s.tap ∧ (State.loadResult s k code detail).ext = s.ext ∧
    (State.loadResult s k code detail).served = s.served ∧ (State.loadResult s k code detail).free = s.free ∧
    (State.loadResult s k code detail).pending = s.pending := by
  simp [State.loadResult]

@[simp] theorem State.markGood_frame (s : State) :
    (State.markGood s).img = s.img ∧ (State.markGood s).ctrs = s.ctrs ∧ (State.markGood s).ctrsAt = s.ctrsAt ∧
    (State.markGood s).attn = s.attn ∧ (State.markGood s).partnerLog = s.partnerLog ∧ (State.markGood s).bbx = s.bbx ∧
    (State.markGood s).sens = s.sens ∧ (State.markGood s).panel = s.panel ∧ (State.markGood s).ports = s.ports ∧
    (State.markGood s).cages = s.cages ∧ (State.markGood s).tcp = s.tcp ∧ (State.markGood s).streams = s.streams ∧
    (State.markGood s).time = s.time ∧ (State.markGood s).align = s.align ∧ (State.markGood s).swage = s.swage ∧
    (State.markGood s).osc = s.osc ∧ (State.markGood s).isl = s.isl ∧ (State.markGood s).sch = s.sch ∧
    (State.markGood s).logic = s.logic ∧ (State.markGood s).cap = s.cap ∧ (State.markGood s).pub = s.pub ∧
    (State.markGood s).pair = s.pair ∧ (State.markGood s).otp = s.otp ∧ (State.markGood s).vault = s.vault ∧
    (State.markGood s).emp = s.emp ∧ (State.markGood s).tap = s.tap ∧ (State.markGood s).ext = s.ext ∧
    (State.markGood s).served = s.served ∧ (State.markGood s).free = s.free ∧ (State.markGood s).pending = s.pending := by
  simp [State.markGood]

@[simp] theorem State.burnEpoch_frame (s : State) :
    (State.burnEpoch s).boot = s.boot ∧ (State.burnEpoch s).img = s.img ∧ (State.burnEpoch s).flash = s.flash ∧
    (State.burnEpoch s).ctrs = s.ctrs ∧ (State.burnEpoch s).ctrsAt = s.ctrsAt ∧ (State.burnEpoch s).attn = s.attn ∧
    (State.burnEpoch s).partnerLog = s.partnerLog ∧ (State.burnEpoch s).bbx = s.bbx ∧ (State.burnEpoch s).sens = s.sens ∧
    (State.burnEpoch s).panel = s.panel ∧ (State.burnEpoch s).ports = s.ports ∧ (State.burnEpoch s).cages = s.cages ∧
    (State.burnEpoch s).tcp = s.tcp ∧ (State.burnEpoch s).streams = s.streams ∧ (State.burnEpoch s).time = s.time ∧
    (State.burnEpoch s).align = s.align ∧ (State.burnEpoch s).swage = s.swage ∧ (State.burnEpoch s).osc = s.osc ∧
    (State.burnEpoch s).isl = s.isl ∧ (State.burnEpoch s).sch = s.sch ∧ (State.burnEpoch s).logic = s.logic ∧
    (State.burnEpoch s).cap = s.cap ∧ (State.burnEpoch s).pub = s.pub ∧ (State.burnEpoch s).pair = s.pair ∧
    (State.burnEpoch s).vault = s.vault ∧ (State.burnEpoch s).emp = s.emp ∧ (State.burnEpoch s).tap = s.tap ∧
    (State.burnEpoch s).ext = s.ext ∧ (State.burnEpoch s).served = s.served ∧ (State.burnEpoch s).free = s.free ∧
    (State.burnEpoch s).pending = s.pending := by
  simp [State.burnEpoch]

end Sys2Proof.Machine
end

