-- ==== Sys2Proof/Laws/FrameVault.lean ====
section
/-! SUPPORT. What each operation of Machine/Vault.lean leaves unchanged: one frame lemma per operation. -/

namespace Sys2Proof.Machine

@[simp] theorem State.putSlot_frame (s : State) (k : Nat) (x : Slot) :
    (State.putSlot s k x).boot = s.boot ∧ (State.putSlot s k x).img = s.img ∧ (State.putSlot s k x).flash = s.flash ∧
    (State.putSlot s k x).ctrs = s.ctrs ∧ (State.putSlot s k x).ctrsAt = s.ctrsAt ∧ (State.putSlot s k x).attn = s.attn ∧
    (State.putSlot s k x).partnerLog = s.partnerLog ∧ (State.putSlot s k x).bbx = s.bbx ∧
    (State.putSlot s k x).sens = s.sens ∧ (State.putSlot s k x).panel = s.panel ∧ (State.putSlot s k x).ports = s.ports ∧
    (State.putSlot s k x).cages = s.cages ∧ (State.putSlot s k x).tcp = s.tcp ∧
    (State.putSlot s k x).streams = s.streams ∧ (State.putSlot s k x).time = s.time ∧
    (State.putSlot s k x).align = s.align ∧ (State.putSlot s k x).swage = s.swage ∧ (State.putSlot s k x).osc = s.osc ∧
    (State.putSlot s k x).isl = s.isl ∧ (State.putSlot s k x).sch = s.sch ∧ (State.putSlot s k x).logic = s.logic ∧
    (State.putSlot s k x).cap = s.cap ∧ (State.putSlot s k x).pub = s.pub ∧ (State.putSlot s k x).pair = s.pair ∧
    (State.putSlot s k x).otp = s.otp ∧ (State.putSlot s k x).emp = s.emp ∧ (State.putSlot s k x).tap = s.tap ∧
    (State.putSlot s k x).ext = s.ext ∧ (State.putSlot s k x).served = s.served ∧ (State.putSlot s k x).free = s.free ∧
    (State.putSlot s k x).pending = s.pending := by
  simp [State.putSlot]

@[simp] theorem State.countUse_frame (s : State) (k : Nat) (second : Bool) :
    (State.countUse s k second).boot = s.boot ∧ (State.countUse s k second).img = s.img ∧
    (State.countUse s k second).flash = s.flash ∧ (State.countUse s k second).ctrsAt = s.ctrsAt ∧
    (State.countUse s k second).partnerLog = s.partnerLog ∧ (State.countUse s k second).bbx = s.bbx ∧
    (State.countUse s k second).sens = s.sens ∧ (State.countUse s k second).panel = s.panel ∧
    (State.countUse s k second).cages = s.cages ∧ (State.countUse s k second).tcp = s.tcp ∧
    (State.countUse s k second).streams = s.streams ∧ (State.countUse s k second).time = s.time ∧
    (State.countUse s k second).align = s.align ∧ (State.countUse s k second).swage = s.swage ∧
    (State.countUse s k second).osc = s.osc ∧ (State.countUse s k second).isl = s.isl ∧
    (State.countUse s k second).sch = s.sch ∧ (State.countUse s k second).logic = s.logic ∧
    (State.countUse s k second).cap = s.cap ∧ (State.countUse s k second).pub = s.pub ∧
    (State.countUse s k second).otp = s.otp ∧ (State.countUse s k second).emp = s.emp ∧
    (State.countUse s k second).tap = s.tap ∧ (State.countUse s k second).ext = s.ext ∧
    (State.countUse s k second).served = s.served ∧ (State.countUse s k second).free = s.free ∧
    (State.countUse s k second).pending = s.pending := by
  unfold State.countUse
  try dsimp only
  repeat' split
  all_goals simp

@[simp] theorem State.ensureRoot_frame (s : State) :
    (State.ensureRoot s).boot = s.boot ∧ (State.ensureRoot s).img = s.img ∧ (State.ensureRoot s).flash = s.flash ∧
    (State.ensureRoot s).ctrs = s.ctrs ∧ (State.ensureRoot s).ctrsAt = s.ctrsAt ∧ (State.ensureRoot s).attn = s.attn ∧
    (State.ensureRoot s).partnerLog = s.partnerLog ∧ (State.ensureRoot s).bbx = s.bbx ∧
    (State.ensureRoot s).sens = s.sens ∧ (State.ensureRoot s).panel = s.panel ∧ (State.ensureRoot s).ports = s.ports ∧
    (State.ensureRoot s).cages = s.cages ∧ (State.ensureRoot s).tcp = s.tcp ∧ (State.ensureRoot s).streams = s.streams ∧
    (State.ensureRoot s).time = s.time ∧ (State.ensureRoot s).align = s.align ∧ (State.ensureRoot s).swage = s.swage ∧
    (State.ensureRoot s).osc = s.osc ∧ (State.ensureRoot s).isl = s.isl ∧ (State.ensureRoot s).sch = s.sch ∧
    (State.ensureRoot s).logic = s.logic ∧ (State.ensureRoot s).cap = s.cap ∧ (State.ensureRoot s).pub = s.pub ∧
    (State.ensureRoot s).pair = s.pair ∧ (State.ensureRoot s).otp = s.otp ∧ (State.ensureRoot s).emp = s.emp ∧
    (State.ensureRoot s).tap = s.tap ∧ (State.ensureRoot s).ext = s.ext ∧ (State.ensureRoot s).served = s.served ∧
    (State.ensureRoot s).pending = s.pending := by
  unfold State.ensureRoot
  split <;> simp

@[simp] theorem State.writeIdle_frame (s : State) (k : Nat) (h : Half) :
    (State.writeIdle s k h).boot = s.boot ∧ (State.writeIdle s k h).img = s.img ∧
    (State.writeIdle s k h).flash = s.flash ∧ (State.writeIdle s k h).ctrs = s.ctrs ∧
    (State.writeIdle s k h).ctrsAt = s.ctrsAt ∧ (State.writeIdle s k h).attn = s.attn ∧
    (State.writeIdle s k h).partnerLog = s.partnerLog ∧ (State.writeIdle s k h).bbx = s.bbx ∧
    (State.writeIdle s k h).sens = s.sens ∧ (State.writeIdle s k h).panel = s.panel ∧
    (State.writeIdle s k h).ports = s.ports ∧ (State.writeIdle s k h).cages = s.cages ∧
    (State.writeIdle s k h).tcp = s.tcp ∧ (State.writeIdle s k h).streams = s.streams ∧
    (State.writeIdle s k h).time = s.time ∧ (State.writeIdle s k h).align = s.align ∧
    (State.writeIdle s k h).swage = s.swage ∧ (State.writeIdle s k h).osc = s.osc ∧ (State.writeIdle s k h).isl = s.isl ∧
    (State.writeIdle s k h).sch = s.sch ∧ (State.writeIdle s k h).logic = s.logic ∧ (State.writeIdle s k h).cap = s.cap ∧
    (State.writeIdle s k h).pub = s.pub ∧ (State.writeIdle s k h).pair = s.pair ∧ (State.writeIdle s k h).otp = s.otp ∧
    (State.writeIdle s k h).emp = s.emp ∧ (State.writeIdle s k h).tap = s.tap ∧ (State.writeIdle s k h).ext = s.ext ∧
    (State.writeIdle s k h).served = s.served ∧ (State.writeIdle s k h).pending = s.pending := by
  unfold State.writeIdle
  try dsimp only
  repeat' split
  all_goals simp

@[simp] theorem State.commitSlot_frame (s : State) (k : Nat) :
    (State.commitSlot s k).boot = s.boot ∧ (State.commitSlot s k).img = s.img ∧ (State.commitSlot s k).flash = s.flash ∧
    (State.commitSlot s k).ctrsAt = s.ctrsAt ∧ (State.commitSlot s k).partnerLog = s.partnerLog ∧
    (State.commitSlot s k).bbx = s.bbx ∧ (State.commitSlot s k).sens = s.sens ∧ (State.commitSlot s k).panel = s.panel ∧
    (State.commitSlot s k).cages = s.cages ∧ (State.commitSlot s k).tcp = s.tcp ∧
    (State.commitSlot s k).streams = s.streams ∧ (State.commitSlot s k).time = s.time ∧
    (State.commitSlot s k).align = s.align ∧ (State.commitSlot s k).swage = s.swage ∧
    (State.commitSlot s k).osc = s.osc ∧ (State.commitSlot s k).isl = s.isl ∧ (State.commitSlot s k).sch = s.sch ∧
    (State.commitSlot s k).logic = s.logic ∧ (State.commitSlot s k).cap = s.cap ∧ (State.commitSlot s k).pub = s.pub ∧
    (State.commitSlot s k).otp = s.otp ∧ (State.commitSlot s k).emp = s.emp ∧ (State.commitSlot s k).tap = s.tap ∧
    (State.commitSlot s k).ext = s.ext ∧ (State.commitSlot s k).served = s.served ∧
    (State.commitSlot s k).free = s.free ∧ (State.commitSlot s k).pending = s.pending := by
  simp [State.commitSlot]

@[simp] theorem State.commitKeys_frame (s : State) :
    (State.commitKeys s).boot = s.boot ∧ (State.commitKeys s).img = s.img ∧ (State.commitKeys s).flash = s.flash ∧
    (State.commitKeys s).ctrsAt = s.ctrsAt ∧ (State.commitKeys s).partnerLog = s.partnerLog ∧
    (State.commitKeys s).bbx = s.bbx ∧ (State.commitKeys s).sens = s.sens ∧ (State.commitKeys s).panel = s.panel ∧
    (State.commitKeys s).cages = s.cages ∧ (State.commitKeys s).tcp = s.tcp ∧ (State.commitKeys s).streams = s.streams ∧
    (State.commitKeys s).time = s.time ∧ (State.commitKeys s).align = s.align ∧ (State.commitKeys s).swage = s.swage ∧
    (State.commitKeys s).osc = s.osc ∧ (State.commitKeys s).isl = s.isl ∧ (State.commitKeys s).sch = s.sch ∧
    (State.commitKeys s).logic = s.logic ∧ (State.commitKeys s).cap = s.cap ∧ (State.commitKeys s).pub = s.pub ∧
    (State.commitKeys s).otp = s.otp ∧ (State.commitKeys s).emp = s.emp ∧ (State.commitKeys s).tap = s.tap ∧
    (State.commitKeys s).ext = s.ext ∧ (State.commitKeys s).served = s.served ∧ (State.commitKeys s).free = s.free ∧
    (State.commitKeys s).pending = s.pending := by
  simp [State.commitKeys]

@[simp] theorem State.vaultReset_frame (s : State) :
    (State.vaultReset s).boot = s.boot ∧ (State.vaultReset s).img = s.img ∧ (State.vaultReset s).flash = s.flash ∧
    (State.vaultReset s).ctrs = s.ctrs ∧ (State.vaultReset s).ctrsAt = s.ctrsAt ∧ (State.vaultReset s).attn = s.attn ∧
    (State.vaultReset s).partnerLog = s.partnerLog ∧ (State.vaultReset s).bbx = s.bbx ∧
    (State.vaultReset s).sens = s.sens ∧ (State.vaultReset s).panel = s.panel ∧ (State.vaultReset s).ports = s.ports ∧
    (State.vaultReset s).cages = s.cages ∧ (State.vaultReset s).tcp = s.tcp ∧ (State.vaultReset s).streams = s.streams ∧
    (State.vaultReset s).time = s.time ∧ (State.vaultReset s).align = s.align ∧ (State.vaultReset s).swage = s.swage ∧
    (State.vaultReset s).osc = s.osc ∧ (State.vaultReset s).isl = s.isl ∧ (State.vaultReset s).sch = s.sch ∧
    (State.vaultReset s).logic = s.logic ∧ (State.vaultReset s).cap = s.cap ∧ (State.vaultReset s).pub = s.pub ∧
    (State.vaultReset s).pair = s.pair ∧ (State.vaultReset s).otp = s.otp ∧ (State.vaultReset s).emp = s.emp ∧
    (State.vaultReset s).tap = s.tap ∧ (State.vaultReset s).ext = s.ext ∧ (State.vaultReset s).served = s.served ∧
    (State.vaultReset s).free = s.free ∧ (State.vaultReset s).pending = s.pending := by
  simp [State.vaultReset]

@[simp] theorem State.zeroise_frame (s : State) (byTamper : Bool) :
    (State.zeroise s byTamper).boot = s.boot ∧ (State.zeroise s byTamper).img = s.img ∧
    (State.zeroise s byTamper).flash = s.flash ∧ (State.zeroise s byTamper).ctrsAt = s.ctrsAt ∧
    (State.zeroise s byTamper).attn = s.attn ∧ (State.zeroise s byTamper).partnerLog = s.partnerLog ∧
    (State.zeroise s byTamper).bbx = s.bbx ∧ (State.zeroise s byTamper).sens = s.sens ∧
    (State.zeroise s byTamper).panel = s.panel ∧ (State.zeroise s byTamper).ports = s.ports ∧
    (State.zeroise s byTamper).cages = s.cages ∧ (State.zeroise s byTamper).tcp = s.tcp ∧
    (State.zeroise s byTamper).streams = s.streams ∧ (State.zeroise s byTamper).time = s.time ∧
    (State.zeroise s byTamper).align = s.align ∧ (State.zeroise s byTamper).swage = s.swage ∧
    (State.zeroise s byTamper).osc = s.osc ∧ (State.zeroise s byTamper).isl = s.isl ∧
    (State.zeroise s byTamper).sch = s.sch ∧ (State.zeroise s byTamper).logic = s.logic ∧
    (State.zeroise s byTamper).cap = s.cap ∧ (State.zeroise s byTamper).pub = s.pub ∧
    (State.zeroise s byTamper).pair = s.pair ∧ (State.zeroise s byTamper).emp = s.emp ∧
    (State.zeroise s byTamper).tap = s.tap ∧ (State.zeroise s byTamper).ext = s.ext ∧
    (State.zeroise s byTamper).served = s.served ∧ (State.zeroise s byTamper).free = s.free ∧
    (State.zeroise s byTamper).pending = s.pending := by
  simp [State.zeroise]

@[simp] theorem State.tamperRecords_frame (s : State) (cls : AttClass) (aseq : Nat) (ls : List TamperLatch) :
    (State.tamperRecords s cls aseq ls).boot = s.boot ∧ (State.tamperRecords s cls aseq ls).img = s.img ∧
    (State.tamperRecords s cls aseq ls).flash = s.flash ∧ (State.tamperRecords s cls aseq ls).ctrsAt = s.ctrsAt ∧
    (State.tamperRecords s cls aseq ls).partnerLog = s.partnerLog ∧ (State.tamperRecords s cls aseq ls).panel = s.panel ∧
    (State.tamperRecords s cls aseq ls).cages = s.cages ∧ (State.tamperRecords s cls aseq ls).tcp = s.tcp ∧
    (State.tamperRecords s cls aseq ls).streams = s.streams ∧ (State.tamperRecords s cls aseq ls).time = s.time ∧
    (State.tamperRecords s cls aseq ls).align = s.align ∧ (State.tamperRecords s cls aseq ls).swage = s.swage ∧
    (State.tamperRecords s cls aseq ls).osc = s.osc ∧ (State.tamperRecords s cls aseq ls).isl = s.isl ∧
    (State.tamperRecords s cls aseq ls).sch = s.sch ∧ (State.tamperRecords s cls aseq ls).logic = s.logic ∧
    (State.tamperRecords s cls aseq ls).cap = s.cap ∧ (State.tamperRecords s cls aseq ls).pub = s.pub ∧
    (State.tamperRecords s cls aseq ls).otp = s.otp ∧ (State.tamperRecords s cls aseq ls).vault = s.vault ∧
    (State.tamperRecords s cls aseq ls).emp = s.emp ∧ (State.tamperRecords s cls aseq ls).tap = s.tap ∧
    (State.tamperRecords s cls aseq ls).ext = s.ext ∧ (State.tamperRecords s cls aseq ls).served = s.served ∧
    (State.tamperRecords s cls aseq ls).free = s.free ∧ (State.tamperRecords s cls aseq ls).pending = s.pending := by
  simp [State.tamperRecords]

@[simp] theorem State.burnRoot_frame (s : State) :
    (State.burnRoot s).boot = s.boot ∧ (State.burnRoot s).img = s.img ∧ (State.burnRoot s).flash = s.flash ∧
    (State.burnRoot s).ctrs = s.ctrs ∧ (State.burnRoot s).ctrsAt = s.ctrsAt ∧ (State.burnRoot s).attn = s.attn ∧
    (State.burnRoot s).partnerLog = s.partnerLog ∧ (State.burnRoot s).bbx = s.bbx ∧ (State.burnRoot s).sens = s.sens ∧
    (State.burnRoot s).panel = s.panel ∧ (State.burnRoot s).ports = s.ports ∧ (State.burnRoot s).cages = s.cages ∧
    (State.burnRoot s).tcp = s.tcp ∧ (State.burnRoot s).streams = s.streams ∧ (State.burnRoot s).time = s.time ∧
    (State.burnRoot s).align = s.align ∧ (State.burnRoot s).swage = s.swage ∧ (State.burnRoot s).osc = s.osc ∧
    (State.burnRoot s).isl = s.isl ∧ (State.burnRoot s).sch = s.sch ∧ (State.burnRoot s).logic = s.logic ∧
    (State.burnRoot s).cap = s.cap ∧ (State.burnRoot s).pub = s.pub ∧ (State.burnRoot s).pair = s.pair ∧
    (State.burnRoot s).vault = s.vault ∧ (State.burnRoot s).emp = s.emp ∧ (State.burnRoot s).tap = s.tap ∧
    (State.burnRoot s).ext = s.ext ∧ (State.burnRoot s).served = s.served ∧ (State.burnRoot s).pending = s.pending := by
  unfold State.burnRoot
  try dsimp only
  repeat' split
  all_goals simp

end Sys2Proof.Machine
end

