-- ==== Sys2Proof/Laws/FrameBlackBox.lean ====
section
/-! SUPPORT. What each operation of Machine/BlackBox.lean leaves unchanged: one frame lemma per operation. -/

namespace Sys2Proof.Machine

@[simp] theorem State.bbxWriteHead_frame (s : State) :
    (State.bbxWriteHead s).boot = s.boot ∧ (State.bbxWriteHead s).img = s.img ∧ (State.bbxWriteHead s).flash = s.flash ∧
    (State.bbxWriteHead s).ctrsAt = s.ctrsAt ∧ (State.bbxWriteHead s).attn = s.attn ∧
    (State.bbxWriteHead s).partnerLog = s.partnerLog ∧ (State.bbxWriteHead s).panel = s.panel ∧
    (State.bbxWriteHead s).ports = s.ports ∧ (State.bbxWriteHead s).cages = s.cages ∧
    (State.bbxWriteHead s).tcp = s.tcp ∧ (State.bbxWriteHead s).streams = s.streams ∧
    (State.bbxWriteHead s).time = s.time ∧ (State.bbxWriteHead s).align = s.align ∧
    (State.bbxWriteHead s).swage = s.swage ∧ (State.bbxWriteHead s).osc = s.osc ∧ (State.bbxWriteHead s).isl = s.isl ∧
    (State.bbxWriteHead s).sch = s.sch ∧ (State.bbxWriteHead s).logic = s.logic ∧ (State.bbxWriteHead s).cap = s.cap ∧
    (State.bbxWriteHead s).pub = s.pub ∧ (State.bbxWriteHead s).pair = s.pair ∧ (State.bbxWriteHead s).otp = s.otp ∧
    (State.bbxWriteHead s).vault = s.vault ∧ (State.bbxWriteHead s).emp = s.emp ∧ (State.bbxWriteHead s).tap = s.tap ∧
    (State.bbxWriteHead s).ext = s.ext ∧ (State.bbxWriteHead s).served = s.served ∧
    (State.bbxWriteHead s).free = s.free ∧ (State.bbxWriteHead s).pending = s.pending := by
  unfold State.bbxWriteHead
  split <;> simp

@[simp] theorem State.crossLatch_frame (s : State) (n : Nat) (value limit : Word) :
    (State.crossLatch s n value limit).boot = s.boot ∧ (State.crossLatch s n value limit).img = s.img ∧
    (State.crossLatch s n value limit).flash = s.flash ∧ (State.crossLatch s n value limit).ctrsAt = s.ctrsAt ∧
    (State.crossLatch s n value limit).partnerLog = s.partnerLog ∧ (State.crossLatch s n value limit).panel = s.panel ∧
    (State.crossLatch s n value limit).cages = s.cages ∧ (State.crossLatch s n value limit).tcp = s.tcp ∧
    (State.crossLatch s n value limit).streams = s.streams ∧ (State.crossLatch s n value limit).time = s.time ∧
    (State.crossLatch s n value limit).align = s.align ∧ (State.crossLatch s n value limit).swage = s.swage ∧
    (State.crossLatch s n value limit).osc = s.osc ∧ (State.crossLatch s n value limit).isl = s.isl ∧
    (State.crossLatch s n value limit).sch = s.sch ∧ (State.crossLatch s n value limit).logic = s.logic ∧
    (State.crossLatch s n value limit).cap = s.cap ∧ (State.crossLatch s n value limit).pub = s.pub ∧
    (State.crossLatch s n value limit).otp = s.otp ∧ (State.crossLatch s n value limit).vault = s.vault ∧
    (State.crossLatch s n value limit).emp = s.emp ∧ (State.crossLatch s n value limit).tap = s.tap ∧
    (State.crossLatch s n value limit).ext = s.ext ∧ (State.crossLatch s n value limit).served = s.served ∧
    (State.crossLatch s n value limit).free = s.free ∧ (State.crossLatch s n value limit).pending = s.pending := by
  simp [State.crossLatch]

@[simp] theorem State.releaseLatch_frame (s : State) (n : Nat) :
    (State.releaseLatch s n).boot = s.boot ∧ (State.releaseLatch s n).img = s.img ∧
    (State.releaseLatch s n).flash = s.flash ∧ (State.releaseLatch s n).ctrs = s.ctrs ∧
    (State.releaseLatch s n).ctrsAt = s.ctrsAt ∧ (State.releaseLatch s n).attn = s.attn ∧
    (State.releaseLatch s n).partnerLog = s.partnerLog ∧ (State.releaseLatch s n).bbx = s.bbx ∧
    (State.releaseLatch s n).panel = s.panel ∧ (State.releaseLatch s n).ports = s.ports ∧
    (State.releaseLatch s n).cages = s.cages ∧ (State.releaseLatch s n).tcp = s.tcp ∧
    (State.releaseLatch s n).streams = s.streams ∧ (State.releaseLatch s n).time = s.time ∧
    (State.releaseLatch s n).align = s.align ∧ (State.releaseLatch s n).swage = s.swage ∧
    (State.releaseLatch s n).osc = s.osc ∧ (State.releaseLatch s n).isl = s.isl ∧ (State.releaseLatch s n).sch = s.sch ∧
    (State.releaseLatch s n).logic = s.logic ∧ (State.releaseLatch s n).cap = s.cap ∧
    (State.releaseLatch s n).pub = s.pub ∧ (State.releaseLatch s n).pair = s.pair ∧
    (State.releaseLatch s n).otp = s.otp ∧ (State.releaseLatch s n).vault = s.vault ∧
    (State.releaseLatch s n).emp = s.emp ∧ (State.releaseLatch s n).tap = s.tap ∧ (State.releaseLatch s n).ext = s.ext ∧
    (State.releaseLatch s n).served = s.served ∧ (State.releaseLatch s n).free = s.free ∧
    (State.releaseLatch s n).pending = s.pending := by
  simp [State.releaseLatch]

@[simp] theorem State.critical_frame (s : State) :
    (State.critical s).img = s.img ∧ (State.critical s).flash = s.flash ∧ (State.critical s).ctrsAt = s.ctrsAt ∧
    (State.critical s).attn = s.attn ∧ (State.critical s).partnerLog = s.partnerLog ∧ (State.critical s).bbx = s.bbx ∧
    (State.critical s).sens = s.sens ∧ (State.critical s).panel = s.panel ∧ (State.critical s).ports = s.ports ∧
    (State.critical s).cages = s.cages ∧ (State.critical s).tcp = s.tcp ∧ (State.critical s).streams = s.streams ∧
    (State.critical s).time = s.time ∧ (State.critical s).align = s.align ∧ (State.critical s).swage = s.swage ∧
    (State.critical s).osc = s.osc ∧ (State.critical s).isl = s.isl ∧ (State.critical s).sch = s.sch ∧
    (State.critical s).logic = s.logic ∧ (State.critical s).cap = s.cap ∧ (State.critical s).pub = s.pub ∧
    (State.critical s).pair = s.pair ∧ (State.critical s).otp = s.otp ∧ (State.critical s).vault = s.vault ∧
    (State.critical s).emp = s.emp ∧ (State.critical s).tap = s.tap ∧ (State.critical s).ext = s.ext ∧
    (State.critical s).served = s.served ∧ (State.critical s).free = s.free ∧ (State.critical s).pending = s.pending := by
  simp [State.critical]

@[simp] theorem State.nonCritical_frame (s : State) :
    (State.nonCritical s).img = s.img ∧ (State.nonCritical s).flash = s.flash ∧ (State.nonCritical s).ctrsAt = s.ctrsAt ∧
    (State.nonCritical s).attn = s.attn ∧ (State.nonCritical s).partnerLog = s.partnerLog ∧
    (State.nonCritical s).bbx = s.bbx ∧ (State.nonCritical s).sens = s.sens ∧ (State.nonCritical s).panel = s.panel ∧
    (State.nonCritical s).ports = s.ports ∧ (State.nonCritical s).cages = s.cages ∧ (State.nonCritical s).tcp = s.tcp ∧
    (State.nonCritical s).streams = s.streams ∧ (State.nonCritical s).time = s.time ∧
    (State.nonCritical s).align = s.align ∧ (State.nonCritical s).swage = s.swage ∧ (State.nonCritical s).osc = s.osc ∧
    (State.nonCritical s).isl = s.isl ∧ (State.nonCritical s).sch = s.sch ∧ (State.nonCritical s).logic = s.logic ∧
    (State.nonCritical s).cap = s.cap ∧ (State.nonCritical s).pub = s.pub ∧ (State.nonCritical s).pair = s.pair ∧
    (State.nonCritical s).otp = s.otp ∧ (State.nonCritical s).vault = s.vault ∧ (State.nonCritical s).emp = s.emp ∧
    (State.nonCritical s).tap = s.tap ∧ (State.nonCritical s).ext = s.ext ∧ (State.nonCritical s).served = s.served ∧
    (State.nonCritical s).free = s.free ∧ (State.nonCritical s).pending = s.pending := by
  simp [State.nonCritical]

@[simp] theorem State.lastGasp_frame (s : State) :
    (State.lastGasp s).boot = s.boot ∧ (State.lastGasp s).img = s.img ∧ (State.lastGasp s).flash = s.flash ∧
    (State.lastGasp s).ctrsAt = s.ctrsAt ∧ (State.lastGasp s).partnerLog = s.partnerLog ∧
    (State.lastGasp s).panel = s.panel ∧ (State.lastGasp s).cages = s.cages ∧ (State.lastGasp s).tcp = s.tcp ∧
    (State.lastGasp s).streams = s.streams ∧ (State.lastGasp s).time = s.time ∧ (State.lastGasp s).align = s.align ∧
    (State.lastGasp s).swage = s.swage ∧ (State.lastGasp s).osc = s.osc ∧ (State.lastGasp s).isl = s.isl ∧
    (State.lastGasp s).sch = s.sch ∧ (State.lastGasp s).logic = s.logic ∧ (State.lastGasp s).cap = s.cap ∧
    (State.lastGasp s).pub = s.pub ∧ (State.lastGasp s).otp = s.otp ∧ (State.lastGasp s).vault = s.vault ∧
    (State.lastGasp s).emp = s.emp ∧ (State.lastGasp s).tap = s.tap ∧ (State.lastGasp s).ext = s.ext ∧
    (State.lastGasp s).served = s.served ∧ (State.lastGasp s).free = s.free ∧ (State.lastGasp s).pending = s.pending := by
  simp [State.lastGasp]

@[simp] theorem State.readRail_frame (s : State) (n : Nat) (v : Word) :
    (State.readRail s n v).boot = s.boot ∧ (State.readRail s n v).img = s.img ∧ (State.readRail s n v).flash = s.flash ∧
    (State.readRail s n v).ctrs = s.ctrs ∧ (State.readRail s n v).ctrsAt = s.ctrsAt ∧
    (State.readRail s n v).attn = s.attn ∧ (State.readRail s n v).partnerLog = s.partnerLog ∧
    (State.readRail s n v).bbx = s.bbx ∧ (State.readRail s n v).panel = s.panel ∧
    (State.readRail s n v).ports = s.ports ∧ (State.readRail s n v).cages = s.cages ∧
    (State.readRail s n v).tcp = s.tcp ∧ (State.readRail s n v).streams = s.streams ∧
    (State.readRail s n v).time = s.time ∧ (State.readRail s n v).align = s.align ∧
    (State.readRail s n v).swage = s.swage ∧ (State.readRail s n v).osc = s.osc ∧ (State.readRail s n v).isl = s.isl ∧
    (State.readRail s n v).sch = s.sch ∧ (State.readRail s n v).logic = s.logic ∧ (State.readRail s n v).cap = s.cap ∧
    (State.readRail s n v).pub = s.pub ∧ (State.readRail s n v).pair = s.pair ∧ (State.readRail s n v).otp = s.otp ∧
    (State.readRail s n v).vault = s.vault ∧ (State.readRail s n v).emp = s.emp ∧ (State.readRail s n v).tap = s.tap ∧
    (State.readRail s n v).ext = s.ext ∧ (State.readRail s n v).served = s.served ∧
    (State.readRail s n v).free = s.free ∧ (State.readRail s n v).pending = s.pending := by
  simp [State.readRail]

@[simp] theorem State.keyPress_frame (s : State) (n : Nat) :
    (State.keyPress s n).boot = s.boot ∧ (State.keyPress s n).img = s.img ∧ (State.keyPress s n).flash = s.flash ∧
    (State.keyPress s n).ctrs = s.ctrs ∧ (State.keyPress s n).ctrsAt = s.ctrsAt ∧ (State.keyPress s n).attn = s.attn ∧
    (State.keyPress s n).partnerLog = s.partnerLog ∧ (State.keyPress s n).bbx = s.bbx ∧
    (State.keyPress s n).sens = s.sens ∧ (State.keyPress s n).ports = s.ports ∧ (State.keyPress s n).cages = s.cages ∧
    (State.keyPress s n).tcp = s.tcp ∧ (State.keyPress s n).streams = s.streams ∧ (State.keyPress s n).time = s.time ∧
    (State.keyPress s n).align = s.align ∧ (State.keyPress s n).swage = s.swage ∧ (State.keyPress s n).osc = s.osc ∧
    (State.keyPress s n).isl = s.isl ∧ (State.keyPress s n).sch = s.sch ∧ (State.keyPress s n).logic = s.logic ∧
    (State.keyPress s n).cap = s.cap ∧ (State.keyPress s n).pub = s.pub ∧ (State.keyPress s n).pair = s.pair ∧
    (State.keyPress s n).otp = s.otp ∧ (State.keyPress s n).vault = s.vault ∧ (State.keyPress s n).emp = s.emp ∧
    (State.keyPress s n).tap = s.tap ∧ (State.keyPress s n).ext = s.ext ∧ (State.keyPress s n).served = s.served ∧
    (State.keyPress s n).free = s.free ∧ (State.keyPress s n).pending = s.pending := by
  unfold State.keyPress
  split <;> simp

@[simp] theorem State.keyRelease_frame (s : State) (n : Nat) :
    (State.keyRelease s n).boot = s.boot ∧ (State.keyRelease s n).img = s.img ∧ (State.keyRelease s n).flash = s.flash ∧
    (State.keyRelease s n).ctrs = s.ctrs ∧ (State.keyRelease s n).ctrsAt = s.ctrsAt ∧
    (State.keyRelease s n).attn = s.attn ∧ (State.keyRelease s n).partnerLog = s.partnerLog ∧
    (State.keyRelease s n).bbx = s.bbx ∧ (State.keyRelease s n).sens = s.sens ∧ (State.keyRelease s n).ports = s.ports ∧
    (State.keyRelease s n).cages = s.cages ∧ (State.keyRelease s n).tcp = s.tcp ∧
    (State.keyRelease s n).streams = s.streams ∧ (State.keyRelease s n).time = s.time ∧
    (State.keyRelease s n).align = s.align ∧ (State.keyRelease s n).swage = s.swage ∧
    (State.keyRelease s n).osc = s.osc ∧ (State.keyRelease s n).isl = s.isl ∧ (State.keyRelease s n).sch = s.sch ∧
    (State.keyRelease s n).logic = s.logic ∧ (State.keyRelease s n).cap = s.cap ∧ (State.keyRelease s n).pub = s.pub ∧
    (State.keyRelease s n).pair = s.pair ∧ (State.keyRelease s n).otp = s.otp ∧ (State.keyRelease s n).vault = s.vault ∧
    (State.keyRelease s n).emp = s.emp ∧ (State.keyRelease s n).tap = s.tap ∧ (State.keyRelease s n).ext = s.ext ∧
    (State.keyRelease s n).served = s.served ∧ (State.keyRelease s n).free = s.free ∧
    (State.keyRelease s n).pending = s.pending := by
  simp [State.keyRelease]

@[simp] theorem State.keysChanged_frame (s : State) (before : PanelSt) :
    (State.keysChanged s before).boot = s.boot ∧ (State.keysChanged s before).img = s.img ∧
    (State.keysChanged s before).flash = s.flash ∧ (State.keysChanged s before).ctrs = s.ctrs ∧
    (State.keysChanged s before).ctrsAt = s.ctrsAt ∧ (State.keysChanged s before).attn = s.attn ∧
    (State.keysChanged s before).partnerLog = s.partnerLog ∧ (State.keysChanged s before).bbx = s.bbx ∧
    (State.keysChanged s before).sens = s.sens ∧ (State.keysChanged s before).ports = s.ports ∧
    (State.keysChanged s before).cages = s.cages ∧ (State.keysChanged s before).tcp = s.tcp ∧
    (State.keysChanged s before).streams = s.streams ∧ (State.keysChanged s before).time = s.time ∧
    (State.keysChanged s before).align = s.align ∧ (State.keysChanged s before).swage = s.swage ∧
    (State.keysChanged s before).osc = s.osc ∧ (State.keysChanged s before).isl = s.isl ∧
    (State.keysChanged s before).sch = s.sch ∧ (State.keysChanged s before).logic = s.logic ∧
    (State.keysChanged s before).cap = s.cap ∧ (State.keysChanged s before).pub = s.pub ∧
    (State.keysChanged s before).pair = s.pair ∧ (State.keysChanged s before).otp = s.otp ∧
    (State.keysChanged s before).vault = s.vault ∧ (State.keysChanged s before).emp = s.emp ∧
    (State.keysChanged s before).tap = s.tap ∧ (State.keysChanged s before).ext = s.ext ∧
    (State.keysChanged s before).served = s.served ∧ (State.keysChanged s before).free = s.free ∧
    (State.keysChanged s before).pending = s.pending := by
  simp [State.keysChanged]

end Sys2Proof.Machine
end

