-- ==== Sys2Proof/Laws/FrameOv.lean ====
section
/-! SUPPORT. What each operation of Machine/Ov.lean leaves unchanged: one frame lemma per operation. -/

namespace Sys2Proof.Machine

@[simp] theorem State.ovWrite_frame (s : State) (e : ChangeEntry) :
    (State.ovWrite s e).boot = s.boot ∧ (State.ovWrite s e).flash = s.flash ∧ (State.ovWrite s e).ctrs = s.ctrs ∧
    (State.ovWrite s e).ctrsAt = s.ctrsAt ∧ (State.ovWrite s e).attn = s.attn ∧
    (State.ovWrite s e).partnerLog = s.partnerLog ∧ (State.ovWrite s e).bbx = s.bbx ∧ (State.ovWrite s e).sens = s.sens ∧
    (State.ovWrite s e).panel = s.panel ∧ (State.ovWrite s e).ports = s.ports ∧ (State.ovWrite s e).cages = s.cages ∧
    (State.ovWrite s e).tcp = s.tcp ∧ (State.ovWrite s e).streams = s.streams ∧ (State.ovWrite s e).time = s.time ∧
    (State.ovWrite s e).align = s.align ∧ (State.ovWrite s e).osc = s.osc ∧ (State.ovWrite s e).isl = s.isl ∧
    (State.ovWrite s e).sch = s.sch ∧ (State.ovWrite s e).logic = s.logic ∧ (State.ovWrite s e).cap = s.cap ∧
    (State.ovWrite s e).pub = s.pub ∧ (State.ovWrite s e).pair = s.pair ∧ (State.ovWrite s e).otp = s.otp ∧
    (State.ovWrite s e).vault = s.vault ∧ (State.ovWrite s e).emp = s.emp ∧ (State.ovWrite s e).tap = s.tap ∧
    (State.ovWrite s e).ext = s.ext ∧ (State.ovWrite s e).served = s.served ∧ (State.ovWrite s e).free = s.free ∧
    (State.ovWrite s e).pending = s.pending := by
  unfold State.ovWrite
  split <;> simp

@[simp] theorem State.addSet_frame (s : State) (x : SetDue) :
    (State.addSet s x).boot = s.boot ∧ (State.addSet s x).img = s.img ∧ (State.addSet s x).flash = s.flash ∧
    (State.addSet s x).ctrs = s.ctrs ∧ (State.addSet s x).ctrsAt = s.ctrsAt ∧ (State.addSet s x).attn = s.attn ∧
    (State.addSet s x).partnerLog = s.partnerLog ∧ (State.addSet s x).bbx = s.bbx ∧ (State.addSet s x).sens = s.sens ∧
    (State.addSet s x).panel = s.panel ∧ (State.addSet s x).ports = s.ports ∧ (State.addSet s x).cages = s.cages ∧
    (State.addSet s x).tcp = s.tcp ∧ (State.addSet s x).streams = s.streams ∧ (State.addSet s x).time = s.time ∧
    (State.addSet s x).align = s.align ∧ (State.addSet s x).swage = s.swage ∧ (State.addSet s x).osc = s.osc ∧
    (State.addSet s x).isl = s.isl ∧ (State.addSet s x).sch = s.sch ∧ (State.addSet s x).logic = s.logic ∧
    (State.addSet s x).cap = s.cap ∧ (State.addSet s x).pub = s.pub ∧ (State.addSet s x).pair = s.pair ∧
    (State.addSet s x).otp = s.otp ∧ (State.addSet s x).vault = s.vault ∧ (State.addSet s x).tap = s.tap ∧
    (State.addSet s x).ext = s.ext ∧ (State.addSet s x).served = s.served ∧ (State.addSet s x).free = s.free ∧
    (State.addSet s x).pending = s.pending := by
  simp [State.addSet]

@[simp] theorem State.keepSet_frame (s : State) (x : SetDue) :
    (State.keepSet s x).boot = s.boot ∧ (State.keepSet s x).img = s.img ∧ (State.keepSet s x).flash = s.flash ∧
    (State.keepSet s x).ctrs = s.ctrs ∧ (State.keepSet s x).ctrsAt = s.ctrsAt ∧ (State.keepSet s x).attn = s.attn ∧
    (State.keepSet s x).partnerLog = s.partnerLog ∧ (State.keepSet s x).bbx = s.bbx ∧ (State.keepSet s x).sens = s.sens ∧
    (State.keepSet s x).panel = s.panel ∧ (State.keepSet s x).ports = s.ports ∧ (State.keepSet s x).cages = s.cages ∧
    (State.keepSet s x).tcp = s.tcp ∧ (State.keepSet s x).streams = s.streams ∧ (State.keepSet s x).time = s.time ∧
    (State.keepSet s x).align = s.align ∧ (State.keepSet s x).swage = s.swage ∧ (State.keepSet s x).osc = s.osc ∧
    (State.keepSet s x).isl = s.isl ∧ (State.keepSet s x).sch = s.sch ∧ (State.keepSet s x).logic = s.logic ∧
    (State.keepSet s x).cap = s.cap ∧ (State.keepSet s x).pub = s.pub ∧ (State.keepSet s x).pair = s.pair ∧
    (State.keepSet s x).otp = s.otp ∧ (State.keepSet s x).vault = s.vault ∧ (State.keepSet s x).tap = s.tap ∧
    (State.keepSet s x).ext = s.ext ∧ (State.keepSet s x).served = s.served ∧ (State.keepSet s x).free = s.free ∧
    (State.keepSet s x).pending = s.pending := by
  simp [State.keepSet]

@[simp] theorem State.orderSet_frame (s : State) (t : Nat) (x : SetDue) :
    (State.orderSet s t x).boot = s.boot ∧ (State.orderSet s t x).img = s.img ∧ (State.orderSet s t x).flash = s.flash ∧
    (State.orderSet s t x).ctrs = s.ctrs ∧ (State.orderSet s t x).ctrsAt = s.ctrsAt ∧
    (State.orderSet s t x).attn = s.attn ∧ (State.orderSet s t x).partnerLog = s.partnerLog ∧
    (State.orderSet s t x).bbx = s.bbx ∧ (State.orderSet s t x).sens = s.sens ∧ (State.orderSet s t x).panel = s.panel ∧
    (State.orderSet s t x).ports = s.ports ∧ (State.orderSet s t x).cages = s.cages ∧
    (State.orderSet s t x).tcp = s.tcp ∧ (State.orderSet s t x).streams = s.streams ∧
    (State.orderSet s t x).time = s.time ∧ (State.orderSet s t x).align = s.align ∧
    (State.orderSet s t x).swage = s.swage ∧ (State.orderSet s t x).osc = s.osc ∧ (State.orderSet s t x).isl = s.isl ∧
    (State.orderSet s t x).sch = s.sch ∧ (State.orderSet s t x).cap = s.cap ∧ (State.orderSet s t x).pub = s.pub ∧
    (State.orderSet s t x).pair = s.pair ∧ (State.orderSet s t x).otp = s.otp ∧ (State.orderSet s t x).vault = s.vault ∧
    (State.orderSet s t x).emp = s.emp ∧ (State.orderSet s t x).tap = s.tap ∧ (State.orderSet s t x).ext = s.ext ∧
    (State.orderSet s t x).served = s.served ∧ (State.orderSet s t x).free = s.free ∧
    (State.orderSet s t x).pending = s.pending := by
  simp [State.orderSet]

@[simp] theorem State.ovRecords_frame (s : State) (cls : AttClass) (aseq : Nat) (es : List ChangeEntry) :
    (State.ovRecords s cls aseq es).boot = s.boot ∧ (State.ovRecords s cls aseq es).img = s.img ∧
    (State.ovRecords s cls aseq es).flash = s.flash ∧ (State.ovRecords s cls aseq es).ctrsAt = s.ctrsAt ∧
    (State.ovRecords s cls aseq es).partnerLog = s.partnerLog ∧ (State.ovRecords s cls aseq es).panel = s.panel ∧
    (State.ovRecords s cls aseq es).cages = s.cages ∧ (State.ovRecords s cls aseq es).tcp = s.tcp ∧
    (State.ovRecords s cls aseq es).streams = s.streams ∧ (State.ovRecords s cls aseq es).time = s.time ∧
    (State.ovRecords s cls aseq es).align = s.align ∧ (State.ovRecords s cls aseq es).swage = s.swage ∧
    (State.ovRecords s cls aseq es).osc = s.osc ∧ (State.ovRecords s cls aseq es).isl = s.isl ∧
    (State.ovRecords s cls aseq es).sch = s.sch ∧ (State.ovRecords s cls aseq es).logic = s.logic ∧
    (State.ovRecords s cls aseq es).cap = s.cap ∧ (State.ovRecords s cls aseq es).pub = s.pub ∧
    (State.ovRecords s cls aseq es).otp = s.otp ∧ (State.ovRecords s cls aseq es).vault = s.vault ∧
    (State.ovRecords s cls aseq es).emp = s.emp ∧ (State.ovRecords s cls aseq es).tap = s.tap ∧
    (State.ovRecords s cls aseq es).ext = s.ext ∧ (State.ovRecords s cls aseq es).served = s.served ∧
    (State.ovRecords s cls aseq es).free = s.free ∧ (State.ovRecords s cls aseq es).pending = s.pending := by
  simp [State.ovRecords]

@[simp] theorem State.ovApply_frame (s : State) (es : List ChangeEntry) :
    (State.ovApply s es).boot = s.boot ∧ (State.ovApply s es).flash = s.flash ∧ (State.ovApply s es).ctrsAt = s.ctrsAt ∧
    (State.ovApply s es).partnerLog = s.partnerLog ∧ (State.ovApply s es).panel = s.panel ∧
    (State.ovApply s es).cages = s.cages ∧ (State.ovApply s es).tcp = s.tcp ∧ (State.ovApply s es).streams = s.streams ∧
    (State.ovApply s es).time = s.time ∧ (State.ovApply s es).align = s.align ∧ (State.ovApply s es).osc = s.osc ∧
    (State.ovApply s es).isl = s.isl ∧ (State.ovApply s es).sch = s.sch ∧ (State.ovApply s es).logic = s.logic ∧
    (State.ovApply s es).cap = s.cap ∧ (State.ovApply s es).pub = s.pub ∧ (State.ovApply s es).otp = s.otp ∧
    (State.ovApply s es).vault = s.vault ∧ (State.ovApply s es).emp = s.emp ∧ (State.ovApply s es).tap = s.tap ∧
    (State.ovApply s es).ext = s.ext ∧ (State.ovApply s es).served = s.served ∧ (State.ovApply s es).free = s.free ∧
    (State.ovApply s es).pending = s.pending := by
  simp [State.ovApply]

end Sys2Proof.Machine
end

