-- ==== Sys2Proof/Laws/FramePairOps.lean ====
section
/-! SUPPORT. What each operation of Machine/PairOps.lean leaves unchanged: one frame lemma per operation. -/

namespace Sys2Proof.Machine

@[simp] theorem State.urgent_frame (s : State) (b : WoideBody) :
    (State.urgent s b).boot = s.boot ∧ (State.urgent s b).img = s.img ∧ (State.urgent s b).flash = s.flash ∧
    (State.urgent s b).ctrsAt = s.ctrsAt ∧ (State.urgent s b).attn = s.attn ∧
    (State.urgent s b).partnerLog = s.partnerLog ∧ (State.urgent s b).bbx = s.bbx ∧ (State.urgent s b).sens = s.sens ∧
    (State.urgent s b).panel = s.panel ∧ (State.urgent s b).cages = s.cages ∧ (State.urgent s b).tcp = s.tcp ∧
    (State.urgent s b).streams = s.streams ∧ (State.urgent s b).time = s.time ∧ (State.urgent s b).align = s.align ∧
    (State.urgent s b).swage = s.swage ∧ (State.urgent s b).osc = s.osc ∧ (State.urgent s b).isl = s.isl ∧
    (State.urgent s b).sch = s.sch ∧ (State.urgent s b).logic = s.logic ∧ (State.urgent s b).cap = s.cap ∧
    (State.urgent s b).pub = s.pub ∧ (State.urgent s b).otp = s.otp ∧ (State.urgent s b).vault = s.vault ∧
    (State.urgent s b).emp = s.emp ∧ (State.urgent s b).tap = s.tap ∧ (State.urgent s b).ext = s.ext ∧
    (State.urgent s b).served = s.served ∧ (State.urgent s b).free = s.free ∧ (State.urgent s b).pending = s.pending := by
  simp [State.urgent]

@[simp] theorem State.releaseRole_frame (s : State) (e : Ns) :
    (State.releaseRole s e).boot = s.boot ∧ (State.releaseRole s e).img = s.img ∧
    (State.releaseRole s e).flash = s.flash ∧ (State.releaseRole s e).ctrsAt = s.ctrsAt ∧
    (State.releaseRole s e).attn = s.attn ∧ (State.releaseRole s e).partnerLog = s.partnerLog ∧
    (State.releaseRole s e).bbx = s.bbx ∧ (State.releaseRole s e).sens = s.sens ∧
    (State.releaseRole s e).panel = s.panel ∧ (State.releaseRole s e).cages = s.cages ∧
    (State.releaseRole s e).tcp = s.tcp ∧ (State.releaseRole s e).streams = s.streams ∧
    (State.releaseRole s e).time = s.time ∧ (State.releaseRole s e).align = s.align ∧
    (State.releaseRole s e).swage = s.swage ∧ (State.releaseRole s e).osc = s.osc ∧ (State.releaseRole s e).isl = s.isl ∧
    (State.releaseRole s e).sch = s.sch ∧ (State.releaseRole s e).logic = s.logic ∧ (State.releaseRole s e).cap = s.cap ∧
    (State.releaseRole s e).pub = s.pub ∧ (State.releaseRole s e).otp = s.otp ∧ (State.releaseRole s e).vault = s.vault ∧
    (State.releaseRole s e).emp = s.emp ∧ (State.releaseRole s e).tap = s.tap ∧ (State.releaseRole s e).ext = s.ext ∧
    (State.releaseRole s e).served = s.served ∧ (State.releaseRole s e).free = s.free ∧
    (State.releaseRole s e).pending = s.pending := by
  simp [State.releaseRole]

@[simp] theorem State.setRole_frame (s : State) (r : Role) :
    (State.setRole s r).boot = s.boot ∧ (State.setRole s r).img = s.img ∧ (State.setRole s r).flash = s.flash ∧
    (State.setRole s r).ctrs = s.ctrs ∧ (State.setRole s r).ctrsAt = s.ctrsAt ∧ (State.setRole s r).attn = s.attn ∧
    (State.setRole s r).partnerLog = s.partnerLog ∧ (State.setRole s r).bbx = s.bbx ∧ (State.setRole s r).sens = s.sens ∧
    (State.setRole s r).panel = s.panel ∧ (State.setRole s r).ports = s.ports ∧ (State.setRole s r).cages = s.cages ∧
    (State.setRole s r).tcp = s.tcp ∧ (State.setRole s r).streams = s.streams ∧ (State.setRole s r).time = s.time ∧
    (State.setRole s r).align = s.align ∧ (State.setRole s r).swage = s.swage ∧ (State.setRole s r).osc = s.osc ∧
    (State.setRole s r).isl = s.isl ∧ (State.setRole s r).sch = s.sch ∧ (State.setRole s r).logic = s.logic ∧
    (State.setRole s r).cap = s.cap ∧ (State.setRole s r).pub = s.pub ∧ (State.setRole s r).otp = s.otp ∧
    (State.setRole s r).vault = s.vault ∧ (State.setRole s r).emp = s.emp ∧ (State.setRole s r).tap = s.tap ∧
    (State.setRole s r).ext = s.ext ∧ (State.setRole s r).served = s.served ∧ (State.setRole s r).free = s.free ∧
    (State.setRole s r).pending = s.pending := by
  simp [State.setRole]

@[simp] theorem State.woideSend_frame (s : State) (b : WoideBody) :
    (State.woideSend s b).boot = s.boot ∧ (State.woideSend s b).img = s.img ∧ (State.woideSend s b).flash = s.flash ∧
    (State.woideSend s b).ctrsAt = s.ctrsAt ∧ (State.woideSend s b).attn = s.attn ∧
    (State.woideSend s b).partnerLog = s.partnerLog ∧ (State.woideSend s b).bbx = s.bbx ∧
    (State.woideSend s b).sens = s.sens ∧ (State.woideSend s b).panel = s.panel ∧ (State.woideSend s b).cages = s.cages ∧
    (State.woideSend s b).tcp = s.tcp ∧ (State.woideSend s b).streams = s.streams ∧ (State.woideSend s b).time = s.time ∧
    (State.woideSend s b).align = s.align ∧ (State.woideSend s b).swage = s.swage ∧ (State.woideSend s b).osc = s.osc ∧
    (State.woideSend s b).isl = s.isl ∧ (State.woideSend s b).sch = s.sch ∧ (State.woideSend s b).logic = s.logic ∧
    (State.woideSend s b).cap = s.cap ∧ (State.woideSend s b).pub = s.pub ∧ (State.woideSend s b).otp = s.otp ∧
    (State.woideSend s b).vault = s.vault ∧ (State.woideSend s b).emp = s.emp ∧ (State.woideSend s b).tap = s.tap ∧
    (State.woideSend s b).ext = s.ext ∧ (State.woideSend s b).served = s.served ∧ (State.woideSend s b).free = s.free ∧
    (State.woideSend s b).pending = s.pending := by
  simp [State.woideSend]

@[simp] theorem State.hello_frame (s : State) :
    (State.hello s).boot = s.boot ∧ (State.hello s).img = s.img ∧ (State.hello s).flash = s.flash ∧
    (State.hello s).ctrsAt = s.ctrsAt ∧ (State.hello s).attn = s.attn ∧ (State.hello s).partnerLog = s.partnerLog ∧
    (State.hello s).bbx = s.bbx ∧ (State.hello s).sens = s.sens ∧ (State.hello s).panel = s.panel ∧
    (State.hello s).cages = s.cages ∧ (State.hello s).tcp = s.tcp ∧ (State.hello s).streams = s.streams ∧
    (State.hello s).time = s.time ∧ (State.hello s).align = s.align ∧ (State.hello s).swage = s.swage ∧
    (State.hello s).osc = s.osc ∧ (State.hello s).isl = s.isl ∧ (State.hello s).sch = s.sch ∧
    (State.hello s).logic = s.logic ∧ (State.hello s).cap = s.cap ∧ (State.hello s).pub = s.pub ∧
    (State.hello s).otp = s.otp ∧ (State.hello s).vault = s.vault ∧ (State.hello s).emp = s.emp ∧
    (State.hello s).tap = s.tap ∧ (State.hello s).ext = s.ext ∧ (State.hello s).served = s.served ∧
    (State.hello s).free = s.free ∧ (State.hello s).pending = s.pending := by
  simp [State.hello]

@[simp] theorem State.deltaLogic_frame (s : State) (task : Nat) (tag : Ns) (insts vars : List Nat) :
    (State.deltaLogic s task tag insts vars).boot = s.boot ∧ (State.deltaLogic s task tag insts vars).img = s.img ∧
    (State.deltaLogic s task tag insts vars).flash = s.flash ∧
    (State.deltaLogic s task tag insts vars).ctrsAt = s.ctrsAt ∧ (State.deltaLogic s task tag insts vars).attn = s.attn ∧
    (State.deltaLogic s task tag insts vars).partnerLog = s.partnerLog ∧
    (State.deltaLogic s task tag insts vars).bbx = s.bbx ∧ (State.deltaLogic s task tag insts vars).sens = s.sens ∧
    (State.deltaLogic s task tag insts vars).panel = s.panel ∧ (State.deltaLogic s task tag insts vars).cages = s.cages ∧
    (State.deltaLogic s task tag insts vars).tcp = s.tcp ∧ (State.deltaLogic s task tag insts vars).streams = s.streams ∧
    (State.deltaLogic s task tag insts vars).time = s.time ∧ (State.deltaLogic s task tag insts vars).align = s.align ∧
    (State.deltaLogic s task tag insts vars).swage = s.swage ∧ (State.deltaLogic s task tag insts vars).osc = s.osc ∧
    (State.deltaLogic s task tag insts vars).isl = s.isl ∧ (State.deltaLogic s task tag insts vars).sch = s.sch ∧
    (State.deltaLogic s task tag insts vars).logic = s.logic ∧ (State.deltaLogic s task tag insts vars).cap = s.cap ∧
    (State.deltaLogic s task tag insts vars).pub = s.pub ∧ (State.deltaLogic s task tag insts vars).otp = s.otp ∧
    (State.deltaLogic s task tag insts vars).vault = s.vault ∧ (State.deltaLogic s task tag insts vars).emp = s.emp ∧
    (State.deltaLogic s task tag insts vars).tap = s.tap ∧ (State.deltaLogic s task tag insts vars).ext = s.ext ∧
    (State.deltaLogic s task tag insts vars).served = s.served ∧ (State.deltaLogic s task tag insts vars).free = s.free ∧
    (State.deltaLogic s task tag insts vars).pending = s.pending := by
  simp [State.deltaLogic]

@[simp] theorem State.deltaTrip_frame (s : State) (out : Nat) (active : Bool) (tag : Ns) (left : Nat) :
    (State.deltaTrip s out active tag left).boot = s.boot ∧ (State.deltaTrip s out active tag left).img = s.img ∧
    (State.deltaTrip s out active tag left).flash = s.flash ∧ (State.deltaTrip s out active tag left).ctrsAt = s.ctrsAt ∧
    (State.deltaTrip s out active tag left).attn = s.attn ∧
    (State.deltaTrip s out active tag left).partnerLog = s.partnerLog ∧
    (State.deltaTrip s out active tag left).bbx = s.bbx ∧ (State.deltaTrip s out active tag left).sens = s.sens ∧
    (State.deltaTrip s out active tag left).panel = s.panel ∧ (State.deltaTrip s out active tag left).cages = s.cages ∧
    (State.deltaTrip s out active tag left).tcp = s.tcp ∧ (State.deltaTrip s out active tag left).streams = s.streams ∧
    (State.deltaTrip s out active tag left).time = s.time ∧ (State.deltaTrip s out active tag left).align = s.align ∧
    (State.deltaTrip s out active tag left).swage = s.swage ∧ (State.deltaTrip s out active tag left).osc = s.osc ∧
    (State.deltaTrip s out active tag left).isl = s.isl ∧ (State.deltaTrip s out active tag left).sch = s.sch ∧
    (State.deltaTrip s out active tag left).logic = s.logic ∧ (State.deltaTrip s out active tag left).cap = s.cap ∧
    (State.deltaTrip s out active tag left).pub = s.pub ∧ (State.deltaTrip s out active tag left).otp = s.otp ∧
    (State.deltaTrip s out active tag left).vault = s.vault ∧ (State.deltaTrip s out active tag left).emp = s.emp ∧
    (State.deltaTrip s out active tag left).tap = s.tap ∧ (State.deltaTrip s out active tag left).ext = s.ext ∧
    (State.deltaTrip s out active tag left).served = s.served ∧ (State.deltaTrip s out active tag left).free = s.free ∧
    (State.deltaTrip s out active tag left).pending = s.pending := by
  simp [State.deltaTrip]

@[simp] theorem State.deltaSub_frame (s : State) (n peer : Nat) (on : Bool) :
    (State.deltaSub s n peer on).boot = s.boot ∧ (State.deltaSub s n peer on).img = s.img ∧
    (State.deltaSub s n peer on).flash = s.flash ∧ (State.deltaSub s n peer on).ctrsAt = s.ctrsAt ∧
    (State.deltaSub s n peer on).attn = s.attn ∧ (State.deltaSub s n peer on).partnerLog = s.partnerLog ∧
    (State.deltaSub s n peer on).bbx = s.bbx ∧ (State.deltaSub s n peer on).sens = s.sens ∧
    (State.deltaSub s n peer on).panel = s.panel ∧ (State.deltaSub s n peer on).cages = s.cages ∧
    (State.deltaSub s n peer on).tcp = s.tcp ∧ (State.deltaSub s n peer on).streams = s.streams ∧
    (State.deltaSub s n peer on).time = s.time ∧ (State.deltaSub s n peer on).align = s.align ∧
    (State.deltaSub s n peer on).swage = s.swage ∧ (State.deltaSub s n peer on).osc = s.osc ∧
    (State.deltaSub s n peer on).isl = s.isl ∧ (State.deltaSub s n peer on).sch = s.sch ∧
    (State.deltaSub s n peer on).logic = s.logic ∧ (State.deltaSub s n peer on).cap = s.cap ∧
    (State.deltaSub s n peer on).pub = s.pub ∧ (State.deltaSub s n peer on).otp = s.otp ∧
    (State.deltaSub s n peer on).vault = s.vault ∧ (State.deltaSub s n peer on).emp = s.emp ∧
    (State.deltaSub s n peer on).tap = s.tap ∧ (State.deltaSub s n peer on).ext = s.ext ∧
    (State.deltaSub s n peer on).served = s.served ∧ (State.deltaSub s n peer on).free = s.free ∧
    (State.deltaSub s n peer on).pending = s.pending := by
  simp [State.deltaSub]

@[simp] theorem State.snapshot_frame (s : State) :
    (State.snapshot s).boot = s.boot ∧ (State.snapshot s).img = s.img ∧ (State.snapshot s).flash = s.flash ∧
    (State.snapshot s).ctrsAt = s.ctrsAt ∧ (State.snapshot s).attn = s.attn ∧
    (State.snapshot s).partnerLog = s.partnerLog ∧ (State.snapshot s).bbx = s.bbx ∧ (State.snapshot s).sens = s.sens ∧
    (State.snapshot s).panel = s.panel ∧ (State.snapshot s).cages = s.cages ∧ (State.snapshot s).tcp = s.tcp ∧
    (State.snapshot s).streams = s.streams ∧ (State.snapshot s).time = s.time ∧ (State.snapshot s).align = s.align ∧
    (State.snapshot s).swage = s.swage ∧ (State.snapshot s).osc = s.osc ∧ (State.snapshot s).isl = s.isl ∧
    (State.snapshot s).sch = s.sch ∧ (State.snapshot s).logic = s.logic ∧ (State.snapshot s).cap = s.cap ∧
    (State.snapshot s).pub = s.pub ∧ (State.snapshot s).otp = s.otp ∧ (State.snapshot s).vault = s.vault ∧
    (State.snapshot s).emp = s.emp ∧ (State.snapshot s).tap = s.tap ∧ (State.snapshot s).ext = s.ext ∧
    (State.snapshot s).served = s.served ∧ (State.snapshot s).free = s.free ∧ (State.snapshot s).pending = s.pending := by
  simp [State.snapshot]

end Sys2Proof.Machine
end

