-- ==== Sys2Proof/Laws/FrameSched.lean ====
section
/-! SUPPORT. What each operation of Machine/Sched.lean leaves unchanged: one frame lemma per operation. -/

namespace Sys2Proof.Machine

@[simp] theorem State.charge_frame (s : State) (r cls : Nat) (c : Cost) :
    (State.charge s r cls c).boot = s.boot ∧ (State.charge s r cls c).img = s.img ∧
    (State.charge s r cls c).flash = s.flash ∧ (State.charge s r cls c).ctrs = s.ctrs ∧
    (State.charge s r cls c).ctrsAt = s.ctrsAt ∧ (State.charge s r cls c).attn = s.attn ∧
    (State.charge s r cls c).partnerLog = s.partnerLog ∧ (State.charge s r cls c).bbx = s.bbx ∧
    (State.charge s r cls c).sens = s.sens ∧ (State.charge s r cls c).panel = s.panel ∧
    (State.charge s r cls c).ports = s.ports ∧ (State.charge s r cls c).cages = s.cages ∧
    (State.charge s r cls c).tcp = s.tcp ∧ (State.charge s r cls c).streams = s.streams ∧
    (State.charge s r cls c).time = s.time ∧ (State.charge s r cls c).align = s.align ∧
    (State.charge s r cls c).swage = s.swage ∧ (State.charge s r cls c).osc = s.osc ∧
    (State.charge s r cls c).isl = s.isl ∧ (State.charge s r cls c).logic = s.logic ∧
    (State.charge s r cls c).cap = s.cap ∧ (State.charge s r cls c).pub = s.pub ∧
    (State.charge s r cls c).pair = s.pair ∧ (State.charge s r cls c).otp = s.otp ∧
    (State.charge s r cls c).vault = s.vault ∧ (State.charge s r cls c).emp = s.emp ∧
    (State.charge s r cls c).tap = s.tap ∧ (State.charge s r cls c).ext = s.ext ∧
    (State.charge s r cls c).served = s.served ∧ (State.charge s r cls c).free = s.free ∧
    (State.charge s r cls c).pending = s.pending := by
  simp [State.charge]

@[simp] theorem State.trace_frame (s : State) (decision : Nat) (it : Item) (cell detail : Nat) :
    (State.trace s decision it cell detail).boot = s.boot ∧ (State.trace s decision it cell detail).img = s.img ∧
    (State.trace s decision it cell detail).flash = s.flash ∧ (State.trace s decision it cell detail).ctrsAt = s.ctrsAt ∧
    (State.trace s decision it cell detail).attn = s.attn ∧
    (State.trace s decision it cell detail).partnerLog = s.partnerLog ∧
    (State.trace s decision it cell detail).bbx = s.bbx ∧ (State.trace s decision it cell detail).sens = s.sens ∧
    (State.trace s decision it cell detail).panel = s.panel ∧ (State.trace s decision it cell detail).ports = s.ports ∧
    (State.trace s decision it cell detail).cages = s.cages ∧ (State.trace s decision it cell detail).tcp = s.tcp ∧
    (State.trace s decision it cell detail).streams = s.streams ∧ (State.trace s decision it cell detail).time = s.time ∧
    (State.trace s decision it cell detail).align = s.align ∧ (State.trace s decision it cell detail).swage = s.swage ∧
    (State.trace s decision it cell detail).osc = s.osc ∧ (State.trace s decision it cell detail).isl = s.isl ∧
    (State.trace s decision it cell detail).logic = s.logic ∧ (State.trace s decision it cell detail).cap = s.cap ∧
    (State.trace s decision it cell detail).pub = s.pub ∧ (State.trace s decision it cell detail).pair = s.pair ∧
    (State.trace s decision it cell detail).otp = s.otp ∧ (State.trace s decision it cell detail).vault = s.vault ∧
    (State.trace s decision it cell detail).emp = s.emp ∧ (State.trace s decision it cell detail).tap = s.tap ∧
    (State.trace s decision it cell detail).ext = s.ext ∧ (State.trace s decision it cell detail).served = s.served ∧
    (State.trace s decision it cell detail).free = s.free ∧ (State.trace s decision it cell detail).pending = s.pending := by
  simp [State.trace]

@[simp] theorem State.placeReady_frame (s : State) (it : Item) :
    (State.placeReady s it).boot = s.boot ∧ (State.placeReady s it).img = s.img ∧
    (State.placeReady s it).flash = s.flash ∧ (State.placeReady s it).ctrsAt = s.ctrsAt ∧
    (State.placeReady s it).attn = s.attn ∧ (State.placeReady s it).partnerLog = s.partnerLog ∧
    (State.placeReady s it).bbx = s.bbx ∧ (State.placeReady s it).sens = s.sens ∧
    (State.placeReady s it).panel = s.panel ∧ (State.placeReady s it).ports = s.ports ∧
    (State.placeReady s it).cages = s.cages ∧ (State.placeReady s it).tcp = s.tcp ∧
    (State.placeReady s it).streams = s.streams ∧ (State.placeReady s it).time = s.time ∧
    (State.placeReady s it).align = s.align ∧ (State.placeReady s it).swage = s.swage ∧
    (State.placeReady s it).osc = s.osc ∧ (State.placeReady s it).isl = s.isl ∧ (State.placeReady s it).logic = s.logic ∧
    (State.placeReady s it).cap = s.cap ∧ (State.placeReady s it).pub = s.pub ∧ (State.placeReady s it).pair = s.pair ∧
    (State.placeReady s it).otp = s.otp ∧ (State.placeReady s it).vault = s.vault ∧ (State.placeReady s it).emp = s.emp ∧
    (State.placeReady s it).tap = s.tap ∧ (State.placeReady s it).ext = s.ext ∧
    (State.placeReady s it).served = s.served ∧ (State.placeReady s it).free = s.free ∧
    (State.placeReady s it).pending = s.pending := by
  simp [State.placeReady]

@[simp] theorem State.placeDelay_frame (s : State) (it : Item) :
    (State.placeDelay s it).boot = s.boot ∧ (State.placeDelay s it).img = s.img ∧
    (State.placeDelay s it).flash = s.flash ∧ (State.placeDelay s it).ctrs = s.ctrs ∧
    (State.placeDelay s it).ctrsAt = s.ctrsAt ∧ (State.placeDelay s it).attn = s.attn ∧
    (State.placeDelay s it).partnerLog = s.partnerLog ∧ (State.placeDelay s it).bbx = s.bbx ∧
    (State.placeDelay s it).sens = s.sens ∧ (State.placeDelay s it).panel = s.panel ∧
    (State.placeDelay s it).ports = s.ports ∧ (State.placeDelay s it).cages = s.cages ∧
    (State.placeDelay s it).tcp = s.tcp ∧ (State.placeDelay s it).streams = s.streams ∧
    (State.placeDelay s it).time = s.time ∧ (State.placeDelay s it).align = s.align ∧
    (State.placeDelay s it).swage = s.swage ∧ (State.placeDelay s it).osc = s.osc ∧ (State.placeDelay s it).isl = s.isl ∧
    (State.placeDelay s it).logic = s.logic ∧ (State.placeDelay s it).cap = s.cap ∧ (State.placeDelay s it).pub = s.pub ∧
    (State.placeDelay s it).pair = s.pair ∧ (State.placeDelay s it).otp = s.otp ∧
    (State.placeDelay s it).vault = s.vault ∧ (State.placeDelay s it).emp = s.emp ∧ (State.placeDelay s it).tap = s.tap ∧
    (State.placeDelay s it).ext = s.ext ∧ (State.placeDelay s it).served = s.served ∧
    (State.placeDelay s it).free = s.free ∧ (State.placeDelay s it).pending = s.pending := by
  simp [State.placeDelay]

@[simp] theorem State.shedItem_frame (s : State) (it : Item) :
    (State.shedItem s it).boot = s.boot ∧ (State.shedItem s it).img = s.img ∧ (State.shedItem s it).flash = s.flash ∧
    (State.shedItem s it).ctrsAt = s.ctrsAt ∧ (State.shedItem s it).attn = s.attn ∧
    (State.shedItem s it).partnerLog = s.partnerLog ∧ (State.shedItem s it).bbx = s.bbx ∧
    (State.shedItem s it).sens = s.sens ∧ (State.shedItem s it).panel = s.panel ∧ (State.shedItem s it).ports = s.ports ∧
    (State.shedItem s it).cages = s.cages ∧ (State.shedItem s it).tcp = s.tcp ∧
    (State.shedItem s it).streams = s.streams ∧ (State.shedItem s it).time = s.time ∧
    (State.shedItem s it).align = s.align ∧ (State.shedItem s it).swage = s.swage ∧ (State.shedItem s it).osc = s.osc ∧
    (State.shedItem s it).isl = s.isl ∧ (State.shedItem s it).logic = s.logic ∧ (State.shedItem s it).cap = s.cap ∧
    (State.shedItem s it).pub = s.pub ∧ (State.shedItem s it).pair = s.pair ∧ (State.shedItem s it).otp = s.otp ∧
    (State.shedItem s it).vault = s.vault ∧ (State.shedItem s it).emp = s.emp ∧ (State.shedItem s it).tap = s.tap ∧
    (State.shedItem s it).ext = s.ext ∧ (State.shedItem s it).served = s.served ∧ (State.shedItem s it).free = s.free ∧
    (State.shedItem s it).pending = s.pending := by
  simp [State.shedItem]

@[simp] theorem State.postNow_frame (s : State) (src : PostSrc) (it : Item) :
    (State.postNow s src it).boot = s.boot ∧ (State.postNow s src it).img = s.img ∧
    (State.postNow s src it).flash = s.flash ∧ (State.postNow s src it).ctrsAt = s.ctrsAt ∧
    (State.postNow s src it).attn = s.attn ∧ (State.postNow s src it).partnerLog = s.partnerLog ∧
    (State.postNow s src it).bbx = s.bbx ∧ (State.postNow s src it).sens = s.sens ∧
    (State.postNow s src it).panel = s.panel ∧ (State.postNow s src it).ports = s.ports ∧
    (State.postNow s src it).cages = s.cages ∧ (State.postNow s src it).tcp = s.tcp ∧
    (State.postNow s src it).streams = s.streams ∧ (State.postNow s src it).time = s.time ∧
    (State.postNow s src it).align = s.align ∧ (State.postNow s src it).swage = s.swage ∧
    (State.postNow s src it).osc = s.osc ∧ (State.postNow s src it).isl = s.isl ∧
    (State.postNow s src it).logic = s.logic ∧ (State.postNow s src it).cap = s.cap ∧
    (State.postNow s src it).pub = s.pub ∧ (State.postNow s src it).pair = s.pair ∧
    (State.postNow s src it).otp = s.otp ∧ (State.postNow s src it).vault = s.vault ∧
    (State.postNow s src it).emp = s.emp ∧ (State.postNow s src it).tap = s.tap ∧ (State.postNow s src it).ext = s.ext ∧
    (State.postNow s src it).served = s.served ∧ (State.postNow s src it).free = s.free ∧
    (State.postNow s src it).pending = s.pending := by
  unfold State.postNow
  split <;> simp

@[simp] theorem State.newItem_frame (s : State) (r tmpl cls prio origin arg due row : Nat) (ctx : ItemCtx) :
    ((State.newItem s r tmpl cls prio origin arg due row ctx).1).boot = s.boot ∧
    ((State.newItem s r tmpl cls prio origin arg due row ctx).1).img = s.img ∧
    ((State.newItem s r tmpl cls prio origin arg due row ctx).1).flash = s.flash ∧
    ((State.newItem s r tmpl cls prio origin arg due row ctx).1).ctrs = s.ctrs ∧
    ((State.newItem s r tmpl cls prio origin arg due row ctx).1).ctrsAt = s.ctrsAt ∧
    ((State.newItem s r tmpl cls prio origin arg due row ctx).1).attn = s.attn ∧
    ((State.newItem s r tmpl cls prio origin arg due row ctx).1).partnerLog = s.partnerLog ∧
    ((State.newItem s r tmpl cls prio origin arg due row ctx).1).bbx = s.bbx ∧
    ((State.newItem s r tmpl cls prio origin arg due row ctx).1).sens = s.sens ∧
    ((State.newItem s r tmpl cls prio origin arg due row ctx).1).panel = s.panel ∧
    ((State.newItem s r tmpl cls prio origin arg due row ctx).1).ports = s.ports ∧
    ((State.newItem s r tmpl cls prio origin arg due row ctx).1).cages = s.cages ∧
    ((State.newItem s r tmpl cls prio origin arg due row ctx).1).tcp = s.tcp ∧
    ((State.newItem s r tmpl cls prio origin arg due row ctx).1).streams = s.streams ∧
    ((State.newItem s r tmpl cls prio origin arg due row ctx).1).time = s.time ∧
    ((State.newItem s r tmpl cls prio origin arg due row ctx).1).align = s.align ∧
    ((State.newItem s r tmpl cls prio origin arg due row ctx).1).swage = s.swage ∧
    ((State.newItem s r tmpl cls prio origin arg due row ctx).1).osc = s.osc ∧
    ((State.newItem s r tmpl cls prio origin arg due row ctx).1).isl = s.isl ∧
    ((State.newItem s r tmpl cls prio origin arg due row ctx).1).logic = s.logic ∧
    ((State.newItem s r tmpl cls prio origin arg due row ctx).1).cap = s.cap ∧
    ((State.newItem s r tmpl cls prio origin arg due row ctx).1).pub = s.pub ∧
    ((State.newItem s r tmpl cls prio origin arg due row ctx).1).pair = s.pair ∧
    ((State.newItem s r tmpl cls prio origin arg due row ctx).1).otp = s.otp ∧
    ((State.newItem s r tmpl cls prio origin arg due row ctx).1).vault = s.vault ∧
    ((State.newItem s r tmpl cls prio origin arg due row ctx).1).emp = s.emp ∧
    ((State.newItem s r tmpl cls prio origin arg due row ctx).1).tap = s.tap ∧
    ((State.newItem s r tmpl cls prio origin arg due row ctx).1).ext = s.ext ∧
    ((State.newItem s r tmpl cls prio origin arg due row ctx).1).served = s.served ∧
    ((State.newItem s r tmpl cls prio origin arg due row ctx).1).free = s.free ∧
    ((State.newItem s r tmpl cls prio origin arg due row ctx).1).pending = s.pending := by
  simp [State.newItem]

@[simp] theorem State.postItem_frame (s : State) (src : PostSrc) (it : Item) :
    (State.postItem s src it).boot = s.boot ∧ (State.postItem s src it).img = s.img ∧
    (State.postItem s src it).flash = s.flash ∧ (State.postItem s src it).ctrsAt = s.ctrsAt ∧
    (State.postItem s src it).partnerLog = s.partnerLog ∧ (State.postItem s src it).bbx = s.bbx ∧
    (State.postItem s src it).sens = s.sens ∧ (State.postItem s src it).panel = s.panel ∧
    (State.postItem s src it).cages = s.cages ∧ (State.postItem s src it).tcp = s.tcp ∧
    (State.postItem s src it).streams = s.streams ∧ (State.postItem s src it).time = s.time ∧
    (State.postItem s src it).align = s.align ∧ (State.postItem s src it).swage = s.swage ∧
    (State.postItem s src it).osc = s.osc ∧ (State.postItem s src it).isl = s.isl ∧
    (State.postItem s src it).logic = s.logic ∧ (State.postItem s src it).cap = s.cap ∧
    (State.postItem s src it).pub = s.pub ∧ (State.postItem s src it).otp = s.otp ∧
    (State.postItem s src it).vault = s.vault ∧ (State.postItem s src it).emp = s.emp ∧
    (State.postItem s src it).tap = s.tap ∧ (State.postItem s src it).ext = s.ext ∧
    (State.postItem s src it).served = s.served ∧ (State.postItem s src it).free = s.free ∧
    (State.postItem s src it).pending = s.pending := by
  unfold State.postItem
  try dsimp only
  repeat' split
  all_goals simp

@[simp] theorem State.setWorked_frame (s : State) (c : Nat) :
    (State.setWorked s c).boot = s.boot ∧ (State.setWorked s c).img = s.img ∧ (State.setWorked s c).flash = s.flash ∧
    (State.setWorked s c).ctrs = s.ctrs ∧ (State.setWorked s c).ctrsAt = s.ctrsAt ∧ (State.setWorked s c).attn = s.attn ∧
    (State.setWorked s c).partnerLog = s.partnerLog ∧ (State.setWorked s c).bbx = s.bbx ∧
    (State.setWorked s c).sens = s.sens ∧ (State.setWorked s c).panel = s.panel ∧ (State.setWorked s c).ports = s.ports ∧
    (State.setWorked s c).cages = s.cages ∧ (State.setWorked s c).tcp = s.tcp ∧
    (State.setWorked s c).streams = s.streams ∧ (State.setWorked s c).time = s.time ∧
    (State.setWorked s c).align = s.align ∧ (State.setWorked s c).swage = s.swage ∧ (State.setWorked s c).osc = s.osc ∧
    (State.setWorked s c).isl = s.isl ∧ (State.setWorked s c).logic = s.logic ∧ (State.setWorked s c).cap = s.cap ∧
    (State.setWorked s c).pub = s.pub ∧ (State.setWorked s c).pair = s.pair ∧ (State.setWorked s c).otp = s.otp ∧
    (State.setWorked s c).vault = s.vault ∧ (State.setWorked s c).emp = s.emp ∧ (State.setWorked s c).tap = s.tap ∧
    (State.setWorked s c).ext = s.ext ∧ (State.setWorked s c).served = s.served ∧ (State.setWorked s c).free = s.free ∧
    (State.setWorked s c).pending = s.pending := by
  simp [State.setWorked]

@[simp] theorem State.borrow_frame (s : State) (r : Nat) (cs : List Nat) (need : Cost) :
    (s.borrow r cs need).boot = s.boot ∧ (s.borrow r cs need).img = s.img ∧ (s.borrow r cs need).flash = s.flash ∧
    (s.borrow r cs need).ctrs = s.ctrs ∧ (s.borrow r cs need).ctrsAt = s.ctrsAt ∧ (s.borrow r cs need).attn = s.attn ∧
    (s.borrow r cs need).partnerLog = s.partnerLog ∧ (s.borrow r cs need).bbx = s.bbx ∧
    (s.borrow r cs need).sens = s.sens ∧ (s.borrow r cs need).panel = s.panel ∧ (s.borrow r cs need).ports = s.ports ∧
    (s.borrow r cs need).cages = s.cages ∧ (s.borrow r cs need).tcp = s.tcp ∧ (s.borrow r cs need).streams = s.streams ∧
    (s.borrow r cs need).time = s.time ∧ (s.borrow r cs need).align = s.align ∧ (s.borrow r cs need).swage = s.swage ∧
    (s.borrow r cs need).osc = s.osc ∧ (s.borrow r cs need).isl = s.isl ∧ (s.borrow r cs need).logic = s.logic ∧
    (s.borrow r cs need).cap = s.cap ∧ (s.borrow r cs need).pub = s.pub ∧ (s.borrow r cs need).pair = s.pair ∧
    (s.borrow r cs need).otp = s.otp ∧ (s.borrow r cs need).vault = s.vault ∧ (s.borrow r cs need).emp = s.emp ∧
    (s.borrow r cs need).tap = s.tap ∧ (s.borrow r cs need).ext = s.ext ∧ (s.borrow r cs need).served = s.served ∧
    (s.borrow r cs need).free = s.free ∧ (s.borrow r cs need).pending = s.pending := by
  induction cs generalizing s need with
  | nil => simp [State.borrow]
  | cons c cs ih => simp [State.borrow, ih]


@[simp] theorem State.chargeStart_frame (s : State) (it : Item) :
    (State.chargeStart s it).boot = s.boot ∧ (State.chargeStart s it).img = s.img ∧
    (State.chargeStart s it).flash = s.flash ∧ (State.chargeStart s it).ctrsAt = s.ctrsAt ∧
    (State.chargeStart s it).attn = s.attn ∧ (State.chargeStart s it).partnerLog = s.partnerLog ∧
    (State.chargeStart s it).bbx = s.bbx ∧ (State.chargeStart s it).sens = s.sens ∧
    (State.chargeStart s it).panel = s.panel ∧ (State.chargeStart s it).ports = s.ports ∧
    (State.chargeStart s it).cages = s.cages ∧ (State.chargeStart s it).tcp = s.tcp ∧
    (State.chargeStart s it).streams = s.streams ∧ (State.chargeStart s it).time = s.time ∧
    (State.chargeStart s it).align = s.align ∧ (State.chargeStart s it).swage = s.swage ∧
    (State.chargeStart s it).osc = s.osc ∧ (State.chargeStart s it).isl = s.isl ∧
    (State.chargeStart s it).logic = s.logic ∧ (State.chargeStart s it).cap = s.cap ∧
    (State.chargeStart s it).pub = s.pub ∧ (State.chargeStart s it).pair = s.pair ∧
    (State.chargeStart s it).otp = s.otp ∧ (State.chargeStart s it).vault = s.vault ∧
    (State.chargeStart s it).emp = s.emp ∧ (State.chargeStart s it).tap = s.tap ∧ (State.chargeStart s it).ext = s.ext ∧
    (State.chargeStart s it).served = s.served ∧ (State.chargeStart s it).free = s.free ∧
    (State.chargeStart s it).pending = s.pending := by
  simp [State.chargeStart]

end Sys2Proof.Machine
end

