-- ==== Sys2Proof/Laws/FrameEvents.lean ====
section
/-! SUPPORT. What each operation of Machine/Events.lean leaves unchanged: one frame lemma per operation. -/

namespace Sys2Proof.Machine

@[simp] theorem State.setMember_frame (s : State) (n m : Nat) (v : VarVal) (launch : Ns) :
    (State.setMember s n m v launch).boot = s.boot ∧ (State.setMember s n m v launch).img = s.img ∧
    (State.setMember s n m v launch).flash = s.flash ∧ (State.setMember s n m v launch).ctrs = s.ctrs ∧
    (State.setMember s n m v launch).ctrsAt = s.ctrsAt ∧ (State.setMember s n m v launch).attn = s.attn ∧
    (State.setMember s n m v launch).partnerLog = s.partnerLog ∧ (State.setMember s n m v launch).bbx = s.bbx ∧
    (State.setMember s n m v launch).sens = s.sens ∧ (State.setMember s n m v launch).panel = s.panel ∧
    (State.setMember s n m v launch).ports = s.ports ∧ (State.setMember s n m v launch).cages = s.cages ∧
    (State.setMember s n m v launch).tcp = s.tcp ∧ (State.setMember s n m v launch).time = s.time ∧
    (State.setMember s n m v launch).align = s.align ∧ (State.setMember s n m v launch).swage = s.swage ∧
    (State.setMember s n m v launch).osc = s.osc ∧ (State.setMember s n m v launch).isl = s.isl ∧
    (State.setMember s n m v launch).sch = s.sch ∧ (State.setMember s n m v launch).logic = s.logic ∧
    (State.setMember s n m v launch).cap = s.cap ∧ (State.setMember s n m v launch).pair = s.pair ∧
    (State.setMember s n m v launch).otp = s.otp ∧ (State.setMember s n m v launch).vault = s.vault ∧
    (State.setMember s n m v launch).emp = s.emp ∧ (State.setMember s n m v launch).tap = s.tap ∧
    (State.setMember s n m v launch).ext = s.ext ∧ (State.setMember s n m v launch).served = s.served ∧
    (State.setMember s n m v launch).free = s.free ∧ (State.setMember s n m v launch).pending = s.pending := by
  simp [State.setMember]

@[simp] theorem State.queueTrigs_frame (s : State) (ts : List Trig) :
    (State.queueTrigs s ts).boot = s.boot ∧ (State.queueTrigs s ts).img = s.img ∧
    (State.queueTrigs s ts).flash = s.flash ∧ (State.queueTrigs s ts).ctrs = s.ctrs ∧
    (State.queueTrigs s ts).ctrsAt = s.ctrsAt ∧ (State.queueTrigs s ts).attn = s.attn ∧
    (State.queueTrigs s ts).partnerLog = s.partnerLog ∧ (State.queueTrigs s ts).bbx = s.bbx ∧
    (State.queueTrigs s ts).sens = s.sens ∧ (State.queueTrigs s ts).panel = s.panel ∧
    (State.queueTrigs s ts).ports = s.ports ∧ (State.queueTrigs s ts).cages = s.cages ∧
    (State.queueTrigs s ts).tcp = s.tcp ∧ (State.queueTrigs s ts).streams = s.streams ∧
    (State.queueTrigs s ts).time = s.time ∧ (State.queueTrigs s ts).align = s.align ∧
    (State.queueTrigs s ts).swage = s.swage ∧ (State.queueTrigs s ts).osc = s.osc ∧ (State.queueTrigs s ts).isl = s.isl ∧
    (State.queueTrigs s ts).sch = s.sch ∧ (State.queueTrigs s ts).logic = s.logic ∧ (State.queueTrigs s ts).pub = s.pub ∧
    (State.queueTrigs s ts).pair = s.pair ∧ (State.queueTrigs s ts).otp = s.otp ∧
    (State.queueTrigs s ts).vault = s.vault ∧ (State.queueTrigs s ts).emp = s.emp ∧ (State.queueTrigs s ts).tap = s.tap ∧
    (State.queueTrigs s ts).ext = s.ext ∧ (State.queueTrigs s ts).served = s.served ∧
    (State.queueTrigs s ts).free = s.free ∧ (State.queueTrigs s ts).pending = s.pending := by
  simp [State.queueTrigs]

@[simp] theorem State.raise_frame (s : State) (e : Event) :
    (State.raise s e).boot = s.boot ∧ (State.raise s e).img = s.img ∧ (State.raise s e).flash = s.flash ∧
    (State.raise s e).ctrs = s.ctrs ∧ (State.raise s e).ctrsAt = s.ctrsAt ∧ (State.raise s e).attn = s.attn ∧
    (State.raise s e).partnerLog = s.partnerLog ∧ (State.raise s e).bbx = s.bbx ∧ (State.raise s e).sens = s.sens ∧
    (State.raise s e).panel = s.panel ∧ (State.raise s e).ports = s.ports ∧ (State.raise s e).cages = s.cages ∧
    (State.raise s e).tcp = s.tcp ∧ (State.raise s e).time = s.time ∧ (State.raise s e).align = s.align ∧
    (State.raise s e).swage = s.swage ∧ (State.raise s e).osc = s.osc ∧ (State.raise s e).isl = s.isl ∧
    (State.raise s e).sch = s.sch ∧ (State.raise s e).pair = s.pair ∧ (State.raise s e).otp = s.otp ∧
    (State.raise s e).vault = s.vault ∧ (State.raise s e).emp = s.emp ∧ (State.raise s e).tap = s.tap ∧
    (State.raise s e).ext = s.ext ∧ (State.raise s e).served = s.served ∧ (State.raise s e).free = s.free ∧
    (State.raise s e).pending = s.pending := by
  simp [State.raise]

end Sys2Proof.Machine
end

