-- ==== Sys2Proof/Laws/FrameAlarmOps.lean ====
section
/-! SUPPORT. What each operation of Machine/AlarmOps.lean leaves unchanged: one frame lemma per operation. -/

namespace Sys2Proof.Machine

@[simp] theorem State.sign_frame (s : State) (n : Nat) :
    ((State.sign s n).1).boot = s.boot ∧ ((State.sign s n).1).img = s.img ∧ ((State.sign s n).1).flash = s.flash ∧
    ((State.sign s n).1).ctrsAt = s.ctrsAt ∧ ((State.sign s n).1).partnerLog = s.partnerLog ∧
    ((State.sign s n).1).bbx = s.bbx ∧ ((State.sign s n).1).sens = s.sens ∧ ((State.sign s n).1).panel = s.panel ∧
    ((State.sign s n).1).cages = s.cages ∧ ((State.sign s n).1).tcp = s.tcp ∧ ((State.sign s n).1).streams = s.streams ∧
    ((State.sign s n).1).time = s.time ∧ ((State.sign s n).1).align = s.align ∧ ((State.sign s n).1).swage = s.swage ∧
    ((State.sign s n).1).osc = s.osc ∧ ((State.sign s n).1).isl = s.isl ∧ ((State.sign s n).1).sch = s.sch ∧
    ((State.sign s n).1).logic = s.logic ∧ ((State.sign s n).1).cap = s.cap ∧ ((State.sign s n).1).pub = s.pub ∧
    ((State.sign s n).1).otp = s.otp ∧ ((State.sign s n).1).emp = s.emp ∧ ((State.sign s n).1).tap = s.tap ∧
    ((State.sign s n).1).ext = s.ext ∧ ((State.sign s n).1).served = s.served ∧ ((State.sign s n).1).free = s.free ∧
    ((State.sign s n).1).pending = s.pending := by
  unfold State.sign
  try dsimp only
  repeat' split
  all_goals simp

@[simp] theorem State.chargeGoose_frame (s : State) (n cls ttl : Nat) :
    (State.chargeGoose s n cls ttl).boot = s.boot ∧ (State.chargeGoose s n cls ttl).img = s.img ∧
    (State.chargeGoose s n cls ttl).flash = s.flash ∧ (State.chargeGoose s n cls ttl).ctrs = s.ctrs ∧
    (State.chargeGoose s n cls ttl).ctrsAt = s.ctrsAt ∧ (State.chargeGoose s n cls ttl).attn = s.attn ∧
    (State.chargeGoose s n cls ttl).partnerLog = s.partnerLog ∧ (State.chargeGoose s n cls ttl).bbx = s.bbx ∧
    (State.chargeGoose s n cls ttl).sens = s.sens ∧ (State.chargeGoose s n cls ttl).panel = s.panel ∧
    (State.chargeGoose s n cls ttl).ports = s.ports ∧ (State.chargeGoose s n cls ttl).cages = s.cages ∧
    (State.chargeGoose s n cls ttl).tcp = s.tcp ∧ (State.chargeGoose s n cls ttl).streams = s.streams ∧
    (State.chargeGoose s n cls ttl).time = s.time ∧ (State.chargeGoose s n cls ttl).align = s.align ∧
    (State.chargeGoose s n cls ttl).swage = s.swage ∧ (State.chargeGoose s n cls ttl).osc = s.osc ∧
    (State.chargeGoose s n cls ttl).isl = s.isl ∧ (State.chargeGoose s n cls ttl).logic = s.logic ∧
    (State.chargeGoose s n cls ttl).cap = s.cap ∧ (State.chargeGoose s n cls ttl).pub = s.pub ∧
    (State.chargeGoose s n cls ttl).pair = s.pair ∧ (State.chargeGoose s n cls ttl).otp = s.otp ∧
    (State.chargeGoose s n cls ttl).vault = s.vault ∧ (State.chargeGoose s n cls ttl).emp = s.emp ∧
    (State.chargeGoose s n cls ttl).tap = s.tap ∧ (State.chargeGoose s n cls ttl).ext = s.ext ∧
    (State.chargeGoose s n cls ttl).served = s.served ∧ (State.chargeGoose s n cls ttl).free = s.free ∧
    (State.chargeGoose s n cls ttl).pending = s.pending := by
  simp [State.chargeGoose]

@[simp] theorem State.goose_frame (s : State) (n : Nat) (launch : Ns) (ttl : Nat) :
    (State.goose s n launch ttl).boot = s.boot ∧ (State.goose s n launch ttl).img = s.img ∧
    (State.goose s n launch ttl).flash = s.flash ∧ (State.goose s n launch ttl).ctrsAt = s.ctrsAt ∧
    (State.goose s n launch ttl).partnerLog = s.partnerLog ∧ (State.goose s n launch ttl).bbx = s.bbx ∧
    (State.goose s n launch ttl).sens = s.sens ∧ (State.goose s n launch ttl).panel = s.panel ∧
    (State.goose s n launch ttl).cages = s.cages ∧ (State.goose s n launch ttl).tcp = s.tcp ∧
    (State.goose s n launch ttl).streams = s.streams ∧ (State.goose s n launch ttl).time = s.time ∧
    (State.goose s n launch ttl).align = s.align ∧ (State.goose s n launch ttl).swage = s.swage ∧
    (State.goose s n launch ttl).osc = s.osc ∧ (State.goose s n launch ttl).isl = s.isl ∧
    (State.goose s n launch ttl).sch = s.sch ∧ (State.goose s n launch ttl).logic = s.logic ∧
    (State.goose s n launch ttl).cap = s.cap ∧ (State.goose s n launch ttl).pub = s.pub ∧
    (State.goose s n launch ttl).otp = s.otp ∧ (State.goose s n launch ttl).emp = s.emp ∧
    (State.goose s n launch ttl).tap = s.tap ∧ (State.goose s n launch ttl).ext = s.ext ∧
    (State.goose s n launch ttl).served = s.served ∧ (State.goose s n launch ttl).free = s.free ∧
    (State.goose s n launch ttl).pending = s.pending := by
  unfold State.goose
  try dsimp only
  repeat' split
  all_goals first
    | (simp; done)
    | (rename_i h; have h1 := congrArg Prod.fst h; dsimp only at h1; subst h1; simp; done)
    | (rename_i h _; have h1 := congrArg Prod.fst h; dsimp only at h1; subst h1; simp; done)
    | (rename_i h _ _; have h1 := congrArg Prod.fst h; dsimp only at h1; subst h1; simp; done)

@[simp] theorem State.alarmChange_frame (s : State) (n : Nat) (launch : Ns) :
    (State.alarmChange s n launch).boot = s.boot ∧ (State.alarmChange s n launch).img = s.img ∧
    (State.alarmChange s n launch).flash = s.flash ∧ (State.alarmChange s n launch).ctrsAt = s.ctrsAt ∧
    (State.alarmChange s n launch).partnerLog = s.partnerLog ∧ (State.alarmChange s n launch).bbx = s.bbx ∧
    (State.alarmChange s n launch).sens = s.sens ∧ (State.alarmChange s n launch).panel = s.panel ∧
    (State.alarmChange s n launch).cages = s.cages ∧ (State.alarmChange s n launch).tcp = s.tcp ∧
    (State.alarmChange s n launch).time = s.time ∧ (State.alarmChange s n launch).align = s.align ∧
    (State.alarmChange s n launch).swage = s.swage ∧ (State.alarmChange s n launch).osc = s.osc ∧
    (State.alarmChange s n launch).isl = s.isl ∧ (State.alarmChange s n launch).sch = s.sch ∧
    (State.alarmChange s n launch).logic = s.logic ∧ (State.alarmChange s n launch).cap = s.cap ∧
    (State.alarmChange s n launch).otp = s.otp ∧ (State.alarmChange s n launch).emp = s.emp ∧
    (State.alarmChange s n launch).tap = s.tap ∧ (State.alarmChange s n launch).ext = s.ext ∧
    (State.alarmChange s n launch).served = s.served ∧ (State.alarmChange s n launch).free = s.free ∧
    (State.alarmChange s n launch).pending = s.pending := by
  simp [State.alarmChange]

@[simp] theorem State.alarmAgain_frame (s : State) (n : Nat) :
    (State.alarmAgain s n).boot = s.boot ∧ (State.alarmAgain s n).img = s.img ∧ (State.alarmAgain s n).flash = s.flash ∧
    (State.alarmAgain s n).ctrsAt = s.ctrsAt ∧ (State.alarmAgain s n).partnerLog = s.partnerLog ∧
    (State.alarmAgain s n).bbx = s.bbx ∧ (State.alarmAgain s n).sens = s.sens ∧ (State.alarmAgain s n).panel = s.panel ∧
    (State.alarmAgain s n).cages = s.cages ∧ (State.alarmAgain s n).tcp = s.tcp ∧ (State.alarmAgain s n).time = s.time ∧
    (State.alarmAgain s n).align = s.align ∧ (State.alarmAgain s n).swage = s.swage ∧
    (State.alarmAgain s n).osc = s.osc ∧ (State.alarmAgain s n).isl = s.isl ∧ (State.alarmAgain s n).sch = s.sch ∧
    (State.alarmAgain s n).logic = s.logic ∧ (State.alarmAgain s n).cap = s.cap ∧ (State.alarmAgain s n).otp = s.otp ∧
    (State.alarmAgain s n).emp = s.emp ∧ (State.alarmAgain s n).tap = s.tap ∧ (State.alarmAgain s n).ext = s.ext ∧
    (State.alarmAgain s n).served = s.served ∧ (State.alarmAgain s n).free = s.free ∧
    (State.alarmAgain s n).pending = s.pending := by
  simp [State.alarmAgain]

@[simp] theorem State.alarmRetry_frame (s : State) (n : Nat) :
    (State.alarmRetry s n).boot = s.boot ∧ (State.alarmRetry s n).img = s.img ∧ (State.alarmRetry s n).flash = s.flash ∧
    (State.alarmRetry s n).ctrsAt = s.ctrsAt ∧ (State.alarmRetry s n).partnerLog = s.partnerLog ∧
    (State.alarmRetry s n).bbx = s.bbx ∧ (State.alarmRetry s n).sens = s.sens ∧ (State.alarmRetry s n).panel = s.panel ∧
    (State.alarmRetry s n).cages = s.cages ∧ (State.alarmRetry s n).tcp = s.tcp ∧ (State.alarmRetry s n).time = s.time ∧
    (State.alarmRetry s n).align = s.align ∧ (State.alarmRetry s n).swage = s.swage ∧
    (State.alarmRetry s n).osc = s.osc ∧ (State.alarmRetry s n).isl = s.isl ∧ (State.alarmRetry s n).sch = s.sch ∧
    (State.alarmRetry s n).logic = s.logic ∧ (State.alarmRetry s n).cap = s.cap ∧ (State.alarmRetry s n).otp = s.otp ∧
    (State.alarmRetry s n).emp = s.emp ∧ (State.alarmRetry s n).tap = s.tap ∧ (State.alarmRetry s n).ext = s.ext ∧
    (State.alarmRetry s n).served = s.served ∧ (State.alarmRetry s n).free = s.free ∧
    (State.alarmRetry s n).pending = s.pending := by
  simp [State.alarmRetry]

@[simp] theorem State.alarmInitial_frame (s : State) (n : Nat) :
    (State.alarmInitial s n).boot = s.boot ∧ (State.alarmInitial s n).img = s.img ∧
    (State.alarmInitial s n).flash = s.flash ∧ (State.alarmInitial s n).ctrsAt = s.ctrsAt ∧
    (State.alarmInitial s n).partnerLog = s.partnerLog ∧ (State.alarmInitial s n).bbx = s.bbx ∧
    (State.alarmInitial s n).sens = s.sens ∧ (State.alarmInitial s n).panel = s.panel ∧
    (State.alarmInitial s n).cages = s.cages ∧ (State.alarmInitial s n).tcp = s.tcp ∧
    (State.alarmInitial s n).time = s.time ∧ (State.alarmInitial s n).align = s.align ∧
    (State.alarmInitial s n).swage = s.swage ∧ (State.alarmInitial s n).osc = s.osc ∧
    (State.alarmInitial s n).isl = s.isl ∧ (State.alarmInitial s n).sch = s.sch ∧
    (State.alarmInitial s n).logic = s.logic ∧ (State.alarmInitial s n).cap = s.cap ∧
    (State.alarmInitial s n).otp = s.otp ∧ (State.alarmInitial s n).emp = s.emp ∧ (State.alarmInitial s n).tap = s.tap ∧
    (State.alarmInitial s n).ext = s.ext ∧ (State.alarmInitial s n).served = s.served ∧
    (State.alarmInitial s n).free = s.free ∧ (State.alarmInitial s n).pending = s.pending := by
  simp [State.alarmInitial]

end Sys2Proof.Machine
end

