-- ==== Sys2Proof/Laws/FrameLogicOps.lean ====
section
/-! SUPPORT. What each operation of Machine/LogicOps.lean leaves unchanged: one frame lemma per operation. -/

namespace Sys2Proof.Machine

@[simp] theorem State.adoptTask_frame (s : State) (t : Nat) :
    (State.adoptTask s t).boot = s.boot ∧ (State.adoptTask s t).img = s.img ∧ (State.adoptTask s t).flash = s.flash ∧
    (State.adoptTask s t).ctrsAt = s.ctrsAt ∧ (State.adoptTask s t).attn = s.attn ∧
    (State.adoptTask s t).partnerLog = s.partnerLog ∧ (State.adoptTask s t).bbx = s.bbx ∧
    (State.adoptTask s t).sens = s.sens ∧ (State.adoptTask s t).panel = s.panel ∧ (State.adoptTask s t).ports = s.ports ∧
    (State.adoptTask s t).cages = s.cages ∧ (State.adoptTask s t).tcp = s.tcp ∧
    (State.adoptTask s t).streams = s.streams ∧ (State.adoptTask s t).time = s.time ∧
    (State.adoptTask s t).align = s.align ∧ (State.adoptTask s t).swage = s.swage ∧ (State.adoptTask s t).osc = s.osc ∧
    (State.adoptTask s t).isl = s.isl ∧ (State.adoptTask s t).sch = s.sch ∧ (State.adoptTask s t).cap = s.cap ∧
    (State.adoptTask s t).pub = s.pub ∧ (State.adoptTask s t).pair = s.pair ∧ (State.adoptTask s t).otp = s.otp ∧
    (State.adoptTask s t).vault = s.vault ∧ (State.adoptTask s t).emp = s.emp ∧ (State.adoptTask s t).tap = s.tap ∧
    (State.adoptTask s t).ext = s.ext ∧ (State.adoptTask s t).served = s.served ∧ (State.adoptTask s t).free = s.free ∧
    (State.adoptTask s t).pending = s.pending := by
  unfold State.adoptTask
  split <;> simp

@[simp] theorem State.scanBoundary_frame (s : State) (t : Nat) :
    (State.scanBoundary s t).boot = s.boot ∧ (State.scanBoundary s t).flash = s.flash ∧
    (State.scanBoundary s t).ctrsAt = s.ctrsAt ∧ (State.scanBoundary s t).partnerLog = s.partnerLog ∧
    (State.scanBoundary s t).panel = s.panel ∧ (State.scanBoundary s t).cages = s.cages ∧
    (State.scanBoundary s t).tcp = s.tcp ∧ (State.scanBoundary s t).streams = s.streams ∧
    (State.scanBoundary s t).time = s.time ∧ (State.scanBoundary s t).align = s.align ∧
    (State.scanBoundary s t).osc = s.osc ∧ (State.scanBoundary s t).isl = s.isl ∧ (State.scanBoundary s t).sch = s.sch ∧
    (State.scanBoundary s t).cap = s.cap ∧ (State.scanBoundary s t).pub = s.pub ∧ (State.scanBoundary s t).otp = s.otp ∧
    (State.scanBoundary s t).vault = s.vault ∧ (State.scanBoundary s t).emp = s.emp ∧
    (State.scanBoundary s t).tap = s.tap ∧ (State.scanBoundary s t).ext = s.ext ∧
    (State.scanBoundary s t).served = s.served ∧ (State.scanBoundary s t).free = s.free ∧
    (State.scanBoundary s t).pending = s.pending := by
  unfold State.scanBoundary
  try dsimp only
  refine forAll_inv (fun t : State =>
    t.boot = s.boot ∧ t.flash = s.flash ∧ t.ctrsAt = s.ctrsAt ∧ t.partnerLog = s.partnerLog ∧ t.panel = s.panel ∧
    t.cages = s.cages ∧ t.tcp = s.tcp ∧ t.streams = s.streams ∧ t.time = s.time ∧ t.align = s.align ∧ t.osc = s.osc ∧
    t.isl = s.isl ∧ t.sch = s.sch ∧ t.cap = s.cap ∧ t.pub = s.pub ∧ t.otp = s.otp ∧ t.vault = s.vault ∧ t.emp = s.emp ∧
    t.tap = s.tap ∧ t.ext = s.ext ∧ t.served = s.served ∧ t.free = s.free ∧ t.pending = s.pending) _ ?_ _ _ (by simp)
  intro t x ht
  try dsimp only
  repeat' split
  all_goals simpa using ht

@[simp] theorem State.takeSnapshot_frame (s : State) (it : Item) :
    (State.takeSnapshot s it).boot = s.boot ∧ (State.takeSnapshot s it).flash = s.flash ∧
    (State.takeSnapshot s it).ctrsAt = s.ctrsAt ∧ (State.takeSnapshot s it).partnerLog = s.partnerLog ∧
    (State.takeSnapshot s it).panel = s.panel ∧ (State.takeSnapshot s it).cages = s.cages ∧
    (State.takeSnapshot s it).tcp = s.tcp ∧ (State.takeSnapshot s it).streams = s.streams ∧
    (State.takeSnapshot s it).time = s.time ∧ (State.takeSnapshot s it).align = s.align ∧
    (State.takeSnapshot s it).osc = s.osc ∧ (State.takeSnapshot s it).isl = s.isl ∧
    (State.takeSnapshot s it).sch = s.sch ∧ (State.takeSnapshot s it).cap = s.cap ∧
    (State.takeSnapshot s it).pub = s.pub ∧ (State.takeSnapshot s it).otp = s.otp ∧
    (State.takeSnapshot s it).vault = s.vault ∧ (State.takeSnapshot s it).emp = s.emp ∧
    (State.takeSnapshot s it).tap = s.tap ∧ (State.takeSnapshot s it).ext = s.ext ∧
    (State.takeSnapshot s it).served = s.served ∧ (State.takeSnapshot s it).free = s.free ∧
    (State.takeSnapshot s it).pending = s.pending := by
  unfold State.takeSnapshot
  try dsimp only
  repeat' split
  all_goals simp

@[simp] theorem State.writeVar_frame (s : State) (v : Nat) (x : VarVal) :
    (State.writeVar s v x).boot = s.boot ∧ (State.writeVar s v x).img = s.img ∧ (State.writeVar s v x).flash = s.flash ∧
    (State.writeVar s v x).ctrs = s.ctrs ∧ (State.writeVar s v x).ctrsAt = s.ctrsAt ∧
    (State.writeVar s v x).attn = s.attn ∧ (State.writeVar s v x).partnerLog = s.partnerLog ∧
    (State.writeVar s v x).bbx = s.bbx ∧ (State.writeVar s v x).sens = s.sens ∧ (State.writeVar s v x).panel = s.panel ∧
    (State.writeVar s v x).ports = s.ports ∧ (State.writeVar s v x).cages = s.cages ∧
    (State.writeVar s v x).tcp = s.tcp ∧ (State.writeVar s v x).streams = s.streams ∧
    (State.writeVar s v x).time = s.time ∧ (State.writeVar s v x).align = s.align ∧
    (State.writeVar s v x).swage = s.swage ∧ (State.writeVar s v x).osc = s.osc ∧ (State.writeVar s v x).isl = s.isl ∧
    (State.writeVar s v x).sch = s.sch ∧ (State.writeVar s v x).cap = s.cap ∧ (State.writeVar s v x).pub = s.pub ∧
    (State.writeVar s v x).pair = s.pair ∧ (State.writeVar s v x).otp = s.otp ∧ (State.writeVar s v x).vault = s.vault ∧
    (State.writeVar s v x).emp = s.emp ∧ (State.writeVar s v x).tap = s.tap ∧ (State.writeVar s v x).ext = s.ext ∧
    (State.writeVar s v x).served = s.served ∧ (State.writeVar s v x).free = s.free ∧
    (State.writeVar s v x).pending = s.pending := by
  simp [State.writeVar]

@[simp] theorem State.instFirst_frame (s : State) (i : Nat) (in0 : Bool) :
    ((State.instFirst s i in0).1).boot = s.boot ∧ ((State.instFirst s i in0).1).img = s.img ∧
    ((State.instFirst s i in0).1).flash = s.flash ∧ ((State.instFirst s i in0).1).ctrsAt = s.ctrsAt ∧
    ((State.instFirst s i in0).1).partnerLog = s.partnerLog ∧ ((State.instFirst s i in0).1).bbx = s.bbx ∧
    ((State.instFirst s i in0).1).sens = s.sens ∧ ((State.instFirst s i in0).1).panel = s.panel ∧
    ((State.instFirst s i in0).1).cages = s.cages ∧ ((State.instFirst s i in0).1).tcp = s.tcp ∧
    ((State.instFirst s i in0).1).streams = s.streams ∧ ((State.instFirst s i in0).1).time = s.time ∧
    ((State.instFirst s i in0).1).align = s.align ∧ ((State.instFirst s i in0).1).swage = s.swage ∧
    ((State.instFirst s i in0).1).osc = s.osc ∧ ((State.instFirst s i in0).1).isl = s.isl ∧
    ((State.instFirst s i in0).1).sch = s.sch ∧ ((State.instFirst s i in0).1).logic = s.logic ∧
    ((State.instFirst s i in0).1).cap = s.cap ∧ ((State.instFirst s i in0).1).pub = s.pub ∧
    ((State.instFirst s i in0).1).otp = s.otp ∧ ((State.instFirst s i in0).1).vault = s.vault ∧
    ((State.instFirst s i in0).1).emp = s.emp ∧ ((State.instFirst s i in0).1).tap = s.tap ∧
    ((State.instFirst s i in0).1).ext = s.ext ∧ ((State.instFirst s i in0).1).served = s.served ∧
    ((State.instFirst s i in0).1).free = s.free ∧ ((State.instFirst s i in0).1).pending = s.pending := by
  unfold State.instFirst
  try dsimp only
  repeat' split
  all_goals simp

@[simp] theorem State.instRun_frame (s : State) (sn : Snapshot) (d i : Nat) :
    (State.instRun s sn d i).boot = s.boot ∧ (State.instRun s sn d i).img = s.img ∧
    (State.instRun s sn d i).flash = s.flash ∧ (State.instRun s sn d i).ctrsAt = s.ctrsAt ∧
    (State.instRun s sn d i).partnerLog = s.partnerLog ∧ (State.instRun s sn d i).bbx = s.bbx ∧
    (State.instRun s sn d i).sens = s.sens ∧ (State.instRun s sn d i).panel = s.panel ∧
    (State.instRun s sn d i).cages = s.cages ∧ (State.instRun s sn d i).tcp = s.tcp ∧
    (State.instRun s sn d i).streams = s.streams ∧ (State.instRun s sn d i).time = s.time ∧
    (State.instRun s sn d i).align = s.align ∧ (State.instRun s sn d i).swage = s.swage ∧
    (State.instRun s sn d i).osc = s.osc ∧ (State.instRun s sn d i).isl = s.isl ∧ (State.instRun s sn d i).sch = s.sch ∧
    (State.instRun s sn d i).cap = s.cap ∧ (State.instRun s sn d i).pub = s.pub ∧ (State.instRun s sn d i).otp = s.otp ∧
    (State.instRun s sn d i).vault = s.vault ∧ (State.instRun s sn d i).emp = s.emp ∧
    (State.instRun s sn d i).tap = s.tap ∧ (State.instRun s sn d i).ext = s.ext ∧
    (State.instRun s sn d i).served = s.served ∧ (State.instRun s sn d i).free = s.free ∧
    (State.instRun s sn d i).pending = s.pending := by
  unfold State.instRun
  try dsimp only
  repeat' split
  all_goals simp

theorem State.hiska_frame (sn : Snapshot) (d n pc : Nat) (h : List VarVal) (s t : State) (hr : State.hiska sn d n pc h s = some t) :
    (t).boot = s.boot ∧ (t).img = s.img ∧ (t).flash = s.flash ∧ (t).ctrsAt = s.ctrsAt ∧ (t).partnerLog = s.partnerLog ∧
    (t).bbx = s.bbx ∧ (t).sens = s.sens ∧ (t).panel = s.panel ∧ (t).cages = s.cages ∧ (t).tcp = s.tcp ∧
    (t).streams = s.streams ∧ (t).time = s.time ∧ (t).align = s.align ∧ (t).swage = s.swage ∧ (t).osc = s.osc ∧
    (t).isl = s.isl ∧ (t).sch = s.sch ∧ (t).cap = s.cap ∧ (t).pub = s.pub ∧ (t).otp = s.otp ∧ (t).vault = s.vault ∧
    (t).emp = s.emp ∧ (t).tap = s.tap ∧ (t).ext = s.ext ∧ (t).served = s.served ∧ (t).free = s.free ∧
    (t).pending = s.pending := by
  induction n generalizing pc h s with
  | zero => simp [State.hiska] at hr
  | succ n ih =>
    unfold State.hiska at hr
    dsimp only at hr
    repeat' split at hr
    all_goals first
      | (obtain rfl := Option.some.inj hr; simp)
      | (have := ih _ _ _ hr; simpa using this)
      | cases hr


theorem State.runScan_frame (s t : State) (sn : Snapshot) (h : s.runScan sn = some t) :
    (t).boot = s.boot ∧ (t).img = s.img ∧ (t).flash = s.flash ∧ (t).ctrsAt = s.ctrsAt ∧ (t).partnerLog = s.partnerLog ∧
    (t).bbx = s.bbx ∧ (t).sens = s.sens ∧ (t).panel = s.panel ∧ (t).cages = s.cages ∧ (t).tcp = s.tcp ∧
    (t).streams = s.streams ∧ (t).time = s.time ∧ (t).align = s.align ∧ (t).swage = s.swage ∧ (t).osc = s.osc ∧
    (t).isl = s.isl ∧ (t).sch = s.sch ∧ (t).cap = s.cap ∧ (t).pub = s.pub ∧ (t).otp = s.otp ∧ (t).vault = s.vault ∧
    (t).emp = s.emp ∧ (t).tap = s.tap ∧ (t).ext = s.ext ∧ (t).served = s.served ∧ (t).free = s.free ∧
    (t).pending = s.pending := by
  unfold State.runScan at h
  dsimp only at h
  repeat' split at h
  all_goals first
    | (have := State.hiska_frame _ _ _ _ _ _ _ h; simpa using this)
    | (obtain rfl := Option.some.inj h; simp)


@[simp] theorem State.handOver_frame (s : State) (o : Nat) :
    (State.handOver s o).boot = s.boot ∧ (State.handOver s o).img = s.img ∧ (State.handOver s o).flash = s.flash ∧
    (State.handOver s o).ctrsAt = s.ctrsAt ∧ (State.handOver s o).attn = s.attn ∧
    (State.handOver s o).partnerLog = s.partnerLog ∧ (State.handOver s o).bbx = s.bbx ∧
    (State.handOver s o).sens = s.sens ∧ (State.handOver s o).panel = s.panel ∧ (State.handOver s o).ports = s.ports ∧
    (State.handOver s o).cages = s.cages ∧ (State.handOver s o).tcp = s.tcp ∧ (State.handOver s o).streams = s.streams ∧
    (State.handOver s o).time = s.time ∧ (State.handOver s o).align = s.align ∧ (State.handOver s o).swage = s.swage ∧
    (State.handOver s o).osc = s.osc ∧ (State.handOver s o).isl = s.isl ∧ (State.handOver s o).sch = s.sch ∧
    (State.handOver s o).logic = s.logic ∧ (State.handOver s o).cap = s.cap ∧ (State.handOver s o).pub = s.pub ∧
    (State.handOver s o).pair = s.pair ∧ (State.handOver s o).otp = s.otp ∧ (State.handOver s o).vault = s.vault ∧
    (State.handOver s o).emp = s.emp ∧ (State.handOver s o).tap = s.tap ∧ (State.handOver s o).ext = s.ext ∧
    (State.handOver s o).served = s.served ∧ (State.handOver s o).free = s.free ∧ (State.handOver s o).pending = s.pending := by
  simp [State.handOver]

@[simp] theorem State.outMember_frame (s : State) (sn : Snapshot) (o : Nat) :
    (State.outMember s sn o).boot = s.boot ∧ (State.outMember s sn o).img = s.img ∧
    (State.outMember s sn o).flash = s.flash ∧ (State.outMember s sn o).ctrsAt = s.ctrsAt ∧
    (State.outMember s sn o).attn = s.attn ∧ (State.outMember s sn o).partnerLog = s.partnerLog ∧
    (State.outMember s sn o).bbx = s.bbx ∧ (State.outMember s sn o).sens = s.sens ∧
    (State.outMember s sn o).panel = s.panel ∧ (State.outMember s sn o).ports = s.ports ∧
    (State.outMember s sn o).cages = s.cages ∧ (State.outMember s sn o).tcp = s.tcp ∧
    (State.outMember s sn o).time = s.time ∧ (State.outMember s sn o).align = s.align ∧
    (State.outMember s sn o).swage = s.swage ∧ (State.outMember s sn o).osc = s.osc ∧
    (State.outMember s sn o).isl = s.isl ∧ (State.outMember s sn o).sch = s.sch ∧ (State.outMember s sn o).cap = s.cap ∧
    (State.outMember s sn o).pair = s.pair ∧ (State.outMember s sn o).otp = s.otp ∧
    (State.outMember s sn o).vault = s.vault ∧ (State.outMember s sn o).emp = s.emp ∧
    (State.outMember s sn o).tap = s.tap ∧ (State.outMember s sn o).ext = s.ext ∧
    (State.outMember s sn o).served = s.served ∧ (State.outMember s sn o).free = s.free ∧
    (State.outMember s sn o).pending = s.pending := by
  simp [State.outMember]

@[simp] theorem State.outTrip_frame (s : State) (sn : Snapshot) (it : Item) (o : Nat) :
    (State.outTrip s sn it o).boot = s.boot ∧ (State.outTrip s sn it o).img = s.img ∧
    (State.outTrip s sn it o).flash = s.flash ∧ (State.outTrip s sn it o).ctrsAt = s.ctrsAt ∧
    (State.outTrip s sn it o).partnerLog = s.partnerLog ∧ (State.outTrip s sn it o).bbx = s.bbx ∧
    (State.outTrip s sn it o).sens = s.sens ∧ (State.outTrip s sn it o).panel = s.panel ∧
    (State.outTrip s sn it o).cages = s.cages ∧ (State.outTrip s sn it o).tcp = s.tcp ∧
    (State.outTrip s sn it o).time = s.time ∧ (State.outTrip s sn it o).align = s.align ∧
    (State.outTrip s sn it o).swage = s.swage ∧ (State.outTrip s sn it o).osc = s.osc ∧
    (State.outTrip s sn it o).isl = s.isl ∧ (State.outTrip s sn it o).cap = s.cap ∧
    (State.outTrip s sn it o).otp = s.otp ∧ (State.outTrip s sn it o).emp = s.emp ∧
    (State.outTrip s sn it o).tap = s.tap ∧ (State.outTrip s sn it o).ext = s.ext ∧
    (State.outTrip s sn it o).served = s.served ∧ (State.outTrip s sn it o).free = s.free ∧
    (State.outTrip s sn it o).pending = s.pending := by
  unfold State.outTrip
  try dsimp only
  repeat' split
  all_goals simp

@[simp] theorem State.sendLevel_frame (s : State) (d : Nat) (due tag : Ns) (v : Bool) :
    (State.sendLevel s d due tag v).boot = s.boot ∧ (State.sendLevel s d due tag v).img = s.img ∧
    (State.sendLevel s d due tag v).flash = s.flash ∧ (State.sendLevel s d due tag v).ctrsAt = s.ctrsAt ∧
    (State.sendLevel s d due tag v).partnerLog = s.partnerLog ∧ (State.sendLevel s d due tag v).bbx = s.bbx ∧
    (State.sendLevel s d due tag v).sens = s.sens ∧ (State.sendLevel s d due tag v).panel = s.panel ∧
    (State.sendLevel s d due tag v).cages = s.cages ∧ (State.sendLevel s d due tag v).tcp = s.tcp ∧
    (State.sendLevel s d due tag v).streams = s.streams ∧ (State.sendLevel s d due tag v).time = s.time ∧
    (State.sendLevel s d due tag v).align = s.align ∧ (State.sendLevel s d due tag v).swage = s.swage ∧
    (State.sendLevel s d due tag v).osc = s.osc ∧ (State.sendLevel s d due tag v).isl = s.isl ∧
    (State.sendLevel s d due tag v).sch = s.sch ∧ (State.sendLevel s d due tag v).cap = s.cap ∧
    (State.sendLevel s d due tag v).pub = s.pub ∧ (State.sendLevel s d due tag v).otp = s.otp ∧
    (State.sendLevel s d due tag v).vault = s.vault ∧ (State.sendLevel s d due tag v).emp = s.emp ∧
    (State.sendLevel s d due tag v).tap = s.tap ∧ (State.sendLevel s d due tag v).ext = s.ext ∧
    (State.sendLevel s d due tag v).served = s.served ∧ (State.sendLevel s d due tag v).free = s.free ∧
    (State.sendLevel s d due tag v).pending = s.pending := by
  simp [State.sendLevel]

@[simp] theorem State.resendLevels_frame (s : State) :
    (State.resendLevels s).boot = s.boot ∧ (State.resendLevels s).img = s.img ∧ (State.resendLevels s).flash = s.flash ∧
    (State.resendLevels s).ctrsAt = s.ctrsAt ∧ (State.resendLevels s).partnerLog = s.partnerLog ∧
    (State.resendLevels s).bbx = s.bbx ∧ (State.resendLevels s).sens = s.sens ∧ (State.resendLevels s).panel = s.panel ∧
    (State.resendLevels s).cages = s.cages ∧ (State.resendLevels s).tcp = s.tcp ∧
    (State.resendLevels s).streams = s.streams ∧ (State.resendLevels s).time = s.time ∧
    (State.resendLevels s).align = s.align ∧ (State.resendLevels s).swage = s.swage ∧
    (State.resendLevels s).osc = s.osc ∧ (State.resendLevels s).isl = s.isl ∧ (State.resendLevels s).sch = s.sch ∧
    (State.resendLevels s).cap = s.cap ∧ (State.resendLevels s).pub = s.pub ∧ (State.resendLevels s).otp = s.otp ∧
    (State.resendLevels s).vault = s.vault ∧ (State.resendLevels s).emp = s.emp ∧ (State.resendLevels s).tap = s.tap ∧
    (State.resendLevels s).ext = s.ext ∧ (State.resendLevels s).served = s.served ∧
    (State.resendLevels s).free = s.free ∧ (State.resendLevels s).pending = s.pending := by
  unfold State.resendLevels
  try dsimp only
  refine forAll_inv (fun t : State =>
    t.boot = s.boot ∧ t.img = s.img ∧ t.flash = s.flash ∧ t.ctrsAt = s.ctrsAt ∧ t.partnerLog = s.partnerLog ∧
    t.bbx = s.bbx ∧ t.sens = s.sens ∧ t.panel = s.panel ∧ t.cages = s.cages ∧ t.tcp = s.tcp ∧ t.streams = s.streams ∧
    t.time = s.time ∧ t.align = s.align ∧ t.swage = s.swage ∧ t.osc = s.osc ∧ t.isl = s.isl ∧ t.sch = s.sch ∧
    t.cap = s.cap ∧ t.pub = s.pub ∧ t.otp = s.otp ∧ t.vault = s.vault ∧ t.emp = s.emp ∧ t.tap = s.tap ∧ t.ext = s.ext ∧
    t.served = s.served ∧ t.free = s.free ∧ t.pending = s.pending) _ ?_ _ _ (by simp)
  intro t x ht
  try dsimp only
  repeat' split
  all_goals simpa using ht

@[simp] theorem State.outLevel_frame (s : State) (sn : Snapshot) (o : Nat) :
    (State.outLevel s sn o).boot = s.boot ∧ (State.outLevel s sn o).img = s.img ∧
    (State.outLevel s sn o).flash = s.flash ∧ (State.outLevel s sn o).ctrsAt = s.ctrsAt ∧
    (State.outLevel s sn o).partnerLog = s.partnerLog ∧ (State.outLevel s sn o).bbx = s.bbx ∧
    (State.outLevel s sn o).sens = s.sens ∧ (State.outLevel s sn o).panel = s.panel ∧
    (State.outLevel s sn o).cages = s.cages ∧ (State.outLevel s sn o).tcp = s.tcp ∧
    (State.outLevel s sn o).streams = s.streams ∧ (State.outLevel s sn o).time = s.time ∧
    (State.outLevel s sn o).align = s.align ∧ (State.outLevel s sn o).swage = s.swage ∧
    (State.outLevel s sn o).osc = s.osc ∧ (State.outLevel s sn o).isl = s.isl ∧ (State.outLevel s sn o).sch = s.sch ∧
    (State.outLevel s sn o).cap = s.cap ∧ (State.outLevel s sn o).pub = s.pub ∧ (State.outLevel s sn o).otp = s.otp ∧
    (State.outLevel s sn o).vault = s.vault ∧ (State.outLevel s sn o).emp = s.emp ∧ (State.outLevel s sn o).tap = s.tap ∧
    (State.outLevel s sn o).ext = s.ext ∧ (State.outLevel s sn o).served = s.served ∧
    (State.outLevel s sn o).free = s.free ∧ (State.outLevel s sn o).pending = s.pending := by
  simp [State.outLevel]

@[simp] theorem State.completeScan_frame (before s : State) (sn : Snapshot) (it : Item) :
    (State.completeScan before s sn it).img = s.img ∧ (State.completeScan before s sn it).flash = s.flash ∧
    (State.completeScan before s sn it).ctrsAt = s.ctrsAt ∧
    (State.completeScan before s sn it).partnerLog = s.partnerLog ∧ (State.completeScan before s sn it).bbx = s.bbx ∧
    (State.completeScan before s sn it).sens = s.sens ∧ (State.completeScan before s sn it).panel = s.panel ∧
    (State.completeScan before s sn it).cages = s.cages ∧ (State.completeScan before s sn it).tcp = s.tcp ∧
    (State.completeScan before s sn it).time = s.time ∧ (State.completeScan before s sn it).align = s.align ∧
    (State.completeScan before s sn it).swage = s.swage ∧ (State.completeScan before s sn it).osc = s.osc ∧
    (State.completeScan before s sn it).isl = s.isl ∧ (State.completeScan before s sn it).otp = s.otp ∧
    (State.completeScan before s sn it).emp = s.emp ∧ (State.completeScan before s sn it).tap = s.tap ∧
    (State.completeScan before s sn it).ext = s.ext ∧ (State.completeScan before s sn it).served = s.served ∧
    (State.completeScan before s sn it).free = s.free ∧ (State.completeScan before s sn it).pending = s.pending := by
  simp [State.completeScan]

end Sys2Proof.Machine
end

