-- ==== Sys2Proof/Laws/FrameOscOps.lean ====
section
/-! SUPPORT. What each operation of Machine/OscOps.lean leaves unchanged: one frame lemma per operation. -/

namespace Sys2Proof.Machine

@[simp] theorem State.putAna_frame (s : State) (o : AnaOut) :
    (State.putAna s o).boot = s.boot ∧ (State.putAna s o).img = s.img ∧ (State.putAna s o).flash = s.flash ∧
    (State.putAna s o).ctrs = s.ctrs ∧ (State.putAna s o).ctrsAt = s.ctrsAt ∧ (State.putAna s o).attn = s.attn ∧
    (State.putAna s o).partnerLog = s.partnerLog ∧ (State.putAna s o).bbx = s.bbx ∧ (State.putAna s o).sens = s.sens ∧
    (State.putAna s o).panel = s.panel ∧ (State.putAna s o).ports = s.ports ∧ (State.putAna s o).cages = s.cages ∧
    (State.putAna s o).tcp = s.tcp ∧ (State.putAna s o).streams = s.streams ∧ (State.putAna s o).time = s.time ∧
    (State.putAna s o).swage = s.swage ∧ (State.putAna s o).osc = s.osc ∧ (State.putAna s o).isl = s.isl ∧
    (State.putAna s o).sch = s.sch ∧ (State.putAna s o).logic = s.logic ∧ (State.putAna s o).cap = s.cap ∧
    (State.putAna s o).pub = s.pub ∧ (State.putAna s o).pair = s.pair ∧ (State.putAna s o).otp = s.otp ∧
    (State.putAna s o).vault = s.vault ∧ (State.putAna s o).emp = s.emp ∧ (State.putAna s o).tap = s.tap ∧
    (State.putAna s o).ext = s.ext ∧ (State.putAna s o).served = s.served ∧ (State.putAna s o).free = s.free ∧
    (State.putAna s o).pending = s.pending := by
  simp [State.putAna]

@[simp] theorem State.setAlarm_frame (s : State) (i : Nat) (a : ModeAlarm) :
    (State.setAlarm s i a).boot = s.boot ∧ (State.setAlarm s i a).img = s.img ∧ (State.setAlarm s i a).flash = s.flash ∧
    (State.setAlarm s i a).ctrs = s.ctrs ∧ (State.setAlarm s i a).ctrsAt = s.ctrsAt ∧
    (State.setAlarm s i a).attn = s.attn ∧ (State.setAlarm s i a).partnerLog = s.partnerLog ∧
    (State.setAlarm s i a).bbx = s.bbx ∧ (State.setAlarm s i a).sens = s.sens ∧ (State.setAlarm s i a).panel = s.panel ∧
    (State.setAlarm s i a).ports = s.ports ∧ (State.setAlarm s i a).cages = s.cages ∧
    (State.setAlarm s i a).tcp = s.tcp ∧ (State.setAlarm s i a).streams = s.streams ∧
    (State.setAlarm s i a).time = s.time ∧ (State.setAlarm s i a).align = s.align ∧
    (State.setAlarm s i a).swage = s.swage ∧ (State.setAlarm s i a).isl = s.isl ∧ (State.setAlarm s i a).sch = s.sch ∧
    (State.setAlarm s i a).logic = s.logic ∧ (State.setAlarm s i a).cap = s.cap ∧ (State.setAlarm s i a).pub = s.pub ∧
    (State.setAlarm s i a).pair = s.pair ∧ (State.setAlarm s i a).otp = s.otp ∧ (State.setAlarm s i a).vault = s.vault ∧
    (State.setAlarm s i a).emp = s.emp ∧ (State.setAlarm s i a).tap = s.tap ∧ (State.setAlarm s i a).ext = s.ext ∧
    (State.setAlarm s i a).served = s.served ∧ (State.setAlarm s i a).free = s.free ∧
    (State.setAlarm s i a).pending = s.pending := by
  simp [State.setAlarm]

@[simp] theorem State.oscLog_frame (s : State) (x : OscLog) :
    (State.oscLog s x).boot = s.boot ∧ (State.oscLog s x).img = s.img ∧ (State.oscLog s x).flash = s.flash ∧
    (State.oscLog s x).ctrs = s.ctrs ∧ (State.oscLog s x).ctrsAt = s.ctrsAt ∧ (State.oscLog s x).attn = s.attn ∧
    (State.oscLog s x).partnerLog = s.partnerLog ∧ (State.oscLog s x).bbx = s.bbx ∧ (State.oscLog s x).sens = s.sens ∧
    (State.oscLog s x).panel = s.panel ∧ (State.oscLog s x).ports = s.ports ∧ (State.oscLog s x).cages = s.cages ∧
    (State.oscLog s x).tcp = s.tcp ∧ (State.oscLog s x).streams = s.streams ∧ (State.oscLog s x).time = s.time ∧
    (State.oscLog s x).align = s.align ∧ (State.oscLog s x).swage = s.swage ∧ (State.oscLog s x).isl = s.isl ∧
    (State.oscLog s x).sch = s.sch ∧ (State.oscLog s x).logic = s.logic ∧ (State.oscLog s x).cap = s.cap ∧
    (State.oscLog s x).pub = s.pub ∧ (State.oscLog s x).pair = s.pair ∧ (State.oscLog s x).otp = s.otp ∧
    (State.oscLog s x).vault = s.vault ∧ (State.oscLog s x).emp = s.emp ∧ (State.oscLog s x).tap = s.tap ∧
    (State.oscLog s x).ext = s.ext ∧ (State.oscLog s x).served = s.served ∧ (State.oscLog s x).free = s.free ∧
    (State.oscLog s x).pending = s.pending := by
  simp [State.oscLog]

@[simp] theorem State.releaseMode_frame (s : State) (r : ModeRec) :
    (State.releaseMode s r).boot = s.boot ∧ (State.releaseMode s r).img = s.img ∧
    (State.releaseMode s r).flash = s.flash ∧ (State.releaseMode s r).ctrs = s.ctrs ∧
    (State.releaseMode s r).ctrsAt = s.ctrsAt ∧ (State.releaseMode s r).attn = s.attn ∧
    (State.releaseMode s r).partnerLog = s.partnerLog ∧ (State.releaseMode s r).bbx = s.bbx ∧
    (State.releaseMode s r).sens = s.sens ∧ (State.releaseMode s r).panel = s.panel ∧
    (State.releaseMode s r).ports = s.ports ∧ (State.releaseMode s r).cages = s.cages ∧
    (State.releaseMode s r).tcp = s.tcp ∧ (State.releaseMode s r).streams = s.streams ∧
    (State.releaseMode s r).time = s.time ∧ (State.releaseMode s r).swage = s.swage ∧
    (State.releaseMode s r).isl = s.isl ∧ (State.releaseMode s r).sch = s.sch ∧ (State.releaseMode s r).logic = s.logic ∧
    (State.releaseMode s r).cap = s.cap ∧ (State.releaseMode s r).pub = s.pub ∧ (State.releaseMode s r).pair = s.pair ∧
    (State.releaseMode s r).otp = s.otp ∧ (State.releaseMode s r).vault = s.vault ∧ (State.releaseMode s r).emp = s.emp ∧
    (State.releaseMode s r).tap = s.tap ∧ (State.releaseMode s r).ext = s.ext ∧
    (State.releaseMode s r).served = s.served ∧ (State.releaseMode s r).free = s.free ∧
    (State.releaseMode s r).pending = s.pending := by
  simp [State.releaseMode]

@[simp] theorem State.oscEvent_frame (s : State) (i kind : Nat) (edge : Bool) (cause : Nat) (tag : Ns) (v : Word) :
    (State.oscEvent s i kind edge cause tag v).boot = s.boot ∧ (State.oscEvent s i kind edge cause tag v).img = s.img ∧
    (State.oscEvent s i kind edge cause tag v).flash = s.flash ∧
    (State.oscEvent s i kind edge cause tag v).ctrsAt = s.ctrsAt ∧
    (State.oscEvent s i kind edge cause tag v).attn = s.attn ∧
    (State.oscEvent s i kind edge cause tag v).partnerLog = s.partnerLog ∧
    (State.oscEvent s i kind edge cause tag v).bbx = s.bbx ∧ (State.oscEvent s i kind edge cause tag v).sens = s.sens ∧
    (State.oscEvent s i kind edge cause tag v).panel = s.panel ∧
    (State.oscEvent s i kind edge cause tag v).ports = s.ports ∧
    (State.oscEvent s i kind edge cause tag v).cages = s.cages ∧ (State.oscEvent s i kind edge cause tag v).tcp = s.tcp ∧
    (State.oscEvent s i kind edge cause tag v).time = s.time ∧
    (State.oscEvent s i kind edge cause tag v).align = s.align ∧
    (State.oscEvent s i kind edge cause tag v).swage = s.swage ∧ (State.oscEvent s i kind edge cause tag v).osc = s.osc ∧
    (State.oscEvent s i kind edge cause tag v).isl = s.isl ∧ (State.oscEvent s i kind edge cause tag v).sch = s.sch ∧
    (State.oscEvent s i kind edge cause tag v).pair = s.pair ∧ (State.oscEvent s i kind edge cause tag v).otp = s.otp ∧
    (State.oscEvent s i kind edge cause tag v).vault = s.vault ∧ (State.oscEvent s i kind edge cause tag v).emp = s.emp ∧
    (State.oscEvent s i kind edge cause tag v).tap = s.tap ∧ (State.oscEvent s i kind edge cause tag v).ext = s.ext ∧
    (State.oscEvent s i kind edge cause tag v).served = s.served ∧
    (State.oscEvent s i kind edge cause tag v).free = s.free ∧
    (State.oscEvent s i kind edge cause tag v).pending = s.pending := by
  simp [State.oscEvent]

@[simp] theorem State.dropMode_frame (s : State) (i cause : Nat) :
    (State.dropMode s i cause).boot = s.boot ∧ (State.dropMode s i cause).img = s.img ∧
    (State.dropMode s i cause).flash = s.flash ∧ (State.dropMode s i cause).ctrsAt = s.ctrsAt ∧
    (State.dropMode s i cause).attn = s.attn ∧ (State.dropMode s i cause).partnerLog = s.partnerLog ∧
    (State.dropMode s i cause).bbx = s.bbx ∧ (State.dropMode s i cause).sens = s.sens ∧
    (State.dropMode s i cause).panel = s.panel ∧ (State.dropMode s i cause).ports = s.ports ∧
    (State.dropMode s i cause).cages = s.cages ∧ (State.dropMode s i cause).tcp = s.tcp ∧
    (State.dropMode s i cause).time = s.time ∧ (State.dropMode s i cause).align = s.align ∧
    (State.dropMode s i cause).swage = s.swage ∧ (State.dropMode s i cause).isl = s.isl ∧
    (State.dropMode s i cause).sch = s.sch ∧ (State.dropMode s i cause).pair = s.pair ∧
    (State.dropMode s i cause).otp = s.otp ∧ (State.dropMode s i cause).vault = s.vault ∧
    (State.dropMode s i cause).emp = s.emp ∧ (State.dropMode s i cause).tap = s.tap ∧
    (State.dropMode s i cause).ext = s.ext ∧ (State.dropMode s i cause).served = s.served ∧
    (State.dropMode s i cause).free = s.free ∧ (State.dropMode s i cause).pending = s.pending := by
  unfold State.dropMode
  extract_lets a0 s1
  have hs1 :
    s1.boot = s.boot ∧ s1.img = s.img ∧ s1.flash = s.flash ∧ s1.ctrsAt = s.ctrsAt ∧ s1.attn = s.attn ∧
    s1.partnerLog = s.partnerLog ∧ s1.bbx = s.bbx ∧ s1.sens = s.sens ∧ s1.panel = s.panel ∧ s1.ports = s.ports ∧
    s1.cages = s.cages ∧ s1.tcp = s.tcp ∧ s1.time = s.time ∧ s1.align = s.align ∧ s1.swage = s.swage ∧ s1.isl = s.isl ∧
    s1.sch = s.sch ∧ s1.pair = s.pair ∧ s1.otp = s.otp ∧ s1.vault = s.vault ∧ s1.emp = s.emp ∧ s1.tap = s.tap ∧
    s1.ext = s.ext ∧ s1.served = s.served ∧ s1.free = s.free ∧ s1.pending = s.pending := by
    simp only [s1]
    first
      | (simp; done)
      | (split <;> simp; done)
      | (refine forAll_inv (fun u : State =>
    u.boot = s.boot ∧ u.img = s.img ∧ u.flash = s.flash ∧ u.ctrsAt = s.ctrsAt ∧ u.attn = s.attn ∧
    u.partnerLog = s.partnerLog ∧ u.bbx = s.bbx ∧ u.sens = s.sens ∧ u.panel = s.panel ∧ u.ports = s.ports ∧
    u.cages = s.cages ∧ u.tcp = s.tcp ∧ u.time = s.time ∧ u.align = s.align ∧ u.swage = s.swage ∧ u.isl = s.isl ∧
    u.sch = s.sch ∧ u.pair = s.pair ∧ u.otp = s.otp ∧ u.vault = s.vault ∧ u.emp = s.emp ∧ u.tap = s.tap ∧ u.ext = s.ext ∧
    u.served = s.served ∧ u.free = s.free ∧ u.pending = s.pending) _ ?_ _ _ (by simp)
         intro u v hu
         try dsimp only
         repeat' split
         all_goals simpa using hu)
  clear_value s1
  repeat' split
  all_goals first
    | (simp [hs1]; done)
    | (refine forAll_inv (fun u : State =>
    u.boot = s.boot ∧ u.img = s.img ∧ u.flash = s.flash ∧ u.ctrsAt = s.ctrsAt ∧ u.attn = s.attn ∧
    u.partnerLog = s.partnerLog ∧ u.bbx = s.bbx ∧ u.sens = s.sens ∧ u.panel = s.panel ∧ u.ports = s.ports ∧
    u.cages = s.cages ∧ u.tcp = s.tcp ∧ u.time = s.time ∧ u.align = s.align ∧ u.swage = s.swage ∧ u.isl = s.isl ∧
    u.sch = s.sch ∧ u.pair = s.pair ∧ u.otp = s.otp ∧ u.vault = s.vault ∧ u.emp = s.emp ∧ u.tap = s.tap ∧ u.ext = s.ext ∧
    u.served = s.served ∧ u.free = s.free ∧ u.pending = s.pending) _ ?_ _ _ (by simp [hs1])
       intro u v hu
       try dsimp only
       repeat' split
       all_goals simpa using hu)

@[simp] theorem State.emptyBand_frame (s : State) (k : Nat) (upTo : Ns) :
    (State.emptyBand s k upTo).boot = s.boot ∧ (State.emptyBand s k upTo).img = s.img ∧
    (State.emptyBand s k upTo).flash = s.flash ∧ (State.emptyBand s k upTo).ctrs = s.ctrs ∧
    (State.emptyBand s k upTo).ctrsAt = s.ctrsAt ∧ (State.emptyBand s k upTo).attn = s.attn ∧
    (State.emptyBand s k upTo).partnerLog = s.partnerLog ∧ (State.emptyBand s k upTo).bbx = s.bbx ∧
    (State.emptyBand s k upTo).sens = s.sens ∧ (State.emptyBand s k upTo).panel = s.panel ∧
    (State.emptyBand s k upTo).ports = s.ports ∧ (State.emptyBand s k upTo).cages = s.cages ∧
    (State.emptyBand s k upTo).tcp = s.tcp ∧ (State.emptyBand s k upTo).streams = s.streams ∧
    (State.emptyBand s k upTo).time = s.time ∧ (State.emptyBand s k upTo).align = s.align ∧
    (State.emptyBand s k upTo).swage = s.swage ∧ (State.emptyBand s k upTo).isl = s.isl ∧
    (State.emptyBand s k upTo).sch = s.sch ∧ (State.emptyBand s k upTo).logic = s.logic ∧
    (State.emptyBand s k upTo).cap = s.cap ∧ (State.emptyBand s k upTo).pub = s.pub ∧
    (State.emptyBand s k upTo).pair = s.pair ∧ (State.emptyBand s k upTo).otp = s.otp ∧
    (State.emptyBand s k upTo).vault = s.vault ∧ (State.emptyBand s k upTo).emp = s.emp ∧
    (State.emptyBand s k upTo).tap = s.tap ∧ (State.emptyBand s k upTo).ext = s.ext ∧
    (State.emptyBand s k upTo).served = s.served ∧ (State.emptyBand s k upTo).free = s.free ∧
    (State.emptyBand s k upTo).pending = s.pending := by
  simp [State.emptyBand]

@[simp] theorem State.clearBand_frame (s : State) (k : Nat) (upTo : Ns) :
    (State.clearBand s k upTo).boot = s.boot ∧ (State.clearBand s k upTo).img = s.img ∧
    (State.clearBand s k upTo).flash = s.flash ∧ (State.clearBand s k upTo).ctrs = s.ctrs ∧
    (State.clearBand s k upTo).ctrsAt = s.ctrsAt ∧ (State.clearBand s k upTo).attn = s.attn ∧
    (State.clearBand s k upTo).partnerLog = s.partnerLog ∧ (State.clearBand s k upTo).bbx = s.bbx ∧
    (State.clearBand s k upTo).sens = s.sens ∧ (State.clearBand s k upTo).panel = s.panel ∧
    (State.clearBand s k upTo).ports = s.ports ∧ (State.clearBand s k upTo).cages = s.cages ∧
    (State.clearBand s k upTo).tcp = s.tcp ∧ (State.clearBand s k upTo).streams = s.streams ∧
    (State.clearBand s k upTo).time = s.time ∧ (State.clearBand s k upTo).align = s.align ∧
    (State.clearBand s k upTo).swage = s.swage ∧ (State.clearBand s k upTo).isl = s.isl ∧
    (State.clearBand s k upTo).sch = s.sch ∧ (State.clearBand s k upTo).logic = s.logic ∧
    (State.clearBand s k upTo).cap = s.cap ∧ (State.clearBand s k upTo).pub = s.pub ∧
    (State.clearBand s k upTo).pair = s.pair ∧ (State.clearBand s k upTo).otp = s.otp ∧
    (State.clearBand s k upTo).vault = s.vault ∧ (State.clearBand s k upTo).emp = s.emp ∧
    (State.clearBand s k upTo).tap = s.tap ∧ (State.clearBand s k upTo).ext = s.ext ∧
    (State.clearBand s k upTo).served = s.served ∧ (State.clearBand s k upTo).free = s.free ∧
    (State.clearBand s k upTo).pending = s.pending := by
  simp [State.clearBand]

@[simp] theorem State.restartBand_frame (s : State) (k : Nat) (upTo : Ns) :
    (State.restartBand s k upTo).boot = s.boot ∧ (State.restartBand s k upTo).img = s.img ∧
    (State.restartBand s k upTo).flash = s.flash ∧ (State.restartBand s k upTo).ctrsAt = s.ctrsAt ∧
    (State.restartBand s k upTo).attn = s.attn ∧ (State.restartBand s k upTo).partnerLog = s.partnerLog ∧
    (State.restartBand s k upTo).bbx = s.bbx ∧ (State.restartBand s k upTo).sens = s.sens ∧
    (State.restartBand s k upTo).panel = s.panel ∧ (State.restartBand s k upTo).ports = s.ports ∧
    (State.restartBand s k upTo).cages = s.cages ∧ (State.restartBand s k upTo).tcp = s.tcp ∧
    (State.restartBand s k upTo).time = s.time ∧ (State.restartBand s k upTo).align = s.align ∧
    (State.restartBand s k upTo).swage = s.swage ∧ (State.restartBand s k upTo).isl = s.isl ∧
    (State.restartBand s k upTo).sch = s.sch ∧ (State.restartBand s k upTo).pair = s.pair ∧
    (State.restartBand s k upTo).otp = s.otp ∧ (State.restartBand s k upTo).vault = s.vault ∧
    (State.restartBand s k upTo).emp = s.emp ∧ (State.restartBand s k upTo).tap = s.tap ∧
    (State.restartBand s k upTo).ext = s.ext ∧ (State.restartBand s k upTo).served = s.served ∧
    (State.restartBand s k upTo).free = s.free ∧ (State.restartBand s k upTo).pending = s.pending := by
  simp [State.restartBand]

@[simp] theorem State.restartOsc_frame (s : State) (upTo : Ns) :
    (State.restartOsc s upTo).boot = s.boot ∧ (State.restartOsc s upTo).img = s.img ∧
    (State.restartOsc s upTo).flash = s.flash ∧ (State.restartOsc s upTo).ctrsAt = s.ctrsAt ∧
    (State.restartOsc s upTo).attn = s.attn ∧ (State.restartOsc s upTo).partnerLog = s.partnerLog ∧
    (State.restartOsc s upTo).bbx = s.bbx ∧ (State.restartOsc s upTo).sens = s.sens ∧
    (State.restartOsc s upTo).panel = s.panel ∧ (State.restartOsc s upTo).ports = s.ports ∧
    (State.restartOsc s upTo).cages = s.cages ∧ (State.restartOsc s upTo).tcp = s.tcp ∧
    (State.restartOsc s upTo).time = s.time ∧ (State.restartOsc s upTo).align = s.align ∧
    (State.restartOsc s upTo).swage = s.swage ∧ (State.restartOsc s upTo).isl = s.isl ∧
    (State.restartOsc s upTo).sch = s.sch ∧ (State.restartOsc s upTo).pair = s.pair ∧
    (State.restartOsc s upTo).otp = s.otp ∧ (State.restartOsc s upTo).vault = s.vault ∧
    (State.restartOsc s upTo).emp = s.emp ∧ (State.restartOsc s upTo).tap = s.tap ∧
    (State.restartOsc s upTo).ext = s.ext ∧ (State.restartOsc s upTo).served = s.served ∧
    (State.restartOsc s upTo).free = s.free ∧ (State.restartOsc s upTo).pending = s.pending := by
  simp [State.restartOsc]

@[simp] theorem State.oscBoundary_frame (s : State) :
    (State.oscBoundary s).boot = s.boot ∧ (State.oscBoundary s).img = s.img ∧ (State.oscBoundary s).flash = s.flash ∧
    (State.oscBoundary s).ctrsAt = s.ctrsAt ∧ (State.oscBoundary s).attn = s.attn ∧
    (State.oscBoundary s).partnerLog = s.partnerLog ∧ (State.oscBoundary s).bbx = s.bbx ∧
    (State.oscBoundary s).sens = s.sens ∧ (State.oscBoundary s).panel = s.panel ∧ (State.oscBoundary s).ports = s.ports ∧
    (State.oscBoundary s).cages = s.cages ∧ (State.oscBoundary s).tcp = s.tcp ∧ (State.oscBoundary s).time = s.time ∧
    (State.oscBoundary s).align = s.align ∧ (State.oscBoundary s).swage = s.swage ∧ (State.oscBoundary s).isl = s.isl ∧
    (State.oscBoundary s).sch = s.sch ∧ (State.oscBoundary s).pair = s.pair ∧ (State.oscBoundary s).otp = s.otp ∧
    (State.oscBoundary s).vault = s.vault ∧ (State.oscBoundary s).emp = s.emp ∧ (State.oscBoundary s).tap = s.tap ∧
    (State.oscBoundary s).ext = s.ext ∧ (State.oscBoundary s).served = s.served ∧ (State.oscBoundary s).free = s.free ∧
    (State.oscBoundary s).pending = s.pending := by
  simp [State.oscBoundary]

@[simp] theorem State.noteParams_frame (s : State) (k : Nat) (bd : Ns) :
    (State.noteParams s k bd).boot = s.boot ∧ (State.noteParams s k bd).img = s.img ∧
    (State.noteParams s k bd).flash = s.flash ∧ (State.noteParams s k bd).ctrs = s.ctrs ∧
    (State.noteParams s k bd).ctrsAt = s.ctrsAt ∧ (State.noteParams s k bd).attn = s.attn ∧
    (State.noteParams s k bd).partnerLog = s.partnerLog ∧ (State.noteParams s k bd).bbx = s.bbx ∧
    (State.noteParams s k bd).sens = s.sens ∧ (State.noteParams s k bd).panel = s.panel ∧
    (State.noteParams s k bd).ports = s.ports ∧ (State.noteParams s k bd).cages = s.cages ∧
    (State.noteParams s k bd).tcp = s.tcp ∧ (State.noteParams s k bd).streams = s.streams ∧
    (State.noteParams s k bd).time = s.time ∧ (State.noteParams s k bd).align = s.align ∧
    (State.noteParams s k bd).swage = s.swage ∧ (State.noteParams s k bd).isl = s.isl ∧
    (State.noteParams s k bd).sch = s.sch ∧ (State.noteParams s k bd).logic = s.logic ∧
    (State.noteParams s k bd).cap = s.cap ∧ (State.noteParams s k bd).pub = s.pub ∧
    (State.noteParams s k bd).pair = s.pair ∧ (State.noteParams s k bd).otp = s.otp ∧
    (State.noteParams s k bd).vault = s.vault ∧ (State.noteParams s k bd).emp = s.emp ∧
    (State.noteParams s k bd).tap = s.tap ∧ (State.noteParams s k bd).ext = s.ext ∧
    (State.noteParams s k bd).served = s.served ∧ (State.noteParams s k bd).free = s.free ∧
    (State.noteParams s k bd).pending = s.pending := by
  simp [State.noteParams]

@[simp] theorem State.abandonOsc_frame (s : State) (it : Item) :
    (State.abandonOsc s it).boot = s.boot ∧ (State.abandonOsc s it).img = s.img ∧
    (State.abandonOsc s it).flash = s.flash ∧ (State.abandonOsc s it).ctrsAt = s.ctrsAt ∧
    (State.abandonOsc s it).attn = s.attn ∧ (State.abandonOsc s it).partnerLog = s.partnerLog ∧
    (State.abandonOsc s it).bbx = s.bbx ∧ (State.abandonOsc s it).sens = s.sens ∧
    (State.abandonOsc s it).panel = s.panel ∧ (State.abandonOsc s it).ports = s.ports ∧
    (State.abandonOsc s it).cages = s.cages ∧ (State.abandonOsc s it).tcp = s.tcp ∧
    (State.abandonOsc s it).streams = s.streams ∧ (State.abandonOsc s it).time = s.time ∧
    (State.abandonOsc s it).swage = s.swage ∧ (State.abandonOsc s it).isl = s.isl ∧ (State.abandonOsc s it).sch = s.sch ∧
    (State.abandonOsc s it).logic = s.logic ∧ (State.abandonOsc s it).cap = s.cap ∧ (State.abandonOsc s it).pub = s.pub ∧
    (State.abandonOsc s it).pair = s.pair ∧ (State.abandonOsc s it).otp = s.otp ∧
    (State.abandonOsc s it).vault = s.vault ∧ (State.abandonOsc s it).emp = s.emp ∧ (State.abandonOsc s it).tap = s.tap ∧
    (State.abandonOsc s it).ext = s.ext ∧ (State.abandonOsc s it).served = s.served ∧
    (State.abandonOsc s it).free = s.free ∧ (State.abandonOsc s it).pending = s.pending := by
  simp [State.abandonOsc]

@[simp] theorem State.abandonLoc_frame (s : State) (it : Item) :
    (State.abandonLoc s it).boot = s.boot ∧ (State.abandonLoc s it).img = s.img ∧
    (State.abandonLoc s it).flash = s.flash ∧ (State.abandonLoc s it).ctrs = s.ctrs ∧
    (State.abandonLoc s it).ctrsAt = s.ctrsAt ∧ (State.abandonLoc s it).attn = s.attn ∧
    (State.abandonLoc s it).partnerLog = s.partnerLog ∧ (State.abandonLoc s it).bbx = s.bbx ∧
    (State.abandonLoc s it).sens = s.sens ∧ (State.abandonLoc s it).panel = s.panel ∧
    (State.abandonLoc s it).ports = s.ports ∧ (State.abandonLoc s it).cages = s.cages ∧
    (State.abandonLoc s it).tcp = s.tcp ∧ (State.abandonLoc s it).streams = s.streams ∧
    (State.abandonLoc s it).time = s.time ∧ (State.abandonLoc s it).align = s.align ∧
    (State.abandonLoc s it).swage = s.swage ∧ (State.abandonLoc s it).isl = s.isl ∧ (State.abandonLoc s it).sch = s.sch ∧
    (State.abandonLoc s it).logic = s.logic ∧ (State.abandonLoc s it).cap = s.cap ∧ (State.abandonLoc s it).pub = s.pub ∧
    (State.abandonLoc s it).pair = s.pair ∧ (State.abandonLoc s it).otp = s.otp ∧
    (State.abandonLoc s it).vault = s.vault ∧ (State.abandonLoc s it).emp = s.emp ∧ (State.abandonLoc s it).tap = s.tap ∧
    (State.abandonLoc s it).ext = s.ext ∧ (State.abandonLoc s it).served = s.served ∧
    (State.abandonLoc s it).free = s.free ∧ (State.abandonLoc s it).pending = s.pending := by
  simp [State.abandonLoc]

@[simp] theorem State.trigLoc_frame (s : State) (l index : Nat) (f : Word) (tag : Ns) :
    (State.trigLoc s l index f tag).boot = s.boot ∧ (State.trigLoc s l index f tag).img = s.img ∧
    (State.trigLoc s l index f tag).flash = s.flash ∧ (State.trigLoc s l index f tag).ctrsAt = s.ctrsAt ∧
    (State.trigLoc s l index f tag).attn = s.attn ∧ (State.trigLoc s l index f tag).partnerLog = s.partnerLog ∧
    (State.trigLoc s l index f tag).bbx = s.bbx ∧ (State.trigLoc s l index f tag).sens = s.sens ∧
    (State.trigLoc s l index f tag).panel = s.panel ∧ (State.trigLoc s l index f tag).ports = s.ports ∧
    (State.trigLoc s l index f tag).cages = s.cages ∧ (State.trigLoc s l index f tag).tcp = s.tcp ∧
    (State.trigLoc s l index f tag).streams = s.streams ∧ (State.trigLoc s l index f tag).time = s.time ∧
    (State.trigLoc s l index f tag).align = s.align ∧ (State.trigLoc s l index f tag).swage = s.swage ∧
    (State.trigLoc s l index f tag).isl = s.isl ∧ (State.trigLoc s l index f tag).sch = s.sch ∧
    (State.trigLoc s l index f tag).logic = s.logic ∧ (State.trigLoc s l index f tag).cap = s.cap ∧
    (State.trigLoc s l index f tag).pub = s.pub ∧ (State.trigLoc s l index f tag).pair = s.pair ∧
    (State.trigLoc s l index f tag).otp = s.otp ∧ (State.trigLoc s l index f tag).vault = s.vault ∧
    (State.trigLoc s l index f tag).emp = s.emp ∧ (State.trigLoc s l index f tag).tap = s.tap ∧
    (State.trigLoc s l index f tag).ext = s.ext ∧ (State.trigLoc s l index f tag).served = s.served ∧
    (State.trigLoc s l index f tag).free = s.free ∧ (State.trigLoc s l index f tag).pending = s.pending := by
  simp [State.trigLoc]

@[simp] theorem State.startEval_frame (s : State) :
    (State.startEval s).boot = s.boot ∧ (State.startEval s).img = s.img ∧ (State.startEval s).flash = s.flash ∧
    (State.startEval s).ctrsAt = s.ctrsAt ∧ (State.startEval s).attn = s.attn ∧
    (State.startEval s).partnerLog = s.partnerLog ∧ (State.startEval s).bbx = s.bbx ∧ (State.startEval s).sens = s.sens ∧
    (State.startEval s).panel = s.panel ∧ (State.startEval s).ports = s.ports ∧ (State.startEval s).cages = s.cages ∧
    (State.startEval s).tcp = s.tcp ∧ (State.startEval s).streams = s.streams ∧ (State.startEval s).time = s.time ∧
    (State.startEval s).align = s.align ∧ (State.startEval s).swage = s.swage ∧ (State.startEval s).osc = s.osc ∧
    (State.startEval s).isl = s.isl ∧ (State.startEval s).logic = s.logic ∧ (State.startEval s).cap = s.cap ∧
    (State.startEval s).pub = s.pub ∧ (State.startEval s).pair = s.pair ∧ (State.startEval s).otp = s.otp ∧
    (State.startEval s).vault = s.vault ∧ (State.startEval s).emp = s.emp ∧ (State.startEval s).tap = s.tap ∧
    (State.startEval s).ext = s.ext ∧ (State.startEval s).served = s.served ∧ (State.startEval s).free = s.free ∧
    (State.startEval s).pending = s.pending := by
  unfold State.startEval
  try dsimp only
  repeat' split
  all_goals simp

@[simp] theorem State.abandonDets_frame (s : State) (gs : GroupSet) :
    (State.abandonDets s gs).boot = s.boot ∧ (State.abandonDets s gs).img = s.img ∧
    (State.abandonDets s gs).flash = s.flash ∧ (State.abandonDets s gs).ctrs = s.ctrs ∧
    (State.abandonDets s gs).ctrsAt = s.ctrsAt ∧ (State.abandonDets s gs).attn = s.attn ∧
    (State.abandonDets s gs).partnerLog = s.partnerLog ∧ (State.abandonDets s gs).bbx = s.bbx ∧
    (State.abandonDets s gs).sens = s.sens ∧ (State.abandonDets s gs).panel = s.panel ∧
    (State.abandonDets s gs).ports = s.ports ∧ (State.abandonDets s gs).cages = s.cages ∧
    (State.abandonDets s gs).tcp = s.tcp ∧ (State.abandonDets s gs).streams = s.streams ∧
    (State.abandonDets s gs).time = s.time ∧ (State.abandonDets s gs).swage = s.swage ∧
    (State.abandonDets s gs).osc = s.osc ∧ (State.abandonDets s gs).isl = s.isl ∧ (State.abandonDets s gs).sch = s.sch ∧
    (State.abandonDets s gs).logic = s.logic ∧ (State.abandonDets s gs).cap = s.cap ∧
    (State.abandonDets s gs).pub = s.pub ∧ (State.abandonDets s gs).pair = s.pair ∧
    (State.abandonDets s gs).otp = s.otp ∧ (State.abandonDets s gs).vault = s.vault ∧
    (State.abandonDets s gs).emp = s.emp ∧ (State.abandonDets s gs).tap = s.tap ∧ (State.abandonDets s gs).ext = s.ext ∧
    (State.abandonDets s gs).served = s.served ∧ (State.abandonDets s gs).free = s.free ∧
    (State.abandonDets s gs).pending = s.pending := by
  simp [State.abandonDets]

end Sys2Proof.Machine
end

