-- ==== Sys2Proof/Laws/FrameDispatcher.lean ====
section
/-! SUPPORT. What each operation of Machine/Dispatcher.lean leaves unchanged: one frame lemma per operation. -/

namespace Sys2Proof.Machine

@[simp] theorem State.moveItem_frame (s : State) (r : Nat) (it : Item) :
    (State.moveItem s r it).boot = s.boot ∧ (State.moveItem s r it).img = s.img ∧
    (State.moveItem s r it).flash = s.flash ∧ (State.moveItem s r it).ctrsAt = s.ctrsAt ∧
    (State.moveItem s r it).attn = s.attn ∧ (State.moveItem s r it).partnerLog = s.partnerLog ∧
    (State.moveItem s r it).bbx = s.bbx ∧ (State.moveItem s r it).sens = s.sens ∧
    (State.moveItem s r it).panel = s.panel ∧ (State.moveItem s r it).ports = s.ports ∧
    (State.moveItem s r it).cages = s.cages ∧ (State.moveItem s r it).tcp = s.tcp ∧
    (State.moveItem s r it).streams = s.streams ∧ (State.moveItem s r it).time = s.time ∧
    (State.moveItem s r it).align = s.align ∧ (State.moveItem s r it).swage = s.swage ∧
    (State.moveItem s r it).osc = s.osc ∧ (State.moveItem s r it).isl = s.isl ∧ (State.moveItem s r it).logic = s.logic ∧
    (State.moveItem s r it).cap = s.cap ∧ (State.moveItem s r it).pub = s.pub ∧ (State.moveItem s r it).pair = s.pair ∧
    (State.moveItem s r it).otp = s.otp ∧ (State.moveItem s r it).vault = s.vault ∧ (State.moveItem s r it).emp = s.emp ∧
    (State.moveItem s r it).tap = s.tap ∧ (State.moveItem s r it).ext = s.ext ∧
    (State.moveItem s r it).served = s.served ∧ (State.moveItem s r it).free = s.free ∧
    (State.moveItem s r it).pending = s.pending := by
  simp [State.moveItem]

@[simp] theorem State.moveDelay_frame (s : State) (r : Nat) :
    (State.moveDelay s r).boot = s.boot ∧ (State.moveDelay s r).img = s.img ∧ (State.moveDelay s r).flash = s.flash ∧
    (State.moveDelay s r).ctrsAt = s.ctrsAt ∧ (State.moveDelay s r).attn = s.attn ∧
    (State.moveDelay s r).partnerLog = s.partnerLog ∧ (State.moveDelay s r).bbx = s.bbx ∧
    (State.moveDelay s r).sens = s.sens ∧ (State.moveDelay s r).panel = s.panel ∧ (State.moveDelay s r).ports = s.ports ∧
    (State.moveDelay s r).cages = s.cages ∧ (State.moveDelay s r).tcp = s.tcp ∧
    (State.moveDelay s r).streams = s.streams ∧ (State.moveDelay s r).time = s.time ∧
    (State.moveDelay s r).align = s.align ∧ (State.moveDelay s r).swage = s.swage ∧ (State.moveDelay s r).osc = s.osc ∧
    (State.moveDelay s r).isl = s.isl ∧ (State.moveDelay s r).logic = s.logic ∧ (State.moveDelay s r).cap = s.cap ∧
    (State.moveDelay s r).pub = s.pub ∧ (State.moveDelay s r).pair = s.pair ∧ (State.moveDelay s r).otp = s.otp ∧
    (State.moveDelay s r).vault = s.vault ∧ (State.moveDelay s r).emp = s.emp ∧ (State.moveDelay s r).tap = s.tap ∧
    (State.moveDelay s r).ext = s.ext ∧ (State.moveDelay s r).served = s.served ∧ (State.moveDelay s r).free = s.free ∧
    (State.moveDelay s r).pending = s.pending := by
  simp [State.moveDelay]

@[simp] theorem State.noteWait_frame (s : State) (it : Item) :
    (State.noteWait s it).boot = s.boot ∧ (State.noteWait s it).img = s.img ∧ (State.noteWait s it).flash = s.flash ∧
    (State.noteWait s it).ctrsAt = s.ctrsAt ∧ (State.noteWait s it).attn = s.attn ∧
    (State.noteWait s it).partnerLog = s.partnerLog ∧ (State.noteWait s it).bbx = s.bbx ∧
    (State.noteWait s it).sens = s.sens ∧ (State.noteWait s it).panel = s.panel ∧ (State.noteWait s it).ports = s.ports ∧
    (State.noteWait s it).cages = s.cages ∧ (State.noteWait s it).tcp = s.tcp ∧
    (State.noteWait s it).streams = s.streams ∧ (State.noteWait s it).time = s.time ∧
    (State.noteWait s it).align = s.align ∧ (State.noteWait s it).swage = s.swage ∧ (State.noteWait s it).osc = s.osc ∧
    (State.noteWait s it).isl = s.isl ∧ (State.noteWait s it).logic = s.logic ∧ (State.noteWait s it).cap = s.cap ∧
    (State.noteWait s it).pub = s.pub ∧ (State.noteWait s it).pair = s.pair ∧ (State.noteWait s it).otp = s.otp ∧
    (State.noteWait s it).vault = s.vault ∧ (State.noteWait s it).emp = s.emp ∧ (State.noteWait s it).tap = s.tap ∧
    (State.noteWait s it).ext = s.ext ∧ (State.noteWait s it).served = s.served ∧ (State.noteWait s it).free = s.free ∧
    (State.noteWait s it).pending = s.pending := by
  simp [State.noteWait]

@[simp] theorem State.startItem_frame (s : State) (it : Item) (c : Nat) :
    (State.startItem s it c).boot = s.boot ∧ (State.startItem s it c).flash = s.flash ∧
    (State.startItem s it c).ctrsAt = s.ctrsAt ∧ (State.startItem s it c).partnerLog = s.partnerLog ∧
    (State.startItem s it c).panel = s.panel ∧ (State.startItem s it c).cages = s.cages ∧
    (State.startItem s it c).tcp = s.tcp ∧ (State.startItem s it c).streams = s.streams ∧
    (State.startItem s it c).time = s.time ∧ (State.startItem s it c).align = s.align ∧
    (State.startItem s it c).osc = s.osc ∧ (State.startItem s it c).isl = s.isl ∧ (State.startItem s it c).cap = s.cap ∧
    (State.startItem s it c).pub = s.pub ∧ (State.startItem s it c).otp = s.otp ∧
    (State.startItem s it c).vault = s.vault ∧ (State.startItem s it c).emp = s.emp ∧
    (State.startItem s it c).tap = s.tap ∧ (State.startItem s it c).ext = s.ext ∧
    (State.startItem s it c).served = s.served ∧ (State.startItem s it c).free = s.free ∧
    (State.startItem s it c).pending = s.pending := by
  simp [State.startItem]

@[simp] theorem State.dispatchOne_frame (s : State) (r : Nat) :
    (State.dispatchOne s r).boot = s.boot ∧ (State.dispatchOne s r).flash = s.flash ∧
    (State.dispatchOne s r).ctrsAt = s.ctrsAt ∧ (State.dispatchOne s r).partnerLog = s.partnerLog ∧
    (State.dispatchOne s r).panel = s.panel ∧ (State.dispatchOne s r).cages = s.cages ∧
    (State.dispatchOne s r).tcp = s.tcp ∧ (State.dispatchOne s r).streams = s.streams ∧
    (State.dispatchOne s r).time = s.time ∧ (State.dispatchOne s r).align = s.align ∧
    (State.dispatchOne s r).osc = s.osc ∧ (State.dispatchOne s r).isl = s.isl ∧ (State.dispatchOne s r).cap = s.cap ∧
    (State.dispatchOne s r).pub = s.pub ∧ (State.dispatchOne s r).otp = s.otp ∧ (State.dispatchOne s r).vault = s.vault ∧
    (State.dispatchOne s r).emp = s.emp ∧ (State.dispatchOne s r).tap = s.tap ∧ (State.dispatchOne s r).ext = s.ext ∧
    (State.dispatchOne s r).served = s.served ∧ (State.dispatchOne s r).free = s.free ∧
    (State.dispatchOne s r).pending = s.pending := by
  unfold State.dispatchOne
  try dsimp only
  repeat' split
  all_goals simp

@[simp] theorem State.abandonItem_frame (s : State) (it : Item) :
    (State.abandonItem s it).boot = s.boot ∧ (State.abandonItem s it).img = s.img ∧
    (State.abandonItem s it).flash = s.flash ∧ (State.abandonItem s it).ctrsAt = s.ctrsAt ∧
    (State.abandonItem s it).attn = s.attn ∧ (State.abandonItem s it).partnerLog = s.partnerLog ∧
    (State.abandonItem s it).bbx = s.bbx ∧ (State.abandonItem s it).sens = s.sens ∧
    (State.abandonItem s it).panel = s.panel ∧ (State.abandonItem s it).ports = s.ports ∧
    (State.abandonItem s it).cages = s.cages ∧ (State.abandonItem s it).tcp = s.tcp ∧
    (State.abandonItem s it).streams = s.streams ∧ (State.abandonItem s it).time = s.time ∧
    (State.abandonItem s it).swage = s.swage ∧ (State.abandonItem s it).cap = s.cap ∧
    (State.abandonItem s it).pub = s.pub ∧ (State.abandonItem s it).pair = s.pair ∧
    (State.abandonItem s it).otp = s.otp ∧ (State.abandonItem s it).vault = s.vault ∧
    (State.abandonItem s it).emp = s.emp ∧ (State.abandonItem s it).tap = s.tap ∧ (State.abandonItem s it).ext = s.ext ∧
    (State.abandonItem s it).served = s.served ∧ (State.abandonItem s it).free = s.free ∧
    (State.abandonItem s it).pending = s.pending := by
  unfold State.abandonItem
  try dsimp only
  repeat' split
  all_goals simp

@[simp] theorem State.reissue_frame (s : State) (it : Item) (c reason : Nat) :
    (State.reissue s it c reason).boot = s.boot ∧ (State.reissue s it c reason).img = s.img ∧
    (State.reissue s it c reason).flash = s.flash ∧ (State.reissue s it c reason).ctrsAt = s.ctrsAt ∧
    (State.reissue s it c reason).partnerLog = s.partnerLog ∧ (State.reissue s it c reason).bbx = s.bbx ∧
    (State.reissue s it c reason).sens = s.sens ∧ (State.reissue s it c reason).panel = s.panel ∧
    (State.reissue s it c reason).cages = s.cages ∧ (State.reissue s it c reason).tcp = s.tcp ∧
    (State.reissue s it c reason).streams = s.streams ∧ (State.reissue s it c reason).time = s.time ∧
    (State.reissue s it c reason).swage = s.swage ∧ (State.reissue s it c reason).cap = s.cap ∧
    (State.reissue s it c reason).pub = s.pub ∧ (State.reissue s it c reason).otp = s.otp ∧
    (State.reissue s it c reason).vault = s.vault ∧ (State.reissue s it c reason).emp = s.emp ∧
    (State.reissue s it c reason).tap = s.tap ∧ (State.reissue s it c reason).ext = s.ext ∧
    (State.reissue s it c reason).served = s.served ∧ (State.reissue s it c reason).free = s.free ∧
    (State.reissue s it c reason).pending = s.pending := by
  simp [State.reissue]

@[simp] theorem State.abortCell_frame (s : State) (c reason : Nat) :
    (State.abortCell s c reason).boot = s.boot ∧ (State.abortCell s c reason).img = s.img ∧
    (State.abortCell s c reason).flash = s.flash ∧ (State.abortCell s c reason).ctrsAt = s.ctrsAt ∧
    (State.abortCell s c reason).partnerLog = s.partnerLog ∧ (State.abortCell s c reason).bbx = s.bbx ∧
    (State.abortCell s c reason).sens = s.sens ∧ (State.abortCell s c reason).panel = s.panel ∧
    (State.abortCell s c reason).cages = s.cages ∧ (State.abortCell s c reason).tcp = s.tcp ∧
    (State.abortCell s c reason).streams = s.streams ∧ (State.abortCell s c reason).time = s.time ∧
    (State.abortCell s c reason).swage = s.swage ∧ (State.abortCell s c reason).cap = s.cap ∧
    (State.abortCell s c reason).pub = s.pub ∧ (State.abortCell s c reason).otp = s.otp ∧
    (State.abortCell s c reason).vault = s.vault ∧ (State.abortCell s c reason).emp = s.emp ∧
    (State.abortCell s c reason).tap = s.tap ∧ (State.abortCell s c reason).ext = s.ext ∧
    (State.abortCell s c reason).served = s.served ∧ (State.abortCell s c reason).free = s.free ∧
    (State.abortCell s c reason).pending = s.pending := by
  unfold State.abortCell
  split <;> simp

@[simp] theorem State.faultCell_frame (s : State) (c reason : Nat) :
    (State.faultCell s c reason).boot = s.boot ∧ (State.faultCell s c reason).img = s.img ∧
    (State.faultCell s c reason).flash = s.flash ∧ (State.faultCell s c reason).ctrsAt = s.ctrsAt ∧
    (State.faultCell s c reason).partnerLog = s.partnerLog ∧ (State.faultCell s c reason).bbx = s.bbx ∧
    (State.faultCell s c reason).sens = s.sens ∧ (State.faultCell s c reason).panel = s.panel ∧
    (State.faultCell s c reason).cages = s.cages ∧ (State.faultCell s c reason).tcp = s.tcp ∧
    (State.faultCell s c reason).streams = s.streams ∧ (State.faultCell s c reason).time = s.time ∧
    (State.faultCell s c reason).swage = s.swage ∧ (State.faultCell s c reason).cap = s.cap ∧
    (State.faultCell s c reason).pub = s.pub ∧ (State.faultCell s c reason).otp = s.otp ∧
    (State.faultCell s c reason).vault = s.vault ∧ (State.faultCell s c reason).emp = s.emp ∧
    (State.faultCell s c reason).tap = s.tap ∧ (State.faultCell s c reason).ext = s.ext ∧
    (State.faultCell s c reason).served = s.served ∧ (State.faultCell s c reason).free = s.free ∧
    (State.faultCell s c reason).pending = s.pending := by
  simp [State.faultCell]

@[simp] theorem State.loseBlock_frame (s : State) (b : Nat) :
    (State.loseBlock s b).boot = s.boot ∧ (State.loseBlock s b).img = s.img ∧ (State.loseBlock s b).flash = s.flash ∧
    (State.loseBlock s b).ctrsAt = s.ctrsAt ∧ (State.loseBlock s b).partnerLog = s.partnerLog ∧
    (State.loseBlock s b).bbx = s.bbx ∧ (State.loseBlock s b).sens = s.sens ∧ (State.loseBlock s b).panel = s.panel ∧
    (State.loseBlock s b).cages = s.cages ∧ (State.loseBlock s b).tcp = s.tcp ∧
    (State.loseBlock s b).streams = s.streams ∧ (State.loseBlock s b).time = s.time ∧
    (State.loseBlock s b).swage = s.swage ∧ (State.loseBlock s b).cap = s.cap ∧ (State.loseBlock s b).pub = s.pub ∧
    (State.loseBlock s b).otp = s.otp ∧ (State.loseBlock s b).vault = s.vault ∧ (State.loseBlock s b).emp = s.emp ∧
    (State.loseBlock s b).tap = s.tap ∧ (State.loseBlock s b).ext = s.ext ∧ (State.loseBlock s b).served = s.served ∧
    (State.loseBlock s b).free = s.free ∧ (State.loseBlock s b).pending = s.pending := by
  simp [State.loseBlock]

@[simp] theorem State.spoilHistory_frame (s : State) (unit : Nat) :
    (State.spoilHistory s unit).boot = s.boot ∧ (State.spoilHistory s unit).img = s.img ∧
    (State.spoilHistory s unit).flash = s.flash ∧ (State.spoilHistory s unit).ctrs = s.ctrs ∧
    (State.spoilHistory s unit).ctrsAt = s.ctrsAt ∧ (State.spoilHistory s unit).attn = s.attn ∧
    (State.spoilHistory s unit).partnerLog = s.partnerLog ∧ (State.spoilHistory s unit).bbx = s.bbx ∧
    (State.spoilHistory s unit).sens = s.sens ∧ (State.spoilHistory s unit).panel = s.panel ∧
    (State.spoilHistory s unit).ports = s.ports ∧ (State.spoilHistory s unit).cages = s.cages ∧
    (State.spoilHistory s unit).tcp = s.tcp ∧ (State.spoilHistory s unit).streams = s.streams ∧
    (State.spoilHistory s unit).time = s.time ∧ (State.spoilHistory s unit).swage = s.swage ∧
    (State.spoilHistory s unit).osc = s.osc ∧ (State.spoilHistory s unit).isl = s.isl ∧
    (State.spoilHistory s unit).sch = s.sch ∧ (State.spoilHistory s unit).logic = s.logic ∧
    (State.spoilHistory s unit).cap = s.cap ∧ (State.spoilHistory s unit).pub = s.pub ∧
    (State.spoilHistory s unit).pair = s.pair ∧ (State.spoilHistory s unit).otp = s.otp ∧
    (State.spoilHistory s unit).vault = s.vault ∧ (State.spoilHistory s unit).emp = s.emp ∧
    (State.spoilHistory s unit).tap = s.tap ∧ (State.spoilHistory s unit).ext = s.ext ∧
    (State.spoilHistory s unit).served = s.served ∧ (State.spoilHistory s unit).free = s.free ∧
    (State.spoilHistory s unit).pending = s.pending := by
  unfold State.spoilHistory
  split <;> simp

@[simp] theorem State.noteFault_frame (s : State) (st : Struct) (unit : Nat) :
    (State.noteFault s st unit).boot = s.boot ∧ (State.noteFault s st unit).img = s.img ∧
    (State.noteFault s st unit).flash = s.flash ∧ (State.noteFault s st unit).ctrs = s.ctrs ∧
    (State.noteFault s st unit).ctrsAt = s.ctrsAt ∧ (State.noteFault s st unit).attn = s.attn ∧
    (State.noteFault s st unit).partnerLog = s.partnerLog ∧ (State.noteFault s st unit).bbx = s.bbx ∧
    (State.noteFault s st unit).sens = s.sens ∧ (State.noteFault s st unit).panel = s.panel ∧
    (State.noteFault s st unit).ports = s.ports ∧ (State.noteFault s st unit).cages = s.cages ∧
    (State.noteFault s st unit).tcp = s.tcp ∧ (State.noteFault s st unit).streams = s.streams ∧
    (State.noteFault s st unit).time = s.time ∧ (State.noteFault s st unit).align = s.align ∧
    (State.noteFault s st unit).osc = s.osc ∧ (State.noteFault s st unit).isl = s.isl ∧
    (State.noteFault s st unit).logic = s.logic ∧ (State.noteFault s st unit).cap = s.cap ∧
    (State.noteFault s st unit).pub = s.pub ∧ (State.noteFault s st unit).pair = s.pair ∧
    (State.noteFault s st unit).otp = s.otp ∧ (State.noteFault s st unit).vault = s.vault ∧
    (State.noteFault s st unit).emp = s.emp ∧ (State.noteFault s st unit).tap = s.tap ∧
    (State.noteFault s st unit).ext = s.ext ∧ (State.noteFault s st unit).served = s.served ∧
    (State.noteFault s st unit).free = s.free ∧ (State.noteFault s st unit).pending = s.pending := by
  unfold State.noteFault
  split <;> simp

@[simp] theorem State.restartManagement_frame (s : State) :
    (State.restartManagement s).img = s.img ∧ (State.restartManagement s).flash = s.flash ∧
    (State.restartManagement s).ctrs = s.ctrs ∧ (State.restartManagement s).ctrsAt = s.ctrsAt ∧
    (State.restartManagement s).attn = s.attn ∧ (State.restartManagement s).partnerLog = s.partnerLog ∧
    (State.restartManagement s).bbx = s.bbx ∧ (State.restartManagement s).sens = s.sens ∧
    (State.restartManagement s).panel = s.panel ∧ (State.restartManagement s).ports = s.ports ∧
    (State.restartManagement s).cages = s.cages ∧ (State.restartManagement s).tcp = s.tcp ∧
    (State.restartManagement s).streams = s.streams ∧ (State.restartManagement s).time = s.time ∧
    (State.restartManagement s).align = s.align ∧ (State.restartManagement s).swage = s.swage ∧
    (State.restartManagement s).osc = s.osc ∧ (State.restartManagement s).isl = s.isl ∧
    (State.restartManagement s).logic = s.logic ∧ (State.restartManagement s).cap = s.cap ∧
    (State.restartManagement s).pub = s.pub ∧ (State.restartManagement s).pair = s.pair ∧
    (State.restartManagement s).otp = s.otp ∧ (State.restartManagement s).vault = s.vault ∧
    (State.restartManagement s).emp = s.emp ∧ (State.restartManagement s).tap = s.tap ∧
    (State.restartManagement s).ext = s.ext ∧ (State.restartManagement s).served = s.served ∧
    (State.restartManagement s).free = s.free ∧ (State.restartManagement s).pending = s.pending := by
  simp [State.restartManagement]

@[simp] theorem State.uncorrectable_frame (s : State) (st : Struct) (unit : Nat) :
    (State.uncorrectable s st unit).img = s.img ∧ (State.uncorrectable s st unit).flash = s.flash ∧
    (State.uncorrectable s st unit).ctrsAt = s.ctrsAt ∧ (State.uncorrectable s st unit).partnerLog = s.partnerLog ∧
    (State.uncorrectable s st unit).panel = s.panel ∧ (State.uncorrectable s st unit).cages = s.cages ∧
    (State.uncorrectable s st unit).tcp = s.tcp ∧ (State.uncorrectable s st unit).streams = s.streams ∧
    (State.uncorrectable s st unit).time = s.time ∧ (State.uncorrectable s st unit).cap = s.cap ∧
    (State.uncorrectable s st unit).pub = s.pub ∧ (State.uncorrectable s st unit).otp = s.otp ∧
    (State.uncorrectable s st unit).vault = s.vault ∧ (State.uncorrectable s st unit).emp = s.emp ∧
    (State.uncorrectable s st unit).tap = s.tap ∧ (State.uncorrectable s st unit).ext = s.ext ∧
    (State.uncorrectable s st unit).served = s.served ∧ (State.uncorrectable s st unit).free = s.free ∧
    (State.uncorrectable s st unit).pending = s.pending := by
  unfold State.uncorrectable
  split <;> simp

@[simp] theorem State.reshed_frame (s : State) (r : Nat) :
    (State.reshed s r).boot = s.boot ∧ (State.reshed s r).img = s.img ∧ (State.reshed s r).flash = s.flash ∧
    (State.reshed s r).ctrsAt = s.ctrsAt ∧ (State.reshed s r).attn = s.attn ∧
    (State.reshed s r).partnerLog = s.partnerLog ∧ (State.reshed s r).bbx = s.bbx ∧ (State.reshed s r).sens = s.sens ∧
    (State.reshed s r).panel = s.panel ∧ (State.reshed s r).ports = s.ports ∧ (State.reshed s r).cages = s.cages ∧
    (State.reshed s r).tcp = s.tcp ∧ (State.reshed s r).streams = s.streams ∧ (State.reshed s r).time = s.time ∧
    (State.reshed s r).align = s.align ∧ (State.reshed s r).swage = s.swage ∧ (State.reshed s r).osc = s.osc ∧
    (State.reshed s r).isl = s.isl ∧ (State.reshed s r).logic = s.logic ∧ (State.reshed s r).cap = s.cap ∧
    (State.reshed s r).pub = s.pub ∧ (State.reshed s r).pair = s.pair ∧ (State.reshed s r).otp = s.otp ∧
    (State.reshed s r).vault = s.vault ∧ (State.reshed s r).emp = s.emp ∧ (State.reshed s r).tap = s.tap ∧
    (State.reshed s r).ext = s.ext ∧ (State.reshed s r).served = s.served ∧ (State.reshed s r).free = s.free ∧
    (State.reshed s r).pending = s.pending := by
  simp [State.reshed]

@[simp] theorem State.thermalConflict_frame (s : State) (r : Nat) :
    (State.thermalConflict s r).boot = s.boot ∧ (State.thermalConflict s r).img = s.img ∧
    (State.thermalConflict s r).flash = s.flash ∧ (State.thermalConflict s r).ctrsAt = s.ctrsAt ∧
    (State.thermalConflict s r).partnerLog = s.partnerLog ∧ (State.thermalConflict s r).bbx = s.bbx ∧
    (State.thermalConflict s r).sens = s.sens ∧ (State.thermalConflict s r).panel = s.panel ∧
    (State.thermalConflict s r).cages = s.cages ∧ (State.thermalConflict s r).tcp = s.tcp ∧
    (State.thermalConflict s r).streams = s.streams ∧ (State.thermalConflict s r).time = s.time ∧
    (State.thermalConflict s r).align = s.align ∧ (State.thermalConflict s r).swage = s.swage ∧
    (State.thermalConflict s r).osc = s.osc ∧ (State.thermalConflict s r).isl = s.isl ∧
    (State.thermalConflict s r).sch = s.sch ∧ (State.thermalConflict s r).logic = s.logic ∧
    (State.thermalConflict s r).cap = s.cap ∧ (State.thermalConflict s r).pub = s.pub ∧
    (State.thermalConflict s r).otp = s.otp ∧ (State.thermalConflict s r).vault = s.vault ∧
    (State.thermalConflict s r).emp = s.emp ∧ (State.thermalConflict s r).tap = s.tap ∧
    (State.thermalConflict s r).ext = s.ext ∧ (State.thermalConflict s r).served = s.served ∧
    (State.thermalConflict s r).free = s.free ∧ (State.thermalConflict s r).pending = s.pending := by
  simp [State.thermalConflict]

end Sys2Proof.Machine
end

