-- ==== Sys2Proof/Laws/FrameLogic.lean ====
section
/-! SUPPORT. What each operation of Machine/Logic.lean leaves unchanged: one frame lemma per operation. -/

namespace Sys2Proof.Machine

@[simp] theorem State.logicScan_frame (s : State) (t : Nat) :
    (s.logicScan t).img = s.img ∧ (s.logicScan t).flash = s.flash ∧ (s.logicScan t).ctrsAt = s.ctrsAt ∧
    (s.logicScan t).partnerLog = s.partnerLog ∧ (s.logicScan t).bbx = s.bbx ∧ (s.logicScan t).sens = s.sens ∧
    (s.logicScan t).panel = s.panel ∧ (s.logicScan t).cages = s.cages ∧ (s.logicScan t).tcp = s.tcp ∧
    (s.logicScan t).time = s.time ∧ (s.logicScan t).swage = s.swage ∧ (s.logicScan t).otp = s.otp ∧
    (s.logicScan t).emp = s.emp ∧ (s.logicScan t).tap = s.tap ∧ (s.logicScan t).ext = s.ext ∧
    (s.logicScan t).served = s.served ∧ (s.logicScan t).free = s.free ∧ (s.logicScan t).pending = s.pending := by
  unfold State.logicScan
  try dsimp only
  repeat' split
  all_goals first
    | (simp; done)
    | (rename_i h; have h1 := State.runScan_frame _ _ _ h; simp [h1]; done)


@[simp] theorem State.applyLevel_frame (s : State) (d : Nat) (v : Bool) :
    (State.applyLevel s d v).boot = s.boot ∧ (State.applyLevel s d v).img = s.img ∧
    (State.applyLevel s d v).flash = s.flash ∧ (State.applyLevel s d v).ctrsAt = s.ctrsAt ∧
    (State.applyLevel s d v).attn = s.attn ∧ (State.applyLevel s d v).partnerLog = s.partnerLog ∧
    (State.applyLevel s d v).bbx = s.bbx ∧ (State.applyLevel s d v).sens = s.sens ∧
    (State.applyLevel s d v).panel = s.panel ∧ (State.applyLevel s d v).ports = s.ports ∧
    (State.applyLevel s d v).cages = s.cages ∧ (State.applyLevel s d v).tcp = s.tcp ∧
    (State.applyLevel s d v).streams = s.streams ∧ (State.applyLevel s d v).time = s.time ∧
    (State.applyLevel s d v).align = s.align ∧ (State.applyLevel s d v).swage = s.swage ∧
    (State.applyLevel s d v).osc = s.osc ∧ (State.applyLevel s d v).isl = s.isl ∧ (State.applyLevel s d v).sch = s.sch ∧
    (State.applyLevel s d v).cap = s.cap ∧ (State.applyLevel s d v).pub = s.pub ∧
    (State.applyLevel s d v).pair = s.pair ∧ (State.applyLevel s d v).otp = s.otp ∧
    (State.applyLevel s d v).vault = s.vault ∧ (State.applyLevel s d v).emp = s.emp ∧
    (State.applyLevel s d v).tap = s.tap ∧ (State.applyLevel s d v).ext = s.ext ∧
    (State.applyLevel s d v).served = s.served ∧ (State.applyLevel s d v).free = s.free ∧
    (State.applyLevel s d v).pending = s.pending := by
  simp [State.applyLevel]

@[simp] theorem State.levelDue_frame (s : State) (d : Nat) :
    (State.levelDue s d).boot = s.boot ∧ (State.levelDue s d).img = s.img ∧ (State.levelDue s d).flash = s.flash ∧
    (State.levelDue s d).ctrsAt = s.ctrsAt ∧ (State.levelDue s d).attn = s.attn ∧
    (State.levelDue s d).partnerLog = s.partnerLog ∧ (State.levelDue s d).bbx = s.bbx ∧
    (State.levelDue s d).sens = s.sens ∧ (State.levelDue s d).panel = s.panel ∧ (State.levelDue s d).ports = s.ports ∧
    (State.levelDue s d).cages = s.cages ∧ (State.levelDue s d).tcp = s.tcp ∧ (State.levelDue s d).streams = s.streams ∧
    (State.levelDue s d).time = s.time ∧ (State.levelDue s d).align = s.align ∧ (State.levelDue s d).swage = s.swage ∧
    (State.levelDue s d).osc = s.osc ∧ (State.levelDue s d).isl = s.isl ∧ (State.levelDue s d).sch = s.sch ∧
    (State.levelDue s d).cap = s.cap ∧ (State.levelDue s d).pub = s.pub ∧ (State.levelDue s d).pair = s.pair ∧
    (State.levelDue s d).otp = s.otp ∧ (State.levelDue s d).vault = s.vault ∧ (State.levelDue s d).emp = s.emp ∧
    (State.levelDue s d).tap = s.tap ∧ (State.levelDue s d).ext = s.ext ∧ (State.levelDue s d).served = s.served ∧
    (State.levelDue s d).free = s.free ∧ (State.levelDue s d).pending = s.pending := by
  unfold State.levelDue
  split <;> simp

@[simp] theorem State.tripDue_frame (s : State) (o : Nat) :
    (State.tripDue s o).boot = s.boot ∧ (State.tripDue s o).img = s.img ∧ (State.tripDue s o).flash = s.flash ∧
    (State.tripDue s o).ctrsAt = s.ctrsAt ∧ (State.tripDue s o).partnerLog = s.partnerLog ∧
    (State.tripDue s o).bbx = s.bbx ∧ (State.tripDue s o).sens = s.sens ∧ (State.tripDue s o).panel = s.panel ∧
    (State.tripDue s o).cages = s.cages ∧ (State.tripDue s o).tcp = s.tcp ∧ (State.tripDue s o).time = s.time ∧
    (State.tripDue s o).align = s.align ∧ (State.tripDue s o).swage = s.swage ∧ (State.tripDue s o).osc = s.osc ∧
    (State.tripDue s o).isl = s.isl ∧ (State.tripDue s o).sch = s.sch ∧ (State.tripDue s o).cap = s.cap ∧
    (State.tripDue s o).otp = s.otp ∧ (State.tripDue s o).emp = s.emp ∧ (State.tripDue s o).tap = s.tap ∧
    (State.tripDue s o).ext = s.ext ∧ (State.tripDue s o).served = s.served ∧ (State.tripDue s o).free = s.free ∧
    (State.tripDue s o).pending = s.pending := by
  unfold State.tripDue
  split <;> simp

end Sys2Proof.Machine
end

