-- ==== Sys2Proof/Laws/FrameAlign.lean ====
section
/-! SUPPORT. What each operation of Machine/Align.lean leaves unchanged: one frame lemma per operation. -/

namespace Sys2Proof.Machine

@[simp] theorem State.appendHist_frame (s : State) (r : Nat) (h : HistRec) :
    (State.appendHist s r h).boot = s.boot ∧ (State.appendHist s r h).img = s.img ∧
    (State.appendHist s r h).flash = s.flash ∧ (State.appendHist s r h).ctrs = s.ctrs ∧
    (State.appendHist s r h).ctrsAt = s.ctrsAt ∧ (State.appendHist s r h).attn = s.attn ∧
    (State.appendHist s r h).partnerLog = s.partnerLog ∧ (State.appendHist s r h).bbx = s.bbx ∧
    (State.appendHist s r h).sens = s.sens ∧ (State.appendHist s r h).panel = s.panel ∧
    (State.appendHist s r h).ports = s.ports ∧ (State.appendHist s r h).cages = s.cages ∧
    (State.appendHist s r h).tcp = s.tcp ∧ (State.appendHist s r h).streams = s.streams ∧
    (State.appendHist s r h).time = s.time ∧ (State.appendHist s r h).swage = s.swage ∧
    (State.appendHist s r h).osc = s.osc ∧ (State.appendHist s r h).isl = s.isl ∧ (State.appendHist s r h).sch = s.sch ∧
    (State.appendHist s r h).logic = s.logic ∧ (State.appendHist s r h).cap = s.cap ∧
    (State.appendHist s r h).pub = s.pub ∧ (State.appendHist s r h).pair = s.pair ∧
    (State.appendHist s r h).otp = s.otp ∧ (State.appendHist s r h).vault = s.vault ∧
    (State.appendHist s r h).emp = s.emp ∧ (State.appendHist s r h).tap = s.tap ∧ (State.appendHist s r h).ext = s.ext ∧
    (State.appendHist s r h).served = s.served ∧ (State.appendHist s r h).free = s.free ∧
    (State.appendHist s r h).pending = s.pending := by
  simp [State.appendHist]

@[simp] theorem State.modRow_frame (s : State) (r : Nat) (t : Ns) (f : Row → Row) :
    (State.modRow s r t f).boot = s.boot ∧ (State.modRow s r t f).img = s.img ∧ (State.modRow s r t f).flash = s.flash ∧
    (State.modRow s r t f).ctrs = s.ctrs ∧ (State.modRow s r t f).ctrsAt = s.ctrsAt ∧
    (State.modRow s r t f).attn = s.attn ∧ (State.modRow s r t f).partnerLog = s.partnerLog ∧
    (State.modRow s r t f).bbx = s.bbx ∧ (State.modRow s r t f).sens = s.sens ∧ (State.modRow s r t f).panel = s.panel ∧
    (State.modRow s r t f).ports = s.ports ∧ (State.modRow s r t f).cages = s.cages ∧
    (State.modRow s r t f).tcp = s.tcp ∧ (State.modRow s r t f).streams = s.streams ∧
    (State.modRow s r t f).time = s.time ∧ (State.modRow s r t f).swage = s.swage ∧ (State.modRow s r t f).osc = s.osc ∧
    (State.modRow s r t f).isl = s.isl ∧ (State.modRow s r t f).sch = s.sch ∧ (State.modRow s r t f).logic = s.logic ∧
    (State.modRow s r t f).cap = s.cap ∧ (State.modRow s r t f).pub = s.pub ∧ (State.modRow s r t f).pair = s.pair ∧
    (State.modRow s r t f).otp = s.otp ∧ (State.modRow s r t f).vault = s.vault ∧ (State.modRow s r t f).emp = s.emp ∧
    (State.modRow s r t f).tap = s.tap ∧ (State.modRow s r t f).ext = s.ext ∧ (State.modRow s r t f).served = s.served ∧
    (State.modRow s r t f).free = s.free ∧ (State.modRow s r t f).pending = s.pending := by
  simp [State.modRow]

@[simp] theorem State.history_frame (s : State) (r : Nat) (e : RowEntry) (w : Row) :
    (State.history s r e w).boot = s.boot ∧ (State.history s r e w).img = s.img ∧
    (State.history s r e w).flash = s.flash ∧ (State.history s r e w).ctrs = s.ctrs ∧
    (State.history s r e w).ctrsAt = s.ctrsAt ∧ (State.history s r e w).attn = s.attn ∧
    (State.history s r e w).partnerLog = s.partnerLog ∧ (State.history s r e w).bbx = s.bbx ∧
    (State.history s r e w).sens = s.sens ∧ (State.history s r e w).panel = s.panel ∧
    (State.history s r e w).ports = s.ports ∧ (State.history s r e w).cages = s.cages ∧
    (State.history s r e w).tcp = s.tcp ∧ (State.history s r e w).streams = s.streams ∧
    (State.history s r e w).time = s.time ∧ (State.history s r e w).swage = s.swage ∧
    (State.history s r e w).osc = s.osc ∧ (State.history s r e w).isl = s.isl ∧ (State.history s r e w).logic = s.logic ∧
    (State.history s r e w).cap = s.cap ∧ (State.history s r e w).pub = s.pub ∧ (State.history s r e w).pair = s.pair ∧
    (State.history s r e w).otp = s.otp ∧ (State.history s r e w).vault = s.vault ∧ (State.history s r e w).emp = s.emp ∧
    (State.history s r e w).tap = s.tap ∧ (State.history s r e w).ext = s.ext ∧
    (State.history s r e w).served = s.served ∧ (State.history s r e w).free = s.free ∧
    (State.history s r e w).pending = s.pending := by
  simp [State.history]

@[simp] theorem State.groupClosed_frame (s : State) (gs : GroupSet) (slot : Nat) :
    (State.groupClosed s gs slot).boot = s.boot ∧ (State.groupClosed s gs slot).img = s.img ∧
    (State.groupClosed s gs slot).flash = s.flash ∧ (State.groupClosed s gs slot).ctrsAt = s.ctrsAt ∧
    (State.groupClosed s gs slot).partnerLog = s.partnerLog ∧ (State.groupClosed s gs slot).bbx = s.bbx ∧
    (State.groupClosed s gs slot).sens = s.sens ∧ (State.groupClosed s gs slot).panel = s.panel ∧
    (State.groupClosed s gs slot).cages = s.cages ∧ (State.groupClosed s gs slot).tcp = s.tcp ∧
    (State.groupClosed s gs slot).streams = s.streams ∧ (State.groupClosed s gs slot).time = s.time ∧
    (State.groupClosed s gs slot).align = s.align ∧ (State.groupClosed s gs slot).swage = s.swage ∧
    (State.groupClosed s gs slot).isl = s.isl ∧ (State.groupClosed s gs slot).logic = s.logic ∧
    (State.groupClosed s gs slot).cap = s.cap ∧ (State.groupClosed s gs slot).pub = s.pub ∧
    (State.groupClosed s gs slot).otp = s.otp ∧ (State.groupClosed s gs slot).vault = s.vault ∧
    (State.groupClosed s gs slot).emp = s.emp ∧ (State.groupClosed s gs slot).tap = s.tap ∧
    (State.groupClosed s gs slot).ext = s.ext ∧ (State.groupClosed s gs slot).served = s.served ∧
    (State.groupClosed s gs slot).free = s.free ∧ (State.groupClosed s gs slot).pending = s.pending := by
  simp [State.groupClosed]

@[simp] theorem State.closeGroup_frame (s : State) (r : Nat) (w : Row) (g : Nat) (short : Bool) (before : Ns) :
    (State.closeGroup s r w g short before).boot = s.boot ∧ (State.closeGroup s r w g short before).img = s.img ∧
    (State.closeGroup s r w g short before).flash = s.flash ∧ (State.closeGroup s r w g short before).ctrsAt = s.ctrsAt ∧
    (State.closeGroup s r w g short before).partnerLog = s.partnerLog ∧
    (State.closeGroup s r w g short before).bbx = s.bbx ∧ (State.closeGroup s r w g short before).sens = s.sens ∧
    (State.closeGroup s r w g short before).panel = s.panel ∧ (State.closeGroup s r w g short before).cages = s.cages ∧
    (State.closeGroup s r w g short before).tcp = s.tcp ∧ (State.closeGroup s r w g short before).streams = s.streams ∧
    (State.closeGroup s r w g short before).time = s.time ∧ (State.closeGroup s r w g short before).swage = s.swage ∧
    (State.closeGroup s r w g short before).isl = s.isl ∧ (State.closeGroup s r w g short before).logic = s.logic ∧
    (State.closeGroup s r w g short before).cap = s.cap ∧ (State.closeGroup s r w g short before).pub = s.pub ∧
    (State.closeGroup s r w g short before).otp = s.otp ∧ (State.closeGroup s r w g short before).vault = s.vault ∧
    (State.closeGroup s r w g short before).emp = s.emp ∧ (State.closeGroup s r w g short before).tap = s.tap ∧
    (State.closeGroup s r w g short before).ext = s.ext ∧ (State.closeGroup s r w g short before).served = s.served ∧
    (State.closeGroup s r w g short before).free = s.free ∧ (State.closeGroup s r w g short before).pending = s.pending := by
  simp [State.closeGroup]

@[simp] theorem State.evalQuorum_frame (s : State) (r : Nat) (t : Ns) (g : Nat) :
    (State.evalQuorum s r t g).boot = s.boot ∧ (State.evalQuorum s r t g).img = s.img ∧
    (State.evalQuorum s r t g).flash = s.flash ∧ (State.evalQuorum s r t g).ctrsAt = s.ctrsAt ∧
    (State.evalQuorum s r t g).partnerLog = s.partnerLog ∧ (State.evalQuorum s r t g).bbx = s.bbx ∧
    (State.evalQuorum s r t g).sens = s.sens ∧ (State.evalQuorum s r t g).panel = s.panel ∧
    (State.evalQuorum s r t g).cages = s.cages ∧ (State.evalQuorum s r t g).tcp = s.tcp ∧
    (State.evalQuorum s r t g).streams = s.streams ∧ (State.evalQuorum s r t g).time = s.time ∧
    (State.evalQuorum s r t g).swage = s.swage ∧ (State.evalQuorum s r t g).isl = s.isl ∧
    (State.evalQuorum s r t g).logic = s.logic ∧ (State.evalQuorum s r t g).cap = s.cap ∧
    (State.evalQuorum s r t g).pub = s.pub ∧ (State.evalQuorum s r t g).otp = s.otp ∧
    (State.evalQuorum s r t g).vault = s.vault ∧ (State.evalQuorum s r t g).emp = s.emp ∧
    (State.evalQuorum s r t g).tap = s.tap ∧ (State.evalQuorum s r t g).ext = s.ext ∧
    (State.evalQuorum s r t g).served = s.served ∧ (State.evalQuorum s r t g).free = s.free ∧
    (State.evalQuorum s r t g).pending = s.pending := by
  unfold State.evalQuorum
  split <;> simp

@[simp] theorem State.evalAll_frame (s : State) (r : Nat) :
    (State.evalAll s r).boot = s.boot ∧ (State.evalAll s r).img = s.img ∧ (State.evalAll s r).flash = s.flash ∧
    (State.evalAll s r).ctrsAt = s.ctrsAt ∧ (State.evalAll s r).partnerLog = s.partnerLog ∧
    (State.evalAll s r).bbx = s.bbx ∧ (State.evalAll s r).sens = s.sens ∧ (State.evalAll s r).panel = s.panel ∧
    (State.evalAll s r).cages = s.cages ∧ (State.evalAll s r).tcp = s.tcp ∧ (State.evalAll s r).streams = s.streams ∧
    (State.evalAll s r).time = s.time ∧ (State.evalAll s r).swage = s.swage ∧ (State.evalAll s r).isl = s.isl ∧
    (State.evalAll s r).logic = s.logic ∧ (State.evalAll s r).cap = s.cap ∧ (State.evalAll s r).pub = s.pub ∧
    (State.evalAll s r).otp = s.otp ∧ (State.evalAll s r).vault = s.vault ∧ (State.evalAll s r).emp = s.emp ∧
    (State.evalAll s r).tap = s.tap ∧ (State.evalAll s r).ext = s.ext ∧ (State.evalAll s r).served = s.served ∧
    (State.evalAll s r).free = s.free ∧ (State.evalAll s r).pending = s.pending := by
  simp [State.evalAll]

@[simp] theorem State.closePart_frame (s : State) (n r : Nat) (w : Row) (before : Ns) :
    (State.closePart s n r w before).boot = s.boot ∧ (State.closePart s n r w before).img = s.img ∧
    (State.closePart s n r w before).flash = s.flash ∧ (State.closePart s n r w before).ctrsAt = s.ctrsAt ∧
    (State.closePart s n r w before).attn = s.attn ∧ (State.closePart s n r w before).partnerLog = s.partnerLog ∧
    (State.closePart s n r w before).bbx = s.bbx ∧ (State.closePart s n r w before).sens = s.sens ∧
    (State.closePart s n r w before).panel = s.panel ∧ (State.closePart s n r w before).ports = s.ports ∧
    (State.closePart s n r w before).cages = s.cages ∧ (State.closePart s n r w before).tcp = s.tcp ∧
    (State.closePart s n r w before).streams = s.streams ∧ (State.closePart s n r w before).time = s.time ∧
    (State.closePart s n r w before).swage = s.swage ∧ (State.closePart s n r w before).osc = s.osc ∧
    (State.closePart s n r w before).isl = s.isl ∧ (State.closePart s n r w before).sch = s.sch ∧
    (State.closePart s n r w before).logic = s.logic ∧ (State.closePart s n r w before).cap = s.cap ∧
    (State.closePart s n r w before).pub = s.pub ∧ (State.closePart s n r w before).pair = s.pair ∧
    (State.closePart s n r w before).otp = s.otp ∧ (State.closePart s n r w before).vault = s.vault ∧
    (State.closePart s n r w before).emp = s.emp ∧ (State.closePart s n r w before).tap = s.tap ∧
    (State.closePart s n r w before).ext = s.ext ∧ (State.closePart s n r w before).served = s.served ∧
    (State.closePart s n r w before).free = s.free ∧ (State.closePart s n r w before).pending = s.pending := by
  simp [State.closePart]

@[simp] theorem State.postScan_frame (s : State) (n : Nat) (t : Ns) :
    (State.postScan s n t).boot = s.boot ∧ (State.postScan s n t).img = s.img ∧ (State.postScan s n t).flash = s.flash ∧
    (State.postScan s n t).ctrsAt = s.ctrsAt ∧ (State.postScan s n t).partnerLog = s.partnerLog ∧
    (State.postScan s n t).bbx = s.bbx ∧ (State.postScan s n t).sens = s.sens ∧ (State.postScan s n t).panel = s.panel ∧
    (State.postScan s n t).cages = s.cages ∧ (State.postScan s n t).tcp = s.tcp ∧
    (State.postScan s n t).streams = s.streams ∧ (State.postScan s n t).time = s.time ∧
    (State.postScan s n t).align = s.align ∧ (State.postScan s n t).swage = s.swage ∧
    (State.postScan s n t).osc = s.osc ∧ (State.postScan s n t).isl = s.isl ∧ (State.postScan s n t).logic = s.logic ∧
    (State.postScan s n t).cap = s.cap ∧ (State.postScan s n t).pub = s.pub ∧ (State.postScan s n t).otp = s.otp ∧
    (State.postScan s n t).vault = s.vault ∧ (State.postScan s n t).emp = s.emp ∧ (State.postScan s n t).tap = s.tap ∧
    (State.postScan s n t).ext = s.ext ∧ (State.postScan s n t).served = s.served ∧
    (State.postScan s n t).free = s.free ∧ (State.postScan s n t).pending = s.pending := by
  unfold State.postScan
  split <;> simp

@[simp] theorem State.closeSet_frame (s : State) (n : Nat) (t before : Ns) :
    (State.closeSet s n t before).boot = s.boot ∧ (State.closeSet s n t before).img = s.img ∧
    (State.closeSet s n t before).flash = s.flash ∧ (State.closeSet s n t before).ctrsAt = s.ctrsAt ∧
    (State.closeSet s n t before).partnerLog = s.partnerLog ∧ (State.closeSet s n t before).bbx = s.bbx ∧
    (State.closeSet s n t before).sens = s.sens ∧ (State.closeSet s n t before).panel = s.panel ∧
    (State.closeSet s n t before).cages = s.cages ∧ (State.closeSet s n t before).tcp = s.tcp ∧
    (State.closeSet s n t before).streams = s.streams ∧ (State.closeSet s n t before).time = s.time ∧
    (State.closeSet s n t before).swage = s.swage ∧ (State.closeSet s n t before).osc = s.osc ∧
    (State.closeSet s n t before).isl = s.isl ∧ (State.closeSet s n t before).logic = s.logic ∧
    (State.closeSet s n t before).cap = s.cap ∧ (State.closeSet s n t before).pub = s.pub ∧
    (State.closeSet s n t before).otp = s.otp ∧ (State.closeSet s n t before).vault = s.vault ∧
    (State.closeSet s n t before).emp = s.emp ∧ (State.closeSet s n t before).tap = s.tap ∧
    (State.closeSet s n t before).ext = s.ext ∧ (State.closeSet s n t before).served = s.served ∧
    (State.closeSet s n t before).free = s.free ∧ (State.closeSet s n t before).pending = s.pending := by
  unfold State.closeSet
  extract_lets s0
  have hs0 :
    s0.boot = s.boot ∧ s0.img = s.img ∧ s0.flash = s.flash ∧ s0.ctrsAt = s.ctrsAt ∧ s0.partnerLog = s.partnerLog ∧
    s0.bbx = s.bbx ∧ s0.sens = s.sens ∧ s0.panel = s.panel ∧ s0.cages = s.cages ∧ s0.tcp = s.tcp ∧
    s0.streams = s.streams ∧ s0.time = s.time ∧ s0.swage = s.swage ∧ s0.osc = s.osc ∧ s0.isl = s.isl ∧
    s0.logic = s.logic ∧ s0.cap = s.cap ∧ s0.pub = s.pub ∧ s0.otp = s.otp ∧ s0.vault = s.vault ∧ s0.emp = s.emp ∧
    s0.tap = s.tap ∧ s0.ext = s.ext ∧ s0.served = s.served ∧ s0.free = s.free ∧ s0.pending = s.pending := by
    simp only [s0]
    first
      | (simp; done)
      | (split <;> simp; done)
      | (refine forAll_inv (fun u : State =>
    u.boot = s.boot ∧ u.img = s.img ∧ u.flash = s.flash ∧ u.ctrsAt = s.ctrsAt ∧ u.partnerLog = s.partnerLog ∧
    u.bbx = s.bbx ∧ u.sens = s.sens ∧ u.panel = s.panel ∧ u.cages = s.cages ∧ u.tcp = s.tcp ∧ u.streams = s.streams ∧
    u.time = s.time ∧ u.swage = s.swage ∧ u.osc = s.osc ∧ u.isl = s.isl ∧ u.logic = s.logic ∧ u.cap = s.cap ∧
    u.pub = s.pub ∧ u.otp = s.otp ∧ u.vault = s.vault ∧ u.emp = s.emp ∧ u.tap = s.tap ∧ u.ext = s.ext ∧
    u.served = s.served ∧ u.free = s.free ∧ u.pending = s.pending) _ ?_ _ _ (by simp)
         intro u v hu
         try dsimp only
         repeat' split
         all_goals simpa using hu)
  clear_value s0
  repeat' split
  all_goals first
    | (simp [hs0]; done)
    | (refine forAll_inv (fun u : State =>
    u.boot = s.boot ∧ u.img = s.img ∧ u.flash = s.flash ∧ u.ctrsAt = s.ctrsAt ∧ u.partnerLog = s.partnerLog ∧
    u.bbx = s.bbx ∧ u.sens = s.sens ∧ u.panel = s.panel ∧ u.cages = s.cages ∧ u.tcp = s.tcp ∧ u.streams = s.streams ∧
    u.time = s.time ∧ u.swage = s.swage ∧ u.osc = s.osc ∧ u.isl = s.isl ∧ u.logic = s.logic ∧ u.cap = s.cap ∧
    u.pub = s.pub ∧ u.otp = s.otp ∧ u.vault = s.vault ∧ u.emp = s.emp ∧ u.tap = s.tap ∧ u.ext = s.ext ∧
    u.served = s.served ∧ u.free = s.free ∧ u.pending = s.pending) _ ?_ _ _ (by simp [hs0])
       intro u v hu
       try dsimp only
       repeat' split
       all_goals simpa using hu)

@[simp] theorem State.openRow_frame (s : State) (r : Nat) :
    (State.openRow s r).boot = s.boot ∧ (State.openRow s r).img = s.img ∧ (State.openRow s r).flash = s.flash ∧
    (State.openRow s r).ctrsAt = s.ctrsAt ∧ (State.openRow s r).attn = s.attn ∧
    (State.openRow s r).partnerLog = s.partnerLog ∧ (State.openRow s r).bbx = s.bbx ∧ (State.openRow s r).sens = s.sens ∧
    (State.openRow s r).panel = s.panel ∧ (State.openRow s r).ports = s.ports ∧ (State.openRow s r).cages = s.cages ∧
    (State.openRow s r).tcp = s.tcp ∧ (State.openRow s r).streams = s.streams ∧ (State.openRow s r).time = s.time ∧
    (State.openRow s r).swage = s.swage ∧ (State.openRow s r).osc = s.osc ∧ (State.openRow s r).isl = s.isl ∧
    (State.openRow s r).sch = s.sch ∧ (State.openRow s r).logic = s.logic ∧ (State.openRow s r).cap = s.cap ∧
    (State.openRow s r).pub = s.pub ∧ (State.openRow s r).pair = s.pair ∧ (State.openRow s r).otp = s.otp ∧
    (State.openRow s r).vault = s.vault ∧ (State.openRow s r).emp = s.emp ∧ (State.openRow s r).tap = s.tap ∧
    (State.openRow s r).ext = s.ext ∧ (State.openRow s r).served = s.served ∧ (State.openRow s r).free = s.free ∧
    (State.openRow s r).pending = s.pending := by
  unfold State.openRow
  try dsimp only
  repeat' split
  all_goals simp

@[simp] theorem State.finalRow_frame (s : State) (r : Nat) (w : Row) (stepped : Bool) :
    (State.finalRow s r w stepped).boot = s.boot ∧ (State.finalRow s r w stepped).img = s.img ∧
    (State.finalRow s r w stepped).flash = s.flash ∧ (State.finalRow s r w stepped).ctrsAt = s.ctrsAt ∧
    (State.finalRow s r w stepped).attn = s.attn ∧ (State.finalRow s r w stepped).partnerLog = s.partnerLog ∧
    (State.finalRow s r w stepped).bbx = s.bbx ∧ (State.finalRow s r w stepped).sens = s.sens ∧
    (State.finalRow s r w stepped).panel = s.panel ∧ (State.finalRow s r w stepped).ports = s.ports ∧
    (State.finalRow s r w stepped).cages = s.cages ∧ (State.finalRow s r w stepped).tcp = s.tcp ∧
    (State.finalRow s r w stepped).streams = s.streams ∧ (State.finalRow s r w stepped).time = s.time ∧
    (State.finalRow s r w stepped).swage = s.swage ∧ (State.finalRow s r w stepped).osc = s.osc ∧
    (State.finalRow s r w stepped).isl = s.isl ∧ (State.finalRow s r w stepped).sch = s.sch ∧
    (State.finalRow s r w stepped).logic = s.logic ∧ (State.finalRow s r w stepped).cap = s.cap ∧
    (State.finalRow s r w stepped).pub = s.pub ∧ (State.finalRow s r w stepped).pair = s.pair ∧
    (State.finalRow s r w stepped).otp = s.otp ∧ (State.finalRow s r w stepped).vault = s.vault ∧
    (State.finalRow s r w stepped).emp = s.emp ∧ (State.finalRow s r w stepped).tap = s.tap ∧
    (State.finalRow s r w stepped).ext = s.ext ∧ (State.finalRow s r w stepped).served = s.served ∧
    (State.finalRow s r w stepped).free = s.free ∧ (State.finalRow s r w stepped).pending = s.pending := by
  simp [State.finalRow]

@[simp] theorem State.commitRows_frame (s : State) (r : Nat) (bd : Ns) (n : Nat) :
    (s.commitRows r bd n).boot = s.boot ∧ (s.commitRows r bd n).img = s.img ∧ (s.commitRows r bd n).flash = s.flash ∧
    (s.commitRows r bd n).ctrsAt = s.ctrsAt ∧ (s.commitRows r bd n).attn = s.attn ∧
    (s.commitRows r bd n).partnerLog = s.partnerLog ∧ (s.commitRows r bd n).bbx = s.bbx ∧
    (s.commitRows r bd n).sens = s.sens ∧ (s.commitRows r bd n).panel = s.panel ∧ (s.commitRows r bd n).ports = s.ports ∧
    (s.commitRows r bd n).cages = s.cages ∧ (s.commitRows r bd n).tcp = s.tcp ∧
    (s.commitRows r bd n).streams = s.streams ∧ (s.commitRows r bd n).time = s.time ∧
    (s.commitRows r bd n).swage = s.swage ∧ (s.commitRows r bd n).osc = s.osc ∧ (s.commitRows r bd n).isl = s.isl ∧
    (s.commitRows r bd n).logic = s.logic ∧ (s.commitRows r bd n).cap = s.cap ∧ (s.commitRows r bd n).pub = s.pub ∧
    (s.commitRows r bd n).pair = s.pair ∧ (s.commitRows r bd n).otp = s.otp ∧ (s.commitRows r bd n).vault = s.vault ∧
    (s.commitRows r bd n).emp = s.emp ∧ (s.commitRows r bd n).tap = s.tap ∧ (s.commitRows r bd n).ext = s.ext ∧
    (s.commitRows r bd n).served = s.served ∧ (s.commitRows r bd n).free = s.free ∧
    (s.commitRows r bd n).pending = s.pending := by
  induction n generalizing s with
  | zero => simp [State.commitRows]
  | succ n ih =>
    unfold State.commitRows
    repeat' split
    all_goals simp [ih]


@[simp] theorem State.duplicate_frame (s : State) (sid : Nat) :
    (State.duplicate s sid).boot = s.boot ∧ (State.duplicate s sid).img = s.img ∧
    (State.duplicate s sid).flash = s.flash ∧ (State.duplicate s sid).ctrsAt = s.ctrsAt ∧
    (State.duplicate s sid).partnerLog = s.partnerLog ∧ (State.duplicate s sid).bbx = s.bbx ∧
    (State.duplicate s sid).sens = s.sens ∧ (State.duplicate s sid).panel = s.panel ∧
    (State.duplicate s sid).cages = s.cages ∧ (State.duplicate s sid).tcp = s.tcp ∧
    (State.duplicate s sid).streams = s.streams ∧ (State.duplicate s sid).time = s.time ∧
    (State.duplicate s sid).align = s.align ∧ (State.duplicate s sid).swage = s.swage ∧
    (State.duplicate s sid).osc = s.osc ∧ (State.duplicate s sid).isl = s.isl ∧ (State.duplicate s sid).sch = s.sch ∧
    (State.duplicate s sid).logic = s.logic ∧ (State.duplicate s sid).cap = s.cap ∧ (State.duplicate s sid).pub = s.pub ∧
    (State.duplicate s sid).otp = s.otp ∧ (State.duplicate s sid).vault = s.vault ∧ (State.duplicate s sid).emp = s.emp ∧
    (State.duplicate s sid).tap = s.tap ∧ (State.duplicate s sid).ext = s.ext ∧
    (State.duplicate s sid).served = s.served ∧ (State.duplicate s sid).free = s.free ∧
    (State.duplicate s sid).pending = s.pending := by
  simp [State.duplicate]

@[simp] theorem State.digestConflict_frame (s : State) (sid : Nat) :
    (State.digestConflict s sid).boot = s.boot ∧ (State.digestConflict s sid).img = s.img ∧
    (State.digestConflict s sid).flash = s.flash ∧ (State.digestConflict s sid).ctrsAt = s.ctrsAt ∧
    (State.digestConflict s sid).partnerLog = s.partnerLog ∧ (State.digestConflict s sid).bbx = s.bbx ∧
    (State.digestConflict s sid).sens = s.sens ∧ (State.digestConflict s sid).panel = s.panel ∧
    (State.digestConflict s sid).cages = s.cages ∧ (State.digestConflict s sid).tcp = s.tcp ∧
    (State.digestConflict s sid).streams = s.streams ∧ (State.digestConflict s sid).time = s.time ∧
    (State.digestConflict s sid).align = s.align ∧ (State.digestConflict s sid).swage = s.swage ∧
    (State.digestConflict s sid).osc = s.osc ∧ (State.digestConflict s sid).isl = s.isl ∧
    (State.digestConflict s sid).sch = s.sch ∧ (State.digestConflict s sid).logic = s.logic ∧
    (State.digestConflict s sid).cap = s.cap ∧ (State.digestConflict s sid).pub = s.pub ∧
    (State.digestConflict s sid).otp = s.otp ∧ (State.digestConflict s sid).vault = s.vault ∧
    (State.digestConflict s sid).emp = s.emp ∧ (State.digestConflict s sid).tap = s.tap ∧
    (State.digestConflict s sid).ext = s.ext ∧ (State.digestConflict s sid).served = s.served ∧
    (State.digestConflict s sid).free = s.free ∧ (State.digestConflict s sid).pending = s.pending := by
  simp [State.digestConflict]

@[simp] theorem State.putEntry_frame (s : State) (r : Nat) (w : Row) (v : SliceIn) (between late : Bool) :
    (State.putEntry s r w v between late).boot = s.boot ∧ (State.putEntry s r w v between late).img = s.img ∧
    (State.putEntry s r w v between late).flash = s.flash ∧ (State.putEntry s r w v between late).ctrs = s.ctrs ∧
    (State.putEntry s r w v between late).ctrsAt = s.ctrsAt ∧ (State.putEntry s r w v between late).attn = s.attn ∧
    (State.putEntry s r w v between late).partnerLog = s.partnerLog ∧ (State.putEntry s r w v between late).bbx = s.bbx ∧
    (State.putEntry s r w v between late).sens = s.sens ∧ (State.putEntry s r w v between late).panel = s.panel ∧
    (State.putEntry s r w v between late).ports = s.ports ∧ (State.putEntry s r w v between late).cages = s.cages ∧
    (State.putEntry s r w v between late).tcp = s.tcp ∧ (State.putEntry s r w v between late).streams = s.streams ∧
    (State.putEntry s r w v between late).time = s.time ∧ (State.putEntry s r w v between late).swage = s.swage ∧
    (State.putEntry s r w v between late).osc = s.osc ∧ (State.putEntry s r w v between late).isl = s.isl ∧
    (State.putEntry s r w v between late).logic = s.logic ∧ (State.putEntry s r w v between late).cap = s.cap ∧
    (State.putEntry s r w v between late).pub = s.pub ∧ (State.putEntry s r w v between late).pair = s.pair ∧
    (State.putEntry s r w v between late).otp = s.otp ∧ (State.putEntry s r w v between late).vault = s.vault ∧
    (State.putEntry s r w v between late).emp = s.emp ∧ (State.putEntry s r w v between late).tap = s.tap ∧
    (State.putEntry s r w v between late).ext = s.ext ∧ (State.putEntry s r w v between late).served = s.served ∧
    (State.putEntry s r w v between late).free = s.free ∧ (State.putEntry s r w v between late).pending = s.pending := by
  simp [State.putEntry]

@[simp] theorem State.countAfter_frame (s : State) (r : Nat) (w : Row) (v : SliceIn) :
    (State.countAfter s r w v).boot = s.boot ∧ (State.countAfter s r w v).img = s.img ∧
    (State.countAfter s r w v).flash = s.flash ∧ (State.countAfter s r w v).ctrsAt = s.ctrsAt ∧
    (State.countAfter s r w v).attn = s.attn ∧ (State.countAfter s r w v).partnerLog = s.partnerLog ∧
    (State.countAfter s r w v).bbx = s.bbx ∧ (State.countAfter s r w v).sens = s.sens ∧
    (State.countAfter s r w v).panel = s.panel ∧ (State.countAfter s r w v).ports = s.ports ∧
    (State.countAfter s r w v).cages = s.cages ∧ (State.countAfter s r w v).tcp = s.tcp ∧
    (State.countAfter s r w v).streams = s.streams ∧ (State.countAfter s r w v).time = s.time ∧
    (State.countAfter s r w v).align = s.align ∧ (State.countAfter s r w v).swage = s.swage ∧
    (State.countAfter s r w v).osc = s.osc ∧ (State.countAfter s r w v).isl = s.isl ∧
    (State.countAfter s r w v).sch = s.sch ∧ (State.countAfter s r w v).logic = s.logic ∧
    (State.countAfter s r w v).cap = s.cap ∧ (State.countAfter s r w v).pub = s.pub ∧
    (State.countAfter s r w v).pair = s.pair ∧ (State.countAfter s r w v).otp = s.otp ∧
    (State.countAfter s r w v).vault = s.vault ∧ (State.countAfter s r w v).emp = s.emp ∧
    (State.countAfter s r w v).tap = s.tap ∧ (State.countAfter s r w v).ext = s.ext ∧
    (State.countAfter s r w v).served = s.served ∧ (State.countAfter s r w v).free = s.free ∧
    (State.countAfter s r w v).pending = s.pending := by
  simp [State.countAfter]

@[simp] theorem State.enterRow_frame (s : State) (r : Nat) (v : SliceIn) :
    (State.enterRow s r v).boot = s.boot ∧ (State.enterRow s r v).img = s.img ∧ (State.enterRow s r v).flash = s.flash ∧
    (State.enterRow s r v).ctrsAt = s.ctrsAt ∧ (State.enterRow s r v).partnerLog = s.partnerLog ∧
    (State.enterRow s r v).bbx = s.bbx ∧ (State.enterRow s r v).sens = s.sens ∧ (State.enterRow s r v).panel = s.panel ∧
    (State.enterRow s r v).cages = s.cages ∧ (State.enterRow s r v).tcp = s.tcp ∧
    (State.enterRow s r v).streams = s.streams ∧ (State.enterRow s r v).time = s.time ∧
    (State.enterRow s r v).swage = s.swage ∧ (State.enterRow s r v).isl = s.isl ∧
    (State.enterRow s r v).logic = s.logic ∧ (State.enterRow s r v).cap = s.cap ∧ (State.enterRow s r v).pub = s.pub ∧
    (State.enterRow s r v).otp = s.otp ∧ (State.enterRow s r v).vault = s.vault ∧ (State.enterRow s r v).emp = s.emp ∧
    (State.enterRow s r v).tap = s.tap ∧ (State.enterRow s r v).ext = s.ext ∧ (State.enterRow s r v).served = s.served ∧
    (State.enterRow s r v).free = s.free ∧ (State.enterRow s r v).pending = s.pending := by
  unfold State.enterRow
  try dsimp only
  repeat' split
  all_goals simp

@[simp] theorem State.enterSv_frame (s : State) (r : Nat) (d : Delivery) :
    (State.enterSv s r d).boot = s.boot ∧ (State.enterSv s r d).img = s.img ∧ (State.enterSv s r d).flash = s.flash ∧
    (State.enterSv s r d).ctrsAt = s.ctrsAt ∧ (State.enterSv s r d).partnerLog = s.partnerLog ∧
    (State.enterSv s r d).bbx = s.bbx ∧ (State.enterSv s r d).sens = s.sens ∧ (State.enterSv s r d).panel = s.panel ∧
    (State.enterSv s r d).cages = s.cages ∧ (State.enterSv s r d).tcp = s.tcp ∧
    (State.enterSv s r d).streams = s.streams ∧ (State.enterSv s r d).time = s.time ∧
    (State.enterSv s r d).swage = s.swage ∧ (State.enterSv s r d).osc = s.osc ∧ (State.enterSv s r d).isl = s.isl ∧
    (State.enterSv s r d).logic = s.logic ∧ (State.enterSv s r d).cap = s.cap ∧ (State.enterSv s r d).pub = s.pub ∧
    (State.enterSv s r d).otp = s.otp ∧ (State.enterSv s r d).vault = s.vault ∧ (State.enterSv s r d).emp = s.emp ∧
    (State.enterSv s r d).tap = s.tap ∧ (State.enterSv s r d).ext = s.ext ∧ (State.enterSv s r d).served = s.served ∧
    (State.enterSv s r d).free = s.free ∧ (State.enterSv s r d).pending = s.pending := by
  unfold State.enterSv
  try dsimp only
  repeat' split
  all_goals simp

@[simp] theorem State.stepSlices_frame (s : State) (dtAfter : Ns) :
    (s.stepSlices dtAfter).boot = s.boot ∧ (s.stepSlices dtAfter).img = s.img ∧ (s.stepSlices dtAfter).flash = s.flash ∧
    (s.stepSlices dtAfter).ctrsAt = s.ctrsAt ∧ (s.stepSlices dtAfter).partnerLog = s.partnerLog ∧
    (s.stepSlices dtAfter).bbx = s.bbx ∧ (s.stepSlices dtAfter).sens = s.sens ∧ (s.stepSlices dtAfter).panel = s.panel ∧
    (s.stepSlices dtAfter).cages = s.cages ∧ (s.stepSlices dtAfter).tcp = s.tcp ∧
    (s.stepSlices dtAfter).streams = s.streams ∧ (s.stepSlices dtAfter).time = s.time ∧
    (s.stepSlices dtAfter).swage = s.swage ∧ (s.stepSlices dtAfter).isl = s.isl ∧
    (s.stepSlices dtAfter).logic = s.logic ∧ (s.stepSlices dtAfter).cap = s.cap ∧ (s.stepSlices dtAfter).pub = s.pub ∧
    (s.stepSlices dtAfter).otp = s.otp ∧ (s.stepSlices dtAfter).vault = s.vault ∧ (s.stepSlices dtAfter).emp = s.emp ∧
    (s.stepSlices dtAfter).tap = s.tap ∧ (s.stepSlices dtAfter).ext = s.ext ∧ (s.stepSlices dtAfter).served = s.served ∧
    (s.stepSlices dtAfter).free = s.free ∧ (s.stepSlices dtAfter).pending = s.pending := by
  let P : State → Prop := (fun u : State =>
    u.boot = s.boot ∧ u.img = s.img ∧ u.flash = s.flash ∧ u.ctrsAt = s.ctrsAt ∧ u.partnerLog = s.partnerLog ∧
    u.bbx = s.bbx ∧ u.sens = s.sens ∧ u.panel = s.panel ∧ u.cages = s.cages ∧ u.tcp = s.tcp ∧ u.streams = s.streams ∧
    u.time = s.time ∧ u.swage = s.swage ∧ u.isl = s.isl ∧ u.logic = s.logic ∧ u.cap = s.cap ∧ u.pub = s.pub ∧
    u.otp = s.otp ∧ u.vault = s.vault ∧ u.emp = s.emp ∧ u.tap = s.tap ∧ u.ext = s.ext ∧ u.served = s.served ∧
    u.free = s.free ∧ u.pending = s.pending)
  have h0 : P s := by simp [P]
  have h : P (s.stepSlices dtAfter) := by
    unfold State.stepSlices
    refine forAll_inv P _ ?_ _ _ h0
    intro u r hu
    extract_lets s1 s2 s3
    have h1 : P s1 := by
      refine forAll_inv P _ (fun u w hu => ?_) _ _ hu
      refine forAll_inv P _ (fun u w hu => ?_) _ _ hu
      try dsimp only
      repeat' split
      all_goals simpa [P] using hu
    have h2 : P s2 := by
      refine forAll_inv P _ (fun u w hu => ?_) _ _ h1
      refine forAll_inv P _ (fun u w hu => ?_) _ _ hu
      simpa [P] using hu
    have h3 : P s3 := by
      refine forAll_inv P _ (fun u w hu => ?_) _ _ h2
      simpa [P] using hu
    clear_value s3
    simpa [P] using h3
  exact h


@[simp] theorem State.startRows_frame (s : State) (boundary : Ns) :
    (State.startRows s boundary).boot = s.boot ∧ (State.startRows s boundary).img = s.img ∧
    (State.startRows s boundary).flash = s.flash ∧ (State.startRows s boundary).ctrs = s.ctrs ∧
    (State.startRows s boundary).ctrsAt = s.ctrsAt ∧ (State.startRows s boundary).attn = s.attn ∧
    (State.startRows s boundary).partnerLog = s.partnerLog ∧ (State.startRows s boundary).bbx = s.bbx ∧
    (State.startRows s boundary).sens = s.sens ∧ (State.startRows s boundary).panel = s.panel ∧
    (State.startRows s boundary).ports = s.ports ∧ (State.startRows s boundary).cages = s.cages ∧
    (State.startRows s boundary).tcp = s.tcp ∧ (State.startRows s boundary).streams = s.streams ∧
    (State.startRows s boundary).time = s.time ∧ (State.startRows s boundary).swage = s.swage ∧
    (State.startRows s boundary).osc = s.osc ∧ (State.startRows s boundary).isl = s.isl ∧
    (State.startRows s boundary).sch = s.sch ∧ (State.startRows s boundary).logic = s.logic ∧
    (State.startRows s boundary).cap = s.cap ∧ (State.startRows s boundary).pub = s.pub ∧
    (State.startRows s boundary).pair = s.pair ∧ (State.startRows s boundary).otp = s.otp ∧
    (State.startRows s boundary).vault = s.vault ∧ (State.startRows s boundary).emp = s.emp ∧
    (State.startRows s boundary).tap = s.tap ∧ (State.startRows s boundary).ext = s.ext ∧
    (State.startRows s boundary).served = s.served ∧ (State.startRows s boundary).free = s.free ∧
    (State.startRows s boundary).pending = s.pending := by
  simp [State.startRows]

end Sys2Proof.Machine
end

