-- ==== Sys2Proof/Laws/FrameSwage.lean ====
section
/-! SUPPORT. What each operation of Machine/Swage.lean leaves unchanged: one frame lemma per operation. -/

namespace Sys2Proof.Machine

@[simp] theorem State.evalHold_frame (s : State) (g : Nat) :
    (State.evalHold s g).boot = s.boot ∧ (State.evalHold s g).img = s.img ∧ (State.evalHold s g).flash = s.flash ∧
    (State.evalHold s g).ctrsAt = s.ctrsAt ∧ (State.evalHold s g).partnerLog = s.partnerLog ∧
    (State.evalHold s g).bbx = s.bbx ∧ (State.evalHold s g).sens = s.sens ∧ (State.evalHold s g).panel = s.panel ∧
    (State.evalHold s g).cages = s.cages ∧ (State.evalHold s g).tcp = s.tcp ∧ (State.evalHold s g).streams = s.streams ∧
    (State.evalHold s g).time = s.time ∧ (State.evalHold s g).align = s.align ∧ (State.evalHold s g).osc = s.osc ∧
    (State.evalHold s g).isl = s.isl ∧ (State.evalHold s g).sch = s.sch ∧ (State.evalHold s g).logic = s.logic ∧
    (State.evalHold s g).cap = s.cap ∧ (State.evalHold s g).pub = s.pub ∧ (State.evalHold s g).otp = s.otp ∧
    (State.evalHold s g).vault = s.vault ∧ (State.evalHold s g).emp = s.emp ∧ (State.evalHold s g).tap = s.tap ∧
    (State.evalHold s g).ext = s.ext ∧ (State.evalHold s g).served = s.served ∧ (State.evalHold s g).free = s.free ∧
    (State.evalHold s g).pending = s.pending := by
  simp [State.evalHold]

@[simp] theorem State.closePartial_frame (s : State) (g : Nat) :
    (State.closePartial s g).boot = s.boot ∧ (State.closePartial s g).img = s.img ∧
    (State.closePartial s g).flash = s.flash ∧ (State.closePartial s g).ctrsAt = s.ctrsAt ∧
    (State.closePartial s g).partnerLog = s.partnerLog ∧ (State.closePartial s g).bbx = s.bbx ∧
    (State.closePartial s g).sens = s.sens ∧ (State.closePartial s g).panel = s.panel ∧
    (State.closePartial s g).cages = s.cages ∧ (State.closePartial s g).tcp = s.tcp ∧
    (State.closePartial s g).streams = s.streams ∧ (State.closePartial s g).time = s.time ∧
    (State.closePartial s g).align = s.align ∧ (State.closePartial s g).osc = s.osc ∧
    (State.closePartial s g).isl = s.isl ∧ (State.closePartial s g).sch = s.sch ∧
    (State.closePartial s g).logic = s.logic ∧ (State.closePartial s g).cap = s.cap ∧
    (State.closePartial s g).pub = s.pub ∧ (State.closePartial s g).otp = s.otp ∧
    (State.closePartial s g).vault = s.vault ∧ (State.closePartial s g).emp = s.emp ∧
    (State.closePartial s g).tap = s.tap ∧ (State.closePartial s g).ext = s.ext ∧
    (State.closePartial s g).served = s.served ∧ (State.closePartial s g).free = s.free ∧
    (State.closePartial s g).pending = s.pending := by
  simp [State.closePartial]

@[simp] theorem State.handOff_frame (s : State) (g : Nat) :
    (State.handOff s g).boot = s.boot ∧ (State.handOff s g).img = s.img ∧ (State.handOff s g).flash = s.flash ∧
    (State.handOff s g).ctrsAt = s.ctrsAt ∧ (State.handOff s g).partnerLog = s.partnerLog ∧
    (State.handOff s g).bbx = s.bbx ∧ (State.handOff s g).sens = s.sens ∧ (State.handOff s g).panel = s.panel ∧
    (State.handOff s g).cages = s.cages ∧ (State.handOff s g).tcp = s.tcp ∧ (State.handOff s g).streams = s.streams ∧
    (State.handOff s g).time = s.time ∧ (State.handOff s g).align = s.align ∧ (State.handOff s g).osc = s.osc ∧
    (State.handOff s g).isl = s.isl ∧ (State.handOff s g).sch = s.sch ∧ (State.handOff s g).logic = s.logic ∧
    (State.handOff s g).cap = s.cap ∧ (State.handOff s g).pub = s.pub ∧ (State.handOff s g).otp = s.otp ∧
    (State.handOff s g).vault = s.vault ∧ (State.handOff s g).emp = s.emp ∧ (State.handOff s g).tap = s.tap ∧
    (State.handOff s g).ext = s.ext ∧ (State.handOff s g).served = s.served ∧ (State.handOff s g).free = s.free ∧
    (State.handOff s g).pending = s.pending := by
  simp [State.handOff]

@[simp] theorem State.writeRecord_frame (s : State) (l : Nat) (r : Bytes) :
    (State.writeRecord s l r).boot = s.boot ∧ (State.writeRecord s l r).img = s.img ∧
    (State.writeRecord s l r).flash = s.flash ∧ (State.writeRecord s l r).ctrsAt = s.ctrsAt ∧
    (State.writeRecord s l r).partnerLog = s.partnerLog ∧ (State.writeRecord s l r).bbx = s.bbx ∧
    (State.writeRecord s l r).sens = s.sens ∧ (State.writeRecord s l r).panel = s.panel ∧
    (State.writeRecord s l r).cages = s.cages ∧ (State.writeRecord s l r).tcp = s.tcp ∧
    (State.writeRecord s l r).streams = s.streams ∧ (State.writeRecord s l r).time = s.time ∧
    (State.writeRecord s l r).align = s.align ∧ (State.writeRecord s l r).osc = s.osc ∧
    (State.writeRecord s l r).isl = s.isl ∧ (State.writeRecord s l r).sch = s.sch ∧
    (State.writeRecord s l r).logic = s.logic ∧ (State.writeRecord s l r).cap = s.cap ∧
    (State.writeRecord s l r).pub = s.pub ∧ (State.writeRecord s l r).otp = s.otp ∧
    (State.writeRecord s l r).vault = s.vault ∧ (State.writeRecord s l r).emp = s.emp ∧
    (State.writeRecord s l r).tap = s.tap ∧ (State.writeRecord s l r).ext = s.ext ∧
    (State.writeRecord s l r).served = s.served ∧ (State.writeRecord s l r).free = s.free ∧
    (State.writeRecord s l r).pending = s.pending := by
  simp [State.writeRecord]

@[simp] theorem State.laneNosync_frame (s : State) (l : Nat) :
    (State.laneNosync s l).boot = s.boot ∧ (State.laneNosync s l).img = s.img ∧ (State.laneNosync s l).flash = s.flash ∧
    (State.laneNosync s l).ctrsAt = s.ctrsAt ∧ (State.laneNosync s l).partnerLog = s.partnerLog ∧
    (State.laneNosync s l).bbx = s.bbx ∧ (State.laneNosync s l).sens = s.sens ∧ (State.laneNosync s l).panel = s.panel ∧
    (State.laneNosync s l).cages = s.cages ∧ (State.laneNosync s l).tcp = s.tcp ∧
    (State.laneNosync s l).streams = s.streams ∧ (State.laneNosync s l).time = s.time ∧
    (State.laneNosync s l).align = s.align ∧ (State.laneNosync s l).osc = s.osc ∧ (State.laneNosync s l).isl = s.isl ∧
    (State.laneNosync s l).sch = s.sch ∧ (State.laneNosync s l).logic = s.logic ∧ (State.laneNosync s l).cap = s.cap ∧
    (State.laneNosync s l).pub = s.pub ∧ (State.laneNosync s l).otp = s.otp ∧ (State.laneNosync s l).vault = s.vault ∧
    (State.laneNosync s l).emp = s.emp ∧ (State.laneNosync s l).tap = s.tap ∧ (State.laneNosync s l).ext = s.ext ∧
    (State.laneNosync s l).served = s.served ∧ (State.laneNosync s l).free = s.free ∧
    (State.laneNosync s l).pending = s.pending := by
  simp [State.laneNosync]

@[simp] theorem State.acceptFrame_frame (s : State) (l seq delta num count width : Nat) (switch : Bool) (edge : Ns) (data : Bytes) :
    (State.acceptFrame s l seq delta num count width switch edge data).boot = s.boot ∧
    (State.acceptFrame s l seq delta num count width switch edge data).img = s.img ∧
    (State.acceptFrame s l seq delta num count width switch edge data).flash = s.flash ∧
    (State.acceptFrame s l seq delta num count width switch edge data).ctrsAt = s.ctrsAt ∧
    (State.acceptFrame s l seq delta num count width switch edge data).partnerLog = s.partnerLog ∧
    (State.acceptFrame s l seq delta num count width switch edge data).bbx = s.bbx ∧
    (State.acceptFrame s l seq delta num count width switch edge data).sens = s.sens ∧
    (State.acceptFrame s l seq delta num count width switch edge data).panel = s.panel ∧
    (State.acceptFrame s l seq delta num count width switch edge data).cages = s.cages ∧
    (State.acceptFrame s l seq delta num count width switch edge data).tcp = s.tcp ∧
    (State.acceptFrame s l seq delta num count width switch edge data).streams = s.streams ∧
    (State.acceptFrame s l seq delta num count width switch edge data).time = s.time ∧
    (State.acceptFrame s l seq delta num count width switch edge data).align = s.align ∧
    (State.acceptFrame s l seq delta num count width switch edge data).osc = s.osc ∧
    (State.acceptFrame s l seq delta num count width switch edge data).isl = s.isl ∧
    (State.acceptFrame s l seq delta num count width switch edge data).sch = s.sch ∧
    (State.acceptFrame s l seq delta num count width switch edge data).logic = s.logic ∧
    (State.acceptFrame s l seq delta num count width switch edge data).cap = s.cap ∧
    (State.acceptFrame s l seq delta num count width switch edge data).pub = s.pub ∧
    (State.acceptFrame s l seq delta num count width switch edge data).otp = s.otp ∧
    (State.acceptFrame s l seq delta num count width switch edge data).vault = s.vault ∧
    (State.acceptFrame s l seq delta num count width switch edge data).emp = s.emp ∧
    (State.acceptFrame s l seq delta num count width switch edge data).tap = s.tap ∧
    (State.acceptFrame s l seq delta num count width switch edge data).ext = s.ext ∧
    (State.acceptFrame s l seq delta num count width switch edge data).served = s.served ∧
    (State.acceptFrame s l seq delta num count width switch edge data).free = s.free ∧
    (State.acceptFrame s l seq delta num count width switch edge data).pending = s.pending := by
  simp [State.acceptFrame]

@[simp] theorem State.laneFrame_frame (s : State) (l : Nat) (b : Bytes) :
    (s.laneFrame l b).boot = s.boot ∧ (s.laneFrame l b).img = s.img ∧ (s.laneFrame l b).flash = s.flash ∧
    (s.laneFrame l b).ctrsAt = s.ctrsAt ∧ (s.laneFrame l b).partnerLog = s.partnerLog ∧ (s.laneFrame l b).bbx = s.bbx ∧
    (s.laneFrame l b).sens = s.sens ∧ (s.laneFrame l b).panel = s.panel ∧ (s.laneFrame l b).cages = s.cages ∧
    (s.laneFrame l b).tcp = s.tcp ∧ (s.laneFrame l b).streams = s.streams ∧ (s.laneFrame l b).time = s.time ∧
    (s.laneFrame l b).align = s.align ∧ (s.laneFrame l b).osc = s.osc ∧ (s.laneFrame l b).isl = s.isl ∧
    (s.laneFrame l b).sch = s.sch ∧ (s.laneFrame l b).logic = s.logic ∧ (s.laneFrame l b).cap = s.cap ∧
    (s.laneFrame l b).pub = s.pub ∧ (s.laneFrame l b).otp = s.otp ∧ (s.laneFrame l b).vault = s.vault ∧
    (s.laneFrame l b).emp = s.emp ∧ (s.laneFrame l b).tap = s.tap ∧ (s.laneFrame l b).ext = s.ext ∧
    (s.laneFrame l b).served = s.served ∧ (s.laneFrame l b).free = s.free ∧ (s.laneFrame l b).pending = s.pending := by
  let P : State → Prop := (fun u : State =>
    u.boot = s.boot ∧ u.img = s.img ∧ u.flash = s.flash ∧ u.ctrsAt = s.ctrsAt ∧ u.partnerLog = s.partnerLog ∧
    u.bbx = s.bbx ∧ u.sens = s.sens ∧ u.panel = s.panel ∧ u.cages = s.cages ∧ u.tcp = s.tcp ∧ u.streams = s.streams ∧
    u.time = s.time ∧ u.align = s.align ∧ u.osc = s.osc ∧ u.isl = s.isl ∧ u.sch = s.sch ∧ u.logic = s.logic ∧
    u.cap = s.cap ∧ u.pub = s.pub ∧ u.otp = s.otp ∧ u.vault = s.vault ∧ u.emp = s.emp ∧ u.tap = s.tap ∧ u.ext = s.ext ∧
    u.served = s.served ∧ u.free = s.free ∧ u.pending = s.pending)
  have h0 : P s := by simp [P]
  have h : P (s.laneFrame l b) := by
    unfold State.laneFrame
    extract_lets r x h seq count width switch body fresh delta num began s1 s2
    have h1 : P s1 := by simpa [P, s1] using h0
    have h2 : P s2 := by simpa [P, s2] using h0
    clear_value s1 s2 began num delta body width count switch seq h
    split
    · exact h0
    split
    · simpa [P] using h0
    split
    · simpa [P] using h0
    split
    · simpa [P] using h0
    split
    · split
      · simpa [P] using h1
      · exact h1
    split
    · split
      · simpa [P] using h2
      · exact h2
    split
    · simpa [P] using h0
    · simpa [P] using h0
  exact h


@[simp] theorem State.flushGroup_frame (s : State) (g : Nat) :
    (State.flushGroup s g).boot = s.boot ∧ (State.flushGroup s g).img = s.img ∧ (State.flushGroup s g).flash = s.flash ∧
    (State.flushGroup s g).ctrsAt = s.ctrsAt ∧ (State.flushGroup s g).partnerLog = s.partnerLog ∧
    (State.flushGroup s g).bbx = s.bbx ∧ (State.flushGroup s g).sens = s.sens ∧ (State.flushGroup s g).panel = s.panel ∧
    (State.flushGroup s g).cages = s.cages ∧ (State.flushGroup s g).tcp = s.tcp ∧
    (State.flushGroup s g).streams = s.streams ∧ (State.flushGroup s g).time = s.time ∧
    (State.flushGroup s g).align = s.align ∧ (State.flushGroup s g).osc = s.osc ∧ (State.flushGroup s g).isl = s.isl ∧
    (State.flushGroup s g).sch = s.sch ∧ (State.flushGroup s g).logic = s.logic ∧ (State.flushGroup s g).cap = s.cap ∧
    (State.flushGroup s g).pub = s.pub ∧ (State.flushGroup s g).otp = s.otp ∧ (State.flushGroup s g).vault = s.vault ∧
    (State.flushGroup s g).emp = s.emp ∧ (State.flushGroup s g).tap = s.tap ∧ (State.flushGroup s g).ext = s.ext ∧
    (State.flushGroup s g).served = s.served ∧ (State.flushGroup s g).free = s.free ∧
    (State.flushGroup s g).pending = s.pending := by
  simp [State.flushGroup]

@[simp] theorem State.threshEvent_frame (s : State) (ch set : Nat) (tag : Ns) (kind : Nat) (edge restart fast : Bool) (v : Word) :
    (State.threshEvent s ch set tag kind edge restart fast v).boot = s.boot ∧
    (State.threshEvent s ch set tag kind edge restart fast v).img = s.img ∧
    (State.threshEvent s ch set tag kind edge restart fast v).flash = s.flash ∧
    (State.threshEvent s ch set tag kind edge restart fast v).ctrsAt = s.ctrsAt ∧
    (State.threshEvent s ch set tag kind edge restart fast v).attn = s.attn ∧
    (State.threshEvent s ch set tag kind edge restart fast v).partnerLog = s.partnerLog ∧
    (State.threshEvent s ch set tag kind edge restart fast v).bbx = s.bbx ∧
    (State.threshEvent s ch set tag kind edge restart fast v).sens = s.sens ∧
    (State.threshEvent s ch set tag kind edge restart fast v).panel = s.panel ∧
    (State.threshEvent s ch set tag kind edge restart fast v).ports = s.ports ∧
    (State.threshEvent s ch set tag kind edge restart fast v).cages = s.cages ∧
    (State.threshEvent s ch set tag kind edge restart fast v).tcp = s.tcp ∧
    (State.threshEvent s ch set tag kind edge restart fast v).time = s.time ∧
    (State.threshEvent s ch set tag kind edge restart fast v).align = s.align ∧
    (State.threshEvent s ch set tag kind edge restart fast v).osc = s.osc ∧
    (State.threshEvent s ch set tag kind edge restart fast v).isl = s.isl ∧
    (State.threshEvent s ch set tag kind edge restart fast v).sch = s.sch ∧
    (State.threshEvent s ch set tag kind edge restart fast v).pair = s.pair ∧
    (State.threshEvent s ch set tag kind edge restart fast v).otp = s.otp ∧
    (State.threshEvent s ch set tag kind edge restart fast v).vault = s.vault ∧
    (State.threshEvent s ch set tag kind edge restart fast v).emp = s.emp ∧
    (State.threshEvent s ch set tag kind edge restart fast v).tap = s.tap ∧
    (State.threshEvent s ch set tag kind edge restart fast v).ext = s.ext ∧
    (State.threshEvent s ch set tag kind edge restart fast v).served = s.served ∧
    (State.threshEvent s ch set tag kind edge restart fast v).free = s.free ∧
    (State.threshEvent s ch set tag kind edge restart fast v).pending = s.pending := by
  simp [State.threshEvent]

@[simp] theorem State.restartChain_frame (s : State) (k : Nat) (t : Ns) :
    (State.restartChain s k t).boot = s.boot ∧ (State.restartChain s k t).img = s.img ∧
    (State.restartChain s k t).flash = s.flash ∧ (State.restartChain s k t).ctrsAt = s.ctrsAt ∧
    (State.restartChain s k t).attn = s.attn ∧ (State.restartChain s k t).partnerLog = s.partnerLog ∧
    (State.restartChain s k t).bbx = s.bbx ∧ (State.restartChain s k t).sens = s.sens ∧
    (State.restartChain s k t).panel = s.panel ∧ (State.restartChain s k t).ports = s.ports ∧
    (State.restartChain s k t).cages = s.cages ∧ (State.restartChain s k t).tcp = s.tcp ∧
    (State.restartChain s k t).time = s.time ∧ (State.restartChain s k t).align = s.align ∧
    (State.restartChain s k t).osc = s.osc ∧ (State.restartChain s k t).isl = s.isl ∧
    (State.restartChain s k t).sch = s.sch ∧ (State.restartChain s k t).pair = s.pair ∧
    (State.restartChain s k t).otp = s.otp ∧ (State.restartChain s k t).vault = s.vault ∧
    (State.restartChain s k t).emp = s.emp ∧ (State.restartChain s k t).tap = s.tap ∧
    (State.restartChain s k t).ext = s.ext ∧ (State.restartChain s k t).served = s.served ∧
    (State.restartChain s k t).free = s.free ∧ (State.restartChain s k t).pending = s.pending := by
  simp [State.restartChain]

@[simp] theorem State.takeSample_frame (s : State) (k : Nat) (x : Sample) :
    (State.takeSample s k x).boot = s.boot ∧ (State.takeSample s k x).img = s.img ∧
    (State.takeSample s k x).flash = s.flash ∧ (State.takeSample s k x).ctrsAt = s.ctrsAt ∧
    (State.takeSample s k x).attn = s.attn ∧ (State.takeSample s k x).partnerLog = s.partnerLog ∧
    (State.takeSample s k x).bbx = s.bbx ∧ (State.takeSample s k x).sens = s.sens ∧
    (State.takeSample s k x).panel = s.panel ∧ (State.takeSample s k x).ports = s.ports ∧
    (State.takeSample s k x).cages = s.cages ∧ (State.takeSample s k x).tcp = s.tcp ∧
    (State.takeSample s k x).time = s.time ∧ (State.takeSample s k x).align = s.align ∧
    (State.takeSample s k x).osc = s.osc ∧ (State.takeSample s k x).isl = s.isl ∧ (State.takeSample s k x).sch = s.sch ∧
    (State.takeSample s k x).pair = s.pair ∧ (State.takeSample s k x).otp = s.otp ∧
    (State.takeSample s k x).vault = s.vault ∧ (State.takeSample s k x).emp = s.emp ∧
    (State.takeSample s k x).tap = s.tap ∧ (State.takeSample s k x).ext = s.ext ∧
    (State.takeSample s k x).served = s.served ∧ (State.takeSample s k x).free = s.free ∧
    (State.takeSample s k x).pending = s.pending := by
  simp [State.takeSample]

@[simp] theorem State.storeLocal_frame (s : State) (ch : Nat) (t : Ns) (v : Word) :
    (State.storeLocal s ch t v).boot = s.boot ∧ (State.storeLocal s ch t v).img = s.img ∧
    (State.storeLocal s ch t v).flash = s.flash ∧ (State.storeLocal s ch t v).ctrs = s.ctrs ∧
    (State.storeLocal s ch t v).ctrsAt = s.ctrsAt ∧ (State.storeLocal s ch t v).attn = s.attn ∧
    (State.storeLocal s ch t v).partnerLog = s.partnerLog ∧ (State.storeLocal s ch t v).bbx = s.bbx ∧
    (State.storeLocal s ch t v).sens = s.sens ∧ (State.storeLocal s ch t v).panel = s.panel ∧
    (State.storeLocal s ch t v).ports = s.ports ∧ (State.storeLocal s ch t v).cages = s.cages ∧
    (State.storeLocal s ch t v).tcp = s.tcp ∧ (State.storeLocal s ch t v).streams = s.streams ∧
    (State.storeLocal s ch t v).time = s.time ∧ (State.storeLocal s ch t v).swage = s.swage ∧
    (State.storeLocal s ch t v).osc = s.osc ∧ (State.storeLocal s ch t v).isl = s.isl ∧
    (State.storeLocal s ch t v).sch = s.sch ∧ (State.storeLocal s ch t v).logic = s.logic ∧
    (State.storeLocal s ch t v).cap = s.cap ∧ (State.storeLocal s ch t v).pub = s.pub ∧
    (State.storeLocal s ch t v).pair = s.pair ∧ (State.storeLocal s ch t v).otp = s.otp ∧
    (State.storeLocal s ch t v).vault = s.vault ∧ (State.storeLocal s ch t v).emp = s.emp ∧
    (State.storeLocal s ch t v).tap = s.tap ∧ (State.storeLocal s ch t v).ext = s.ext ∧
    (State.storeLocal s ch t v).served = s.served ∧ (State.storeLocal s ch t v).free = s.free ∧
    (State.storeLocal s ch t v).pending = s.pending := by
  simp [State.storeLocal]

@[simp] theorem State.takeRecord_frame (s : State) (b : Bytes) :
    (State.takeRecord s b).boot = s.boot ∧ (State.takeRecord s b).img = s.img ∧ (State.takeRecord s b).flash = s.flash ∧
    (State.takeRecord s b).ctrsAt = s.ctrsAt ∧ (State.takeRecord s b).attn = s.attn ∧
    (State.takeRecord s b).partnerLog = s.partnerLog ∧ (State.takeRecord s b).bbx = s.bbx ∧
    (State.takeRecord s b).sens = s.sens ∧ (State.takeRecord s b).panel = s.panel ∧
    (State.takeRecord s b).ports = s.ports ∧ (State.takeRecord s b).cages = s.cages ∧
    (State.takeRecord s b).tcp = s.tcp ∧ (State.takeRecord s b).time = s.time ∧ (State.takeRecord s b).osc = s.osc ∧
    (State.takeRecord s b).isl = s.isl ∧ (State.takeRecord s b).sch = s.sch ∧ (State.takeRecord s b).pair = s.pair ∧
    (State.takeRecord s b).otp = s.otp ∧ (State.takeRecord s b).vault = s.vault ∧ (State.takeRecord s b).emp = s.emp ∧
    (State.takeRecord s b).tap = s.tap ∧ (State.takeRecord s b).ext = s.ext ∧ (State.takeRecord s b).served = s.served ∧
    (State.takeRecord s b).free = s.free ∧ (State.takeRecord s b).pending = s.pending := by
  simp [State.takeRecord]

@[simp] theorem State.takeRecords_frame (g n : Nat) (s : State) :
    (State.takeRecords g n s).boot = s.boot ∧ (State.takeRecords g n s).img = s.img ∧
    (State.takeRecords g n s).flash = s.flash ∧ (State.takeRecords g n s).ctrsAt = s.ctrsAt ∧
    (State.takeRecords g n s).attn = s.attn ∧ (State.takeRecords g n s).partnerLog = s.partnerLog ∧
    (State.takeRecords g n s).bbx = s.bbx ∧ (State.takeRecords g n s).sens = s.sens ∧
    (State.takeRecords g n s).panel = s.panel ∧ (State.takeRecords g n s).ports = s.ports ∧
    (State.takeRecords g n s).cages = s.cages ∧ (State.takeRecords g n s).tcp = s.tcp ∧
    (State.takeRecords g n s).time = s.time ∧ (State.takeRecords g n s).osc = s.osc ∧
    (State.takeRecords g n s).isl = s.isl ∧ (State.takeRecords g n s).sch = s.sch ∧
    (State.takeRecords g n s).pair = s.pair ∧ (State.takeRecords g n s).otp = s.otp ∧
    (State.takeRecords g n s).vault = s.vault ∧ (State.takeRecords g n s).emp = s.emp ∧
    (State.takeRecords g n s).tap = s.tap ∧ (State.takeRecords g n s).ext = s.ext ∧
    (State.takeRecords g n s).served = s.served ∧ (State.takeRecords g n s).free = s.free ∧
    (State.takeRecords g n s).pending = s.pending := by
  induction n generalizing s with
  | zero => simp [State.takeRecords]
  | succ n ih =>
    unfold State.takeRecords
    dsimp only
    split
    all_goals simp [ih]


@[simp] theorem State.queueRead_frame (s : State) (g : Nat) (err : WordErr) :
    (State.queueRead s g err).img = s.img ∧ (State.queueRead s g err).flash = s.flash ∧
    (State.queueRead s g err).ctrsAt = s.ctrsAt ∧ (State.queueRead s g err).partnerLog = s.partnerLog ∧
    (State.queueRead s g err).panel = s.panel ∧ (State.queueRead s g err).cages = s.cages ∧
    (State.queueRead s g err).tcp = s.tcp ∧ (State.queueRead s g err).time = s.time ∧
    (State.queueRead s g err).otp = s.otp ∧ (State.queueRead s g err).vault = s.vault ∧
    (State.queueRead s g err).emp = s.emp ∧ (State.queueRead s g err).tap = s.tap ∧
    (State.queueRead s g err).ext = s.ext ∧ (State.queueRead s g err).served = s.served ∧
    (State.queueRead s g err).free = s.free ∧ (State.queueRead s g err).pending = s.pending := by
  unfold State.queueRead
  try dsimp only
  repeat' split
  all_goals simp

@[simp] theorem State.drainHeld_frame (k rate n : Nat) (s : State) :
    (State.drainHeld k rate n s).boot = s.boot ∧ (State.drainHeld k rate n s).img = s.img ∧
    (State.drainHeld k rate n s).flash = s.flash ∧ (State.drainHeld k rate n s).ctrsAt = s.ctrsAt ∧
    (State.drainHeld k rate n s).attn = s.attn ∧ (State.drainHeld k rate n s).partnerLog = s.partnerLog ∧
    (State.drainHeld k rate n s).bbx = s.bbx ∧ (State.drainHeld k rate n s).sens = s.sens ∧
    (State.drainHeld k rate n s).panel = s.panel ∧ (State.drainHeld k rate n s).ports = s.ports ∧
    (State.drainHeld k rate n s).cages = s.cages ∧ (State.drainHeld k rate n s).tcp = s.tcp ∧
    (State.drainHeld k rate n s).time = s.time ∧ (State.drainHeld k rate n s).align = s.align ∧
    (State.drainHeld k rate n s).osc = s.osc ∧ (State.drainHeld k rate n s).isl = s.isl ∧
    (State.drainHeld k rate n s).sch = s.sch ∧ (State.drainHeld k rate n s).pair = s.pair ∧
    (State.drainHeld k rate n s).otp = s.otp ∧ (State.drainHeld k rate n s).vault = s.vault ∧
    (State.drainHeld k rate n s).emp = s.emp ∧ (State.drainHeld k rate n s).tap = s.tap ∧
    (State.drainHeld k rate n s).ext = s.ext ∧ (State.drainHeld k rate n s).served = s.served ∧
    (State.drainHeld k rate n s).free = s.free ∧ (State.drainHeld k rate n s).pending = s.pending := by
  induction n generalizing s with
  | zero => simp [State.drainHeld]
  | succ n ih =>
    unfold State.drainHeld
    dsimp only
    repeat' split
    all_goals simp [ih]


@[simp] theorem State.drain_frame (s : State) (k rate : Nat) :
    (State.drain s k rate).boot = s.boot ∧ (State.drain s k rate).img = s.img ∧ (State.drain s k rate).flash = s.flash ∧
    (State.drain s k rate).ctrsAt = s.ctrsAt ∧ (State.drain s k rate).attn = s.attn ∧
    (State.drain s k rate).partnerLog = s.partnerLog ∧ (State.drain s k rate).bbx = s.bbx ∧
    (State.drain s k rate).sens = s.sens ∧ (State.drain s k rate).panel = s.panel ∧
    (State.drain s k rate).ports = s.ports ∧ (State.drain s k rate).cages = s.cages ∧
    (State.drain s k rate).tcp = s.tcp ∧ (State.drain s k rate).time = s.time ∧ (State.drain s k rate).align = s.align ∧
    (State.drain s k rate).osc = s.osc ∧ (State.drain s k rate).isl = s.isl ∧ (State.drain s k rate).sch = s.sch ∧
    (State.drain s k rate).pair = s.pair ∧ (State.drain s k rate).otp = s.otp ∧ (State.drain s k rate).vault = s.vault ∧
    (State.drain s k rate).emp = s.emp ∧ (State.drain s k rate).tap = s.tap ∧ (State.drain s k rate).ext = s.ext ∧
    (State.drain s k rate).served = s.served ∧ (State.drain s k rate).free = s.free ∧
    (State.drain s k rate).pending = s.pending := by
  simp [State.drain]

@[simp] theorem State.svSample_frame (s : State) (k sid pos rate : Nat) (x : Sample) :
    (State.svSample s k sid pos rate x).boot = s.boot ∧ (State.svSample s k sid pos rate x).img = s.img ∧
    (State.svSample s k sid pos rate x).flash = s.flash ∧ (State.svSample s k sid pos rate x).ctrsAt = s.ctrsAt ∧
    (State.svSample s k sid pos rate x).attn = s.attn ∧ (State.svSample s k sid pos rate x).partnerLog = s.partnerLog ∧
    (State.svSample s k sid pos rate x).bbx = s.bbx ∧ (State.svSample s k sid pos rate x).sens = s.sens ∧
    (State.svSample s k sid pos rate x).panel = s.panel ∧ (State.svSample s k sid pos rate x).ports = s.ports ∧
    (State.svSample s k sid pos rate x).cages = s.cages ∧ (State.svSample s k sid pos rate x).tcp = s.tcp ∧
    (State.svSample s k sid pos rate x).time = s.time ∧ (State.svSample s k sid pos rate x).align = s.align ∧
    (State.svSample s k sid pos rate x).osc = s.osc ∧ (State.svSample s k sid pos rate x).isl = s.isl ∧
    (State.svSample s k sid pos rate x).sch = s.sch ∧ (State.svSample s k sid pos rate x).pair = s.pair ∧
    (State.svSample s k sid pos rate x).otp = s.otp ∧ (State.svSample s k sid pos rate x).vault = s.vault ∧
    (State.svSample s k sid pos rate x).emp = s.emp ∧ (State.svSample s k sid pos rate x).tap = s.tap ∧
    (State.svSample s k sid pos rate x).ext = s.ext ∧ (State.svSample s k sid pos rate x).served = s.served ∧
    (State.svSample s k sid pos rate x).free = s.free ∧ (State.svSample s k sid pos rate x).pending = s.pending := by
  simp [State.svSample]

@[simp] theorem State.svToChain_frame (s : State) (d : Delivery) :
    (s.svToChain d).boot = s.boot ∧ (s.svToChain d).img = s.img ∧ (s.svToChain d).flash = s.flash ∧
    (s.svToChain d).ctrsAt = s.ctrsAt ∧ (s.svToChain d).attn = s.attn ∧ (s.svToChain d).partnerLog = s.partnerLog ∧
    (s.svToChain d).bbx = s.bbx ∧ (s.svToChain d).sens = s.sens ∧ (s.svToChain d).panel = s.panel ∧
    (s.svToChain d).ports = s.ports ∧ (s.svToChain d).cages = s.cages ∧ (s.svToChain d).tcp = s.tcp ∧
    (s.svToChain d).time = s.time ∧ (s.svToChain d).align = s.align ∧ (s.svToChain d).osc = s.osc ∧
    (s.svToChain d).isl = s.isl ∧ (s.svToChain d).sch = s.sch ∧ (s.svToChain d).pair = s.pair ∧
    (s.svToChain d).otp = s.otp ∧ (s.svToChain d).vault = s.vault ∧ (s.svToChain d).emp = s.emp ∧
    (s.svToChain d).tap = s.tap ∧ (s.svToChain d).ext = s.ext ∧ (s.svToChain d).served = s.served ∧
    (s.svToChain d).free = s.free ∧ (s.svToChain d).pending = s.pending := by
  let P : State → Prop := (fun u : State =>
    u.boot = s.boot ∧ u.img = s.img ∧ u.flash = s.flash ∧ u.ctrsAt = s.ctrsAt ∧ u.attn = s.attn ∧
    u.partnerLog = s.partnerLog ∧ u.bbx = s.bbx ∧ u.sens = s.sens ∧ u.panel = s.panel ∧ u.ports = s.ports ∧
    u.cages = s.cages ∧ u.tcp = s.tcp ∧ u.time = s.time ∧ u.align = s.align ∧ u.osc = s.osc ∧ u.isl = s.isl ∧
    u.sch = s.sch ∧ u.pair = s.pair ∧ u.otp = s.otp ∧ u.vault = s.vault ∧ u.emp = s.emp ∧ u.tap = s.tap ∧ u.ext = s.ext ∧
    u.served = s.served ∧ u.free = s.free ∧ u.pending = s.pending)
  have h0 : P s := by simp [P]
  have h : P (s.svToChain d) := by
    unfold State.svToChain
    extract_lets rate
    refine forAll_inv P _ (fun u w hu => ?_) _ _ h0
    refine forAll_inv P _ (fun u w hu => ?_) _ _ hu
    split
    · exact hu
    · simpa [P] using hu
  exact h


@[simp] theorem State.runLevel_frame (s : State) (ch set : Nat) (e : Estimate) (gated fast : Bool) (k : Nat) :
    (State.runLevel s ch set e gated fast k).boot = s.boot ∧ (State.runLevel s ch set e gated fast k).img = s.img ∧
    (State.runLevel s ch set e gated fast k).flash = s.flash ∧
    (State.runLevel s ch set e gated fast k).ctrsAt = s.ctrsAt ∧ (State.runLevel s ch set e gated fast k).attn = s.attn ∧
    (State.runLevel s ch set e gated fast k).partnerLog = s.partnerLog ∧
    (State.runLevel s ch set e gated fast k).bbx = s.bbx ∧ (State.runLevel s ch set e gated fast k).sens = s.sens ∧
    (State.runLevel s ch set e gated fast k).panel = s.panel ∧ (State.runLevel s ch set e gated fast k).ports = s.ports ∧
    (State.runLevel s ch set e gated fast k).cages = s.cages ∧ (State.runLevel s ch set e gated fast k).tcp = s.tcp ∧
    (State.runLevel s ch set e gated fast k).time = s.time ∧ (State.runLevel s ch set e gated fast k).align = s.align ∧
    (State.runLevel s ch set e gated fast k).osc = s.osc ∧ (State.runLevel s ch set e gated fast k).isl = s.isl ∧
    (State.runLevel s ch set e gated fast k).sch = s.sch ∧ (State.runLevel s ch set e gated fast k).pair = s.pair ∧
    (State.runLevel s ch set e gated fast k).otp = s.otp ∧ (State.runLevel s ch set e gated fast k).vault = s.vault ∧
    (State.runLevel s ch set e gated fast k).emp = s.emp ∧ (State.runLevel s ch set e gated fast k).tap = s.tap ∧
    (State.runLevel s ch set e gated fast k).ext = s.ext ∧ (State.runLevel s ch set e gated fast k).served = s.served ∧
    (State.runLevel s ch set e gated fast k).free = s.free ∧ (State.runLevel s ch set e gated fast k).pending = s.pending := by
  unfold State.runLevel
  split <;> simp

@[simp] theorem State.compare_frame (s : State) (e : Estimate) (fast : Bool) :
    (s.compare e fast).img = s.img ∧ (s.compare e fast).flash = s.flash ∧ (s.compare e fast).ctrsAt = s.ctrsAt ∧
    (s.compare e fast).attn = s.attn ∧ (s.compare e fast).partnerLog = s.partnerLog ∧ (s.compare e fast).bbx = s.bbx ∧
    (s.compare e fast).sens = s.sens ∧ (s.compare e fast).panel = s.panel ∧ (s.compare e fast).ports = s.ports ∧
    (s.compare e fast).cages = s.cages ∧ (s.compare e fast).tcp = s.tcp ∧ (s.compare e fast).time = s.time ∧
    (s.compare e fast).align = s.align ∧ (s.compare e fast).osc = s.osc ∧ (s.compare e fast).isl = s.isl ∧
    (s.compare e fast).sch = s.sch ∧ (s.compare e fast).pair = s.pair ∧ (s.compare e fast).otp = s.otp ∧
    (s.compare e fast).vault = s.vault ∧ (s.compare e fast).emp = s.emp ∧ (s.compare e fast).tap = s.tap ∧
    (s.compare e fast).ext = s.ext ∧ (s.compare e fast).served = s.served ∧ (s.compare e fast).free = s.free ∧
    (s.compare e fast).pending = s.pending := by
  let P : State → Prop := (fun u : State =>
    u.img = s.img ∧ u.flash = s.flash ∧ u.ctrsAt = s.ctrsAt ∧ u.attn = s.attn ∧ u.partnerLog = s.partnerLog ∧
    u.bbx = s.bbx ∧ u.sens = s.sens ∧ u.panel = s.panel ∧ u.ports = s.ports ∧ u.cages = s.cages ∧ u.tcp = s.tcp ∧
    u.time = s.time ∧ u.align = s.align ∧ u.osc = s.osc ∧ u.isl = s.isl ∧ u.sch = s.sch ∧ u.pair = s.pair ∧
    u.otp = s.otp ∧ u.vault = s.vault ∧ u.emp = s.emp ∧ u.tap = s.tap ∧ u.ext = s.ext ∧ u.served = s.served ∧
    u.free = s.free ∧ u.pending = s.pending)
  have h0 : P s := by simp [P]
  have h : P (s.compare e fast) := by
    unfold State.compare
    extract_lets ch x since settled s1 s2 s3 s4 s5 twice s6 set r on s7 s8
    have hs1 : P s1 := by
      simp only [s1]
      (repeat' split) <;> simpa [P] using h0
    have hs2 : P s2 := by
      simp only [s2]
      (repeat' split) <;> simpa [P] using hs1
    have hs3 : P s3 := by
      simp only [s3]
      (repeat' split) <;> simpa [P] using hs2
    have hs4 : P s4 := by
      simp only [s4]
      (repeat' split) <;> simpa [P] using hs3
    have hs5 : P s5 := by
      simp only [s5]
      (repeat' split) <;> simpa [P] using hs4
    have hs6 : P s6 := by
      simp only [s6]
      (repeat' split) <;> simpa [P] using hs5
    have hs7 : P s7 := by
      refine forAll_inv P _ (fun u w hu => ?_) _ _ hs6
      simpa [P] using hu
    have hs8 : P s8 := by
      simp only [s8]
      split
      · exact hs6
      · split
        · exact hs7
        · (repeat' split) <;> simpa [P] using hs7
    clear_value s8 s7 s6 s5 s4 s3 s2 s1
    simpa [P] using hs8
  exact h


@[simp] theorem State.releaseEst_frame (s : State) (e : Estimate) (toRow comparators fast : Bool) :
    (State.releaseEst s e toRow comparators fast).img = s.img ∧
    (State.releaseEst s e toRow comparators fast).flash = s.flash ∧
    (State.releaseEst s e toRow comparators fast).ctrsAt = s.ctrsAt ∧
    (State.releaseEst s e toRow comparators fast).attn = s.attn ∧
    (State.releaseEst s e toRow comparators fast).partnerLog = s.partnerLog ∧
    (State.releaseEst s e toRow comparators fast).bbx = s.bbx ∧
    (State.releaseEst s e toRow comparators fast).sens = s.sens ∧
    (State.releaseEst s e toRow comparators fast).panel = s.panel ∧
    (State.releaseEst s e toRow comparators fast).ports = s.ports ∧
    (State.releaseEst s e toRow comparators fast).cages = s.cages ∧
    (State.releaseEst s e toRow comparators fast).tcp = s.tcp ∧
    (State.releaseEst s e toRow comparators fast).time = s.time ∧
    (State.releaseEst s e toRow comparators fast).osc = s.osc ∧
    (State.releaseEst s e toRow comparators fast).isl = s.isl ∧
    (State.releaseEst s e toRow comparators fast).sch = s.sch ∧
    (State.releaseEst s e toRow comparators fast).pair = s.pair ∧
    (State.releaseEst s e toRow comparators fast).otp = s.otp ∧
    (State.releaseEst s e toRow comparators fast).vault = s.vault ∧
    (State.releaseEst s e toRow comparators fast).emp = s.emp ∧
    (State.releaseEst s e toRow comparators fast).tap = s.tap ∧
    (State.releaseEst s e toRow comparators fast).ext = s.ext ∧
    (State.releaseEst s e toRow comparators fast).served = s.served ∧
    (State.releaseEst s e toRow comparators fast).free = s.free ∧
    (State.releaseEst s e toRow comparators fast).pending = s.pending := by
  simp [State.releaseEst]

@[simp] theorem State.estimateRelease_frame (s : State) (ch : Nat) :
    (State.estimateRelease s ch).img = s.img ∧ (State.estimateRelease s ch).flash = s.flash ∧
    (State.estimateRelease s ch).ctrsAt = s.ctrsAt ∧ (State.estimateRelease s ch).attn = s.attn ∧
    (State.estimateRelease s ch).partnerLog = s.partnerLog ∧ (State.estimateRelease s ch).bbx = s.bbx ∧
    (State.estimateRelease s ch).sens = s.sens ∧ (State.estimateRelease s ch).panel = s.panel ∧
    (State.estimateRelease s ch).ports = s.ports ∧ (State.estimateRelease s ch).cages = s.cages ∧
    (State.estimateRelease s ch).tcp = s.tcp ∧ (State.estimateRelease s ch).time = s.time ∧
    (State.estimateRelease s ch).osc = s.osc ∧ (State.estimateRelease s ch).isl = s.isl ∧
    (State.estimateRelease s ch).sch = s.sch ∧ (State.estimateRelease s ch).pair = s.pair ∧
    (State.estimateRelease s ch).otp = s.otp ∧ (State.estimateRelease s ch).vault = s.vault ∧
    (State.estimateRelease s ch).emp = s.emp ∧ (State.estimateRelease s ch).tap = s.tap ∧
    (State.estimateRelease s ch).ext = s.ext ∧ (State.estimateRelease s ch).served = s.served ∧
    (State.estimateRelease s ch).free = s.free ∧ (State.estimateRelease s ch).pending = s.pending := by
  simp [State.estimateRelease]

@[simp] theorem State.fastEstimate_frame (s : State) (ch : Nat) :
    (State.fastEstimate s ch).img = s.img ∧ (State.fastEstimate s ch).flash = s.flash ∧
    (State.fastEstimate s ch).ctrsAt = s.ctrsAt ∧ (State.fastEstimate s ch).attn = s.attn ∧
    (State.fastEstimate s ch).partnerLog = s.partnerLog ∧ (State.fastEstimate s ch).bbx = s.bbx ∧
    (State.fastEstimate s ch).sens = s.sens ∧ (State.fastEstimate s ch).panel = s.panel ∧
    (State.fastEstimate s ch).ports = s.ports ∧ (State.fastEstimate s ch).cages = s.cages ∧
    (State.fastEstimate s ch).tcp = s.tcp ∧ (State.fastEstimate s ch).time = s.time ∧
    (State.fastEstimate s ch).osc = s.osc ∧ (State.fastEstimate s ch).isl = s.isl ∧
    (State.fastEstimate s ch).sch = s.sch ∧ (State.fastEstimate s ch).pair = s.pair ∧
    (State.fastEstimate s ch).otp = s.otp ∧ (State.fastEstimate s ch).vault = s.vault ∧
    (State.fastEstimate s ch).emp = s.emp ∧ (State.fastEstimate s ch).tap = s.tap ∧
    (State.fastEstimate s ch).ext = s.ext ∧ (State.fastEstimate s ch).served = s.served ∧
    (State.fastEstimate s ch).free = s.free ∧ (State.fastEstimate s ch).pending = s.pending := by
  simp [State.fastEstimate]

@[simp] theorem State.stepSwage_frame (s : State) :
    (State.stepSwage s).boot = s.boot ∧ (State.stepSwage s).img = s.img ∧ (State.stepSwage s).flash = s.flash ∧
    (State.stepSwage s).ctrs = s.ctrs ∧ (State.stepSwage s).ctrsAt = s.ctrsAt ∧ (State.stepSwage s).attn = s.attn ∧
    (State.stepSwage s).partnerLog = s.partnerLog ∧ (State.stepSwage s).bbx = s.bbx ∧ (State.stepSwage s).sens = s.sens ∧
    (State.stepSwage s).panel = s.panel ∧ (State.stepSwage s).ports = s.ports ∧ (State.stepSwage s).cages = s.cages ∧
    (State.stepSwage s).tcp = s.tcp ∧ (State.stepSwage s).streams = s.streams ∧ (State.stepSwage s).time = s.time ∧
    (State.stepSwage s).align = s.align ∧ (State.stepSwage s).osc = s.osc ∧ (State.stepSwage s).isl = s.isl ∧
    (State.stepSwage s).sch = s.sch ∧ (State.stepSwage s).logic = s.logic ∧ (State.stepSwage s).cap = s.cap ∧
    (State.stepSwage s).pub = s.pub ∧ (State.stepSwage s).pair = s.pair ∧ (State.stepSwage s).otp = s.otp ∧
    (State.stepSwage s).vault = s.vault ∧ (State.stepSwage s).emp = s.emp ∧ (State.stepSwage s).tap = s.tap ∧
    (State.stepSwage s).ext = s.ext ∧ (State.stepSwage s).served = s.served ∧ (State.stepSwage s).free = s.free ∧
    (State.stepSwage s).pending = s.pending := by
  simp [State.stepSwage]

@[simp] theorem State.replayFrame_frame (s : State) (lane : Nat) :
    (State.replayFrame s lane).boot = s.boot ∧ (State.replayFrame s lane).img = s.img ∧
    (State.replayFrame s lane).flash = s.flash ∧ (State.replayFrame s lane).ctrsAt = s.ctrsAt ∧
    (State.replayFrame s lane).attn = s.attn ∧ (State.replayFrame s lane).partnerLog = s.partnerLog ∧
    (State.replayFrame s lane).bbx = s.bbx ∧ (State.replayFrame s lane).sens = s.sens ∧
    (State.replayFrame s lane).panel = s.panel ∧ (State.replayFrame s lane).ports = s.ports ∧
    (State.replayFrame s lane).cages = s.cages ∧ (State.replayFrame s lane).tcp = s.tcp ∧
    (State.replayFrame s lane).streams = s.streams ∧ (State.replayFrame s lane).time = s.time ∧
    (State.replayFrame s lane).align = s.align ∧ (State.replayFrame s lane).osc = s.osc ∧
    (State.replayFrame s lane).isl = s.isl ∧ (State.replayFrame s lane).sch = s.sch ∧
    (State.replayFrame s lane).logic = s.logic ∧ (State.replayFrame s lane).cap = s.cap ∧
    (State.replayFrame s lane).pub = s.pub ∧ (State.replayFrame s lane).pair = s.pair ∧
    (State.replayFrame s lane).otp = s.otp ∧ (State.replayFrame s lane).vault = s.vault ∧
    (State.replayFrame s lane).emp = s.emp ∧ (State.replayFrame s lane).tap = s.tap ∧
    (State.replayFrame s lane).ext = s.ext ∧ (State.replayFrame s lane).served = s.served ∧
    (State.replayFrame s lane).pending = s.pending := by
  unfold State.replayFrame
  split <;> simp

end Sys2Proof.Machine
end

