-- ==== Sys2Proof/Laws/FrameOsc.lean ====
section
/-! SUPPORT. What each operation of Machine/Osc.lean leaves unchanged: one frame lemma per operation. -/

namespace Sys2Proof.Machine

@[simp] theorem State.adoptOsc_frame (s : State) (i : Nat) :
    (State.adoptOsc s i).boot = s.boot ∧ (State.adoptOsc s i).img = s.img ∧ (State.adoptOsc s i).flash = s.flash ∧
    (State.adoptOsc s i).ctrsAt = s.ctrsAt ∧ (State.adoptOsc s i).attn = s.attn ∧
    (State.adoptOsc s i).partnerLog = s.partnerLog ∧ (State.adoptOsc s i).bbx = s.bbx ∧
    (State.adoptOsc s i).sens = s.sens ∧ (State.adoptOsc s i).panel = s.panel ∧ (State.adoptOsc s i).cages = s.cages ∧
    (State.adoptOsc s i).tcp = s.tcp ∧ (State.adoptOsc s i).streams = s.streams ∧ (State.adoptOsc s i).time = s.time ∧
    (State.adoptOsc s i).align = s.align ∧ (State.adoptOsc s i).swage = s.swage ∧ (State.adoptOsc s i).isl = s.isl ∧
    (State.adoptOsc s i).sch = s.sch ∧ (State.adoptOsc s i).logic = s.logic ∧ (State.adoptOsc s i).cap = s.cap ∧
    (State.adoptOsc s i).pub = s.pub ∧ (State.adoptOsc s i).otp = s.otp ∧ (State.adoptOsc s i).vault = s.vault ∧
    (State.adoptOsc s i).emp = s.emp ∧ (State.adoptOsc s i).tap = s.tap ∧ (State.adoptOsc s i).ext = s.ext ∧
    (State.adoptOsc s i).served = s.served ∧ (State.adoptOsc s i).free = s.free ∧ (State.adoptOsc s i).pending = s.pending := by
  unfold State.adoptOsc
  try dsimp only
  repeat' split
  all_goals simp

@[simp] theorem State.putMode_frame (s : State) (r : ModeRec) (a : ModeAlarm) :
    (State.putMode s r a).img = s.img ∧ (State.putMode s r a).flash = s.flash ∧ (State.putMode s r a).ctrs = s.ctrs ∧
    (State.putMode s r a).ctrsAt = s.ctrsAt ∧ (State.putMode s r a).attn = s.attn ∧
    (State.putMode s r a).partnerLog = s.partnerLog ∧ (State.putMode s r a).bbx = s.bbx ∧
    (State.putMode s r a).sens = s.sens ∧ (State.putMode s r a).panel = s.panel ∧ (State.putMode s r a).ports = s.ports ∧
    (State.putMode s r a).cages = s.cages ∧ (State.putMode s r a).tcp = s.tcp ∧
    (State.putMode s r a).streams = s.streams ∧ (State.putMode s r a).time = s.time ∧
    (State.putMode s r a).swage = s.swage ∧ (State.putMode s r a).isl = s.isl ∧ (State.putMode s r a).sch = s.sch ∧
    (State.putMode s r a).logic = s.logic ∧ (State.putMode s r a).cap = s.cap ∧ (State.putMode s r a).pub = s.pub ∧
    (State.putMode s r a).pair = s.pair ∧ (State.putMode s r a).otp = s.otp ∧ (State.putMode s r a).vault = s.vault ∧
    (State.putMode s r a).emp = s.emp ∧ (State.putMode s r a).tap = s.tap ∧ (State.putMode s r a).ext = s.ext ∧
    (State.putMode s r a).served = s.served ∧ (State.putMode s r a).free = s.free ∧
    (State.putMode s r a).pending = s.pending := by
  simp [State.putMode]

@[simp] theorem State.locateMode_frame (s : State) (r : ModeRec) (es : List ModeEvent) :
    (State.locateMode s r es).boot = s.boot ∧ (State.locateMode s r es).img = s.img ∧
    (State.locateMode s r es).flash = s.flash ∧ (State.locateMode s r es).ctrsAt = s.ctrsAt ∧
    (State.locateMode s r es).attn = s.attn ∧ (State.locateMode s r es).partnerLog = s.partnerLog ∧
    (State.locateMode s r es).bbx = s.bbx ∧ (State.locateMode s r es).sens = s.sens ∧
    (State.locateMode s r es).panel = s.panel ∧ (State.locateMode s r es).ports = s.ports ∧
    (State.locateMode s r es).cages = s.cages ∧ (State.locateMode s r es).tcp = s.tcp ∧
    (State.locateMode s r es).streams = s.streams ∧ (State.locateMode s r es).time = s.time ∧
    (State.locateMode s r es).align = s.align ∧ (State.locateMode s r es).swage = s.swage ∧
    (State.locateMode s r es).isl = s.isl ∧ (State.locateMode s r es).sch = s.sch ∧
    (State.locateMode s r es).logic = s.logic ∧ (State.locateMode s r es).cap = s.cap ∧
    (State.locateMode s r es).pub = s.pub ∧ (State.locateMode s r es).pair = s.pair ∧
    (State.locateMode s r es).otp = s.otp ∧ (State.locateMode s r es).vault = s.vault ∧
    (State.locateMode s r es).emp = s.emp ∧ (State.locateMode s r es).tap = s.tap ∧
    (State.locateMode s r es).ext = s.ext ∧ (State.locateMode s r es).served = s.served ∧
    (State.locateMode s r es).free = s.free ∧ (State.locateMode s r es).pending = s.pending := by
  simp [State.locateMode]

@[simp] theorem State.oscRelease_frame (s : State) (rs : List (ModeRec × Option Nat)) :
    (State.oscRelease s rs).img = s.img ∧ (State.oscRelease s rs).flash = s.flash ∧
    (State.oscRelease s rs).ctrsAt = s.ctrsAt ∧ (State.oscRelease s rs).attn = s.attn ∧
    (State.oscRelease s rs).partnerLog = s.partnerLog ∧ (State.oscRelease s rs).bbx = s.bbx ∧
    (State.oscRelease s rs).sens = s.sens ∧ (State.oscRelease s rs).panel = s.panel ∧
    (State.oscRelease s rs).cages = s.cages ∧ (State.oscRelease s rs).tcp = s.tcp ∧
    (State.oscRelease s rs).time = s.time ∧ (State.oscRelease s rs).swage = s.swage ∧
    (State.oscRelease s rs).isl = s.isl ∧ (State.oscRelease s rs).sch = s.sch ∧ (State.oscRelease s rs).otp = s.otp ∧
    (State.oscRelease s rs).vault = s.vault ∧ (State.oscRelease s rs).emp = s.emp ∧ (State.oscRelease s rs).tap = s.tap ∧
    (State.oscRelease s rs).ext = s.ext ∧ (State.oscRelease s rs).served = s.served ∧
    (State.oscRelease s rs).free = s.free ∧ (State.oscRelease s rs).pending = s.pending := by
  simp [State.oscRelease]

@[simp] theorem State.modalSlots_frame (s : State) (k : Nat) (tag : Ns) (conv restarted : Bool) (ps : List Pole) :
    (State.modalSlots s k tag conv restarted ps).img = s.img ∧
    (State.modalSlots s k tag conv restarted ps).flash = s.flash ∧
    (State.modalSlots s k tag conv restarted ps).ctrsAt = s.ctrsAt ∧
    (State.modalSlots s k tag conv restarted ps).attn = s.attn ∧
    (State.modalSlots s k tag conv restarted ps).partnerLog = s.partnerLog ∧
    (State.modalSlots s k tag conv restarted ps).bbx = s.bbx ∧
    (State.modalSlots s k tag conv restarted ps).sens = s.sens ∧
    (State.modalSlots s k tag conv restarted ps).panel = s.panel ∧
    (State.modalSlots s k tag conv restarted ps).cages = s.cages ∧
    (State.modalSlots s k tag conv restarted ps).tcp = s.tcp ∧
    (State.modalSlots s k tag conv restarted ps).time = s.time ∧
    (State.modalSlots s k tag conv restarted ps).swage = s.swage ∧
    (State.modalSlots s k tag conv restarted ps).isl = s.isl ∧ (State.modalSlots s k tag conv restarted ps).sch = s.sch ∧
    (State.modalSlots s k tag conv restarted ps).otp = s.otp ∧
    (State.modalSlots s k tag conv restarted ps).vault = s.vault ∧
    (State.modalSlots s k tag conv restarted ps).emp = s.emp ∧ (State.modalSlots s k tag conv restarted ps).tap = s.tap ∧
    (State.modalSlots s k tag conv restarted ps).ext = s.ext ∧
    (State.modalSlots s k tag conv restarted ps).served = s.served ∧
    (State.modalSlots s k tag conv restarted ps).free = s.free ∧
    (State.modalSlots s k tag conv restarted ps).pending = s.pending := by
  unfold State.modalSlots
  extract_lets rec_0 modes1 prev2 got3 rs4 moved5 s6 s7
  have hs6 :
    s6.img = s.img ∧ s6.flash = s.flash ∧ s6.ctrsAt = s.ctrsAt ∧ s6.attn = s.attn ∧ s6.partnerLog = s.partnerLog ∧
    s6.bbx = s.bbx ∧ s6.sens = s.sens ∧ s6.panel = s.panel ∧ s6.cages = s.cages ∧ s6.tcp = s.tcp ∧ s6.time = s.time ∧
    s6.swage = s.swage ∧ s6.isl = s.isl ∧ s6.sch = s.sch ∧ s6.otp = s.otp ∧ s6.vault = s.vault ∧ s6.emp = s.emp ∧
    s6.tap = s.tap ∧ s6.ext = s.ext ∧ s6.served = s.served ∧ s6.free = s.free ∧ s6.pending = s.pending := by
    simp only [s6]
    first
      | (simp; done)
      | (split <;> simp; done)
      | (refine forAll_inv (fun u : State =>
    u.img = s.img ∧ u.flash = s.flash ∧ u.ctrsAt = s.ctrsAt ∧ u.attn = s.attn ∧ u.partnerLog = s.partnerLog ∧
    u.bbx = s.bbx ∧ u.sens = s.sens ∧ u.panel = s.panel ∧ u.cages = s.cages ∧ u.tcp = s.tcp ∧ u.time = s.time ∧
    u.swage = s.swage ∧ u.isl = s.isl ∧ u.sch = s.sch ∧ u.otp = s.otp ∧ u.vault = s.vault ∧ u.emp = s.emp ∧
    u.tap = s.tap ∧ u.ext = s.ext ∧ u.served = s.served ∧ u.free = s.free ∧ u.pending = s.pending) _ ?_ _ _ (by simp)
         intro u v hu
         try dsimp only
         repeat' split
         all_goals simpa using hu)
  have hs7 :
    s7.img = s.img ∧ s7.flash = s.flash ∧ s7.ctrsAt = s.ctrsAt ∧ s7.attn = s.attn ∧ s7.partnerLog = s.partnerLog ∧
    s7.bbx = s.bbx ∧ s7.sens = s.sens ∧ s7.panel = s.panel ∧ s7.cages = s.cages ∧ s7.tcp = s.tcp ∧ s7.time = s.time ∧
    s7.swage = s.swage ∧ s7.isl = s.isl ∧ s7.sch = s.sch ∧ s7.otp = s.otp ∧ s7.vault = s.vault ∧ s7.emp = s.emp ∧
    s7.tap = s.tap ∧ s7.ext = s.ext ∧ s7.served = s.served ∧ s7.free = s.free ∧ s7.pending = s.pending := by
    simp only [s7]
    first
      | (simp [hs6]; done)
      | (split <;> simp [hs6]; done)
      | (refine forAll_inv (fun u : State =>
    u.img = s.img ∧ u.flash = s.flash ∧ u.ctrsAt = s.ctrsAt ∧ u.attn = s.attn ∧ u.partnerLog = s.partnerLog ∧
    u.bbx = s.bbx ∧ u.sens = s.sens ∧ u.panel = s.panel ∧ u.cages = s.cages ∧ u.tcp = s.tcp ∧ u.time = s.time ∧
    u.swage = s.swage ∧ u.isl = s.isl ∧ u.sch = s.sch ∧ u.otp = s.otp ∧ u.vault = s.vault ∧ u.emp = s.emp ∧
    u.tap = s.tap ∧ u.ext = s.ext ∧ u.served = s.served ∧ u.free = s.free ∧ u.pending = s.pending) _ ?_ _ _ (by simp [hs6])
         intro u v hu
         try dsimp only
         repeat' split
         all_goals simpa using hu)
  clear_value s7 s6
  repeat' split
  all_goals first
    | (simp [hs7]; done)
    | (refine forAll_inv (fun u : State =>
    u.img = s.img ∧ u.flash = s.flash ∧ u.ctrsAt = s.ctrsAt ∧ u.attn = s.attn ∧ u.partnerLog = s.partnerLog ∧
    u.bbx = s.bbx ∧ u.sens = s.sens ∧ u.panel = s.panel ∧ u.cages = s.cages ∧ u.tcp = s.tcp ∧ u.time = s.time ∧
    u.swage = s.swage ∧ u.isl = s.isl ∧ u.sch = s.sch ∧ u.otp = s.otp ∧ u.vault = s.vault ∧ u.emp = s.emp ∧
    u.tap = s.tap ∧ u.ext = s.ext ∧ u.served = s.served ∧ u.free = s.free ∧ u.pending = s.pending) _ ?_ _ _ (by simp [hs7])
       intro u v hu
       try dsimp only
       repeat' split
       all_goals simpa using hu)

@[simp] theorem State.oscUpdate_frame (s : State) (k : Nat) (u : Ns) :
    (State.oscUpdate s k u).img = s.img ∧ (State.oscUpdate s k u).flash = s.flash ∧
    (State.oscUpdate s k u).ctrsAt = s.ctrsAt ∧ (State.oscUpdate s k u).attn = s.attn ∧
    (State.oscUpdate s k u).partnerLog = s.partnerLog ∧ (State.oscUpdate s k u).bbx = s.bbx ∧
    (State.oscUpdate s k u).sens = s.sens ∧ (State.oscUpdate s k u).panel = s.panel ∧
    (State.oscUpdate s k u).cages = s.cages ∧ (State.oscUpdate s k u).tcp = s.tcp ∧
    (State.oscUpdate s k u).time = s.time ∧ (State.oscUpdate s k u).swage = s.swage ∧
    (State.oscUpdate s k u).isl = s.isl ∧ (State.oscUpdate s k u).sch = s.sch ∧ (State.oscUpdate s k u).otp = s.otp ∧
    (State.oscUpdate s k u).vault = s.vault ∧ (State.oscUpdate s k u).emp = s.emp ∧ (State.oscUpdate s k u).tap = s.tap ∧
    (State.oscUpdate s k u).ext = s.ext ∧ (State.oscUpdate s k u).served = s.served ∧
    (State.oscUpdate s k u).free = s.free ∧ (State.oscUpdate s k u).pending = s.pending := by
  simp [State.oscUpdate]

@[simp] theorem State.locResult_frame (s : State) (l : Nat) :
    (State.locResult s l).img = s.img ∧ (State.locResult s l).flash = s.flash ∧ (State.locResult s l).ctrsAt = s.ctrsAt ∧
    (State.locResult s l).attn = s.attn ∧ (State.locResult s l).partnerLog = s.partnerLog ∧
    (State.locResult s l).bbx = s.bbx ∧ (State.locResult s l).sens = s.sens ∧ (State.locResult s l).panel = s.panel ∧
    (State.locResult s l).ports = s.ports ∧ (State.locResult s l).cages = s.cages ∧ (State.locResult s l).tcp = s.tcp ∧
    (State.locResult s l).time = s.time ∧ (State.locResult s l).swage = s.swage ∧ (State.locResult s l).isl = s.isl ∧
    (State.locResult s l).sch = s.sch ∧ (State.locResult s l).pair = s.pair ∧ (State.locResult s l).otp = s.otp ∧
    (State.locResult s l).vault = s.vault ∧ (State.locResult s l).emp = s.emp ∧ (State.locResult s l).tap = s.tap ∧
    (State.locResult s l).ext = s.ext ∧ (State.locResult s l).served = s.served ∧ (State.locResult s l).free = s.free ∧
    (State.locResult s l).pending = s.pending := by
  unfold State.locResult
  try dsimp only
  repeat' split
  all_goals simp

end Sys2Proof.Machine
end

