-- ==== Sys2Proof/Laws/FrameIsland.lean ====
section
/-! SUPPORT. What each operation of Machine/Island.lean leaves unchanged: one frame lemma per operation. -/

namespace Sys2Proof.Machine

@[simp] theorem State.branchStep_frame (s : State) (g : GroupSet) (b : Nat) :
    (State.branchStep s g b).img = s.img ∧ (State.branchStep s g b).flash = s.flash ∧
    (State.branchStep s g b).ctrsAt = s.ctrsAt ∧ (State.branchStep s g b).attn = s.attn ∧
    (State.branchStep s g b).partnerLog = s.partnerLog ∧ (State.branchStep s g b).bbx = s.bbx ∧
    (State.branchStep s g b).sens = s.sens ∧ (State.branchStep s g b).panel = s.panel ∧
    (State.branchStep s g b).ports = s.ports ∧ (State.branchStep s g b).cages = s.cages ∧
    (State.branchStep s g b).tcp = s.tcp ∧ (State.branchStep s g b).streams = s.streams ∧
    (State.branchStep s g b).time = s.time ∧ (State.branchStep s g b).align = s.align ∧
    (State.branchStep s g b).swage = s.swage ∧ (State.branchStep s g b).osc = s.osc ∧
    (State.branchStep s g b).sch = s.sch ∧ (State.branchStep s g b).logic = s.logic ∧
    (State.branchStep s g b).cap = s.cap ∧ (State.branchStep s g b).pub = s.pub ∧
    (State.branchStep s g b).pair = s.pair ∧ (State.branchStep s g b).otp = s.otp ∧
    (State.branchStep s g b).vault = s.vault ∧ (State.branchStep s g b).emp = s.emp ∧
    (State.branchStep s g b).tap = s.tap ∧ (State.branchStep s g b).ext = s.ext ∧
    (State.branchStep s g b).served = s.served ∧ (State.branchStep s g b).free = s.free ∧
    (State.branchStep s g b).pending = s.pending := by
  unfold State.branchStep
  try dsimp only
  repeat' split
  all_goals simp

@[simp] theorem State.setCoh_frame (s : State) (i : Nat) (p : PairCoh) :
    (State.setCoh s i p).boot = s.boot ∧ (State.setCoh s i p).img = s.img ∧ (State.setCoh s i p).flash = s.flash ∧
    (State.setCoh s i p).ctrs = s.ctrs ∧ (State.setCoh s i p).ctrsAt = s.ctrsAt ∧ (State.setCoh s i p).attn = s.attn ∧
    (State.setCoh s i p).partnerLog = s.partnerLog ∧ (State.setCoh s i p).bbx = s.bbx ∧
    (State.setCoh s i p).sens = s.sens ∧ (State.setCoh s i p).panel = s.panel ∧ (State.setCoh s i p).ports = s.ports ∧
    (State.setCoh s i p).cages = s.cages ∧ (State.setCoh s i p).tcp = s.tcp ∧ (State.setCoh s i p).streams = s.streams ∧
    (State.setCoh s i p).time = s.time ∧ (State.setCoh s i p).align = s.align ∧ (State.setCoh s i p).swage = s.swage ∧
    (State.setCoh s i p).osc = s.osc ∧ (State.setCoh s i p).sch = s.sch ∧ (State.setCoh s i p).logic = s.logic ∧
    (State.setCoh s i p).cap = s.cap ∧ (State.setCoh s i p).pub = s.pub ∧ (State.setCoh s i p).pair = s.pair ∧
    (State.setCoh s i p).otp = s.otp ∧ (State.setCoh s i p).vault = s.vault ∧ (State.setCoh s i p).emp = s.emp ∧
    (State.setCoh s i p).tap = s.tap ∧ (State.setCoh s i p).ext = s.ext ∧ (State.setCoh s i p).served = s.served ∧
    (State.setCoh s i p).free = s.free ∧ (State.setCoh s i p).pending = s.pending := by
  simp [State.setCoh]

@[simp] theorem State.pairStep_frame (s : State) (i : Nat) (t : Ns) (v : Word × Word × Word × Word) :
    (State.pairStep s i t v).img = s.img ∧ (State.pairStep s i t v).flash = s.flash ∧
    (State.pairStep s i t v).ctrsAt = s.ctrsAt ∧ (State.pairStep s i t v).attn = s.attn ∧
    (State.pairStep s i t v).partnerLog = s.partnerLog ∧ (State.pairStep s i t v).bbx = s.bbx ∧
    (State.pairStep s i t v).sens = s.sens ∧ (State.pairStep s i t v).panel = s.panel ∧
    (State.pairStep s i t v).ports = s.ports ∧ (State.pairStep s i t v).cages = s.cages ∧
    (State.pairStep s i t v).tcp = s.tcp ∧ (State.pairStep s i t v).streams = s.streams ∧
    (State.pairStep s i t v).time = s.time ∧ (State.pairStep s i t v).align = s.align ∧
    (State.pairStep s i t v).swage = s.swage ∧ (State.pairStep s i t v).osc = s.osc ∧
    (State.pairStep s i t v).sch = s.sch ∧ (State.pairStep s i t v).logic = s.logic ∧
    (State.pairStep s i t v).cap = s.cap ∧ (State.pairStep s i t v).pub = s.pub ∧
    (State.pairStep s i t v).pair = s.pair ∧ (State.pairStep s i t v).otp = s.otp ∧
    (State.pairStep s i t v).vault = s.vault ∧ (State.pairStep s i t v).emp = s.emp ∧
    (State.pairStep s i t v).tap = s.tap ∧ (State.pairStep s i t v).ext = s.ext ∧
    (State.pairStep s i t v).served = s.served ∧ (State.pairStep s i t v).free = s.free ∧
    (State.pairStep s i t v).pending = s.pending := by
  unfold State.pairStep
  try dsimp only
  repeat' split
  all_goals simp

@[simp] theorem State.pairGap_frame (s : State) (i : Nat) (t : Ns) :
    (State.pairGap s i t).boot = s.boot ∧ (State.pairGap s i t).img = s.img ∧ (State.pairGap s i t).flash = s.flash ∧
    (State.pairGap s i t).ctrsAt = s.ctrsAt ∧ (State.pairGap s i t).attn = s.attn ∧
    (State.pairGap s i t).partnerLog = s.partnerLog ∧ (State.pairGap s i t).bbx = s.bbx ∧
    (State.pairGap s i t).sens = s.sens ∧ (State.pairGap s i t).panel = s.panel ∧ (State.pairGap s i t).ports = s.ports ∧
    (State.pairGap s i t).cages = s.cages ∧ (State.pairGap s i t).tcp = s.tcp ∧
    (State.pairGap s i t).streams = s.streams ∧ (State.pairGap s i t).time = s.time ∧
    (State.pairGap s i t).align = s.align ∧ (State.pairGap s i t).swage = s.swage ∧ (State.pairGap s i t).osc = s.osc ∧
    (State.pairGap s i t).sch = s.sch ∧ (State.pairGap s i t).logic = s.logic ∧ (State.pairGap s i t).cap = s.cap ∧
    (State.pairGap s i t).pub = s.pub ∧ (State.pairGap s i t).pair = s.pair ∧ (State.pairGap s i t).otp = s.otp ∧
    (State.pairGap s i t).vault = s.vault ∧ (State.pairGap s i t).emp = s.emp ∧ (State.pairGap s i t).tap = s.tap ∧
    (State.pairGap s i t).ext = s.ext ∧ (State.pairGap s i t).served = s.served ∧ (State.pairGap s i t).free = s.free ∧
    (State.pairGap s i t).pending = s.pending := by
  unfold State.pairGap
  split <;> simp

@[simp] theorem State.pairEval_frame (s : State) (before sets : List GroupSet) (tags : List Ns) (tag : Ns) (e : Nat × Nat × Nat) :
    (State.pairEval s before sets tags tag e).img = s.img ∧ (State.pairEval s before sets tags tag e).flash = s.flash ∧
    (State.pairEval s before sets tags tag e).ctrsAt = s.ctrsAt ∧
    (State.pairEval s before sets tags tag e).attn = s.attn ∧
    (State.pairEval s before sets tags tag e).partnerLog = s.partnerLog ∧
    (State.pairEval s before sets tags tag e).bbx = s.bbx ∧ (State.pairEval s before sets tags tag e).sens = s.sens ∧
    (State.pairEval s before sets tags tag e).panel = s.panel ∧
    (State.pairEval s before sets tags tag e).ports = s.ports ∧
    (State.pairEval s before sets tags tag e).cages = s.cages ∧ (State.pairEval s before sets tags tag e).tcp = s.tcp ∧
    (State.pairEval s before sets tags tag e).streams = s.streams ∧
    (State.pairEval s before sets tags tag e).time = s.time ∧ (State.pairEval s before sets tags tag e).align = s.align ∧
    (State.pairEval s before sets tags tag e).swage = s.swage ∧ (State.pairEval s before sets tags tag e).osc = s.osc ∧
    (State.pairEval s before sets tags tag e).sch = s.sch ∧ (State.pairEval s before sets tags tag e).logic = s.logic ∧
    (State.pairEval s before sets tags tag e).cap = s.cap ∧ (State.pairEval s before sets tags tag e).pub = s.pub ∧
    (State.pairEval s before sets tags tag e).pair = s.pair ∧ (State.pairEval s before sets tags tag e).otp = s.otp ∧
    (State.pairEval s before sets tags tag e).vault = s.vault ∧ (State.pairEval s before sets tags tag e).emp = s.emp ∧
    (State.pairEval s before sets tags tag e).tap = s.tap ∧ (State.pairEval s before sets tags tag e).ext = s.ext ∧
    (State.pairEval s before sets tags tag e).served = s.served ∧
    (State.pairEval s before sets tags tag e).free = s.free ∧
    (State.pairEval s before sets tags tag e).pending = s.pending := by
  unfold State.pairEval
  try dsimp only
  repeat' split
  all_goals (try simp)
  all_goals (repeat' apply And.intro)
  all_goals (first | rfl | (simp; done) | (first | refine (forAll_img _ _ _ ?_).trans ?_ | refine (forAll_flash _ _ _ ?_).trans ?_ | refine (forAll_ctrsAt _ _ _ ?_).trans ?_ | refine (forAll_attn _ _ _ ?_).trans ?_ | refine (forAll_partnerLog _ _ _ ?_).trans ?_ | refine (forAll_bbx _ _ _ ?_).trans ?_ | refine (forAll_sens _ _ _ ?_).trans ?_ | refine (forAll_panel _ _ _ ?_).trans ?_ | refine (forAll_ports _ _ _ ?_).trans ?_ | refine (forAll_cages _ _ _ ?_).trans ?_ | refine (forAll_tcp _ _ _ ?_).trans ?_ | refine (forAll_streams _ _ _ ?_).trans ?_ | refine (forAll_time _ _ _ ?_).trans ?_ | refine (forAll_align _ _ _ ?_).trans ?_ | refine (forAll_swage _ _ _ ?_).trans ?_ | refine (forAll_osc _ _ _ ?_).trans ?_ | refine (forAll_sch _ _ _ ?_).trans ?_ | refine (forAll_logic _ _ _ ?_).trans ?_ | refine (forAll_cap _ _ _ ?_).trans ?_ | refine (forAll_pub _ _ _ ?_).trans ?_ | refine (forAll_pair _ _ _ ?_).trans ?_ | refine (forAll_otp _ _ _ ?_).trans ?_ | refine (forAll_vault _ _ _ ?_).trans ?_ | refine (forAll_emp _ _ _ ?_).trans ?_ | refine (forAll_tap _ _ _ ?_).trans ?_ | refine (forAll_ext _ _ _ ?_).trans ?_ | refine (forAll_served _ _ _ ?_).trans ?_ | refine (forAll_free _ _ _ ?_).trans ?_ | refine (forAll_pending _ _ _ ?_).trans ?_))
  all_goals (first | (simp; done) | (intro s x; (try dsimp only); (repeat' split) <;> simp))

@[simp] theorem State.keyStep_frame (s : State) (tag : Ns) (pairs : List (Nat × Nat × Nat)) (gated : Bool) (k : Nat) (c : List Nat) :
    (State.keyStep s tag pairs gated k c).boot = s.boot ∧ (State.keyStep s tag pairs gated k c).img = s.img ∧
    (State.keyStep s tag pairs gated k c).flash = s.flash ∧ (State.keyStep s tag pairs gated k c).ctrs = s.ctrs ∧
    (State.keyStep s tag pairs gated k c).ctrsAt = s.ctrsAt ∧ (State.keyStep s tag pairs gated k c).attn = s.attn ∧
    (State.keyStep s tag pairs gated k c).partnerLog = s.partnerLog ∧ (State.keyStep s tag pairs gated k c).bbx = s.bbx ∧
    (State.keyStep s tag pairs gated k c).sens = s.sens ∧ (State.keyStep s tag pairs gated k c).panel = s.panel ∧
    (State.keyStep s tag pairs gated k c).ports = s.ports ∧ (State.keyStep s tag pairs gated k c).cages = s.cages ∧
    (State.keyStep s tag pairs gated k c).tcp = s.tcp ∧ (State.keyStep s tag pairs gated k c).streams = s.streams ∧
    (State.keyStep s tag pairs gated k c).time = s.time ∧ (State.keyStep s tag pairs gated k c).align = s.align ∧
    (State.keyStep s tag pairs gated k c).swage = s.swage ∧ (State.keyStep s tag pairs gated k c).osc = s.osc ∧
    (State.keyStep s tag pairs gated k c).sch = s.sch ∧ (State.keyStep s tag pairs gated k c).logic = s.logic ∧
    (State.keyStep s tag pairs gated k c).cap = s.cap ∧ (State.keyStep s tag pairs gated k c).pub = s.pub ∧
    (State.keyStep s tag pairs gated k c).pair = s.pair ∧ (State.keyStep s tag pairs gated k c).otp = s.otp ∧
    (State.keyStep s tag pairs gated k c).vault = s.vault ∧ (State.keyStep s tag pairs gated k c).emp = s.emp ∧
    (State.keyStep s tag pairs gated k c).tap = s.tap ∧ (State.keyStep s tag pairs gated k c).ext = s.ext ∧
    (State.keyStep s tag pairs gated k c).served = s.served ∧ (State.keyStep s tag pairs gated k c).free = s.free ∧
    (State.keyStep s tag pairs gated k c).pending = s.pending := by
  simp [State.keyStep]

@[simp] theorem State.keyIdle_frame (s : State) (tag : Ns) (k : Nat) :
    (State.keyIdle s tag k).boot = s.boot ∧ (State.keyIdle s tag k).img = s.img ∧
    (State.keyIdle s tag k).flash = s.flash ∧ (State.keyIdle s tag k).ctrs = s.ctrs ∧
    (State.keyIdle s tag k).ctrsAt = s.ctrsAt ∧ (State.keyIdle s tag k).attn = s.attn ∧
    (State.keyIdle s tag k).partnerLog = s.partnerLog ∧ (State.keyIdle s tag k).bbx = s.bbx ∧
    (State.keyIdle s tag k).sens = s.sens ∧ (State.keyIdle s tag k).panel = s.panel ∧
    (State.keyIdle s tag k).ports = s.ports ∧ (State.keyIdle s tag k).cages = s.cages ∧
    (State.keyIdle s tag k).tcp = s.tcp ∧ (State.keyIdle s tag k).streams = s.streams ∧
    (State.keyIdle s tag k).time = s.time ∧ (State.keyIdle s tag k).align = s.align ∧
    (State.keyIdle s tag k).swage = s.swage ∧ (State.keyIdle s tag k).osc = s.osc ∧ (State.keyIdle s tag k).sch = s.sch ∧
    (State.keyIdle s tag k).logic = s.logic ∧ (State.keyIdle s tag k).cap = s.cap ∧ (State.keyIdle s tag k).pub = s.pub ∧
    (State.keyIdle s tag k).pair = s.pair ∧ (State.keyIdle s tag k).otp = s.otp ∧
    (State.keyIdle s tag k).vault = s.vault ∧ (State.keyIdle s tag k).emp = s.emp ∧ (State.keyIdle s tag k).tap = s.tap ∧
    (State.keyIdle s tag k).ext = s.ext ∧ (State.keyIdle s tag k).served = s.served ∧
    (State.keyIdle s tag k).free = s.free ∧ (State.keyIdle s tag k).pending = s.pending := by
  simp [State.keyIdle]

@[simp] theorem State.chargeIsl_frame (s : State) (n : Nat) :
    (State.chargeIsl s n).boot = s.boot ∧ (State.chargeIsl s n).img = s.img ∧ (State.chargeIsl s n).flash = s.flash ∧
    (State.chargeIsl s n).ctrs = s.ctrs ∧ (State.chargeIsl s n).ctrsAt = s.ctrsAt ∧ (State.chargeIsl s n).attn = s.attn ∧
    (State.chargeIsl s n).partnerLog = s.partnerLog ∧ (State.chargeIsl s n).bbx = s.bbx ∧
    (State.chargeIsl s n).sens = s.sens ∧ (State.chargeIsl s n).panel = s.panel ∧ (State.chargeIsl s n).ports = s.ports ∧
    (State.chargeIsl s n).cages = s.cages ∧ (State.chargeIsl s n).tcp = s.tcp ∧
    (State.chargeIsl s n).streams = s.streams ∧ (State.chargeIsl s n).time = s.time ∧
    (State.chargeIsl s n).align = s.align ∧ (State.chargeIsl s n).swage = s.swage ∧ (State.chargeIsl s n).osc = s.osc ∧
    (State.chargeIsl s n).isl = s.isl ∧ (State.chargeIsl s n).logic = s.logic ∧ (State.chargeIsl s n).cap = s.cap ∧
    (State.chargeIsl s n).pub = s.pub ∧ (State.chargeIsl s n).pair = s.pair ∧ (State.chargeIsl s n).otp = s.otp ∧
    (State.chargeIsl s n).vault = s.vault ∧ (State.chargeIsl s n).emp = s.emp ∧ (State.chargeIsl s n).tap = s.tap ∧
    (State.chargeIsl s n).ext = s.ext ∧ (State.chargeIsl s n).served = s.served ∧ (State.chargeIsl s n).free = s.free ∧
    (State.chargeIsl s n).pending = s.pending := by
  unfold State.chargeIsl
  split <;> simp

@[simp] theorem State.raiseIsl_frame (s : State) (r : IslRec) (e : Event) :
    (State.raiseIsl s r e).boot = s.boot ∧ (State.raiseIsl s r e).img = s.img ∧ (State.raiseIsl s r e).flash = s.flash ∧
    (State.raiseIsl s r e).ctrs = s.ctrs ∧ (State.raiseIsl s r e).ctrsAt = s.ctrsAt ∧
    (State.raiseIsl s r e).attn = s.attn ∧ (State.raiseIsl s r e).partnerLog = s.partnerLog ∧
    (State.raiseIsl s r e).bbx = s.bbx ∧ (State.raiseIsl s r e).sens = s.sens ∧ (State.raiseIsl s r e).panel = s.panel ∧
    (State.raiseIsl s r e).ports = s.ports ∧ (State.raiseIsl s r e).cages = s.cages ∧
    (State.raiseIsl s r e).tcp = s.tcp ∧ (State.raiseIsl s r e).time = s.time ∧ (State.raiseIsl s r e).align = s.align ∧
    (State.raiseIsl s r e).swage = s.swage ∧ (State.raiseIsl s r e).osc = s.osc ∧ (State.raiseIsl s r e).pair = s.pair ∧
    (State.raiseIsl s r e).otp = s.otp ∧ (State.raiseIsl s r e).vault = s.vault ∧ (State.raiseIsl s r e).emp = s.emp ∧
    (State.raiseIsl s r e).tap = s.tap ∧ (State.raiseIsl s r e).ext = s.ext ∧ (State.raiseIsl s r e).served = s.served ∧
    (State.raiseIsl s r e).free = s.free ∧ (State.raiseIsl s r e).pending = s.pending := by
  simp [State.raiseIsl]

@[simp] theorem State.copyIsl_frame (s : State) :
    (State.copyIsl s).boot = s.boot ∧ (State.copyIsl s).img = s.img ∧ (State.copyIsl s).flash = s.flash ∧
    (State.copyIsl s).ctrs = s.ctrs ∧ (State.copyIsl s).ctrsAt = s.ctrsAt ∧ (State.copyIsl s).attn = s.attn ∧
    (State.copyIsl s).partnerLog = s.partnerLog ∧ (State.copyIsl s).bbx = s.bbx ∧ (State.copyIsl s).sens = s.sens ∧
    (State.copyIsl s).panel = s.panel ∧ (State.copyIsl s).ports = s.ports ∧ (State.copyIsl s).cages = s.cages ∧
    (State.copyIsl s).tcp = s.tcp ∧ (State.copyIsl s).streams = s.streams ∧ (State.copyIsl s).time = s.time ∧
    (State.copyIsl s).align = s.align ∧ (State.copyIsl s).swage = s.swage ∧ (State.copyIsl s).osc = s.osc ∧
    (State.copyIsl s).logic = s.logic ∧ (State.copyIsl s).cap = s.cap ∧ (State.copyIsl s).pub = s.pub ∧
    (State.copyIsl s).pair = s.pair ∧ (State.copyIsl s).otp = s.otp ∧ (State.copyIsl s).vault = s.vault ∧
    (State.copyIsl s).emp = s.emp ∧ (State.copyIsl s).tap = s.tap ∧ (State.copyIsl s).ext = s.ext ∧
    (State.copyIsl s).served = s.served ∧ (State.copyIsl s).free = s.free ∧ (State.copyIsl s).pending = s.pending := by
  simp [State.copyIsl]

@[simp] theorem State.putIsl_frame (s : State) (slot : Nat) (r : IslRec) :
    (State.putIsl s slot r).boot = s.boot ∧ (State.putIsl s slot r).img = s.img ∧
    (State.putIsl s slot r).flash = s.flash ∧ (State.putIsl s slot r).ctrs = s.ctrs ∧
    (State.putIsl s slot r).ctrsAt = s.ctrsAt ∧ (State.putIsl s slot r).attn = s.attn ∧
    (State.putIsl s slot r).partnerLog = s.partnerLog ∧ (State.putIsl s slot r).bbx = s.bbx ∧
    (State.putIsl s slot r).sens = s.sens ∧ (State.putIsl s slot r).panel = s.panel ∧
    (State.putIsl s slot r).ports = s.ports ∧ (State.putIsl s slot r).cages = s.cages ∧
    (State.putIsl s slot r).tcp = s.tcp ∧ (State.putIsl s slot r).streams = s.streams ∧
    (State.putIsl s slot r).time = s.time ∧ (State.putIsl s slot r).align = s.align ∧
    (State.putIsl s slot r).swage = s.swage ∧ (State.putIsl s slot r).osc = s.osc ∧ (State.putIsl s slot r).sch = s.sch ∧
    (State.putIsl s slot r).logic = s.logic ∧ (State.putIsl s slot r).cap = s.cap ∧ (State.putIsl s slot r).pub = s.pub ∧
    (State.putIsl s slot r).pair = s.pair ∧ (State.putIsl s slot r).otp = s.otp ∧
    (State.putIsl s slot r).vault = s.vault ∧ (State.putIsl s slot r).emp = s.emp ∧ (State.putIsl s slot r).tap = s.tap ∧
    (State.putIsl s slot r).ext = s.ext ∧ (State.putIsl s slot r).served = s.served ∧
    (State.putIsl s slot r).free = s.free ∧ (State.putIsl s slot r).pending = s.pending := by
  simp [State.putIsl]

@[simp] theorem State.putIslOut_frame (s : State) (slot : Nat) (r : IslRec) :
    (State.putIslOut s slot r).boot = s.boot ∧ (State.putIslOut s slot r).img = s.img ∧
    (State.putIslOut s slot r).flash = s.flash ∧ (State.putIslOut s slot r).ctrs = s.ctrs ∧
    (State.putIslOut s slot r).ctrsAt = s.ctrsAt ∧ (State.putIslOut s slot r).attn = s.attn ∧
    (State.putIslOut s slot r).partnerLog = s.partnerLog ∧ (State.putIslOut s slot r).bbx = s.bbx ∧
    (State.putIslOut s slot r).sens = s.sens ∧ (State.putIslOut s slot r).panel = s.panel ∧
    (State.putIslOut s slot r).ports = s.ports ∧ (State.putIslOut s slot r).cages = s.cages ∧
    (State.putIslOut s slot r).tcp = s.tcp ∧ (State.putIslOut s slot r).streams = s.streams ∧
    (State.putIslOut s slot r).time = s.time ∧ (State.putIslOut s slot r).swage = s.swage ∧
    (State.putIslOut s slot r).osc = s.osc ∧ (State.putIslOut s slot r).isl = s.isl ∧
    (State.putIslOut s slot r).sch = s.sch ∧ (State.putIslOut s slot r).logic = s.logic ∧
    (State.putIslOut s slot r).cap = s.cap ∧ (State.putIslOut s slot r).pub = s.pub ∧
    (State.putIslOut s slot r).pair = s.pair ∧ (State.putIslOut s slot r).otp = s.otp ∧
    (State.putIslOut s slot r).vault = s.vault ∧ (State.putIslOut s slot r).emp = s.emp ∧
    (State.putIslOut s slot r).tap = s.tap ∧ (State.putIslOut s slot r).ext = s.ext ∧
    (State.putIslOut s slot r).served = s.served ∧ (State.putIslOut s slot r).free = s.free ∧
    (State.putIslOut s slot r).pending = s.pending := by
  simp [State.putIslOut]

@[simp] theorem State.withdraw_frame (s : State) (slot cause : Nat) (tag : Ns) :
    (State.withdraw s slot cause tag).boot = s.boot ∧ (State.withdraw s slot cause tag).img = s.img ∧
    (State.withdraw s slot cause tag).flash = s.flash ∧ (State.withdraw s slot cause tag).ctrsAt = s.ctrsAt ∧
    (State.withdraw s slot cause tag).partnerLog = s.partnerLog ∧ (State.withdraw s slot cause tag).bbx = s.bbx ∧
    (State.withdraw s slot cause tag).sens = s.sens ∧ (State.withdraw s slot cause tag).panel = s.panel ∧
    (State.withdraw s slot cause tag).cages = s.cages ∧ (State.withdraw s slot cause tag).tcp = s.tcp ∧
    (State.withdraw s slot cause tag).time = s.time ∧ (State.withdraw s slot cause tag).swage = s.swage ∧
    (State.withdraw s slot cause tag).osc = s.osc ∧ (State.withdraw s slot cause tag).otp = s.otp ∧
    (State.withdraw s slot cause tag).vault = s.vault ∧ (State.withdraw s slot cause tag).emp = s.emp ∧
    (State.withdraw s slot cause tag).tap = s.tap ∧ (State.withdraw s slot cause tag).ext = s.ext ∧
    (State.withdraw s slot cause tag).served = s.served ∧ (State.withdraw s slot cause tag).free = s.free ∧
    (State.withdraw s slot cause tag).pending = s.pending := by
  unfold State.withdraw
  split <;> simp

@[simp] theorem State.islMatch_frame (s : State) (sets : List GroupSet) (mainFreqs : List Word) (tag : Ns) (found : List Found) :
    (State.islMatch s sets mainFreqs tag found).boot = s.boot ∧ (State.islMatch s sets mainFreqs tag found).img = s.img ∧
    (State.islMatch s sets mainFreqs tag found).flash = s.flash ∧
    (State.islMatch s sets mainFreqs tag found).ctrsAt = s.ctrsAt ∧
    (State.islMatch s sets mainFreqs tag found).partnerLog = s.partnerLog ∧
    (State.islMatch s sets mainFreqs tag found).bbx = s.bbx ∧ (State.islMatch s sets mainFreqs tag found).sens = s.sens ∧
    (State.islMatch s sets mainFreqs tag found).panel = s.panel ∧
    (State.islMatch s sets mainFreqs tag found).cages = s.cages ∧
    (State.islMatch s sets mainFreqs tag found).tcp = s.tcp ∧ (State.islMatch s sets mainFreqs tag found).time = s.time ∧
    (State.islMatch s sets mainFreqs tag found).swage = s.swage ∧
    (State.islMatch s sets mainFreqs tag found).osc = s.osc ∧ (State.islMatch s sets mainFreqs tag found).otp = s.otp ∧
    (State.islMatch s sets mainFreqs tag found).vault = s.vault ∧
    (State.islMatch s sets mainFreqs tag found).emp = s.emp ∧ (State.islMatch s sets mainFreqs tag found).tap = s.tap ∧
    (State.islMatch s sets mainFreqs tag found).ext = s.ext ∧
    (State.islMatch s sets mainFreqs tag found).served = s.served ∧
    (State.islMatch s sets mainFreqs tag found).free = s.free ∧
    (State.islMatch s sets mainFreqs tag found).pending = s.pending := by
  unfold State.islMatch
  extract_lets ds0 m1 merged2 kept3 gone4 s5 cont6 graded7 s8 s9
  have hs5 :
    s5.boot = s.boot ∧ s5.img = s.img ∧ s5.flash = s.flash ∧ s5.ctrsAt = s.ctrsAt ∧ s5.partnerLog = s.partnerLog ∧
    s5.bbx = s.bbx ∧ s5.sens = s.sens ∧ s5.panel = s.panel ∧ s5.cages = s.cages ∧ s5.tcp = s.tcp ∧ s5.time = s.time ∧
    s5.swage = s.swage ∧ s5.osc = s.osc ∧ s5.otp = s.otp ∧ s5.vault = s.vault ∧ s5.emp = s.emp ∧ s5.tap = s.tap ∧
    s5.ext = s.ext ∧ s5.served = s.served ∧ s5.free = s.free ∧ s5.pending = s.pending := by
    simp only [s5]
    first
      | (simp; done)
      | (split <;> simp; done)
      | (refine forAll_inv (fun u : State =>
    u.boot = s.boot ∧ u.img = s.img ∧ u.flash = s.flash ∧ u.ctrsAt = s.ctrsAt ∧ u.partnerLog = s.partnerLog ∧
    u.bbx = s.bbx ∧ u.sens = s.sens ∧ u.panel = s.panel ∧ u.cages = s.cages ∧ u.tcp = s.tcp ∧ u.time = s.time ∧
    u.swage = s.swage ∧ u.osc = s.osc ∧ u.otp = s.otp ∧ u.vault = s.vault ∧ u.emp = s.emp ∧ u.tap = s.tap ∧
    u.ext = s.ext ∧ u.served = s.served ∧ u.free = s.free ∧ u.pending = s.pending) _ ?_ _ _ (by simp)
         intro u v hu
         try dsimp only
         repeat' split
         all_goals simpa using hu)
  have hs8 :
    s8.boot = s.boot ∧ s8.img = s.img ∧ s8.flash = s.flash ∧ s8.ctrsAt = s.ctrsAt ∧ s8.partnerLog = s.partnerLog ∧
    s8.bbx = s.bbx ∧ s8.sens = s.sens ∧ s8.panel = s.panel ∧ s8.cages = s.cages ∧ s8.tcp = s.tcp ∧ s8.time = s.time ∧
    s8.swage = s.swage ∧ s8.osc = s.osc ∧ s8.otp = s.otp ∧ s8.vault = s.vault ∧ s8.emp = s.emp ∧ s8.tap = s.tap ∧
    s8.ext = s.ext ∧ s8.served = s.served ∧ s8.free = s.free ∧ s8.pending = s.pending := by
    simp only [s8]
    first
      | (simp [hs5]; done)
      | (split <;> simp [hs5]; done)
      | (refine forAll_inv (fun u : State =>
    u.boot = s.boot ∧ u.img = s.img ∧ u.flash = s.flash ∧ u.ctrsAt = s.ctrsAt ∧ u.partnerLog = s.partnerLog ∧
    u.bbx = s.bbx ∧ u.sens = s.sens ∧ u.panel = s.panel ∧ u.cages = s.cages ∧ u.tcp = s.tcp ∧ u.time = s.time ∧
    u.swage = s.swage ∧ u.osc = s.osc ∧ u.otp = s.otp ∧ u.vault = s.vault ∧ u.emp = s.emp ∧ u.tap = s.tap ∧
    u.ext = s.ext ∧ u.served = s.served ∧ u.free = s.free ∧ u.pending = s.pending) _ ?_ _ _ (by simp [hs5])
         intro u v hu
         try dsimp only
         repeat' split
         all_goals simpa using hu)
  have hs9 :
    s9.boot = s.boot ∧ s9.img = s.img ∧ s9.flash = s.flash ∧ s9.ctrsAt = s.ctrsAt ∧ s9.partnerLog = s.partnerLog ∧
    s9.bbx = s.bbx ∧ s9.sens = s.sens ∧ s9.panel = s.panel ∧ s9.cages = s.cages ∧ s9.tcp = s.tcp ∧ s9.time = s.time ∧
    s9.swage = s.swage ∧ s9.osc = s.osc ∧ s9.otp = s.otp ∧ s9.vault = s.vault ∧ s9.emp = s.emp ∧ s9.tap = s.tap ∧
    s9.ext = s.ext ∧ s9.served = s.served ∧ s9.free = s.free ∧ s9.pending = s.pending := by
    simp only [s9]
    first
      | (simp [hs8]; done)
      | (split <;> simp [hs8]; done)
      | (refine forAll_inv (fun u : State =>
    u.boot = s.boot ∧ u.img = s.img ∧ u.flash = s.flash ∧ u.ctrsAt = s.ctrsAt ∧ u.partnerLog = s.partnerLog ∧
    u.bbx = s.bbx ∧ u.sens = s.sens ∧ u.panel = s.panel ∧ u.cages = s.cages ∧ u.tcp = s.tcp ∧ u.time = s.time ∧
    u.swage = s.swage ∧ u.osc = s.osc ∧ u.otp = s.otp ∧ u.vault = s.vault ∧ u.emp = s.emp ∧ u.tap = s.tap ∧
    u.ext = s.ext ∧ u.served = s.served ∧ u.free = s.free ∧ u.pending = s.pending) _ ?_ _ _ (by simp [hs8])
         intro u v hu
         try dsimp only
         repeat' split
         all_goals simpa using hu)
  clear_value s9 s8 s5
  repeat' split
  all_goals first
    | (simp [hs9]; done)
    | (refine forAll_inv (fun u : State =>
    u.boot = s.boot ∧ u.img = s.img ∧ u.flash = s.flash ∧ u.ctrsAt = s.ctrsAt ∧ u.partnerLog = s.partnerLog ∧
    u.bbx = s.bbx ∧ u.sens = s.sens ∧ u.panel = s.panel ∧ u.cages = s.cages ∧ u.tcp = s.tcp ∧ u.time = s.time ∧
    u.swage = s.swage ∧ u.osc = s.osc ∧ u.otp = s.otp ∧ u.vault = s.vault ∧ u.emp = s.emp ∧ u.tap = s.tap ∧
    u.ext = s.ext ∧ u.served = s.served ∧ u.free = s.free ∧ u.pending = s.pending) _ ?_ _ _ (by simp [hs9])
       intro u v hu
       try dsimp only
       repeat' split
       all_goals simpa using hu)

@[simp] theorem State.adoptIsl_frame (s : State) :
    (s.adoptIsl).boot = s.boot ∧ (s.adoptIsl).img = s.img ∧ (s.adoptIsl).flash = s.flash ∧
    (s.adoptIsl).ctrsAt = s.ctrsAt ∧ (s.adoptIsl).attn = s.attn ∧ (s.adoptIsl).partnerLog = s.partnerLog ∧
    (s.adoptIsl).bbx = s.bbx ∧ (s.adoptIsl).sens = s.sens ∧ (s.adoptIsl).panel = s.panel ∧ (s.adoptIsl).cages = s.cages ∧
    (s.adoptIsl).tcp = s.tcp ∧ (s.adoptIsl).streams = s.streams ∧ (s.adoptIsl).time = s.time ∧
    (s.adoptIsl).align = s.align ∧ (s.adoptIsl).swage = s.swage ∧ (s.adoptIsl).osc = s.osc ∧ (s.adoptIsl).sch = s.sch ∧
    (s.adoptIsl).logic = s.logic ∧ (s.adoptIsl).cap = s.cap ∧ (s.adoptIsl).pub = s.pub ∧ (s.adoptIsl).otp = s.otp ∧
    (s.adoptIsl).vault = s.vault ∧ (s.adoptIsl).emp = s.emp ∧ (s.adoptIsl).tap = s.tap ∧ (s.adoptIsl).ext = s.ext ∧
    (s.adoptIsl).served = s.served ∧ (s.adoptIsl).free = s.free ∧ (s.adoptIsl).pending = s.pending := by
  let P : State → Prop := (fun u : State =>
    u.boot = s.boot ∧ u.img = s.img ∧ u.flash = s.flash ∧ u.ctrsAt = s.ctrsAt ∧ u.attn = s.attn ∧
    u.partnerLog = s.partnerLog ∧ u.bbx = s.bbx ∧ u.sens = s.sens ∧ u.panel = s.panel ∧ u.cages = s.cages ∧
    u.tcp = s.tcp ∧ u.streams = s.streams ∧ u.time = s.time ∧ u.align = s.align ∧ u.swage = s.swage ∧ u.osc = s.osc ∧
    u.sch = s.sch ∧ u.logic = s.logic ∧ u.cap = s.cap ∧ u.pub = s.pub ∧ u.otp = s.otp ∧ u.vault = s.vault ∧
    u.emp = s.emp ∧ u.tap = s.tap ∧ u.ext = s.ext ∧ u.served = s.served ∧ u.free = s.free ∧ u.pending = s.pending)
  have h0 : P s := by simp [P]
  have h : P (s.adoptIsl) := by
    unfold State.adoptIsl
    split
    · exact h0
    · extract_lets ms differ
      split
      · exact h0
      · refine (fun {x : State} (hx : P x) => (by simpa [P] using hx : P (x.bump (ck1 .resyncs 6)))) ?_
        refine forAll_inv P _ (fun u w hu => ?_) _ _ h0
        split
        · simpa [P] using hu
        · exact hu
  exact h


@[simp] theorem State.islEvaluate_frame (s : State) (n : Nat) :
    (s.islEvaluate n).img = s.img ∧ (s.islEvaluate n).flash = s.flash ∧ (s.islEvaluate n).ctrsAt = s.ctrsAt ∧
    (s.islEvaluate n).partnerLog = s.partnerLog ∧ (s.islEvaluate n).bbx = s.bbx ∧ (s.islEvaluate n).sens = s.sens ∧
    (s.islEvaluate n).panel = s.panel ∧ (s.islEvaluate n).cages = s.cages ∧ (s.islEvaluate n).tcp = s.tcp ∧
    (s.islEvaluate n).time = s.time ∧ (s.islEvaluate n).swage = s.swage ∧ (s.islEvaluate n).osc = s.osc ∧
    (s.islEvaluate n).otp = s.otp ∧ (s.islEvaluate n).vault = s.vault ∧ (s.islEvaluate n).emp = s.emp ∧
    (s.islEvaluate n).tap = s.tap ∧ (s.islEvaluate n).ext = s.ext ∧ (s.islEvaluate n).served = s.served ∧
    (s.islEvaluate n).free = s.free ∧ (s.islEvaluate n).pending = s.pending := by
  let P : State → Prop := (fun u : State =>
    u.img = s.img ∧ u.flash = s.flash ∧ u.ctrsAt = s.ctrsAt ∧ u.partnerLog = s.partnerLog ∧ u.bbx = s.bbx ∧
    u.sens = s.sens ∧ u.panel = s.panel ∧ u.cages = s.cages ∧ u.tcp = s.tcp ∧ u.time = s.time ∧ u.swage = s.swage ∧
    u.osc = s.osc ∧ u.otp = s.otp ∧ u.vault = s.vault ∧ u.emp = s.emp ∧ u.tap = s.tap ∧ u.ext = s.ext ∧
    u.served = s.served ∧ u.free = s.free ∧ u.pending = s.pending)
  have h0 : P s := by simp [P]
  have h : P (s.islEvaluate n) := by
    unfold State.islEvaluate
    extract_lets s1 h covered tag before pool s2 status s3 comps tags s4 known part clusters main cands gated s5 s6 mainFreqs z1 s7 s8 s9 keep z2 s10 slots
    have h1 : P s1 := by simpa [P, s1] using h0
    have h2 : P s2 := by simpa [P, s2] using h1
    have h3 : P s3 := forAll_inv P _ (fun u v hu => forAll_inv P _ (fun u w hu => by simpa [P] using hu) _ _ hu) _ _ h2
    have h4 : P s4 := forAll_inv P _ (fun u v hu => by simpa [P] using hu) _ _ h3
    have h5 : P s5 := forAll_inv P _ (fun u v hu => by simpa [P] using hu) _ _ h4
    have h6 : P s6 := forAll_inv P _ (fun u v hu => by simpa [P] using hu) _ _ h5
    have h7 : P s7 := h6
    clear_value s6 z1
    have h8 : P s8 := by
      simp only [s8]
      clear_value s7
      simpa [P] using h7
    clear_value s8
    have h9 : P s9 := by simpa [P, s9] using h8
    clear_value s9
    have h10 : P s10 := by simpa [P, s10] using h9
    exact forAll_inv P _ (fun u v hu => by simpa [P] using hu) _ _ h10
  exact h


@[simp] theorem State.handSet_frame (s : State) (gs : GroupSet) :
    (State.handSet s gs).boot = s.boot ∧ (State.handSet s gs).img = s.img ∧ (State.handSet s gs).flash = s.flash ∧
    (State.handSet s gs).ctrsAt = s.ctrsAt ∧ (State.handSet s gs).attn = s.attn ∧
    (State.handSet s gs).partnerLog = s.partnerLog ∧ (State.handSet s gs).bbx = s.bbx ∧
    (State.handSet s gs).sens = s.sens ∧ (State.handSet s gs).panel = s.panel ∧ (State.handSet s gs).ports = s.ports ∧
    (State.handSet s gs).cages = s.cages ∧ (State.handSet s gs).tcp = s.tcp ∧ (State.handSet s gs).streams = s.streams ∧
    (State.handSet s gs).time = s.time ∧ (State.handSet s gs).align = s.align ∧ (State.handSet s gs).swage = s.swage ∧
    (State.handSet s gs).osc = s.osc ∧ (State.handSet s gs).logic = s.logic ∧ (State.handSet s gs).cap = s.cap ∧
    (State.handSet s gs).pub = s.pub ∧ (State.handSet s gs).pair = s.pair ∧ (State.handSet s gs).otp = s.otp ∧
    (State.handSet s gs).vault = s.vault ∧ (State.handSet s gs).emp = s.emp ∧ (State.handSet s gs).tap = s.tap ∧
    (State.handSet s gs).ext = s.ext ∧ (State.handSet s gs).served = s.served ∧ (State.handSet s gs).free = s.free ∧
    (State.handSet s gs).pending = s.pending := by
  simp [State.handSet]

@[simp] theorem State.setDet_frame (s : State) (d : Nat) (x : DetSt) :
    (State.setDet s d x).boot = s.boot ∧ (State.setDet s d x).img = s.img ∧ (State.setDet s d x).flash = s.flash ∧
    (State.setDet s d x).ctrs = s.ctrs ∧ (State.setDet s d x).ctrsAt = s.ctrsAt ∧ (State.setDet s d x).attn = s.attn ∧
    (State.setDet s d x).partnerLog = s.partnerLog ∧ (State.setDet s d x).bbx = s.bbx ∧
    (State.setDet s d x).sens = s.sens ∧ (State.setDet s d x).panel = s.panel ∧ (State.setDet s d x).ports = s.ports ∧
    (State.setDet s d x).cages = s.cages ∧ (State.setDet s d x).tcp = s.tcp ∧ (State.setDet s d x).streams = s.streams ∧
    (State.setDet s d x).time = s.time ∧ (State.setDet s d x).align = s.align ∧ (State.setDet s d x).swage = s.swage ∧
    (State.setDet s d x).osc = s.osc ∧ (State.setDet s d x).sch = s.sch ∧ (State.setDet s d x).logic = s.logic ∧
    (State.setDet s d x).cap = s.cap ∧ (State.setDet s d x).pub = s.pub ∧ (State.setDet s d x).pair = s.pair ∧
    (State.setDet s d x).otp = s.otp ∧ (State.setDet s d x).vault = s.vault ∧ (State.setDet s d x).emp = s.emp ∧
    (State.setDet s d x).tap = s.tap ∧ (State.setDet s d x).ext = s.ext ∧ (State.setDet s d x).served = s.served ∧
    (State.setDet s d x).free = s.free ∧ (State.setDet s d x).pending = s.pending := by
  simp [State.setDet]

@[simp] theorem State.detEvent_frame (s : State) (d : Nat) (tag : Ns) (edge : Bool) (cause : Nat) (v : Word) :
    (State.detEvent s d tag edge cause v).boot = s.boot ∧ (State.detEvent s d tag edge cause v).img = s.img ∧
    (State.detEvent s d tag edge cause v).flash = s.flash ∧ (State.detEvent s d tag edge cause v).ctrs = s.ctrs ∧
    (State.detEvent s d tag edge cause v).ctrsAt = s.ctrsAt ∧ (State.detEvent s d tag edge cause v).attn = s.attn ∧
    (State.detEvent s d tag edge cause v).partnerLog = s.partnerLog ∧ (State.detEvent s d tag edge cause v).bbx = s.bbx ∧
    (State.detEvent s d tag edge cause v).sens = s.sens ∧ (State.detEvent s d tag edge cause v).panel = s.panel ∧
    (State.detEvent s d tag edge cause v).ports = s.ports ∧ (State.detEvent s d tag edge cause v).cages = s.cages ∧
    (State.detEvent s d tag edge cause v).tcp = s.tcp ∧ (State.detEvent s d tag edge cause v).time = s.time ∧
    (State.detEvent s d tag edge cause v).align = s.align ∧ (State.detEvent s d tag edge cause v).swage = s.swage ∧
    (State.detEvent s d tag edge cause v).osc = s.osc ∧ (State.detEvent s d tag edge cause v).isl = s.isl ∧
    (State.detEvent s d tag edge cause v).sch = s.sch ∧ (State.detEvent s d tag edge cause v).pair = s.pair ∧
    (State.detEvent s d tag edge cause v).otp = s.otp ∧ (State.detEvent s d tag edge cause v).vault = s.vault ∧
    (State.detEvent s d tag edge cause v).emp = s.emp ∧ (State.detEvent s d tag edge cause v).tap = s.tap ∧
    (State.detEvent s d tag edge cause v).ext = s.ext ∧ (State.detEvent s d tag edge cause v).served = s.served ∧
    (State.detEvent s d tag edge cause v).free = s.free ∧ (State.detEvent s d tag edge cause v).pending = s.pending := by
  simp [State.detEvent]

@[simp] theorem State.detStep_frame (s : State) (gs : GroupSet) (d : Nat) :
    (State.detStep s gs d).img = s.img ∧ (State.detStep s gs d).flash = s.flash ∧
    (State.detStep s gs d).ctrsAt = s.ctrsAt ∧ (State.detStep s gs d).attn = s.attn ∧
    (State.detStep s gs d).partnerLog = s.partnerLog ∧ (State.detStep s gs d).bbx = s.bbx ∧
    (State.detStep s gs d).sens = s.sens ∧ (State.detStep s gs d).panel = s.panel ∧
    (State.detStep s gs d).ports = s.ports ∧ (State.detStep s gs d).cages = s.cages ∧
    (State.detStep s gs d).tcp = s.tcp ∧ (State.detStep s gs d).time = s.time ∧ (State.detStep s gs d).swage = s.swage ∧
    (State.detStep s gs d).osc = s.osc ∧ (State.detStep s gs d).sch = s.sch ∧ (State.detStep s gs d).pair = s.pair ∧
    (State.detStep s gs d).otp = s.otp ∧ (State.detStep s gs d).vault = s.vault ∧ (State.detStep s gs d).emp = s.emp ∧
    (State.detStep s gs d).tap = s.tap ∧ (State.detStep s gs d).ext = s.ext ∧ (State.detStep s gs d).served = s.served ∧
    (State.detStep s gs d).free = s.free ∧ (State.detStep s gs d).pending = s.pending := by
  unfold State.detStep
  extract_lets r0 x1 find2
  repeat' split
  all_goals first
    | (simp; done)
    | (refine forAll_inv (fun u : State =>
    u.img = s.img ∧ u.flash = s.flash ∧ u.ctrsAt = s.ctrsAt ∧ u.attn = s.attn ∧ u.partnerLog = s.partnerLog ∧
    u.bbx = s.bbx ∧ u.sens = s.sens ∧ u.panel = s.panel ∧ u.ports = s.ports ∧ u.cages = s.cages ∧ u.tcp = s.tcp ∧
    u.time = s.time ∧ u.swage = s.swage ∧ u.osc = s.osc ∧ u.sch = s.sch ∧ u.pair = s.pair ∧ u.otp = s.otp ∧
    u.vault = s.vault ∧ u.emp = s.emp ∧ u.tap = s.tap ∧ u.ext = s.ext ∧ u.served = s.served ∧ u.free = s.free ∧
    u.pending = s.pending) _ ?_ _ _ (by simp)
       intro u v hu
       try dsimp only
       repeat' split
       all_goals simpa using hu)

@[simp] theorem State.restartPairsDets_frame (s : State) :
    (State.restartPairsDets s).boot = s.boot ∧ (State.restartPairsDets s).img = s.img ∧
    (State.restartPairsDets s).flash = s.flash ∧ (State.restartPairsDets s).ctrsAt = s.ctrsAt ∧
    (State.restartPairsDets s).attn = s.attn ∧ (State.restartPairsDets s).partnerLog = s.partnerLog ∧
    (State.restartPairsDets s).bbx = s.bbx ∧ (State.restartPairsDets s).sens = s.sens ∧
    (State.restartPairsDets s).panel = s.panel ∧ (State.restartPairsDets s).ports = s.ports ∧
    (State.restartPairsDets s).cages = s.cages ∧ (State.restartPairsDets s).tcp = s.tcp ∧
    (State.restartPairsDets s).time = s.time ∧ (State.restartPairsDets s).align = s.align ∧
    (State.restartPairsDets s).swage = s.swage ∧ (State.restartPairsDets s).osc = s.osc ∧
    (State.restartPairsDets s).sch = s.sch ∧ (State.restartPairsDets s).pair = s.pair ∧
    (State.restartPairsDets s).otp = s.otp ∧ (State.restartPairsDets s).vault = s.vault ∧
    (State.restartPairsDets s).emp = s.emp ∧ (State.restartPairsDets s).tap = s.tap ∧
    (State.restartPairsDets s).ext = s.ext ∧ (State.restartPairsDets s).served = s.served ∧
    (State.restartPairsDets s).free = s.free ∧ (State.restartPairsDets s).pending = s.pending := by
  simp [State.restartPairsDets]

@[simp] theorem State.stepIsl_frame (s : State) :
    (State.stepIsl s).boot = s.boot ∧ (State.stepIsl s).img = s.img ∧ (State.stepIsl s).flash = s.flash ∧
    (State.stepIsl s).ctrsAt = s.ctrsAt ∧ (State.stepIsl s).partnerLog = s.partnerLog ∧ (State.stepIsl s).bbx = s.bbx ∧
    (State.stepIsl s).sens = s.sens ∧ (State.stepIsl s).panel = s.panel ∧ (State.stepIsl s).cages = s.cages ∧
    (State.stepIsl s).tcp = s.tcp ∧ (State.stepIsl s).time = s.time ∧ (State.stepIsl s).swage = s.swage ∧
    (State.stepIsl s).osc = s.osc ∧ (State.stepIsl s).otp = s.otp ∧ (State.stepIsl s).vault = s.vault ∧
    (State.stepIsl s).emp = s.emp ∧ (State.stepIsl s).tap = s.tap ∧ (State.stepIsl s).ext = s.ext ∧
    (State.stepIsl s).served = s.served ∧ (State.stepIsl s).free = s.free ∧ (State.stepIsl s).pending = s.pending := by
  simp [State.stepIsl]

@[simp] theorem State.replayIsl_frame (s : State) :
    (State.replayIsl s).boot = s.boot ∧ (State.replayIsl s).img = s.img ∧ (State.replayIsl s).flash = s.flash ∧
    (State.replayIsl s).ctrsAt = s.ctrsAt ∧ (State.replayIsl s).partnerLog = s.partnerLog ∧
    (State.replayIsl s).bbx = s.bbx ∧ (State.replayIsl s).sens = s.sens ∧ (State.replayIsl s).panel = s.panel ∧
    (State.replayIsl s).cages = s.cages ∧ (State.replayIsl s).tcp = s.tcp ∧ (State.replayIsl s).time = s.time ∧
    (State.replayIsl s).swage = s.swage ∧ (State.replayIsl s).osc = s.osc ∧ (State.replayIsl s).otp = s.otp ∧
    (State.replayIsl s).vault = s.vault ∧ (State.replayIsl s).emp = s.emp ∧ (State.replayIsl s).tap = s.tap ∧
    (State.replayIsl s).ext = s.ext ∧ (State.replayIsl s).served = s.served ∧ (State.replayIsl s).free = s.free ∧
    (State.replayIsl s).pending = s.pending := by
  simp [State.replayIsl]

@[simp] theorem State.reserveIsl_frame (s : State) (b : Nat) :
    (State.reserveIsl s b).boot = s.boot ∧ (State.reserveIsl s b).img = s.img ∧ (State.reserveIsl s b).flash = s.flash ∧
    (State.reserveIsl s b).ctrs = s.ctrs ∧ (State.reserveIsl s b).ctrsAt = s.ctrsAt ∧
    (State.reserveIsl s b).attn = s.attn ∧ (State.reserveIsl s b).partnerLog = s.partnerLog ∧
    (State.reserveIsl s b).bbx = s.bbx ∧ (State.reserveIsl s b).sens = s.sens ∧ (State.reserveIsl s b).panel = s.panel ∧
    (State.reserveIsl s b).ports = s.ports ∧ (State.reserveIsl s b).cages = s.cages ∧
    (State.reserveIsl s b).tcp = s.tcp ∧ (State.reserveIsl s b).streams = s.streams ∧
    (State.reserveIsl s b).time = s.time ∧ (State.reserveIsl s b).align = s.align ∧
    (State.reserveIsl s b).swage = s.swage ∧ (State.reserveIsl s b).osc = s.osc ∧ (State.reserveIsl s b).isl = s.isl ∧
    (State.reserveIsl s b).logic = s.logic ∧ (State.reserveIsl s b).cap = s.cap ∧ (State.reserveIsl s b).pub = s.pub ∧
    (State.reserveIsl s b).pair = s.pair ∧ (State.reserveIsl s b).otp = s.otp ∧ (State.reserveIsl s b).vault = s.vault ∧
    (State.reserveIsl s b).emp = s.emp ∧ (State.reserveIsl s b).tap = s.tap ∧ (State.reserveIsl s b).ext = s.ext ∧
    (State.reserveIsl s b).served = s.served ∧ (State.reserveIsl s b).free = s.free ∧
    (State.reserveIsl s b).pending = s.pending := by
  unfold State.reserveIsl
  split <;> simp

@[simp] theorem State.islBoundary_frame (s : State) :
    (State.islBoundary s).img = s.img ∧ (State.islBoundary s).flash = s.flash ∧ (State.islBoundary s).ctrsAt = s.ctrsAt ∧
    (State.islBoundary s).partnerLog = s.partnerLog ∧ (State.islBoundary s).bbx = s.bbx ∧
    (State.islBoundary s).sens = s.sens ∧ (State.islBoundary s).panel = s.panel ∧ (State.islBoundary s).cages = s.cages ∧
    (State.islBoundary s).tcp = s.tcp ∧ (State.islBoundary s).time = s.time ∧ (State.islBoundary s).align = s.align ∧
    (State.islBoundary s).swage = s.swage ∧ (State.islBoundary s).osc = s.osc ∧ (State.islBoundary s).otp = s.otp ∧
    (State.islBoundary s).vault = s.vault ∧ (State.islBoundary s).emp = s.emp ∧ (State.islBoundary s).tap = s.tap ∧
    (State.islBoundary s).ext = s.ext ∧ (State.islBoundary s).served = s.served ∧ (State.islBoundary s).free = s.free ∧
    (State.islBoundary s).pending = s.pending := by
  unfold State.islBoundary
  split <;> simp

end Sys2Proof.Machine
end

