-- ==== Sys2Proof/Laws/FramePortOps.lean ====
section
/-! SUPPORT. What each operation of Machine/PortOps.lean leaves unchanged: one frame lemma per operation. -/

namespace Sys2Proof.Machine

@[simp] theorem State.serve_frame (s : State) (p q : Nat) (f : TxFrame) :
    (State.serve s p q f).boot = s.boot ∧ (State.serve s p q f).img = s.img ∧ (State.serve s p q f).flash = s.flash ∧
    (State.serve s p q f).ctrsAt = s.ctrsAt ∧ (State.serve s p q f).attn = s.attn ∧
    (State.serve s p q f).partnerLog = s.partnerLog ∧ (State.serve s p q f).bbx = s.bbx ∧
    (State.serve s p q f).sens = s.sens ∧ (State.serve s p q f).panel = s.panel ∧ (State.serve s p q f).cages = s.cages ∧
    (State.serve s p q f).tcp = s.tcp ∧ (State.serve s p q f).streams = s.streams ∧ (State.serve s p q f).time = s.time ∧
    (State.serve s p q f).align = s.align ∧ (State.serve s p q f).swage = s.swage ∧ (State.serve s p q f).osc = s.osc ∧
    (State.serve s p q f).isl = s.isl ∧ (State.serve s p q f).sch = s.sch ∧ (State.serve s p q f).logic = s.logic ∧
    (State.serve s p q f).cap = s.cap ∧ (State.serve s p q f).pub = s.pub ∧ (State.serve s p q f).pair = s.pair ∧
    (State.serve s p q f).otp = s.otp ∧ (State.serve s p q f).vault = s.vault ∧ (State.serve s p q f).emp = s.emp ∧
    (State.serve s p q f).tap = s.tap ∧ (State.serve s p q f).ext = s.ext ∧ (State.serve s p q f).served = s.served ∧
    (State.serve s p q f).free = s.free ∧ (State.serve s p q f).pending = s.pending := by
  simp [State.serve]

@[simp] theorem State.tcpSend_frame (s : State) (sid : Nat) (syn ack rst : Bool) (seqNo : BitVec 32) (data : Bytes) :
    (State.tcpSend s sid syn ack rst seqNo data).boot = s.boot ∧
    (State.tcpSend s sid syn ack rst seqNo data).img = s.img ∧
    (State.tcpSend s sid syn ack rst seqNo data).flash = s.flash ∧
    (State.tcpSend s sid syn ack rst seqNo data).ctrsAt = s.ctrsAt ∧
    (State.tcpSend s sid syn ack rst seqNo data).attn = s.attn ∧
    (State.tcpSend s sid syn ack rst seqNo data).partnerLog = s.partnerLog ∧
    (State.tcpSend s sid syn ack rst seqNo data).bbx = s.bbx ∧
    (State.tcpSend s sid syn ack rst seqNo data).sens = s.sens ∧
    (State.tcpSend s sid syn ack rst seqNo data).panel = s.panel ∧
    (State.tcpSend s sid syn ack rst seqNo data).cages = s.cages ∧
    (State.tcpSend s sid syn ack rst seqNo data).tcp = s.tcp ∧
    (State.tcpSend s sid syn ack rst seqNo data).streams = s.streams ∧
    (State.tcpSend s sid syn ack rst seqNo data).time = s.time ∧
    (State.tcpSend s sid syn ack rst seqNo data).align = s.align ∧
    (State.tcpSend s sid syn ack rst seqNo data).swage = s.swage ∧
    (State.tcpSend s sid syn ack rst seqNo data).osc = s.osc ∧ (State.tcpSend s sid syn ack rst seqNo data).isl = s.isl ∧
    (State.tcpSend s sid syn ack rst seqNo data).sch = s.sch ∧
    (State.tcpSend s sid syn ack rst seqNo data).logic = s.logic ∧
    (State.tcpSend s sid syn ack rst seqNo data).cap = s.cap ∧ (State.tcpSend s sid syn ack rst seqNo data).pub = s.pub ∧
    (State.tcpSend s sid syn ack rst seqNo data).pair = s.pair ∧
    (State.tcpSend s sid syn ack rst seqNo data).otp = s.otp ∧
    (State.tcpSend s sid syn ack rst seqNo data).vault = s.vault ∧
    (State.tcpSend s sid syn ack rst seqNo data).emp = s.emp ∧ (State.tcpSend s sid syn ack rst seqNo data).tap = s.tap ∧
    (State.tcpSend s sid syn ack rst seqNo data).ext = s.ext ∧
    (State.tcpSend s sid syn ack rst seqNo data).served = s.served ∧
    (State.tcpSend s sid syn ack rst seqNo data).free = s.free ∧
    (State.tcpSend s sid syn ack rst seqNo data).pending = s.pending := by
  simp [State.tcpSend]

@[simp] theorem State.tcpAck_frame (s : State) (sid : Nat) :
    (State.tcpAck s sid).boot = s.boot ∧ (State.tcpAck s sid).img = s.img ∧ (State.tcpAck s sid).flash = s.flash ∧
    (State.tcpAck s sid).ctrsAt = s.ctrsAt ∧ (State.tcpAck s sid).attn = s.attn ∧
    (State.tcpAck s sid).partnerLog = s.partnerLog ∧ (State.tcpAck s sid).bbx = s.bbx ∧
    (State.tcpAck s sid).sens = s.sens ∧ (State.tcpAck s sid).panel = s.panel ∧ (State.tcpAck s sid).cages = s.cages ∧
    (State.tcpAck s sid).streams = s.streams ∧ (State.tcpAck s sid).time = s.time ∧
    (State.tcpAck s sid).align = s.align ∧ (State.tcpAck s sid).swage = s.swage ∧ (State.tcpAck s sid).osc = s.osc ∧
    (State.tcpAck s sid).isl = s.isl ∧ (State.tcpAck s sid).sch = s.sch ∧ (State.tcpAck s sid).logic = s.logic ∧
    (State.tcpAck s sid).cap = s.cap ∧ (State.tcpAck s sid).pub = s.pub ∧ (State.tcpAck s sid).pair = s.pair ∧
    (State.tcpAck s sid).otp = s.otp ∧ (State.tcpAck s sid).vault = s.vault ∧ (State.tcpAck s sid).emp = s.emp ∧
    (State.tcpAck s sid).tap = s.tap ∧ (State.tcpAck s sid).ext = s.ext ∧ (State.tcpAck s sid).served = s.served ∧
    (State.tcpAck s sid).free = s.free ∧ (State.tcpAck s sid).pending = s.pending := by
  simp [State.tcpAck]

@[simp] theorem State.sendData_frame (s : State) (sid : Nat) (d : Bytes) :
    (State.sendData s sid d).boot = s.boot ∧ (State.sendData s sid d).img = s.img ∧
    (State.sendData s sid d).flash = s.flash ∧ (State.sendData s sid d).ctrsAt = s.ctrsAt ∧
    (State.sendData s sid d).attn = s.attn ∧ (State.sendData s sid d).partnerLog = s.partnerLog ∧
    (State.sendData s sid d).bbx = s.bbx ∧ (State.sendData s sid d).sens = s.sens ∧
    (State.sendData s sid d).panel = s.panel ∧ (State.sendData s sid d).cages = s.cages ∧
    (State.sendData s sid d).streams = s.streams ∧ (State.sendData s sid d).time = s.time ∧
    (State.sendData s sid d).align = s.align ∧ (State.sendData s sid d).swage = s.swage ∧
    (State.sendData s sid d).osc = s.osc ∧ (State.sendData s sid d).isl = s.isl ∧ (State.sendData s sid d).sch = s.sch ∧
    (State.sendData s sid d).logic = s.logic ∧ (State.sendData s sid d).cap = s.cap ∧
    (State.sendData s sid d).pub = s.pub ∧ (State.sendData s sid d).pair = s.pair ∧
    (State.sendData s sid d).otp = s.otp ∧ (State.sendData s sid d).vault = s.vault ∧
    (State.sendData s sid d).emp = s.emp ∧ (State.sendData s sid d).tap = s.tap ∧ (State.sendData s sid d).ext = s.ext ∧
    (State.sendData s sid d).served = s.served ∧ (State.sendData s sid d).free = s.free ∧
    (State.sendData s sid d).pending = s.pending := by
  simp [State.sendData]

@[simp] theorem State.sendCommand_frame (s : State) (sid code : Nat) :
    (State.sendCommand s sid code).boot = s.boot ∧ (State.sendCommand s sid code).img = s.img ∧
    (State.sendCommand s sid code).flash = s.flash ∧ (State.sendCommand s sid code).ctrsAt = s.ctrsAt ∧
    (State.sendCommand s sid code).attn = s.attn ∧ (State.sendCommand s sid code).partnerLog = s.partnerLog ∧
    (State.sendCommand s sid code).bbx = s.bbx ∧ (State.sendCommand s sid code).sens = s.sens ∧
    (State.sendCommand s sid code).panel = s.panel ∧ (State.sendCommand s sid code).cages = s.cages ∧
    (State.sendCommand s sid code).streams = s.streams ∧ (State.sendCommand s sid code).time = s.time ∧
    (State.sendCommand s sid code).align = s.align ∧ (State.sendCommand s sid code).swage = s.swage ∧
    (State.sendCommand s sid code).osc = s.osc ∧ (State.sendCommand s sid code).isl = s.isl ∧
    (State.sendCommand s sid code).sch = s.sch ∧ (State.sendCommand s sid code).logic = s.logic ∧
    (State.sendCommand s sid code).cap = s.cap ∧ (State.sendCommand s sid code).pub = s.pub ∧
    (State.sendCommand s sid code).pair = s.pair ∧ (State.sendCommand s sid code).otp = s.otp ∧
    (State.sendCommand s sid code).vault = s.vault ∧ (State.sendCommand s sid code).emp = s.emp ∧
    (State.sendCommand s sid code).tap = s.tap ∧ (State.sendCommand s sid code).ext = s.ext ∧
    (State.sendCommand s sid code).served = s.served ∧ (State.sendCommand s sid code).free = s.free ∧
    (State.sendCommand s sid code).pending = s.pending := by
  simp [State.sendCommand]

@[simp] theorem State.streamEnter_frame (s : State) (sid : Nat) (st : StrState) :
    (State.streamEnter s sid st).boot = s.boot ∧ (State.streamEnter s sid st).img = s.img ∧
    (State.streamEnter s sid st).flash = s.flash ∧ (State.streamEnter s sid st).ctrsAt = s.ctrsAt ∧
    (State.streamEnter s sid st).partnerLog = s.partnerLog ∧ (State.streamEnter s sid st).bbx = s.bbx ∧
    (State.streamEnter s sid st).sens = s.sens ∧ (State.streamEnter s sid st).panel = s.panel ∧
    (State.streamEnter s sid st).cages = s.cages ∧ (State.streamEnter s sid st).tcp = s.tcp ∧
    (State.streamEnter s sid st).time = s.time ∧ (State.streamEnter s sid st).align = s.align ∧
    (State.streamEnter s sid st).swage = s.swage ∧ (State.streamEnter s sid st).osc = s.osc ∧
    (State.streamEnter s sid st).isl = s.isl ∧ (State.streamEnter s sid st).sch = s.sch ∧
    (State.streamEnter s sid st).logic = s.logic ∧ (State.streamEnter s sid st).cap = s.cap ∧
    (State.streamEnter s sid st).pub = s.pub ∧ (State.streamEnter s sid st).otp = s.otp ∧
    (State.streamEnter s sid st).vault = s.vault ∧ (State.streamEnter s sid st).emp = s.emp ∧
    (State.streamEnter s sid st).tap = s.tap ∧ (State.streamEnter s sid st).ext = s.ext ∧
    (State.streamEnter s sid st).served = s.served ∧ (State.streamEnter s sid st).free = s.free ∧
    (State.streamEnter s sid st).pending = s.pending := by
  simp [State.streamEnter]

@[simp] theorem State.streamPost_frame (s : State) (sid lvl : Nat) :
    (State.streamPost s sid lvl).boot = s.boot ∧ (State.streamPost s sid lvl).img = s.img ∧
    (State.streamPost s sid lvl).flash = s.flash ∧ (State.streamPost s sid lvl).ctrsAt = s.ctrsAt ∧
    (State.streamPost s sid lvl).partnerLog = s.partnerLog ∧ (State.streamPost s sid lvl).bbx = s.bbx ∧
    (State.streamPost s sid lvl).sens = s.sens ∧ (State.streamPost s sid lvl).panel = s.panel ∧
    (State.streamPost s sid lvl).cages = s.cages ∧ (State.streamPost s sid lvl).tcp = s.tcp ∧
    (State.streamPost s sid lvl).streams = s.streams ∧ (State.streamPost s sid lvl).time = s.time ∧
    (State.streamPost s sid lvl).align = s.align ∧ (State.streamPost s sid lvl).swage = s.swage ∧
    (State.streamPost s sid lvl).osc = s.osc ∧ (State.streamPost s sid lvl).isl = s.isl ∧
    (State.streamPost s sid lvl).sch = s.sch ∧ (State.streamPost s sid lvl).logic = s.logic ∧
    (State.streamPost s sid lvl).cap = s.cap ∧ (State.streamPost s sid lvl).pub = s.pub ∧
    (State.streamPost s sid lvl).otp = s.otp ∧ (State.streamPost s sid lvl).vault = s.vault ∧
    (State.streamPost s sid lvl).emp = s.emp ∧ (State.streamPost s sid lvl).tap = s.tap ∧
    (State.streamPost s sid lvl).ext = s.ext ∧ (State.streamPost s sid lvl).served = s.served ∧
    (State.streamPost s sid lvl).free = s.free ∧ (State.streamPost s sid lvl).pending = s.pending := by
  simp [State.streamPost]

@[simp] theorem State.mismatch_frame (s : State) (sid : Nat) :
    (State.mismatch s sid).boot = s.boot ∧ (State.mismatch s sid).img = s.img ∧ (State.mismatch s sid).flash = s.flash ∧
    (State.mismatch s sid).ctrsAt = s.ctrsAt ∧ (State.mismatch s sid).partnerLog = s.partnerLog ∧
    (State.mismatch s sid).bbx = s.bbx ∧ (State.mismatch s sid).sens = s.sens ∧ (State.mismatch s sid).panel = s.panel ∧
    (State.mismatch s sid).cages = s.cages ∧ (State.mismatch s sid).tcp = s.tcp ∧ (State.mismatch s sid).time = s.time ∧
    (State.mismatch s sid).align = s.align ∧ (State.mismatch s sid).swage = s.swage ∧
    (State.mismatch s sid).osc = s.osc ∧ (State.mismatch s sid).isl = s.isl ∧ (State.mismatch s sid).sch = s.sch ∧
    (State.mismatch s sid).logic = s.logic ∧ (State.mismatch s sid).cap = s.cap ∧ (State.mismatch s sid).pub = s.pub ∧
    (State.mismatch s sid).otp = s.otp ∧ (State.mismatch s sid).vault = s.vault ∧ (State.mismatch s sid).emp = s.emp ∧
    (State.mismatch s sid).tap = s.tap ∧ (State.mismatch s sid).ext = s.ext ∧ (State.mismatch s sid).served = s.served ∧
    (State.mismatch s sid).free = s.free ∧ (State.mismatch s sid).pending = s.pending := by
  unfold State.mismatch
  split <;> simp

@[simp] theorem State.unmismatch_frame (s : State) (sid : Nat) :
    (State.unmismatch s sid).boot = s.boot ∧ (State.unmismatch s sid).img = s.img ∧
    (State.unmismatch s sid).flash = s.flash ∧ (State.unmismatch s sid).ctrsAt = s.ctrsAt ∧
    (State.unmismatch s sid).partnerLog = s.partnerLog ∧ (State.unmismatch s sid).bbx = s.bbx ∧
    (State.unmismatch s sid).sens = s.sens ∧ (State.unmismatch s sid).panel = s.panel ∧
    (State.unmismatch s sid).cages = s.cages ∧ (State.unmismatch s sid).tcp = s.tcp ∧
    (State.unmismatch s sid).time = s.time ∧ (State.unmismatch s sid).align = s.align ∧
    (State.unmismatch s sid).swage = s.swage ∧ (State.unmismatch s sid).osc = s.osc ∧
    (State.unmismatch s sid).isl = s.isl ∧ (State.unmismatch s sid).sch = s.sch ∧
    (State.unmismatch s sid).logic = s.logic ∧ (State.unmismatch s sid).cap = s.cap ∧
    (State.unmismatch s sid).pub = s.pub ∧ (State.unmismatch s sid).otp = s.otp ∧
    (State.unmismatch s sid).vault = s.vault ∧ (State.unmismatch s sid).emp = s.emp ∧
    (State.unmismatch s sid).tap = s.tap ∧ (State.unmismatch s sid).ext = s.ext ∧
    (State.unmismatch s sid).served = s.served ∧ (State.unmismatch s sid).free = s.free ∧
    (State.unmismatch s sid).pending = s.pending := by
  simp [State.unmismatch]

@[simp] theorem State.layoutError_frame (s : State) (sid : Nat) :
    (State.layoutError s sid).boot = s.boot ∧ (State.layoutError s sid).img = s.img ∧
    (State.layoutError s sid).flash = s.flash ∧ (State.layoutError s sid).ctrsAt = s.ctrsAt ∧
    (State.layoutError s sid).partnerLog = s.partnerLog ∧ (State.layoutError s sid).bbx = s.bbx ∧
    (State.layoutError s sid).sens = s.sens ∧ (State.layoutError s sid).panel = s.panel ∧
    (State.layoutError s sid).cages = s.cages ∧ (State.layoutError s sid).tcp = s.tcp ∧
    (State.layoutError s sid).time = s.time ∧ (State.layoutError s sid).align = s.align ∧
    (State.layoutError s sid).swage = s.swage ∧ (State.layoutError s sid).osc = s.osc ∧
    (State.layoutError s sid).isl = s.isl ∧ (State.layoutError s sid).sch = s.sch ∧
    (State.layoutError s sid).logic = s.logic ∧ (State.layoutError s sid).cap = s.cap ∧
    (State.layoutError s sid).pub = s.pub ∧ (State.layoutError s sid).otp = s.otp ∧
    (State.layoutError s sid).vault = s.vault ∧ (State.layoutError s sid).emp = s.emp ∧
    (State.layoutError s sid).tap = s.tap ∧ (State.layoutError s sid).ext = s.ext ∧
    (State.layoutError s sid).served = s.served ∧ (State.layoutError s sid).free = s.free ∧
    (State.layoutError s sid).pending = s.pending := by
  simp [State.layoutError]

@[simp] theorem State.layoutPass_frame (s : State) (sid : Nat) :
    (State.layoutPass s sid).boot = s.boot ∧ (State.layoutPass s sid).img = s.img ∧
    (State.layoutPass s sid).flash = s.flash ∧ (State.layoutPass s sid).ctrs = s.ctrs ∧
    (State.layoutPass s sid).ctrsAt = s.ctrsAt ∧ (State.layoutPass s sid).attn = s.attn ∧
    (State.layoutPass s sid).partnerLog = s.partnerLog ∧ (State.layoutPass s sid).bbx = s.bbx ∧
    (State.layoutPass s sid).sens = s.sens ∧ (State.layoutPass s sid).panel = s.panel ∧
    (State.layoutPass s sid).ports = s.ports ∧ (State.layoutPass s sid).cages = s.cages ∧
    (State.layoutPass s sid).tcp = s.tcp ∧ (State.layoutPass s sid).time = s.time ∧
    (State.layoutPass s sid).align = s.align ∧ (State.layoutPass s sid).swage = s.swage ∧
    (State.layoutPass s sid).osc = s.osc ∧ (State.layoutPass s sid).isl = s.isl ∧ (State.layoutPass s sid).sch = s.sch ∧
    (State.layoutPass s sid).logic = s.logic ∧ (State.layoutPass s sid).cap = s.cap ∧
    (State.layoutPass s sid).pub = s.pub ∧ (State.layoutPass s sid).pair = s.pair ∧
    (State.layoutPass s sid).otp = s.otp ∧ (State.layoutPass s sid).vault = s.vault ∧
    (State.layoutPass s sid).emp = s.emp ∧ (State.layoutPass s sid).tap = s.tap ∧ (State.layoutPass s sid).ext = s.ext ∧
    (State.layoutPass s sid).served = s.served ∧ (State.layoutPass s sid).free = s.free ∧
    (State.layoutPass s sid).pending = s.pending := by
  simp [State.layoutPass]

@[simp] theorem State.parseFail_frame (s : State) (sid : Nat) :
    (State.parseFail s sid).boot = s.boot ∧ (State.parseFail s sid).img = s.img ∧
    (State.parseFail s sid).flash = s.flash ∧ (State.parseFail s sid).ctrs = s.ctrs ∧
    (State.parseFail s sid).ctrsAt = s.ctrsAt ∧ (State.parseFail s sid).attn = s.attn ∧
    (State.parseFail s sid).partnerLog = s.partnerLog ∧ (State.parseFail s sid).bbx = s.bbx ∧
    (State.parseFail s sid).sens = s.sens ∧ (State.parseFail s sid).panel = s.panel ∧
    (State.parseFail s sid).ports = s.ports ∧ (State.parseFail s sid).cages = s.cages ∧
    (State.parseFail s sid).tcp = s.tcp ∧ (State.parseFail s sid).time = s.time ∧
    (State.parseFail s sid).align = s.align ∧ (State.parseFail s sid).swage = s.swage ∧
    (State.parseFail s sid).osc = s.osc ∧ (State.parseFail s sid).isl = s.isl ∧ (State.parseFail s sid).sch = s.sch ∧
    (State.parseFail s sid).logic = s.logic ∧ (State.parseFail s sid).cap = s.cap ∧ (State.parseFail s sid).pub = s.pub ∧
    (State.parseFail s sid).pair = s.pair ∧ (State.parseFail s sid).otp = s.otp ∧
    (State.parseFail s sid).vault = s.vault ∧ (State.parseFail s sid).emp = s.emp ∧ (State.parseFail s sid).tap = s.tap ∧
    (State.parseFail s sid).ext = s.ext ∧ (State.parseFail s sid).served = s.served ∧
    (State.parseFail s sid).free = s.free ∧ (State.parseFail s sid).pending = s.pending := by
  simp [State.parseFail]

@[simp] theorem State.parsePass_frame (s : State) (sid : Nat) :
    (State.parsePass s sid).boot = s.boot ∧ (State.parsePass s sid).img = s.img ∧
    (State.parsePass s sid).flash = s.flash ∧ (State.parsePass s sid).ctrsAt = s.ctrsAt ∧
    (State.parsePass s sid).partnerLog = s.partnerLog ∧ (State.parsePass s sid).bbx = s.bbx ∧
    (State.parsePass s sid).sens = s.sens ∧ (State.parsePass s sid).panel = s.panel ∧
    (State.parsePass s sid).cages = s.cages ∧ (State.parsePass s sid).tcp = s.tcp ∧
    (State.parsePass s sid).time = s.time ∧ (State.parsePass s sid).align = s.align ∧
    (State.parsePass s sid).swage = s.swage ∧ (State.parsePass s sid).osc = s.osc ∧ (State.parsePass s sid).isl = s.isl ∧
    (State.parsePass s sid).sch = s.sch ∧ (State.parsePass s sid).logic = s.logic ∧ (State.parsePass s sid).cap = s.cap ∧
    (State.parsePass s sid).pub = s.pub ∧ (State.parsePass s sid).otp = s.otp ∧ (State.parsePass s sid).vault = s.vault ∧
    (State.parsePass s sid).emp = s.emp ∧ (State.parsePass s sid).tap = s.tap ∧ (State.parsePass s sid).ext = s.ext ∧
    (State.parsePass s sid).served = s.served ∧ (State.parsePass s sid).free = s.free ∧
    (State.parsePass s sid).pending = s.pending := by
  simp [State.parsePass]

@[simp] theorem State.tcpDown_frame (s : State) (sid : Nat) :
    (State.tcpDown s sid).boot = s.boot ∧ (State.tcpDown s sid).img = s.img ∧ (State.tcpDown s sid).flash = s.flash ∧
    (State.tcpDown s sid).ctrsAt = s.ctrsAt ∧ (State.tcpDown s sid).partnerLog = s.partnerLog ∧
    (State.tcpDown s sid).bbx = s.bbx ∧ (State.tcpDown s sid).sens = s.sens ∧ (State.tcpDown s sid).panel = s.panel ∧
    (State.tcpDown s sid).cages = s.cages ∧ (State.tcpDown s sid).time = s.time ∧ (State.tcpDown s sid).align = s.align ∧
    (State.tcpDown s sid).swage = s.swage ∧ (State.tcpDown s sid).osc = s.osc ∧ (State.tcpDown s sid).isl = s.isl ∧
    (State.tcpDown s sid).sch = s.sch ∧ (State.tcpDown s sid).logic = s.logic ∧ (State.tcpDown s sid).cap = s.cap ∧
    (State.tcpDown s sid).pub = s.pub ∧ (State.tcpDown s sid).otp = s.otp ∧ (State.tcpDown s sid).vault = s.vault ∧
    (State.tcpDown s sid).emp = s.emp ∧ (State.tcpDown s sid).tap = s.tap ∧ (State.tcpDown s sid).ext = s.ext ∧
    (State.tcpDown s sid).served = s.served ∧ (State.tcpDown s sid).free = s.free ∧
    (State.tcpDown s sid).pending = s.pending := by
  simp [State.tcpDown]

@[simp] theorem State.tcpReset_frame (s : State) (sid : Nat) :
    (State.tcpReset s sid).boot = s.boot ∧ (State.tcpReset s sid).img = s.img ∧ (State.tcpReset s sid).flash = s.flash ∧
    (State.tcpReset s sid).ctrsAt = s.ctrsAt ∧ (State.tcpReset s sid).partnerLog = s.partnerLog ∧
    (State.tcpReset s sid).bbx = s.bbx ∧ (State.tcpReset s sid).sens = s.sens ∧ (State.tcpReset s sid).panel = s.panel ∧
    (State.tcpReset s sid).cages = s.cages ∧ (State.tcpReset s sid).time = s.time ∧
    (State.tcpReset s sid).align = s.align ∧ (State.tcpReset s sid).swage = s.swage ∧
    (State.tcpReset s sid).osc = s.osc ∧ (State.tcpReset s sid).isl = s.isl ∧ (State.tcpReset s sid).sch = s.sch ∧
    (State.tcpReset s sid).logic = s.logic ∧ (State.tcpReset s sid).cap = s.cap ∧ (State.tcpReset s sid).pub = s.pub ∧
    (State.tcpReset s sid).otp = s.otp ∧ (State.tcpReset s sid).vault = s.vault ∧ (State.tcpReset s sid).emp = s.emp ∧
    (State.tcpReset s sid).tap = s.tap ∧ (State.tcpReset s sid).ext = s.ext ∧ (State.tcpReset s sid).served = s.served ∧
    (State.tcpReset s sid).free = s.free ∧ (State.tcpReset s sid).pending = s.pending := by
  simp [State.tcpReset]

@[simp] theorem State.tcpOpen_frame (s : State) (sid : Nat) :
    (State.tcpOpen s sid).boot = s.boot ∧ (State.tcpOpen s sid).img = s.img ∧ (State.tcpOpen s sid).flash = s.flash ∧
    (State.tcpOpen s sid).ctrsAt = s.ctrsAt ∧ (State.tcpOpen s sid).attn = s.attn ∧
    (State.tcpOpen s sid).partnerLog = s.partnerLog ∧ (State.tcpOpen s sid).bbx = s.bbx ∧
    (State.tcpOpen s sid).sens = s.sens ∧ (State.tcpOpen s sid).panel = s.panel ∧ (State.tcpOpen s sid).cages = s.cages ∧
    (State.tcpOpen s sid).streams = s.streams ∧ (State.tcpOpen s sid).time = s.time ∧
    (State.tcpOpen s sid).align = s.align ∧ (State.tcpOpen s sid).swage = s.swage ∧ (State.tcpOpen s sid).osc = s.osc ∧
    (State.tcpOpen s sid).isl = s.isl ∧ (State.tcpOpen s sid).sch = s.sch ∧ (State.tcpOpen s sid).logic = s.logic ∧
    (State.tcpOpen s sid).cap = s.cap ∧ (State.tcpOpen s sid).pub = s.pub ∧ (State.tcpOpen s sid).pair = s.pair ∧
    (State.tcpOpen s sid).otp = s.otp ∧ (State.tcpOpen s sid).vault = s.vault ∧ (State.tcpOpen s sid).emp = s.emp ∧
    (State.tcpOpen s sid).tap = s.tap ∧ (State.tcpOpen s sid).ext = s.ext ∧ (State.tcpOpen s sid).served = s.served ∧
    (State.tcpOpen s sid).pending = s.pending := by
  simp [State.tcpOpen]

end Sys2Proof.Machine
end

