-- ==== Sys2Proof/Laws/FramePorts.lean ====
section
/-! SUPPORT. What each operation of Machine/Ports.lean leaves unchanged: one frame lemma per operation. -/

namespace Sys2Proof.Machine

@[simp] theorem State.ingest_frame (s : State) (p : Nat) (f : RxFrame) :
    (State.ingest s p f).boot = s.boot ∧ (State.ingest s p f).img = s.img ∧ (State.ingest s p f).flash = s.flash ∧
    (State.ingest s p f).ctrsAt = s.ctrsAt ∧ (State.ingest s p f).attn = s.attn ∧
    (State.ingest s p f).partnerLog = s.partnerLog ∧ (State.ingest s p f).bbx = s.bbx ∧
    (State.ingest s p f).sens = s.sens ∧ (State.ingest s p f).panel = s.panel ∧ (State.ingest s p f).cages = s.cages ∧
    (State.ingest s p f).streams = s.streams ∧ (State.ingest s p f).time = s.time ∧
    (State.ingest s p f).align = s.align ∧ (State.ingest s p f).swage = s.swage ∧ (State.ingest s p f).osc = s.osc ∧
    (State.ingest s p f).isl = s.isl ∧ (State.ingest s p f).sch = s.sch ∧ (State.ingest s p f).logic = s.logic ∧
    (State.ingest s p f).cap = s.cap ∧ (State.ingest s p f).pub = s.pub ∧ (State.ingest s p f).pair = s.pair ∧
    (State.ingest s p f).otp = s.otp ∧ (State.ingest s p f).vault = s.vault ∧ (State.ingest s p f).emp = s.emp ∧
    (State.ingest s p f).tap = s.tap ∧ (State.ingest s p f).ext = s.ext ∧ (State.ingest s p f).served = s.served ∧
    (State.ingest s p f).free = s.free ∧ (State.ingest s p f).pending = s.pending := by
  unfold State.ingest
  try dsimp only
  repeat' split
  all_goals simp

@[simp] theorem State.ingestMp_frame (s : State) (f : RxFrame) :
    (State.ingestMp s f).boot = s.boot ∧ (State.ingestMp s f).img = s.img ∧ (State.ingestMp s f).flash = s.flash ∧
    (State.ingestMp s f).ctrsAt = s.ctrsAt ∧ (State.ingestMp s f).attn = s.attn ∧
    (State.ingestMp s f).partnerLog = s.partnerLog ∧ (State.ingestMp s f).bbx = s.bbx ∧
    (State.ingestMp s f).sens = s.sens ∧ (State.ingestMp s f).panel = s.panel ∧ (State.ingestMp s f).cages = s.cages ∧
    (State.ingestMp s f).streams = s.streams ∧ (State.ingestMp s f).time = s.time ∧
    (State.ingestMp s f).align = s.align ∧ (State.ingestMp s f).swage = s.swage ∧ (State.ingestMp s f).osc = s.osc ∧
    (State.ingestMp s f).isl = s.isl ∧ (State.ingestMp s f).sch = s.sch ∧ (State.ingestMp s f).logic = s.logic ∧
    (State.ingestMp s f).cap = s.cap ∧ (State.ingestMp s f).pub = s.pub ∧ (State.ingestMp s f).pair = s.pair ∧
    (State.ingestMp s f).otp = s.otp ∧ (State.ingestMp s f).vault = s.vault ∧ (State.ingestMp s f).emp = s.emp ∧
    (State.ingestMp s f).tap = s.tap ∧ (State.ingestMp s f).ext = s.ext ∧ (State.ingestMp s f).served = s.served ∧
    (State.ingestMp s f).free = s.free ∧ (State.ingestMp s f).pending = s.pending := by
  simp [State.ingestMp]

@[simp] theorem State.receive_frame (s : State) (p : Nat) (f : RxFrame) :
    (State.receive s p f).boot = s.boot ∧ (State.receive s p f).img = s.img ∧ (State.receive s p f).flash = s.flash ∧
    (State.receive s p f).ctrsAt = s.ctrsAt ∧ (State.receive s p f).attn = s.attn ∧
    (State.receive s p f).partnerLog = s.partnerLog ∧ (State.receive s p f).bbx = s.bbx ∧
    (State.receive s p f).sens = s.sens ∧ (State.receive s p f).panel = s.panel ∧ (State.receive s p f).cages = s.cages ∧
    (State.receive s p f).streams = s.streams ∧ (State.receive s p f).time = s.time ∧
    (State.receive s p f).align = s.align ∧ (State.receive s p f).swage = s.swage ∧ (State.receive s p f).osc = s.osc ∧
    (State.receive s p f).isl = s.isl ∧ (State.receive s p f).sch = s.sch ∧ (State.receive s p f).logic = s.logic ∧
    (State.receive s p f).cap = s.cap ∧ (State.receive s p f).pub = s.pub ∧ (State.receive s p f).pair = s.pair ∧
    (State.receive s p f).otp = s.otp ∧ (State.receive s p f).vault = s.vault ∧ (State.receive s p f).emp = s.emp ∧
    (State.receive s p f).tap = s.tap ∧ (State.receive s p f).ext = s.ext ∧ (State.receive s p f).served = s.served ∧
    (State.receive s p f).free = s.free ∧ (State.receive s p f).pending = s.pending := by
  simp [State.receive]

@[simp] theorem State.loadPause_frame (s : State) (p q quanta : Nat) :
    (State.loadPause s p q quanta).boot = s.boot ∧ (State.loadPause s p q quanta).img = s.img ∧
    (State.loadPause s p q quanta).flash = s.flash ∧ (State.loadPause s p q quanta).ctrs = s.ctrs ∧
    (State.loadPause s p q quanta).ctrsAt = s.ctrsAt ∧ (State.loadPause s p q quanta).attn = s.attn ∧
    (State.loadPause s p q quanta).partnerLog = s.partnerLog ∧ (State.loadPause s p q quanta).bbx = s.bbx ∧
    (State.loadPause s p q quanta).sens = s.sens ∧ (State.loadPause s p q quanta).panel = s.panel ∧
    (State.loadPause s p q quanta).cages = s.cages ∧ (State.loadPause s p q quanta).tcp = s.tcp ∧
    (State.loadPause s p q quanta).streams = s.streams ∧ (State.loadPause s p q quanta).time = s.time ∧
    (State.loadPause s p q quanta).align = s.align ∧ (State.loadPause s p q quanta).swage = s.swage ∧
    (State.loadPause s p q quanta).osc = s.osc ∧ (State.loadPause s p q quanta).isl = s.isl ∧
    (State.loadPause s p q quanta).sch = s.sch ∧ (State.loadPause s p q quanta).logic = s.logic ∧
    (State.loadPause s p q quanta).cap = s.cap ∧ (State.loadPause s p q quanta).pub = s.pub ∧
    (State.loadPause s p q quanta).pair = s.pair ∧ (State.loadPause s p q quanta).otp = s.otp ∧
    (State.loadPause s p q quanta).vault = s.vault ∧ (State.loadPause s p q quanta).emp = s.emp ∧
    (State.loadPause s p q quanta).tap = s.tap ∧ (State.loadPause s p q quanta).ext = s.ext ∧
    (State.loadPause s p q quanta).served = s.served ∧ (State.loadPause s p q quanta).free = s.free ∧
    (State.loadPause s p q quanta).pending = s.pending := by
  simp [State.loadPause]

@[simp] theorem State.dropLate_frame (s : State) (p q : Nat) :
    (State.dropLate s p q).boot = s.boot ∧ (State.dropLate s p q).img = s.img ∧ (State.dropLate s p q).flash = s.flash ∧
    (State.dropLate s p q).ctrsAt = s.ctrsAt ∧ (State.dropLate s p q).attn = s.attn ∧
    (State.dropLate s p q).partnerLog = s.partnerLog ∧ (State.dropLate s p q).bbx = s.bbx ∧
    (State.dropLate s p q).sens = s.sens ∧ (State.dropLate s p q).panel = s.panel ∧
    (State.dropLate s p q).cages = s.cages ∧ (State.dropLate s p q).tcp = s.tcp ∧
    (State.dropLate s p q).streams = s.streams ∧ (State.dropLate s p q).time = s.time ∧
    (State.dropLate s p q).align = s.align ∧ (State.dropLate s p q).swage = s.swage ∧
    (State.dropLate s p q).osc = s.osc ∧ (State.dropLate s p q).isl = s.isl ∧ (State.dropLate s p q).sch = s.sch ∧
    (State.dropLate s p q).logic = s.logic ∧ (State.dropLate s p q).cap = s.cap ∧ (State.dropLate s p q).pub = s.pub ∧
    (State.dropLate s p q).pair = s.pair ∧ (State.dropLate s p q).otp = s.otp ∧ (State.dropLate s p q).vault = s.vault ∧
    (State.dropLate s p q).emp = s.emp ∧ (State.dropLate s p q).tap = s.tap ∧ (State.dropLate s p q).ext = s.ext ∧
    (State.dropLate s p q).served = s.served ∧ (State.dropLate s p q).free = s.free ∧
    (State.dropLate s p q).pending = s.pending := by
  simp [State.dropLate]

@[simp] theorem State.ptpSend_frame (s : State) (i p kind seq : Nat) (stamp : Ns) :
    (State.ptpSend s i p kind seq stamp).boot = s.boot ∧ (State.ptpSend s i p kind seq stamp).img = s.img ∧
    (State.ptpSend s i p kind seq stamp).flash = s.flash ∧ (State.ptpSend s i p kind seq stamp).ctrsAt = s.ctrsAt ∧
    (State.ptpSend s i p kind seq stamp).attn = s.attn ∧ (State.ptpSend s i p kind seq stamp).partnerLog = s.partnerLog ∧
    (State.ptpSend s i p kind seq stamp).bbx = s.bbx ∧ (State.ptpSend s i p kind seq stamp).sens = s.sens ∧
    (State.ptpSend s i p kind seq stamp).panel = s.panel ∧ (State.ptpSend s i p kind seq stamp).cages = s.cages ∧
    (State.ptpSend s i p kind seq stamp).tcp = s.tcp ∧ (State.ptpSend s i p kind seq stamp).streams = s.streams ∧
    (State.ptpSend s i p kind seq stamp).time = s.time ∧ (State.ptpSend s i p kind seq stamp).align = s.align ∧
    (State.ptpSend s i p kind seq stamp).swage = s.swage ∧ (State.ptpSend s i p kind seq stamp).osc = s.osc ∧
    (State.ptpSend s i p kind seq stamp).isl = s.isl ∧ (State.ptpSend s i p kind seq stamp).sch = s.sch ∧
    (State.ptpSend s i p kind seq stamp).logic = s.logic ∧ (State.ptpSend s i p kind seq stamp).cap = s.cap ∧
    (State.ptpSend s i p kind seq stamp).pub = s.pub ∧ (State.ptpSend s i p kind seq stamp).pair = s.pair ∧
    (State.ptpSend s i p kind seq stamp).otp = s.otp ∧ (State.ptpSend s i p kind seq stamp).vault = s.vault ∧
    (State.ptpSend s i p kind seq stamp).emp = s.emp ∧ (State.ptpSend s i p kind seq stamp).tap = s.tap ∧
    (State.ptpSend s i p kind seq stamp).ext = s.ext ∧ (State.ptpSend s i p kind seq stamp).served = s.served ∧
    (State.ptpSend s i p kind seq stamp).free = s.free ∧ (State.ptpSend s i p kind seq stamp).pending = s.pending := by
  simp [State.ptpSend]

@[simp] theorem State.ptpDeparts_frame (s : State) (p : Nat) (b : TxBody) (stamp : Ns) :
    (State.ptpDeparts s p b stamp).boot = s.boot ∧ (State.ptpDeparts s p b stamp).img = s.img ∧
    (State.ptpDeparts s p b stamp).flash = s.flash ∧ (State.ptpDeparts s p b stamp).ctrsAt = s.ctrsAt ∧
    (State.ptpDeparts s p b stamp).attn = s.attn ∧ (State.ptpDeparts s p b stamp).partnerLog = s.partnerLog ∧
    (State.ptpDeparts s p b stamp).bbx = s.bbx ∧ (State.ptpDeparts s p b stamp).sens = s.sens ∧
    (State.ptpDeparts s p b stamp).panel = s.panel ∧ (State.ptpDeparts s p b stamp).cages = s.cages ∧
    (State.ptpDeparts s p b stamp).tcp = s.tcp ∧ (State.ptpDeparts s p b stamp).streams = s.streams ∧
    (State.ptpDeparts s p b stamp).align = s.align ∧ (State.ptpDeparts s p b stamp).swage = s.swage ∧
    (State.ptpDeparts s p b stamp).osc = s.osc ∧ (State.ptpDeparts s p b stamp).isl = s.isl ∧
    (State.ptpDeparts s p b stamp).sch = s.sch ∧ (State.ptpDeparts s p b stamp).logic = s.logic ∧
    (State.ptpDeparts s p b stamp).cap = s.cap ∧ (State.ptpDeparts s p b stamp).pub = s.pub ∧
    (State.ptpDeparts s p b stamp).pair = s.pair ∧ (State.ptpDeparts s p b stamp).otp = s.otp ∧
    (State.ptpDeparts s p b stamp).vault = s.vault ∧ (State.ptpDeparts s p b stamp).emp = s.emp ∧
    (State.ptpDeparts s p b stamp).tap = s.tap ∧ (State.ptpDeparts s p b stamp).ext = s.ext ∧
    (State.ptpDeparts s p b stamp).served = s.served ∧ (State.ptpDeparts s p b stamp).free = s.free ∧
    (State.ptpDeparts s p b stamp).pending = s.pending := by
  unfold State.ptpDeparts
  try dsimp only
  repeat' split
  all_goals simp

@[simp] theorem State.dropHead_frame (s : State) (p : Nat) :
    (State.dropHead s p).boot = s.boot ∧ (State.dropHead s p).img = s.img ∧ (State.dropHead s p).flash = s.flash ∧
    (State.dropHead s p).ctrsAt = s.ctrsAt ∧ (State.dropHead s p).attn = s.attn ∧
    (State.dropHead s p).partnerLog = s.partnerLog ∧ (State.dropHead s p).bbx = s.bbx ∧
    (State.dropHead s p).sens = s.sens ∧ (State.dropHead s p).panel = s.panel ∧ (State.dropHead s p).cages = s.cages ∧
    (State.dropHead s p).tcp = s.tcp ∧ (State.dropHead s p).streams = s.streams ∧ (State.dropHead s p).time = s.time ∧
    (State.dropHead s p).align = s.align ∧ (State.dropHead s p).swage = s.swage ∧ (State.dropHead s p).osc = s.osc ∧
    (State.dropHead s p).isl = s.isl ∧ (State.dropHead s p).sch = s.sch ∧ (State.dropHead s p).logic = s.logic ∧
    (State.dropHead s p).cap = s.cap ∧ (State.dropHead s p).pub = s.pub ∧ (State.dropHead s p).pair = s.pair ∧
    (State.dropHead s p).otp = s.otp ∧ (State.dropHead s p).vault = s.vault ∧ (State.dropHead s p).emp = s.emp ∧
    (State.dropHead s p).tap = s.tap ∧ (State.dropHead s p).ext = s.ext ∧ (State.dropHead s p).served = s.served ∧
    (State.dropHead s p).free = s.free ∧ (State.dropHead s p).pending = s.pending := by
  unfold State.dropHead
  split <;> simp

@[simp] theorem State.startFrame_frame (s : State) (p q : Nat) (f : TxFrame) :
    (State.startFrame s p q f).boot = s.boot ∧ (State.startFrame s p q f).img = s.img ∧
    (State.startFrame s p q f).flash = s.flash ∧ (State.startFrame s p q f).ctrsAt = s.ctrsAt ∧
    (State.startFrame s p q f).attn = s.attn ∧ (State.startFrame s p q f).partnerLog = s.partnerLog ∧
    (State.startFrame s p q f).bbx = s.bbx ∧ (State.startFrame s p q f).sens = s.sens ∧
    (State.startFrame s p q f).panel = s.panel ∧ (State.startFrame s p q f).cages = s.cages ∧
    (State.startFrame s p q f).tcp = s.tcp ∧ (State.startFrame s p q f).streams = s.streams ∧
    (State.startFrame s p q f).align = s.align ∧ (State.startFrame s p q f).swage = s.swage ∧
    (State.startFrame s p q f).osc = s.osc ∧ (State.startFrame s p q f).isl = s.isl ∧
    (State.startFrame s p q f).sch = s.sch ∧ (State.startFrame s p q f).logic = s.logic ∧
    (State.startFrame s p q f).cap = s.cap ∧ (State.startFrame s p q f).pub = s.pub ∧
    (State.startFrame s p q f).pair = s.pair ∧ (State.startFrame s p q f).otp = s.otp ∧
    (State.startFrame s p q f).vault = s.vault ∧ (State.startFrame s p q f).emp = s.emp ∧
    (State.startFrame s p q f).tap = s.tap ∧ (State.startFrame s p q f).ext = s.ext ∧
    (State.startFrame s p q f).served = s.served ∧ (State.startFrame s p q f).free = s.free ∧
    (State.startFrame s p q f).pending = s.pending := by
  simp [State.startFrame]

@[simp] theorem State.linkFalls_frame (s : State) (p : Nat) (receiving : Bool) :
    (State.linkFalls s p receiving).boot = s.boot ∧ (State.linkFalls s p receiving).img = s.img ∧
    (State.linkFalls s p receiving).flash = s.flash ∧ (State.linkFalls s p receiving).ctrsAt = s.ctrsAt ∧
    (State.linkFalls s p receiving).attn = s.attn ∧ (State.linkFalls s p receiving).partnerLog = s.partnerLog ∧
    (State.linkFalls s p receiving).bbx = s.bbx ∧ (State.linkFalls s p receiving).sens = s.sens ∧
    (State.linkFalls s p receiving).panel = s.panel ∧ (State.linkFalls s p receiving).cages = s.cages ∧
    (State.linkFalls s p receiving).tcp = s.tcp ∧ (State.linkFalls s p receiving).streams = s.streams ∧
    (State.linkFalls s p receiving).time = s.time ∧ (State.linkFalls s p receiving).align = s.align ∧
    (State.linkFalls s p receiving).swage = s.swage ∧ (State.linkFalls s p receiving).osc = s.osc ∧
    (State.linkFalls s p receiving).isl = s.isl ∧ (State.linkFalls s p receiving).sch = s.sch ∧
    (State.linkFalls s p receiving).logic = s.logic ∧ (State.linkFalls s p receiving).cap = s.cap ∧
    (State.linkFalls s p receiving).pub = s.pub ∧ (State.linkFalls s p receiving).pair = s.pair ∧
    (State.linkFalls s p receiving).otp = s.otp ∧ (State.linkFalls s p receiving).vault = s.vault ∧
    (State.linkFalls s p receiving).emp = s.emp ∧ (State.linkFalls s p receiving).tap = s.tap ∧
    (State.linkFalls s p receiving).ext = s.ext ∧ (State.linkFalls s p receiving).served = s.served ∧
    (State.linkFalls s p receiving).free = s.free ∧ (State.linkFalls s p receiving).pending = s.pending := by
  simp [State.linkFalls]

end Sys2Proof.Machine
end

