-- ==== Sys2Proof/Laws/FrameTcp.lean ====
section
/-! SUPPORT. What each operation of Machine/Tcp.lean leaves unchanged: one frame lemma per operation. -/

namespace Sys2Proof.Machine

@[simp] theorem State.takeAck_frame (s : State) (sid : Nat) (a : Option (BitVec 32)) :
    (State.takeAck s sid a).boot = s.boot ∧ (State.takeAck s sid a).img = s.img ∧
    (State.takeAck s sid a).flash = s.flash ∧ (State.takeAck s sid a).ctrs = s.ctrs ∧
    (State.takeAck s sid a).ctrsAt = s.ctrsAt ∧ (State.takeAck s sid a).attn = s.attn ∧
    (State.takeAck s sid a).partnerLog = s.partnerLog ∧ (State.takeAck s sid a).bbx = s.bbx ∧
    (State.takeAck s sid a).sens = s.sens ∧ (State.takeAck s sid a).panel = s.panel ∧
    (State.takeAck s sid a).ports = s.ports ∧ (State.takeAck s sid a).cages = s.cages ∧
    (State.takeAck s sid a).streams = s.streams ∧ (State.takeAck s sid a).time = s.time ∧
    (State.takeAck s sid a).align = s.align ∧ (State.takeAck s sid a).swage = s.swage ∧
    (State.takeAck s sid a).osc = s.osc ∧ (State.takeAck s sid a).isl = s.isl ∧ (State.takeAck s sid a).sch = s.sch ∧
    (State.takeAck s sid a).logic = s.logic ∧ (State.takeAck s sid a).cap = s.cap ∧ (State.takeAck s sid a).pub = s.pub ∧
    (State.takeAck s sid a).pair = s.pair ∧ (State.takeAck s sid a).otp = s.otp ∧
    (State.takeAck s sid a).vault = s.vault ∧ (State.takeAck s sid a).emp = s.emp ∧ (State.takeAck s sid a).tap = s.tap ∧
    (State.takeAck s sid a).ext = s.ext ∧ (State.takeAck s sid a).served = s.served ∧
    (State.takeAck s sid a).free = s.free ∧ (State.takeAck s sid a).pending = s.pending := by
  unfold State.takeAck
  split <;> simp

@[simp] theorem State.takeData_frame (s : State) (sid : Nat) (seg : TcpSeg) :
    (State.takeData s sid seg).boot = s.boot ∧ (State.takeData s sid seg).img = s.img ∧
    (State.takeData s sid seg).flash = s.flash ∧ (State.takeData s sid seg).ctrsAt = s.ctrsAt ∧
    (State.takeData s sid seg).partnerLog = s.partnerLog ∧ (State.takeData s sid seg).bbx = s.bbx ∧
    (State.takeData s sid seg).sens = s.sens ∧ (State.takeData s sid seg).panel = s.panel ∧
    (State.takeData s sid seg).cages = s.cages ∧ (State.takeData s sid seg).time = s.time ∧
    (State.takeData s sid seg).align = s.align ∧ (State.takeData s sid seg).swage = s.swage ∧
    (State.takeData s sid seg).osc = s.osc ∧ (State.takeData s sid seg).isl = s.isl ∧
    (State.takeData s sid seg).sch = s.sch ∧ (State.takeData s sid seg).logic = s.logic ∧
    (State.takeData s sid seg).cap = s.cap ∧ (State.takeData s sid seg).pub = s.pub ∧
    (State.takeData s sid seg).otp = s.otp ∧ (State.takeData s sid seg).vault = s.vault ∧
    (State.takeData s sid seg).emp = s.emp ∧ (State.takeData s sid seg).tap = s.tap ∧
    (State.takeData s sid seg).ext = s.ext ∧ (State.takeData s sid seg).served = s.served ∧
    (State.takeData s sid seg).free = s.free ∧ (State.takeData s sid seg).pending = s.pending := by
  simp [State.takeData]

@[simp] theorem State.tcpTake_frame (s : State) (sid : Nat) (seg : TcpSeg) :
    (State.tcpTake s sid seg).boot = s.boot ∧ (State.tcpTake s sid seg).img = s.img ∧
    (State.tcpTake s sid seg).flash = s.flash ∧ (State.tcpTake s sid seg).ctrsAt = s.ctrsAt ∧
    (State.tcpTake s sid seg).partnerLog = s.partnerLog ∧ (State.tcpTake s sid seg).bbx = s.bbx ∧
    (State.tcpTake s sid seg).sens = s.sens ∧ (State.tcpTake s sid seg).panel = s.panel ∧
    (State.tcpTake s sid seg).cages = s.cages ∧ (State.tcpTake s sid seg).time = s.time ∧
    (State.tcpTake s sid seg).align = s.align ∧ (State.tcpTake s sid seg).swage = s.swage ∧
    (State.tcpTake s sid seg).osc = s.osc ∧ (State.tcpTake s sid seg).isl = s.isl ∧
    (State.tcpTake s sid seg).sch = s.sch ∧ (State.tcpTake s sid seg).logic = s.logic ∧
    (State.tcpTake s sid seg).cap = s.cap ∧ (State.tcpTake s sid seg).pub = s.pub ∧
    (State.tcpTake s sid seg).otp = s.otp ∧ (State.tcpTake s sid seg).vault = s.vault ∧
    (State.tcpTake s sid seg).emp = s.emp ∧ (State.tcpTake s sid seg).tap = s.tap ∧
    (State.tcpTake s sid seg).ext = s.ext ∧ (State.tcpTake s sid seg).served = s.served ∧
    (State.tcpTake s sid seg).free = s.free ∧ (State.tcpTake s sid seg).pending = s.pending := by
  unfold State.tcpTake
  try dsimp only
  repeat' split
  all_goals simp

end Sys2Proof.Machine
end

