-- ==== Sys2Proof/Laws/FrameIntake.lean ====
section
/-! SUPPORT. What each operation of Machine/Intake.lean leaves unchanged: one frame lemma per operation. -/

namespace Sys2Proof.Machine

@[simp] theorem State.fillPartner_frame (s : State) (d : Delivery) (body : UdpBody) :
    (State.fillPartner s d body).boot = s.boot ∧ (State.fillPartner s d body).img = s.img ∧
    (State.fillPartner s d body).flash = s.flash ∧ (State.fillPartner s d body).ctrsAt = s.ctrsAt ∧
    (State.fillPartner s d body).attn = s.attn ∧ (State.fillPartner s d body).partnerLog = s.partnerLog ∧
    (State.fillPartner s d body).bbx = s.bbx ∧ (State.fillPartner s d body).sens = s.sens ∧
    (State.fillPartner s d body).panel = s.panel ∧ (State.fillPartner s d body).cages = s.cages ∧
    (State.fillPartner s d body).tcp = s.tcp ∧ (State.fillPartner s d body).streams = s.streams ∧
    (State.fillPartner s d body).time = s.time ∧ (State.fillPartner s d body).align = s.align ∧
    (State.fillPartner s d body).swage = s.swage ∧ (State.fillPartner s d body).osc = s.osc ∧
    (State.fillPartner s d body).isl = s.isl ∧ (State.fillPartner s d body).logic = s.logic ∧
    (State.fillPartner s d body).cap = s.cap ∧ (State.fillPartner s d body).pub = s.pub ∧
    (State.fillPartner s d body).otp = s.otp ∧ (State.fillPartner s d body).vault = s.vault ∧
    (State.fillPartner s d body).emp = s.emp ∧ (State.fillPartner s d body).tap = s.tap ∧
    (State.fillPartner s d body).ext = s.ext ∧ (State.fillPartner s d body).served = s.served ∧
    (State.fillPartner s d body).free = s.free ∧ (State.fillPartner s d body).pending = s.pending := by
  simp [State.fillPartner]

@[simp] theorem State.streamAlive_frame (s : State) (sid : Nat) :
    (State.streamAlive s sid).boot = s.boot ∧ (State.streamAlive s sid).img = s.img ∧
    (State.streamAlive s sid).flash = s.flash ∧ (State.streamAlive s sid).ctrsAt = s.ctrsAt ∧
    (State.streamAlive s sid).partnerLog = s.partnerLog ∧ (State.streamAlive s sid).bbx = s.bbx ∧
    (State.streamAlive s sid).sens = s.sens ∧ (State.streamAlive s sid).panel = s.panel ∧
    (State.streamAlive s sid).cages = s.cages ∧ (State.streamAlive s sid).tcp = s.tcp ∧
    (State.streamAlive s sid).time = s.time ∧ (State.streamAlive s sid).align = s.align ∧
    (State.streamAlive s sid).swage = s.swage ∧ (State.streamAlive s sid).osc = s.osc ∧
    (State.streamAlive s sid).isl = s.isl ∧ (State.streamAlive s sid).sch = s.sch ∧
    (State.streamAlive s sid).logic = s.logic ∧ (State.streamAlive s sid).cap = s.cap ∧
    (State.streamAlive s sid).pub = s.pub ∧ (State.streamAlive s sid).otp = s.otp ∧
    (State.streamAlive s sid).vault = s.vault ∧ (State.streamAlive s sid).emp = s.emp ∧
    (State.streamAlive s sid).tap = s.tap ∧ (State.streamAlive s sid).ext = s.ext ∧
    (State.streamAlive s sid).served = s.served ∧ (State.streamAlive s sid).free = s.free ∧
    (State.streamAlive s sid).pending = s.pending := by
  unfold State.streamAlive
  split <;> simp

@[simp] theorem State.deliver_frame (s : State) (d : Delivery) (body : UdpBody) :
    (State.deliver s d body).boot = s.boot ∧ (State.deliver s d body).img = s.img ∧
    (State.deliver s d body).flash = s.flash ∧ (State.deliver s d body).ctrsAt = s.ctrsAt ∧
    (State.deliver s d body).partnerLog = s.partnerLog ∧ (State.deliver s d body).bbx = s.bbx ∧
    (State.deliver s d body).sens = s.sens ∧ (State.deliver s d body).panel = s.panel ∧
    (State.deliver s d body).cages = s.cages ∧ (State.deliver s d body).time = s.time ∧
    (State.deliver s d body).osc = s.osc ∧ (State.deliver s d body).isl = s.isl ∧ (State.deliver s d body).otp = s.otp ∧
    (State.deliver s d body).vault = s.vault ∧ (State.deliver s d body).emp = s.emp ∧
    (State.deliver s d body).tap = s.tap ∧ (State.deliver s d body).ext = s.ext ∧
    (State.deliver s d body).served = s.served ∧ (State.deliver s d body).free = s.free ∧
    (State.deliver s d body).pending = s.pending := by
  simp [State.deliver]

@[simp] theorem State.window7_frame (s : State) (d : Delivery) :
    ((State.window7 s d).1).boot = s.boot ∧ ((State.window7 s d).1).img = s.img ∧
    ((State.window7 s d).1).flash = s.flash ∧ ((State.window7 s d).1).ctrsAt = s.ctrsAt ∧
    ((State.window7 s d).1).partnerLog = s.partnerLog ∧ ((State.window7 s d).1).bbx = s.bbx ∧
    ((State.window7 s d).1).sens = s.sens ∧ ((State.window7 s d).1).panel = s.panel ∧
    ((State.window7 s d).1).cages = s.cages ∧ ((State.window7 s d).1).tcp = s.tcp ∧
    ((State.window7 s d).1).time = s.time ∧ ((State.window7 s d).1).align = s.align ∧
    ((State.window7 s d).1).swage = s.swage ∧ ((State.window7 s d).1).osc = s.osc ∧ ((State.window7 s d).1).isl = s.isl ∧
    ((State.window7 s d).1).sch = s.sch ∧ ((State.window7 s d).1).logic = s.logic ∧ ((State.window7 s d).1).cap = s.cap ∧
    ((State.window7 s d).1).pub = s.pub ∧ ((State.window7 s d).1).otp = s.otp ∧ ((State.window7 s d).1).vault = s.vault ∧
    ((State.window7 s d).1).emp = s.emp ∧ ((State.window7 s d).1).tap = s.tap ∧ ((State.window7 s d).1).ext = s.ext ∧
    ((State.window7 s d).1).served = s.served ∧ ((State.window7 s d).1).free = s.free ∧
    ((State.window7 s d).1).pending = s.pending := by
  unfold State.window7
  try dsimp only
  repeat' split
  all_goals simp

@[simp] theorem State.tagCheck_frame (s : State) (d : Delivery) :
    ((State.tagCheck s d).1).boot = s.boot ∧ ((State.tagCheck s d).1).img = s.img ∧
    ((State.tagCheck s d).1).flash = s.flash ∧ ((State.tagCheck s d).1).ctrsAt = s.ctrsAt ∧
    ((State.tagCheck s d).1).partnerLog = s.partnerLog ∧ ((State.tagCheck s d).1).bbx = s.bbx ∧
    ((State.tagCheck s d).1).sens = s.sens ∧ ((State.tagCheck s d).1).panel = s.panel ∧
    ((State.tagCheck s d).1).cages = s.cages ∧ ((State.tagCheck s d).1).tcp = s.tcp ∧
    ((State.tagCheck s d).1).time = s.time ∧ ((State.tagCheck s d).1).align = s.align ∧
    ((State.tagCheck s d).1).swage = s.swage ∧ ((State.tagCheck s d).1).osc = s.osc ∧
    ((State.tagCheck s d).1).isl = s.isl ∧ ((State.tagCheck s d).1).sch = s.sch ∧
    ((State.tagCheck s d).1).logic = s.logic ∧ ((State.tagCheck s d).1).cap = s.cap ∧
    ((State.tagCheck s d).1).pub = s.pub ∧ ((State.tagCheck s d).1).otp = s.otp ∧
    ((State.tagCheck s d).1).vault = s.vault ∧ ((State.tagCheck s d).1).emp = s.emp ∧
    ((State.tagCheck s d).1).tap = s.tap ∧ ((State.tagCheck s d).1).ext = s.ext ∧
    ((State.tagCheck s d).1).served = s.served ∧ ((State.tagCheck s d).1).free = s.free ∧
    ((State.tagCheck s d).1).pending = s.pending := by
  unfold State.tagCheck
  try dsimp only
  repeat' split
  all_goals simp

@[simp] theorem State.parseDrop_frame (s : State) (sid : Nat) (c : Ctr) :
    (State.parseDrop s sid c).boot = s.boot ∧ (State.parseDrop s sid c).img = s.img ∧
    (State.parseDrop s sid c).flash = s.flash ∧ (State.parseDrop s sid c).ctrsAt = s.ctrsAt ∧
    (State.parseDrop s sid c).attn = s.attn ∧ (State.parseDrop s sid c).partnerLog = s.partnerLog ∧
    (State.parseDrop s sid c).bbx = s.bbx ∧ (State.parseDrop s sid c).sens = s.sens ∧
    (State.parseDrop s sid c).panel = s.panel ∧ (State.parseDrop s sid c).ports = s.ports ∧
    (State.parseDrop s sid c).cages = s.cages ∧ (State.parseDrop s sid c).tcp = s.tcp ∧
    (State.parseDrop s sid c).time = s.time ∧ (State.parseDrop s sid c).align = s.align ∧
    (State.parseDrop s sid c).swage = s.swage ∧ (State.parseDrop s sid c).osc = s.osc ∧
    (State.parseDrop s sid c).isl = s.isl ∧ (State.parseDrop s sid c).sch = s.sch ∧
    (State.parseDrop s sid c).logic = s.logic ∧ (State.parseDrop s sid c).cap = s.cap ∧
    (State.parseDrop s sid c).pub = s.pub ∧ (State.parseDrop s sid c).pair = s.pair ∧
    (State.parseDrop s sid c).otp = s.otp ∧ (State.parseDrop s sid c).vault = s.vault ∧
    (State.parseDrop s sid c).emp = s.emp ∧ (State.parseDrop s sid c).tap = s.tap ∧
    (State.parseDrop s sid c).ext = s.ext ∧ (State.parseDrop s sid c).served = s.served ∧
    (State.parseDrop s sid c).free = s.free ∧ (State.parseDrop s sid c).pending = s.pending := by
  simp [State.parseDrop]

@[simp] theorem State.c37Marks_frame (s : State) (sid p kind : Nat) (arrival : Ns) (b : Bytes) :
    ((State.c37Marks s sid p kind arrival b).1).boot = s.boot ∧ ((State.c37Marks s sid p kind arrival b).1).img = s.img ∧
    ((State.c37Marks s sid p kind arrival b).1).flash = s.flash ∧
    ((State.c37Marks s sid p kind arrival b).1).ctrsAt = s.ctrsAt ∧
    ((State.c37Marks s sid p kind arrival b).1).attn = s.attn ∧
    ((State.c37Marks s sid p kind arrival b).1).partnerLog = s.partnerLog ∧
    ((State.c37Marks s sid p kind arrival b).1).bbx = s.bbx ∧ ((State.c37Marks s sid p kind arrival b).1).sens = s.sens ∧
    ((State.c37Marks s sid p kind arrival b).1).panel = s.panel ∧
    ((State.c37Marks s sid p kind arrival b).1).ports = s.ports ∧
    ((State.c37Marks s sid p kind arrival b).1).cages = s.cages ∧
    ((State.c37Marks s sid p kind arrival b).1).tcp = s.tcp ∧
    ((State.c37Marks s sid p kind arrival b).1).streams = s.streams ∧
    ((State.c37Marks s sid p kind arrival b).1).time = s.time ∧
    ((State.c37Marks s sid p kind arrival b).1).align = s.align ∧
    ((State.c37Marks s sid p kind arrival b).1).swage = s.swage ∧
    ((State.c37Marks s sid p kind arrival b).1).osc = s.osc ∧ ((State.c37Marks s sid p kind arrival b).1).isl = s.isl ∧
    ((State.c37Marks s sid p kind arrival b).1).sch = s.sch ∧
    ((State.c37Marks s sid p kind arrival b).1).logic = s.logic ∧
    ((State.c37Marks s sid p kind arrival b).1).cap = s.cap ∧ ((State.c37Marks s sid p kind arrival b).1).pub = s.pub ∧
    ((State.c37Marks s sid p kind arrival b).1).pair = s.pair ∧ ((State.c37Marks s sid p kind arrival b).1).otp = s.otp ∧
    ((State.c37Marks s sid p kind arrival b).1).vault = s.vault ∧
    ((State.c37Marks s sid p kind arrival b).1).emp = s.emp ∧ ((State.c37Marks s sid p kind arrival b).1).tap = s.tap ∧
    ((State.c37Marks s sid p kind arrival b).1).ext = s.ext ∧
    ((State.c37Marks s sid p kind arrival b).1).served = s.served ∧
    ((State.c37Marks s sid p kind arrival b).1).free = s.free ∧
    ((State.c37Marks s sid p kind arrival b).1).pending = s.pending := by
  simp [State.c37Marks]

@[simp] theorem State.parseC37_frame (s : State) (sid p kind : Nat) (arrival : Ns) (b : Bytes) :
    ((State.parseC37 s sid p kind arrival b).1).boot = s.boot ∧ ((State.parseC37 s sid p kind arrival b).1).img = s.img ∧
    ((State.parseC37 s sid p kind arrival b).1).flash = s.flash ∧
    ((State.parseC37 s sid p kind arrival b).1).ctrsAt = s.ctrsAt ∧
    ((State.parseC37 s sid p kind arrival b).1).partnerLog = s.partnerLog ∧
    ((State.parseC37 s sid p kind arrival b).1).bbx = s.bbx ∧ ((State.parseC37 s sid p kind arrival b).1).sens = s.sens ∧
    ((State.parseC37 s sid p kind arrival b).1).panel = s.panel ∧
    ((State.parseC37 s sid p kind arrival b).1).cages = s.cages ∧
    ((State.parseC37 s sid p kind arrival b).1).tcp = s.tcp ∧ ((State.parseC37 s sid p kind arrival b).1).time = s.time ∧
    ((State.parseC37 s sid p kind arrival b).1).align = s.align ∧
    ((State.parseC37 s sid p kind arrival b).1).swage = s.swage ∧
    ((State.parseC37 s sid p kind arrival b).1).osc = s.osc ∧ ((State.parseC37 s sid p kind arrival b).1).isl = s.isl ∧
    ((State.parseC37 s sid p kind arrival b).1).sch = s.sch ∧
    ((State.parseC37 s sid p kind arrival b).1).logic = s.logic ∧
    ((State.parseC37 s sid p kind arrival b).1).cap = s.cap ∧ ((State.parseC37 s sid p kind arrival b).1).pub = s.pub ∧
    ((State.parseC37 s sid p kind arrival b).1).otp = s.otp ∧
    ((State.parseC37 s sid p kind arrival b).1).vault = s.vault ∧
    ((State.parseC37 s sid p kind arrival b).1).emp = s.emp ∧ ((State.parseC37 s sid p kind arrival b).1).tap = s.tap ∧
    ((State.parseC37 s sid p kind arrival b).1).ext = s.ext ∧
    ((State.parseC37 s sid p kind arrival b).1).served = s.served ∧
    ((State.parseC37 s sid p kind arrival b).1).free = s.free ∧
    ((State.parseC37 s sid p kind arrival b).1).pending = s.pending := by
  unfold State.parseC37
  try dsimp only
  repeat' split
  all_goals simp

@[simp] theorem State.parseSv_frame (s : State) (sid p kind : Nat) (arrival : Ns) (f : SvFrame) :
    ((State.parseSv s sid p kind arrival f).1).boot = s.boot ∧ ((State.parseSv s sid p kind arrival f).1).img = s.img ∧
    ((State.parseSv s sid p kind arrival f).1).flash = s.flash ∧
    ((State.parseSv s sid p kind arrival f).1).ctrsAt = s.ctrsAt ∧
    ((State.parseSv s sid p kind arrival f).1).partnerLog = s.partnerLog ∧
    ((State.parseSv s sid p kind arrival f).1).bbx = s.bbx ∧ ((State.parseSv s sid p kind arrival f).1).sens = s.sens ∧
    ((State.parseSv s sid p kind arrival f).1).panel = s.panel ∧
    ((State.parseSv s sid p kind arrival f).1).cages = s.cages ∧ ((State.parseSv s sid p kind arrival f).1).tcp = s.tcp ∧
    ((State.parseSv s sid p kind arrival f).1).time = s.time ∧
    ((State.parseSv s sid p kind arrival f).1).align = s.align ∧
    ((State.parseSv s sid p kind arrival f).1).swage = s.swage ∧ ((State.parseSv s sid p kind arrival f).1).osc = s.osc ∧
    ((State.parseSv s sid p kind arrival f).1).isl = s.isl ∧ ((State.parseSv s sid p kind arrival f).1).sch = s.sch ∧
    ((State.parseSv s sid p kind arrival f).1).logic = s.logic ∧ ((State.parseSv s sid p kind arrival f).1).cap = s.cap ∧
    ((State.parseSv s sid p kind arrival f).1).pub = s.pub ∧ ((State.parseSv s sid p kind arrival f).1).otp = s.otp ∧
    ((State.parseSv s sid p kind arrival f).1).vault = s.vault ∧ ((State.parseSv s sid p kind arrival f).1).emp = s.emp ∧
    ((State.parseSv s sid p kind arrival f).1).tap = s.tap ∧ ((State.parseSv s sid p kind arrival f).1).ext = s.ext ∧
    ((State.parseSv s sid p kind arrival f).1).served = s.served ∧
    ((State.parseSv s sid p kind arrival f).1).free = s.free ∧
    ((State.parseSv s sid p kind arrival f).1).pending = s.pending := by
  unfold State.parseSv
  try dsimp only
  repeat' split
  all_goals simp

@[simp] theorem State.parse_frame (s : State) (sid p : Nat) (arrival : Ns) (b : UdpBody) :
    ((State.parse s sid p arrival b).1).boot = s.boot ∧ ((State.parse s sid p arrival b).1).img = s.img ∧
    ((State.parse s sid p arrival b).1).flash = s.flash ∧ ((State.parse s sid p arrival b).1).ctrsAt = s.ctrsAt ∧
    ((State.parse s sid p arrival b).1).partnerLog = s.partnerLog ∧ ((State.parse s sid p arrival b).1).bbx = s.bbx ∧
    ((State.parse s sid p arrival b).1).sens = s.sens ∧ ((State.parse s sid p arrival b).1).panel = s.panel ∧
    ((State.parse s sid p arrival b).1).cages = s.cages ∧ ((State.parse s sid p arrival b).1).tcp = s.tcp ∧
    ((State.parse s sid p arrival b).1).time = s.time ∧ ((State.parse s sid p arrival b).1).align = s.align ∧
    ((State.parse s sid p arrival b).1).swage = s.swage ∧ ((State.parse s sid p arrival b).1).osc = s.osc ∧
    ((State.parse s sid p arrival b).1).isl = s.isl ∧ ((State.parse s sid p arrival b).1).sch = s.sch ∧
    ((State.parse s sid p arrival b).1).logic = s.logic ∧ ((State.parse s sid p arrival b).1).cap = s.cap ∧
    ((State.parse s sid p arrival b).1).pub = s.pub ∧ ((State.parse s sid p arrival b).1).otp = s.otp ∧
    ((State.parse s sid p arrival b).1).vault = s.vault ∧ ((State.parse s sid p arrival b).1).emp = s.emp ∧
    ((State.parse s sid p arrival b).1).tap = s.tap ∧ ((State.parse s sid p arrival b).1).ext = s.ext ∧
    ((State.parse s sid p arrival b).1).served = s.served ∧ ((State.parse s sid p arrival b).1).free = s.free ∧
    ((State.parse s sid p arrival b).1).pending = s.pending := by
  unfold State.parse
  split <;> simp

@[simp] theorem State.authFail_frame (s : State) (sid : Nat) :
    (State.authFail s sid).boot = s.boot ∧ (State.authFail s sid).img = s.img ∧ (State.authFail s sid).flash = s.flash ∧
    (State.authFail s sid).ctrsAt = s.ctrsAt ∧ (State.authFail s sid).partnerLog = s.partnerLog ∧
    (State.authFail s sid).bbx = s.bbx ∧ (State.authFail s sid).sens = s.sens ∧ (State.authFail s sid).panel = s.panel ∧
    (State.authFail s sid).cages = s.cages ∧ (State.authFail s sid).tcp = s.tcp ∧
    (State.authFail s sid).streams = s.streams ∧ (State.authFail s sid).time = s.time ∧
    (State.authFail s sid).align = s.align ∧ (State.authFail s sid).swage = s.swage ∧
    (State.authFail s sid).osc = s.osc ∧ (State.authFail s sid).isl = s.isl ∧ (State.authFail s sid).sch = s.sch ∧
    (State.authFail s sid).logic = s.logic ∧ (State.authFail s sid).cap = s.cap ∧ (State.authFail s sid).pub = s.pub ∧
    (State.authFail s sid).otp = s.otp ∧ (State.authFail s sid).vault = s.vault ∧ (State.authFail s sid).emp = s.emp ∧
    (State.authFail s sid).tap = s.tap ∧ (State.authFail s sid).ext = s.ext ∧ (State.authFail s sid).served = s.served ∧
    (State.authFail s sid).free = s.free ∧ (State.authFail s sid).pending = s.pending := by
  simp [State.authFail]

@[simp] theorem State.authenticate_frame (s : State) (sid : Nat) (b : UdpBody) :
    ((State.authenticate s sid b).1).boot = s.boot ∧ ((State.authenticate s sid b).1).img = s.img ∧
    ((State.authenticate s sid b).1).flash = s.flash ∧ ((State.authenticate s sid b).1).ctrsAt = s.ctrsAt ∧
    ((State.authenticate s sid b).1).partnerLog = s.partnerLog ∧ ((State.authenticate s sid b).1).bbx = s.bbx ∧
    ((State.authenticate s sid b).1).sens = s.sens ∧ ((State.authenticate s sid b).1).panel = s.panel ∧
    ((State.authenticate s sid b).1).cages = s.cages ∧ ((State.authenticate s sid b).1).tcp = s.tcp ∧
    ((State.authenticate s sid b).1).streams = s.streams ∧ ((State.authenticate s sid b).1).time = s.time ∧
    ((State.authenticate s sid b).1).align = s.align ∧ ((State.authenticate s sid b).1).swage = s.swage ∧
    ((State.authenticate s sid b).1).osc = s.osc ∧ ((State.authenticate s sid b).1).isl = s.isl ∧
    ((State.authenticate s sid b).1).sch = s.sch ∧ ((State.authenticate s sid b).1).logic = s.logic ∧
    ((State.authenticate s sid b).1).cap = s.cap ∧ ((State.authenticate s sid b).1).pub = s.pub ∧
    ((State.authenticate s sid b).1).otp = s.otp ∧ ((State.authenticate s sid b).1).emp = s.emp ∧
    ((State.authenticate s sid b).1).tap = s.tap ∧ ((State.authenticate s sid b).1).ext = s.ext ∧
    ((State.authenticate s sid b).1).served = s.served ∧ ((State.authenticate s sid b).1).free = s.free ∧
    ((State.authenticate s sid b).1).pending = s.pending := by
  unfold State.authenticate
  try dsimp only
  repeat' split
  all_goals simp

@[simp] theorem State.toHearth_frame (s : State) (p : Nat) (i : InFrame) :
    (State.toHearth s p i).boot = s.boot ∧ (State.toHearth s p i).img = s.img ∧ (State.toHearth s p i).flash = s.flash ∧
    (State.toHearth s p i).ctrsAt = s.ctrsAt ∧ (State.toHearth s p i).attn = s.attn ∧
    (State.toHearth s p i).partnerLog = s.partnerLog ∧ (State.toHearth s p i).bbx = s.bbx ∧
    (State.toHearth s p i).sens = s.sens ∧ (State.toHearth s p i).panel = s.panel ∧
    (State.toHearth s p i).ports = s.ports ∧ (State.toHearth s p i).cages = s.cages ∧
    (State.toHearth s p i).tcp = s.tcp ∧ (State.toHearth s p i).streams = s.streams ∧
    (State.toHearth s p i).align = s.align ∧ (State.toHearth s p i).swage = s.swage ∧
    (State.toHearth s p i).osc = s.osc ∧ (State.toHearth s p i).isl = s.isl ∧ (State.toHearth s p i).sch = s.sch ∧
    (State.toHearth s p i).logic = s.logic ∧ (State.toHearth s p i).cap = s.cap ∧ (State.toHearth s p i).pub = s.pub ∧
    (State.toHearth s p i).pair = s.pair ∧ (State.toHearth s p i).otp = s.otp ∧ (State.toHearth s p i).vault = s.vault ∧
    (State.toHearth s p i).emp = s.emp ∧ (State.toHearth s p i).tap = s.tap ∧ (State.toHearth s p i).ext = s.ext ∧
    (State.toHearth s p i).served = s.served ∧ (State.toHearth s p i).free = s.free ∧
    (State.toHearth s p i).pending = s.pending := by
  unfold State.toHearth
  try dsimp only
  repeat' split
  all_goals simp

@[simp] theorem State.streamPath_frame (s : State) (p sid : Nat) (i : InFrame) (b : UdpBody) :
    ((s.streamPath p sid i b).1).boot = s.boot ∧ ((s.streamPath p sid i b).1).img = s.img ∧
    ((s.streamPath p sid i b).1).flash = s.flash ∧ ((s.streamPath p sid i b).1).ctrsAt = s.ctrsAt ∧
    ((s.streamPath p sid i b).1).partnerLog = s.partnerLog ∧ ((s.streamPath p sid i b).1).bbx = s.bbx ∧
    ((s.streamPath p sid i b).1).sens = s.sens ∧ ((s.streamPath p sid i b).1).panel = s.panel ∧
    ((s.streamPath p sid i b).1).cages = s.cages ∧ ((s.streamPath p sid i b).1).tcp = s.tcp ∧
    ((s.streamPath p sid i b).1).time = s.time ∧ ((s.streamPath p sid i b).1).align = s.align ∧
    ((s.streamPath p sid i b).1).swage = s.swage ∧ ((s.streamPath p sid i b).1).osc = s.osc ∧
    ((s.streamPath p sid i b).1).isl = s.isl ∧ ((s.streamPath p sid i b).1).sch = s.sch ∧
    ((s.streamPath p sid i b).1).logic = s.logic ∧ ((s.streamPath p sid i b).1).cap = s.cap ∧
    ((s.streamPath p sid i b).1).pub = s.pub ∧ ((s.streamPath p sid i b).1).otp = s.otp ∧
    ((s.streamPath p sid i b).1).emp = s.emp ∧ ((s.streamPath p sid i b).1).tap = s.tap ∧
    ((s.streamPath p sid i b).1).ext = s.ext ∧ ((s.streamPath p sid i b).1).served = s.served ∧
    ((s.streamPath p sid i b).1).free = s.free ∧ ((s.streamPath p sid i b).1).pending = s.pending := by
  let P : State → Prop := (fun u : State =>
    u.boot = s.boot ∧ u.img = s.img ∧ u.flash = s.flash ∧ u.ctrsAt = s.ctrsAt ∧ u.partnerLog = s.partnerLog ∧
    u.bbx = s.bbx ∧ u.sens = s.sens ∧ u.panel = s.panel ∧ u.cages = s.cages ∧ u.tcp = s.tcp ∧ u.time = s.time ∧
    u.align = s.align ∧ u.swage = s.swage ∧ u.osc = s.osc ∧ u.isl = s.isl ∧ u.sch = s.sch ∧ u.logic = s.logic ∧
    u.cap = s.cap ∧ u.pub = s.pub ∧ u.otp = s.otp ∧ u.emp = s.emp ∧ u.tap = s.tap ∧ u.ext = s.ext ∧ u.served = s.served ∧
    u.free = s.free ∧ u.pending = s.pending)
  have h0 : P s := by simp [P]
  have h : P ((s.streamPath p sid i b).1) := by
    unfold State.streamPath
    have h1 : P (s.parse sid p i.stamp b).1 := by simp [P]
    split
    · simp [P]
    · split
      · next heq => rw [heq] at h1; exact h1
      · next u d heq =>
        rw [heq] at h1
        have h2 : P (u.authenticate sid b).1 := by simpa [P] using h1
        split
        · next heq => rw [heq] at h2; exact h2
        · next heq => rw [heq] at h2; simpa [P] using h2
  exact h


@[simp] theorem State.watchPath_frame (s : State) (p sid : Nat) (i : InFrame) (b : UdpBody) :
    (s.watchPath p sid i b).boot = s.boot ∧ (s.watchPath p sid i b).img = s.img ∧
    (s.watchPath p sid i b).flash = s.flash ∧ (s.watchPath p sid i b).ctrsAt = s.ctrsAt ∧
    (s.watchPath p sid i b).partnerLog = s.partnerLog ∧ (s.watchPath p sid i b).bbx = s.bbx ∧
    (s.watchPath p sid i b).sens = s.sens ∧ (s.watchPath p sid i b).panel = s.panel ∧
    (s.watchPath p sid i b).cages = s.cages ∧ (s.watchPath p sid i b).tcp = s.tcp ∧
    (s.watchPath p sid i b).time = s.time ∧ (s.watchPath p sid i b).align = s.align ∧
    (s.watchPath p sid i b).swage = s.swage ∧ (s.watchPath p sid i b).osc = s.osc ∧ (s.watchPath p sid i b).isl = s.isl ∧
    (s.watchPath p sid i b).sch = s.sch ∧ (s.watchPath p sid i b).logic = s.logic ∧ (s.watchPath p sid i b).cap = s.cap ∧
    (s.watchPath p sid i b).pub = s.pub ∧ (s.watchPath p sid i b).otp = s.otp ∧ (s.watchPath p sid i b).vault = s.vault ∧
    (s.watchPath p sid i b).emp = s.emp ∧ (s.watchPath p sid i b).tap = s.tap ∧ (s.watchPath p sid i b).ext = s.ext ∧
    (s.watchPath p sid i b).served = s.served ∧ (s.watchPath p sid i b).free = s.free ∧
    (s.watchPath p sid i b).pending = s.pending := by
  let P : State → Prop := (fun u : State =>
    u.boot = s.boot ∧ u.img = s.img ∧ u.flash = s.flash ∧ u.ctrsAt = s.ctrsAt ∧ u.partnerLog = s.partnerLog ∧
    u.bbx = s.bbx ∧ u.sens = s.sens ∧ u.panel = s.panel ∧ u.cages = s.cages ∧ u.tcp = s.tcp ∧ u.time = s.time ∧
    u.align = s.align ∧ u.swage = s.swage ∧ u.osc = s.osc ∧ u.isl = s.isl ∧ u.sch = s.sch ∧ u.logic = s.logic ∧
    u.cap = s.cap ∧ u.pub = s.pub ∧ u.otp = s.otp ∧ u.vault = s.vault ∧ u.emp = s.emp ∧ u.tap = s.tap ∧ u.ext = s.ext ∧
    u.served = s.served ∧ u.free = s.free ∧ u.pending = s.pending)
  have h0 : P s := by simp [P]
  have h : P (s.watchPath p sid i b) := by
    unfold State.watchPath
    have h1 : P (s.parse sid p i.stamp b).1 := by simp [P]
    split
    · next u d heq => rw [heq] at h1; simpa [P] using h1
    · next heq => rw [heq] at h1; exact h1
  exact h


theorem State.classify_frame (s t : State) (p : Nat) (i : InFrame) (h : s.classify p i = some t) :
    (t).boot = s.boot ∧ (t).img = s.img ∧ (t).flash = s.flash ∧ (t).ctrsAt = s.ctrsAt ∧ (t).partnerLog = s.partnerLog ∧
    (t).bbx = s.bbx ∧ (t).sens = s.sens ∧ (t).panel = s.panel ∧ (t).cages = s.cages ∧ (t).osc = s.osc ∧ (t).isl = s.isl ∧
    (t).otp = s.otp ∧ (t).emp = s.emp ∧ (t).tap = s.tap ∧ (t).ext = s.ext ∧ (t).served = s.served ∧ (t).free = s.free ∧
    (t).pending = s.pending := by
  unfold State.classify at h
  dsimp only at h
  repeat' split at h
  all_goals first
    | (obtain rfl := Option.some.inj h; simp; done)
    | (obtain rfl := Option.some.inj h; rename_i h2; have h1 := congrArg Prod.fst h2; dsimp only at h1; subst h1; simp; done)
    | (obtain rfl := Option.some.inj h; rename_i h2 _; have h1 := congrArg Prod.fst h2; dsimp only at h1; subst h1; simp; done)
    | cases h


@[simp] theorem State.takeFill_frame (s : State) (h : FillHdr) (b : UdpBody) :
    (State.takeFill s h b).boot = s.boot ∧ (State.takeFill s h b).img = s.img ∧ (State.takeFill s h b).flash = s.flash ∧
    (State.takeFill s h b).ctrsAt = s.ctrsAt ∧ (State.takeFill s h b).partnerLog = s.partnerLog ∧
    (State.takeFill s h b).bbx = s.bbx ∧ (State.takeFill s h b).sens = s.sens ∧ (State.takeFill s h b).panel = s.panel ∧
    (State.takeFill s h b).cages = s.cages ∧ (State.takeFill s h b).time = s.time ∧ (State.takeFill s h b).osc = s.osc ∧
    (State.takeFill s h b).isl = s.isl ∧ (State.takeFill s h b).otp = s.otp ∧ (State.takeFill s h b).vault = s.vault ∧
    (State.takeFill s h b).emp = s.emp ∧ (State.takeFill s h b).tap = s.tap ∧ (State.takeFill s h b).ext = s.ext ∧
    (State.takeFill s h b).served = s.served ∧ (State.takeFill s h b).free = s.free ∧
    (State.takeFill s h b).pending = s.pending := by
  unfold State.takeFill
  try dsimp only
  repeat' split
  all_goals first
    | (simp; done)
    | (rename_i h; have h1 := congrArg Prod.fst h; dsimp only at h1; subst h1; simp; done)
    | (rename_i h _; have h1 := congrArg Prod.fst h; dsimp only at h1; subst h1; simp; done)
    | (rename_i h _ _; have h1 := congrArg Prod.fst h; dsimp only at h1; subst h1; simp; done)

@[simp] theorem State.countIdle_frame (s : State) :
    (State.countIdle s).boot = s.boot ∧ (State.countIdle s).img = s.img ∧ (State.countIdle s).flash = s.flash ∧
    (State.countIdle s).ctrs = s.ctrs ∧ (State.countIdle s).ctrsAt = s.ctrsAt ∧ (State.countIdle s).attn = s.attn ∧
    (State.countIdle s).partnerLog = s.partnerLog ∧ (State.countIdle s).bbx = s.bbx ∧ (State.countIdle s).sens = s.sens ∧
    (State.countIdle s).panel = s.panel ∧ (State.countIdle s).ports = s.ports ∧ (State.countIdle s).cages = s.cages ∧
    (State.countIdle s).tcp = s.tcp ∧ (State.countIdle s).time = s.time ∧ (State.countIdle s).align = s.align ∧
    (State.countIdle s).swage = s.swage ∧ (State.countIdle s).osc = s.osc ∧ (State.countIdle s).isl = s.isl ∧
    (State.countIdle s).sch = s.sch ∧ (State.countIdle s).logic = s.logic ∧ (State.countIdle s).cap = s.cap ∧
    (State.countIdle s).pub = s.pub ∧ (State.countIdle s).pair = s.pair ∧ (State.countIdle s).otp = s.otp ∧
    (State.countIdle s).vault = s.vault ∧ (State.countIdle s).emp = s.emp ∧ (State.countIdle s).tap = s.tap ∧
    (State.countIdle s).ext = s.ext ∧ (State.countIdle s).served = s.served ∧ (State.countIdle s).free = s.free ∧
    (State.countIdle s).pending = s.pending := by
  simp [State.countIdle]

end Sys2Proof.Machine
end

