-- ==== Sys2Proof/Laws/FramePublish.lean ====
section
/-! SUPPORT. What each operation of Machine/Publish.lean leaves unchanged: one frame lemma per operation. -/

namespace Sys2Proof.Machine

@[simp] theorem State.placeCopies_frame (s : State) (n : Nat) (launch : Ns) (inner : Nat) (b : TxBody) :
    (State.placeCopies s n launch inner b).boot = s.boot ∧ (State.placeCopies s n launch inner b).img = s.img ∧
    (State.placeCopies s n launch inner b).flash = s.flash ∧ (State.placeCopies s n launch inner b).ctrsAt = s.ctrsAt ∧
    (State.placeCopies s n launch inner b).attn = s.attn ∧
    (State.placeCopies s n launch inner b).partnerLog = s.partnerLog ∧
    (State.placeCopies s n launch inner b).bbx = s.bbx ∧ (State.placeCopies s n launch inner b).sens = s.sens ∧
    (State.placeCopies s n launch inner b).panel = s.panel ∧ (State.placeCopies s n launch inner b).cages = s.cages ∧
    (State.placeCopies s n launch inner b).tcp = s.tcp ∧ (State.placeCopies s n launch inner b).streams = s.streams ∧
    (State.placeCopies s n launch inner b).time = s.time ∧ (State.placeCopies s n launch inner b).align = s.align ∧
    (State.placeCopies s n launch inner b).swage = s.swage ∧ (State.placeCopies s n launch inner b).osc = s.osc ∧
    (State.placeCopies s n launch inner b).isl = s.isl ∧ (State.placeCopies s n launch inner b).sch = s.sch ∧
    (State.placeCopies s n launch inner b).logic = s.logic ∧ (State.placeCopies s n launch inner b).cap = s.cap ∧
    (State.placeCopies s n launch inner b).pub = s.pub ∧ (State.placeCopies s n launch inner b).pair = s.pair ∧
    (State.placeCopies s n launch inner b).otp = s.otp ∧ (State.placeCopies s n launch inner b).vault = s.vault ∧
    (State.placeCopies s n launch inner b).emp = s.emp ∧ (State.placeCopies s n launch inner b).tap = s.tap ∧
    (State.placeCopies s n launch inner b).ext = s.ext ∧ (State.placeCopies s n launch inner b).served = s.served ∧
    (State.placeCopies s n launch inner b).free = s.free ∧ (State.placeCopies s n launch inner b).pending = s.pending := by
  simp [State.placeCopies]

@[simp] theorem State.sendGoose_frame (s : State) (n : Nat) (launch : Ns) (vs : List VarVal) :
    (State.sendGoose s n launch vs).boot = s.boot ∧ (State.sendGoose s n launch vs).img = s.img ∧
    (State.sendGoose s n launch vs).flash = s.flash ∧ (State.sendGoose s n launch vs).ctrsAt = s.ctrsAt ∧
    (State.sendGoose s n launch vs).partnerLog = s.partnerLog ∧ (State.sendGoose s n launch vs).bbx = s.bbx ∧
    (State.sendGoose s n launch vs).sens = s.sens ∧ (State.sendGoose s n launch vs).panel = s.panel ∧
    (State.sendGoose s n launch vs).cages = s.cages ∧ (State.sendGoose s n launch vs).tcp = s.tcp ∧
    (State.sendGoose s n launch vs).time = s.time ∧ (State.sendGoose s n launch vs).align = s.align ∧
    (State.sendGoose s n launch vs).swage = s.swage ∧ (State.sendGoose s n launch vs).osc = s.osc ∧
    (State.sendGoose s n launch vs).isl = s.isl ∧ (State.sendGoose s n launch vs).sch = s.sch ∧
    (State.sendGoose s n launch vs).logic = s.logic ∧ (State.sendGoose s n launch vs).cap = s.cap ∧
    (State.sendGoose s n launch vs).otp = s.otp ∧ (State.sendGoose s n launch vs).emp = s.emp ∧
    (State.sendGoose s n launch vs).tap = s.tap ∧ (State.sendGoose s n launch vs).ext = s.ext ∧
    (State.sendGoose s n launch vs).served = s.served ∧ (State.sendGoose s n launch vs).free = s.free ∧
    (State.sendGoose s n launch vs).pending = s.pending := by
  simp [State.sendGoose]

@[simp] theorem State.sendSet_frame (s : State) (n : Nat) (t launch : Ns) (parts : List OutPart) :
    (State.sendSet s n t launch parts).boot = s.boot ∧ (State.sendSet s n t launch parts).img = s.img ∧
    (State.sendSet s n t launch parts).flash = s.flash ∧ (State.sendSet s n t launch parts).ctrsAt = s.ctrsAt ∧
    (State.sendSet s n t launch parts).partnerLog = s.partnerLog ∧ (State.sendSet s n t launch parts).bbx = s.bbx ∧
    (State.sendSet s n t launch parts).sens = s.sens ∧ (State.sendSet s n t launch parts).panel = s.panel ∧
    (State.sendSet s n t launch parts).cages = s.cages ∧ (State.sendSet s n t launch parts).tcp = s.tcp ∧
    (State.sendSet s n t launch parts).time = s.time ∧ (State.sendSet s n t launch parts).align = s.align ∧
    (State.sendSet s n t launch parts).swage = s.swage ∧ (State.sendSet s n t launch parts).osc = s.osc ∧
    (State.sendSet s n t launch parts).isl = s.isl ∧ (State.sendSet s n t launch parts).sch = s.sch ∧
    (State.sendSet s n t launch parts).logic = s.logic ∧ (State.sendSet s n t launch parts).cap = s.cap ∧
    (State.sendSet s n t launch parts).otp = s.otp ∧ (State.sendSet s n t launch parts).emp = s.emp ∧
    (State.sendSet s n t launch parts).tap = s.tap ∧ (State.sendSet s n t launch parts).ext = s.ext ∧
    (State.sendSet s n t launch parts).served = s.served ∧ (State.sendSet s n t launch parts).free = s.free ∧
    (State.sendSet s n t launch parts).pending = s.pending := by
  unfold State.sendSet
  try dsimp only
  repeat' split
  all_goals first
    | (simp; done)
    | (rename_i h; have h1 := congrArg Prod.fst h; dsimp only at h1; subst h1; simp; done)
    | (rename_i h _; have h1 := congrArg Prod.fst h; dsimp only at h1; subst h1; simp; done)
    | (rename_i h _ _; have h1 := congrArg Prod.fst h; dsimp only at h1; subst h1; simp; done)

@[simp] theorem State.takeTag_frame (s : State) (n : Nat) (t : Ns) :
    (State.takeTag s n t).boot = s.boot ∧ (State.takeTag s n t).img = s.img ∧ (State.takeTag s n t).flash = s.flash ∧
    (State.takeTag s n t).ctrs = s.ctrs ∧ (State.takeTag s n t).ctrsAt = s.ctrsAt ∧ (State.takeTag s n t).attn = s.attn ∧
    (State.takeTag s n t).partnerLog = s.partnerLog ∧ (State.takeTag s n t).bbx = s.bbx ∧
    (State.takeTag s n t).sens = s.sens ∧ (State.takeTag s n t).panel = s.panel ∧ (State.takeTag s n t).ports = s.ports ∧
    (State.takeTag s n t).cages = s.cages ∧ (State.takeTag s n t).tcp = s.tcp ∧ (State.takeTag s n t).time = s.time ∧
    (State.takeTag s n t).swage = s.swage ∧ (State.takeTag s n t).osc = s.osc ∧ (State.takeTag s n t).isl = s.isl ∧
    (State.takeTag s n t).sch = s.sch ∧ (State.takeTag s n t).logic = s.logic ∧ (State.takeTag s n t).cap = s.cap ∧
    (State.takeTag s n t).pair = s.pair ∧ (State.takeTag s n t).otp = s.otp ∧ (State.takeTag s n t).vault = s.vault ∧
    (State.takeTag s n t).emp = s.emp ∧ (State.takeTag s n t).tap = s.tap ∧ (State.takeTag s n t).ext = s.ext ∧
    (State.takeTag s n t).served = s.served ∧ (State.takeTag s n t).free = s.free ∧
    (State.takeTag s n t).pending = s.pending := by
  simp [State.takeTag]

@[simp] theorem State.launch_frame (s : State) (region n arg : Nat) (b : Ns) :
    (State.launch s region n arg b).boot = s.boot ∧ (State.launch s region n arg b).img = s.img ∧
    (State.launch s region n arg b).flash = s.flash ∧ (State.launch s region n arg b).ctrsAt = s.ctrsAt ∧
    (State.launch s region n arg b).partnerLog = s.partnerLog ∧ (State.launch s region n arg b).bbx = s.bbx ∧
    (State.launch s region n arg b).sens = s.sens ∧ (State.launch s region n arg b).panel = s.panel ∧
    (State.launch s region n arg b).cages = s.cages ∧ (State.launch s region n arg b).tcp = s.tcp ∧
    (State.launch s region n arg b).time = s.time ∧ (State.launch s region n arg b).swage = s.swage ∧
    (State.launch s region n arg b).osc = s.osc ∧ (State.launch s region n arg b).isl = s.isl ∧
    (State.launch s region n arg b).logic = s.logic ∧ (State.launch s region n arg b).cap = s.cap ∧
    (State.launch s region n arg b).otp = s.otp ∧ (State.launch s region n arg b).emp = s.emp ∧
    (State.launch s region n arg b).tap = s.tap ∧ (State.launch s region n arg b).ext = s.ext ∧
    (State.launch s region n arg b).served = s.served ∧ (State.launch s region n arg b).free = s.free ∧
    (State.launch s region n arg b).pending = s.pending := by
  unfold State.launch
  try dsimp only
  repeat' split
  all_goals simp

@[simp] theorem State.applySub_frame (s : State) (n peer : Nat) (on : Bool) :
    (State.applySub s n peer on).boot = s.boot ∧ (State.applySub s n peer on).img = s.img ∧
    (State.applySub s n peer on).flash = s.flash ∧ (State.applySub s n peer on).ctrsAt = s.ctrsAt ∧
    (State.applySub s n peer on).attn = s.attn ∧ (State.applySub s n peer on).partnerLog = s.partnerLog ∧
    (State.applySub s n peer on).bbx = s.bbx ∧ (State.applySub s n peer on).sens = s.sens ∧
    (State.applySub s n peer on).panel = s.panel ∧ (State.applySub s n peer on).cages = s.cages ∧
    (State.applySub s n peer on).tcp = s.tcp ∧ (State.applySub s n peer on).time = s.time ∧
    (State.applySub s n peer on).align = s.align ∧ (State.applySub s n peer on).swage = s.swage ∧
    (State.applySub s n peer on).osc = s.osc ∧ (State.applySub s n peer on).isl = s.isl ∧
    (State.applySub s n peer on).sch = s.sch ∧ (State.applySub s n peer on).logic = s.logic ∧
    (State.applySub s n peer on).cap = s.cap ∧ (State.applySub s n peer on).otp = s.otp ∧
    (State.applySub s n peer on).vault = s.vault ∧ (State.applySub s n peer on).emp = s.emp ∧
    (State.applySub s n peer on).tap = s.tap ∧ (State.applySub s n peer on).ext = s.ext ∧
    (State.applySub s n peer on).served = s.served ∧ (State.applySub s n peer on).free = s.free ∧
    (State.applySub s n peer on).pending = s.pending := by
  simp [State.applySub]

@[simp] theorem State.applySubs_frame (s : State) :
    (State.applySubs s).boot = s.boot ∧ (State.applySubs s).img = s.img ∧ (State.applySubs s).flash = s.flash ∧
    (State.applySubs s).ctrsAt = s.ctrsAt ∧ (State.applySubs s).attn = s.attn ∧
    (State.applySubs s).partnerLog = s.partnerLog ∧ (State.applySubs s).bbx = s.bbx ∧ (State.applySubs s).sens = s.sens ∧
    (State.applySubs s).panel = s.panel ∧ (State.applySubs s).cages = s.cages ∧ (State.applySubs s).tcp = s.tcp ∧
    (State.applySubs s).time = s.time ∧ (State.applySubs s).align = s.align ∧ (State.applySubs s).swage = s.swage ∧
    (State.applySubs s).osc = s.osc ∧ (State.applySubs s).isl = s.isl ∧ (State.applySubs s).sch = s.sch ∧
    (State.applySubs s).logic = s.logic ∧ (State.applySubs s).cap = s.cap ∧ (State.applySubs s).otp = s.otp ∧
    (State.applySubs s).vault = s.vault ∧ (State.applySubs s).emp = s.emp ∧ (State.applySubs s).tap = s.tap ∧
    (State.applySubs s).ext = s.ext ∧ (State.applySubs s).served = s.served ∧ (State.applySubs s).free = s.free ∧
    (State.applySubs s).pending = s.pending := by
  simp [State.applySubs]

@[simp] theorem State.sendReply_frame (s : State) (n peer code : Nat) :
    (State.sendReply s n peer code).boot = s.boot ∧ (State.sendReply s n peer code).img = s.img ∧
    (State.sendReply s n peer code).flash = s.flash ∧ (State.sendReply s n peer code).ctrsAt = s.ctrsAt ∧
    (State.sendReply s n peer code).partnerLog = s.partnerLog ∧ (State.sendReply s n peer code).bbx = s.bbx ∧
    (State.sendReply s n peer code).sens = s.sens ∧ (State.sendReply s n peer code).panel = s.panel ∧
    (State.sendReply s n peer code).cages = s.cages ∧ (State.sendReply s n peer code).tcp = s.tcp ∧
    (State.sendReply s n peer code).streams = s.streams ∧ (State.sendReply s n peer code).time = s.time ∧
    (State.sendReply s n peer code).align = s.align ∧ (State.sendReply s n peer code).swage = s.swage ∧
    (State.sendReply s n peer code).osc = s.osc ∧ (State.sendReply s n peer code).isl = s.isl ∧
    (State.sendReply s n peer code).sch = s.sch ∧ (State.sendReply s n peer code).logic = s.logic ∧
    (State.sendReply s n peer code).cap = s.cap ∧ (State.sendReply s n peer code).pub = s.pub ∧
    (State.sendReply s n peer code).otp = s.otp ∧ (State.sendReply s n peer code).vault = s.vault ∧
    (State.sendReply s n peer code).emp = s.emp ∧ (State.sendReply s n peer code).tap = s.tap ∧
    (State.sendReply s n peer code).ext = s.ext ∧ (State.sendReply s n peer code).served = s.served ∧
    (State.sendReply s n peer code).free = s.free ∧ (State.sendReply s n peer code).pending = s.pending := by
  simp [State.sendReply]

@[simp] theorem State.subTake_frame (s : State) (n p code : Nat) :
    (State.subTake s n p code).boot = s.boot ∧ (State.subTake s n p code).img = s.img ∧
    (State.subTake s n p code).flash = s.flash ∧ (State.subTake s n p code).ctrsAt = s.ctrsAt ∧
    (State.subTake s n p code).partnerLog = s.partnerLog ∧ (State.subTake s n p code).bbx = s.bbx ∧
    (State.subTake s n p code).sens = s.sens ∧ (State.subTake s n p code).panel = s.panel ∧
    (State.subTake s n p code).cages = s.cages ∧ (State.subTake s n p code).tcp = s.tcp ∧
    (State.subTake s n p code).streams = s.streams ∧ (State.subTake s n p code).time = s.time ∧
    (State.subTake s n p code).align = s.align ∧ (State.subTake s n p code).swage = s.swage ∧
    (State.subTake s n p code).osc = s.osc ∧ (State.subTake s n p code).isl = s.isl ∧
    (State.subTake s n p code).sch = s.sch ∧ (State.subTake s n p code).logic = s.logic ∧
    (State.subTake s n p code).cap = s.cap ∧ (State.subTake s n p code).otp = s.otp ∧
    (State.subTake s n p code).vault = s.vault ∧ (State.subTake s n p code).emp = s.emp ∧
    (State.subTake s n p code).tap = s.tap ∧ (State.subTake s n p code).ext = s.ext ∧
    (State.subTake s n p code).served = s.served ∧ (State.subTake s n p code).free = s.free ∧
    (State.subTake s n p code).pending = s.pending := by
  simp [State.subTake]

@[simp] theorem State.countDiscard_frame (s : State) (p q : Nat) (f : TxFrame) :
    (State.countDiscard s p q f).boot = s.boot ∧ (State.countDiscard s p q f).img = s.img ∧
    (State.countDiscard s p q f).flash = s.flash ∧ (State.countDiscard s p q f).ctrsAt = s.ctrsAt ∧
    (State.countDiscard s p q f).attn = s.attn ∧ (State.countDiscard s p q f).partnerLog = s.partnerLog ∧
    (State.countDiscard s p q f).bbx = s.bbx ∧ (State.countDiscard s p q f).sens = s.sens ∧
    (State.countDiscard s p q f).panel = s.panel ∧ (State.countDiscard s p q f).ports = s.ports ∧
    (State.countDiscard s p q f).cages = s.cages ∧ (State.countDiscard s p q f).tcp = s.tcp ∧
    (State.countDiscard s p q f).streams = s.streams ∧ (State.countDiscard s p q f).time = s.time ∧
    (State.countDiscard s p q f).align = s.align ∧ (State.countDiscard s p q f).swage = s.swage ∧
    (State.countDiscard s p q f).osc = s.osc ∧ (State.countDiscard s p q f).isl = s.isl ∧
    (State.countDiscard s p q f).sch = s.sch ∧ (State.countDiscard s p q f).logic = s.logic ∧
    (State.countDiscard s p q f).cap = s.cap ∧ (State.countDiscard s p q f).pub = s.pub ∧
    (State.countDiscard s p q f).pair = s.pair ∧ (State.countDiscard s p q f).otp = s.otp ∧
    (State.countDiscard s p q f).vault = s.vault ∧ (State.countDiscard s p q f).emp = s.emp ∧
    (State.countDiscard s p q f).tap = s.tap ∧ (State.countDiscard s p q f).ext = s.ext ∧
    (State.countDiscard s p q f).served = s.served ∧ (State.countDiscard s p q f).free = s.free ∧
    (State.countDiscard s p q f).pending = s.pending := by
  unfold State.countDiscard
  split <;> simp

@[simp] theorem State.purge_frame (s : State) :
    (State.purge s).boot = s.boot ∧ (State.purge s).img = s.img ∧ (State.purge s).flash = s.flash ∧
    (State.purge s).ctrsAt = s.ctrsAt ∧ (State.purge s).attn = s.attn ∧ (State.purge s).partnerLog = s.partnerLog ∧
    (State.purge s).bbx = s.bbx ∧ (State.purge s).sens = s.sens ∧ (State.purge s).panel = s.panel ∧
    (State.purge s).cages = s.cages ∧ (State.purge s).tcp = s.tcp ∧ (State.purge s).streams = s.streams ∧
    (State.purge s).time = s.time ∧ (State.purge s).align = s.align ∧ (State.purge s).swage = s.swage ∧
    (State.purge s).osc = s.osc ∧ (State.purge s).isl = s.isl ∧ (State.purge s).sch = s.sch ∧
    (State.purge s).logic = s.logic ∧ (State.purge s).cap = s.cap ∧ (State.purge s).pub = s.pub ∧
    (State.purge s).pair = s.pair ∧ (State.purge s).otp = s.otp ∧ (State.purge s).vault = s.vault ∧
    (State.purge s).emp = s.emp ∧ (State.purge s).tap = s.tap ∧ (State.purge s).ext = s.ext ∧
    (State.purge s).served = s.served ∧ (State.purge s).free = s.free ∧ (State.purge s).pending = s.pending := by
  simp [State.purge]

end Sys2Proof.Machine
end

