-- ==== Sys2Proof/Laws/FrameCapture.lean ====
section
/-! SUPPORT. What each operation of Machine/Capture.lean leaves unchanged: one frame lemma per operation. -/

namespace Sys2Proof.Machine

@[simp] theorem State.chargeCap_frame (s : State) (c n : Nat) :
    (State.chargeCap s c n).boot = s.boot ∧ (State.chargeCap s c n).img = s.img ∧
    (State.chargeCap s c n).flash = s.flash ∧ (State.chargeCap s c n).ctrs = s.ctrs ∧
    (State.chargeCap s c n).ctrsAt = s.ctrsAt ∧ (State.chargeCap s c n).attn = s.attn ∧
    (State.chargeCap s c n).partnerLog = s.partnerLog ∧ (State.chargeCap s c n).bbx = s.bbx ∧
    (State.chargeCap s c n).sens = s.sens ∧ (State.chargeCap s c n).panel = s.panel ∧
    (State.chargeCap s c n).ports = s.ports ∧ (State.chargeCap s c n).cages = s.cages ∧
    (State.chargeCap s c n).tcp = s.tcp ∧ (State.chargeCap s c n).streams = s.streams ∧
    (State.chargeCap s c n).time = s.time ∧ (State.chargeCap s c n).align = s.align ∧
    (State.chargeCap s c n).swage = s.swage ∧ (State.chargeCap s c n).osc = s.osc ∧ (State.chargeCap s c n).isl = s.isl ∧
    (State.chargeCap s c n).logic = s.logic ∧ (State.chargeCap s c n).cap = s.cap ∧ (State.chargeCap s c n).pub = s.pub ∧
    (State.chargeCap s c n).pair = s.pair ∧ (State.chargeCap s c n).otp = s.otp ∧
    (State.chargeCap s c n).vault = s.vault ∧ (State.chargeCap s c n).emp = s.emp ∧ (State.chargeCap s c n).tap = s.tap ∧
    (State.chargeCap s c n).ext = s.ext ∧ (State.chargeCap s c n).served = s.served ∧
    (State.chargeCap s c n).free = s.free ∧ (State.chargeCap s c n).pending = s.pending := by
  simp [State.chargeCap]

theorem State.startRec_frame (s t : State) (c : Nat) (x : Trig) (h : s.startRec c x = some t) :
    (t).boot = s.boot ∧ (t).img = s.img ∧ (t).flash = s.flash ∧ (t).ctrsAt = s.ctrsAt ∧ (t).attn = s.attn ∧
    (t).partnerLog = s.partnerLog ∧ (t).bbx = s.bbx ∧ (t).sens = s.sens ∧ (t).panel = s.panel ∧ (t).ports = s.ports ∧
    (t).cages = s.cages ∧ (t).tcp = s.tcp ∧ (t).streams = s.streams ∧ (t).time = s.time ∧ (t).align = s.align ∧
    (t).swage = s.swage ∧ (t).osc = s.osc ∧ (t).isl = s.isl ∧ (t).logic = s.logic ∧ (t).pub = s.pub ∧ (t).pair = s.pair ∧
    (t).otp = s.otp ∧ (t).vault = s.vault ∧ (t).emp = s.emp ∧ (t).tap = s.tap ∧ (t).ext = s.ext ∧ (t).served = s.served ∧
    (t).free = s.free ∧ (t).pending = s.pending := by
  unfold State.startRec at h
  extract_lets r at_ from_ want start post stop code len off seq n sameEntry lost recs new s0 s1 s2 at h
  split at h
  · cases h
  · obtain rfl := Option.some.inj h
    simp [s2, s1, s0]


@[simp] theorem State.trigFor_frame (s : State) (t : Trig) (c : Nat) :
    (s.trigFor t c).boot = s.boot ∧ (s.trigFor t c).img = s.img ∧ (s.trigFor t c).flash = s.flash ∧
    (s.trigFor t c).ctrsAt = s.ctrsAt ∧ (s.trigFor t c).partnerLog = s.partnerLog ∧ (s.trigFor t c).bbx = s.bbx ∧
    (s.trigFor t c).sens = s.sens ∧ (s.trigFor t c).panel = s.panel ∧ (s.trigFor t c).cages = s.cages ∧
    (s.trigFor t c).tcp = s.tcp ∧ (s.trigFor t c).streams = s.streams ∧ (s.trigFor t c).time = s.time ∧
    (s.trigFor t c).align = s.align ∧ (s.trigFor t c).swage = s.swage ∧ (s.trigFor t c).osc = s.osc ∧
    (s.trigFor t c).isl = s.isl ∧ (s.trigFor t c).logic = s.logic ∧ (s.trigFor t c).pub = s.pub ∧
    (s.trigFor t c).otp = s.otp ∧ (s.trigFor t c).vault = s.vault ∧ (s.trigFor t c).emp = s.emp ∧
    (s.trigFor t c).tap = s.tap ∧ (s.trigFor t c).ext = s.ext ∧ (s.trigFor t c).served = s.served ∧
    (s.trigFor t c).free = s.free ∧ (s.trigFor t c).pending = s.pending := by
  let P : State → Prop := (fun u : State =>
    u.boot = s.boot ∧ u.img = s.img ∧ u.flash = s.flash ∧ u.ctrsAt = s.ctrsAt ∧ u.partnerLog = s.partnerLog ∧
    u.bbx = s.bbx ∧ u.sens = s.sens ∧ u.panel = s.panel ∧ u.cages = s.cages ∧ u.tcp = s.tcp ∧ u.streams = s.streams ∧
    u.time = s.time ∧ u.align = s.align ∧ u.swage = s.swage ∧ u.osc = s.osc ∧ u.isl = s.isl ∧ u.logic = s.logic ∧
    u.pub = s.pub ∧ u.otp = s.otp ∧ u.vault = s.vault ∧ u.emp = s.emp ∧ u.tap = s.tap ∧ u.ext = s.ext ∧
    u.served = s.served ∧ u.free = s.free ∧ u.pending = s.pending)
  have h0 : P s := by simp [P]
  have h : P (s.trigFor t c) := by
    unfold State.trigFor
    extract_lets s1 x
    have h1 : P s1 := by simp [P, s1]
    clear_value s1 x
    (repeat' split)
    all_goals first
      | exact h1
      | (simpa [P] using h1; done)
      | (next heq => have h2 := State.startRec_frame _ _ _ _ heq; simpa [P, h2] using h1)
  exact h


@[simp] theorem State.driveXtrig_frame (s : State) :
    (State.driveXtrig s).boot = s.boot ∧ (State.driveXtrig s).img = s.img ∧ (State.driveXtrig s).flash = s.flash ∧
    (State.driveXtrig s).ctrsAt = s.ctrsAt ∧ (State.driveXtrig s).attn = s.attn ∧
    (State.driveXtrig s).partnerLog = s.partnerLog ∧ (State.driveXtrig s).bbx = s.bbx ∧
    (State.driveXtrig s).sens = s.sens ∧ (State.driveXtrig s).panel = s.panel ∧ (State.driveXtrig s).ports = s.ports ∧
    (State.driveXtrig s).cages = s.cages ∧ (State.driveXtrig s).tcp = s.tcp ∧ (State.driveXtrig s).streams = s.streams ∧
    (State.driveXtrig s).time = s.time ∧ (State.driveXtrig s).align = s.align ∧ (State.driveXtrig s).swage = s.swage ∧
    (State.driveXtrig s).osc = s.osc ∧ (State.driveXtrig s).isl = s.isl ∧ (State.driveXtrig s).sch = s.sch ∧
    (State.driveXtrig s).logic = s.logic ∧ (State.driveXtrig s).pub = s.pub ∧ (State.driveXtrig s).pair = s.pair ∧
    (State.driveXtrig s).otp = s.otp ∧ (State.driveXtrig s).vault = s.vault ∧ (State.driveXtrig s).emp = s.emp ∧
    (State.driveXtrig s).tap = s.tap ∧ (State.driveXtrig s).ext = s.ext ∧ (State.driveXtrig s).served = s.served ∧
    (State.driveXtrig s).free = s.free ∧ (State.driveXtrig s).pending = s.pending := by
  unfold State.driveXtrig
  split <;> simp

@[simp] theorem State.takeTrig_frame (s : State) (t : Trig) :
    (State.takeTrig s t).boot = s.boot ∧ (State.takeTrig s t).img = s.img ∧ (State.takeTrig s t).flash = s.flash ∧
    (State.takeTrig s t).ctrsAt = s.ctrsAt ∧ (State.takeTrig s t).partnerLog = s.partnerLog ∧
    (State.takeTrig s t).bbx = s.bbx ∧ (State.takeTrig s t).sens = s.sens ∧ (State.takeTrig s t).panel = s.panel ∧
    (State.takeTrig s t).cages = s.cages ∧ (State.takeTrig s t).tcp = s.tcp ∧ (State.takeTrig s t).streams = s.streams ∧
    (State.takeTrig s t).time = s.time ∧ (State.takeTrig s t).align = s.align ∧ (State.takeTrig s t).swage = s.swage ∧
    (State.takeTrig s t).osc = s.osc ∧ (State.takeTrig s t).isl = s.isl ∧ (State.takeTrig s t).logic = s.logic ∧
    (State.takeTrig s t).pub = s.pub ∧ (State.takeTrig s t).otp = s.otp ∧ (State.takeTrig s t).vault = s.vault ∧
    (State.takeTrig s t).emp = s.emp ∧ (State.takeTrig s t).tap = s.tap ∧ (State.takeTrig s t).ext = s.ext ∧
    (State.takeTrig s t).served = s.served ∧ (State.takeTrig s t).free = s.free ∧ (State.takeTrig s t).pending = s.pending := by
  simp [State.takeTrig]

@[simp] theorem State.endGlitches_frame (s : State) (input : Nat) (rising : Bool) (fine : Nat) :
    (State.endGlitches s input rising fine).boot = s.boot ∧ (State.endGlitches s input rising fine).img = s.img ∧
    (State.endGlitches s input rising fine).flash = s.flash ∧ (State.endGlitches s input rising fine).ctrsAt = s.ctrsAt ∧
    (State.endGlitches s input rising fine).attn = s.attn ∧
    (State.endGlitches s input rising fine).partnerLog = s.partnerLog ∧
    (State.endGlitches s input rising fine).bbx = s.bbx ∧ (State.endGlitches s input rising fine).sens = s.sens ∧
    (State.endGlitches s input rising fine).panel = s.panel ∧ (State.endGlitches s input rising fine).ports = s.ports ∧
    (State.endGlitches s input rising fine).cages = s.cages ∧ (State.endGlitches s input rising fine).tcp = s.tcp ∧
    (State.endGlitches s input rising fine).streams = s.streams ∧ (State.endGlitches s input rising fine).time = s.time ∧
    (State.endGlitches s input rising fine).align = s.align ∧ (State.endGlitches s input rising fine).swage = s.swage ∧
    (State.endGlitches s input rising fine).osc = s.osc ∧ (State.endGlitches s input rising fine).isl = s.isl ∧
    (State.endGlitches s input rising fine).sch = s.sch ∧ (State.endGlitches s input rising fine).logic = s.logic ∧
    (State.endGlitches s input rising fine).pub = s.pub ∧ (State.endGlitches s input rising fine).pair = s.pair ∧
    (State.endGlitches s input rising fine).otp = s.otp ∧ (State.endGlitches s input rising fine).vault = s.vault ∧
    (State.endGlitches s input rising fine).emp = s.emp ∧ (State.endGlitches s input rising fine).tap = s.tap ∧
    (State.endGlitches s input rising fine).ext = s.ext ∧ (State.endGlitches s input rising fine).served = s.served ∧
    (State.endGlitches s input rising fine).free = s.free ∧ (State.endGlitches s input rising fine).pending = s.pending := by
  simp [State.endGlitches]

@[simp] theorem State.dropStamps_frame (s : State) :
    (State.dropStamps s).boot = s.boot ∧ (State.dropStamps s).img = s.img ∧ (State.dropStamps s).flash = s.flash ∧
    (State.dropStamps s).ctrs = s.ctrs ∧ (State.dropStamps s).ctrsAt = s.ctrsAt ∧ (State.dropStamps s).attn = s.attn ∧
    (State.dropStamps s).partnerLog = s.partnerLog ∧ (State.dropStamps s).bbx = s.bbx ∧
    (State.dropStamps s).sens = s.sens ∧ (State.dropStamps s).panel = s.panel ∧ (State.dropStamps s).ports = s.ports ∧
    (State.dropStamps s).cages = s.cages ∧ (State.dropStamps s).tcp = s.tcp ∧ (State.dropStamps s).streams = s.streams ∧
    (State.dropStamps s).time = s.time ∧ (State.dropStamps s).align = s.align ∧ (State.dropStamps s).swage = s.swage ∧
    (State.dropStamps s).osc = s.osc ∧ (State.dropStamps s).isl = s.isl ∧ (State.dropStamps s).sch = s.sch ∧
    (State.dropStamps s).logic = s.logic ∧ (State.dropStamps s).pub = s.pub ∧ (State.dropStamps s).pair = s.pair ∧
    (State.dropStamps s).otp = s.otp ∧ (State.dropStamps s).vault = s.vault ∧ (State.dropStamps s).emp = s.emp ∧
    (State.dropStamps s).tap = s.tap ∧ (State.dropStamps s).ext = s.ext ∧ (State.dropStamps s).served = s.served ∧
    (State.dropStamps s).free = s.free ∧ (State.dropStamps s).pending = s.pending := by
  simp [State.dropStamps]

@[simp] theorem State.stampEdge_frame (s : State) (input : Nat) (rising : Bool) (sub fine : Nat) :
    (State.stampEdge s input rising sub fine).boot = s.boot ∧ (State.stampEdge s input rising sub fine).img = s.img ∧
    (State.stampEdge s input rising sub fine).flash = s.flash ∧
    (State.stampEdge s input rising sub fine).ctrsAt = s.ctrsAt ∧
    (State.stampEdge s input rising sub fine).attn = s.attn ∧
    (State.stampEdge s input rising sub fine).partnerLog = s.partnerLog ∧
    (State.stampEdge s input rising sub fine).bbx = s.bbx ∧ (State.stampEdge s input rising sub fine).sens = s.sens ∧
    (State.stampEdge s input rising sub fine).panel = s.panel ∧
    (State.stampEdge s input rising sub fine).ports = s.ports ∧
    (State.stampEdge s input rising sub fine).cages = s.cages ∧ (State.stampEdge s input rising sub fine).tcp = s.tcp ∧
    (State.stampEdge s input rising sub fine).streams = s.streams ∧
    (State.stampEdge s input rising sub fine).time = s.time ∧ (State.stampEdge s input rising sub fine).align = s.align ∧
    (State.stampEdge s input rising sub fine).swage = s.swage ∧ (State.stampEdge s input rising sub fine).osc = s.osc ∧
    (State.stampEdge s input rising sub fine).isl = s.isl ∧ (State.stampEdge s input rising sub fine).sch = s.sch ∧
    (State.stampEdge s input rising sub fine).logic = s.logic ∧ (State.stampEdge s input rising sub fine).pub = s.pub ∧
    (State.stampEdge s input rising sub fine).pair = s.pair ∧ (State.stampEdge s input rising sub fine).otp = s.otp ∧
    (State.stampEdge s input rising sub fine).vault = s.vault ∧ (State.stampEdge s input rising sub fine).emp = s.emp ∧
    (State.stampEdge s input rising sub fine).tap = s.tap ∧ (State.stampEdge s input rising sub fine).ext = s.ext ∧
    (State.stampEdge s input rising sub fine).served = s.served ∧
    (State.stampEdge s input rising sub fine).free = s.free ∧
    (State.stampEdge s input rising sub fine).pending = s.pending := by
  simp [State.stampEdge]

@[simp] theorem State.captureTrigger_frame (s : State) :
    (State.captureTrigger s).boot = s.boot ∧ (State.captureTrigger s).img = s.img ∧
    (State.captureTrigger s).flash = s.flash ∧ (State.captureTrigger s).ctrsAt = s.ctrsAt ∧
    (State.captureTrigger s).partnerLog = s.partnerLog ∧ (State.captureTrigger s).bbx = s.bbx ∧
    (State.captureTrigger s).sens = s.sens ∧ (State.captureTrigger s).panel = s.panel ∧
    (State.captureTrigger s).cages = s.cages ∧ (State.captureTrigger s).tcp = s.tcp ∧
    (State.captureTrigger s).streams = s.streams ∧ (State.captureTrigger s).time = s.time ∧
    (State.captureTrigger s).align = s.align ∧ (State.captureTrigger s).swage = s.swage ∧
    (State.captureTrigger s).osc = s.osc ∧ (State.captureTrigger s).isl = s.isl ∧
    (State.captureTrigger s).logic = s.logic ∧ (State.captureTrigger s).pub = s.pub ∧
    (State.captureTrigger s).otp = s.otp ∧ (State.captureTrigger s).vault = s.vault ∧
    (State.captureTrigger s).emp = s.emp ∧ (State.captureTrigger s).tap = s.tap ∧ (State.captureTrigger s).ext = s.ext ∧
    (State.captureTrigger s).served = s.served ∧ (State.captureTrigger s).free = s.free ∧
    (State.captureTrigger s).pending = s.pending := by
  unfold State.captureTrigger
  try dsimp only
  repeat' split
  all_goals simp

@[simp] theorem State.copyRec_frame (q n left : Nat) (s : State) :
    ((State.copyRec q n left s).1).boot = s.boot ∧ ((State.copyRec q n left s).1).img = s.img ∧
    ((State.copyRec q n left s).1).flash = s.flash ∧ ((State.copyRec q n left s).1).ctrs = s.ctrs ∧
    ((State.copyRec q n left s).1).ctrsAt = s.ctrsAt ∧ ((State.copyRec q n left s).1).attn = s.attn ∧
    ((State.copyRec q n left s).1).partnerLog = s.partnerLog ∧ ((State.copyRec q n left s).1).bbx = s.bbx ∧
    ((State.copyRec q n left s).1).sens = s.sens ∧ ((State.copyRec q n left s).1).panel = s.panel ∧
    ((State.copyRec q n left s).1).ports = s.ports ∧ ((State.copyRec q n left s).1).cages = s.cages ∧
    ((State.copyRec q n left s).1).tcp = s.tcp ∧ ((State.copyRec q n left s).1).streams = s.streams ∧
    ((State.copyRec q n left s).1).time = s.time ∧ ((State.copyRec q n left s).1).align = s.align ∧
    ((State.copyRec q n left s).1).swage = s.swage ∧ ((State.copyRec q n left s).1).osc = s.osc ∧
    ((State.copyRec q n left s).1).isl = s.isl ∧ ((State.copyRec q n left s).1).sch = s.sch ∧
    ((State.copyRec q n left s).1).logic = s.logic ∧ ((State.copyRec q n left s).1).pub = s.pub ∧
    ((State.copyRec q n left s).1).pair = s.pair ∧ ((State.copyRec q n left s).1).otp = s.otp ∧
    ((State.copyRec q n left s).1).vault = s.vault ∧ ((State.copyRec q n left s).1).emp = s.emp ∧
    ((State.copyRec q n left s).1).tap = s.tap ∧ ((State.copyRec q n left s).1).ext = s.ext ∧
    ((State.copyRec q n left s).1).served = s.served ∧ ((State.copyRec q n left s).1).free = s.free ∧
    ((State.copyRec q n left s).1).pending = s.pending := by
  induction n generalizing s left with
  | zero => simp [State.copyRec]
  | succ n ih =>
    unfold State.copyRec
    repeat' split
    all_goals simp [ih]
    all_goals (split <;> simp [ih])


@[simp] theorem State.completeRec_frame (s : State) (seq : Nat) :
    (State.completeRec s seq).boot = s.boot ∧ (State.completeRec s seq).img = s.img ∧
    (State.completeRec s seq).flash = s.flash ∧ (State.completeRec s seq).ctrsAt = s.ctrsAt ∧
    (State.completeRec s seq).attn = s.attn ∧ (State.completeRec s seq).partnerLog = s.partnerLog ∧
    (State.completeRec s seq).bbx = s.bbx ∧ (State.completeRec s seq).sens = s.sens ∧
    (State.completeRec s seq).panel = s.panel ∧ (State.completeRec s seq).cages = s.cages ∧
    (State.completeRec s seq).tcp = s.tcp ∧ (State.completeRec s seq).streams = s.streams ∧
    (State.completeRec s seq).time = s.time ∧ (State.completeRec s seq).align = s.align ∧
    (State.completeRec s seq).swage = s.swage ∧ (State.completeRec s seq).osc = s.osc ∧
    (State.completeRec s seq).isl = s.isl ∧ (State.completeRec s seq).logic = s.logic ∧
    (State.completeRec s seq).pub = s.pub ∧ (State.completeRec s seq).otp = s.otp ∧
    (State.completeRec s seq).vault = s.vault ∧ (State.completeRec s seq).emp = s.emp ∧
    (State.completeRec s seq).tap = s.tap ∧ (State.completeRec s seq).ext = s.ext ∧
    (State.completeRec s seq).served = s.served ∧ (State.completeRec s seq).free = s.free ∧
    (State.completeRec s seq).pending = s.pending := by
  unfold State.completeRec
  split <;> simp

@[simp] theorem State.copyOut_frame (s : State) (r c arg : Nat) :
    (s.copyOut r c arg).boot = s.boot ∧ (s.copyOut r c arg).img = s.img ∧ (s.copyOut r c arg).flash = s.flash ∧
    (s.copyOut r c arg).ctrsAt = s.ctrsAt ∧ (s.copyOut r c arg).attn = s.attn ∧
    (s.copyOut r c arg).partnerLog = s.partnerLog ∧ (s.copyOut r c arg).bbx = s.bbx ∧ (s.copyOut r c arg).sens = s.sens ∧
    (s.copyOut r c arg).panel = s.panel ∧ (s.copyOut r c arg).cages = s.cages ∧ (s.copyOut r c arg).tcp = s.tcp ∧
    (s.copyOut r c arg).streams = s.streams ∧ (s.copyOut r c arg).time = s.time ∧ (s.copyOut r c arg).align = s.align ∧
    (s.copyOut r c arg).swage = s.swage ∧ (s.copyOut r c arg).osc = s.osc ∧ (s.copyOut r c arg).isl = s.isl ∧
    (s.copyOut r c arg).logic = s.logic ∧ (s.copyOut r c arg).pub = s.pub ∧ (s.copyOut r c arg).otp = s.otp ∧
    (s.copyOut r c arg).vault = s.vault ∧ (s.copyOut r c arg).emp = s.emp ∧ (s.copyOut r c arg).tap = s.tap ∧
    (s.copyOut r c arg).ext = s.ext ∧ (s.copyOut r c arg).served = s.served ∧ (s.copyOut r c arg).free = s.free ∧
    (s.copyOut r c arg).pending = s.pending := by
  let P : State → Prop := (fun u : State =>
    u.boot = s.boot ∧ u.img = s.img ∧ u.flash = s.flash ∧ u.ctrsAt = s.ctrsAt ∧ u.attn = s.attn ∧
    u.partnerLog = s.partnerLog ∧ u.bbx = s.bbx ∧ u.sens = s.sens ∧ u.panel = s.panel ∧ u.cages = s.cages ∧
    u.tcp = s.tcp ∧ u.streams = s.streams ∧ u.time = s.time ∧ u.align = s.align ∧ u.swage = s.swage ∧ u.osc = s.osc ∧
    u.isl = s.isl ∧ u.logic = s.logic ∧ u.pub = s.pub ∧ u.otp = s.otp ∧ u.vault = s.vault ∧ u.emp = s.emp ∧
    u.tap = s.tap ∧ u.ext = s.ext ∧ u.served = s.served ∧ u.free = s.free ∧ u.pending = s.pending)
  have h0 : P s := by simp [P]
  have h : P (s.copyOut r c arg) := by
    have key : ∀ (qs : List Nat) (a : State × Nat), P a.1 → P (qs.foldl (fun (a : State × Nat) q =>
        ((State.copyRec q (a.2 + 3) a.2 a.1).1.completeRec q, (State.copyRec q (a.2 + 3) a.2 a.1).2)) a).1 := by
      intro qs
      induction qs with
      | nil => intro a ha; exact ha
      | cons q qs ih =>
        intro a ha
        exact ih _ (by simpa [P] using ha)
    unfold State.copyOut
    split
    · exact h0
    · extract_lets budget seqs out
      have ho : P out.1 := key _ _ h0
      clear_value out
      simpa [P] using ho
  exact h


@[simp] theorem State.capReduce_frame (s : State) (c : Nat) :
    (State.capReduce s c).boot = s.boot ∧ (State.capReduce s c).img = s.img ∧ (State.capReduce s c).flash = s.flash ∧
    (State.capReduce s c).ctrsAt = s.ctrsAt ∧ (State.capReduce s c).partnerLog = s.partnerLog ∧
    (State.capReduce s c).bbx = s.bbx ∧ (State.capReduce s c).sens = s.sens ∧ (State.capReduce s c).panel = s.panel ∧
    (State.capReduce s c).cages = s.cages ∧ (State.capReduce s c).tcp = s.tcp ∧
    (State.capReduce s c).streams = s.streams ∧ (State.capReduce s c).time = s.time ∧
    (State.capReduce s c).align = s.align ∧ (State.capReduce s c).swage = s.swage ∧ (State.capReduce s c).osc = s.osc ∧
    (State.capReduce s c).isl = s.isl ∧ (State.capReduce s c).sch = s.sch ∧ (State.capReduce s c).logic = s.logic ∧
    (State.capReduce s c).pub = s.pub ∧ (State.capReduce s c).otp = s.otp ∧ (State.capReduce s c).vault = s.vault ∧
    (State.capReduce s c).emp = s.emp ∧ (State.capReduce s c).tap = s.tap ∧ (State.capReduce s c).ext = s.ext ∧
    (State.capReduce s c).served = s.served ∧ (State.capReduce s c).free = s.free ∧
    (State.capReduce s c).pending = s.pending := by
  unfold State.capReduce
  try dsimp only
  repeat' split
  all_goals simp

@[simp] theorem State.abortRec_frame (s : State) (c : Nat) :
    (State.abortRec s c).boot = s.boot ∧ (State.abortRec s c).img = s.img ∧ (State.abortRec s c).flash = s.flash ∧
    (State.abortRec s c).ctrsAt = s.ctrsAt ∧ (State.abortRec s c).attn = s.attn ∧
    (State.abortRec s c).partnerLog = s.partnerLog ∧ (State.abortRec s c).bbx = s.bbx ∧
    (State.abortRec s c).sens = s.sens ∧ (State.abortRec s c).panel = s.panel ∧ (State.abortRec s c).ports = s.ports ∧
    (State.abortRec s c).cages = s.cages ∧ (State.abortRec s c).tcp = s.tcp ∧ (State.abortRec s c).streams = s.streams ∧
    (State.abortRec s c).time = s.time ∧ (State.abortRec s c).align = s.align ∧ (State.abortRec s c).swage = s.swage ∧
    (State.abortRec s c).osc = s.osc ∧ (State.abortRec s c).isl = s.isl ∧ (State.abortRec s c).sch = s.sch ∧
    (State.abortRec s c).logic = s.logic ∧ (State.abortRec s c).pub = s.pub ∧ (State.abortRec s c).pair = s.pair ∧
    (State.abortRec s c).otp = s.otp ∧ (State.abortRec s c).vault = s.vault ∧ (State.abortRec s c).emp = s.emp ∧
    (State.abortRec s c).tap = s.tap ∧ (State.abortRec s c).ext = s.ext ∧ (State.abortRec s c).served = s.served ∧
    (State.abortRec s c).free = s.free ∧ (State.abortRec s c).pending = s.pending := by
  unfold State.abortRec
  split <;> simp

@[simp] theorem State.captureModes_frame (s : State) :
    (State.captureModes s).boot = s.boot ∧ (State.captureModes s).img = s.img ∧ (State.captureModes s).flash = s.flash ∧
    (State.captureModes s).ctrsAt = s.ctrsAt ∧ (State.captureModes s).attn = s.attn ∧
    (State.captureModes s).partnerLog = s.partnerLog ∧ (State.captureModes s).bbx = s.bbx ∧
    (State.captureModes s).sens = s.sens ∧ (State.captureModes s).panel = s.panel ∧
    (State.captureModes s).ports = s.ports ∧ (State.captureModes s).cages = s.cages ∧
    (State.captureModes s).tcp = s.tcp ∧ (State.captureModes s).streams = s.streams ∧
    (State.captureModes s).time = s.time ∧ (State.captureModes s).align = s.align ∧
    (State.captureModes s).swage = s.swage ∧ (State.captureModes s).osc = s.osc ∧ (State.captureModes s).isl = s.isl ∧
    (State.captureModes s).sch = s.sch ∧ (State.captureModes s).logic = s.logic ∧ (State.captureModes s).pub = s.pub ∧
    (State.captureModes s).pair = s.pair ∧ (State.captureModes s).otp = s.otp ∧ (State.captureModes s).vault = s.vault ∧
    (State.captureModes s).emp = s.emp ∧ (State.captureModes s).tap = s.tap ∧ (State.captureModes s).ext = s.ext ∧
    (State.captureModes s).served = s.served ∧ (State.captureModes s).free = s.free ∧
    (State.captureModes s).pending = s.pending := by
  simp [State.captureModes]

@[simp] theorem State.captureBoundary_frame (s : State) :
    (State.captureBoundary s).boot = s.boot ∧ (State.captureBoundary s).img = s.img ∧
    (State.captureBoundary s).flash = s.flash ∧ (State.captureBoundary s).ctrsAt = s.ctrsAt ∧
    (State.captureBoundary s).partnerLog = s.partnerLog ∧ (State.captureBoundary s).bbx = s.bbx ∧
    (State.captureBoundary s).sens = s.sens ∧ (State.captureBoundary s).panel = s.panel ∧
    (State.captureBoundary s).cages = s.cages ∧ (State.captureBoundary s).tcp = s.tcp ∧
    (State.captureBoundary s).streams = s.streams ∧ (State.captureBoundary s).time = s.time ∧
    (State.captureBoundary s).align = s.align ∧ (State.captureBoundary s).swage = s.swage ∧
    (State.captureBoundary s).osc = s.osc ∧ (State.captureBoundary s).isl = s.isl ∧
    (State.captureBoundary s).sch = s.sch ∧ (State.captureBoundary s).logic = s.logic ∧
    (State.captureBoundary s).pub = s.pub ∧ (State.captureBoundary s).otp = s.otp ∧
    (State.captureBoundary s).vault = s.vault ∧ (State.captureBoundary s).emp = s.emp ∧
    (State.captureBoundary s).tap = s.tap ∧ (State.captureBoundary s).ext = s.ext ∧
    (State.captureBoundary s).served = s.served ∧ (State.captureBoundary s).free = s.free ∧
    (State.captureBoundary s).pending = s.pending := by
  simp [State.captureBoundary]

@[simp] theorem State.stepCapture_frame (s : State) (after : Ns) :
    (State.stepCapture s after).boot = s.boot ∧ (State.stepCapture s after).img = s.img ∧
    (State.stepCapture s after).flash = s.flash ∧ (State.stepCapture s after).ctrsAt = s.ctrsAt ∧
    (State.stepCapture s after).attn = s.attn ∧ (State.stepCapture s after).partnerLog = s.partnerLog ∧
    (State.stepCapture s after).bbx = s.bbx ∧ (State.stepCapture s after).sens = s.sens ∧
    (State.stepCapture s after).panel = s.panel ∧ (State.stepCapture s after).ports = s.ports ∧
    (State.stepCapture s after).cages = s.cages ∧ (State.stepCapture s after).tcp = s.tcp ∧
    (State.stepCapture s after).streams = s.streams ∧ (State.stepCapture s after).time = s.time ∧
    (State.stepCapture s after).align = s.align ∧ (State.stepCapture s after).swage = s.swage ∧
    (State.stepCapture s after).osc = s.osc ∧ (State.stepCapture s after).isl = s.isl ∧
    (State.stepCapture s after).sch = s.sch ∧ (State.stepCapture s after).logic = s.logic ∧
    (State.stepCapture s after).pub = s.pub ∧ (State.stepCapture s after).pair = s.pair ∧
    (State.stepCapture s after).otp = s.otp ∧ (State.stepCapture s after).vault = s.vault ∧
    (State.stepCapture s after).emp = s.emp ∧ (State.stepCapture s after).tap = s.tap ∧
    (State.stepCapture s after).ext = s.ext ∧ (State.stepCapture s after).served = s.served ∧
    (State.stepCapture s after).free = s.free ∧ (State.stepCapture s after).pending = s.pending := by
  simp [State.stepCapture]

end Sys2Proof.Machine
end

