-- ==== Sys2Proof/Laws/FrameTime.lean ====
section
/-! SUPPORT. What each operation of Machine/Time.lean leaves unchanged: one frame lemma per operation. -/

namespace Sys2Proof.Machine

@[simp] theorem State.sourceReads_frame (s : State) (src : Nat) (reading : Int) :
    (State.sourceReads s src reading).boot = s.boot ∧ (State.sourceReads s src reading).img = s.img ∧
    (State.sourceReads s src reading).flash = s.flash ∧ (State.sourceReads s src reading).ctrs = s.ctrs ∧
    (State.sourceReads s src reading).ctrsAt = s.ctrsAt ∧ (State.sourceReads s src reading).attn = s.attn ∧
    (State.sourceReads s src reading).partnerLog = s.partnerLog ∧ (State.sourceReads s src reading).bbx = s.bbx ∧
    (State.sourceReads s src reading).sens = s.sens ∧ (State.sourceReads s src reading).panel = s.panel ∧
    (State.sourceReads s src reading).ports = s.ports ∧ (State.sourceReads s src reading).cages = s.cages ∧
    (State.sourceReads s src reading).tcp = s.tcp ∧ (State.sourceReads s src reading).streams = s.streams ∧
    (State.sourceReads s src reading).align = s.align ∧ (State.sourceReads s src reading).swage = s.swage ∧
    (State.sourceReads s src reading).osc = s.osc ∧ (State.sourceReads s src reading).isl = s.isl ∧
    (State.sourceReads s src reading).sch = s.sch ∧ (State.sourceReads s src reading).logic = s.logic ∧
    (State.sourceReads s src reading).cap = s.cap ∧ (State.sourceReads s src reading).pub = s.pub ∧
    (State.sourceReads s src reading).pair = s.pair ∧ (State.sourceReads s src reading).otp = s.otp ∧
    (State.sourceReads s src reading).vault = s.vault ∧ (State.sourceReads s src reading).emp = s.emp ∧
    (State.sourceReads s src reading).tap = s.tap ∧ (State.sourceReads s src reading).ext = s.ext ∧
    (State.sourceReads s src reading).served = s.served ∧ (State.sourceReads s src reading).free = s.free ∧
    (State.sourceReads s src reading).pending = s.pending := by
  simp [State.sourceReads]

@[simp] theorem State.selectMaster_frame (s : State) (i : Nat) :
    (State.selectMaster s i).boot = s.boot ∧ (State.selectMaster s i).img = s.img ∧
    (State.selectMaster s i).flash = s.flash ∧ (State.selectMaster s i).ctrs = s.ctrs ∧
    (State.selectMaster s i).ctrsAt = s.ctrsAt ∧ (State.selectMaster s i).attn = s.attn ∧
    (State.selectMaster s i).partnerLog = s.partnerLog ∧ (State.selectMaster s i).bbx = s.bbx ∧
    (State.selectMaster s i).sens = s.sens ∧ (State.selectMaster s i).panel = s.panel ∧
    (State.selectMaster s i).ports = s.ports ∧ (State.selectMaster s i).cages = s.cages ∧
    (State.selectMaster s i).tcp = s.tcp ∧ (State.selectMaster s i).streams = s.streams ∧
    (State.selectMaster s i).align = s.align ∧ (State.selectMaster s i).swage = s.swage ∧
    (State.selectMaster s i).osc = s.osc ∧ (State.selectMaster s i).isl = s.isl ∧ (State.selectMaster s i).sch = s.sch ∧
    (State.selectMaster s i).logic = s.logic ∧ (State.selectMaster s i).cap = s.cap ∧
    (State.selectMaster s i).pub = s.pub ∧ (State.selectMaster s i).pair = s.pair ∧
    (State.selectMaster s i).otp = s.otp ∧ (State.selectMaster s i).vault = s.vault ∧
    (State.selectMaster s i).emp = s.emp ∧ (State.selectMaster s i).tap = s.tap ∧ (State.selectMaster s i).ext = s.ext ∧
    (State.selectMaster s i).served = s.served ∧ (State.selectMaster s i).free = s.free ∧
    (State.selectMaster s i).pending = s.pending := by
  simp [State.selectMaster]

@[simp] theorem State.takeAnnounce_frame (s : State) (i p : Nat) (a : Announce) :
    (State.takeAnnounce s i p a).boot = s.boot ∧ (State.takeAnnounce s i p a).img = s.img ∧
    (State.takeAnnounce s i p a).flash = s.flash ∧ (State.takeAnnounce s i p a).ctrs = s.ctrs ∧
    (State.takeAnnounce s i p a).ctrsAt = s.ctrsAt ∧ (State.takeAnnounce s i p a).attn = s.attn ∧
    (State.takeAnnounce s i p a).partnerLog = s.partnerLog ∧ (State.takeAnnounce s i p a).bbx = s.bbx ∧
    (State.takeAnnounce s i p a).sens = s.sens ∧ (State.takeAnnounce s i p a).panel = s.panel ∧
    (State.takeAnnounce s i p a).ports = s.ports ∧ (State.takeAnnounce s i p a).cages = s.cages ∧
    (State.takeAnnounce s i p a).tcp = s.tcp ∧ (State.takeAnnounce s i p a).streams = s.streams ∧
    (State.takeAnnounce s i p a).align = s.align ∧ (State.takeAnnounce s i p a).swage = s.swage ∧
    (State.takeAnnounce s i p a).osc = s.osc ∧ (State.takeAnnounce s i p a).isl = s.isl ∧
    (State.takeAnnounce s i p a).sch = s.sch ∧ (State.takeAnnounce s i p a).logic = s.logic ∧
    (State.takeAnnounce s i p a).cap = s.cap ∧ (State.takeAnnounce s i p a).pub = s.pub ∧
    (State.takeAnnounce s i p a).pair = s.pair ∧ (State.takeAnnounce s i p a).otp = s.otp ∧
    (State.takeAnnounce s i p a).vault = s.vault ∧ (State.takeAnnounce s i p a).emp = s.emp ∧
    (State.takeAnnounce s i p a).tap = s.tap ∧ (State.takeAnnounce s i p a).ext = s.ext ∧
    (State.takeAnnounce s i p a).served = s.served ∧ (State.takeAnnounce s i p a).free = s.free ∧
    (State.takeAnnounce s i p a).pending = s.pending := by
  simp [State.takeAnnounce]

@[simp] theorem State.useSync_frame (s : State) (i p : Nat) (stamp : Ns) (origin : Ns) (corr : Int) :
    (State.useSync s i p stamp origin corr).boot = s.boot ∧ (State.useSync s i p stamp origin corr).img = s.img ∧
    (State.useSync s i p stamp origin corr).flash = s.flash ∧ (State.useSync s i p stamp origin corr).ctrs = s.ctrs ∧
    (State.useSync s i p stamp origin corr).ctrsAt = s.ctrsAt ∧ (State.useSync s i p stamp origin corr).attn = s.attn ∧
    (State.useSync s i p stamp origin corr).partnerLog = s.partnerLog ∧
    (State.useSync s i p stamp origin corr).bbx = s.bbx ∧ (State.useSync s i p stamp origin corr).sens = s.sens ∧
    (State.useSync s i p stamp origin corr).panel = s.panel ∧ (State.useSync s i p stamp origin corr).ports = s.ports ∧
    (State.useSync s i p stamp origin corr).cages = s.cages ∧ (State.useSync s i p stamp origin corr).tcp = s.tcp ∧
    (State.useSync s i p stamp origin corr).streams = s.streams ∧
    (State.useSync s i p stamp origin corr).align = s.align ∧ (State.useSync s i p stamp origin corr).swage = s.swage ∧
    (State.useSync s i p stamp origin corr).osc = s.osc ∧ (State.useSync s i p stamp origin corr).isl = s.isl ∧
    (State.useSync s i p stamp origin corr).sch = s.sch ∧ (State.useSync s i p stamp origin corr).logic = s.logic ∧
    (State.useSync s i p stamp origin corr).cap = s.cap ∧ (State.useSync s i p stamp origin corr).pub = s.pub ∧
    (State.useSync s i p stamp origin corr).pair = s.pair ∧ (State.useSync s i p stamp origin corr).otp = s.otp ∧
    (State.useSync s i p stamp origin corr).vault = s.vault ∧ (State.useSync s i p stamp origin corr).emp = s.emp ∧
    (State.useSync s i p stamp origin corr).tap = s.tap ∧ (State.useSync s i p stamp origin corr).ext = s.ext ∧
    (State.useSync s i p stamp origin corr).served = s.served ∧ (State.useSync s i p stamp origin corr).free = s.free ∧
    (State.useSync s i p stamp origin corr).pending = s.pending := by
  unfold State.useSync
  split <;> simp

@[simp] theorem State.modDelay_frame (s : State) (i p seq : Nat) (f : PeerDelay → PeerDelay) :
    (State.modDelay s i p seq f).boot = s.boot ∧ (State.modDelay s i p seq f).img = s.img ∧
    (State.modDelay s i p seq f).flash = s.flash ∧ (State.modDelay s i p seq f).ctrs = s.ctrs ∧
    (State.modDelay s i p seq f).ctrsAt = s.ctrsAt ∧ (State.modDelay s i p seq f).attn = s.attn ∧
    (State.modDelay s i p seq f).partnerLog = s.partnerLog ∧ (State.modDelay s i p seq f).bbx = s.bbx ∧
    (State.modDelay s i p seq f).sens = s.sens ∧ (State.modDelay s i p seq f).panel = s.panel ∧
    (State.modDelay s i p seq f).ports = s.ports ∧ (State.modDelay s i p seq f).cages = s.cages ∧
    (State.modDelay s i p seq f).tcp = s.tcp ∧ (State.modDelay s i p seq f).streams = s.streams ∧
    (State.modDelay s i p seq f).align = s.align ∧ (State.modDelay s i p seq f).swage = s.swage ∧
    (State.modDelay s i p seq f).osc = s.osc ∧ (State.modDelay s i p seq f).isl = s.isl ∧
    (State.modDelay s i p seq f).sch = s.sch ∧ (State.modDelay s i p seq f).logic = s.logic ∧
    (State.modDelay s i p seq f).cap = s.cap ∧ (State.modDelay s i p seq f).pub = s.pub ∧
    (State.modDelay s i p seq f).pair = s.pair ∧ (State.modDelay s i p seq f).otp = s.otp ∧
    (State.modDelay s i p seq f).vault = s.vault ∧ (State.modDelay s i p seq f).emp = s.emp ∧
    (State.modDelay s i p seq f).tap = s.tap ∧ (State.modDelay s i p seq f).ext = s.ext ∧
    (State.modDelay s i p seq f).served = s.served ∧ (State.modDelay s i p seq f).free = s.free ∧
    (State.modDelay s i p seq f).pending = s.pending := by
  simp [State.modDelay]

@[simp] theorem State.takePtp_frame (s : State) (i : Nat) (x : PtpIn) :
    (State.takePtp s i x).boot = s.boot ∧ (State.takePtp s i x).img = s.img ∧ (State.takePtp s i x).flash = s.flash ∧
    (State.takePtp s i x).ctrsAt = s.ctrsAt ∧ (State.takePtp s i x).attn = s.attn ∧
    (State.takePtp s i x).partnerLog = s.partnerLog ∧ (State.takePtp s i x).bbx = s.bbx ∧
    (State.takePtp s i x).sens = s.sens ∧ (State.takePtp s i x).panel = s.panel ∧ (State.takePtp s i x).cages = s.cages ∧
    (State.takePtp s i x).tcp = s.tcp ∧ (State.takePtp s i x).streams = s.streams ∧
    (State.takePtp s i x).align = s.align ∧ (State.takePtp s i x).swage = s.swage ∧ (State.takePtp s i x).osc = s.osc ∧
    (State.takePtp s i x).isl = s.isl ∧ (State.takePtp s i x).sch = s.sch ∧ (State.takePtp s i x).logic = s.logic ∧
    (State.takePtp s i x).cap = s.cap ∧ (State.takePtp s i x).pub = s.pub ∧ (State.takePtp s i x).pair = s.pair ∧
    (State.takePtp s i x).otp = s.otp ∧ (State.takePtp s i x).vault = s.vault ∧ (State.takePtp s i x).emp = s.emp ∧
    (State.takePtp s i x).tap = s.tap ∧ (State.takePtp s i x).ext = s.ext ∧ (State.takePtp s i x).served = s.served ∧
    (State.takePtp s i x).free = s.free ∧ (State.takePtp s i x).pending = s.pending := by
  unfold State.takePtp
  try dsimp only
  repeat' split
  all_goals simp

@[simp] theorem State.missPdelay_frame (s : State) (i p : Nat) :
    (State.missPdelay s i p).boot = s.boot ∧ (State.missPdelay s i p).img = s.img ∧
    (State.missPdelay s i p).flash = s.flash ∧ (State.missPdelay s i p).ctrsAt = s.ctrsAt ∧
    (State.missPdelay s i p).attn = s.attn ∧ (State.missPdelay s i p).partnerLog = s.partnerLog ∧
    (State.missPdelay s i p).bbx = s.bbx ∧ (State.missPdelay s i p).sens = s.sens ∧
    (State.missPdelay s i p).panel = s.panel ∧ (State.missPdelay s i p).cages = s.cages ∧
    (State.missPdelay s i p).tcp = s.tcp ∧ (State.missPdelay s i p).streams = s.streams ∧
    (State.missPdelay s i p).time = s.time ∧ (State.missPdelay s i p).align = s.align ∧
    (State.missPdelay s i p).swage = s.swage ∧ (State.missPdelay s i p).osc = s.osc ∧
    (State.missPdelay s i p).isl = s.isl ∧ (State.missPdelay s i p).sch = s.sch ∧
    (State.missPdelay s i p).logic = s.logic ∧ (State.missPdelay s i p).cap = s.cap ∧
    (State.missPdelay s i p).pub = s.pub ∧ (State.missPdelay s i p).pair = s.pair ∧
    (State.missPdelay s i p).otp = s.otp ∧ (State.missPdelay s i p).vault = s.vault ∧
    (State.missPdelay s i p).emp = s.emp ∧ (State.missPdelay s i p).tap = s.tap ∧ (State.missPdelay s i p).ext = s.ext ∧
    (State.missPdelay s i p).served = s.served ∧ (State.missPdelay s i p).free = s.free ∧
    (State.missPdelay s i p).pending = s.pending := by
  simp [State.missPdelay]

@[simp] theorem State.pdelayReq_frame (s : State) (i p : Nat) :
    (State.pdelayReq s i p).boot = s.boot ∧ (State.pdelayReq s i p).img = s.img ∧
    (State.pdelayReq s i p).flash = s.flash ∧ (State.pdelayReq s i p).ctrsAt = s.ctrsAt ∧
    (State.pdelayReq s i p).attn = s.attn ∧ (State.pdelayReq s i p).partnerLog = s.partnerLog ∧
    (State.pdelayReq s i p).bbx = s.bbx ∧ (State.pdelayReq s i p).sens = s.sens ∧
    (State.pdelayReq s i p).panel = s.panel ∧ (State.pdelayReq s i p).cages = s.cages ∧
    (State.pdelayReq s i p).tcp = s.tcp ∧ (State.pdelayReq s i p).streams = s.streams ∧
    (State.pdelayReq s i p).align = s.align ∧ (State.pdelayReq s i p).swage = s.swage ∧
    (State.pdelayReq s i p).osc = s.osc ∧ (State.pdelayReq s i p).isl = s.isl ∧ (State.pdelayReq s i p).sch = s.sch ∧
    (State.pdelayReq s i p).logic = s.logic ∧ (State.pdelayReq s i p).cap = s.cap ∧ (State.pdelayReq s i p).pub = s.pub ∧
    (State.pdelayReq s i p).pair = s.pair ∧ (State.pdelayReq s i p).otp = s.otp ∧
    (State.pdelayReq s i p).vault = s.vault ∧ (State.pdelayReq s i p).emp = s.emp ∧ (State.pdelayReq s i p).tap = s.tap ∧
    (State.pdelayReq s i p).ext = s.ext ∧ (State.pdelayReq s i p).served = s.served ∧
    (State.pdelayReq s i p).free = s.free ∧ (State.pdelayReq s i p).pending = s.pending := by
  simp [State.pdelayReq]

@[simp] theorem State.labelEdge_frame (s : State) (edge : Ns) (sec : Nat) :
    (State.labelEdge s edge sec).boot = s.boot ∧ (State.labelEdge s edge sec).img = s.img ∧
    (State.labelEdge s edge sec).flash = s.flash ∧ (State.labelEdge s edge sec).ctrs = s.ctrs ∧
    (State.labelEdge s edge sec).ctrsAt = s.ctrsAt ∧ (State.labelEdge s edge sec).attn = s.attn ∧
    (State.labelEdge s edge sec).partnerLog = s.partnerLog ∧ (State.labelEdge s edge sec).bbx = s.bbx ∧
    (State.labelEdge s edge sec).sens = s.sens ∧ (State.labelEdge s edge sec).panel = s.panel ∧
    (State.labelEdge s edge sec).ports = s.ports ∧ (State.labelEdge s edge sec).cages = s.cages ∧
    (State.labelEdge s edge sec).tcp = s.tcp ∧ (State.labelEdge s edge sec).streams = s.streams ∧
    (State.labelEdge s edge sec).align = s.align ∧ (State.labelEdge s edge sec).swage = s.swage ∧
    (State.labelEdge s edge sec).osc = s.osc ∧ (State.labelEdge s edge sec).isl = s.isl ∧
    (State.labelEdge s edge sec).sch = s.sch ∧ (State.labelEdge s edge sec).logic = s.logic ∧
    (State.labelEdge s edge sec).cap = s.cap ∧ (State.labelEdge s edge sec).pub = s.pub ∧
    (State.labelEdge s edge sec).pair = s.pair ∧ (State.labelEdge s edge sec).otp = s.otp ∧
    (State.labelEdge s edge sec).vault = s.vault ∧ (State.labelEdge s edge sec).emp = s.emp ∧
    (State.labelEdge s edge sec).tap = s.tap ∧ (State.labelEdge s edge sec).ext = s.ext ∧
    (State.labelEdge s edge sec).served = s.served ∧ (State.labelEdge s edge sec).free = s.free ∧
    (State.labelEdge s edge sec).pending = s.pending := by
  simp [State.labelEdge]

@[simp] theorem State.baseVote_frame (s : State) (b : Nat) :
    (State.baseVote s b).boot = s.boot ∧ (State.baseVote s b).img = s.img ∧ (State.baseVote s b).flash = s.flash ∧
    (State.baseVote s b).ctrsAt = s.ctrsAt ∧ (State.baseVote s b).partnerLog = s.partnerLog ∧
    (State.baseVote s b).bbx = s.bbx ∧ (State.baseVote s b).sens = s.sens ∧ (State.baseVote s b).panel = s.panel ∧
    (State.baseVote s b).cages = s.cages ∧ (State.baseVote s b).tcp = s.tcp ∧ (State.baseVote s b).streams = s.streams ∧
    (State.baseVote s b).align = s.align ∧ (State.baseVote s b).swage = s.swage ∧ (State.baseVote s b).osc = s.osc ∧
    (State.baseVote s b).isl = s.isl ∧ (State.baseVote s b).sch = s.sch ∧ (State.baseVote s b).logic = s.logic ∧
    (State.baseVote s b).cap = s.cap ∧ (State.baseVote s b).pub = s.pub ∧ (State.baseVote s b).otp = s.otp ∧
    (State.baseVote s b).vault = s.vault ∧ (State.baseVote s b).emp = s.emp ∧ (State.baseVote s b).tap = s.tap ∧
    (State.baseVote s b).ext = s.ext ∧ (State.baseVote s b).served = s.served ∧ (State.baseVote s b).free = s.free ∧
    (State.baseVote s b).pending = s.pending := by
  unfold State.baseVote
  try dsimp only
  repeat' split
  all_goals simp

@[simp] theorem State.servo_frame (s : State) (sum : Int) (n : Nat) :
    (State.servo s sum n).boot = s.boot ∧ (State.servo s sum n).img = s.img ∧ (State.servo s sum n).flash = s.flash ∧
    (State.servo s sum n).ctrs = s.ctrs ∧ (State.servo s sum n).ctrsAt = s.ctrsAt ∧ (State.servo s sum n).attn = s.attn ∧
    (State.servo s sum n).partnerLog = s.partnerLog ∧ (State.servo s sum n).bbx = s.bbx ∧
    (State.servo s sum n).sens = s.sens ∧ (State.servo s sum n).panel = s.panel ∧ (State.servo s sum n).ports = s.ports ∧
    (State.servo s sum n).cages = s.cages ∧ (State.servo s sum n).tcp = s.tcp ∧
    (State.servo s sum n).streams = s.streams ∧ (State.servo s sum n).align = s.align ∧
    (State.servo s sum n).swage = s.swage ∧ (State.servo s sum n).osc = s.osc ∧ (State.servo s sum n).isl = s.isl ∧
    (State.servo s sum n).sch = s.sch ∧ (State.servo s sum n).logic = s.logic ∧ (State.servo s sum n).cap = s.cap ∧
    (State.servo s sum n).pub = s.pub ∧ (State.servo s sum n).pair = s.pair ∧ (State.servo s sum n).otp = s.otp ∧
    (State.servo s sum n).vault = s.vault ∧ (State.servo s sum n).emp = s.emp ∧ (State.servo s sum n).tap = s.tap ∧
    (State.servo s sum n).ext = s.ext ∧ (State.servo s sum n).served = s.served ∧ (State.servo s sum n).free = s.free ∧
    (State.servo s sum n).pending = s.pending := by
  simp [State.servo]

@[simp] theorem State.clampServo_frame (s : State) :
    (State.clampServo s).boot = s.boot ∧ (State.clampServo s).img = s.img ∧ (State.clampServo s).flash = s.flash ∧
    (State.clampServo s).ctrs = s.ctrs ∧ (State.clampServo s).ctrsAt = s.ctrsAt ∧ (State.clampServo s).attn = s.attn ∧
    (State.clampServo s).partnerLog = s.partnerLog ∧ (State.clampServo s).bbx = s.bbx ∧
    (State.clampServo s).sens = s.sens ∧ (State.clampServo s).panel = s.panel ∧ (State.clampServo s).ports = s.ports ∧
    (State.clampServo s).cages = s.cages ∧ (State.clampServo s).tcp = s.tcp ∧ (State.clampServo s).streams = s.streams ∧
    (State.clampServo s).align = s.align ∧ (State.clampServo s).swage = s.swage ∧ (State.clampServo s).osc = s.osc ∧
    (State.clampServo s).isl = s.isl ∧ (State.clampServo s).sch = s.sch ∧ (State.clampServo s).logic = s.logic ∧
    (State.clampServo s).cap = s.cap ∧ (State.clampServo s).pub = s.pub ∧ (State.clampServo s).pair = s.pair ∧
    (State.clampServo s).otp = s.otp ∧ (State.clampServo s).vault = s.vault ∧ (State.clampServo s).emp = s.emp ∧
    (State.clampServo s).tap = s.tap ∧ (State.clampServo s).ext = s.ext ∧ (State.clampServo s).served = s.served ∧
    (State.clampServo s).free = s.free ∧ (State.clampServo s).pending = s.pending := by
  simp [State.clampServo]

@[simp] theorem State.stepDt_frame (s : State) (d : Int) :
    (State.stepDt s d).img = s.img ∧ (State.stepDt s d).flash = s.flash ∧ (State.stepDt s d).ctrsAt = s.ctrsAt ∧
    (State.stepDt s d).partnerLog = s.partnerLog ∧ (State.stepDt s d).bbx = s.bbx ∧ (State.stepDt s d).sens = s.sens ∧
    (State.stepDt s d).panel = s.panel ∧ (State.stepDt s d).cages = s.cages ∧ (State.stepDt s d).tcp = s.tcp ∧
    (State.stepDt s d).otp = s.otp ∧ (State.stepDt s d).vault = s.vault ∧ (State.stepDt s d).emp = s.emp ∧
    (State.stepDt s d).tap = s.tap ∧ (State.stepDt s d).ext = s.ext ∧ (State.stepDt s d).served = s.served ∧
    (State.stepDt s d).free = s.free ∧ (State.stepDt s d).pending = s.pending := by
  simp [State.stepDt]

@[simp] theorem State.beginHoldover_frame (s : State) :
    (State.beginHoldover s).boot = s.boot ∧ (State.beginHoldover s).img = s.img ∧
    (State.beginHoldover s).flash = s.flash ∧ (State.beginHoldover s).ctrsAt = s.ctrsAt ∧
    (State.beginHoldover s).attn = s.attn ∧ (State.beginHoldover s).partnerLog = s.partnerLog ∧
    (State.beginHoldover s).bbx = s.bbx ∧ (State.beginHoldover s).sens = s.sens ∧
    (State.beginHoldover s).panel = s.panel ∧ (State.beginHoldover s).ports = s.ports ∧
    (State.beginHoldover s).cages = s.cages ∧ (State.beginHoldover s).tcp = s.tcp ∧
    (State.beginHoldover s).streams = s.streams ∧ (State.beginHoldover s).align = s.align ∧
    (State.beginHoldover s).swage = s.swage ∧ (State.beginHoldover s).osc = s.osc ∧ (State.beginHoldover s).isl = s.isl ∧
    (State.beginHoldover s).sch = s.sch ∧ (State.beginHoldover s).logic = s.logic ∧ (State.beginHoldover s).cap = s.cap ∧
    (State.beginHoldover s).pub = s.pub ∧ (State.beginHoldover s).pair = s.pair ∧ (State.beginHoldover s).otp = s.otp ∧
    (State.beginHoldover s).vault = s.vault ∧ (State.beginHoldover s).emp = s.emp ∧ (State.beginHoldover s).tap = s.tap ∧
    (State.beginHoldover s).ext = s.ext ∧ (State.beginHoldover s).served = s.served ∧
    (State.beginHoldover s).free = s.free ∧ (State.beginHoldover s).pending = s.pending := by
  simp [State.beginHoldover]

@[simp] theorem State.forceLapse_frame (s : State) :
    (State.forceLapse s).boot = s.boot ∧ (State.forceLapse s).img = s.img ∧ (State.forceLapse s).flash = s.flash ∧
    (State.forceLapse s).ctrsAt = s.ctrsAt ∧ (State.forceLapse s).partnerLog = s.partnerLog ∧
    (State.forceLapse s).bbx = s.bbx ∧ (State.forceLapse s).sens = s.sens ∧ (State.forceLapse s).panel = s.panel ∧
    (State.forceLapse s).cages = s.cages ∧ (State.forceLapse s).tcp = s.tcp ∧ (State.forceLapse s).streams = s.streams ∧
    (State.forceLapse s).align = s.align ∧ (State.forceLapse s).swage = s.swage ∧ (State.forceLapse s).osc = s.osc ∧
    (State.forceLapse s).isl = s.isl ∧ (State.forceLapse s).sch = s.sch ∧ (State.forceLapse s).logic = s.logic ∧
    (State.forceLapse s).cap = s.cap ∧ (State.forceLapse s).pub = s.pub ∧ (State.forceLapse s).otp = s.otp ∧
    (State.forceLapse s).vault = s.vault ∧ (State.forceLapse s).emp = s.emp ∧ (State.forceLapse s).tap = s.tap ∧
    (State.forceLapse s).ext = s.ext ∧ (State.forceLapse s).served = s.served ∧ (State.forceLapse s).free = s.free ∧
    (State.forceLapse s).pending = s.pending := by
  simp [State.forceLapse]

@[simp] theorem State.dissent_frame (s : State) (v : VoteSet) :
    (State.dissent s v).boot = s.boot ∧ (State.dissent s v).img = s.img ∧ (State.dissent s v).flash = s.flash ∧
    (State.dissent s v).ctrsAt = s.ctrsAt ∧ (State.dissent s v).partnerLog = s.partnerLog ∧
    (State.dissent s v).bbx = s.bbx ∧ (State.dissent s v).sens = s.sens ∧ (State.dissent s v).panel = s.panel ∧
    (State.dissent s v).cages = s.cages ∧ (State.dissent s v).tcp = s.tcp ∧ (State.dissent s v).streams = s.streams ∧
    (State.dissent s v).align = s.align ∧ (State.dissent s v).swage = s.swage ∧ (State.dissent s v).osc = s.osc ∧
    (State.dissent s v).isl = s.isl ∧ (State.dissent s v).sch = s.sch ∧ (State.dissent s v).logic = s.logic ∧
    (State.dissent s v).cap = s.cap ∧ (State.dissent s v).pub = s.pub ∧ (State.dissent s v).otp = s.otp ∧
    (State.dissent s v).vault = s.vault ∧ (State.dissent s v).emp = s.emp ∧ (State.dissent s v).tap = s.tap ∧
    (State.dissent s v).ext = s.ext ∧ (State.dissent s v).served = s.served ∧ (State.dissent s v).free = s.free ∧
    (State.dissent s v).pending = s.pending := by
  simp [State.dissent]

@[simp] theorem State.voteMajority_frame (s : State) (v : VoteSet) :
    (State.voteMajority s v).img = s.img ∧ (State.voteMajority s v).flash = s.flash ∧
    (State.voteMajority s v).ctrsAt = s.ctrsAt ∧ (State.voteMajority s v).partnerLog = s.partnerLog ∧
    (State.voteMajority s v).bbx = s.bbx ∧ (State.voteMajority s v).sens = s.sens ∧
    (State.voteMajority s v).panel = s.panel ∧ (State.voteMajority s v).cages = s.cages ∧
    (State.voteMajority s v).tcp = s.tcp ∧ (State.voteMajority s v).otp = s.otp ∧
    (State.voteMajority s v).vault = s.vault ∧ (State.voteMajority s v).emp = s.emp ∧
    (State.voteMajority s v).tap = s.tap ∧ (State.voteMajority s v).ext = s.ext ∧
    (State.voteMajority s v).served = s.served ∧ (State.voteMajority s v).free = s.free ∧
    (State.voteMajority s v).pending = s.pending := by
  simp [State.voteMajority]

@[simp] theorem State.voteNone_frame (s : State) :
    (State.voteNone s).boot = s.boot ∧ (State.voteNone s).img = s.img ∧ (State.voteNone s).flash = s.flash ∧
    (State.voteNone s).ctrsAt = s.ctrsAt ∧ (State.voteNone s).partnerLog = s.partnerLog ∧
    (State.voteNone s).bbx = s.bbx ∧ (State.voteNone s).sens = s.sens ∧ (State.voteNone s).panel = s.panel ∧
    (State.voteNone s).cages = s.cages ∧ (State.voteNone s).tcp = s.tcp ∧ (State.voteNone s).streams = s.streams ∧
    (State.voteNone s).align = s.align ∧ (State.voteNone s).swage = s.swage ∧ (State.voteNone s).osc = s.osc ∧
    (State.voteNone s).isl = s.isl ∧ (State.voteNone s).sch = s.sch ∧ (State.voteNone s).logic = s.logic ∧
    (State.voteNone s).cap = s.cap ∧ (State.voteNone s).pub = s.pub ∧ (State.voteNone s).otp = s.otp ∧
    (State.voteNone s).vault = s.vault ∧ (State.voteNone s).emp = s.emp ∧ (State.voteNone s).tap = s.tap ∧
    (State.voteNone s).ext = s.ext ∧ (State.voteNone s).served = s.served ∧ (State.voteNone s).free = s.free ∧
    (State.voteNone s).pending = s.pending := by
  simp [State.voteNone]

@[simp] theorem State.takeLeap_frame (s : State) :
    (State.takeLeap s).boot = s.boot ∧ (State.takeLeap s).img = s.img ∧ (State.takeLeap s).flash = s.flash ∧
    (State.takeLeap s).ctrs = s.ctrs ∧ (State.takeLeap s).ctrsAt = s.ctrsAt ∧ (State.takeLeap s).attn = s.attn ∧
    (State.takeLeap s).partnerLog = s.partnerLog ∧ (State.takeLeap s).bbx = s.bbx ∧ (State.takeLeap s).sens = s.sens ∧
    (State.takeLeap s).panel = s.panel ∧ (State.takeLeap s).ports = s.ports ∧ (State.takeLeap s).cages = s.cages ∧
    (State.takeLeap s).tcp = s.tcp ∧ (State.takeLeap s).streams = s.streams ∧ (State.takeLeap s).align = s.align ∧
    (State.takeLeap s).swage = s.swage ∧ (State.takeLeap s).osc = s.osc ∧ (State.takeLeap s).isl = s.isl ∧
    (State.takeLeap s).sch = s.sch ∧ (State.takeLeap s).logic = s.logic ∧ (State.takeLeap s).cap = s.cap ∧
    (State.takeLeap s).pub = s.pub ∧ (State.takeLeap s).pair = s.pair ∧ (State.takeLeap s).otp = s.otp ∧
    (State.takeLeap s).vault = s.vault ∧ (State.takeLeap s).emp = s.emp ∧ (State.takeLeap s).tap = s.tap ∧
    (State.takeLeap s).ext = s.ext ∧ (State.takeLeap s).served = s.served ∧ (State.takeLeap s).free = s.free ∧
    (State.takeLeap s).pending = s.pending := by
  unfold State.takeLeap
  try dsimp only
  repeat' split
  all_goals simp

@[simp] theorem State.refLost_frame (s : State) :
    (State.refLost s).boot = s.boot ∧ (State.refLost s).img = s.img ∧ (State.refLost s).flash = s.flash ∧
    (State.refLost s).ctrsAt = s.ctrsAt ∧ (State.refLost s).partnerLog = s.partnerLog ∧ (State.refLost s).bbx = s.bbx ∧
    (State.refLost s).sens = s.sens ∧ (State.refLost s).panel = s.panel ∧ (State.refLost s).cages = s.cages ∧
    (State.refLost s).tcp = s.tcp ∧ (State.refLost s).streams = s.streams ∧ (State.refLost s).align = s.align ∧
    (State.refLost s).swage = s.swage ∧ (State.refLost s).osc = s.osc ∧ (State.refLost s).isl = s.isl ∧
    (State.refLost s).sch = s.sch ∧ (State.refLost s).logic = s.logic ∧ (State.refLost s).cap = s.cap ∧
    (State.refLost s).pub = s.pub ∧ (State.refLost s).otp = s.otp ∧ (State.refLost s).vault = s.vault ∧
    (State.refLost s).emp = s.emp ∧ (State.refLost s).tap = s.tap ∧ (State.refLost s).ext = s.ext ∧
    (State.refLost s).served = s.served ∧ (State.refLost s).free = s.free ∧ (State.refLost s).pending = s.pending := by
  simp [State.refLost]

end Sys2Proof.Machine
end

