-- ==== Sys2Proof/Laws/FramePair.lean ====
section
/-! SUPPORT. What each operation of Machine/Pair.lean leaves unchanged: one frame lemma per operation. -/

namespace Sys2Proof.Machine

@[simp] theorem State.pathLost_frame (s : State) (n : Nat) :
    (State.pathLost s n).boot = s.boot ∧ (State.pathLost s n).img = s.img ∧ (State.pathLost s n).flash = s.flash ∧
    (State.pathLost s n).ctrsAt = s.ctrsAt ∧ (State.pathLost s n).partnerLog = s.partnerLog ∧
    (State.pathLost s n).bbx = s.bbx ∧ (State.pathLost s n).sens = s.sens ∧ (State.pathLost s n).panel = s.panel ∧
    (State.pathLost s n).cages = s.cages ∧ (State.pathLost s n).tcp = s.tcp ∧ (State.pathLost s n).streams = s.streams ∧
    (State.pathLost s n).time = s.time ∧ (State.pathLost s n).align = s.align ∧ (State.pathLost s n).swage = s.swage ∧
    (State.pathLost s n).osc = s.osc ∧ (State.pathLost s n).isl = s.isl ∧ (State.pathLost s n).sch = s.sch ∧
    (State.pathLost s n).logic = s.logic ∧ (State.pathLost s n).cap = s.cap ∧ (State.pathLost s n).pub = s.pub ∧
    (State.pathLost s n).otp = s.otp ∧ (State.pathLost s n).vault = s.vault ∧ (State.pathLost s n).emp = s.emp ∧
    (State.pathLost s n).tap = s.tap ∧ (State.pathLost s n).ext = s.ext ∧ (State.pathLost s n).served = s.served ∧
    (State.pathLost s n).free = s.free ∧ (State.pathLost s n).pending = s.pending := by
  simp [State.pathLost]

@[simp] theorem State.woideDown_frame (s : State) :
    (State.woideDown s).boot = s.boot ∧ (State.woideDown s).img = s.img ∧ (State.woideDown s).flash = s.flash ∧
    (State.woideDown s).ctrsAt = s.ctrsAt ∧ (State.woideDown s).partnerLog = s.partnerLog ∧
    (State.woideDown s).bbx = s.bbx ∧ (State.woideDown s).sens = s.sens ∧ (State.woideDown s).panel = s.panel ∧
    (State.woideDown s).cages = s.cages ∧ (State.woideDown s).tcp = s.tcp ∧ (State.woideDown s).streams = s.streams ∧
    (State.woideDown s).time = s.time ∧ (State.woideDown s).align = s.align ∧ (State.woideDown s).swage = s.swage ∧
    (State.woideDown s).osc = s.osc ∧ (State.woideDown s).isl = s.isl ∧ (State.woideDown s).sch = s.sch ∧
    (State.woideDown s).logic = s.logic ∧ (State.woideDown s).cap = s.cap ∧ (State.woideDown s).pub = s.pub ∧
    (State.woideDown s).otp = s.otp ∧ (State.woideDown s).vault = s.vault ∧ (State.woideDown s).emp = s.emp ∧
    (State.woideDown s).tap = s.tap ∧ (State.woideDown s).ext = s.ext ∧ (State.woideDown s).served = s.served ∧
    (State.woideDown s).free = s.free ∧ (State.woideDown s).pending = s.pending := by
  simp [State.woideDown]

@[simp] theorem State.keepMirror_frame (s : State) (tag : Ns) (d : Delta) :
    (State.keepMirror s tag d).boot = s.boot ∧ (State.keepMirror s tag d).img = s.img ∧
    (State.keepMirror s tag d).flash = s.flash ∧ (State.keepMirror s tag d).ctrsAt = s.ctrsAt ∧
    (State.keepMirror s tag d).attn = s.attn ∧ (State.keepMirror s tag d).partnerLog = s.partnerLog ∧
    (State.keepMirror s tag d).bbx = s.bbx ∧ (State.keepMirror s tag d).sens = s.sens ∧
    (State.keepMirror s tag d).panel = s.panel ∧ (State.keepMirror s tag d).cages = s.cages ∧
    (State.keepMirror s tag d).tcp = s.tcp ∧ (State.keepMirror s tag d).streams = s.streams ∧
    (State.keepMirror s tag d).time = s.time ∧ (State.keepMirror s tag d).align = s.align ∧
    (State.keepMirror s tag d).swage = s.swage ∧ (State.keepMirror s tag d).osc = s.osc ∧
    (State.keepMirror s tag d).isl = s.isl ∧ (State.keepMirror s tag d).sch = s.sch ∧
    (State.keepMirror s tag d).logic = s.logic ∧ (State.keepMirror s tag d).cap = s.cap ∧
    (State.keepMirror s tag d).pub = s.pub ∧ (State.keepMirror s tag d).otp = s.otp ∧
    (State.keepMirror s tag d).vault = s.vault ∧ (State.keepMirror s tag d).emp = s.emp ∧
    (State.keepMirror s tag d).tap = s.tap ∧ (State.keepMirror s tag d).ext = s.ext ∧
    (State.keepMirror s tag d).served = s.served ∧ (State.keepMirror s tag d).free = s.free ∧
    (State.keepMirror s tag d).pending = s.pending := by
  simp [State.keepMirror]

@[simp] theorem State.takeDelta_frame (s : State) (tag : Ns) (d : Delta) :
    (State.takeDelta s tag d).boot = s.boot ∧ (State.takeDelta s tag d).img = s.img ∧
    (State.takeDelta s tag d).flash = s.flash ∧ (State.takeDelta s tag d).ctrsAt = s.ctrsAt ∧
    (State.takeDelta s tag d).attn = s.attn ∧ (State.takeDelta s tag d).bbx = s.bbx ∧
    (State.takeDelta s tag d).sens = s.sens ∧ (State.takeDelta s tag d).panel = s.panel ∧
    (State.takeDelta s tag d).cages = s.cages ∧ (State.takeDelta s tag d).tcp = s.tcp ∧
    (State.takeDelta s tag d).streams = s.streams ∧ (State.takeDelta s tag d).time = s.time ∧
    (State.takeDelta s tag d).align = s.align ∧ (State.takeDelta s tag d).swage = s.swage ∧
    (State.takeDelta s tag d).osc = s.osc ∧ (State.takeDelta s tag d).isl = s.isl ∧
    (State.takeDelta s tag d).sch = s.sch ∧ (State.takeDelta s tag d).cap = s.cap ∧
    (State.takeDelta s tag d).pub = s.pub ∧ (State.takeDelta s tag d).otp = s.otp ∧
    (State.takeDelta s tag d).vault = s.vault ∧ (State.takeDelta s tag d).tap = s.tap ∧
    (State.takeDelta s tag d).ext = s.ext ∧ (State.takeDelta s tag d).served = s.served ∧
    (State.takeDelta s tag d).free = s.free ∧ (State.takeDelta s tag d).pending = s.pending := by
  unfold State.takeDelta
  split <;> simp

@[simp] theorem State.takeItem_frame (s : State) (tag : Ns) (d : Delta) :
    (State.takeItem s tag d).boot = s.boot ∧ (State.takeItem s tag d).img = s.img ∧
    (State.takeItem s tag d).flash = s.flash ∧ (State.takeItem s tag d).ctrsAt = s.ctrsAt ∧
    (State.takeItem s tag d).attn = s.attn ∧ (State.takeItem s tag d).bbx = s.bbx ∧
    (State.takeItem s tag d).sens = s.sens ∧ (State.takeItem s tag d).panel = s.panel ∧
    (State.takeItem s tag d).cages = s.cages ∧ (State.takeItem s tag d).tcp = s.tcp ∧
    (State.takeItem s tag d).streams = s.streams ∧ (State.takeItem s tag d).time = s.time ∧
    (State.takeItem s tag d).align = s.align ∧ (State.takeItem s tag d).swage = s.swage ∧
    (State.takeItem s tag d).osc = s.osc ∧ (State.takeItem s tag d).isl = s.isl ∧ (State.takeItem s tag d).sch = s.sch ∧
    (State.takeItem s tag d).cap = s.cap ∧ (State.takeItem s tag d).pub = s.pub ∧ (State.takeItem s tag d).otp = s.otp ∧
    (State.takeItem s tag d).vault = s.vault ∧ (State.takeItem s tag d).tap = s.tap ∧
    (State.takeItem s tag d).ext = s.ext ∧ (State.takeItem s tag d).served = s.served ∧
    (State.takeItem s tag d).free = s.free ∧ (State.takeItem s tag d).pending = s.pending := by
  unfold State.takeItem
  split <;> simp

@[simp] theorem State.takePart_frame (s : State) (b : WoideBody) (parts : Nat) (of : Nat → WoideBody) :
    ((State.takePart s b parts of).1).boot = s.boot ∧ ((State.takePart s b parts of).1).img = s.img ∧
    ((State.takePart s b parts of).1).flash = s.flash ∧ ((State.takePart s b parts of).1).ctrs = s.ctrs ∧
    ((State.takePart s b parts of).1).ctrsAt = s.ctrsAt ∧ ((State.takePart s b parts of).1).attn = s.attn ∧
    ((State.takePart s b parts of).1).partnerLog = s.partnerLog ∧ ((State.takePart s b parts of).1).bbx = s.bbx ∧
    ((State.takePart s b parts of).1).sens = s.sens ∧ ((State.takePart s b parts of).1).panel = s.panel ∧
    ((State.takePart s b parts of).1).ports = s.ports ∧ ((State.takePart s b parts of).1).cages = s.cages ∧
    ((State.takePart s b parts of).1).tcp = s.tcp ∧ ((State.takePart s b parts of).1).streams = s.streams ∧
    ((State.takePart s b parts of).1).time = s.time ∧ ((State.takePart s b parts of).1).align = s.align ∧
    ((State.takePart s b parts of).1).swage = s.swage ∧ ((State.takePart s b parts of).1).osc = s.osc ∧
    ((State.takePart s b parts of).1).isl = s.isl ∧ ((State.takePart s b parts of).1).sch = s.sch ∧
    ((State.takePart s b parts of).1).logic = s.logic ∧ ((State.takePart s b parts of).1).cap = s.cap ∧
    ((State.takePart s b parts of).1).pub = s.pub ∧ ((State.takePart s b parts of).1).otp = s.otp ∧
    ((State.takePart s b parts of).1).vault = s.vault ∧ ((State.takePart s b parts of).1).emp = s.emp ∧
    ((State.takePart s b parts of).1).tap = s.tap ∧ ((State.takePart s b parts of).1).ext = s.ext ∧
    ((State.takePart s b parts of).1).served = s.served ∧ ((State.takePart s b parts of).1).free = s.free ∧
    ((State.takePart s b parts of).1).pending = s.pending := by
  unfold State.takePart
  try dsimp only
  repeat' split
  all_goals simp

@[simp] theorem State.noteClaims_frame (s : State) (cs : List Claim) (ts : List TaskEntry) :
    (State.noteClaims s cs ts).boot = s.boot ∧ (State.noteClaims s cs ts).img = s.img ∧
    (State.noteClaims s cs ts).flash = s.flash ∧ (State.noteClaims s cs ts).ctrs = s.ctrs ∧
    (State.noteClaims s cs ts).ctrsAt = s.ctrsAt ∧ (State.noteClaims s cs ts).attn = s.attn ∧
    (State.noteClaims s cs ts).partnerLog = s.partnerLog ∧ (State.noteClaims s cs ts).bbx = s.bbx ∧
    (State.noteClaims s cs ts).sens = s.sens ∧ (State.noteClaims s cs ts).panel = s.panel ∧
    (State.noteClaims s cs ts).ports = s.ports ∧ (State.noteClaims s cs ts).cages = s.cages ∧
    (State.noteClaims s cs ts).tcp = s.tcp ∧ (State.noteClaims s cs ts).streams = s.streams ∧
    (State.noteClaims s cs ts).time = s.time ∧ (State.noteClaims s cs ts).align = s.align ∧
    (State.noteClaims s cs ts).swage = s.swage ∧ (State.noteClaims s cs ts).osc = s.osc ∧
    (State.noteClaims s cs ts).isl = s.isl ∧ (State.noteClaims s cs ts).sch = s.sch ∧
    (State.noteClaims s cs ts).logic = s.logic ∧ (State.noteClaims s cs ts).cap = s.cap ∧
    (State.noteClaims s cs ts).pub = s.pub ∧ (State.noteClaims s cs ts).otp = s.otp ∧
    (State.noteClaims s cs ts).vault = s.vault ∧ (State.noteClaims s cs ts).emp = s.emp ∧
    (State.noteClaims s cs ts).tap = s.tap ∧ (State.noteClaims s cs ts).ext = s.ext ∧
    (State.noteClaims s cs ts).served = s.served ∧ (State.noteClaims s cs ts).free = s.free ∧
    (State.noteClaims s cs ts).pending = s.pending := by
  simp [State.noteClaims]

@[simp] theorem State.takeRole_frame (s : State) (code : Nat) (e : Ns) (cs : List Claim) (ts : List TaskEntry) :
    (State.takeRole s code e cs ts).boot = s.boot ∧ (State.takeRole s code e cs ts).img = s.img ∧
    (State.takeRole s code e cs ts).flash = s.flash ∧ (State.takeRole s code e cs ts).ctrsAt = s.ctrsAt ∧
    (State.takeRole s code e cs ts).attn = s.attn ∧ (State.takeRole s code e cs ts).partnerLog = s.partnerLog ∧
    (State.takeRole s code e cs ts).bbx = s.bbx ∧ (State.takeRole s code e cs ts).sens = s.sens ∧
    (State.takeRole s code e cs ts).panel = s.panel ∧ (State.takeRole s code e cs ts).cages = s.cages ∧
    (State.takeRole s code e cs ts).tcp = s.tcp ∧ (State.takeRole s code e cs ts).streams = s.streams ∧
    (State.takeRole s code e cs ts).time = s.time ∧ (State.takeRole s code e cs ts).align = s.align ∧
    (State.takeRole s code e cs ts).swage = s.swage ∧ (State.takeRole s code e cs ts).osc = s.osc ∧
    (State.takeRole s code e cs ts).isl = s.isl ∧ (State.takeRole s code e cs ts).sch = s.sch ∧
    (State.takeRole s code e cs ts).logic = s.logic ∧ (State.takeRole s code e cs ts).cap = s.cap ∧
    (State.takeRole s code e cs ts).pub = s.pub ∧ (State.takeRole s code e cs ts).otp = s.otp ∧
    (State.takeRole s code e cs ts).vault = s.vault ∧ (State.takeRole s code e cs ts).emp = s.emp ∧
    (State.takeRole s code e cs ts).tap = s.tap ∧ (State.takeRole s code e cs ts).ext = s.ext ∧
    (State.takeRole s code e cs ts).served = s.served ∧ (State.takeRole s code e cs ts).free = s.free ∧
    (State.takeRole s code e cs ts).pending = s.pending := by
  unfold State.takeRole
  split <;> simp

@[simp] theorem State.takeChange_frame (s : State) (e : Ns) (cs : List ChangeEntry) :
    (State.takeChange s e cs).boot = s.boot ∧ (State.takeChange s e cs).img = s.img ∧
    (State.takeChange s e cs).flash = s.flash ∧ (State.takeChange s e cs).ctrsAt = s.ctrsAt ∧
    (State.takeChange s e cs).attn = s.attn ∧ (State.takeChange s e cs).partnerLog = s.partnerLog ∧
    (State.takeChange s e cs).bbx = s.bbx ∧ (State.takeChange s e cs).sens = s.sens ∧
    (State.takeChange s e cs).panel = s.panel ∧ (State.takeChange s e cs).cages = s.cages ∧
    (State.takeChange s e cs).tcp = s.tcp ∧ (State.takeChange s e cs).streams = s.streams ∧
    (State.takeChange s e cs).time = s.time ∧ (State.takeChange s e cs).align = s.align ∧
    (State.takeChange s e cs).swage = s.swage ∧ (State.takeChange s e cs).osc = s.osc ∧
    (State.takeChange s e cs).isl = s.isl ∧ (State.takeChange s e cs).sch = s.sch ∧
    (State.takeChange s e cs).logic = s.logic ∧ (State.takeChange s e cs).cap = s.cap ∧
    (State.takeChange s e cs).pub = s.pub ∧ (State.takeChange s e cs).otp = s.otp ∧
    (State.takeChange s e cs).vault = s.vault ∧ (State.takeChange s e cs).tap = s.tap ∧
    (State.takeChange s e cs).ext = s.ext ∧ (State.takeChange s e cs).served = s.served ∧
    (State.takeChange s e cs).free = s.free ∧ (State.takeChange s e cs).pending = s.pending := by
  unfold State.takeChange
  split <;> simp

@[simp] theorem State.applyBody_frame (s : State) (b : WoideBody) :
    (State.applyBody s b).boot = s.boot ∧ (State.applyBody s b).img = s.img ∧ (State.applyBody s b).flash = s.flash ∧
    (State.applyBody s b).ctrsAt = s.ctrsAt ∧ (State.applyBody s b).bbx = s.bbx ∧ (State.applyBody s b).sens = s.sens ∧
    (State.applyBody s b).panel = s.panel ∧ (State.applyBody s b).cages = s.cages ∧ (State.applyBody s b).time = s.time ∧
    (State.applyBody s b).osc = s.osc ∧ (State.applyBody s b).isl = s.isl ∧ (State.applyBody s b).otp = s.otp ∧
    (State.applyBody s b).vault = s.vault ∧ (State.applyBody s b).tap = s.tap ∧ (State.applyBody s b).ext = s.ext ∧
    (State.applyBody s b).served = s.served ∧ (State.applyBody s b).free = s.free ∧
    (State.applyBody s b).pending = s.pending := by
  unfold State.applyBody
  try dsimp only
  repeat' split
  all_goals first
    | (simp; done)
    | (rename_i h; have h1 := congrArg Prod.fst h; dsimp only at h1; subst h1; simp; done)
    | (rename_i h _; have h1 := congrArg Prod.fst h; dsimp only at h1; subst h1; simp; done)
    | (rename_i h _ _; have h1 := congrArg Prod.fst h; dsimp only at h1; subst h1; simp; done)

@[simp] theorem State.takeWoideAck_frame (s : State) (f : WoideFrame) :
    (State.takeWoideAck s f).boot = s.boot ∧ (State.takeWoideAck s f).img = s.img ∧
    (State.takeWoideAck s f).flash = s.flash ∧ (State.takeWoideAck s f).ctrsAt = s.ctrsAt ∧
    (State.takeWoideAck s f).attn = s.attn ∧ (State.takeWoideAck s f).partnerLog = s.partnerLog ∧
    (State.takeWoideAck s f).bbx = s.bbx ∧ (State.takeWoideAck s f).sens = s.sens ∧
    (State.takeWoideAck s f).panel = s.panel ∧ (State.takeWoideAck s f).cages = s.cages ∧
    (State.takeWoideAck s f).tcp = s.tcp ∧ (State.takeWoideAck s f).streams = s.streams ∧
    (State.takeWoideAck s f).time = s.time ∧ (State.takeWoideAck s f).align = s.align ∧
    (State.takeWoideAck s f).swage = s.swage ∧ (State.takeWoideAck s f).osc = s.osc ∧
    (State.takeWoideAck s f).isl = s.isl ∧ (State.takeWoideAck s f).sch = s.sch ∧
    (State.takeWoideAck s f).logic = s.logic ∧ (State.takeWoideAck s f).cap = s.cap ∧
    (State.takeWoideAck s f).pub = s.pub ∧ (State.takeWoideAck s f).otp = s.otp ∧
    (State.takeWoideAck s f).vault = s.vault ∧ (State.takeWoideAck s f).tap = s.tap ∧
    (State.takeWoideAck s f).ext = s.ext ∧ (State.takeWoideAck s f).served = s.served ∧
    (State.takeWoideAck s f).free = s.free ∧ (State.takeWoideAck s f).pending = s.pending := by
  simp [State.takeWoideAck]

@[simp] theorem State.drainWoide_frame (n : Nat) (s : State) :
    (State.drainWoide n s).boot = s.boot ∧ (State.drainWoide n s).img = s.img ∧ (State.drainWoide n s).flash = s.flash ∧
    (State.drainWoide n s).ctrsAt = s.ctrsAt ∧ (State.drainWoide n s).bbx = s.bbx ∧
    (State.drainWoide n s).sens = s.sens ∧ (State.drainWoide n s).panel = s.panel ∧
    (State.drainWoide n s).cages = s.cages ∧ (State.drainWoide n s).time = s.time ∧ (State.drainWoide n s).osc = s.osc ∧
    (State.drainWoide n s).isl = s.isl ∧ (State.drainWoide n s).otp = s.otp ∧ (State.drainWoide n s).vault = s.vault ∧
    (State.drainWoide n s).tap = s.tap ∧ (State.drainWoide n s).ext = s.ext ∧ (State.drainWoide n s).served = s.served ∧
    (State.drainWoide n s).free = s.free ∧ (State.drainWoide n s).pending = s.pending := by
  induction n generalizing s with
  | zero => simp [State.drainWoide]
  | succ n ih =>
    unfold State.drainWoide
    split
    all_goals simp [ih]


@[simp] theorem State.takeHello_frame (s : State) (f : WoideFrame) (echo : BitVec 32) (hash : BitVec 64) :
    (State.takeHello s f echo hash).boot = s.boot ∧ (State.takeHello s f echo hash).img = s.img ∧
    (State.takeHello s f echo hash).flash = s.flash ∧ (State.takeHello s f echo hash).ctrsAt = s.ctrsAt ∧
    (State.takeHello s f echo hash).attn = s.attn ∧ (State.takeHello s f echo hash).partnerLog = s.partnerLog ∧
    (State.takeHello s f echo hash).bbx = s.bbx ∧ (State.takeHello s f echo hash).sens = s.sens ∧
    (State.takeHello s f echo hash).panel = s.panel ∧ (State.takeHello s f echo hash).cages = s.cages ∧
    (State.takeHello s f echo hash).tcp = s.tcp ∧ (State.takeHello s f echo hash).streams = s.streams ∧
    (State.takeHello s f echo hash).time = s.time ∧ (State.takeHello s f echo hash).align = s.align ∧
    (State.takeHello s f echo hash).swage = s.swage ∧ (State.takeHello s f echo hash).osc = s.osc ∧
    (State.takeHello s f echo hash).isl = s.isl ∧ (State.takeHello s f echo hash).sch = s.sch ∧
    (State.takeHello s f echo hash).logic = s.logic ∧ (State.takeHello s f echo hash).cap = s.cap ∧
    (State.takeHello s f echo hash).pub = s.pub ∧ (State.takeHello s f echo hash).otp = s.otp ∧
    (State.takeHello s f echo hash).vault = s.vault ∧ (State.takeHello s f echo hash).emp = s.emp ∧
    (State.takeHello s f echo hash).tap = s.tap ∧ (State.takeHello s f echo hash).ext = s.ext ∧
    (State.takeHello s f echo hash).served = s.served ∧ (State.takeHello s f echo hash).free = s.free ∧
    (State.takeHello s f echo hash).pending = s.pending := by
  simp [State.takeHello]

@[simp] theorem State.takeDigest_frame (s : State) (d : DigestRec) :
    (State.takeDigest s d).boot = s.boot ∧ (State.takeDigest s d).img = s.img ∧ (State.takeDigest s d).flash = s.flash ∧
    (State.takeDigest s d).ctrsAt = s.ctrsAt ∧ (State.takeDigest s d).partnerLog = s.partnerLog ∧
    (State.takeDigest s d).bbx = s.bbx ∧ (State.takeDigest s d).sens = s.sens ∧ (State.takeDigest s d).panel = s.panel ∧
    (State.takeDigest s d).cages = s.cages ∧ (State.takeDigest s d).tcp = s.tcp ∧
    (State.takeDigest s d).streams = s.streams ∧ (State.takeDigest s d).time = s.time ∧
    (State.takeDigest s d).align = s.align ∧ (State.takeDigest s d).swage = s.swage ∧
    (State.takeDigest s d).osc = s.osc ∧ (State.takeDigest s d).isl = s.isl ∧ (State.takeDigest s d).sch = s.sch ∧
    (State.takeDigest s d).logic = s.logic ∧ (State.takeDigest s d).cap = s.cap ∧ (State.takeDigest s d).pub = s.pub ∧
    (State.takeDigest s d).otp = s.otp ∧ (State.takeDigest s d).vault = s.vault ∧ (State.takeDigest s d).emp = s.emp ∧
    (State.takeDigest s d).tap = s.tap ∧ (State.takeDigest s d).ext = s.ext ∧ (State.takeDigest s d).served = s.served ∧
    (State.takeDigest s d).free = s.free ∧ (State.takeDigest s d).pending = s.pending := by
  simp [State.takeDigest]

@[simp] theorem State.takeSeq_frame (s : State) (f : WoideFrame) :
    (State.takeSeq s f).boot = s.boot ∧ (State.takeSeq s f).img = s.img ∧ (State.takeSeq s f).flash = s.flash ∧
    (State.takeSeq s f).ctrsAt = s.ctrsAt ∧ (State.takeSeq s f).bbx = s.bbx ∧ (State.takeSeq s f).sens = s.sens ∧
    (State.takeSeq s f).panel = s.panel ∧ (State.takeSeq s f).cages = s.cages ∧ (State.takeSeq s f).time = s.time ∧
    (State.takeSeq s f).osc = s.osc ∧ (State.takeSeq s f).isl = s.isl ∧ (State.takeSeq s f).otp = s.otp ∧
    (State.takeSeq s f).vault = s.vault ∧ (State.takeSeq s f).tap = s.tap ∧ (State.takeSeq s f).ext = s.ext ∧
    (State.takeSeq s f).served = s.served ∧ (State.takeSeq s f).free = s.free ∧ (State.takeSeq s f).pending = s.pending := by
  simp [State.takeSeq]

@[simp] theorem State.woideReceive_frame (s : State) (f : WoideFrame) :
    (State.woideReceive s f).boot = s.boot ∧ (State.woideReceive s f).img = s.img ∧
    (State.woideReceive s f).flash = s.flash ∧ (State.woideReceive s f).ctrsAt = s.ctrsAt ∧
    (State.woideReceive s f).bbx = s.bbx ∧ (State.woideReceive s f).sens = s.sens ∧
    (State.woideReceive s f).panel = s.panel ∧ (State.woideReceive s f).cages = s.cages ∧
    (State.woideReceive s f).time = s.time ∧ (State.woideReceive s f).osc = s.osc ∧
    (State.woideReceive s f).isl = s.isl ∧ (State.woideReceive s f).otp = s.otp ∧
    (State.woideReceive s f).vault = s.vault ∧ (State.woideReceive s f).tap = s.tap ∧
    (State.woideReceive s f).ext = s.ext ∧ (State.woideReceive s f).served = s.served ∧
    (State.woideReceive s f).free = s.free ∧ (State.woideReceive s f).pending = s.pending := by
  unfold State.woideReceive
  try dsimp only
  repeat' split
  all_goals simp

@[simp] theorem State.judgePaths_frame (s : State) :
    (State.judgePaths s).boot = s.boot ∧ (State.judgePaths s).img = s.img ∧ (State.judgePaths s).flash = s.flash ∧
    (State.judgePaths s).ctrsAt = s.ctrsAt ∧ (State.judgePaths s).partnerLog = s.partnerLog ∧
    (State.judgePaths s).bbx = s.bbx ∧ (State.judgePaths s).sens = s.sens ∧ (State.judgePaths s).panel = s.panel ∧
    (State.judgePaths s).cages = s.cages ∧ (State.judgePaths s).tcp = s.tcp ∧ (State.judgePaths s).streams = s.streams ∧
    (State.judgePaths s).time = s.time ∧ (State.judgePaths s).align = s.align ∧ (State.judgePaths s).swage = s.swage ∧
    (State.judgePaths s).osc = s.osc ∧ (State.judgePaths s).isl = s.isl ∧ (State.judgePaths s).sch = s.sch ∧
    (State.judgePaths s).logic = s.logic ∧ (State.judgePaths s).cap = s.cap ∧ (State.judgePaths s).pub = s.pub ∧
    (State.judgePaths s).otp = s.otp ∧ (State.judgePaths s).vault = s.vault ∧ (State.judgePaths s).emp = s.emp ∧
    (State.judgePaths s).tap = s.tap ∧ (State.judgePaths s).ext = s.ext ∧ (State.judgePaths s).served = s.served ∧
    (State.judgePaths s).free = s.free ∧ (State.judgePaths s).pending = s.pending := by
  simp [State.judgePaths]

@[simp] theorem State.decideRole_frame (s : State) (r : Role) (lvl : Nat) :
    (State.decideRole s r lvl).boot = s.boot ∧ (State.decideRole s r lvl).img = s.img ∧
    (State.decideRole s r lvl).flash = s.flash ∧ (State.decideRole s r lvl).ctrsAt = s.ctrsAt ∧
    (State.decideRole s r lvl).partnerLog = s.partnerLog ∧ (State.decideRole s r lvl).bbx = s.bbx ∧
    (State.decideRole s r lvl).sens = s.sens ∧ (State.decideRole s r lvl).panel = s.panel ∧
    (State.decideRole s r lvl).cages = s.cages ∧ (State.decideRole s r lvl).tcp = s.tcp ∧
    (State.decideRole s r lvl).streams = s.streams ∧ (State.decideRole s r lvl).time = s.time ∧
    (State.decideRole s r lvl).align = s.align ∧ (State.decideRole s r lvl).swage = s.swage ∧
    (State.decideRole s r lvl).osc = s.osc ∧ (State.decideRole s r lvl).isl = s.isl ∧
    (State.decideRole s r lvl).sch = s.sch ∧ (State.decideRole s r lvl).logic = s.logic ∧
    (State.decideRole s r lvl).cap = s.cap ∧ (State.decideRole s r lvl).pub = s.pub ∧
    (State.decideRole s r lvl).otp = s.otp ∧ (State.decideRole s r lvl).vault = s.vault ∧
    (State.decideRole s r lvl).emp = s.emp ∧ (State.decideRole s r lvl).tap = s.tap ∧
    (State.decideRole s r lvl).ext = s.ext ∧ (State.decideRole s r lvl).served = s.served ∧
    (State.decideRole s r lvl).free = s.free ∧ (State.decideRole s r lvl).pending = s.pending := by
  simp [State.decideRole]

@[simp] theorem State.roleDecision_frame (s : State) (fresh : Bool) :
    (State.roleDecision s fresh).boot = s.boot ∧ (State.roleDecision s fresh).img = s.img ∧
    (State.roleDecision s fresh).flash = s.flash ∧ (State.roleDecision s fresh).ctrsAt = s.ctrsAt ∧
    (State.roleDecision s fresh).partnerLog = s.partnerLog ∧ (State.roleDecision s fresh).bbx = s.bbx ∧
    (State.roleDecision s fresh).sens = s.sens ∧ (State.roleDecision s fresh).panel = s.panel ∧
    (State.roleDecision s fresh).cages = s.cages ∧ (State.roleDecision s fresh).tcp = s.tcp ∧
    (State.roleDecision s fresh).streams = s.streams ∧ (State.roleDecision s fresh).time = s.time ∧
    (State.roleDecision s fresh).align = s.align ∧ (State.roleDecision s fresh).swage = s.swage ∧
    (State.roleDecision s fresh).osc = s.osc ∧ (State.roleDecision s fresh).isl = s.isl ∧
    (State.roleDecision s fresh).sch = s.sch ∧ (State.roleDecision s fresh).logic = s.logic ∧
    (State.roleDecision s fresh).cap = s.cap ∧ (State.roleDecision s fresh).pub = s.pub ∧
    (State.roleDecision s fresh).otp = s.otp ∧ (State.roleDecision s fresh).vault = s.vault ∧
    (State.roleDecision s fresh).emp = s.emp ∧ (State.roleDecision s fresh).tap = s.tap ∧
    (State.roleDecision s fresh).ext = s.ext ∧ (State.roleDecision s fresh).served = s.served ∧
    (State.roleDecision s fresh).free = s.free ∧ (State.roleDecision s fresh).pending = s.pending := by
  simp [State.roleDecision]

@[simp] theorem State.unknownPaths_frame (s : State) :
    (State.unknownPaths s).boot = s.boot ∧ (State.unknownPaths s).img = s.img ∧ (State.unknownPaths s).flash = s.flash ∧
    (State.unknownPaths s).ctrsAt = s.ctrsAt ∧ (State.unknownPaths s).partnerLog = s.partnerLog ∧
    (State.unknownPaths s).bbx = s.bbx ∧ (State.unknownPaths s).sens = s.sens ∧ (State.unknownPaths s).panel = s.panel ∧
    (State.unknownPaths s).cages = s.cages ∧ (State.unknownPaths s).tcp = s.tcp ∧
    (State.unknownPaths s).streams = s.streams ∧ (State.unknownPaths s).time = s.time ∧
    (State.unknownPaths s).align = s.align ∧ (State.unknownPaths s).swage = s.swage ∧
    (State.unknownPaths s).osc = s.osc ∧ (State.unknownPaths s).isl = s.isl ∧ (State.unknownPaths s).sch = s.sch ∧
    (State.unknownPaths s).logic = s.logic ∧ (State.unknownPaths s).cap = s.cap ∧ (State.unknownPaths s).pub = s.pub ∧
    (State.unknownPaths s).otp = s.otp ∧ (State.unknownPaths s).vault = s.vault ∧ (State.unknownPaths s).emp = s.emp ∧
    (State.unknownPaths s).tap = s.tap ∧ (State.unknownPaths s).ext = s.ext ∧ (State.unknownPaths s).served = s.served ∧
    (State.unknownPaths s).free = s.free ∧ (State.unknownPaths s).pending = s.pending := by
  simp [State.unknownPaths]

@[simp] theorem State.countGaps_frame (s : State) :
    (State.countGaps s).boot = s.boot ∧ (State.countGaps s).img = s.img ∧ (State.countGaps s).flash = s.flash ∧
    (State.countGaps s).ctrsAt = s.ctrsAt ∧ (State.countGaps s).attn = s.attn ∧
    (State.countGaps s).partnerLog = s.partnerLog ∧ (State.countGaps s).bbx = s.bbx ∧ (State.countGaps s).sens = s.sens ∧
    (State.countGaps s).panel = s.panel ∧ (State.countGaps s).ports = s.ports ∧ (State.countGaps s).cages = s.cages ∧
    (State.countGaps s).tcp = s.tcp ∧ (State.countGaps s).streams = s.streams ∧ (State.countGaps s).time = s.time ∧
    (State.countGaps s).align = s.align ∧ (State.countGaps s).swage = s.swage ∧ (State.countGaps s).osc = s.osc ∧
    (State.countGaps s).isl = s.isl ∧ (State.countGaps s).sch = s.sch ∧ (State.countGaps s).logic = s.logic ∧
    (State.countGaps s).cap = s.cap ∧ (State.countGaps s).pub = s.pub ∧ (State.countGaps s).pair = s.pair ∧
    (State.countGaps s).otp = s.otp ∧ (State.countGaps s).vault = s.vault ∧ (State.countGaps s).emp = s.emp ∧
    (State.countGaps s).tap = s.tap ∧ (State.countGaps s).ext = s.ext ∧ (State.countGaps s).served = s.served ∧
    (State.countGaps s).free = s.free ∧ (State.countGaps s).pending = s.pending := by
  unfold State.countGaps
  try dsimp only
  repeat' split
  all_goals simp

@[simp] theorem State.takeAlarm_frame (s : State) (n : Nat) :
    (State.takeAlarm s n).boot = s.boot ∧ (State.takeAlarm s n).img = s.img ∧ (State.takeAlarm s n).flash = s.flash ∧
    (State.takeAlarm s n).ctrsAt = s.ctrsAt ∧ (State.takeAlarm s n).partnerLog = s.partnerLog ∧
    (State.takeAlarm s n).bbx = s.bbx ∧ (State.takeAlarm s n).sens = s.sens ∧ (State.takeAlarm s n).panel = s.panel ∧
    (State.takeAlarm s n).cages = s.cages ∧ (State.takeAlarm s n).tcp = s.tcp ∧ (State.takeAlarm s n).time = s.time ∧
    (State.takeAlarm s n).align = s.align ∧ (State.takeAlarm s n).swage = s.swage ∧ (State.takeAlarm s n).osc = s.osc ∧
    (State.takeAlarm s n).isl = s.isl ∧ (State.takeAlarm s n).sch = s.sch ∧ (State.takeAlarm s n).logic = s.logic ∧
    (State.takeAlarm s n).cap = s.cap ∧ (State.takeAlarm s n).otp = s.otp ∧ (State.takeAlarm s n).emp = s.emp ∧
    (State.takeAlarm s n).tap = s.tap ∧ (State.takeAlarm s n).ext = s.ext ∧ (State.takeAlarm s n).served = s.served ∧
    (State.takeAlarm s n).free = s.free ∧ (State.takeAlarm s n).pending = s.pending := by
  simp [State.takeAlarm]

@[simp] theorem State.takeMirrored_frame (s : State) :
    (State.takeMirrored s).boot = s.boot ∧ (State.takeMirrored s).img = s.img ∧ (State.takeMirrored s).flash = s.flash ∧
    (State.takeMirrored s).ctrsAt = s.ctrsAt ∧ (State.takeMirrored s).attn = s.attn ∧
    (State.takeMirrored s).partnerLog = s.partnerLog ∧ (State.takeMirrored s).bbx = s.bbx ∧
    (State.takeMirrored s).sens = s.sens ∧ (State.takeMirrored s).panel = s.panel ∧
    (State.takeMirrored s).cages = s.cages ∧ (State.takeMirrored s).tcp = s.tcp ∧ (State.takeMirrored s).time = s.time ∧
    (State.takeMirrored s).align = s.align ∧ (State.takeMirrored s).swage = s.swage ∧
    (State.takeMirrored s).osc = s.osc ∧ (State.takeMirrored s).isl = s.isl ∧ (State.takeMirrored s).sch = s.sch ∧
    (State.takeMirrored s).cap = s.cap ∧ (State.takeMirrored s).otp = s.otp ∧ (State.takeMirrored s).vault = s.vault ∧
    (State.takeMirrored s).emp = s.emp ∧ (State.takeMirrored s).tap = s.tap ∧ (State.takeMirrored s).ext = s.ext ∧
    (State.takeMirrored s).served = s.served ∧ (State.takeMirrored s).free = s.free ∧
    (State.takeMirrored s).pending = s.pending := by
  unfold State.takeMirrored
  try dsimp only
  refine forAll_inv (fun t : State =>
    t.boot = s.boot ∧ t.img = s.img ∧ t.flash = s.flash ∧ t.ctrsAt = s.ctrsAt ∧ t.attn = s.attn ∧
    t.partnerLog = s.partnerLog ∧ t.bbx = s.bbx ∧ t.sens = s.sens ∧ t.panel = s.panel ∧ t.cages = s.cages ∧
    t.tcp = s.tcp ∧ t.time = s.time ∧ t.align = s.align ∧ t.swage = s.swage ∧ t.osc = s.osc ∧ t.isl = s.isl ∧
    t.sch = s.sch ∧ t.cap = s.cap ∧ t.otp = s.otp ∧ t.vault = s.vault ∧ t.emp = s.emp ∧ t.tap = s.tap ∧ t.ext = s.ext ∧
    t.served = s.served ∧ t.free = s.free ∧ t.pending = s.pending) _ ?_ _ _ (by simp)
  intro t x ht
  try dsimp only
  repeat' split
  all_goals simpa using ht

@[simp] theorem State.takeOver_frame (s : State) :
    (State.takeOver s).img = s.img ∧ (State.takeOver s).flash = s.flash ∧ (State.takeOver s).ctrsAt = s.ctrsAt ∧
    (State.takeOver s).partnerLog = s.partnerLog ∧ (State.takeOver s).panel = s.panel ∧
    (State.takeOver s).cages = s.cages ∧ (State.takeOver s).tcp = s.tcp ∧ (State.takeOver s).time = s.time ∧
    (State.takeOver s).align = s.align ∧ (State.takeOver s).swage = s.swage ∧ (State.takeOver s).osc = s.osc ∧
    (State.takeOver s).isl = s.isl ∧ (State.takeOver s).sch = s.sch ∧ (State.takeOver s).cap = s.cap ∧
    (State.takeOver s).otp = s.otp ∧ (State.takeOver s).emp = s.emp ∧ (State.takeOver s).tap = s.tap ∧
    (State.takeOver s).ext = s.ext ∧ (State.takeOver s).served = s.served ∧ (State.takeOver s).free = s.free ∧
    (State.takeOver s).pending = s.pending := by
  simp [State.takeOver]

@[simp] theorem State.adoptAlarm_frame (s : State) (n : Nat) :
    (State.adoptAlarm s n).boot = s.boot ∧ (State.adoptAlarm s n).img = s.img ∧ (State.adoptAlarm s n).flash = s.flash ∧
    (State.adoptAlarm s n).ctrsAt = s.ctrsAt ∧ (State.adoptAlarm s n).attn = s.attn ∧
    (State.adoptAlarm s n).partnerLog = s.partnerLog ∧ (State.adoptAlarm s n).bbx = s.bbx ∧
    (State.adoptAlarm s n).sens = s.sens ∧ (State.adoptAlarm s n).panel = s.panel ∧
    (State.adoptAlarm s n).ports = s.ports ∧ (State.adoptAlarm s n).cages = s.cages ∧
    (State.adoptAlarm s n).tcp = s.tcp ∧ (State.adoptAlarm s n).time = s.time ∧ (State.adoptAlarm s n).align = s.align ∧
    (State.adoptAlarm s n).swage = s.swage ∧ (State.adoptAlarm s n).osc = s.osc ∧ (State.adoptAlarm s n).isl = s.isl ∧
    (State.adoptAlarm s n).sch = s.sch ∧ (State.adoptAlarm s n).logic = s.logic ∧ (State.adoptAlarm s n).cap = s.cap ∧
    (State.adoptAlarm s n).pair = s.pair ∧ (State.adoptAlarm s n).otp = s.otp ∧ (State.adoptAlarm s n).vault = s.vault ∧
    (State.adoptAlarm s n).emp = s.emp ∧ (State.adoptAlarm s n).tap = s.tap ∧ (State.adoptAlarm s n).ext = s.ext ∧
    (State.adoptAlarm s n).served = s.served ∧ (State.adoptAlarm s n).free = s.free ∧
    (State.adoptAlarm s n).pending = s.pending := by
  unfold State.adoptAlarm
  split <;> simp

@[simp] theorem State.adoptMode_frame (s : State) (i : Nat) :
    (State.adoptMode s i).boot = s.boot ∧ (State.adoptMode s i).img = s.img ∧ (State.adoptMode s i).flash = s.flash ∧
    (State.adoptMode s i).ctrsAt = s.ctrsAt ∧ (State.adoptMode s i).attn = s.attn ∧
    (State.adoptMode s i).partnerLog = s.partnerLog ∧ (State.adoptMode s i).bbx = s.bbx ∧
    (State.adoptMode s i).sens = s.sens ∧ (State.adoptMode s i).panel = s.panel ∧ (State.adoptMode s i).ports = s.ports ∧
    (State.adoptMode s i).cages = s.cages ∧ (State.adoptMode s i).tcp = s.tcp ∧
    (State.adoptMode s i).streams = s.streams ∧ (State.adoptMode s i).time = s.time ∧
    (State.adoptMode s i).align = s.align ∧ (State.adoptMode s i).swage = s.swage ∧ (State.adoptMode s i).isl = s.isl ∧
    (State.adoptMode s i).sch = s.sch ∧ (State.adoptMode s i).logic = s.logic ∧ (State.adoptMode s i).cap = s.cap ∧
    (State.adoptMode s i).pub = s.pub ∧ (State.adoptMode s i).pair = s.pair ∧ (State.adoptMode s i).otp = s.otp ∧
    (State.adoptMode s i).vault = s.vault ∧ (State.adoptMode s i).emp = s.emp ∧ (State.adoptMode s i).tap = s.tap ∧
    (State.adoptMode s i).ext = s.ext ∧ (State.adoptMode s i).served = s.served ∧ (State.adoptMode s i).free = s.free ∧
    (State.adoptMode s i).pending = s.pending := by
  unfold State.adoptMode
  split <;> simp

@[simp] theorem State.adoptMirror_frame (s : State) :
    (State.adoptMirror s).boot = s.boot ∧ (State.adoptMirror s).img = s.img ∧ (State.adoptMirror s).flash = s.flash ∧
    (State.adoptMirror s).ctrsAt = s.ctrsAt ∧ (State.adoptMirror s).attn = s.attn ∧
    (State.adoptMirror s).partnerLog = s.partnerLog ∧ (State.adoptMirror s).bbx = s.bbx ∧
    (State.adoptMirror s).sens = s.sens ∧ (State.adoptMirror s).panel = s.panel ∧ (State.adoptMirror s).ports = s.ports ∧
    (State.adoptMirror s).cages = s.cages ∧ (State.adoptMirror s).tcp = s.tcp ∧ (State.adoptMirror s).time = s.time ∧
    (State.adoptMirror s).align = s.align ∧ (State.adoptMirror s).swage = s.swage ∧ (State.adoptMirror s).isl = s.isl ∧
    (State.adoptMirror s).sch = s.sch ∧ (State.adoptMirror s).logic = s.logic ∧ (State.adoptMirror s).cap = s.cap ∧
    (State.adoptMirror s).otp = s.otp ∧ (State.adoptMirror s).vault = s.vault ∧ (State.adoptMirror s).emp = s.emp ∧
    (State.adoptMirror s).tap = s.tap ∧ (State.adoptMirror s).ext = s.ext ∧ (State.adoptMirror s).served = s.served ∧
    (State.adoptMirror s).free = s.free ∧ (State.adoptMirror s).pending = s.pending := by
  simp [State.adoptMirror]

end Sys2Proof.Machine
end

