-- ==== Sys2Proof/Laws/FrameEmpOps.lean ====
section
/-! SUPPORT. What each operation of Machine/EmpOps.lean leaves unchanged: one frame lemma per operation. -/

namespace Sys2Proof.Machine

@[simp] theorem State.emSend_frame (s : State) (r : Reply) :
    (State.emSend s r).boot = s.boot ∧ (State.emSend s r).img = s.img ∧ (State.emSend s r).flash = s.flash ∧
    (State.emSend s r).ctrs = s.ctrs ∧ (State.emSend s r).ctrsAt = s.ctrsAt ∧ (State.emSend s r).attn = s.attn ∧
    (State.emSend s r).partnerLog = s.partnerLog ∧ (State.emSend s r).bbx = s.bbx ∧ (State.emSend s r).sens = s.sens ∧
    (State.emSend s r).panel = s.panel ∧ (State.emSend s r).ports = s.ports ∧ (State.emSend s r).cages = s.cages ∧
    (State.emSend s r).tcp = s.tcp ∧ (State.emSend s r).streams = s.streams ∧ (State.emSend s r).time = s.time ∧
    (State.emSend s r).align = s.align ∧ (State.emSend s r).swage = s.swage ∧ (State.emSend s r).osc = s.osc ∧
    (State.emSend s r).isl = s.isl ∧ (State.emSend s r).sch = s.sch ∧ (State.emSend s r).logic = s.logic ∧
    (State.emSend s r).cap = s.cap ∧ (State.emSend s r).pub = s.pub ∧ (State.emSend s r).pair = s.pair ∧
    (State.emSend s r).otp = s.otp ∧ (State.emSend s r).vault = s.vault ∧ (State.emSend s r).tap = s.tap ∧
    (State.emSend s r).ext = s.ext ∧ (State.emSend s r).served = s.served ∧ (State.emSend s r).free = s.free ∧
    (State.emSend s r).pending = s.pending := by
  simp [State.emSend]

@[simp] theorem State.emFinish_frame (s : State) (op : Nat) (q : EmpReq) (service : Bool) (out : Option (Nat × Bytes)) :
    (State.emFinish s op q service out).boot = s.boot ∧ (State.emFinish s op q service out).img = s.img ∧
    (State.emFinish s op q service out).flash = s.flash ∧ (State.emFinish s op q service out).ctrs = s.ctrs ∧
    (State.emFinish s op q service out).ctrsAt = s.ctrsAt ∧ (State.emFinish s op q service out).attn = s.attn ∧
    (State.emFinish s op q service out).partnerLog = s.partnerLog ∧ (State.emFinish s op q service out).bbx = s.bbx ∧
    (State.emFinish s op q service out).sens = s.sens ∧ (State.emFinish s op q service out).panel = s.panel ∧
    (State.emFinish s op q service out).ports = s.ports ∧ (State.emFinish s op q service out).cages = s.cages ∧
    (State.emFinish s op q service out).tcp = s.tcp ∧ (State.emFinish s op q service out).streams = s.streams ∧
    (State.emFinish s op q service out).time = s.time ∧ (State.emFinish s op q service out).align = s.align ∧
    (State.emFinish s op q service out).swage = s.swage ∧ (State.emFinish s op q service out).osc = s.osc ∧
    (State.emFinish s op q service out).isl = s.isl ∧ (State.emFinish s op q service out).sch = s.sch ∧
    (State.emFinish s op q service out).logic = s.logic ∧ (State.emFinish s op q service out).cap = s.cap ∧
    (State.emFinish s op q service out).pub = s.pub ∧ (State.emFinish s op q service out).pair = s.pair ∧
    (State.emFinish s op q service out).otp = s.otp ∧ (State.emFinish s op q service out).vault = s.vault ∧
    (State.emFinish s op q service out).tap = s.tap ∧ (State.emFinish s op q service out).ext = s.ext ∧
    (State.emFinish s op q service out).served = s.served ∧ (State.emFinish s op q service out).free = s.free ∧
    (State.emFinish s op q service out).pending = s.pending := by
  unfold State.emFinish
  try dsimp only
  repeat' split
  all_goals simp

@[simp] theorem State.emAnswer_frame (s : State) (b : BReq) (result : Nat) (payload : Bytes) :
    (State.emAnswer s b result payload).boot = s.boot ∧ (State.emAnswer s b result payload).img = s.img ∧
    (State.emAnswer s b result payload).flash = s.flash ∧ (State.emAnswer s b result payload).ctrs = s.ctrs ∧
    (State.emAnswer s b result payload).ctrsAt = s.ctrsAt ∧ (State.emAnswer s b result payload).attn = s.attn ∧
    (State.emAnswer s b result payload).partnerLog = s.partnerLog ∧ (State.emAnswer s b result payload).bbx = s.bbx ∧
    (State.emAnswer s b result payload).sens = s.sens ∧ (State.emAnswer s b result payload).panel = s.panel ∧
    (State.emAnswer s b result payload).ports = s.ports ∧ (State.emAnswer s b result payload).cages = s.cages ∧
    (State.emAnswer s b result payload).tcp = s.tcp ∧ (State.emAnswer s b result payload).streams = s.streams ∧
    (State.emAnswer s b result payload).time = s.time ∧ (State.emAnswer s b result payload).align = s.align ∧
    (State.emAnswer s b result payload).swage = s.swage ∧ (State.emAnswer s b result payload).osc = s.osc ∧
    (State.emAnswer s b result payload).isl = s.isl ∧ (State.emAnswer s b result payload).sch = s.sch ∧
    (State.emAnswer s b result payload).logic = s.logic ∧ (State.emAnswer s b result payload).cap = s.cap ∧
    (State.emAnswer s b result payload).pub = s.pub ∧ (State.emAnswer s b result payload).pair = s.pair ∧
    (State.emAnswer s b result payload).otp = s.otp ∧ (State.emAnswer s b result payload).vault = s.vault ∧
    (State.emAnswer s b result payload).tap = s.tap ∧ (State.emAnswer s b result payload).ext = s.ext ∧
    (State.emAnswer s b result payload).served = s.served ∧ (State.emAnswer s b result payload).free = s.free ∧
    (State.emAnswer s b result payload).pending = s.pending := by
  simp [State.emAnswer]

@[simp] theorem State.countDup_frame (s : State) (svp : Bool) (result : Nat) :
    (State.countDup s svp result).boot = s.boot ∧ (State.countDup s svp result).img = s.img ∧
    (State.countDup s svp result).flash = s.flash ∧ (State.countDup s svp result).ctrsAt = s.ctrsAt ∧
    (State.countDup s svp result).partnerLog = s.partnerLog ∧ (State.countDup s svp result).bbx = s.bbx ∧
    (State.countDup s svp result).sens = s.sens ∧ (State.countDup s svp result).panel = s.panel ∧
    (State.countDup s svp result).cages = s.cages ∧ (State.countDup s svp result).tcp = s.tcp ∧
    (State.countDup s svp result).streams = s.streams ∧ (State.countDup s svp result).time = s.time ∧
    (State.countDup s svp result).align = s.align ∧ (State.countDup s svp result).swage = s.swage ∧
    (State.countDup s svp result).osc = s.osc ∧ (State.countDup s svp result).isl = s.isl ∧
    (State.countDup s svp result).sch = s.sch ∧ (State.countDup s svp result).logic = s.logic ∧
    (State.countDup s svp result).cap = s.cap ∧ (State.countDup s svp result).pub = s.pub ∧
    (State.countDup s svp result).otp = s.otp ∧ (State.countDup s svp result).vault = s.vault ∧
    (State.countDup s svp result).emp = s.emp ∧ (State.countDup s svp result).tap = s.tap ∧
    (State.countDup s svp result).ext = s.ext ∧ (State.countDup s svp result).served = s.served ∧
    (State.countDup s svp result).free = s.free ∧ (State.countDup s svp result).pending = s.pending := by
  simp [State.countDup]

/-- What the shared part of every EMP operation keeps: any property that its own work and the operation's body keep. -/
theorem State.emTake_keeps (s : State) (op : Nat) (q : EmpReq) (body : State → Auth → State × Option (Nat × Bytes)) (P : State → Prop)
    (hP : ∀ u v : State,
    v.boot = u.boot ∧ v.img = u.img ∧ v.flash = u.flash ∧ v.ctrsAt = u.ctrsAt ∧ v.partnerLog = u.partnerLog ∧
    v.bbx = u.bbx ∧ v.sens = u.sens ∧ v.panel = u.panel ∧ v.cages = u.cages ∧ v.tcp = u.tcp ∧ v.streams = u.streams ∧
    v.time = u.time ∧ v.align = u.align ∧ v.swage = u.swage ∧ v.osc = u.osc ∧ v.isl = u.isl ∧ v.sch = u.sch ∧
    v.logic = u.logic ∧ v.cap = u.cap ∧ v.pub = u.pub ∧ v.otp = u.otp ∧ v.vault = u.vault ∧ v.tap = u.tap ∧
    v.ext = u.ext ∧ v.served = u.served ∧ v.free = u.free ∧ v.pending = u.pending → P u → P v)
    (hb : ∀ u a, P u → P (body u a).1) (h0 : P s) : P (s.emTake op q body) := by
  have hs : ∀ (u : State) (r : Reply), P u → P (u.emSend r) := fun u r => hP _ _ (by simp)
  have hf : ∀ (u : State) (a : Nat) (b : EmpReq) (c : Bool) (d : Option (Nat × Bytes)), P u → P (u.emFinish a b c d) :=
    fun u a b c d => hP _ _ (by simp)
  have hbp : ∀ (u : State) (k : CtrKey), P u → P (u.bump k) := fun u k => hP _ _ (by simp)
  have hr : ∀ u : State, P u → P u.refuseEvent := fun u => hP _ _ (by simp)
  unfold State.emTake
  split
  · exact h0
  · extract_lets s0 s1 a sv s2 sc s3 s4 s5 r
    have h1 : P s1 := hP s s1 (by simp [s1, s0]) h0
    have h2 : P s2 := hP s1 s2 (by simp [s2]) h1
    have h3 : P s3 := hbp _ _ h2
    have h4 : P s4 := hbp _ _ h3
    have hc : P sc := hbp _ _ h2
    have h5 : P r.1 := hb _ _ h3
    have h6 : P s5 := by
      simp only [s5]
      split
      · exact hbp _ _ h4
      · exact h4
    clear_value r s5 s4 s3 sc s2 s1 a sv
    split
    · exact hs _ _ h1
    · split
      · exact hs _ _ (hP s2 _ (by simp) h2)
      · exact hs _ _ hc
      · split
        · exact hf _ _ _ _ _ (hbp _ _ h3)
        · split
          · refine hf _ _ _ _ _ ?_
            split
            · exact hr _ h6
            · exact h6
          · exact hf _ _ _ _ _ h5

@[simp] theorem State.emTake_boot (s : State) (op : Nat) (q : EmpReq) (body : State → Auth → State × Option (Nat × Bytes))
    (h : ∀ u a, (body u a).1.boot = u.boot) : (s.emTake op q body).boot = s.boot :=
  s.emTake_keeps op q body (fun u => u.boot = s.boot) (fun u v e hu => by simp [e, hu]) (fun u a hu => (h u a).trans hu) rfl

@[simp] theorem State.emTake_img (s : State) (op : Nat) (q : EmpReq) (body : State → Auth → State × Option (Nat × Bytes))
    (h : ∀ u a, (body u a).1.img = u.img) : (s.emTake op q body).img = s.img :=
  s.emTake_keeps op q body (fun u => u.img = s.img) (fun u v e hu => by simp [e, hu]) (fun u a hu => (h u a).trans hu) rfl

@[simp] theorem State.emTake_flash (s : State) (op : Nat) (q : EmpReq) (body : State → Auth → State × Option (Nat × Bytes))
    (h : ∀ u a, (body u a).1.flash = u.flash) : (s.emTake op q body).flash = s.flash :=
  s.emTake_keeps op q body (fun u => u.flash = s.flash) (fun u v e hu => by simp [e, hu]) (fun u a hu => (h u a).trans hu) rfl

@[simp] theorem State.emTake_ctrsAt (s : State) (op : Nat) (q : EmpReq) (body : State → Auth → State × Option (Nat × Bytes))
    (h : ∀ u a, (body u a).1.ctrsAt = u.ctrsAt) : (s.emTake op q body).ctrsAt = s.ctrsAt :=
  s.emTake_keeps op q body (fun u => u.ctrsAt = s.ctrsAt) (fun u v e hu => by simp [e, hu]) (fun u a hu => (h u a).trans hu) rfl

@[simp] theorem State.emTake_partnerLog (s : State) (op : Nat) (q : EmpReq) (body : State → Auth → State × Option (Nat × Bytes))
    (h : ∀ u a, (body u a).1.partnerLog = u.partnerLog) : (s.emTake op q body).partnerLog = s.partnerLog :=
  s.emTake_keeps op q body (fun u => u.partnerLog = s.partnerLog) (fun u v e hu => by simp [e, hu]) (fun u a hu => (h u a).trans hu) rfl

@[simp] theorem State.emTake_bbx (s : State) (op : Nat) (q : EmpReq) (body : State → Auth → State × Option (Nat × Bytes))
    (h : ∀ u a, (body u a).1.bbx = u.bbx) : (s.emTake op q body).bbx = s.bbx :=
  s.emTake_keeps op q body (fun u => u.bbx = s.bbx) (fun u v e hu => by simp [e, hu]) (fun u a hu => (h u a).trans hu) rfl

@[simp] theorem State.emTake_sens (s : State) (op : Nat) (q : EmpReq) (body : State → Auth → State × Option (Nat × Bytes))
    (h : ∀ u a, (body u a).1.sens = u.sens) : (s.emTake op q body).sens = s.sens :=
  s.emTake_keeps op q body (fun u => u.sens = s.sens) (fun u v e hu => by simp [e, hu]) (fun u a hu => (h u a).trans hu) rfl

@[simp] theorem State.emTake_panel (s : State) (op : Nat) (q : EmpReq) (body : State → Auth → State × Option (Nat × Bytes))
    (h : ∀ u a, (body u a).1.panel = u.panel) : (s.emTake op q body).panel = s.panel :=
  s.emTake_keeps op q body (fun u => u.panel = s.panel) (fun u v e hu => by simp [e, hu]) (fun u a hu => (h u a).trans hu) rfl

@[simp] theorem State.emTake_cages (s : State) (op : Nat) (q : EmpReq) (body : State → Auth → State × Option (Nat × Bytes))
    (h : ∀ u a, (body u a).1.cages = u.cages) : (s.emTake op q body).cages = s.cages :=
  s.emTake_keeps op q body (fun u => u.cages = s.cages) (fun u v e hu => by simp [e, hu]) (fun u a hu => (h u a).trans hu) rfl

@[simp] theorem State.emTake_tcp (s : State) (op : Nat) (q : EmpReq) (body : State → Auth → State × Option (Nat × Bytes))
    (h : ∀ u a, (body u a).1.tcp = u.tcp) : (s.emTake op q body).tcp = s.tcp :=
  s.emTake_keeps op q body (fun u => u.tcp = s.tcp) (fun u v e hu => by simp [e, hu]) (fun u a hu => (h u a).trans hu) rfl

@[simp] theorem State.emTake_streams (s : State) (op : Nat) (q : EmpReq) (body : State → Auth → State × Option (Nat × Bytes))
    (h : ∀ u a, (body u a).1.streams = u.streams) : (s.emTake op q body).streams = s.streams :=
  s.emTake_keeps op q body (fun u => u.streams = s.streams) (fun u v e hu => by simp [e, hu]) (fun u a hu => (h u a).trans hu) rfl

@[simp] theorem State.emTake_time (s : State) (op : Nat) (q : EmpReq) (body : State → Auth → State × Option (Nat × Bytes))
    (h : ∀ u a, (body u a).1.time = u.time) : (s.emTake op q body).time = s.time :=
  s.emTake_keeps op q body (fun u => u.time = s.time) (fun u v e hu => by simp [e, hu]) (fun u a hu => (h u a).trans hu) rfl

@[simp] theorem State.emTake_align (s : State) (op : Nat) (q : EmpReq) (body : State → Auth → State × Option (Nat × Bytes))
    (h : ∀ u a, (body u a).1.align = u.align) : (s.emTake op q body).align = s.align :=
  s.emTake_keeps op q body (fun u => u.align = s.align) (fun u v e hu => by simp [e, hu]) (fun u a hu => (h u a).trans hu) rfl

@[simp] theorem State.emTake_swage (s : State) (op : Nat) (q : EmpReq) (body : State → Auth → State × Option (Nat × Bytes))
    (h : ∀ u a, (body u a).1.swage = u.swage) : (s.emTake op q body).swage = s.swage :=
  s.emTake_keeps op q body (fun u => u.swage = s.swage) (fun u v e hu => by simp [e, hu]) (fun u a hu => (h u a).trans hu) rfl

@[simp] theorem State.emTake_osc (s : State) (op : Nat) (q : EmpReq) (body : State → Auth → State × Option (Nat × Bytes))
    (h : ∀ u a, (body u a).1.osc = u.osc) : (s.emTake op q body).osc = s.osc :=
  s.emTake_keeps op q body (fun u => u.osc = s.osc) (fun u v e hu => by simp [e, hu]) (fun u a hu => (h u a).trans hu) rfl

@[simp] theorem State.emTake_isl (s : State) (op : Nat) (q : EmpReq) (body : State → Auth → State × Option (Nat × Bytes))
    (h : ∀ u a, (body u a).1.isl = u.isl) : (s.emTake op q body).isl = s.isl :=
  s.emTake_keeps op q body (fun u => u.isl = s.isl) (fun u v e hu => by simp [e, hu]) (fun u a hu => (h u a).trans hu) rfl

@[simp] theorem State.emTake_sch (s : State) (op : Nat) (q : EmpReq) (body : State → Auth → State × Option (Nat × Bytes))
    (h : ∀ u a, (body u a).1.sch = u.sch) : (s.emTake op q body).sch = s.sch :=
  s.emTake_keeps op q body (fun u => u.sch = s.sch) (fun u v e hu => by simp [e, hu]) (fun u a hu => (h u a).trans hu) rfl

@[simp] theorem State.emTake_logic (s : State) (op : Nat) (q : EmpReq) (body : State → Auth → State × Option (Nat × Bytes))
    (h : ∀ u a, (body u a).1.logic = u.logic) : (s.emTake op q body).logic = s.logic :=
  s.emTake_keeps op q body (fun u => u.logic = s.logic) (fun u v e hu => by simp [e, hu]) (fun u a hu => (h u a).trans hu) rfl

@[simp] theorem State.emTake_cap (s : State) (op : Nat) (q : EmpReq) (body : State → Auth → State × Option (Nat × Bytes))
    (h : ∀ u a, (body u a).1.cap = u.cap) : (s.emTake op q body).cap = s.cap :=
  s.emTake_keeps op q body (fun u => u.cap = s.cap) (fun u v e hu => by simp [e, hu]) (fun u a hu => (h u a).trans hu) rfl

@[simp] theorem State.emTake_pub (s : State) (op : Nat) (q : EmpReq) (body : State → Auth → State × Option (Nat × Bytes))
    (h : ∀ u a, (body u a).1.pub = u.pub) : (s.emTake op q body).pub = s.pub :=
  s.emTake_keeps op q body (fun u => u.pub = s.pub) (fun u v e hu => by simp [e, hu]) (fun u a hu => (h u a).trans hu) rfl

@[simp] theorem State.emTake_otp (s : State) (op : Nat) (q : EmpReq) (body : State → Auth → State × Option (Nat × Bytes))
    (h : ∀ u a, (body u a).1.otp = u.otp) : (s.emTake op q body).otp = s.otp :=
  s.emTake_keeps op q body (fun u => u.otp = s.otp) (fun u v e hu => by simp [e, hu]) (fun u a hu => (h u a).trans hu) rfl

@[simp] theorem State.emTake_vault (s : State) (op : Nat) (q : EmpReq) (body : State → Auth → State × Option (Nat × Bytes))
    (h : ∀ u a, (body u a).1.vault = u.vault) : (s.emTake op q body).vault = s.vault :=
  s.emTake_keeps op q body (fun u => u.vault = s.vault) (fun u v e hu => by simp [e, hu]) (fun u a hu => (h u a).trans hu) rfl

@[simp] theorem State.emTake_tap (s : State) (op : Nat) (q : EmpReq) (body : State → Auth → State × Option (Nat × Bytes))
    (h : ∀ u a, (body u a).1.tap = u.tap) : (s.emTake op q body).tap = s.tap :=
  s.emTake_keeps op q body (fun u => u.tap = s.tap) (fun u v e hu => by simp [e, hu]) (fun u a hu => (h u a).trans hu) rfl

@[simp] theorem State.emTake_ext (s : State) (op : Nat) (q : EmpReq) (body : State → Auth → State × Option (Nat × Bytes))
    (h : ∀ u a, (body u a).1.ext = u.ext) : (s.emTake op q body).ext = s.ext :=
  s.emTake_keeps op q body (fun u => u.ext = s.ext) (fun u v e hu => by simp [e, hu]) (fun u a hu => (h u a).trans hu) rfl

@[simp] theorem State.emTake_served (s : State) (op : Nat) (q : EmpReq) (body : State → Auth → State × Option (Nat × Bytes))
    (h : ∀ u a, (body u a).1.served = u.served) : (s.emTake op q body).served = s.served :=
  s.emTake_keeps op q body (fun u => u.served = s.served) (fun u v e hu => by simp [e, hu]) (fun u a hu => (h u a).trans hu) rfl

@[simp] theorem State.emTake_free (s : State) (op : Nat) (q : EmpReq) (body : State → Auth → State × Option (Nat × Bytes))
    (h : ∀ u a, (body u a).1.free = u.free) : (s.emTake op q body).free = s.free :=
  s.emTake_keeps op q body (fun u => u.free = s.free) (fun u v e hu => by simp [e, hu]) (fun u a hu => (h u a).trans hu) rfl

@[simp] theorem State.emTake_pending (s : State) (op : Nat) (q : EmpReq) (body : State → Auth → State × Option (Nat × Bytes))
    (h : ∀ u a, (body u a).1.pending = u.pending) : (s.emTake op q body).pending = s.pending :=
  s.emTake_keeps op q body (fun u => u.pending = s.pending) (fun u v e hu => by simp [e, hu]) (fun u a hu => (h u a).trans hu) rfl


@[simp] theorem State.emHold_frame (s : State) (k : BReqKind) (op : Nat) (q : EmpReq) (a : Auth) (answered : Bool) :
    (State.emHold s k op q a answered).boot = s.boot ∧ (State.emHold s k op q a answered).img = s.img ∧
    (State.emHold s k op q a answered).flash = s.flash ∧ (State.emHold s k op q a answered).ctrs = s.ctrs ∧
    (State.emHold s k op q a answered).ctrsAt = s.ctrsAt ∧ (State.emHold s k op q a answered).attn = s.attn ∧
    (State.emHold s k op q a answered).partnerLog = s.partnerLog ∧ (State.emHold s k op q a answered).bbx = s.bbx ∧
    (State.emHold s k op q a answered).sens = s.sens ∧ (State.emHold s k op q a answered).panel = s.panel ∧
    (State.emHold s k op q a answered).ports = s.ports ∧ (State.emHold s k op q a answered).cages = s.cages ∧
    (State.emHold s k op q a answered).tcp = s.tcp ∧ (State.emHold s k op q a answered).streams = s.streams ∧
    (State.emHold s k op q a answered).time = s.time ∧ (State.emHold s k op q a answered).align = s.align ∧
    (State.emHold s k op q a answered).swage = s.swage ∧ (State.emHold s k op q a answered).osc = s.osc ∧
    (State.emHold s k op q a answered).isl = s.isl ∧ (State.emHold s k op q a answered).sch = s.sch ∧
    (State.emHold s k op q a answered).logic = s.logic ∧ (State.emHold s k op q a answered).cap = s.cap ∧
    (State.emHold s k op q a answered).pub = s.pub ∧ (State.emHold s k op q a answered).pair = s.pair ∧
    (State.emHold s k op q a answered).otp = s.otp ∧ (State.emHold s k op q a answered).vault = s.vault ∧
    (State.emHold s k op q a answered).tap = s.tap ∧ (State.emHold s k op q a answered).ext = s.ext ∧
    (State.emHold s k op q a answered).served = s.served ∧ (State.emHold s k op q a answered).free = s.free ∧
    (State.emHold s k op q a answered).pending = s.pending := by
  simp [State.emHold]

end Sys2Proof.Machine
end

