-- ==== Sys2Proof/Laws/FrameObjects.lean ====
section
/-! SUPPORT. What each operation of Machine/Objects.lean leaves unchanged: one frame lemma per operation. -/

namespace Sys2Proof.Machine

@[simp] theorem State.clearPart_frame (s : State) (p : Part) :
    (s.clearPart p).boot = s.boot ∧ (s.clearPart p).img = s.img ∧ (s.clearPart p).flash = s.flash ∧
    (s.clearPart p).bbx = s.bbx ∧ (s.clearPart p).sens = s.sens ∧ (s.clearPart p).panel = s.panel ∧
    (s.clearPart p).ports = s.ports ∧ (s.clearPart p).cages = s.cages ∧ (s.clearPart p).tcp = s.tcp ∧
    (s.clearPart p).streams = s.streams ∧ (s.clearPart p).time = s.time ∧ (s.clearPart p).swage = s.swage ∧
    (s.clearPart p).osc = s.osc ∧ (s.clearPart p).isl = s.isl ∧ (s.clearPart p).sch = s.sch ∧
    (s.clearPart p).logic = s.logic ∧ (s.clearPart p).cap = s.cap ∧ (s.clearPart p).pub = s.pub ∧
    (s.clearPart p).pair = s.pair ∧ (s.clearPart p).otp = s.otp ∧ (s.clearPart p).vault = s.vault ∧
    (s.clearPart p).emp = s.emp ∧ (s.clearPart p).tap = s.tap ∧ (s.clearPart p).ext = s.ext ∧
    (s.clearPart p).served = s.served ∧ (s.clearPart p).free = s.free ∧ (s.clearPart p).pending = s.pending := by
  cases p <;> simp only [State.clearPart]
  all_goals repeat' split
  all_goals simp


end Sys2Proof.Machine
end

