-- ==== Sys2Proof/Laws/FramePower.lean ====
section
/-! SUPPORT. What each operation of Machine/Power.lean leaves unchanged: one frame lemma per operation. -/

namespace Sys2Proof.Machine

@[simp] theorem State.clearMain_frame (s : State) (restart : Bool) :
    (State.clearMain s restart).flash = s.flash ∧ (State.clearMain s restart).bbx = s.bbx ∧
    (State.clearMain s restart).panel = s.panel ∧ (State.clearMain s restart).otp = s.otp ∧
    (State.clearMain s restart).tap = s.tap ∧ (State.clearMain s restart).ext = s.ext ∧
    (State.clearMain s restart).free = s.free ∧ (State.clearMain s restart).pending = s.pending := by
  simp [State.clearMain]

@[simp] theorem State.checkRef_frame (s : State) :
    (State.checkRef s).boot = s.boot ∧ (State.checkRef s).img = s.img ∧ (State.checkRef s).flash = s.flash ∧
    (State.checkRef s).ctrsAt = s.ctrsAt ∧ (State.checkRef s).partnerLog = s.partnerLog ∧
    (State.checkRef s).bbx = s.bbx ∧ (State.checkRef s).sens = s.sens ∧ (State.checkRef s).panel = s.panel ∧
    (State.checkRef s).cages = s.cages ∧ (State.checkRef s).tcp = s.tcp ∧ (State.checkRef s).streams = s.streams ∧
    (State.checkRef s).align = s.align ∧ (State.checkRef s).swage = s.swage ∧ (State.checkRef s).osc = s.osc ∧
    (State.checkRef s).isl = s.isl ∧ (State.checkRef s).sch = s.sch ∧ (State.checkRef s).logic = s.logic ∧
    (State.checkRef s).cap = s.cap ∧ (State.checkRef s).pub = s.pub ∧ (State.checkRef s).otp = s.otp ∧
    (State.checkRef s).vault = s.vault ∧ (State.checkRef s).emp = s.emp ∧ (State.checkRef s).tap = s.tap ∧
    (State.checkRef s).ext = s.ext ∧ (State.checkRef s).served = s.served ∧ (State.checkRef s).free = s.free ∧
    (State.checkRef s).pending = s.pending := by
  simp [State.checkRef]

@[simp] theorem State.recordFall_frame (s : State) :
    (State.recordFall s).img = s.img ∧ (State.recordFall s).flash = s.flash ∧ (State.recordFall s).ctrsAt = s.ctrsAt ∧
    (State.recordFall s).partnerLog = s.partnerLog ∧ (State.recordFall s).panel = s.panel ∧
    (State.recordFall s).cages = s.cages ∧ (State.recordFall s).tcp = s.tcp ∧ (State.recordFall s).streams = s.streams ∧
    (State.recordFall s).time = s.time ∧ (State.recordFall s).align = s.align ∧ (State.recordFall s).swage = s.swage ∧
    (State.recordFall s).osc = s.osc ∧ (State.recordFall s).isl = s.isl ∧ (State.recordFall s).sch = s.sch ∧
    (State.recordFall s).logic = s.logic ∧ (State.recordFall s).cap = s.cap ∧ (State.recordFall s).pub = s.pub ∧
    (State.recordFall s).otp = s.otp ∧ (State.recordFall s).vault = s.vault ∧ (State.recordFall s).emp = s.emp ∧
    (State.recordFall s).tap = s.tap ∧ (State.recordFall s).ext = s.ext ∧ (State.recordFall s).served = s.served ∧
    (State.recordFall s).free = s.free ∧ (State.recordFall s).pending = s.pending := by
  unfold State.recordFall
  split <;> simp

@[simp] theorem State.startBy_frame (s : State) (t : Nat) (restart : Bool) :
    (State.startBy s t restart).flash = s.flash ∧ (State.startBy s t restart).panel = s.panel ∧
    (State.startBy s t restart).otp = s.otp ∧ (State.startBy s t restart).tap = s.tap ∧
    (State.startBy s t restart).ext = s.ext ∧ (State.startBy s t restart).free = s.free ∧
    (State.startBy s t restart).pending = s.pending := by
  simp [State.startBy]

@[simp] theorem State.vaultAtT2_frame (s : State) :
    (State.vaultAtT2 s).boot = s.boot ∧ (State.vaultAtT2 s).img = s.img ∧ (State.vaultAtT2 s).flash = s.flash ∧
    (State.vaultAtT2 s).ctrsAt = s.ctrsAt ∧ (State.vaultAtT2 s).partnerLog = s.partnerLog ∧
    (State.vaultAtT2 s).panel = s.panel ∧ (State.vaultAtT2 s).cages = s.cages ∧ (State.vaultAtT2 s).tcp = s.tcp ∧
    (State.vaultAtT2 s).streams = s.streams ∧ (State.vaultAtT2 s).time = s.time ∧ (State.vaultAtT2 s).align = s.align ∧
    (State.vaultAtT2 s).swage = s.swage ∧ (State.vaultAtT2 s).osc = s.osc ∧ (State.vaultAtT2 s).isl = s.isl ∧
    (State.vaultAtT2 s).sch = s.sch ∧ (State.vaultAtT2 s).logic = s.logic ∧ (State.vaultAtT2 s).cap = s.cap ∧
    (State.vaultAtT2 s).pub = s.pub ∧ (State.vaultAtT2 s).otp = s.otp ∧ (State.vaultAtT2 s).emp = s.emp ∧
    (State.vaultAtT2 s).tap = s.tap ∧ (State.vaultAtT2 s).ext = s.ext ∧ (State.vaultAtT2 s).served = s.served ∧
    (State.vaultAtT2 s).pending = s.pending := by
  simp [State.vaultAtT2]

@[simp] theorem State.pinReset_frame (s : State) :
    (State.pinReset s).flash = s.flash ∧ (State.pinReset s).panel = s.panel ∧ (State.pinReset s).otp = s.otp ∧
    (State.pinReset s).tap = s.tap ∧ (State.pinReset s).ext = s.ext ∧ (State.pinReset s).free = s.free ∧
    (State.pinReset s).pending = s.pending := by
  simp [State.pinReset]

@[simp] theorem State.clearIsland_frame (s : State) :
    (State.clearIsland s).boot = s.boot ∧ (State.clearIsland s).img = s.img ∧ (State.clearIsland s).flash = s.flash ∧
    (State.clearIsland s).ctrs = s.ctrs ∧ (State.clearIsland s).ctrsAt = s.ctrsAt ∧ (State.clearIsland s).attn = s.attn ∧
    (State.clearIsland s).partnerLog = s.partnerLog ∧ (State.clearIsland s).cages = s.cages ∧
    (State.clearIsland s).tcp = s.tcp ∧ (State.clearIsland s).streams = s.streams ∧ (State.clearIsland s).time = s.time ∧
    (State.clearIsland s).align = s.align ∧ (State.clearIsland s).swage = s.swage ∧ (State.clearIsland s).osc = s.osc ∧
    (State.clearIsland s).isl = s.isl ∧ (State.clearIsland s).sch = s.sch ∧ (State.clearIsland s).logic = s.logic ∧
    (State.clearIsland s).cap = s.cap ∧ (State.clearIsland s).pub = s.pub ∧ (State.clearIsland s).pair = s.pair ∧
    (State.clearIsland s).otp = s.otp ∧ (State.clearIsland s).vault = s.vault ∧ (State.clearIsland s).tap = s.tap ∧
    (State.clearIsland s).ext = s.ext ∧ (State.clearIsland s).served = s.served ∧ (State.clearIsland s).free = s.free ∧
    (State.clearIsland s).pending = s.pending := by
  simp [State.clearIsland]

@[simp] theorem State.loseBattery_frame (s : State) :
    (State.loseBattery s).boot = s.boot ∧ (State.loseBattery s).img = s.img ∧ (State.loseBattery s).flash = s.flash ∧
    (State.loseBattery s).attn = s.attn ∧ (State.loseBattery s).partnerLog = s.partnerLog ∧
    (State.loseBattery s).bbx = s.bbx ∧ (State.loseBattery s).sens = s.sens ∧ (State.loseBattery s).panel = s.panel ∧
    (State.loseBattery s).ports = s.ports ∧ (State.loseBattery s).cages = s.cages ∧ (State.loseBattery s).tcp = s.tcp ∧
    (State.loseBattery s).streams = s.streams ∧ (State.loseBattery s).time = s.time ∧
    (State.loseBattery s).align = s.align ∧ (State.loseBattery s).swage = s.swage ∧ (State.loseBattery s).osc = s.osc ∧
    (State.loseBattery s).isl = s.isl ∧ (State.loseBattery s).sch = s.sch ∧ (State.loseBattery s).logic = s.logic ∧
    (State.loseBattery s).cap = s.cap ∧ (State.loseBattery s).pub = s.pub ∧ (State.loseBattery s).pair = s.pair ∧
    (State.loseBattery s).otp = s.otp ∧ (State.loseBattery s).emp = s.emp ∧ (State.loseBattery s).tap = s.tap ∧
    (State.loseBattery s).ext = s.ext ∧ (State.loseBattery s).served = s.served ∧ (State.loseBattery s).free = s.free ∧
    (State.loseBattery s).pending = s.pending := by
  simp [State.loseBattery]

@[simp] theorem State.requestRestart_frame (s : State) :
    (State.requestRestart s).flash = s.flash ∧ (State.requestRestart s).panel = s.panel ∧
    (State.requestRestart s).otp = s.otp ∧ (State.requestRestart s).tap = s.tap ∧ (State.requestRestart s).ext = s.ext ∧
    (State.requestRestart s).free = s.free ∧ (State.requestRestart s).pending = s.pending := by
  simp [State.requestRestart]

@[simp] theorem State.stopEnrol_frame (s : State) :
    (State.stopEnrol s).boot = s.boot ∧ (State.stopEnrol s).img = s.img ∧ (State.stopEnrol s).flash = s.flash ∧
    (State.stopEnrol s).ctrs = s.ctrs ∧ (State.stopEnrol s).ctrsAt = s.ctrsAt ∧ (State.stopEnrol s).attn = s.attn ∧
    (State.stopEnrol s).partnerLog = s.partnerLog ∧ (State.stopEnrol s).bbx = s.bbx ∧ (State.stopEnrol s).sens = s.sens ∧
    (State.stopEnrol s).panel = s.panel ∧ (State.stopEnrol s).ports = s.ports ∧ (State.stopEnrol s).cages = s.cages ∧
    (State.stopEnrol s).tcp = s.tcp ∧ (State.stopEnrol s).streams = s.streams ∧ (State.stopEnrol s).time = s.time ∧
    (State.stopEnrol s).align = s.align ∧ (State.stopEnrol s).swage = s.swage ∧ (State.stopEnrol s).osc = s.osc ∧
    (State.stopEnrol s).isl = s.isl ∧ (State.stopEnrol s).sch = s.sch ∧ (State.stopEnrol s).logic = s.logic ∧
    (State.stopEnrol s).cap = s.cap ∧ (State.stopEnrol s).pub = s.pub ∧ (State.stopEnrol s).pair = s.pair ∧
    (State.stopEnrol s).otp = s.otp ∧ (State.stopEnrol s).vault = s.vault ∧ (State.stopEnrol s).tap = s.tap ∧
    (State.stopEnrol s).ext = s.ext ∧ (State.stopEnrol s).served = s.served ∧ (State.stopEnrol s).free = s.free ∧
    (State.stopEnrol s).pending = s.pending := by
  simp [State.stopEnrol]

@[simp] theorem State.tamperDormant_frame (s : State) (ns : List Nat) :
    (State.tamperDormant s ns).boot = s.boot ∧ (State.tamperDormant s ns).img = s.img ∧
    (State.tamperDormant s ns).flash = s.flash ∧ (State.tamperDormant s ns).ctrsAt = s.ctrsAt ∧
    (State.tamperDormant s ns).attn = s.attn ∧ (State.tamperDormant s ns).partnerLog = s.partnerLog ∧
    (State.tamperDormant s ns).bbx = s.bbx ∧ (State.tamperDormant s ns).sens = s.sens ∧
    (State.tamperDormant s ns).panel = s.panel ∧ (State.tamperDormant s ns).ports = s.ports ∧
    (State.tamperDormant s ns).cages = s.cages ∧ (State.tamperDormant s ns).tcp = s.tcp ∧
    (State.tamperDormant s ns).streams = s.streams ∧ (State.tamperDormant s ns).time = s.time ∧
    (State.tamperDormant s ns).align = s.align ∧ (State.tamperDormant s ns).swage = s.swage ∧
    (State.tamperDormant s ns).osc = s.osc ∧ (State.tamperDormant s ns).isl = s.isl ∧
    (State.tamperDormant s ns).sch = s.sch ∧ (State.tamperDormant s ns).logic = s.logic ∧
    (State.tamperDormant s ns).cap = s.cap ∧ (State.tamperDormant s ns).pub = s.pub ∧
    (State.tamperDormant s ns).pair = s.pair ∧ (State.tamperDormant s ns).emp = s.emp ∧
    (State.tamperDormant s ns).tap = s.tap ∧ (State.tamperDormant s ns).ext = s.ext ∧
    (State.tamperDormant s ns).served = s.served ∧ (State.tamperDormant s ns).free = s.free ∧
    (State.tamperDormant s ns).pending = s.pending := by
  simp [State.tamperDormant]

@[simp] theorem State.tamperAwake_frame (s : State) (ns : List Nat) :
    (State.tamperAwake s ns).img = s.img ∧ (State.tamperAwake s ns).flash = s.flash ∧
    (State.tamperAwake s ns).ctrsAt = s.ctrsAt ∧ (State.tamperAwake s ns).partnerLog = s.partnerLog ∧
    (State.tamperAwake s ns).panel = s.panel ∧ (State.tamperAwake s ns).cages = s.cages ∧
    (State.tamperAwake s ns).tcp = s.tcp ∧ (State.tamperAwake s ns).streams = s.streams ∧
    (State.tamperAwake s ns).time = s.time ∧ (State.tamperAwake s ns).align = s.align ∧
    (State.tamperAwake s ns).swage = s.swage ∧ (State.tamperAwake s ns).osc = s.osc ∧
    (State.tamperAwake s ns).isl = s.isl ∧ (State.tamperAwake s ns).sch = s.sch ∧
    (State.tamperAwake s ns).logic = s.logic ∧ (State.tamperAwake s ns).cap = s.cap ∧
    (State.tamperAwake s ns).pub = s.pub ∧ (State.tamperAwake s ns).tap = s.tap ∧ (State.tamperAwake s ns).ext = s.ext ∧
    (State.tamperAwake s ns).served = s.served ∧ (State.tamperAwake s ns).free = s.free ∧
    (State.tamperAwake s ns).pending = s.pending := by
  simp [State.tamperAwake]

@[simp] theorem State.refuseRekey_frame (s : State) :
    (State.refuseRekey s).boot = s.boot ∧ (State.refuseRekey s).img = s.img ∧ (State.refuseRekey s).flash = s.flash ∧
    (State.refuseRekey s).ctrsAt = s.ctrsAt ∧ (State.refuseRekey s).attn = s.attn ∧
    (State.refuseRekey s).partnerLog = s.partnerLog ∧ (State.refuseRekey s).bbx = s.bbx ∧
    (State.refuseRekey s).sens = s.sens ∧ (State.refuseRekey s).panel = s.panel ∧ (State.refuseRekey s).ports = s.ports ∧
    (State.refuseRekey s).cages = s.cages ∧ (State.refuseRekey s).tcp = s.tcp ∧
    (State.refuseRekey s).streams = s.streams ∧ (State.refuseRekey s).time = s.time ∧
    (State.refuseRekey s).align = s.align ∧ (State.refuseRekey s).swage = s.swage ∧ (State.refuseRekey s).osc = s.osc ∧
    (State.refuseRekey s).isl = s.isl ∧ (State.refuseRekey s).sch = s.sch ∧ (State.refuseRekey s).logic = s.logic ∧
    (State.refuseRekey s).cap = s.cap ∧ (State.refuseRekey s).pub = s.pub ∧ (State.refuseRekey s).pair = s.pair ∧
    (State.refuseRekey s).otp = s.otp ∧ (State.refuseRekey s).vault = s.vault ∧ (State.refuseRekey s).tap = s.tap ∧
    (State.refuseRekey s).ext = s.ext ∧ (State.refuseRekey s).served = s.served ∧ (State.refuseRekey s).free = s.free ∧
    (State.refuseRekey s).pending = s.pending := by
  simp [State.refuseRekey]

@[simp] theorem State.tamperBy_frame (s : State) (ns : List Nat) :
    (State.tamperBy s ns).img = s.img ∧ (State.tamperBy s ns).flash = s.flash ∧ (State.tamperBy s ns).ctrsAt = s.ctrsAt ∧
    (State.tamperBy s ns).partnerLog = s.partnerLog ∧ (State.tamperBy s ns).panel = s.panel ∧
    (State.tamperBy s ns).cages = s.cages ∧ (State.tamperBy s ns).tcp = s.tcp ∧
    (State.tamperBy s ns).streams = s.streams ∧ (State.tamperBy s ns).time = s.time ∧
    (State.tamperBy s ns).align = s.align ∧ (State.tamperBy s ns).swage = s.swage ∧ (State.tamperBy s ns).osc = s.osc ∧
    (State.tamperBy s ns).isl = s.isl ∧ (State.tamperBy s ns).sch = s.sch ∧ (State.tamperBy s ns).logic = s.logic ∧
    (State.tamperBy s ns).cap = s.cap ∧ (State.tamperBy s ns).pub = s.pub ∧ (State.tamperBy s ns).tap = s.tap ∧
    (State.tamperBy s ns).ext = s.ext ∧ (State.tamperBy s ns).served = s.served ∧ (State.tamperBy s ns).free = s.free ∧
    (State.tamperBy s ns).pending = s.pending := by
  unfold State.tamperBy
  try dsimp only
  repeat' split
  all_goals simp

end Sys2Proof.Machine
end

