-- ==== Sys2Proof/Laws/FrameLoad.lean ====
section
/-! SUPPORT. What each operation of Machine/Load.lean leaves unchanged: one frame lemma per operation. -/

namespace Sys2Proof.Machine

@[simp] theorem State.stopFirmware_frame (s : State) :
    (State.stopFirmware s).img = s.img ∧ (State.stopFirmware s).flash = s.flash ∧ (State.stopFirmware s).ctrs = s.ctrs ∧
    (State.stopFirmware s).ctrsAt = s.ctrsAt ∧ (State.stopFirmware s).attn = s.attn ∧
    (State.stopFirmware s).partnerLog = s.partnerLog ∧ (State.stopFirmware s).bbx = s.bbx ∧
    (State.stopFirmware s).sens = s.sens ∧ (State.stopFirmware s).panel = s.panel ∧
    (State.stopFirmware s).cages = s.cages ∧ (State.stopFirmware s).tcp = s.tcp ∧
    (State.stopFirmware s).streams = s.streams ∧ (State.stopFirmware s).time = s.time ∧
    (State.stopFirmware s).align = s.align ∧ (State.stopFirmware s).swage = s.swage ∧
    (State.stopFirmware s).osc = s.osc ∧ (State.stopFirmware s).isl = s.isl ∧ (State.stopFirmware s).sch = s.sch ∧
    (State.stopFirmware s).logic = s.logic ∧ (State.stopFirmware s).cap = s.cap ∧ (State.stopFirmware s).pub = s.pub ∧
    (State.stopFirmware s).pair = s.pair ∧ (State.stopFirmware s).otp = s.otp ∧ (State.stopFirmware s).vault = s.vault ∧
    (State.stopFirmware s).emp = s.emp ∧ (State.stopFirmware s).tap = s.tap ∧ (State.stopFirmware s).ext = s.ext ∧
    (State.stopFirmware s).served = s.served ∧ (State.stopFirmware s).free = s.free ∧
    (State.stopFirmware s).pending = s.pending := by
  simp [State.stopFirmware]

@[simp] theorem State.noImage_frame (s : State) :
    (State.noImage s).img = s.img ∧ (State.noImage s).flash = s.flash ∧ (State.noImage s).ctrsAt = s.ctrsAt ∧
    (State.noImage s).partnerLog = s.partnerLog ∧ (State.noImage s).panel = s.panel ∧ (State.noImage s).cages = s.cages ∧
    (State.noImage s).tcp = s.tcp ∧ (State.noImage s).streams = s.streams ∧ (State.noImage s).time = s.time ∧
    (State.noImage s).align = s.align ∧ (State.noImage s).swage = s.swage ∧ (State.noImage s).osc = s.osc ∧
    (State.noImage s).isl = s.isl ∧ (State.noImage s).sch = s.sch ∧ (State.noImage s).logic = s.logic ∧
    (State.noImage s).cap = s.cap ∧ (State.noImage s).pub = s.pub ∧ (State.noImage s).otp = s.otp ∧
    (State.noImage s).emp = s.emp ∧ (State.noImage s).tap = s.tap ∧ (State.noImage s).ext = s.ext ∧
    (State.noImage s).served = s.served ∧ (State.noImage s).free = s.free ∧ (State.noImage s).pending = s.pending := by
  simp [State.noImage]

@[simp] theorem State.trySlot_frame (s : State) (k : Nat) :
    ((State.trySlot s k).2).img = s.img ∧ ((State.trySlot s k).2).ctrsAt = s.ctrsAt ∧
    ((State.trySlot s k).2).partnerLog = s.partnerLog ∧ ((State.trySlot s k).2).panel = s.panel ∧
    ((State.trySlot s k).2).cages = s.cages ∧ ((State.trySlot s k).2).tcp = s.tcp ∧
    ((State.trySlot s k).2).streams = s.streams ∧ ((State.trySlot s k).2).time = s.time ∧
    ((State.trySlot s k).2).align = s.align ∧ ((State.trySlot s k).2).swage = s.swage ∧
    ((State.trySlot s k).2).osc = s.osc ∧ ((State.trySlot s k).2).isl = s.isl ∧ ((State.trySlot s k).2).sch = s.sch ∧
    ((State.trySlot s k).2).logic = s.logic ∧ ((State.trySlot s k).2).cap = s.cap ∧ ((State.trySlot s k).2).pub = s.pub ∧
    ((State.trySlot s k).2).otp = s.otp ∧ ((State.trySlot s k).2).emp = s.emp ∧ ((State.trySlot s k).2).tap = s.tap ∧
    ((State.trySlot s k).2).ext = s.ext ∧ ((State.trySlot s k).2).served = s.served ∧
    ((State.trySlot s k).2).free = s.free ∧ ((State.trySlot s k).2).pending = s.pending := by
  unfold State.trySlot
  split <;> simp

@[simp] theorem State.recordHeader_frame (s : State) (k : Nat) :
    (State.recordHeader s k).img = s.img ∧ (State.recordHeader s k).flash = s.flash ∧
    (State.recordHeader s k).ctrsAt = s.ctrsAt ∧ (State.recordHeader s k).partnerLog = s.partnerLog ∧
    (State.recordHeader s k).panel = s.panel ∧ (State.recordHeader s k).cages = s.cages ∧
    (State.recordHeader s k).tcp = s.tcp ∧ (State.recordHeader s k).streams = s.streams ∧
    (State.recordHeader s k).time = s.time ∧ (State.recordHeader s k).align = s.align ∧
    (State.recordHeader s k).swage = s.swage ∧ (State.recordHeader s k).osc = s.osc ∧
    (State.recordHeader s k).isl = s.isl ∧ (State.recordHeader s k).sch = s.sch ∧
    (State.recordHeader s k).logic = s.logic ∧ (State.recordHeader s k).cap = s.cap ∧
    (State.recordHeader s k).pub = s.pub ∧ (State.recordHeader s k).otp = s.otp ∧
    (State.recordHeader s k).vault = s.vault ∧ (State.recordHeader s k).emp = s.emp ∧
    (State.recordHeader s k).tap = s.tap ∧ (State.recordHeader s k).ext = s.ext ∧
    (State.recordHeader s k).served = s.served ∧ (State.recordHeader s k).free = s.free ∧
    (State.recordHeader s k).pending = s.pending := by
  unfold State.recordHeader
  split <;> simp

@[simp] theorem State.rejectTrial_frame (s : State) (k : Nat) :
    (State.rejectTrial s k).img = s.img ∧ (State.rejectTrial s k).ctrsAt = s.ctrsAt ∧
    (State.rejectTrial s k).partnerLog = s.partnerLog ∧ (State.rejectTrial s k).panel = s.panel ∧
    (State.rejectTrial s k).cages = s.cages ∧ (State.rejectTrial s k).tcp = s.tcp ∧
    (State.rejectTrial s k).streams = s.streams ∧ (State.rejectTrial s k).time = s.time ∧
    (State.rejectTrial s k).align = s.align ∧ (State.rejectTrial s k).swage = s.swage ∧
    (State.rejectTrial s k).osc = s.osc ∧ (State.rejectTrial s k).isl = s.isl ∧ (State.rejectTrial s k).sch = s.sch ∧
    (State.rejectTrial s k).logic = s.logic ∧ (State.rejectTrial s k).cap = s.cap ∧ (State.rejectTrial s k).pub = s.pub ∧
    (State.rejectTrial s k).otp = s.otp ∧ (State.rejectTrial s k).vault = s.vault ∧ (State.rejectTrial s k).emp = s.emp ∧
    (State.rejectTrial s k).tap = s.tap ∧ (State.rejectTrial s k).ext = s.ext ∧
    (State.rejectTrial s k).served = s.served ∧ (State.rejectTrial s k).free = s.free ∧
    (State.rejectTrial s k).pending = s.pending := by
  unfold State.rejectTrial
  split <;> simp

@[simp] theorem State.noCandidate_frame (s : State) (done : List Nat) :
    (State.noCandidate s done).img = s.img ∧ (State.noCandidate s done).flash = s.flash ∧
    (State.noCandidate s done).ctrsAt = s.ctrsAt ∧ (State.noCandidate s done).partnerLog = s.partnerLog ∧
    (State.noCandidate s done).panel = s.panel ∧ (State.noCandidate s done).cages = s.cages ∧
    (State.noCandidate s done).tcp = s.tcp ∧ (State.noCandidate s done).streams = s.streams ∧
    (State.noCandidate s done).time = s.time ∧ (State.noCandidate s done).align = s.align ∧
    (State.noCandidate s done).swage = s.swage ∧ (State.noCandidate s done).osc = s.osc ∧
    (State.noCandidate s done).isl = s.isl ∧ (State.noCandidate s done).sch = s.sch ∧
    (State.noCandidate s done).logic = s.logic ∧ (State.noCandidate s done).cap = s.cap ∧
    (State.noCandidate s done).pub = s.pub ∧ (State.noCandidate s done).otp = s.otp ∧
    (State.noCandidate s done).emp = s.emp ∧ (State.noCandidate s done).tap = s.tap ∧
    (State.noCandidate s done).ext = s.ext ∧ (State.noCandidate s done).served = s.served ∧
    (State.noCandidate s done).free = s.free ∧ (State.noCandidate s done).pending = s.pending := by
  unfold State.noCandidate
  try dsimp only
  repeat' split
  all_goals (try simp)
  all_goals (repeat' apply And.intro)
  all_goals (first | rfl | (simp; done) | (first | refine (forAll_img _ _ _ ?_).trans ?_ | refine (forAll_flash _ _ _ ?_).trans ?_ | refine (forAll_ctrsAt _ _ _ ?_).trans ?_ | refine (forAll_partnerLog _ _ _ ?_).trans ?_ | refine (forAll_panel _ _ _ ?_).trans ?_ | refine (forAll_cages _ _ _ ?_).trans ?_ | refine (forAll_tcp _ _ _ ?_).trans ?_ | refine (forAll_streams _ _ _ ?_).trans ?_ | refine (forAll_time _ _ _ ?_).trans ?_ | refine (forAll_align _ _ _ ?_).trans ?_ | refine (forAll_swage _ _ _ ?_).trans ?_ | refine (forAll_osc _ _ _ ?_).trans ?_ | refine (forAll_isl _ _ _ ?_).trans ?_ | refine (forAll_sch _ _ _ ?_).trans ?_ | refine (forAll_logic _ _ _ ?_).trans ?_ | refine (forAll_cap _ _ _ ?_).trans ?_ | refine (forAll_pub _ _ _ ?_).trans ?_ | refine (forAll_otp _ _ _ ?_).trans ?_ | refine (forAll_emp _ _ _ ?_).trans ?_ | refine (forAll_tap _ _ _ ?_).trans ?_ | refine (forAll_ext _ _ _ ?_).trans ?_ | refine (forAll_served _ _ _ ?_).trans ?_ | refine (forAll_free _ _ _ ?_).trans ?_ | refine (forAll_pending _ _ _ ?_).trans ?_))
  all_goals (first | (simp; done) | (intro s x; (try dsimp only); (repeat' split) <;> simp))

@[simp] theorem State.chooseSlot_frame (s : State) :
    (s.chooseSlot).img = s.img ∧ (s.chooseSlot).ctrsAt = s.ctrsAt ∧ (s.chooseSlot).partnerLog = s.partnerLog ∧
    (s.chooseSlot).panel = s.panel ∧ (s.chooseSlot).cages = s.cages ∧ (s.chooseSlot).tcp = s.tcp ∧
    (s.chooseSlot).streams = s.streams ∧ (s.chooseSlot).time = s.time ∧ (s.chooseSlot).align = s.align ∧
    (s.chooseSlot).swage = s.swage ∧ (s.chooseSlot).osc = s.osc ∧ (s.chooseSlot).isl = s.isl ∧
    (s.chooseSlot).sch = s.sch ∧ (s.chooseSlot).logic = s.logic ∧ (s.chooseSlot).cap = s.cap ∧
    (s.chooseSlot).pub = s.pub ∧ (s.chooseSlot).otp = s.otp ∧ (s.chooseSlot).emp = s.emp ∧ (s.chooseSlot).tap = s.tap ∧
    (s.chooseSlot).ext = s.ext ∧ (s.chooseSlot).served = s.served ∧ (s.chooseSlot).free = s.free ∧
    (s.chooseSlot).pending = s.pending := by
  let P : State → Prop := (fun u : State =>
    u.img = s.img ∧ u.ctrsAt = s.ctrsAt ∧ u.partnerLog = s.partnerLog ∧ u.panel = s.panel ∧ u.cages = s.cages ∧
    u.tcp = s.tcp ∧ u.streams = s.streams ∧ u.time = s.time ∧ u.align = s.align ∧ u.swage = s.swage ∧ u.osc = s.osc ∧
    u.isl = s.isl ∧ u.sch = s.sch ∧ u.logic = s.logic ∧ u.cap = s.cap ∧ u.pub = s.pub ∧ u.otp = s.otp ∧ u.emp = s.emp ∧
    u.tap = s.tap ∧ u.ext = s.ext ∧ u.served = s.served ∧ u.free = s.free ∧ u.pending = s.pending)
  have h0 : P s := by simp [P]
  have h : P (s.chooseSlot) := by
    unfold State.chooseSlot
    extract_lets done s1
    have h1 : P s1 := by simp [P, s1]
    clear_value s1 done
    split
    · simpa [P] using h1
    · next k _ =>
      have h2 : P (s1.trySlot k).2 := by simpa [P] using h1
      split
      · next heq => rw [heq] at h2; exact h2
      · next u heq =>
        rw [heq] at h2
        split
        · simpa [P] using h2
        · next j _ =>
          have h3 : P (u.trySlot j).2 := by simpa [P] using h2
          split
          · next heq => rw [heq] at h3; exact h3
          · next heq => rw [heq] at h3; simpa [P] using h3
  exact h


@[simp] theorem State.checkDram_frame (s : State) :
    (State.checkDram s).boot = s.boot ∧ (State.checkDram s).img = s.img ∧ (State.checkDram s).flash = s.flash ∧
    (State.checkDram s).ctrsAt = s.ctrsAt ∧ (State.checkDram s).partnerLog = s.partnerLog ∧
    (State.checkDram s).bbx = s.bbx ∧ (State.checkDram s).sens = s.sens ∧ (State.checkDram s).panel = s.panel ∧
    (State.checkDram s).cages = s.cages ∧ (State.checkDram s).tcp = s.tcp ∧ (State.checkDram s).streams = s.streams ∧
    (State.checkDram s).time = s.time ∧ (State.checkDram s).align = s.align ∧ (State.checkDram s).swage = s.swage ∧
    (State.checkDram s).osc = s.osc ∧ (State.checkDram s).isl = s.isl ∧ (State.checkDram s).sch = s.sch ∧
    (State.checkDram s).logic = s.logic ∧ (State.checkDram s).cap = s.cap ∧ (State.checkDram s).pub = s.pub ∧
    (State.checkDram s).otp = s.otp ∧ (State.checkDram s).vault = s.vault ∧ (State.checkDram s).emp = s.emp ∧
    (State.checkDram s).tap = s.tap ∧ (State.checkDram s).ext = s.ext ∧ (State.checkDram s).served = s.served ∧
    (State.checkDram s).free = s.free ∧ (State.checkDram s).pending = s.pending := by
  simp [State.checkDram]

@[simp] theorem State.beginLoad_frame (s : State) (v : LoadVerdict) :
    (State.beginLoad s v).img = s.img ∧ (State.beginLoad s v).ctrsAt = s.ctrsAt ∧
    (State.beginLoad s v).partnerLog = s.partnerLog ∧ (State.beginLoad s v).panel = s.panel ∧
    (State.beginLoad s v).cages = s.cages ∧ (State.beginLoad s v).tcp = s.tcp ∧
    (State.beginLoad s v).streams = s.streams ∧ (State.beginLoad s v).time = s.time ∧
    (State.beginLoad s v).align = s.align ∧ (State.beginLoad s v).swage = s.swage ∧ (State.beginLoad s v).osc = s.osc ∧
    (State.beginLoad s v).isl = s.isl ∧ (State.beginLoad s v).sch = s.sch ∧ (State.beginLoad s v).logic = s.logic ∧
    (State.beginLoad s v).cap = s.cap ∧ (State.beginLoad s v).pub = s.pub ∧ (State.beginLoad s v).emp = s.emp ∧
    (State.beginLoad s v).tap = s.tap ∧ (State.beginLoad s v).ext = s.ext ∧ (State.beginLoad s v).served = s.served ∧
    (State.beginLoad s v).pending = s.pending := by
  unfold State.beginLoad
  try dsimp only
  repeat' split
  all_goals simp

@[simp] theorem State.slotFails_frame (s : State) (code detail : Nat) :
    (s.slotFails code detail).img = s.img ∧ (s.slotFails code detail).ctrsAt = s.ctrsAt ∧
    (s.slotFails code detail).partnerLog = s.partnerLog ∧ (s.slotFails code detail).panel = s.panel ∧
    (s.slotFails code detail).cages = s.cages ∧ (s.slotFails code detail).tcp = s.tcp ∧
    (s.slotFails code detail).streams = s.streams ∧ (s.slotFails code detail).time = s.time ∧
    (s.slotFails code detail).align = s.align ∧ (s.slotFails code detail).swage = s.swage ∧
    (s.slotFails code detail).osc = s.osc ∧ (s.slotFails code detail).isl = s.isl ∧
    (s.slotFails code detail).sch = s.sch ∧ (s.slotFails code detail).logic = s.logic ∧
    (s.slotFails code detail).cap = s.cap ∧ (s.slotFails code detail).pub = s.pub ∧
    (s.slotFails code detail).otp = s.otp ∧ (s.slotFails code detail).emp = s.emp ∧
    (s.slotFails code detail).tap = s.tap ∧ (s.slotFails code detail).ext = s.ext ∧
    (s.slotFails code detail).served = s.served ∧ (s.slotFails code detail).free = s.free ∧
    (s.slotFails code detail).pending = s.pending := by
  let P : State → Prop := (fun u : State =>
    u.img = s.img ∧ u.ctrsAt = s.ctrsAt ∧ u.partnerLog = s.partnerLog ∧ u.panel = s.panel ∧ u.cages = s.cages ∧
    u.tcp = s.tcp ∧ u.streams = s.streams ∧ u.time = s.time ∧ u.align = s.align ∧ u.swage = s.swage ∧ u.osc = s.osc ∧
    u.isl = s.isl ∧ u.sch = s.sch ∧ u.logic = s.logic ∧ u.cap = s.cap ∧ u.pub = s.pub ∧ u.otp = s.otp ∧ u.emp = s.emp ∧
    u.tap = s.tap ∧ u.ext = s.ext ∧ u.served = s.served ∧ u.free = s.free ∧ u.pending = s.pending)
  have h0 : P s := by simp [P]
  have h : P (s.slotFails code detail) := by
    unfold State.slotFails
    extract_lets k s1 s2
    have h1 : P s1 := by
      simp only [s1]
      split
      · simp [P]
      · exact h0
    have h2 : P s2 := by simpa [P, s2] using h1
    clear_value s2 s1 k
    split
    · have h3 : P (s2.trySlot (1 - k)).2 := by simpa [P] using h2
      split
      · next heq => rw [heq] at h3; simpa [P] using h3
      · next heq => rw [heq] at h3; simpa [P] using h3
    · simpa [P] using h2
  exact h


@[simp] theorem State.installKey_frame (s : State) (content : Option (BitVec 256)) (e : Nat) :
    (State.installKey s content e).boot = s.boot ∧ (State.installKey s content e).img = s.img ∧
    (State.installKey s content e).flash = s.flash ∧ (State.installKey s content e).ctrs = s.ctrs ∧
    (State.installKey s content e).ctrsAt = s.ctrsAt ∧ (State.installKey s content e).attn = s.attn ∧
    (State.installKey s content e).partnerLog = s.partnerLog ∧ (State.installKey s content e).bbx = s.bbx ∧
    (State.installKey s content e).sens = s.sens ∧ (State.installKey s content e).panel = s.panel ∧
    (State.installKey s content e).ports = s.ports ∧ (State.installKey s content e).cages = s.cages ∧
    (State.installKey s content e).tcp = s.tcp ∧ (State.installKey s content e).streams = s.streams ∧
    (State.installKey s content e).time = s.time ∧ (State.installKey s content e).align = s.align ∧
    (State.installKey s content e).swage = s.swage ∧ (State.installKey s content e).osc = s.osc ∧
    (State.installKey s content e).isl = s.isl ∧ (State.installKey s content e).sch = s.sch ∧
    (State.installKey s content e).logic = s.logic ∧ (State.installKey s content e).cap = s.cap ∧
    (State.installKey s content e).pub = s.pub ∧ (State.installKey s content e).pair = s.pair ∧
    (State.installKey s content e).otp = s.otp ∧ (State.installKey s content e).emp = s.emp ∧
    (State.installKey s content e).tap = s.tap ∧ (State.installKey s content e).ext = s.ext ∧
    (State.installKey s content e).served = s.served ∧ (State.installKey s content e).pending = s.pending := by
  unfold State.installKey
  split <;> simp

@[simp] theorem State.installKeys_frame (s : State) (content : Option (BitVec 256)) :
    (State.installKeys s content).boot = s.boot ∧ (State.installKeys s content).img = s.img ∧
    (State.installKeys s content).flash = s.flash ∧ (State.installKeys s content).ctrs = s.ctrs ∧
    (State.installKeys s content).ctrsAt = s.ctrsAt ∧ (State.installKeys s content).attn = s.attn ∧
    (State.installKeys s content).partnerLog = s.partnerLog ∧ (State.installKeys s content).bbx = s.bbx ∧
    (State.installKeys s content).sens = s.sens ∧ (State.installKeys s content).panel = s.panel ∧
    (State.installKeys s content).ports = s.ports ∧ (State.installKeys s content).cages = s.cages ∧
    (State.installKeys s content).tcp = s.tcp ∧ (State.installKeys s content).streams = s.streams ∧
    (State.installKeys s content).time = s.time ∧ (State.installKeys s content).align = s.align ∧
    (State.installKeys s content).swage = s.swage ∧ (State.installKeys s content).osc = s.osc ∧
    (State.installKeys s content).isl = s.isl ∧ (State.installKeys s content).sch = s.sch ∧
    (State.installKeys s content).logic = s.logic ∧ (State.installKeys s content).cap = s.cap ∧
    (State.installKeys s content).pub = s.pub ∧ (State.installKeys s content).pair = s.pair ∧
    (State.installKeys s content).otp = s.otp ∧ (State.installKeys s content).emp = s.emp ∧
    (State.installKeys s content).tap = s.tap ∧ (State.installKeys s content).ext = s.ext ∧
    (State.installKeys s content).served = s.served ∧ (State.installKeys s content).pending = s.pending := by
  simp [State.installKeys]

@[simp] theorem State.installPorts_frame (s : State) :
    (State.installPorts s).boot = s.boot ∧ (State.installPorts s).img = s.img ∧ (State.installPorts s).flash = s.flash ∧
    (State.installPorts s).ctrsAt = s.ctrsAt ∧ (State.installPorts s).partnerLog = s.partnerLog ∧
    (State.installPorts s).bbx = s.bbx ∧ (State.installPorts s).sens = s.sens ∧ (State.installPorts s).panel = s.panel ∧
    (State.installPorts s).time = s.time ∧ (State.installPorts s).align = s.align ∧
    (State.installPorts s).swage = s.swage ∧ (State.installPorts s).osc = s.osc ∧ (State.installPorts s).isl = s.isl ∧
    (State.installPorts s).sch = s.sch ∧ (State.installPorts s).logic = s.logic ∧ (State.installPorts s).cap = s.cap ∧
    (State.installPorts s).pub = s.pub ∧ (State.installPorts s).otp = s.otp ∧ (State.installPorts s).vault = s.vault ∧
    (State.installPorts s).emp = s.emp ∧ (State.installPorts s).tap = s.tap ∧ (State.installPorts s).ext = s.ext ∧
    (State.installPorts s).served = s.served ∧ (State.installPorts s).free = s.free ∧
    (State.installPorts s).pending = s.pending := by
  simp [State.installPorts]

@[simp] theorem State.installTime_frame (s : State) :
    (State.installTime s).boot = s.boot ∧ (State.installTime s).img = s.img ∧ (State.installTime s).flash = s.flash ∧
    (State.installTime s).ctrs = s.ctrs ∧ (State.installTime s).ctrsAt = s.ctrsAt ∧ (State.installTime s).attn = s.attn ∧
    (State.installTime s).partnerLog = s.partnerLog ∧ (State.installTime s).bbx = s.bbx ∧
    (State.installTime s).sens = s.sens ∧ (State.installTime s).panel = s.panel ∧ (State.installTime s).ports = s.ports ∧
    (State.installTime s).cages = s.cages ∧ (State.installTime s).tcp = s.tcp ∧
    (State.installTime s).streams = s.streams ∧ (State.installTime s).align = s.align ∧
    (State.installTime s).swage = s.swage ∧ (State.installTime s).osc = s.osc ∧ (State.installTime s).isl = s.isl ∧
    (State.installTime s).sch = s.sch ∧ (State.installTime s).logic = s.logic ∧ (State.installTime s).cap = s.cap ∧
    (State.installTime s).pub = s.pub ∧ (State.installTime s).pair = s.pair ∧ (State.installTime s).otp = s.otp ∧
    (State.installTime s).vault = s.vault ∧ (State.installTime s).emp = s.emp ∧ (State.installTime s).tap = s.tap ∧
    (State.installTime s).ext = s.ext ∧ (State.installTime s).served = s.served ∧ (State.installTime s).free = s.free ∧
    (State.installTime s).pending = s.pending := by
  simp [State.installTime]

@[simp] theorem State.installPub_frame (s : State) :
    (State.installPub s).boot = s.boot ∧ (State.installPub s).img = s.img ∧ (State.installPub s).flash = s.flash ∧
    (State.installPub s).ctrs = s.ctrs ∧ (State.installPub s).ctrsAt = s.ctrsAt ∧ (State.installPub s).attn = s.attn ∧
    (State.installPub s).partnerLog = s.partnerLog ∧ (State.installPub s).bbx = s.bbx ∧
    (State.installPub s).sens = s.sens ∧ (State.installPub s).panel = s.panel ∧ (State.installPub s).ports = s.ports ∧
    (State.installPub s).cages = s.cages ∧ (State.installPub s).tcp = s.tcp ∧ (State.installPub s).time = s.time ∧
    (State.installPub s).align = s.align ∧ (State.installPub s).swage = s.swage ∧ (State.installPub s).osc = s.osc ∧
    (State.installPub s).isl = s.isl ∧ (State.installPub s).sch = s.sch ∧ (State.installPub s).logic = s.logic ∧
    (State.installPub s).cap = s.cap ∧ (State.installPub s).pair = s.pair ∧ (State.installPub s).otp = s.otp ∧
    (State.installPub s).vault = s.vault ∧ (State.installPub s).emp = s.emp ∧ (State.installPub s).tap = s.tap ∧
    (State.installPub s).ext = s.ext ∧ (State.installPub s).served = s.served ∧ (State.installPub s).free = s.free ∧
    (State.installPub s).pending = s.pending := by
  simp [State.installPub]

@[simp] theorem State.installCells_frame (s : State) :
    (State.installCells s).boot = s.boot ∧ (State.installCells s).img = s.img ∧ (State.installCells s).flash = s.flash ∧
    (State.installCells s).ctrs = s.ctrs ∧ (State.installCells s).ctrsAt = s.ctrsAt ∧
    (State.installCells s).attn = s.attn ∧ (State.installCells s).partnerLog = s.partnerLog ∧
    (State.installCells s).bbx = s.bbx ∧ (State.installCells s).sens = s.sens ∧ (State.installCells s).panel = s.panel ∧
    (State.installCells s).ports = s.ports ∧ (State.installCells s).cages = s.cages ∧
    (State.installCells s).tcp = s.tcp ∧ (State.installCells s).streams = s.streams ∧
    (State.installCells s).time = s.time ∧ (State.installCells s).align = s.align ∧
    (State.installCells s).swage = s.swage ∧ (State.installCells s).osc = s.osc ∧
    (State.installCells s).logic = s.logic ∧ (State.installCells s).cap = s.cap ∧ (State.installCells s).pub = s.pub ∧
    (State.installCells s).pair = s.pair ∧ (State.installCells s).otp = s.otp ∧ (State.installCells s).vault = s.vault ∧
    (State.installCells s).emp = s.emp ∧ (State.installCells s).tap = s.tap ∧ (State.installCells s).ext = s.ext ∧
    (State.installCells s).served = s.served ∧ (State.installCells s).free = s.free ∧
    (State.installCells s).pending = s.pending := by
  simp [State.installCells]

@[simp] theorem State.installSlots_frame (s : State) :
    (State.installSlots s).boot = s.boot ∧ (State.installSlots s).img = s.img ∧ (State.installSlots s).flash = s.flash ∧
    (State.installSlots s).ctrs = s.ctrs ∧ (State.installSlots s).ctrsAt = s.ctrsAt ∧
    (State.installSlots s).attn = s.attn ∧ (State.installSlots s).partnerLog = s.partnerLog ∧
    (State.installSlots s).bbx = s.bbx ∧ (State.installSlots s).sens = s.sens ∧ (State.installSlots s).panel = s.panel ∧
    (State.installSlots s).ports = s.ports ∧ (State.installSlots s).cages = s.cages ∧
    (State.installSlots s).tcp = s.tcp ∧ (State.installSlots s).streams = s.streams ∧
    (State.installSlots s).time = s.time ∧ (State.installSlots s).align = s.align ∧
    (State.installSlots s).swage = s.swage ∧ (State.installSlots s).osc = s.osc ∧ (State.installSlots s).isl = s.isl ∧
    (State.installSlots s).logic = s.logic ∧ (State.installSlots s).cap = s.cap ∧ (State.installSlots s).pub = s.pub ∧
    (State.installSlots s).pair = s.pair ∧ (State.installSlots s).otp = s.otp ∧ (State.installSlots s).vault = s.vault ∧
    (State.installSlots s).emp = s.emp ∧ (State.installSlots s).tap = s.tap ∧ (State.installSlots s).ext = s.ext ∧
    (State.installSlots s).served = s.served ∧ (State.installSlots s).free = s.free ∧
    (State.installSlots s).pending = s.pending := by
  simp [State.installSlots]

@[simp] theorem State.install_frame (s : State) :
    (State.install s).flash = s.flash ∧ (State.install s).ctrsAt = s.ctrsAt ∧
    (State.install s).partnerLog = s.partnerLog ∧ (State.install s).bbx = s.bbx ∧ (State.install s).sens = s.sens ∧
    (State.install s).panel = s.panel ∧ (State.install s).align = s.align ∧ (State.install s).swage = s.swage ∧
    (State.install s).osc = s.osc ∧ (State.install s).logic = s.logic ∧ (State.install s).cap = s.cap ∧
    (State.install s).otp = s.otp ∧ (State.install s).emp = s.emp ∧ (State.install s).tap = s.tap ∧
    (State.install s).ext = s.ext ∧ (State.install s).served = s.served ∧ (State.install s).pending = s.pending := by
  simp [State.install]

@[simp] theorem State.startFirmware_frame (s : State) :
    (State.startFirmware s).img = s.img ∧ (State.startFirmware s).flash = s.flash ∧
    (State.startFirmware s).ctrs = s.ctrs ∧ (State.startFirmware s).ctrsAt = s.ctrsAt ∧
    (State.startFirmware s).attn = s.attn ∧ (State.startFirmware s).partnerLog = s.partnerLog ∧
    (State.startFirmware s).bbx = s.bbx ∧ (State.startFirmware s).sens = s.sens ∧
    (State.startFirmware s).panel = s.panel ∧ (State.startFirmware s).cages = s.cages ∧
    (State.startFirmware s).tcp = s.tcp ∧ (State.startFirmware s).streams = s.streams ∧
    (State.startFirmware s).time = s.time ∧ (State.startFirmware s).align = s.align ∧
    (State.startFirmware s).swage = s.swage ∧ (State.startFirmware s).osc = s.osc ∧ (State.startFirmware s).isl = s.isl ∧
    (State.startFirmware s).sch = s.sch ∧ (State.startFirmware s).logic = s.logic ∧ (State.startFirmware s).cap = s.cap ∧
    (State.startFirmware s).pub = s.pub ∧ (State.startFirmware s).pair = s.pair ∧ (State.startFirmware s).otp = s.otp ∧
    (State.startFirmware s).vault = s.vault ∧ (State.startFirmware s).emp = s.emp ∧ (State.startFirmware s).tap = s.tap ∧
    (State.startFirmware s).ext = s.ext ∧ (State.startFirmware s).served = s.served ∧
    (State.startFirmware s).free = s.free ∧ (State.startFirmware s).pending = s.pending := by
  simp [State.startFirmware]

end Sys2Proof.Machine
end

