-- ==== Sys2Proof/Laws/FrameEmp.lean ====
section
/-! SUPPORT. What each operation of Machine/Emp.lean leaves unchanged: one frame lemma per operation. -/

namespace Sys2Proof.Machine

@[simp] theorem answerWith_frame (s : State) (r : Nat × Bytes) :
    ((answerWith s r).1).boot = s.boot ∧ ((answerWith s r).1).img = s.img ∧ ((answerWith s r).1).flash = s.flash ∧
    ((answerWith s r).1).ctrs = s.ctrs ∧ ((answerWith s r).1).ctrsAt = s.ctrsAt ∧ ((answerWith s r).1).attn = s.attn ∧
    ((answerWith s r).1).partnerLog = s.partnerLog ∧ ((answerWith s r).1).bbx = s.bbx ∧
    ((answerWith s r).1).sens = s.sens ∧ ((answerWith s r).1).panel = s.panel ∧ ((answerWith s r).1).ports = s.ports ∧
    ((answerWith s r).1).cages = s.cages ∧ ((answerWith s r).1).tcp = s.tcp ∧ ((answerWith s r).1).streams = s.streams ∧
    ((answerWith s r).1).time = s.time ∧ ((answerWith s r).1).align = s.align ∧ ((answerWith s r).1).swage = s.swage ∧
    ((answerWith s r).1).osc = s.osc ∧ ((answerWith s r).1).isl = s.isl ∧ ((answerWith s r).1).sch = s.sch ∧
    ((answerWith s r).1).logic = s.logic ∧ ((answerWith s r).1).cap = s.cap ∧ ((answerWith s r).1).pub = s.pub ∧
    ((answerWith s r).1).pair = s.pair ∧ ((answerWith s r).1).otp = s.otp ∧ ((answerWith s r).1).vault = s.vault ∧
    ((answerWith s r).1).emp = s.emp ∧ ((answerWith s r).1).tap = s.tap ∧ ((answerWith s r).1).ext = s.ext ∧
    ((answerWith s r).1).served = s.served ∧ ((answerWith s r).1).free = s.free ∧ ((answerWith s r).1).pending = s.pending := by
  simp [answerWith]

@[simp] theorem State.openSession_frame (s : State) (q : EmpReq) :
    (State.openSession s q).boot = s.boot ∧ (State.openSession s q).img = s.img ∧
    (State.openSession s q).flash = s.flash ∧ (State.openSession s q).ctrs = s.ctrs ∧
    (State.openSession s q).ctrsAt = s.ctrsAt ∧ (State.openSession s q).attn = s.attn ∧
    (State.openSession s q).partnerLog = s.partnerLog ∧ (State.openSession s q).bbx = s.bbx ∧
    (State.openSession s q).sens = s.sens ∧ (State.openSession s q).panel = s.panel ∧
    (State.openSession s q).ports = s.ports ∧ (State.openSession s q).cages = s.cages ∧
    (State.openSession s q).tcp = s.tcp ∧ (State.openSession s q).streams = s.streams ∧
    (State.openSession s q).time = s.time ∧ (State.openSession s q).align = s.align ∧
    (State.openSession s q).swage = s.swage ∧ (State.openSession s q).osc = s.osc ∧ (State.openSession s q).isl = s.isl ∧
    (State.openSession s q).sch = s.sch ∧ (State.openSession s q).logic = s.logic ∧ (State.openSession s q).cap = s.cap ∧
    (State.openSession s q).pub = s.pub ∧ (State.openSession s q).pair = s.pair ∧ (State.openSession s q).otp = s.otp ∧
    (State.openSession s q).vault = s.vault ∧ (State.openSession s q).tap = s.tap ∧ (State.openSession s q).ext = s.ext ∧
    (State.openSession s q).served = s.served ∧ (State.openSession s q).free = s.free ∧
    (State.openSession s q).pending = s.pending := by
  simp [State.openSession]

@[simp] theorem State.closeSession_frame (s : State) (svp : Bool) (id : BitVec 32) :
    (State.closeSession s svp id).boot = s.boot ∧ (State.closeSession s svp id).img = s.img ∧
    (State.closeSession s svp id).flash = s.flash ∧ (State.closeSession s svp id).ctrs = s.ctrs ∧
    (State.closeSession s svp id).ctrsAt = s.ctrsAt ∧ (State.closeSession s svp id).attn = s.attn ∧
    (State.closeSession s svp id).partnerLog = s.partnerLog ∧ (State.closeSession s svp id).bbx = s.bbx ∧
    (State.closeSession s svp id).sens = s.sens ∧ (State.closeSession s svp id).panel = s.panel ∧
    (State.closeSession s svp id).ports = s.ports ∧ (State.closeSession s svp id).cages = s.cages ∧
    (State.closeSession s svp id).tcp = s.tcp ∧ (State.closeSession s svp id).streams = s.streams ∧
    (State.closeSession s svp id).time = s.time ∧ (State.closeSession s svp id).align = s.align ∧
    (State.closeSession s svp id).swage = s.swage ∧ (State.closeSession s svp id).osc = s.osc ∧
    (State.closeSession s svp id).isl = s.isl ∧ (State.closeSession s svp id).sch = s.sch ∧
    (State.closeSession s svp id).logic = s.logic ∧ (State.closeSession s svp id).cap = s.cap ∧
    (State.closeSession s svp id).pub = s.pub ∧ (State.closeSession s svp id).pair = s.pair ∧
    (State.closeSession s svp id).otp = s.otp ∧ (State.closeSession s svp id).vault = s.vault ∧
    (State.closeSession s svp id).tap = s.tap ∧ (State.closeSession s svp id).ext = s.ext ∧
    (State.closeSession s svp id).served = s.served ∧ (State.closeSession s svp id).free = s.free ∧
    (State.closeSession s svp id).pending = s.pending := by
  simp [State.closeSession]

@[simp] theorem State.oweRead_frame (s : State) (g i n : Nat) :
    (State.oweRead s g i n).boot = s.boot ∧ (State.oweRead s g i n).img = s.img ∧
    (State.oweRead s g i n).flash = s.flash ∧ (State.oweRead s g i n).ctrs = s.ctrs ∧
    (State.oweRead s g i n).ctrsAt = s.ctrsAt ∧ (State.oweRead s g i n).attn = s.attn ∧
    (State.oweRead s g i n).partnerLog = s.partnerLog ∧ (State.oweRead s g i n).bbx = s.bbx ∧
    (State.oweRead s g i n).sens = s.sens ∧ (State.oweRead s g i n).panel = s.panel ∧
    (State.oweRead s g i n).ports = s.ports ∧ (State.oweRead s g i n).cages = s.cages ∧
    (State.oweRead s g i n).tcp = s.tcp ∧ (State.oweRead s g i n).streams = s.streams ∧
    (State.oweRead s g i n).time = s.time ∧ (State.oweRead s g i n).align = s.align ∧
    (State.oweRead s g i n).swage = s.swage ∧ (State.oweRead s g i n).osc = s.osc ∧ (State.oweRead s g i n).isl = s.isl ∧
    (State.oweRead s g i n).sch = s.sch ∧ (State.oweRead s g i n).logic = s.logic ∧ (State.oweRead s g i n).cap = s.cap ∧
    (State.oweRead s g i n).pub = s.pub ∧ (State.oweRead s g i n).pair = s.pair ∧ (State.oweRead s g i n).otp = s.otp ∧
    (State.oweRead s g i n).vault = s.vault ∧ (State.oweRead s g i n).tap = s.tap ∧ (State.oweRead s g i n).ext = s.ext ∧
    (State.oweRead s g i n).served = s.served ∧ (State.oweRead s g i n).free = s.free ∧
    (State.oweRead s g i n).pending = s.pending := by
  simp [State.oweRead]

@[simp] theorem State.emRead_frame (s : State) (q : EmpReq) :
    ((State.emRead s q).1).boot = s.boot ∧ ((State.emRead s q).1).img = s.img ∧ ((State.emRead s q).1).flash = s.flash ∧
    ((State.emRead s q).1).bbx = s.bbx ∧ ((State.emRead s q).1).sens = s.sens ∧ ((State.emRead s q).1).panel = s.panel ∧
    ((State.emRead s q).1).ports = s.ports ∧ ((State.emRead s q).1).cages = s.cages ∧
    ((State.emRead s q).1).tcp = s.tcp ∧ ((State.emRead s q).1).time = s.time ∧ ((State.emRead s q).1).swage = s.swage ∧
    ((State.emRead s q).1).osc = s.osc ∧ ((State.emRead s q).1).isl = s.isl ∧ ((State.emRead s q).1).sch = s.sch ∧
    ((State.emRead s q).1).logic = s.logic ∧ ((State.emRead s q).1).cap = s.cap ∧ ((State.emRead s q).1).pub = s.pub ∧
    ((State.emRead s q).1).pair = s.pair ∧ ((State.emRead s q).1).otp = s.otp ∧ ((State.emRead s q).1).vault = s.vault ∧
    ((State.emRead s q).1).tap = s.tap ∧ ((State.emRead s q).1).ext = s.ext ∧ ((State.emRead s q).1).served = s.served ∧
    ((State.emRead s q).1).free = s.free ∧ ((State.emRead s q).1).pending = s.pending := by
  unfold State.emRead
  try dsimp only
  repeat' split
  all_goals simp

@[simp] theorem State.emWrite_frame (s : State) (q : EmpReq) :
    ((State.emWrite s q).1).boot = s.boot ∧ ((State.emWrite s q).1).img = s.img ∧
    ((State.emWrite s q).1).flash = s.flash ∧ ((State.emWrite s q).1).ctrs = s.ctrs ∧
    ((State.emWrite s q).1).ctrsAt = s.ctrsAt ∧ ((State.emWrite s q).1).attn = s.attn ∧
    ((State.emWrite s q).1).partnerLog = s.partnerLog ∧ ((State.emWrite s q).1).bbx = s.bbx ∧
    ((State.emWrite s q).1).panel = s.panel ∧ ((State.emWrite s q).1).ports = s.ports ∧
    ((State.emWrite s q).1).cages = s.cages ∧ ((State.emWrite s q).1).tcp = s.tcp ∧
    ((State.emWrite s q).1).streams = s.streams ∧ ((State.emWrite s q).1).time = s.time ∧
    ((State.emWrite s q).1).align = s.align ∧ ((State.emWrite s q).1).osc = s.osc ∧ ((State.emWrite s q).1).isl = s.isl ∧
    ((State.emWrite s q).1).sch = s.sch ∧ ((State.emWrite s q).1).logic = s.logic ∧ ((State.emWrite s q).1).cap = s.cap ∧
    ((State.emWrite s q).1).pub = s.pub ∧ ((State.emWrite s q).1).pair = s.pair ∧ ((State.emWrite s q).1).otp = s.otp ∧
    ((State.emWrite s q).1).emp = s.emp ∧ ((State.emWrite s q).1).tap = s.tap ∧ ((State.emWrite s q).1).ext = s.ext ∧
    ((State.emWrite s q).1).served = s.served ∧ ((State.emWrite s q).1).free = s.free ∧
    ((State.emWrite s q).1).pending = s.pending := by
  unfold State.emWrite
  try dsimp only
  repeat' split
  all_goals simp

@[simp] theorem State.refuseSet_frame (s : State) (result n : Nat) :
    ((State.refuseSet s result n).1).boot = s.boot ∧ ((State.refuseSet s result n).1).img = s.img ∧
    ((State.refuseSet s result n).1).flash = s.flash ∧ ((State.refuseSet s result n).1).ctrsAt = s.ctrsAt ∧
    ((State.refuseSet s result n).1).attn = s.attn ∧ ((State.refuseSet s result n).1).partnerLog = s.partnerLog ∧
    ((State.refuseSet s result n).1).bbx = s.bbx ∧ ((State.refuseSet s result n).1).sens = s.sens ∧
    ((State.refuseSet s result n).1).panel = s.panel ∧ ((State.refuseSet s result n).1).ports = s.ports ∧
    ((State.refuseSet s result n).1).cages = s.cages ∧ ((State.refuseSet s result n).1).tcp = s.tcp ∧
    ((State.refuseSet s result n).1).streams = s.streams ∧ ((State.refuseSet s result n).1).time = s.time ∧
    ((State.refuseSet s result n).1).align = s.align ∧ ((State.refuseSet s result n).1).swage = s.swage ∧
    ((State.refuseSet s result n).1).osc = s.osc ∧ ((State.refuseSet s result n).1).isl = s.isl ∧
    ((State.refuseSet s result n).1).sch = s.sch ∧ ((State.refuseSet s result n).1).logic = s.logic ∧
    ((State.refuseSet s result n).1).cap = s.cap ∧ ((State.refuseSet s result n).1).pub = s.pub ∧
    ((State.refuseSet s result n).1).pair = s.pair ∧ ((State.refuseSet s result n).1).otp = s.otp ∧
    ((State.refuseSet s result n).1).vault = s.vault ∧ ((State.refuseSet s result n).1).emp = s.emp ∧
    ((State.refuseSet s result n).1).tap = s.tap ∧ ((State.refuseSet s result n).1).ext = s.ext ∧
    ((State.refuseSet s result n).1).served = s.served ∧ ((State.refuseSet s result n).1).free = s.free ∧
    ((State.refuseSet s result n).1).pending = s.pending := by
  simp [State.refuseSet]

@[simp] theorem State.acceptSet_frame (s : State) (es : List ChangeEntry) :
    ((State.acceptSet s es).1).boot = s.boot ∧ ((State.acceptSet s es).1).img = s.img ∧
    ((State.acceptSet s es).1).flash = s.flash ∧ ((State.acceptSet s es).1).ctrs = s.ctrs ∧
    ((State.acceptSet s es).1).ctrsAt = s.ctrsAt ∧ ((State.acceptSet s es).1).attn = s.attn ∧
    ((State.acceptSet s es).1).partnerLog = s.partnerLog ∧ ((State.acceptSet s es).1).bbx = s.bbx ∧
    ((State.acceptSet s es).1).sens = s.sens ∧ ((State.acceptSet s es).1).panel = s.panel ∧
    ((State.acceptSet s es).1).ports = s.ports ∧ ((State.acceptSet s es).1).cages = s.cages ∧
    ((State.acceptSet s es).1).tcp = s.tcp ∧ ((State.acceptSet s es).1).streams = s.streams ∧
    ((State.acceptSet s es).1).time = s.time ∧ ((State.acceptSet s es).1).align = s.align ∧
    ((State.acceptSet s es).1).swage = s.swage ∧ ((State.acceptSet s es).1).osc = s.osc ∧
    ((State.acceptSet s es).1).isl = s.isl ∧ ((State.acceptSet s es).1).sch = s.sch ∧
    ((State.acceptSet s es).1).cap = s.cap ∧ ((State.acceptSet s es).1).pub = s.pub ∧
    ((State.acceptSet s es).1).pair = s.pair ∧ ((State.acceptSet s es).1).otp = s.otp ∧
    ((State.acceptSet s es).1).vault = s.vault ∧ ((State.acceptSet s es).1).tap = s.tap ∧
    ((State.acceptSet s es).1).ext = s.ext ∧ ((State.acceptSet s es).1).served = s.served ∧
    ((State.acceptSet s es).1).free = s.free ∧ ((State.acceptSet s es).1).pending = s.pending := by
  unfold State.acceptSet
  split <;> simp

@[simp] theorem State.acceptPair_frame (s : State) (q : EmpReq) (a : Auth) (es : List ChangeEntry) :
    ((State.acceptPair s q a es).1).boot = s.boot ∧ ((State.acceptPair s q a es).1).img = s.img ∧
    ((State.acceptPair s q a es).1).flash = s.flash ∧ ((State.acceptPair s q a es).1).ctrsAt = s.ctrsAt ∧
    ((State.acceptPair s q a es).1).partnerLog = s.partnerLog ∧ ((State.acceptPair s q a es).1).bbx = s.bbx ∧
    ((State.acceptPair s q a es).1).sens = s.sens ∧ ((State.acceptPair s q a es).1).panel = s.panel ∧
    ((State.acceptPair s q a es).1).cages = s.cages ∧ ((State.acceptPair s q a es).1).tcp = s.tcp ∧
    ((State.acceptPair s q a es).1).streams = s.streams ∧ ((State.acceptPair s q a es).1).time = s.time ∧
    ((State.acceptPair s q a es).1).align = s.align ∧ ((State.acceptPair s q a es).1).swage = s.swage ∧
    ((State.acceptPair s q a es).1).osc = s.osc ∧ ((State.acceptPair s q a es).1).isl = s.isl ∧
    ((State.acceptPair s q a es).1).sch = s.sch ∧ ((State.acceptPair s q a es).1).logic = s.logic ∧
    ((State.acceptPair s q a es).1).cap = s.cap ∧ ((State.acceptPair s q a es).1).pub = s.pub ∧
    ((State.acceptPair s q a es).1).otp = s.otp ∧ ((State.acceptPair s q a es).1).vault = s.vault ∧
    ((State.acceptPair s q a es).1).tap = s.tap ∧ ((State.acceptPair s q a es).1).ext = s.ext ∧
    ((State.acceptPair s q a es).1).served = s.served ∧ ((State.acceptPair s q a es).1).free = s.free ∧
    ((State.acceptPair s q a es).1).pending = s.pending := by
  unfold State.acceptPair
  try dsimp only
  repeat' split
  all_goals simp

@[simp] theorem State.emChange_frame (s : State) (q : EmpReq) (a : Auth) :
    ((State.emChange s q a).1).boot = s.boot ∧ ((State.emChange s q a).1).img = s.img ∧
    ((State.emChange s q a).1).flash = s.flash ∧ ((State.emChange s q a).1).ctrsAt = s.ctrsAt ∧
    ((State.emChange s q a).1).partnerLog = s.partnerLog ∧ ((State.emChange s q a).1).bbx = s.bbx ∧
    ((State.emChange s q a).1).sens = s.sens ∧ ((State.emChange s q a).1).panel = s.panel ∧
    ((State.emChange s q a).1).cages = s.cages ∧ ((State.emChange s q a).1).tcp = s.tcp ∧
    ((State.emChange s q a).1).streams = s.streams ∧ ((State.emChange s q a).1).time = s.time ∧
    ((State.emChange s q a).1).align = s.align ∧ ((State.emChange s q a).1).swage = s.swage ∧
    ((State.emChange s q a).1).osc = s.osc ∧ ((State.emChange s q a).1).isl = s.isl ∧
    ((State.emChange s q a).1).sch = s.sch ∧ ((State.emChange s q a).1).cap = s.cap ∧
    ((State.emChange s q a).1).pub = s.pub ∧ ((State.emChange s q a).1).otp = s.otp ∧
    ((State.emChange s q a).1).vault = s.vault ∧ ((State.emChange s q a).1).tap = s.tap ∧
    ((State.emChange s q a).1).ext = s.ext ∧ ((State.emChange s q a).1).served = s.served ∧
    ((State.emChange s q a).1).free = s.free ∧ ((State.emChange s q a).1).pending = s.pending := by
  unfold State.emChange
  try dsimp only
  repeat' split
  all_goals simp

@[simp] theorem State.acknowledge_frame (s : State) (a : Nat) :
    (State.acknowledge s a).boot = s.boot ∧ (State.acknowledge s a).img = s.img ∧
    (State.acknowledge s a).flash = s.flash ∧ (State.acknowledge s a).ctrs = s.ctrs ∧
    (State.acknowledge s a).ctrsAt = s.ctrsAt ∧ (State.acknowledge s a).partnerLog = s.partnerLog ∧
    (State.acknowledge s a).bbx = s.bbx ∧ (State.acknowledge s a).sens = s.sens ∧
    (State.acknowledge s a).panel = s.panel ∧ (State.acknowledge s a).ports = s.ports ∧
    (State.acknowledge s a).cages = s.cages ∧ (State.acknowledge s a).tcp = s.tcp ∧
    (State.acknowledge s a).streams = s.streams ∧ (State.acknowledge s a).time = s.time ∧
    (State.acknowledge s a).align = s.align ∧ (State.acknowledge s a).swage = s.swage ∧
    (State.acknowledge s a).osc = s.osc ∧ (State.acknowledge s a).isl = s.isl ∧ (State.acknowledge s a).sch = s.sch ∧
    (State.acknowledge s a).logic = s.logic ∧ (State.acknowledge s a).cap = s.cap ∧ (State.acknowledge s a).pub = s.pub ∧
    (State.acknowledge s a).pair = s.pair ∧ (State.acknowledge s a).otp = s.otp ∧
    (State.acknowledge s a).vault = s.vault ∧ (State.acknowledge s a).emp = s.emp ∧ (State.acknowledge s a).tap = s.tap ∧
    (State.acknowledge s a).ext = s.ext ∧ (State.acknowledge s a).served = s.served ∧
    (State.acknowledge s a).free = s.free ∧ (State.acknowledge s a).pending = s.pending := by
  simp [State.acknowledge]

@[simp] theorem State.carryRestart_frame (s : State) :
    (State.carryRestart s).flash = s.flash ∧ (State.carryRestart s).panel = s.panel ∧
    (State.carryRestart s).otp = s.otp ∧ (State.carryRestart s).tap = s.tap ∧ (State.carryRestart s).ext = s.ext ∧
    (State.carryRestart s).free = s.free ∧ (State.carryRestart s).pending = s.pending := by
  unfold State.carryRestart
  split <;> simp

@[simp] theorem State.askRestart_frame (s : State) (a : Auth) :
    (State.askRestart s a).boot = s.boot ∧ (State.askRestart s a).img = s.img ∧ (State.askRestart s a).flash = s.flash ∧
    (State.askRestart s a).ctrs = s.ctrs ∧ (State.askRestart s a).ctrsAt = s.ctrsAt ∧
    (State.askRestart s a).attn = s.attn ∧ (State.askRestart s a).partnerLog = s.partnerLog ∧
    (State.askRestart s a).bbx = s.bbx ∧ (State.askRestart s a).sens = s.sens ∧ (State.askRestart s a).panel = s.panel ∧
    (State.askRestart s a).ports = s.ports ∧ (State.askRestart s a).cages = s.cages ∧
    (State.askRestart s a).tcp = s.tcp ∧ (State.askRestart s a).streams = s.streams ∧
    (State.askRestart s a).time = s.time ∧ (State.askRestart s a).align = s.align ∧
    (State.askRestart s a).swage = s.swage ∧ (State.askRestart s a).osc = s.osc ∧ (State.askRestart s a).isl = s.isl ∧
    (State.askRestart s a).sch = s.sch ∧ (State.askRestart s a).logic = s.logic ∧ (State.askRestart s a).cap = s.cap ∧
    (State.askRestart s a).pub = s.pub ∧ (State.askRestart s a).pair = s.pair ∧ (State.askRestart s a).otp = s.otp ∧
    (State.askRestart s a).vault = s.vault ∧ (State.askRestart s a).tap = s.tap ∧ (State.askRestart s a).ext = s.ext ∧
    (State.askRestart s a).served = s.served ∧ (State.askRestart s a).free = s.free ∧
    (State.askRestart s a).pending = s.pending := by
  simp [State.askRestart]

@[simp] theorem State.commitIfStill_frame (s : State) (k : Nat) :
    (State.commitIfStill s k).boot = s.boot ∧ (State.commitIfStill s k).img = s.img ∧
    (State.commitIfStill s k).flash = s.flash ∧ (State.commitIfStill s k).ctrsAt = s.ctrsAt ∧
    (State.commitIfStill s k).partnerLog = s.partnerLog ∧ (State.commitIfStill s k).bbx = s.bbx ∧
    (State.commitIfStill s k).sens = s.sens ∧ (State.commitIfStill s k).panel = s.panel ∧
    (State.commitIfStill s k).cages = s.cages ∧ (State.commitIfStill s k).tcp = s.tcp ∧
    (State.commitIfStill s k).streams = s.streams ∧ (State.commitIfStill s k).time = s.time ∧
    (State.commitIfStill s k).align = s.align ∧ (State.commitIfStill s k).swage = s.swage ∧
    (State.commitIfStill s k).osc = s.osc ∧ (State.commitIfStill s k).isl = s.isl ∧
    (State.commitIfStill s k).sch = s.sch ∧ (State.commitIfStill s k).logic = s.logic ∧
    (State.commitIfStill s k).cap = s.cap ∧ (State.commitIfStill s k).pub = s.pub ∧
    (State.commitIfStill s k).otp = s.otp ∧ (State.commitIfStill s k).emp = s.emp ∧
    (State.commitIfStill s k).tap = s.tap ∧ (State.commitIfStill s k).ext = s.ext ∧
    (State.commitIfStill s k).served = s.served ∧ (State.commitIfStill s k).free = s.free ∧
    (State.commitIfStill s k).pending = s.pending := by
  simp [State.commitIfStill]

@[simp] theorem State.emKeyLoad_frame (s : State) (q : EmpReq) :
    ((State.emKeyLoad s q).1).boot = s.boot ∧ ((State.emKeyLoad s q).1).img = s.img ∧
    ((State.emKeyLoad s q).1).flash = s.flash ∧ ((State.emKeyLoad s q).1).ctrsAt = s.ctrsAt ∧
    ((State.emKeyLoad s q).1).partnerLog = s.partnerLog ∧ ((State.emKeyLoad s q).1).bbx = s.bbx ∧
    ((State.emKeyLoad s q).1).sens = s.sens ∧ ((State.emKeyLoad s q).1).panel = s.panel ∧
    ((State.emKeyLoad s q).1).cages = s.cages ∧ ((State.emKeyLoad s q).1).tcp = s.tcp ∧
    ((State.emKeyLoad s q).1).streams = s.streams ∧ ((State.emKeyLoad s q).1).time = s.time ∧
    ((State.emKeyLoad s q).1).align = s.align ∧ ((State.emKeyLoad s q).1).swage = s.swage ∧
    ((State.emKeyLoad s q).1).osc = s.osc ∧ ((State.emKeyLoad s q).1).isl = s.isl ∧
    ((State.emKeyLoad s q).1).sch = s.sch ∧ ((State.emKeyLoad s q).1).logic = s.logic ∧
    ((State.emKeyLoad s q).1).cap = s.cap ∧ ((State.emKeyLoad s q).1).pub = s.pub ∧
    ((State.emKeyLoad s q).1).otp = s.otp ∧ ((State.emKeyLoad s q).1).emp = s.emp ∧
    ((State.emKeyLoad s q).1).tap = s.tap ∧ ((State.emKeyLoad s q).1).ext = s.ext ∧
    ((State.emKeyLoad s q).1).served = s.served ∧ ((State.emKeyLoad s q).1).pending = s.pending := by
  unfold State.emKeyLoad
  try dsimp only
  repeat' split
  all_goals simp

@[simp] theorem State.emOwner_frame (s : State) (q : EmpReq) (a : Auth) :
    ((State.emOwner s q a).1).boot = s.boot ∧ ((State.emOwner s q a).1).img = s.img ∧
    ((State.emOwner s q a).1).flash = s.flash ∧ ((State.emOwner s q a).1).ctrs = s.ctrs ∧
    ((State.emOwner s q a).1).ctrsAt = s.ctrsAt ∧ ((State.emOwner s q a).1).attn = s.attn ∧
    ((State.emOwner s q a).1).partnerLog = s.partnerLog ∧ ((State.emOwner s q a).1).bbx = s.bbx ∧
    ((State.emOwner s q a).1).sens = s.sens ∧ ((State.emOwner s q a).1).panel = s.panel ∧
    ((State.emOwner s q a).1).ports = s.ports ∧ ((State.emOwner s q a).1).cages = s.cages ∧
    ((State.emOwner s q a).1).tcp = s.tcp ∧ ((State.emOwner s q a).1).streams = s.streams ∧
    ((State.emOwner s q a).1).time = s.time ∧ ((State.emOwner s q a).1).align = s.align ∧
    ((State.emOwner s q a).1).swage = s.swage ∧ ((State.emOwner s q a).1).osc = s.osc ∧
    ((State.emOwner s q a).1).isl = s.isl ∧ ((State.emOwner s q a).1).sch = s.sch ∧
    ((State.emOwner s q a).1).logic = s.logic ∧ ((State.emOwner s q a).1).cap = s.cap ∧
    ((State.emOwner s q a).1).pub = s.pub ∧ ((State.emOwner s q a).1).pair = s.pair ∧
    ((State.emOwner s q a).1).vault = s.vault ∧ ((State.emOwner s q a).1).tap = s.tap ∧
    ((State.emOwner s q a).1).ext = s.ext ∧ ((State.emOwner s q a).1).served = s.served ∧
    ((State.emOwner s q a).1).free = s.free ∧ ((State.emOwner s q a).1).pending = s.pending := by
  unfold State.emOwner
  try dsimp only
  repeat' split
  all_goals simp

@[simp] theorem State.emPairEnrol_frame (s : State) (q : EmpReq) :
    ((State.emPairEnrol s q).1).boot = s.boot ∧ ((State.emPairEnrol s q).1).img = s.img ∧
    ((State.emPairEnrol s q).1).flash = s.flash ∧ ((State.emPairEnrol s q).1).ctrsAt = s.ctrsAt ∧
    ((State.emPairEnrol s q).1).partnerLog = s.partnerLog ∧ ((State.emPairEnrol s q).1).bbx = s.bbx ∧
    ((State.emPairEnrol s q).1).sens = s.sens ∧ ((State.emPairEnrol s q).1).panel = s.panel ∧
    ((State.emPairEnrol s q).1).cages = s.cages ∧ ((State.emPairEnrol s q).1).tcp = s.tcp ∧
    ((State.emPairEnrol s q).1).streams = s.streams ∧ ((State.emPairEnrol s q).1).time = s.time ∧
    ((State.emPairEnrol s q).1).align = s.align ∧ ((State.emPairEnrol s q).1).swage = s.swage ∧
    ((State.emPairEnrol s q).1).osc = s.osc ∧ ((State.emPairEnrol s q).1).isl = s.isl ∧
    ((State.emPairEnrol s q).1).sch = s.sch ∧ ((State.emPairEnrol s q).1).logic = s.logic ∧
    ((State.emPairEnrol s q).1).cap = s.cap ∧ ((State.emPairEnrol s q).1).pub = s.pub ∧
    ((State.emPairEnrol s q).1).otp = s.otp ∧ ((State.emPairEnrol s q).1).emp = s.emp ∧
    ((State.emPairEnrol s q).1).tap = s.tap ∧ ((State.emPairEnrol s q).1).ext = s.ext ∧
    ((State.emPairEnrol s q).1).served = s.served ∧ ((State.emPairEnrol s q).1).pending = s.pending := by
  unfold State.emPairEnrol
  try dsimp only
  repeat' split
  all_goals simp

@[simp] theorem State.emForce_frame (s : State) (op : Nat) (q : EmpReq) (a : Auth) (v : Option Word) :
    ((State.emForce s op q a v).1).boot = s.boot ∧ ((State.emForce s op q a v).1).img = s.img ∧
    ((State.emForce s op q a v).1).flash = s.flash ∧ ((State.emForce s op q a v).1).ctrs = s.ctrs ∧
    ((State.emForce s op q a v).1).ctrsAt = s.ctrsAt ∧ ((State.emForce s op q a v).1).attn = s.attn ∧
    ((State.emForce s op q a v).1).partnerLog = s.partnerLog ∧ ((State.emForce s op q a v).1).bbx = s.bbx ∧
    ((State.emForce s op q a v).1).sens = s.sens ∧ ((State.emForce s op q a v).1).panel = s.panel ∧
    ((State.emForce s op q a v).1).ports = s.ports ∧ ((State.emForce s op q a v).1).cages = s.cages ∧
    ((State.emForce s op q a v).1).tcp = s.tcp ∧ ((State.emForce s op q a v).1).streams = s.streams ∧
    ((State.emForce s op q a v).1).time = s.time ∧ ((State.emForce s op q a v).1).align = s.align ∧
    ((State.emForce s op q a v).1).swage = s.swage ∧ ((State.emForce s op q a v).1).osc = s.osc ∧
    ((State.emForce s op q a v).1).isl = s.isl ∧ ((State.emForce s op q a v).1).sch = s.sch ∧
    ((State.emForce s op q a v).1).logic = s.logic ∧ ((State.emForce s op q a v).1).cap = s.cap ∧
    ((State.emForce s op q a v).1).pub = s.pub ∧ ((State.emForce s op q a v).1).pair = s.pair ∧
    ((State.emForce s op q a v).1).otp = s.otp ∧ ((State.emForce s op q a v).1).vault = s.vault ∧
    ((State.emForce s op q a v).1).tap = s.tap ∧ ((State.emForce s op q a v).1).ext = s.ext ∧
    ((State.emForce s op q a v).1).served = s.served ∧ ((State.emForce s op q a v).1).free = s.free ∧
    ((State.emForce s op q a v).1).pending = s.pending := by
  unfold State.emForce
  try dsimp only
  repeat' split
  all_goals simp

@[simp] theorem State.emReplay_frame (s : State) (q : EmpReq) (a : Auth) :
    ((State.emReplay s q a).1).boot = s.boot ∧ ((State.emReplay s q a).1).img = s.img ∧
    ((State.emReplay s q a).1).flash = s.flash ∧ ((State.emReplay s q a).1).ctrs = s.ctrs ∧
    ((State.emReplay s q a).1).ctrsAt = s.ctrsAt ∧ ((State.emReplay s q a).1).attn = s.attn ∧
    ((State.emReplay s q a).1).partnerLog = s.partnerLog ∧ ((State.emReplay s q a).1).bbx = s.bbx ∧
    ((State.emReplay s q a).1).sens = s.sens ∧ ((State.emReplay s q a).1).panel = s.panel ∧
    ((State.emReplay s q a).1).ports = s.ports ∧ ((State.emReplay s q a).1).cages = s.cages ∧
    ((State.emReplay s q a).1).tcp = s.tcp ∧ ((State.emReplay s q a).1).streams = s.streams ∧
    ((State.emReplay s q a).1).time = s.time ∧ ((State.emReplay s q a).1).align = s.align ∧
    ((State.emReplay s q a).1).swage = s.swage ∧ ((State.emReplay s q a).1).osc = s.osc ∧
    ((State.emReplay s q a).1).isl = s.isl ∧ ((State.emReplay s q a).1).sch = s.sch ∧
    ((State.emReplay s q a).1).logic = s.logic ∧ ((State.emReplay s q a).1).cap = s.cap ∧
    ((State.emReplay s q a).1).pub = s.pub ∧ ((State.emReplay s q a).1).pair = s.pair ∧
    ((State.emReplay s q a).1).otp = s.otp ∧ ((State.emReplay s q a).1).vault = s.vault ∧
    ((State.emReplay s q a).1).tap = s.tap ∧ ((State.emReplay s q a).1).ext = s.ext ∧
    ((State.emReplay s q a).1).served = s.served ∧ ((State.emReplay s q a).1).free = s.free ∧
    ((State.emReplay s q a).1).pending = s.pending := by
  unfold State.emReplay
  try dsimp only
  repeat' split
  all_goals simp

@[simp] theorem State.emUnit_frame (s : State) (k : BReqKind) (op : Nat) (q : EmpReq) (a : Auth) (exists_ : Bool) :
    ((State.emUnit s k op q a exists_).1).boot = s.boot ∧ ((State.emUnit s k op q a exists_).1).img = s.img ∧
    ((State.emUnit s k op q a exists_).1).flash = s.flash ∧ ((State.emUnit s k op q a exists_).1).ctrs = s.ctrs ∧
    ((State.emUnit s k op q a exists_).1).ctrsAt = s.ctrsAt ∧ ((State.emUnit s k op q a exists_).1).attn = s.attn ∧
    ((State.emUnit s k op q a exists_).1).partnerLog = s.partnerLog ∧ ((State.emUnit s k op q a exists_).1).bbx = s.bbx ∧
    ((State.emUnit s k op q a exists_).1).sens = s.sens ∧ ((State.emUnit s k op q a exists_).1).panel = s.panel ∧
    ((State.emUnit s k op q a exists_).1).ports = s.ports ∧ ((State.emUnit s k op q a exists_).1).cages = s.cages ∧
    ((State.emUnit s k op q a exists_).1).tcp = s.tcp ∧ ((State.emUnit s k op q a exists_).1).streams = s.streams ∧
    ((State.emUnit s k op q a exists_).1).time = s.time ∧ ((State.emUnit s k op q a exists_).1).align = s.align ∧
    ((State.emUnit s k op q a exists_).1).swage = s.swage ∧ ((State.emUnit s k op q a exists_).1).osc = s.osc ∧
    ((State.emUnit s k op q a exists_).1).isl = s.isl ∧ ((State.emUnit s k op q a exists_).1).sch = s.sch ∧
    ((State.emUnit s k op q a exists_).1).logic = s.logic ∧ ((State.emUnit s k op q a exists_).1).cap = s.cap ∧
    ((State.emUnit s k op q a exists_).1).pub = s.pub ∧ ((State.emUnit s k op q a exists_).1).pair = s.pair ∧
    ((State.emUnit s k op q a exists_).1).otp = s.otp ∧ ((State.emUnit s k op q a exists_).1).vault = s.vault ∧
    ((State.emUnit s k op q a exists_).1).tap = s.tap ∧ ((State.emUnit s k op q a exists_).1).ext = s.ext ∧
    ((State.emUnit s k op q a exists_).1).served = s.served ∧ ((State.emUnit s k op q a exists_).1).free = s.free ∧
    ((State.emUnit s k op q a exists_).1).pending = s.pending := by
  unfold State.emUnit
  split <;> simp

@[simp] theorem State.emHandover_frame (s : State) (q : EmpReq) (a : Auth) :
    ((State.emHandover s q a).1).boot = s.boot ∧ ((State.emHandover s q a).1).img = s.img ∧
    ((State.emHandover s q a).1).flash = s.flash ∧ ((State.emHandover s q a).1).ctrsAt = s.ctrsAt ∧
    ((State.emHandover s q a).1).attn = s.attn ∧ ((State.emHandover s q a).1).partnerLog = s.partnerLog ∧
    ((State.emHandover s q a).1).bbx = s.bbx ∧ ((State.emHandover s q a).1).sens = s.sens ∧
    ((State.emHandover s q a).1).panel = s.panel ∧ ((State.emHandover s q a).1).cages = s.cages ∧
    ((State.emHandover s q a).1).tcp = s.tcp ∧ ((State.emHandover s q a).1).streams = s.streams ∧
    ((State.emHandover s q a).1).time = s.time ∧ ((State.emHandover s q a).1).align = s.align ∧
    ((State.emHandover s q a).1).swage = s.swage ∧ ((State.emHandover s q a).1).osc = s.osc ∧
    ((State.emHandover s q a).1).isl = s.isl ∧ ((State.emHandover s q a).1).sch = s.sch ∧
    ((State.emHandover s q a).1).logic = s.logic ∧ ((State.emHandover s q a).1).cap = s.cap ∧
    ((State.emHandover s q a).1).pub = s.pub ∧ ((State.emHandover s q a).1).otp = s.otp ∧
    ((State.emHandover s q a).1).vault = s.vault ∧ ((State.emHandover s q a).1).tap = s.tap ∧
    ((State.emHandover s q a).1).ext = s.ext ∧ ((State.emHandover s q a).1).served = s.served ∧
    ((State.emHandover s q a).1).free = s.free ∧ ((State.emHandover s q a).1).pending = s.pending := by
  unfold State.emHandover
  split <;> simp

end Sys2Proof.Machine
end

