-- ==== Sys2Proof/Laws/FrameStage.lean ====
section
/-! SUPPORT. What each operation of Machine/Stage.lean leaves unchanged: one frame lemma per operation. -/

namespace Sys2Proof.Machine

@[simp] theorem State.refuseStage_frame (s : State) (r : Nat × Bytes) :
    ((State.refuseStage s r).1).boot = s.boot ∧ ((State.refuseStage s r).1).img = s.img ∧
    ((State.refuseStage s r).1).flash = s.flash ∧ ((State.refuseStage s r).1).ctrsAt = s.ctrsAt ∧
    ((State.refuseStage s r).1).attn = s.attn ∧ ((State.refuseStage s r).1).partnerLog = s.partnerLog ∧
    ((State.refuseStage s r).1).bbx = s.bbx ∧ ((State.refuseStage s r).1).sens = s.sens ∧
    ((State.refuseStage s r).1).panel = s.panel ∧ ((State.refuseStage s r).1).ports = s.ports ∧
    ((State.refuseStage s r).1).cages = s.cages ∧ ((State.refuseStage s r).1).tcp = s.tcp ∧
    ((State.refuseStage s r).1).streams = s.streams ∧ ((State.refuseStage s r).1).time = s.time ∧
    ((State.refuseStage s r).1).align = s.align ∧ ((State.refuseStage s r).1).swage = s.swage ∧
    ((State.refuseStage s r).1).osc = s.osc ∧ ((State.refuseStage s r).1).isl = s.isl ∧
    ((State.refuseStage s r).1).sch = s.sch ∧ ((State.refuseStage s r).1).logic = s.logic ∧
    ((State.refuseStage s r).1).cap = s.cap ∧ ((State.refuseStage s r).1).pub = s.pub ∧
    ((State.refuseStage s r).1).pair = s.pair ∧ ((State.refuseStage s r).1).otp = s.otp ∧
    ((State.refuseStage s r).1).vault = s.vault ∧ ((State.refuseStage s r).1).emp = s.emp ∧
    ((State.refuseStage s r).1).tap = s.tap ∧ ((State.refuseStage s r).1).ext = s.ext ∧
    ((State.refuseStage s r).1).served = s.served ∧ ((State.refuseStage s r).1).free = s.free ∧
    ((State.refuseStage s r).1).pending = s.pending := by
  simp [State.refuseStage]

@[simp] theorem State.stageBegin_frame (s : State) (q : EmpReq) :
    ((State.stageBegin s q).1).boot = s.boot ∧ ((State.stageBegin s q).1).img = s.img ∧
    ((State.stageBegin s q).1).ctrsAt = s.ctrsAt ∧ ((State.stageBegin s q).1).attn = s.attn ∧
    ((State.stageBegin s q).1).partnerLog = s.partnerLog ∧ ((State.stageBegin s q).1).bbx = s.bbx ∧
    ((State.stageBegin s q).1).sens = s.sens ∧ ((State.stageBegin s q).1).panel = s.panel ∧
    ((State.stageBegin s q).1).ports = s.ports ∧ ((State.stageBegin s q).1).cages = s.cages ∧
    ((State.stageBegin s q).1).tcp = s.tcp ∧ ((State.stageBegin s q).1).streams = s.streams ∧
    ((State.stageBegin s q).1).time = s.time ∧ ((State.stageBegin s q).1).align = s.align ∧
    ((State.stageBegin s q).1).swage = s.swage ∧ ((State.stageBegin s q).1).osc = s.osc ∧
    ((State.stageBegin s q).1).isl = s.isl ∧ ((State.stageBegin s q).1).sch = s.sch ∧
    ((State.stageBegin s q).1).logic = s.logic ∧ ((State.stageBegin s q).1).cap = s.cap ∧
    ((State.stageBegin s q).1).pub = s.pub ∧ ((State.stageBegin s q).1).pair = s.pair ∧
    ((State.stageBegin s q).1).otp = s.otp ∧ ((State.stageBegin s q).1).vault = s.vault ∧
    ((State.stageBegin s q).1).tap = s.tap ∧ ((State.stageBegin s q).1).ext = s.ext ∧
    ((State.stageBegin s q).1).served = s.served ∧ ((State.stageBegin s q).1).free = s.free ∧
    ((State.stageBegin s q).1).pending = s.pending := by
  unfold State.stageBegin
  try dsimp only
  repeat' split
  all_goals simp

@[simp] theorem State.stageData_frame (s : State) (q : EmpReq) :
    ((State.stageData s q).1).boot = s.boot ∧ ((State.stageData s q).1).img = s.img ∧
    ((State.stageData s q).1).ctrsAt = s.ctrsAt ∧ ((State.stageData s q).1).attn = s.attn ∧
    ((State.stageData s q).1).partnerLog = s.partnerLog ∧ ((State.stageData s q).1).bbx = s.bbx ∧
    ((State.stageData s q).1).sens = s.sens ∧ ((State.stageData s q).1).panel = s.panel ∧
    ((State.stageData s q).1).ports = s.ports ∧ ((State.stageData s q).1).cages = s.cages ∧
    ((State.stageData s q).1).tcp = s.tcp ∧ ((State.stageData s q).1).streams = s.streams ∧
    ((State.stageData s q).1).time = s.time ∧ ((State.stageData s q).1).align = s.align ∧
    ((State.stageData s q).1).swage = s.swage ∧ ((State.stageData s q).1).osc = s.osc ∧
    ((State.stageData s q).1).isl = s.isl ∧ ((State.stageData s q).1).sch = s.sch ∧
    ((State.stageData s q).1).logic = s.logic ∧ ((State.stageData s q).1).cap = s.cap ∧
    ((State.stageData s q).1).pub = s.pub ∧ ((State.stageData s q).1).pair = s.pair ∧
    ((State.stageData s q).1).otp = s.otp ∧ ((State.stageData s q).1).vault = s.vault ∧
    ((State.stageData s q).1).tap = s.tap ∧ ((State.stageData s q).1).ext = s.ext ∧
    ((State.stageData s q).1).served = s.served ∧ ((State.stageData s q).1).free = s.free ∧
    ((State.stageData s q).1).pending = s.pending := by
  unfold State.stageData
  try dsimp only
  repeat' split
  all_goals simp

@[simp] theorem State.stageEnd_frame (s : State) (q : EmpReq) :
    ((State.stageEnd s q).1).boot = s.boot ∧ ((State.stageEnd s q).1).img = s.img ∧
    ((State.stageEnd s q).1).flash = s.flash ∧ ((State.stageEnd s q).1).ctrsAt = s.ctrsAt ∧
    ((State.stageEnd s q).1).attn = s.attn ∧ ((State.stageEnd s q).1).partnerLog = s.partnerLog ∧
    ((State.stageEnd s q).1).bbx = s.bbx ∧ ((State.stageEnd s q).1).sens = s.sens ∧
    ((State.stageEnd s q).1).panel = s.panel ∧ ((State.stageEnd s q).1).ports = s.ports ∧
    ((State.stageEnd s q).1).cages = s.cages ∧ ((State.stageEnd s q).1).tcp = s.tcp ∧
    ((State.stageEnd s q).1).streams = s.streams ∧ ((State.stageEnd s q).1).time = s.time ∧
    ((State.stageEnd s q).1).align = s.align ∧ ((State.stageEnd s q).1).swage = s.swage ∧
    ((State.stageEnd s q).1).osc = s.osc ∧ ((State.stageEnd s q).1).isl = s.isl ∧ ((State.stageEnd s q).1).sch = s.sch ∧
    ((State.stageEnd s q).1).logic = s.logic ∧ ((State.stageEnd s q).1).cap = s.cap ∧
    ((State.stageEnd s q).1).pub = s.pub ∧ ((State.stageEnd s q).1).pair = s.pair ∧
    ((State.stageEnd s q).1).otp = s.otp ∧ ((State.stageEnd s q).1).vault = s.vault ∧
    ((State.stageEnd s q).1).tap = s.tap ∧ ((State.stageEnd s q).1).ext = s.ext ∧
    ((State.stageEnd s q).1).served = s.served ∧ ((State.stageEnd s q).1).free = s.free ∧
    ((State.stageEnd s q).1).pending = s.pending := by
  unfold State.stageEnd
  try dsimp only
  repeat' split
  all_goals simp

@[simp] theorem State.stageFailed_frame (s : State) (code detail lvl : Nat) :
    (State.stageFailed s code detail lvl).boot = s.boot ∧ (State.stageFailed s code detail lvl).img = s.img ∧
    (State.stageFailed s code detail lvl).flash = s.flash ∧ (State.stageFailed s code detail lvl).ctrsAt = s.ctrsAt ∧
    (State.stageFailed s code detail lvl).partnerLog = s.partnerLog ∧ (State.stageFailed s code detail lvl).bbx = s.bbx ∧
    (State.stageFailed s code detail lvl).sens = s.sens ∧ (State.stageFailed s code detail lvl).panel = s.panel ∧
    (State.stageFailed s code detail lvl).cages = s.cages ∧ (State.stageFailed s code detail lvl).tcp = s.tcp ∧
    (State.stageFailed s code detail lvl).streams = s.streams ∧ (State.stageFailed s code detail lvl).time = s.time ∧
    (State.stageFailed s code detail lvl).align = s.align ∧ (State.stageFailed s code detail lvl).swage = s.swage ∧
    (State.stageFailed s code detail lvl).osc = s.osc ∧ (State.stageFailed s code detail lvl).isl = s.isl ∧
    (State.stageFailed s code detail lvl).sch = s.sch ∧ (State.stageFailed s code detail lvl).logic = s.logic ∧
    (State.stageFailed s code detail lvl).cap = s.cap ∧ (State.stageFailed s code detail lvl).pub = s.pub ∧
    (State.stageFailed s code detail lvl).otp = s.otp ∧ (State.stageFailed s code detail lvl).vault = s.vault ∧
    (State.stageFailed s code detail lvl).tap = s.tap ∧ (State.stageFailed s code detail lvl).ext = s.ext ∧
    (State.stageFailed s code detail lvl).served = s.served ∧ (State.stageFailed s code detail lvl).free = s.free ∧
    (State.stageFailed s code detail lvl).pending = s.pending := by
  simp [State.stageFailed]

@[simp] theorem State.withSector_frame (s : State) :
    (State.withSector s).boot = s.boot ∧ (State.withSector s).img = s.img ∧ (State.withSector s).ctrs = s.ctrs ∧
    (State.withSector s).ctrsAt = s.ctrsAt ∧ (State.withSector s).attn = s.attn ∧
    (State.withSector s).partnerLog = s.partnerLog ∧ (State.withSector s).bbx = s.bbx ∧
    (State.withSector s).sens = s.sens ∧ (State.withSector s).panel = s.panel ∧ (State.withSector s).ports = s.ports ∧
    (State.withSector s).cages = s.cages ∧ (State.withSector s).tcp = s.tcp ∧ (State.withSector s).streams = s.streams ∧
    (State.withSector s).time = s.time ∧ (State.withSector s).align = s.align ∧ (State.withSector s).swage = s.swage ∧
    (State.withSector s).osc = s.osc ∧ (State.withSector s).isl = s.isl ∧ (State.withSector s).sch = s.sch ∧
    (State.withSector s).logic = s.logic ∧ (State.withSector s).cap = s.cap ∧ (State.withSector s).pub = s.pub ∧
    (State.withSector s).pair = s.pair ∧ (State.withSector s).otp = s.otp ∧ (State.withSector s).vault = s.vault ∧
    (State.withSector s).emp = s.emp ∧ (State.withSector s).tap = s.tap ∧ (State.withSector s).ext = s.ext ∧
    (State.withSector s).served = s.served ∧ (State.withSector s).free = s.free ∧ (State.withSector s).pending = s.pending := by
  simp [State.withSector]

@[simp] theorem State.activate_frame (s : State) (a : Auth) :
    ((State.activate s a).1).boot = s.boot ∧ ((State.activate s a).1).img = s.img ∧
    ((State.activate s a).1).ctrsAt = s.ctrsAt ∧ ((State.activate s a).1).attn = s.attn ∧
    ((State.activate s a).1).partnerLog = s.partnerLog ∧ ((State.activate s a).1).bbx = s.bbx ∧
    ((State.activate s a).1).sens = s.sens ∧ ((State.activate s a).1).panel = s.panel ∧
    ((State.activate s a).1).ports = s.ports ∧ ((State.activate s a).1).cages = s.cages ∧
    ((State.activate s a).1).tcp = s.tcp ∧ ((State.activate s a).1).streams = s.streams ∧
    ((State.activate s a).1).time = s.time ∧ ((State.activate s a).1).align = s.align ∧
    ((State.activate s a).1).swage = s.swage ∧ ((State.activate s a).1).osc = s.osc ∧
    ((State.activate s a).1).isl = s.isl ∧ ((State.activate s a).1).sch = s.sch ∧
    ((State.activate s a).1).logic = s.logic ∧ ((State.activate s a).1).cap = s.cap ∧
    ((State.activate s a).1).pub = s.pub ∧ ((State.activate s a).1).pair = s.pair ∧
    ((State.activate s a).1).otp = s.otp ∧ ((State.activate s a).1).vault = s.vault ∧
    ((State.activate s a).1).tap = s.tap ∧ ((State.activate s a).1).ext = s.ext ∧
    ((State.activate s a).1).served = s.served ∧ ((State.activate s a).1).free = s.free ∧
    ((State.activate s a).1).pending = s.pending := by
  unfold State.activate
  split <;> simp

end Sys2Proof.Machine
end

