-- ==== Sys2Proof/Laws/FrameModes.lean ====
section
/-! SUPPORT. What each operation of Machine/Modes.lean leaves unchanged: one frame lemma per operation. -/

namespace Sys2Proof.Machine

@[simp] theorem State.discardState_frame (s : State) :
    (State.discardState s).img = s.img ∧ (State.discardState s).flash = s.flash ∧
    (State.discardState s).ctrsAt = s.ctrsAt ∧ (State.discardState s).partnerLog = s.partnerLog ∧
    (State.discardState s).bbx = s.bbx ∧ (State.discardState s).sens = s.sens ∧ (State.discardState s).panel = s.panel ∧
    (State.discardState s).cages = s.cages ∧ (State.discardState s).tcp = s.tcp ∧ (State.discardState s).time = s.time ∧
    (State.discardState s).otp = s.otp ∧ (State.discardState s).vault = s.vault ∧ (State.discardState s).emp = s.emp ∧
    (State.discardState s).tap = s.tap ∧ (State.discardState s).ext = s.ext ∧ (State.discardState s).served = s.served ∧
    (State.discardState s).free = s.free ∧ (State.discardState s).pending = s.pending := by
  simp [State.discardState]

@[simp] theorem State.initialFrames_frame (s : State) :
    (State.initialFrames s).boot = s.boot ∧ (State.initialFrames s).img = s.img ∧
    (State.initialFrames s).flash = s.flash ∧ (State.initialFrames s).ctrsAt = s.ctrsAt ∧
    (State.initialFrames s).partnerLog = s.partnerLog ∧ (State.initialFrames s).bbx = s.bbx ∧
    (State.initialFrames s).sens = s.sens ∧ (State.initialFrames s).panel = s.panel ∧
    (State.initialFrames s).cages = s.cages ∧ (State.initialFrames s).tcp = s.tcp ∧
    (State.initialFrames s).time = s.time ∧ (State.initialFrames s).align = s.align ∧
    (State.initialFrames s).swage = s.swage ∧ (State.initialFrames s).osc = s.osc ∧ (State.initialFrames s).isl = s.isl ∧
    (State.initialFrames s).sch = s.sch ∧ (State.initialFrames s).logic = s.logic ∧ (State.initialFrames s).cap = s.cap ∧
    (State.initialFrames s).otp = s.otp ∧ (State.initialFrames s).emp = s.emp ∧ (State.initialFrames s).tap = s.tap ∧
    (State.initialFrames s).ext = s.ext ∧ (State.initialFrames s).served = s.served ∧
    (State.initialFrames s).free = s.free ∧ (State.initialFrames s).pending = s.pending := by
  simp [State.initialFrames]

@[simp] theorem State.warmupBegins_frame (s : State) :
    (State.warmupBegins s).img = s.img ∧ (State.warmupBegins s).flash = s.flash ∧
    (State.warmupBegins s).ctrsAt = s.ctrsAt ∧ (State.warmupBegins s).partnerLog = s.partnerLog ∧
    (State.warmupBegins s).bbx = s.bbx ∧ (State.warmupBegins s).sens = s.sens ∧ (State.warmupBegins s).panel = s.panel ∧
    (State.warmupBegins s).cages = s.cages ∧ (State.warmupBegins s).tcp = s.tcp ∧ (State.warmupBegins s).time = s.time ∧
    (State.warmupBegins s).align = s.align ∧ (State.warmupBegins s).swage = s.swage ∧
    (State.warmupBegins s).osc = s.osc ∧ (State.warmupBegins s).isl = s.isl ∧ (State.warmupBegins s).sch = s.sch ∧
    (State.warmupBegins s).logic = s.logic ∧ (State.warmupBegins s).cap = s.cap ∧ (State.warmupBegins s).otp = s.otp ∧
    (State.warmupBegins s).emp = s.emp ∧ (State.warmupBegins s).tap = s.tap ∧ (State.warmupBegins s).ext = s.ext ∧
    (State.warmupBegins s).served = s.served ∧ (State.warmupBegins s).free = s.free ∧
    (State.warmupBegins s).pending = s.pending := by
  simp [State.warmupBegins]

@[simp] theorem State.modeEntered_frame (s : State) :
    (State.modeEntered s).boot = s.boot ∧ (State.modeEntered s).img = s.img ∧ (State.modeEntered s).flash = s.flash ∧
    (State.modeEntered s).ctrsAt = s.ctrsAt ∧ (State.modeEntered s).attn = s.attn ∧
    (State.modeEntered s).partnerLog = s.partnerLog ∧ (State.modeEntered s).bbx = s.bbx ∧
    (State.modeEntered s).sens = s.sens ∧ (State.modeEntered s).panel = s.panel ∧ (State.modeEntered s).cages = s.cages ∧
    (State.modeEntered s).tcp = s.tcp ∧ (State.modeEntered s).streams = s.streams ∧ (State.modeEntered s).time = s.time ∧
    (State.modeEntered s).align = s.align ∧ (State.modeEntered s).osc = s.osc ∧ (State.modeEntered s).isl = s.isl ∧
    (State.modeEntered s).sch = s.sch ∧ (State.modeEntered s).cap = s.cap ∧ (State.modeEntered s).pub = s.pub ∧
    (State.modeEntered s).pair = s.pair ∧ (State.modeEntered s).otp = s.otp ∧ (State.modeEntered s).vault = s.vault ∧
    (State.modeEntered s).emp = s.emp ∧ (State.modeEntered s).tap = s.tap ∧ (State.modeEntered s).ext = s.ext ∧
    (State.modeEntered s).served = s.served ∧ (State.modeEntered s).free = s.free ∧
    (State.modeEntered s).pending = s.pending := by
  simp [State.modeEntered]

@[simp] theorem State.leaveNow_frame (s : State) (b : Ns) :
    (State.leaveNow s b).boot = s.boot ∧ (State.leaveNow s b).img = s.img ∧ (State.leaveNow s b).flash = s.flash ∧
    (State.leaveNow s b).ctrsAt = s.ctrsAt ∧ (State.leaveNow s b).attn = s.attn ∧
    (State.leaveNow s b).partnerLog = s.partnerLog ∧ (State.leaveNow s b).bbx = s.bbx ∧
    (State.leaveNow s b).sens = s.sens ∧ (State.leaveNow s b).panel = s.panel ∧ (State.leaveNow s b).cages = s.cages ∧
    (State.leaveNow s b).tcp = s.tcp ∧ (State.leaveNow s b).streams = s.streams ∧ (State.leaveNow s b).time = s.time ∧
    (State.leaveNow s b).align = s.align ∧ (State.leaveNow s b).swage = s.swage ∧ (State.leaveNow s b).osc = s.osc ∧
    (State.leaveNow s b).isl = s.isl ∧ (State.leaveNow s b).sch = s.sch ∧ (State.leaveNow s b).logic = s.logic ∧
    (State.leaveNow s b).cap = s.cap ∧ (State.leaveNow s b).pub = s.pub ∧ (State.leaveNow s b).otp = s.otp ∧
    (State.leaveNow s b).vault = s.vault ∧ (State.leaveNow s b).emp = s.emp ∧ (State.leaveNow s b).tap = s.tap ∧
    (State.leaveNow s b).ext = s.ext ∧ (State.leaveNow s b).served = s.served ∧ (State.leaveNow s b).free = s.free ∧
    (State.leaveNow s b).pending = s.pending := by
  simp [State.leaveNow]

@[simp] theorem State.applyDoForce_frame (s : State) (d : Nat) (v : Bool) :
    (State.applyDoForce s d v).boot = s.boot ∧ (State.applyDoForce s d v).img = s.img ∧
    (State.applyDoForce s d v).flash = s.flash ∧ (State.applyDoForce s d v).ctrsAt = s.ctrsAt ∧
    (State.applyDoForce s d v).attn = s.attn ∧ (State.applyDoForce s d v).partnerLog = s.partnerLog ∧
    (State.applyDoForce s d v).bbx = s.bbx ∧ (State.applyDoForce s d v).sens = s.sens ∧
    (State.applyDoForce s d v).panel = s.panel ∧ (State.applyDoForce s d v).ports = s.ports ∧
    (State.applyDoForce s d v).cages = s.cages ∧ (State.applyDoForce s d v).tcp = s.tcp ∧
    (State.applyDoForce s d v).streams = s.streams ∧ (State.applyDoForce s d v).time = s.time ∧
    (State.applyDoForce s d v).align = s.align ∧ (State.applyDoForce s d v).swage = s.swage ∧
    (State.applyDoForce s d v).osc = s.osc ∧ (State.applyDoForce s d v).isl = s.isl ∧
    (State.applyDoForce s d v).sch = s.sch ∧ (State.applyDoForce s d v).cap = s.cap ∧
    (State.applyDoForce s d v).pub = s.pub ∧ (State.applyDoForce s d v).pair = s.pair ∧
    (State.applyDoForce s d v).otp = s.otp ∧ (State.applyDoForce s d v).vault = s.vault ∧
    (State.applyDoForce s d v).emp = s.emp ∧ (State.applyDoForce s d v).tap = s.tap ∧
    (State.applyDoForce s d v).ext = s.ext ∧ (State.applyDoForce s d v).served = s.served ∧
    (State.applyDoForce s d v).free = s.free ∧ (State.applyDoForce s d v).pending = s.pending := by
  simp [State.applyDoForce]

@[simp] theorem State.endDoForce_frame (s : State) (d : Nat) :
    (State.endDoForce s d).boot = s.boot ∧ (State.endDoForce s d).img = s.img ∧ (State.endDoForce s d).flash = s.flash ∧
    (State.endDoForce s d).ctrs = s.ctrs ∧ (State.endDoForce s d).ctrsAt = s.ctrsAt ∧
    (State.endDoForce s d).attn = s.attn ∧ (State.endDoForce s d).partnerLog = s.partnerLog ∧
    (State.endDoForce s d).bbx = s.bbx ∧ (State.endDoForce s d).sens = s.sens ∧ (State.endDoForce s d).panel = s.panel ∧
    (State.endDoForce s d).ports = s.ports ∧ (State.endDoForce s d).cages = s.cages ∧
    (State.endDoForce s d).tcp = s.tcp ∧ (State.endDoForce s d).streams = s.streams ∧
    (State.endDoForce s d).time = s.time ∧ (State.endDoForce s d).align = s.align ∧
    (State.endDoForce s d).swage = s.swage ∧ (State.endDoForce s d).osc = s.osc ∧ (State.endDoForce s d).isl = s.isl ∧
    (State.endDoForce s d).sch = s.sch ∧ (State.endDoForce s d).cap = s.cap ∧ (State.endDoForce s d).pub = s.pub ∧
    (State.endDoForce s d).pair = s.pair ∧ (State.endDoForce s d).otp = s.otp ∧ (State.endDoForce s d).vault = s.vault ∧
    (State.endDoForce s d).emp = s.emp ∧ (State.endDoForce s d).tap = s.tap ∧ (State.endDoForce s d).ext = s.ext ∧
    (State.endDoForce s d).served = s.served ∧ (State.endDoForce s d).free = s.free ∧
    (State.endDoForce s d).pending = s.pending := by
  simp [State.endDoForce]

@[simp] theorem State.releaseDoForce_frame (s : State) (d : Nat) :
    (State.releaseDoForce s d).boot = s.boot ∧ (State.releaseDoForce s d).img = s.img ∧
    (State.releaseDoForce s d).flash = s.flash ∧ (State.releaseDoForce s d).ctrsAt = s.ctrsAt ∧
    (State.releaseDoForce s d).attn = s.attn ∧ (State.releaseDoForce s d).partnerLog = s.partnerLog ∧
    (State.releaseDoForce s d).bbx = s.bbx ∧ (State.releaseDoForce s d).sens = s.sens ∧
    (State.releaseDoForce s d).panel = s.panel ∧ (State.releaseDoForce s d).ports = s.ports ∧
    (State.releaseDoForce s d).cages = s.cages ∧ (State.releaseDoForce s d).tcp = s.tcp ∧
    (State.releaseDoForce s d).streams = s.streams ∧ (State.releaseDoForce s d).time = s.time ∧
    (State.releaseDoForce s d).align = s.align ∧ (State.releaseDoForce s d).swage = s.swage ∧
    (State.releaseDoForce s d).osc = s.osc ∧ (State.releaseDoForce s d).isl = s.isl ∧
    (State.releaseDoForce s d).sch = s.sch ∧ (State.releaseDoForce s d).cap = s.cap ∧
    (State.releaseDoForce s d).pub = s.pub ∧ (State.releaseDoForce s d).pair = s.pair ∧
    (State.releaseDoForce s d).otp = s.otp ∧ (State.releaseDoForce s d).vault = s.vault ∧
    (State.releaseDoForce s d).emp = s.emp ∧ (State.releaseDoForce s d).tap = s.tap ∧
    (State.releaseDoForce s d).ext = s.ext ∧ (State.releaseDoForce s d).served = s.served ∧
    (State.releaseDoForce s d).free = s.free ∧ (State.releaseDoForce s d).pending = s.pending := by
  simp [State.releaseDoForce]

@[simp] theorem State.releaseForces_frame (s : State) (records : Bool) :
    (State.releaseForces s records).boot = s.boot ∧ (State.releaseForces s records).img = s.img ∧
    (State.releaseForces s records).flash = s.flash ∧ (State.releaseForces s records).ctrsAt = s.ctrsAt ∧
    (State.releaseForces s records).partnerLog = s.partnerLog ∧ (State.releaseForces s records).panel = s.panel ∧
    (State.releaseForces s records).cages = s.cages ∧ (State.releaseForces s records).tcp = s.tcp ∧
    (State.releaseForces s records).streams = s.streams ∧ (State.releaseForces s records).time = s.time ∧
    (State.releaseForces s records).align = s.align ∧ (State.releaseForces s records).swage = s.swage ∧
    (State.releaseForces s records).osc = s.osc ∧ (State.releaseForces s records).isl = s.isl ∧
    (State.releaseForces s records).sch = s.sch ∧ (State.releaseForces s records).cap = s.cap ∧
    (State.releaseForces s records).pub = s.pub ∧ (State.releaseForces s records).otp = s.otp ∧
    (State.releaseForces s records).vault = s.vault ∧ (State.releaseForces s records).emp = s.emp ∧
    (State.releaseForces s records).tap = s.tap ∧ (State.releaseForces s records).ext = s.ext ∧
    (State.releaseForces s records).served = s.served ∧ (State.releaseForces s records).free = s.free ∧
    (State.releaseForces s records).pending = s.pending := by
  simp [State.releaseForces]

@[simp] theorem State.enterHalt_frame (s : State) (b : Ns) :
    (State.enterHalt s b).img = s.img ∧ (State.enterHalt s b).flash = s.flash ∧ (State.enterHalt s b).ctrsAt = s.ctrsAt ∧
    (State.enterHalt s b).partnerLog = s.partnerLog ∧ (State.enterHalt s b).panel = s.panel ∧
    (State.enterHalt s b).cages = s.cages ∧ (State.enterHalt s b).tcp = s.tcp ∧
    (State.enterHalt s b).streams = s.streams ∧ (State.enterHalt s b).time = s.time ∧
    (State.enterHalt s b).align = s.align ∧ (State.enterHalt s b).osc = s.osc ∧ (State.enterHalt s b).isl = s.isl ∧
    (State.enterHalt s b).logic = s.logic ∧ (State.enterHalt s b).cap = s.cap ∧ (State.enterHalt s b).pub = s.pub ∧
    (State.enterHalt s b).otp = s.otp ∧ (State.enterHalt s b).vault = s.vault ∧ (State.enterHalt s b).emp = s.emp ∧
    (State.enterHalt s b).tap = s.tap ∧ (State.enterHalt s b).ext = s.ext ∧ (State.enterHalt s b).served = s.served ∧
    (State.enterHalt s b).free = s.free ∧ (State.enterHalt s b).pending = s.pending := by
  simp [State.enterHalt]

@[simp] theorem State.enterTamperhold_frame (s : State) (b : Ns) :
    (State.enterTamperhold s b).img = s.img ∧ (State.enterTamperhold s b).flash = s.flash ∧
    (State.enterTamperhold s b).ctrsAt = s.ctrsAt ∧ (State.enterTamperhold s b).partnerLog = s.partnerLog ∧
    (State.enterTamperhold s b).panel = s.panel ∧ (State.enterTamperhold s b).cages = s.cages ∧
    (State.enterTamperhold s b).tcp = s.tcp ∧ (State.enterTamperhold s b).streams = s.streams ∧
    (State.enterTamperhold s b).time = s.time ∧ (State.enterTamperhold s b).align = s.align ∧
    (State.enterTamperhold s b).swage = s.swage ∧ (State.enterTamperhold s b).osc = s.osc ∧
    (State.enterTamperhold s b).isl = s.isl ∧ (State.enterTamperhold s b).sch = s.sch ∧
    (State.enterTamperhold s b).logic = s.logic ∧ (State.enterTamperhold s b).cap = s.cap ∧
    (State.enterTamperhold s b).pub = s.pub ∧ (State.enterTamperhold s b).otp = s.otp ∧
    (State.enterTamperhold s b).vault = s.vault ∧ (State.enterTamperhold s b).emp = s.emp ∧
    (State.enterTamperhold s b).tap = s.tap ∧ (State.enterTamperhold s b).ext = s.ext ∧
    (State.enterTamperhold s b).served = s.served ∧ (State.enterTamperhold s b).free = s.free ∧
    (State.enterTamperhold s b).pending = s.pending := by
  simp [State.enterTamperhold]

@[simp] theorem State.freshWarmup_frame (s : State) (t : Nat) :
    (State.freshWarmup s t).img = s.img ∧ (State.freshWarmup s t).flash = s.flash ∧
    (State.freshWarmup s t).ctrsAt = s.ctrsAt ∧ (State.freshWarmup s t).partnerLog = s.partnerLog ∧
    (State.freshWarmup s t).panel = s.panel ∧ (State.freshWarmup s t).cages = s.cages ∧
    (State.freshWarmup s t).tcp = s.tcp ∧ (State.freshWarmup s t).time = s.time ∧ (State.freshWarmup s t).otp = s.otp ∧
    (State.freshWarmup s t).emp = s.emp ∧ (State.freshWarmup s t).tap = s.tap ∧ (State.freshWarmup s t).ext = s.ext ∧
    (State.freshWarmup s t).served = s.served ∧ (State.freshWarmup s t).free = s.free ∧
    (State.freshWarmup s t).pending = s.pending := by
  simp [State.freshWarmup]

@[simp] theorem State.retain_frame (s : State) :
    (State.retain s).img = s.img ∧ (State.retain s).flash = s.flash ∧ (State.retain s).ctrsAt = s.ctrsAt ∧
    (State.retain s).partnerLog = s.partnerLog ∧ (State.retain s).bbx = s.bbx ∧ (State.retain s).sens = s.sens ∧
    (State.retain s).panel = s.panel ∧ (State.retain s).cages = s.cages ∧ (State.retain s).tcp = s.tcp ∧
    (State.retain s).time = s.time ∧ (State.retain s).swage = s.swage ∧ (State.retain s).otp = s.otp ∧
    (State.retain s).emp = s.emp ∧ (State.retain s).tap = s.tap ∧ (State.retain s).ext = s.ext ∧
    (State.retain s).served = s.served ∧ (State.retain s).free = s.free ∧ (State.retain s).pending = s.pending := by
  simp [State.retain]

@[simp] theorem State.restartNow_frame (s : State) :
    (State.restartNow s).flash = s.flash ∧ (State.restartNow s).panel = s.panel ∧ (State.restartNow s).otp = s.otp ∧
    (State.restartNow s).tap = s.tap ∧ (State.restartNow s).ext = s.ext ∧ (State.restartNow s).free = s.free ∧
    (State.restartNow s).pending = s.pending := by
  simp [State.restartNow]

@[simp] theorem State.takeEvent_frame (s : State) (b : Ns) (e : Ev) :
    (State.takeEvent s b e).flash = s.flash ∧ (State.takeEvent s b e).panel = s.panel ∧
    (State.takeEvent s b e).otp = s.otp ∧ (State.takeEvent s b e).tap = s.tap ∧ (State.takeEvent s b e).ext = s.ext ∧
    (State.takeEvent s b e).free = s.free ∧ (State.takeEvent s b e).pending = s.pending := by
  unfold State.takeEvent
  split <;> simp

@[simp] theorem State.firstBoundary_frame (s : State) (b : Ns) :
    (State.firstBoundary s b).img = s.img ∧ (State.firstBoundary s b).flash = s.flash ∧
    (State.firstBoundary s b).ctrsAt = s.ctrsAt ∧ (State.firstBoundary s b).partnerLog = s.partnerLog ∧
    (State.firstBoundary s b).panel = s.panel ∧ (State.firstBoundary s b).cages = s.cages ∧
    (State.firstBoundary s b).tcp = s.tcp ∧ (State.firstBoundary s b).time = s.time ∧
    (State.firstBoundary s b).swage = s.swage ∧ (State.firstBoundary s b).osc = s.osc ∧
    (State.firstBoundary s b).isl = s.isl ∧ (State.firstBoundary s b).sch = s.sch ∧
    (State.firstBoundary s b).logic = s.logic ∧ (State.firstBoundary s b).otp = s.otp ∧
    (State.firstBoundary s b).emp = s.emp ∧ (State.firstBoundary s b).tap = s.tap ∧
    (State.firstBoundary s b).ext = s.ext ∧ (State.firstBoundary s b).served = s.served ∧
    (State.firstBoundary s b).free = s.free ∧ (State.firstBoundary s b).pending = s.pending := by
  simp [State.firstBoundary]

@[simp] theorem State.takeEvents_frame (s : State) (b : Ns) :
    ((State.takeEvents s b).1).flash = s.flash ∧ ((State.takeEvents s b).1).panel = s.panel ∧
    ((State.takeEvents s b).1).otp = s.otp ∧ ((State.takeEvents s b).1).tap = s.tap ∧
    ((State.takeEvents s b).1).ext = s.ext ∧ ((State.takeEvents s b).1).free = s.free ∧
    ((State.takeEvents s b).1).pending = s.pending := by
  unfold State.takeEvents
  try dsimp only
  repeat' split
  all_goals simp

@[simp] theorem State.refuseMode_frame (s : State) (b : BReq) :
    (State.refuseMode s b).boot = s.boot ∧ (State.refuseMode s b).img = s.img ∧ (State.refuseMode s b).flash = s.flash ∧
    (State.refuseMode s b).ctrsAt = s.ctrsAt ∧ (State.refuseMode s b).attn = s.attn ∧
    (State.refuseMode s b).partnerLog = s.partnerLog ∧ (State.refuseMode s b).bbx = s.bbx ∧
    (State.refuseMode s b).sens = s.sens ∧ (State.refuseMode s b).panel = s.panel ∧
    (State.refuseMode s b).ports = s.ports ∧ (State.refuseMode s b).cages = s.cages ∧
    (State.refuseMode s b).tcp = s.tcp ∧ (State.refuseMode s b).streams = s.streams ∧
    (State.refuseMode s b).time = s.time ∧ (State.refuseMode s b).align = s.align ∧
    (State.refuseMode s b).swage = s.swage ∧ (State.refuseMode s b).osc = s.osc ∧ (State.refuseMode s b).isl = s.isl ∧
    (State.refuseMode s b).sch = s.sch ∧ (State.refuseMode s b).logic = s.logic ∧ (State.refuseMode s b).cap = s.cap ∧
    (State.refuseMode s b).pub = s.pub ∧ (State.refuseMode s b).pair = s.pair ∧ (State.refuseMode s b).otp = s.otp ∧
    (State.refuseMode s b).vault = s.vault ∧ (State.refuseMode s b).tap = s.tap ∧ (State.refuseMode s b).ext = s.ext ∧
    (State.refuseMode s b).served = s.served ∧ (State.refuseMode s b).free = s.free ∧
    (State.refuseMode s b).pending = s.pending := by
  simp [State.refuseMode]

@[simp] theorem State.boundaryForce_img (s : State) (taken : Bool) (b : BReq) (obj : Nat) (apply : State → State)
    (h : ∀ u : State, (apply u).img = u.img) : (s.boundaryForce taken b obj apply).1.img = s.img := by
  unfold State.boundaryForce
  dsimp only
  repeat' split
  all_goals simp [h]

@[simp] theorem State.boundaryForce_flash (s : State) (taken : Bool) (b : BReq) (obj : Nat) (apply : State → State)
    (h : ∀ u : State, (apply u).flash = u.flash) : (s.boundaryForce taken b obj apply).1.flash = s.flash := by
  unfold State.boundaryForce
  dsimp only
  repeat' split
  all_goals simp [h]

@[simp] theorem State.boundaryForce_ctrsAt (s : State) (taken : Bool) (b : BReq) (obj : Nat) (apply : State → State)
    (h : ∀ u : State, (apply u).ctrsAt = u.ctrsAt) : (s.boundaryForce taken b obj apply).1.ctrsAt = s.ctrsAt := by
  unfold State.boundaryForce
  dsimp only
  repeat' split
  all_goals simp [h]

@[simp] theorem State.boundaryForce_partnerLog (s : State) (taken : Bool) (b : BReq) (obj : Nat) (apply : State → State)
    (h : ∀ u : State, (apply u).partnerLog = u.partnerLog) : (s.boundaryForce taken b obj apply).1.partnerLog = s.partnerLog := by
  unfold State.boundaryForce
  dsimp only
  repeat' split
  all_goals simp [h]

@[simp] theorem State.boundaryForce_panel (s : State) (taken : Bool) (b : BReq) (obj : Nat) (apply : State → State)
    (h : ∀ u : State, (apply u).panel = u.panel) : (s.boundaryForce taken b obj apply).1.panel = s.panel := by
  unfold State.boundaryForce
  dsimp only
  repeat' split
  all_goals simp [h]

@[simp] theorem State.boundaryForce_cages (s : State) (taken : Bool) (b : BReq) (obj : Nat) (apply : State → State)
    (h : ∀ u : State, (apply u).cages = u.cages) : (s.boundaryForce taken b obj apply).1.cages = s.cages := by
  unfold State.boundaryForce
  dsimp only
  repeat' split
  all_goals simp [h]

@[simp] theorem State.boundaryForce_tcp (s : State) (taken : Bool) (b : BReq) (obj : Nat) (apply : State → State)
    (h : ∀ u : State, (apply u).tcp = u.tcp) : (s.boundaryForce taken b obj apply).1.tcp = s.tcp := by
  unfold State.boundaryForce
  dsimp only
  repeat' split
  all_goals simp [h]

@[simp] theorem State.boundaryForce_streams (s : State) (taken : Bool) (b : BReq) (obj : Nat) (apply : State → State)
    (h : ∀ u : State, (apply u).streams = u.streams) : (s.boundaryForce taken b obj apply).1.streams = s.streams := by
  unfold State.boundaryForce
  dsimp only
  repeat' split
  all_goals simp [h]

@[simp] theorem State.boundaryForce_time (s : State) (taken : Bool) (b : BReq) (obj : Nat) (apply : State → State)
    (h : ∀ u : State, (apply u).time = u.time) : (s.boundaryForce taken b obj apply).1.time = s.time := by
  unfold State.boundaryForce
  dsimp only
  repeat' split
  all_goals simp [h]

@[simp] theorem State.boundaryForce_align (s : State) (taken : Bool) (b : BReq) (obj : Nat) (apply : State → State)
    (h : ∀ u : State, (apply u).align = u.align) : (s.boundaryForce taken b obj apply).1.align = s.align := by
  unfold State.boundaryForce
  dsimp only
  repeat' split
  all_goals simp [h]

@[simp] theorem State.boundaryForce_osc (s : State) (taken : Bool) (b : BReq) (obj : Nat) (apply : State → State)
    (h : ∀ u : State, (apply u).osc = u.osc) : (s.boundaryForce taken b obj apply).1.osc = s.osc := by
  unfold State.boundaryForce
  dsimp only
  repeat' split
  all_goals simp [h]

@[simp] theorem State.boundaryForce_isl (s : State) (taken : Bool) (b : BReq) (obj : Nat) (apply : State → State)
    (h : ∀ u : State, (apply u).isl = u.isl) : (s.boundaryForce taken b obj apply).1.isl = s.isl := by
  unfold State.boundaryForce
  dsimp only
  repeat' split
  all_goals simp [h]

@[simp] theorem State.boundaryForce_sch (s : State) (taken : Bool) (b : BReq) (obj : Nat) (apply : State → State)
    (h : ∀ u : State, (apply u).sch = u.sch) : (s.boundaryForce taken b obj apply).1.sch = s.sch := by
  unfold State.boundaryForce
  dsimp only
  repeat' split
  all_goals simp [h]

@[simp] theorem State.boundaryForce_cap (s : State) (taken : Bool) (b : BReq) (obj : Nat) (apply : State → State)
    (h : ∀ u : State, (apply u).cap = u.cap) : (s.boundaryForce taken b obj apply).1.cap = s.cap := by
  unfold State.boundaryForce
  dsimp only
  repeat' split
  all_goals simp [h]

@[simp] theorem State.boundaryForce_pub (s : State) (taken : Bool) (b : BReq) (obj : Nat) (apply : State → State)
    (h : ∀ u : State, (apply u).pub = u.pub) : (s.boundaryForce taken b obj apply).1.pub = s.pub := by
  unfold State.boundaryForce
  dsimp only
  repeat' split
  all_goals simp [h]

@[simp] theorem State.boundaryForce_otp (s : State) (taken : Bool) (b : BReq) (obj : Nat) (apply : State → State)
    (h : ∀ u : State, (apply u).otp = u.otp) : (s.boundaryForce taken b obj apply).1.otp = s.otp := by
  unfold State.boundaryForce
  dsimp only
  repeat' split
  all_goals simp [h]

@[simp] theorem State.boundaryForce_vault (s : State) (taken : Bool) (b : BReq) (obj : Nat) (apply : State → State)
    (h : ∀ u : State, (apply u).vault = u.vault) : (s.boundaryForce taken b obj apply).1.vault = s.vault := by
  unfold State.boundaryForce
  dsimp only
  repeat' split
  all_goals simp [h]

@[simp] theorem State.boundaryForce_tap (s : State) (taken : Bool) (b : BReq) (obj : Nat) (apply : State → State)
    (h : ∀ u : State, (apply u).tap = u.tap) : (s.boundaryForce taken b obj apply).1.tap = s.tap := by
  unfold State.boundaryForce
  dsimp only
  repeat' split
  all_goals simp [h]

@[simp] theorem State.boundaryForce_ext (s : State) (taken : Bool) (b : BReq) (obj : Nat) (apply : State → State)
    (h : ∀ u : State, (apply u).ext = u.ext) : (s.boundaryForce taken b obj apply).1.ext = s.ext := by
  unfold State.boundaryForce
  dsimp only
  repeat' split
  all_goals simp [h]

@[simp] theorem State.boundaryForce_served (s : State) (taken : Bool) (b : BReq) (obj : Nat) (apply : State → State)
    (h : ∀ u : State, (apply u).served = u.served) : (s.boundaryForce taken b obj apply).1.served = s.served := by
  unfold State.boundaryForce
  dsimp only
  repeat' split
  all_goals simp [h]

@[simp] theorem State.boundaryForce_free (s : State) (taken : Bool) (b : BReq) (obj : Nat) (apply : State → State)
    (h : ∀ u : State, (apply u).free = u.free) : (s.boundaryForce taken b obj apply).1.free = s.free := by
  unfold State.boundaryForce
  dsimp only
  repeat' split
  all_goals simp [h]

@[simp] theorem State.boundaryForce_pending (s : State) (taken : Bool) (b : BReq) (obj : Nat) (apply : State → State)
    (h : ∀ u : State, (apply u).pending = u.pending) : (s.boundaryForce taken b obj apply).1.pending = s.pending := by
  unfold State.boundaryForce
  dsimp only
  repeat' split
  all_goals simp [h]



@[simp] theorem State.boundaryUnforce_boot (s : State) (taken : Bool) (b : BReq) (apply : State → State)
    (h : ∀ u : State, (apply u).boot = u.boot) : (s.boundaryUnforce taken b apply).1.boot = s.boot := by
  unfold State.boundaryUnforce
  split
  all_goals simp [h]

@[simp] theorem State.boundaryUnforce_img (s : State) (taken : Bool) (b : BReq) (apply : State → State)
    (h : ∀ u : State, (apply u).img = u.img) : (s.boundaryUnforce taken b apply).1.img = s.img := by
  unfold State.boundaryUnforce
  split
  all_goals simp [h]

@[simp] theorem State.boundaryUnforce_flash (s : State) (taken : Bool) (b : BReq) (apply : State → State)
    (h : ∀ u : State, (apply u).flash = u.flash) : (s.boundaryUnforce taken b apply).1.flash = s.flash := by
  unfold State.boundaryUnforce
  split
  all_goals simp [h]

@[simp] theorem State.boundaryUnforce_ctrsAt (s : State) (taken : Bool) (b : BReq) (apply : State → State)
    (h : ∀ u : State, (apply u).ctrsAt = u.ctrsAt) : (s.boundaryUnforce taken b apply).1.ctrsAt = s.ctrsAt := by
  unfold State.boundaryUnforce
  split
  all_goals simp [h]

@[simp] theorem State.boundaryUnforce_attn (s : State) (taken : Bool) (b : BReq) (apply : State → State)
    (h : ∀ u : State, (apply u).attn = u.attn) : (s.boundaryUnforce taken b apply).1.attn = s.attn := by
  unfold State.boundaryUnforce
  split
  all_goals simp [h]

@[simp] theorem State.boundaryUnforce_partnerLog (s : State) (taken : Bool) (b : BReq) (apply : State → State)
    (h : ∀ u : State, (apply u).partnerLog = u.partnerLog) : (s.boundaryUnforce taken b apply).1.partnerLog = s.partnerLog := by
  unfold State.boundaryUnforce
  split
  all_goals simp [h]

@[simp] theorem State.boundaryUnforce_bbx (s : State) (taken : Bool) (b : BReq) (apply : State → State)
    (h : ∀ u : State, (apply u).bbx = u.bbx) : (s.boundaryUnforce taken b apply).1.bbx = s.bbx := by
  unfold State.boundaryUnforce
  split
  all_goals simp [h]

@[simp] theorem State.boundaryUnforce_sens (s : State) (taken : Bool) (b : BReq) (apply : State → State)
    (h : ∀ u : State, (apply u).sens = u.sens) : (s.boundaryUnforce taken b apply).1.sens = s.sens := by
  unfold State.boundaryUnforce
  split
  all_goals simp [h]

@[simp] theorem State.boundaryUnforce_panel (s : State) (taken : Bool) (b : BReq) (apply : State → State)
    (h : ∀ u : State, (apply u).panel = u.panel) : (s.boundaryUnforce taken b apply).1.panel = s.panel := by
  unfold State.boundaryUnforce
  split
  all_goals simp [h]

@[simp] theorem State.boundaryUnforce_ports (s : State) (taken : Bool) (b : BReq) (apply : State → State)
    (h : ∀ u : State, (apply u).ports = u.ports) : (s.boundaryUnforce taken b apply).1.ports = s.ports := by
  unfold State.boundaryUnforce
  split
  all_goals simp [h]

@[simp] theorem State.boundaryUnforce_cages (s : State) (taken : Bool) (b : BReq) (apply : State → State)
    (h : ∀ u : State, (apply u).cages = u.cages) : (s.boundaryUnforce taken b apply).1.cages = s.cages := by
  unfold State.boundaryUnforce
  split
  all_goals simp [h]

@[simp] theorem State.boundaryUnforce_tcp (s : State) (taken : Bool) (b : BReq) (apply : State → State)
    (h : ∀ u : State, (apply u).tcp = u.tcp) : (s.boundaryUnforce taken b apply).1.tcp = s.tcp := by
  unfold State.boundaryUnforce
  split
  all_goals simp [h]

@[simp] theorem State.boundaryUnforce_streams (s : State) (taken : Bool) (b : BReq) (apply : State → State)
    (h : ∀ u : State, (apply u).streams = u.streams) : (s.boundaryUnforce taken b apply).1.streams = s.streams := by
  unfold State.boundaryUnforce
  split
  all_goals simp [h]

@[simp] theorem State.boundaryUnforce_time (s : State) (taken : Bool) (b : BReq) (apply : State → State)
    (h : ∀ u : State, (apply u).time = u.time) : (s.boundaryUnforce taken b apply).1.time = s.time := by
  unfold State.boundaryUnforce
  split
  all_goals simp [h]

@[simp] theorem State.boundaryUnforce_align (s : State) (taken : Bool) (b : BReq) (apply : State → State)
    (h : ∀ u : State, (apply u).align = u.align) : (s.boundaryUnforce taken b apply).1.align = s.align := by
  unfold State.boundaryUnforce
  split
  all_goals simp [h]

@[simp] theorem State.boundaryUnforce_swage (s : State) (taken : Bool) (b : BReq) (apply : State → State)
    (h : ∀ u : State, (apply u).swage = u.swage) : (s.boundaryUnforce taken b apply).1.swage = s.swage := by
  unfold State.boundaryUnforce
  split
  all_goals simp [h]

@[simp] theorem State.boundaryUnforce_osc (s : State) (taken : Bool) (b : BReq) (apply : State → State)
    (h : ∀ u : State, (apply u).osc = u.osc) : (s.boundaryUnforce taken b apply).1.osc = s.osc := by
  unfold State.boundaryUnforce
  split
  all_goals simp [h]

@[simp] theorem State.boundaryUnforce_isl (s : State) (taken : Bool) (b : BReq) (apply : State → State)
    (h : ∀ u : State, (apply u).isl = u.isl) : (s.boundaryUnforce taken b apply).1.isl = s.isl := by
  unfold State.boundaryUnforce
  split
  all_goals simp [h]

@[simp] theorem State.boundaryUnforce_sch (s : State) (taken : Bool) (b : BReq) (apply : State → State)
    (h : ∀ u : State, (apply u).sch = u.sch) : (s.boundaryUnforce taken b apply).1.sch = s.sch := by
  unfold State.boundaryUnforce
  split
  all_goals simp [h]

@[simp] theorem State.boundaryUnforce_logic (s : State) (taken : Bool) (b : BReq) (apply : State → State)
    (h : ∀ u : State, (apply u).logic = u.logic) : (s.boundaryUnforce taken b apply).1.logic = s.logic := by
  unfold State.boundaryUnforce
  split
  all_goals simp [h]

@[simp] theorem State.boundaryUnforce_cap (s : State) (taken : Bool) (b : BReq) (apply : State → State)
    (h : ∀ u : State, (apply u).cap = u.cap) : (s.boundaryUnforce taken b apply).1.cap = s.cap := by
  unfold State.boundaryUnforce
  split
  all_goals simp [h]

@[simp] theorem State.boundaryUnforce_pub (s : State) (taken : Bool) (b : BReq) (apply : State → State)
    (h : ∀ u : State, (apply u).pub = u.pub) : (s.boundaryUnforce taken b apply).1.pub = s.pub := by
  unfold State.boundaryUnforce
  split
  all_goals simp [h]

@[simp] theorem State.boundaryUnforce_pair (s : State) (taken : Bool) (b : BReq) (apply : State → State)
    (h : ∀ u : State, (apply u).pair = u.pair) : (s.boundaryUnforce taken b apply).1.pair = s.pair := by
  unfold State.boundaryUnforce
  split
  all_goals simp [h]

@[simp] theorem State.boundaryUnforce_otp (s : State) (taken : Bool) (b : BReq) (apply : State → State)
    (h : ∀ u : State, (apply u).otp = u.otp) : (s.boundaryUnforce taken b apply).1.otp = s.otp := by
  unfold State.boundaryUnforce
  split
  all_goals simp [h]

@[simp] theorem State.boundaryUnforce_vault (s : State) (taken : Bool) (b : BReq) (apply : State → State)
    (h : ∀ u : State, (apply u).vault = u.vault) : (s.boundaryUnforce taken b apply).1.vault = s.vault := by
  unfold State.boundaryUnforce
  split
  all_goals simp [h]

@[simp] theorem State.boundaryUnforce_tap (s : State) (taken : Bool) (b : BReq) (apply : State → State)
    (h : ∀ u : State, (apply u).tap = u.tap) : (s.boundaryUnforce taken b apply).1.tap = s.tap := by
  unfold State.boundaryUnforce
  split
  all_goals simp [h]

@[simp] theorem State.boundaryUnforce_ext (s : State) (taken : Bool) (b : BReq) (apply : State → State)
    (h : ∀ u : State, (apply u).ext = u.ext) : (s.boundaryUnforce taken b apply).1.ext = s.ext := by
  unfold State.boundaryUnforce
  split
  all_goals simp [h]

@[simp] theorem State.boundaryUnforce_served (s : State) (taken : Bool) (b : BReq) (apply : State → State)
    (h : ∀ u : State, (apply u).served = u.served) : (s.boundaryUnforce taken b apply).1.served = s.served := by
  unfold State.boundaryUnforce
  split
  all_goals simp [h]

@[simp] theorem State.boundaryUnforce_free (s : State) (taken : Bool) (b : BReq) (apply : State → State)
    (h : ∀ u : State, (apply u).free = u.free) : (s.boundaryUnforce taken b apply).1.free = s.free := by
  unfold State.boundaryUnforce
  split
  all_goals simp [h]

@[simp] theorem State.boundaryUnforce_pending (s : State) (taken : Bool) (b : BReq) (apply : State → State)
    (h : ∀ u : State, (apply u).pending = u.pending) : (s.boundaryUnforce taken b apply).1.pending = s.pending := by
  unfold State.boundaryUnforce
  split
  all_goals simp [h]



@[simp] theorem State.askForce_frame (s : State) (obj : Nat) (v : Option Word) :
    (State.askForce s obj v).boot = s.boot ∧ (State.askForce s obj v).img = s.img ∧
    (State.askForce s obj v).flash = s.flash ∧ (State.askForce s obj v).ctrs = s.ctrs ∧
    (State.askForce s obj v).ctrsAt = s.ctrsAt ∧ (State.askForce s obj v).attn = s.attn ∧
    (State.askForce s obj v).partnerLog = s.partnerLog ∧ (State.askForce s obj v).bbx = s.bbx ∧
    (State.askForce s obj v).sens = s.sens ∧ (State.askForce s obj v).panel = s.panel ∧
    (State.askForce s obj v).ports = s.ports ∧ (State.askForce s obj v).cages = s.cages ∧
    (State.askForce s obj v).tcp = s.tcp ∧ (State.askForce s obj v).streams = s.streams ∧
    (State.askForce s obj v).time = s.time ∧ (State.askForce s obj v).align = s.align ∧
    (State.askForce s obj v).swage = s.swage ∧ (State.askForce s obj v).osc = s.osc ∧
    (State.askForce s obj v).isl = s.isl ∧ (State.askForce s obj v).sch = s.sch ∧ (State.askForce s obj v).cap = s.cap ∧
    (State.askForce s obj v).pub = s.pub ∧ (State.askForce s obj v).pair = s.pair ∧
    (State.askForce s obj v).otp = s.otp ∧ (State.askForce s obj v).vault = s.vault ∧
    (State.askForce s obj v).emp = s.emp ∧ (State.askForce s obj v).tap = s.tap ∧ (State.askForce s obj v).ext = s.ext ∧
    (State.askForce s obj v).served = s.served ∧ (State.askForce s obj v).free = s.free ∧
    (State.askForce s obj v).pending = s.pending := by
  simp [State.askForce]

@[simp] theorem State.boundaryReplay_frame (s : State) (taken : Bool) (b : BReq) (bd : Ns) (r : ReplaySt) :
    ((State.boundaryReplay s taken b bd r).1).img = s.img ∧ ((State.boundaryReplay s taken b bd r).1).flash = s.flash ∧
    ((State.boundaryReplay s taken b bd r).1).ctrsAt = s.ctrsAt ∧
    ((State.boundaryReplay s taken b bd r).1).partnerLog = s.partnerLog ∧
    ((State.boundaryReplay s taken b bd r).1).panel = s.panel ∧
    ((State.boundaryReplay s taken b bd r).1).cages = s.cages ∧ ((State.boundaryReplay s taken b bd r).1).tcp = s.tcp ∧
    ((State.boundaryReplay s taken b bd r).1).time = s.time ∧ ((State.boundaryReplay s taken b bd r).1).otp = s.otp ∧
    ((State.boundaryReplay s taken b bd r).1).vault = s.vault ∧ ((State.boundaryReplay s taken b bd r).1).tap = s.tap ∧
    ((State.boundaryReplay s taken b bd r).1).ext = s.ext ∧ ((State.boundaryReplay s taken b bd r).1).served = s.served ∧
    ((State.boundaryReplay s taken b bd r).1).free = s.free ∧
    ((State.boundaryReplay s taken b bd r).1).pending = s.pending := by
  unfold State.boundaryReplay
  try dsimp only
  repeat' split
  all_goals simp

@[simp] theorem State.boundaryRelease_frame (s : State) (b : BReq) (c : Nat) (ok : Bool) :
    (State.boundaryRelease s b c ok).boot = s.boot ∧ (State.boundaryRelease s b c ok).img = s.img ∧
    (State.boundaryRelease s b c ok).flash = s.flash ∧ (State.boundaryRelease s b c ok).ctrsAt = s.ctrsAt ∧
    (State.boundaryRelease s b c ok).attn = s.attn ∧ (State.boundaryRelease s b c ok).partnerLog = s.partnerLog ∧
    (State.boundaryRelease s b c ok).bbx = s.bbx ∧ (State.boundaryRelease s b c ok).sens = s.sens ∧
    (State.boundaryRelease s b c ok).panel = s.panel ∧ (State.boundaryRelease s b c ok).ports = s.ports ∧
    (State.boundaryRelease s b c ok).cages = s.cages ∧ (State.boundaryRelease s b c ok).tcp = s.tcp ∧
    (State.boundaryRelease s b c ok).streams = s.streams ∧ (State.boundaryRelease s b c ok).time = s.time ∧
    (State.boundaryRelease s b c ok).align = s.align ∧ (State.boundaryRelease s b c ok).swage = s.swage ∧
    (State.boundaryRelease s b c ok).osc = s.osc ∧ (State.boundaryRelease s b c ok).isl = s.isl ∧
    (State.boundaryRelease s b c ok).logic = s.logic ∧ (State.boundaryRelease s b c ok).cap = s.cap ∧
    (State.boundaryRelease s b c ok).pub = s.pub ∧ (State.boundaryRelease s b c ok).pair = s.pair ∧
    (State.boundaryRelease s b c ok).otp = s.otp ∧ (State.boundaryRelease s b c ok).vault = s.vault ∧
    (State.boundaryRelease s b c ok).tap = s.tap ∧ (State.boundaryRelease s b c ok).ext = s.ext ∧
    (State.boundaryRelease s b c ok).served = s.served ∧ (State.boundaryRelease s b c ok).free = s.free ∧
    (State.boundaryRelease s b c ok).pending = s.pending := by
  simp [State.boundaryRelease]

@[simp] theorem State.boundaryHoldover_frame (s : State) (b : BReq) (on : Bool) :
    (State.boundaryHoldover s b on).boot = s.boot ∧ (State.boundaryHoldover s b on).img = s.img ∧
    (State.boundaryHoldover s b on).flash = s.flash ∧ (State.boundaryHoldover s b on).ctrsAt = s.ctrsAt ∧
    (State.boundaryHoldover s b on).attn = s.attn ∧ (State.boundaryHoldover s b on).partnerLog = s.partnerLog ∧
    (State.boundaryHoldover s b on).bbx = s.bbx ∧ (State.boundaryHoldover s b on).sens = s.sens ∧
    (State.boundaryHoldover s b on).panel = s.panel ∧ (State.boundaryHoldover s b on).ports = s.ports ∧
    (State.boundaryHoldover s b on).cages = s.cages ∧ (State.boundaryHoldover s b on).tcp = s.tcp ∧
    (State.boundaryHoldover s b on).streams = s.streams ∧ (State.boundaryHoldover s b on).align = s.align ∧
    (State.boundaryHoldover s b on).swage = s.swage ∧ (State.boundaryHoldover s b on).osc = s.osc ∧
    (State.boundaryHoldover s b on).isl = s.isl ∧ (State.boundaryHoldover s b on).sch = s.sch ∧
    (State.boundaryHoldover s b on).logic = s.logic ∧ (State.boundaryHoldover s b on).cap = s.cap ∧
    (State.boundaryHoldover s b on).pub = s.pub ∧ (State.boundaryHoldover s b on).pair = s.pair ∧
    (State.boundaryHoldover s b on).otp = s.otp ∧ (State.boundaryHoldover s b on).vault = s.vault ∧
    (State.boundaryHoldover s b on).tap = s.tap ∧ (State.boundaryHoldover s b on).ext = s.ext ∧
    (State.boundaryHoldover s b on).served = s.served ∧ (State.boundaryHoldover s b on).free = s.free ∧
    (State.boundaryHoldover s b on).pending = s.pending := by
  simp [State.boundaryHoldover]

@[simp] theorem State.boundaryShed_frame (s : State) (b : BReq) (lvl : Nat) (inhibit : Bool) :
    (State.boundaryShed s b lvl inhibit).boot = s.boot ∧ (State.boundaryShed s b lvl inhibit).img = s.img ∧
    (State.boundaryShed s b lvl inhibit).flash = s.flash ∧ (State.boundaryShed s b lvl inhibit).ctrsAt = s.ctrsAt ∧
    (State.boundaryShed s b lvl inhibit).partnerLog = s.partnerLog ∧ (State.boundaryShed s b lvl inhibit).bbx = s.bbx ∧
    (State.boundaryShed s b lvl inhibit).sens = s.sens ∧ (State.boundaryShed s b lvl inhibit).panel = s.panel ∧
    (State.boundaryShed s b lvl inhibit).cages = s.cages ∧ (State.boundaryShed s b lvl inhibit).tcp = s.tcp ∧
    (State.boundaryShed s b lvl inhibit).streams = s.streams ∧ (State.boundaryShed s b lvl inhibit).time = s.time ∧
    (State.boundaryShed s b lvl inhibit).align = s.align ∧ (State.boundaryShed s b lvl inhibit).swage = s.swage ∧
    (State.boundaryShed s b lvl inhibit).osc = s.osc ∧ (State.boundaryShed s b lvl inhibit).isl = s.isl ∧
    (State.boundaryShed s b lvl inhibit).logic = s.logic ∧ (State.boundaryShed s b lvl inhibit).cap = s.cap ∧
    (State.boundaryShed s b lvl inhibit).pub = s.pub ∧ (State.boundaryShed s b lvl inhibit).otp = s.otp ∧
    (State.boundaryShed s b lvl inhibit).vault = s.vault ∧ (State.boundaryShed s b lvl inhibit).tap = s.tap ∧
    (State.boundaryShed s b lvl inhibit).ext = s.ext ∧ (State.boundaryShed s b lvl inhibit).served = s.served ∧
    (State.boundaryShed s b lvl inhibit).free = s.free ∧ (State.boundaryShed s b lvl inhibit).pending = s.pending := by
  simp [State.boundaryShed]

@[simp] theorem State.boundaryHandover_frame (s : State) (taken : Bool) (b : BReq) (bd : Ns) :
    ((State.boundaryHandover s taken b bd).1).img = s.img ∧ ((State.boundaryHandover s taken b bd).1).flash = s.flash ∧
    ((State.boundaryHandover s taken b bd).1).ctrsAt = s.ctrsAt ∧
    ((State.boundaryHandover s taken b bd).1).partnerLog = s.partnerLog ∧
    ((State.boundaryHandover s taken b bd).1).panel = s.panel ∧
    ((State.boundaryHandover s taken b bd).1).cages = s.cages ∧ ((State.boundaryHandover s taken b bd).1).tcp = s.tcp ∧
    ((State.boundaryHandover s taken b bd).1).streams = s.streams ∧
    ((State.boundaryHandover s taken b bd).1).time = s.time ∧ ((State.boundaryHandover s taken b bd).1).align = s.align ∧
    ((State.boundaryHandover s taken b bd).1).osc = s.osc ∧ ((State.boundaryHandover s taken b bd).1).isl = s.isl ∧
    ((State.boundaryHandover s taken b bd).1).sch = s.sch ∧ ((State.boundaryHandover s taken b bd).1).cap = s.cap ∧
    ((State.boundaryHandover s taken b bd).1).pub = s.pub ∧ ((State.boundaryHandover s taken b bd).1).otp = s.otp ∧
    ((State.boundaryHandover s taken b bd).1).vault = s.vault ∧ ((State.boundaryHandover s taken b bd).1).tap = s.tap ∧
    ((State.boundaryHandover s taken b bd).1).ext = s.ext ∧ ((State.boundaryHandover s taken b bd).1).served = s.served ∧
    ((State.boundaryHandover s taken b bd).1).free = s.free ∧
    ((State.boundaryHandover s taken b bd).1).pending = s.pending := by
  unfold State.boundaryHandover
  try dsimp only
  repeat' split
  all_goals simp

@[simp] theorem State.boundaryRekey_frame (s : State) (taken : Bool) (b : BReq) :
    ((State.boundaryRekey s taken b).1).img = s.img ∧ ((State.boundaryRekey s taken b).1).flash = s.flash ∧
    ((State.boundaryRekey s taken b).1).ctrsAt = s.ctrsAt ∧
    ((State.boundaryRekey s taken b).1).partnerLog = s.partnerLog ∧ ((State.boundaryRekey s taken b).1).panel = s.panel ∧
    ((State.boundaryRekey s taken b).1).cages = s.cages ∧ ((State.boundaryRekey s taken b).1).tcp = s.tcp ∧
    ((State.boundaryRekey s taken b).1).time = s.time ∧ ((State.boundaryRekey s taken b).1).otp = s.otp ∧
    ((State.boundaryRekey s taken b).1).tap = s.tap ∧ ((State.boundaryRekey s taken b).1).ext = s.ext ∧
    ((State.boundaryRekey s taken b).1).served = s.served ∧ ((State.boundaryRekey s taken b).1).free = s.free ∧
    ((State.boundaryRekey s taken b).1).pending = s.pending := by
  unfold State.boundaryRekey
  try dsimp only
  repeat' split
  all_goals simp

@[simp] theorem State.boundarySet_frame (s : State) (b : BReq) (at_ : Ns) :
    ((State.boundarySet s b at_).1).boot = s.boot ∧ ((State.boundarySet s b at_).1).img = s.img ∧
    ((State.boundarySet s b at_).1).flash = s.flash ∧ ((State.boundarySet s b at_).1).ctrsAt = s.ctrsAt ∧
    ((State.boundarySet s b at_).1).attn = s.attn ∧ ((State.boundarySet s b at_).1).partnerLog = s.partnerLog ∧
    ((State.boundarySet s b at_).1).bbx = s.bbx ∧ ((State.boundarySet s b at_).1).sens = s.sens ∧
    ((State.boundarySet s b at_).1).panel = s.panel ∧ ((State.boundarySet s b at_).1).ports = s.ports ∧
    ((State.boundarySet s b at_).1).cages = s.cages ∧ ((State.boundarySet s b at_).1).tcp = s.tcp ∧
    ((State.boundarySet s b at_).1).streams = s.streams ∧ ((State.boundarySet s b at_).1).time = s.time ∧
    ((State.boundarySet s b at_).1).align = s.align ∧ ((State.boundarySet s b at_).1).swage = s.swage ∧
    ((State.boundarySet s b at_).1).osc = s.osc ∧ ((State.boundarySet s b at_).1).isl = s.isl ∧
    ((State.boundarySet s b at_).1).sch = s.sch ∧ ((State.boundarySet s b at_).1).logic = s.logic ∧
    ((State.boundarySet s b at_).1).cap = s.cap ∧ ((State.boundarySet s b at_).1).pub = s.pub ∧
    ((State.boundarySet s b at_).1).pair = s.pair ∧ ((State.boundarySet s b at_).1).otp = s.otp ∧
    ((State.boundarySet s b at_).1).vault = s.vault ∧ ((State.boundarySet s b at_).1).tap = s.tap ∧
    ((State.boundarySet s b at_).1).ext = s.ext ∧ ((State.boundarySet s b at_).1).served = s.served ∧
    ((State.boundarySet s b at_).1).free = s.free ∧ ((State.boundarySet s b at_).1).pending = s.pending := by
  unfold State.boundarySet
  try dsimp only
  repeat' split
  all_goals simp

@[simp] theorem State.takeRequest_frame (s : State) (taken : Bool) (bd : Ns) (b : BReq) :
    ((State.takeRequest s taken bd b).1).img = s.img ∧ ((State.takeRequest s taken bd b).1).flash = s.flash ∧
    ((State.takeRequest s taken bd b).1).ctrsAt = s.ctrsAt ∧
    ((State.takeRequest s taken bd b).1).partnerLog = s.partnerLog ∧
    ((State.takeRequest s taken bd b).1).panel = s.panel ∧ ((State.takeRequest s taken bd b).1).cages = s.cages ∧
    ((State.takeRequest s taken bd b).1).tcp = s.tcp ∧ ((State.takeRequest s taken bd b).1).otp = s.otp ∧
    ((State.takeRequest s taken bd b).1).tap = s.tap ∧ ((State.takeRequest s taken bd b).1).ext = s.ext ∧
    ((State.takeRequest s taken bd b).1).served = s.served ∧ ((State.takeRequest s taken bd b).1).free = s.free ∧
    ((State.takeRequest s taken bd b).1).pending = s.pending := by
  unfold State.takeRequest
  try dsimp only
  repeat' split
  all_goals simp

@[simp] theorem State.takeRequests_frame (bd : Ns) (bs : List BReq) (s : State) (b : Bool) :
    ((State.takeRequests bd bs s b).1).img = s.img ∧ ((State.takeRequests bd bs s b).1).flash = s.flash ∧
    ((State.takeRequests bd bs s b).1).ctrsAt = s.ctrsAt ∧ ((State.takeRequests bd bs s b).1).partnerLog = s.partnerLog ∧
    ((State.takeRequests bd bs s b).1).panel = s.panel ∧ ((State.takeRequests bd bs s b).1).cages = s.cages ∧
    ((State.takeRequests bd bs s b).1).tcp = s.tcp ∧ ((State.takeRequests bd bs s b).1).otp = s.otp ∧
    ((State.takeRequests bd bs s b).1).tap = s.tap ∧ ((State.takeRequests bd bs s b).1).ext = s.ext ∧
    ((State.takeRequests bd bs s b).1).served = s.served ∧ ((State.takeRequests bd bs s b).1).free = s.free ∧
    ((State.takeRequests bd bs s b).1).pending = s.pending := by
  induction bs generalizing s b with
  | nil => simp [State.takeRequests]
  | cons x bs ih =>
    simp only [State.takeRequests]
    split
    all_goals simp [ih]


@[simp] theorem State.leaveWarmup_frame (s : State) :
    (State.leaveWarmup s).img = s.img ∧ (State.leaveWarmup s).ctrsAt = s.ctrsAt ∧
    (State.leaveWarmup s).partnerLog = s.partnerLog ∧ (State.leaveWarmup s).panel = s.panel ∧
    (State.leaveWarmup s).cages = s.cages ∧ (State.leaveWarmup s).tcp = s.tcp ∧
    (State.leaveWarmup s).streams = s.streams ∧ (State.leaveWarmup s).time = s.time ∧
    (State.leaveWarmup s).align = s.align ∧ (State.leaveWarmup s).swage = s.swage ∧ (State.leaveWarmup s).osc = s.osc ∧
    (State.leaveWarmup s).isl = s.isl ∧ (State.leaveWarmup s).sch = s.sch ∧ (State.leaveWarmup s).logic = s.logic ∧
    (State.leaveWarmup s).cap = s.cap ∧ (State.leaveWarmup s).pub = s.pub ∧ (State.leaveWarmup s).otp = s.otp ∧
    (State.leaveWarmup s).vault = s.vault ∧ (State.leaveWarmup s).emp = s.emp ∧ (State.leaveWarmup s).tap = s.tap ∧
    (State.leaveWarmup s).ext = s.ext ∧ (State.leaveWarmup s).served = s.served ∧ (State.leaveWarmup s).free = s.free ∧
    (State.leaveWarmup s).pending = s.pending := by
  simp [State.leaveWarmup]

@[simp] theorem State.ownTransitions_frame (s : State) :
    (State.ownTransitions s).img = s.img ∧ (State.ownTransitions s).ctrsAt = s.ctrsAt ∧
    (State.ownTransitions s).partnerLog = s.partnerLog ∧ (State.ownTransitions s).panel = s.panel ∧
    (State.ownTransitions s).cages = s.cages ∧ (State.ownTransitions s).tcp = s.tcp ∧
    (State.ownTransitions s).streams = s.streams ∧ (State.ownTransitions s).time = s.time ∧
    (State.ownTransitions s).align = s.align ∧ (State.ownTransitions s).osc = s.osc ∧
    (State.ownTransitions s).isl = s.isl ∧ (State.ownTransitions s).sch = s.sch ∧ (State.ownTransitions s).cap = s.cap ∧
    (State.ownTransitions s).pub = s.pub ∧ (State.ownTransitions s).otp = s.otp ∧
    (State.ownTransitions s).vault = s.vault ∧ (State.ownTransitions s).emp = s.emp ∧
    (State.ownTransitions s).tap = s.tap ∧ (State.ownTransitions s).ext = s.ext ∧
    (State.ownTransitions s).served = s.served ∧ (State.ownTransitions s).free = s.free ∧
    (State.ownTransitions s).pending = s.pending := by
  simp [State.ownTransitions]

@[simp] theorem State.boundaryModes_frame (s : State) (bd : Ns) :
    (State.boundaryModes s bd).panel = s.panel ∧ (State.boundaryModes s bd).otp = s.otp ∧
    (State.boundaryModes s bd).tap = s.tap ∧ (State.boundaryModes s bd).ext = s.ext ∧
    (State.boundaryModes s bd).free = s.free ∧ (State.boundaryModes s bd).pending = s.pending := by
  unfold State.boundaryModes
  split <;> simp

end Sys2Proof.Machine
end

