-- ==== Sys2Proof/Laws/Memory.lean ====
section
/-! SUPPORT. The flash memory: every operation keeps the canonical form, what is read after a write, and what a write leaves. -/

namespace Sys2Proof.Machine

/-- A lower bound that an address list may have. -/
def boundBelow (lo : Option Nat) (a : Nat) : Prop := ∀ l, lo = some l → l < a

theorem memWfFrom_cons (lo : Option Nat) (a : Nat) (b : Byte) (m : Memory) :
    memWfFrom lo ((a, b) :: m) = true ↔ boundBelow lo a ∧ b ≠ Memory.blank ∧ memWfFrom (some a) m = true := by
  cases lo <;> simp [memWfFrom, boundBelow, and_assoc]

theorem memWfFrom_lower {lo : Option Nat} {a : Nat} {m : Memory} (h : memWfFrom (some a) m = true) (hl : boundBelow lo a) :
    memWfFrom lo m = true := by
  cases m with
  | nil => cases lo <;> rfl
  | cons c m =>
    rw [memWfFrom_cons] at h ⊢
    exact ⟨fun l hlo => Nat.lt_trans (hl l hlo) (h.1 a rfl), h.2⟩

/-- Writing a byte above a bound keeps the form above that bound. -/
theorem memWrite_wfFrom (a : Nat) (v : Byte) (m : Memory) :
    ∀ lo, boundBelow lo a → memWfFrom lo m = true → memWfFrom lo (memWrite m a v) = true := by
  induction m with
  | nil =>
    intro lo hl h
    simp only [memWrite]
    split
    · exact h
    · rw [memWfFrom_cons]; exact ⟨hl, by assumption, rfl⟩
  | cons c m ih =>
    intro lo hl h
    obtain ⟨a', b⟩ := c
    have h' := h
    rw [memWfFrom_cons] at h'
    simp only [memWrite]
    split
    · split
      · exact h
      · rename_i hlt hv
        rw [memWfFrom_cons, memWfFrom_cons]
        exact ⟨hl, hv, fun l hla => by cases hla; exact hlt, h'.2⟩
    · split
      · rename_i heq
        subst heq
        split
        · exact memWfFrom_lower h'.2.2 hl
        · rw [memWfFrom_cons]; exact ⟨hl, by assumption, h'.2.2⟩
      · rw [memWfFrom_cons]
        exact ⟨h'.1, h'.2.1, ih _ (fun l hla => by cases hla; omega) h'.2.2⟩

/-- A byte written keeps the canonical form. -/
theorem memWrite_wf {m : Memory} (h : m.wf = true) (a : Nat) (v : Byte) : Memory.wf (memWrite m a v) = true :=
  memWrite_wfFrom a v m none (fun l hl => by cases hl) h

/-- Bytes written keep the canonical form. -/
theorem memWriteBytes_wf {m : Memory} (h : m.wf = true) (a : Nat) (b : Bytes) : Memory.wf (memWriteBytes m a b) = true := by
  induction b generalizing m a with
  | nil => exact h
  | cons v b ih => exact ih (memWrite_wf h a v) (a + 1)

theorem memErase_wfFrom (a n : Nat) (m : Memory) : ∀ lo, memWfFrom lo m = true → memWfFrom lo (memErase m a n) = true := by
  induction m with
  | nil => intro lo h; exact h
  | cons c m ih =>
    intro lo h
    obtain ⟨a', b⟩ := c
    rw [memWfFrom_cons] at h
    have key := ih (some a') h.2.2
    simp only [memErase, List.filter_cons] at key ⊢
    split
    · rw [memWfFrom_cons]; exact ⟨h.1, h.2.1, key⟩
    · exact memWfFrom_lower key h.1

/-- An erasure keeps the canonical form. -/
theorem memErase_wf {m : Memory} (h : m.wf = true) (a n : Nat) : Memory.wf (memErase m a n) = true := memErase_wfFrom a n m none h

/-- The flash at reset has the canonical form. -/
theorem reset_flash_wf : State.reset.flash.wf = true := rfl

/-- Below the first listed address every byte is blank. -/
theorem memRead_below {m : Memory} {a' a : Nat} (h : memWfFrom (some a') m = true) (ha : a ≤ a') : memRead m a = Memory.blank := by
  induction m generalizing a' with
  | nil => rfl
  | cons c m ih =>
    obtain ⟨x, b⟩ := c
    rw [memWfFrom_cons] at h
    have hx := h.1 a' rfl
    simp only [memRead]
    split
    · omega
    · exact ih h.2.2 (by omega)

/-- A write leaves every other byte alone. -/
theorem memRead_memWrite_ne (m : Memory) {a x : Nat} (v : Byte) (h : x ≠ a) : memRead (memWrite m a v) x = memRead m x := by
  induction m with
  | nil =>
    simp only [memWrite]
    split
    · rfl
    · simp only [memRead]; split <;> first | omega | rfl
  | cons c m ih =>
    obtain ⟨a', b⟩ := c
    simp only [memWrite]
    split
    · split
      · rfl
      · rw [memRead]; split
        · omega
        · rfl
    · split
      · rename_i heq
        subst heq
        split
        · rw [memRead]; split
          · omega
          · rfl
        · simp only [memRead]; split
          · omega
          · rfl
      · simp only [memRead, ih]

/-- In canonical form a byte written is read back. -/
theorem memRead_memWrite_self {m : Memory} (a : Nat) (v : Byte) : ∀ {lo}, memWfFrom lo m = true → memRead (memWrite m a v) a = v := by
  induction m with
  | nil =>
    intro lo _
    simp only [memWrite]
    split
    · simp only [memRead]; exact Eq.symm ‹_›
    · simp [memRead]
  | cons c m ih =>
    intro lo h
    obtain ⟨a', b⟩ := c
    rw [memWfFrom_cons] at h
    simp only [memWrite]
    split
    · split
      · rename_i hlt hv
        rw [memRead, if_neg (by omega), memRead_below h.2.2 (by omega)]; exact hv.symm
      · simp [memRead]
    · split
      · rename_i heq
        subst heq
        split
        · rename_i hv
          rw [memRead_below h.2.2 (Nat.le_refl _)]; exact hv.symm
        · simp [memRead]
      · rw [memRead, if_neg (by omega)]; exact ih h.2.2

/-- An erased byte reads blank, and every other one as before. -/
theorem memRead_memErase (m : Memory) (a n x : Nat) :
    memRead (memErase m a n) x = if a ≤ x ∧ x < a + n then Memory.blank else memRead m x := by
  induction m with
  | nil => simp [memErase, memRead]
  | cons c m ih =>
    obtain ⟨a', b⟩ := c
    simp only [memErase, List.filter_cons] at ih ⊢
    by_cases hk : a' < a ∨ a + n ≤ a'
    · simp only [hk, decide_true, if_true, memRead, ih]
      by_cases hx : a' = x
      · simp only [hx, if_true]; rw [if_neg]; omega
      · simp [hx]
    · simp only [hk, decide_false, memRead, Bool.false_eq_true, if_false, ih]
      by_cases hx : a' = x
      · rw [if_pos (by omega), if_pos (by omega)]
      · simp [hx]

end Sys2Proof.Machine
end

