-- ==== Sys2Proof/WellFormed.lean ====
section
/-! DEFINITION. Which commands are well formed: the bounds that the spec sets on what arrives from outside and that
the operand types do not carry (field widths on the wire, the number of sensors, classes and readings). -/

namespace Sys2Proof

/-- A 16-bit field on the wire. -/
def u16 (n : Nat) : Bool := decide (n < 2 ^ 16)

/-- A 32-bit field on the wire. -/
def u32 (n : Nat) : Bool := decide (n < 2 ^ 32)

/-- A sampled-value frame: its counts fit their fields, and its list of ASDUs its wire (R118). -/
def SvFrame.wf (f : SvFrame) : Bool :=
  u16 f.dataLen && f.asdus.all (fun a => u16 a.smpCnt && decide (a.smpSynch < 256) && u32 a.confRev)

/-- An Announce message: octets and 16-bit fields (R139). -/
def Announce.wf (a : Announce) : Bool :=
  decide (a.prio1 < 256) && decide (a.clockClass < 256) && u16 a.variance && decide (a.prio2 < 256) && u16 a.stepsRemoved

/-- A PTP message. -/
def PtpMsg.wf : PtpMsg → Bool
  | .announce a => a.wf
  | .sync _ q _ _ => u16 q
  | .followUp _ q _ _ => u16 q
  | .pdelayReq q => u16 q
  | .pdelayResp q _ => u16 q
  | .pdelayRespFollowUp q _ => u16 q
  | .other => true

/-- What follows the tags. -/
def RxBody.wf : RxBody → Bool
  | .udp _ _ sp dp n b => u16 sp && u16 dp && u16 n && (match b with | .sv f => f.wf | _ => true)
  | .svL2 f => f.wf
  | .ptp d m => decide (d < 256) && m.wf
  | .tcp _ sp dp => u16 sp && u16 dp
  | .udp6 dp => u16 dp
  | _ => true

/-- A received frame: fewer bytes than a 14-bit count. -/
def RxFrame.wf (f : RxFrame) : Bool := decide (f.len < 2 ^ 14) && f.body.wf

/-- A TCP segment: 16-bit window and MSS, a window shift below 15. -/
def TcpSeg.wf (g : TcpSeg) : Bool :=
  u16 g.window && (match g.mss with | some m => u16 m | none => true) &&
  (match g.wscale with | some n => decide (n < 15) | none => true)

/-- A change entry (Table EMP-7). -/
def ChangeEntry.wf (e : ChangeEntry) : Bool :=
  decide (e.sect < 256) && decide (e.table < 256) && u16 e.index && u16 e.lsb && decide (1 ≤ e.width ∧ e.width ≤ 32) && u32 e.value

/-- A Woide frame: 32-bit sequence numbers and a nonce counter of 64 bits (Table PAI-2). -/
def WoideFrame.wf (f : WoideFrame) : Bool :=
  u32 f.seq && u32 f.ack && decide (f.nctr < 2 ^ 64) && (match f.body with | .change _ cs => cs.all ChangeEntry.wf | _ => true)

/-- An EMP request (Table EMP-1, R433): an octet of version, a payload within one datagram. -/
def EmpReq.wf (q : EmpReq) : Bool := decide (q.version < 256) && decide (q.payload.length ≤ 1424)

/-- Whether a command is well formed. -/
def Instr.wf : Instr → Bool
  | .beatBoundary b => decide (b.temps.length = 8) && decide (b.rails.length = 6)
  | .frameReceive _ f => f.wf
  | .pauseFrame _ q => u16 q
  | .pfcFrame _ _ qs => decide (qs.length = 8) && qs.all u16
  | .tcpSegment _ g => g.wf
  | .uncorrectableError _ u => u16 u
  | .correctableError _ u => u16 u
  | .ringOverwriteLoss q _ => u32 q
  | .woideFrameReceive f => f.wf
  | .touchMeasure _ n => u16 n
  | .vbatRead mv => u16 mv
  | .emOpen q | .emClose q | .emStatus q | .emRead q | .emWrite q | .emChangeSet q | .emAttnAck q
  | .emStageBegin q | .emStageData q | .emStageEnd q | .emActivate q | .emRestart q | .emZeroise q
  | .emOwnerEnrol q | .emPairEnrol q | .emRekeyDone q | .emForce q | .emUnforce q | .emReplayStart q | .emReplayStop q
  | .emFlush q | .emReleaseCell q _ | .emHoldover q | .emShed q | .emTrigger q | .emLocate q | .emHandover q
  | .emBboxRaw q | .emBboxClear q => q.wf
  | .emKeyLoad q w => (q.carrying w).wf
  | _ => true

end Sys2Proof
end

