-- ==== Sys2Proof/Tests/Slice0.lean ====
section
/-! SUPPORT. The model's own tests: for each statement with hypotheses a state and operands that meet them (test_meets_…), for each check of
WellFormed a command that it refuses, and small checks of single steps. -/

open Sys2Proof Sys2Proof.Machine

namespace Sys2Proof.Tests

/- The proofs below are checked by the kernel one after another: each waits for every declaration before it, and many at once would each hold a thread. -/
set_option Elab.async false

/-- A device in ACTIVE. -/
def act : State := { State.reset with boot := { BootSt.reset with mode := .active, running := true, mgmtUp := true } }

/-- The same with records of an image. -/
def withImg (l : List ((Tbl × Nat) × Nat)) : State := { act with img := l }

/-- DT at an instant. -/
def atDt (n : Ns) (s : State) : State := { s with time := { s.time with acc := n * 2 ^ 40 } }

/-- LTS at an instant. -/
def atLts (n : Ns) (s : State) : State := { s with time := { s.time with lts := n } }

/-- The main rails are down. -/
def noRails : State := { State.reset with boot := { BootSt.reset with rails := false } }

/-- The island has no power. -/
def noIsland : State := { State.reset with boot := { BootSt.reset with island := false } }

/-- POWER_FAIL_N is asserted. -/
def failing : State := { act with ext := { act.ext with powerFail := true } }

/-- A slot is tried. -/
def trying : State := { State.reset with boot := { BootSt.reset with trying := true } }

/-- A slot that cannot be read. -/
def badFlash : LoadVerdict :=
  { headersOk := true, flashOk := false }

/-- WARMUP with a timeout of 1 s that is over. -/
def warming : State := atLts 1000000000 { act with boot := { act.boot with mode := .warmup }, img := [((.header, 0), 9173994463960286046443283581208347763186259956673124494950355357547691504353939232280074212440502746218496)] }

/-- A majority for 10 s. -/
def locked : State := { act with time := { act.time with lockSecs := 10, majority := true } }

/-- An owner key burns. -/
def burning : State := { act with otp := { act.otp with burning := some (false, [1#8]) } }

/-- A time base away from its source. -/
def offBase (n : Int) : State :=
  { withImg [((.timeHdr, 0), 837987995621412318723376562387865382967460363787024586107722590232610251879596686050117143635431464230626991136655378178359617675746660621652103062880256)] with time := { TimeSt.reset with bases := { BaseSt.reset with offset := n } :: List.replicate 3 BaseSt.reset } }

/-- An Announce message. -/
def ann : Announce :=
  { gm := 1, prio1 := 0, clockClass := 6, accuracyNs := 0, variance := 0, prio2 := 0, stepsRemoved := 0, inaccuracyNs := none
    utcOffset := none, leap61 := false, leap59 := false }

/-- A master heard at 0. -/
def foreign : Foreign := { port := 0, ann := ann, at_ := 0, interval := 1000 }

/-- A PTP frame of a domain. -/
def ptpFrame (d : Nat) : PtpIn := { port := 0, len := 64, vid := 0, udp := false, stamp := 0, domain := d, msg := .other }

/-- A port in use. -/
def onPort : PortSt := { PortSt.reset with on := true, link := true }

/-- The port with frames in a queue. -/
def withQueue (x : PortSt) (q : Nat) (l : List TxFrame) : PortSt := { x with queues := setAt x.queues q l }

/-- A line port in use, with fields of its record. -/
def linked (p r : Nat) : State :=
  { withImg [((.port, p), 57896044618658097711785492504343953926634992332820282019728792003956564819968 + r)] with ports := setAt act.ports p onPort }

/-- The same without its link. -/
def unlinked (p : Nat) : State := { linked p 0 with ports := setAt act.ports p { onPort with link := false } }

/-- A PTP frame waits, its domain is served on port 0, and a master has been silent. -/
def ptpS (d : Nat) : State :=
  { linked 0 0 with
    img := [((.ptpRec, 0), 59705296012991163265278789145104702486842335843220915832845316754080207470592), ((.port, 0), 57896044618658097711785492504343953926634992332820282019728792003956564819968)]
    time := { TimeSt.reset with lts := 3000, ptpIn := [ptpFrame d]
                                ptp := { PtpSt.reset with master := some foreign, foreign := [foreign] } :: [PtpSt.reset] } }

/-- A time base has the wired source 3 or 4. -/
def wired (n : Nat) : State := withImg [((.timeHdr, 0), if n = 3 then 2513963986864236956170129687163596148902381091361073758323167770697830755638790058150351430906294392691880973409966134535078853027239981864956309188640768 else 3351951982485649274893506249551461531869841455148098344430890360930441007518386744200468574541725856922507964546621512713438470702986642486608412251521024)]

/-- An edge at the start. -/
def edged : State := { act with cap := { act.cap with levels := [(0, true, 0)] } }

/-- A tag. -/
def tag : VTag := { tpid := 0x8100#16, vid := 1#12, pcp := 0#3 }

/-- A received frame. -/
def frame (n : Nat) (fcs : Bool) (tags : List VTag) (dst : BitVec 48) (b : RxBody) : RxFrame :=
  { len := n, fcsGood := fcs, tags := tags, dst := dst, src := 0x020000000001#48, sfdAgo := 0, keyEnd := 60, body := b }

/-- A queue held without a break for 100 ms. -/
def stalling : State :=
  atLts 100000000 { linked 0 0 with ports := setAt act.ports 0 { onPort with heldFrom := [(0, 0)], pause := [(0, 200000000)] } }

/-- A frame to send at once. -/
def plainFrame : TxFrame :=
  { launch := 0, len := 64, vid := 0, dstMac := 1, dstIp := 0, dport := 0, service := false, pcp := 0, body := .empReply [] }

/-- A frame in queue 0 of a port. -/
def queued (p : Nat) : State := { act with ports := setAt act.ports p (withQueue onPort 0 [plainFrame]) }

/-- A frame whose launch time is past. -/
def queuedLate : State := atDt 1000 { act with ports := setAt act.ports 0 (withQueue onPort 0 [{ plainFrame with launch := 1 }]) }

/-- An empty cage. -/
def caged : State := { act with cages := setAt act.cages 0 { CageSt.reset with present := false } }

/-- A connection of SID 5 on port 0. -/
def conned (c : TcpConn) : State := { linked 0 0 with img := [((.port, 0), 57896044618658097711785492504343953926634992332820282019728792003956564819968), ((.stream, 5), 7541891960592710868510389061490788446707143274083221274969503312093492266916370174451054292718883178075642920229898403605236559081719945594868927565922304)], tcp := [(5, c)] }

/-- A connection that has sent its SYN. -/
def synSent : TcpConn := { TcpConn.reset with st := .synSent, sndNxt := 8, sndUna := 7 }

/-- A C37.118.2 frame of IDCODE 7. -/
def c37Body : RxBody := .udp 1 2 3 4712 16 (.c37 [0xAA, 0x01, 0, 16, 0, 7])

/-- A descriptor of SID 3 on line port 1 alone. -/
def wrongPort : Nat := 6808652486276214941839380189072587030825032793420547809038881053530765263435056688328745832252381889124129088398969866533040846901299946786772424855650304

/-- A port with one frame in its buffer. -/
def oneIn (b : RxBody) : PortSt :=
  { onPort with ingress := [{ stamp := 0, tcp := none, frame := frame 64 true [] 0x010000000000#48 b }], used := 64 }

/-- That frame on port 0, beside a descriptor. -/
def buffered (d : Nat) (b : RxBody) : State :=
  { linked 0 0 with img := [((.port, 0), 57896044618658097711785492504343953926634992332820282019728792003956564819968), ((.stream, 3), d)], ports := setAt act.ports 0 (oneIn b) }

/-- SID 5 with its state. -/
def streamed (x : StreamSt) : State := { withImg [((.stream, 5), 6703903964971298549787012499102923063739682910296196688861780721862871307982412634969558678076038997205417753696432416296638797313545922961266958005174272)] with streams := [(5, x)] }

/-- A command frame. -/
def subReq : SubReq := { port := 0, vid := 0, mac := 1, ip := 1, dport := 1, len := 18, bytes := [] }

/-- Region 0's slice. -/
def sliced (x : SliceSt) : State := { act with align := { act.align with slices := setAt act.align.slices 0 x } }

/-- An empty row. -/
def row (t : Ns) : Row :=
  { tag := t, seq := 0, slot := 0, entries := [], retired := false, groups := [], sets := [], short := false, conflicts := 0, places := none }

/-- A delivery of SID 5. -/
def delivery : Delivery :=
  { sid := 5, kind := 0, tag := 0, gridOff := 0, arrival := 0, test := false, unsync := false, auth := false, mirror := false
    cfgChange := false, blockInvalid := false, behind := false, tq := 0, port := 0, digest := 0, len := 64, badBlocks := []
    bytes := [], asdus := [] }

/-- A watch group in region 0 with a row. -/
def grouped (w : Row) : State := { sliced { SliceSt.reset with rows := [w] } with img := [((.group, 0), 170141183460469231731687303715884105728)] }

/-- An output set whose launch entry stands in region 0. -/
def outed (l : List Row) : State := { sliced { SliceSt.reset with rows := l } with img := [((.outSet, 0), 170141183460469231731687303715884105728), ((.post, 0), 11529215046068469760)] }

/-- Lane 0 in use. -/
def laned (x : LaneSt) : State :=
  { withImg [((.lane, 0), 175458096235890520365945907892444987392)] with swage := { act.swage with lanes := setAt act.swage.lanes 0 x } }

/-- A frame of lane 0 with SEQ 0 and one sample of 16 bits. -/
def laneBits : Bytes := [0xF0, 0xA5, 0x00, 0x00, 0x10, 0x12, 0x34, 0x00].dropLast ++ [crc8 [0x00, 0x00, 0x10, 0x12, 0x34]]

/-- An input queue. -/
def banked (q : QueueSt) : State := { act with swage := { act.swage with queues := setAt act.swage.queues 0 q } }

/-- A queue word in which no record starts. -/
def word : QWord := { bytes := [], firstRec := 63, valid := 32, ecc := 0 }

/-- A sample of a stream is due. -/
def sampled : State := { act with swage := { act.swage with chains := [(104, { ChainSt.fresh with next := some 0 })] } }

/-- An estimate of channel 9 is due. -/
def estimating : State :=
  atDt 1000000000 { withImg [((.chan, 8), 36185027886661311069865932815214971204146870208012676262330495002472853012480), ((.chan, 9), 101318078298331244332829730239938040067768281971532648914856883384780511510528)] with
    swage := { act.swage with ests := [(9, { EstSt.fresh with next := some 0, nextFast := some 0 })] } }

/-- A replay of lane 0. -/
def replaySt : ReplaySt := { h0 := 0, lengthMs := 10, p0 := 0, mask := 1, lane0 := [(0, 0)], lane1 := [], n0 := 0, n1 := 0, upTo := 0 }

/-- A replay runs. -/
def replaying : State := { act with boot := { act.boot with mode := .replay }, swage := { act.swage with replay := some replaySt } }

/-- A work item of template 0 in region 0. -/
def item (n : Nat) (c : ItemCtx) : Item :=
  { template := 0, cls := 0, prio := 0, origin := 0, region := 0, reissued := false, firstCell := 0, arg := n, due := 0, posted := 0
    seq := 0, row := 0, ctx := c, waited := false, late := false, written := false }

/-- The closed set of a group. -/
def groupSet (g : Nat) : GroupSet := { group := g, tag := 0, short := false, closed := 0, members := [] }

/-- A cell that runs an item. -/
def runs (it : Item) : CellSt := { CellSt.reset with run := some it }

/-- A cell's state. -/
def celled (x : CellSt) : State := { act with sch := { act.sch with cells := setAt act.sch.cells 0 x } }

/-- The bank's kernel runs, location set 2 is pending and set 3 runs. -/
def osc : State :=
  { celled { CellSt.reset with run := some (item 0 .plain) } with
    img := [((.kernel, 0), 83076749736557242056487941267521536), ((.oscBand, 0), 1246151246048358630847319119012823040), ((.signal, 0), 171470411456254147604591110776164450304), ((.locSet, 2), 170141183460469231731687303715884105728), ((.locSet, 3), 170141183460469231731687303715884105728)]
    sch := { act.sch with cells := setAt act.sch.cells 0 { CellSt.reset with run := some (item 0 .plain) }, beat := some (0, 0), beats := 1 }
    osc := { act.osc with locs := [(2, { running := none, startedAt := 0, pending := some (0, 0, 0), pendAt := 0, spoilt := false }),
                                   (3, { running := some (0, 0, 0), startedAt := 0, pending := none, pendAt := 0, spoilt := false })] } }

/-- A closed set waits for the evaluation cell, and group 7's item runs. -/
def isl : State :=
  { act with
    img := [((.watched, 0), 1), ((.kernel, 0), 5192296858534827628530496329220096)]
    sch := { act.sch with cells := setAt (setAt act.sch.cells 0 { CellSt.reset with resv := 0x80 }) 1 (runs (item 0 (.group (groupSet 7)))) }
    isl := { act.isl with block := some 0, waiting := [groupSet 0] } }

/-- A scan of task 0 runs. -/
def scanning : State :=
  { act with
    img := [((.kernel, 0), 166153499473114484112975882535043072), ((.task, 0), 57896044618658097711785492504343953926634992332820282019728792003956564819968)]
    sch := { act.sch with cells := setAt act.sch.cells 0 { CellSt.reset with run := some (item 0 (.group (groupSet 0))) } }
    logic := { act.logic with snaps := [{ task := 0, tag := 1000, forces := [], vals := [] }] } }

/-- A digital output. -/
def doing (x : DoSt) : State := { act with logic := { act.logic with dos := setAt act.logic.dos 0 x } }

/-- An output stream. -/
def pubbed (x : PubStream) : State := { act with pub := { act.pub with streams := setAt act.pub.streams 0 x } }

/-- A trip of output 4 that repeats. -/
def tripped (n : Nat) : State := { act with logic := { act.logic with trips := [{ out := 4, tag := 0, left := n, due := 0 }] } }

/-- A trigger. -/
def trig : Trig := { dt := 0, sub := 0, reach := 0, kind := 2, src := 0, mask := 1, drive := false, tsw := 0, queued := false }

/-- It waits. -/
def triggered : State := { act with cap := { act.cap with trigs := [trig] } }

/-- A capture record that stops at an instant. -/
def capRec (stop : Ns) : CapRec :=
  { seq := 1, cls := 0, st := .collecting, trig := trig, list := [], overflow := false, preShort := false, truncated := false
    aborted := false, replay := false, spanStart := 0, spanEnd := 0, postEnd := stop, stop := stop, preUs := 0, div := 0, div0 := 0
    segs := [], nextTag := 0, idx := 0, moved := 0, dataLen := 0, lostRows := 0, lost := [], offset := 0, len := 0, completedAt := 0
    limited := false }

/-- Class 0 with record 1. -/
def captured (x : CapState) : State :=
  { withImg [((.capClass, 0), 8379879956214123187233765623878653829674603637870245861077225902326102518795966860501171436354314642306269911366553781783596176757466606216521030628802560)] with
    sch := { act.sch with beat := some (0, 0) }
    cap := { act.cap with recs := [capRec 0], classes := setAt act.cap.classes 0 { CapCls.reset with st := x, rec_ := 1 } } }

/-- Record 1's sample at 0 is gone from the ring. -/
def losing : State :=
  { withImg [((.capClass, 0), 6703903965166407834181762013564272890601755804405484072778341418789579325013359222077172500340970845286484177290732208621964855336938783453172342334685184), ((.chList, 0), 0), ((.chan, 0), 94081072505319408781651425319558925130781862540832958282059287006429417832448)] with
    align := { act.align with localRing := [(0, 1, 0)] }
    cap := { act.cap with recs := [capRec 9] } }

/-- A device of a pair. -/
def woide (x : LinkState) : State :=
  { withImg [((.header, 0), 34622310392506957584946940144288832324819178359103260074178033026772100877957520390515409281853501465865381150278099185099233529659567999369251322492547208112268029722558797196081988742442283240850996127872528443254245182193766350116513179157596502523218400437714157458948096)] with
    ports := setAt act.ports 4 onPort
    vault := { act.vault with slots := [(8, { h0 := some { key := 1, keyId := 0, kcv := 0, gen := 1, engines := 4, life := 0, uses := 0, fresh := true }
                                              h1 := none, commit := false, pending := false })] }
    pair := { PairSt.reset with link := x, partner := some 3, helloDue := some 0, ackDue := some 0, role := .primary } }

/-- An acknowledgement of the partner's session 3. -/
def ackFrame : WoideFrame := { session := 3, nctr := 1, seq := 0, ack := 0, ackMap := 0, src := 1, tag := 0, body := .ack }

/-- A frame that has not been acknowledged. -/
def woideSent (n : Nat) : State :=
  atLts 200000 { woide .up with pair := { (woide .up).pair with sent := [{ f := ackFrame, at_ := 0, tries := n }] } }

/-- A primary that leaves. -/
def leavingS : State := { woide .up with boot := { act.boot with evs := [.critical] } }

/-- A primary that sees the token of a primary. -/
def splitting : State := { woide .up with pair := { (woide .up).pair with token := some 3 } }

/-- A region's lists. -/
def regd (x : RegSt) : State := { act with sch := { act.sch with regs := setAt act.sch.regs 0 x } }

/-- A region below its threshold for 2,400 beats. -/
def heated : State := { act with sens := { act.sens with level := [1, 0, 0, 0], below := [2400, 0, 0, 0] } }

/-- A session on MGP. -/
def sess : Sess := { svp := false, id := 7, high := 4, done := [], cache := [], at_ := 0 }

/-- A request of that session. -/
def req : EmpReq :=
  { svp := false, src := 1, version := 1, session := 7, seq := 5, object := 0, offset := 0, clear := false, payload := [] }

/-- The session exists. -/
def empS : State := { act with emp := { act.emp with sessions := [sess] } }

/-- A request as one on SVP. -/
def svcReq (q : EmpReq) : EmpReq := { q with svp := true }

/-- A request on SVP. -/
def sreq : EmpReq := svcReq req

/-- A session on SVP with SERVICE authority. -/
def empSvc : State :=
  { act with emp := { act.emp with sessions := [{ sess with svp := true }] }
             panel := { act.panel with svcKey := true, svpEnd := some 1800000000000 } }

/-- A write of four bytes. -/
def wreq (o : BitVec 32) : EmpReq := { req with object := o, payload := [0, 0, 0, 1] }

/-- An entry of a section that has no values to change. -/
def badEntry : ChangeEntry := { sect := 0, table := 0, index := 0, lsb := 0, width := 1, value := 0 }
/-- An entry of TIME. -/
def goodEntry : ChangeEntry := { sect := 2, table := 0, index := 0, lsb := 400, width := 16, value := 1 }
/-- An entry of the logic program. -/
def varEntry : ChangeEntry := { sect := 10, table := 1, index := 0, lsb := 32, width := 32, value := 5 }

/-- The request of a set of one entry. -/
def creq (e : ChangeEntry) : EmpReq := { req with payload := [1, 0, 0, 0, 0, 0, 0, 0] ++ entryBytes e }

/-- A device with a variable that can be changed. -/
def changing : State := { empS with img := [((.var, 0), 7975367974709495237422842361682067456), ((.logicHdr, 0), 47634102635436893179040485073748265163400240214004076398607741693502376385799646303105256699577209032590132615988260237052123652332890095616)] }

/-- A STAGE_BEGIN with a blank header. -/
def sbeg : EmpReq := { req with object := 0xFFFFFFFF, payload := List.replicate 128 0xFF }

/-- A staging receives an image of 100 bytes. -/
def staging : State :=
  { empS with emp := { empS.emp with stage := { StageSt.reset with
      st := .receiving, slot := 1, owner := some (false, 7), header := natBe 128 806113481347145456470245033136774607114940377862734256176697859232595676508674407157008752269984722739676506032191663633548503966526314601517546048680022547772806829832466253919573238642008119282568714764726544806134076374437807829038081205394037592299710969387417600 } } }

/-- Its one piece. -/
def sdat : EmpReq := { req with payload := List.replicate 100 0x11 }

/-- An image is staged. -/
def stagedS : State := { staging with emp := { staging.emp with stage := { staging.emp.stage with st := .staged } } }

/-- A key load of slot 16. -/
def kreq : EmpReq := { sreq with object := 16, payload := natBe 20 742358356541286648447011757719054981991829078016 ++ List.replicate 157 0 }

/-- UNCONFIGURED with SERVICE authority. -/
def unconf : State := { empSvc with boot := { act.boot with mode := .unconfigured, mgmtUp := false } }

/-- A payload of 97 bytes. -/
def oreq : EmpReq := { sreq with payload := List.replicate 97 4 }

/-- TAMPERHOLD with SERVICE authority. -/
def held : State := { empSvc with boot := { act.boot with mode := .tamperhold } }

/-- A replay of 10 ms with no lane from 2 s on. -/
def rreq : EmpReq :=
  { sreq with payload := natBe 8 0 ++ natBe 4 10 ++ natBe 8 (tim1 2000000000) ++ List.replicate 132 0 }

/-- A force of DO15 to TRUE. -/
def freq : EmpReq := { sreq with object := 65551, payload := [0, 0, 0, 1] }

/-- A variable that can be forced. -/
def varS : State := withImg [((.var, 0), 7975367974709495237422842361682067456), ((.logicHdr, 0), 47634102635436893179040485073748265163400240214004076398607741693502376385799646303105256699577209032590132615988260237052123652332890095616)]

/-- A primary that may hand over. -/
def handing : State :=
  { woide .up with
    emp := empS.emp
    pair := { (woide .up).pair with digest := some { beatDt := 0, mode := Mode.standby.code, role := 2, unfit := false, mirrorValid := true
                                                     mapHash := 0, ovCrc := 0, claims := [], tasks := [] } } }

/-- A touch key about to be touched, and one held. -/
def touch1 : Touch := { baseline := 100, count := 104, above := 1, touched := false, since := 0 }
/-- The one held. -/
def touch2 : Touch := { baseline := 100, count := 104, above := 0, touched := true, since := 0 }

/-- DORMANT with an empty battery. -/
def dormant : State := { State.reset with boot := { BootSt.reset with mode := .dormant }, sens := { State.reset.sens with vbat := 1999 } }

/-- POWER_FAIL_N is asserted where no beats run. -/
def failingReset : State := { State.reset with ext := { act.ext with powerFail := true } }

/-- The firmware of the running image is down. -/
def firmDown : State := { act with boot := { act.boot with mgmtUp := false } }

/-- A PPS edge has come. -/
def ppsSeen : State := { wired 3 with time := { (wired 3).time with gnss := { (wired 3).time.gnss with edge := some 0 } } }

/-- An open connection. -/
def opened : TcpConn := { synSent with st := .open }

/-- A PTP message. -/
def ptpBody : RxBody := .ptp 0 .other

/-- A sampled-value frame of two ASDUs. -/
def svBody : RxBody :=
  .svL2 { sessionId := 0xA2, encrypted := false, apduCount := 1, berOk := true, appid := 0, svidCrc := 0, simulation := false, dataLen := 8
          asdus := [{ smpCnt := 0, smpSynch := 2, confRev := 1, samples := [] }, { smpCnt := 1, smpSynch := 2, confRev := 1, samples := [] }]
          auth := none, apdu := [] }

/-- Its descriptor on port 0. -/
def svDesc : Nat := 9270242201561873775877353221415760799077530311970640808198012800679940460047430777440341684000078504367966633964594522931838365957131407283325638644072448

/-- Its slice is stalled. -/
def stalledSlice : State :=
  { buffered svDesc svBody with align := { act.align with slices := setAt act.align.slices 0 { SliceSt.reset with stall := true } } }

/-- A turn-on command of a subscriber: id 7. -/
def onBytes : Bytes := [0xAA, 0x41, 0, 18, 0, 7, 0, 0, 0, 0, 0, 0, 0, 0, 0, 2]

/-- The same with its check word. -/
def onReq : SubReq := { port := 0, vid := 0, mac := 1, ip := 1, dport := 1, len := 18, bytes := onBytes ++ natBe 2 (crcCcitt onBytes).toNat }

/-- The subscriber is peer 1 of output stream 0. -/
def subscribed : State :=
  { withImg [((.outSet, 0), 170141183460469231731687303715884105728), ((.outStream, 0), 333438718448058252253283395516237865317796145458314581233537773062864397886857480794861291847395820775822432665857053939439078006832976887808), ((.peer, 1), 72370055773322622139756385559089505620798297807983990615495134555519884197888)] with pub := { act.pub with cmds := [onReq] } }

/-- A slice with an open row and a value for it. -/
def rowSlice : SliceSt := { SliceSt.reset with queue := [.frame delivery], rows := [row 0], first := some 0, next := some 1000000000 }

/-- The slice in region 0, whose rows retire after 1 s. -/
def waitingRow : State :=
  { withImg [((.slice, 0), 249309477390632734580766919368900608)] with align := { act.align with slices := setAt act.align.slices 0 rowSlice } }

/-- An evaluation runs. -/
def islRunning : State :=
  { isl with sch := { isl.sch with cells := setAt isl.sch.cells 0 { CellSt.reset with resv := 0x80, run := some (item 0 (.evaluation 1)) } } }

/-- A scan of a HISKA program that traps at its first word. -/
def trapping : State := { scanning with img := scanning.img ++ [((.logicHdr, 0), 3351951982485649274893506249551471860869353802782456968107578372977938326341558061094519897179152019512996031911400031294851591254312386099296303241494528)] }

/-- A region whose ready queue is full. -/
def fullReady : State := regd { RegSt.reset with ready := List.replicate 4096 (item 0 .plain) }

/-- A reply that is kept. -/
def cachedReply : Reply :=
  { svp := false, dst := 1, opcode := 3, session := 7, seq := 5, service := false, cached := false, result := rOk, status := 0, attnHead := 0
    object := 0, offset := 0, payload := [] }

/-- The session has executed the request. -/
def empCached : State :=
  { act with emp := { act.emp with sessions := [{ sess with high := 5, done := [5], cache := [{ seq := 5, crc := reqCrc 3 req, reply := some cachedReply }] }] } }

/-- A device of a pair with a session. -/
def pairSets (x : LinkState) : State := { woide x with emp := empS.emp }

/-- An image is staged in UNCONFIGURED. -/
def unconfStaged : State := { unconf with emp := { unconf.emp with stage := stagedS.emp.stage } }

/-- The running slot is GOOD. -/
def goodSlot : State := { empS with flash := (empS.appendStatus 0 stGood 0 0).flash }

/-- States and operands that meet the hypotheses of StepRunsTheFrontCommand, clause by clause. -/
theorem test_meets_StepRunsTheFrontCommand :
    ({ State.reset with pending := [.launchStrobe] }.pending = .launchStrobe :: ([] : List Instr)) ∧
    (State.reset.pending = []) := by
  decide +kernel

/-- States and operands that meet the hypotheses of MainPowerLossAndReturn, clause by clause. -/
theorem test_meets_MainPowerLossAndReturn :
    (State.reset.boot.rails = true) ∧
    (noRails.boot.rails = false ∧ noRails.boot.island = true) ∧
    (State.reset.boot.island = true ∧ State.reset.bbx.queue.length < 16) ∧
    (noIsland.boot.island = false) := by
  decide +kernel

/-- States and operands that meet the hypotheses of ResetPulseWidths, clause by clause. -/
theorem test_meets_ResetPulseWidths :
    (State.reset.boot.rails = true ∧ State.reset.boot.island = true ∧ 999 < 1000 ∧ 10000 ≤ 10000 ∧ 1000 ≤ 1000 ∧
      1000 < 10000) ∧
    (act.beatsRun = true ∧ act.boot.rails = true ∧ act.boot.island = true) ∧
    (State.reset.beatsRun = false) ∧
    (noRails.boot.rails = false) ∧
    (noIsland.boot.island = false) := by
  decide +kernel

/-- States and operands that meet the hypotheses of IslandResetAndStart, clause by clause. -/
theorem test_meets_IslandResetAndStart :
    (State.reset.boot.island = true ∧ State.reset.boot.mode ≠ .dormant) ∧
    (noIsland.boot.island = false) ∧
    (dormant.boot.island = true ∧ dormant.boot.mode = .dormant ∧ dormant.sens.vbat < 2000) ∧
    (noIsland.boot.rails = true) ∧
    ({ noIsland with boot := { noIsland.boot with rails := false } }.boot.rails = false) := by
  decide +kernel

/-- States and operands that meet the hypotheses of PowerFailAndReturn, clause by clause. -/
theorem test_meets_PowerFailAndReturn :
    (State.reset.ext.powerFail = false ∧ State.reset.boot.island = true) ∧
    (failing.ext.powerFail = true ∧ failing.boot.rails = true ∧ failing.boot.island = true ∧ failing.beatsRun = true) ∧
    ((woide .up).ext.powerFail = false ∧ (woide .up).boot.island = true ∧ (woide .up).works = true ∧
      (woide .up).paired = true ∧ (woide .up).pair.role = .primary) ∧
    (noIsland.ext.powerFail = false ∧ noIsland.boot.island = false) ∧
    (failingReset.ext.powerFail = true ∧ failingReset.boot.rails = true ∧ failingReset.boot.island = true ∧
      failingReset.beatsRun = false) ∧
    ({ failing with boot := { failing.boot with rails := false } }.boot.rails = false) := by
  decide +kernel

/-- States and operands that meet the hypotheses of TamperZeroisesKeys, clause by clause. -/
theorem test_meets_TamperZeroisesKeys :
    (State.reset.tamperSources [0] ≠ []) ∧
    (State.reset.tamperSources [7] = []) ∧
    (burning.tamperSources [0] ≠ [] ∧ burning.otp.burning = some (false, [1#8])) ∧
    ({ burning with otp := { burning.otp with burning := some (true, [1#8]) } }.otp.burning = some (true, [1#8])) := by
  decide +kernel

/-- States and operands that meet the hypotheses of LoadVerdicts, clause by clause. -/
theorem test_meets_LoadVerdicts :
    (trying.loads = true ∧ trying.boot.trying = true) ∧
    (trying.loadCode 0 badFlash = some (0x12, 0) ∧ trying.boot.slot = 0 ∧ trying.slotState 0 ≠ stTrial ∧
      trying.candidate (1 - trying.boot.slot) = false) ∧
    ({ trying with boot := { trying.boot with slot := 1 } }.boot.slot ≠ 0) ∧
    (act.loads = false) := by
  decide +kernel

/-- States and operands that meet the hypotheses of StartUpEvents, clause by clause. -/
theorem test_meets_StartUpEvents :
    (firmDown.boot.mgmtUp = false ∧ firmDown.boot.island = true ∧ firmDown.boot.rails = true ∧
      firmDown.boot.running = true) ∧
    (trying.boot.mgmtUp = false ∧ trying.boot.running = false ∧ trying.boot.trying = true ∧
      trying.loadCode trying.boot.slot .answered ≠ none) ∧
    (act.boot.mgmtUp = true) ∧
    (warming.boot.mode = .warmup ∧
      warming.boot.warmAt + headerWarmupTimeout (warming.rec_ .header 0) * 1000000000 ≤ warming.lts) ∧
    (locked.dtRuns = true ∧ 10 ≤ locked.time.lockSecs ∧ locked.time.majority = true) ∧
    (burning.otp.burning = some (false, [1#8])) ∧
    ({ burning with otp := { burning.otp with burning := some (true, [1#8]) } }.otp.burning = some (true, [1#8])) ∧
    (act.otp.burning = none) := by
  decide +kernel

/-- States and operands that meet the hypotheses of BaseStepsToItsSource, clause by clause. -/
theorem test_meets_BaseStepsToItsSource :
    ((offBase 1001).time.bases[0]? = some { BaseSt.reset with offset := 1001 } ∧ (offBase 1001).dtRuns = true ∧
      (offBase 1001).baseSrc 0 ≠ 0 ∧ 1000 < (1001 : Int).natAbs) ∧
    ((offBase (-1000)).time.bases[0]? = some { BaseSt.reset with offset := -1000 } ∧ (offBase (-1000)).baseSrc 0 ≠ 0 ∧
      (-1000 : Int).natAbs ≤ 1000) := by
  decide +kernel

/-- States and operands that meet the hypotheses of VotesAndReferenceLoss, clause by clause. -/
theorem test_meets_VotesAndReferenceLoss :
    ((atDt 2000000000 act).dtRuns = true ∧ (atDt 2000000000 act).time.voteSec < (atDt 2000000000 act).dt / 1000000000) ∧
    (act.dtRuns = true ∧ act.dt / 1000000000 ≤ act.time.voteSec ∧ act.time.refLost = false) ∧
    (noRails.dtRuns = false ∨ dormant.dtRuns = false) ∧
    ({ act with time := { act.time with refLost := true } }.time.refLost = true) := by
  decide +kernel

/-- States and operands that meet the hypotheses of TimeSourcesAreRead, clause by clause. -/
theorem test_meets_TimeSourcesAreRead :
    ((ptpS 0).ptpRecOf 0 0 = some 0 ∧ (ptpS 0).time.ptpIn = [ptpFrame 0] ∧
      ptpRecVlanId ((ptpS 0).rec_ .ptpRec 0) = (ptpFrame 0).vid) ∧
    ({ ptpFrame 0 with vid := 7 }.vid ≠ ptpRecVlanId ((ptpS 0).rec_ .ptpRec 0)) ∧
    ((ptpS 1).ptpRecOf 0 1 = none ∧ (ptpS 1).time.ptpIn = [ptpFrame 1]) ∧
    (act.time.ptpIn = []) ∧
    (((ptpS 0).port 0).on = true ∧ ptpRecValid ((ptpS 0).rec_ .ptpRec 0) = 1 ∧
      bitAt (ptpRecPortMask ((ptpS 0).rec_ .ptpRec 0)) 0 = true ∧ 0 < (ptpS 0).time.ptp.length) ∧
    (((ptpS 0).ptpSt 0).master = some foreign ∧
      ((ptpS 0).ptpSt 0).foreign.find? (fun f => f.port == foreign.port && f.ann.gm == foreign.ann.gm) = some foreign ∧
      foreign.at_ + 3 * foreign.interval ≤ (ptpS 0).lts) ∧
    ((wired 3).dtRuns = true ∧ (wired 3).basesOf 3 ≠ [] ∧
      b2n false = timeHdrGnssPpsFalling ((wired 3).rec_ .timeHdr 0) ∧
      b2n true ≠ timeHdrGnssPpsFalling ((wired 3).rec_ .timeHdr 0)) ∧
    (timeHdrGnssTodNext ((wired 3).rec_ .timeHdr 0) ≠ 1 ∧ ppsSeen.time.gnss.edge = some 0 ∧
      ppsSeen.lts < 0 + 1000000000 ∧ ppsSeen.basesOf 3 ≠ []) ∧
    (timeHdrGnssTodNext ((withImg [((.timeHdr, 0), 1018517988167243043134222844204689080525734196832968125318070224677190649881668353091698688)]).rec_ .timeHdr 0) = 1) ∧
    ((wired 4).dtRuns = true ∧ (wired 4).basesOf 4 ≠ [] ∧ timeHdrIrig1344 ((wired 4).rec_ .timeHdr 0) ≠ 1) ∧
    (timeHdrIrig1344 ((withImg [((.timeHdr, 0), 254629497041810760783555711051172270131433549208242031329517556169297662470417088272924672)]).rec_ .timeHdr 0) = 1) := by
  decide +kernel

/-- States and operands that meet the hypotheses of TriggerEdgesLessThan8nsApartAreLost, clause by clause. -/
theorem test_meets_TriggerEdgesLessThan8nsApartAreLost :
    (edged.dtRuns = true ∧ edged.cap.levels.find? (fun e => e.1 == 0) = some (0, true, 0) ∧ finePs edged.dt 0 < 0 + 64) ∧
    (act.cap.levels.find? (fun e => e.1 == 0) = none) ∧
    ({ act with boot := { act.boot with mode := .dormant } }.dtRuns = false) ∧
    (act.dtRuns = true ∧ (act.cap.stamps.filter (fun y => y.input == 0)).length < 16) ∧
    ((0 : Nat) + 64 ≤ finePs (atDt 8 edged).dt 0) := by
  decide +kernel

/-- States and operands that meet the hypotheses of ReceivedFramesDroppedByLengthFcsTagsAndAddress, clause by clause. -/
theorem test_meets_ReceivedFramesDroppedByLengthFcsTagsAndAddress :
    ((linked 0 0).portTakes 0 = true ∧ (frame 63 true [] 0 .other).len ≤ 63) ∧
    (64 ≤ (frame 64 false [] 0 .other).len ∧ (frame 64 false [] 0 .other).fcsGood = false) ∧
    (maxFrame ((linked 0 0).rec_ .port 0) (min (knownTags (frame 1519 true [] 0 .other).tags).1.length 2) < (frame 1519 true [] 0 .other).len) ∧
    (3 ≤ (knownTags (frame 64 true [tag, tag, tag] 0 .other).tags).1.length ∧
      64 ≤ maxFrame ((linked 0 0).rec_ .port 0) 2) ∧
    (isGroup 0x020000000002#48 = false ∧ (0x020000000002#48).toNat ≠ portMac ((linked 0 0).rec_ .port 0)) ∧
    (act.portTakes 0 = false) := by
  decide +kernel

/-- States and operands that meet the hypotheses of FramesEnterTheIngressBuffer, clause by clause. -/
theorem test_meets_FramesEnterTheIngressBuffer :
    ((linked 0 0).ports[0]? = some onPort ∧ (linked 0 0).portTakes 0 = true ∧ isGroup 0x010000000000#48 = true ∧
      (linked 0 0).consumes 0 (frame 64 true [] 0x010000000000#48 .other) = false ∧
      64 ≤ maxFrame ((linked 0 0).rec_ .port 0) 0) ∧
    (onPort.used + 64 ≤ 2097152) ∧
    (2097152 < ({ onPort with used := 2097152 } : PortSt).used + 64) ∧
    ((frame 64 true [] 0x010000000000#48 c37Body).keyEnd ≤ 128 ∧
      (buffered wrongPort c37Body).matchSid (frame 64 true [] 0x010000000000#48 c37Body) = some 3) ∧
    ((buffered 0 .other).matchSid (frame 64 true [] 0x010000000000#48 .other) = none) ∧
    ((linked 0 0).consumes 0 (frame 64 true [] 0x010000000000#48 .macControl) = true) ∧
    ((linked 4 0).portTakes 4 = true ∧ frameBody (frame 64 true [] 0x010000000000#48 .woide) = .woide ∧
      onPort.used + 64 ≤ 1048576) ∧
    (1048576 < ({ onPort with used := 1048576 } : PortSt).used + 64) := by
  decide +kernel

/-- States and operands that meet the hypotheses of FlowControlHoldsQueues, clause by clause. -/
theorem test_meets_FlowControlHoldsQueues :
    ((linked 0 0).ports[0]? = some onPort ∧ (linked 0 0).portTakes 0 = true ∧
      portPauseEn ((linked 0 0).rec_ .port 0) = 0 ∧ portPfcEn ((linked 0 0).rec_ .port 0) = 0) ∧
    ((linked 0 678469272874899582559986240285280710077753816400237679918696781296365993984).portTakes 0 = true ∧
      portPauseEn ((linked 0 678469272874899582559986240285280710077753816400237679918696781296365993984).rec_ .port 0) ≠ 0 ∧
      portPfcEn ((linked 0 678469272874899582559986240285280710077753816400237679918696781296365993984).rec_ .port 0) ≠ 0) ∧
    (aget ({ onPort with pause := [(0, 5)] } : PortSt).pause 0 = some 5 ∧ 5 ≤ (atLts 5 act).lts ∧ act.lts < 5) ∧
    ((4 : Nat) = 4 ∧ act.portTakes 0 = false) := by
  decide +kernel

/-- States and operands that meet the hypotheses of StallsMacControlAndArp, clause by clause. -/
theorem test_meets_StallsMacControlAndArp :
    (stalling.ports[0]? = some { onPort with heldFrom := [(0, 0)], pause := [(0, 200000000)] } ∧
      stalling.held 0 0 = true ∧ 0 + 100000000 ≤ stalling.lts ∧ 0 ∉ onPort.stalled) ∧
    ((linked 0 0).portTakes 0 = true ∧ (0x1234#16 : BitVec 16) ≠ 0x0001#16 ∧ (0x1234#16 : BitVec 16) ≠ 0x0101#16) ∧
    ((linked 0 13154585171747655733743957208923634298255679946752).portTakes 0 = true ∧
      (linked 0 13154585171747655733743957208923634298255679946752).works = true ∧
      portIp ((linked 0 13154585171747655733743957208923634298255679946752).rec_ .port 0) = (9#32).toNat ∧
      portVlanId ((linked 0 13154585171747655733743957208923634298255679946752).rec_ .port 0) = (3#12).toNat) ∧
    (0 ∈ ({ onPort with stalled := [0] } : PortSt).stalled) ∧
    (portIp ((linked 0 0).rec_ .port 0) ≠ (9#32).toNat ∧ (9#32).toNat ≠ 0) := by
  decide +kernel

/-- States and operands that meet the hypotheses of TransmissionOfFrames, clause by clause. -/
theorem test_meets_TransmissionOfFrames :
    ((queued 5).ports[5]? = some (withQueue onPort 0 [plainFrame]) ∧ (queued 5).nextQueue 5 = some (0, plainFrame) ∧
      onPort.idleAt ≤ (queued 5).lts ∧ onPort.on = true ∧ onPort.wire = none ∧ onPort.link = true) ∧
    ((queued 0).nextQueue 0 = some (0, plainFrame) ∧
      ∀ q ∈ List.range 7, ((withQueue onPort 0 [plainFrame]).queues.getD q []).filter ((queued 0).late q) = []) ∧
    ((withQueue { onPort with link := false } 0 [plainFrame]).queues.length = 8 ∧
      ∃ l ∈ (withQueue { onPort with link := false } 0 [plainFrame]).queues, l ≠ []) ∧
    (plainFrame.len * (linked 0 0).bytePs 0 ≤ ((atLts 1000000 (linked 0 0)).lts - 0) * 1000 ∧
      ((linked 0 0).lts - 0) * 1000 < plainFrame.len * (linked 0 0).bytePs 0) ∧
    (0 < onPort.queues.length ∧
      queueUsed (onPort.queues.getD 0 []) + plainFrame.len ≤ queueRoom ((linked 0 4294967296).rec_ .port 0) 0 0) ∧
    (queueRoom ((linked 0 0).rec_ .port 0) 0 0 < queueUsed (onPort.queues.getD 0 []) + plainFrame.len) := by
  decide +kernel

/-- States and operands that meet the hypotheses of LaunchStrobeAndLateFrames, clause by clause. -/
theorem test_meets_LaunchStrobeAndLateFrames :
    (0 < (queuedLate).ports.length ∧ 0 < (queuedLate.port 0).queues.length ∧
      0 < (((queuedLate.port 0).queues.getD 0 []).filter (queuedLate.late 0)).length) ∧
    (((act.port 0).queues.getD 0 []).filter (act.late 0) = [] ∧ (act.port 0).waiting = []) := by
  decide +kernel

/-- States and operands that meet the hypotheses of ModulesAndLinks, clause by clause. -/
theorem test_meets_ModulesAndLinks :
    (caged.cages[0]? = some { CageSt.reset with present := false }) ∧
    (act.cages[0]? = some CageSt.reset ∧ CageSt.reset.present = true) ∧
    (({ CageSt.reset with initDone := false } : CageSt).since + 300000000 ≤ (atLts 300000000 act).lts) ∧
    ((unlinked 0).ports[0]? = some { onPort with link := false } ∧ (unlinked 0).linkAble 0 = true) ∧
    ((linked 0 0).ports[0]? = some onPort ∧ onPort.link = true) ∧
    ((linked 0 0).portTakes 0 = true) ∧
    (({ onPort with wire := some (0, plainFrame) } : PortSt).wire.isSome = true) ∧
    (({ CageSt.reset with initDone := false } : CageSt).present = true ∧ act.lts < 0 + 300000000) := by
  decide +kernel

/-- States and operands that meet the hypotheses of TcpConnections, clause by clause. -/
theorem test_meets_TcpConnections :
    ((conned TcpConn.reset).tcpServed 5 = true ∧
      (conned TcpConn.reset).portTakes ((conned TcpConn.reset).connPort 5) = true) ∧
    (((conned synSent).conn 5).st = .synSent ∧ (conned synSent).tcpServed 5 = true ∧ synSent.sndNxt = 8) ∧
    ((conned opened).tcpServed 5 = true ∧ (conned opened).portTakes ((conned opened).connPort 5) = true ∧
      ((conned opened).conn 5).st = .open ∧ (1#32) ≠ ((conned opened).conn 5).rcvNxt) ∧
    (((conned opened).conn 5).rcvNxt = 0#32 ∧
      (rebuild (1 + ((conned opened).conn 5).partialBytes.length) ((conned opened).conn 5).partialBytes.length (decide (4 ≤ ((conned opened).conn 5).partialBytes.length)) (((conned opened).conn 5).partialBytes ++ [0xAA#8])).2.2 = false) ∧
    (((conned { TcpConn.reset with reopenAt := some 0 }).conn 5).reopenAt = some 0 ∧ 0 ≤ (conned TcpConn.reset).lts ∧
      (conned { TcpConn.reset with reopenAt := some 0 }).tcpServed 5 = true) ∧
    (((conned { synSent with flight := [(8, [1], 0, 4)] }).conn 5).flight.find? (fun f => decide (f.2.2.1 ≤ (conned synSent).lts)) = some (8, [1], 0, 4)) ∧
    (((conned { synSent with flight := [(8, [1], 0, 5)] }).conn 5).flight.find? (fun f => decide (f.2.2.1 ≤ (conned synSent).lts)) = some (8, [1], 0, 5)) ∧
    (((conned { opened with ackDue := some 0 }).conn 5).ackDue = some 0 ∧
      ((conned { opened with ackDue := some 0 }).conn 5).st = .open) := by
  decide +kernel

/-- States and operands that meet the hypotheses of ClassifierDropsUnmatchedAndWrongPort, clause by clause. -/
theorem test_meets_ClassifierDropsUnmatchedAndWrongPort :
    ((buffered 0 .other).ports[0]? = some (oneIn .other) ∧ (buffered 0 .other).beatsRun = true ∧
      (buffered 0 .other).turn = some 0 ∧
      (buffered 0 .other).matchSid (frame 64 true [] 0x010000000000#48 .other) = none ∧
      isPtp (frameBody (frame 64 true [] 0x010000000000#48 .other)) = false ∧
      (buffered 0 .other).subCommand (frameBody (frame 64 true [] 0x010000000000#48 .other)) = none) ∧
    ((buffered wrongPort c37Body).matchSid (frame 64 true [] 0x010000000000#48 c37Body) = some 3 ∧
      bitAt (streamSflags ((buffered wrongPort c37Body).rec_ .stream 3)) 2 = false ∧
      bitAt (streamPortMask ((buffered wrongPort c37Body).rec_ .stream 3)) 0 = false ∧
      (buffered wrongPort c37Body).subCommand (frameBody (frame 64 true [] 0x010000000000#48 c37Body)) = none) ∧
    (act.turn ≠ some 0) ∧
    ((buffered 0 ptpBody).ports[0]? = some (oneIn ptpBody) ∧ (buffered 0 ptpBody).turn = some 0 ∧
      isPtp (frameBody (frame 64 true [] 0x010000000000#48 ptpBody)) = true) ∧
    ((buffered svDesc svBody).ports[0]? = some (oneIn svBody) ∧
      (buffered svDesc svBody).matchSid (frame 64 true [] 0x010000000000#48 svBody) = some 3 ∧
      bitAt (streamSflags ((buffered svDesc svBody).rec_ .stream 3)) 2 = false ∧
      (match ((buffered svDesc svBody).modPort 0 (fun y => { y with ingress := [], used := 0 })).streamPath 0 3 { stamp := 0, tcp := none, frame := frame 64 true [] 0x010000000000#48 svBody } (streamBody (frameBody (frame 64 true [] 0x010000000000#48 svBody))) with | (_, some _) => true | _ => false) = true ∧
      ((buffered svDesc svBody).deliverTo 3).any (fun r => (buffered svDesc svBody).sliceStalled r) = false) ∧
    (((stalledSlice).deliverTo 3).any (fun r => stalledSlice.sliceStalled r) = true) := by
  decide +kernel

/-- States and operands that meet the hypotheses of StaleStreamsAndCommands, clause by clause. -/
theorem test_meets_StaleStreamsAndCommands :
    ((streamed { StreamSt.reset with st := .live, idle := 4 }).works = true ∧
      ((streamed { StreamSt.reset with st := .live, idle := 4 }).streamSt 5).st = .live ∧
      ((streamed { StreamSt.reset with st := .live, idle := 4 }).streamSt 5).fresh = false ∧
      streamStaleTimeout ((streamed { StreamSt.reset with st := .live, idle := 4 }).rec_ .stream 5) ≤ 4) ∧
    (((streamed { StreamSt.reset with cfgDue := some 0 }).streamSt 5).cfgDue = some 0 ∧ 0 ≤ act.lts ∧
      ((streamed { StreamSt.reset with cfgDue := some 0 }).streamSt 5).onDue = none ∧
      ((streamed { StreamSt.reset with cfgDue := some 0 }).streamSt 5).st ≠ .mismatch) ∧
    (((streamed { StreamSt.reset with st := .mismatch, cfgDue := some 0 }).streamSt 5).st = .mismatch) ∧
    (act.works = true ∧ { act with pub := { act.pub with cmds := [subReq] } }.pub.cmds = [subReq] ∧
      { act with pub := { act.pub with cmds := [subReq] } }.commandTarget subReq = none) ∧
    (subscribed.works = true ∧ subscribed.pub.cmds = [onReq] ∧ subscribed.commandTarget onReq = some (0, 1) ∧
      beAt onReq.bytes 14 2 = 2) := by
  decide +kernel

/-- States and operands that meet the hypotheses of RowsOpenFillAndRetire, clause by clause. -/
theorem test_meets_RowsOpenFillAndRetire :
    ((sliced { SliceSt.reset with next := some 0 }).steps = true ∧
      (sliced { SliceSt.reset with next := some 0 }).align.slices[0]? = some { SliceSt.reset with next := some 0 } ∧
      0 ≤ (sliced { SliceSt.reset with next := some 0 }).dt + (sliced { SliceSt.reset with next := some 0 }).leadNs 0) ∧
    ((sliced SliceSt.reset).dt + (sliced SliceSt.reset).leadNs 0 < 1) ∧
    (({ SliceSt.reset with rows := [row 0] } : SliceSt).rows.find? (fun w => !w.retired && decide (w.tag + (sliced SliceSt.reset).retireNs 0 ≤ (sliced SliceSt.reset).dt)) = some (row 0)) ∧
    (({ SliceSt.reset with rows := [row 0] } : SliceSt).rows.find? (fun w => decide (w.tag + ((sliced SliceSt.reset).retireNs 0 + (sliced SliceSt.reset).horizonNs 0) ≤ (sliced SliceSt.reset).dt)) = some (row 0)) ∧
    (((sliced SliceSt.reset).reg 0).stalled = [] ∧ (SliceIn.frame delivery).tag < 5 ∧
      slotPages [.frame delivery] ≤ 30720 ∧ delivery.kind < 2) ∧
    (waitingRow.steps = true ∧ waitingRow.align.slices[0]? = some rowSlice ∧ rowSlice.queue = [.frame delivery] ∧
      (waitingRow.reg 0).stalled = [] ∧ rowSlice.first = some 0 ∧ rowSlice.next = some 1000000000 ∧
      slotPages (.frame delivery :: waitingRow.slotVals 0) ≤ 30720 ∧ waitingRow.dt + waitingRow.leadNs 0 < 1000000000 ∧
      waitingRow.rowTag 0 0 = 0 ∧ rowSlice.rows.find? (fun y => y.tag == 0) = some (row 0) ∧
      waitingRow.dt < 0 + waitingRow.retireNs 0 ∧
      (match firstCopy (row 0).entries (.frame delivery) with | none => true | some _ => false) = true) := by
  decide +kernel

/-- States and operands that meet the hypotheses of QuorumAndDeadlineCloses, clause by clause. -/
theorem test_meets_QuorumAndDeadlineCloses :
    ((grouped (row 0)).steps = true ∧ groupValid ((grouped (row 0)).rec_ .group 0) ≠ 0 ∧
      groupRegion ((grouped (row 0)).rec_ .group 0) < (grouped (row 0)).align.slices.length ∧
      ((grouped (row 0)).slice (groupRegion ((grouped (row 0)).rec_ .group 0))).rows.find? (fun w => !w.groups.contains 0 && onGrid (rateOf (groupSetRate ((grouped (row 0)).rec_ .group 0))) w.tag && decide (w.tag + groupQWait ((grouped (row 0)).rec_ .group 0) * 1000 ≤ (grouped (row 0)).dt)) = some (row 0)) ∧
    (groupValid (act.rec_ .group 0) = 0) ∧
    ((outed []).outInUse 0 = true ∧ outStreamAlarm ((outed []).rec_ .outStream 0) ≠ 1 ∧
      ((outed []).openTags 0).filter (fun t => decide (t + outSetWait ((outed []).rec_ .outSet 0) * 1000 ≤ (outed []).dt)) = []) ∧
    (((outed [row 0]).openTags 0).filter (fun t => decide (t + outSetWait ((outed [row 0]).rec_ .outSet 0) * 1000 ≤ (outed [row 0]).dt)) = [0] ∧
      (outed [row 0]).holdsPart 0 0 = true) := by
  decide +kernel

/-- States and operands that meet the hypotheses of LaneFrames, clause by clause. -/
theorem test_meets_LaneFrames :
    ((laned { LaneSt.reset with st := .run, edges := [(0, 0)] }).swage.lanes[0]? = some { LaneSt.reset with st := .run, edges := [(0, 0)] } ∧
      (laned { LaneSt.reset with st := .run, edges := [(0, 0)] }).works = true ∧
      laneEnable ((laned { LaneSt.reset with st := .run, edges := [(0, 0)] }).rec_ .lane 0) ≠ 0 ∧
      fld (beAt laneBits 0 5) 39 24 = 0xF0A5 ∧
      (laned { LaneSt.reset with st := .run, edges := [(0, 0)] }).syncLow ((laned { LaneSt.reset with st := .run, edges := [(0, 0)] }).lts - 20 * (8 * laneBits.length - 16)) = false ∧
      laneBits = laneBits.dropLast ++ [laneBits.getLastD 0] ∧
      crc8 ((laneBits.drop 2).take (laneBits.length - 3)) = laneBits.getLastD 0 ∧
      laneBits.length = 6 + fld (beAt laneBits 0 5) 7 4 * sampleBytes (fld (beAt laneBits 0 5) 3 3) ∧
      fld (beAt laneBits 0 5) 7 4 = laneChCount ((laned { LaneSt.reset with st := .run, edges := [(0, 0)] }).rec_ .lane 0) ∧
      fld (beAt laneBits 0 5) 3 3 = laneWidth ((laned { LaneSt.reset with st := .run, edges := [(0, 0)] }).rec_ .lane 0) ∧
      bitAt (beAt laneBits 0 5) 2 = false ∧ fld (beAt laneBits 0 5) 23 8 = 0 ∧ LaneSt.reset.last = none) ∧
    (LaneSt.reset.st = .nosync) ∧
    ((1 + 65536 - 0 % 65536) % 65536 = 1) ∧
    (crc8 (((laneBits.dropLast ++ [0x01#8]).drop 2).take (laneBits.length - 3)) ≠ 0x01#8) ∧
    (laneEnable (act.rec_ .lane 0) = 0) ∧
    ({ act with swage := { act.swage with sync := some 0 } }.syncLow (act.lts - 20 * (8 * laneBits.length - 16)) = true) := by
  decide +kernel

/-- States and operands that meet the hypotheses of LaneStates, clause by clause. -/
theorem test_meets_LaneStates :
    ((laned { LaneSt.reset with st := .run }).swage.lanes.length = 8 ∧
      (laned { LaneSt.reset with st := .run }).swage.queues.length = 4 ∧ (laned LaneSt.reset).works = true ∧
      (laned LaneSt.reset).swage.sync = none ∧ laneEnable ((laned LaneSt.reset).rec_ .lane 0) = 1 ∧
      laneEnable ((laned LaneSt.reset).rec_ .lane 1) ≠ 1) ∧
    (((atLts 1000000 (laned { LaneSt.reset with st := .run })).lane 0).st = .run ∧
      ((laned { LaneSt.reset with st := .run }).lane 0).at_ + 4 * (laned { LaneSt.reset with st := .run }).lanePeriod 0 ≤ (atLts 1000000 (laned { LaneSt.reset with st := .run })).lts) ∧
    ({ act with swage := { act.swage with sync := some 0 } }.swage.sync = some 0) := by
  decide +kernel

/-- States and operands that meet the hypotheses of InputQueueBanks, clause by clause. -/
theorem test_meets_InputQueueBanks :
    (act.works = true ∧
      (banked { QueueSt.reset with since := some 0 }).swage.queues[0]? = some { QueueSt.reset with since := some 0 } ∧
      0 + frontEndHandoffUs ((banked { QueueSt.reset with since := some 0 }).rec_ .frontEnd 0) * 1000 ≤ (banked { QueueSt.reset with since := some 0 }).lts) ∧
    (({ QueueSt.reset with reading := [word] } : QueueSt).reading ≠ [] ∧ 32 ≤ word.firstRec) ∧
    (({ QueueSt.reset with since := some 0, part := [1] } : QueueSt).part ≠ []) ∧
    ((QueueSt.reset.parse ++ word.bytes.take word.valid).length < 16 ∧ QueueSt.reset.lost = false) ∧
    (({ QueueSt.reset with lost := true } : QueueSt).lost = true) ∧
    (QueueSt.reset.reading = []) := by
  decide +kernel

/-- States and operands that meet the hypotheses of SamplesAndEstimates, clause by clause. -/
theorem test_meets_SamplesAndEstimates :
    ((atDt 1000000000 sampled).works = true ∧ ((atDt 1000000000 sampled).chain (64 + 8 * 5 + 0)).next = some 0 ∧
      ((atDt 1000000000 sampled).chain (64 + 8 * 5 + 0)).held = [] ∧
      0 + (atDt 1000000000 sampled).svWait < (atDt 1000000000 sampled).dt) ∧
    (sampled.dt ≤ 0 + sampled.svWait) ∧
    (chanValid (estimating.rec_ .chan 9) ≠ 0 ∧ chanSource (estimating.rec_ .chan 9) = 6 ∧
      chanEstClass (estimating.rec_ .chan 9) ≠ 0 ∧ chanEstClass (estimating.rec_ .chan 9) ≠ 3 ∧
      rateOf (chanOutRate (estimating.rec_ .chan 9)) ≠ 0 ∧ (estimating.est 9).next = some 0 ∧
      0 + (estimating.spans (chanEstClass (estimating.rec_ .chan 9)) (chanOutRate (estimating.rec_ .chan 9))).2.2 ≤ estimating.dt ∧
      estimating.windowIn (estimating.chainKey (chanSrcRef (estimating.rec_ .chan 9))) (0 + (estimating.spans (chanEstClass (estimating.rec_ .chan 9)) (chanOutRate (estimating.rec_ .chan 9))).2.2) = true ∧
      estimating.chanRegion 9 < estimating.align.slices.length) ∧
    (chanFastMinphase (estimating.rec_ .chan 9) ≠ 0 ∧ (estimating.est 9).nextFast = some 0 ∧
      0 + estimating.fastSpans.2 ≤ estimating.dt ∧
      estimating.windowIn (estimating.chainKey (chanSrcRef (estimating.rec_ .chan 9))) (0 + estimating.fastSpans.2) = true) := by
  decide +kernel

/-- States and operands that meet the hypotheses of ReplayFramesLeave, clause by clause. -/
theorem test_meets_ReplayFramesLeave :
    (replaying.swage.replay = some replaySt ∧ replaying.boot.mode = .replay ∧ bitAt replaySt.mask 0 = true ∧
      replaySt.n0 * 1000000000 / (if frontEndReplayFast (replaying.rec_ .frontEnd 0) = 1 then 38400 else 9600) < replaySt.lengthMs * 1000000 ∧
      ((replaySt.p0 + replaySt.n0 * 1000000000 / (if frontEndReplayFast (replaying.rec_ .frontEnd 0) = 1 then 38400 else 9600) : Nat) : Int) + signed 32 (frontEndReplayOffset (replaying.rec_ .frontEnd 0)) ≤ (replaying.dt : Int)) ∧
    (act.boot.mode ≠ .replay) := by
  decide +kernel

/-- States and operands that meet the hypotheses of OscillationUpdatesAndLocation, clause by clause. -/
theorem test_meets_OscillationUpdatesAndLocation :
    (osc.works = true ∧ osc.targetKey (.bank 0) 0 = some 0 ∧ osc.updateInstant 0 = some 0 ∧
      osc.shed (osc.oscRegion 0) 6 = false ∧ (osc.bandSt 0).done ≠ some 0 ∧ 0 < osc.sch.cells.length ∧
      (List.range 64).find? (fun c => match (osc.cell c).run with | some it => osc.kernelOf it == kBank | none => false) = some 0) ∧
    ((osc.locSt 2).pending = some (0, 0, 0) ∧ (osc.locSt 2).pendAt < osc.sch.beats ∧
      locSetValid (osc.rec_ .locSet 2) = 1 ∧ (osc.locSt 2).running = none) ∧
    ((osc.locSt 3).running = some (0, 0, 0)) ∧
    ((osc.locSt 3).running ≠ none ∧ (osc.locSt 2).running = none) := by
  decide +kernel

/-- States and operands that meet the hypotheses of IslandingEvaluationAndDetectors, clause by clause. -/
theorem test_meets_IslandingEvaluationAndDetectors :
    (islRunning.works = true ∧ islRunning.islConfigured = true ∧ islRunning.islCell = some 0 ∧
      0 < islRunning.sch.cells.length ∧ (islRunning.cell 0).run = some (item 0 (.evaluation 1)) ∧
      islRunning.kernelOf (item 0 (.evaluation 1)) = kIsl ∧ (islRunning.cell 0).worked = false ∧
      islRunning.isl.waiting ≠ []) ∧
    ({ islRunning with isl := { islRunning.isl with waiting := [] } }.isl.waiting = []) ∧
    (isl.works = true ∧ isl.islConfigured = true ∧ isl.isl.waiting ≠ [] ∧ isl.islCell = some 0 ∧
      (isl.cell 0).run = none ∧ 0 < isl.sch.cells.length) ∧
    (act.islConfigured = false ∧ act.islCell = none) ∧
    (isl.runner kFast (fun it => match it.ctx with | .group gs => gs.group == 7 | _ => false) = some (1, item 0 (.group (groupSet 7)))) ∧
    (act.runner kFast (fun it => match it.ctx with | .group gs => gs.group == 7 | _ => false) = none) := by
  decide +kernel

/-- States and operands that meet the hypotheses of LogicScans, clause by clause. -/
theorem test_meets_LogicScans :
    (scanning.scanOf 0 = some (0, item 0 (.group (groupSet 0))) ∧
      scanning.logic.snaps.find? (fun x => x.task == 0) = some { task := 0, tag := 1000, forces := [], vals := [] } ∧
      (scanning.runScan { task := 0, tag := 1000, forces := [], vals := [] }).isSome = true ∧ 0 < scanning.sch.cells.length) ∧
    (act.scanOf 0 = none) ∧
    (trapping.scanOf 0 = some (0, item 0 (.group (groupSet 0))) ∧
      trapping.logic.snaps.find? (fun x => x.task == 0) = some { task := 0, tag := 1000, forces := [], vals := [] } ∧
      (trapping.runScan { task := 0, tag := 1000, forces := [], vals := [] }).isNone = true) := by
  decide +kernel

/-- States and operands that meet the hypotheses of OutputLevels, clause by clause. -/
theorem test_meets_OutputLevels :
    ((doing { DoSt.reset with pend := [(0, 0, true)] }).logic.dos[0]? = some { DoSt.reset with pend := [(0, 0, true)] } ∧
      dueFirst [(0, 0, true)] = some (0, 0, true) ∧
      DoSt.reset.at_ + (doing DoSt.reset).pulseMin 0 ≤ (doing DoSt.reset).dt ∧ (doing DoSt.reset).drivesDo = true) ∧
    ({ act with boot := { act.boot with mode := .replay } }.drivesDo = false) ∧
    ((withImg [((.outRec, 0), 72370055773322622139731865630429942408293740416025352524753223725314253783040)]).dt < DoSt.reset.at_ + (withImg [((.outRec, 0), 72370055773322622139731865630429942408293740416025352524753223725314253783040)]).pulseMin 0) ∧
    (DoSt.reset.level = none) ∧
    (({ DoSt.reset with forced := some true } : DoSt).forced ≠ none) ∧
    (({ DoSt.reset with deferred := some (0, 0, true) } : DoSt).deferred = some (0, 0, true)) ∧
    (({ DoSt.reset with level := some false } : DoSt).level = some (!true)) := by
  decide +kernel

/-- States and operands that meet the hypotheses of AlarmFramesAndTripRepetitions, clause by clause. -/
theorem test_meets_AlarmFramesAndTripRepetitions :
    ((pubbed { PubStream.reset with changed := true, nextAt := some 0 }).works = true ∧
      (pubbed { PubStream.reset with changed := true, nextAt := some 0 }).pub.streams[0]? = some { PubStream.reset with changed := true, nextAt := some 0 } ∧
      0 ≤ (pubbed PubStream.reset).lts) ∧
    ((tripped 0).logic.trips.find? (fun y => y.out == 4) = some { out := 4, tag := 0, left := 0, due := 0 }) ∧
    ((tripped 1).logic.trips.find? (fun y => y.out == 4) = some { out := 4, tag := 0, left := 1, due := 0 } ∧
      0 ≤ (tripped 1).lts) ∧
    (PubStream.reset.changed = false) ∧
    (act.lts < 1) := by
  decide +kernel

/-- States and operands that meet the hypotheses of CaptureTakesTriggers, clause by clause. -/
theorem test_meets_CaptureTakesTriggers :
    (triggered.dtRuns = true ∧ triggered.cap.stamps = [] ∧ triggered.cap.trigs = [trig] ∧ trig.kind < 6 ∧
      2 ≤ trig.kind ∧ triggered.boot.mode ≠ .replay) ∧
    ({ act with cap := { act.cap with xtrig := some (0, 0) } }.cap.xtrig = some (0, 0) ∧ 0 ≤ act.dt) ∧
    (act.cap.trigs = [] ∧ act.cap.xtrig = none) ∧
    (noRails.dtRuns = false ∨ dormant.dtRuns = false) := by
  decide +kernel

/-- States and operands that meet the hypotheses of CaptureClassesAndRecords, clause by clause. -/
theorem test_meets_CaptureClassesAndRecords :
    ((captured .collecting).cap.classes[0]? = some { CapCls.reset with st := .collecting, rec_ := 1 } ∧
      (captured .collecting).lastBoundary = some 0 ∧ (captured .collecting).capRec 1 = some (capRec 0) ∧
      (capRec 0).stop ≤ 0) ∧
    ((captured .closing).cap.classes[0]? = some { CapCls.reset with st := .closing, rec_ := 1 } ∧
      CapCls.reset.left = 0 ∧ CapCls.reset.held = []) ∧
    (capClassValid ((captured .armed).rec_ .capClass 0) = 1 ∧ capClassAuto ((captured .armed).rec_ .capClass 0) = 1 ∧
      CapCls.reset.armedAt + capClassAutoS ((captured .armed).rec_ .capClass 0) * 1000000000 ≤ 0) ∧
    ((losing).capRec 1 = some (capRec 9) ∧ (capRec 9).done = false ∧ (capRec 9).nextTag ≤ 0 ∧ 0 < (capRec 9).stop ∧
      (losing.capRate 0 = 0 ∨ onGrid (losing.capRate 0) 0 = true) ∧ losing.ringPast 0 0 = true ∧
      losing.rowOfSample (capRec 9) 0 = some 0 ∧ 0 ∉ (capRec 9).lost) ∧
    (CapCls.reset.autoDone = false ∧ CapCls.reset.hit = none ∧ (captured .armed).lastBoundary = some 0) := by
  decide +kernel

/-- States and operands that meet the hypotheses of WoideLinkAndFrames, clause by clause. -/
theorem test_meets_WoideLinkAndFrames :
    ((woide .down).linkReady = true ∧ (woide .down).pair.link = .down) ∧
    (act.linkReady = false) ∧
    ((woide .handshake).pair.helloDue = some 0 ∧ (woide .handshake).pair.link = .handshake ∧
      0 ≤ (woide .handshake).lts) ∧
    ((woide .up).pair.link ≠ .down ∧ (woide .up).pair.quiet < 2 ∧ (woide .up).linkReady = true) ∧
    ((woideSent 0).resendDue = some { f := ackFrame, at_ := 0, tries := 0 } ∧ (0 : Nat) < 8) ∧
    ((woideSent 8).resendDue = some { f := ackFrame, at_ := 0, tries := 8 } ∧ (woideSent 8).pair.link ≠ .down) ∧
    (act.resendDue = none) ∧
    ((woide .up).pair.ackDue = some 0) ∧
    (act.pair.ackDue = none) ∧
    ({ woide .up with vault := act.vault }.linkReady = true ∧
      { woide .up with vault := act.vault }.woideVerifies ackFrame = false) ∧
    ((woide .up).pair.partner = some ackFrame.session ∧ ackFrame.body = .ack ∧
      (woide .up).pair.partner ≠ some { ackFrame with session := 4 }.session) := by
  decide +kernel

/-- States and operands that meet the hypotheses of TokensReleaseAndSplitBrain, clause by clause. -/
theorem test_meets_TokensReleaseAndSplitBrain :
    ((woide .up).paired = true ∧ (woide .up).works = true ∧ tokenCode 20000 = some 0 ∧ (50000 : Int).natAbs ≤ 50000 ∧
      50000 < (50001 : Int).natAbs) ∧
    ((leavingS).pair.role = .primary ∧ leavingS.leaving = true ∧ leavingS.pair.leaveAt = none) ∧
    (splitting.splitSeen = true ∧ splitting.pair.split = false) ∧
    (act.leaving = false) ∧
    (tokenCode 1000 = none) ∧
    ((woide .up).splitSeen = false) ∧
    ({ splitting with pair := { splitting.pair with split := true } }.pair.split = true) ∧
    ({ splitting with pair := { splitting.pair with posB := true } }.pair.posB = true ∧ splitting.pair.posB = false) := by
  decide +kernel

/-- States and operands that meet the hypotheses of BeatBoundaryIsActedOnOnce, clause by clause. -/
theorem test_meets_BeatBoundaryIsActedOnOnce :
    (act.boundaryDue = true) ∧
    ({ act with sch := { act.sch with beat := some (0, 0) } }.boundaryDue = false) := by
  decide +kernel

/-- States and operands that meet the hypotheses of ItemsMoveAndStart, clause by clause. -/
theorem test_meets_ItemsMoveAndStart :
    ((regd { RegSt.reset with delay := [item 0 .plain] }).sch.regs[0]? = some { RegSt.reset with delay := [item 0 .plain] } ∧
      (regd { RegSt.reset with delay := [item 0 .plain] }).steps = true ∧ (item 0 .plain).region = 0 ∧
      (regd { RegSt.reset with delay := [item 0 .plain] }).dueReached (item 0 .plain).due = true ∧
      (regd { RegSt.reset with delay := [item 0 .plain] }).readyRoom 0 (item 0 .plain).prio = true) ∧
    ((match (regd { RegSt.reset with ready := [item 0 .plain] }).pickItem [] ((regd { RegSt.reset with ready := [item 0 .plain] }).readyOrder 0) with | some (it, c, _) => it == item 0 .plain && c == 0 | none => false) = true) ∧
    ((regd { RegSt.reset with stalled := [(.quorum, item 0 .plain)] }).readyRoom 0 (item 0 .plain).prio = true) ∧
    ((regd { RegSt.reset with delay := [item 0 .plain] }).dueReached (item 0 .plain).due = true ∧
      (item 0 .plain).late = false) ∧
    (fullReady.readyRoom 0 (item 0 .plain).prio = false) ∧
    (dormant.steps = false) := by
  decide +kernel

/-- States and operands that meet the hypotheses of ItemsCompleteOrFault, clause by clause. -/
theorem test_meets_ItemsCompleteOrFault :
    ((celled { CellSt.reset with run := some (item 0 .plain) }).sch.cells[0]? = some { CellSt.reset with run := some (item 0 .plain) } ∧
      (celled { CellSt.reset with run := some (item 0 .plain) }).needsWork (item 0 .plain) = false) ∧
    (act.sch.cells[0]? = some CellSt.reset ∧ CellSt.reset.run = none) ∧
    (act.isl.waiting = []) ∧
    ({ celled (runs (item 0 .plain)) with img := [((.kernel, 0), 5192296858534827628530496329220096)] }.needsWork (item 0 .plain) = true ∧
      (runs (item 0 .plain)).worked = false) := by
  decide +kernel

/-- States and operands that meet the hypotheses of ErrorsAndHeat, clause by clause. -/
theorem test_meets_ErrorsAndHeat :
    (act.boot.mode ≠ .dormant ∧ severity .timeUnit = 2 ∧ act.sch.worst ≤ 2 ∧ act.beatsRun = true ∧
      act.boot.mode ≠ .halt) ∧
    ((0 : Nat) < heated.sens.level.length ∧ 0 < heated.sens.below.length ∧ 2400 ≤ heated.sens.below.getD 0 0 ∧
      0 < heated.sens.level.getD 0 0) ∧
    (severity .traceRing = 1 ∧ act.sch.worst ≤ 1) ∧
    (dormant.boot.mode = .dormant) := by
  decide +kernel

/-- States and operands that meet the hypotheses of RequestChecks, clause by clause. -/
theorem test_meets_RequestChecks :
    (empS.emp.restart = none ∧ empS.boot.island = true ∧ { req with version := 2 }.version ≠ 1) ∧
    ((empS.emHeard { req with session := 9 }).judge 0x0010 { req with session := 9 } = .answer rNoSession) ∧
    ((empS.emHeard req).judge 0x0031 req = .run ∧ authAllows 0x0031 req (empS.authOf req.svp) = false) ∧
    ((empS.emHeard req).judge 0x0034 req = .run ∧ (empSvc.emHeard sreq).judge 0x0034 sreq = .run ∧
      authAllows 0x0034 sreq (empSvc.authOf sreq.svp) = true ∧
      (empSvc.emAt sreq).modeAllows 0x0034 sreq (empSvc.authOf sreq.svp) = false) ∧
    ((empCached.emHeard req).judge 0x0003 req = .cached cachedReply) := by
  decide +kernel

/-- States and operands that meet the hypotheses of SessionsOpenCloseAndExpire, clause by clause. -/
theorem test_meets_SessionsOpenCloseAndExpire :
    (act.emRuns 0x0001 req) ∧
    (empS.emRuns 0x0002 req) ∧
    (empS.emRuns 0x0003 req) ∧
    ((atLts 60000000000 empS).sess false 7 = some sess ∧ (atLts 60000000000 empS).boot.island = true ∧
      sess.at_ + 60000000000 ≤ (atLts 60000000000 empS).rtc) := by
  simp only [State.emRuns]; decide +kernel

/-- States and operands that meet the hypotheses of ObjectsAreReadWrittenAndAcknowledged, clause by clause. -/
theorem test_meets_ObjectsAreReadWrittenAndAcknowledged :
    (empS.emRuns 0x0010 req ∧ req.clear = false) ∧
    (empS.emRuns 0x0011 (wreq 0x00140100#32) ∧ empS.swage.queues[0]? = some QueueSt.reset ∧
      (wreq 0x00140100#32).object.toNat = 0x00140100 + 0 ∧ (wreq 0x00140100#32).payload.length = 4 ∧
      beNat (wreq 0x00140100#32).payload ≤ 1) ∧
    (empS.emRuns 0x0011 (wreq 0x00200005#32)) ∧
    (empSvc.emRuns 0x0011 (svcReq (wreq 0x001E0400#32))) ∧
    (empS.emRuns 0x0013 req) ∧
    (empSvc.emRuns 0x0060 sreq) ∧
    (empSvc.emRuns 0x0061 sreq ∧ empSvc.bbx.queue.length < 16) ∧
    (empS.emRuns 0x0010 { req with clear := true } ∧ { req with clear := true }.clear = true) := by
  simp only [State.emRuns]; decide +kernel

/-- States and operands that meet the hypotheses of W1cWritesKeepTheEventsOfTheBeat, clause by clause. -/
theorem test_meets_W1cWritesKeepTheEventsOfTheBeat :
    ({ empS with sens := { empS.sens with seen := 1, seenNow := 1 } }.emRuns 0x0011 (wreq 0x00200005#32) ∧
      empS.beatsRun = true) ∧
    (empS.emRuns 0x0011 (wreq 0x00140100#32) ∧ beNat (wreq 0x00140100#32).payload ≤ 1) := by
  simp only [State.emRuns]; decide +kernel

/-- States and operands that meet the hypotheses of ChangeSetsAreTakenWholeOrRefused, clause by clause. -/
theorem test_meets_ChangeSetsAreTakenWholeOrRefused :
    (empS.emRuns 0x0012 req ∧ changeEntries req.payload = none) ∧
    (empS.emRuns 0x0012 (creq badEntry) ∧ changeEntries (creq badEntry).payload = some [badEntry] ∧
      (empS.emAt (creq badEntry)).ovCheck [badEntry] = some (1, 0)) ∧
    (changing.emRuns 0x0012 (creq goodEntry) ∧ changeEntries (creq goodEntry).payload = some [goodEntry] ∧
      (changing.emAt (creq goodEntry)).ovCheck [goodEntry] = none ∧ changing.paired = false ∧
      allLogic [goodEntry] = false) ∧
    (changing.emRuns 0x0012 (creq varEntry) ∧ changeEntries (creq varEntry).payload = some [varEntry] ∧
      (changing.emAt (creq varEntry)).ovCheck [varEntry] = none ∧ allLogic [varEntry] = true ∧
      (changing.emAt (creq varEntry)).ovTasks [varEntry] = [0]) ∧
    ((pairSets .down).emRuns 0x0012 (creq goodEntry) ∧
      ((pairSets .down).emAt (creq goodEntry)).ovCheck [goodEntry] = none ∧ (pairSets .down).paired = true ∧
      ((pairSets .down).emAt (creq goodEntry)).mapsMatch = true ∧ (pairSets .down).pair.link ≠ .up) ∧
    ((pairSets .up).emRuns 0x0012 (creq goodEntry) ∧ ((pairSets .up).emAt (creq goodEntry)).mapsMatch = true ∧
      ((pairSets .up).emAt (creq goodEntry)).woideOn = true ∧ (pairSets .up).pair.link = .up) ∧
    ({ pairSets .up with pair := { (pairSets .up).pair with partnerHash := some 1 } }.mapsMatch = false) := by
  simp only [State.emRuns]; decide +kernel

/-- States and operands that meet the hypotheses of StagingActivationAndRestart, clause by clause. -/
theorem test_meets_StagingActivationAndRestart :
    (goodSlot.emRuns 0x0020 sbeg ∧ (goodSlot.emAt sbeg).stageTarget sbeg.object.toNat = some 1 ∧
      goodSlot.stageBusy sbeg = false ∧ goodSlot.slotState goodSlot.boot.slot = stGood ∧ sbeg.payload.length = 128 ∧
      stageCode sbeg.payload goodSlot.ownerKey = some 0x01) ∧
    (staging.emRuns 0x0021 sdat ∧ staging.stageBusy sdat = false ∧ staging.emp.stage.st = .receiving ∧
      sdat.offset.toNat % 1024 = 0 ∧ sdat.offset.toNat < headerImageLen (beNat staging.emp.stage.header) ∧
      sdat.payload.length = min 1024 (headerImageLen (beNat staging.emp.stage.header) - sdat.offset.toNat) ∧
      sdat.offset.toNat / 1024 ∉ staging.emp.stage.got) ∧
    (staging.emRuns 0x0022 req ∧ 0 < ceilDiv (headerImageLen (beNat staging.emp.stage.header)) 1024 ∧
      0 ∉ staging.emp.stage.got) ∧
    ({ staging with emp := { staging.emp with stage := { staging.emp.stage with st := .checking } } }.stageCheck badFlash = some (0x12, 0)) ∧
    (staging.emp.stage.at_ + 60000000000 ≤ (atLts 60000000000 staging).lts) ∧
    (stagedS.emRuns 0x0023 req ∧ stagedS.emp.stage.st = .staged ∧ stagedS.beatsRun = true) ∧
    (empS.emRuns 0x0024 req ∧ empS.beatsRun = true) ∧
    (unconfStaged.emRuns 0x0023 sreq ∧ unconfStaged.emp.stage.st = .staged ∧ unconfStaged.beatsRun = false) ∧
    (unconf.emRuns 0x0024 sreq ∧ unconf.beatsRun = false) ∧
    (empS.emp.stage.st ≠ .staged) := by
  simp only [State.emRuns]; decide +kernel

/-- States and operands that meet the hypotheses of KeyRequests, clause by clause. -/
theorem test_meets_KeyRequests :
    (kreq = kreq.carrying [] ∧ empSvc.emRuns 0x0030 kreq ∧ kreq.payload.length = 177 ∧ 16 ≤ kreq.object.toNat ∧
      keyEntHasKey (beAt kreq.payload 0 20 * 2 ^ 480) = 1 ∧ keyEntRange (beAt kreq.payload 0 20 * 2 ^ 480) = true ∧
      fld (beAt kreq.payload 0 20 * 2 ^ 480) 621 608 = 0 ∧ fld (beAt kreq.payload 0 20 * 2 ^ 480) 503 480 = 0 ∧
      keyEntSlot (beAt kreq.payload 0 20 * 2 ^ 480) = kreq.object.toNat ∧
      (empSvc.vslot kreq.object.toNat).pending = false ∧ empSvc.beatsRun = true) ∧
    (empSvc.emRuns 0x0031 sreq) ∧
    (unconf.emRuns 0x0032 oreq ∧ oreq.payload.length = 97 ∧ unconf.otp.burning = none ∧
      unconf.otp.enrolField = some false) ∧
    (empSvc.emRuns 0x0033 oreq ∧ (empSvc.vslot 8).pending = false) ∧
    ((empSvc.checkedKey kreq.payload (keyEntKcv (beAt kreq.payload 0 20 * 2 ^ 480))).isNone = true ∧
      empSvc.beatsRun = true) ∧
    (empSvc.emRuns 0x0030 { sreq with object := 16 } ∧ sreq.payload.length ≠ 177) ∧
    (unconf.emRuns 0x0033 oreq ∧ unconf.beatsRun = false) := by
  simp only [State.emRuns]; decide +kernel

/-- States and operands that meet the hypotheses of RequestsWaitForTheBoundary, clause by clause. -/
theorem test_meets_RequestsWaitForTheBoundary :
    (held.emRuns 0x0034 sreq) ∧
    (empSvc.emRuns 0x0042 rreq ∧ empSvc.replayFault rreq.payload = none) ∧
    ({ empSvc with boot := { empSvc.boot with mode := .replay } }.emRuns 0x0043 sreq) ∧
    (empSvc.emRuns 0x0044 sreq ∧ sreq.object.toNat ≤ 3) ∧
    (empSvc.emRuns 0x0045 sreq) ∧
    (empSvc.emRuns 0x0050 sreq ∧ sreq.object = 0#32) ∧
    (empS.emRuns 0x0051 { req with payload := [32, 1] }) ∧
    (empS.emRuns 0x0052 req) ∧
    ({ empS with img := [((.locSet, 0), 170141183460469231731687303715884105728)] }.emRuns 0x0053 { req with payload := [0, 0, 0, 0] } ∧
      locSetValid ({ empS with img := [((.locSet, 0), 170141183460469231731687303715884105728)] }.rec_ .locSet 0) = 1) := by
  simp only [State.emRuns]; decide +kernel

/-- States and operands that meet the hypotheses of ForcesAndHandoverAreNamedForABoundary, clause by clause. -/
theorem test_meets_ForcesAndHandoverAreNamedForABoundary :
    (empSvc.emRuns 0x0040 freq ∧ freq.payload.length = 4 ∧ freq.object.toNat = 65536 + 15 ∧ beAt freq.payload 0 4 ≤ 1) ∧
    (empSvc.emRuns 0x0041 freq) ∧
    (varS.varIn 0 = true ∧ varSeg (varS.rec_ .var 0) ≠ 3 ∧ varVtype (varS.rec_ .var 0) ≠ 0) ∧
    (handing.emRuns 0x0054 req ∧ (handing.emAt req).canHandOver = true) ∧
    (empS.emRuns 0x0054 req ∧ (empS.emAt req).canHandOver = false) := by
  simp only [State.emRuns]; decide +kernel

/-- States and operands that meet the hypotheses of BlackBoxScanAndWrite, clause by clause. -/
theorem test_meets_BlackBoxScanAndWrite :
    ({ act with bbx := { act.bbx with scanned := false } }.bbx.scanned = false ∧ act.bbx.queue.length < 16 ∧
      act.boot.island = true) ∧
    (act.bbx.scanned = true ∧ (act.bbxQueue (act.bbxRec .none 1 0 [])).bbx.queue ≠ []) := by
  decide +kernel

/-- States and operands that meet the hypotheses of SensorsLatchTheirConditions, clause by clause. -/
theorem test_meets_SensorsLatchTheirConditions :
    (act.boot.island = true ∧ act.sens.cond.getLsbD 6 = false ∧ act.bbx.queue.length < 16) ∧
    (railNominal 23 * 108 < (100000#32).toNat * 100 ∧ act.beatsRun = true) ∧
    (latchReleased 18 ((3500#32 : Word).toInt) = true ∧ latchReleased 18 ((3501#32 : Word).toInt) = false) ∧
    (0 ∉ act.sens.bad ∧ 125 * 16 ≤ (2000 : Int) ∧ act.sens.hot.getD 0 0 < 2400) ∧
    ({ act with sens := { act.sens with temps := [2401] } }.sensorFailed 0 = true) ∧
    (act.boot.rails = true) ∧
    ((0#32).toNat * 100 < railNominal 23 * 92 ∧ act.bbx.gasp = false) ∧
    (noIsland.boot.island = false ∧ noRails.boot.rails = false) := by
  decide +kernel

/-- States and operands that meet the hypotheses of FrontPanelAndServiceKey, clause by clause. -/
theorem test_meets_FrontPanelAndServiceKey :
    (3 ≤ (bitsOf 16 (7#16).toNat).length ∧ (bitsOf 16 (3#16).toNat).length < 3) ∧
    ([touch1].length = 1 ∧ touch1.touched = false ∧ touch1.baseline ≠ 0 ∧ touch1.baseline * 103 < 104 * 100 ∧
      1 ≤ touch1.above) ∧
    (touch2.touched = true ∧ touch2.baseline * 1015 < 102 * 1000 ∧
      60000000000 ≤ (atLts 60000000000 act).rtc - touch2.since) ∧
    ({ act.panel with lampEnd := some 0 }.lampEnd = some 0 ∧ 0 ≤ act.rtc) ∧
    (0 + 3000000000 ≤ (atLts 3000000000 act).rtc) ∧
    (empSvc.panel.svcKey = true ∧ act.panel.svcKey = false) := by
  decide +kernel

/-- States and operands that meet the hypotheses of TestAccessPort, clause by clause. -/
theorem test_meets_TestAccessPort :
    (act.boot.mode ≠ .unconfigured) ∧
    ({ unconf with tap := { unconf.tap with ir := 0x00 } }.tapNow = .extest) ∧
    ({ act with tap := { act.tap with ir := 0x02 } }.tapNow = .samplePreload) ∧
    (act.tapNow ≠ .extest ∧ act.tapNow ≠ .samplePreload) := by
  decide +kernel

/-! Hypotheses of the statements that are no plain decisions. -/

/-- A state that meets the invariant, and a step from it. -/
theorem test_meets_StepKeepsSound : act.Sound ∧ ∃ t, step act = .next t :=
  ⟨⟨rfl, (by intro e he; cases he), by decide⟩, _, rfl⟩

/-- The frame of the partner's session with a body, sealed under the pair key of the device of a pair. -/
def sealedFrame (b : WoideBody) : WoideFrame := { ackFrame with body := b, tag := woideTag { ackFrame with body := b } 1 }

/-- A frame sealed under the pair key verifies, whatever the cipher yields: the hypotheses of WoideLinkAndFrames on such frames. -/
theorem test_meets_WoideLinkAndFrames_sealed (b : WoideBody) :
    (woide .up).linkReady = true ∧ (woide .up).woideVerifies (sealedFrame b) = true ∧ (woide .up).pair.partner = some (sealedFrame b).session ∧
    (woide .up).woideVerifies { sealedFrame b with tag := ~~~(sealedFrame b).tag } = false := by
  have h : (woide .up).pairHalf = some { key := 1, keyId := 0, kcv := 0, gen := 1, engines := 4, life := 0, uses := 0, fresh := true } := by
    decide +kernel
  refine ⟨by decide +kernel, ?_, rfl, ?_⟩
  · simp only [State.woideVerifies, h]; exact beq_self_eq_true _
  · simp only [State.woideVerifies, h]
    refine beq_false_of_ne fun e => ?_
    have h0 : (~~~(sealedFrame b).tag).getLsbD 0 = (sealedFrame b).tag.getLsbD 0 := congrArg (fun t => BitVec.getLsbD t 0) e
    simp at h0

/-- A reset that completes. -/
theorem test_meets_ResetsKeepRootBlackBoxAndOwnerKey : ∃ t, exec .mainRailsFall State.reset = .next t := ⟨_, rfl⟩

/-! Each check of WellFormed refuses an ill-formed command. -/

/-- A well-formed frame of no kind that Intake knows. -/
def plainRx (b : RxBody) : RxFrame := frame 64 true [] 0 b

/-- A sampled-value frame. -/
def sv (n : Nat) (a : Asdu) : SvFrame :=
  { sessionId := 0xA2, encrypted := false, apduCount := 1, berOk := true, appid := 0, svidCrc := 0, simulation := false, dataLen := n
    asdus := [a], auth := none, apdu := [] }

/-- An ASDU. -/
def asdu (c y r : Nat) : Asdu := { smpCnt := c, smpSynch := y, confRev := r, samples := [] }

theorem test_wf_accepts : (Instr.frameReceive 0 (plainRx (.svL2 (sv 8 (asdu 1 2 3))))).wf = true := by decide
theorem test_wf_refuses_long_frame : (Instr.frameReceive 0 { plainRx .other with len := 16384 }).wf = false := by decide
theorem test_wf_refuses_ports : (Instr.frameReceive 0 (plainRx (.udp 1 2 65536 0 8 .other))).wf = false := by decide
theorem test_wf_refuses_dport : (Instr.frameReceive 0 (plainRx (.udp 1 2 0 65536 8 .other))).wf = false := by decide
theorem test_wf_refuses_udp_length : (Instr.frameReceive 0 (plainRx (.udp 1 2 0 0 65536 .other))).wf = false := by decide
theorem test_wf_refuses_sv_length : (Instr.frameReceive 0 (plainRx (.svL2 (sv 65536 (asdu 0 0 0))))).wf = false := by decide
theorem test_wf_refuses_smpCnt : (Instr.frameReceive 0 (plainRx (.svL2 (sv 8 (asdu 65536 0 0))))).wf = false := by decide
theorem test_wf_refuses_smpSynch : (Instr.frameReceive 0 (plainRx (.svL2 (sv 8 (asdu 0 256 0))))).wf = false := by decide
theorem test_wf_refuses_confRev : (Instr.frameReceive 0 (plainRx (.svL2 (sv 8 (asdu 0 0 4294967296))))).wf = false := by decide
theorem test_wf_refuses_ptp_domain : (Instr.frameReceive 0 (plainRx (.ptp 256 .other))).wf = false := by decide
theorem test_wf_refuses_ptp_sequence : (Instr.frameReceive 0 (plainRx (.ptp 0 (.pdelayReq 65536)))).wf = false := by decide
theorem test_wf_refuses_announce : (Instr.frameReceive 0 (plainRx (.ptp 0 (.announce { ann with prio1 := 256 })))).wf = false := by decide
theorem test_wf_refuses_boundary_temps :
    (Instr.beatBoundary { temps := [], rails := List.replicate 6 0, shadowAgrees := true }).wf = false := by decide
theorem test_wf_refuses_boundary_rails :
    (Instr.beatBoundary { temps := List.replicate 8 0, rails := [], shadowAgrees := true }).wf = false := by decide
theorem test_wf_refuses_quanta : (Instr.pauseFrame 0 65536).wf = false := by decide
theorem test_wf_refuses_pfc_classes : (Instr.pfcFrame 0 0 [1]).wf = false := by decide
theorem test_wf_refuses_pfc_quanta : (Instr.pfcFrame 0 0 [65536, 0, 0, 0, 0, 0, 0, 0]).wf = false := by decide

/-- A TCP segment. -/
def seg : TcpSeg :=
  { sfdAgo := 0, syn := true, fin := false, rst := false, ackNo := none, seqNo := 0, wscale := none, mss := none, tsVal := none
    window := 0, options := false, fragment := false, data := [] }

theorem test_wf_refuses_window : (Instr.tcpSegment 0 { seg with window := 65536 }).wf = false := by decide
theorem test_wf_refuses_mss : (Instr.tcpSegment 0 { seg with mss := some 65536 }).wf = false := by decide
theorem test_wf_refuses_wscale : (Instr.tcpSegment 0 { seg with wscale := some 15 }).wf = false := by decide
theorem test_wf_refuses_unit : (Instr.uncorrectableError .timeUnit 65536).wf = false := by decide
theorem test_wf_refuses_correctable_unit : (Instr.correctableError .timeUnit 65536).wf = false := by decide
theorem test_wf_refuses_record : (Instr.ringOverwriteLoss 4294967296 0).wf = false := by decide
theorem test_wf_refuses_woide_seq : (Instr.woideFrameReceive { ackFrame with seq := 4294967296 }).wf = false := by decide
theorem test_wf_refuses_woide_ack : (Instr.woideFrameReceive { ackFrame with ack := 4294967296 }).wf = false := by decide
theorem test_wf_refuses_woide_nonce : (Instr.woideFrameReceive { ackFrame with nctr := 2 ^ 64 }).wf = false := by decide
theorem test_wf_refuses_woide_change :
    (Instr.woideFrameReceive { ackFrame with body := .change 0 [{ badEntry with width := 0 }] }).wf = false := by decide
theorem test_wf_refuses_touch : (Instr.touchMeasure 0 65536).wf = false := by decide
theorem test_wf_refuses_vbat : (Instr.vbatRead 65536).wf = false := by decide
theorem test_wf_refuses_version : (Instr.emStatus { req with version := 256 }).wf = false := by decide
theorem test_wf_refuses_payload : (Instr.emStatus { req with payload := List.replicate 1425 0 }).wf = false := by decide +kernel

/-! Small checks of single steps, with the values of the spec. -/

/-- The part of the next state that a command leads to. -/
def after (c : Instr) (s : State) : State := match exec c s with | .next t => t | _ => s

/-- The opcode table gives no row any bits. -/
theorem test_no_word_spells_a_command : Sys2Proof.decodeTableWord 32 0 = none := by decide
/-- T1 of Table MOD-2. -/
theorem test_main_power_loss_is_dormant : (after .mainRailsFall State.reset).boot.mode = .dormant := by decide +kernel
/-- R9: a counter stops at 0xFFFF_FFFF. -/
theorem test_counters_saturate : satAdd 0xFFFFFFFF 1 = 0xFFFFFFFF ∧ satAdd 0xFFFFFFFE 1 = 0xFFFFFFFF := by decide
/-- R383: 60 µs is the code of UNDECIDED, and 66 µs is no code. -/
theorem test_token_widths : tokenCode 60000 = some 2 ∧ tokenCode 65001 = none := by decide
/-- R498: IDCODE reads version 1, part 0x8192, 0x07F, 1. -/
theorem test_idcode : tapIdcode.toNat = 0x1 * 2 ^ 28 + 0x8192 * 2 ^ 12 + 0x07F * 2 + 1 := by decide
/-- R49: beats are 1/2400 s; the boundary after 0 lies at 416,666 ns. -/
theorem test_first_boundary : nextBoundary 0 = 416666 := by decide +kernel
/-- Table PRT-2: a frame of 63 bytes is a runt. -/
theorem test_runt_is_counted : (after (.frameReceive 0 (frame 63 true [] 0 .other)) (linked 0 0)).ctr (ck1 .runts 0) = 1 := by decide +kernel
/-- R443: a request for ZEROISE from MGP has no authority. -/
theorem test_authority : (after (.emZeroise req) empS).emp.replies.map (fun r => r.result) = [rAuthority] := by decide +kernel
/-- R301: a 64th of the budget, 1 flit at least, and none for a held class with nothing left. -/
theorem test_quantum : quantum 6 6400 1 5 = 100 ∧ quantum 6 10 1 5 = 1 ∧ quantum 6 6400 1 0 = 0 ∧ quantum 4 6400 1 0 = 100 := by decide
/-- R302: slots in proportion, and an idle owner's slot goes to the next that waits. -/
theorem test_slots : slotTable 4 [2, 1, 1] = [0, 1, 2, 0] ∧ slotTaker [0, 1, 2, 0] (fun k => k == 2) 1 = some 2 := by decide

end Sys2Proof.Tests
end

/-! Lemmas and proofs of the statements on chapter 00: W1C objects (R12). -/

namespace Sys2Proof.Machine

/-! What may change from one state to the next, over two steps. -/

/-- Frames compose: what changes over two steps lies in the parts that either changes. -/
theorem ChangesOnly.trans {ps qs rs : List StatePart} {s t u : State} (hst : ChangesOnly ps s t) (htu : ChangesOnly qs t u)
    (hps : ps ⊆ rs) (hqs : qs ⊆ rs) : ChangesOnly rs s u := by
  intro p hp
  have h1 : p.same s t := hst p (fun h => hp (hps h))
  have h2 : p.same t u := htu p (fun h => hp (hqs h))
  cases p <;> exact h2.trans h1

/-! A request of EMP that passes every check of R435. -/

/-- Being heard and counted changes the counters and the sessions alone. -/
theorem State.emAt_changesOnly (s : State) (q : EmpReq) : ChangesOnly [.ctrs, .emp] s (s.emAt q) := by
  intro p hp
  cases p
  case ctrs | emp => simp at hp
  all_goals rfl

@[simp] theorem State.emAt_beatsRun (s : State) (q : EmpReq) : (s.emAt q).beatsRun = s.beatsRun := (rfl)
@[simp] theorem State.emAt_wq (s : State) (q : EmpReq) (g : Nat) : (s.emAt q).wq g = s.wq g := (rfl)

/-- A request that passes every check is executed by its body, and its outcome is sent. -/
theorem State.emTake_of_emRuns {s : State} {op : Nat} {q : EmpReq} (h : s.emRuns op q)
    (body : State → Auth → State × Option (Nat × Bytes)) :
    s.emTake op q body = (body (s.emAt q) (s.authOf q.svp)).1.emFinish op q (s.authOf q.svp == .service)
      (body (s.emAt q) (s.authOf q.svp)).2 := by
  obtain ⟨hisland, hversion, hjudge, hauth, hmode⟩ := h
  unfold State.emTake
  rw [if_neg (by simp [hisland])]
  extract_lets _ cleared a service heard _ counted
  have hjudge' : heard.judge op q = .run := hjudge
  have hauth' : authAllows op q a = true := hauth
  have hmode' : counted.modeAllows op q a = true := hmode
  rw [if_neg (not_not.mpr hversion), hjudge']
  simp only [hauth', hmode', Bool.not_true, Bool.false_eq_true, if_false]
  rfl

/-- An outcome that is sent leaves as a reply behind those that left before. -/
theorem State.emFinish_replies (s : State) (op : Nat) (q : EmpReq) (service : Bool) (r : Nat × Bytes) :
    (s.emFinish op q service (some r)).emp.replies = s.emp.replies ++ [s.reply op q service r.1 r.2] := by
  simp only [State.emFinish, Option.map]
  split <;> simp [State.emSend]

/-- An outcome that is sent where no reply has left yet is the one reply that leaves. -/
theorem State.oneReply_emFinish {s : State} (h : s.emp.replies = []) (op : Nat) (q : EmpReq) (service : Bool) (r : Nat × Bytes) :
    OneReply (s.emFinish op q service (some r)) op q r := by
  refine ⟨s.reply op q service r.1 r.2, ?_, rfl, rfl, rfl, rfl, rfl, rfl, rfl⟩
  rw [State.emFinish_replies, h, List.nil_append]

/-- Sending an outcome changes EMP alone. -/
theorem State.emFinish_changesOnly (s : State) (op : Nat) (q : EmpReq) (service : Bool) (out : Option (Nat × Bytes)) :
    ChangesOnly [.emp] s (s.emFinish op q service out) := by
  intro p hp
  cases p
  case emp => simp at hp
  all_goals simp [StatePart.same]

/-- A command whose meaning takes a request that passes every check: when its body leads to u with an answer, the command
completes with that one reply, and whatever EMP's sending cannot disturb holds as in u. -/
theorem does_of_emRuns {c : Instr} {s u : State} {op : Nat} {q : EmpReq} {r : Nat × Bytes} {ps : List StatePart}
    {body : State → Auth → State × Option (Nat × Bytes)} {Q : State → Prop} (hexec : exec c s = .next (s.emTake op q body))
    (hruns : s.emRuns op q) (hbody : body (s.emAt q) (s.authOf q.svp) = (u, some r)) (hreplies : u.emp.replies = [])
    (hframe : ChangesOnly ps s u) (hemp : .emp ∈ ps) (hQ : ∀ t, ChangesOnly [.emp] u t → Q t) :
    Does c s ps (fun t => OneReply t op q r ∧ Q t) := by
  have hsent : s.emTake op q body = u.emFinish op q (s.authOf q.svp == .service) (some r) := by
    rw [State.emTake_of_emRuns hruns, hbody]
  have hlast := u.emFinish_changesOnly op q (s.authOf q.svp == .service) (some r)
  refine ⟨_, hexec, ?_⟩
  rw [hsent]
  exact ⟨⟨State.oneReply_emFinish hreplies op q _ r, hQ _ hlast⟩, hframe.trans hlast (fun _ h => h) (by simp [hemp])⟩

/-! W1C objects (R11, R12, R448). -/

/-- R12: a bit that hardware set in the present beat stays set, whatever a W1C write holds. -/
theorem State.w1c_keeps_event {s : State} (hbeats : s.beatsRun = true) {old now : BitVec 32} (w : Nat) {i : Nat}
    (hold : old.getLsbD i = true) (hnow : now.getLsbD i = true) : (s.w1c old now w).getLsbD i = true := by
  have hi : i < 32 := BitVec.lt_of_getLsbD hold
  simp [State.w1c, hbeats, hold, hnow, hi]

/-- WRITE of the seen bits of the level events clears them as a W1C object. -/
theorem State.emWrite_seen (s : State) {q : EmpReq} (ho : q.object.toNat = 0x00200005) (hlen : q.payload.length = 4) :
    s.emWrite q = ({ s with sens := { s.sens with seen := s.w1c s.sens.seen s.sens.seenNow (beNat q.payload) } }, some okay) := by
  simp [State.emWrite, ho, hlen]

/-- WRITE of a lane group's HOLD_SEEN clears it, but not while hardware set it in the present beat. -/
theorem State.emWrite_holdSeen (s : State) {q : EmpReq} {g : Nat} (hg : g < 4) (ho : q.object.toNat = 0x00140100 + g)
    (hlen : q.payload.length = 4) (hv : beNat q.payload ≤ 1) :
    s.emWrite q = (s.modWq g (fun y =>
      { y with holdSeen := (s.wq g).holdSeen && (beNat q.payload == 0 || ((s.wq g).holdNow && s.beatsRun)) }), some okay) := by
  have hrange : 0x00140100 ≤ q.object.toNat ∧ q.object.toNat ≤ 0x00140103 := by omega
  have hgroup : q.object.toNat - 0x00140100 = g := by omega
  simp [State.emWrite, hrange, hlen, hv, hgroup]

/-- A queue is read from SWAGE alone. -/
theorem State.wq_of_swage {s t : State} (h : t.swage = s.swage) (g : Nat) : t.wq g = s.wq g := by
  rw [State.wq, h, State.wq]

/-- The model's change of one list element is the library's. -/
theorem modAt_eq_modify {α : Type} (xs : List α) (i : Nat) (f : α → α) : modAt xs i f = xs.modify i f := by
  induction xs generalizing i with
  | nil => simp [modAt]
  | cons x xs ih => cases i <;> simp [modAt, ih]

/-- A changed queue reads as changed. -/
theorem State.wq_modWq_same {s : State} {g : Nat} {x : QueueSt} (h : s.swage.queues[g]? = some x) (f : QueueSt → QueueSt) :
    (s.modWq g f).wq g = f x := by
  simp [State.wq, modAt_eq_modify, h]

/-- A change of a lane group's queue changes SWAGE alone. -/
theorem State.modWq_changesOnly (s : State) (g : Nat) (f : QueueSt → QueueSt) : ChangesOnly [.swage] s (s.modWq g f) := by
  intro p hp
  cases p
  case swage => simp at hp
  all_goals rfl

/-- A change of the sensors changes them alone. -/
theorem State.setSens_changesOnly (s : State) (x : SensSt) : ChangesOnly [.sens] s { s with sens := x } := by
  intro p hp
  cases p
  case sens => simp at hp
  all_goals rfl

/-- WRITE of the seen bits of the level events keeps those that hardware set in the present beat. -/
theorem emWrite_keeps_seen_event {q : EmpReq} {s : State} (hruns : s.emRuns 0x0011 q) (hbeats : s.beatsRun = true)
    (hlen : q.payload.length = 4) (ho : q.object.toNat = 0x00200005) :
    Does (.emWrite q) s [.ctrs, .sens, .emp] (fun t => OneReply t 0x0011 q (rOk, []) ∧
      ∀ i : Nat, i < 32 → s.sens.seen.getLsbD i = true → s.sens.seenNow.getLsbD i = true → t.sens.seen.getLsbD i = true) := by
  refine does_of_emRuns rfl hruns (State.emWrite_seen _ ho hlen) rfl ?frame (by simp) ?event
  case frame => exact (s.emAt_changesOnly q).trans (State.setSens_changesOnly _ _) (by simp) (by simp)
  case event =>
    intro t ht i _ hseen hnow
    have hsens : t.sens = _ := ht .sens (by simp)
    rw [hsens]
    exact State.w1c_keeps_event hbeats _ hseen hnow

/-- WRITE of a lane group's HOLD_SEEN keeps it where hardware set it in the present beat. -/
theorem emWrite_keeps_holdSeen_event {q : EmpReq} {s : State} (hruns : s.emRuns 0x0011 q) (hbeats : s.beatsRun = true)
    (hlen : q.payload.length = 4) {g : Nat} {x : QueueSt} (hg : g < 4) (hx : s.swage.queues[g]? = some x)
    (ho : q.object.toNat = 0x00140100 + g) (hv : beNat q.payload ≤ 1) (hseen : x.holdSeen = true) (hnow : x.holdNow = true) :
    Does (.emWrite q) s [.ctrs, .swage, .emp] (fun t => OneReply t 0x0011 q (rOk, []) ∧ (t.wq g).holdSeen = true) := by
  refine does_of_emRuns rfl hruns (State.emWrite_holdSeen _ hg ho hlen hv) rfl ?frame (by simp) ?event
  case frame => exact (s.emAt_changesOnly q).trans (State.modWq_changesOnly _ _ _) (by simp) (by simp)
  case event =>
    intro t ht
    have hold : s.wq g = x := by simp [State.wq, hx]
    rw [State.wq_of_swage (ht .swage (by simp)) g, State.wq_modWq_same (s := s.emAt q) hx]
    simp [hold, hseen, hnow, hbeats]

/-- Settles O51: each of the two W1C objects keeps the events of the present beat, as R12 asks. -/
theorem w1cWritesKeepTheEventsOfTheBeat : Obligations.W1cWritesKeepTheEventsOfTheBeat := by
  intro q s hruns hbeats hlen
  exact ⟨emWrite_keeps_seen_event hruns hbeats hlen,
    fun g x hg hx ho hv => emWrite_keeps_holdSeen_event hruns hbeats hlen hg hx ho hv⟩

end Sys2Proof.Machine

/-! Lemmas and proofs of the statements on chapter 02: RESET_N (R47). -/

namespace Sys2Proof.Machine

/-! What the main domain is after a reset (Table MOD-4). -/

/-- The main domain stands reset in LOADING: LTS starts again and DT is set from the real-time clock before it (R41). -/
theorem State.clearMain_values (s : State) (restart : Bool) :
    (s.clearMain restart).boot =
      { BootSt.reset with
        rails := s.boot.rails, island := s.boot.island, pulses := s.boot.pulses, fell := s.boot.fell
        heldFrom := s.boot.heldFrom } ∧
    (s.clearMain restart).lts = 0 ∧ (s.clearMain restart).dt = s.rtc ∧ (s.clearMain restart).img = [] := by
  simp only [State.clearMain]
  split <;> simp [State.lts, State.dt, State.reset, TimeSt.reset]

/-- Setting REF_LOST moves neither clock. -/
@[simp] theorem State.refLost_clocks (s : State) : s.refLost.lts = s.lts ∧ s.refLost.dt = s.dt := by
  unfold State.refLost
  split <;> simp [State.lts, State.dt]

/-- The check of TIME_REF_IN at a start moves neither clock. -/
@[simp] theorem State.checkRef_clocks (s : State) : s.checkRef.lts = s.lts ∧ s.checkRef.dt = s.dt := by
  unfold State.checkRef
  split <;> simp

/-- The clocks are read from the time subsystem alone. -/
theorem State.clocks_of_time {s t : State} (h : t.time = s.time) : t.lts = s.lts ∧ t.dt = s.dt := by
  simp [State.lts, State.dt, h]

/-- A waiting T1 is told once. -/
@[simp] theorem State.recordFall_boot (s : State) : s.recordFall.boot = { s.boot with fell := none } := by
  unfold State.recordFall
  split
  next hnone => rw [← hnone]
  next => split <;> simp

/-- After a start of the main domain it stands reset in LOADING, with nothing left to tell of a T1 or of an island's reset. -/
theorem State.startBy_values (s : State) (t : Nat) (restart : Bool) :
    (s.startBy t restart).boot =
      { BootSt.reset with rails := s.boot.rails, island := s.boot.island, pulses := s.boot.pulses } ∧
    (s.startBy t restart).lts = 0 ∧ (s.startBy t restart).dt = s.rtc ∧ (s.startBy t restart).img = [] := by
  obtain ⟨hboot, hlts, hdt, himg⟩ := s.clearMain_values restart
  have htime : (s.startBy t restart).time = (s.clearMain restart).checkRef.time := by simp [State.startBy]
  obtain ⟨hlts', hdt'⟩ := State.clocks_of_time htime
  refine ⟨?boot, ?lts, ?dt, ?img⟩
  case boot => simp [State.startBy, hboot, BootSt.reset]
  case lts => rw [hlts', (State.checkRef_clocks _).1, hlts]
  case dt => rw [hdt', (State.checkRef_clocks _).2, hdt]
  case img => simp [State.startBy, himg]

/-- A start of the main domain stays within the footprint of RESET_N. -/
theorem State.startBy_changesOnly (s : State) (t : Nat) (restart : Bool) (n : Nat) :
    ChangesOnly (footprint (.pinReset n)) s (s.startBy t restart) := by
  intro p hp
  cases p
  case flash | panel | otp | tap | ext | free | pending => simp [StatePart.same]
  all_goals simp [footprint] at hp

/-! RESET_N (R47). -/

/-- One more pulse whose outcome the rules leave open (log entry 11). -/
def State.countPulse (s : State) : State := { s with boot := { s.boot with pulses := s.boot.pulses + 1 } }

/-- A change of the boot state changes it alone. -/
theorem State.setBoot_changesOnly (s : State) (x : BootSt) : ChangesOnly [.boot] s { s with boot := x } := by
  intro p hp
  cases p
  case boot => simp at hp
  all_goals rfl

/-- RESET_N is dispatched to its meaning. -/
theorem exec_pinReset (n : Nat) (s : State) : exec (.pinReset n) s = execPinReset n s := by rfl

/-- A pulse below 1 µs does nothing, nor does any where there is nothing to reset. -/
theorem exec_pinReset_ignored {n : Nat} {s : State} (h : s.boot.rails = false ∨ s.boot.island = false ∨ n < 1000) :
    exec (.pinReset n) s = .next s := by
  have hcond : (!s.boot.rails || !s.boot.island || decide (n < 1000)) = true := by simpa [or_assoc] using h
  rw [exec_pinReset, execPinReset, if_pos hcond]

/-- From 10 µs on a pulse resets. -/
theorem exec_pinReset_long {n : Nat} {s : State} (hn : 10000 ≤ n) (hrails : s.boot.rails = true)
    (hisland : s.boot.island = true) : exec (.pinReset n) s = .next s.pinReset := by
  have hlow : ¬ n < 1000 := by omega
  simp [exec_pinReset, execPinReset, hrails, hisland, hlow, hn]

/-- A pulse of 1 µs to 10 µs is counted, and resets or does nothing more. -/
theorem exec_pinReset_between {n : Nat} {s : State} (hlow : 1000 ≤ n) (hhigh : n < 10000) (hrails : s.boot.rails = true)
    (hisland : s.boot.island = true) :
    exec (.pinReset n) s = .next s.countPulse.pinReset ∨ exec (.pinReset n) s = .next s.countPulse := by
  have hexec : exec (.pinReset n) s =
      .next (if Config.pulseResets s.boot.pulses then s.countPulse.pinReset else s.countPulse) := by
    simp [exec_pinReset, execPinReset, State.countPulse, hrails, hisland, Nat.not_lt.mpr hlow, Nat.not_le.mpr hhigh]
  rw [hexec]
  split
  · exact Or.inl rfl
  · exact Or.inr rfl

/-- Where beats run, a reset by RESET_N waits as an event for the next beat boundary (R44). -/
theorem State.pinReset_of_beatsRun {s : State} (h : s.beatsRun = true) :
    s.pinReset = { s with boot := { s.boot with evs := s.boot.evs ++ [.pinReset] } } := if_pos h

/-- Where none run, it is T21 at once. -/
theorem State.pinReset_of_not_beatsRun {s : State} (h : s.beatsRun = false) : s.pinReset = s.startBy 21 false :=
  if_neg (by simp [h])

/-- The main domain stands reset in LOADING at once where no beat runs. -/
theorem State.pinReset_values {s : State} (h : s.beatsRun = false) :
    s.pinReset.boot.mode = .loading ∧ s.pinReset.boot.running = false ∧ s.pinReset.lts = 0 ∧ s.pinReset.dt = s.rtc ∧
      s.pinReset.img = [] := by
  obtain ⟨hboot, hlts, hdt, himg⟩ := s.startBy_values 21 false
  rw [State.pinReset_of_not_beatsRun h, hboot]
  exact ⟨rfl, rfl, hlts, hdt, himg⟩

/-- A long pulse: an event where beats run, a reset at once where none do. -/
theorem does_pinReset_long {n : Nat} {s : State} (hn : 10000 ≤ n) (hrails : s.boot.rails = true)
    (hisland : s.boot.island = true) :
    (s.beatsRun = true → Does (.pinReset n) s [.boot] (fun t => t.boot = { s.boot with evs := s.boot.evs ++ [.pinReset] })) ∧
    (s.beatsRun = false → Does (.pinReset n) s (footprint (.pinReset n)) (fun t =>
      t.boot.mode = .loading ∧ t.boot.running = false ∧ t.lts = 0 ∧ t.dt = s.rtc ∧ t.img = [])) := by
  have hexec := exec_pinReset_long hn hrails hisland
  constructor
  · intro hbeats
    rw [State.pinReset_of_beatsRun hbeats] at hexec
    exact ⟨_, hexec, rfl, State.setBoot_changesOnly s _⟩
  · intro hbeats
    refine ⟨_, hexec, State.pinReset_values hbeats, ?_⟩
    rw [State.pinReset_of_not_beatsRun hbeats]
    exact s.startBy_changesOnly 21 false n

/-- A pulse in between where beats run: counted, with or without the event. -/
theorem does_pinReset_between_of_beatsRun {n : Nat} {s : State} (hlow : 1000 ≤ n) (hhigh : n < 10000)
    (hrails : s.boot.rails = true) (hisland : s.boot.island = true) (hbeats : s.beatsRun = true) :
    Does (.pinReset n) s [.boot] (fun t =>
      t.boot = { s.boot with pulses := s.boot.pulses + 1, evs := s.boot.evs ++ [.pinReset] } ∨
      t.boot = { s.boot with pulses := s.boot.pulses + 1 }) := by
  have hevent : s.countPulse.pinReset =
      { s with boot := { s.boot with pulses := s.boot.pulses + 1, evs := s.boot.evs ++ [.pinReset] } } :=
    State.pinReset_of_beatsRun (s := s.countPulse) hbeats
  obtain hreset | hnone := exec_pinReset_between hlow hhigh hrails hisland
  · exact ⟨_, hreset.trans (congrArg _ hevent), .inl rfl, State.setBoot_changesOnly s _⟩
  · exact ⟨_, hnone, .inr rfl, State.setBoot_changesOnly s _⟩

/-- A pulse in between where no beat runs: a reset at once, or only the count. -/
theorem does_pinReset_between_of_not_beatsRun {n : Nat} {s : State} (hlow : 1000 ≤ n) (hhigh : n < 10000)
    (hrails : s.boot.rails = true) (hisland : s.boot.island = true) (hbeats : s.beatsRun = false) :
    Does (.pinReset n) s (footprint (.pinReset n)) (fun t =>
      (t.boot.mode = .loading ∧ t.boot.running = false ∧ t.lts = 0 ∧ t.dt = s.rtc ∧ t.img = []) ∨
      (t.boot = { s.boot with pulses := s.boot.pulses + 1 } ∧ ChangesOnly [.boot] s t)) := by
  have hcount : ChangesOnly [.boot] s s.countPulse := State.setBoot_changesOnly s _
  have hboot : [StatePart.boot] ⊆ footprint (.pinReset n) := by simp [footprint]
  obtain hreset | hnone := exec_pinReset_between hlow hhigh hrails hisland
  · refine ⟨_, hreset, .inl (State.pinReset_values (s := s.countPulse) hbeats), ?_⟩
    rw [State.pinReset_of_not_beatsRun (s := s.countPulse) hbeats]
    exact hcount.trans (State.startBy_changesOnly _ 21 false n) hboot (List.Subset.refl _)
  · exact ⟨_, hnone, .inr ⟨rfl, hcount⟩, fun p hp => hcount p (fun h => hp (hboot h))⟩

/-- Settles O7: a RESET_N pulse by its width, with and without beats. -/
theorem resetPulseWidths : Obligations.ResetPulseWidths := by
  intro n s
  refine ⟨fun hn => exec_pinReset_ignored (.inr (.inr hn)), fun h => exec_pinReset_ignored ?_, does_pinReset_long, ?_⟩
  · exact h.imp_right .inl
  · exact fun hlow hhigh hrails hisland =>
      ⟨does_pinReset_between_of_beatsRun hlow hhigh hrails hisland,
        does_pinReset_between_of_not_beatsRun hlow hhigh hrails hisland⟩

end Sys2Proof.Machine

section

/- As in the tests, one declaration is checked after the other: many at once would each hold a thread and its memory. -/
set_option Elab.async false

/-! Lemmas and the proof of the statement on the whole machine (O5): each command completes and keeps to its footprint. -/

namespace Sys2Proof.Machine

/-! Frames, part by part. -/

/-- A frame says of every part that it is listed or the same. -/
theorem changesOnly_iff {ps : List StatePart} {s t : State} : ChangesOnly ps s t ↔
    (.boot ∈ ps ∨ t.boot = s.boot) ∧ (.img ∈ ps ∨ t.img = s.img) ∧ (.flash ∈ ps ∨ t.flash = s.flash) ∧
    (.ctrs ∈ ps ∨ t.ctrs = s.ctrs) ∧ (.ctrsAt ∈ ps ∨ t.ctrsAt = s.ctrsAt) ∧ (.attn ∈ ps ∨ t.attn = s.attn) ∧
    (.partnerLog ∈ ps ∨ t.partnerLog = s.partnerLog) ∧ (.bbx ∈ ps ∨ t.bbx = s.bbx) ∧ (.sens ∈ ps ∨ t.sens = s.sens) ∧
    (.panel ∈ ps ∨ t.panel = s.panel) ∧ (.ports ∈ ps ∨ t.ports = s.ports) ∧ (.cages ∈ ps ∨ t.cages = s.cages) ∧
    (.tcp ∈ ps ∨ t.tcp = s.tcp) ∧ (.streams ∈ ps ∨ t.streams = s.streams) ∧ (.time ∈ ps ∨ t.time = s.time) ∧
    (.align ∈ ps ∨ t.align = s.align) ∧ (.swage ∈ ps ∨ t.swage = s.swage) ∧ (.osc ∈ ps ∨ t.osc = s.osc) ∧
    (.isl ∈ ps ∨ t.isl = s.isl) ∧ (.sch ∈ ps ∨ t.sch = s.sch) ∧ (.logic ∈ ps ∨ t.logic = s.logic) ∧
    (.cap ∈ ps ∨ t.cap = s.cap) ∧ (.pub ∈ ps ∨ t.pub = s.pub) ∧ (.pair ∈ ps ∨ t.pair = s.pair) ∧
    (.otp ∈ ps ∨ t.otp = s.otp) ∧ (.vault ∈ ps ∨ t.vault = s.vault) ∧ (.emp ∈ ps ∨ t.emp = s.emp) ∧
    (.tap ∈ ps ∨ t.tap = s.tap) ∧ (.ext ∈ ps ∨ t.ext = s.ext) ∧ (.served ∈ ps ∨ t.served = s.served) ∧
    (.free ∈ ps ∨ t.free = s.free) ∧ (.pending ∈ ps ∨ t.pending = s.pending) := by
  have hpart (p : StatePart) : (p ∉ ps → p.same s t) ↔ (p ∈ ps ∨ p.same s t) := or_iff_not_imp_left.symm
  constructor
  · intro h
    exact ⟨(hpart .boot).1 (h _), (hpart .img).1 (h _), (hpart .flash).1 (h _), (hpart .ctrs).1 (h _),
      (hpart .ctrsAt).1 (h _), (hpart .attn).1 (h _), (hpart .partnerLog).1 (h _), (hpart .bbx).1 (h _),
      (hpart .sens).1 (h _), (hpart .panel).1 (h _), (hpart .ports).1 (h _), (hpart .cages).1 (h _),
      (hpart .tcp).1 (h _), (hpart .streams).1 (h _), (hpart .time).1 (h _), (hpart .align).1 (h _),
      (hpart .swage).1 (h _), (hpart .osc).1 (h _), (hpart .isl).1 (h _), (hpart .sch).1 (h _),
      (hpart .logic).1 (h _), (hpart .cap).1 (h _), (hpart .pub).1 (h _), (hpart .pair).1 (h _),
      (hpart .otp).1 (h _), (hpart .vault).1 (h _), (hpart .emp).1 (h _), (hpart .tap).1 (h _), (hpart .ext).1 (h _),
      (hpart .served).1 (h _), (hpart .free).1 (h _), (hpart .pending).1 (h _)⟩
  · rintro ⟨hboot, himg, hflash, hctrs, hctrsAt, hattn, hpartnerLog, hbbx, hsens, hpanel, hports, hcages, htcp, hstreams,
      htime, halign, hswage, hosc, hisl, hsch, hlogic, hcap, hpub, hpair, hotp, hvault, hemp, htap, hext, hserved,
      hfree, hpending⟩ p hp
    cases p
    · exact hboot.resolve_left hp
    · exact himg.resolve_left hp
    · exact hflash.resolve_left hp
    · exact hctrs.resolve_left hp
    · exact hctrsAt.resolve_left hp
    · exact hattn.resolve_left hp
    · exact hpartnerLog.resolve_left hp
    · exact hbbx.resolve_left hp
    · exact hsens.resolve_left hp
    · exact hpanel.resolve_left hp
    · exact hports.resolve_left hp
    · exact hcages.resolve_left hp
    · exact htcp.resolve_left hp
    · exact hstreams.resolve_left hp
    · exact htime.resolve_left hp
    · exact halign.resolve_left hp
    · exact hswage.resolve_left hp
    · exact hosc.resolve_left hp
    · exact hisl.resolve_left hp
    · exact hsch.resolve_left hp
    · exact hlogic.resolve_left hp
    · exact hcap.resolve_left hp
    · exact hpub.resolve_left hp
    · exact hpair.resolve_left hp
    · exact hotp.resolve_left hp
    · exact hvault.resolve_left hp
    · exact hemp.resolve_left hp
    · exact htap.resolve_left hp
    · exact hext.resolve_left hp
    · exact hserved.resolve_left hp
    · exact hfree.resolve_left hp
    · exact hpending.resolve_left hp

/-- A state changes nothing from itself. -/
theorem ChangesOnly.refl (ps : List StatePart) (s : State) : ChangesOnly ps s s := by simp [changesOnly_iff]

/-! What the operations of a beat boundary leave unchanged (Machine/Boundary.lean). -/

/-- Taking an entry off a list changes the dispatcher alone. -/
@[simp] theorem State.unstall_frame (s : State) (r : Nat) (row : Bool) :
    (State.unstall s r row).boot = s.boot ∧ (State.unstall s r row).img = s.img ∧
    (State.unstall s r row).flash = s.flash ∧ (State.unstall s r row).ctrsAt = s.ctrsAt ∧
    (State.unstall s r row).partnerLog = s.partnerLog ∧ (State.unstall s r row).bbx = s.bbx ∧
    (State.unstall s r row).sens = s.sens ∧ (State.unstall s r row).panel = s.panel ∧
    (State.unstall s r row).cages = s.cages ∧ (State.unstall s r row).tcp = s.tcp ∧
    (State.unstall s r row).time = s.time ∧ (State.unstall s r row).swage = s.swage ∧
    (State.unstall s r row).osc = s.osc ∧ (State.unstall s r row).isl = s.isl ∧
    (State.unstall s r row).logic = s.logic ∧ (State.unstall s r row).otp = s.otp ∧
    (State.unstall s r row).emp = s.emp ∧ (State.unstall s r row).tap = s.tap ∧ (State.unstall s r row).ext = s.ext ∧
    (State.unstall s r row).served = s.served ∧ (State.unstall s r row).free = s.free ∧
    (State.unstall s r row).pending = s.pending := by
  simp [State.unstall]

/-- A late post is counted and told. -/
@[simp] theorem State.noteLate_frame (s : State) (r : Nat) :
    (State.noteLate s r).boot = s.boot ∧ (State.noteLate s r).img = s.img ∧ (State.noteLate s r).flash = s.flash ∧
    (State.noteLate s r).ctrsAt = s.ctrsAt ∧ (State.noteLate s r).partnerLog = s.partnerLog ∧
    (State.noteLate s r).bbx = s.bbx ∧ (State.noteLate s r).sens = s.sens ∧ (State.noteLate s r).panel = s.panel ∧
    (State.noteLate s r).cages = s.cages ∧ (State.noteLate s r).tcp = s.tcp ∧ (State.noteLate s r).time = s.time ∧
    (State.noteLate s r).swage = s.swage ∧ (State.noteLate s r).osc = s.osc ∧ (State.noteLate s r).isl = s.isl ∧
    (State.noteLate s r).logic = s.logic ∧ (State.noteLate s r).otp = s.otp ∧ (State.noteLate s r).emp = s.emp ∧
    (State.noteLate s r).tap = s.tap ∧ (State.noteLate s r).ext = s.ext ∧ (State.noteLate s r).served = s.served ∧
    (State.noteLate s r).free = s.free ∧ (State.noteLate s r).pending = s.pending := by
  unfold State.noteLate
  repeat' split
  all_goals simp

/-- A LAUNCH, COPYOUT or HISTORY entry (R282). -/
@[simp] theorem State.rowOp_frame (s : State) (r op n arg : Nat) (bd : Ns) :
    (State.rowOp s r op n arg bd).boot = s.boot ∧ (State.rowOp s r op n arg bd).img = s.img ∧
    (State.rowOp s r op n arg bd).flash = s.flash ∧ (State.rowOp s r op n arg bd).ctrsAt = s.ctrsAt ∧
    (State.rowOp s r op n arg bd).partnerLog = s.partnerLog ∧ (State.rowOp s r op n arg bd).bbx = s.bbx ∧
    (State.rowOp s r op n arg bd).sens = s.sens ∧ (State.rowOp s r op n arg bd).panel = s.panel ∧
    (State.rowOp s r op n arg bd).cages = s.cages ∧ (State.rowOp s r op n arg bd).tcp = s.tcp ∧
    (State.rowOp s r op n arg bd).time = s.time ∧ (State.rowOp s r op n arg bd).swage = s.swage ∧
    (State.rowOp s r op n arg bd).osc = s.osc ∧ (State.rowOp s r op n arg bd).isl = s.isl ∧
    (State.rowOp s r op n arg bd).logic = s.logic ∧ (State.rowOp s r op n arg bd).otp = s.otp ∧
    (State.rowOp s r op n arg bd).emp = s.emp ∧ (State.rowOp s r op n arg bd).tap = s.tap ∧
    (State.rowOp s r op n arg bd).ext = s.ext ∧ (State.rowOp s r op n arg bd).served = s.served ∧
    (State.rowOp s r op n arg bd).free = s.free ∧ (State.rowOp s r op n arg bd).pending = s.pending := by
  unfold State.rowOp
  dsimp only
  repeat' split
  all_goals simp

/-- Placing stalled posts (R299). -/
@[simp] theorem State.placeStalled_frame (r : Nat) (row : Bool) (bd : Ns) (n : Nat) (s : State) :
    (State.placeStalled r row bd n s).boot = s.boot ∧ (State.placeStalled r row bd n s).img = s.img ∧
    (State.placeStalled r row bd n s).flash = s.flash ∧ (State.placeStalled r row bd n s).ctrsAt = s.ctrsAt ∧
    (State.placeStalled r row bd n s).partnerLog = s.partnerLog ∧ (State.placeStalled r row bd n s).bbx = s.bbx ∧
    (State.placeStalled r row bd n s).sens = s.sens ∧ (State.placeStalled r row bd n s).panel = s.panel ∧
    (State.placeStalled r row bd n s).cages = s.cages ∧ (State.placeStalled r row bd n s).tcp = s.tcp ∧
    (State.placeStalled r row bd n s).time = s.time ∧ (State.placeStalled r row bd n s).swage = s.swage ∧
    (State.placeStalled r row bd n s).osc = s.osc ∧ (State.placeStalled r row bd n s).isl = s.isl ∧
    (State.placeStalled r row bd n s).logic = s.logic ∧ (State.placeStalled r row bd n s).otp = s.otp ∧
    (State.placeStalled r row bd n s).emp = s.emp ∧ (State.placeStalled r row bd n s).tap = s.tap ∧
    (State.placeStalled r row bd n s).ext = s.ext ∧ (State.placeStalled r row bd n s).served = s.served ∧
    (State.placeStalled r row bd n s).free = s.free ∧ (State.placeStalled r row bd n s).pending = s.pending := by
  induction n generalizing s with
  | zero => simp [State.placeStalled]
  | succ n ih =>
    unfold State.placeStalled
    dsimp only
    repeat' split
    all_goals simp [ih]

/-- Sets that apply here alone (R394). -/
@[simp] theorem State.uncarried_frame (s : State) (bd : Ns) :
    (State.uncarried s bd).flash = s.flash ∧ (State.uncarried s bd).panel = s.panel ∧
    (State.uncarried s bd).tap = s.tap ∧ (State.uncarried s bd).ext = s.ext ∧ (State.uncarried s bd).free = s.free ∧
    (State.uncarried s bd).pending = s.pending := by
  simp [State.uncarried]

/-- A due set (R84). -/
@[simp] theorem State.applyDue_frame (s : State) (x : SetDue) :
    (State.applyDue s x).flash = s.flash ∧ (State.applyDue s x).panel = s.panel ∧ (State.applyDue s x).tap = s.tap ∧
    (State.applyDue s x).ext = s.ext ∧ (State.applyDue s x).free = s.free ∧ (State.applyDue s x).pending = s.pending := by
  unfold State.applyDue
  repeat' split
  all_goals simp

/-- The due sets (R84). -/
@[simp] theorem State.applySets_frame (s : State) (bd : Ns) :
    (State.applySets s bd).flash = s.flash ∧ (State.applySets s bd).panel = s.panel ∧
    (State.applySets s bd).tap = s.tap ∧ (State.applySets s bd).ext = s.ext ∧ (State.applySets s bd).free = s.free ∧
    (State.applySets s bd).pending = s.pending := by
  simp [State.applySets]

/-- What applies after the requests (R37, R376, R420). -/
@[simp] theorem State.boundaryMoves_frame (s : State) (bd : Ns) :
    (State.boundaryMoves s bd).flash = s.flash ∧ (State.boundaryMoves s bd).panel = s.panel ∧
    (State.boundaryMoves s bd).tap = s.tap ∧ (State.boundaryMoves s bd).ext = s.ext ∧
    (State.boundaryMoves s bd).free = s.free ∧ (State.boundaryMoves s bd).pending = s.pending := by
  simp [State.boundaryMoves]

/-- The readings of a beat. -/
@[simp] theorem State.readSensors_frame (s : State) (b : BoundaryIn) :
    (State.readSensors s b).flash = s.flash ∧ (State.readSensors s b).panel = s.panel ∧
    (State.readSensors s b).tap = s.tap ∧ (State.readSensors s b).ext = s.ext ∧
    (State.readSensors s b).free = s.free ∧ (State.readSensors s b).pending = s.pending := by
  simp [State.readSensors]

/-- The thermal level of a region (R307). -/
@[simp] theorem State.thermal_frame (s : State) (r : Nat) :
    (State.thermal s r).flash = s.flash ∧ (State.thermal s r).panel = s.panel ∧ (State.thermal s r).tap = s.tap ∧
    (State.thermal s r).ext = s.ext ∧ (State.thermal s r).free = s.free ∧ (State.thermal s r).pending = s.pending := by
  unfold State.thermal
  dsimp only
  repeat' split
  all_goals simp

/-- The budgets of a region (R292). -/
@[simp] theorem State.refreshBudgets_frame (s : State) (r : Nat) :
    (State.refreshBudgets s r).flash = s.flash ∧ (State.refreshBudgets s r).panel = s.panel ∧
    (State.refreshBudgets s r).tap = s.tap ∧ (State.refreshBudgets s r).ext = s.ext ∧
    (State.refreshBudgets s r).free = s.free ∧ (State.refreshBudgets s r).pending = s.pending := by
  simp [State.refreshBudgets]

/-- Cells that go out of service (R22). -/
@[simp] theorem State.quarantine_frame (s : State) :
    (State.quarantine s).flash = s.flash ∧ (State.quarantine s).panel = s.panel ∧ (State.quarantine s).tap = s.tap ∧
    (State.quarantine s).ext = s.ext ∧ (State.quarantine s).free = s.free ∧ (State.quarantine s).pending = s.pending := by
  unfold State.quarantine
  dsimp only
  repeat' split
  all_goals simp

/-- What MIRROR and MGMT owe (Table SCH-1). -/
@[simp] theorem State.chargeOwed_frame (s : State) :
    (State.chargeOwed s).flash = s.flash ∧ (State.chargeOwed s).panel = s.panel ∧ (State.chargeOwed s).tap = s.tap ∧
    (State.chargeOwed s).ext = s.ext ∧ (State.chargeOwed s).free = s.free ∧ (State.chargeOwed s).pending = s.pending := by
  simp [State.chargeOwed]

/-- Levels, budgets and cells (Sequence SCH-1). -/
@[simp] theorem State.boundaryGuard_frame (s : State) (b : BoundaryIn) :
    (State.boundaryGuard s b).flash = s.flash ∧ (State.boundaryGuard s b).panel = s.panel ∧
    (State.boundaryGuard s b).tap = s.tap ∧ (State.boundaryGuard s b).ext = s.ext ∧
    (State.boundaryGuard s b).free = s.free ∧ (State.boundaryGuard s b).pending = s.pending := by
  simp [State.boundaryGuard]

/-- An entry of a row (R282). -/
@[simp] theorem State.rowEntryAct_frame (s : State) (r row : Nat) (bd : Ns) (e : Nat) :
    (State.rowEntryAct s r row bd e).flash = s.flash ∧ (State.rowEntryAct s r row bd e).panel = s.panel ∧
    (State.rowEntryAct s r row bd e).tap = s.tap ∧ (State.rowEntryAct s r row bd e).ext = s.ext ∧
    (State.rowEntryAct s r row bd e).free = s.free ∧ (State.rowEntryAct s r row bd e).pending = s.pending := by
  unfold State.rowEntryAct
  dsimp only
  repeat' split
  all_goals simp

/-- Posts without a place (Table SCH-9). -/
@[simp] theorem State.dropUnplaced_frame (s : State) (r : Nat) :
    (State.dropUnplaced s r).flash = s.flash ∧ (State.dropUnplaced s r).panel = s.panel ∧
    (State.dropUnplaced s r).tap = s.tap ∧ (State.dropUnplaced s r).ext = s.ext ∧
    (State.dropUnplaced s r).free = s.free ∧ (State.dropUnplaced s r).pending = s.pending := by
  refine forAll_inv (fun u : State => u.flash = s.flash ∧ u.panel = s.panel ∧ u.tap = s.tap ∧ u.ext = s.ext ∧ u.free = s.free ∧ u.pending = s.pending)
    _ (fun u p hu => ?_) _ _ (by simp)
  split
  next =>
    split
    · simpa using hu
    · exact hu
  next => exact hu

/-- A step of a row (R281). -/
@[simp] theorem State.stepRow_frame (s : State) (k : Nat) (bd : Ns) (r : Nat) :
    (State.stepRow s k bd r).flash = s.flash ∧ (State.stepRow s k bd r).panel = s.panel ∧
    (State.stepRow s k bd r).tap = s.tap ∧ (State.stepRow s k bd r).ext = s.ext ∧
    (State.stepRow s k bd r).free = s.free ∧ (State.stepRow s k bd r).pending = s.pending := by
  simp [State.stepRow]

/-- Watch groups of a replayed row. -/
@[simp] theorem State.replayGroups_frame (s : State) (r : Nat) (w : Row) :
    (State.replayGroups s r w).flash = s.flash ∧ (State.replayGroups s r w).panel = s.panel ∧
    (State.replayGroups s r w).tap = s.tap ∧ (State.replayGroups s r w).ext = s.ext ∧
    (State.replayGroups s r w).free = s.free ∧ (State.replayGroups s r w).pending = s.pending := by
  simp [State.replayGroups]

/-- Output sets of a replayed row. -/
@[simp] theorem State.replayParts_frame (s : State) (r : Nat) (w : Row) :
    (State.replayParts s r w).flash = s.flash ∧ (State.replayParts s r w).panel = s.panel ∧
    (State.replayParts s r w).tap = s.tap ∧ (State.replayParts s r w).ext = s.ext ∧
    (State.replayParts s r w).free = s.free ∧ (State.replayParts s r w).pending = s.pending := by
  simp [State.replayParts]

/-- What the close of each replayed row keeps, the release of the rows of a replay keeps. -/
theorem State.feedRows_inv (P : State → Prop) (hgroups : ∀ (u : State) (r : Nat) (w : Row), P u → P (u.replayGroups r w))
    (hparts : ∀ (u : State) (r : Nat) (w : Row), P u → P (u.replayParts r w)) (s : State) (x : ReplaySt) (h : Ns) (hs : P s) :
    P (s.feedRows x h) := by
  refine forAll_inv P _ (fun u r hu => ?_) _ _ hs
  exact forAll_inv P _ (fun v t hv => hparts _ _ _ (hgroups _ _ _ hv)) _ _ hu

/-- Replayed rows. -/
@[simp] theorem State.feedRows_frame (s : State) (x : ReplaySt) (h : Ns) :
    (State.feedRows s x h).flash = s.flash ∧ (State.feedRows s x h).panel = s.panel ∧
    (State.feedRows s x h).tap = s.tap ∧ (State.feedRows s x h).ext = s.ext ∧ (State.feedRows s x h).free = s.free ∧
    (State.feedRows s x h).pending = s.pending := by
  refine State.feedRows_inv (fun u : State => u.flash = s.flash ∧ u.panel = s.panel ∧ u.tap = s.tap ∧ u.ext = s.ext ∧ u.free = s.free ∧ u.pending = s.pending)
    ?_ ?_ s x h (by simp)
  · intro u r w hu
    simpa using hu
  · intro u r w hu
    simpa using hu

/-- Replayed scans. -/
@[simp] theorem State.feedScans_frame (s : State) (x : ReplaySt) (h : Ns) :
    (State.feedScans s x h).flash = s.flash ∧ (State.feedScans s x h).panel = s.panel ∧
    (State.feedScans s x h).tap = s.tap ∧ (State.feedScans s x h).ext = s.ext ∧
    (State.feedScans s x h).free = s.free ∧ (State.feedScans s x h).pending = s.pending := by
  simp [State.feedScans]

/-- What the replayed rows and scans keep, and a change of the waveform unit, feeding a replay keeps. -/
theorem State.feedReplay_inv (P : State → Prop) (hrows : ∀ (u : State) (x : ReplaySt) (h : Ns), P u → P (u.feedRows x h))
    (hscans : ∀ (u : State) (x : ReplaySt) (h : Ns), P u → P (u.feedScans x h))
    (hswage : ∀ (u : State) (w : SwageSt), P u → P { u with swage := w }) (s : State) (bd : Ns) (hs : P s) : P (s.feedReplay bd) := by
  unfold State.feedReplay
  split
  next => exact hs
  next =>
    split
    · exact hs
    · exact hswage _ _ (hscans _ _ _ (hrows _ _ _ hs))

/-- The sets that a replay feeds (R190). -/
@[simp] theorem State.feedReplay_frame (s : State) (bd : Ns) :
    (State.feedReplay s bd).flash = s.flash ∧ (State.feedReplay s bd).panel = s.panel ∧
    (State.feedReplay s bd).tap = s.tap ∧ (State.feedReplay s bd).ext = s.ext ∧
    (State.feedReplay s bd).free = s.free ∧ (State.feedReplay s bd).pending = s.pending := by
  refine State.feedReplay_inv (fun u : State => u.flash = s.flash ∧ u.panel = s.panel ∧ u.tap = s.tap ∧ u.ext = s.ext ∧ u.free = s.free ∧ u.pending = s.pending)
    ?_ ?_ (fun _ _ hu => hu) s bd (by simp)
  · intro u x h hu
    simpa using hu
  · intro u x h hu
    simpa using hu

/-- The gates of the alarm members (R371). -/
@[simp] theorem State.regateAlarms_frame (s : State) :
    (State.regateAlarms s).flash = s.flash ∧ (State.regateAlarms s).panel = s.panel ∧
    (State.regateAlarms s).tap = s.tap ∧ (State.regateAlarms s).ext = s.ext ∧ (State.regateAlarms s).free = s.free ∧
    (State.regateAlarms s).pending = s.pending := by
  simp [State.regateAlarms]

/-- The digest (R310). -/
@[simp] theorem State.latchDigest_frame (s : State) (bd : Ns) (agrees : Bool) :
    (State.latchDigest s bd agrees).flash = s.flash ∧ (State.latchDigest s bd agrees).panel = s.panel ∧
    (State.latchDigest s bd agrees).tap = s.tap ∧ (State.latchDigest s bd agrees).ext = s.ext ∧
    (State.latchDigest s bd agrees).free = s.free ∧ (State.latchDigest s bd agrees).pending = s.pending := by
  unfold State.latchDigest
  dsimp only
  repeat' split
  all_goals simp

/-- The start of a beat. -/
@[simp] theorem State.boundaryBegin_frame (s : State) :
    (State.boundaryBegin s).flash = s.flash ∧ (State.boundaryBegin s).panel = s.panel ∧
    (State.boundaryBegin s).tap = s.tap ∧ (State.boundaryBegin s).ext = s.ext ∧
    (State.boundaryBegin s).free = s.free ∧ (State.boundaryBegin s).pending = s.pending := by
  simp [State.boundaryBegin]

/-- The end of a boundary. -/
@[simp] theorem State.boundaryEnd_frame (s : State) (k : Nat) (bd : Ns) (agrees : Bool) :
    (State.boundaryEnd s k bd agrees).flash = s.flash ∧ (State.boundaryEnd s k bd agrees).panel = s.panel ∧
    (State.boundaryEnd s k bd agrees).tap = s.tap ∧ (State.boundaryEnd s k bd agrees).ext = s.ext ∧
    (State.boundaryEnd s k bd agrees).free = s.free ∧ (State.boundaryEnd s k bd agrees).pending = s.pending := by
  simp [State.boundaryEnd]

/-- The pair at a boundary (R395). -/
@[simp] theorem State.boundaryPaths_frame (s : State) :
    (State.boundaryPaths s).flash = s.flash ∧ (State.boundaryPaths s).panel = s.panel ∧
    (State.boundaryPaths s).tap = s.tap ∧ (State.boundaryPaths s).ext = s.ext ∧
    (State.boundaryPaths s).free = s.free ∧ (State.boundaryPaths s).pending = s.pending := by
  unfold State.boundaryPaths
  dsimp only
  repeat' split
  all_goals simp

/-- The work of a boundary. -/
@[simp] theorem State.boundaryWork_frame (s : State) (k : Nat) (bd : Ns) :
    (State.boundaryWork s k bd).flash = s.flash ∧ (State.boundaryWork s k bd).panel = s.panel ∧
    (State.boundaryWork s k bd).tap = s.tap ∧ (State.boundaryWork s k bd).ext = s.ext ∧
    (State.boundaryWork s k bd).free = s.free ∧ (State.boundaryWork s k bd).pending = s.pending := by
  simp [State.boundaryWork]

/-- A beat boundary (Sequence SCH-1). -/
@[simp] theorem State.beatBoundary_frame (s : State) (b : BoundaryIn) (k : Nat) (bd : Ns) :
    (State.beatBoundary s b k bd).panel = s.panel ∧ (State.beatBoundary s b k bd).tap = s.tap ∧
    (State.beatBoundary s b k bd).ext = s.ext ∧ (State.beatBoundary s b k bd).free = s.free ∧
    (State.beatBoundary s b k bd).pending = s.pending := by
  unfold State.beatBoundary
  dsimp only
  repeat' split
  all_goals simp

end Sys2Proof.Machine

namespace Sys2Proof.Machine

/-! Each command: it completes, and what is not in its footprint is the same. -/

theorem mainRailsFall_footprint (s : State) :
    Completes .mainRailsFall s (ChangesOnly (footprint .mainRailsFall) s) := by
  refine ⟨_, rfl, ?_⟩
  repeat' split
  all_goals simp [changesOnly_iff, footprint]

theorem powerOnReset_footprint (s : State) :
    Completes .powerOnReset s (ChangesOnly (footprint .powerOnReset) s) := by
  refine ⟨_, rfl, ?_⟩
  repeat' split
  all_goals simp [changesOnly_iff, footprint]

theorem pinReset_footprint (lowNs) (s : State) :
    Completes (.pinReset lowNs) s (ChangesOnly (footprint (.pinReset lowNs)) s) := by
  refine ⟨_, rfl, ?_⟩
  repeat' split
  all_goals simp [changesOnly_iff, footprint]

theorem islandPowerOn_footprint (s : State) :
    Completes .islandPowerOn s (ChangesOnly (footprint .islandPowerOn) s) := by
  refine ⟨_, rfl, ?_⟩
  repeat' split
  all_goals simp [changesOnly_iff, footprint]

theorem islandReset_footprint (s : State) :
    Completes .islandReset s (ChangesOnly (footprint .islandReset) s) := by
  refine ⟨_, rfl, ?_⟩
  repeat' split
  all_goals simp [changesOnly_iff, footprint]

theorem blackBoxScan_footprint (s : State) :
    Completes .blackBoxScan s (ChangesOnly (footprint .blackBoxScan) s) := by
  refine ⟨_, rfl, ?_⟩
  repeat' split
  all_goals simp [changesOnly_iff, footprint]

theorem loadingComplete_footprint (v) (s : State) :
    Completes (.loadingComplete v) s (ChangesOnly (footprint (.loadingComplete v)) s) := by
  refine ⟨_, rfl, ?_⟩
  dsimp only
  repeat' split
  all_goals simp [changesOnly_iff, footprint]

theorem loadCheckFail_footprint (v) (s : State) :
    Completes (.loadCheckFail v) s (ChangesOnly (footprint (.loadCheckFail v)) s) := by
  refine ⟨_, rfl, ?_⟩
  dsimp only
  repeat' split
  all_goals simp [changesOnly_iff, footprint]

theorem powerFailAsserted_footprint (s : State) :
    Completes .powerFailAsserted s (ChangesOnly (footprint .powerFailAsserted) s) := by
  refine ⟨_, rfl, ?_⟩
  repeat' split
  all_goals simp [changesOnly_iff, footprint]

theorem powerRestored_footprint (s : State) :
    Completes .powerRestored s (ChangesOnly (footprint .powerRestored) s) := by
  refine ⟨_, rfl, ?_⟩
  repeat' split
  all_goals simp [changesOnly_iff, footprint]

theorem tamper_footprint (sources) (s : State) :
    Completes (.tamper sources) s (ChangesOnly (footprint (.tamper sources)) s) := by
  refine ⟨_, rfl, ?_⟩
  repeat' split
  all_goals simp [changesOnly_iff, footprint]

theorem beatBoundary_footprint (b) (s : State) :
    Completes (.beatBoundary b) s (ChangesOnly (footprint (.beatBoundary b)) s) := by
  refine ⟨_, rfl, ?_⟩
  repeat' split
  all_goals simp [changesOnly_iff, footprint]

theorem postRoomAvailable_footprint (r) (s : State) :
    Completes (.postRoomAvailable r) s (ChangesOnly (footprint (.postRoomAvailable r)) s) := by
  refine ⟨_, rfl, ?_⟩
  repeat' split
  all_goals simp [changesOnly_iff, footprint]

theorem delayItemDue_footprint (r) (s : State) :
    Completes (.delayItemDue r) s (ChangesOnly (footprint (.delayItemDue r)) s) := by
  refine ⟨_, rfl, ?_⟩
  repeat' split
  all_goals simp [changesOnly_iff, footprint]

theorem dispatch_footprint (r) (s : State) :
    Completes (.dispatch r) s (ChangesOnly (footprint (.dispatch r)) s) := by
  refine ⟨_, rfl, ?_⟩
  repeat' split
  all_goals simp [changesOnly_iff, footprint]

theorem itemComplete_footprint (c) (used) (s : State) :
    Completes (.itemComplete c used) s (ChangesOnly (footprint (.itemComplete c used)) s) := by
  refine ⟨_, rfl, ?_⟩
  repeat' split
  all_goals simp [changesOnly_iff, footprint]

theorem cellFault_footprint (c) (cause) (s : State) :
    Completes (.cellFault c cause) s (ChangesOnly (footprint (.cellFault c cause)) s) := by
  refine ⟨_, rfl, ?_⟩
  repeat' split
  all_goals simp [changesOnly_iff, footprint]

theorem cellWatchdog_footprint (c) (s : State) :
    Completes (.cellWatchdog c) s (ChangesOnly (footprint (.cellWatchdog c)) s) := by
  refine ⟨_, rfl, ?_⟩
  repeat' split
  all_goals simp [changesOnly_iff, footprint]

theorem itemLimitReached_footprint (c) (s : State) :
    Completes (.itemLimitReached c) s (ChangesOnly (footprint (.itemLimitReached c)) s) := by
  refine ⟨_, rfl, ?_⟩
  repeat' split
  all_goals simp [changesOnly_iff, footprint]

theorem uncorrectableError_footprint (st) (unit) (s : State) :
    Completes (.uncorrectableError st unit) s (ChangesOnly (footprint (.uncorrectableError st unit)) s) := by
  refine ⟨_, rfl, ?_⟩
  repeat' split
  all_goals simp [changesOnly_iff, footprint]

theorem correctableError_footprint (st) (unit) (s : State) :
    Completes (.correctableError st unit) s (ChangesOnly (footprint (.correctableError st unit)) s) := by
  exact ⟨_, rfl, by simp [changesOnly_iff, footprint]⟩

theorem thermalLevelFall_footprint (r) (s : State) :
    Completes (.thermalLevelFall r) s (ChangesOnly (footprint (.thermalLevelFall r)) s) := by
  refine ⟨_, rfl, ?_⟩
  repeat' split
  all_goals simp [changesOnly_iff, footprint]

theorem warmupTimeout_footprint (s : State) :
    Completes .warmupTimeout s (ChangesOnly (footprint .warmupTimeout) s) := by
  refine ⟨_, rfl, ?_⟩
  repeat' split
  all_goals simp [changesOnly_iff, footprint]

theorem dtLockConverged_footprint (s : State) :
    Completes .dtLockConverged s (ChangesOnly (footprint .dtLockConverged) s) := by
  refine ⟨_, rfl, ?_⟩
  repeat' split
  all_goals simp [changesOnly_iff, footprint]

theorem frameReceive_footprint (p) (f) (s : State) :
    Completes (.frameReceive p f) s (ChangesOnly (footprint (.frameReceive p f)) s) := by
  refine ⟨_, rfl, ?_⟩
  repeat' split
  all_goals simp [changesOnly_iff, footprint]

theorem arpRequest_footprint (p) (vid) (target) (senderIp) (senderMac) (s : State) :
    Completes (.arpRequest p vid target senderIp senderMac) s (ChangesOnly (footprint (.arpRequest p vid target senderIp senderMac)) s) := by
  simp only [Completes, exec, execArpRequest]
  repeat' split
  all_goals exact ⟨_, rfl, by simp [changesOnly_iff, footprint]⟩

theorem pauseFrame_footprint (p) (quanta) (s : State) :
    Completes (.pauseFrame p quanta) s (ChangesOnly (footprint (.pauseFrame p quanta)) s) := by
  simp only [Completes, exec, execPauseFrame]
  repeat' split
  all_goals exact ⟨_, rfl, by simp [changesOnly_iff, footprint]⟩

theorem pfcFrame_footprint (p) (vector) (quanta) (s : State) :
    Completes (.pfcFrame p vector quanta) s (ChangesOnly (footprint (.pfcFrame p vector quanta)) s) := by
  simp only [Completes, exec, execPfcFrame]
  repeat' split
  all_goals exact ⟨_, rfl, by simp [changesOnly_iff, footprint]⟩

theorem macControlOther_footprint (p) (opcode) (s : State) :
    Completes (.macControlOther p opcode) s (ChangesOnly (footprint (.macControlOther p opcode)) s) := by
  simp only [Completes, exec, execMacControlOther]
  repeat' split
  all_goals exact ⟨_, rfl, by simp [changesOnly_iff, footprint]⟩

theorem pauseTimerExpiry_footprint (p) (q) (s : State) :
    Completes (.pauseTimerExpiry p q) s (ChangesOnly (footprint (.pauseTimerExpiry p q)) s) := by
  simp only [Completes, exec, execPauseTimerExpiry]
  repeat' split
  all_goals exact ⟨_, rfl, by simp [changesOnly_iff, footprint]⟩

theorem pauseStall_footprint (p) (q) (s : State) :
    Completes (.pauseStall p q) s (ChangesOnly (footprint (.pauseStall p q)) s) := by
  simp only [Completes, exec, execPauseStall]
  repeat' split
  all_goals exact ⟨_, rfl, by simp [changesOnly_iff, footprint]⟩

theorem transmitStart_footprint (p) (s : State) :
    Completes (.transmitStart p) s (ChangesOnly (footprint (.transmitStart p)) s) := by
  simp only [Completes, exec, execTransmitStart]
  repeat' split
  all_goals exact ⟨_, rfl, by simp [changesOnly_iff, footprint]⟩

theorem transmitEnd_footprint (p) (s : State) :
    Completes (.transmitEnd p) s (ChangesOnly (footprint (.transmitEnd p)) s) := by
  simp only [Completes, exec, execTransmitEnd]
  repeat' split
  all_goals exact ⟨_, rfl, by simp [changesOnly_iff, footprint]⟩

theorem queueRoomAvailable_footprint (p) (q) (s : State) :
    Completes (.queueRoomAvailable p q) s (ChangesOnly (footprint (.queueRoomAvailable p q)) s) := by
  simp only [Completes, exec, execQueueRoomAvailable]
  repeat' split
  all_goals exact ⟨_, rfl, by simp [changesOnly_iff, footprint]⟩

theorem launchStrobe_footprint (s : State) :
    Completes .launchStrobe s (ChangesOnly (footprint .launchStrobe) s) := by
  exact ⟨_, rfl, by simp [changesOnly_iff, footprint]⟩

theorem lateDrop_footprint (p) (q) (s : State) :
    Completes (.lateDrop p q) s (ChangesOnly (footprint (.lateDrop p q)) s) := by
  exact ⟨_, rfl, by simp [changesOnly_iff, footprint]⟩

theorem moduleInserted_footprint (cage) (s : State) :
    Completes (.moduleInserted cage) s (ChangesOnly (footprint (.moduleInserted cage)) s) := by
  simp only [Completes, exec, execModuleInserted]
  repeat' split
  all_goals exact ⟨_, rfl, by simp [changesOnly_iff, footprint]⟩

theorem moduleInitDone_footprint (cage) (supportsPhy) (s : State) :
    Completes (.moduleInitDone cage supportsPhy) s (ChangesOnly (footprint (.moduleInitDone cage supportsPhy)) s) := by
  simp only [Completes, exec, execModuleInitDone]
  repeat' split
  all_goals exact ⟨_, rfl, by simp [changesOnly_iff, footprint]⟩

theorem moduleRemoved_footprint (x) (s : State) :
    Completes (.moduleRemoved x) s (ChangesOnly (footprint (.moduleRemoved x)) s) := by
  simp only [Completes, exec, execModuleRemoved]
  repeat' split
  all_goals exact ⟨_, rfl, by simp [changesOnly_iff, footprint]⟩

theorem linkUp_footprint (p) (s : State) :
    Completes (.linkUp p) s (ChangesOnly (footprint (.linkUp p)) s) := by
  simp only [Completes, exec, execLinkUp]
  repeat' split
  all_goals exact ⟨_, rfl, by simp [changesOnly_iff, footprint]⟩

theorem linkDown_footprint (x) (s : State) :
    Completes (.linkDown x) s (ChangesOnly (footprint (.linkDown x)) s) := by
  refine ⟨_, rfl, ?_⟩
  repeat' split
  all_goals simp [changesOnly_iff, footprint]

theorem tcpSegment_footprint (sid) (seg) (s : State) :
    Completes (.tcpSegment sid seg) s (ChangesOnly (footprint (.tcpSegment sid seg)) s) := by
  refine ⟨_, rfl, ?_⟩
  repeat' split
  all_goals simp [changesOnly_iff, footprint]

theorem tcpReopen_footprint (sid) (s : State) :
    Completes (.tcpReopen sid) s (ChangesOnly (footprint (.tcpReopen sid)) s) := by
  simp only [Completes, exec, execTcpReopen]
  repeat' split
  all_goals exact ⟨_, rfl, by simp [changesOnly_iff, footprint]⟩

theorem tcpRetransmit_footprint (sid) (s : State) :
    Completes (.tcpRetransmit sid) s (ChangesOnly (footprint (.tcpRetransmit sid)) s) := by
  simp only [Completes, exec, execTcpRetransmit]
  repeat' split
  all_goals exact ⟨_, rfl, by simp [changesOnly_iff, footprint]⟩

theorem tcpAckTimer_footprint (sid) (s : State) :
    Completes (.tcpAckTimer sid) s (ChangesOnly (footprint (.tcpAckTimer sid)) s) := by
  simp only [Completes, exec, execTcpAckTimer]
  repeat' split
  all_goals exact ⟨_, rfl, by simp [changesOnly_iff, footprint]⟩

theorem tcpConnectionReset_footprint (sid) (s : State) :
    Completes (.tcpConnectionReset sid) s (ChangesOnly (footprint (.tcpConnectionReset sid)) s) := by
  refine ⟨_, rfl, ?_⟩
  repeat' split
  all_goals simp [changesOnly_iff, footprint]

theorem classifyFrame_footprint (p) (u) (s : State) :
    Completes (.classifyFrame p u) s (ChangesOnly (footprint (.classifyFrame p u)) s) := by
  simp only [Completes, exec, execClassifyFrame]
  split
  next => exact ⟨_, rfl, ChangesOnly.refl _ s⟩
  next =>
    split
    next => exact ⟨_, rfl, ChangesOnly.refl _ s⟩
    next i rest _ =>
      split
      next t hclassify =>
        have hframe := State.classify_frame _ _ _ _ hclassify
        exact ⟨t, rfl, by simp [changesOnly_iff, footprint, hframe]⟩
      next => exact ⟨_, rfl, ChangesOnly.refl _ s⟩

theorem ptpFrame_footprint (s : State) :
    Completes .ptpFrame s (ChangesOnly (footprint .ptpFrame) s) := by
  refine ⟨_, rfl, ?_⟩
  dsimp only
  repeat' split
  all_goals simp [changesOnly_iff, footprint]

theorem pdelayReqTimer_footprint (p) (s : State) :
    Completes (.pdelayReqTimer p) s (ChangesOnly (footprint (.pdelayReqTimer p)) s) := by
  refine ⟨_, rfl, ?_⟩
  repeat' split
  all_goals simp [changesOnly_iff, footprint]

theorem gnssSentence_footprint (x) (s : State) :
    Completes (.gnssSentence x) s (ChangesOnly (footprint (.gnssSentence x)) s) := by
  refine ⟨_, rfl, ?_⟩
  repeat' split
  all_goals simp [changesOnly_iff, footprint]

theorem gnssPpsEdge_footprint (falling) (edgeAgo) (s : State) :
    Completes (.gnssPpsEdge falling edgeAgo) s (ChangesOnly (footprint (.gnssPpsEdge falling edgeAgo)) s) := by
  refine ⟨_, rfl, ?_⟩
  dsimp only
  repeat' split
  all_goals simp [changesOnly_iff, footprint]

theorem irigbFrame_footprint (f) (s : State) :
    Completes (.irigbFrame f) s (ChangesOnly (footprint (.irigbFrame f)) s) := by
  refine ⟨_, rfl, ?_⟩
  repeat' split
  all_goals simp [changesOnly_iff, footprint]

theorem timeVote_footprint (s : State) :
    Completes .timeVote s (ChangesOnly (footprint .timeVote) s) := by
  refine ⟨_, rfl, ?_⟩
  dsimp only
  repeat' split
  all_goals simp [changesOnly_iff, footprint]

theorem baseStep_footprint (b) (s : State) :
    Completes (.baseStep b) s (ChangesOnly (footprint (.baseStep b)) s) := by
  exact ⟨_, rfl, by simp [changesOnly_iff, footprint]⟩

theorem timeRefLost_footprint (s : State) :
    Completes .timeRefLost s (ChangesOnly (footprint .timeRefLost) s) := by
  exact ⟨_, rfl, by simp [changesOnly_iff, footprint]⟩

theorem triggerEdge_footprint (input) (rising) (subns) (s : State) :
    Completes (.triggerEdge input rising subns) s (ChangesOnly (footprint (.triggerEdge input rising subns)) s) := by
  refine ⟨_, rfl, ?_⟩
  repeat' split
  all_goals simp [changesOnly_iff, footprint]

theorem rowOpen_footprint (r) (s : State) :
    Completes (.rowOpen r) s (ChangesOnly (footprint (.rowOpen r)) s) := by
  refine ⟨_, rfl, ?_⟩
  repeat' split
  all_goals simp [changesOnly_iff, footprint]

theorem sliceEntry_footprint (r) (s : State) :
    Completes (.sliceEntry r) s (ChangesOnly (footprint (.sliceEntry r)) s) := by
  refine ⟨_, rfl, ?_⟩
  repeat' split
  all_goals simp [changesOnly_iff, footprint]

theorem quorumWaitExpiry_footprint (g) (s : State) :
    Completes (.quorumWaitExpiry g) s (ChangesOnly (footprint (.quorumWaitExpiry g)) s) := by
  refine ⟨_, rfl, ?_⟩
  dsimp only
  repeat' split
  all_goals simp [changesOnly_iff, footprint]

theorem deadlineClose_footprint (n) (s : State) :
    Completes (.deadlineClose n) s (ChangesOnly (footprint (.deadlineClose n)) s) := by
  refine ⟨_, rfl, ?_⟩
  dsimp only
  repeat' split
  all_goals simp [changesOnly_iff, footprint]

theorem rowRetire_footprint (r) (s : State) :
    Completes (.rowRetire r) s (ChangesOnly (footprint (.rowRetire r)) s) := by
  refine ⟨_, rfl, ?_⟩
  dsimp only
  repeat' split
  all_goals simp [changesOnly_iff, footprint]

theorem rowFinal_footprint (r) (s : State) :
    Completes (.rowFinal r) s (ChangesOnly (footprint (.rowFinal r)) s) := by
  refine ⟨_, rfl, ?_⟩
  dsimp only
  repeat' split
  all_goals simp [changesOnly_iff, footprint]

theorem streamStale_footprint (sid) (s : State) :
    Completes (.streamStale sid) s (ChangesOnly (footprint (.streamStale sid)) s) := by
  simp only [Completes, exec, execStreamStale]
  repeat' split
  all_goals exact ⟨_, rfl, by simp [changesOnly_iff, footprint]⟩

theorem sourceCmdTimer_footprint (sid) (s : State) :
    Completes (.sourceCmdTimer sid) s (ChangesOnly (footprint (.sourceCmdTimer sid)) s) := by
  refine ⟨_, rfl, ?_⟩
  repeat' split
  all_goals simp [changesOnly_iff, footprint]

theorem subscriberCommand_footprint (s : State) :
    Completes .subscriberCommand s (ChangesOnly (footprint .subscriberCommand) s) := by
  simp only [Completes, exec, execSubscriberCommand]
  repeat' split
  all_goals exact ⟨_, rfl, by simp [changesOnly_iff, footprint]⟩

theorem laneFrame_footprint (lane) (bits) (crc) (s : State) :
    Completes (.laneFrame lane bits crc) s (ChangesOnly (footprint (.laneFrame lane bits crc)) s) := by
  refine ⟨_, rfl, ?_⟩
  repeat' split
  all_goals simp [changesOnly_iff, footprint]

theorem wvSyncRelease_footprint (s : State) :
    Completes .wvSyncRelease s (ChangesOnly (footprint .wvSyncRelease) s) := by
  refine ⟨_, rfl, ?_⟩
  repeat' split
  all_goals simp [changesOnly_iff, footprint]

theorem wvSyncAssert_footprint (s : State) :
    Completes .wvSyncAssert s (ChangesOnly (footprint .wvSyncAssert) s) := by
  refine ⟨_, rfl, ?_⟩
  repeat' split
  all_goals simp [changesOnly_iff, footprint]

theorem wvClkLost_footprint (s : State) :
    Completes .wvClkLost s (ChangesOnly (footprint .wvClkLost) s) := by
  refine ⟨_, rfl, ?_⟩
  repeat' split
  all_goals simp [changesOnly_iff, footprint]

theorem laneStop_footprint (lane) (s : State) :
    Completes (.laneStop lane) s (ChangesOnly (footprint (.laneStop lane)) s) := by
  exact ⟨_, rfl, by simp [changesOnly_iff, footprint]⟩

theorem bankHandoff_footprint (g) (s : State) :
    Completes (.bankHandoff g) s (ChangesOnly (footprint (.bankHandoff g)) s) := by
  refine ⟨_, rfl, ?_⟩
  dsimp only
  repeat' split
  all_goals simp [changesOnly_iff, footprint]

theorem queueWordRead_footprint (g) (err) (s : State) :
    Completes (.queueWordRead g err) s (ChangesOnly (footprint (.queueWordRead g err)) s) := by
  refine ⟨_, rfl, ?_⟩
  repeat' split
  all_goals simp [changesOnly_iff, footprint]

theorem svSampleDeadline_footprint (sid) (pos) (s : State) :
    Completes (.svSampleDeadline sid pos) s (ChangesOnly (footprint (.svSampleDeadline sid pos)) s) := by
  refine ⟨_, rfl, ?_⟩
  dsimp only
  repeat' split
  all_goals simp [changesOnly_iff, footprint]

theorem estimateRelease_footprint (ch) (s : State) :
    Completes (.estimateRelease ch) s (ChangesOnly (footprint (.estimateRelease ch)) s) := by
  exact ⟨_, rfl, by simp [changesOnly_iff, footprint]⟩

theorem fastEstimate_footprint (ch) (s : State) :
    Completes (.fastEstimate ch) s (ChangesOnly (footprint (.fastEstimate ch)) s) := by
  exact ⟨_, rfl, by simp [changesOnly_iff, footprint]⟩

theorem replayFrameOut_footprint (lane) (s : State) :
    Completes (.replayFrameOut lane) s (ChangesOnly (footprint (.replayFrameOut lane)) s) := by
  exact ⟨_, rfl, by simp [changesOnly_iff, footprint]⟩

theorem bandUpdate_footprint (t) (band) (s : State) :
    Completes (.bandUpdate t band) s (ChangesOnly (footprint (.bandUpdate t band)) s) := by
  refine ⟨_, rfl, ?_⟩
  dsimp only
  repeat' split
  all_goals simp [changesOnly_iff, footprint]

theorem locationRunStart_footprint (set) (s : State) :
    Completes (.locationRunStart set) s (ChangesOnly (footprint (.locationRunStart set)) s) := by
  refine ⟨_, rfl, ?_⟩
  dsimp only
  repeat' split
  all_goals simp [changesOnly_iff, footprint]

theorem locationResult_footprint (set) (s : State) :
    Completes (.locationResult set) s (ChangesOnly (footprint (.locationResult set)) s) := by
  refine ⟨_, rfl, ?_⟩
  repeat' split
  all_goals simp [changesOnly_iff, footprint]

theorem islandEvaluation_footprint (s : State) :
    Completes .islandEvaluation s (ChangesOnly (footprint .islandEvaluation) s) := by
  refine ⟨_, rfl, ?_⟩
  dsimp only
  repeat' split
  all_goals simp [changesOnly_iff, footprint]

theorem detectorWork_footprint (g) (s : State) :
    Completes (.detectorWork g) s (ChangesOnly (footprint (.detectorWork g)) s) := by
  refine ⟨_, rfl, ?_⟩
  repeat' split
  all_goals simp [changesOnly_iff, footprint]

theorem logicScan_footprint (task) (s : State) :
    Completes (.logicScan task) s (ChangesOnly (footprint (.logicScan task)) s) := by
  exact ⟨_, rfl, by simp [changesOnly_iff, footprint]⟩

theorem doLevelApply_footprint (d) (s : State) :
    Completes (.doLevelApply d) s (ChangesOnly (footprint (.doLevelApply d)) s) := by
  exact ⟨_, rfl, by simp [changesOnly_iff, footprint]⟩

theorem pulseMinExpiry_footprint (d) (s : State) :
    Completes (.pulseMinExpiry d) s (ChangesOnly (footprint (.pulseMinExpiry d)) s) := by
  refine ⟨_, rfl, ?_⟩
  repeat' split
  all_goals simp [changesOnly_iff, footprint]

theorem tripRetry_footprint (out) (s : State) :
    Completes (.tripRetry out) s (ChangesOnly (footprint (.tripRetry out)) s) := by
  exact ⟨_, rfl, by simp [changesOnly_iff, footprint]⟩

theorem captureTrigger_footprint (s : State) :
    Completes .captureTrigger s (ChangesOnly (footprint .captureTrigger) s) := by
  refine ⟨_, rfl, ?_⟩
  repeat' split
  all_goals simp [changesOnly_iff, footprint]

theorem xtrigPulseEnd_footprint (s : State) :
    Completes .xtrigPulseEnd s (ChangesOnly (footprint .xtrigPulseEnd) s) := by
  refine ⟨_, rfl, ?_⟩
  repeat' split
  all_goals simp [changesOnly_iff, footprint]

theorem autoTrigger_footprint (cls) (s : State) :
    Completes (.autoTrigger cls) s (ChangesOnly (footprint (.autoTrigger cls)) s) := by
  refine ⟨_, rfl, ?_⟩
  repeat' split
  all_goals simp [changesOnly_iff, footprint]

theorem spanEnd_footprint (cls) (s : State) :
    Completes (.spanEnd cls) s (ChangesOnly (footprint (.spanEnd cls)) s) := by
  refine ⟨_, rfl, ?_⟩
  dsimp only
  repeat' split
  all_goals simp [changesOnly_iff, footprint]

theorem closingEnd_footprint (cls) (s : State) :
    Completes (.closingEnd cls) s (ChangesOnly (footprint (.closingEnd cls)) s) := by
  exact ⟨_, rfl, by simp [changesOnly_iff, footprint]⟩

theorem ringOverwriteLoss_footprint (seq) (tag) (s : State) :
    Completes (.ringOverwriteLoss seq tag) s (ChangesOnly (footprint (.ringOverwriteLoss seq tag)) s) := by
  refine ⟨_, rfl, ?_⟩
  repeat' split
  all_goals simp [changesOnly_iff, footprint]

theorem alarmStateChange_footprint (n) (s : State) :
    Completes (.alarmStateChange n) s (ChangesOnly (footprint (.alarmStateChange n)) s) := by
  refine ⟨_, rfl, ?_⟩
  repeat' split
  all_goals simp [changesOnly_iff, footprint]

theorem gooseRetransmit_footprint (n) (s : State) :
    Completes (.gooseRetransmit n) s (ChangesOnly (footprint (.gooseRetransmit n)) s) := by
  refine ⟨_, rfl, ?_⟩
  repeat' split
  all_goals simp [changesOnly_iff, footprint]

theorem woideLinkLock_footprint (s : State) :
    Completes .woideLinkLock s (ChangesOnly (footprint .woideLinkLock) s) := by
  refine ⟨_, rfl, ?_⟩
  repeat' split
  all_goals simp [changesOnly_iff, footprint]

theorem helloTimer_footprint (s : State) :
    Completes .helloTimer s (ChangesOnly (footprint .helloTimer) s) := by
  refine ⟨_, rfl, ?_⟩
  repeat' split
  all_goals simp [changesOnly_iff, footprint]

theorem woideFrameReceive_footprint (f) (s : State) :
    Completes (.woideFrameReceive f) s (ChangesOnly (footprint (.woideFrameReceive f)) s) := by
  refine ⟨_, rfl, ?_⟩
  repeat' split
  all_goals simp [changesOnly_iff, footprint]

theorem woideRetransmit_footprint (s : State) :
    Completes .woideRetransmit s (ChangesOnly (footprint .woideRetransmit) s) := by
  refine ⟨_, rfl, ?_⟩
  repeat' split
  all_goals simp [changesOnly_iff, footprint]

theorem woideLinkDown_footprint (why) (s : State) :
    Completes (.woideLinkDown why) s (ChangesOnly (footprint (.woideLinkDown why)) s) := by
  refine ⟨_, rfl, ?_⟩
  repeat' split
  all_goals simp [changesOnly_iff, footprint]

theorem receiverAckTimer_footprint (s : State) :
    Completes .receiverAckTimer s (ChangesOnly (footprint .receiverAckTimer) s) := by
  refine ⟨_, rfl, ?_⟩
  repeat' split
  all_goals simp [changesOnly_iff, footprint]

theorem tokenPulse_footprint (riseNs) (widthNs) (s : State) :
    Completes (.tokenPulse riseNs widthNs) s (ChangesOnly (footprint (.tokenPulse riseNs widthNs)) s) := by
  refine ⟨_, rfl, ?_⟩
  repeat' split
  all_goals simp [changesOnly_iff, footprint]

theorem release_footprint (s : State) :
    Completes .release s (ChangesOnly (footprint .release) s) := by
  refine ⟨_, rfl, ?_⟩
  repeat' split
  all_goals simp [changesOnly_iff, footprint]

theorem splitBrain_footprint (s : State) :
    Completes .splitBrain s (ChangesOnly (footprint .splitBrain) s) := by
  refine ⟨_, rfl, ?_⟩
  repeat' split
  all_goals simp [changesOnly_iff, footprint]

theorem emOpen_footprint (q) (s : State) :
    Completes (.emOpen q) s (ChangesOnly (footprint (.emOpen q)) s) := by
  exact ⟨_, rfl, by simp [changesOnly_iff, footprint]⟩

theorem emClose_footprint (q) (s : State) :
    Completes (.emClose q) s (ChangesOnly (footprint (.emClose q)) s) := by
  exact ⟨_, rfl, by simp [changesOnly_iff, footprint]⟩

theorem emStatus_footprint (q) (s : State) :
    Completes (.emStatus q) s (ChangesOnly (footprint (.emStatus q)) s) := by
  exact ⟨_, rfl, by simp [changesOnly_iff, footprint]⟩

theorem emRead_footprint (q) (s : State) :
    Completes (.emRead q) s (ChangesOnly (footprint (.emRead q)) s) := by
  exact ⟨_, rfl, by simp [changesOnly_iff, footprint]⟩

theorem emWrite_footprint (q) (s : State) :
    Completes (.emWrite q) s (ChangesOnly (footprint (.emWrite q)) s) := by
  exact ⟨_, rfl, by simp [changesOnly_iff, footprint]⟩

theorem emChangeSet_footprint (q) (s : State) :
    Completes (.emChangeSet q) s (ChangesOnly (footprint (.emChangeSet q)) s) := by
  exact ⟨_, rfl, by simp [changesOnly_iff, footprint]⟩

theorem emAttnAck_footprint (q) (s : State) :
    Completes (.emAttnAck q) s (ChangesOnly (footprint (.emAttnAck q)) s) := by
  exact ⟨_, rfl, by simp [changesOnly_iff, footprint]⟩

theorem emStageBegin_footprint (q) (s : State) :
    Completes (.emStageBegin q) s (ChangesOnly (footprint (.emStageBegin q)) s) := by
  exact ⟨_, rfl, by simp [changesOnly_iff, footprint]⟩

theorem emStageData_footprint (q) (s : State) :
    Completes (.emStageData q) s (ChangesOnly (footprint (.emStageData q)) s) := by
  exact ⟨_, rfl, by simp [changesOnly_iff, footprint]⟩

theorem emStageEnd_footprint (q) (s : State) :
    Completes (.emStageEnd q) s (ChangesOnly (footprint (.emStageEnd q)) s) := by
  exact ⟨_, rfl, by simp [changesOnly_iff, footprint]⟩

theorem stageCheckDone_footprint (v) (s : State) :
    Completes (.stageCheckDone v) s (ChangesOnly (footprint (.stageCheckDone v)) s) := by
  refine ⟨_, rfl, ?_⟩
  repeat' split
  all_goals simp [changesOnly_iff, footprint]

theorem stagingTimeout_footprint (s : State) :
    Completes .stagingTimeout s (ChangesOnly (footprint .stagingTimeout) s) := by
  refine ⟨_, rfl, ?_⟩
  repeat' split
  all_goals simp [changesOnly_iff, footprint]

theorem emActivate_footprint (q) (s : State) :
    Completes (.emActivate q) s (ChangesOnly (footprint (.emActivate q)) s) := by
  exact ⟨_, rfl, by simp [changesOnly_iff, footprint]⟩

theorem emRestart_footprint (q) (s : State) :
    Completes (.emRestart q) s (ChangesOnly (footprint (.emRestart q)) s) := by
  exact ⟨_, rfl, by simp [changesOnly_iff, footprint]⟩

theorem emKeyLoad_footprint (q) (wrapped) (s : State) :
    Completes (.emKeyLoad q wrapped) s (ChangesOnly (footprint (.emKeyLoad q wrapped)) s) := by
  exact ⟨_, rfl, by simp [changesOnly_iff, footprint]⟩

theorem emZeroise_footprint (q) (s : State) :
    Completes (.emZeroise q) s (ChangesOnly (footprint (.emZeroise q)) s) := by
  exact ⟨_, rfl, by simp [changesOnly_iff, footprint]⟩

theorem emOwnerEnrol_footprint (q) (s : State) :
    Completes (.emOwnerEnrol q) s (ChangesOnly (footprint (.emOwnerEnrol q)) s) := by
  exact ⟨_, rfl, by simp [changesOnly_iff, footprint]⟩

theorem emPairEnrol_footprint (q) (s : State) :
    Completes (.emPairEnrol q) s (ChangesOnly (footprint (.emPairEnrol q)) s) := by
  exact ⟨_, rfl, by simp [changesOnly_iff, footprint]⟩

theorem emRekeyDone_footprint (q) (s : State) :
    Completes (.emRekeyDone q) s (ChangesOnly (footprint (.emRekeyDone q)) s) := by
  exact ⟨_, rfl, by simp [changesOnly_iff, footprint]⟩

theorem emForce_footprint (q) (s : State) :
    Completes (.emForce q) s (ChangesOnly (footprint (.emForce q)) s) := by
  refine ⟨_, rfl, ?_⟩
  repeat' split
  all_goals simp [changesOnly_iff, footprint]

theorem emUnforce_footprint (q) (s : State) :
    Completes (.emUnforce q) s (ChangesOnly (footprint (.emUnforce q)) s) := by
  exact ⟨_, rfl, by simp [changesOnly_iff, footprint]⟩

theorem emReplayStart_footprint (q) (s : State) :
    Completes (.emReplayStart q) s (ChangesOnly (footprint (.emReplayStart q)) s) := by
  exact ⟨_, rfl, by simp [changesOnly_iff, footprint]⟩

theorem emReplayStop_footprint (q) (s : State) :
    Completes (.emReplayStop q) s (ChangesOnly (footprint (.emReplayStop q)) s) := by
  exact ⟨_, rfl, by simp [changesOnly_iff, footprint]⟩

theorem emFlush_footprint (q) (s : State) :
    Completes (.emFlush q) s (ChangesOnly (footprint (.emFlush q)) s) := by
  exact ⟨_, rfl, by simp [changesOnly_iff, footprint]⟩

theorem emReleaseCell_footprint (q) (selfTest) (s : State) :
    Completes (.emReleaseCell q selfTest) s (ChangesOnly (footprint (.emReleaseCell q selfTest)) s) := by
  exact ⟨_, rfl, by simp [changesOnly_iff, footprint]⟩

theorem emHoldover_footprint (q) (s : State) :
    Completes (.emHoldover q) s (ChangesOnly (footprint (.emHoldover q)) s) := by
  exact ⟨_, rfl, by simp [changesOnly_iff, footprint, apply_ite Prod.fst]⟩

theorem emShed_footprint (q) (s : State) :
    Completes (.emShed q) s (ChangesOnly (footprint (.emShed q)) s) := by
  refine ⟨_, rfl, ?_⟩
  repeat' split
  all_goals simp [changesOnly_iff, footprint]

theorem emTrigger_footprint (q) (s : State) :
    Completes (.emTrigger q) s (ChangesOnly (footprint (.emTrigger q)) s) := by
  refine ⟨_, rfl, ?_⟩
  repeat' split
  all_goals simp [changesOnly_iff, footprint]

theorem emLocate_footprint (q) (s : State) :
    Completes (.emLocate q) s (ChangesOnly (footprint (.emLocate q)) s) := by
  refine ⟨_, rfl, ?_⟩
  repeat' split
  all_goals simp [changesOnly_iff, footprint]

theorem emHandover_footprint (q) (s : State) :
    Completes (.emHandover q) s (ChangesOnly (footprint (.emHandover q)) s) := by
  exact ⟨_, rfl, by simp [changesOnly_iff, footprint]⟩

theorem emBboxRaw_footprint (q) (s : State) :
    Completes (.emBboxRaw q) s (ChangesOnly (footprint (.emBboxRaw q)) s) := by
  refine ⟨_, rfl, ?_⟩
  repeat' split
  all_goals simp [changesOnly_iff, footprint]

theorem emBboxClear_footprint (q) (s : State) :
    Completes (.emBboxClear q) s (ChangesOnly (footprint (.emBboxClear q)) s) := by
  exact ⟨_, rfl, by simp [changesOnly_iff, footprint]⟩

theorem empDatagramDiscard_footprint (svp) (why) (s : State) :
    Completes (.empDatagramDiscard svp why) s (ChangesOnly (footprint (.empDatagramDiscard svp why)) s) := by
  refine ⟨_, rfl, ?_⟩
  repeat' split
  all_goals simp [changesOnly_iff, footprint]

theorem sessionExpiry_footprint (svp) (session) (s : State) :
    Completes (.sessionExpiry svp session) s (ChangesOnly (footprint (.sessionExpiry svp session)) s) := by
  refine ⟨_, rfl, ?_⟩
  repeat' split
  all_goals simp [changesOnly_iff, footprint]

theorem blackBoxWrite_footprint (s : State) :
    Completes .blackBoxWrite s (ChangesOnly (footprint .blackBoxWrite) s) := by
  refine ⟨_, rfl, ?_⟩
  repeat' split
  all_goals simp [changesOnly_iff, footprint]

theorem sensorCrossing_footprint (latch) (value) (limit) (s : State) :
    Completes (.sensorCrossing latch value limit) s (ChangesOnly (footprint (.sensorCrossing latch value limit)) s) := by
  refine ⟨_, rfl, ?_⟩
  repeat' split
  all_goals simp [changesOnly_iff, footprint]

theorem tempCritical_footprint (sensor) (reading) (s : State) :
    Completes (.tempCritical sensor reading) s (ChangesOnly (footprint (.tempCritical sensor reading)) s) := by
  refine ⟨_, rfl, ?_⟩
  repeat' split
  all_goals simp [changesOnly_iff, footprint]

theorem sensorFail_footprint (sensor) (s : State) :
    Completes (.sensorFail sensor) s (ChangesOnly (footprint (.sensorFail sensor)) s) := by
  refine ⟨_, rfl, ?_⟩
  repeat' split
  all_goals simp [changesOnly_iff, footprint]

theorem vbatRead_footprint (mv) (s : State) :
    Completes (.vbatRead mv) s (ChangesOnly (footprint (.vbatRead mv)) s) := by
  refine ⟨_, rfl, ?_⟩
  repeat' split
  all_goals simp [changesOnly_iff, footprint]

theorem clockFault_footprint (domain) (s : State) :
    Completes (.clockFault domain) s (ChangesOnly (footprint (.clockFault domain)) s) := by
  refine ⟨_, rfl, ?_⟩
  repeat' split
  all_goals simp [changesOnly_iff, footprint]

theorem panelScan_footprint (keys) (s : State) :
    Completes (.panelScan keys) s (ChangesOnly (footprint (.panelScan keys)) s) := by
  refine ⟨_, rfl, ?_⟩
  repeat' split
  all_goals simp [changesOnly_iff, footprint]

theorem touchMeasure_footprint (ch) (count) (s : State) :
    Completes (.touchMeasure ch count) s (ChangesOnly (footprint (.touchMeasure ch count)) s) := by
  refine ⟨_, rfl, ?_⟩
  repeat' split
  all_goals simp [changesOnly_iff, footprint]

theorem lampTestEnd_footprint (s : State) :
    Completes .lampTestEnd s (ChangesOnly (footprint .lampTestEnd) s) := by
  refine ⟨_, rfl, ?_⟩
  repeat' split
  all_goals simp [changesOnly_iff, footprint]

theorem svpEnable_footprint (s : State) :
    Completes .svpEnable s (ChangesOnly (footprint .svpEnable) s) := by
  refine ⟨_, rfl, ?_⟩
  repeat' split
  all_goals simp [changesOnly_iff, footprint]

theorem svpEnableExpiry_footprint (s : State) :
    Completes .svpEnableExpiry s (ChangesOnly (footprint .svpEnableExpiry) s) := by
  refine ⟨_, rfl, ?_⟩
  repeat' split
  all_goals simp [changesOnly_iff, footprint]

theorem svcKeyRelease_footprint (s : State) :
    Completes .svcKeyRelease s (ChangesOnly (footprint .svcKeyRelease) s) := by
  refine ⟨_, rfl, ?_⟩
  repeat' split
  all_goals simp [changesOnly_iff, footprint]

theorem svcKeyAssert_footprint (s : State) :
    Completes .svcKeyAssert s (ChangesOnly (footprint .svcKeyAssert) s) := by
  refine ⟨_, rfl, ?_⟩
  repeat' split
  all_goals simp [changesOnly_iff, footprint]

theorem svcDetChange_footprint (asserted) (s : State) :
    Completes (.svcDetChange asserted) s (ChangesOnly (footprint (.svcDetChange asserted)) s) := by
  refine ⟨_, rfl, ?_⟩
  repeat' split
  all_goals simp [changesOnly_iff, footprint]

theorem managementFirmwareStart_footprint (s : State) :
    Completes .managementFirmwareStart s (ChangesOnly (footprint .managementFirmwareStart) s) := by
  refine ⟨_, rfl, ?_⟩
  dsimp only
  repeat' split
  all_goals simp [changesOnly_iff, footprint]

theorem ptpAnnounceReceiptTimeout_footprint (rec) (s : State) :
    Completes (.ptpAnnounceReceiptTimeout rec) s (ChangesOnly (footprint (.ptpAnnounceReceiptTimeout rec)) s) := by
  refine ⟨_, rfl, ?_⟩
  repeat' split
  all_goals simp [changesOnly_iff, footprint]

theorem ownerKeyBurnComplete_footprint (s : State) :
    Completes .ownerKeyBurnComplete s (ChangesOnly (footprint .ownerKeyBurnComplete) s) := by
  refine ⟨_, rfl, ?_⟩
  repeat' split
  all_goals simp [changesOnly_iff, footprint]

theorem sensorConditionReleased_footprint (latch) (value) (s : State) :
    Completes (.sensorConditionReleased latch value) s (ChangesOnly (footprint (.sensorConditionReleased latch value)) s) := by
  refine ⟨_, rfl, ?_⟩
  repeat' split
  all_goals simp [changesOnly_iff, footprint]

theorem tapInstructionUpdate_footprint (code) (s : State) :
    Completes (.tapInstructionUpdate code) s (ChangesOnly (footprint (.tapInstructionUpdate code)) s) := by
  exact ⟨_, rfl, by simp [changesOnly_iff, footprint]⟩

theorem tapDataUpdate_footprint (data) (s : State) :
    Completes (.tapDataUpdate data) s (ChangesOnly (footprint (.tapDataUpdate data)) s) := by
  refine ⟨_, rfl, ?_⟩
  repeat' split
  all_goals simp [changesOnly_iff, footprint]

theorem tapTestLogicReset_footprint (s : State) :
    Completes .tapTestLogicReset s (ChangesOnly (footprint .tapTestLogicReset) s) := by
  exact ⟨_, rfl, by simp [changesOnly_iff, footprint]⟩

/-- The meaning of each command keeps to the command's footprint. -/
theorem exec_footprint : ∀ (c : Instr) (s : State), Completes c s (ChangesOnly (footprint c) s)
  | .mainRailsFall, s => mainRailsFall_footprint s
  | .powerOnReset, s => powerOnReset_footprint s
  | .pinReset lowNs, s => pinReset_footprint lowNs s
  | .islandPowerOn, s => islandPowerOn_footprint s
  | .islandReset, s => islandReset_footprint s
  | .blackBoxScan, s => blackBoxScan_footprint s
  | .loadingComplete v, s => loadingComplete_footprint v s
  | .loadCheckFail v, s => loadCheckFail_footprint v s
  | .powerFailAsserted, s => powerFailAsserted_footprint s
  | .powerRestored, s => powerRestored_footprint s
  | .tamper sources, s => tamper_footprint sources s
  | .beatBoundary b, s => beatBoundary_footprint b s
  | .postRoomAvailable r, s => postRoomAvailable_footprint r s
  | .delayItemDue r, s => delayItemDue_footprint r s
  | .dispatch r, s => dispatch_footprint r s
  | .itemComplete c used, s => itemComplete_footprint c used s
  | .cellFault c cause, s => cellFault_footprint c cause s
  | .cellWatchdog c, s => cellWatchdog_footprint c s
  | .itemLimitReached c, s => itemLimitReached_footprint c s
  | .uncorrectableError st unit, s => uncorrectableError_footprint st unit s
  | .correctableError st unit, s => correctableError_footprint st unit s
  | .thermalLevelFall r, s => thermalLevelFall_footprint r s
  | .warmupTimeout, s => warmupTimeout_footprint s
  | .dtLockConverged, s => dtLockConverged_footprint s
  | .frameReceive p f, s => frameReceive_footprint p f s
  | .arpRequest p vid target senderIp senderMac, s => arpRequest_footprint p vid target senderIp senderMac s
  | .pauseFrame p quanta, s => pauseFrame_footprint p quanta s
  | .pfcFrame p vector quanta, s => pfcFrame_footprint p vector quanta s
  | .macControlOther p opcode, s => macControlOther_footprint p opcode s
  | .pauseTimerExpiry p q, s => pauseTimerExpiry_footprint p q s
  | .pauseStall p q, s => pauseStall_footprint p q s
  | .transmitStart p, s => transmitStart_footprint p s
  | .transmitEnd p, s => transmitEnd_footprint p s
  | .queueRoomAvailable p q, s => queueRoomAvailable_footprint p q s
  | .launchStrobe, s => launchStrobe_footprint s
  | .lateDrop p q, s => lateDrop_footprint p q s
  | .moduleInserted cage, s => moduleInserted_footprint cage s
  | .moduleInitDone cage supportsPhy, s => moduleInitDone_footprint cage supportsPhy s
  | .moduleRemoved x, s => moduleRemoved_footprint x s
  | .linkUp p, s => linkUp_footprint p s
  | .linkDown x, s => linkDown_footprint x s
  | .tcpSegment sid seg, s => tcpSegment_footprint sid seg s
  | .tcpReopen sid, s => tcpReopen_footprint sid s
  | .tcpRetransmit sid, s => tcpRetransmit_footprint sid s
  | .tcpAckTimer sid, s => tcpAckTimer_footprint sid s
  | .tcpConnectionReset sid, s => tcpConnectionReset_footprint sid s
  | .classifyFrame p u, s => classifyFrame_footprint p u s
  | .ptpFrame, s => ptpFrame_footprint s
  | .pdelayReqTimer p, s => pdelayReqTimer_footprint p s
  | .gnssSentence x, s => gnssSentence_footprint x s
  | .gnssPpsEdge falling edgeAgo, s => gnssPpsEdge_footprint falling edgeAgo s
  | .irigbFrame f, s => irigbFrame_footprint f s
  | .timeVote, s => timeVote_footprint s
  | .baseStep b, s => baseStep_footprint b s
  | .timeRefLost, s => timeRefLost_footprint s
  | .triggerEdge input rising subns, s => triggerEdge_footprint input rising subns s
  | .rowOpen r, s => rowOpen_footprint r s
  | .sliceEntry r, s => sliceEntry_footprint r s
  | .quorumWaitExpiry g, s => quorumWaitExpiry_footprint g s
  | .deadlineClose n, s => deadlineClose_footprint n s
  | .rowRetire r, s => rowRetire_footprint r s
  | .rowFinal r, s => rowFinal_footprint r s
  | .streamStale sid, s => streamStale_footprint sid s
  | .sourceCmdTimer sid, s => sourceCmdTimer_footprint sid s
  | .subscriberCommand, s => subscriberCommand_footprint s
  | .laneFrame lane bits crc, s => laneFrame_footprint lane bits crc s
  | .wvSyncRelease, s => wvSyncRelease_footprint s
  | .wvSyncAssert, s => wvSyncAssert_footprint s
  | .wvClkLost, s => wvClkLost_footprint s
  | .laneStop lane, s => laneStop_footprint lane s
  | .bankHandoff g, s => bankHandoff_footprint g s
  | .queueWordRead g err, s => queueWordRead_footprint g err s
  | .svSampleDeadline sid pos, s => svSampleDeadline_footprint sid pos s
  | .estimateRelease ch, s => estimateRelease_footprint ch s
  | .fastEstimate ch, s => fastEstimate_footprint ch s
  | .replayFrameOut lane, s => replayFrameOut_footprint lane s
  | .bandUpdate t band, s => bandUpdate_footprint t band s
  | .locationRunStart set, s => locationRunStart_footprint set s
  | .locationResult set, s => locationResult_footprint set s
  | .islandEvaluation, s => islandEvaluation_footprint s
  | .detectorWork g, s => detectorWork_footprint g s
  | .logicScan task, s => logicScan_footprint task s
  | .doLevelApply d, s => doLevelApply_footprint d s
  | .pulseMinExpiry d, s => pulseMinExpiry_footprint d s
  | .tripRetry out, s => tripRetry_footprint out s
  | .captureTrigger, s => captureTrigger_footprint s
  | .xtrigPulseEnd, s => xtrigPulseEnd_footprint s
  | .autoTrigger cls, s => autoTrigger_footprint cls s
  | .spanEnd cls, s => spanEnd_footprint cls s
  | .closingEnd cls, s => closingEnd_footprint cls s
  | .ringOverwriteLoss seq tag, s => ringOverwriteLoss_footprint seq tag s
  | .alarmStateChange n, s => alarmStateChange_footprint n s
  | .gooseRetransmit n, s => gooseRetransmit_footprint n s
  | .woideLinkLock, s => woideLinkLock_footprint s
  | .helloTimer, s => helloTimer_footprint s
  | .woideFrameReceive f, s => woideFrameReceive_footprint f s
  | .woideRetransmit, s => woideRetransmit_footprint s
  | .woideLinkDown why, s => woideLinkDown_footprint why s
  | .receiverAckTimer, s => receiverAckTimer_footprint s
  | .tokenPulse riseNs widthNs, s => tokenPulse_footprint riseNs widthNs s
  | .release, s => release_footprint s
  | .splitBrain, s => splitBrain_footprint s
  | .emOpen q, s => emOpen_footprint q s
  | .emClose q, s => emClose_footprint q s
  | .emStatus q, s => emStatus_footprint q s
  | .emRead q, s => emRead_footprint q s
  | .emWrite q, s => emWrite_footprint q s
  | .emChangeSet q, s => emChangeSet_footprint q s
  | .emAttnAck q, s => emAttnAck_footprint q s
  | .emStageBegin q, s => emStageBegin_footprint q s
  | .emStageData q, s => emStageData_footprint q s
  | .emStageEnd q, s => emStageEnd_footprint q s
  | .stageCheckDone v, s => stageCheckDone_footprint v s
  | .stagingTimeout, s => stagingTimeout_footprint s
  | .emActivate q, s => emActivate_footprint q s
  | .emRestart q, s => emRestart_footprint q s
  | .emKeyLoad q wrapped, s => emKeyLoad_footprint q wrapped s
  | .emZeroise q, s => emZeroise_footprint q s
  | .emOwnerEnrol q, s => emOwnerEnrol_footprint q s
  | .emPairEnrol q, s => emPairEnrol_footprint q s
  | .emRekeyDone q, s => emRekeyDone_footprint q s
  | .emForce q, s => emForce_footprint q s
  | .emUnforce q, s => emUnforce_footprint q s
  | .emReplayStart q, s => emReplayStart_footprint q s
  | .emReplayStop q, s => emReplayStop_footprint q s
  | .emFlush q, s => emFlush_footprint q s
  | .emReleaseCell q selfTest, s => emReleaseCell_footprint q selfTest s
  | .emHoldover q, s => emHoldover_footprint q s
  | .emShed q, s => emShed_footprint q s
  | .emTrigger q, s => emTrigger_footprint q s
  | .emLocate q, s => emLocate_footprint q s
  | .emHandover q, s => emHandover_footprint q s
  | .emBboxRaw q, s => emBboxRaw_footprint q s
  | .emBboxClear q, s => emBboxClear_footprint q s
  | .empDatagramDiscard svp why, s => empDatagramDiscard_footprint svp why s
  | .sessionExpiry svp session, s => sessionExpiry_footprint svp session s
  | .blackBoxWrite, s => blackBoxWrite_footprint s
  | .sensorCrossing latch value limit, s => sensorCrossing_footprint latch value limit s
  | .tempCritical sensor reading, s => tempCritical_footprint sensor reading s
  | .sensorFail sensor, s => sensorFail_footprint sensor s
  | .vbatRead mv, s => vbatRead_footprint mv s
  | .clockFault domain, s => clockFault_footprint domain s
  | .panelScan keys, s => panelScan_footprint keys s
  | .touchMeasure ch count, s => touchMeasure_footprint ch count s
  | .lampTestEnd, s => lampTestEnd_footprint s
  | .svpEnable, s => svpEnable_footprint s
  | .svpEnableExpiry, s => svpEnableExpiry_footprint s
  | .svcKeyRelease, s => svcKeyRelease_footprint s
  | .svcKeyAssert, s => svcKeyAssert_footprint s
  | .svcDetChange asserted, s => svcDetChange_footprint asserted s
  | .managementFirmwareStart, s => managementFirmwareStart_footprint s
  | .ptpAnnounceReceiptTimeout rec, s => ptpAnnounceReceiptTimeout_footprint rec s
  | .ownerKeyBurnComplete, s => ownerKeyBurnComplete_footprint s
  | .sensorConditionReleased latch value, s => sensorConditionReleased_footprint latch value s
  | .tapInstructionUpdate code, s => tapInstructionUpdate_footprint code s
  | .tapDataUpdate data, s => tapDataUpdate_footprint data s
  | .tapTestLogicReset, s => tapTestLogicReset_footprint s

/-- No footprint holds the queue of commands. -/
theorem pending_notMem_footprint (c : Instr) : StatePart.pending ∉ footprint c := by
  cases c <;> simp [footprint]

/-- Settles O5: one frame lemma for each command. -/
theorem everyCommandKeepsToItsFootprint : Obligations.EveryCommandKeepsToItsFootprint :=
  ⟨exec_footprint, pending_notMem_footprint⟩

end Sys2Proof.Machine

/-! Lemmas and proofs of the statements on steps and reset (O1 to O3). -/

namespace Sys2Proof.Machine

/-- A step on a queue that is not empty runs the front command. -/
theorem step_of_pending {c : Instr} {rest : List Instr} {s : State} (h : s.pending = c :: rest) :
    step s = exec c { s with pending := rest } := by
  simp [step, h]

/-- A step on the empty queue lets a cycle pass. -/
theorem step_of_no_pending {s : State} (h : s.pending = []) : step s = .next s.cycle := by
  simp [step, h]

/-- In DORMANT a cycle moves the real-time clock alone (R41). -/
theorem State.cycle_of_dormant {s : State} (h : s.boot.mode = .dormant) :
    s.cycle = { s with vault := { s.vault with rtc := s.vault.rtc + 2 } } :=
  if_pos (by simp [h])

/-- The edges of the lanes change SWAGE, and neither the clocks nor what the invariant is about. -/
@[simp] theorem State.laneEdges_frame (s : State) :
    s.laneEdges.time = s.time ∧ s.laneEdges.vault = s.vault ∧ s.laneEdges.pending = s.pending ∧
    s.laneEdges.flash = s.flash ∧ s.laneEdges.ctrs = s.ctrs ∧ s.laneEdges.bbx = s.bbx := by
  unfold State.laneEdges
  repeat' split
  all_goals simp

/-- Outside DORMANT a cycle gives LTS 2 ns (R132); the vault and the queue of commands stay. -/
theorem State.cycle_of_not_dormant {s : State} (h : s.boot.mode ≠ .dormant) :
    s.cycle.lts = s.lts + 2 ∧ s.cycle.vault = s.vault ∧ s.cycle.pending = s.pending := by
  have hmode : (s.boot.mode == Mode.dormant) = false := by simpa using h
  simp only [State.cycle, hmode]
  split
  · contradiction
  · split
    · simp [State.lts]
    · exact ⟨rfl, rfl, rfl⟩

/-- Settles O1. -/
theorem stepRunsTheFrontCommand : Obligations.StepRunsTheFrontCommand := by
  intro c rest s
  refine ⟨step_of_pending, fun h => ⟨step_of_no_pending h, ?_, fun hmode => ?_, fun hmode => ?_⟩⟩
  · by_cases hmode : s.boot.mode = .dormant
    · rw [State.cycle_of_dormant hmode]
      exact h
    · obtain ⟨-, -, hpending⟩ := State.cycle_of_not_dormant hmode
      rw [hpending, h]
  · obtain ⟨hlts, hvault, -⟩ := State.cycle_of_not_dormant hmode
    exact ⟨hlts, by rw [hvault]⟩
  · rw [State.cycle_of_dormant hmode]
    exact ⟨rfl, rfl⟩

/-- A port after reset: the ports of the island alone are on. -/
theorem State.reset_port (p : Nat) :
    State.reset.port p = PortSt.reset ∨ State.reset.port p = { PortSt.reset with on := true } := by
  by_cases hp : p < 7
  · interval_cases p <;> simp [State.port, State.reset]
  · simp [State.port, State.reset, show 7 ≤ p by omega]

/-- Settles O2. -/
theorem resetValues : Obligations.ResetValues := by
  refine ⟨rfl, rfl, rfl, rfl, rfl, fun _ => rfl, rfl, rfl, rfl, fun _ => rfl, rfl, rfl, fun p => ?_, fun c => ?_⟩
  · obtain hp | hp := State.reset_port p <;> rw [hp] <;> exact ⟨rfl, rfl, rfl⟩
  · by_cases hc : c < 64
    · interval_cases c <;> rfl
    · simp [State.cell, State.reset, SchSt.reset, CellSt.reset, show 64 ≤ c by omega]

/-- Settles O3: the flash lists nothing, no counter has counted and no record waits. -/
theorem resetIsSound : Obligations.ResetIsSound :=
  ⟨rfl, fun _ he => absurd he List.not_mem_nil, Nat.zero_le _⟩

end Sys2Proof.Machine

/-! Lemmas and proofs of the statements on resets and the island (O8, O9). -/

namespace Sys2Proof.Machine

/-! What a record that is queued leaves of the black box (R461). -/

/-- A dropped record leaves the slots and the scan. -/
@[simp] theorem State.bbxDrop_store (s : State) :
    s.bbxDrop.bbx.mram = s.bbx.mram ∧ s.bbxDrop.bbx.scanned = s.bbx.scanned ∧ s.bbxDrop.bbx.newest = s.bbx.newest ∧
    s.bbxDrop.bbx.queue = s.bbx.queue := by
  unfold State.bbxDrop
  dsimp only
  split <;> simp

/-- A record that is queued leaves the slots and the scan. -/
@[simp] theorem State.bbxQueue_store (s : State) (r : BbxRec) :
    (s.bbxQueue r).bbx.mram = s.bbx.mram ∧ (s.bbxQueue r).bbx.scanned = s.bbx.scanned ∧
    (s.bbxQueue r).bbx.newest = s.bbx.newest := by
  unfold State.bbxQueue
  dsimp only
  repeat' split
  all_goals simp

@[simp] theorem State.bbxPost_store (s : State) (event : Nat) (payload : Bytes) :
    (s.bbxPost event payload).bbx.mram = s.bbx.mram ∧ (s.bbxPost event payload).bbx.scanned = s.bbx.scanned := by
  simp [State.bbxPost]

@[simp] theorem State.bbxWith_store (s : State) (lvl : Nat) (cls : AttClass) (src detail event : Nat) (payload : Bytes) :
    (s.bbxWith lvl cls src detail event payload).bbx.mram = s.bbx.mram ∧
    (s.bbxWith lvl cls src detail event payload).bbx.scanned = s.bbx.scanned := by
  simp [State.bbxWith]

@[simp] theorem State.tamperRecords_store (s : State) (cls : AttClass) (aseq : Nat) (ls : List TamperLatch) :
    (s.tamperRecords cls aseq ls).bbx.mram = s.bbx.mram ∧ (s.tamperRecords cls aseq ls).bbx.scanned = s.bbx.scanned := by
  unfold State.tamperRecords
  refine ⟨(forAll_keep (fun u : State => u.bbx.mram) _ (fun u l => ?_) ls _).trans ?_,
    (forAll_keep (fun u : State => u.bbx.scanned) _ (fun u l => ?_) ls _).trans ?_⟩ <;> simp

@[simp] theorem State.clearMain_store (s : State) (restart : Bool) : (s.clearMain restart).bbx = s.bbx := by
  simp only [State.clearMain]
  split <;> simp

@[simp] theorem State.recordFall_store (s : State) :
    s.recordFall.bbx.mram = s.bbx.mram ∧ s.recordFall.bbx.scanned = s.bbx.scanned := by
  unfold State.recordFall
  split
  · exact ⟨rfl, rfl⟩
  · dsimp only
    split <;> simp

@[simp] theorem State.startBy_store (s : State) (t : Nat) (restart : Bool) :
    (s.startBy t restart).bbx.mram = s.bbx.mram ∧ (s.startBy t restart).bbx.scanned = s.bbx.scanned := by
  simp [State.startBy]

@[simp] theorem State.vaultAtT2_store (s : State) :
    s.vaultAtT2.bbx.mram = s.bbx.mram ∧ s.vaultAtT2.bbx.scanned = s.bbx.scanned := by
  unfold State.vaultAtT2
  dsimp only
  repeat' split
  all_goals simp

/-- What a command leaves, where it ends is known (O5). -/
theorem changesOnly_of_exec {c : Instr} {s t : State} (h : exec c s = .next t) : ChangesOnly (footprint c) s t := by
  obtain ⟨t', hexec, hframe⟩ := exec_footprint c s
  obtain rfl : t = t' := by simpa [h] using hexec
  exact hframe

@[simp] theorem State.clearIsland_mram (s : State) : s.clearIsland.bbx.mram = s.bbx.mram := rfl

@[simp] theorem State.loseBattery_bbx (s : State) : s.loseBattery.bbx = s.bbx := rfl

@[simp] theorem State.pinReset_mram (s : State) : s.pinReset.bbx.mram = s.bbx.mram := by
  unfold State.pinReset
  split <;> simp

/-- A reset of any kind keeps what the black box's slots hold (R46). -/
theorem exec_reset_keeps_mram (n : Nat) {c : Instr} (s : State)
    (hc : c ∈ [Instr.mainRailsFall, .powerOnReset, .pinReset n, .islandReset, .islandPowerOn]) :
    Completes c s (fun t => t.bbx.mram = s.bbx.mram) := by
  simp only [List.mem_cons, List.not_mem_nil, or_false] at hc
  obtain rfl | rfl | rfl | rfl | rfl := hc
  all_goals
    refine ⟨_, rfl, ?_⟩
    dsimp only
    repeat' split
    all_goals simp

/-- Settles O9: none of the three parts is in the footprint of a reset. -/
theorem resetsKeepRootBlackBoxAndOwnerKey : Obligations.ResetsKeepRootBlackBoxAndOwnerKey := by
  intro c n s t hc hexec
  have hframe := changesOnly_of_exec hexec
  have hmram : t.bbx.mram = s.bbx.mram := by
    obtain ⟨t', hexec', hmram⟩ := exec_reset_keeps_mram n s hc
    obtain rfl : t = t' := by simpa [hexec] using hexec'
    exact hmram
  simp only [List.mem_cons, List.not_mem_nil, or_false] at hc
  obtain rfl | rfl | rfl | rfl | rfl := hc
  all_goals exact ⟨hframe .otp (by simp [footprint]), hmram, hframe .flash (by simp [footprint])⟩

end Sys2Proof.Machine

/-! Lemmas and proof of the statement on the reset and the start of the island (O8). -/

namespace Sys2Proof.Machine
/-- A command that completes does so within its footprint (O5). -/
theorem does_of_completes {c : Instr} {s : State} {Q : State → Prop} (h : Completes c s Q) : Does c s (footprint c) Q := by
  obtain ⟨t, hexec, hQ⟩ := h
  exact ⟨t, hexec, hQ, changesOnly_of_exec hexec⟩

theorem Does.imp {c : Instr} {s : State} {ps : List StatePart} {Q R : State → Prop} (h : Does c s ps Q)
    (himp : ∀ t, ChangesOnly ps s t → Q t → R t) : Does c s ps R := by
  obtain ⟨t, hexec, hQ, hframe⟩ := h
  exact ⟨t, hexec, himp t hframe hQ, hframe⟩

/-- The device as the island goes down: a main domain that was not in DORMANT is held from there on (R42, R479). -/
def State.islandDown (s : State) : State :=
  { s with boot := { s.boot with island := false, heldFrom := if s.boot.mode == Mode.dormant then none else some s.boot.mode } }

/-- The device as the fall of the island leaves it (R479), before the mode of a DORMANT main domain and the battery domain. -/
def State.islandFalls (s : State) : State := (s.islandDown.clearMain false).clearIsland

/-- The main domain stands reset with the island. -/
theorem State.islandFalls_boot (s : State) :
    s.islandFalls.boot.island = false ∧ s.islandFalls.boot.rails = s.boot.rails ∧ s.islandFalls.boot.mode = .loading ∧
    s.islandFalls.boot.running = false ∧ s.islandFalls.img = [] := by
  obtain ⟨hboot, -, -, himg⟩ := s.islandDown.clearMain_values false
  have hb : s.islandFalls.boot = _ := hboot
  rw [hb]
  exact ⟨rfl, rfl, rfl, rfl, himg⟩

/-- What the island held is gone, but for the slots of the black box. -/
theorem State.islandFalls_island (s : State) :
    s.islandFalls.emp.sessions = [] ∧ s.islandFalls.emp.replies = [] ∧ s.islandFalls.bbx.queue = [] ∧
    s.islandFalls.bbx.scanned = false ∧ s.islandFalls.bbx.mram = s.bbx.mram ∧ s.islandFalls.panel = State.reset.panel ∧
    s.islandFalls.sens = State.reset.sens ∧ s.islandFalls.port 5 = PortSt.reset ∧ s.islandFalls.port 6 = PortSt.reset := by
  refine ⟨rfl, rfl, rfl, rfl, ?_, rfl, rfl, ?_, ?_⟩
  · simp [State.islandFalls, State.islandDown]
  all_goals
    simp only [State.islandFalls, State.clearMain]
    split <;> rfl

/-- The reset of the island: a main domain in DORMANT stays there, and VBAT below 2.0 V costs the battery domain its content. -/
theorem exec_islandReset {s : State} (h : s.boot.island = true) :
    ∃ t, exec .islandReset s = .next (if s.sens.vbat < 2000 then t.loseBattery else t) ∧
      (t = s.islandFalls ∧ s.boot.mode ≠ .dormant ∨
        t = { s.islandFalls with boot := { s.islandFalls.boot with mode := .dormant } } ∧ s.boot.mode = .dormant) := by
  by_cases hd : s.boot.mode = .dormant
  · refine ⟨_, ?_, .inr ⟨rfl, hd⟩⟩
    simp only [exec, execIslandReset]
    simp [h, hd, State.islandFalls, State.islandDown]
  · refine ⟨_, ?_, .inl ⟨rfl, hd⟩⟩
    simp only [exec, execIslandReset]
    simp [h, hd, State.islandFalls, State.islandDown]

theorem islandReset_values {s : State} (h : s.boot.island = true) : Completes .islandReset s (fun t =>
    t.boot.island = false ∧ t.boot.rails = s.boot.rails ∧ (s.boot.mode = .dormant → t.boot.mode = .dormant) ∧
    (s.boot.mode ≠ .dormant → t.boot.mode = .loading) ∧ t.boot.running = false ∧ t.img = [] ∧ t.emp.sessions = [] ∧
    t.emp.replies = [] ∧ t.bbx.queue = [] ∧ t.bbx.scanned = false ∧ t.bbx.mram = s.bbx.mram ∧ t.panel = State.reset.panel ∧
    t.sens = State.reset.sens ∧ t.port 5 = PortSt.reset ∧ t.port 6 = PortSt.reset ∧
    (s.sens.vbat < 2000 → t.vault.slots = [] ∧ t.vault.intact = false ∧ t.vault.rtc = 0)) := by
  obtain ⟨hisland, hrails, hmode, hrunning, himg⟩ := s.islandFalls_boot
  obtain ⟨hsess, hrepl, hqueue, hscan, hmram, hpanel, hsens, h5, h6⟩ := s.islandFalls_island
  simp only [State.port] at h5 h6 ⊢
  obtain ⟨t, hexec, ⟨rfl, hd⟩ | ⟨rfl, hd⟩⟩ := exec_islandReset h <;> refine ⟨_, hexec, ?_⟩ <;> split <;>
    simp only [*, State.loseBattery] <;> simp

/-- The device as the island comes up: MGP and SVP stand in the state after reset. -/
def State.islandUp (s : State) : State :=
  { s.clearIsland with
    boot := { s.boot with island := true }
    ports := modAt (modAt s.clearIsland.ports 5 (fun p => { p with on := true })) 6 (fun p => { p with on := true }) }

@[simp] theorem State.islandUp_island (s : State) :
    s.islandUp.boot = { s.boot with island := true } ∧ s.islandUp.bbx.mram = s.bbx.mram ∧ s.islandUp.bbx.scanned = false ∧
    s.islandUp.emp.sessions = [] ∧ s.islandUp.panel = State.reset.panel := ⟨rfl, rfl, rfl, rfl, rfl⟩

/-- Its links are down, and the real-time clock goes on. -/
theorem State.islandUp_values (s : State) :
    (s.islandUp.port 5).link = false ∧ (s.islandUp.port 6).link = false ∧ s.islandUp.rtc = s.rtc := by
  refine ⟨?_, ?_, rfl⟩
  · by_cases hp : 5 < s.ports.length <;> simp [State.islandUp, State.clearIsland, State.port, modAt_eq_modify, hp, PortSt.reset]
  · by_cases hp : 6 < s.ports.length <;> simp [State.islandUp, State.clearIsland, State.port, modAt_eq_modify, hp, PortSt.reset]

/-- A reset of the main domain gives MGP and SVP back as the island has them, and keeps the sessions and the panel. -/
theorem State.clearMain_island (s : State) (restart : Bool) :
    ((s.clearMain restart).port 5).on = s.boot.island ∧ ((s.clearMain restart).port 5).link = (s.port 5).link ∧
    ((s.clearMain restart).port 6).on = s.boot.island ∧ ((s.clearMain restart).port 6).link = (s.port 6).link ∧
    (s.clearMain restart).emp.sessions = s.emp.sessions := by
  simp only [State.clearMain]
  split <;> exact ⟨rfl, rfl, rfl, rfl, rfl⟩

@[simp] theorem State.startBy_sessions (s : State) (t : Nat) (restart : Bool) :
    (s.startBy t restart).emp.sessions = s.emp.sessions := by
  obtain ⟨-, -, -, -, hsess⟩ := s.clearMain_island restart
  simp [State.startBy, hsess]

/-- The start of the island runs one of two ways. -/
theorem exec_islandPowerOn {s : State} (h : s.boot.island = false) :
    exec .islandPowerOn s = .next (if s.boot.rails then (s.islandUp.startBy 21 false).vaultAtT2
      else { s.islandUp.clearMain false with boot := { (s.islandUp.clearMain false).boot with mode := .dormant, rails := false } }) := by
  simp only [exec, execIslandPowerOn]
  simp [h, State.islandUp, State.clearIsland]

/-- With the main rails up, the start of the island begins LOADING. -/
theorem islandPowerOn_of_rails {s : State} (h : s.boot.island = false) (hrails : s.boot.rails = true) :
    Completes .islandPowerOn s (fun t => t.boot.island = true ∧ t.boot.rails = true ∧ t.bbx.scanned = false ∧
      t.bbx.mram = s.bbx.mram ∧ t.emp.sessions = [] ∧ t.panel = State.reset.panel ∧ t.boot.mode = .loading ∧ t.lts = 0 ∧
      t.dt = s.rtc) := by
  refine ⟨_, (exec_islandPowerOn h).trans (by rw [if_pos hrails]), ?_⟩
  obtain ⟨hboot, hlts, hdt, -⟩ := s.islandUp.startBy_values 21 false
  obtain ⟨hlts', hdt'⟩ := State.clocks_of_time (s := s.islandUp.startBy 21 false) (t := (s.islandUp.startBy 21 false).vaultAtT2) (by simp)
  obtain ⟨-, -, hrtc⟩ := s.islandUp_values
  refine ⟨?_, ?_, ?_, ?_, ?_, ?_, ?_, hlts'.trans hlts, hdt'.trans (hdt.trans hrtc)⟩
  all_goals simp [hboot, hrails, BootSt.reset]

/-- With the main rails down, it leaves the device in DORMANT. -/
theorem islandPowerOn_of_no_rails {s : State} (h : s.boot.island = false) (hrails : s.boot.rails = false) :
    Completes .islandPowerOn s (fun t => t.boot.island = true ∧ t.boot.rails = false ∧ t.bbx.scanned = false ∧
      t.bbx.mram = s.bbx.mram ∧ t.emp.sessions = [] ∧ t.panel = State.reset.panel ∧ t.boot.mode = .dormant ∧
      (t.port 5).on = true ∧ (t.port 5).link = false ∧ (t.port 6).on = true ∧ (t.port 6).link = false) := by
  refine ⟨_, (exec_islandPowerOn h).trans (by rw [if_neg (by simp [hrails])]), ?_⟩
  obtain ⟨hboot, -, -, -⟩ := s.islandUp.clearMain_values false
  obtain ⟨hlink5, hlink6, -⟩ := s.islandUp_values
  obtain ⟨hon5, hl5, hon6, hl6, hsess⟩ := s.islandUp.clearMain_island false
  refine ⟨?_, ?_, ?_, ?_, ?_, ?_, ?_, hon5.trans rfl, hl5.trans hlink5, hon6.trans rfl, hl6.trans hlink6⟩
  all_goals simp [hboot, hsess]

/-- Settles O8. -/
theorem islandResetAndStart : Obligations.IslandResetAndStart := by
  intro s
  refine ⟨fun h => (does_of_completes (islandReset_values h)).imp fun t hframe hvalues => ?reset, fun h => ?unfed,
    fun h => ?start, fun h => ?fed⟩
  case reset =>
    obtain ⟨h1, h2, h3, h4, h5, h6, h7, h8, h9, h10, h11, h12, h13, h14, h15, h16⟩ := hvalues
    exact ⟨h1, h2, h3, h4, h5, h6, h7, h8, h9, h10, h11, h12, h13, h14, h15, h16,
      hframe .flash (by simp [footprint]), hframe .otp (by simp [footprint]), hframe .tap (by simp [footprint])⟩
  case unfed => simp [exec, execIslandReset, h]
  case start =>
    cases hrails : s.boot.rails
    · refine (does_of_completes (islandPowerOn_of_no_rails h hrails)).imp fun t hframe hvalues => ?_
      obtain ⟨hisland, hr, hscan, hmram, hsess, hpanel, hmode, hports⟩ := hvalues
      exact ⟨hisland, hr, hscan, hmram, hsess, hpanel, by simp, fun _ => ⟨hmode, hports⟩,
        hframe .flash (by simp [footprint]), hframe .otp (by simp [footprint]), hframe .tap (by simp [footprint])⟩
    · refine (does_of_completes (islandPowerOn_of_rails h hrails)).imp fun t hframe hvalues => ?_
      obtain ⟨hisland, hr, hscan, hmram, hsess, hpanel, hmain⟩ := hvalues
      exact ⟨hisland, hr, hscan, hmram, hsess, hpanel, fun _ => hmain, by simp,
        hframe .flash (by simp [footprint]), hframe .otp (by simp [footprint]), hframe .tap (by simp [footprint])⟩
  case fed => simp [exec, execIslandPowerOn, h]

end Sys2Proof.Machine

/-! Lemmas and proof of the statement on tampers (O11). -/

namespace Sys2Proof.Machine

/-- From `s` every key is cleared and TAMPERED set in `t`, an owner key whose burn runs is incomplete, and the mode, the OTP root,
the tamper configuration and the slots of the black box stand as they stood. -/
def Zeroised (s t : State) : Prop :=
  t.vault.slots = [] ∧ t.vault.root = none ∧ t.vault.partner = none ∧ t.vault.tampered = true ∧ t.vault.cfg = s.vault.cfg ∧
  t.otp.burning = none ∧ (∀ v, s.otp.burning = some (false, v) → t.otp.owner0 = .incomplete) ∧
  (∀ v, s.otp.burning = some (true, v) → t.otp.owner1 = .incomplete) ∧
  t.otp.root0 = s.otp.root0 ∧ t.otp.root1 = s.otp.root1 ∧ t.boot.mode = s.boot.mode ∧ t.bbx.mram = s.bbx.mram

/-- What `Zeroised` says of the state before is the vault's configuration, the OTP, the mode and the slots of the black box. -/
theorem Zeroised.of_before {s s' t : State} (h : Zeroised s' t) (hvault : s'.vault = s.vault) (hotp : s'.otp = s.otp)
    (hboot : s'.boot = s.boot) (hbbx : s'.bbx = s.bbx) : Zeroised s t := by
  unfold Zeroised at *
  rwa [hvault, hotp, hboot, hbbx] at h

/-- What follows a zeroise keeps it while it keeps the vault, the OTP, the mode and the slots of the black box. -/
theorem Zeroised.then {s t u : State} (h : Zeroised s t) (hvault : u.vault = t.vault) (hotp : u.otp = t.otp)
    (hmode : u.boot.mode = t.boot.mode) (hmram : u.bbx.mram = t.bbx.mram) : Zeroised s u := by
  unfold Zeroised at *
  rwa [hvault, hotp, hmode, hmram]

/-- R427 and R423: what a zeroise by a tamper does. -/
theorem State.zeroise_zeroised (s : State) : Zeroised s (s.zeroise true) := by
  unfold State.zeroise Zeroised
  cases hburn : s.otp.burning with
  | none => simp [hburn]
  | some b =>
    obtain ⟨second, v⟩ := b
    cases second <;> simp [hburn]

/-- In DORMANT the latch entries follow the zeroise. -/
theorem State.tamperDormant_zeroised (s : State) (ns : List Nat) : Zeroised s (s.tamperDormant ns) := by
  unfold State.tamperDormant
  refine forAll_inv (Zeroised s) _ (fun t n ht => ?_) ns _ s.zeroise_zeroised
  split
  · exact ht
  · exact ht.then rfl rfl rfl rfl

/-- Outside DORMANT the answers, the item and the records follow it. -/
theorem State.tamperAwake_zeroised (s : State) (ns : List Nat) : Zeroised s (s.tamperAwake ns) := by
  unfold State.tamperAwake
  dsimp only
  split <;> exact s.zeroise_zeroised.then (by simp) (by simp) (by simp) (by simp)

/-- Whatever the mode, the tamper has zeroised at once. -/
theorem State.tamperBy_zeroised (s : State) (ns : List Nat) : Zeroised s (s.tamperBy ns) := by
  unfold State.tamperBy
  dsimp only
  generalize hs1 : forAll ns s (fun s n => s.bump (ck1 .tampers n)) = s1
  have hbefore {t : State} (h : Zeroised s1 t) : Zeroised s t := by
    subst hs1
    exact h.of_before (by simp) (by simp) (by simp) (by simp)
  split
  · exact hbefore (s1.tamperDormant_zeroised ns)
  · exact hbefore (s1.tamperAwake_zeroised ns)
  · exact hbefore ((s1.tamperAwake_zeroised ns).then (by simp) (by simp) (by simp) (by simp))
  · exact hbefore ((s1.tamperAwake_zeroised ns).then rfl rfl rfl rfl)
  · exact hbefore ((s1.tamperAwake_zeroised ns).then rfl rfl rfl rfl)
  · split
    · exact hbefore ((s1.tamperAwake_zeroised ns).then rfl rfl rfl rfl)
    · refine hbefore ?_
      have hrole : Zeroised (s1.releaseRole (nextBoundary s1.dt)) ((s1.releaseRole (nextBoundary s1.dt)).tamperAwake ns) :=
        State.tamperAwake_zeroised _ ns
      exact (hrole.of_before (by simp) (by simp) (by simp) (by simp)).then rfl rfl rfl rfl

/-- Settles O11. -/
theorem tamperZeroisesKeys : Obligations.TamperZeroisesKeys := by
  intro sources s
  have hexec : exec (.tamper sources) s =
      .next (if (s.tamperSources sources).isEmpty then s else s.tamperBy (s.tamperSources sources)) := rfl
  refine ⟨fun h => does_of_completes ⟨_, hexec, ?_⟩, fun h => by simp [hexec, h]⟩
  rw [if_neg (by simpa using h)]
  exact s.tamperBy_zeroised _

end Sys2Proof.Machine

/-! Lemmas and proofs of the statements on loading and start-up (O12, O13). -/

namespace Sys2Proof.Machine

/-! A load with a tried slot (Sequence MOD-1). -/

/-- With a slot under trial, the load goes on with it. -/
theorem State.beginLoad_of_trying {s : State} (h : s.boot.trying = true) (v : LoadVerdict) : s.beginLoad v = s :=
  if_pos h

/-- LOADING_COMPLETE over a tried slot. -/
theorem exec_loadingComplete {v : LoadVerdict} {s : State} (hloads : s.loads = true) (htry : s.boot.trying = true) :
    exec (.loadingComplete v) s = .next (match s.loadCode s.boot.slot v with | none => s.install | some _ => s) := by
  simp only [exec, execLoadingComplete, hloads, State.beginLoad_of_trying htry, htry, Bool.not_true, Bool.false_eq_true, if_false] <;> rfl

/-- LOAD_CHECK_FAIL over a tried slot. -/
theorem exec_loadCheckFail {v : LoadVerdict} {s : State} (hloads : s.loads = true) (htry : s.boot.trying = true) :
    exec (.loadCheckFail v) s =
      .next (match s.loadCode s.boot.slot v with | some c => s.slotFails c.1 c.2 | none => s) := by
  simp only [exec, execLoadCheckFail, hloads, State.beginLoad_of_trying htry, htry, Bool.not_true, Bool.false_eq_true, if_false] <;> rfl

/-- LOADING is the mode, and no image runs, while load checks run. -/
theorem State.loads_iff {s : State} :
    s.loads = true ↔ s.boot.mode = .loading ∧ s.boot.island = true ∧ s.boot.rails = true ∧ s.boot.running = false := by
  simp [State.loads, and_assoc]

/-- An installed image: it runs, the firmware is up, and the faults of the load are gone. -/
theorem State.install_values (s : State) :
    s.install.boot.running = true ∧ s.install.boot.trying = false ∧ s.install.boot.mode = s.boot.mode ∧
    s.install.boot.mgmtUp = true ∧ s.install.boot.evs = [] ∧ s.install.img = s.parseImage s.boot.slot ∧
    s.install.boot.toTamperhold = (s.boot.toTamperhold || s.vault.tampered) := by
  simp [State.install]

/-- An installation leaves the flash, the OTP and all that no image sets up. -/
theorem State.install_changesOnly (s : State) :
    ChangesOnly [.boot, .img, .ctrs, .attn, .bbx, .sens, .ports, .cages, .tcp, .streams, .time, .isl, .sch, .pub, .pair, .vault,
      .free] s s.install := by
  simp [changesOnly_iff]

/-- The verdict of a load that passes installs the image; any other leaves the state. -/
theorem does_loadingComplete {v : LoadVerdict} {s : State} (hloads : s.loads = true) (htry : s.boot.trying = true) :
    Does (.loadingComplete v) s [.boot, .img, .ctrs, .attn, .bbx, .sens, .ports, .cages, .tcp, .streams, .time, .isl, .sch, .pub,
      .pair, .vault, .free] (fun t =>
      (s.loadCode s.boot.slot v = none → t.boot.running = true ∧ t.boot.trying = false ∧ t.boot.mode = .loading ∧ t.boot.mgmtUp = true ∧
        t.boot.evs = [] ∧ t.img = s.parseImage s.boot.slot ∧ t.boot.toTamperhold = (s.boot.toTamperhold || s.vault.tampered)) ∧
      (s.loadCode s.boot.slot v ≠ none → t = s)) := by
  obtain ⟨hmode, -⟩ := State.loads_iff.1 hloads
  refine ⟨_, exec_loadingComplete hloads htry, ?_⟩
  split
  next hcode =>
    obtain ⟨hrun, htrying, hm, hrest⟩ := s.install_values
    exact ⟨⟨fun _ => ⟨hrun, htrying, hm.trans hmode, hrest⟩, fun hne => absurd hcode hne⟩, s.install_changesOnly⟩
  next c hcode => exact ⟨⟨fun hnone => by simp [hnone] at hcode, fun _ => rfl⟩, .refl _ _⟩

/-! A failed slot (R80, R82). -/

/-- The checks of a slot's header are about the flash and the owner key alone. -/
theorem State.slotCode_congr {s t : State} (hflash : t.flash = s.flash) (hotp : t.otp = s.otp) (k : Nat) :
    t.slotCode k = s.slotCode k := by
  simp [State.slotCode, State.ownerKey, hflash, hotp]

/-- So is the slot's state, and whether it is a candidate. -/
theorem State.candidate_congr {s t : State} (hflash : t.flash = s.flash) (hotp : t.otp = s.otp) (k : Nat) :
    t.candidate k = s.candidate k := by
  have hvalid : t.srValid k = s.srValid k := by simp [State.srValid, State.statusCells, hflash]
  simp [State.candidate, State.slotState, hvalid, State.slotCode_congr hflash hotp]

/-- T4 leaves the load results. -/
theorem State.noImage_boot (s : State) :
    s.noImage.boot = { s.boot with mode := .unconfigured, mgmtUp := false, trying := false, second := false } := by
  simp [State.noImage, State.transit, State.stopFirmware]

/-- A load result stands in the object of its slot. -/
@[simp] theorem State.loadResult_boot (s : State) (k code detail : Nat) :
    (s.loadResult k code detail).boot =
      if k = 0 then { s.boot with loadA := (code, detail) } else { s.boot with loadB := (code, detail) } := by
  simp [State.loadResult]

/-- A slot that is not in TRIAL and has no other after it fails by its result and T4. -/
theorem State.slotFails_last {s : State} (htrial : s.slotState s.boot.slot ≠ stTrial)
    (hlast : s.boot.second = true ∨ s.candidate (1 - s.boot.slot) = false) (code detail : Nat) :
    s.slotFails code detail = (s.loadResult s.boot.slot code detail).noImage := by
  have hsecond : (s.loadResult s.boot.slot code detail).boot.second = s.boot.second := by
    rw [State.loadResult_boot]
    split <;> rfl
  have hcand := State.candidate_congr (t := s.loadResult s.boot.slot code detail) (s := s) (by simp) (by simp) (1 - s.boot.slot)
  unfold State.slotFails
  simp only [if_neg htrial, hsecond, hcand]
  refine if_neg ?_
  obtain hsec | hno := hlast
  · simp [hsec]
  · simp [hno]

theorem completes_loadCheckFail_last {v : LoadVerdict} {s : State} (hloads : s.loads = true) (htry : s.boot.trying = true)
    {code detail : Nat} (hcode : s.loadCode s.boot.slot v = some (code, detail)) (htrial : s.slotState s.boot.slot ≠ stTrial)
    (hlast : s.boot.second = true ∨ s.candidate (1 - s.boot.slot) = false) :
    Completes (.loadCheckFail v) s (fun t =>
      t.boot.mode = .unconfigured ∧ t.boot.trying = false ∧ t.boot.running = false ∧ t.boot.mgmtUp = false ∧ t.flash = s.flash ∧
      (s.boot.slot = 0 → t.boot.loadA = (code, detail) ∧ t.boot.loadB = s.boot.loadB) ∧
      (s.boot.slot ≠ 0 → t.boot.loadB = (code, detail) ∧ t.boot.loadA = s.boot.loadA)) := by
  obtain ⟨-, -, -, hrunning⟩ := State.loads_iff.1 hloads
  refine ⟨_, (exec_loadCheckFail hloads htry).trans (by rw [hcode]), ?_⟩
  dsimp only
  rw [State.slotFails_last htrial hlast, State.noImage_boot, State.loadResult_boot]
  by_cases hslot : s.boot.slot = 0 <;> simp [hslot, hrunning]

/-- Settles O12. -/
theorem loadVerdicts : Obligations.LoadVerdicts := by
  intro v s
  refine ⟨fun hloads htry => ⟨does_loadingComplete hloads htry, ⟨_, exec_loadCheckFail hloads htry, fun hcode => by rw [hcode]⟩,
    fun code detail hcode => completes_loadCheckFail_last hloads htry hcode⟩, fun hloads => ?_⟩
  simp [exec, execLoadingComplete, execLoadCheckFail, hloads]

/-! Start-up. -/

/-- The firmware takes EMP over and enables every port; nothing else changes. -/
theorem State.startFirmware_values (s : State) :
    (s.startFirmware.boot = { s.boot with mgmtUp := true } ∧ s.startFirmware.ports.length = s.ports.length ∧
      ∀ p ∈ s.startFirmware.ports, p.on = true) ∧ ChangesOnly [.boot, .ports] s s.startFirmware := by
  refine ⟨⟨rfl, by simp [State.startFirmware], fun p hp => ?_⟩, by simp [changesOnly_iff, State.startFirmware]⟩
  obtain ⟨q, -, rfl⟩ := List.mem_map.1 hp
  rfl

/-- Firmware of a running image, or of a tried slot that passes, starts. -/
theorem exec_managementFirmwareStart {s : State} (hup : s.boot.mgmtUp = false) (hisland : s.boot.island = true)
    (hrails : s.boot.rails = true)
    (h : s.boot.running = true ∨ (s.boot.mode = .loading ∧ s.boot.trying = true ∧ s.loadCode s.boot.slot .answered = none)) :
    exec .managementFirmwareStart s = .next s.startFirmware := by
  cases hrun : s.boot.running
  · obtain ⟨hmode, htry, hcode⟩ := h.resolve_left (by simp [hrun])
    have hloads : s.loads = true := State.loads_iff.2 ⟨hmode, hisland, hrails, hrun⟩
    simp [exec, execManagementFirmwareStart, hup, hisland, hrails, hrun, hloads, State.beginLoad_of_trying htry, htry, hcode]
  · simp [exec, execManagementFirmwareStart, hup, hisland, hrails, hrun]

/-- Firmware of a tried slot that fails a check does not. -/
theorem exec_managementFirmwareStart_of_fault {s : State} (hrun : s.boot.running = false) (htry : s.boot.trying = true)
    (hcode : s.loadCode s.boot.slot .answered ≠ none) : exec .managementFirmwareStart s = .next s := by
  obtain ⟨c, hc⟩ := Option.ne_none_iff_exists'.1 hcode
  simp [exec, execManagementFirmwareStart, hrun, State.beginLoad_of_trying htry, htry, hc]

/-- Convergence stands in both lists and leaves the mode. -/
theorem State.converge_values (s : State) (fn unit : Nat) :
    (fn, unit) ∈ (s.converge fn unit).boot.converged ∧ (fn, unit) ∈ (s.converge fn unit).boot.delivered ∧
    (s.converge fn unit).boot.mode = s.boot.mode := by
  have hdelivered : (fn, unit) ∈ (s.deliveredFn fn unit).boot.delivered ∧
      (s.deliveredFn fn unit).boot.mode = s.boot.mode := by
    unfold State.deliveredFn
    split
    next h => exact ⟨by simpa using h, rfl⟩
    next => simp
  obtain ⟨hmem, hmode⟩ := hdelivered
  unfold State.converge
  dsimp only
  split
  next h => exact ⟨by simpa using h, hmem, hmode⟩
  next => exact ⟨by simp, hmem, hmode⟩

/-- The end of a burn: the field is complete, and the enrolments that waited are answered. -/
theorem does_ownerKeyBurnComplete {s : State} {second : Bool} {v : Bytes} (h : s.otp.burning = some (second, v)) :
    Does .ownerKeyBurnComplete s [.otp, .emp] (fun t =>
      t.otp = (if second then { s.otp with owner1 := .complete v, burning := none }
        else { s.otp with owner0 := .complete v, burning := none }) ∧ ∀ b ∈ t.emp.breqs, b.kind ≠ .ownerEnrol) := by
  refine ⟨_, rfl, ⟨?_, ?_⟩, ?_⟩ <;> rw [h] <;> dsimp only
  · simp
  · intro b hb
    obtain ⟨-, hkind⟩ := List.mem_filter.1 hb
    simpa using hkind
  · simp [changesOnly_iff]

/-- Settles O13. -/
theorem startUpEvents : Obligations.StartUpEvents := by
  intro s
  refine ⟨fun hup hisland hrails => ⟨fun h => ⟨_, exec_managementFirmwareStart hup hisland hrails h, s.startFirmware_values⟩,
    exec_managementFirmwareStart_of_fault⟩, fun hup => ?_, fun hmode hdue => ?_, fun hdt hsecs hmaj => ?_,
    fun v h => ?_, fun v h => ?_, fun h => ?_⟩
  · simp [exec, execManagementFirmwareStart, hup]
  · refine ⟨_, ?_, rfl, s.setBoot_changesOnly _⟩
    simp [exec, execWarmupTimeout, hmode, hdue]
  · refine ⟨s.converge 0 0, ?_, s.converge_values 0 0, by simp [changesOnly_iff]⟩
    simp [exec, execDtLockConverged, hdt, hsecs, hmaj]
  · exact does_ownerKeyBurnComplete h
  · exact does_ownerKeyBurnComplete h
  · simp [exec, execOwnerKeyBurnComplete, h]

end Sys2Proof.Machine

/-! Lemmas and proofs of the statements on time bases and votes (O14, O15). -/

namespace Sys2Proof.Machine

/-! Time bases. -/

/-- A changed base reads as changed. -/
theorem State.base_modBase_same {s : State} {b : Nat} {x : BaseSt} (h : s.time.bases[b]? = some x) (f : BaseSt → BaseSt) :
    (s.modBase b f).base b = f x := by
  simp [State.base, State.modBase, modAt_eq_modify, h]

/-- The other bases read as before. -/
theorem State.base_modBase_ne {s : State} {b b' : Nat} (h : b' ≠ b) (f : BaseSt → BaseSt) :
    (s.modBase b f).base b' = s.base b' := by
  simp [State.base, State.modBase, modAt_eq_modify, Ne.symm h]

/-- One more event of a counter counts once. -/
theorem State.bump_countsOnce (s : State) (k : CtrKey) : CountsOnce k s (s.bump k) :=
  ⟨by rw [State.ctr_bump, if_pos rfl], fun k' h => by rw [State.ctr_bump, if_neg (Ne.symm h)]⟩

/-- A counter is read from the counters alone. -/
theorem State.ctr_congr {s t : State} (h : t.ctrs = s.ctrs) (k : CtrKey) : t.ctr k = s.ctr k := by
  simp [State.ctr, h]

/-- What counts once counts from every state with the same counters. -/
theorem CountsOnce.congr {k : CtrKey} {s s' t t' : State} (h : CountsOnce k s t) (hs : s'.ctrs = s.ctrs) (ht : t'.ctrs = t.ctrs) :
    CountsOnce k s' t' := by
  obtain ⟨hone, hothers⟩ := h
  refine ⟨?_, fun k' hne => ?_⟩
  · rw [State.ctr_congr ht, State.ctr_congr hs, hone]
  · rw [State.ctr_congr ht, State.ctr_congr hs, hothers k' hne]

/-- A base that is off by more than 1,000 ns steps. -/
theorem exec_baseStep {b : Fin 4} {s : State} {x : BaseSt} (hx : s.time.bases[b.val]? = some x) (hdt : s.dtRuns = true)
    (hsrc : s.baseSrc b.val ≠ 0) :
    exec (.baseStep b) s = .next (if 1000 < x.offset.natAbs then
      (s.modBase b.val (fun x => { x with acc := ((x.acc : Int) + x.offset * 2 ^ 40).toNat, offset := 0 })).bump (ck1 .baseSteps b.val)
      else s) := by
  have hbase : s.base b.val = x := by simp [State.base, hx]
  have hexec : exec (.baseStep b) s = execBaseStep b s := rfl
  rw [hexec, execBaseStep, hbase]
  simp [hdt, hsrc]

/-- Settles O14. -/
theorem baseStepsToItsSource : Obligations.BaseStepsToItsSource := by
  intro b s x hx hdt hsrc
  refine ⟨fun hoff => ⟨_, (exec_baseStep hx hdt hsrc).trans (by rw [if_pos hoff]), ⟨?_, ?_, ?_, ?_, ?_⟩, ?_⟩, fun hoff => ?_⟩
  · exact State.base_modBase_same hx _
  · exact fun b' hne => State.base_modBase_ne hne _
  · rfl
  · rfl
  · exact (State.bump_countsOnce _ _).congr rfl rfl
  · simp [changesOnly_iff, State.modBase]
  · rw [exec_baseStep hx hdt hsrc, if_neg (by omega)]

/-! The vote (R143): it moves LTS by nothing. -/

@[simp] theorem State.modBase_lts (s : State) (b : Nat) (f : BaseSt → BaseSt) : (s.modBase b f).time.lts = s.time.lts := rfl

@[simp] theorem State.baseVote_lts (s : State) (b : Nat) : (s.baseVote b).time.lts = s.time.lts := by
  unfold State.baseVote
  dsimp only
  repeat' split
  all_goals simp

@[simp] theorem State.takeLeap_lts (s : State) : s.takeLeap.time.lts = s.time.lts := by
  unfold State.takeLeap
  dsimp only
  repeat' split
  all_goals simp

@[simp] theorem State.dissent_lts (s : State) (v : VoteSet) : (s.dissent v).time.lts = s.time.lts :=
  forAll_keep (fun u : State => u.time.lts) _ (fun u b => by simp) _ s

@[simp] theorem State.forceLapse_lts (s : State) : s.forceLapse.time.lts = s.time.lts := by
  unfold State.forceLapse
  split <;> simp

@[simp] theorem State.stepDt_lts (s : State) (d : Int) : (s.stepDt d).time.lts = s.time.lts := by
  simp [State.stepDt]

@[simp] theorem State.servo_lts (s : State) (sum : Int) (n : Nat) : (s.servo sum n).time.lts = s.time.lts := rfl

/-- Holdover, E and the seconds of the lock are not LTS. -/
theorem TimeSt.lts_of_locked (x : TimeSt) (e e0 l : Nat) :
    { x with holdover := false, err := e, err0 := e0, lockSecs := l : TimeSt }.lts = x.lts := rfl

/-- The steps of a vote with a majority move LTS by nothing, one by one. -/
@[simp] theorem State.voteMajority_lts (s : State) (v : VoteSet) : (s.voteMajority v).time.lts = s.time.lts := by
  unfold State.voteMajority
  extract_lets n first e held s1 ti s2 ti2 s3 s4 ti4 s5 stepping
  have h1 : s1.time.lts = s.time.lts := State.dissent_lts s v
  have h2 : s2.time.lts = s.time.lts := h1
  have h3 : s3.time.lts = s.time.lts := by
    unfold s3
    split
    · exact h2
    · exact h2
  have h4 : s4.time.lts = s.time.lts := (State.forceLapse_lts s3).trans h3
  have h5 : s5.time.lts = s.time.lts := (TimeSt.lts_of_locked s4.time _ _ _).trans h4
  split
  · exact h4
  · split
    · exact (State.stepDt_lts s5 _).trans h5
    · exact (State.servo_lts s5 _ _).trans h5

@[simp] theorem State.voteNone_lts (s : State) : s.voteNone.time.lts = s.time.lts := by
  unfold State.voteNone
  dsimp only
  split
  · rfl
  · unfold State.beginHoldover
    split <;> simp

/-- A vote: the bases move on, a leap second is taken, and the majority, or its lack, steers DT; that second has had its vote. -/
theorem does_timeVote {s : State} (hdt : s.dtRuns = true) (hsec : s.time.voteSec < s.dt / 1000000000) :
    Does .timeVote s (footprint .timeVote) (fun t => t.time.voteSec = t.dt / 1000000000 ∧ t.lts = s.lts) := by
  have hcond : (!s.dtRuns || decide (s.dt / 1000000000 ≤ s.time.voteSec)) = false := by simp [hdt, hsec]
  have hbases : (forAll (List.range 4) s (fun s b => s.baseVote b)).time.lts = s.time.lts :=
    forAll_keep (fun u : State => u.time.lts) _ (fun u b => State.baseVote_lts u b) _ s
  refine does_of_completes ⟨_, rfl, ?_⟩
  rw [hcond]
  refine ⟨rfl, ?_⟩
  simp only [Bool.false_eq_true, if_false, State.lts]
  split <;> simp [hbases]

/-! The loss of TIME_REF_IN (R150). -/

/-- REF_LOST is set, and nothing of the time units but it. -/
theorem State.refLost_time {s : State} (h : s.time.refLost = false) : s.refLost.time = { s.time with refLost := true } := by
  simp [State.refLost, h]

/-- Settles O15. -/
theorem votesAndReferenceLoss : Obligations.VotesAndReferenceLoss := by
  intro s
  refine ⟨fun hdt => ⟨does_timeVote hdt, fun hsec => ?_, fun hlost => ?_⟩, fun hdt => ?_, fun h => ?_⟩
  · simp [exec, execTimeVote, hsec]
  · refine does_of_completes ⟨_, rfl, ?_⟩
    have hruns : ({ s with ext := { s.ext with timeRef := false } } : State).dtRuns = true := hdt
    dsimp only
    rw [if_pos hruns, State.refLost_time (s := { s with ext := { s.ext with timeRef := false } }) hlost]
    exact ⟨rfl, by simp, (State.refLost_clocks _).2, (State.refLost_clocks _).1⟩
  · simp [exec, execTimeVote, hdt]
  · refine ⟨{ s with ext := { s.ext with timeRef := false } }, ?_, rfl, by simp [changesOnly_iff]⟩
    have hexec : exec .timeRefLost s = execTimeRefLost s := rfl
    rw [hexec, execTimeRefLost]
    by_cases hdt : s.dtRuns = true
    · have hlost : s.time.refLost = true := h.resolve_left (by simp [hdt])
      simp [State.refLost, hlost]
    · exact congrArg Host.Outcome.next (if_neg hdt)

end Sys2Proof.Machine

/-! Lemmas and proof of the statement on the sources of time (O16). -/

namespace Sys2Proof.Machine

/-! What reading a source leaves of the time units. -/

/-- LTS, DT and the frames routed to Hearth stand in `t` as in `s`. -/
def SameClocks (s t : State) : Prop :=
  t.time.lts = s.time.lts ∧ t.time.acc = s.time.acc ∧ t.time.ptpIn = s.time.ptpIn

theorem SameClocks.trans {s t u : State} (hst : SameClocks s t) (htu : SameClocks t u) : SameClocks s u := by
  obtain ⟨h1, h2, h3⟩ := hst
  obtain ⟨k1, k2, k3⟩ := htu
  exact ⟨k1.trans h1, k2.trans h2, k3.trans h3⟩

theorem SameClocks.of_time {s t : State} (h : t.time = s.time) : SameClocks s t := by
  simp [SameClocks, h]

theorem SameClocks.dt_lts {s t : State} (h : SameClocks s t) : t.dt = s.dt ∧ t.lts = s.lts := by
  obtain ⟨hlts, hacc, -⟩ := h
  exact ⟨by rw [State.dt, hacc, State.dt], hlts⟩

/-- A reading of a source changes the bases alone. -/
theorem State.sourceReads_time (s : State) (src : Nat) (reading : Int) :
    ∃ bs, (s.sourceReads src reading).time = { s.time with bases := bs } := by
  refine forAll_inv (fun t : State => ∃ bs, t.time = { s.time with bases := bs }) _ (fun t b ht => ?_) _ s ⟨_, rfl⟩
  obtain ⟨bs, hbs⟩ := ht
  exact ⟨_, by rw [State.modBase, hbs]⟩

theorem State.sourceReads_sameClocks (s : State) (src : Nat) (reading : Int) : SameClocks s (s.sourceReads src reading) := by
  obtain ⟨bs, hbs⟩ := s.sourceReads_time src reading
  simp [SameClocks, hbs]

theorem State.modPtp_sameClocks (s : State) (i : Nat) (f : PtpSt → PtpSt) : SameClocks s (s.modPtp i f) := ⟨rfl, rfl, rfl⟩

theorem State.modBase_sameClocks (s : State) (b : Nat) (f : BaseSt → BaseSt) : SameClocks s (s.modBase b f) := ⟨rfl, rfl, rfl⟩

/-- The choice of a master notes it, and another grandmaster at the bases. -/
theorem State.selectMaster_sameClocks (s : State) (i : Nat) : SameClocks s (s.selectMaster i) := by
  unfold State.selectMaster
  extract_lets x m gm s1
  have h1 : SameClocks s s1 := s.modPtp_sameClocks i _
  split
  · exact h1
  · exact forAll_inv (SameClocks s) _ (fun t b ht => ht.trans (t.modBase_sameClocks b _)) _ s1 h1

theorem State.useSync_sameClocks (s : State) (i p : Nat) (stamp origin : Ns) (corr : Int) :
    SameClocks s (s.useSync i p stamp origin corr) := by
  unfold State.useSync
  split
  · exact ⟨rfl, rfl, rfl⟩
  · exact (s.modPtp_sameClocks i _).trans (State.sourceReads_sameClocks _ _ _)

theorem State.takeAnnounce_sameClocks (s : State) (i p : Nat) (a : Announce) : SameClocks s (s.takeAnnounce i p a) := by
  unfold State.takeAnnounce
  split
  · exact ⟨rfl, rfl, rfl⟩
  · exact (s.modPtp_sameClocks i _).trans (State.selectMaster_sameClocks _ i)

/-- A frame of a domain record moves neither clock and leaves the frames behind it. -/
theorem State.takePtp_sameClocks (s : State) (i : Nat) (x : PtpIn) : SameClocks s (s.takePtp i x) := by
  unfold State.takePtp
  split
  · exact s.takeAnnounce_sameClocks i _ _
  · split
    · exact ⟨rfl, rfl, rfl⟩
    · split
      · exact s.useSync_sameClocks i _ _ _ _
      · exact s.modPtp_sameClocks i _
  · split
    · split
      · exact s.useSync_sameClocks i _ _ _ _
      · exact ⟨rfl, rfl, rfl⟩
    · exact ⟨rfl, rfl, rfl⟩
  · exact .of_time (by simp)
  · exact s.modPtp_sameClocks i _
  · exact s.modPtp_sameClocks i _
  · exact ⟨rfl, rfl, rfl⟩

/-! PTP (R139). -/

/-- Hearth takes the oldest frame. -/
theorem exec_ptpFrame {s : State} {x : PtpIn} {rest : List PtpIn} (h : s.time.ptpIn = x :: rest) :
    exec .ptpFrame s = .next (match s.ptpRecOf x.port x.domain with
      | none => ({ s with time := { s.time with ptpIn := rest } } : State).bump (ck1 .ptpDiscarded 2)
      | some i => if ptpRecVlanId (s.rec_ .ptpRec i) != x.vid
          then ({ s with time := { s.time with ptpIn := rest } } : State).bump (ck1 .ptpDiscarded i)
          else ({ s with time := { s.time with ptpIn := rest } } : State).takePtp i x) := by
  have hexec : exec .ptpFrame s = execPtpFrame s := rfl
  rw [hexec, execPtpFrame, h] <;> rfl

/-- A frame of no record is discarded, as is one of another VLAN. -/
theorem does_ptpFrame_discards {s : State} {rest : List PtpIn} {n : Nat}
    (h : exec .ptpFrame s = .next (({ s with time := { s.time with ptpIn := rest } } : State).bump (ck1 .ptpDiscarded n))) :
    Does .ptpFrame s [.ctrs, .time] (fun t =>
      t.time = { s.time with ptpIn := rest } ∧ CountsOnce (ck1 .ptpDiscarded n) s t) :=
  ⟨_, h, ⟨rfl, (State.bump_countsOnce _ _).congr rfl rfl⟩, by simp [changesOnly_iff]⟩

theorem does_ptpFrame {s : State} {x : PtpIn} {rest : List PtpIn} (h : s.time.ptpIn = x :: rest) :
    (s.ptpRecOf x.port x.domain = none → Does .ptpFrame s [.ctrs, .time] (fun t =>
      t.time = { s.time with ptpIn := rest } ∧ CountsOnce (ck1 .ptpDiscarded 2) s t)) ∧
    (∀ i, s.ptpRecOf x.port x.domain = some i →
      (ptpRecVlanId (s.rec_ .ptpRec i) ≠ x.vid → Does .ptpFrame s [.ctrs, .time] (fun t =>
        t.time = { s.time with ptpIn := rest } ∧ CountsOnce (ck1 .ptpDiscarded i) s t)) ∧
      (ptpRecVlanId (s.rec_ .ptpRec i) = x.vid → Does .ptpFrame s [.ctrs, .ports, .time] (fun t => t.time.ptpIn = rest ∧
        t.dt = s.dt ∧ t.lts = s.lts))) := by
  refine ⟨fun hrec => does_ptpFrame_discards ?_, fun i hrec => ⟨fun hvid => does_ptpFrame_discards ?_, fun hvid => ?_⟩⟩
  · rw [exec_ptpFrame h, hrec]
  · rw [exec_ptpFrame h, hrec]
    simp [hvid]
  · refine ⟨({ s with time := { s.time with ptpIn := rest } } : State).takePtp i x, ?_, ?_, by simp [changesOnly_iff]⟩
    · rw [exec_ptpFrame h, hrec]
      simp [hvid]
    · have htake := State.takePtp_sameClocks { s with time := { s.time with ptpIn := rest } } i x
      exact ⟨htake.2.2, htake.dt_lts⟩

/-! The Pdelay timer (Table TIM-5). -/

/-- After a Pdelay_Req the next one of the record on the port lies ahead. -/
def PdelayAhead (s : State) (p i : Nat) : Prop := ∃ d, aget (s.ptpSt i).delays p = some d ∧ s.lts < d.due

theorem State.ptpSt_of_time {s t : State} (h : t.time = s.time) (i : Nat) : t.ptpSt i = s.ptpSt i := by
  simp [State.ptpSt, h]

theorem State.ptpSt_modPtp_same {s : State} {i : Nat} (h : i < s.time.ptp.length) (f : PtpSt → PtpSt) :
    (s.modPtp i f).ptpSt i = f (s.ptpSt i) := by
  simp [State.ptpSt, State.modPtp, modAt_eq_modify, h]

theorem State.ptpSt_modPtp_ne {s : State} {i j : Nat} (h : i ≠ j) (f : PtpSt → PtpSt) :
    (s.modPtp i f).ptpSt j = s.ptpSt j := by
  simp [State.ptpSt, State.modPtp, modAt_eq_modify, h]

/-- The timer at one record: clocks and the number of records stay, its next request lies ahead, and the other records stay. -/
theorem State.pdelayReq_values (s : State) (i p : Nat) :
    SameClocks s (s.pdelayReq i p) ∧ (s.pdelayReq i p).time.ptp.length = s.time.ptp.length ∧
    (i < s.time.ptp.length → PdelayAhead (s.pdelayReq i p) p i) ∧
    ∀ j, i ≠ j → (s.pdelayReq i p).ptpSt j = s.ptpSt j := by
  unfold State.pdelayReq
  extract_lets old due seq d
  have htime : (s.missPdelay i p).time = s.time := by simp
  split
  next hdue =>
    refine ⟨⟨rfl, rfl, rfl⟩, rfl, fun _ => ?_, fun _ _ => rfl⟩
    cases hold : aget (s.ptpSt i).delays p with
    | none => simp [due, old, hold] at hdue
    | some e => exact ⟨e, hold, by simpa [due, old, hold] using hdue⟩
  next =>
    have hsend {u v : State} (h : v.time = u.time) : SameClocks u v ∧ v.time.ptp.length = u.time.ptp.length :=
      ⟨.of_time h, by rw [h]⟩
    generalize hu : s.missPdelay i p = u at *
    generalize hv : u.modPtp i (fun y => { y with delays := aput y.delays p d }) = v
    have htimev : (v.ptpSend i p 2 seq 0).time = v.time := by simp
    have hclocks : SameClocks s v := by
      rw [← hv]
      exact (SameClocks.of_time htime).trans (u.modPtp_sameClocks i _)
    refine ⟨hclocks.trans (.of_time htimev), ?_, fun hi => ⟨d, ?_, ?_⟩, fun j hj => ?_⟩
    · rw [htimev, ← hv, ← htime]
      simp [State.modPtp, modAt_eq_modify]
    · rw [State.ptpSt_of_time htimev, ← hv, State.ptpSt_modPtp_same (by rwa [htime])]
      simp [aget_aput]
    · rw [(State.clocks_of_time htimev).1, hclocks.dt_lts.2]
      exact Nat.lt_add_of_pos_right (by decide)
    · rw [State.ptpSt_of_time htimev, ← hv, State.ptpSt_modPtp_ne hj, State.ptpSt_of_time htime]

/-- The timer at one record of the two, where its mask has the port. -/
def State.pdelayRound (p : Nat) (s : State) (i : Nat) : State :=
  if ptpRecValid (s.rec_ .ptpRec i) == 1 && bitAt (ptpRecPortMask (s.rec_ .ptpRec i)) p then s.pdelayReq i p else s

theorem State.pdelayRound_values (s : State) (i p : Nat) :
    SameClocks s (State.pdelayRound p s i) ∧ (State.pdelayRound p s i).time.ptp.length = s.time.ptp.length ∧
    (i < s.time.ptp.length → ptpRecValid (s.rec_ .ptpRec i) = 1 → bitAt (ptpRecPortMask (s.rec_ .ptpRec i)) p = true →
      PdelayAhead (State.pdelayRound p s i) p i) ∧
    (∀ j, i ≠ j → (State.pdelayRound p s i).ptpSt j = s.ptpSt j) ∧ (State.pdelayRound p s i).img = s.img := by
  unfold State.pdelayRound
  obtain ⟨hclocks, hlen, hahead, hothers⟩ := s.pdelayReq_values i p
  split
  next => exact ⟨hclocks, hlen, fun hi _ _ => hahead hi, hothers, by simp⟩
  next hno => exact ⟨⟨rfl, rfl, rfl⟩, rfl, fun _ hvalid hmask => absurd (by simp [hvalid, hmask]) hno, fun _ _ => rfl, rfl⟩

theorem does_pdelayReqTimer {p : LinePort} {s : State} (hon : (s.port p.val).on = true) :
    Does (.pdelayReqTimer p) s [.ctrs, .ports, .time] (fun t =>
    t.dt = s.dt ∧ t.lts = s.lts ∧ ∀ i : Nat, i < 2 → ptpRecValid (s.rec_ .ptpRec i) = 1 → bitAt (ptpRecPortMask (s.rec_ .ptpRec i)) p.val = true →
      i < s.time.ptp.length → ∃ d, aget (t.ptpSt i).delays p.val = some d ∧ s.lts < d.due) := by
  have hexec : exec (.pdelayReqTimer p) s = .next (State.pdelayRound p.val (State.pdelayRound p.val s 0) 1) := by
    have h : exec (.pdelayReqTimer p) s = execPdelayReqTimer p s := rfl
    rw [h, execPdelayReqTimer, hon]
    rfl
  obtain ⟨hclocks0, hlen0, hahead0, -, himg0⟩ := s.pdelayRound_values 0 p.val
  obtain ⟨hclocks1, -, hahead1, hothers1, -⟩ := (State.pdelayRound p.val s 0).pdelayRound_values 1 p.val
  have hclocks := (hclocks0.trans hclocks1).dt_lts
  refine ⟨_, hexec, ⟨hclocks.1, hclocks.2, fun i hi hvalid hmask hlen => ?_⟩, ?_⟩
  · have hrec : (State.pdelayRound p.val s 0).rec_ .ptpRec i = s.rec_ .ptpRec i := by simp [State.rec_, himg0]
    interval_cases i
    · obtain ⟨d, hd, hdue⟩ := hahead0 hlen hvalid hmask
      exact ⟨d, by rw [hothers1 0 (by decide), hd], by rwa [← hclocks0.dt_lts.2]⟩
    · obtain ⟨d, hd, hdue⟩ := hahead1 (by rwa [hlen0]) (by rwa [hrec]) (by rwa [hrec])
      exact ⟨d, hd, by rwa [← hclocks.2]⟩
  · unfold State.pdelayRound
    repeat' split
    all_goals simp [changesOnly_iff]

/-! The receipt timeout of an Announce (Table TIM-5). -/

/-- Noting another grandmaster at the bases leaves the records. -/
theorem State.selectMaster_foreign (s : State) (i : Nat) :
    ∀ f, f ∈ ((s.selectMaster i).ptpSt i).foreign → f ∈ (s.ptpSt i).foreign := by
  unfold State.selectMaster
  extract_lets x m gm s1
  have h1 : ∀ f, f ∈ (s1.ptpSt i).foreign → f ∈ (s.ptpSt i).foreign := by
    intro f hf
    by_cases hi : i < s.time.ptp.length
    · rwa [State.ptpSt_modPtp_same hi] at hf
    · simpa [s1, State.ptpSt, State.modPtp, modAt_eq_modify, hi] using hf
  split
  · exact h1
  · have hkeep := forAll_keep (fun u : State => u.ptpSt i) (fun s b => s.modBase b (fun y => { y with gmChanged := true }))
      (fun u b => rfl) (s1.basesOf (i + 1)) s1
    intro f hf
    rw [hkeep] at hf
    exact h1 f hf

theorem does_ptpAnnounceReceiptTimeout {r : Fin 2} {s : State} {m f : Foreign} (hm : (s.ptpSt r.val).master = some m)
    (hf : (s.ptpSt r.val).foreign.find? (fun f => f.port == m.port && f.ann.gm == m.ann.gm) = some f)
    (hdue : f.at_ + 3 * f.interval ≤ s.lts) :
    Does (.ptpAnnounceReceiptTimeout r) s [.time] (fun t => t.dt = s.dt ∧ t.lts = s.lts ∧
      ∀ g ∈ (t.ptpSt r.val).foreign, ¬ (g.port = m.port ∧ g.ann.gm = m.ann.gm)) := by
  have hexec : exec (.ptpAnnounceReceiptTimeout r) s = execPtpAnnounceReceiptTimeout r s := rfl
  have hlt : r.val < s.time.ptp.length := by
    by_contra hge
    simp [State.ptpSt, hge, PtpSt.reset] at hm
  rw [Does, Completes, hexec, execPtpAnnounceReceiptTimeout, hm]
  dsimp only
  rw [hf]
  refine ⟨_, congrArg Host.Outcome.next (if_pos hdue), ?_, by simp [changesOnly_iff, State.modPtp]⟩
  have hclocks (change : PtpSt → PtpSt) := ((s.modPtp_sameClocks r.val change).trans (State.selectMaster_sameClocks _ r.val)).dt_lts
  refine ⟨(hclocks _).1, (hclocks _).2, fun g hg hsame => ?_⟩
  have hmem := State.selectMaster_foreign _ _ g hg
  rw [State.ptpSt_modPtp_same hlt] at hmem
  obtain ⟨-, hkept⟩ := List.mem_filter.1 hmem
  simp [hsame] at hkept

/-! GNSS and IRIG-B (R140, R141). -/

/-- A labelled edge: the second is its label, and the readings go to the bases. -/
theorem State.labelEdge_values (s : State) (edge : Ns) (sec : Nat) :
    (s.labelEdge edge sec).time.gnss = { s.time.gnss with labelled := true, last := some sec, tod := none } ∧
    SameClocks s (s.labelEdge edge sec) := by
  unfold State.labelEdge
  extract_lets u
  obtain ⟨bs, hbs⟩ := u.sourceReads_time 3 ((sec : Int) * 1000000000 + ((u.lts : Int) - edge) + delayNs (timeHdrGnssDelay (u.rec_ .timeHdr 0)))
  rw [hbs, SameClocks, hbs]
  exact ⟨rfl, rfl, rfl, rfl⟩

theorem exec_gnssSentence {s : State} (hdt : s.dtRuns = true) (hbase : s.basesOf 3 ≠ []) (x : Sentence) :
    exec (.gnssSentence x) s = .next (match x with
    | .zda utc sixty =>
      if timeHdrGnssTodNext (s.rec_ .timeHdr 0) = 1 then s.modGnss (fun g => { g with tod := some (s.taiOf utc sixty) })
      else (match s.time.gnss.edge with
        | some e => if s.lts < e + 1000000000 then s.labelEdge e (s.taiOf utc sixty) else s
        | none => s)
    | .gga fix sats => s.modGnss (fun g => { g with fix := fix, sats := sats })
    | .badChecksum => s.bump (ck .gnssFailed)
    | .other => s) := by
  have hexec : exec (.gnssSentence x) s = execGnssSentence x s := rfl
  have hcond : (!s.dtRuns || (s.basesOf 3).isEmpty) = false := by simp [hdt, hbase]
  rw [hexec]
  unfold execGnssSentence
  rw [hcond]
  cases x <;> rfl

theorem exec_gnssPpsEdge_ignored {s : State} {falling : Bool} {ago : Nat}
    (h : b2n falling ≠ timeHdrGnssPpsFalling (s.rec_ .timeHdr 0)) : exec (.gnssPpsEdge falling ago) s = .next s := by
  have hexec : exec (.gnssPpsEdge falling ago) s = execGnssPpsEdge falling ago s := rfl
  rw [hexec, execGnssPpsEdge, if_pos (by simp [h])]

/-- The on-time edge is noted, and labelled where its second is known. -/
theorem does_gnssPpsEdge {s : State} (hdt : s.dtRuns = true) (hbase : s.basesOf 3 ≠ []) {falling : Bool} {ago : Nat}
    (h : b2n falling = timeHdrGnssPpsFalling (s.rec_ .timeHdr 0)) : Does (.gnssPpsEdge falling ago) s [.time] (fun t =>
      t.time.gnss.edge = some (s.lts - ago) ∧ t.dt = s.dt ∧ t.lts = s.lts) := by
  have hexec : exec (.gnssPpsEdge falling ago) s = execGnssPpsEdge falling ago s := rfl
  rw [Does, Completes, hexec, execGnssPpsEdge, if_neg (by simp [hdt, hbase, h])]
  refine ⟨_, rfl, ?_⟩
  extract_lets e next g bare u
  have hu : u.time.gnss.edge = some (s.lts - ago) ∧ SameClocks s u := ⟨rfl, rfl, rfl, rfl⟩
  have hframe : ChangesOnly [.time] s u := by simp [changesOnly_iff, u, State.modGnss]
  clear_value u
  obtain ⟨hedge, hclocks⟩ := hu
  have hbare : (u.time.gnss.edge = some (s.lts - ago) ∧ u.dt = s.dt ∧ u.lts = s.lts) ∧ ChangesOnly [.time] s u :=
    ⟨⟨hedge, hclocks.dt_lts⟩, hframe⟩
  split
  next sec _ =>
    split
    · obtain ⟨hgnss, hlabel⟩ := u.labelEdge_values e sec
      refine ⟨⟨by rw [hgnss]; exact hedge, (hclocks.trans hlabel).dt_lts⟩, hframe.trans (qs := [.time]) ?_ (by simp) (by simp)⟩
      simp [changesOnly_iff]
    · exact hbare
  next => exact hbare

/-- An IRIG-B frame is used where it is well formed and has the parity it needs; any other counts as failed. -/
theorem exec_irigbFrame {s : State} (hdt : s.dtRuns = true) (hbase : s.basesOf 4 ≠ []) (f : IrigFrame) :
    (f.wellFormed = true → (timeHdrIrig1344 (s.rec_ .timeHdr 0) = 1 → f.parityOk = true) →
      ∃ irig reading, exec (.irigbFrame f) s = .next (({ s with time := { s.time with irig := irig } } : State).sourceReads 4 reading) ∧
        irig.last = some (s.irigSec f (timeHdrIrig1344 (s.rec_ .timeHdr 0) == 1)) ∧ irig.labelled = true ∧
        irig.edge = some (s.lts - f.edgeAgo)) ∧
    (f.wellFormed = false ∨ (timeHdrIrig1344 (s.rec_ .timeHdr 0) = 1 ∧ f.parityOk = false) →
      exec (.irigbFrame f) s = .next (({ s with time := { s.time with irig := { s.time.irig with
        failed := s.time.irig.failed || f.wellFormed } } } : State).bump (ck .irigFailed))) := by
  have hexec : exec (.irigbFrame f) s = execIrigbFrame f s := rfl
  have hcond : (!s.dtRuns || (s.basesOf 4).isEmpty) = false := by simp [hdt, hbase]
  rw [hexec, execIrigbFrame]
  dsimp only
  rw [hcond]
  refine ⟨fun hform hparity => ?_, fun hbad => ?_⟩
  · have hok : (!f.wellFormed || (timeHdrIrig1344 (s.rec_ .timeHdr 0) == 1 && !f.parityOk)) = false := by
      by_cases h : timeHdrIrig1344 (s.rec_ .timeHdr 0) = 1
      · simp [hform, hparity h]
      · simp [hform, h]
    rw [hok]
    exact ⟨_, _, rfl, rfl, rfl, rfl⟩
  · have hfail : (!f.wellFormed || (timeHdrIrig1344 (s.rec_ .timeHdr 0) == 1 && !f.parityOk)) = true := by
      obtain h | ⟨h, hp⟩ := hbad
      · simp [h]
      · simp [h, hp]
    rw [hfail]
    rfl

/-- A well-formed frame labels its edge with its second. -/
theorem does_irigbFrame {s : State} (hdt : s.dtRuns = true) (hbase : s.basesOf 4 ≠ []) {f : IrigFrame}
    (hform : f.wellFormed = true) (hparity : timeHdrIrig1344 (s.rec_ .timeHdr 0) = 1 → f.parityOk = true) :
    Does (.irigbFrame f) s [.time] (fun t =>
      t.time.irig.last = some (s.irigSec f (timeHdrIrig1344 (s.rec_ .timeHdr 0) == 1)) ∧ t.time.irig.labelled = true ∧
      t.time.irig.edge = some (s.lts - f.edgeAgo) ∧ t.dt = s.dt ∧ t.lts = s.lts) := by
  obtain ⟨irig, reading, hexec, hlast, hlabelled, hedge⟩ := (exec_irigbFrame hdt hbase f).1 hform hparity
  obtain ⟨bs, hbs⟩ := State.sourceReads_time { s with time := { s.time with irig := irig } } 4 reading
  refine ⟨_, hexec, ⟨?_, ?_, ?_, ?_, ?_⟩, by simp [changesOnly_iff]⟩
  · rw [hbs]; exact hlast
  · rw [hbs]; exact hlabelled
  · rw [hbs]; exact hedge
  · rw [State.dt, hbs, State.dt]
  · rw [State.lts, hbs, State.lts]

/-- Settles O16. -/
theorem timeSourcesAreRead : Obligations.TimeSourcesAreRead := by
  refine ⟨fun s => ⟨fun x rest h => does_ptpFrame h, fun h => ?noFrame, fun p => does_pdelayReqTimer,
    fun r m f => does_ptpAnnounceReceiptTimeout⟩, fun s hdt => ⟨fun hbase => ⟨fun fix sats => ?gga, fun utc sixty hnext => ?zdaNext,
    fun utc sixty e hnext hedge hnear => ?zdaLast, ?bad, ?other, fun falling ago => does_gnssPpsEdge hdt hbase,
    fun falling ago => exec_gnssPpsEdge_ignored⟩, fun hbase f => ⟨does_irigbFrame hdt hbase, fun hbad => ?irigBad⟩⟩⟩
  case noFrame => simp [exec, execPtpFrame, h]
  case gga => exact ⟨_, exec_gnssSentence hdt hbase _, rfl, by simp [changesOnly_iff, State.modGnss]⟩
  case zdaNext =>
    exact ⟨_, (exec_gnssSentence hdt hbase _).trans (congrArg Host.Outcome.next (if_pos hnext)), rfl,
      by simp [changesOnly_iff, State.modGnss]⟩
  case zdaLast =>
    obtain ⟨hgnss, hclocks⟩ := s.labelEdge_values e (s.taiOf utc sixty)
    refine ⟨_, (exec_gnssSentence hdt hbase _).trans ?_, ⟨hgnss, hclocks.dt_lts⟩, by simp [changesOnly_iff]⟩
    simp [hnext, hedge, hnear]
  case bad => exact ⟨_, exec_gnssSentence hdt hbase _, State.bump_countsOnce _ _, by simp [changesOnly_iff]⟩
  case other => exact exec_gnssSentence hdt hbase _
  case irigBad =>
    exact ⟨_, (exec_irigbFrame hdt hbase f).2 hbad, ⟨rfl, (State.bump_countsOnce _ _).congr rfl rfl⟩, by simp [changesOnly_iff]⟩

end Sys2Proof.Machine

/-! Lemmas and proofs of the statements on ports and their queues (O18 to O23). -/

namespace Sys2Proof.Machine

/-! Lists and tables. -/

/-- The model's store into one list element is the library's. -/
theorem setAt_eq_set {α : Type} (xs : List α) (i : Nat) (y : α) : setAt xs i y = xs.set i y := by
  induction xs generalizing i with
  | nil => simp [setAt]
  | cons x xs ih => cases i <;> simp [setAt, ih]

/-- What a table holds after a key is removed. -/
theorem aget_adel {K V : Type} [DecidableEq K] (m : List (K × V)) (k k' : K) :
    aget (adel m k) k' = if k = k' then none else aget m k' := by
  induction m with
  | nil => simp [adel, aget]
  | cons e m ih =>
    obtain ⟨a, b⟩ := e
    unfold adel at ih ⊢
    by_cases ha : a = k
    · rw [List.filter_cons_of_neg (by simp [ha]), ih]
      by_cases hk : k = k'
      · simp [hk]
      · simp [hk, aget, ha]
    · rw [List.filter_cons_of_pos (by simp [ha])]
      by_cases ha' : a = k'
      · subst ha'
        simp [aget, Ne.symm ha]
      · simpa [aget, ha'] using ih

/-! Ports. -/

theorem State.port_of_getElem? {s : State} {p : Nat} {x : PortSt} (h : s.ports[p]? = some x) : s.port p = x := by
  simp [State.port, h]

/-- A port is read from the ports alone. -/
theorem State.port_congr {s t : State} (h : t.ports = s.ports) (p : Nat) : t.port p = s.port p := by
  simp [State.port, h]

/-- A changed port reads as changed. -/
theorem State.port_modPort_same {s : State} {p : Nat} {x : PortSt} (h : s.ports[p]? = some x) (f : PortSt → PortSt) :
    (s.modPort p f).port p = f x := by
  simp [State.port, modAt_eq_modify, h]

/-- The other ports read as before. -/
theorem State.port_modPort_ne {s : State} {p p' : Nat} (h : p' ≠ p) (f : PortSt → PortSt) :
    (s.modPort p f).port p' = s.port p' := by
  simp [State.port, modAt_eq_modify, Ne.symm h]

/-- A count alone. -/
theorem does_bump {c : Instr} {s : State} {k : CtrKey} (h : exec c s = .next (s.bump k)) : Does c s [.ctrs] (CountsOnce k s) :=
  ⟨_, h, s.bump_countsOnce k, by simp [changesOnly_iff]⟩

/-! Receiving (R89 to R94, Table PRT-2). -/

/-- A frame on a port that takes frames. -/
theorem exec_frameReceive {p : Port} {f : RxFrame} {s : State} (h : s.portTakes p.val = true) :
    exec (.frameReceive p f) s = .next (s.receive p.val f) := by
  have hexec : exec (.frameReceive p f) s = execFrameReceive p f s := rfl
  rw [hexec, execFrameReceive, if_pos h]

/-- A frame that passes every row of Table PRT-2. -/
theorem State.receive_of_good {s : State} {p : Nat} {f : RxFrame} (hlen : 64 ≤ f.len) (hfcs : f.fcsGood = true)
    (hmax : f.len ≤ maxFrame (s.rec_ .port p) (min (knownTags f.tags).1.length 2)) (htags : (knownTags f.tags).1.length < 3)
    (hdst : isGroup f.dst = true ∨ f.dst.toNat = portMac (s.rec_ .port p)) :
    s.receive p f = if p = 4 ∧ frameBody f = .woide then s.ingestMp f
      else if s.consumes p f then s.bump (ck1 .framesReceived p) else s.ingest p f := by
  have haddr : (!isGroup f.dst && f.dst.toNat != portMac (s.rec_ .port p)) = false := by
    obtain h | h := hdst <;> simp [h]
  simp only [State.receive, haddr, hfcs]
  rw [if_neg (by omega), if_neg (by simp), if_neg (by omega), if_neg (by omega), if_neg (by simp)]

/-- Settles O18. -/
theorem receivedFramesDroppedByLengthFcsTagsAndAddress : Obligations.ReceivedFramesDroppedByLengthFcsTagsAndAddress := by
  intro p f s
  refine ⟨fun h => ⟨fun hlen => ?_, fun hlen hfcs => ?_, fun hlen hfcs hmax => ?_, fun hlen hfcs hmax htags => ?_,
    fun hlen hfcs hmax htags hgroup hdst => ?_⟩, fun h => ?_⟩
  case refine_6 =>
    have hexec : exec (.frameReceive p f) s = execFrameReceive p f s := rfl
    rw [hexec, execFrameReceive, if_neg (by simp [h])]
  all_goals
    refine does_bump ((exec_frameReceive h).trans (congrArg Host.Outcome.next ?_))
    unfold State.receive
    dsimp only
  · rw [if_pos hlen]
  · rw [if_neg (by omega), if_pos (by simp [hfcs])]
  · rw [if_neg (by omega), if_neg (by simp [hfcs]), if_pos hmax]
  · rw [if_neg (by omega), if_neg (by simp [hfcs]), if_neg (by omega), if_pos htags]
  · rw [if_neg (by omega), if_neg (by simp [hfcs]), if_neg (by omega), if_neg (by omega), if_pos (by simp [hgroup, hdst])]

/-- A count and a change of a port. -/
theorem State.bump_modPort_changesOnly (s : State) (k : CtrKey) (p : Nat) (f : PortSt → PortSt) :
    ChangesOnly [.ctrs, .ports] s ((s.bump k).modPort p f) := by
  simp [changesOnly_iff]

/-- A command that counts and changes one port. -/
theorem does_bump_modPort {c : Instr} {s : State} {k : CtrKey} {p : Nat} {x : PortSt} {f : PortSt → PortSt}
    (hx : s.ports[p]? = some x) (h : exec c s = .next ((s.bump k).modPort p f)) :
    Does c s [.ctrs, .ports] (fun t => t.port p = f x ∧ (∀ p' : Nat, p' ≠ p → t.port p' = s.port p') ∧ CountsOnce k s t) := by
  have hothers (p' : Nat) (hne : p' ≠ p) : ((s.bump k).modPort p f).port p' = s.port p' :=
    (State.port_modPort_ne hne f).trans (State.port_congr (by simp) p')
  exact ⟨_, h, ⟨State.port_modPort_same (by simpa using hx) f, hothers, (s.bump_countsOnce k).congr rfl rfl⟩,
    s.bump_modPort_changesOnly k p f⟩

/-- A port that consumes no frame of its own has a number below 4. -/
theorem State.not_consumes {s : State} {p : Nat} {f : RxFrame} (h : s.consumes p f = false) : p < 4 := by
  by_contra hge
  unfold State.consumes at h
  rw [decide_eq_true (by omega : 4 ≤ p), Bool.true_or] at h
  cases h

/-- Settles O19. -/
theorem framesEnterTheIngressBuffer : Obligations.FramesEnterTheIngressBuffer := by
  intro p f s x hx htakes hlen hfcs hmax htags hdst
  have hexec := (exec_frameReceive (f := f) htakes).trans
    (congrArg Host.Outcome.next (State.receive_of_good hlen hfcs hmax htags hdst))
  have hport := State.port_of_getElem? hx
  refine ⟨fun hcons => ?passed, fun hcons hnot => ?consumed, fun hp hbody => ?woide⟩
  case passed =>
    have hp := State.not_consumes hcons
    rw [if_neg (by omega), if_neg (by simp [hcons])] at hexec
    unfold State.ingest at hexec
    rw [hport] at hexec
    refine ⟨fun hroom => does_bump_modPort hx (hexec.trans (by rw [if_pos hroom])), fun hfull => ?_⟩
    rw [if_neg (by omega)] at hexec
    by_cases hkey : f.keyEnd ≤ 128
    · rw [if_pos hkey] at hexec
      cases hsid : s.matchSid f with
      | some sid =>
        rw [hsid] at hexec
        refine ⟨_, hexec, ⟨fun sid' _ h => ?_, fun h => ?_⟩, by simp [changesOnly_iff]⟩
        · obtain rfl := Option.some.inj h
          exact s.bump_countsOnce _
        · exact absurd h (by simp [hkey])
      | none =>
        rw [hsid] at hexec
        exact ⟨_, hexec, ⟨fun _ _ h => (nomatch h), fun _ => s.bump_countsOnce _⟩, by simp [changesOnly_iff]⟩
    · rw [if_neg hkey] at hexec
      exact ⟨_, hexec, ⟨fun _ h => absurd h hkey, fun _ => s.bump_countsOnce _⟩, by simp [changesOnly_iff]⟩
  case consumed =>
    rw [if_neg hnot, if_pos hcons] at hexec
    exact does_bump hexec
  case woide =>
    rw [if_pos ⟨hp, hbody⟩] at hexec
    rw [hp] at hx hport
    unfold State.ingestMp at hexec
    rw [hport] at hexec
    exact ⟨fun hroom => does_bump_modPort hx (hexec.trans (by rw [if_pos hroom])),
      fun hfull => does_bump (hexec.trans (by rw [if_neg (by omega)]))⟩

end Sys2Proof.Machine

/-! Lemmas and proofs of the statements on flow control (O20, O21). -/

namespace Sys2Proof.Machine

/-! The pause timers of a port (R98, R99). -/

/-- From `s` to `t` the pause timers of port `p` are `pause`; its queues and its wire, the other ports, the counters and the clock
stand as they stood. -/
def PauseSet (s : State) (p : Nat) (x : PortSt) (pause : Nat → Option Ns) (t : State) : Prop :=
  ∃ y, t.ports[p]? = some y ∧ (∀ q, aget y.pause q = pause q) ∧ y.queues = x.queues ∧ y.wire = x.wire ∧
    (∀ p' : Nat, p' ≠ p → t.port p' = s.port p') ∧ t.ctrs = s.ctrs ∧ t.img = s.img ∧ t.time = s.time

theorem PortSt.free_pause (x : PortSt) (q q' : Nat) :
    aget (x.free q).pause q' = if q' = q then none else aget x.pause q' := by
  simp [PortSt.free, aget_adel, eq_comm]

/-- The pause time of a queue in quanta, as its timer is then. -/
def State.pauseUntil (s : State) (p quanta : Nat) : Option Ns :=
  if quanta = 0 then none else some (s.lts + pauseNs (portPhy (s.rec_ .port p)) quanta)

/-- A loaded timer runs to its time, or ends with a time of 0; the others run on. -/
theorem PauseSet.loadPause {s t : State} {p : Nat} {x : PortSt} {pause : Nat → Option Ns} (h : PauseSet s p x pause t)
    (q quanta : Nat) :
    PauseSet s p x (fun q' => if q' = q then s.pauseUntil p quanta else pause q') (t.loadPause p q quanta) := by
  obtain ⟨y, hy, hpause, hqueues, hwire, hothers, hctrs, himg, htime⟩ := h
  have hlts : t.lts = s.lts := (State.clocks_of_time htime).1
  have hrec : t.rec_ .port p = s.rec_ .port p := by simp [State.rec_, himg]
  have hother (f : PortSt → PortSt) (p' : Nat) (hne : p' ≠ p) : (t.modPort p f).port p' = s.port p' :=
    (State.port_modPort_ne hne f).trans (hothers p' hne)
  have hmod (f : PortSt → PortSt) : (t.modPort p f).ports[p]? = some (f y) := by simp [modAt_eq_modify, hy]
  unfold State.loadPause State.pauseUntil
  split
  next h0 =>
    refine ⟨_, hmod _, fun q' => ?_, hqueues, hwire, hother _, hctrs, himg, htime⟩
    rw [PortSt.free_pause, hpause]
  next h0 =>
    refine ⟨_, hmod _, fun q' => ?_, ?_, ?_, hother _, hctrs, himg, htime⟩
    · dsimp only
      rw [aget_aput, hlts, hrec]
      by_cases hq : q' = q
      · simp [hq]
      · rw [if_neg (Ne.symm hq), if_neg hq]
        split
        · exact hpause q'
        · rw [PortSt.free_pause, if_neg hq, hpause]
    · dsimp only
      split
      · exact hqueues
      · exact hqueues
    · dsimp only
      split
      · exact hwire
      · exact hwire

/-- Timers loaded one after another: each queue of the list has its time. -/
theorem PauseSet.loadPauses {s : State} {p : Nat} {x : PortSt} (quanta : Nat → Nat) (qs : List Nat) :
    ∀ {t : State} {pause : Nat → Option Ns}, PauseSet s p x pause t →
      PauseSet s p x (fun q => if q ∈ qs then s.pauseUntil p (quanta q) else pause q)
        (forAll qs t (fun u q => u.loadPause p q (quanta q))) := by
  induction qs with
  | nil => intro t pause h; simpa [forAll] using h
  | cons q qs ih =>
    intro t pause h
    have hnext := ih (h.loadPause q (quanta q))
    have hsame : (fun q' => if q' ∈ qs then s.pauseUntil p (quanta q') else if q' = q then s.pauseUntil p (quanta q) else pause q') =
        fun q' => if q' ∈ q :: qs then s.pauseUntil p (quanta q') else pause q' := by
      funext q'
      by_cases hq : q' = q
      · subst hq
        simp
      · simp [hq]
    rw [hsame] at hnext
    exact hnext

/-- Before any timer is loaded. -/
theorem PauseSet.start {s t : State} {p : Nat} {x : PortSt} (hx : s.ports[p]? = some x) (hports : t.ports = s.ports)
    (himg : t.img = s.img) (htime : t.time = s.time) : PauseSet t p x (aget x.pause) t ∧ ∀ n, t.pauseUntil p n = s.pauseUntil p n := by
  refine ⟨⟨x, by rw [hports, hx], fun _ => rfl, rfl, rfl, fun _ _ => rfl, rfl, rfl, rfl⟩, fun n => ?_⟩
  simp [State.pauseUntil, State.rec_, State.lts, himg, htime]

/-- A count, or none, and then the timers: what the port is afterwards. -/
theorem forAll_loadPause_values {s u : State} {p : Nat} {x : PortSt} (hx : s.ports[p]? = some x) (hports : u.ports = s.ports)
    (himg : u.img = s.img) (htime : u.time = s.time) (quanta : Nat → Nat) (qs : List Nat) :
    let t := forAll qs u (fun u q => u.loadPause p q (quanta q))
    (∀ q : Nat, aget (t.port p).pause q = if q ∈ qs then s.pauseUntil p (quanta q) else aget x.pause q) ∧
    (t.port p).queues = x.queues ∧ (t.port p).wire = x.wire ∧ (∀ p' : Nat, p' ≠ p → t.port p' = s.port p') ∧ t.ctrs = u.ctrs := by
  obtain ⟨hstart, huntil⟩ := PauseSet.start hx hports himg htime
  obtain ⟨y, hy, hpause, hqueues, hwire, hothers, hctrs, -, -⟩ := hstart.loadPauses quanta qs
  have hport := State.port_of_getElem? hy
  refine ⟨fun q => ?_, by rw [hport, hqueues], by rw [hport, hwire], fun p' hne => ?_, hctrs⟩
  · rw [hport, hpause]
    dsimp only
    rw [huntil]
  · rw [hothers p' hne, State.port_congr hports]

/-- The queues that PAUSE holds. -/
theorem State.mem_pauseQueues {s : State} {p q : Nat} (hp : p ≠ 4) (hq : q < 8) :
    q ∈ s.pauseQueues p ↔ (p < 4 ∧ (q ≠ 7 ∨ portQ7Pausable (s.rec_ .port p) = 1)) ∨ (4 < p ∧ q = 0) := by
  unfold State.pauseQueues State.pausable
  split
  next hlt => simp [hlt, hq, show ¬ 4 < p by omega]
  next hge => simp [hge, show 4 < p by omega]

/-- The queues that a PFC frame names and that may pause. -/
theorem State.mem_pfcQueues {s : State} {p q : Nat} {v : BitVec 8} (hq : q < 8) :
    q ∈ (bitsOf 8 v.toNat).filter (s.pausable p) ↔ v.getLsbD q ∧ (q ≠ 7 ∨ portQ7Pausable (s.rec_ .port p) = 1) := by
  have hbit : bitAt v.toNat q = v.getLsbD q := by
    simp [bitAt, BitVec.getLsbD, Nat.testBit, Nat.shiftRight_eq_div_pow]
  simp [bitsOf, State.pausable, hq, hbit, and_comm]

/-- A command that loads the timers of a list of queues, after counts or none. -/
theorem does_loadPauses {c : Instr} {s u : State} {p : Nat} {x : PortSt} (hx : s.ports[p]? = some x) {quanta : Nat → Nat}
    {qs : List Nat} {named : Nat → Prop} [DecidablePred named] (hu : ChangesOnly [.ctrs] s u)
    (h : exec c s = .next (forAll qs u (fun u q => u.loadPause p q (quanta q)))) (hnamed : ∀ q < 8, q ∈ qs ↔ named q) :
    Does c s [.ctrs, .ports] (fun t =>
      (∀ q : Nat, q < 8 → aget (t.port p).pause q = if named q then s.pauseUntil p (quanta q) else aget x.pause q) ∧
      (t.port p).queues = x.queues ∧ (t.port p).wire = x.wire ∧ (∀ p' : Nat, p' ≠ p → t.port p' = s.port p') ∧
      t.ctrs = u.ctrs) := by
  obtain ⟨hpause, hqueues, hwire, hothers, hctrs⟩ := forAll_loadPause_values hx (hu .ports (by simp)) (hu .img (by simp))
    (hu .time (by simp)) quanta qs
  refine ⟨_, h, ⟨fun q hq => ?_, hqueues, hwire, hothers, hctrs⟩, hu.trans (qs := [.ports]) ?_ (by simp) (by simp)⟩
  · rw [hpause]
    simp only [hnamed q hq]
  · exact forAll_inv (ChangesOnly [.ports] u) _ (fun v q hv => hv.trans (qs := [.ports]) (by simp [changesOnly_iff]) (by simp) (by simp))
      qs u (.refl _ _)

/-- A PAUSE frame on a port that honours it. -/
theorem does_pauseFrame {p : Port} {quanta : Nat} {s : State} {x : PortSt} (hx : s.ports[p.val]? = some x)
    (htakes : s.portTakes p.val = true) (hp : p.val ≠ 4) (hen : portPauseEn (s.rec_ .port p.val) ≠ 0) :
    Does (.pauseFrame p quanta) s [.ctrs, .ports] (fun t =>
      (∀ q : Nat, q < 8 → aget (t.port p.val).pause q =
        if (p.val < 4 ∧ (q ≠ 7 ∨ portQ7Pausable (s.rec_ .port p.val) = 1)) ∨ (4 < p.val ∧ q = 0)
        then s.pauseUntil p.val (quanta % 65536) else aget x.pause q) ∧
      (t.port p.val).queues = x.queues ∧ (t.port p.val).wire = x.wire ∧ (∀ p' : Nat, p' ≠ p.val → t.port p' = s.port p') ∧
      CountsOnce (ck1 .pauseFrames p.val) s t) := by
  have hexec : exec (.pauseFrame p quanta) s = execPauseFrame p quanta s := rfl
  rw [execPauseFrame, if_neg (by simp [htakes, hp]), if_neg hen] at hexec
  refine (does_loadPauses (u := s.bump (ck1 .pauseFrames p.val)) (quanta := fun _ => quanta % 65536) hx
    (by simp [changesOnly_iff]) hexec (fun q hq => State.mem_pauseQueues hp hq)).imp fun t _ hvalues => ?_
  obtain ⟨hpause, hqueues, hwire, hothers, hctrs⟩ := hvalues
  exact ⟨hpause, hqueues, hwire, hothers, (s.bump_countsOnce _).congr rfl hctrs⟩

/-- A PFC frame on a port that honours it. -/
theorem does_pfcFrame {p : Port} {v : BitVec 8} {qs : List Nat} {s : State} {x : PortSt} (hx : s.ports[p.val]? = some x)
    (htakes : s.portTakes p.val = true) (hp : p.val ≠ 4) (hen : portPfcEn (s.rec_ .port p.val) ≠ 0) :
    Does (.pfcFrame p v qs) s [.ctrs, .ports] (fun t =>
      (∀ q : Nat, q < 8 → aget (t.port p.val).pause q =
        if v.getLsbD q ∧ (q ≠ 7 ∨ portQ7Pausable (s.rec_ .port p.val) = 1)
        then s.pauseUntil p.val (qs.getD q 0 % 65536) else aget x.pause q) ∧
      (t.port p.val).queues = x.queues ∧ (t.port p.val).wire = x.wire ∧ ∀ p' : Nat, p' ≠ p.val → t.port p' = s.port p') := by
  have hexec : exec (.pfcFrame p v qs) s = execPfcFrame p v qs s := rfl
  rw [execPfcFrame, if_neg (by simp [htakes, hp]), if_neg hen] at hexec
  refine (does_loadPauses (quanta := fun q => qs.getD q 0 % 65536) hx ?_ hexec (fun q hq => State.mem_pfcQueues hq)).imp
    fun t _ hvalues => ?_
  · repeat' split
    all_goals simp [changesOnly_iff]
  · obtain ⟨hpause, hqueues, hwire, hothers, -⟩ := hvalues
    exact ⟨hpause, hqueues, hwire, hothers⟩

/-- A timer that has run out frees its queue. -/
theorem does_pauseTimerExpiry {p : Port} {q : Queue} {s : State} {x : PortSt} (hx : s.ports[p.val]? = some x) {due : Ns}
    (hdue : aget x.pause q.val = some due) :
    (due ≤ s.lts → Does (.pauseTimerExpiry p q) s [.ports] (fun t => aget (t.port p.val).pause q.val = none ∧
      aget (t.port p.val).heldFrom q.val = none ∧ (t.port p.val).queues = x.queues ∧ ∀ p' : Nat, p' ≠ p.val → t.port p' = s.port p')) ∧
    (s.lts < due → exec (.pauseTimerExpiry p q) s = .next s) := by
  have hexec : exec (.pauseTimerExpiry p q) s = execPauseTimerExpiry p q s := rfl
  rw [execPauseTimerExpiry, State.port_of_getElem? hx, hdue] at hexec
  refine ⟨fun hrun => ⟨_, hexec.trans (congrArg Host.Outcome.next (if_pos hrun)), ?_, by simp [changesOnly_iff]⟩,
    fun hrun => hexec.trans (congrArg Host.Outcome.next (if_neg (Nat.not_le_of_lt hrun)))⟩
  dsimp only
  rw [State.port_modPort_same hx]
  exact ⟨by simp [PortSt.free, aget_adel], by simp [PortSt.free, aget_adel], rfl, fun p' hne => State.port_modPort_ne hne _⟩

/-- Settles O20. -/
theorem flowControlHoldsQueues : Obligations.FlowControlHoldsQueues := by
  intro p quanta s x hx
  have hpause : exec (.pauseFrame p quanta) s = execPauseFrame p quanta s := rfl
  have hpfc (v : BitVec 8) (qs : List Nat) : exec (.pfcFrame p v qs) s = execPfcFrame p v qs s := rfl
  refine ⟨fun htakes hp => ⟨fun hen => does_bump ?_, fun hen => does_pauseFrame hx htakes hp hen, fun v qs hen => does_bump ?_,
    fun v qs hen => does_pfcFrame hx htakes hp hen⟩, fun h => ⟨?_, fun v qs => ?_⟩, fun q due hdue => does_pauseTimerExpiry hx hdue⟩
  · rw [hpause, execPauseFrame, if_neg (by simp [htakes, hp]), if_pos hen]
  · rw [hpfc, execPfcFrame, if_neg (by simp [htakes, hp]), if_pos hen]
  · rw [hpause, execPauseFrame, if_pos (by obtain h | h := h <;> simp [h])]
  · rw [hpfc, execPfcFrame, if_pos (by obtain h | h := h <;> simp [h])]

end Sys2Proof.Machine

/-! Lemmas on frames that the device places, and the proof of the statement on stalls, MAC control and ARP (O21). -/

namespace Sys2Proof.Machine

/-! What placing frames leaves (R96): each port but for its queues and what waits for room, and every counter but those of frames
that are too long and of queues that are full. -/

/-- From `s` to `t` frames were placed, or none. -/
def FramesPlaced (s t : State) : Prop :=
  (∀ p : Nat, ∃ qs ws, t.port p = { s.port p with queues := qs, waiting := ws }) ∧
  ∀ k : CtrKey, k.c ≠ .oversizeTx → k.c ≠ .queueHolds → t.ctr k = s.ctr k

theorem FramesPlaced.of_same {s t : State} (hports : t.ports = s.ports) (hctrs : t.ctrs = s.ctrs) : FramesPlaced s t :=
  ⟨fun p => ⟨(s.port p).queues, (s.port p).waiting, State.port_congr hports p⟩, fun k _ _ => State.ctr_congr hctrs k⟩

theorem FramesPlaced.refl (s : State) : FramesPlaced s s := .of_same rfl rfl

theorem FramesPlaced.trans {s t u : State} (hst : FramesPlaced s t) (htu : FramesPlaced t u) : FramesPlaced s u := by
  obtain ⟨hports, hctrs⟩ := hst
  obtain ⟨hports', hctrs'⟩ := htu
  refine ⟨fun p => ?_, fun k hlong hfull => (hctrs' k hlong hfull).trans (hctrs k hlong hfull)⟩
  obtain ⟨qs, ws, h⟩ := hports p
  obtain ⟨qs', ws', h'⟩ := hports' p
  exact ⟨qs', ws', by rw [h', h]⟩

/-- A state before with the same ports and counters does as well. -/
theorem FramesPlaced.of_before {s s' t : State} (h : FramesPlaced s' t) (hports : s'.ports = s.ports) (hctrs : s'.ctrs = s.ctrs) :
    FramesPlaced s t := (FramesPlaced.of_same hports hctrs).trans h

/-- A changed port of which only the queues and what waits change. -/
theorem FramesPlaced.setPort {s u : State} (h : FramesPlaced s u) {p : Nat} {x : PortSt}
    (hx : s.ports[p]? = some x) (qs : List (List TxFrame)) (ws : List (Nat × TxFrame)) :
    FramesPlaced s { u with ports := setAt s.ports p { x with queues := qs, waiting := ws } } := by
  obtain ⟨-, hctrs⟩ := h
  refine ⟨fun p' => ?_, hctrs⟩
  by_cases hp : p' = p
  · subst hp
    obtain ⟨hlt, hget⟩ := List.getElem?_eq_some_iff.1 hx
    exact ⟨qs, ws, by simp [State.port, setAt_eq_set, hlt, hget]⟩
  · refine ⟨(s.port p').queues, (s.port p').waiting, ?_⟩
    simp [State.port, setAt_eq_set, List.getElem?_set_ne (Ne.symm hp)]

theorem FramesPlaced.bump {s : State} {k : CtrKey} (hk : k.c = .oversizeTx ∨ k.c = .queueHolds) : FramesPlaced s (s.bump k) := by
  refine ⟨fun p => ⟨_, _, rfl⟩, fun k' hlong hfull => ?_⟩
  rw [State.ctr_bump, if_neg]
  rintro rfl
  exact hk.elim hlong hfull

theorem State.place_framesPlaced (s : State) (p q : Nat) (f : TxFrame) : FramesPlaced s (s.place p q f) := by
  unfold State.place
  dsimp only
  split
  · exact .bump (.inl rfl)
  · split
    next => exact .refl s
    next x hx =>
      split
      · exact (FramesPlaced.refl s).setPort hx _ _
      · split
        · exact (FramesPlaced.refl s).setPort hx _ _
        · exact (FramesPlaced.bump (k := ck2 .queueHolds p q) (.inr rfl)).setPort hx _ _

theorem State.woideBuild_framesPlaced (s : State) (seq : Nat) (b : WoideBody) : FramesPlaced s (s.woideBuild seq b) :=
  (State.place_framesPlaced _ _ _ _).of_before rfl rfl

theorem State.woideFlush_framesPlaced (n : Nat) (s : State) : FramesPlaced s (State.woideFlush n s) := by
  induction n generalizing s with
  | zero => exact .refl s
  | succ n ih =>
    unfold State.woideFlush
    split
    · exact .refl s
    · split
      · refine FramesPlaced.trans ?_ (ih _)
        exact (State.woideBuild_framesPlaced _ _ _).of_before rfl rfl
      · exact .refl s

theorem State.mirror_framesPlaced (s : State) (b : WoideBody) : FramesPlaced s (s.mirror b) := by
  unfold State.mirror
  dsimp only
  split
  · exact (State.woideFlush_framesPlaced _ _).of_before rfl rfl
  · exact .refl s

/-- An attention item is mirrored, and changes nothing else of the ports and the counters. -/
theorem State.post_framesPlaced (s : State) (lvl : Nat) (cls : AttClass) (src detail : Nat) :
    FramesPlaced s (s.post lvl cls src detail) :=
  (State.mirror_framesPlaced _ _).of_before rfl rfl

theorem State.postOnce_framesPlaced (s : State) (lvl : Nat) (cls : AttClass) (k : CtrKey) (detail : Nat) :
    FramesPlaced s (s.postOnce lvl cls k detail) := by
  unfold State.postOnce
  split
  · exact .refl s
  · exact (s.post_framesPlaced lvl cls _ detail).trans (.of_same rfl rfl)

/-- A count that is posted counts once among the counters that no frame changes. -/
theorem State.bumpOnce_ctr (s : State) (k : CtrKey) (lvl : Nat) (cls : AttClass) (hlong : k.c ≠ .oversizeTx)
    (hfull : k.c ≠ .queueHolds) : (s.bumpOnce k lvl cls).ctr k = satAdd (s.ctr k) 1 := by
  rw [State.bumpOnce, ((s.bump k).postOnce_framesPlaced lvl cls k 0).2 k hlong hfull, State.ctr_bump, if_pos rfl]

/-! Stalls, MAC control and ARP (R92, Table PRT-3). -/

/-- A stall is counted once for a hold. -/
theorem does_pauseStall {p : Port} {q : Queue} {s : State} {x : PortSt} (hx : s.ports[p.val]? = some x) {since : Ns}
    (hsince : aget x.heldFrom q.val = some since) (hheld : s.held p.val q.val = true) (hlong : since + 100000000 ≤ s.lts) :
    (q.val ∉ x.stalled → Does (.pauseStall p q) s [.ctrs, .attn, .ports, .pair] (fun t =>
      (t.port p.val).stalled = x.stalled ++ [q.val] ∧ t.ctr (ck1 .pauseStalls p.val) = satAdd (s.ctr (ck1 .pauseStalls p.val)) 1)) ∧
    (q.val ∈ x.stalled → exec (.pauseStall p q) s = .next s) := by
  have hexec : exec (.pauseStall p q) s = execPauseStall p q s := rfl
  rw [execPauseStall, State.port_of_getElem? hx, hsince] at hexec
  dsimp only at hexec
  refine ⟨fun hnew => ?_, fun hold => hexec.trans (if_neg (by simp [hold]))⟩
  refine ⟨_, hexec.trans (if_pos (by simp [hheld, hlong, hnew])), ⟨?_, ?_⟩, by simp [changesOnly_iff]⟩
  · obtain ⟨qs, ws, hport⟩ := (State.postOnce_framesPlaced ((s.modPort p.val (fun x => { x with stalled := x.stalled ++ [q.val] })).bump
      (ck1 .pauseStalls p.val)) 3 .unit (ck1 .pauseStalls p.val) 0).1 p.val
    have hsame := State.port_modPort_same hx (fun x => { x with stalled := x.stalled ++ [q.val] })
    rw [State.bumpOnce, hport]
    exact congrArg PortSt.stalled hsame
  · exact State.bumpOnce_ctr _ _ _ _ (by simp [ck1]) (by simp [ck1])

/-- Where a frame is placed is read from the ports and the image. -/
theorem State.place_ports_congr {s t : State} (hports : t.ports = s.ports) (himg : t.img = s.img) (p q : Nat) (f : TxFrame) :
    (t.place p q f).ports = (s.place p q f).ports := by
  have hrec : t.rec_ .port p = s.rec_ .port p := by simp [State.rec_, himg]
  unfold State.place
  simp only [hrec, hports]
  split
  · simpa using hports
  · split
    · exact hports
    · split <;> simp [hports]

/-- An ARP request for the port's own address is answered. -/
theorem does_arpRequest {p : Port} {vid : BitVec 12} {ip sender : BitVec 32} {mac : BitVec 48} {s : State}
    (htakes : s.portTakes p.val = true) (hp : p.val ≠ 4) (hruns : s.works = true ∨ 4 < p.val) (hip : ip.toNat ≠ 0)
    (haddr : portIp (s.rec_ .port p.val) = ip.toNat) (hvid : portVlanId (s.rec_ .port p.val) = vid.toNat) :
    Does (.arpRequest p vid ip sender mac) s [.ctrs, .ports] (fun t =>
      t.ctr (ck1 .arpAnswered p.val) = satAdd (s.ctr (ck1 .arpAnswered p.val)) 1 ∧
      t.ports = (s.place p.val (if p.val < 4 then s.cmdQueue else 0)
        (serviceFrame (portVlanId (s.rec_ .port p.val)) 28 mac sender 0 (.arp sender mac))).ports) := by
  have hexec : exec (.arpRequest p vid ip sender mac) s = execArpRequest p vid ip sender mac s := rfl
  have hcond : (s.portTakes p.val && p.val != 4 && (s.works || decide (5 ≤ p.val)) && portIp (s.rec_ .port p.val) != 0 &&
      portIp (s.rec_ .port p.val) == ip.toNat && portVlanId (s.rec_ .port p.val) == vid.toNat) = true := by
    have hlate : (s.works || decide (5 ≤ p.val)) = true := by
      obtain h | h := hruns
      · simp [h]
      · simp [show 5 ≤ p.val from h]
    simp [htakes, hp, hlate, haddr, hip, hvid]
  rw [execArpRequest] at hexec
  refine ⟨_, hexec.trans (if_pos hcond), ⟨?_, ?_⟩, by simp [changesOnly_iff]⟩
  · rw [(State.place_framesPlaced _ _ _ _).2 _ (by simp [ck1]) (by simp [ck1]), State.ctr_bump, if_pos rfl]
  · exact State.place_ports_congr (by simp) (by simp) _ _ _

/-- Settles O21. -/
theorem stallsMacControlAndArp : Obligations.StallsMacControlAndArp := by
  intro p s x hx
  refine ⟨fun q since hsince hheld hlong => does_pauseStall hx hsince hheld hlong, fun op htakes hp hpause hpfc => does_bump ?_,
    fun vid ip sender mac htakes hp hruns hip => ⟨does_arpRequest htakes hp hruns hip, fun hother => ?_⟩⟩
  · have hexec : exec (.macControlOther p op) s = execMacControlOther p op s := rfl
    rw [hexec, execMacControlOther, if_pos (by simp [htakes, hp, hpause, hpfc])]
  · have hexec : exec (.arpRequest p vid ip sender mac) s = execArpRequest p vid ip sender mac s := rfl
    rw [hexec, execArpRequest]
    exact if_neg (by obtain h | h := hother <;> simp [h])

end Sys2Proof.Machine

/-! Lemmas and proofs of the statements on transmission and the launch strobe (O22, O23). -/

namespace Sys2Proof.Machine

/-! Late frames (R370). -/

/-- Nothing is dropped where nothing is late. -/
theorem State.dropLate_of_none {s : State} {p q : Nat} (hqueue : ((s.port p).queues.getD q []).filter (s.late q) = [])
    (hwaiting : (s.port p).waiting.filter (fun w => w.1 == q && s.late q w.2) = []) : s.dropLate p q = s := by
  unfold State.dropLate
  dsimp only
  rw [hqueue, hwaiting]
  rfl

/-- A line port without late frames stays as it is. -/
theorem State.dropLates_of_none {s : State} {p : Nat} (h : ∀ q : Nat, q < 7 → ((s.port p).queues.getD q []).filter (s.late q) = [] ∧
      (s.port p).waiting.filter (fun w => w.1 == q && s.late q w.2) = []) :
    forAll (List.range 7) s (fun s q => s.dropLate p q) = s := by
  have hkeep (qs : List Nat) (hqs : ∀ q ∈ qs, q < 7) : forAll qs s (fun s q => s.dropLate p q) = s := by
    induction qs with
    | nil => rfl
    | cons q qs ih =>
      obtain ⟨hqueue, hwaiting⟩ := h q (hqs q List.mem_cons_self)
      have hstep : forAll (q :: qs) s (fun s q => s.dropLate p q) = forAll qs (s.dropLate p q) (fun s q => s.dropLate p q) := rfl
      rw [hstep, State.dropLate_of_none hqueue hwaiting]
      exact ih (fun q' hq' => hqs q' (List.mem_cons_of_mem q hq'))
  exact hkeep _ (fun q hq => List.mem_range.1 hq)

/-! Starting a frame (R95, R97, R106). -/

/-- A frame placed on a port leaves the others. -/
theorem State.place_port_ne {s : State} {p p' : Nat} (h : p' ≠ p) (q : Nat) (f : TxFrame) :
    (s.place p q f).port p' = s.port p' := by
  have hset (y : PortSt) : (setAt s.ports p y).getD p' PortSt.reset = s.ports.getD p' PortSt.reset := by
    simp [setAt_eq_set, List.getElem?_set_ne (Ne.symm h)]
  unfold State.place
  dsimp only
  split
  · exact State.port_congr (by simp) p'
  · split
    · rfl
    · split
      · exact hset _
      · split
        · exact hset _
        · exact hset _

/-- A frame of a port service, where one is sent. -/
theorem State.serve_values (s : State) (p q : Nat) (f : TxFrame) :
    FramesPlaced s (s.serve p q f) ∧ ∀ p' : Nat, p' ≠ p → (s.serve p q f).port p' = s.port p' := by
  unfold State.serve
  extract_lets ptp
  split
  · exact ⟨s.place_framesPlaced _ _ _, fun p' hne => State.place_port_ne hne _ _⟩
  · exact ⟨.refl s, fun _ _ => rfl⟩

/-- A frame of Hearth's own, where one is sent. -/
theorem State.ptpSend_values (s : State) (i p kind seq : Nat) (stamp : Ns) :
    FramesPlaced s (s.ptpSend i p kind seq stamp) ∧
    ∀ p' : Nat, p' ≠ p → (s.ptpSend i p kind seq stamp).port p' = s.port p' := by
  exact s.serve_values p _ _

/-- The departure of a frame moves neither clock, and may place a frame on its own port. -/
theorem State.ptpDeparts_values (s : State) (p : Nat) (b : TxBody) (stamp : Ns) :
    SameClocks s (s.ptpDeparts p b stamp) ∧ FramesPlaced s (s.ptpDeparts p b stamp) ∧
    ∀ p' : Nat, p' ≠ p → (s.ptpDeparts p b stamp).port p' = s.port p' := by
  have hsame : SameClocks s s ∧ FramesPlaced s s ∧ ∀ p' : Nat, p' ≠ p → s.port p' = s.port p' :=
    ⟨⟨rfl, rfl, rfl⟩, .refl s, fun _ _ => rfl⟩
  unfold State.ptpDeparts
  split
  next =>
    split
    next i _ =>
      split
      · exact ⟨s.modPtp_sameClocks i _, .of_same rfl rfl, fun _ _ => rfl⟩
      · split
        · obtain ⟨hplaced, hothers⟩ := s.ptpSend_values i p 10 _ stamp
          exact ⟨.of_time (by simp), hplaced, hothers⟩
        · exact hsame
    next => exact hsame
  next => exact hsame

/-- The frame that starts goes onto the wire, with its queue as the PCP of its tag. -/
theorem State.startFrame_values {s : State} {p : Nat} {x : PortSt} (hx : s.ports[p]? = some x) (q : Nat) (f : TxFrame) :
    ((s.startFrame p q f).port p).wire = some (q, { f with pcp := if f.vid = 0 then 0 else q }) ∧
    ((s.startFrame p q f).port p).wireFrom = s.lts ∧ ((s.startFrame p q f).port p).wireAt = s.departure p ∧
    SameClocks s (s.startFrame p q f) ∧ ∀ p' : Nat, p' ≠ p → (s.startFrame p q f).port p' = s.port p' := by
  unfold State.startFrame
  extract_lets d s1 s2
  have h1 : s1.ports = s.ports ∧ s1.time = s.time := by
    unfold s1
    split <;> simp
  obtain ⟨hports, htime⟩ := h1
  have hsame : s2.port p = _ := State.port_modPort_same (hports ▸ hx) _
  have hothers : ∀ p' : Nat, p' ≠ p → s2.port p' = s.port p' :=
    fun p' hne => (State.port_modPort_ne hne _).trans (State.port_congr hports p')
  have hlts : s1.lts = s.lts := (State.clocks_of_time htime).1
  have hclocks : SameClocks s s2 := .of_time htime
  obtain ⟨hdeparts, hplaced, hothers'⟩ := s2.ptpDeparts_values p f.body d
  obtain ⟨qs, ws, hport⟩ := hplaced.1 p
  refine ⟨?_, ?_, ?_, hclocks.trans hdeparts, fun p' hne => (hothers' p' hne).trans (hothers p' hne)⟩ <;>
    rw [hport, hsame]
  exact hlts

/-- A port that may start a frame, and has one to start. -/
theorem does_transmitStart {p : Port} {s : State} {x : PortSt} (hx : s.ports[p.val]? = some x) {q : Nat} {f : TxFrame}
    (hlate : p.val < 4 → ∀ q' : Nat, q' < 7 → (x.queues.getD q' []).filter (s.late q') = [] ∧
      x.waiting.filter (fun w => w.1 == q' && s.late q' w.2) = [])
    (hon : x.on = true) (hwire : x.wire = none) (hidle : x.idleAt ≤ s.lts) (hlink : x.link = true)
    (hnext : s.nextQueue p.val = some (q, f)) :
    Does (.transmitStart p) s [.ctrs, .ports, .time] (fun t =>
      (t.port p.val).wire = some (q, { f with pcp := if f.vid = 0 then 0 else q }) ∧ (t.port p.val).wireFrom = s.lts ∧
      (t.port p.val).wireAt = s.departure p.val ∧ t.dt = s.dt ∧ t.lts = s.lts ∧ ∀ p' : Nat, p' ≠ p.val → t.port p' = s.port p') := by
  have hexec : exec (.transmitStart p) s = execTransmitStart p s := rfl
  have hport := State.port_of_getElem? hx
  have hdrop : (if p.val < 4 then forAll (List.range 7) s (fun s q => s.dropLate p.val q) else s) = s := by
    split
    next hp => exact State.dropLates_of_none (by rw [hport]; exact hlate hp)
    next => rfl
  have hbusy : (!x.on || x.wire.isSome || decide (s.lts < x.idleAt)) = false := by simp [hon, hwire, hidle]
  rw [execTransmitStart] at hexec
  dsimp only at hexec
  rw [hport, hbusy, hlink, hdrop, hnext] at hexec
  obtain ⟨hw, hfrom, hat, hclocks, hothers⟩ := State.startFrame_values hx q f
  exact ⟨_, hexec, ⟨hw, hfrom, hat, hclocks.dt_lts.1, hclocks.dt_lts.2, hothers⟩, by simp [changesOnly_iff]⟩

/-! Frames at a link that is down (R104). -/

/-- A queue whose head leaves is shorter by one. -/
theorem sum_length_modAt_tail {α : Type} {qs : List (List α)} {q : Nat} (h : qs.getD q [] ≠ []) :
    ((modAt qs q List.tail).map List.length).sum + 1 = (qs.map List.length).sum := by
  induction qs generalizing q with
  | nil => simp at h
  | cons l qs ih =>
    cases q with
    | zero =>
      have hl : l ≠ [] := by simpa using h
      obtain ⟨a, l, rfl⟩ := List.exists_cons_of_ne_nil hl
      simp [modAt]
      omega
    | succ q =>
      have hq := ih (q := q) (by simpa using h)
      simp only [modAt, List.map_cons, List.sum_cons]
      omega

/-- The head of the highest queue that is not empty is counted as undelivered. -/
theorem State.dropHead_values {s : State} {p : Nat} {x : PortSt} (hx : s.ports[p]? = some x) (hsome : ∃ l ∈ x.queues, l ≠ [])
    (hlen : x.queues.length = 8) :
    CountsOnce (ck1 .undelivered p) s (s.dropHead p) ∧ ((s.dropHead p).port p).wire = x.wire ∧
    (((s.dropHead p).port p).queues.map List.length).sum + 1 = (x.queues.map List.length).sum := by
  have hport := State.port_of_getElem? hx
  unfold State.dropHead
  rw [hport]
  split
  next q hq =>
    have hne : x.queues.getD q [] ≠ [] := by simpa using List.find?_some hq
    have hsame : ((s.bump (ck1 .undelivered p)).modPort p (fun x => x.pop q)).port p = x.pop q :=
      State.port_modPort_same (by simpa using hx) _
    exact ⟨(s.bump_countsOnce _).congr rfl rfl, by rw [hsame]; rfl, by rw [hsame]; exact sum_length_modAt_tail hne⟩
  next hnone =>
    obtain ⟨l, hl, hne⟩ := hsome
    obtain ⟨q, hq, rfl⟩ := List.getElem_of_mem hl
    have hempty := List.find?_eq_none.1 hnone q (by simp; omega)
    simp [hq] at hempty
    exact absurd hempty hne

/-- The end of a transmission (R106). -/
theorem does_transmitEnd {p : Port} {s : State} {x : PortSt} (hx : s.ports[p.val]? = some x) {q : Nat} {f : TxFrame}
    (hwire : x.wire = some (q, f)) :
    (f.len * s.bytePs p.val ≤ (s.lts - x.wireFrom) * 1000 → Does (.transmitEnd p) s [.ctrs, .ports] (fun t =>
      (t.port p.val).wire = none ∧ s.lts ≤ (t.port p.val).idleAt ∧ (t.port p.val).queues = x.queues ∧
      (p.val < 4 → CountsOnce (ck2 .framesTransmitted p.val q) s t) ∧ (4 ≤ p.val → t.ctrs = s.ctrs) ∧
      ∀ p' : Nat, p' ≠ p.val → t.port p' = s.port p')) ∧
    ((s.lts - x.wireFrom) * 1000 < f.len * s.bytePs p.val → exec (.transmitEnd p) s = .next s) := by
  have hexec : exec (.transmitEnd p) s = execTransmitEnd p s := rfl
  rw [execTransmitEnd, State.port_of_getElem? hx] at hexec
  dsimp only at hexec
  rw [hwire] at hexec
  refine ⟨fun hdone => ?_, fun hearly => hexec.trans (if_pos hearly)⟩
  have hexec' := hexec.trans (if_neg (Nat.not_lt_of_le hdone))
  generalize hu : (if p.val < 4 then s.bump (ck2 .framesTransmitted p.val q) else s) = u at hexec'
  have hframe : ChangesOnly [.ctrs] s u := by
    rw [← hu]
    split <;> simp [changesOnly_iff]
  have hports : u.ports = s.ports := hframe .ports (by simp)
  have hlts : u.lts = s.lts := (State.clocks_of_time (hframe .time (by simp))).1
  refine ⟨_, hexec', ⟨?_, ?_, ?_, fun hp => ?_, fun hp => ?_, fun p' hne => ?_⟩, hframe.trans (qs := [.ports]) (by simp [changesOnly_iff]) (by simp) (by simp)⟩
  · rw [State.port_modPort_same (hports ▸ hx)]
  · rw [State.port_modPort_same (hports ▸ hx)]
    exact hlts ▸ Nat.le_add_right _ _
  · rw [State.port_modPort_same (hports ▸ hx)]
  · rw [if_pos hp] at hu
    subst hu
    exact (s.bump_countsOnce _).congr rfl rfl
  · rw [if_neg (Nat.not_lt_of_le hp)] at hu
    subst hu
    rfl
  · exact (State.port_modPort_ne hne _).trans (State.port_congr hports p')

/-- The first frame held for a queue (R96). -/
theorem exec_queueRoomAvailable {p : Port} {q : Queue} {s : State} {x : PortSt} (hx : s.ports[p.val]? = some x) {f : TxFrame}
    {before rest : List (Nat × TxFrame)} (hwaiting : x.waiting = before ++ (q.val, f) :: rest)
    (hfirst : ∀ w ∈ before, w.1 ≠ q.val) :
    exec (.queueRoomAvailable p q) s = .next (if queueUsed (x.queues.getD q.val []) + f.len ≤ queueRoom (s.rec_ .port p.val) p.val q.val
      then s.modPort p.val (fun y => { y with
        queues := setAt y.queues q.val (x.queues.getD q.val [] ++ [f]), waiting := y.waiting.eraseIdx before.length })
      else s) := by
  have hexec : exec (.queueRoomAvailable p q) s = execQueueRoomAvailable p q s := rfl
  have hfind : x.waiting.findIdx? (fun w => w.1 == q.val) = some before.length := by
    rw [hwaiting, List.findIdx?_append, List.findIdx?_eq_none_iff.2 (by simpa using hfirst)]
    simp [List.findIdx?_cons]
  have hget : x.waiting[before.length]? = some (q.val, f) := by simp [hwaiting]
  rw [execQueueRoomAvailable, State.port_of_getElem? hx] at hexec
  dsimp only at hexec
  rw [hfind] at hexec
  dsimp only at hexec
  rw [hget] at hexec
  rw [hexec]
  dsimp only
  split <;> rfl

/-- Settles O22. -/
theorem transmissionOfFrames : Obligations.TransmissionOfFrames := by
  intro p s x hx
  refine ⟨fun q f hlate hon hwire hidle hlink hnext => does_transmitStart hx hlate hon hwire hidle hlink hnext,
    fun hon hwire hidle hlink hsome hlen => ?down, fun q f hwire => does_transmitEnd hx hwire, fun hwire => ?idle,
    fun q f before rest hwaiting hfirst hq => ⟨fun hroom => ?room, fun hfull => ?full⟩⟩
  case down =>
    have hexec : exec (.transmitStart p) s = execTransmitStart p s := rfl
    have hbusy : (!x.on || x.wire.isSome || decide (s.lts < x.idleAt)) = false := by simp [hon, hwire, hidle]
    rw [execTransmitStart] at hexec
    dsimp only at hexec
    rw [State.port_of_getElem? hx, hbusy, hlink] at hexec
    obtain ⟨hcount, hw, hsum⟩ := State.dropHead_values hx hsome hlen
    exact ⟨_, hexec, ⟨hcount, hw.trans hwire, hsum⟩, by simp [changesOnly_iff]⟩
  case idle =>
    have hexec : exec (.transmitEnd p) s = execTransmitEnd p s := rfl
    rw [hexec, execTransmitEnd, State.port_of_getElem? hx]
    dsimp only
    rw [hwire]
  case room =>
    refine ⟨_, (exec_queueRoomAvailable hx hwaiting hfirst).trans (congrArg Host.Outcome.next (if_pos hroom)), ⟨?_, ?_, ?_⟩,
      by simp [changesOnly_iff]⟩
    · rw [State.port_modPort_same hx]
      dsimp only
      rw [hwaiting, List.eraseIdx_append_of_length_le (Nat.le_refl _)]
      simp
    · rw [State.port_modPort_same hx]
      simp [setAt_eq_set, hq]
    · exact fun p' hne => State.port_modPort_ne hne _
  case full =>
    exact (exec_queueRoomAvailable hx hwaiting hfirst).trans (congrArg Host.Outcome.next (if_neg (Nat.not_le_of_lt hfull)))

/-! The launch strobe and late frames (R158, R370). -/

/-- A queue's head is launchable by the port's queues and DT alone. -/
theorem State.launchable_congr {s t : State} {p : Nat} (hport : t.port p = s.port p) (himg : t.img = s.img)
    (htime : t.time = s.time) : t.launchable p = s.launchable p := by
  have hdep : t.departure p = s.departure p := by
    simp [State.departure, State.egrAsym, State.dt, State.rec_, himg, htime]
  simp only [State.launchable, hport, hdep]

/-- The strobe at one line port. -/
def State.strobe (s : State) (p : Nat) : State :=
  s.modPort p (fun x => { x with armed := s.launchable p ++ x.armed.filter (fun q => !(s.launchable p).contains q) })

theorem exec_launchStrobe (s : State) : exec .launchStrobe s = .next (forAll (List.range 4) s State.strobe) := rfl

/-- What the strobe has done on the ports of a list. -/
theorem forAll_strobe_port {s : State} {p : Nat} (hp : p < s.ports.length) (ps : List Nat) :
    ((forAll ps s State.strobe).port p).queues = (s.port p).queues ∧ ((forAll ps s State.strobe).port p).wire = (s.port p).wire ∧
    ∀ q : Nat, q ∈ ((forAll ps s State.strobe).port p).armed ↔ (p ∈ ps ∧ q ∈ s.launchable p) ∨ q ∈ (s.port p).armed := by
  induction ps generalizing s with
  | nil => exact ⟨rfl, rfl, fun q => by simp [forAll]⟩
  | cons p0 ps ih =>
    have hstep : forAll (p0 :: ps) s State.strobe = forAll ps (s.strobe p0) State.strobe := rfl
    obtain ⟨hqueues, hwire, harmed⟩ := ih (s := s.strobe p0) (by simpa [State.strobe, modAt_eq_modify] using hp)
    rw [hstep, hqueues, hwire]
    by_cases h0 : p = p0
    · subst h0
      obtain ⟨x, hx⟩ : ∃ x, s.ports[p]? = some x := ⟨_, List.getElem?_eq_getElem hp⟩
      have hsame : (s.strobe p).port p = _ := State.port_modPort_same hx _
      have hlaunch : (s.strobe p).launchable p = s.launchable p := by
        have hdep : (s.strobe p).departure p = s.departure p := rfl
        simp only [State.launchable, hdep, hsame, State.port_of_getElem? hx]
      refine ⟨by rw [hsame, State.port_of_getElem? hx], by rw [hsame, State.port_of_getElem? hx], fun q => ?_⟩
      rw [harmed, hlaunch, hsame, State.port_of_getElem? hx]
      by_cases hq : q ∈ s.launchable p <;> simp [hq]
    · have hport : (s.strobe p0).port p = s.port p := State.port_modPort_ne h0 _
      refine ⟨by rw [hport], by rw [hport], fun q => ?_⟩
      rw [harmed, hport, State.launchable_congr hport rfl rfl]
      simp [h0]

/-- Late frames of a queue are dropped and counted, what waits for room among them. -/
theorem does_lateDrop {p : LinePort} {q : Queue} {s : State} (hp : p.val < s.ports.length)
    (hq : q.val < (s.port p.val).queues.length)
    (hlate : 0 < (((s.port p.val).queues.getD q.val []).filter (s.late q.val)).length) :
    Does (.lateDrop p q) s [.ctrs, .ports] (fun t =>
      (t.port p.val).queues.getD q.val [] = ((s.port p.val).queues.getD q.val []).filter (fun f => !s.late q.val f) ∧
      (∀ w ∈ (t.port p.val).waiting, w.1 = q.val → s.late q.val w.2 = false) ∧
      t.ctr (ck2 .lateDrops p.val q.val) = satAdd (s.ctr (ck2 .lateDrops p.val q.val))
        ((((s.port p.val).queues.getD q.val []).filter (s.late q.val)).length +
          ((s.port p.val).waiting.filter (fun w => w.1 == q.val && s.late q.val w.2)).length)) := by
  obtain ⟨x, hx⟩ : ∃ x, s.ports[p.val]? = some x := ⟨_, List.getElem?_eq_getElem hp⟩
  have hport := State.port_of_getElem? hx
  have hexec : exec (.lateDrop p q) s = .next (s.dropLate p.val q.val) := rfl
  rw [hport] at hq hlate ⊢
  unfold State.dropLate at hexec
  dsimp only at hexec
  rw [hport, if_neg (by omega)] at hexec
  refine ⟨_, hexec, ⟨?_, ?_, ?_⟩, by simp [changesOnly_iff]⟩
  · rw [State.port_modPort_same (by simpa using hx)]
    simp [setAt_eq_set, hq]
  · rw [State.port_modPort_same (by simpa using hx)]
    intro w hw hwq
    obtain ⟨-, hkept⟩ := List.mem_filter.1 hw
    simpa [hwq] using hkept
  · exact (State.ctr_bumpBy s _ _ _).trans (if_pos rfl)

/-- Settles O23. -/
theorem launchStrobeAndLateFrames : Obligations.LaunchStrobeAndLateFrames := by
  intro s
  refine ⟨⟨_, exec_launchStrobe s, fun p hp => ?_, ?_⟩, fun p q hp hq => ⟨does_lateDrop hp hq, fun hnone hempty => ?_⟩⟩
  · simpa using forAll_strobe_port hp (List.range 4)
  · exact forAll_inv (ChangesOnly [.ports] s) _ (fun t p ht => ht.trans (qs := [.ports]) (by simp [changesOnly_iff, State.strobe]) (by simp) (by simp))
      _ s (.refl _ _)
  · have hexec : exec (.lateDrop p q) s = .next (s.dropLate p.val q.val) := rfl
    rw [hexec, State.dropLate_of_none hnone (by simp [hempty])]

end Sys2Proof.Machine

/-! Lemmas and proofs of the statements on the test access port, the black box and the sensors (O57, O58, O60). -/

namespace Sys2Proof.Machine

/-! The test access port (R498, R499). -/

/-- Outside UNCONFIGURED an instruction code selects none of the instructions that drive balls. -/
theorem tapInstr_of_ne_unconfigured (code : BitVec 8) {m : Mode} (hmode : m ≠ .unconfigured) :
    tapInstr code m = .idcode ∨ tapInstr code m = .samplePreload ∨ tapInstr code m = .bypass := by
  unfold tapInstr
  have hfree : (m == Mode.unconfigured) = false := by simpa using hmode
  dsimp only
  rw [hfree]
  split <;> simp

theorem State.ballDrive_of_ne_unconfigured {s : State} (hmode : s.boot.mode ≠ .unconfigured) : s.ballDrive = .device := by
  unfold State.ballDrive State.tapNow
  obtain h | h | h := tapInstr_of_ne_unconfigured s.tap.ir hmode <;> rw [h]

/-- Settles O60. -/
theorem testAccessPort : Obligations.TestAccessPort := by
  intro s
  refine ⟨fun code => ⟨_, rfl, ⟨rfl, fun hmode => State.ballDrive_of_ne_unconfigured hmode⟩, by simp [changesOnly_iff]⟩,
    fun data => ⟨fun hload => ?_, fun hextest hsample => ?_⟩, ⟨_, rfl, ⟨rfl, rfl, rfl, rfl⟩, by simp [changesOnly_iff]⟩⟩
  · have hexec : exec (.tapDataUpdate data) s = execTapDataUpdate data s := rfl
    rw [execTapDataUpdate, if_pos hload] at hexec
    refine ⟨_, hexec, ⟨rfl, fun hextest => ?_⟩, by simp [changesOnly_iff]⟩
    have hnow : State.tapNow { s with tap := { s.tap with cells := data } } = .extest := hextest
    rw [State.ballDrive, hnow]
  · have hexec : exec (.tapDataUpdate data) s = execTapDataUpdate data s := rfl
    rw [hexec, execTapDataUpdate, if_neg (not_or.2 ⟨hextest, hsample⟩)]

/-! The black box (R457 to R462). -/

/-- The newest of two records: the one with the higher SEQ, the first on a tie. -/
def newerRecord (m : Option (Nat × BbxRec)) (e : Nat × BbxRec) : Option (Nat × BbxRec) :=
  match m with
  | none => some e
  | some b => if b.2.seq < e.2.seq then some e else m

/-- The fold over records keeps the start or a record of the list, with the highest SEQ of all. -/
theorem foldl_newerRecord (l : List (Nat × BbxRec)) (b : Nat × BbxRec) :
    ∃ e, (e = b ∨ e ∈ l) ∧ l.foldl newerRecord (some b) = some e ∧ b.2.seq ≤ e.2.seq ∧ ∀ x ∈ l, x.2.seq ≤ e.2.seq := by
  induction l generalizing b with
  | nil => exact ⟨b, .inl rfl, rfl, le_rfl, by simp⟩
  | cons y ys ih =>
    by_cases hnewer : b.2.seq < y.2.seq
    · obtain ⟨e, hmem, hfold, hfirst, hall⟩ := ih y
      refine ⟨e, .inr (by simpa using hmem), by simpa [newerRecord, hnewer] using hfold, by omega, ?_⟩
      simpa using ⟨hfirst, fun n r hr => hall (n, r) hr⟩
    · obtain ⟨e, hmem, hfold, hfirst, hall⟩ := ih b
      refine ⟨e, hmem.imp_right (List.mem_cons_of_mem _), by simpa [newerRecord, hnewer] using hfold, hfirst, ?_⟩
      simpa using ⟨by omega, fun n r hr => hall (n, r) hr⟩

/-- The slot that the scan finds as the newest. -/
def newestSlot (l : List (Nat × BbxRec)) : Option Nat := (l.foldl newerRecord none).map (·.1)

theorem newestSlot_of_ne_nil {l : List (Nat × BbxRec)} (h : l ≠ []) :
    ∃ e ∈ l, newestSlot l = some e.1 ∧ ∀ x ∈ l, x.2.seq ≤ e.2.seq := by
  cases l with
  | nil => exact absurd rfl h
  | cons y ys =>
    obtain ⟨e, hmem, hfold, hfirst, hall⟩ := foldl_newerRecord ys y
    refine ⟨e, by simpa using hmem, ?_, by simpa using ⟨hfirst, fun n r hr => hall (n, r) hr⟩⟩
    rw [newestSlot, List.foldl_cons]
    exact congrArg (Option.map (·.1)) hfold

/-- The state of a completed scan, before its SCAN record is queued. -/
def State.afterScan (s : State) : State := { s with bbx := { s.bbx with scanned := true, newest := newestSlot s.bbx.mram } }

theorem exec_blackBoxScan {s : State} (hisland : s.boot.island = true) (hscanned : s.bbx.scanned = false) :
    exec .blackBoxScan s = .next (s.afterScan.bbxPost 0x00F1 (natBe 2 s.bbx.mram.length ++
      natBe 2 (8192 - s.bbx.mram.length) ++ natBe 1 s.afterScan.bbxProtectedCount)) := by
  have hexec : exec .blackBoxScan s = execBlackBoxScan s := rfl
  have hnewest : newestSlot s.bbx.mram =
      (match s.bbx.mram.foldl newerRecord none with | some e => some e.1 | none => none) := by
    unfold newestSlot
    cases s.bbx.mram.foldl newerRecord none <;> rfl
  rw [hexec, execBlackBoxScan, if_pos (by simp [hisland, hscanned]), State.afterScan, hnewest]
  rfl

/-- A queue with room takes the record at its end. -/
theorem State.bbxQueue_of_room {s : State} (r : BbxRec) (h : s.bbx.queue.length < 16) :
    s.bbxQueue r = { s with bbx := { s.bbx with queue := s.bbx.queue ++ [r] } } := by
  rw [State.bbxQueue, if_pos h]

theorem State.bbxFree_lt (s : State) (fuel n : Nat) : s.bbxFree fuel n < 8192 := by
  induction fuel generalizing n with
  | zero => exact Nat.mod_lt _ (by decide)
  | succ fuel ih =>
    rw [State.bbxFree]
    split
    · exact ih (n + 1)
    · exact Nat.mod_lt _ (by decide)

/-- Settles O57. -/
theorem blackBoxScanAndWrite : Obligations.BlackBoxScanAndWrite := by
  intro s
  refine ⟨fun hisland hscanned hroom => ?_, fun h => ?_, fun r rest hisland hscanned hqueue => ?_, fun h => ?_⟩
  · refine ⟨_, exec_blackBoxScan hisland hscanned, ?_, ?_⟩ <;> rw [State.bbxPost, State.bbxQueue_of_room (s := s.afterScan) _ hroom]
    · refine ⟨rfl, rfl, ⟨_, rfl, rfl⟩, fun hempty => ?_, newestSlot_of_ne_nil⟩
      change newestSlot s.bbx.mram = none
      rw [hempty]
      rfl
    · simp [changesOnly_iff, State.afterScan]
  · have hexec : exec .blackBoxScan s = execBlackBoxScan s := rfl
    rw [hexec, execBlackBoxScan, if_neg (by simpa [or_iff_not_imp_left] using h)]
  · have hexec : exec .blackBoxWrite s = execBlackBoxWrite s := rfl
    rw [execBlackBoxWrite, if_pos (by simp [hisland, hscanned]), State.bbxWriteHead] at hexec
    split at hexec
    next hnil => rw [hnil] at hqueue; cases hqueue
    next r' rest' hcons =>
      obtain ⟨rfl, rfl⟩ := List.cons.inj (hcons.symm.trans hqueue)
      refine ⟨_, hexec, ⟨rfl, ⟨_, s.bbxFree_lt _ _, rfl, ?_, fun n' hn' => ?_⟩, ?_⟩, by simp [changesOnly_iff]⟩
      · simp [aget_aput]
      · simp [aget_aput, Ne.symm hn']
      · exact (State.bump_countsOnce _ _).congr rfl rfl
  · have hexec : exec .blackBoxWrite s = execBlackBoxWrite s := rfl
    rw [hexec, execBlackBoxWrite]
    split
    · rw [State.bbxWriteHead]
      split
      · rfl
      · simp_all
    · rfl

/-! Sensors (R463 to R466). -/

/-- A record that is queued changes no condition but that of the record loss (bit 8). -/
theorem State.bbxDrop_cond (s : State) {m : Nat} (hm : m ≠ 8) : s.bbxDrop.sens.cond.getLsbD m = s.sens.cond.getLsbD m := by
  unfold State.bbxDrop
  dsimp only
  split
  · rfl
  · have h : (0x100#32).getLsbD m = false := by
      rw [show (0x100#32) = 1#32 <<< 8 from rfl, BitVec.getLsbD_shiftLeft]
      simp; omega
    simp [h]

theorem State.bbxQueue_cond (s : State) (r : BbxRec) {m : Nat} (hm : m ≠ 8) :
    (s.bbxQueue r).sens.cond.getLsbD m = s.sens.cond.getLsbD m := by
  unfold State.bbxQueue
  dsimp only
  repeat' split
  all_goals simp [State.bbxDrop_cond _ hm]

theorem latchBit_getLsbD {n m : Nat} (hm : m < 32) : (latchBit n).getLsbD m = decide (m = n) := by
  rw [latchBit, BitVec.getLsbD_shiftLeft, BitVec.getLsbD_one, Bool.eq_iff_iff]
  simp [hm]
  omega

/-- What is queued leaves the note of the last gasp. -/
theorem State.bbxQueue_gasp (s : State) (r : BbxRec) : (s.bbxQueue r).bbx.gasp = s.bbx.gasp := by
  have hdrop (u : State) : u.bbxDrop.bbx.gasp = u.bbx.gasp := by
    unfold State.bbxDrop
    dsimp only
    split <;> simp
  unfold State.bbxQueue
  dsimp only
  repeat' split
  all_goals simp [hdrop]

/-- The state of a latch whose condition has just become true: condition and seen bit set, the crossing counted. -/
def State.latchSet (s : State) (n : Nat) : State :=
  ({ s with sens := { s.sens with cond := s.sens.cond ||| latchBit n, seen := s.sens.seen ||| latchBit n,
                                  seenNow := s.sens.seenNow ||| latchBit n } }).bump (ck1 .crossings n)

/-- A crossing sets the latch and queues one record, behind its attention item at most. -/
theorem State.crossLatch_of_released {s : State} {n : Nat} (hn : 6 ≤ n) (hreleased : s.sens.cond.getLsbD n = false)
    (value limit : Word) :
    ∃ (u : State) (r : BbxRec), s.crossLatch n value limit = u.bbxQueue r ∧ FramesPlaced (s.latchSet n) u ∧
      u.bbx = s.bbx ∧ u.sens = (s.latchSet n).sens := by
  rw [State.crossLatch, if_neg (by simp [hreleased]; omega)]
  dsimp only
  rw [← State.latchSet]
  split
  · exact ⟨_, _, rfl, .refl _, rfl, rfl⟩
  · exact ⟨_, _, rfl, State.postOnce_framesPlaced _ _ _ _ _, by simp [State.latchSet], by simp⟩

theorem State.crossLatch_of_set {s : State} {n : Nat} (hset : s.sens.cond.getLsbD n = true) (value limit : Word) :
    s.crossLatch n value limit = s := by
  rw [State.crossLatch, if_pos (.inr hset)]

/-- After a crossing the latch's condition holds; no other condition changes but that of the record loss. -/
theorem State.crossLatch_cond (s : State) {n m : Nat} (hn : 6 ≤ n) (hm : m < 32) (hloss : m ≠ 8) (value limit : Word) :
    (s.crossLatch n value limit).sens.cond.getLsbD m = (s.sens.cond.getLsbD m || decide (m = n)) := by
  by_cases hset : s.sens.cond.getLsbD n = true
  · rw [State.crossLatch_of_set hset]
    by_cases hmn : m = n
    · simp [hmn, hset]
    · simp [hmn]
  · obtain ⟨u, r, hcross, -, -, hsens⟩ := State.crossLatch_of_released hn (by simpa using hset) value limit
    rw [hcross, State.bbxQueue_cond _ _ hloss, hsens]
    simp [State.latchSet, latchBit_getLsbD hm]

theorem State.crossLatch_gasp (s : State) (n : Nat) (value limit : Word) :
    (s.crossLatch n value limit).bbx.gasp = s.bbx.gasp := by
  by_cases hkeeps : n < 6 ∨ s.sens.cond.getLsbD n
  · rw [State.crossLatch, if_pos hkeeps]
  · obtain ⟨hn, hreleased⟩ := not_or.1 hkeeps
    obtain ⟨u, r, hcross, -, hbbx, -⟩ :=
      State.crossLatch_of_released (Nat.le_of_not_lt hn) (by simpa using hreleased) value limit
    rw [hcross, State.bbxQueue_gasp, hbbx]

/-- With room in the queue a crossing changes the latch's own bits and counter, and nothing more of what a statement names. -/
theorem State.crossLatch_values {s : State} {n : Nat} (hn : 6 ≤ n) (hreleased : s.sens.cond.getLsbD n = false)
    (hroom : s.bbx.queue.length < 16) (value limit : Word) :
    (s.crossLatch n value limit).sens.cond = s.sens.cond ||| latchBit n ∧
    (s.crossLatch n value limit).sens.seen = s.sens.seen ||| latchBit n ∧
    (s.crossLatch n value limit).ctr (ck1 .crossings n) = satAdd (s.ctr (ck1 .crossings n)) 1 := by
  obtain ⟨u, r, hcross, hframes, hbbx, hsens⟩ := State.crossLatch_of_released hn hreleased value limit
  obtain ⟨-, hctr⟩ := hframes
  rw [hcross, State.bbxQueue_of_room _ (by rw [hbbx]; exact hroom)]
  refine ⟨congrArg SensSt.cond hsens, congrArg SensSt.seen hsens, ?_⟩
  calc u.ctr (ck1 .crossings n) = (s.latchSet n).ctr (ck1 .crossings n) := hctr _ (by simp [ck1]) (by simp [ck1])
    _ = satAdd (s.ctr (ck1 .crossings n)) 1 := (State.ctr_bump _ _ _).trans (if_pos rfl)

/-- A critical error is an event of the present beat where beats run outside HALT. -/
theorem State.critical_of_beatsRun {s : State} (hbeats : s.beatsRun = true) (hhalt : s.boot.mode ≠ .halt) :
    s.critical = { s with boot := { s.boot with evs := s.boot.evs ++ [.critical] } } := by
  rw [State.critical, if_pos (by simp [hbeats, hhalt])]

/-- The last gasp stands at the head of the queue. -/
theorem State.lastGasp_values (s : State) :
    s.lastGasp.boot = s.boot ∧ s.lastGasp.bbx.gasp = true ∧ ∃ r rest, s.lastGasp.bbx.queue = r :: rest ∧ r.event = 0x0002 := by
  refine ⟨by simp, ?_⟩
  unfold State.lastGasp
  dsimp only
  split
  · exact ⟨rfl, _, _, rfl, rfl⟩
  · refine ⟨?_, _, _, (State.bbxDrop_store _).2.2.2, rfl⟩
    unfold State.bbxDrop
    dsimp only
    split <;> simp

/-- A crossing while the island is fed: the latch, then what a main rail out of its limits does besides. -/
theorem exec_sensorCrossing {s : State} (hisland : s.boot.island = true) (n : Fin 32) (value limit : Word) :
    exec (.sensorCrossing n value limit) s = .next (
      let rail : Bool := 23 ≤ n.val && n.val ≤ 27
      let u := (s.readRail n.val value).crossLatch n.val value limit
      if rail && decide (railNominal n * 108 < value.toNat * 100) then (u.bump (ck1 .crossings n)).critical
      else if rail && decide (value.toNat * 100 < railNominal n * 92) && !u.bbx.gasp then (u.bump (ck1 .crossings n)).lastGasp
      else u) := by
  have hexec : exec (.sensorCrossing n value limit) s = execSensorCrossing n value limit s := rfl
  rw [hexec, execSensorCrossing, if_pos hisland]

/-- The reading of a rail changes the readings alone. -/
theorem State.readRail_latches (s : State) (n : Nat) (v : Word) :
    (s.readRail n v).sens.cond = s.sens.cond ∧ (s.readRail n v).sens.seen = s.sens.seen ∧ (s.readRail n v).bbx = s.bbx ∧
    (s.readRail n v).ctrs = s.ctrs := by
  unfold State.readRail
  split <;> exact ⟨rfl, rfl, rfl, rfl⟩

/-- A crossing of what is no main rail, while its latch is released. -/
theorem does_sensorCrossing_latch {s : State} {n : Fin 32} (hisland : s.boot.island = true) (hn : 6 ≤ n.val)
    (hrail : n.val < 23 ∨ 27 < n.val) (hreleased : s.sens.cond.getLsbD n.val = false) (hroom : s.bbx.queue.length < 16)
    (value limit : Word) :
    Does (.sensorCrossing n value limit) s [.ctrs, .attn, .bbx, .sens, .ports, .pair] (fun t =>
      t.sens.cond = s.sens.cond ||| latchBit n.val ∧ t.sens.seen = s.sens.seen ||| latchBit n.val ∧
      t.ctr (ck1 .crossings n.val) = satAdd (s.ctr (ck1 .crossings n.val)) 1) := by
  have hexec := exec_sensorCrossing hisland n value limit
  have hno : (decide (23 ≤ n.val) && decide (n.val ≤ 27)) = false := by simp; omega
  simp only [hno, Bool.false_and, Bool.false_eq_true, if_false] at hexec
  obtain ⟨hcond, hseen, hbbx, hctrs⟩ := s.readRail_latches n.val value
  obtain ⟨hcond', hseen', hctr⟩ := State.crossLatch_values (s := s.readRail n.val value) hn (by rw [hcond]; exact hreleased)
    (by rw [hbbx]; exact hroom) value limit
  refine ⟨_, hexec, ⟨by rw [hcond', hcond], by rw [hseen', hseen], by rw [hctr, State.ctr_congr hctrs]⟩, by simp [changesOnly_iff]⟩

/-- A main rail above 108 % of its nominal value. -/
theorem does_sensorCrossing_high {s : State} {n : Fin 32} (hisland : s.boot.island = true) (hlow : 23 ≤ n.val)
    (hhigh : n.val ≤ 27) {value : Word} (hover : railNominal n.val * 108 < value.toNat * 100) (hbeats : s.beatsRun = true)
    (hhalt : s.boot.mode ≠ .halt) (limit : Word) :
    Does (.sensorCrossing n value limit) s (footprint (.sensorCrossing n value limit)) (fun t =>
      t.boot = { s.boot with evs := s.boot.evs ++ [.critical] }) := by
  have hexec := exec_sensorCrossing hisland n value limit
  dsimp only at hexec
  rw [if_pos (by simp [hlow, hhigh, hover])] at hexec
  refine does_of_completes ⟨_, hexec, ?_⟩
  rw [State.critical_of_beatsRun (by simpa [State.beatsRun] using hbeats) (by simpa using hhalt)]
  simp

/-- A main rail below 92 % of its nominal value, for the first time. -/
theorem does_sensorCrossing_low {s : State} {n : Fin 32} (hisland : s.boot.island = true) (hlow : 23 ≤ n.val)
    (hhigh : n.val ≤ 27) {value : Word} (hunder : value.toNat * 100 < railNominal n.val * 92) (hgasp : s.bbx.gasp = false)
    (limit : Word) :
    Does (.sensorCrossing n value limit) s (footprint (.sensorCrossing n value limit)) (fun t =>
      t.boot = s.boot ∧ t.bbx.gasp = true ∧ ∃ r rest, t.bbx.queue = r :: rest ∧ r.event = 0x0002) := by
  have hexec := exec_sensorCrossing hisland n value limit
  dsimp only at hexec
  rw [if_neg (by simp; omega), if_pos (by simp [hlow, hhigh, hunder, State.crossLatch_gasp, hgasp])] at hexec
  refine does_of_completes ⟨_, hexec, ?_⟩
  obtain ⟨hboot, hset, hhead⟩ := State.lastGasp_values (((s.readRail n.val value).crossLatch n.val value limit).bump (ck1 .crossings n.val))
  exact ⟨by rw [hboot]; simp, hset, hhead⟩

/-- One battery latch of a VBAT reading: crossed, released, or as before. -/
def State.batteryLatch (s : State) (n : Nat) (on off : Bool) (value limit : Word) : State :=
  if on then s.crossLatch n value limit else if off then s.releaseLatch n else s

theorem State.batteryLatch_cond (s : State) {n m : Nat} (hn : 6 ≤ n) (hm : m < 32) (hloss : m ≠ 8) (on off : Bool)
    (value limit : Word) : (s.batteryLatch n on off value limit).sens.cond.getLsbD m =
      if m = n then on || (s.sens.cond.getLsbD m && !off) else s.sens.cond.getLsbD m := by
  unfold State.batteryLatch
  cases on with
  | true =>
    rw [if_pos rfl, State.crossLatch_cond s hn hm hloss]
    by_cases hmn : m = n
    · simp [hmn]
    · simp [hmn]
  | false =>
    cases off with
    | true =>
      have hkeep : (s.releaseLatch n).sens.cond.getLsbD m = (s.sens.cond.getLsbD m && !decide (m = n)) := by
        rw [State.releaseLatch, BitVec.getLsbD_and, BitVec.getLsbD_not, latchBit_getLsbD hm, decide_eq_true hm, Bool.true_and]
      rw [if_neg (by decide), if_pos rfl, hkeep]
      by_cases hmn : m = n
      · simp [hmn]
      · simp [hmn]
    | false => rw [if_neg (by decide), if_neg (by decide)]; simp

/-- A crossing leaves the reading of VBAT and the sensors that are out. -/
theorem State.crossLatch_sensors (s : State) (n : Nat) (value limit : Word) :
    (s.crossLatch n value limit).sens.vbat = s.sens.vbat ∧ (s.crossLatch n value limit).sens.bad = s.sens.bad := by
  have hdrop (u : State) : u.bbxDrop.sens.vbat = u.sens.vbat ∧ u.bbxDrop.sens.bad = u.sens.bad := by
    unfold State.bbxDrop
    dsimp only
    split <;> simp
  have hqueue (u : State) (r : BbxRec) : (u.bbxQueue r).sens.vbat = u.sens.vbat ∧ (u.bbxQueue r).sens.bad = u.sens.bad := by
    unfold State.bbxQueue
    dsimp only
    repeat' split
    all_goals simp [hdrop]
  by_cases hkeeps : n < 6 ∨ s.sens.cond.getLsbD n
  · rw [State.crossLatch, if_pos hkeeps]
    exact ⟨rfl, rfl⟩
  · obtain ⟨hn, hreleased⟩ := not_or.1 hkeeps
    obtain ⟨u, r, hcross, -, -, hsens⟩ :=
      State.crossLatch_of_released (Nat.le_of_not_lt hn) (by simpa using hreleased) value limit
    obtain ⟨hvbat, hbad⟩ := hqueue u r
    exact ⟨by rw [hcross, hvbat, hsens]; rfl, by rw [hcross, hbad, hsens]; rfl⟩

theorem State.batteryLatch_vbat (s : State) (n : Nat) (on off : Bool) (value limit : Word) :
    (s.batteryLatch n on off value limit).sens.vbat = s.sens.vbat := by
  unfold State.batteryLatch
  cases on with
  | true => exact (s.crossLatch_sensors n value limit).1
  | false => cases off <;> rfl

theorem exec_vbatRead {s : State} (hisland : s.boot.island = true) (mv : Nat) :
    exec (.vbatRead mv) s = .next (((State.batteryLatch { s with sens := { s.sens with vbat := mv } }
      20 (decide (mv < 2700)) (decide (2800 ≤ mv)) (BitVec.ofNat 32 mv) (BitVec.ofNat 32 2700)).batteryLatch
      19 (decide (mv < 2500)) (decide (2600 ≤ mv)) (BitVec.ofNat 32 mv) (BitVec.ofNat 32 2500)).batteryLatch
      18 (decide (3600 < mv)) (decide (mv ≤ 3500)) (BitVec.ofNat 32 mv) (BitVec.ofNat 32 3600)) := by
  have hexec : exec (.vbatRead mv) s = execVbatRead mv s := rfl
  rw [hexec, execVbatRead, if_pos hisland]
  rfl

/-- A reading of VBAT sets and releases the three battery latches. -/
theorem does_vbatRead {s : State} (hisland : s.boot.island = true) (mv : Nat) :
    Does (.vbatRead mv) s [.ctrs, .attn, .bbx, .sens, .ports, .pair] (fun t => t.sens.vbat = mv ∧
      t.sens.cond.getLsbD 20 = (decide (mv < 2700) || (s.sens.cond.getLsbD 20 && decide (mv < 2800))) ∧
      t.sens.cond.getLsbD 19 = (decide (mv < 2500) || (s.sens.cond.getLsbD 19 && decide (mv < 2600))) ∧
      t.sens.cond.getLsbD 18 = (decide (3600 < mv) || (s.sens.cond.getLsbD 18 && decide (3500 < mv)))) := by
  refine does_of_completes ⟨_, exec_vbatRead hisland mv, by simp only [State.batteryLatch_vbat], ?_⟩
  have hnot (a b : Nat) : (!decide (a ≤ b)) = decide (b < a) := by rw [← decide_not, decide_eq_decide]; omega
  have hcond (u : State) (n : Nat) (on off : Bool) (v l : Word) (hn : n = 18 ∨ n = 19 ∨ n = 20) (m : Nat)
      (hm : m = 18 ∨ m = 19 ∨ m = 20) := u.batteryLatch_cond (n := n) (m := m) (by omega) (by omega) (by omega) on off v l
  refine ⟨?_, ?_, ?_⟩
  all_goals
    rw [hcond _ _ _ _ _ _ (by decide) _ (by decide), hcond _ _ _ _ _ _ (by decide) _ (by decide),
      hcond _ _ _ _ _ _ (by decide) _ (by decide)]
    simp [hnot]

/-- The device with a clock domain noted as out. -/
def State.clockOut (s : State) (d : Nat) : State :=
  { s with sens := { s.sens with clocks := if s.sens.clocks.contains d then s.sens.clocks else s.sens.clocks ++ [d] } }

theorem exec_clockFault {s : State} (hrails : s.boot.rails = true) (d : Fin 5) :
    exec (.clockFault d) s = .next ((s.clockOut d.val).bump (ck .clockFaults)).critical := by
  have hexec : exec (.clockFault d) s = execClockFault d s := rfl
  rw [hexec, execClockFault, if_pos hrails]
  rfl

/-- Settles O58. -/
theorem sensorsLatchTheirConditions : Obligations.SensorsLatchTheirConditions := by
  intro s
  refine ⟨fun n value limit hisland => ⟨fun hn hrail hreleased hroom =>
      does_sensorCrossing_latch hisland hn hrail hreleased hroom value limit,
    fun hlow hhigh hover hbeats hhalt => does_sensorCrossing_high hisland hlow hhigh hover hbeats hhalt limit,
    fun hlow hhigh hunder hgasp => does_sensorCrossing_low hisland hlow hhigh hunder hgasp limit⟩,
    fun n value limit hisland => ?_, fun n value hisland hn hreleased => ?_, fun n value hheld => ?_,
    fun i reading hgood => ⟨fun hcritical hbeats hhalt => ?_, fun hcool hshort => ?_⟩,
    fun i hgood => ⟨fun hfailed => ?_, fun hworks => ?_⟩, fun mv hisland => does_vbatRead hisland mv,
    fun d hrails hbeats hhalt => ?_, fun d hrails => ?_⟩
  · have hexec : exec (.sensorCrossing n value limit) s = execSensorCrossing n value limit s := rfl
    rw [hexec, execSensorCrossing, if_neg (by simp [hisland])]
  · have hexec : exec (.sensorConditionReleased n value) s = execSensorConditionReleased n value s := rfl
    rw [execSensorConditionReleased, if_pos (by simp [hisland, hn, hreleased])] at hexec
    obtain ⟨hcond, hseen, -, -⟩ := s.readRail_latches n.val value
    exact ⟨_, hexec, ⟨by rw [State.releaseLatch, hcond], hseen⟩, by simp [changesOnly_iff]⟩
  · have hexec : exec (.sensorConditionReleased n value) s = execSensorConditionReleased n value s := rfl
    rw [hexec, execSensorConditionReleased, if_neg (by simp [hheld])]
  · have hexec : exec (.tempCritical i reading) s = execTempCritical i reading s := rfl
    rw [execTempCritical, if_neg (by simpa using hgood), if_pos (by simpa using hcritical),
      State.critical_of_beatsRun (s := s.bump _) hbeats hhalt] at hexec
    exact ⟨_, hexec, ⟨rfl, (State.bump_countsOnce s _).congr rfl rfl⟩, by simp [changesOnly_iff]⟩
  · have hexec : exec (.tempCritical i reading) s = execTempCritical i reading s := rfl
    rw [hexec, execTempCritical, if_neg (by simpa using hgood), if_neg (by simpa using ⟨hcool, hshort⟩)]
  · have hexec : exec (.sensorFail i) s = execSensorFail i s := rfl
    rw [execSensorFail, if_neg (by simp [hfailed, hgood])] at hexec
    dsimp only at hexec
    refine does_of_completes ⟨_, hexec, ?_, ?_⟩
    · rw [(State.crossLatch_sensors _ _ _ _).2]
    · rw [State.crossLatch_cond _ (by omega) (by omega) (by omega), decide_eq_true rfl, Bool.or_true]
  · have hexec : exec (.sensorFail i) s = execSensorFail i s := rfl
    rw [hexec, execSensorFail, if_pos (by simp [hworks])]
  · have hexec := exec_clockFault hrails d
    rw [State.critical_of_beatsRun (s := (s.clockOut d.val).bump _) hbeats hhalt] at hexec
    refine ⟨_, hexec, ⟨rfl, ?_, (State.bump_countsOnce _ _).congr rfl rfl⟩, by simp [changesOnly_iff, State.clockOut]⟩
    change d.val ∈ if s.sens.clocks.contains d.val then s.sens.clocks else s.sens.clocks ++ [d.val]
    split
    next h => simpa using h
    next => simp
  · have hexec : exec (.clockFault d) s = execClockFault d s := rfl
    rw [hexec, execClockFault, if_neg (by simp [hrails])]

end Sys2Proof.Machine

/-! Rules on counters, cells and ready queues that the statements on dispatch, errors and faults share. -/

namespace Sys2Proof.Machine

/-! Counters that an operation keeps. -/

/-- Every counter keeps its value but those of the kinds named. -/
def CtrsKept (cs : List Ctr) (s t : State) : Prop := ∀ k : CtrKey, k.c ∉ cs → t.ctr k = s.ctr k

theorem CtrsKept.of_ctrs {cs : List Ctr} {s t : State} (h : t.ctrs = s.ctrs) : CtrsKept cs s t := fun k _ => State.ctr_congr h k

theorem CtrsKept.refl (cs : List Ctr) (s : State) : CtrsKept cs s s := .of_ctrs rfl

theorem CtrsKept.trans {cs : List Ctr} {s t u : State} (hst : CtrsKept cs s t) (htu : CtrsKept cs t u) : CtrsKept cs s u :=
  fun k hk => (htu k hk).trans (hst k hk)

theorem CtrsKept.mono {cs ds : List Ctr} {s t : State} (h : CtrsKept cs s t) (hsub : cs ⊆ ds) : CtrsKept ds s t :=
  fun k hk => h k (fun hmem => hk (hsub hmem))

theorem CtrsKept.same {cs : List Ctr} {s t u : State} (h : CtrsKept cs s t) (hctrs : u.ctrs = t.ctrs) : CtrsKept cs s u :=
  h.trans (.of_ctrs hctrs)

theorem CtrsKept.before {cs : List Ctr} {s s' t : State} (h : CtrsKept cs s' t) (hctrs : s'.ctrs = s.ctrs) : CtrsKept cs s t :=
  (CtrsKept.of_ctrs hctrs).trans h

theorem CtrsKept.bumpBy {cs : List Ctr} {s t : State} (h : CtrsKept cs s t) {k : CtrKey} (hk : k.c ∈ cs) (n : Nat) :
    CtrsKept cs s (t.bumpBy k n) := by
  refine h.trans fun k' hk' => ?_
  rw [State.ctr_bumpBy, if_neg]
  rintro rfl
  exact hk' hk

theorem CtrsKept.bump {cs : List Ctr} {s t : State} (h : CtrsKept cs s t) {k : CtrKey} (hk : k.c ∈ cs) :
    CtrsKept cs s (t.bump k) := h.bumpBy hk 1

theorem CtrsKept.of_frames {s t : State} (h : FramesPlaced s t) : CtrsKept [.oversizeTx, .queueHolds] s t := by
  intro k hk
  simp only [List.mem_cons, List.not_mem_nil, or_false, not_or] at hk
  exact h.2 k hk.1 hk.2

theorem CtrsKept.forAll {α : Type} {cs : List Ctr} {f : State → α → State} (hf : ∀ s x, CtrsKept cs s (f s x)) (xs : List α)
    (s : State) : CtrsKept cs s (forAll xs s f) :=
  forAll_inv (CtrsKept cs s) f (fun t x ht => ht.trans (hf t x)) xs s (.refl cs s)

/-- After a count of its own, an operation that keeps the counter has counted once. -/
theorem CtrsKept.counted {cs : List Ctr} {s t : State} {k : CtrKey} (h : CtrsKept cs (s.bump k) t) (hk : k.c ∉ cs) :
    t.ctr k = satAdd (s.ctr k) 1 := (h k hk).trans ((State.ctr_bump s k k).trans (if_pos rfl))

theorem State.postOnce_ctrs (s : State) (lvl : Nat) (cls : AttClass) (k : CtrKey) (detail : Nat) :
    CtrsKept [.oversizeTx, .queueHolds] s (s.postOnce lvl cls k detail) := .of_frames (s.postOnce_framesPlaced lvl cls k detail)

theorem State.post_ctrs (s : State) (lvl : Nat) (cls : AttClass) (src detail : Nat) :
    CtrsKept [.oversizeTx, .queueHolds] s (s.post lvl cls src detail) := .of_frames (s.post_framesPlaced lvl cls src detail)

/-- The counters of a record that finds no room. -/
abbrev dropCtrs : List Ctr := [.bbxDropped, .crossings, .oversizeTx, .queueHolds]

theorem State.bbxDrop_ctrs (s : State) : CtrsKept dropCtrs s s.bbxDrop := by
  unfold State.bbxDrop
  dsimp only
  have hdropped : CtrsKept dropCtrs s (({ s with bbx := { s.bbx with lossFlag := true } } : State).bump (ck .bbxDropped)) :=
    (CtrsKept.of_ctrs rfl).bump (by simp [ck])
  split
  · exact hdropped
  · refine (hdropped.trans (CtrsKept.before ?_ rfl)).bump (by simp [ck])
    exact ((CtrsKept.refl _ _).bump (by simp [ck1])).trans ((State.postOnce_ctrs _ _ _ _ _).mono (by simp))

theorem State.bbxQueue_ctrs (s : State) (r : BbxRec) : CtrsKept dropCtrs s (s.bbxQueue r) := by
  unfold State.bbxQueue
  dsimp only
  repeat' split
  · exact .of_ctrs rfl
  · exact (State.bbxDrop_ctrs _).before rfl
  · exact s.bbxDrop_ctrs
  · exact s.bbxDrop_ctrs

theorem State.bbxPost_ctrs (s : State) (event : Nat) (payload : Bytes) : CtrsKept dropCtrs s (s.bbxPost event payload) :=
  s.bbxQueue_ctrs _

theorem State.bbxWith_ctrs (s : State) (lvl : Nat) (cls : AttClass) (src detail event : Nat) (payload : Bytes) :
    CtrsKept dropCtrs s (s.bbxWith lvl cls src detail event payload) :=
  ((s.post_ctrs lvl cls src detail).mono (by simp)).trans (State.bbxQueue_ctrs _ _)

theorem State.bumpOnce_ctrs {cs : List Ctr} (s : State) {k : CtrKey} (lvl : Nat) (cls : AttClass) (hk : k.c ∈ cs)
    (hplaced : [.oversizeTx, .queueHolds] ⊆ cs) : CtrsKept cs s (s.bumpOnce k lvl cls) :=
  ((CtrsKept.refl cs s).bump hk).trans ((State.postOnce_ctrs _ _ _ _ _).mono hplaced)

/-! Cells and the lists of the dispatcher. -/

theorem State.cell_modCell (s : State) (c : Nat) (f : CellSt → CellSt) (c' : Nat) :
    (s.modCell c f).cell c' = if c' = c ∧ c < s.sch.cells.length then f (s.cell c') else s.cell c' := by
  unfold State.cell State.modCell
  rw [modAt_eq_modify, List.getD_eq_getElem?_getD, List.getD_eq_getElem?_getD, List.getElem?_modify]
  by_cases hc : c' = c
  · subst hc
    by_cases hlt : c' < s.sch.cells.length
    · simp [hlt]
    · simp [hlt]
  · simp [hc, Ne.symm hc]

theorem State.reg_modReg (s : State) (r : Nat) (f : RegSt → RegSt) (r' : Nat) :
    (s.modReg r f).reg r' = if r' = r ∧ r < s.sch.regs.length then f (s.reg r') else s.reg r' := by
  unfold State.reg State.modReg
  rw [modAt_eq_modify, List.getD_eq_getElem?_getD, List.getD_eq_getElem?_getD, List.getElem?_modify]
  by_cases hr : r' = r
  · subst hr
    by_cases hlt : r' < s.sch.regs.length
    · simp [hlt]
    · simp [hlt]
  · simp [hr, Ne.symm hr]

/-- The cells and the lists of work of every region stay; only charges, traces and sequence numbers move. -/
def SameWork (s t : State) : Prop :=
  t.sch.cells = s.sch.cells ∧ t.sch.regs.length = s.sch.regs.length ∧ ∀ r : Nat, (t.reg r).ready = (s.reg r).ready ∧ (t.reg r).delay = (s.reg r).delay ∧
    (t.reg r).stalled = (s.reg r).stalled

theorem SameWork.of_sch {s t : State} (h : t.sch = s.sch) : SameWork s t :=
  ⟨by rw [h], by rw [h], fun r => by simp [State.reg, h]⟩

theorem SameWork.refl (s : State) : SameWork s s := .of_sch rfl

theorem SameWork.trans {s t u : State} (hst : SameWork s t) (htu : SameWork t u) : SameWork s u := by
  obtain ⟨hcells, hlen, hregs⟩ := hst
  obtain ⟨hcells', hlen', hregs'⟩ := htu
  exact ⟨hcells'.trans hcells, hlen'.trans hlen, fun r => ⟨(hregs' r).1.trans (hregs r).1, (hregs' r).2.1.trans (hregs r).2.1,
    (hregs' r).2.2.trans (hregs r).2.2⟩⟩

theorem SameWork.cell {s t : State} (h : SameWork s t) (c : Nat) : t.cell c = s.cell c := by
  rw [State.cell, h.1, State.cell]

theorem SameWork.ready {s t : State} (h : SameWork s t) (r : Nat) : (t.reg r).ready = (s.reg r).ready := (h.2.2 r).1

/-- A change of a region that leaves its lists. -/
theorem State.modReg_sameWork (s : State) (r : Nat) {f : RegSt → RegSt}
    (hf : ∀ g, (f g).ready = g.ready ∧ (f g).delay = g.delay ∧ (f g).stalled = g.stalled) : SameWork s (s.modReg r f) := by
  refine ⟨rfl, by simp [State.modReg, modAt_eq_modify], fun r' => ?_⟩
  rw [State.reg_modReg]
  split
  · exact hf _
  · exact ⟨rfl, rfl, rfl⟩

theorem State.charge_sameWork (s : State) (r cls : Nat) (c : Cost) : SameWork s (s.charge r cls c) :=
  s.modReg_sameWork r (fun _ => ⟨rfl, rfl, rfl⟩)

theorem State.trace_sameWork (s : State) (decision : Nat) (it : Item) (cell detail : Nat) :
    SameWork s (s.trace decision it cell detail) := by
  unfold State.trace
  dsimp only
  split
  · exact .refl s
  · split
    · exact .of_sch rfl
    · exact s.charge_sameWork _ _ _

theorem State.borrow_sameWork (r : Nat) (cs : List Nat) (s : State) (need : Cost) : SameWork s (s.borrow r cs need) := by
  induction cs generalizing s need with
  | nil => exact .refl s
  | cons c cs ih => exact (s.charge_sameWork _ _ _).trans (ih _ _)

theorem State.chargeStart_sameWork (s : State) (it : Item) : SameWork s (s.chargeStart it) := by
  unfold State.chargeStart
  dsimp only
  split
  · refine SameWork.trans ?_ (State.charge_sameWork _ _ _ _)
    exact s.modReg_sameWork _ (fun _ => ⟨rfl, rfl, rfl⟩)
  · split
    · exact s.charge_sameWork _ _ _
    · exact ((State.borrow_sameWork _ _ s _).trans (State.charge_sameWork _ _ _ _)).trans (.of_sch rfl)

/-! What the dispatcher counts besides. -/

theorem State.trace_ctrs (s : State) (decision : Nat) (it : Item) (cell detail : Nat) :
    CtrsKept [.traceDrops] s (s.trace decision it cell detail) := by
  unfold State.trace
  dsimp only
  split
  · exact .refl _ s
  · split
    · exact (CtrsKept.refl _ s).bump (by simp [ck])
    · exact .of_ctrs rfl

theorem State.borrow_ctrs (r : Nat) (cs : List Nat) (s : State) (need : Cost) : (s.borrow r cs need).ctrs = s.ctrs := by
  induction cs generalizing s need with
  | nil => rfl
  | cons c cs ih => exact ih _ _

theorem State.chargeStart_ctrs (s : State) (it : Item) : CtrsKept [.borrowings] s (s.chargeStart it) := by
  unfold State.chargeStart
  dsimp only
  split
  · exact .of_ctrs rfl
  · split
    · exact .of_ctrs rfl
    · exact (CtrsKept.of_ctrs ((State.borrow_ctrs _ _ s _))).bump (by simp [ck2])

/-! Evaluations that begin, and faults of cells. -/

/-- A cell is as it was, or it now runs an islanding evaluation. -/
def CellStarts (x y : CellSt) : Prop :=
  y = x ∨ ∃ e n l, y = { x with run := some e, since := l, worked := false } ∧ e.ctx = .evaluation n

/-- Every cell is as it was, but for evaluations that begin. -/
def EvalStarts (s t : State) : Prop := ∀ c : Nat, CellStarts (s.cell c) (t.cell c)

theorem SameWork.evalStarts {s t : State} (h : SameWork s t) : EvalStarts s t := fun c => .inl (h.cell c)

theorem EvalStarts.of_sch {s t : State} (h : t.sch = s.sch) : EvalStarts s t := (SameWork.of_sch h).evalStarts

theorem EvalStarts.refl (s : State) : EvalStarts s s := .of_sch rfl

theorem EvalStarts.trans {s t u : State} (hst : EvalStarts s t) (htu : EvalStarts t u) : EvalStarts s u := by
  intro c
  obtain h | ⟨e, n, l, h, hctx⟩ := hst c <;> obtain h' | ⟨e', n', l', h', hctx'⟩ := htu c
  · exact .inl (h'.trans h)
  · exact .inr ⟨e', n', l', by rw [h', h], hctx'⟩
  · exact .inr ⟨e, n, l, by rw [h', h], hctx⟩
  · exact .inr ⟨e', n', l', by rw [h', h], hctx'⟩

/-- What the statements on faults say of a cell whose item is gone. -/
theorem CellStarts.values {x y : CellSt} (h : CellStarts x y) (hrun : x.run = none) (hworked : x.worked = false) :
    (y.run = none ∨ ∃ e n, y.run = some e ∧ e.ctx = .evaluation n) ∧ y.worked = false ∧ y.faultNow = x.faultNow ∧
    y.faults = x.faults := by
  obtain rfl | ⟨e, n, l, rfl, hctx⟩ := h
  · exact ⟨.inl hrun, hworked, rfl, rfl⟩
  · exact ⟨.inr ⟨e, n, rfl, hctx⟩, rfl, rfl, rfl⟩

/-- The counters of an evaluation that begins. -/
abbrev evalCtrs : List Ctr := [.itemsPosted, .itemsDispatched, .traceDrops]

theorem State.startEval_of_none_waiting {s : State} (h : s.isl.waiting = []) : s.startEval = s := by
  rw [State.startEval, if_pos (by simp [h])]

theorem State.newItem_sameWork (s : State) (r tmpl cls prio origin arg due row : Nat) (ctx : ItemCtx) :
    SameWork s (s.newItem r tmpl cls prio origin arg due row ctx).1 := s.modReg_sameWork r (fun _ => ⟨rfl, rfl, rfl⟩)

theorem State.startEval_rules (s : State) : EvalStarts s s.startEval ∧ CtrsKept evalCtrs s s.startEval := by
  unfold State.startEval
  split
  · exact ⟨.refl s, .refl _ s⟩
  · split
    · exact ⟨.refl s, .refl _ s⟩
    next c _ =>
      split
      · exact ⟨.refl s, .refl _ s⟩
      · dsimp only
        constructor
        · refine EvalStarts.trans (s.newItem_sameWork (regionOf c) 0xFFFF 1 15 3 0 0 0xFFF (.evaluation s.isl.waiting.length)).evalStarts ?_
          · refine EvalStarts.trans ?_ (State.trace_sameWork _ _ _ _ _).evalStarts
            intro c'
            rw [State.cell_modCell]
            split
            · exact .inr ⟨_, _, _, rfl, rfl⟩
            · exact .inl rfl
        · refine CtrsKept.trans ?_ ((State.trace_ctrs _ _ _ _ _).mono (by simp))
          exact CtrsKept.same (((CtrsKept.of_ctrs rfl).bump (by simp [ck2])).bump (by simp [ck2])) rfl

/-- The counters of an abandoned item. -/
abbrev abandonCtrs : List Ctr := [.scansAbandoned, .setsLost, .abandonedUpdates] ++ evalCtrs

theorem State.abandonOsc_ctrs (s : State) (it : Item) : CtrsKept [.abandonedUpdates] s (s.abandonOsc it) := by
  unfold State.abandonOsc
  dsimp only
  refine CtrsKept.trans (CtrsKept.forAll ?_ _ s) (CtrsKept.forAll ?_ _ _)
  · exact fun u b => (CtrsKept.refl _ u).bump (by simp [ck1])
  · refine fun u k => CtrsKept.before (CtrsKept.forAll ?_ _ _) rfl
    exact fun v i => .of_ctrs (by simp)

theorem State.abandonLoc_ctrs (s : State) (it : Item) : CtrsKept [] s (s.abandonLoc it) := by
  unfold State.abandonLoc
  refine CtrsKept.forAll (fun u l => .of_ctrs ?_) _ s
  split <;> rfl

theorem State.abandonDets_ctrs (s : State) (gs : GroupSet) : CtrsKept [] s (s.abandonDets gs) := by
  unfold State.abandonDets
  exact CtrsKept.forAll (fun u d => .of_ctrs (by simp)) _ s

theorem State.abandonItem_rules (s : State) (it : Item) :
    EvalStarts s (s.abandonItem it) ∧ CtrsKept abandonCtrs s (s.abandonItem it) := by
  unfold State.abandonItem
  split
  · split
    · exact ⟨.of_sch rfl, (CtrsKept.of_ctrs rfl).bump (by simp [ck1])⟩
    · exact ⟨.refl s, .refl _ s⟩
  · split
    · exact ⟨.of_sch (by simp), (s.abandonOsc_ctrs it).mono (by simp)⟩
    · split
      · dsimp only
        obtain ⟨hcells, hctrs⟩ := State.startEval_rules { s.bumpBy (ck .setsLost) (s.isl.waiting.filter (fun g =>
            !((s.slice (groupRegion (s.rec_ .group g.group))).rows.any (fun w => w.tag == g.tag && !w.retired)))).length with
          isl := { s.isl with waiting := s.isl.waiting.filter (fun g => !(s.isl.waiting.filter (fun g =>
            !((s.slice (groupRegion (s.rec_ .group g.group))).rows.any (fun w => w.tag == g.tag && !w.retired)))).contains g) } }
        exact ⟨EvalStarts.trans (.of_sch rfl) hcells,
          (((CtrsKept.refl _ s).bumpBy (by simp [ck]) _).same rfl).trans (hctrs.mono (by simp))⟩
      · split
        · exact ⟨.of_sch (by simp), (s.abandonLoc_ctrs it).mono (by simp)⟩
        · split
          · exact ⟨.of_sch (by simp), (s.abandonDets_ctrs _).mono (by simp)⟩
          · exact ⟨.refl s, .refl _ s⟩

/-- The counters of a fault of a cell. -/
abbrev faultCtrs : List Ctr := [.aborts, .abandoned, .reissues, .oversizeTx, .queueHolds] ++ abandonCtrs

theorem State.reissue_rules (s : State) (it : Item) (c reason : Nat) :
    EvalStarts s (s.reissue it c reason) ∧ CtrsKept faultCtrs s (s.reissue it c reason) := by
  unfold State.reissue
  have hwork : SameWork s ((s.bump (ck1 .aborts it.region)).trace 4 it c reason) :=
    (SameWork.of_sch rfl).trans (State.trace_sameWork _ _ _ _ _)
  have hctrs : CtrsKept faultCtrs s ((s.bump (ck1 .aborts it.region)).trace 4 it c reason) :=
    ((CtrsKept.refl _ s).bump (by simp [ck1])).trans ((State.trace_ctrs _ _ _ _ _).mono (by simp))
  generalize (s.bump (ck1 .aborts it.region)).trace 4 it c reason = u at hwork hctrs
  dsimp only
  split
  · obtain ⟨hcells', hctrs'⟩ := ((u.bumpOnce (ck1 .abandoned it.region) 4 .unit).trace 6 it c 0).abandonItem_rules it
    refine ⟨hwork.evalStarts.trans (EvalStarts.trans ?_ hcells'), hctrs.trans (CtrsKept.trans ?_ (hctrs'.mono (by simp)))⟩
    · exact ((SameWork.of_sch (by simp)).trans (State.trace_sameWork _ _ _ _ _)).evalStarts
    · exact (u.bumpOnce_ctrs 4 .unit (by simp [ck1]) (by simp)).trans ((State.trace_ctrs _ _ _ _ _).mono (by simp))
  · refine ⟨hwork.evalStarts.trans (EvalStarts.trans ?_ (State.trace_sameWork _ _ _ _ _).evalStarts),
      hctrs.trans (CtrsKept.trans ?_ ((State.trace_ctrs _ _ _ _ _).mono (by simp)))⟩
    · exact fun _ => .inl rfl
    · exact CtrsKept.bump (.of_ctrs rfl) (by simp [ck1])

/-- The cell that an abort frees. -/
theorem State.abortCell_rules (s : State) {c : Nat} (reason : Nat) {it : Item} (hrun : (s.cell c).run = some it) :
    EvalStarts (s.modCell c (fun x => { x with run := none, worked := false })) (s.abortCell c reason) ∧
    CtrsKept faultCtrs s (s.abortCell c reason) := by
  rw [State.abortCell, hrun]
  dsimp only
  obtain ⟨hcells, hctrs⟩ := State.reissue_rules (s.modCell c (fun x => { x with run := none, worked := false }))
    { it with written := (s.cell c).worked } c reason
  exact ⟨hcells, hctrs.before rfl⟩

theorem State.abortCell_of_idle {s : State} {c : Nat} (reason : Nat) (hrun : (s.cell c).run = none) : s.abortCell c reason = s := by
  rw [State.abortCell, hrun]

theorem State.abortCell_ctrs (s : State) (c reason : Nat) : CtrsKept faultCtrs s (s.abortCell c reason) := by
  cases hrun : (s.cell c).run with
  | none => rw [State.abortCell_of_idle reason hrun]; exact .refl _ s
  | some it => exact (s.abortCell_rules reason hrun).2

theorem State.faultCell_ctrs (s : State) (c reason : Nat) : CtrsKept faultCtrs s (s.faultCell c reason) :=
  (State.abortCell_ctrs _ c reason).before rfl

/-- After a fault the cell runs nothing, or an evaluation; it is marked as faulted in the beat and remembers when. -/
theorem State.faultCell_faulted {s : State} {c : Nat} {x : CellSt} (hx : s.sch.cells[c]? = some x) (reason : Nat) :
    (((s.faultCell c reason).cell c).run = none ∨ ∃ e n, ((s.faultCell c reason).cell c).run = some e ∧ e.ctx = .evaluation n) ∧
    ((s.faultCell c reason).cell c).faultNow = true ∧ ((s.faultCell c reason).cell c).faults = (s.lts :: (s.cell c).faults).take 3 := by
  obtain ⟨hlt, -⟩ := List.getElem?_eq_some_iff.1 hx
  unfold State.faultCell
  dsimp only
  generalize hu : s.modCell c _ = u
  have hcell : (u.cell c).run = (s.cell c).run ∧ (u.cell c).faultNow = true ∧ (u.cell c).faults = (s.lts :: (s.cell c).faults).take 3 := by
    rw [← hu, State.cell_modCell, if_pos ⟨rfl, hlt⟩]
    exact ⟨rfl, rfl, rfl⟩
  have hlen : c < u.sch.cells.length := by rw [← hu]; simpa [State.modCell, modAt_eq_modify] using hlt
  obtain ⟨hrun, hnow, hfaults⟩ := hcell
  cases hidle : (u.cell c).run with
  | none =>
    rw [State.abortCell_of_idle reason hidle]
    exact ⟨.inl hidle, hnow, hfaults⟩
  | some it =>
    have hstarts := (u.abortCell_rules reason hidle).1 c
    rw [State.cell_modCell, if_pos ⟨rfl, hlen⟩] at hstarts
    obtain ⟨hgone, -, hnow', hfaults'⟩ := hstarts.values rfl rfl
    exact ⟨hgone, hnow'.trans hnow, hfaults'.trans hfaults⟩

/-- The latest of the remembered faults is the one now. -/
theorem State.faultCell_values {s : State} {c : Nat} {x : CellSt} (hx : s.sch.cells[c]? = some x) (reason : Nat) :
    (((s.faultCell c reason).cell c).run = none ∨ ∃ e n, ((s.faultCell c reason).cell c).run = some e ∧ e.ctx = .evaluation n) ∧
    ((s.faultCell c reason).cell c).faultNow = true ∧ ((s.faultCell c reason).cell c).faults.head? = some s.lts := by
  obtain ⟨hgone, hnow, hfaults⟩ := State.faultCell_faulted hx reason
  exact ⟨hgone, hnow, by rw [hfaults]; rfl⟩

end Sys2Proof.Machine

/-! Lemmas and proofs of the statements on errors, cells and dispatch (O45, O46, O47). -/

namespace Sys2Proof.Machine

/-! Uncorrectable errors (R24 to R27). -/

/-- The device once an uncorrectable error has been counted, recorded and noted, before anything acts on it. -/
def State.reported (s : State) (st : Struct) (unit : Nat) : State :=
  ((s.bump (ck2 .uncorrectable (structRow st) unit)).bbxPost 0x0010
    (natBe 1 (structRow st) ++ natBe 2 unit ++ natBe 1 (Config.objectFill 0x0010 (structRow st)).toNat)).noteFault st unit

/-- The device whose worst severity of the beat takes in an error. -/
def State.worsened (s : State) (st : Struct) : State :=
  { s with sch := { s.sch with worst := max s.sch.worst (severity st) } }

/-- What acts on an error that no more severe one precedes (Table ARC-3). -/
def State.actOn (s : State) (st : Struct) (unit : Nat) : State :=
  match st with
  | .cellMemory => s.faultCell (unit % 64) 1
  | .blockMemory => s.loseBlock (unit % 16)
  | .historyWord => s.spoilHistory unit
  | .inputQueueWord => s
  | .mgmtLockstep => s.restartManagement
  | .captureArea | .traceRing | .workBuffers => s.nonCritical
  | _ => s.critical

theorem State.uncorrectable_eq (s : State) (st : Struct) (unit : Nat) : s.uncorrectable st unit =
    if severity st < (s.reported st unit).sch.worst then s.reported st unit
    else ((s.reported st unit).worsened st).actOn st unit := by
  unfold State.uncorrectable State.actOn
  rfl

theorem State.noteFault_worst (s : State) (st : Struct) (unit : Nat) : (s.noteFault st unit).sch.worst = s.sch.worst := by
  cases st
  case blockMemory =>
    unfold State.noteFault
    exact forAll_keep (fun u : State => u.sch.worst) _ (by exact fun _ _ => rfl) _ s
  all_goals rfl

theorem State.reported_values (s : State) (st : Struct) (unit : Nat) :
    (s.reported st unit).boot = s.boot ∧ (s.reported st unit).sch.worst = s.sch.worst ∧
    CtrsKept dropCtrs (s.bump (ck2 .uncorrectable (structRow st) unit)) (s.reported st unit) := by
  refine ⟨by simp [State.reported], ?_, ?_⟩
  · rw [State.reported, State.noteFault_worst]
    simp
  · exact (State.bbxPost_ctrs _ _ _).same (by rw [State.reported, (State.noteFault_frame _ _ _).2.2.2.1])

/-- The counters that acting on an error may move: those of a fault, and of an event that the mode refuses. -/
abbrev actCtrs : List Ctr := .modeRefused :: faultCtrs

theorem State.loseBlock_ctrs (s : State) (b : Nat) : CtrsKept faultCtrs s (s.loseBlock b) := by
  unfold State.loseBlock
  dsimp only
  refine CtrsKept.before ((CtrsKept.forAll ?_ _ _).trans (CtrsKept.forAll ?_ _ _)) rfl
  · exact fun u c => .of_ctrs rfl
  · exact fun u c => u.abortCell_ctrs c 1

theorem State.critical_ctrs (s : State) : CtrsKept [.modeRefused] s s.critical := by
  unfold State.critical
  split
  · exact .of_ctrs rfl
  · exact (CtrsKept.refl _ s).bump (by simp [ck])

theorem State.nonCritical_ctrs (s : State) : CtrsKept [.modeRefused] s s.nonCritical := by
  unfold State.nonCritical
  split
  · exact .of_ctrs rfl
  · exact (CtrsKept.refl _ s).bump (by simp [ck])

theorem State.critical_mode (s : State) : s.critical.boot.mode = s.boot.mode := by
  unfold State.critical
  split <;> rfl

theorem State.nonCritical_mode (s : State) : s.nonCritical.boot.mode = s.boot.mode := by
  unfold State.nonCritical
  split <;> rfl

theorem State.actOn_rules (s : State) (st : Struct) (unit : Nat) :
    (s.actOn st unit).boot.mode = s.boot.mode ∧ CtrsKept actCtrs s (s.actOn st unit) := by
  cases st
  case cellMemory => exact ⟨congrArg BootSt.mode (by simp [State.actOn]), (s.faultCell_ctrs _ _).mono (by simp)⟩
  case blockMemory => exact ⟨congrArg BootSt.mode (by simp [State.actOn]), (s.loseBlock_ctrs _).mono (by simp)⟩
  case inputQueueWord => exact ⟨rfl, .refl _ s⟩
  case historyWord => exact ⟨congrArg BootSt.mode (by simp [State.actOn]), .of_ctrs (by simp [State.actOn])⟩
  case mgmtLockstep => exact ⟨rfl, .of_ctrs rfl⟩
  case captureArea | traceRing | workBuffers => exact ⟨s.nonCritical_mode, s.nonCritical_ctrs.mono (by simp)⟩
  all_goals exact ⟨s.critical_mode, s.critical_ctrs.mono (by simp)⟩

theorem State.uncorrectable_mode (s : State) (st : Struct) (unit : Nat) : (s.uncorrectable st unit).boot.mode = s.boot.mode := by
  obtain ⟨hboot, -, -⟩ := s.reported_values st unit
  rw [State.uncorrectable_eq]
  split
  · rw [hboot]
  · rw [(State.actOn_rules _ st unit).1, State.worsened, hboot]

/-- An uncorrectable error is counted once, whatever acts on it. -/
theorem State.uncorrectable_ctr (s : State) (st : Struct) (unit : Nat) :
    (s.uncorrectable st unit).ctr (ck2 .uncorrectable (structRow st) unit) =
      satAdd (s.ctr (ck2 .uncorrectable (structRow st) unit)) 1 := by
  obtain ⟨-, -, hctrs⟩ := s.reported_values st unit
  rw [State.uncorrectable_eq]
  split
  · exact hctrs.counted (by simp [ck2])
  · have hact : CtrsKept (dropCtrs ++ actCtrs) (s.bump (ck2 .uncorrectable (structRow st) unit))
        (((s.reported st unit).worsened st).actOn st unit) :=
      (hctrs.mono (by simp)).trans (((State.actOn_rules _ st unit).2.mono (by simp)).before rfl)
    exact hact.counted (by simp [ck2])

/-- An error that no more severe one of the beat precedes is acted on. -/
theorem State.uncorrectable_of_le {s : State} {st : Struct} (h : s.sch.worst ≤ severity st) (unit : Nat) :
    s.uncorrectable st unit = ((s.reported st unit).worsened st).actOn st unit := by
  rw [State.uncorrectable_eq, (s.reported_values st unit).2.1, if_neg (by omega)]

/-- What stands when an error is acted on: the boot state as it was, the error's severity the worst of the beat. -/
theorem State.worsened_values {s : State} {st : Struct} (h : s.sch.worst ≤ severity st) (unit : Nat) :
    ((s.reported st unit).worsened st).boot = s.boot ∧ ((s.reported st unit).worsened st).sch.worst = severity st := by
  obtain ⟨hboot, hworst, -⟩ := s.reported_values st unit
  refine ⟨hboot, ?_⟩
  change max (s.reported st unit).sch.worst (severity st) = severity st
  rw [hworst]
  omega

theorem State.actOn_of_critical {st : Struct} (h : severity st = 2) (s : State) (unit : Nat) : s.actOn st unit = s.critical := by
  cases st
  case cellMemory | blockMemory | inputQueueWord | historyWord | mgmtLockstep | captureArea | traceRing | workBuffers =>
    exact absurd h (by decide)
  all_goals rfl

theorem State.actOn_of_nonCritical {st : Struct} (h : severity st = 1) (s : State) (unit : Nat) :
    s.actOn st unit = s.nonCritical := by
  cases st
  case captureArea | traceRing | workBuffers => rfl
  all_goals exact absurd h (by decide)

theorem State.nonCritical_of_beatsRun {s : State} (hbeats : s.beatsRun = true) :
    s.nonCritical = { s with boot := { s.boot with evs := s.boot.evs ++ [.nonCritical] } } := by
  rw [State.nonCritical, if_pos hbeats]

/-- An uncorrectable error outside DORMANT. -/
theorem does_uncorrectableError {s : State} (hawake : s.boot.mode ≠ .dormant) (st : Struct) (unit : Nat) :
    Does (.uncorrectableError st unit) s (footprint (.uncorrectableError st unit)) (fun t =>
      t.boot.mode = s.boot.mode ∧
      t.ctr (ck2 .uncorrectable (structRow st) unit) = satAdd (s.ctr (ck2 .uncorrectable (structRow st) unit)) 1 ∧
      (severity st = 2 → s.sch.worst ≤ 2 → s.beatsRun = true → s.boot.mode ≠ .halt →
        t.boot.evs = s.boot.evs ++ [.critical] ∧ t.sch.worst = 2) ∧
      (severity st = 1 → s.sch.worst ≤ 1 → s.beatsRun = true → t.boot.evs = s.boot.evs ++ [.nonCritical] ∧ t.sch.worst = 1) ∧
      (st = .mgmtLockstep → s.sch.worst = 0 → t.boot.mgmtUp = false ∧ t.boot.evs = s.boot.evs)) := by
  have hexec : exec (.uncorrectableError st unit) s = execUncorrectableError st unit s := rfl
  rw [execUncorrectableError, if_neg (by simpa using hawake)] at hexec
  refine does_of_completes ⟨_, hexec, s.uncorrectable_mode st unit, s.uncorrectable_ctr st unit, fun hsevere hle hbeats hhalt => ?_,
    fun hsevere hle hbeats => ?_, fun hlock hnone => ?_⟩
  · rw [← hsevere] at hle
    obtain ⟨hboot, hworst⟩ := State.worsened_values hle unit
    rw [State.uncorrectable_of_le hle, State.actOn_of_critical hsevere]
    generalize (s.reported st unit).worsened st = u at hboot hworst
    rw [State.critical_of_beatsRun (by rw [State.beatsRun, hboot]; exact hbeats) (by rw [hboot]; exact hhalt), hboot]
    exact ⟨rfl, hworst.trans hsevere⟩
  · rw [← hsevere] at hle
    obtain ⟨hboot, hworst⟩ := State.worsened_values hle unit
    rw [State.uncorrectable_of_le hle, State.actOn_of_nonCritical hsevere]
    generalize (s.reported st unit).worsened st = u at hboot hworst
    rw [State.nonCritical_of_beatsRun (by rw [State.beatsRun, hboot]; exact hbeats), hboot]
    exact ⟨rfl, hworst.trans hsevere⟩
  · subst hlock
    have hle : s.sch.worst ≤ severity .mgmtLockstep := by omega
    obtain ⟨hboot, -⟩ := State.worsened_values hle unit
    rw [State.uncorrectable_of_le hle]
    generalize (s.reported .mgmtLockstep unit).worsened .mgmtLockstep = u at hboot
    have hrestart : (u.actOn .mgmtLockstep unit).boot = { s.boot with mgmtUp := false } := by rw [← hboot]; rfl
    rw [hrestart]
    exact ⟨rfl, rfl⟩

/-! Heat (R307). -/

/-- A region of the device whose level falls. -/
def State.cooled (s : State) (r : Nat) : State :=
  { s with sens := { s.sens with level := modAt s.sens.level r (fun l => l - 1), below := setAt s.sens.below r 0 } }

theorem does_thermalLevelFall {s : State} {r : Region} (hlevel : r.val < s.sens.level.length) (hbelow : r.val < s.sens.below.length)
    (hlong : 2400 ≤ s.sens.below.getD r.val 0) (hhot : 0 < s.sens.level.getD r.val 0) :
    Does (.thermalLevelFall r) s [.ctrs, .sens, .sch] (fun t =>
      t.sens.level.getD r.val 0 = s.sens.level.getD r.val 0 - 1 ∧ t.sens.below.getD r.val 0 = 0 ∧
      ∀ r' : Nat, r' ≠ r.val → t.sens.level.getD r' 0 = s.sens.level.getD r' 0) := by
  have hexec : exec (.thermalLevelFall r) s = .next ((s.cooled r.val).reshed r.val) := by
    have h : exec (.thermalLevelFall r) s = execThermalLevelFall r s := rfl
    rw [h, execThermalLevelFall, if_pos (by simp only [hlong, hhot, decide_true, Bool.and_self]), State.cooled]
  have hsens : ((s.cooled r.val).reshed r.val).sens = (s.cooled r.val).sens := by simp
  refine ⟨_, hexec, ?_, by simp [changesOnly_iff, State.cooled]⟩
  dsimp only
  rw [hsens, State.cooled]
  dsimp only
  rw [modAt_eq_modify, setAt_eq_set]
  refine ⟨?_, ?_, fun r' hne => ?_⟩
  · simp [List.getD_eq_getElem?_getD, hlevel]
  · simp [List.getD_eq_getElem?_getD, hbelow]
  · simp [List.getD_eq_getElem?_getD, Ne.symm hne]

/-- Settles O47. -/
theorem errorsAndHeat : Obligations.ErrorsAndHeat := by
  refine ⟨fun st unit s => ⟨does_bump rfl, fun hawake => does_uncorrectableError hawake st unit, fun hdormant => ?_⟩,
    fun r s hlevel hbelow => ⟨does_thermalLevelFall hlevel hbelow, fun hstays => ?_⟩⟩
  · have hexec : exec (.uncorrectableError st unit) s = execUncorrectableError st unit s := rfl
    rw [hexec, execUncorrectableError, if_pos (by simp [hdormant])]
  · have hexec : exec (.thermalLevelFall r) s = execThermalLevelFall r s := rfl
    rw [hexec, execThermalLevelFall, if_neg]
    simp only [Bool.and_eq_true, decide_eq_true_eq]
    omega

/-! Completion and faults of items (O46). -/

theorem State.cell_of_getElem? {s : State} {c : Nat} {x : CellSt} (h : s.sch.cells[c]? = some x) : s.cell c = x := by
  simp [State.cell, h]

/-- The state of a completed item, before an evaluation that waits takes its cell. -/
def State.itemDone (s : State) (c : Nat) (it : Item) (used : Cost) : State :=
  ((((s.charge it.region it.cls (used.minus (tmplCost (s.tmpl it.template))).pos).modCell c
    (fun x => { x with run := none, worked := false })).bump (ck2 .itemsCompleted it.region it.cls)).trace 2 it c
      (min (used.cycles.toNat / 64) 0xFFFF))

theorem exec_itemComplete {s : State} {c : Cell} {it : Item} (hrun : (s.cell c.val).run = some it)
    (hdone : s.needsWork it = false ∨ (s.cell c.val).worked = true) (used : Cost) :
    exec (.itemComplete c used) s = .next (s.itemDone c.val it used).startEval := by
  have hexec : exec (.itemComplete c used) s = execItemComplete c used s := rfl
  rw [hexec, execItemComplete, hrun]
  dsimp only
  rw [if_neg (by rcases hdone with h | h <;> simp [h])]
  rfl

theorem State.itemDone_cell {s : State} {c : Nat} {x : CellSt} (hx : s.sch.cells[c]? = some x) (it : Item) (used : Cost) :
    (s.itemDone c it used).cell c = { x with run := none, worked := false } ∧
    ∀ c' : Nat, c' ≠ c → (s.itemDone c it used).cell c' = s.cell c' := by
  obtain ⟨hlt, -⟩ := List.getElem?_eq_some_iff.1 hx
  have hcell (c' : Nat) : (s.itemDone c it used).cell c' =
      ((s.charge it.region it.cls (used.minus (tmplCost (s.tmpl it.template))).pos).modCell c
        (fun x => { x with run := none, worked := false })).cell c' := (State.trace_sameWork _ _ _ _ _).cell c'
  constructor
  · rw [hcell, State.cell_modCell, if_pos ⟨rfl, hlt⟩, (s.charge_sameWork _ _ _).cell, State.cell_of_getElem? hx]
  · intro c' hne
    rw [hcell, State.cell_modCell, if_neg (fun h => hne h.1), (s.charge_sameWork _ _ _).cell]

/-- Besides the completion, only a trace that finds no room is counted. -/
theorem State.itemDone_ctrs (s : State) (c : Nat) (it : Item) (used : Cost) :
    CtrsKept [.traceDrops] (s.bump (ck2 .itemsCompleted it.region it.cls)) (s.itemDone c it used) := by
  unfold State.itemDone
  generalize (used.minus (tmplCost (s.tmpl it.template))).pos = excess
  refine (State.trace_ctrs _ _ _ _ _).before ?_
  rfl

/-- An item whose work is done, or that needs none, completes. -/
theorem does_itemComplete {s : State} {c : Cell} {x : CellSt} (hx : s.sch.cells[c.val]? = some x) {it : Item}
    (hrun : x.run = some it) (used : Cost) (hdone : s.needsWork it = false ∨ x.worked = true) :
    Does (.itemComplete c used) s [.ctrs, .sch] (fun t =>
      ((t.cell c.val).run = none ∨ ∃ e n, (t.cell c.val).run = some e ∧ e.ctx = .evaluation n) ∧ (t.cell c.val).worked = false ∧
      (s.isl.waiting = [] → t.cell c.val = { x with run := none, worked := false } ∧ ∀ c' : Nat, c' ≠ c.val → t.cell c' = s.cell c') ∧
      t.ctr (ck2 .itemsCompleted it.region it.cls) = satAdd (s.ctr (ck2 .itemsCompleted it.region it.cls)) 1) := by
  have hcell := State.cell_of_getElem? hx
  have hexec := exec_itemComplete (s := s) (c := c) (by rw [hcell]; exact hrun) (by rw [hcell]; exact hdone) used
  obtain ⟨hstarts, hctrs⟩ := (s.itemDone c.val it used).startEval_rules
  obtain ⟨hfree, hothers⟩ := State.itemDone_cell hx it used
  obtain ⟨hgone, hworked, -, -⟩ := (hstarts c.val).values (by rw [hfree]) (by rw [hfree])
  have hwaiting : (s.itemDone c.val it used).isl = s.isl := by simp [State.itemDone]
  refine ⟨_, hexec, ⟨hgone, hworked, fun hnone => ?_, ?_⟩, by simp [changesOnly_iff, State.itemDone]⟩
  · rw [State.startEval_of_none_waiting (by rw [hwaiting]; exact hnone)]
    exact ⟨hfree, hothers⟩
  · exact (((s.itemDone_ctrs c.val it used).mono (by simp)).trans hctrs).counted (by simp [ck2])

/-- A cell whose memory fails is marked as faulted in the beat, whether or not the error is acted on. -/
theorem State.uncorrectable_cellMemory {s : State} {c : Cell} {x : CellSt} (hx : s.sch.cells[c.val]? = some x) :
    ((s.uncorrectable .cellMemory c.val).cell c.val).faultNow = true := by
  obtain ⟨hlt, -⟩ := List.getElem?_eq_some_iff.1 hx
  have hmod : c.val % 64 = c.val := Nat.mod_eq_of_lt c.isLt
  have hcells : (s.reported .cellMemory c.val).sch.cells = modAt s.sch.cells c.val (fun x => { x with faultNow := true }) := by
    simp [State.reported, State.noteFault, State.modCell, hmod]
  have hcell : (s.reported .cellMemory c.val).sch.cells[c.val]? = some { x with faultNow := true } := by
    rw [hcells, modAt_eq_modify, List.getElem?_modify]
    simp [hx]
  rw [State.uncorrectable_eq]
  split
  · rw [State.cell_of_getElem? hcell]
  · have hact : ((s.reported .cellMemory c.val).worsened .cellMemory).actOn .cellMemory c.val =
        ((s.reported .cellMemory c.val).worsened .cellMemory).faultCell c.val 1 := by
      rw [State.actOn, hmod]
    rw [hact]
    exact (State.faultCell_values (s := (s.reported .cellMemory c.val).worsened .cellMemory) hcell 1).2.1

/-- Settles O46. -/
theorem itemsCompleteOrFault : Obligations.ItemsCompleteOrFault := by
  intro c s x hx
  have hcell := State.cell_of_getElem? hx
  refine ⟨fun it hrun => ⟨fun used => ⟨does_itemComplete hx hrun used, fun hneeds hidle => ?_⟩, ?_, ?_⟩,
    fun hidle => ⟨fun used => ?_, ?_, ?_⟩, ?_, ?_⟩
  · have hexec : exec (.itemComplete c used) s = execItemComplete c used s := rfl
    rw [hexec, execItemComplete, hcell, hrun]
    simp [hneeds, hidle]
  · have hexec : exec (.cellWatchdog c) s = execCellWatchdog c s := rfl
    rw [execCellWatchdog, hcell, hrun] at hexec
    obtain ⟨hgone, hnow, hwhen⟩ := State.faultCell_values (s := s.bump (ck1 .watchdogs it.region)) hx 4
    exact does_of_completes ⟨_, hexec, hgone, hnow, hwhen, (State.faultCell_ctrs _ _ _).counted (by simp [ck1])⟩
  · have hexec : exec (.itemLimitReached c) s = execItemLimitReached c s := rfl
    rw [execItemLimitReached, hcell, hrun] at hexec
    exact does_of_completes ⟨_, hexec, State.faultCell_values hx 3⟩
  · have hexec : exec (.itemComplete c used) s = execItemComplete c used s := rfl
    rw [hexec, execItemComplete, hcell, hidle]
  · have hexec : exec (.cellWatchdog c) s = execCellWatchdog c s := rfl
    rw [hexec, execCellWatchdog, hcell, hidle]
  · have hexec : exec (.itemLimitReached c) s = execItemLimitReached c s := rfl
    rw [hexec, execItemLimitReached, hcell, hidle]
  · have hexec : exec (.cellFault c 1) s = execCellFault c 1 s := rfl
    rw [execCellFault, if_neg (by decide)] at hexec
    refine ⟨_, hexec, State.faultCell_values hx 2, ?_⟩
    simp [changesOnly_iff, footprint]
  · have hexec : exec (.cellFault c 0) s = execCellFault c 0 s := rfl
    rw [execCellFault, if_pos rfl] at hexec
    exact does_of_completes ⟨_, hexec, State.uncorrectable_cellMemory hx, s.uncorrectable_ctr .cellMemory c.val⟩

/-! Items that move and start (O45). -/

theorem State.reg_of_getElem? {s : State} {r : Nat} {x : RegSt} (h : s.sch.regs[r]? = some x) : s.reg r = x := by
  simp [State.reg, h]

/-- An item placed in the ready queue stands behind those of its region. -/
theorem State.placeReady_reg (s : State) (it : Item) (r : Nat) :
    ((s.placeReady it).reg r).ready =
      (if r = it.region ∧ it.region < s.sch.regs.length then (s.reg r).ready ++ [it] else (s.reg r).ready) ∧
    ((s.placeReady it).reg r).delay = (s.reg r).delay ∧ ((s.placeReady it).reg r).stalled = (s.reg r).stalled := by
  obtain ⟨-, -, hregs⟩ := State.trace_sameWork (s.modReg it.region (fun g => { g with ready := g.ready ++ [it] })) 0 it 0 0
  obtain ⟨hready, hdelay, hstalled⟩ := hregs r
  rw [State.placeReady, hready, hdelay, hstalled, State.reg_modReg]
  split <;> exact ⟨rfl, rfl, rfl⟩

theorem exec_delayItemDue {s : State} {r : Region} {x : RegSt} (hx : s.sch.regs[r.val]? = some x) (hsteps : s.steps = true)
    {it : Item} (hdelay : x.delay = [it]) : exec (.delayItemDue r) s = .next (s.moveItem r.val it) := by
  have hexec : exec (.delayItemDue r) s = execDelayItemDue r s := rfl
  rw [hexec, execDelayItemDue, if_pos hsteps, State.moveDelay, State.reg_of_getElem? hx, hdelay]
  rfl

/-- A due item that finds room moves to the ready queue. -/
theorem does_delayItemDue_room {s : State} {r : Region} {x : RegSt} (hx : s.sch.regs[r.val]? = some x) (hsteps : s.steps = true)
    {it : Item} (hdelay : x.delay = [it]) (hregion : it.region = r.val) (hdue : s.dueReached it.due = true)
    (hroom : s.readyRoom r.val it.prio = true) : Does (.delayItemDue r) s [.ctrs, .sch] (fun t =>
      (t.reg r.val).delay = [] ∧ (t.reg r.val).ready = x.ready ++ [{ it with origin := 1 }] ∧
      ∀ r' : Nat, r' ≠ r.val → (t.reg r').ready = (s.reg r').ready) := by
  obtain ⟨hlt, -⟩ := List.getElem?_eq_some_iff.1 hx
  have hexec := exec_delayItemDue hx hsteps hdelay
  have hreg := State.reg_of_getElem? hx
  rw [State.moveItem, hdue, hroom, if_neg (by decide), if_pos rfl] at hexec
  generalize hu : s.modReg r.val _ = u at hexec
  have hlen : u.sch.regs.length = s.sch.regs.length := by rw [← hu]; simp [State.modReg, modAt_eq_modify]
  have hplaced (r' : Nat) := u.placeReady_reg { it with origin := 1 } r'
  have hmoved : (u.reg r.val).delay = [] ∧ (u.reg r.val).ready = x.ready := by
    rw [← hu, State.reg_modReg, if_pos ⟨rfl, hlt⟩, hreg, hdelay]
    exact ⟨by simp, rfl⟩
  have hothers (r' : Nat) (hne : r' ≠ r.val) : u.reg r' = s.reg r' := by
    rw [← hu, State.reg_modReg, if_neg (fun h => hne h.1)]
  refine ⟨_, hexec, ⟨?_, ?_, fun r' hne => ?_⟩, ?_⟩
  · rw [(hplaced r.val).2.1, hmoved.1]
  · rw [(hplaced r.val).1, if_pos ⟨hregion.symm, by rw [hlen]; exact hregion ▸ hlt⟩, hmoved.2]
  · rw [(hplaced r').1, if_neg (fun h => hne (h.1.trans hregion)), hothers r' hne]
  · rw [← hu]; simp [changesOnly_iff]

/-- A due item that finds no room stays and is counted late. -/
theorem does_delayItemDue_late {s : State} {r : Region} {x : RegSt} (hx : s.sch.regs[r.val]? = some x) (hsteps : s.steps = true)
    {it : Item} (hdelay : x.delay = [it]) (hdue : s.dueReached it.due = true) (hroom : s.readyRoom r.val it.prio = false)
    (hlate : it.late = false) : Does (.delayItemDue r) s [.ctrs, .sch] (fun t =>
      (t.reg r.val).delay = [{ it with late := true }] ∧ CountsOnce (ck1 .delayLate r.val) s t) := by
  obtain ⟨hlt, -⟩ := List.getElem?_eq_some_iff.1 hx
  have hexec := exec_delayItemDue hx hsteps hdelay
  rw [State.moveItem, hdue, hroom, hlate, if_neg (by decide), if_neg (by decide), if_neg (by decide)] at hexec
  refine ⟨_, hexec, ⟨?_, (State.bump_countsOnce _ _).congr rfl rfl⟩, by simp [changesOnly_iff]⟩
  change ((s.modReg r.val _).reg r.val).delay = _
  rw [State.reg_modReg, if_pos ⟨rfl, hlt⟩, State.reg_of_getElem? hx, hdelay]
  simp

/-! Dispatch (R289). -/

theorem State.noteWait_rules (s : State) (it : Item) :
    (s.noteWait it).sch.cells = s.sch.cells ∧ (s.noteWait it).sch.regs.length = s.sch.regs.length ∧
    CtrsKept [.budgetWaits, .traceDrops] s (s.noteWait it) := by
  unfold State.noteWait
  split
  · exact ⟨rfl, rfl, .refl _ s⟩
  · dsimp only
    generalize hu : s.modReg it.region _ = u
    obtain ⟨hcells, hlen, -⟩ := State.trace_sameWork (u.bump (ck2 .budgetWaits it.region it.cls)) 3 it 0 (u.waitBits it)
    refine ⟨hcells.trans (by rw [← hu]; rfl), hlen.trans (by rw [← hu]; simp [State.modReg, modAt_eq_modify]), ?_⟩
    exact (((CtrsKept.of_ctrs (by rw [← hu]; rfl)).bump (by simp [ck2])).trans ((State.trace_ctrs _ _ _ _ _).mono (by simp)))

/-- The counters of change sets and forces that a scan boundary applies. -/
abbrev scanCtrs : List Ctr := [.resyncs, .forcesApplied, .forcesReleased, .loopConflicts, .changeSetsApplied] ++ dropCtrs

theorem State.adoptTask_ctrs (s : State) (task : Nat) : CtrsKept [.resyncs] s (s.adoptTask task) := by
  unfold State.adoptTask
  split
  · dsimp only
    split
    · exact (CtrsKept.of_ctrs rfl).bump (by simp [ck1])
    · exact .refl _ s
  · exact .refl _ s

theorem State.conflict_ctrs (s : State) (n source : Nat) : CtrsKept scanCtrs s (s.conflict n source) := by
  unfold State.conflict
  dsimp only
  have hbump : CtrsKept scanCtrs s (s.bump (ck1 .loopConflicts n)) := (CtrsKept.refl _ s).bump (by simp [ck1])
  split
  · exact hbump
  · exact hbump.trans (((State.post_ctrs _ _ _ _ _).mono (by simp)).same rfl)

theorem State.ovRecords_ctrs (s : State) (cls : AttClass) (aseq : Nat) (es : List ChangeEntry) :
    CtrsKept dropCtrs s (s.ovRecords cls aseq es) := by
  unfold State.ovRecords
  exact CtrsKept.forAll (fun u i => u.bbxQueue_ctrs _) _ s

theorem State.ovApply_ctrs (s : State) (es : List ChangeEntry) : CtrsKept scanCtrs s (s.ovApply es) := by
  unfold State.ovApply
  dsimp only
  refine CtrsKept.trans ?_ ((State.ovRecords_ctrs _ _ _ _).mono (by simp))
  refine CtrsKept.trans (CtrsKept.bump ?_ (by simp [ck])) ((State.post_ctrs _ _ _ _ _).mono (by simp))
  refine (CtrsKept.forAll ?_ es s).trans (CtrsKept.forAll ?_ _ _)
  · exact fun u e => .of_ctrs (by simp)
  · exact fun u n => u.conflict_ctrs n.1 n.2

/-- The change sets that a scan boundary applies to a task. -/
def State.boundarySets (s : State) (task : Nat) : State :=
  let s := s.adoptTask task
  let sets := s.logic.sets.filter (fun x => x.1 == task)
  forAll sets { s with logic := { s.logic with sets := s.logic.sets.filter (fun x => x.1 != task) } } (fun s x => s.ovApply x.2.2)

/-- The forces that a scan boundary applies to a task or releases. -/
def State.boundaryForces (s : State) (task : Nat) : State :=
  let mine (o : Nat) : Bool := o / 65536 == 0 && varTask (s.rec_ .var (o % 65536)) == task
  let reqs := s.logic.forceReq.filter (fun q => mine q.1)
  forAll reqs { s with logic := { s.logic with forceReq := s.logic.forceReq.filter (fun q => !mine q.1) } } (fun s q =>
    match q.2 with
    | some w => ({ s with logic := { s.logic with forces := aput s.logic.forces q.1 w } }).bump (ck .forcesApplied)
    | none => if (aget s.logic.forces q.1).isSome then
        ({ s with logic := { s.logic with forces := adel s.logic.forces q.1 } }).bump (ck .forcesReleased) else s)

theorem State.scanBoundary_eq (s : State) (task : Nat) : s.scanBoundary task = (s.boundarySets task).boundaryForces task := rfl

theorem State.boundarySets_ctrs (s : State) (task : Nat) : CtrsKept scanCtrs s (s.boundarySets task) := by
  unfold State.boundarySets
  dsimp only
  refine ((s.adoptTask_ctrs task).mono (by simp)).trans (CtrsKept.before (CtrsKept.forAll ?_ _ _) rfl)
  exact fun u x => u.ovApply_ctrs x.2.2

theorem State.boundaryForces_ctrs (s : State) (task : Nat) : CtrsKept scanCtrs s (s.boundaryForces task) := by
  unfold State.boundaryForces
  dsimp only
  refine CtrsKept.before (CtrsKept.forAll ?_ _ _) rfl
  intro u q
  split
  · exact (CtrsKept.of_ctrs rfl).bump (by simp [ck])
  · split
    · exact (CtrsKept.of_ctrs rfl).bump (by simp [ck])
    · exact .refl _ u

theorem State.scanBoundary_ctrs (s : State) (task : Nat) : CtrsKept scanCtrs s (s.scanBoundary task) := by
  rw [State.scanBoundary_eq]
  exact (s.boundarySets_ctrs task).trans (State.boundaryForces_ctrs _ task)

theorem State.takeSnapshot_ctrs (s : State) (it : Item) : CtrsKept scanCtrs s (s.takeSnapshot it) := by
  unfold State.takeSnapshot
  split
  · exact .refl _ s
  · split
    · split
      · exact .refl _ s
      · exact (s.scanBoundary_ctrs _).same rfl
    · exact .refl _ s

/-- An item that starts runs on its cell from now on and has left the ready queue. -/
theorem State.startItem_values {s : State} {c : Nat} (hc : c < s.sch.cells.length) (it : Item) :
    ((s.startItem it c).cell c).run = some it ∧ ((s.startItem it c).cell c).worked = it.written ∧
    ((s.startItem it c).cell c).since = s.lts ∧ (∀ y ∈ ((s.startItem it c).reg it.region).ready, y.seq ≠ it.seq) ∧
    (s.startItem it c).ctr (ck2 .itemsDispatched it.region it.cls) = satAdd (s.ctr (ck2 .itemsDispatched it.region it.cls)) 1 := by
  unfold State.startItem
  dsimp only
  generalize hu : s.modReg it.region _ = u
  have hready : ∀ y ∈ (u.reg it.region).ready, y.seq ≠ it.seq := by
    rw [← hu, State.reg_modReg]
    split
    next => simp
    next hlen =>
      have hnone : s.reg it.region = RegSt.reset := by
        rw [State.reg, List.getD_eq_getElem?_getD, List.getElem?_eq_none (by simpa using hlen)]
        rfl
      rw [hnone]
      simp [RegSt.reset]
  have hctrs : CtrsKept [] s u := .of_ctrs (by rw [← hu]; rfl)
  have hlts : u.lts = s.lts := by rw [← hu]; rfl
  have hcells : u.sch.cells = s.sch.cells := by rw [← hu]; rfl
  generalize hv : (u.chargeStart it).takeSnapshot it = v
  have hwork : SameWork u v := (u.chargeStart_sameWork it).trans (.of_sch (by rw [← hv]; simp))
  have hlts' : v.lts = s.lts := by rw [← hlts, ← hv]; simp [State.lts]
  have hctrs' : CtrsKept (.borrowings :: scanCtrs) s v :=
    (hctrs.mono (by simp)).trans (((u.chargeStart_ctrs it).mono (by simp)).trans
      ((hv ▸ State.takeSnapshot_ctrs (u.chargeStart it) it).mono (by simp)))
  have htrace := State.trace_sameWork ((v.modCell c (fun x => { x with run := some it, since := v.lts, worked := it.written })).bump
    (ck2 .itemsDispatched it.region it.cls)) 1 it c 0
  have hcell : ((((v.modCell c (fun x => { x with run := some it, since := v.lts, worked := it.written })).bump
      (ck2 .itemsDispatched it.region it.cls)).trace 1 it c 0).cell c) =
      { v.cell c with run := some it, since := v.lts, worked := it.written } := by
    rw [htrace.cell]
    exact (State.cell_modCell v c _ c).trans (if_pos ⟨rfl, by rw [hwork.1, hcells]; exact hc⟩)
  rw [hcell]
  refine ⟨rfl, rfl, hlts', ?_, ?_⟩
  · rw [htrace.ready]
    change ∀ y ∈ (v.reg it.region).ready, y.seq ≠ it.seq
    rw [hwork.ready]
    exact hready
  · rw [State.trace_ctrs _ 1 it c 0 _ (by simp [ck2]), State.ctr_bump, if_pos rfl]
    exact congrArg (satAdd · 1) (hctrs' (ck2 .itemsDispatched it.region it.cls) (by simp [ck2]))

/-- The dispatcher starts the first item of the ready order that may run. -/
theorem does_dispatch {s : State} {r : Region} (hsteps : s.steps = true) {it : Item} {c : Nat} {passed : List Item}
    (hpick : s.pickItem [] (s.readyOrder r.val) = some (it, c, passed)) (hc : c < s.sch.cells.length) :
    Does (.dispatch r) s (footprint (.dispatch r)) (fun t =>
      (t.cell c).run = some it ∧ (t.cell c).worked = it.written ∧ (t.cell c).since = s.lts ∧ (∀ y ∈ (t.reg it.region).ready, y.seq ≠ it.seq) ∧
      t.ctr (ck2 .itemsDispatched it.region it.cls) = satAdd (s.ctr (ck2 .itemsDispatched it.region it.cls)) 1) := by
  have hexec : exec (.dispatch r) s = .next ((forAll passed s (fun s x => s.noteWait x)).startItem it c) := by
    have h : exec (.dispatch r) s = execDispatch r s := rfl
    rw [h, execDispatch, if_pos hsteps, State.dispatchOne, hpick]
  obtain ⟨hcells, hctrs, htime⟩ := forAll_inv
    (fun u : State => u.sch.cells = s.sch.cells ∧ CtrsKept [.budgetWaits, .traceDrops] s u ∧ u.time = s.time) _
    (fun u x ⟨hcells, hctrs, htime⟩ =>
      ⟨(u.noteWait_rules x).1.trans hcells, hctrs.trans (u.noteWait_rules x).2.2, by simp [htime]⟩)
    passed s ⟨rfl, .refl _ s, rfl⟩
  generalize forAll passed s _ = u at hexec hcells hctrs htime
  obtain ⟨hrun, hworked, hsince, hgone, hctr⟩ := State.startItem_values (s := u) (by rw [hcells]; exact hc) it
  refine does_of_completes ⟨_, hexec, hrun, hworked, by rw [hsince, State.lts, htime, State.lts], hgone, ?_⟩
  rw [hctr, hctrs _ (by simp [ck2])]

theorem exec_dispatch_of_empty {s : State} {r : Region} {x : RegSt} (hx : s.sch.regs[r.val]? = some x) (hsteps : s.steps = true)
    (hempty : x.ready = []) : exec (.dispatch r) s = .next s := by
  have hexec : exec (.dispatch r) s = execDispatch r s := rfl
  have horder : s.readyOrder r.val = [] := by simp [State.readyOrder, State.reg_of_getElem? hx, hempty]
  rw [hexec, execDispatch, if_pos hsteps, State.dispatchOne, horder]
  rfl

/-! Stalled posts (R299, Table SCH-9). -/

theorem State.placeStalled_of_empty {s : State} {r : Nat} (h : (s.reg r).stalled = []) (row : Bool) (bd : Ns) (n : Nat) :
    State.placeStalled r row bd n s = s := by
  cases n with
  | zero => rfl
  | succ n =>
    rw [State.placeStalled]
    split
    · rfl
    next p hp => simp [h] at hp

/-- A stalled quorum item waits for room outside the row's posts. -/
theorem State.placeStalled_row_of_quorum {s : State} {r : Nat} {it : Item} (h : (s.reg r).stalled = [(.quorum, it)]) (bd : Ns) (n : Nat) :
    State.placeStalled r true bd n s = s := by
  cases n with
  | zero => rfl
  | succ n =>
    rw [State.placeStalled]
    split
    · rfl
    next p hp => simp [h, PostSrc.isRow] at hp

theorem State.postNow_quorum (s : State) (it : Item) :
    s.postNow .quorum it = (s.bump (ck2 .itemsPosted it.region it.cls)).placeReady it := rfl

/-- A stalled quorum item is posted once there is room. -/
theorem State.placeStalled_quorum {s : State} {r : Nat} {it : Item} (h : (s.reg r).stalled = [(.quorum, it)])
    (hregion : it.region = r) (hroom : s.readyRoom r it.prio = true) (bd : Ns) :
    State.placeStalled r false bd 1 s = (s.unstall r false).postNow .quorum it := by
  rw [State.placeStalled]
  split
  next hp => simp [h, PostSrc.isRow] at hp
  next p hp =>
    have hp' : p = (.quorum, it) := by simpa [h, PostSrc.isRow] using hp.symm
    subst hp'
    dsimp only
    rw [if_pos (by simpa [State.postRoom, hregion] using hroom)]
    rfl

theorem does_postRoomAvailable {s : State} {r : Region} {x : RegSt} (hx : s.sch.regs[r.val]? = some x) (hsteps : s.steps = true)
    {it : Item} (hstalled : x.stalled = [(.quorum, it)]) (hregion : it.region = r.val) (hroom : s.readyRoom r.val it.prio = true) :
    Does (.postRoomAvailable r) s (footprint (.postRoomAvailable r)) (fun t =>
      (t.reg r.val).stalled = [] ∧ (t.reg r.val).ready = x.ready ++ [it] ∧
      t.ctr (ck2 .itemsPosted r.val it.cls) = satAdd (s.ctr (ck2 .itemsPosted r.val it.cls)) 1) := by
  obtain ⟨hlt, -⟩ := List.getElem?_eq_some_iff.1 hx
  have hreg := State.reg_of_getElem? hx
  have hwaits : (s.reg r.val).stalled = [(.quorum, it)] := by rw [hreg, hstalled]
  have hexec : exec (.postRoomAvailable r) s = .next ((s.unstall r.val false).postNow .quorum it) := by
    have h : exec (.postRoomAvailable r) s = execPostRoomAvailable r s := rfl
    rw [h, execPostRoomAvailable, if_pos hsteps]
    dsimp only
    rw [State.placeStalled_row_of_quorum hwaits, hwaits, List.length_singleton, State.placeStalled_quorum hwaits hregion hroom]
  rw [State.postNow_quorum] at hexec
  generalize hu : (s.unstall r.val false).bump (ck2 .itemsPosted it.region it.cls) = u at hexec
  have hstays : (u.reg r.val).stalled = [] ∧ (u.reg r.val).ready = x.ready ∧ u.sch.regs.length = s.sch.regs.length := by
    have hunstalled : u.reg r.val = (s.unstall r.val false).reg r.val := by rw [← hu]; rfl
    rw [hunstalled, State.unstall, State.reg_modReg, if_pos ⟨rfl, hlt⟩, hwaits, hreg]
    exact ⟨by simp [PostSrc.isRow], rfl, by rw [← hu]; simp [State.unstall, State.modReg, modAt_eq_modify]⟩
  obtain ⟨hnone, hready, hlen⟩ := hstays
  obtain ⟨hready', -, hstalled'⟩ := u.placeReady_reg it r.val
  refine does_of_completes ⟨_, hexec, by rw [hstalled', hnone], ?_, ?_⟩
  · rw [hready', if_pos ⟨hregion.symm, by rw [hlen, hregion]; exact hlt⟩, hready]
  · have hkept : CtrsKept [.traceDrops] u (u.placeReady it) := (State.trace_ctrs _ _ _ _ _).before rfl
    rw [hkept _ (by simp [ck2]), ← hu, State.ctr_bump, if_pos (by rw [hregion]), hregion]
    rfl

/-- Settles O45. -/
theorem itemsMoveAndStart : Obligations.ItemsMoveAndStart := by
  intro r s x hx
  refine ⟨fun hsteps => ⟨fun it hdelay hregion => ⟨does_delayItemDue_room hx hsteps hdelay hregion,
    does_delayItemDue_late hx hsteps hdelay, fun hearly => ?_⟩, fun it c passed => does_dispatch hsteps,
    exec_dispatch_of_empty hx hsteps, fun it => does_postRoomAvailable hx hsteps, fun hnone => ?_⟩, fun hstill => ⟨?_, ?_, ?_⟩⟩
  · rw [exec_delayItemDue hx hsteps hdelay, State.moveItem, if_pos (by simp [hearly])]
  · have hexec : exec (.postRoomAvailable r) s = execPostRoomAvailable r s := rfl
    have hempty : (s.reg r.val).stalled = [] := by rw [State.reg_of_getElem? hx, hnone]
    rw [hexec, execPostRoomAvailable, if_pos hsteps]
    dsimp only
    rw [State.placeStalled_of_empty hempty, State.placeStalled_of_empty hempty]
  · have hexec : exec (.delayItemDue r) s = execDelayItemDue r s := rfl
    rw [hexec, execDelayItemDue, if_neg (by simp [hstill])]
  · have hexec : exec (.dispatch r) s = execDispatch r s := rfl
    rw [hexec, execDispatch, if_neg (by simp [hstill])]
  · have hexec : exec (.postRoomAvailable r) s = execPostRoomAvailable r s := rfl
    rw [hexec, execPostRoomAvailable, if_neg (by simp [hstill])]

end Sys2Proof.Machine

/-! The counters that a read returns at a beat boundary (O44). -/

namespace Sys2Proof.Machine

/-! What a boundary does leaves the values that a read of a counter returns; only its beginning latches them. -/

@[simp] theorem State.uncarried_ctrsAt (s : State) (bd : Ns) : (State.uncarried s bd).ctrsAt = s.ctrsAt := by
  simp [State.uncarried]

@[simp] theorem State.applyDue_ctrsAt (s : State) (x : SetDue) : (State.applyDue s x).ctrsAt = s.ctrsAt := by
  unfold State.applyDue
  repeat' split
  all_goals simp

@[simp] theorem State.applySets_ctrsAt (s : State) (bd : Ns) : (State.applySets s bd).ctrsAt = s.ctrsAt := by
  simp [State.applySets]

@[simp] theorem State.boundaryMoves_ctrsAt (s : State) (bd : Ns) : (State.boundaryMoves s bd).ctrsAt = s.ctrsAt := by
  simp [State.boundaryMoves]

@[simp] theorem State.readSensors_ctrsAt (s : State) (b : BoundaryIn) : (State.readSensors s b).ctrsAt = s.ctrsAt := by
  simp [State.readSensors]

@[simp] theorem State.thermal_ctrsAt (s : State) (r : Nat) : (State.thermal s r).ctrsAt = s.ctrsAt := by
  unfold State.thermal
  dsimp only
  repeat' split
  all_goals simp

@[simp] theorem State.refreshBudgets_ctrsAt (s : State) (r : Nat) : (State.refreshBudgets s r).ctrsAt = s.ctrsAt := by
  simp [State.refreshBudgets]

@[simp] theorem State.quarantine_ctrsAt (s : State) : (State.quarantine s).ctrsAt = s.ctrsAt := by
  unfold State.quarantine
  dsimp only
  repeat' split
  all_goals simp

@[simp] theorem State.chargeOwed_ctrsAt (s : State) : (State.chargeOwed s).ctrsAt = s.ctrsAt := by
  simp [State.chargeOwed]

@[simp] theorem State.boundaryGuard_ctrsAt (s : State) (b : BoundaryIn) : (State.boundaryGuard s b).ctrsAt = s.ctrsAt := by
  simp [State.boundaryGuard]

@[simp] theorem State.rowEntryAct_ctrsAt (s : State) (r row : Nat) (bd : Ns) (e : Nat) : (State.rowEntryAct s r row bd e).ctrsAt = s.ctrsAt := by
  unfold State.rowEntryAct
  dsimp only
  repeat' split
  all_goals simp

@[simp] theorem State.dropUnplaced_ctrsAt (s : State) (r : Nat) : (State.dropUnplaced s r).ctrsAt = s.ctrsAt := by
  refine forAll_inv (fun u : State => u.ctrsAt = s.ctrsAt) _ (fun u p hu => ?_) _ _ rfl
  split
  next =>
    split
    · simpa using hu
    · exact hu
  next => exact hu

@[simp] theorem State.stepRow_ctrsAt (s : State) (k : Nat) (bd : Ns) (r : Nat) : (State.stepRow s k bd r).ctrsAt = s.ctrsAt := by
  simp [State.stepRow]

@[simp] theorem State.replayGroups_ctrsAt (s : State) (r : Nat) (w : Row) : (State.replayGroups s r w).ctrsAt = s.ctrsAt := by
  simp [State.replayGroups]

@[simp] theorem State.replayParts_ctrsAt (s : State) (r : Nat) (w : Row) : (State.replayParts s r w).ctrsAt = s.ctrsAt := by
  simp [State.replayParts]

@[simp] theorem State.feedRows_ctrsAt (s : State) (x : ReplaySt) (h : Ns) : (State.feedRows s x h).ctrsAt = s.ctrsAt := by
  refine State.feedRows_inv (fun u : State => u.ctrsAt = s.ctrsAt)
    ?_ ?_ s x h rfl
  · intro u r w hu
    simpa using hu
  · intro u r w hu
    simpa using hu

@[simp] theorem State.feedScans_ctrsAt (s : State) (x : ReplaySt) (h : Ns) : (State.feedScans s x h).ctrsAt = s.ctrsAt := by
  simp [State.feedScans]

@[simp] theorem State.feedReplay_ctrsAt (s : State) (bd : Ns) : (State.feedReplay s bd).ctrsAt = s.ctrsAt := by
  refine State.feedReplay_inv (fun u : State => u.ctrsAt = s.ctrsAt)
    ?_ ?_ (fun _ _ hu => hu) s bd rfl
  · intro u x h hu
    simpa using hu
  · intro u x h hu
    simpa using hu

@[simp] theorem State.regateAlarms_ctrsAt (s : State) : (State.regateAlarms s).ctrsAt = s.ctrsAt := by
  simp [State.regateAlarms]

@[simp] theorem State.latchDigest_ctrsAt (s : State) (bd : Ns) (agrees : Bool) : (State.latchDigest s bd agrees).ctrsAt = s.ctrsAt := by
  unfold State.latchDigest
  dsimp only
  repeat' split
  all_goals simp

@[simp] theorem State.boundaryPaths_ctrsAt (s : State) : (State.boundaryPaths s).ctrsAt = s.ctrsAt := by
  unfold State.boundaryPaths
  dsimp only
  repeat' split
  all_goals simp

@[simp] theorem State.boundaryWork_ctrsAt (s : State) (k : Nat) (bd : Ns) : (State.boundaryWork s k bd).ctrsAt = s.ctrsAt := by
  simp [State.boundaryWork]

/-! The mode machine (R44): a boundary that restarts the device leaves no beats running. -/

/-- After an event beats do not run, or what a read of a counter returns is as before. -/
theorem State.takeEvent_ctrsAt (s : State) (bd : Ns) (e : Ev) (hruns : (s.takeEvent bd e).beatsRun = true) :
    (s.takeEvent bd e).ctrsAt = s.ctrsAt := by
  have hstart (u : State) (k : Nat) (restart : Bool) (v : State) (hboot : v.boot = (u.startBy k restart).boot) : v.beatsRun = false := by
    obtain ⟨hb, -⟩ := u.startBy_values k restart
    rw [State.beatsRun, hboot, hb]
    rfl
  cases e with
  | tamper => simp [State.takeEvent]
  | critical => simp [State.takeEvent]
  | nonCritical =>
    unfold State.takeEvent
    dsimp only
    split <;> simp
  | partnerAbsent => simp [State.takeEvent]
  | svcKeyReleased => simp [State.takeEvent]
  | restart operator =>
    have hboot : ∃ u : State, s.restartNow.boot = (u.startBy 21 true).boot := ⟨_, rfl⟩
    obtain ⟨u, hboot⟩ := hboot
    exact absurd hruns (by rw [hstart u 21 true (s.takeEvent bd (.restart operator)) hboot]; decide)
  | pinReset => exact absurd hruns (by rw [hstart s 21 false (s.takeEvent bd .pinReset) rfl]; decide)

theorem State.takeEvents_ctrsAt (s : State) (bd : Ns) (hruns : (s.takeEvents bd).1.beatsRun = true) :
    (s.takeEvents bd).1.ctrsAt = s.ctrsAt := by
  unfold State.takeEvents at hruns ⊢
  generalize s.boot.evs ++ (if s.marginLost then [Ev.nonCritical] else []) ++ (if s.takeoverDue then [Ev.partnerAbsent] else []) = es
    at hruns ⊢
  dsimp only at hruns ⊢
  split
  next e he =>
    rw [he] at hruns
    dsimp only at hruns ⊢
    generalize hu : State.bumpBy _ _ _ = u at hruns ⊢
    have hkept : u.ctrsAt = s.ctrsAt := by rw [← hu]; rfl
    by_cases ht : (u.takeEvent bd e).beatsRun = true
    · rw [if_pos ht, (State.modeEntered_frame _).2.2.2.1, State.takeEvent_ctrsAt u bd e ht, hkept]
    · rw [if_neg ht] at hruns
      exact absurd hruns ht
  next => simp

theorem State.boundaryModes_ctrsAt (s : State) (bd : Ns) (hruns : (s.boundaryModes bd).beatsRun = true) :
    (s.boundaryModes bd).ctrsAt = s.ctrsAt := by
  unfold State.boundaryModes at hruns ⊢
  generalize hr : (if s.boot.mode = .loading then (({ s with boot := { s.boot with evs := [] } } : State).firstBoundary bd, true)
    else s.takeEvents bd) = r at hruns ⊢
  have hfirst (h : r.1.beatsRun = true) : r.1.ctrsAt = s.ctrsAt := by
    rw [← hr] at h ⊢
    split
    · simp
    next hmode => rw [if_neg hmode] at h; exact s.takeEvents_ctrsAt bd h
  dsimp only at hruns ⊢
  by_cases hbeats : r.1.beatsRun = true
  · rw [if_neg (by simp [hbeats])]
    split <;> simp [hfirst hbeats]
  · rw [if_pos (by simp [hbeats])] at hruns
    exact absurd hruns hbeats

/-- The device once the requests and modes of a boundary are settled. -/
def State.boundaryOpened (s : State) (bd : Ns) : State :=
  ((State.boundaryBegin { s with emp := { s.emp with replies := [] } }).uncarried bd).boundaryPaths.boundaryModes bd

/-- What follows where beats run on, up to the end of the boundary. -/
def State.boundaryBody (s : State) (b : BoundaryIn) (k : Nat) (bd : Ns) : State :=
  let s := (s.boundaryMoves bd).boundaryGuard b
  let s := if s.steps then s.boundaryWork k bd else s.captureBoundary
  if s.paired then s.woideSend s.digestBody else s

theorem State.beatBoundary_eq (s : State) (b : BoundaryIn) (k : Nat) (bd : Ns) : s.beatBoundary b k bd =
    if (s.boundaryOpened bd).beatsRun then ((s.boundaryOpened bd).boundaryBody b k bd).boundaryEnd k bd b.shadowAgrees
    else s.boundaryOpened bd := by
  cases h : (s.boundaryOpened bd).beatsRun with
  | false => exact if_pos (by simpa [State.boundaryOpened] using h)
  | true => exact if_neg (by simpa [State.boundaryOpened] using h)

theorem State.boundaryBody_ctrsAt (s : State) (b : BoundaryIn) (k : Nat) (bd : Ns) : (s.boundaryBody b k bd).ctrsAt = s.ctrsAt := by
  unfold State.boundaryBody
  dsimp only
  split <;> split <;> simp

/-- What a boundary that ends makes new. -/
theorem State.boundaryEnd_values (s : State) (k : Nat) (bd : Ns) (agrees : Bool) :
    (s.boundaryEnd k bd agrees).sch.beat = some (k, bd) ∧ (s.boundaryEnd k bd agrees).ctrsAt = s.ctrsAt ∧
    (∀ c ∈ (s.boundaryEnd k bd agrees).sch.cells, c.faultNow = false) ∧
    ∀ q ∈ (s.boundaryEnd k bd agrees).swage.queues, q.faultNow = false := by
  unfold State.boundaryEnd
  dsimp only
  generalize hu : (s.latchDigest bd agrees).burnEpoch = u
  refine ⟨rfl, by rw [← hu]; simp, fun c hc => ?_, fun q hq => ?_⟩
  · obtain ⟨x, -, rfl⟩ := List.mem_map.1 hc
    rfl
  · obtain ⟨x, -, rfl⟩ := List.mem_map.1 hq
    rfl

/-- Settles O44. -/
theorem beatBoundaryIsActedOnOnce : Obligations.BeatBoundaryIsActedOnOnce := by
  intro b s
  refine ⟨fun hdue => ?_, fun hdone => ?_⟩
  · have hexec : exec (.beatBoundary b) s = execBeatBoundary b s := rfl
    rw [execBeatBoundary, if_pos hdue] at hexec
    refine does_of_completes ⟨_, hexec, fun hruns => ?_⟩
    rw [State.beatBoundary_eq] at hruns ⊢
    by_cases hbeats : (s.boundaryOpened s.presentBoundary.2).beatsRun = true
    · rw [if_pos hbeats]
      obtain ⟨hbeat, hat, hcells, hqueues⟩ := ((s.boundaryOpened s.presentBoundary.2).boundaryBody b s.presentBoundary.1
        s.presentBoundary.2).boundaryEnd_values s.presentBoundary.1 s.presentBoundary.2 b.shadowAgrees
      refine ⟨hbeat, ?_, hcells, hqueues⟩
      rw [hat, State.boundaryBody_ctrsAt, State.boundaryOpened, State.boundaryModes_ctrsAt _ _ hbeats, State.boundaryPaths_ctrsAt,
        State.uncarried_ctrsAt]
      rfl
    · rw [if_neg hbeats] at hruns
      exact absurd hruns hbeats
  · have hexec : exec (.beatBoundary b) s = execBeatBoundary b s := rfl
    rw [hexec, execBeatBoundary, if_neg (by simp [hdone])]

end Sys2Proof.Machine

/-! Lemmas and proofs of the statements on replayed frames, the capture engine's triggers, tokens and roles (O34, O40, O43). -/

namespace Sys2Proof.Machine

/-! Replayed frames (R227, R228). -/

/-- The frame of a lane in REPLAY, once it is due. -/
theorem State.replayFrame_of_due {s : State} {lane : Nat} {x : ReplaySt} (hx : s.swage.replay = some x) {n : Nat} {tau : Ns}
    (hn : n = (if lane = 0 then x.n0 else x.n1))
    (htau : tau = n * 1000000000 / (if frontEndReplayFast (s.rec_ .frontEnd 0) = 1 then 38400 else 9600))
    (hmode : s.boot.mode = .replay) (hlane : bitAt x.mask lane = true) (hopen : tau < x.lengthMs * 1000000)
    (hdue : ((x.p0 + tau : Nat) : Int) + signed 32 (frontEndReplayOffset (s.rec_ .frontEnd 0)) ≤ (s.dt : Int)) :
    let t := s.replayFrame lane
    ChangesOnly [.ctrs, .swage, .free] s t ∧
      t.swage.replay = some (if lane = 0 then { x with n0 := n + 1 } else { x with n1 := n + 1 }) ∧
      ((∃ o, t.swage.out = o :: s.swage.out.filter (fun o => o.lane != lane) ∧ o.lane = lane ∧ o.seq = n % 65536 ∧
          o.codes.length = (if lane = 0 then x.lane0 else x.lane1).length ∧
          o.bytes = outBytes (n % 65536) (frontEndReplayWidth (s.rec_ .frontEnd 0)) o.codes) ∨
       (t.swage.out = s.swage.out ∧ CountsOnce (ck1 .underruns lane) s t)) := by
  intro t
  have hsent : (s.boot.mode != .replay || !bitAt x.mask lane ||
      decide ((s.dt : Int) < ((x.p0 + tau : Nat) : Int) + signed 32 (frontEndReplayOffset (s.rec_ .frontEnd 0))) ||
      decide (x.lengthMs * 1000000 ≤ tau)) = false := by
    rw [hmode, hlane, decide_eq_false (Int.not_lt.2 hdue), decide_eq_false (Nat.not_le.2 hopen)]
    rfl
  have ht : t = s.replayFrame lane := rfl
  unfold State.replayFrame at ht
  dsimp only at ht
  rw [hx] at ht
  dsimp only at ht
  rw [← hn, ← htau, hsent, if_neg (by decide)] at ht
  generalize hu : State.draw _ = u at ht
  split at ht
  · refine ⟨?_, ?_, .inr ⟨?_, ?_⟩⟩
    · rw [ht, ← hu]; simp [changesOnly_iff]
    · rw [ht, ← hu]; rfl
    · rw [ht, ← hu]; rfl
    · rw [ht]; exact (u.bump_countsOnce _).congr (by rw [← hu]; rfl) rfl
  · refine ⟨?_, ?_, .inl ⟨_, by rw [ht, ← hu]; rfl, rfl, rfl, by simp, rfl⟩⟩
    · rw [ht, ← hu]; simp [changesOnly_iff]
    · rw [ht, ← hu]; rfl

/-- Settles O34. -/
theorem replayFramesLeave : Obligations.ReplayFramesLeave := by
  intro lane s x n tau hx hn htau
  have hexec : exec (.replayFrameOut lane) s = .next (s.replayFrame lane.val) := rfl
  refine ⟨fun hmode hlane hopen hdue => ?_, fun hnot => ?_⟩
  · obtain ⟨hframe, hreplay, hout⟩ := State.replayFrame_of_due hx hn htau hmode hlane hopen hdue
    exact ⟨_, hexec, ⟨hreplay, hout⟩, hframe⟩
  · have hstays : (s.boot.mode != .replay || !bitAt x.mask lane.val ||
        decide ((s.dt : Int) < ((x.p0 + tau : Nat) : Int) + signed 32 (frontEndReplayOffset (s.rec_ .frontEnd 0))) ||
        decide (x.lengthMs * 1000000 ≤ tau)) = true := by
      obtain h | h | h | h := hnot
      · simp [h]
      · simp [h]
      · simp [h]
      · rw [decide_eq_true h]
        simp
    rw [hexec, State.replayFrame]
    dsimp only
    rw [hx]
    dsimp only
    rw [← hn, ← htau, hstays, if_pos rfl]

/-! Triggers (R339 to R341). -/

/-- The counters of a trigger's effect on the classes. -/
abbrev trigCtrs : List Ctr :=
  [.triggersRefused, .captureFull, .laterTriggers, .queuedTriggers, .overwrittenRecords, .recordsStarted, .oversizeTx, .queueHolds]

theorem State.startRec_trigs {s t : State} {c : Nat} {x : Trig} (h : s.startRec c x = some t) :
    t.cap.trigs = s.cap.trigs ∧ CtrsKept trigCtrs s t := by
  unfold State.startRec at h
  dsimp only at h
  obtain ⟨-, hstarted⟩ := Option.ite_none_left_eq_some.1 h
  obtain rfl := Option.some.inj hstarted
  refine ⟨rfl, ?_⟩
  exact CtrsKept.same ((CtrsKept.bumpBy (.of_ctrs rfl) (by simp [ck]) _).bump (by simp [ck1])) rfl

theorem State.trigFor_trigs (s : State) (x : Trig) (c : Nat) :
    (s.trigFor x c).cap.trigs = s.cap.trigs ∧ CtrsKept trigCtrs s (s.trigFor x c) := by
  unfold State.trigFor
  dsimp only
  generalize hu : s.modCap c _ = u
  have htrigs : u.cap.trigs = s.cap.trigs := by rw [← hu]; rfl
  have hctrs : CtrsKept trigCtrs s u := .of_ctrs (by rw [← hu]; rfl)
  split
  · exact ⟨htrigs, hctrs.bump (by simp [ck1])⟩
  · split
    · exact ⟨htrigs, hctrs⟩
    · split
      next t ht =>
        obtain ⟨htrigs', hctrs'⟩ := State.startRec_trigs ht
        exact ⟨htrigs'.trans htrigs, hctrs.trans hctrs'⟩
      · exact ⟨by simpa using htrigs, hctrs.trans (u.bumpOnce_ctrs _ _ (by simp [ck1]) (by simp))⟩
    · exact ⟨htrigs, CtrsKept.same (CtrsKept.bump (hctrs.same rfl) (by simp [ck1])) rfl⟩
    · exact ⟨htrigs, CtrsKept.same (CtrsKept.bump (hctrs.same rfl) (by simp [ck1])) rfl⟩

/-- A trigger that a source record made is counted once, and what waits behind it stays. -/
theorem State.takeTrig_values {s : State} {x : Trig} (hkind : x.kind < 6) :
    (s.takeTrig x).cap.trigs = s.cap.trigs ∧ (s.takeTrig x).ctr (ck1 .triggersTaken x.src) = satAdd (s.ctr (ck1 .triggersTaken x.src)) 1 := by
  have hdrive (u : State) : u.driveXtrig.cap.trigs = u.cap.trigs ∧ CtrsKept [.xtrigPulses] u u.driveXtrig := by
    unfold State.driveXtrig
    dsimp only
    split
    · exact ⟨rfl, .of_ctrs rfl⟩
    · exact ⟨rfl, CtrsKept.bump (.of_ctrs rfl) (by simp [ck])⟩
  unfold State.takeTrig
  dsimp only
  rw [if_pos hkind]
  generalize hv : (if (x.drive && (s.bump (ck1 .triggersTaken x.src)).drivesXtrig) = true then
    (s.bump (ck1 .triggersTaken x.src)).driveXtrig else s.bump (ck1 .triggersTaken x.src)) = v
  have hdriven : v.cap.trigs = s.cap.trigs ∧ CtrsKept (.xtrigPulses :: trigCtrs) (s.bump (ck1 .triggersTaken x.src)) v := by
    rw [← hv]
    split
    · exact ⟨(hdrive _).1, (hdrive _).2.mono (by simp)⟩
    · exact ⟨rfl, .refl _ _⟩
  obtain ⟨htrigs, hctrs⟩ := forAll_inv
    (fun u : State => u.cap.trigs = s.cap.trigs ∧ CtrsKept (.xtrigPulses :: trigCtrs) (s.bump (ck1 .triggersTaken x.src)) u)
    (fun u c => u.trigFor x c)
    (fun u c ⟨htrigs, hctrs⟩ => ⟨(u.trigFor_trigs x c).1.trans htrigs, hctrs.trans ((u.trigFor_trigs x c).2.mono (by simp))⟩)
    (v.capClasses.filter (bitAt x.mask)) v hdriven
  exact ⟨htrigs, hctrs.counted (by simp [ck1])⟩

theorem exec_captureTrigger {s : State} (hdt : s.dtRuns = true) (hstamps : s.cap.stamps = []) {x : Trig} {rest : List Trig}
    (htrigs : s.cap.trigs = x :: rest) : exec .captureTrigger s = .next (
      if s.boot.mode == .replay && decide (2 ≤ x.kind) && decide (x.kind < 6) then { s with cap := { s.cap with trigs := rest } }
      else State.takeTrig { s with cap := { s.cap with trigs := rest } } x) := by
  have hexec : exec .captureTrigger s = execCaptureTrigger s := rfl
  rw [hexec, execCaptureTrigger, if_pos hdt, State.captureTrigger]
  dsimp only
  rw [hstamps, htrigs]
  rfl

/-- Settles O40. -/
theorem captureTakesTriggers : Obligations.CaptureTakesTriggers := by
  intro s
  refine ⟨fun hdt hstamps => ⟨fun x rest htrigs => ⟨fun hkind hmode => ?_, fun hlow hhigh hmode => ?_⟩, fun hnone => ?_⟩,
    fun hdt => ?_, fun start stop hpulse => ⟨fun hover => ?_, fun hruns => ?_⟩, fun hnone => ?_⟩
  · have hexec := exec_captureTrigger hdt hstamps htrigs
    rw [if_neg (by simp [hmode])] at hexec
    exact does_of_completes ⟨_, hexec, State.takeTrig_values (s := { s with cap := { s.cap with trigs := rest } }) hkind⟩
  · have hexec := exec_captureTrigger hdt hstamps htrigs
    rw [if_pos (by simp [hmode, hlow, hhigh])] at hexec
    exact ⟨_, hexec, rfl, by simp [changesOnly_iff]⟩
  · have hexec : exec .captureTrigger s = execCaptureTrigger s := rfl
    rw [hexec, execCaptureTrigger, if_pos hdt, State.captureTrigger]
    dsimp only
    rw [hstamps, hnone]
    rfl
  · have hexec : exec .captureTrigger s = execCaptureTrigger s := rfl
    rw [hexec, execCaptureTrigger, if_neg (by simp [hdt])]
  · have hexec : exec .xtrigPulseEnd s = execXtrigPulseEnd s := rfl
    rw [execXtrigPulseEnd, hpulse] at hexec
    dsimp only at hexec
    rw [if_pos hover] at hexec
    exact ⟨_, hexec, rfl, by simp [changesOnly_iff]⟩
  · have hexec : exec .xtrigPulseEnd s = execXtrigPulseEnd s := rfl
    rw [hexec, execXtrigPulseEnd, hpulse]
    dsimp only
    rw [if_neg (Nat.not_le_of_lt hruns)]
  · have hexec : exec .xtrigPulseEnd s = execXtrigPulseEnd s := rfl
    rw [hexec, execXtrigPulseEnd, hnone]

/-! Roles and tokens (R383, R401, R402). -/

/-- What a pair keeps while frames are built: the role, the boundary at which it is left, the note of a split brain, the position. -/
def PairSt.roles (p : PairSt) : Role × Option Ns × Bool × Bool := (p.role, p.leaveAt, p.split, p.posB)

theorem PairSt.roles_values {p p' : PairSt} (h : p'.roles = p.roles) :
    p'.role = p.role ∧ p'.leaveAt = p.leaveAt ∧ p'.split = p.split ∧ p'.posB = p.posB := by
  simpa [PairSt.roles] using h

theorem State.woideBuild_roles (s : State) (seq : Nat) (b : WoideBody) : (s.woideBuild seq b).pair.roles = s.pair.roles := by
  simp [State.woideBuild, PairSt.roles]

theorem State.woideFlush_roles (n : Nat) (s : State) : (State.woideFlush n s).pair.roles = s.pair.roles := by
  induction n generalizing s with
  | zero => rfl
  | succ n ih =>
    rw [State.woideFlush]
    split
    · rfl
    · split
      · dsimp only
        rw [ih, State.woideBuild_roles]
        rfl
      · rfl

theorem State.urgent_roles (s : State) (b : WoideBody) : (s.urgent b).pair.roles = s.pair.roles := by
  unfold State.urgent
  dsimp only [State.modPort]
  rw [State.woideFlush_roles]
  rfl

theorem State.mirror_roles (s : State) (b : WoideBody) : (s.mirror b).pair.roles = s.pair.roles := by
  unfold State.mirror
  dsimp only
  split
  · rw [State.woideFlush_roles]
    rfl
  · rfl

theorem State.post_roles (s : State) (lvl : Nat) (cls : AttClass) (src detail : Nat) :
    (s.post lvl cls src detail).pair.roles = s.pair.roles := by
  unfold State.post
  rw [State.mirror_roles]

theorem State.postOnce_roles (s : State) (lvl : Nat) (cls : AttClass) (k : CtrKey) (detail : Nat) :
    (s.postOnce lvl cls k detail).pair.roles = s.pair.roles := by
  unfold State.postOnce
  split
  · rfl
  · exact s.post_roles lvl cls _ detail

theorem State.bbxDrop_roles (s : State) : s.bbxDrop.pair.roles = s.pair.roles := by
  unfold State.bbxDrop
  dsimp only
  split
  · rfl
  · rw [State.bump_pair, State.postOnce_roles]
    rfl

theorem State.bbxQueue_roles (s : State) (r : BbxRec) : (s.bbxQueue r).pair.roles = s.pair.roles := by
  unfold State.bbxQueue
  dsimp only
  repeat' split
  · rfl
  all_goals rw [State.bbxDrop_roles]

theorem State.bbxWith_roles (s : State) (lvl : Nat) (cls : AttClass) (src detail event : Nat) (payload : Bytes) :
    (s.bbxWith lvl cls src detail event payload).pair.roles = s.pair.roles :=
  (State.bbxQueue_roles _ _).trans (s.post_roles lvl cls src detail)

/-- A primary that leaves names the boundary, and stays the primary until then. -/
theorem State.releaseRole_of_primary {s : State} (hpaired : s.paired = true) (hrole : s.pair.role = .primary) (e : Ns) :
    (s.releaseRole e).pair.roles = (Role.primary, some e, s.pair.split, s.pair.posB) := by
  rw [State.releaseRole, if_pos (by simp [hpaired, hrole]), ← hrole]
  dsimp only
  split
  · rw [State.urgent_roles]
    rfl
  · rfl

theorem State.releaseRole_split (s : State) (e : Ns) : (s.releaseRole e).pair.split = s.pair.split := by
  by_cases h : s.paired = true ∧ s.pair.role = .primary
  · exact congrArg (fun x => x.2.2.1) (State.releaseRole_of_primary h.1 h.2 e)
  · rw [State.releaseRole, if_neg (by simpa using h)]

theorem State.urgent_ctrs (s : State) (b : WoideBody) : CtrsKept [.oversizeTx, .queueHolds] s (s.urgent b) := by
  unfold State.urgent
  dsimp only [State.modPort]
  exact (CtrsKept.before (CtrsKept.of_frames (State.woideFlush_framesPlaced 128 { s with pair := { s.pair with backlog := b :: s.pair.backlog } }))
    rfl).same rfl

theorem State.releaseRole_ctrs (s : State) (e : Ns) : CtrsKept [.oversizeTx, .queueHolds] s (s.releaseRole e) := by
  unfold State.releaseRole
  dsimp only
  split
  · split
    · exact (State.urgent_ctrs _ _).before rfl
    · exact .of_ctrs rfl
  · exact .refl _ s

/-- The split brain, noted and counted. -/
def State.splitNoted (s : State) : State := (s.modPair (fun p => { p with split := true })).bump (ck .splitBrains)

/-- The restart that a split brain asks for at the next boundary. -/
def State.asksRestart (s : State) : State := { s with boot := { s.boot with evs := s.boot.evs ++ [.restart false] } }

theorem exec_splitBrain {s : State} (hseen : s.splitSeen = true) (hsplit : s.pair.split = false) :
    exec .splitBrain s = .next (if s.pair.posB then
      (s.splitNoted.bbxWith 6 .fault 0x001D0000 0 0x0050 [2#8, 0#8]).asksRestart.releaseRole
        (nextBoundary (s.splitNoted.bbxWith 6 .fault 0x001D0000 0 0x0050 [2#8, 0#8]).asksRestart.dt)
      else s.splitNoted.post 6 .fault 0x001D0000 0) := by
  have hexec : exec .splitBrain s = execSplitBrain s := rfl
  rw [hexec, execSplitBrain, if_neg (by simp [hseen, hsplit])]
  rfl

/-- A primary that finds its partner primary. -/
theorem does_splitBrain {s : State} (hseen : s.splitSeen = true) (hsplit : s.pair.split = false) :
    Does .splitBrain s (footprint .splitBrain) (fun t => t.pair.split = true ∧
      t.ctr (ck .splitBrains) = satAdd (s.ctr (ck .splitBrains)) 1 ∧ t.boot.mode = s.boot.mode ∧
      (s.pair.posB = true → t.boot.evs = s.boot.evs ++ [.restart false]) ∧ (s.pair.posB = false → t.boot.evs = s.boot.evs)) := by
  have hexec := exec_splitBrain hseen hsplit
  have hnoted : CtrsKept [] (s.bump (ck .splitBrains)) s.splitNoted := .of_ctrs rfl
  refine does_of_completes ⟨_, hexec, ?_⟩
  cases hpos : s.pair.posB with
  | true =>
    rw [if_pos rfl]
    have hboot : (s.splitNoted.bbxWith 6 .fault 0x001D0000 0 0x0050 [2#8, 0#8]).boot = s.boot := by simp [State.splitNoted, State.modPair]
    obtain ⟨-, -, hsplit, -⟩ := PairSt.roles_values (s.splitNoted.bbxWith_roles 6 .fault 0x001D0000 0 0x0050 [2#8, 0#8])
    have hctrs := s.splitNoted.bbxWith_ctrs 6 .fault 0x001D0000 0 0x0050 [2#8, 0#8]
    generalize s.splitNoted.bbxWith 6 .fault 0x001D0000 0 0x0050 [2#8, 0#8] = u at hboot hsplit hctrs ⊢
    have hboot' : (u.asksRestart.releaseRole (nextBoundary u.asksRestart.dt)).boot = { s.boot with evs := s.boot.evs ++ [.restart false] } := by
      rw [← hboot]
      simp [State.asksRestart]
    refine ⟨(State.releaseRole_split _ _).trans hsplit, ?_, by rw [hboot'], fun _ => by rw [hboot'], fun h => nomatch h⟩
    have hall : CtrsKept dropCtrs (s.bump (ck .splitBrains)) (u.asksRestart.releaseRole (nextBoundary u.asksRestart.dt)) :=
      (hnoted.mono (by simp)).trans (hctrs.trans (((State.releaseRole_ctrs _ _).mono (by simp)).before rfl))
    exact hall.counted (by simp [ck])
  | false =>
    rw [if_neg (by decide)]
    have hboot : (s.splitNoted.post 6 .fault 0x001D0000 0).boot = s.boot := by simp [State.splitNoted, State.modPair]
    refine ⟨(PairSt.roles_values (s.splitNoted.post_roles 6 .fault 0x001D0000 0)).2.2.1, ?_, by rw [hboot], fun h => (nomatch h), fun _ => by rw [hboot]⟩
    exact ((hnoted.mono (by simp)).trans (s.splitNoted.post_ctrs 6 .fault 0x001D0000 0)).counted (by simp [ck])

/-- Settles O43. -/
theorem tokensReleaseAndSplitBrain : Obligations.TokensReleaseAndSplitBrain := by
  intro s hpaired hworks
  refine ⟨fun rise width => ⟨fun code hcode => ⟨fun hnear => ?_, fun hfar => ?_⟩, fun hnone => ?_⟩,
    fun hrole hleaving hnone => ?_, fun hnot => ?_, does_splitBrain, fun hnot => ?_⟩
  · have hexec : exec (.tokenPulse rise width) s = execTokenPulse rise width s := rfl
    rw [execTokenPulse, hcode] at hexec
    dsimp only at hexec
    rw [if_pos (by simp [hpaired, hworks, hnear])] at hexec
    exact ⟨_, hexec, rfl, by simp [changesOnly_iff, State.modPair]⟩
  · have hexec : exec (.tokenPulse rise width) s = execTokenPulse rise width s := rfl
    rw [hexec, execTokenPulse, hcode]
    dsimp only
    rw [if_neg (by simp; omega)]
  · have hexec : exec (.tokenPulse rise width) s = execTokenPulse rise width s := rfl
    rw [hexec, execTokenPulse, hnone]
  · have hexec : exec .release s = execRelease s := rfl
    rw [execRelease, if_pos (by simp [hworks, hleaving, hnone])] at hexec
    have hroles := State.releaseRole_of_primary hpaired hrole (nextBoundary s.dt)
    exact ⟨_, hexec, ⟨congrArg (·.2.1) hroles, congrArg (·.1) hroles⟩, by simp [changesOnly_iff]⟩
  · have hexec : exec .release s = execRelease s := rfl
    rw [hexec, execRelease]
    split
    next hgo =>
      simp only [Bool.and_eq_true, Option.isNone_iff_eq_none] at hgo
      obtain ⟨⟨-, hleaving⟩, hnone⟩ := hgo
      have hrole : s.pair.role ≠ .primary := (hnot.resolve_left (by simp [hleaving])).resolve_left (fun h => h hnone)
      rw [State.releaseRole, if_neg (by simp [hrole])]
    next => rfl
  · have hexec : exec .splitBrain s = execSplitBrain s := rfl
    rw [hexec, execSplitBrain, if_pos (by simpa using hnot)]

end Sys2Proof.Machine

/-! Lemmas and proofs of the statements on the checks of a request, sessions and objects (O48, O49, O50). -/

namespace Sys2Proof.Machine

/-! Sending leaves what waits (R435). -/

/-- The requests that wait, the staging and a restart to come stay. -/
def EmpWaits (s t : State) : Prop :=
  t.emp.breqs = s.emp.breqs ∧ t.emp.stage = s.emp.stage ∧ t.emp.restart = s.emp.restart

theorem EmpWaits.trans {s t u : State} (hst : EmpWaits s t) (htu : EmpWaits t u) : EmpWaits s u := by
  obtain ⟨hreqs, hstage, hrestart⟩ := hst
  obtain ⟨hreqs', hstage', hrestart'⟩ := htu
  exact ⟨hreqs'.trans hreqs, hstage'.trans hstage, hrestart'.trans hrestart⟩

theorem EmpWaits.of_emp {s t : State} (h : t.emp = s.emp) : EmpWaits s t := by
  rw [EmpWaits, h]
  exact ⟨rfl, rfl, rfl⟩

theorem State.emHeard_waits (s : State) (q : EmpReq) : EmpWaits s (s.emHeard q) := ⟨rfl, rfl, rfl⟩

theorem State.emSend_waits (s : State) (r : Reply) : EmpWaits s (s.emSend r) := ⟨rfl, rfl, rfl⟩

theorem State.emFinish_waits (s : State) (op : Nat) (q : EmpReq) (service : Bool) (out : Option (Nat × Bytes)) :
    EmpWaits s (s.emFinish op q service out) := by
  unfold State.emFinish
  dsimp only
  cases out <;> by_cases h : q.session = 0 <;> simp only [h, if_true, if_false, Option.map] <;> exact ⟨rfl, rfl, rfl⟩

theorem State.oneReply_emSend {s : State} (h : s.emp.replies = []) (op : Nat) (q : EmpReq) (service : Bool) (r : Nat × Bytes) :
    OneReply (s.emSend (s.reply op q service r.1 r.2)) op q r :=
  ⟨s.reply op q service r.1 r.2, by simp [State.emSend, h], rfl, rfl, rfl, rfl, rfl, rfl, rfl⟩

theorem State.emFinish_ctrs (s : State) (op : Nat) (q : EmpReq) (service : Bool) (out : Option (Nat × Bytes)) :
    (s.emFinish op q service out).ctrs = s.ctrs := by simp

/-! The checks of R435, one by one. -/

section
variable {s : State} {op : Nat} {q : EmpReq} (body : State → Auth → State × Option (Nat × Bytes))

theorem State.emTake_of_unfed (hisland : s.boot.island = false) : s.emTake op q body = s := by
  rw [State.emTake, if_pos (by simp [hisland])]

theorem State.emTake_of_version (hisland : s.boot.island = true) (hversion : q.version ≠ 1) :
    s.emTake op q body = State.emSend { s with emp := { s.emp with replies := [] } }
      (State.reply { s with emp := { s.emp with replies := [] } } op q (s.authOf q.svp == .service) rVersion []) := by
  rw [State.emTake, if_neg (by simp [hisland])]
  dsimp only
  rw [if_pos hversion]
  rfl

theorem State.emTake_of_answer (hisland : s.boot.island = true) (hversion : q.version = 1) {r : Nat}
    (hjudge : (s.emHeard q).judge op q = .answer r) :
    s.emTake op q body = ((s.emHeard q).countDup q.svp r).emSend
      (((s.emHeard q).countDup q.svp r).reply op q (s.authOf q.svp == .service) r []) := by
  rw [State.emTake, if_neg (by simp [hisland])]
  extract_lets _ cleared a sv heard
  rw [if_neg (not_not.mpr hversion)]
  have hjudge' : heard.judge op q = .answer r := hjudge
  rw [hjudge']
  rfl

theorem State.emTake_of_cached (hisland : s.boot.island = true) (hversion : q.version = 1) {r : Reply}
    (hjudge : (s.emHeard q).judge op q = .cached r) :
    s.emTake op q body = ((s.emHeard q).bump (ck1 .empCached (empPort q.svp))).emSend
      { r with cached := true, status := s.attn.status r.result, attnHead := s.attn.head } := by
  rw [State.emTake, if_neg (by simp [hisland])]
  extract_lets _ cleared a sv heard
  rw [if_neg (not_not.mpr hversion)]
  have hjudge' : heard.judge op q = .cached r := hjudge
  rw [hjudge']
  rfl

theorem State.emTake_of_no_authority (hisland : s.boot.island = true) (hversion : q.version = 1)
    (hjudge : (s.emHeard q).judge op q = .run) (hauth : authAllows op q (s.authOf q.svp) = false) :
    s.emTake op q body = ((s.emAt q).bump (ck1 .empNoAuthority (empPort q.svp))).emFinish op q (s.authOf q.svp == .service)
      (some (rAuthority, [])) := by
  rw [State.emTake, if_neg (by simp [hisland])]
  extract_lets _ cleared a sv heard _ counted
  rw [if_neg (not_not.mpr hversion)]
  have hjudge' : heard.judge op q = .run := hjudge
  have hauth' : authAllows op q a = false := hauth
  rw [hjudge', hauth']
  rfl

/-- The device that refuses a request for the mode: counted, a change set and an event of Table MOD-2 as such as well. -/
def State.modeRefusal (s : State) (op : Nat) (q : EmpReq) : State :=
  let s := s.bump (ck1 .empNoMode (empPort q.svp))
  let s := if op = 0x0012 then s.bump (ck .changeSetsRefused) else s
  if eventOp op then s.refuseEvent else s

theorem State.emTake_of_no_mode (hisland : s.boot.island = true) (hversion : q.version = 1)
    (hjudge : (s.emHeard q).judge op q = .run) (hauth : authAllows op q (s.authOf q.svp) = true)
    (hmode : (s.emAt q).modeAllows op q (s.authOf q.svp) = false) :
    s.emTake op q body = ((s.emAt q).modeRefusal op q).emFinish op q (s.authOf q.svp == .service) (some (rMode, [])) := by
  rw [State.emTake, if_neg (by simp [hisland])]
  extract_lets _ cleared a sv heard _ counted
  rw [if_neg (not_not.mpr hversion)]
  have hjudge' : heard.judge op q = .run := hjudge
  have hauth' : authAllows op q a = true := hauth
  have hmode' : counted.modeAllows op q a = false := hmode
  rw [hjudge', hauth', hmode']
  rfl

end

theorem State.modeRefusal_frame (s : State) (op : Nat) (q : EmpReq) :
    ChangesOnly [.ctrs] s (s.modeRefusal op q) ∧ (s.modeRefusal op q).emp = s.emp := by
  unfold State.modeRefusal
  dsimp only
  split <;> split <;> simp [changesOnly_iff]

theorem State.carryRestart_of_none {s : State} (h : s.emp.restart = none) : s.carryRestart = s := by
  rw [State.carryRestart, h]

/-- Every request is taken by `emTake`; the two that may restart the device carry the restart out after it. -/
theorem exec_of_emRequest {c : Instr} {op : Nat} {q : EmpReq} (h : emRequest c = some (op, q)) :
    ∃ body, ∀ s : State, (s.emTake op q body).emp.restart = none → exec c s = .next (s.emTake op q body) := by
  cases c
  case emActivate | emRestart =>
    obtain ⟨rfl, rfl⟩ := Prod.mk.inj (Option.some.inj h)
    exact ⟨_, fun s hnone => congrArg Host.Outcome.next (State.carryRestart_of_none hnone)⟩
  case emOpen | emClose | emStatus | emRead | emWrite | emChangeSet | emAttnAck | emStageBegin | emStageData | emStageEnd | emKeyLoad |
      emZeroise | emOwnerEnrol | emPairEnrol | emRekeyDone | emForce | emUnforce | emReplayStart | emReplayStop | emFlush |
      emReleaseCell | emHoldover | emShed | emTrigger | emLocate | emHandover | emBboxRaw | emBboxClear =>
    obtain ⟨rfl, rfl⟩ := Prod.mk.inj (Option.some.inj h)
    exact ⟨_, fun s _ => rfl⟩
  all_goals exact nomatch h

/-- Settles O48. -/
theorem requestChecks : Obligations.RequestChecks := by
  intro c op q s hreq hnone
  obtain ⟨body, hbody⟩ := exec_of_emRequest hreq
  have hheard := s.emHeard_waits q
  refine ⟨fun hisland => ?_, fun hisland hversion => ?_, fun hisland hversion => ⟨fun r hjudge => ?_, fun r hjudge => ?_,
    fun hjudge hauth => ?_, fun hjudge hauth hmode => ?_⟩⟩
  · rw [hbody s (by rw [State.emTake_of_unfed body hisland]; exact hnone), State.emTake_of_unfed body hisland]
  · have hexec := hbody s
    rw [State.emTake_of_version body hisland hversion] at hexec
    exact ⟨_, hexec hnone, State.oneReply_emSend rfl op q _ (rVersion, []), by simp [changesOnly_iff]⟩
  · have hexec := hbody s
    rw [State.emTake_of_answer body hisland hversion hjudge] at hexec
    have hdup : EmpWaits (s.emHeard q) ((s.emHeard q).countDup q.svp r) := .of_emp (by simp)
    obtain ⟨hreqs, hstage, hrestart⟩ := hheard.trans hdup
    exact ⟨_, hexec (hrestart.trans hnone), ⟨State.oneReply_emSend (by simp [State.emHeard]) op q _ (r, []), hreqs, hstage⟩,
      by simp [changesOnly_iff, State.emHeard]⟩
  · have hexec := hbody s
    rw [State.emTake_of_cached body hisland hversion hjudge] at hexec
    exact ⟨_, hexec hnone, ⟨rfl, rfl, rfl⟩, by simp [changesOnly_iff, State.emHeard]⟩
  · have hexec := hbody s
    rw [State.emTake_of_no_authority body hisland hversion hjudge hauth] at hexec
    obtain ⟨hreqs, hstage, hrestart⟩ := ((s.emAt q).bump (ck1 .empNoAuthority (empPort q.svp))).emFinish_waits op q
      (s.authOf q.svp == .service) (some (rAuthority, []))
    refine ⟨_, hexec (hrestart.trans hnone), ⟨State.oneReply_emFinish rfl op q _ _, hreqs, hstage, ?_, ?_⟩, ?_⟩
    · rw [State.ctr_congr (State.emFinish_ctrs _ _ _ _ _), State.ctr_bump, if_neg (by simp [ck1])]
      exact (State.ctr_bump _ _ _).trans (if_pos rfl)
    · rw [State.ctr_congr (State.emFinish_ctrs _ _ _ _ _), State.ctr_bump, if_pos rfl]
      exact congrArg (satAdd · 1) ((State.ctr_bump _ _ _).trans (if_neg (by simp [ck1])))
    · simp [changesOnly_iff, State.emAt, State.emHeard]
  · have hexec := hbody s
    rw [State.emTake_of_no_mode body hisland hversion hjudge hauth hmode] at hexec
    obtain ⟨hframe, hemp⟩ := (s.emAt q).modeRefusal_frame op q
    have hfinish := ((s.emAt q).modeRefusal op q).emFinish_waits op q (s.authOf q.svp == .service) (some (rMode, []))
    obtain ⟨hreqs, hstage, hrestart⟩ := (EmpWaits.of_emp (s := s.emAt q) hemp).trans hfinish
    refine ⟨_, hexec (hrestart.trans hnone), ⟨State.oneReply_emFinish (by rw [hemp]; rfl) op q _ _, hreqs, hstage⟩, ?_⟩
    exact ((s.emAt_changesOnly q).trans hframe (rs := [.ctrs, .attn, .ports, .pair, .emp]) (by simp) (by simp)).trans
      (State.emFinish_changesOnly _ _ _ _ _) (by simp) (by simp)

/-! Sessions (R436). -/

theorem State.sess_modSess (s : State) (svp : Bool) (id : BitVec 32) {f : Sess → Sess} (hf : ∀ e, (f e).svp = e.svp ∧ (f e).id = e.id)
    (v : Bool) (id' : BitVec 32) :
    (s.modSess svp id f).sess v id' = (s.sess v id').map (fun e => if e.svp = svp ∧ e.id = id then f e else e) := by
  unfold State.sess State.modSess
  dsimp only
  rw [List.find?_map]
  congr 2
  funext e
  dsimp only [Function.comp_apply]
  split
  · rw [(hf e).1, (hf e).2]
  · rfl

theorem State.sess_key {s : State} {v : Bool} {id : BitVec 32} {e : Sess} (h : s.sess v id = some e) : e.svp = v ∧ e.id = id := by
  simpa using List.find?_some h

/-- A change of one session leaves the others. -/
theorem State.sess_modSess_ne (s : State) {svp : Bool} {id : BitVec 32} {f : Sess → Sess} (hf : ∀ e, (f e).svp = e.svp ∧ (f e).id = e.id)
    {v : Bool} {id' : BitVec 32} (hne : (v, id') ≠ (svp, id)) : (s.modSess svp id f).sess v id' = s.sess v id' := by
  rw [State.sess_modSess s svp id hf]
  cases h : s.sess v id' with
  | none => rfl
  | some e =>
    obtain ⟨hv, hid⟩ := State.sess_key h
    rw [Option.map_some, if_neg]
    rintro ⟨rfl, rfl⟩
    exact hne (by rw [hv, hid])

theorem State.sess_modSess_same {s : State} {svp : Bool} {id : BitVec 32} {f : Sess → Sess} (hf : ∀ e, (f e).svp = e.svp ∧ (f e).id = e.id) :
    (s.modSess svp id f).sess svp id = (s.sess svp id).map f := by
  rw [State.sess_modSess s svp id hf]
  cases h : s.sess svp id with
  | none => rfl
  | some e => rw [Option.map_some, if_pos (State.sess_key h), Option.map_some]

theorem Sess.note_key (e : Sess) (q : EmpReq) (crc : BitVec 32) (r : Option Reply) : (e.note q crc r).svp = e.svp ∧ (e.note q crc r).id = e.id :=
  ⟨rfl, rfl⟩

theorem State.sess_emAt_ne (s : State) {q : EmpReq} {v : Bool} {id : BitVec 32} (hne : (v, id) ≠ (q.svp, q.session)) :
    (s.emAt q).sess v id = s.sess v id :=
  State.sess_modSess_ne (f := fun e => { e with at_ := s.rtc }) s (fun _ => ⟨rfl, rfl⟩) hne

/-- A reply goes into the cache of its own session. -/
theorem State.sess_emFinish (s : State) (op : Nat) (q : EmpReq) (service : Bool) (r : Nat × Bytes) (v : Bool) (id : BitVec 32) :
    (s.emFinish op q service (some r)).sess v id = (if q.session = 0 then s else
      s.modSess q.svp q.session (fun e => e.note q (reqCrc op q) (some (s.reply op q service r.1 r.2)))).sess v id := rfl

theorem State.sess_emFinish_ne (s : State) (op : Nat) {q : EmpReq} (service : Bool) (r : Nat × Bytes) {v : Bool} {id : BitVec 32}
    (hne : (v, id) ≠ (q.svp, q.session)) : (s.emFinish op q service (some r)).sess v id = s.sess v id := by
  rw [State.sess_emFinish]
  split
  · rfl
  · exact State.sess_modSess_ne s (fun e => e.note_key _ _ _) hne

theorem State.sess_closeSession (s : State) (svp : Bool) (id : BitVec 32) (v : Bool) (id' : BitVec 32) :
    (s.closeSession svp id).sess v id' = if (v, id') = (svp, id) then none else s.sess v id' := by
  unfold State.sess State.closeSession
  dsimp only
  rw [List.find?_filter]
  split
  next heq =>
    obtain ⟨rfl, rfl⟩ := Prod.mk.inj heq
    refine List.find?_eq_none.2 fun e _ => ?_
    cases e.svp == v && e.id == id' <;> decide
  next hne =>
    congr 1
    funext e
    by_cases h : e.svp = v ∧ e.id = id'
    · obtain ⟨rfl, rfl⟩ := h
      have hother : (e.svp == svp && e.id == id) = false := by
        by_contra hsame
        exact hne (by simpa using hsame)
      simp [hother]
    · have hother : (e.svp == v && e.id == id') = false := by simpa using h
      simp [hother]

/-- An opened session stands behind the others, which stay. -/
theorem State.sess_openSession (s : State) (q : EmpReq) (v : Bool) (id : BitVec 32) :
    (s.openSession q).sess v id = if (v, id) = (q.svp, q.session)
      then some { svp := q.svp, id := q.session, high := q.seq, done := [], cache := [], at_ := s.rtc } else s.sess v id := by
  have hsplit : (s.openSession q).sess v id = ((s.closeSession q.svp q.session).sess v id).or
      ([{ svp := q.svp, id := q.session, high := q.seq, done := [], cache := [], at_ := s.rtc }].find? (fun e : Sess => e.svp == v && e.id == id)) := by
    unfold State.sess State.openSession State.closeSession
    exact List.find?_append
  rw [hsplit, State.sess_closeSession]
  split
  next heq =>
    obtain ⟨rfl, rfl⟩ := Prod.mk.inj heq
    simp
  next hne =>
    have hnot : (q.svp == v && q.session == id) = false := by
      by_contra hsame
      simp only [Bool.not_eq_false, Bool.and_eq_true, beq_iff_eq] at hsame
      exact hne (by rw [hsame.1, hsame.2])
    simp [hnot]

/-- A request that passes every check is carried out by its body, and the outcome sent. -/
theorem exec_of_emRuns {c : Instr} {s u : State} {op : Nat} {q : EmpReq} {r : Nat × Bytes}
    {body : State → Auth → State × Option (Nat × Bytes)} (hexec : exec c s = .next (s.emTake op q body)) (hruns : s.emRuns op q)
    (hbody : body (s.emAt q) (s.authOf q.svp) = (u, some r)) :
    exec c s = .next (u.emFinish op q (s.authOf q.svp == .service) (some r)) := by
  rw [hexec, State.emTake_of_emRuns hruns, hbody]

/-- OPEN is stateful: a request of session 0 is not executed. -/
theorem State.session_of_open {s : State} {q : EmpReq} (h : s.emRuns 0x0001 q) : q.session ≠ 0 := by
  obtain ⟨-, -, hjudge, -, -⟩ := h
  intro hzero
  rw [State.judge, if_pos hzero, if_neg (by simp)] at hjudge
  exact nomatch hjudge

/-- A session that has just been opened notes its request. -/
theorem Sess.note_of_open (e : Sess) {q : EmpReq} (hhigh : e.high = q.seq) (hdone : e.done = []) (crc : BitVec 32) (r : Option Reply) :
    (e.note q crc r).high = q.seq ∧ (e.note q crc r).done = [q.seq] ∧ (e.note q crc r).at_ = e.at_ := by
  unfold Sess.note
  dsimp only
  rw [hhigh, hdone, ite_self]
  have hself : behind q.seq q.seq = 0 := by rw [behind, BitVec.sub_self]; rfl
  exact ⟨rfl, by simp [hself], rfl⟩

theorem does_emOpen {q : EmpReq} {s : State} (hruns : s.emRuns 0x0001 q) :
    Does (.emOpen q) s [.ctrs, .emp] (fun t => OneReply t 0x0001 q (rOk, []) ∧
      (∃ e, t.sess q.svp q.session = some e ∧ e.high = q.seq ∧ e.done = [q.seq] ∧ e.at_ = s.rtc) ∧
      ∀ v id, (v, id) ≠ (q.svp, q.session) → t.sess v id = s.sess v id) := by
  have hexec := exec_of_emRuns (c := .emOpen q) (r := okay) rfl hruns rfl
  refine ⟨_, hexec, ⟨State.oneReply_emFinish rfl _ _ _ _, ?_, fun v id hne => ?_⟩, by simp [changesOnly_iff, State.openSession, State.emAt, State.emHeard]⟩
  · rw [State.sess_emFinish, if_neg (State.session_of_open hruns), State.sess_modSess_same (fun e => e.note_key _ _ _),
      State.sess_openSession, if_pos rfl, Option.map_some]
    exact ⟨_, rfl, Sess.note_of_open _ rfl rfl _ _⟩
  · rw [State.sess_emFinish_ne _ _ _ _ hne, State.sess_openSession, if_neg hne, State.sess_emAt_ne s hne]

theorem does_emClose {q : EmpReq} {s : State} (hruns : s.emRuns 0x0002 q) :
    Does (.emClose q) s [.ctrs, .emp] (fun t => OneReply t 0x0002 q (rOk, []) ∧ t.sess q.svp q.session = none ∧
      ∀ v id, (v, id) ≠ (q.svp, q.session) → t.sess v id = s.sess v id) := by
  have hexec := exec_of_emRuns (c := .emClose q) (r := okay) rfl hruns rfl
  refine ⟨_, hexec, ⟨State.oneReply_emFinish rfl _ _ _ _, ?_, fun v id hne => ?_⟩, by simp [changesOnly_iff, State.closeSession, State.emAt, State.emHeard]⟩
  · have hclosed : ((s.emAt q).closeSession q.svp q.session).sess q.svp q.session = none := by
      rw [State.sess_closeSession, if_pos rfl]
    rw [State.sess_emFinish]
    split
    · exact hclosed
    · rw [State.sess_modSess_same (fun e => e.note_key _ _ _), hclosed, Option.map_none]
  · rw [State.sess_emFinish_ne _ _ _ _ hne, State.sess_closeSession, if_neg hne, State.sess_emAt_ne s hne]

/-- Settles O49. -/
theorem sessionsOpenCloseAndExpire : Obligations.SessionsOpenCloseAndExpire := by
  intro q s
  refine ⟨does_emOpen, does_emClose, fun hruns => ?_, fun svp id e hsess => ⟨fun hisland hold => ?_, fun hyoung => ?_⟩,
    fun svp id hnone => ?_, fun svp why => ⟨fun hisland => ?_, fun hisland => ?_⟩⟩
  · have hexec := exec_of_emRuns (c := .emStatus q) (r := okay) rfl hruns rfl
    obtain ⟨hreqs, -, -⟩ := (s.emAt q).emFinish_waits 0x0003 q (s.authOf q.svp == .service) (some okay)
    refine ⟨_, hexec, ⟨State.oneReply_emFinish rfl _ _ _ _, hreqs, fun x hx => ?_⟩, by simp [changesOnly_iff, State.emAt, State.emHeard]⟩
    rw [State.emFinish_replies] at hx
    obtain rfl := List.mem_singleton.1 hx
    exact ⟨rfl, rfl⟩
  · have hexec : exec (.sessionExpiry svp id) s = execSessionExpiry svp id s := rfl
    rw [execSessionExpiry, hsess] at hexec
    dsimp only at hexec
    rw [if_pos (by simpa [hisland] using hold)] at hexec
    refine ⟨_, hexec, ⟨?_, rfl, (State.bump_countsOnce _ _).congr rfl rfl⟩, by simp [changesOnly_iff, State.closeSession]⟩
    exact (s.sess_closeSession svp id svp id).trans (if_pos rfl)
  · have hexec : exec (.sessionExpiry svp id) s = execSessionExpiry svp id s := rfl
    rw [hexec, execSessionExpiry, hsess]
    dsimp only
    rw [if_neg (by simp; intro _; exact hyoung)]
  · have hexec : exec (.sessionExpiry svp id) s = execSessionExpiry svp id s := rfl
    rw [hexec, execSessionExpiry, hnone]
  · have hexec : exec (.empDatagramDiscard svp why) s = execEmpDatagramDiscard svp why s := rfl
    rw [execEmpDatagramDiscard, if_pos hisland] at hexec
    exact does_bump hexec
  · have hexec : exec (.empDatagramDiscard svp why) s = execEmpDatagramDiscard svp why s := rfl
    rw [hexec, execEmpDatagramDiscard, if_neg (by simp [hisland])]

/-! Objects (R446 to R448). -/

/-- What a READ answers, and what it leaves. -/
theorem State.emRead_values (s : State) (q : EmpReq) :
    ∃ r : Nat × Bytes, (s.emRead q).2 = some r ∧ (s.emRead q).1.emp.replies = s.emp.replies ∧
      (q.clear = false → ChangesOnly [.emp] s (s.emRead q).1) ∧ (q.payload.length ≠ 2 → r = (rRange, natBe 4 0)) ∧
      (q.payload.length = 2 → s.object (q.object.toNat / 65536) (q.object.toNat % 65536) q.offset.toNat = none → r = (rNoObject, [])) ∧
      (r.1 = rOk → r.2.length ≤ min (beNat q.payload) 1400) := by
  have howe (g i n : Nat) : (s.oweRead g i n).emp.replies = s.emp.replies ∧ ChangesOnly [.emp] s (s.oweRead g i n) := by
    unfold State.oweRead
    split <;> simp [changesOnly_iff]
  unfold State.emRead
  dsimp only
  split
  next hlen => exact ⟨_, rfl, rfl, fun _ => .refl _ s, fun _ => rfl, fun h => absurd h hlen, fun h => absurd h (by decide)⟩
  next hlen =>
    rw [not_not] at hlen
    split
    next hnone => exact ⟨_, rfl, rfl, fun _ => .refl _ s, fun h => absurd hlen h, fun _ _ => rfl, fun h => absurd h (by decide)⟩
    next ps hsome =>
      have hobject {P : Prop} (h : s.object (q.object.toNat / 65536) (q.object.toNat % 65536) q.offset.toNat = none) : P :=
        nomatch hsome.symm.trans h
      split
      · exact ⟨_, rfl, rfl, fun _ => .refl _ s, fun h => absurd hlen h, fun _ h => hobject h, fun h => absurd h (by decide)⟩
      · generalize List.drop _ _ = bytes
        obtain ⟨hreplies, hframe⟩ := howe (q.object.toNat / 65536) (q.object.toNat % 65536) (bytes.take (min (beNat q.payload) 1400)).length
        split
        · exact ⟨_, rfl, hreplies, fun _ => hframe, fun h => absurd hlen h, fun _ h => hobject h, fun _ => List.length_take_le _ _⟩
        next hclear =>
          refine ⟨_, rfl, ?_, fun h => absurd h (by simpa using hclear), fun h => absurd hlen h, fun _ h => hobject h, fun _ => List.length_take_le _ _⟩
          dsimp only
          rw [← hreplies]
          split <;> simp

theorem exec_emRead {q : EmpReq} {s : State} (hruns : s.emRuns 0x0010 q) {r : Nat × Bytes} (hr : ((s.emAt q).emRead q).2 = some r) :
    exec (.emRead q) s = .next (((s.emAt q).emRead q).1.emFinish 0x0010 q (s.authOf q.svp == .service) (some r)) :=
  exec_of_emRuns rfl hruns (Prod.ext rfl hr)

theorem State.wq_modWq_ne {s : State} {g g' : Nat} (hne : g' ≠ g) (f : QueueSt → QueueSt) : (s.modWq g f).wq g' = s.wq g' := by
  simp [State.wq, State.modWq, modAt_eq_modify, List.getD_eq_getElem?_getD, Ne.symm hne]

theorem bitAt_eq_testBit (n i : Nat) : bitAt n i = n.testBit i := by
  rw [bitAt, Nat.testBit_eq_decide_div_mod_eq, Nat.shiftRight_eq_div_pow]
  rfl

/-- A W1C write clears the bits written 1 but those of the present beat. -/
theorem State.w1c_getLsbD (s : State) (old now : BitVec 32) (w : Nat) {i : Nat} (hi : i < 32) :
    (s.w1c old now w).getLsbD i = (old.getLsbD i && !(bitAt w i && !(s.beatsRun && now.getLsbD i))) := by
  unfold State.w1c
  rw [BitVec.getLsbD_and, BitVec.getLsbD_not, BitVec.getLsbD_and, BitVec.getLsbD_not, BitVec.getLsbD_ofNat, bitAt_eq_testBit]
  cases s.beatsRun <;> simp [hi]

theorem does_emWrite_hold {q : EmpReq} {s : State} (hruns : s.emRuns 0x0011 q) {g : Nat} {x : QueueSt} (hg : g < 4)
    (hx : s.swage.queues[g]? = some x) (ho : q.object.toNat = 0x00140100 + g) (hlen : q.payload.length = 4) (hv : beNat q.payload ≤ 1) :
    Does (.emWrite q) s [.ctrs, .swage, .emp] (fun t => OneReply t 0x0011 q (rOk, []) ∧
      t.wq g = { x with holdSeen := x.holdSeen && (beNat q.payload == 0 || (x.holdNow && s.beatsRun)) } ∧
      ∀ g' : Nat, g' ≠ g → t.wq g' = s.wq g') := by
  have hold : s.wq g = x := by simp [State.wq, hx]
  refine does_of_emRuns rfl hruns (State.emWrite_holdSeen _ hg ho hlen hv) rfl
    ((s.emAt_changesOnly q).trans (State.modWq_changesOnly _ _ _) (by simp) (by simp)) (by simp) fun t ht => ⟨?_, fun g' hne => ?_⟩
  · rw [State.wq_of_swage (ht .swage (by simp)) g, State.wq_modWq_same (s := s.emAt q) hx]
    simp [hold]
  · rw [State.wq_of_swage (ht .swage (by simp)) g', State.wq_modWq_ne hne]
    rfl

theorem does_emWrite_seen {q : EmpReq} {s : State} (hruns : s.emRuns 0x0011 q) (ho : q.object.toNat = 0x00200005)
    (hlen : q.payload.length = 4) : Does (.emWrite q) s [.ctrs, .sens, .emp] (fun t =>
      OneReply t 0x0011 q (rOk, []) ∧ t.sens.cond = s.sens.cond ∧ ∀ i : Nat, i < 32 → t.sens.seen.getLsbD i =
        (s.sens.seen.getLsbD i && !(bitAt (beNat q.payload) i && !(s.beatsRun && s.sens.seenNow.getLsbD i)))) := by
  refine does_of_emRuns rfl hruns (State.emWrite_seen _ ho hlen) rfl
    ((s.emAt_changesOnly q).trans (State.setSens_changesOnly _ _) (by simp) (by simp)) (by simp) fun t ht => ?_
  have hsens : t.sens = _ := ht .sens (by simp)
  rw [hsens]
  exact ⟨rfl, fun i hi => State.w1c_getLsbD (s.emAt q) _ _ _ hi⟩

theorem State.emWrite_config (s : State) {q : EmpReq} (ho : q.object.toNat = 0x001E0400) (hlen : q.payload.length = 4)
    (hv : beNat q.payload < 65536) :
    s.emWrite q = ({ s with vault := { s.vault with cfg := BitVec.ofNat 16 (beNat q.payload) &&& 0xFF00#16 } }, some okay) := by
  simp [State.emWrite, ho, hlen, hv]

/-- WRITE of an object that it does not write. -/
theorem State.emWrite_other (s : State) {q : EmpReq} (hlanes : q.object.toNat / 65536 ≠ 0x0014) (hlatches : q.object.toNat / 65536 ≠ 0x0020)
    (hkeys : q.object.toNat / 65536 ≠ 0x001E) : s.emWrite q = (s, some
      (if (s.object (q.object.toNat / 65536) (q.object.toNat % 65536) q.offset.toNat).isSome then (rAccess, []) else (rNoObject, []))) := by
  unfold State.emWrite
  dsimp only
  rw [if_neg (by omega), if_neg (by omega), if_neg (by omega)]
  split <;> rfl

theorem does_emWrite {q : EmpReq} {s : State} (hruns : s.emRuns 0x0011 q) :
    (q.object.toNat = 0x001E0400 → q.payload.length = 4 → beNat q.payload < 65536 → Does (.emWrite q) s [.ctrs, .vault, .emp] (fun t =>
      OneReply t 0x0011 q (rOk, []) ∧ t.vault = { s.vault with cfg := BitVec.ofNat 16 (beNat q.payload) &&& 0xFF00#16 })) ∧
    (q.object.toNat / 65536 ≠ 0x0014 → q.object.toNat / 65536 ≠ 0x0020 → q.object.toNat / 65536 ≠ 0x001E →
      Does (.emWrite q) s [.ctrs, .emp] (fun t => OneReply t 0x0011 q
        (if ((s.emAt q).object (q.object.toNat / 65536) (q.object.toNat % 65536) q.offset.toNat).isSome then (rAccess, [])
          else (rNoObject, [])))) := by
  refine ⟨fun ho hlen hv => ?_, fun hlanes hlatches hkeys => ?_⟩
  · refine does_of_emRuns rfl hruns (State.emWrite_config _ ho hlen hv) rfl ?_ (by simp) fun t ht => ht .vault (by simp)
    exact (s.emAt_changesOnly q).trans (qs := [.vault]) (by simp [changesOnly_iff]) (by simp) (by simp)
  · have hdoes := does_of_emRuns (Q := fun _ => True) (c := .emWrite q) rfl hruns (State.emWrite_other _ hlanes hlatches hkeys) rfl
      (s.emAt_changesOnly q) (by simp) fun _ _ => trivial
    exact hdoes.imp fun t _ h => h.1

/-! Attention (R441). -/

/-- What an acknowledgement leaves of the attention log. -/
theorem State.acknowledge_values (s : State) (a : Nat) :
    (∀ e ∈ (s.acknowledge a).attn.slots, notLater e.2.aseq a = true → e.2.acked = true) ∧
    (s.acknowledge a).attn.slots.map (fun e => (e.1, e.2.aseq)) = s.attn.slots.map (fun e => (e.1, e.2.aseq)) ∧
    (∀ e ∈ s.attn.slots, notLater e.2.aseq a = false → e ∈ (s.acknowledge a).attn.slots) ∧
    (s.acknowledge a).attn.latched = s.attn.latched.filter (fun l => !notLater l.2 a) ∧ (s.acknowledge a).attn.head = s.attn.head := by
  unfold State.acknowledge
  dsimp only
  refine ⟨fun e he hnot => ?_, ?_, fun e he hlater => ?_, rfl, rfl⟩
  · obtain ⟨x, -, rfl⟩ := List.mem_map.1 he
    split at hnot <;> simp_all
  · rw [List.map_map]
    refine List.map_congr_left fun x _ => ?_
    dsimp only [Function.comp_apply]
    split <;> rfl
  · exact List.mem_map.2 ⟨e, he, by simp [hlater]⟩

/-- Settles O50. -/
theorem objectsAreReadWrittenAndAcknowledged : Obligations.ObjectsAreReadWrittenAndAcknowledged := by
  intro q s
  refine ⟨fun hruns hclear => ?_, fun hruns _ => ?_, fun hruns => ⟨fun g x hg hx ho hlen hv => does_emWrite_hold hruns hg hx ho hlen hv,
    does_emWrite_seen hruns, does_emWrite hruns⟩, fun hruns => ?_, fun hruns => ?_, fun hruns hroom => ?_⟩
  · obtain ⟨r, hr, hreplies, hframe, hrange, hnone, hlen⟩ := (s.emAt q).emRead_values q
    refine ⟨_, exec_emRead hruns hr, ⟨r, State.oneReply_emFinish hreplies _ _ _ _, hrange, hnone, hlen⟩, ?_⟩
    exact ((s.emAt_changesOnly q).trans (hframe hclear) (rs := [.ctrs, .emp]) (by simp) (by simp)).trans
      (State.emFinish_changesOnly _ _ _ _ _) (by simp) (by simp)
  · obtain ⟨r, hr, hreplies, -, -, -, hlen⟩ := (s.emAt q).emRead_values q
    exact does_of_completes ⟨_, exec_emRead hruns hr, r, State.oneReply_emFinish hreplies _ _ _ _, hlen⟩
  · refine does_of_emRuns (c := .emAttnAck q) (r := okay) rfl hruns rfl rfl ?_ (by simp) fun t ht => ?_
    · exact (s.emAt_changesOnly q).trans (qs := [.attn]) (by simp [changesOnly_iff, State.acknowledge]) (by simp) (by simp)
    · have hattn : t.attn = _ := ht .attn (by simp)
      rw [hattn]
      exact (s.emAt q).acknowledge_values q.object.toNat
  · have hbody : (if 8191 < q.object.toNat then answerWith (s.emAt q) noObject else answerWith (s.emAt q) (rOk, (s.emAt q).bboxSlot q.object.toNat)) =
        (s.emAt q, some (if q.object.toNat ≤ 8191 then (rOk, s.bboxSlot q.object.toNat) else (rNoObject, []))) := by
      split
      · rw [if_neg (by omega)]; rfl
      · rw [if_pos (by omega)]; rfl
    have hdoes := does_of_emRuns (Q := fun _ => True) (c := .emBboxRaw q) rfl hruns hbody rfl (s.emAt_changesOnly q) (by simp)
      fun _ _ => trivial
    exact hdoes.imp fun t _ h => h.1
  · have hpost : (s.emAt q).bbxPost 0x00F0 (natBe 2 (s.emAt q).bbxEpoch) = _ := State.bbxQueue_of_room _ hroom
    refine does_of_emRuns (c := .emBboxClear q) (r := okay) (u := (s.emAt q).bbxPost 0x00F0 (natBe 2 (s.emAt q).bbxEpoch)) rfl hruns rfl ?_ ?_
      (by simp) fun t ht => ?_
    · simp [State.emAt, State.emHeard]
    · rw [hpost]
      exact (s.emAt_changesOnly q).trans (qs := [.bbx]) (by simp [changesOnly_iff]) (by simp) (by simp)
    · have hbbx : t.bbx = _ := ht .bbx (by simp)
      rw [hbbx, hpost]
      exact ⟨⟨_, rfl, rfl, rfl⟩, rfl⟩

end Sys2Proof.Machine

/-! Lemmas and the refutation of the statement on staging, activation and restart (O53). -/

namespace Sys2Proof.Machine

/-- An ACTIVATE on MGP, in session 7. -/
def activateRequest : EmpReq :=
  { svp := false, src := 1, version := 1, session := 7, seq := 5, object := 0, offset := 0, clear := false, payload := [] }

/-- A device in ACTIVE with nothing staged, whose restart, accepted before, is still to be carried out. -/
def restartPending : State :=
  { State.reset with
    boot := { BootSt.reset with mode := .active, running := true, mgmtUp := true }
    emp := { State.reset.emp with
      restart := some true
      sessions := [{ svp := false, id := 7, high := 4, done := [], cache := [], at_ := 0 }] } }

theorem restartPending_emRuns : restartPending.emRuns 0x0023 activateRequest :=
  ⟨rfl, rfl, by decide, by decide, by decide⟩

/-- The refused ACTIVATE is followed by the restart that was pending: an event of the present beat. -/
theorem exec_emActivate_restartPending :
    ∃ t, exec (.emActivate activateRequest) restartPending = .next t ∧ t.boot.evs = [.restart true] := by
  have hexec : exec (.emActivate activateRequest) restartPending = execEmActivate activateRequest restartPending := rfl
  refine ⟨_, hexec, ?_⟩
  rw [State.emTake_of_emRuns restartPending_emRuns]
  rfl

/-- Refutes O53: the clause on an ACTIVATE with nothing staged says that it changes the counters and EMP alone, in every state. Where a
restart accepted before has not been carried out yet, the refused ACTIVATE is followed by it, so the boot state changes as well: from
`restartPending` an event of the present beat stands there. -/
theorem not_stagingActivationAndRestart : ¬ Obligations.StagingActivationAndRestart := by
  unfold Obligations.StagingActivationAndRestart
  intro h
  obtain ⟨-, -, -, -, -, -, -, hrefused, -⟩ := h activateRequest restartPending
  obtain ⟨t, hexec, -, hframe⟩ := hrefused restartPending_emRuns (by decide)
  obtain ⟨t', hexec', hevs⟩ := exec_emActivate_restartPending
  obtain rfl : t = t' := Host.Outcome.next.inj (hexec.symm.trans hexec')
  have hboot : t.boot = restartPending.boot := hframe .boot (by simp)
  rw [hboot] at hevs
  exact absurd hevs (by decide)

end Sys2Proof.Machine

/-! Lemmas and proofs of the statements on the classifier, stale streams and commands (O26, O27). -/

namespace Sys2Proof.Machine

/-! The classifier (R107, R130). -/

/-- The device once a port's oldest frame has left its buffer, the port then served. -/
def State.frameTaken (s : State) (p : Nat) (rest : List InFrame) (len : Nat) : State :=
  ({ s with served := p }).modPort p (fun y => { y with ingress := rest, used := y.used - len })

section
variable {p : LinePort} {s : State} {x : PortSt} {i : InFrame} {rest : List InFrame}

theorem State.frameTaken_ports (hx : s.ports[p.val]? = some x) (len : Nat) :
    (s.frameTaken p.val rest len).port p.val = { x with ingress := rest, used := x.used - len } ∧
    ∀ p' : Nat, p' ≠ p.val → (s.frameTaken p.val rest len).port p' = s.port p' :=
  ⟨State.port_modPort_same (s := { s with served := p.val }) hx _,
    fun _ hne => State.port_modPort_ne (s := { s with served := p.val }) hne _⟩

theorem State.frameTaken_frame (s : State) (p : Nat) (rest : List InFrame) (len : Nat) :
    ChangesOnly [.ports, .served] s (s.frameTaken p rest len) := by
  simp [changesOnly_iff, State.frameTaken]

theorem exec_classifyFrame_some (hx : s.ports[p.val]? = some x) (hi : x.ingress = i :: rest) (hbeats : s.beatsRun = true)
    (hturn : s.turn = some p.val) {t : State} (ht : (s.frameTaken p.val rest i.frame.len).classify p.val i = some t) :
    exec (.classifyFrame p ()) s = .next t := by
  have hexec : exec (.classifyFrame p ()) s = execClassifyFrame p () s := rfl
  rw [hexec, execClassifyFrame, if_neg (by simp [hbeats, hturn]), State.port_of_getElem? hx, hi]
  dsimp only
  rw [← State.frameTaken, ht]

theorem exec_classifyFrame_none (hx : s.ports[p.val]? = some x) (hi : x.ingress = i :: rest) (hbeats : s.beatsRun = true)
    (hturn : s.turn = some p.val) (ht : (s.frameTaken p.val rest i.frame.len).classify p.val i = none) :
    exec (.classifyFrame p ()) s = .next s := by
  have hexec : exec (.classifyFrame p ()) s = execClassifyFrame p () s := rfl
  rw [hexec, execClassifyFrame, if_neg (by simp [hbeats, hturn]), State.port_of_getElem? hx, hi]
  dsimp only
  rw [← State.frameTaken, ht]

/-- Hearth's crossing counts the frame and keeps both clocks; a frame that it discards is counted besides. -/
theorem State.toHearth_values (s : State) (p : Nat) (i : InFrame) :
    ((s.toHearth p i).dt = s.dt ∧ (s.toHearth p i).lts = s.lts) ∧ (s.toHearth p i).ports = s.ports ∧
    CtrsKept [.ptpDiscarded] (s.bump (ck1 .ptpFrames p)) (s.toHearth p i) ∧ ChangesOnly [.ctrs, .time] s (s.toHearth p i) := by
  have hcounted (k : Nat) : (((s.bump (ck1 .ptpFrames p)).bump (ck1 .ptpDiscarded k)).dt = s.dt ∧
        ((s.bump (ck1 .ptpFrames p)).bump (ck1 .ptpDiscarded k)).lts = s.lts) ∧
      ((s.bump (ck1 .ptpFrames p)).bump (ck1 .ptpDiscarded k)).ports = s.ports ∧
      CtrsKept [.ptpDiscarded] (s.bump (ck1 .ptpFrames p)) ((s.bump (ck1 .ptpFrames p)).bump (ck1 .ptpDiscarded k)) ∧
      ChangesOnly [.ctrs, .time] s ((s.bump (ck1 .ptpFrames p)).bump (ck1 .ptpDiscarded k)) :=
    ⟨⟨rfl, rfl⟩, rfl, (CtrsKept.refl _ _).bump (by simp [ck1]), by simp [changesOnly_iff]⟩
  unfold State.toHearth
  dsimp only
  split
  · split
    · split
      · exact hcounted _
      · split
        · exact hcounted _
        · exact ⟨⟨rfl, rfl⟩, rfl, .of_ctrs rfl, by simp [changesOnly_iff]⟩
    · split
      · exact hcounted _
      · exact hcounted _
  · exact hcounted _

theorem State.classify_of_ptp {u : State} {q : Nat} (htcp : i.tcp = none) (hptp : isPtp (frameBody i.frame) = true) :
    u.classify q i = some (u.toHearth q i) := by
  rw [State.classify]
  dsimp only
  rw [if_pos (by simp [htcp, hptp])]

theorem does_classifyFrame_ptp (hx : s.ports[p.val]? = some x) (hi : x.ingress = i :: rest) (hbeats : s.beatsRun = true)
    (hturn : s.turn = some p.val) (htcp : i.tcp = none) (hptp : isPtp (frameBody i.frame) = true) :
    Does (.classifyFrame p ()) s [.ctrs, .ports, .time, .served] (fun t =>
      t.port p.val = { x with ingress := rest, used := x.used - i.frame.len } ∧ t.served = p.val ∧ t.dt = s.dt ∧ t.lts = s.lts ∧
      t.ctr (ck1 .ptpFrames p.val) = satAdd (s.ctr (ck1 .ptpFrames p.val)) 1) := by
  have hexec := exec_classifyFrame_some hx hi hbeats hturn (State.classify_of_ptp htcp hptp)
  obtain ⟨htaken, -⟩ := State.frameTaken_ports (rest := rest) hx i.frame.len
  have hframe := s.frameTaken_frame p.val rest i.frame.len
  have hctrs : (s.frameTaken p.val rest i.frame.len).ctrs = s.ctrs := rfl
  have htime : (s.frameTaken p.val rest i.frame.len).time = s.time := rfl
  have hserved : (s.frameTaken p.val rest i.frame.len).served = p.val := rfl
  generalize s.frameTaken p.val rest i.frame.len = u at hexec htaken hframe hctrs htime hserved
  obtain ⟨⟨hdt, hlts⟩, hports, hkept, honly⟩ := u.toHearth_values p.val i
  refine ⟨_, hexec, ⟨?_, ?_, ?_, ?_, ?_⟩, ?_⟩
  · rw [State.port_congr hports]; exact htaken
  · exact (show _ = _ from honly .served (by simp)).trans hserved
  · rw [hdt, State.dt, htime, State.dt]
  · rw [hlts, State.lts, htime, State.lts]
  · rw [hkept.counted (by simp [ck1]), State.ctr_congr hctrs]
  · exact hframe.trans honly (by simp) (by simp)

/-- A frame outside HALT that is neither PTP's nor a subscriber's command goes the way of the descriptor that it matches. -/
theorem State.classify_of_frame {u : State} {q : Nat} (hhalt : u.boot.mode ≠ .halt) (htcp : i.tcp = none)
    (hptp : isPtp (frameBody i.frame) = false) (hsub : u.subCommand (frameBody i.frame) = none) :
    (u.matchSid i.frame = none → u.classify q i = some (u.bump (ck1 .unmatched q))) ∧
    ∀ sid, u.matchSid i.frame = some sid → bitAt (streamSflags (u.rec_ .stream sid)) 2 = false →
      (∀ v, u.streamPath q sid i (streamBody (frameBody i.frame)) = (v, none) → u.classify q i = some v) ∧
      ∀ v d, u.streamPath q sid i (streamBody (frameBody i.frame)) = (v, some d) →
        u.classify q i = if (u.deliverTo sid).any (fun r => u.sliceStalled r) then none
          else some (v.deliver d (streamBody (frameBody i.frame))) := by
  have hptp' : (i.tcp.isNone && isPtp (frameBody i.frame)) = false := by rw [hptp, Bool.and_false]
  refine ⟨fun hnone => ?_, fun sid hsid hwatch => ⟨fun v hv => ?_, fun v d hv => ?_⟩⟩
  · rw [State.classify]
    dsimp only
    rw [hptp', if_neg (by decide), if_neg (by simpa using hhalt), htcp, hsub, hnone]
    rfl
  · rw [State.classify]
    dsimp only
    rw [hptp', if_neg (by decide), if_neg (by simpa using hhalt), htcp, hsub, hsid]
    dsimp only [Option.isNone]
    rw [if_pos rfl]
    dsimp only
    rw [hwatch, if_neg (by decide), hv]
  · rw [State.classify]
    dsimp only
    rw [hptp', if_neg (by decide), if_neg (by simpa using hhalt), htcp, hsub, hsid]
    dsimp only [Option.isNone]
    rw [if_pos rfl]
    dsimp only
    rw [hwatch, if_neg (by decide), hv]

theorem State.streamPath_of_wrong_port {u : State} {q sid : Nat} (h : bitAt (streamPortMask (u.rec_ .stream sid)) q = false) (b : UdpBody) :
    u.streamPath q sid i b = (u.bump (ck1 .wrongPort sid), none) := by
  rw [State.streamPath, if_pos (by simp [h])]

/-- A frame that is dropped and counted has left its buffer. -/
theorem does_classifyFrame_counted (hx : s.ports[p.val]? = some x) (hi : x.ingress = i :: rest) (hbeats : s.beatsRun = true)
    (hturn : s.turn = some p.val) {k : CtrKey}
    (ht : (s.frameTaken p.val rest i.frame.len).classify p.val i = some ((s.frameTaken p.val rest i.frame.len).bump k)) :
    Does (.classifyFrame p ()) s [.ctrs, .ports, .served] (fun t =>
      t.port p.val = { x with ingress := rest, used := x.used - i.frame.len } ∧ t.served = p.val ∧
      (∀ p' : Nat, p' ≠ p.val → t.port p' = s.port p') ∧ CountsOnce k s t) := by
  have hexec := exec_classifyFrame_some hx hi hbeats hturn ht
  obtain ⟨htaken, hothers⟩ := State.frameTaken_ports (rest := rest) hx i.frame.len
  exact ⟨_, hexec, ⟨htaken, rfl, hothers, (State.bump_countsOnce _ k).congr rfl rfl⟩, by simp [changesOnly_iff, State.frameTaken]⟩

end

/-- Settles O26. -/
theorem classifierDropsUnmatchedAndWrongPort : Obligations.ClassifierDropsUnmatchedAndWrongPort := by
  intro p s x i rest hx hi hbeats
  refine ⟨fun hturn => ⟨does_classifyFrame_ptp hx hi hbeats hturn, fun hhalt htcp hptp hsub => ⟨fun hnone => ?_, fun sid hsid hwatch =>
    ⟨fun hmask => ?_, fun u v d hu hv => ⟨fun hroom => ?_, fun hstalled => ?_⟩⟩⟩⟩, fun hturn => ?_⟩
  · exact does_classifyFrame_counted hx hi hbeats hturn
      ((State.classify_of_frame (u := s.frameTaken p.val rest i.frame.len) hhalt htcp hptp hsub).1 hnone)
  · exact does_classifyFrame_counted hx hi hbeats hturn
      (((State.classify_of_frame (u := s.frameTaken p.val rest i.frame.len) hhalt htcp hptp hsub).2 sid hsid hwatch).1 _
        (State.streamPath_of_wrong_port (u := s.frameTaken p.val rest i.frame.len) hmask _))
  · subst hu
    have hclass := ((State.classify_of_frame (u := s.frameTaken p.val rest i.frame.len) hhalt htcp hptp hsub).2 sid hsid hwatch).2 v d hv
    exact exec_classifyFrame_some hx hi hbeats hturn (hclass.trans (if_neg (Bool.eq_false_iff.1 hroom)))
  · subst hu
    have hclass := ((State.classify_of_frame (u := s.frameTaken p.val rest i.frame.len) hhalt htcp hptp hsub).2 sid hsid hwatch).2 v d hv
    exact exec_classifyFrame_none hx hi hbeats hturn (hclass.trans (if_pos hstalled))
  · have hexec : exec (.classifyFrame p ()) s = execClassifyFrame p () s := rfl
    rw [hexec, execClassifyFrame, if_pos (by simp [hturn])]

/-! Stream states and commands (R127 to R129). -/

theorem State.streamSt_modStream (s : State) (sid : Nat) (f : StreamSt → StreamSt) (k : Nat) :
    (s.modStream sid f).streamSt k = if k = sid then f (s.streamSt sid) else s.streamSt k := by
  unfold State.streamSt State.modStream agetD
  dsimp only
  rw [amod, aget_aput]
  by_cases h : k = sid
  · subst h
    rw [if_pos rfl, if_pos rfl]
    rfl
  · rw [if_neg (Ne.symm h), if_neg h]

theorem State.streamSt_of_streams {s t : State} (h : t.streams = s.streams) (k : Nat) : t.streamSt k = s.streamSt k := by
  rw [State.streamSt, h, State.streamSt]

theorem State.streamSt_streamEnter_stale (s : State) (sid : Nat) :
    ((s.streamEnter sid .stale).streamSt sid).st = .stale ∧ ((s.streamEnter sid .stale).streamSt sid).cfgDue = some s.lts := by
  unfold State.streamEnter
  rw [State.streamSt_of_streams (State.bump_streams _ _), State.streamSt_modStream, if_pos rfl]
  exact ⟨rfl, rfl⟩

theorem State.streamSt_streamEnter_ne (s : State) (st : StrState) {sid k : Nat} (hne : k ≠ sid) :
    (s.streamEnter sid st).streamSt k = s.streamSt k := by
  unfold State.streamEnter
  rw [State.streamSt_of_streams (State.bump_streams _ _), State.streamSt_modStream, if_neg hne]

theorem does_streamStale {s : State} {sid : Fin 8192} (hworks : s.works = true) (hlive : (s.streamSt sid.val).st = .live)
    (hstill : (s.streamSt sid.val).fresh = false) (hold : streamStaleTimeout (s.rec_ .stream sid.val) ≤ (s.streamSt sid.val).idle) :
    Does (.streamStale sid) s (footprint (.streamStale sid)) (fun t =>
      (t.streamSt sid.val).st = .stale ∧ (t.streamSt sid.val).cfgDue = some s.lts ∧ ∀ k : Nat, k ≠ sid.val → t.streamSt k = s.streamSt k) := by
  have hexec : exec (.streamStale sid) s = execStreamStale sid s := rfl
  rw [execStreamStale] at hexec
  dsimp only at hexec
  rw [if_pos (by simp [hworks, hlive, hstill, hold])] at hexec
  refine does_of_completes ⟨_, hexec, ?_⟩
  have hstreams (u : State) : (if u.steps then forAll (List.range 4) u (fun s r => s.evalAll r) else u).streams = u.streams := by
    split <;> simp
  have hposted : ((s.streamEnter sid.val .stale).postOnce 3 .unit (ck2 .stateEntries sid.val 3) 0).streams =
      (s.streamEnter sid.val .stale).streams := by simp
  have hvalue (k : Nat) := State.streamSt_of_streams ((hstreams _).trans hposted) k
  refine ⟨?_, ?_, fun k hne => ?_⟩
  · rw [hvalue, (s.streamSt_streamEnter_stale sid.val).1]
  · rw [hvalue, (s.streamSt_streamEnter_stale sid.val).2]
  · rw [hvalue, s.streamSt_streamEnter_ne .stale hne]

theorem does_sourceCmdTimer {s : State} {sid : Fin 8192} {due : Ns} (hcfg : (s.streamSt sid.val).cfgDue = some due) (hdue : due ≤ s.lts)
    (hon : (s.streamSt sid.val).onDue = none) :
    Does (.sourceCmdTimer sid) s (footprint (.sourceCmdTimer sid)) (fun t => (t.streamSt sid.val).cfgDue = some (s.lts + 5000000000) ∧
      (t.streamSt sid.val).st = (s.streamSt sid.val).st ∧
      ((s.streamSt sid.val).st ≠ .mismatch → (t.streamSt sid.val).onDue = some (s.lts + 100000000)) ∧
      ((s.streamSt sid.val).st = .mismatch → (t.streamSt sid.val).onDue = none)) := by
  have hexec : exec (.sourceCmdTimer sid) s = execSourceCmdTimer sid s := rfl
  rw [execSourceCmdTimer] at hexec
  rw [hcfg, hon] at hexec
  dsimp only at hexec
  rw [if_pos (decide_eq_true hdue), if_neg Bool.false_ne_true] at hexec
  have hsent : (s.sendCommand sid.val 5).streamSt sid.val = s.streamSt sid.val := State.streamSt_of_streams (by simp) _
  refine does_of_completes ⟨_, hexec, ?_⟩
  dsimp only
  rw [State.streamSt_modStream, if_pos rfl, hsent]
  exact ⟨rfl, rfl, fun hne => if_neg (by simpa using hne), fun heq => (if_pos (by simpa using heq)).trans hon⟩

/-- The device once the oldest command has been taken. -/
def State.commandTaken (s : State) (rest : List SubReq) : State := { s with pub := { s.pub with cmds := rest } }

theorem exec_subscriberCommand {s : State} {q : SubReq} {rest : List SubReq} (hcmds : s.pub.cmds = q :: rest) (hworks : s.works = true) :
    (s.commandTarget q = none → exec .subscriberCommand s = .next ((s.commandTaken rest).bumpOnce (ck .commandsRefused) 3 .sec)) ∧
    ∀ n p, s.commandTarget q = some (n, p) → exec .subscriberCommand s = .next ((s.commandTaken rest).subTake n p (beAt q.bytes 14 2)) := by
  have hexec : exec .subscriberCommand s = execSubscriberCommand s := rfl
  have htarget : (s.commandTaken rest).commandTarget q = s.commandTarget q := rfl
  have hnot : ¬(!s.works) = true := by simp [hworks]
  refine ⟨fun hnone => ?_, fun n p hsome => ?_⟩
  · rw [hexec, execSubscriberCommand, hcmds]
    dsimp only
    rw [if_neg hnot, ← State.commandTaken, htarget, hnone]
  · rw [hexec, execSubscriberCommand, hcmds]
    dsimp only
    rw [if_neg hnot, ← State.commandTaken, htarget, hsome]

/-- Settles O27. -/
theorem staleStreamsAndCommands : Obligations.StaleStreamsAndCommands := by
  intro s
  refine ⟨fun sid hworks hlive hstill hold => does_streamStale hworks hlive hstill hold,
    fun sid due hcfg hdue hon => does_sourceCmdTimer hcfg hdue hon, fun q rest hcmds hworks => ⟨fun hnone => ?_, fun n p hsome hcode => ?_⟩⟩
  · have hexec := (exec_subscriberCommand hcmds hworks).1 hnone
    refine ⟨_, hexec, ⟨?_, State.bumpOnce_ctr _ _ _ _ (by simp [ck]) (by simp [ck])⟩, ?_⟩
    · simp [State.commandTaken]
    · simp [changesOnly_iff, State.commandTaken]
  · have hexec := (exec_subscriberCommand hcmds hworks).2 n p hsome
    rw [State.subTake, if_pos hcode] at hexec
    exact ⟨_, hexec, ⟨rfl, (State.bump_countsOnce _ _).congr rfl rfl⟩, by simp [changesOnly_iff, State.commandTaken]⟩

end Sys2Proof.Machine

/-! Lemmas and proofs of the statements on rows and closes (O28, O29). -/

namespace Sys2Proof.Machine

/-! Slices and what an operation keeps of them. -/

theorem State.charge_ctrs (s : State) (r cls : Nat) (c : Cost) : (s.charge r cls c).ctrs = s.ctrs := by simp

theorem State.charge_align (s : State) (r cls : Nat) (c : Cost) : (s.charge r cls c).align = s.align := by simp

theorem State.slice_modSlice (s : State) (r : Nat) (f : SliceSt → SliceSt) (r' : Nat) :
    (s.modSlice r f).slice r' = if r' = r ∧ r < s.align.slices.length then f (s.slice r') else s.slice r' := by
  unfold State.slice State.modSlice
  rw [modAt_eq_modify, List.getD_eq_getElem?_getD, List.getD_eq_getElem?_getD, List.getElem?_modify]
  by_cases hr : r' = r
  · subst hr
    by_cases hlt : r' < s.align.slices.length
    · simp [hlt]
    · simp [hlt]
  · simp [hr, Ne.symm hr]

theorem State.slice_of_align {s t : State} (h : t.align = s.align) (r : Nat) : t.slice r = s.slice r := by
  rw [State.slice, h, State.slice]

theorem State.slice_of_getElem? {s : State} {r : Nat} {x : SliceSt} (hx : s.align.slices[r]? = some x) : s.slice r = x := by
  rw [State.slice, List.getD_eq_getElem?_getD, hx]
  rfl

/-- A slice that is there takes a change, and no other slice does. -/
theorem State.slice_modSlice_self {s : State} {r : Nat} {x : SliceSt} (hx : s.align.slices[r]? = some x) (f : SliceSt → SliceSt) :
    (s.modSlice r f).slice r = f x ∧ (s.modSlice r f).align.slices[r]? = some (f x) := by
  obtain ⟨hlt, -⟩ := List.getElem?_eq_some_iff.1 hx
  refine ⟨by rw [State.slice_modSlice, if_pos ⟨rfl, hlt⟩, State.slice_of_getElem? hx], ?_⟩
  unfold State.modSlice
  rw [modAt_eq_modify, List.getElem?_modify, hx]
  simp

theorem State.slice_modSlice_ne (s : State) {r r' : Nat} (hne : r' ≠ r) (f : SliceSt → SliceSt) : (s.modSlice r f).slice r' = s.slice r' :=
  (s.slice_modSlice r f r').trans (if_neg fun h => hne h.1)

/-- The tags and the entries of a slice's rows, and its queue, stay. -/
def SameEntries (r : Nat) (s t : State) : Prop :=
  (t.slice r).queue = (s.slice r).queue ∧
  (t.slice r).rows.map (fun w => (w.tag, w.entries)) = (s.slice r).rows.map (fun w => (w.tag, w.entries))

theorem SameEntries.of_slice {r : Nat} {s t : State} (h : t.slice r = s.slice r) : SameEntries r s t := by
  rw [SameEntries, h]
  exact ⟨rfl, rfl⟩

theorem SameEntries.of_align {r : Nat} {s t : State} (h : t.align = s.align) : SameEntries r s t := .of_slice (State.slice_of_align h r)

theorem SameEntries.refl (r : Nat) (s : State) : SameEntries r s s := .of_align rfl

theorem SameEntries.trans {r : Nat} {s t u : State} (hst : SameEntries r s t) (htu : SameEntries r t u) : SameEntries r s u :=
  ⟨htu.1.trans hst.1, htu.2.trans hst.2⟩

theorem SameEntries.exists_row {r : Nat} {s t : State} (h : SameEntries r s t) {tag : Ns} {es : List RowEntry}
    (hrow : ∃ y ∈ (s.slice r).rows, y.tag = tag ∧ y.entries = es) : ∃ y ∈ (t.slice r).rows, y.tag = tag ∧ y.entries = es := by
  obtain ⟨y, hy, htag, hentries⟩ := hrow
  have hmem : (tag, es) ∈ (t.slice r).rows.map (fun w => (w.tag, w.entries)) := by
    rw [h.2]
    exact List.mem_map.2 ⟨y, hy, by rw [htag, hentries]⟩
  obtain ⟨z, hz, heq⟩ := List.mem_map.1 hmem
  exact ⟨z, hz, congrArg Prod.fst heq, congrArg Prod.snd heq⟩

theorem State.modSlice_sameEntries (s : State) (r : Nat) {f : SliceSt → SliceSt}
    (hf : ∀ x, (f x).queue = x.queue ∧ (f x).rows.map (fun w => (w.tag, w.entries)) = x.rows.map (fun w => (w.tag, w.entries))) :
    SameEntries r s (s.modSlice r f) := by
  rw [SameEntries, State.slice_modSlice]
  split
  · exact hf _
  · exact ⟨rfl, rfl⟩

theorem State.modRow_sameEntries (s : State) (r : Nat) (tag : Ns) {f : Row → Row} (hf : ∀ w, (f w).tag = w.tag ∧ (f w).entries = w.entries) :
    SameEntries r s (s.modRow r tag f) := by
  refine s.modSlice_sameEntries r fun x => ⟨rfl, ?_⟩
  rw [List.map_map]
  refine List.map_congr_left fun w _ => ?_
  dsimp only [Function.comp]
  split
  · rw [(hf w).1, (hf w).2]
  · rfl

theorem State.history_sameEntries (s : State) (r : Nat) (e : RowEntry) (w : Row) : SameEntries r s (s.history r e w) := by
  unfold State.history
  split
  · exact .refl r s
  · unfold State.appendHist
    dsimp only
    refine SameEntries.trans ?_ (State.modSlice_sameEntries _ r fun _ => ⟨rfl, rfl⟩)
    exact (s.modRow_sameEntries r w.tag (f := fun y => y.placed _) fun _ => ⟨rfl, rfl⟩).trans (.of_align (State.charge_align _ _ _ _))

/-- The device once a row holds a group among its closed ones, the close counted. -/
def State.groupCounted (s : State) (r : Nat) (w : Row) (g : Nat) (short : Bool) : State :=
  (s.modRow r w.tag (fun w => { w with groups := w.groups ++ [g], short := w.short || short })).bump
    (ck1 (if short then .quorumShort else .quorumMet) g)

/-- A close marks the row and counts; the work that follows it leaves every slice as it is. -/
theorem State.closeGroup_align (s : State) (r : Nat) (w : Row) (g : Nat) (short : Bool) (before : Ns) :
    (s.closeGroup r w g short before).align = (s.groupCounted r w g short).align := by
  unfold State.closeGroup
  dsimp only
  rw [← State.groupCounted, apply_ite State.align]
  simp

theorem State.closeGroup_sameEntries (s : State) (r : Nat) (w : Row) (g : Nat) (short : Bool) (before : Ns) :
    SameEntries r s (s.closeGroup r w g short before) :=
  (s.modRow_sameEntries r w.tag (f := fun y => { y with groups := y.groups ++ [g], short := y.short || short })
    fun _ => ⟨rfl, rfl⟩).trans (.of_align (s.closeGroup_align r w g short before))

theorem State.evalQuorum_sameEntries (s : State) (r : Nat) (t : Ns) (g : Nat) : SameEntries r s (s.evalQuorum r t g) := by
  unfold State.evalQuorum
  split
  · exact .refl r s
  · next w _ =>
    dsimp only
    split
    · exact .refl r s
    · split
      · exact s.closeGroup_sameEntries r w g true _
      · split
        · exact s.closeGroup_sameEntries r w g false _
        · exact .refl r s

/-! Rows open, retire and leave (R164, R165, R177). -/

section
variable {r : Region} {s : State} {x : SliceSt}

/-- The row that a slice opens for a tag: the next SEQ, empty, in the first free slot. -/
def SliceSt.newRow (x : SliceSt) (tag : Ns) : Row :=
  { tag := tag, seq := x.nextSeq
    slot := ((List.range 256).find? (fun i => !((x.rows.filter (fun w => !w.retired)).any (fun w => w.slot == i)))).getD 0
    entries := [], retired := false, groups := [], sets := [], short := false, conflicts := 0, places := none }

theorem does_rowOpen (hx : s.align.slices[r.val]? = some x) (hsteps : s.steps = true) {tag : Ns} (hnext : x.next = some tag)
    (hlead : tag ≤ s.dt + s.leadNs r.val) (hroom : (x.rows.filter (fun w => !w.retired)).length < 256) :
    Does (.rowOpen r) s [.ctrs, .align] (fun t => (∃ w, (t.slice r.val).rows = x.rows ++ [w] ∧ w.tag = tag ∧ w.seq = x.nextSeq ∧
        w.entries = [] ∧ w.groups = [] ∧ w.sets = [] ∧ w.retired = false) ∧
      (t.slice r.val).queue = x.queue ∧ CountsOnce (ck1 .rowsOpened r.val) s t ∧ ∀ r' : Nat, r' ≠ r.val → t.slice r' = s.slice r') := by
  have hexec : exec (.rowOpen r) s = execRowOpen r s := rfl
  have hslice := State.slice_of_getElem? hx
  rw [execRowOpen, if_pos hsteps, State.openRow] at hexec
  dsimp only at hexec
  rw [hslice, hnext] at hexec
  dsimp only at hexec
  rw [if_neg (not_or.2 ⟨Nat.not_lt_of_le hlead, Nat.not_le_of_lt hroom⟩)] at hexec
  refine ⟨_, hexec, ⟨⟨x.newRow tag, ?_, rfl, rfl, rfl, rfl, rfl, rfl⟩, ?_, (State.bump_countsOnce _ _).congr rfl rfl, fun r' hne => ?_⟩,
    by simp [changesOnly_iff]⟩
  · rw [State.slice_of_align (State.bump_align _ _), (State.slice_modSlice_self hx _).1]
    rfl
  · rw [State.slice_of_align (State.bump_align _ _), (State.slice_modSlice_self hx _).1]
  · rw [State.slice_of_align (State.bump_align _ _), State.slice_modSlice_ne _ hne]

theorem exec_rowOpen_before (hx : s.align.slices[r.val]? = some x) (hsteps : s.steps = true) {tag : Ns} (hnext : x.next = some tag)
    (hlead : s.dt + s.leadNs r.val < tag) : exec (.rowOpen r) s = .next s := by
  have hexec : exec (.rowOpen r) s = execRowOpen r s := rfl
  rw [hexec, execRowOpen, if_pos hsteps, State.openRow]
  dsimp only
  rw [State.slice_of_getElem? hx, hnext]
  dsimp only
  rw [if_pos (Or.inl hlead)]

theorem does_rowRetire (hx : s.align.slices[r.val]? = some x) (hsteps : s.steps = true) {w : Row}
    (hw : x.rows.find? (fun w => !w.retired && decide (w.tag + s.retireNs r.val ≤ s.dt)) = some w) :
    Does (.rowRetire r) s [.align, .sch] (fun t =>
      (t.slice r.val).rows = x.rows.map (fun y => if y.tag = w.tag then { y with retired := true } else y) ∧
      (t.slice r.val).queue = x.queue) := by
  have hexec : exec (.rowRetire r) s = execRowRetire r s := rfl
  rw [execRowRetire, if_neg (by simp [hsteps])] at hexec
  dsimp only at hexec
  rw [State.slice_of_getElem? hx, hw] at hexec
  dsimp only at hexec
  have hrow := (State.slice_modSlice_self hx (fun x => { x with rows := x.rows.map (fun y => if y.tag = w.tag then { y with retired := true } else y) })).2
  have hfree := (State.slice_modSlice_self hrow (fun x => { x with stall := false })).1
  refine ⟨_, hexec, ?_, by simp [changesOnly_iff]⟩
  dsimp only
  rw [State.slice_of_align (State.charge_align _ _ _ _), State.modRow, hfree]
  exact ⟨rfl, rfl⟩

/-- The device once a row's missing streams are counted. -/
def State.missingCounted (s : State) (sids : List Nat) : State := forAll sids s (fun s i => s.bump (ck1 .missing i))

theorem State.missingCounted_frame (s : State) (sids : List Nat) : ChangesOnly [.ctrs] s (s.missingCounted sids) :=
  forAll_inv (ChangesOnly [.ctrs] s) _ (fun t i ht => ht.trans (qs := [.ctrs]) (by simp [changesOnly_iff]) (by simp) (by simp)) sids s (.refl _ _)

theorem State.finalRow_slice (hx : s.align.slices[r.val]? = some x) (w : Row) :
    ((s.finalRow r.val w false).slice r.val).rows = x.rows.filter (fun y => y.tag != w.tag) ∧
    ((s.finalRow r.val w false).slice r.val).queue = x.queue := by
  unfold State.finalRow
  dsimp only
  rw [← State.missingCounted]
  generalize hu : s.missingCounted _ = u
  have halign : u.align = s.align := hu ▸ s.missingCounted_frame _ .align (by simp)
  have hrow := State.slice_modSlice_self (s := u) (halign ▸ hx) (fun x => { x with rows := x.rows.filter (fun y => y.tag != w.tag) })
  rw [if_neg Bool.false_ne_true]
  split
  · rw [State.slice_of_align (State.bump_align _ _), hrow.1]
    exact ⟨rfl, rfl⟩
  · rw [(State.slice_modSlice_self hrow.2 _).1]
    exact ⟨rfl, rfl⟩

theorem does_rowFinal (hx : s.align.slices[r.val]? = some x) (hsteps : s.steps = true) {w : Row}
    (hw : x.rows.find? (fun w => decide (w.tag + (s.retireNs r.val + s.horizonNs r.val) ≤ s.dt)) = some w) :
    Does (.rowFinal r) s [.ctrs, .align] (fun t =>
      (t.slice r.val).rows = x.rows.filter (fun y => y.tag != w.tag) ∧ (t.slice r.val).queue = x.queue) := by
  have hexec : exec (.rowFinal r) s = execRowFinal r s := rfl
  rw [execRowFinal, if_neg (by simp [hsteps])] at hexec
  dsimp only at hexec
  rw [State.slice_of_getElem? hx, hw] at hexec
  exact does_of_completes ⟨_, hexec, State.finalRow_slice hx w⟩

end

/-! A value enters its row (R166, R180, Table ALN-6). -/

section
variable {r : Nat} {s : State} {x : SliceSt} {v : SliceIn} {first : Ns}

/-- The device once a value has left the front of its slice's queue. -/
def State.valueTaken (s : State) (r : Nat) (v : SliceIn) : State :=
  (s.modSlice r (fun x => { x with queue := x.queue.drop 1, stall := false })).charge r 0
    { cycles := 0, dram := 0, flits := ((entryLen v - 16 + 31) / 32 : Nat), egress := 0 }

theorem State.valueTaken_align (s : State) (r : Nat) (v : SliceIn) :
    (s.valueTaken r v).align = (s.modSlice r (fun x => { x with queue := x.queue.drop 1, stall := false })).align := by
  simp [State.valueTaken]

theorem State.valueTaken_ctrs (s : State) (r : Nat) (v : SliceIn) : (s.valueTaken r v).ctrs = s.ctrs := by simp [State.valueTaken]

theorem State.valueTaken_slice (hx : s.align.slices[r]? = some x) (v : SliceIn) :
    (s.valueTaken r v).slice r = { x with queue := x.queue.drop 1, stall := false } ∧
    (s.valueTaken r v).align.slices[r]? = some { x with queue := x.queue.drop 1, stall := false } := by
  have h := State.slice_modSlice_self hx (fun x => { x with queue := x.queue.drop 1, stall := false })
  exact ⟨(State.slice_of_align (s.valueTaken_align r v) r).trans h.1, by rw [s.valueTaken_align]; exact h.2⟩

section
variable (hx : s.align.slices[r]? = some x) (hfirst : x.first = some first) (hpages : slotPages (v :: s.slotVals r) ≤ 30720)
  (hroom : (x.rows.filter (fun w => !w.retired)).length < 256)
include hx hfirst hpages hroom

theorem State.enterRow_before (hbefore : v.tag < first) : s.enterRow r v = (s.valueTaken r v).bump (ck1 .beforeStart v.unit) := by
  unfold State.enterRow
  dsimp only
  rw [State.slice_of_getElem? hx, hfirst, if_neg (not_or.2 ⟨Nat.not_lt_of_le hpages, Nat.not_le_of_lt hroom⟩)]
  dsimp only
  rw [if_pos (decide_eq_true hbefore)]
  rfl

/-- The device once a value of an open row stands in it, its late consumers counted and its groups evaluated. -/
def State.valueEntered (s : State) (r : Nat) (w : Row) (v : SliceIn) : State :=
  let u := (s.putEntry r w v false false).countAfter r w v
  forAll ((u.regionGroups r).filter (fun g => (u.groupMembers g).any (fun c => u.holds c v))) u (fun s g => s.evalQuorum r v.tag g)

theorem State.enterRow_on_time {w : Row} {nx : Ns} (hafter : first ≤ v.tag) (hlead : v.tag ≤ s.dt + s.leadNs r) (hnext : x.next = some nx)
    (hopen : s.dt + s.leadNs r < nx) (htag : s.rowTag r v.tag = v.tag) (hw : x.rows.find? (fun y => y.tag == v.tag) = some w)
    (hheld : w.retired = false) (hretire : s.dt < v.tag + s.retireNs r) (hcopy : firstCopy w.entries v = none) :
    s.enterRow r v = (s.valueTaken r v).valueEntered r w v := by
  have htime : (s.valueTaken r v).dt = s.dt := by simp [State.dt, State.valueTaken]
  have hrec (k : Tbl) (i : Nat) : (s.valueTaken r v).rec_ k i = s.rec_ k i := by simp [State.rec_, State.valueTaken]
  have hleadNs : (s.valueTaken r v).leadNs r = s.leadNs r := by rw [State.leadNs, hrec, State.leadNs]
  have hretireNs : (s.valueTaken r v).retireNs r = s.retireNs r := by rw [State.retireNs, hrec, State.retireNs]
  have htaken := (State.valueTaken_slice hx v).1
  have hopened : (s.valueTaken r v).openRow r = s.valueTaken r v := by
    rw [State.openRow]
    dsimp only
    rw [htaken]
    dsimp only
    rw [hnext]
    dsimp only
    rw [if_pos (Or.inl _)]
    rw [htime, hleadNs]
    exact hopen
  have hnotPast : ¬ v.tag + s.retireNs r ≤ s.dt := Nat.not_le_of_lt hretire
  unfold State.enterRow
  dsimp only
  rw [State.slice_of_getElem? hx, hfirst, if_neg (not_or.2 ⟨Nat.not_lt_of_le hpages, Nat.not_le_of_lt hroom⟩), ← State.valueTaken]
  dsimp only
  rw [hopened, htaken, htag, htime, hleadNs, hretireNs, if_neg (by simpa using Nat.not_lt_of_le hafter), if_neg (Nat.not_lt_of_le hlead)]
  dsimp only
  rw [hw]
  dsimp only
  rw [if_neg (fun h => hnotPast (Nat.le_trans (Nat.le_add_right _ _) h)), hcopy]
  dsimp only
  rw [if_neg (fun h => h.1 rfl), hheld, decide_eq_false hnotPast, Bool.false_or, if_neg Bool.false_ne_true]
  rfl

end

/-- The device once an open row holds a value behind those there. -/
def State.rowEntered (s : State) (r : Nat) (w : Row) (v : SliceIn) : State :=
  s.modRow r w.tag (fun w => { w with entries := w.entries ++ [{ val := v, entered := s.dt, between := false, late := false }] })

theorem State.putEntry_sameEntries (s : State) (r : Nat) (w : Row) (v : SliceIn) :
    SameEntries r (s.rowEntered r w v) (s.putEntry r w v false false) := by
  unfold State.putEntry
  dsimp only
  rw [← State.rowEntered]
  generalize s.rowEntered r w v = u
  have hpeak := u.modSlice_sameEntries r (f := fun x => { x with peakPages := max x.peakPages (u.pages r) }) (fun _ => ⟨rfl, rfl⟩)
  split
  · exact hpeak.trans (State.history_sameEntries _ r _ w)
  · exact hpeak

theorem State.valueEntered_sameEntries (s : State) (r : Nat) (w : Row) (v : SliceIn) :
    SameEntries r (s.rowEntered r w v) (s.valueEntered r w v) := by
  unfold State.valueEntered
  dsimp only
  have hcounted : SameEntries r (s.rowEntered r w v) ((s.putEntry r w v false false).countAfter r w v) :=
    (s.putEntry_sameEntries r w v).trans (.of_align (by simp))
  exact forAll_inv (SameEntries r (s.rowEntered r w v)) _ (fun t g ht => ht.trans (t.evalQuorum_sameEntries r v.tag g)) _ _ hcounted

theorem State.valueEntered_rows (hx : s.align.slices[r]? = some x) (w : Row) (v : SliceIn) :
    ((s.valueEntered r w v).slice r).queue = x.queue ∧ (w ∈ x.rows → w.tag = v.tag →
      ∃ y ∈ ((s.valueEntered r w v).slice r).rows, y.tag = v.tag ∧
        y.entries = w.entries ++ [{ val := v, entered := s.dt, between := false, late := false }]) := by
  have hkept := s.valueEntered_sameEntries r w v
  have hrow := (State.slice_modSlice_self hx (fun x => { x with rows := x.rows.map (fun y => if y.tag = w.tag then
    { y with entries := y.entries ++ [{ val := v, entered := s.dt, between := false, late := false }] } else y) })).1
  refine ⟨?_, fun hmem htag => hkept.exists_row ?_⟩
  · rw [hkept.1, State.rowEntered, State.modRow, hrow]
  · rw [State.rowEntered, State.modRow, hrow]
    exact ⟨_, List.mem_map_of_mem hmem, by rw [if_pos rfl]; exact htag, by rw [if_pos rfl]⟩

end

theorem exec_sliceEntry_of_value {r : Region} {s : State} {x : SliceSt} {v : SliceIn} {rest : List SliceIn} (hx : s.align.slices[r.val]? = some x)
    (hsteps : s.steps = true) (hqueue : x.queue = v :: rest) (hkind : ∀ d, v = .frame d → d.kind < 2) (hstalled : (s.reg r.val).stalled = []) :
    exec (.sliceEntry r) s = .next (s.enterRow r.val v) := by
  have hexec : exec (.sliceEntry r) s = execSliceEntry r s := rfl
  rw [hexec, execSliceEntry, if_neg (by simp [hsteps, hstalled]), State.slice_of_getElem? hx, hqueue]
  cases v with
  | frame d =>
    dsimp only
    rw [if_neg (Nat.not_le_of_lt (hkind d rfl))]
  | est d => rfl

/-- Settles O28. -/
theorem rowsOpenFillAndRetire : Obligations.RowsOpenFillAndRetire := by
  intro r s x hx hsteps
  refine ⟨fun tag hnext hlead hroom => does_rowOpen hx hsteps hnext hlead hroom, fun tag hnext hlead => exec_rowOpen_before hx hsteps hnext hlead,
    fun w hw => does_rowRetire hx hsteps hw, fun w hw => does_rowFinal hx hsteps hw,
    fun v rest first hqueue hkind hstalled hfirst hpages hroom => ?_⟩
  have hexec := exec_sliceEntry_of_value hx hsteps hqueue hkind hstalled
  have htaken := State.valueTaken_slice hx v
  rw [hqueue] at htaken
  refine ⟨fun hbefore => ?_, fun w nx hafter hlead hnext hopen htag hw hheld hretire hcopy => ?_⟩
  · rw [State.enterRow_before hx hfirst hpages hroom hbefore] at hexec
    refine ⟨_, hexec, ⟨?_, ?_, (State.bump_countsOnce (s.valueTaken r.val v) _).congr (s.valueTaken_ctrs r.val v).symm rfl⟩,
      by simp [changesOnly_iff, State.valueTaken]⟩
    · rw [State.slice_of_align (State.bump_align _ _), htaken.1]
      rfl
    · rw [State.slice_of_align (State.bump_align _ _), htaken.1]
  · rw [State.enterRow_on_time hx hfirst hpages hroom hafter hlead hnext hopen htag hw hheld hretire hcopy] at hexec
    have hentered := State.valueEntered_rows htaken.2 w v
    have htime : (s.valueTaken r.val v).dt = s.dt := by simp [State.dt, State.valueTaken]
    rw [htime] at hentered
    exact does_of_completes ⟨_, hexec, hentered.1, hentered.2 (List.mem_of_find?_eq_some hw) (by simpa using List.find?_some hw)⟩

/-! Closes (R174, R176). -/

/-- The counters of a post: of its placing, its stall and its attention. -/
abbrev postCtrs : List Ctr := [.shedDiscards, .itemsPosted, .quorumStalls, .deadlineStalls, .traceDrops, .oversizeTx, .queueHolds]

theorem State.placeReady_ctrs (s : State) (it : Item) : CtrsKept [.traceDrops] s (s.placeReady it) := (State.trace_ctrs _ _ _ _ _).before rfl

theorem State.postNow_ctrs (s : State) (src : PostSrc) (it : Item) : CtrsKept postCtrs s (s.postNow src it) := by
  have hposted : CtrsKept postCtrs s (s.bump (ck2 .itemsPosted it.region it.cls)) := (CtrsKept.refl _ s).bump (by simp [ck2])
  unfold State.postNow
  dsimp only
  split
  · exact hposted
  · exact hposted.trans ((State.placeReady_ctrs _ it).mono (by simp))

theorem State.postItem_ctrs (s : State) (src : PostSrc) (it : Item) : CtrsKept postCtrs s (s.postItem src it) := by
  unfold State.postItem
  split
  · exact .refl _ s
  · split
    · exact ((CtrsKept.refl _ s).bump (by simp [ck2])).trans ((State.trace_ctrs _ _ _ _ _).mono (by simp))
    · split
      · exact s.postNow_ctrs src it
      · dsimp only
        split
        · exact CtrsKept.before (State.bumpOnce_ctrs (cs := postCtrs) _ _ _ (by simp [ck1]) (by simp)) rfl
        · exact CtrsKept.before (State.bumpOnce_ctrs (cs := postCtrs) _ _ _ (by simp [ck1]) (by simp)) rfl
        · exact .of_ctrs rfl

theorem State.groupClosed_ctrs (s : State) (gs : GroupSet) (slot : Nat) :
    CtrsKept (.ringOverruns :: postCtrs) s (s.groupClosed gs slot) := by
  unfold State.groupClosed
  dsimp only
  refine CtrsKept.trans ?_ ((State.postItem_ctrs _ _ _).mono (by simp))
  refine CtrsKept.same ?_ rfl
  split
  · have hring (u : State) (none : Bool) (n : Nat) (hu : u.ctrs = s.ctrs) : CtrsKept (.ringOverruns :: postCtrs) s
        (if none = true then u else (u.bumpBy (ck1 .ringOverruns gs.group) n).postOnce 3 .unit (ck1 .ringOverruns gs.group) 0) := by
      split
      · exact .of_ctrs hu
      · exact ((CtrsKept.of_ctrs hu).bumpBy (by simp [ck1]) n).trans ((State.postOnce_ctrs _ _ _ _ _).mono (by simp))
    exact hring _ _ _ (by simp)
  · exact .refl _ s

theorem State.closeGroup_ctrs (s : State) (r : Nat) (w : Row) (g : Nat) (short : Bool) (before : Ns) :
    CtrsKept (.ringOverruns :: postCtrs) (s.groupCounted r w g short) (s.closeGroup r w g short before) := by
  unfold State.closeGroup
  dsimp only
  rw [← State.groupCounted]
  split
  · exact .refl _ _
  · exact State.groupClosed_ctrs _ _ _

/-- Every row of the tag is one that the change has made. -/
theorem State.modRow_marks (s : State) (r : Nat) (tag : Ns) (f : Row → Row) :
    ∀ y ∈ ((s.modRow r tag f).slice r).rows, y.tag = tag → ∃ z, y = f z := by
  intro y hy htag
  rw [State.modRow, State.slice_modSlice] at hy
  by_cases hlt : r < s.align.slices.length
  · rw [if_pos ⟨rfl, hlt⟩] at hy
    obtain ⟨z, -, rfl⟩ := List.mem_map.1 hy
    by_cases hz : z.tag = tag
    · exact ⟨z, if_pos hz⟩
    · rw [if_neg hz] at htag
      exact absurd htag hz
  · rw [if_neg fun h => hlt h.2, State.slice, List.getD_eq_default _ _ (Nat.le_of_not_lt hlt)] at hy
    exact absurd hy List.not_mem_nil

theorem State.groupCounted_rows (s : State) (r : Nat) (w : Row) (g : Nat) :
    ∀ y ∈ ((s.groupCounted r w g true).slice r).rows, y.tag = w.tag → g ∈ y.groups ∧ y.short = true := by
  rw [State.groupCounted, State.slice_of_align (State.bump_align _ _)]
  intro y hy htag
  obtain ⟨z, rfl⟩ := s.modRow_marks r w.tag _ y hy htag
  exact ⟨List.mem_append_right _ (List.mem_singleton.2 rfl), Bool.or_true _⟩

theorem does_quorumWaitExpiry {s : State} (hsteps : s.steps = true) {g : Fin 256} {w : Row} (hvalid : groupValid (s.rec_ .group g.val) ≠ 0)
    (hw : (s.slice (groupRegion (s.rec_ .group g.val))).rows.find? (fun w => !w.groups.contains g.val &&
      onGrid (rateOf (groupSetRate (s.rec_ .group g.val))) w.tag && decide (w.tag + groupQWait (s.rec_ .group g.val) * 1000 ≤ s.dt)) = some w) :
    Does (.quorumWaitExpiry g) s (footprint (.quorumWaitExpiry g)) (fun t =>
      t.ctr (ck1 .quorumShort g.val) = satAdd (s.ctr (ck1 .quorumShort g.val)) 1 ∧ t.dt = s.dt ∧
      ∀ y ∈ (t.slice (groupRegion (s.rec_ .group g.val))).rows, y.tag = w.tag → g.val ∈ y.groups ∧ y.short = true) := by
  have hexec : exec (.quorumWaitExpiry g) s = execQuorumWaitExpiry g s := rfl
  rw [execQuorumWaitExpiry] at hexec
  dsimp only at hexec
  rw [if_neg (by simp [hsteps, hvalid]), hw] at hexec
  dsimp only at hexec
  refine does_of_completes ⟨_, hexec, ?_, by simp [State.dt], ?_⟩
  · refine (CtrsKept.counted (k := ck1 .quorumShort g.val) (cs := .ringOverruns :: postCtrs) ?_ (by simp [ck1])).trans rfl
    exact State.closeGroup_ctrs s _ w g.val true _
  · rw [State.slice_of_align (State.closeGroup_align _ _ _ _ _ _)]
    exact State.groupCounted_rows _ _ _ _

/-- No row of the tag holds an open part of the output set. -/
def PartClosed (n : Nat) (tag : Ns) (r : Nat) (s : State) : Prop := ∀ y ∈ (s.slice r).rows, y.tag = tag → n ∈ y.sets

theorem State.closePart_slice (s : State) (n r : Nat) (w : Row) (before : Ns) (r' : Nat) :
    (s.closePart n r w before).slice r' = (s.modRow r w.tag (fun w => { w with sets := w.sets ++ [n] })).slice r' := by
  unfold State.closePart
  dsimp only
  split
  · rfl
  · rfl

theorem State.closePart_closed (s : State) (n r : Nat) (w : Row) (before : Ns) :
    PartClosed n w.tag r (s.closePart n r w before) ∧
    ∀ r' : Nat, PartClosed n w.tag r' s → PartClosed n w.tag r' (s.closePart n r w before) := by
  have hself : PartClosed n w.tag r (s.closePart n r w before) := by
    intro y hy htag
    rw [State.closePart_slice] at hy
    obtain ⟨z, rfl⟩ := s.modRow_marks r w.tag _ y hy htag
    exact List.mem_append_right _ (List.mem_singleton.2 rfl)
  refine ⟨hself, fun r' hr' => ?_⟩
  by_cases heq : r' = r
  · exact heq ▸ hself
  · intro y hy
    rw [State.closePart_slice, State.modRow, State.slice_modSlice_ne _ heq] at hy
    exact hr' y hy

/-- One region's step of the close of an output set at a tag. -/
def State.closeIn (s : State) (n : Nat) (t before : Ns) (r : Nat) : State :=
  if s.holdsPart n r then
    match (s.slice r).rows.find? (fun w => w.tag == t && !w.sets.contains n) with
    | some w => s.closePart n r w before
    | none => if !s.contentIn n r && s.launchRegion n == some r then s.closePart n r (emptyRow t) before else s
  else s

theorem State.closeIn_closed (s : State) (n : Nat) (t before : Ns) (r : Nat) :
    (s.holdsPart n r = true → PartClosed n t r (s.closeIn n t before r)) ∧
    ∀ r' : Nat, PartClosed n t r' s → PartClosed n t r' (s.closeIn n t before r) := by
  unfold State.closeIn
  split
  · split
    · next w hw =>
      have htag : w.tag = t := by
        have h := List.find?_some hw
        simp only [Bool.and_eq_true, beq_iff_eq] at h
        exact h.1
      have hclosed := s.closePart_closed n r w before
      rw [htag] at hclosed
      exact ⟨fun _ => hclosed.1, hclosed.2⟩
    · next hnone =>
      split
      · have hclosed := s.closePart_closed n r (emptyRow t) before
        exact ⟨fun _ => hclosed.1, hclosed.2⟩
      · refine ⟨fun _ y hy htag => ?_, fun _ h => h⟩
        have hopen := List.find?_eq_none.1 hnone y hy
        simpa [htag] using hopen
  · next hnot => exact ⟨fun h => absurd h hnot, fun _ h => h⟩

theorem State.closeIn_img (s : State) (n : Nat) (t before : Ns) (r : Nat) : (s.closeIn n t before r).img = s.img := by
  unfold State.closeIn
  split
  · split
    · simp
    · split
      · simp
      · rfl
  · rfl

theorem State.holdsPart_of_img {s u : State} (h : u.img = s.img) (n r : Nat) : u.holdsPart n r = s.holdsPart n r := by
  have hread (v : State) : v.holdsPart n r = ({ s with img := v.img } : State).holdsPart n r := rfl
  rw [hread u, h]

theorem State.postScan_align (s : State) (n : Nat) (t : Ns) : (s.postScan n t).align = s.align := by simp

/-- What each step of a run over a list reaches, and the others keep, holds at its end. -/
theorem forAll_reaches {σ α : Type} {f : σ → α → σ} {I : σ → Prop} {P : α → σ → Prop} (hI : ∀ s x, I s → I (f s x))
    (hreach : ∀ s x, I s → P x (f s x)) (hkeep : ∀ s x y, P y s → P y (f s x)) (xs : List α) (s : σ) (hs : I s) :
    ∀ x ∈ xs, P x (forAll xs s f) := by
  induction xs generalizing s with
  | nil => exact fun x hx => absurd hx List.not_mem_nil
  | cons y ys ih =>
    intro x hx
    obtain rfl | hx := List.mem_cons.1 hx
    · exact forAll_inv (P x) f (fun t z ht => hkeep t z x ht) ys (f s x) (hreach s x hs)
    · exact ih (f s y) (hI s y hs) x hx

theorem State.closeSet_closed (s : State) (n : Nat) (t before : Ns) {r : Nat} (hr : r < 4) (hholds : s.holdsPart n r = true) :
    PartClosed n t r (s.closeSet n t before) := by
  have hparts : PartClosed n t r (forAll (List.range 4) s (fun u r => u.closeIn n t before r)) := by
    refine forAll_reaches (f := fun u r => State.closeIn u n t before r) (I := fun u => u.img = s.img)
      (P := fun r u => s.holdsPart n r = true → PartClosed n t r u) ?_ ?_ ?_ (List.range 4) s rfl r (List.mem_range.2 hr) hholds
    · exact fun u r h => (u.closeIn_img n t before r).trans h
    · exact fun u r h hr => (u.closeIn_closed n t before r).1 ((State.holdsPart_of_img h n r).trans hr)
    · exact fun u r r' h hr' => (u.closeIn_closed n t before r).2 r' (h hr')
  unfold State.closeSet
  dsimp only
  split
  · exact hparts
  · rw [PartClosed, State.slice_of_align (State.postScan_align _ _ _)]
    exact hparts

section
variable {s : State} (hsteps : s.steps = true) {n : Fin 64} (huse : s.outInUse n.val = true)
  (halarm : outStreamAlarm (s.rec_ .outStream n.val) ≠ 1)
include hsteps huse halarm

theorem exec_deadlineClose_none
    (hnone : (s.openTags n.val).filter (fun t => decide (t + outSetWait (s.rec_ .outSet n.val) * 1000 ≤ s.dt)) = []) :
    exec (.deadlineClose n) s = .next s := by
  have hexec : exec (.deadlineClose n) s = execDeadlineClose n s := rfl
  rw [hexec, execDeadlineClose]
  dsimp only
  rw [if_neg (by simp [hsteps, huse, halarm]), hnone]

/-- The earliest tag that is due closes. -/
theorem exec_deadlineClose_earliest {tag : Ns}
    (hmem : tag ∈ (s.openTags n.val).filter (fun t => decide (t + outSetWait (s.rec_ .outSet n.val) * 1000 ≤ s.dt)))
    (hfirst : ∀ u ∈ (s.openTags n.val).filter (fun t => decide (t + outSetWait (s.rec_ .outSet n.val) * 1000 ≤ s.dt)), tag ≤ u) :
    exec (.deadlineClose n) s = .next (s.closeSet n.val tag (tag + outSetWait (s.rec_ .outSet n.val) * 1000)) := by
  have hexec : exec (.deadlineClose n) s = execDeadlineClose n s := rfl
  rw [hexec, execDeadlineClose]
  dsimp only
  rw [if_neg (by simp [hsteps, huse, halarm])]
  generalize (s.openTags n.val).filter (fun t => decide (t + outSetWait (s.rec_ .outSet n.val) * 1000 ≤ s.dt)) = due at hmem hfirst ⊢
  cases due with
  | nil => exact absurd hmem List.not_mem_nil
  | cons t ts =>
    have hmin : ts.foldl min t = tag := Option.some.inj
      (List.min?_cons'.symm.trans (List.min?_eq_some_iff.2 ⟨hmem, hfirst⟩))
    dsimp only
    rw [hmin]

end

/-- Settles O29. -/
theorem quorumAndDeadlineCloses : Obligations.QuorumAndDeadlineCloses := by
  intro s hsteps
  refine ⟨fun g w hvalid _ hw => does_quorumWaitExpiry hsteps hvalid hw, fun g hvalid => ?_, fun n huse halarm =>
    ⟨fun hnone => exec_deadlineClose_none hsteps huse halarm hnone, fun tag hmem hfirst => ?_⟩⟩
  · have hexec : exec (.quorumWaitExpiry g) s = execQuorumWaitExpiry g s := rfl
    rw [hexec, execQuorumWaitExpiry]
    dsimp only
    rw [if_pos (by simp [hvalid])]
  · refine does_of_completes ⟨_, exec_deadlineClose_earliest hsteps huse halarm hmem hfirst, by simp [State.dt], fun r hr _ hholds => ?_⟩
    exact State.closeSet_closed s n.val tag _ hr hholds

end Sys2Proof.Machine

/-! Lemmas and proofs of the statements on lanes and input queues (O30, O31, O32). -/

namespace Sys2Proof.Machine

/-! Lanes and queues. -/

theorem State.lane_modLane (s : State) (l : Nat) (f : LaneSt → LaneSt) (l' : Nat) :
    (s.modLane l f).lane l' = if l' = l ∧ l < s.swage.lanes.length then f (s.lane l') else s.lane l' := by
  unfold State.lane State.modLane
  rw [modAt_eq_modify, List.getD_eq_getElem?_getD, List.getD_eq_getElem?_getD, List.getElem?_modify]
  by_cases hl : l' = l
  · subst hl
    by_cases hlt : l' < s.swage.lanes.length
    · simp [hlt]
    · simp [hlt]
  · simp [hl, Ne.symm hl]

theorem State.wq_modWq (s : State) (g : Nat) (f : QueueSt → QueueSt) (g' : Nat) :
    (s.modWq g f).wq g' = if g' = g ∧ g < s.swage.queues.length then f (s.wq g') else s.wq g' := by
  unfold State.wq State.modWq
  rw [modAt_eq_modify, List.getD_eq_getElem?_getD, List.getD_eq_getElem?_getD, List.getElem?_modify]
  by_cases hg : g' = g
  · subst hg
    by_cases hlt : g' < s.swage.queues.length
    · simp [hlt]
    · simp [hlt]
  · simp [hg, Ne.symm hg]

theorem State.lane_modLane_ne (s : State) {l l' : Nat} (hne : l' ≠ l) (f : LaneSt → LaneSt) : (s.modLane l f).lane l' = s.lane l' :=
  (s.lane_modLane l f l').trans (if_neg fun h => hne h.1)

theorem State.lane_modLane_self {s : State} {l : Nat} (hl : l < s.swage.lanes.length) (f : LaneSt → LaneSt) :
    (s.modLane l f).lane l = f (s.lane l) :=
  (s.lane_modLane l f l).trans (if_pos ⟨rfl, hl⟩)

theorem State.wq_modWq_self {s : State} {g : Nat} (hg : g < s.swage.queues.length) (f : QueueSt → QueueSt) :
    (s.modWq g f).wq g = f (s.wq g) :=
  (s.wq_modWq g f g).trans (if_pos ⟨rfl, hg⟩)

theorem State.lane_of_lanes {s t : State} (h : t.swage.lanes = s.swage.lanes) (l : Nat) : t.lane l = s.lane l := by
  rw [State.lane, h, State.lane]

theorem State.wq_of_queues {s t : State} (h : t.swage.queues = s.swage.queues) (g : Nat) : t.wq g = s.wq g := by
  rw [State.wq, h, State.wq]

theorem State.lane_of_getElem? {s : State} {l : Nat} {x : LaneSt} (hx : s.swage.lanes[l]? = some x) : s.lane l = x := by
  rw [State.lane, List.getD_eq_getElem?_getD, hx]
  rfl

theorem State.wq_of_getElem? {s : State} {g : Nat} {q : QueueSt} (hq : s.swage.queues[g]? = some q) : s.wq g = q := by
  rw [State.wq, List.getD_eq_getElem?_getD, hq]
  rfl

theorem State.bumpOnce_swage (s : State) (k : CtrKey) (lvl : Nat) (cls : AttClass) : (s.bumpOnce k lvl cls).swage = s.swage := by simp

/-! What the level of WV_HOLD_Nn leaves as it is (R205). -/

/-- What a queue holds: its words, its banks and what its reader has. -/
def QueueSt.content (q : QueueSt) : List QWord × List QWord × Bytes × Nat × Nat × Option Ns × Bytes × Bool :=
  (q.reading, q.writing, q.part, q.partFirst, q.bank, q.since, q.parse, q.lost)

/-- The lanes stay, the queues' number and what every queue holds. -/
def SameContent (s t : State) : Prop :=
  t.swage.lanes = s.swage.lanes ∧ t.swage.queues.length = s.swage.queues.length ∧ ∀ g : Nat, (t.wq g).content = (s.wq g).content

theorem SameContent.refl (s : State) : SameContent s s := ⟨rfl, rfl, fun _ => rfl⟩

theorem SameContent.of_swage {s t : State} (h : t.swage = s.swage) : SameContent s t :=
  ⟨congrArg SwageSt.lanes h, by rw [h], fun g => congrArg QueueSt.content (State.wq_of_queues (by rw [h]) g)⟩

theorem SameContent.trans {s t u : State} (hst : SameContent s t) (htu : SameContent t u) : SameContent s u :=
  ⟨htu.1.trans hst.1, htu.2.1.trans hst.2.1, fun g => (htu.2.2 g).trans (hst.2.2 g)⟩

theorem SameContent.lane {s t : State} (h : SameContent s t) (l : Nat) : t.lane l = s.lane l := State.lane_of_lanes h.1 l

theorem SameContent.wq {s t : State} (h : SameContent s t) (g : Nat) :
    (t.wq g).reading = (s.wq g).reading ∧ (t.wq g).writing = (s.wq g).writing ∧ (t.wq g).part = (s.wq g).part ∧
    (t.wq g).parse = (s.wq g).parse ∧ (t.wq g).lost = (s.wq g).lost := by
  have hg := h.2.2 g
  simp only [QueueSt.content, Prod.mk.injEq] at hg
  obtain ⟨hreading, hwriting, hpart, -, -, -, hparse, hlost⟩ := hg
  exact ⟨hreading, hwriting, hpart, hparse, hlost⟩

theorem State.modWq_sameContent (s : State) (g : Nat) {f : QueueSt → QueueSt} (hf : ∀ q, (f q).content = q.content) :
    SameContent s (s.modWq g f) := by
  refine ⟨rfl, by rw [State.modWq, modAt_eq_modify, List.length_modify], fun g' => ?_⟩
  rw [State.wq_modWq]
  split
  · exact hf _
  · rfl

theorem State.evalHold_sameContent (s : State) (g : Nat) : SameContent s (s.evalHold g) := by
  unfold State.evalHold
  dsimp only
  split
  · exact (s.modWq_sameContent g (f := fun q => { q with hold := true, holdSeen := true, holdNow := true }) fun _ => rfl).trans
      (.of_swage (State.bumpOnce_swage _ _ _ _))
  · split
    · exact s.modWq_sameContent g fun _ => rfl
    · exact .refl s

/-- The counters of a level that is raised. -/
abbrev holdCtrs : List Ctr := [.holdAssertions, .oversizeTx, .queueHolds]

theorem State.evalHold_ctrs (s : State) (g : Nat) : CtrsKept holdCtrs s (s.evalHold g) := by
  unfold State.evalHold
  dsimp only
  split
  · exact CtrsKept.before (State.bumpOnce_ctrs (cs := holdCtrs) _ _ _ (by simp [ck1]) (by simp)) rfl
  · split
    · exact .of_ctrs rfl
    · exact .refl _ s

/-! The partial word closes (R203). -/

theorem State.closePartial_of_empty {s : State} {g : Nat} (h : (s.wq g).part = []) : s.closePartial g = s := by
  rw [State.closePartial, h]
  rfl

theorem State.closePartial_of_part {s : State} {g : Nat} (h : (s.wq g).part ≠ []) :
    s.closePartial g = ((s.modWq g QueueSt.close).bump (ck1 .partialWords g)).evalHold g := by
  rw [State.closePartial, if_neg (by simpa using h)]

theorem State.closePartial_ctrs (s : State) (g : Nat) : CtrsKept (.partialWords :: holdCtrs) s (s.closePartial g) := by
  unfold State.closePartial
  split
  · exact .refl _ s
  · exact (CtrsKept.bump (CtrsKept.of_ctrs rfl) (by simp [ck1])).trans ((State.evalHold_ctrs _ g).mono (by simp))

/-- Closing a partial word keeps the lanes and the other queues, and leaves none. -/
theorem State.closePartial_values (s : State) (g : Nat) :
    (s.closePartial g).swage.lanes = s.swage.lanes ∧ (s.closePartial g).swage.queues.length = s.swage.queues.length ∧
    ((s.closePartial g).wq g).part = [] ∧ ∀ g' : Nat, g' ≠ g → ((s.closePartial g).wq g').content = (s.wq g').content := by
  by_cases hpart : (s.wq g).part = []
  · rw [State.closePartial_of_empty hpart]
    exact ⟨rfl, rfl, hpart, fun _ _ => rfl⟩
  · rw [State.closePartial_of_part hpart]
    have hlevel := State.evalHold_sameContent ((s.modWq g QueueSt.close).bump (ck1 .partialWords g)) g
    have hg : g < s.swage.queues.length := by
      refine Nat.lt_of_not_le fun hle => hpart ?_
      rw [State.wq, List.getD_eq_default _ _ hle]
      rfl
    refine ⟨hlevel.1, hlevel.2.1.trans (by rw [State.bump_swage, State.modWq, modAt_eq_modify, List.length_modify]), ?_, fun g' hne => ?_⟩
    · rw [(hlevel.wq g).2.2.1, State.wq_of_queues (congrArg SwageSt.queues (State.bump_swage _ _)), State.wq_modWq_self hg, QueueSt.close,
        if_neg (by simpa using hpart)]
    · rw [hlevel.2.2 g', State.wq_of_queues (congrArg SwageSt.queues (State.bump_swage _ _)), State.wq_modWq_ne hne]

/-! A record goes to its queue (R203, R207). -/

theorem State.handOff_lanes (s : State) (g : Nat) : (s.handOff g).swage.lanes = s.swage.lanes := (s.closePartial_values g).1

theorem State.handOff_ctrs (s : State) (g : Nat) : CtrsKept (.partialWords :: holdCtrs) s (s.handOff g) := (s.closePartial_ctrs g).same rfl

/-- The state of a lane, its latest number and when it came. -/
def LaneSt.progress (x : LaneSt) : LaneState × Option Nat × Ns := (x.st, x.last, x.at_)

theorem State.modLane_progress (s : State) (l : Nat) {f : LaneSt → LaneSt} (hf : ∀ x, (f x).progress = x.progress) (l' : Nat) :
    ((s.modLane l f).lane l').progress = (s.lane l').progress := by
  rw [State.lane_modLane]
  split
  · exact hf _
  · rfl

/-- The counters that the writing of a record may move. -/
abbrev recordCtrs : List Ctr := .laneOverflows :: .partialWords :: holdCtrs

/-- A record meets the bank being written as it then stands: it is written there, or it is lost. -/
def State.putRecord (s : State) (l : Nat) (r : Bytes) : State :=
  if (s.wq (l / 2)).room < r.length then
    (if (s.wq (l / 2)).hold then s.bumpOnce (ck1 .laneOverflows l) 4 .unit else s.bump (ck1 .laneOverflows l)).modLane l
      (fun x => { x with gap := true })
  else
    ((s.modWq (l / 2) (fun q => q.append s.lts r)).modLane l (fun x => { x with gap := false, first := false })).evalHold (l / 2)

theorem State.putRecord_values (s : State) (l : Nat) (r : Bytes) :
    ((s.putRecord l r).lane l).progress = (s.lane l).progress ∧ CtrsKept recordCtrs s (s.putRecord l r) := by
  unfold State.putRecord
  split
  · generalize hu : (if (s.wq (l / 2)).hold then s.bumpOnce (ck1 .laneOverflows l) 4 .unit else s.bump (ck1 .laneOverflows l)) = u
    have hlost : u.swage = s.swage ∧ CtrsKept recordCtrs s u := by
      rw [← hu]
      split
      · exact ⟨State.bumpOnce_swage _ _ _ _, State.bumpOnce_ctrs _ _ _ (by simp [ck1]) (by simp)⟩
      · exact ⟨State.bump_swage _ _, (CtrsKept.refl _ s).bump (by simp [ck1])⟩
    exact ⟨(u.modLane_progress l (f := fun x => { x with gap := true }) (fun _ => rfl) l).trans (congrArg LaneSt.progress (State.lane_of_lanes (congrArg SwageSt.lanes hlost.1) l)),
      hlost.2.same rfl⟩
  · refine ⟨?_, ((State.evalHold_ctrs _ _).before rfl).mono (by simp)⟩
    rw [(State.evalHold_sameContent _ _).lane]
    exact State.modLane_progress (s.modWq (l / 2) (fun q => q.append s.lts r)) l (f := fun x => { x with gap := false, first := false })
      (fun _ => rfl) l

theorem State.writeRecord_values (s : State) (l : Nat) (r : Bytes) :
    ((s.writeRecord l r).lane l).progress = (s.lane l).progress ∧ CtrsKept recordCtrs s (s.writeRecord l r) := by
  have hput : s.writeRecord l r =
      (if (s.wq (l / 2)).room < r.length && (s.wq (l / 2)).reading.isEmpty then s.handOff (l / 2) else s).putRecord l r := rfl
  rw [hput]
  split
  · have h := (s.handOff (l / 2)).putRecord_values l r
    exact ⟨h.1.trans (congrArg LaneSt.progress (State.lane_of_lanes (s.handOff_lanes _) l)), ((s.handOff_ctrs _).mono (by simp)).trans h.2⟩
  · exact s.putRecord_values l r

/-! Frames of a lane (R198, Table WAV-6). -/

section
variable {l : Fin 8} {b d : Bytes} {crc : Byte} {s : State} {x : LaneSt}

/-- A lane whose runs of faults have ended. -/
def LaneSt.fresh (x : LaneSt) : LaneSt := { x with fmtRun := 0, seqRun := 0 }

theorem exec_laneFrame_ignored (hb : b = d ++ [crc]) (h : s.works = false ∨ laneEnable (s.rec_ .lane l.val) = 0 ∨ fld (beAt b 0 5) 39 24 ≠ 0xF0A5) :
    exec (.laneFrame l d crc) s = .next s := by
  have hexec : exec (.laneFrame l d crc) s = execLaneFrame l d crc s := rfl
  rw [hexec, execLaneFrame, ← hb]
  by_cases hworks : s.works = true
  · rw [if_pos hworks, State.laneFrame]
    dsimp only
    rw [if_pos]
    obtain h | h | h := h
    · exact absurd hworks (by simp [h])
    · exact .inr h
    · exact .inl h
  · rw [if_neg hworks]

section
variable (hx : s.swage.lanes[l.val]? = some x) (hb : b = d ++ [crc]) (hworks : s.works = true)
  (henabled : laneEnable (s.rec_ .lane l.val) ≠ 0) (hsync : fld (beAt b 0 5) 39 24 = 0xF0A5)
include hx hb hworks henabled hsync

theorem exec_laneFrame_nosync (hst : x.st = .nosync) : exec (.laneFrame l d crc) s = .next (s.bump (ck1 .laneBeforeSync l.val)) := by
  have hexec : exec (.laneFrame l d crc) s = execLaneFrame l d crc s := rfl
  rw [hexec, execLaneFrame, ← hb, if_pos hworks, State.laneFrame]
  dsimp only
  rw [if_neg (not_or.2 ⟨fun h => h hsync, henabled⟩), State.lane_of_getElem? hx, if_pos hst]

section
variable (hst : x.st ≠ .nosync)
include hst

theorem exec_laneFrame_during_sync (hlow : s.syncLow (s.lts - 20 * (8 * b.length - 16)) = true) :
    exec (.laneFrame l d crc) s = .next ((s.modLane l.val LaneSt.fresh).bump (ck1 .laneDuringSync l.val)) := by
  have hexec : exec (.laneFrame l d crc) s = execLaneFrame l d crc s := rfl
  rw [hexec, execLaneFrame, ← hb, if_pos hworks, State.laneFrame]
  dsimp only
  rw [if_neg (not_or.2 ⟨fun h => h hsync, henabled⟩), State.lane_of_getElem? hx, if_neg hst, if_pos hlow]
  rfl

variable (hhigh : s.syncLow (s.lts - 20 * (8 * b.length - 16)) = false)
include hhigh

theorem exec_laneFrame_damaged (hbad : crc8 ((b.drop 2).take (b.length - 3)) ≠ crc ∨
      b.length ≠ 6 + fld (beAt b 0 5) 7 4 * sampleBytes (fld (beAt b 0 5) 3 3)) :
    exec (.laneFrame l d crc) s = .next ((s.modLane l.val LaneSt.fresh).bumpOnce (ck1 .laneCrc l.val) 3 .unit) := by
  have hexec : exec (.laneFrame l d crc) s = execLaneFrame l d crc s := rfl
  have hlast : b.getLastD 0 = crc := by rw [hb, List.getLastD_concat]
  rw [hexec, execLaneFrame, ← hb, if_pos hworks, State.laneFrame]
  dsimp only
  rw [if_neg (not_or.2 ⟨fun h => h hsync, henabled⟩), State.lane_of_getElem? hx, if_neg hst, if_neg (by simp [hhigh]), hlast, if_pos hbad.symm]
  rfl

/-- The lane of an accepted frame before its record is written. -/
def State.frameAccepted (s : State) (l num : Nat) : State :=
  (s.modLane l (fun x => { x with fmtRun := 0, seqRun := 0, st := .run, last := some num, at_ := s.lts })).bump (ck1 .laneAccepted l)

omit hx hb hworks henabled hsync hst hhigh in
theorem State.acceptFrame_next (s : State) (l seq num count width : Nat) (edge : Ns) (data : Bytes) :
    ∃ r, s.acceptFrame l seq 1 num count width false edge data = (s.frameAccepted l num).writeRecord l r := by
  unfold State.acceptFrame
  dsimp only
  rw [if_neg (fun h => h rfl), if_neg Bool.false_ne_true]
  exact ⟨_, rfl⟩

theorem exec_laneFrame_accepted {num : Nat} {edge : Nat × Ns} (hcrc : crc8 ((b.drop 2).take (b.length - 3)) = crc)
    (hlength : b.length = 6 + fld (beAt b 0 5) 7 4 * sampleBytes (fld (beAt b 0 5) 3 3))
    (hcount : fld (beAt b 0 5) 7 4 = laneChCount (s.rec_ .lane l.val)) (hwidth : fld (beAt b 0 5) 3 3 = laneWidth (s.rec_ .lane l.val))
    (hswitch : bitAt (beAt b 0 5) 2 = false)
    (hnext : x.last = none ∧ fld (beAt b 0 5) 23 8 = 0 ∧ num = 0 ∨
      ∃ n, x.last = some n ∧ (fld (beAt b 0 5) 23 8 + 65536 - n % 65536) % 65536 = 1 ∧ num = n + 1)
    (hedge : x.edges.find? (fun e => e.1 == num) = some edge) :
    ∃ r, exec (.laneFrame l d crc) s = .next ((s.frameAccepted l.val num).writeRecord l.val r) := by
  have hexec : exec (.laneFrame l d crc) s = execLaneFrame l d crc s := rfl
  have hlast : b.getLastD 0 = crc := by rw [hb, List.getLastD_concat]
  rw [execLaneFrame, ← hb, if_pos hworks, State.laneFrame] at hexec
  dsimp only at hexec
  rw [if_neg (not_or.2 ⟨fun h => h hsync, henabled⟩), State.lane_of_getElem? hx, if_neg hst, if_neg (by simp [hhigh]), hlast,
    if_neg (not_or.2 ⟨fun h => h hlength, fun h => h hcrc⟩), if_neg (not_or.2 ⟨fun h => h hcount, fun h => h hwidth⟩)] at hexec
  obtain ⟨hnone, hzero, rfl⟩ | ⟨n, hsome, hone, rfl⟩ := hnext
  · rw [hnone] at hexec
    dsimp only at hexec
    rw [hzero, if_neg (by decide), Nat.zero_add, Nat.mod_eq_of_lt (by decide), Nat.sub_self, hedge, hswitch] at hexec
    obtain ⟨r, hr⟩ := s.acceptFrame_next l.val 0 0 (fld (beAt b 0 5) 7 4) (fld (beAt b 0 5) 3 3) edge.2 ((b.drop 5).take (b.length - 6))
    exact ⟨r, hexec.trans (congrArg _ hr)⟩
  · rw [hsome] at hexec
    dsimp only at hexec
    simp only [hone] at hexec
    rw [if_neg (by decide), hedge, hswitch] at hexec
    obtain ⟨r, hr⟩ := s.acceptFrame_next l.val (fld (beAt b 0 5) 23 8) (n + 1) (fld (beAt b 0 5) 7 4) (fld (beAt b 0 5) 3 3) edge.2
      ((b.drop 5).take (b.length - 6))
    exact ⟨r, hexec.trans (congrArg _ hr)⟩

end
end
end

/-- Settles O30. -/
theorem laneFrames : Obligations.LaneFrames := by
  intro l b d crc s x hx hb
  have hlane := State.lane_modLane_self (List.getElem?_eq_some_iff.1 hx).1
  refine ⟨fun h => exec_laneFrame_ignored hb h, fun hworks henabled hsync => ⟨fun hst => ?_, fun hst hlow => ?_, fun hst hhigh =>
    ⟨fun hbad => ?_, fun num edge hcrc hlength hcount hwidth hswitch hnext hedge => ?_⟩⟩⟩
  · exact ⟨_, exec_laneFrame_nosync hx hb hworks henabled hsync hst, State.bump_countsOnce _ _, by simp [changesOnly_iff]⟩
  · refine ⟨_, exec_laneFrame_during_sync hx hb hworks henabled hsync hst hlow, ⟨?_, (State.bump_countsOnce _ _).congr rfl rfl⟩,
      by simp [changesOnly_iff]⟩
    rw [State.lane_of_lanes (congrArg SwageSt.lanes (State.bump_swage _ _)), hlane, State.lane_of_getElem? hx, LaneSt.fresh]
  · refine ⟨_, exec_laneFrame_damaged hx hb hworks henabled hsync hst hhigh hbad, ⟨?_, ?_⟩, by simp [changesOnly_iff]⟩
    · rw [State.lane_of_lanes (congrArg SwageSt.lanes (State.bumpOnce_swage _ _ _ _)), hlane, State.lane_of_getElem? hx, LaneSt.fresh]
    · exact State.bumpOnce_ctr _ _ _ _ (by simp [ck1]) (by simp [ck1])
  · obtain ⟨r, hexec⟩ := exec_laneFrame_accepted hx hb hworks henabled hsync hst hhigh hcrc hlength hcount hwidth hswitch hnext hedge
    have hwritten := (s.frameAccepted l.val num).writeRecord_values l.val r
    have haccepted : (s.frameAccepted l.val num).lane l.val =
        { x with fmtRun := 0, seqRun := 0, st := .run, last := some num, at_ := s.lts } := by
      rw [State.frameAccepted, State.lane_of_lanes (congrArg SwageSt.lanes (State.bump_swage _ _)), hlane, State.lane_of_getElem? hx]
    have hprogress := hwritten.1
    rw [haccepted] at hprogress
    simp only [LaneSt.progress, Prod.mk.injEq] at hprogress
    obtain ⟨hst', hlast', hat'⟩ := hprogress
    refine ⟨_, hexec, ⟨hst', hlast', hat', ?_⟩, ?_⟩
    · exact CtrsKept.counted (cs := recordCtrs) (k := ck1 .laneAccepted l.val) (hwritten.2.before rfl) (by simp [ck1])
    · simp [changesOnly_iff, State.frameAccepted]

/-! WV_SYNC_N, WV_CLK and a lane that stops (R198, R199, R203). -/

theorem State.not_dormant_of_works {s : State} (h : s.works = true) : s.boot.mode ≠ .dormant := by
  intro hmode
  rw [State.works, State.beatsRun, hmode] at h
  exact absurd h (by decide)

/-- The release for one lane: an enabled one is in RUN with cycle 0 now. -/
def State.releaseLane (s : State) (l : Nat) : State :=
  if laneEnable (s.rec_ .lane l) = 1 then
    s.modLane l (fun x => { x with st := .run, last := none, fmtRun := 0, seqRun := 0, gap := false, first := true, at_ := s.lts
                                   edges := [(0, s.dt)], stepFrom := none })
  else s

/-- The image, the clocks and the number of lanes stay. -/
def SameLaneFrame (s t : State) : Prop := t.img = s.img ∧ t.time = s.time ∧ t.swage.lanes.length = s.swage.lanes.length

theorem State.releaseLane_sameLaneFrame (s : State) (l : Nat) : SameLaneFrame s (s.releaseLane l) := by
  unfold State.releaseLane
  split
  · exact ⟨rfl, rfl, by rw [State.modLane, modAt_eq_modify, List.length_modify]⟩
  · exact ⟨rfl, rfl, rfl⟩

/-- A lane as the release leaves it at an instant. -/
def LaneSt.isReleased (x : LaneSt) (dt : Ns) : Prop := x.st = .run ∧ x.last = none ∧ x.first = true ∧ x.edges = [(0, dt)]

theorem State.releaseLane_ne (s : State) {l l' : Nat} (hne : l' ≠ l) : (s.releaseLane l).lane l' = s.lane l' := by
  unfold State.releaseLane
  split
  · exact s.lane_modLane_ne hne _
  · rfl

theorem State.releaseLane_same {s : State} {l : Nat} (hl : l < s.swage.lanes.length) (henabled : laneEnable (s.rec_ .lane l) = 1) :
    ((s.releaseLane l).lane l).isReleased s.dt := by
  rw [State.releaseLane, if_pos henabled, State.lane_modLane_self hl]
  exact ⟨rfl, rfl, rfl, rfl⟩

/-- A disabled lane keeps its state through the release. -/
theorem State.releaseLane_disabled {s : State} {l' : Nat} (hdisabled : laneEnable (s.rec_ .lane l') ≠ 1) (l : Nat) :
    (s.releaseLane l).lane l' = s.lane l' := by
  by_cases hne : l' = l
  · subst hne
    rw [State.releaseLane, if_neg hdisabled]
  · exact s.releaseLane_ne hne

/-- The device once every enabled lane has been released. -/
def State.lanesReleased (s : State) : State := forAll (List.range 8) s (fun s l => s.releaseLane l)

theorem SameLaneFrame.trans {s t u : State} (hst : SameLaneFrame s t) (htu : SameLaneFrame t u) : SameLaneFrame s u :=
  ⟨htu.1.trans hst.1, htu.2.1.trans hst.2.1, htu.2.2.trans hst.2.2⟩

theorem SameLaneFrame.rec_ {s t : State} (h : SameLaneFrame s t) (k : Tbl) (i : Nat) : t.rec_ k i = s.rec_ k i := by
  rw [State.rec_, h.1, State.rec_]

theorem SameLaneFrame.dt {s t : State} (h : SameLaneFrame s t) : t.dt = s.dt := by
  rw [State.dt, h.2.1, State.dt]

theorem State.lanesReleased_lane {s : State} (hlen : s.swage.lanes.length = 8) {l : Nat} (hl : l < 8) :
    (laneEnable (s.rec_ .lane l) = 1 → ((s.lanesReleased).lane l).isReleased s.dt) ∧
    (laneEnable (s.rec_ .lane l) ≠ 1 → (s.lanesReleased).lane l = s.lane l) := by
  refine ⟨fun henabled => ?_, fun hdisabled => ?_⟩
  · refine (forAll_reaches (f := fun u l => State.releaseLane u l) (I := SameLaneFrame s)
      (P := fun l u => SameLaneFrame s u ∧ (laneEnable (s.rec_ .lane l) = 1 → l < 8 → (u.lane l).isReleased s.dt))
      ?_ ?_ ?_ (List.range 8) s ⟨rfl, rfl, rfl⟩ l (List.mem_range.2 hl)).2 henabled hl
    · exact fun u l hu => hu.trans (u.releaseLane_sameLaneFrame l)
    · intro u l hu
      refine ⟨hu.trans (u.releaseLane_sameLaneFrame l), fun henabled hl => ?_⟩
      rw [← hu.rec_] at henabled
      rw [← hu.dt]
      exact State.releaseLane_same (by rw [hu.2.2, hlen]; exact hl) henabled
    · rintro u l l' ⟨hu, hlane⟩
      refine ⟨hu.trans (u.releaseLane_sameLaneFrame l), fun henabled hl => ?_⟩
      by_cases hne : l' = l
      · subst hne
        rw [← hu.rec_] at henabled
        rw [← hu.dt]
        exact State.releaseLane_same (by rw [hu.2.2, hlen]; exact hl) henabled
      · rw [u.releaseLane_ne hne]
        exact hlane henabled hl
  · refine (forAll_inv (fun u => SameLaneFrame s u ∧ u.lane l = s.lane l) (fun u l => State.releaseLane u l) ?_ (List.range 8) s
      ⟨⟨rfl, rfl, rfl⟩, rfl⟩).2
    rintro u l' ⟨hu, hlane⟩
    rw [← hu.rec_] at hdisabled
    exact ⟨hu.trans (u.releaseLane_sameLaneFrame l'), (State.releaseLane_disabled hdisabled l').trans hlane⟩

theorem does_wvSyncRelease {s : State} (hlen : s.swage.lanes.length = 8) (hworks : s.works = true) {low : Ns} (hsync : s.swage.sync = some low) :
    Does .wvSyncRelease s [.swage] (fun t => t.swage.sync = none ∧ t.swage.clkLost = false ∧ t.swage.clk0 = some s.lts ∧
      t.swage.syncWas = some (low, s.lts) ∧ ∀ l : Nat, l < 8 →
        (laneEnable (s.rec_ .lane l) = 1 → (t.lane l).st = .run ∧ (t.lane l).last = none ∧ (t.lane l).first = true ∧ (t.lane l).edges = [(0, s.dt)]) ∧
        (laneEnable (s.rec_ .lane l) ≠ 1 → t.lane l = s.lane l)) := by
  have hexec : exec .wvSyncRelease s = execWvSyncRelease s := rfl
  rw [execWvSyncRelease, hsync] at hexec
  dsimp only at hexec
  rw [if_neg (by simp [hworks])] at hexec
  have htime : (s.lanesReleased).time = s.time :=
    forAll_keep State.time _ (fun u l => (u.releaseLane_sameLaneFrame l).2.1) (List.range 8) s
  have hlts : (s.lanesReleased).lts = s.lts := by rw [State.lts, htime, State.lts]
  refine does_of_completes ⟨_, hexec, rfl, rfl, congrArg some hlts, congrArg some (congrArg (Prod.mk low) hlts), fun l hl => ?_⟩
  exact State.lanesReleased_lane hlen hl

theorem State.evalHold_sync (s : State) (g : Nat) : (s.evalHold g).swage.sync = s.swage.sync := by
  unfold State.evalHold
  dsimp only
  split
  · rw [State.bumpOnce_swage, State.modWq]
  · split
    · rfl
    · rfl

theorem State.closePartial_sync (s : State) (g : Nat) : (s.closePartial g).swage.sync = s.swage.sync := by
  unfold State.closePartial
  split
  · rfl
  · rw [State.evalHold_sync, State.bump_swage, State.modWq]

/-- The device once every group's partial word has closed. -/
def State.partialsClosed (s : State) : State := forAll (List.range 4) s (fun s g => s.closePartial g)

theorem State.partialsClosed_values (s : State) :
    (s.partialsClosed).swage.lanes = s.swage.lanes ∧ ∀ g : Nat, g < 4 → ((s.partialsClosed).wq g).part = [] := by
  refine ⟨forAll_keep (fun u => u.swage.lanes) _ (fun u g => (u.closePartial_values g).1) (List.range 4) s, fun g hg => ?_⟩
  refine forAll_reaches (f := fun u g => State.closePartial u g) (I := fun _ => True) (P := fun g u => (u.wq g).part = [])
    (fun _ _ _ => trivial) (fun u g _ => (u.closePartial_values g).2.2.1) ?_ (List.range 4) s trivial g (List.mem_range.2 hg)
  intro u g g' hpart
  obtain ⟨-, -, hself, hothers⟩ := u.closePartial_values g
  by_cases hne : g' = g
  · exact hne ▸ hself
  · have hsame := hothers g' hne
    simp only [QueueSt.content, Prod.mk.injEq] at hsame
    exact hsame.2.2.1.trans hpart

theorem does_wvSyncAssert {s : State} (hworks : s.works = true) (hsync : s.swage.sync = none) :
    Does .wvSyncAssert s (footprint .wvSyncAssert) (fun t =>
      t.swage.sync = some s.lts ∧ t.swage.lanes = s.swage.lanes ∧ ∀ g : Nat, g < 4 → (t.wq g).part = []) := by
  have hexec : exec .wvSyncAssert s = execWvSyncAssert s := rfl
  rw [execWvSyncAssert, if_neg (by simp [hsync, State.not_dormant_of_works hworks])] at hexec
  have hclosed := ({ s with swage := { s.swage with sync := some s.lts } } : State).partialsClosed_values
  refine does_of_completes ⟨_, hexec, ?_, hclosed⟩
  exact forAll_keep (fun u : State => u.swage.sync) _ (fun u g => u.closePartial_sync g) (List.range 4) _

theorem does_wvClkLost {s : State} (hlen : s.swage.lanes.length = 8) (hworks : s.works = true) :
    Does .wvClkLost s (footprint .wvClkLost) (fun t =>
      t.swage.clkLost = true ∧ (∀ l : Nat, l < 8 → (t.lane l).st = .nosync) ∧ t.swage.queues = s.swage.queues ∧
      t.ctr (ck .wvClkLosses) = satAdd (s.ctr (ck .wvClkLosses)) 1) := by
  have hexec : exec .wvClkLost s = execWvClkLost s := rfl
  rw [execWvClkLost, if_neg (by simp [hworks])] at hexec
  dsimp only at hexec
  generalize hu : ({ s with swage := { s.swage with clkLost := true, lanes := s.swage.lanes.map (fun (x : LaneSt) => { x with st := .nosync }) } } : State) = u at hexec
  have hswage : ((u.bump (ck .wvClkLosses)).postFor 5 .unit (ck .wvClkLosses) 0).swage = u.swage := by simp [State.postFor]
  refine does_of_completes ⟨_, hexec, ?_, fun l hl => ?_, ?_, ?_⟩
  · rw [hswage, ← hu]
  · rw [State.lane_of_lanes (congrArg SwageSt.lanes hswage), ← hu, State.lane, List.getD_eq_getElem?_getD, List.getElem?_map,
      List.getElem?_eq_getElem (by rw [hlen]; exact hl)]
    rfl
  · rw [hswage, ← hu]
  · refine CtrsKept.counted (cs := [.oversizeTx, .queueHolds]) (CtrsKept.before ?_ (?_ : (u.bump (ck .wvClkLosses)).ctrs = (s.bump (ck .wvClkLosses)).ctrs)) (by simp [ck])
    · exact State.post_ctrs _ _ _ _ _
    · rw [← hu]
      rfl

section
variable {s : State} {l : Fin 8} (hworks : s.works = true) (hrun : (s.lane l.val).st = .run)
include hworks hrun

theorem does_laneStop (hlen : s.swage.lanes.length = 8) (hold : (s.lane l.val).at_ + 4 * s.lanePeriod l.val ≤ s.lts) :
    Does (.laneStop l) s (footprint (.laneStop l)) (fun t => t.lane l.val = { s.lane l.val with st := .stopped } ∧
      (∀ l' : Nat, l' ≠ l.val → t.lane l' = s.lane l') ∧ (t.wq (l.val / 2)).part = [] ∧
      t.ctr (ck1 .laneStops l.val) = satAdd (s.ctr (ck1 .laneStops l.val)) 1) := by
  have hexec : exec (.laneStop l) s = execLaneStop l s := rfl
  rw [execLaneStop] at hexec
  dsimp only at hexec
  rw [if_pos (by simp [hworks, hrun, hold])] at hexec
  generalize hu : (s.modLane l.val (fun x => { x with st := .stopped })).bumpOnce (ck1 .laneStops l.val) 3 .unit = u at hexec
  obtain ⟨hlanes, -, hpart, -⟩ := u.closePartial_values (l.val / 2)
  have hcount := State.bumpOnce_ctr (s.modLane l.val (fun x => { x with st := .stopped })) (ck1 .laneStops l.val) 3 .unit (by simp [ck1]) (by simp [ck1])
  have hsame (l' : Nat) : (u.closePartial (l.val / 2)).lane l' = (s.modLane l.val (fun x => { x with st := .stopped })).lane l' := by
    rw [State.lane_of_lanes hlanes, ← hu, State.lane_of_lanes (congrArg SwageSt.lanes (State.bumpOnce_swage _ _ _ _))]
  refine does_of_completes ⟨_, hexec, ?_, fun l' hne => ?_, hpart, ?_⟩
  · rw [hsame, State.lane_modLane_self (by rw [hlen]; exact l.isLt)]
  · rw [hsame, State.lane_modLane_ne _ hne]
  · rw [u.closePartial_ctrs (l.val / 2) (ck1 .laneStops l.val) (by simp [ck1]), ← hu]
    exact hcount

omit hworks hrun in
theorem exec_laneStop_early (hyoung : s.lts < (s.lane l.val).at_ + 4 * s.lanePeriod l.val) : exec (.laneStop l) s = .next s := by
  have hexec : exec (.laneStop l) s = execLaneStop l s := rfl
  rw [hexec, execLaneStop]
  dsimp only
  rw [if_neg]
  simp only [Bool.and_eq_true, decide_eq_true_eq, not_and]
  exact fun _ => Nat.not_le_of_lt hyoung

end

/-- Settles O31. -/
theorem laneStates : Obligations.LaneStates := by
  intro s hlen _ hworks
  refine ⟨fun low hsync => does_wvSyncRelease hlen hworks hsync, fun hsync => ⟨?_, does_wvSyncAssert hworks hsync⟩, fun hsync => ?_,
    does_wvClkLost hlen hworks, fun l hrun => ⟨fun hold => does_laneStop hworks hrun hlen hold, fun hyoung => exec_laneStop_early hyoung⟩⟩
  · have hexec : exec .wvSyncRelease s = execWvSyncRelease s := rfl
    rw [hexec, execWvSyncRelease, hsync]
  · have hexec : exec .wvSyncAssert s = execWvSyncAssert s := rfl
    rw [hexec, execWvSyncAssert, if_pos]
    rw [Option.isSome_iff_ne_none.2 hsync, Bool.true_or]

/-! Banks hand over, and the reader takes words (R202 to R205). -/

/-- With no whole header read, no record is taken. -/
theorem State.takeRecords_of_short {s : State} {g : Nat} (h : (s.wq g).parse.length < 16) (n : Nat) : State.takeRecords g n s = s := by
  cases n with
  | zero => rfl
  | succ n =>
    rw [State.takeRecords]
    rw [if_pos (Or.inl h)]

/-- An uncorrectable queue word is reported and marks its queue; nothing acts on what the queues hold. -/
theorem State.uncorrectable_inputQueueWord (s : State) (unit : Nat) :
    SameContent s (s.uncorrectable .inputQueueWord unit) ∧ CtrsKept (.uncorrectable :: dropCtrs) s (s.uncorrectable .inputQueueWord unit) := by
  have hreported : SameContent s (s.reported .inputQueueWord unit) := by
    refine SameContent.trans (.of_swage ?_) (State.modWq_sameContent _ (unit % 4) (f := fun q => { q with faultNow := true }) fun _ => rfl)
    simp
  have hcounted : CtrsKept (.uncorrectable :: dropCtrs) s (s.reported .inputQueueWord unit) :=
    ((CtrsKept.refl _ s).bump (by simp [ck2])).trans ((s.reported_values .inputQueueWord unit).2.2.mono (by simp))
  rw [State.uncorrectable_eq]
  split
  · exact ⟨hreported, hcounted⟩
  · exact ⟨hreported, hcounted.same rfl⟩

section
variable {g : Fin 4} {s : State} {q : QueueSt} (hq : s.swage.queues[g.val]? = some q) (hworks : s.works = true)
include hq

theorem exec_bankHandoff_due {since : Ns} (hworks : s.works = true) (hsince : q.since = some since) (hread : q.reading = [])
    (hdue : since + frontEndHandoffUs (s.rec_ .frontEnd 0) * 1000 ≤ s.lts) : exec (.bankHandoff g) s = .next (s.handOff g.val) := by
  have hexec : exec (.bankHandoff g) s = execBankHandoff g s := rfl
  rw [hexec, execBankHandoff]
  dsimp only
  rw [State.wq_of_getElem? hq, hsince]
  dsimp only
  rw [if_pos (by simp [hworks, hread, hdue])]

theorem exec_bankHandoff_unread (hread : q.reading ≠ []) : exec (.bankHandoff g) s = .next s := by
  have hexec : exec (.bankHandoff g) s = execBankHandoff g s := rfl
  rw [hexec, execBankHandoff]
  dsimp only
  rw [State.wq_of_getElem? hq]
  cases q.since with
  | none => rfl
  | some t =>
    dsimp only
    rw [if_neg (by simp [hread])]

/-- The bank of a queue without a partial word hands over, and nothing else changes. -/
theorem does_handOff_whole (hpart : q.part = []) (hexec : exec (.bankHandoff g) s = .next (s.handOff g.val)) :
    Does (.bankHandoff g) s [.swage] (fun t =>
      t.wq g.val = { q with reading := q.writing, writing := [], bank := 1 - q.bank, since := none } ∧
      ∀ g' : Nat, g' ≠ g.val → t.wq g' = s.wq g') := by
  rw [State.handOff, State.closePartial_of_empty (by rw [State.wq_of_getElem? hq, hpart])] at hexec
  refine ⟨_, hexec, ⟨?_, fun g' hne => State.wq_modWq_ne hne _⟩, by simp [changesOnly_iff]⟩
  rw [State.wq_modWq_self (List.getElem?_eq_some_iff.1 hq).1, State.wq_of_getElem? hq]

/-- A partial word is closed with its count behind the words of the bank that hands over. -/
theorem does_handOff_partial (hpart : q.part ≠ []) (hexec : exec (.bankHandoff g) s = .next (s.handOff g.val)) :
    Does (.bankHandoff g) s (footprint (.bankHandoff g)) (fun t =>
      (t.wq g.val).reading = q.writing ++ [qWord (padTo 32 q.part) q.partFirst q.part.length] ∧
      (t.wq g.val).part = [] ∧ (t.wq g.val).writing = [] ∧ (t.wq g.val).since = none ∧
      t.ctr (ck1 .partialWords g.val) = satAdd (s.ctr (ck1 .partialWords g.val)) 1) := by
  have hg := (List.getElem?_eq_some_iff.1 hq).1
  have hwq := State.wq_of_getElem? hq
  rw [State.handOff, State.closePartial_of_part (by rw [hwq]; exact hpart)] at hexec
  generalize hu : (s.modWq g.val QueueSt.close).bump (ck1 .partialWords g.val) = u at hexec
  have hlevel := u.evalHold_sameContent g.val
  have hclosed : u.wq g.val = { q with writing := q.writing ++ [qWord (padTo 32 q.part) q.partFirst q.part.length], part := [], partFirst := 63 } := by
    rw [← hu, State.wq_of_queues (congrArg SwageSt.queues (State.bump_swage _ _)), State.wq_modWq_self hg, hwq, QueueSt.close,
      if_neg (by simpa using hpart)]
  have hheld := hlevel.wq g.val
  rw [hclosed] at hheld
  have hlen : g.val < (u.evalHold g.val).swage.queues.length := by
    rw [hlevel.2.1, ← hu, State.bump_swage, State.modWq, modAt_eq_modify, List.length_modify]
    exact hg
  refine does_of_completes ⟨_, hexec, ?_⟩
  dsimp only
  rw [State.wq_modWq_self hlen]
  refine ⟨hheld.2.1, hheld.2.2.1, rfl, rfl, ?_⟩
  refine CtrsKept.counted (cs := holdCtrs) (k := ck1 .partialWords g.val) ?_ (by simp [ck1])
  exact ((u.evalHold_ctrs g.val).before (by rw [← hu]; rfl)).same rfl

include hworks

theorem exec_queueWordRead_none (hread : q.reading = []) (e : WordErr) : exec (.queueWordRead g e) s = .next s := by
  have hexec : exec (.queueWordRead g e) s = execQueueWordRead g e s := rfl
  rw [hexec, execQueueWordRead, if_pos hworks, State.queueRead]
  dsimp only
  rw [State.wq_of_getElem? hq, hread]

/-- A good word adds its bytes to the record being read, which does not yet hold a header. -/
theorem does_queueWordRead_parsed {w : QWord} {rest : List QWord} (hread : q.reading = w :: rest) (hkept : q.lost = false)
    (hshort : (q.parse ++ w.bytes.take w.valid).length < 16) :
    Does (.queueWordRead g .none) s [.ctrs, .attn, .ports, .swage, .pair] (fun t =>
      (t.wq g.val).reading = rest ∧ (t.wq g.val).parse = q.parse ++ w.bytes.take w.valid ∧ (t.wq g.val).lost = false) := by
  have hg := (List.getElem?_eq_some_iff.1 hq).1
  have hwq := State.wq_of_getElem? hq
  have hexec : exec (.queueWordRead g .none) s = execQueueWordRead g .none s := rfl
  rw [execQueueWordRead, if_pos hworks, State.queueRead] at hexec
  dsimp only at hexec
  rw [hwq, hread] at hexec
  dsimp only at hexec
  rw [show (WordErr.none == WordErr.corrected) = false from rfl, if_neg Bool.false_ne_true, hkept, if_neg Bool.false_ne_true] at hexec
  generalize hu : (s.modWq g.val (fun q => { q with reading := rest })).modWq g.val
    (fun x => { x with parse := x.parse ++ w.bytes.take w.valid }) = u at hexec
  have hlen : g.val < (s.modWq g.val (fun q => { q with reading := rest })).swage.queues.length := by
    rw [State.modWq, modAt_eq_modify, List.length_modify]
    exact hg
  have htaken : u.wq g.val = { q with reading := rest, parse := q.parse ++ w.bytes.take w.valid } := by
    rw [← hu, State.wq_modWq_self hlen, State.wq_modWq_self hg, hwq]
  rw [State.takeRecords_of_short (by rw [htaken]; exact hshort)] at hexec
  have hheld := (u.evalHold_sameContent g.val).wq g.val
  rw [htaken] at hheld
  exact ⟨_, hexec, ⟨hheld.1, hheld.2.2.2.1, hheld.2.2.2.2.trans hkept⟩, by rw [← hu]; simp [changesOnly_iff]⟩

theorem does_queueWordRead_waiting {w : QWord} {rest : List QWord} (hread : q.reading = w :: rest) (hlost : q.lost = true)
    (hnone : 32 ≤ w.firstRec) :
    Does (.queueWordRead g .none) s [.ctrs, .attn, .ports, .swage, .pair] (fun t =>
      (t.wq g.val).reading = rest ∧ (t.wq g.val).parse = q.parse ∧ (t.wq g.val).lost = true) := by
  have hg := (List.getElem?_eq_some_iff.1 hq).1
  have hwq := State.wq_of_getElem? hq
  have hexec : exec (.queueWordRead g .none) s = execQueueWordRead g .none s := rfl
  rw [execQueueWordRead, if_pos hworks, State.queueRead] at hexec
  dsimp only at hexec
  rw [hwq, hread] at hexec
  dsimp only at hexec
  rw [show (WordErr.none == WordErr.corrected) = false from rfl, if_neg Bool.false_ne_true, hlost, if_pos rfl,
    if_neg (Nat.not_lt_of_le hnone)] at hexec
  have hheld := ((s.modWq g.val (fun q => { q with reading := rest })).evalHold_sameContent g.val).wq g.val
  rw [State.wq_modWq_self hg, hwq] at hheld
  exact ⟨_, hexec, ⟨hheld.1, hheld.2.2.2.1, hheld.2.2.2.2.trans hlost⟩, by simp [changesOnly_iff]⟩

theorem does_queueWordRead_uncorrectable {w : QWord} {rest : List QWord} (hread : q.reading = w :: rest) :
    Does (.queueWordRead g .uncorrectable) s (footprint (.queueWordRead g .uncorrectable)) (fun t =>
      (t.wq g.val).reading = rest ∧ (t.wq g.val).parse = [] ∧ (t.wq g.val).lost = true ∧
      t.ctr (ck2 .bankUncorrectable g.val (1 - q.bank)) = satAdd (s.ctr (ck2 .bankUncorrectable g.val (1 - q.bank))) 1) := by
  have hg := (List.getElem?_eq_some_iff.1 hq).1
  have hwq := State.wq_of_getElem? hq
  have hexec : exec (.queueWordRead g .uncorrectable) s = execQueueWordRead g .uncorrectable s := rfl
  rw [execQueueWordRead, if_pos hworks, State.queueRead] at hexec
  dsimp only at hexec
  rw [hwq, hread] at hexec
  dsimp only at hexec
  generalize hu : (s.modWq g.val (fun q => { q with reading := rest })).bump (ck2 .bankUncorrectable g.val (1 - q.bank)) = u at hexec
  have hreported := u.uncorrectable_inputQueueWord g.val
  have hlen : g.val < (u.uncorrectable .inputQueueWord g.val).swage.queues.length := by
    rw [hreported.1.2.1, ← hu, State.bump_swage, State.modWq, modAt_eq_modify, List.length_modify]
    exact hg
  have hreading : (u.wq g.val).reading = rest := by
    rw [← hu, State.wq_of_queues (congrArg SwageSt.queues (State.bump_swage _ _)), State.wq_modWq_self hg]
  generalize hv : (u.uncorrectable .inputQueueWord g.val).modWq g.val (fun q => { q with parse := [], lost := true }) = v at hexec
  have hthrown : v.wq g.val = { (u.uncorrectable .inputQueueWord g.val).wq g.val with parse := [], lost := true } := by
    rw [← hv, State.wq_modWq_self hlen]
  have hheld := (v.evalHold_sameContent g.val).wq g.val
  rw [hthrown] at hheld
  refine does_of_completes ⟨_, hexec, hheld.1.trans ((hreported.1.wq g.val).1.trans hreading), hheld.2.2.2.1, hheld.2.2.2.2, ?_⟩
  refine CtrsKept.counted (cs := .uncorrectable :: dropCtrs ++ holdCtrs) (k := ck2 .bankUncorrectable g.val (1 - q.bank)) ?_ (by simp [ck2])
  refine CtrsKept.trans (t := u.uncorrectable .inputQueueWord g.val) ((hreported.2.before (by rw [← hu]; rfl)).mono (by simp)) ?_
  exact ((v.evalHold_ctrs g.val).before (by rw [← hv]; rfl)).mono (by simp)

end

/-- Settles O32. -/
theorem inputQueueBanks : Obligations.InputQueueBanks := by
  intro g s q hq hworks
  refine ⟨fun since hsince hread hdue => ?_, fun hread => exec_bankHandoff_unread hq hread, fun w rest hread =>
    ⟨fun hkept hshort => does_queueWordRead_parsed hq hworks hread hkept hshort, fun hlost hnone => does_queueWordRead_waiting hq hworks hread hlost hnone,
      does_queueWordRead_uncorrectable hq hworks hread⟩, fun hread e => exec_queueWordRead_none hq hworks hread e⟩
  have hexec := exec_bankHandoff_due hq hworks hsince hread hdue
  exact ⟨fun hpart => does_handOff_whole hq hpart hexec, fun hpart => does_handOff_partial hq hpart hexec⟩

end Sys2Proof.Machine

/-! Lemmas and proofs of the statements on samples and estimates (O33). -/

namespace Sys2Proof.Machine

/-! Chain channels and estimators. -/

theorem State.chain_modChain (s : State) (k : Nat) (f : ChainSt → ChainSt) : (s.modChain k f).chain k = f (s.chain k) := by
  unfold State.chain State.modChain agetD
  dsimp only
  rw [amod, aget_aput, if_pos rfl]
  rfl

theorem State.est_modEst (s : State) (ch : Nat) (f : EstSt → EstSt) (ch' : Nat) :
    (s.modEst ch f).est ch' = if ch' = ch then f (s.est ch) else s.est ch' := by
  unfold State.est State.modEst agetD
  dsimp only
  rw [amod, aget_aput]
  by_cases h : ch' = ch
  · subst h
    rw [if_pos rfl, if_pos rfl]
    rfl
  · rw [if_neg (Ne.symm h), if_neg h]

/-- The instants of the next estimates of every entry stay. -/
def SameDue (s t : State) : Prop := ∀ ch : Nat, (t.est ch).next = (s.est ch).next ∧ (t.est ch).nextFast = (s.est ch).nextFast

theorem SameDue.of_swage {s t : State} (h : t.swage.ests = s.swage.ests) : SameDue s t := fun ch => by
  rw [State.est, h, State.est]
  exact ⟨rfl, rfl⟩

theorem SameDue.refl (s : State) : SameDue s s := .of_swage rfl

theorem SameDue.trans {s t u : State} (hst : SameDue s t) (htu : SameDue t u) : SameDue s u :=
  fun ch => ⟨(htu ch).1.trans (hst ch).1, (htu ch).2.trans (hst ch).2⟩

theorem SameDue.ite {s t u : State} {p : Prop} [Decidable p] (ht : SameDue s t) (hu : SameDue s u) : SameDue s (if p then t else u) := by
  split
  · exact ht
  · exact hu

theorem State.modEst_sameDue (s : State) (ch : Nat) {f : EstSt → EstSt} (hf : ∀ x, (f x).next = x.next ∧ (f x).nextFast = x.nextFast) :
    SameDue s (s.modEst ch f) := by
  intro ch'
  rw [State.est_modEst]
  split
  · next h =>
    subst h
    exact hf _
  · exact ⟨rfl, rfl⟩

theorem State.threshEvent_ests (s : State) (ch set : Nat) (tag : Ns) (kind : Nat) (edge restart fast : Bool) (v : Word) :
    (s.threshEvent ch set tag kind edge restart fast v).swage.ests = s.swage.ests := by
  simp [State.threshEvent]

theorem State.threshEvent_sameDue (s : State) (ch set : Nat) (tag : Ns) (kind : Nat) (edge restart fast : Bool) (v : Word) :
    SameDue s (s.threshEvent ch set tag kind edge restart fast v) := .of_swage (s.threshEvent_ests ch set tag kind edge restart fast v)

theorem State.setRun_sameDue (s : State) (ch k n : Nat) : SameDue s (s.modEst ch (fun x => { x with runs := setAt x.runs k n })) :=
  s.modEst_sameDue ch fun _ => ⟨rfl, rfl⟩

theorem State.setPicked_sameDue (s : State) (ch : Nat) (f : BitVec 5 → BitVec 5) : SameDue s (s.modEst ch (fun x => { x with picked := f x.picked })) :=
  s.modEst_sameDue ch fun _ => ⟨rfl, rfl⟩

theorem State.runLevel_sameDue (s : State) (ch set : Nat) (e : Estimate) (gated fast : Bool) (k : Nat) :
    SameDue s (s.runLevel ch set e gated fast k) := by
  unfold State.runLevel
  dsimp only
  split
  · exact s.setRun_sameDue ch k 0
  · next v _ =>
    split
    · exact s.setRun_sameDue ch k 0
    · split
      · split
        · exact (s.setRun_sameDue ch k _).trans ((State.setPicked_sameDue _ ch fun p => p ||| (1#5 <<< k)).trans
            (State.threshEvent_sameDue _ _ _ _ _ _ _ _ _))
        · exact s.setRun_sameDue ch k _
      · split
        · exact (s.setRun_sameDue ch k 0).trans ((State.setPicked_sameDue _ ch fun p => p &&& ~~~(1#5 <<< k)).trans
            (State.threshEvent_sameDue _ _ _ _ _ _ _ _ _))
        · exact s.setRun_sameDue ch k 0

theorem State.deliveredFn_sameDue (s : State) (n u : Nat) : SameDue s (s.deliveredFn n u) := .of_swage (by simp)

theorem State.converge_sameDue (s : State) (n u : Nat) : SameDue s (s.converge n u) := .of_swage (by simp)

/-- The device once an estimate has been noted for the functions that wait for it (Table MOD-5). -/
def State.gatesNoted (s : State) (e : Estimate) (since : Option Ns) (settled twice : Bool) : State :=
  let s := s.modEst e.ch (fun x => { x with freqSince := since })
  let s := if e.invalid then s else s.converge 1 e.ch
  let s := if e.freqBad then s else s.deliveredFn 2 e.ch
  let s := if settled then s.converge 2 e.ch else s
  let s := if e.invalid then s else s.deliveredFn 3 e.ch
  if twice then s.converge 3 e.ch else s

theorem State.gatesNoted_sameDue (s : State) (e : Estimate) (since : Option Ns) (settled twice : Bool) :
    SameDue s (s.gatesNoted e since settled twice) := by
  have hconverged (c : Bool) (n : Nat) (u : State) (hu : SameDue s u) : SameDue s (if c then u.converge n e.ch else u) :=
    SameDue.ite (hu.trans (u.converge_sameDue n e.ch)) hu
  have hdelivered (c : Bool) (n : Nat) (u : State) (hu : SameDue s u) : SameDue s (if c then u else u.deliveredFn n e.ch) :=
    SameDue.ite hu (hu.trans (u.deliveredFn_sameDue n e.ch))
  have hsince : SameDue s (s.modEst e.ch (fun x => { x with freqSince := since })) := s.modEst_sameDue e.ch fun _ => ⟨rfl, rfl⟩
  have hfirst : SameDue s (if e.invalid then s.modEst e.ch (fun x => { x with freqSince := since })
      else (s.modEst e.ch (fun x => { x with freqSince := since })).converge 1 e.ch) := hsince.ite (hsince.trans (State.converge_sameDue _ 1 e.ch))
  exact hconverged _ 3 _ (hdelivered _ 3 _ (hconverged _ 2 _ (hdelivered _ 2 _ hfirst)))

/-- A step comparator on the size of a step, where one is formed: it raises its event or nothing. -/
def State.stepEvent (s : State) (e : Estimate) (set kind : Nat) (limit : Word) (fast : Bool) (size : Option Word) : State :=
  match size with
  | some v => if fLe limit v then s.threshEvent e.ch set e.tag kind true false fast v else s
  | none => s

theorem SameDue.stepEvent {s u : State} (hu : SameDue s u) (e : Estimate) (set kind : Nat) (limit : Word) (fast : Bool) (size : Option Word) :
    SameDue s (u.stepEvent e set kind limit fast size) := by
  cases size with
  | none => exact hu
  | some v => exact (hu.trans (u.threshEvent_sameDue e.ch set e.tag kind true false fast v)).ite hu

theorem State.compare_sameDue (s : State) (e : Estimate) (fast : Bool) : SameDue s (s.compare e fast) := by
  unfold State.compare
  dsimp only
  refine SameDue.trans ?_ (State.modEst_sameDue _ e.ch (f := fun x => { x with prev := some e }) fun _ => ⟨rfl, rfl⟩)
  refine SameDue.ite (s.gatesNoted_sameDue e _ _ _) ?_
  have hlevels (u : State) (ks : List Nat) (gate : Nat → Bool) (set : Nat) :
      SameDue u (forAll ks u (fun s k => s.runLevel e.ch set e (gate k) fast k)) :=
    forAll_inv (SameDue u) _ (fun t k ht => ht.trans (t.runLevel_sameDue _ _ _ _ _ _)) ks u (.refl u)
  split
  · exact (s.gatesNoted_sameDue e _ _ _).trans (hlevels _ _ _ _)
  · exact (((s.gatesNoted_sameDue e _ _ _).trans (hlevels _ _ _ _)).stepEvent e _ 5 _ fast _).stepEvent e _ 6 _ fast _

/-! Missing samples (R210). -/

theorem State.drain_of_none_held {s : State} {k : Nat} (h : (s.chain k).held = []) (rate : Nat) : s.drain k rate = s := by
  rw [State.drain, State.drainHeld]
  dsimp only
  rw [h]

section
variable {s : State} {sid : Fin 8192} {pos : Fin 8} {due : Ns} (hdue : (s.chain (64 + 8 * sid.val + pos.val)).next = some due)
include hdue

theorem does_svSampleDeadline (hworks : s.works = true) (hlate : due + s.svWait < s.dt) (hnone : (s.chain (64 + 8 * sid.val + pos.val)).held = []) :
    Does (.svSampleDeadline sid pos) s [.ctrs, .swage] (fun t =>
      t.chain (64 + 8 * sid.val + pos.val) = { s.chain (64 + 8 * sid.val + pos.val) with
        waiting := true
        next := some (gridPoint (svRate (streamRateCode (s.rec_ .stream sid.val))) (gridIndex (svRate (streamRateCode (s.rec_ .stream sid.val))) due + 1)) } ∧
      CountsOnce (ck2 .missingSamples sid.val pos.val) s t) := by
  have hexec : exec (.svSampleDeadline sid pos) s = execSvSampleDeadline sid pos s := rfl
  rw [execSvSampleDeadline] at hexec
  dsimp only at hexec
  rw [hdue] at hexec
  dsimp only at hexec
  rw [if_pos (by rw [hworks, decide_eq_true hlate, Bool.true_and]), State.drain_of_none_held (by rw [State.chain_modChain]; exact hnone)] at hexec
  refine ⟨_, hexec, ⟨?_, ?_⟩, by simp [changesOnly_iff]⟩
  · rw [State.chain_modChain]
    rfl
  · exact (State.bump_countsOnce s (ck2 .missingSamples sid.val pos.val)).congr rfl rfl

theorem exec_svSampleDeadline_early (hearly : s.dt ≤ due + s.svWait) : exec (.svSampleDeadline sid pos) s = .next s := by
  have hexec : exec (.svSampleDeadline sid pos) s = execSvSampleDeadline sid pos s := rfl
  rw [hexec, execSvSampleDeadline]
  dsimp only
  rw [hdue]
  dsimp only
  rw [decide_eq_false (Nat.not_lt_of_le hearly), Bool.and_false, if_neg Bool.false_ne_true]

end

/-! Estimates (R214, R216, R222). -/

/-- A released estimate stands last in the queue of its slice where it enters a row; every other value of that queue, and the
instants of the estimates to come, stay. -/
theorem State.releaseEst_values (s : State) (e : Estimate) (toRow comparators fast : Bool) :
    SameDue s (s.releaseEst e toRow comparators fast) ∧
    (s.chanRegion e.ch < s.align.slices.length → ((s.releaseEst e toRow comparators fast).slice (s.chanRegion e.ch)).queue =
      (s.slice (s.chanRegion e.ch)).queue ++ (if toRow then [.est e] else [])) := by
  have hcompare (u : State) : SameDue u (if comparators then u.compare e fast else if e.invalid then u else u.converge 1 e.ch) ∧
      (if comparators then u.compare e fast else if e.invalid then u else u.converge 1 e.ch).align = u.align := by
    refine ⟨(u.compare_sameDue e fast).ite ((SameDue.refl u).ite (u.converge_sameDue 1 e.ch)), ?_⟩
    split
    · simp
    · split
      · rfl
      · simp
  unfold State.releaseEst
  dsimp only
  generalize hu : (if e.invalid then s.bump (ck1 .estInvalid e.ch) else s) = u
  have hcounted : u.swage = s.swage ∧ u.align = s.align ∧ u.img = s.img := by
    rw [← hu]
    split
    · exact ⟨State.bump_swage _ _, State.bump_align _ _, rfl⟩
    · exact ⟨rfl, rfl, rfl⟩
  have hregion : u.chanRegion e.ch = s.chanRegion e.ch := by
    have hread (v : State) : v.chanRegion e.ch = ({ s with img := v.img } : State).chanRegion e.ch := rfl
    rw [hread u, hcounted.2.2]
  have hdue : SameDue s u := .of_swage (by rw [hcounted.1])
  cases toRow with
  | false =>
    rw [if_neg Bool.false_ne_true]
    exact ⟨hdue.trans (hcompare u).1, fun _ => by
      rw [State.slice_of_align ((hcompare u).2.trans hcounted.2.1), if_neg Bool.false_ne_true, List.append_nil]⟩
  | true =>
    rw [if_pos rfl]
    generalize hv : (u.modSlice (u.chanRegion e.ch) (fun x => { x with queue := x.queue ++ [.est e] })).modEst e.ch (fun x => { x with latest := some e }) = v
    have hentered : SameDue u v := by
      rw [← hv]
      exact State.modEst_sameDue (u.modSlice (u.chanRegion e.ch) (fun x => { x with queue := x.queue ++ [.est e] })) e.ch
        (f := fun x => { x with latest := some e }) fun _ => ⟨rfl, rfl⟩
    refine ⟨(hdue.trans hentered).trans (hcompare v).1, fun hlt => ?_⟩
    have halign : v.align = (u.modSlice (s.chanRegion e.ch) (fun x => { x with queue := x.queue ++ [.est e] })).align := by
      rw [← hv, hregion]
      rfl
    rw [State.slice_of_align ((hcompare v).2.trans halign), State.slice_modSlice, if_pos ⟨rfl, by rw [hcounted.2.1]; exact hlt⟩,
      State.slice_of_align hcounted.2.1, if_pos rfl]

section
variable {s : State} (hworks : s.works = true) {ch : Fin 65536} {due : Ns} (hvalid : chanValid (s.rec_ .chan ch.val) ≠ 0)
  (hsource : chanSource (s.rec_ .chan ch.val) = 6)
include hworks hvalid hsource

section
variable {w : Nat × Nat × Nat} (hsome : chanEstClass (s.rec_ .chan ch.val) ≠ 0) (hclass : chanEstClass (s.rec_ .chan ch.val) ≠ 3)
  (hrate : rateOf (chanOutRate (s.rec_ .chan ch.val)) ≠ 0)
  (hspans : s.spans (chanEstClass (s.rec_ .chan ch.val)) (chanOutRate (s.rec_ .chan ch.val)) = w) (hdue : (s.est ch.val).next = some due)
include hsome hclass hrate hspans hdue

theorem does_estimateRelease (hreached : due + w.2.2 ≤ s.dt)
    (hwindow : s.windowIn (s.chainKey (chanSrcRef (s.rec_ .chan ch.val))) (due + w.2.2) = true) :
    Does (.estimateRelease ch) s (footprint (.estimateRelease ch)) (fun t =>
      (t.est ch.val).next = some (gridPoint (rateOf (chanOutRate (s.rec_ .chan ch.val))) (gridIndex (rateOf (chanOutRate (s.rec_ .chan ch.val))) due + 1)) ∧
      (s.chanRegion ch.val < s.align.slices.length → (t.slice (s.chanRegion ch.val)).queue =
        (s.slice (s.chanRegion ch.val)).queue ++ [.est (s.formEst ch.val due false w w)])) := by
  have hexec : exec (.estimateRelease ch) s = execEstimateRelease ch s := rfl
  rw [execEstimateRelease, State.estimateRelease] at hexec
  dsimp only at hexec
  rw [if_neg (by simp [hworks, hvalid, hsource, hsome, hclass]), hspans, hdue] at hexec
  dsimp only at hexec
  rw [if_neg (by rw [hwindow]; exact not_or.2 ⟨Nat.not_lt_of_le hreached, not_or.2 ⟨hrate, Bool.noConfusion⟩⟩)] at hexec
  generalize hu : s.modEst ch.val (fun x => { x with next := some (gridPoint (rateOf (chanOutRate (s.rec_ .chan ch.val))) (gridIndex (rateOf (chanOutRate (s.rec_ .chan ch.val))) due + 1)) }) = u at hexec
  obtain ⟨hkept, hqueue⟩ := u.releaseEst_values (s.formEst ch.val due false w w) true (chanFastMinphase (s.rec_ .chan ch.val) == 0) false
  refine does_of_completes ⟨_, hexec, ?_, fun hlt => ?_⟩
  · rw [(hkept ch.val).1, ← hu, State.est_modEst, if_pos rfl]
  · have hentered := hqueue (by rw [← hu]; exact hlt)
    rw [if_pos rfl] at hentered
    rw [← hu] at hentered ⊢
    exact hentered

end

omit hworks hvalid hsource in
theorem exec_estimateRelease_early {w : Nat × Nat × Nat}
    (hspans : s.spans (chanEstClass (s.rec_ .chan ch.val)) (chanOutRate (s.rec_ .chan ch.val)) = w) (hdue : (s.est ch.val).next = some due)
    (hearly : s.dt < due + w.2.2) : exec (.estimateRelease ch) s = .next s := by
  have hexec : exec (.estimateRelease ch) s = execEstimateRelease ch s := rfl
  rw [hexec, execEstimateRelease, State.estimateRelease]
  dsimp only
  split
  · rfl
  · rw [hspans, hdue]
    dsimp only
    rw [if_pos (Or.inl hearly)]

section
variable (hfast : chanFastMinphase (s.rec_ .chan ch.val) ≠ 0) (hdue : (s.est ch.val).nextFast = some due)
include hfast hdue

theorem does_fastEstimate (hreached : due + s.fastSpans.2 ≤ s.dt)
    (hwindow : s.windowIn (s.chainKey (chanSrcRef (s.rec_ .chan ch.val))) (due + s.fastSpans.2) = true) :
    Does (.fastEstimate ch) s (footprint (.fastEstimate ch)) (fun t =>
      (t.est ch.val).nextFast = some (gridPoint 1200 (gridIndex 1200 due + 1)) ∧ (t.est ch.val).next = (s.est ch.val).next ∧
      (s.chanRegion ch.val < s.align.slices.length → (t.slice (s.chanRegion ch.val)).queue = (s.slice (s.chanRegion ch.val)).queue ++
        (if chanEstClass (s.rec_ .chan ch.val) = 0 ∧ onGrid (rateOf (chanOutRate (s.rec_ .chan ch.val))) due = true then
          [.est (s.formEst ch.val due true (s.fastSpans.1, s.fastSpans.1, s.fastSpans.1) (s.fastSpans.2, s.fastSpans.2, s.fastSpans.2))]
         else []))) := by
  have hexec : exec (.fastEstimate ch) s = execFastEstimate ch s := rfl
  rw [execFastEstimate, State.fastEstimate] at hexec
  dsimp only at hexec
  rw [if_neg (by simp [hworks, hvalid, hsource, hfast]), hdue] at hexec
  dsimp only at hexec
  rw [if_neg (by rw [hwindow]; exact not_or.2 ⟨Nat.not_lt_of_le hreached, Bool.noConfusion⟩)] at hexec
  generalize hu : s.modEst ch.val (fun x => { x with nextFast := some (gridPoint 1200 (gridIndex 1200 due + 1)) }) = u at hexec
  obtain ⟨hkept, hqueue⟩ := u.releaseEst_values
    (s.formEst ch.val due true (s.fastSpans.1, s.fastSpans.1, s.fastSpans.1) (s.fastSpans.2, s.fastSpans.2, s.fastSpans.2))
    (chanEstClass (s.rec_ .chan ch.val) == 0 && onGrid (rateOf (chanOutRate (s.rec_ .chan ch.val))) due) true true
  refine does_of_completes ⟨_, hexec, ?_, ?_, fun hlt => ?_⟩
  · rw [(hkept ch.val).2, ← hu, State.est_modEst, if_pos rfl]
  · rw [(hkept ch.val).1, ← hu, State.est_modEst, if_pos rfl]
  · have hentered := hqueue (by rw [← hu]; exact hlt)
    simp only [Bool.and_eq_true, beq_iff_eq] at hentered
    rw [← hu] at hentered ⊢
    exact hentered

end

omit hworks hvalid hsource in
theorem exec_fastEstimate_early (hdue : (s.est ch.val).nextFast = some due) (hearly : s.dt < due + s.fastSpans.2) :
    exec (.fastEstimate ch) s = .next s := by
  have hexec : exec (.fastEstimate ch) s = execFastEstimate ch s := rfl
  rw [hexec, execFastEstimate, State.fastEstimate]
  dsimp only
  split
  · rfl
  · rw [hdue]
    dsimp only
    rw [if_pos (Or.inl hearly)]

end

/-- Settles O33. -/
theorem samplesAndEstimates : Obligations.SamplesAndEstimates := by
  intro s hworks
  refine ⟨fun sid pos due hdue => ⟨fun hlate hnone => does_svSampleDeadline hdue hworks hlate hnone, fun hearly => exec_svSampleDeadline_early hdue hearly⟩,
    fun ch due w hvalid hsource hsome hclass hrate hspans hdue => ⟨fun hreached hwindow => ?_, fun hearly => exec_estimateRelease_early hspans hdue hearly⟩,
    fun ch due hvalid hsource hfast hdue => ⟨fun hreached hwindow => ?_, fun hearly => exec_fastEstimate_early hdue hearly⟩⟩
  · exact does_estimateRelease hworks hvalid hsource hsome hclass hrate hspans hdue hreached hwindow
  · exact does_fastEstimate hworks hvalid hsource hfast hdue hreached hwindow

end Sys2Proof.Machine

/-! Lemmas and proofs of the statement on oscillation updates and source location (O35). -/

namespace Sys2Proof.Machine

/-! What an update's release leaves as it is (R240, R242). -/

/-- The bands' states stay. -/
def SameBands (s t : State) : Prop := t.osc.bands = s.osc.bands

theorem SameBands.trans {s t u : State} (hst : SameBands s t) (htu : SameBands t u) : SameBands s u := Eq.trans htu hst

theorem SameBands.of_osc {s t : State} (h : t.osc = s.osc) : SameBands s t := congrArg OscSt.bands h

theorem SameBands.forAll {α : Type} {f : State → α → State} (hf : ∀ s x, SameBands s (f s x)) (xs : List α) (s : State) :
    SameBands s (forAll xs s f) := forAll_keep (fun u : State => u.osc.bands) f hf xs s

theorem State.putMode_sameBands (s : State) (r : ModeRec) (a : ModeAlarm) : SameBands s (s.putMode r a) := by
  unfold State.putMode
  dsimp only
  generalize hu : (s.setAlarm r.index a).releaseMode { r with picked := a.picked } = u
  have hreleased : SameBands s u := by
    rw [← hu]
    rfl
  generalize hv : (if r.invalid then u else u.deliveredFn (7 + oscBandOf r.index) (oscKey r.index)) = v
  have hdelivered : SameBands s v := by
    rw [← hv]
    split
    · exact hreleased
    · exact hreleased.trans (.of_osc (by simp))
  split
  · exact hdelivered
  · exact hdelivered.trans (.of_osc (by simp))

theorem State.locateMode_sameBands (s : State) (r : ModeRec) (es : List ModeEvent) : SameBands s (s.locateMode r es) := by
  unfold State.locateMode
  dsimp only
  split
  · unfold State.trigLoc
    dsimp only
    split
    · rfl
    · rfl
  · rfl

theorem State.oscRelease_sameBands (s : State) (rs : List (ModeRec × Option Nat)) : SameBands s (s.oscRelease rs) := by
  unfold State.oscRelease
  dsimp only
  refine SameBands.trans ?_ (SameBands.forAll (fun u e => .of_osc (by simp)) _ _)
  refine SameBands.trans ?_ (SameBands.forAll (fun (u : State) (e : ModeRec × ModeAlarm × List ModeEvent) => u.locateMode_sameBands e.1 e.2.2) _ _)
  refine SameBands.trans ?_ (SameBands.forAll (fun u e => .of_osc (by simp)) _ _)
  exact SameBands.forAll (fun (u : State) (e : ModeRec × ModeAlarm × List ModeEvent) => u.putMode_sameBands e.1 e.2.1) _ _

theorem State.modalSlots_sameBands (s : State) (k : Nat) (tag : Ns) (conv restarted : Bool) (ps : List Pole) :
    SameBands s (s.modalSlots k tag conv restarted ps) := by
  unfold State.modalSlots
  dsimp only
  refine SameBands.trans ?_ (State.oscRelease_sameBands _ _)
  exact SameBands.forAll (f := fun (u : State) (e : ModeRec × Option Nat) => u.setAlarm e.1.index { u.modeAlarm e.1.index with
    occ := if e.1.invalid then none else some (e.1.freq, e.1.amp) }) (fun _ _ => rfl) _ _

theorem State.bandSt_of_bands {s t : State} (h : SameBands s t) (k : Nat) : t.bandSt k = s.bandSt k := by
  unfold SameBands at h
  rw [State.bandSt, h, State.bandSt]

/-- A band whose update instant is taken. -/
theorem State.bandSt_taken (s : State) (k : Nat) (x : BandSt) :
    ({ s with osc := { s.osc with bands := aput s.osc.bands k x } } : State).bandSt k = x := by
  rw [State.bandSt, agetD, aget_aput, if_pos rfl]

theorem State.oscUpdate_done (s : State) (k : Nat) (u : Ns) : ((s.oscUpdate k u).bandSt k).done = some u := by
  unfold State.oscUpdate
  dsimp only
  split
  · rw [State.bandSt_of_bands (State.modalSlots_sameBands _ _ _ _ _ _), State.bandSt_taken]
  · rw [State.bandSt_of_bands (State.oscRelease_sameBands _ _), State.bandSt_taken]

theorem State.oscUpdate_sch (s : State) (k : Nat) (u : Ns) : (s.oscUpdate k u).sch = s.sch := by simp

theorem State.cell_of_sch {s t : State} (h : t.sch = s.sch) (c : Nat) : t.cell c = s.cell c := (SameWork.of_sch h).cell c

theorem State.setWorked_worked {s : State} {c : Nat} (hc : c < s.sch.cells.length) : ((s.setWorked c).cell c).worked = true := by
  rw [State.setWorked, State.cell_modCell, if_pos ⟨rfl, hc⟩]

/-- The kernel whose items carry out the updates of a target. -/
def oscKernel : OscTarget → Nat
  | .bank _ => kBank
  | .modal _ => kModal

theorem exec_bandUpdate {s : State} {t : OscTarget} {band : Fin 4} {k c : Nat} {u : Ns} (hworks : s.works = true)
    (hkey : s.targetKey t band.val = some k) (hinstant : s.updateInstant band.val = some u)
    (hcell : (List.range 64).find? (fun c => match (s.cell c).run with | some it => s.kernelOf it == oscKernel t | none => false) = some c) :
    exec (.bandUpdate t band) s =
      .next (if s.shed (s.oscRegion k) 6 || (s.bandSt k).done == some u then s else (s.oscUpdate k u).setWorked c) := by
  have hexec : exec (.bandUpdate t band) s = execBandUpdate t band s := rfl
  rw [hexec]
  unfold execBandUpdate
  dsimp only
  rw [hkey, hinstant]
  dsimp only
  change Host.Outcome.next (match (List.range 64).find? (fun c => match (s.cell c).run with
      | some it => s.kernelOf it == oscKernel t | none => false) with
    | some c => if !s.works || s.shed (s.oscRegion k) 6 || (s.bandSt k).done == some u then s else (s.oscUpdate k u).setWorked c
    | none => s) = _
  rw [hcell, hworks]
  rfl

/-! Location runs (R251 to R253). -/

section
variable {s : State} {l : Fin 16}

theorem does_locationRunStart (hworks : s.works = true) {p : Nat × Word × Ns} (hpending : (s.locSt l.val).pending = some p)
    (hpast : (s.locSt l.val).pendAt < s.sch.beats) (hvalid : locSetValid (s.rec_ .locSet l.val) = 1) (hfree : (s.locSt l.val).running = none) :
    Does (.locationRunStart l) s [.ctrs, .osc] (fun t =>
      t.locSt l.val = { running := some p, startedAt := s.sch.beats, pending := none, pendAt := 0, spoilt := false } ∧
      (∀ l' : Nat, l' ≠ l.val → t.locSt l' = s.locSt l') ∧ CountsOnce (ck1 .locRuns l.val) s t) := by
  have hexec : exec (.locationRunStart l) s = execLocationRunStart l s := rfl
  rw [execLocationRunStart] at hexec
  dsimp only at hexec
  rw [hpending] at hexec
  dsimp only at hexec
  rw [if_pos (by simp [hworks, hfree, hpast, hvalid])] at hexec
  refine ⟨_, hexec, ⟨?_, fun l' hne => ?_, (State.bump_countsOnce _ _).congr rfl rfl⟩, by simp [changesOnly_iff]⟩
  · rw [State.locSt, State.bump_osc, agetD, aget_aput, if_pos rfl]
  · rw [State.locSt, State.bump_osc, agetD, aget_aput, if_neg (Ne.symm hne), State.locSt, agetD]

theorem exec_locationRunStart_busy (hbusy : (s.locSt l.val).running ≠ none) : exec (.locationRunStart l) s = .next s := by
  have hexec : exec (.locationRunStart l) s = execLocationRunStart l s := rfl
  rw [hexec, execLocationRunStart]
  dsimp only
  cases (s.locSt l.val).pending with
  | none => rfl
  | some p =>
    dsimp only
    rw [if_neg (by simp [hbusy])]

/-- No run of the set is going on, and its latest result is of a mode and a tag. -/
def LocEnded (l i : Nat) (tag : Ns) (s : State) : Prop :=
  (s.locSt l).running = none ∧ ∃ r, aget s.osc.locLatest l = some r ∧ r.set = l ∧ r.tag = tag ∧ r.modeIndex = i ∧ r.buses.length = 4

theorem LocEnded.of_osc {l i : Nat} {tag : Ns} {t u : State} (h : LocEnded l i tag u) (hosc : t.osc = u.osc) : LocEnded l i tag t := by
  unfold LocEnded State.locSt at h ⊢
  rw [hosc]
  exact h

/-- Neither convergence nor the event touches the result. -/
theorem LocEnded.finish {l i : Nat} {tag : Ns} {u : State} (h : LocEnded l i tag u) (gated none_ : Bool) (e : Event) (n m : Nat) :
    LocEnded l i tag (if gated = true then (if none_ = true then u else u.converge n m)
      else (if none_ = true then u else u.converge n m).raise e) := by
  have hconverged : LocEnded l i tag (if none_ = true then u else u.converge n m) := by
    split
    · exact h
    · exact h.of_osc (by simp)
  split
  · exact hconverged
  · exact hconverged.of_osc (by simp)

theorem State.locResult_ended {i : Nat} {f : Word} {tag : Ns} (hrun : (s.locSt l.val).running = some (i, f, tag)) :
    LocEnded l.val i tag (s.locResult l.val) := by
  unfold State.locResult
  dsimp only
  rw [hrun]
  dsimp only
  refine LocEnded.finish ?_ _ _ _ _ _
  refine ⟨?_, _, (aget_aput _ _ _ _).trans (if_pos rfl), rfl, rfl, rfl, ?_⟩
  · exact congrArg LocSt.running (congrArg (Option.getD · _) ((aget_aput _ _ _ _).trans (if_pos rfl)))
  · rw [List.length_map, List.length_range]

end

/-- Settles O35. -/
theorem oscillationUpdatesAndLocation : Obligations.OscillationUpdatesAndLocation := by
  intro s hworks
  refine ⟨fun t band k u c hkey hinstant hcell => ⟨fun hshed hdone hc => ?_, fun hidle => ?_⟩, fun l p hpending hpast hvalid =>
    ⟨fun hfree => does_locationRunStart hworks hpending hpast hvalid hfree, fun hbusy => exec_locationRunStart_busy hbusy⟩,
    fun l i f tag hrun => ?_, fun l hfree => ?_⟩
  · have hexec := exec_bandUpdate hworks hkey hinstant hcell
    rw [if_neg (by simp [hshed, hdone])] at hexec
    refine does_of_completes ⟨_, hexec, ?_, State.setWorked_worked (by rw [State.oscUpdate_sch]; exact hc)⟩
    exact s.oscUpdate_done k u
  · rw [exec_bandUpdate hworks hkey hinstant hcell, if_pos]
    rcases hidle with hdone | hshed
    · simp [hdone]
    · simp [hshed]
  · have hexec : exec (.locationResult l) s = execLocationResult l s := rfl
    rw [execLocationResult, if_pos hworks] at hexec
    exact does_of_completes ⟨_, hexec, State.locResult_ended hrun⟩
  · have hexec : exec (.locationResult l) s = execLocationResult l s := rfl
    rw [hexec, execLocationResult, if_pos hworks, State.locResult]
    dsimp only
    rw [hfree]

end Sys2Proof.Machine

/-! Lemmas and proofs of the statement on logic scans (O37). -/

namespace Sys2Proof.Machine

/-! What the writing of outputs leaves as it is (R327 to R329). -/

/-- The counters that the outputs of a scan move: of handover, alarms, levels, signatures and their attention. -/
abbrev outCtrs : List Ctr := [.undeliveredWrites, .suppressed, .tripLaunches, .alarmChanges, .refusedEntries, .suppressedWrites, .lateLevels,
  .halfUses, .exhaustions, .unsendable, .oversizeTx, .queueHolds]

/-- The boot state, the tags and snapshots of the scans, the cells, and every counter but those of outputs stay. -/
def SameScan (s t : State) : Prop :=
  t.boot = s.boot ∧ (t.logic.lastTag = s.logic.lastTag ∧ t.logic.snaps = s.logic.snaps) ∧ t.sch.cells = s.sch.cells ∧ CtrsKept outCtrs s t

theorem SameScan.refl (s : State) : SameScan s s := ⟨rfl, ⟨rfl, rfl⟩, rfl, .refl _ s⟩

theorem SameScan.trans {s t u : State} (hst : SameScan s t) (htu : SameScan t u) : SameScan s u :=
  ⟨htu.1.trans hst.1, ⟨htu.2.1.1.trans hst.2.1.1, htu.2.1.2.trans hst.2.1.2⟩, htu.2.2.1.trans hst.2.2.1, hst.2.2.2.trans htu.2.2.2⟩

/-- A step that keeps the boot state, logic and the dispatcher. -/
theorem SameScan.of_parts {s t : State} (hboot : t.boot = s.boot) (hlogic : t.logic = s.logic) (hsch : t.sch = s.sch) (h : CtrsKept outCtrs s t) :
    SameScan s t := ⟨hboot, ⟨by rw [hlogic], by rw [hlogic]⟩, by rw [hsch], h⟩

theorem SameScan.ite {s t u : State} {p : Prop} [Decidable p] (ht : SameScan s t) (hu : SameScan s u) : SameScan s (if p then t else u) := by
  split
  · exact ht
  · exact hu

theorem SameScan.forAll {α : Type} {f : State → α → State} (hf : ∀ s x, SameScan s (f s x)) (xs : List α) (s : State) :
    SameScan s (forAll xs s f) :=
  forAll_inv (SameScan s) f (fun t x ht => ht.trans (hf t x)) xs s (.refl s)

theorem State.bump_sameScan (s : State) {k : CtrKey} (hk : k.c ∈ outCtrs) : SameScan s (s.bump k) :=
  .of_parts rfl rfl rfl ((CtrsKept.refl _ s).bump hk)

theorem State.mirror_sameScan (s : State) (b : WoideBody) : SameScan s (s.mirror b) :=
  .of_parts (by simp) (by simp) (by simp) ((CtrsKept.of_frames (s.mirror_framesPlaced b)).mono (by simp))

theorem State.postFor_sameScan (s : State) (lvl : Nat) (cls : AttClass) (k : CtrKey) (detail : Nat) : SameScan s (s.postFor lvl cls k detail) :=
  .of_parts (by simp [State.postFor]) (by simp [State.postFor]) (by simp [State.postFor]) ((State.post_ctrs _ _ _ _ _).mono (by simp))

theorem State.modDo_sameScan (s : State) (d : Nat) (f : DoSt → DoSt) : SameScan s (s.modDo d f) := ⟨rfl, ⟨rfl, rfl⟩, rfl, .of_ctrs rfl⟩

theorem State.sendLevel_sameScan (s : State) (d : Nat) (due tag : Ns) (v : Bool) : SameScan s (s.sendLevel d due tag v) := by
  unfold State.sendLevel
  exact SameScan.ite ((s.modDo_sameScan d _).trans ((State.bump_sameScan _ (by simp [ck1])).trans (State.postFor_sameScan _ _ _ _ _)))
    (s.modDo_sameScan d _)

theorem State.resendLevels_sameScan (s : State) : SameScan s s.resendLevels := by
  refine SameScan.forAll (fun u d => ?_) _ _
  split
  · exact SameScan.ite (u.sendLevel_sameScan d _ _ _) (.refl u)
  · exact .refl u

theorem State.handOver_sameScan (s : State) (o : Nat) : SameScan s (s.handOver o) := by
  unfold State.handOver
  exact SameScan.ite (.refl s) (s.bump_sameScan (by simp [ck1]))

theorem State.setMember_sameScan (s : State) (n m : Nat) (v : VarVal) (launch : Ns) : SameScan s (s.setMember n m v launch) :=
  .of_parts (by simp) (by simp) (by simp) (.of_ctrs (by simp))

/-- The device whose output record holds a value. -/
def State.outSet (s : State) (o : Nat) (x : VarVal) : State := { s with logic := { s.logic with outVals := aput s.logic.outVals o x } }

theorem State.outSet_sameScan (s : State) (o : Nat) (x : VarVal) : SameScan s (s.outSet o x) := ⟨rfl, ⟨rfl, rfl⟩, rfl, .of_ctrs rfl⟩

theorem State.outMember_sameScan (s : State) (sn : Snapshot) (o : Nat) : SameScan s (s.outMember sn o) := by
  unfold State.outMember
  dsimp only
  refine SameScan.ite (.refl s) (SameScan.ite ?_ (s.outSet_sameScan o _))
  exact SameScan.ite ((s.outSet_sameScan o _).trans ((State.setMember_sameScan _ _ _ _ _).trans (State.handOver_sameScan _ o)))
    ((s.outSet_sameScan o _).trans (State.setMember_sameScan _ _ _ _ _))

theorem State.outLevel_sameScan (s : State) (sn : Snapshot) (o : Nat) : SameScan s (s.outLevel sn o) := by
  unfold State.outLevel
  dsimp only
  have hset (x : VarVal) (d : Nat) (f : DoSt → DoSt) : SameScan s ((s.outSet o x).modDo d f) :=
    (s.outSet_sameScan o x).trans (State.modDo_sameScan _ d f)
  refine SameScan.ite (hset _ _ _) (SameScan.ite ((hset _ _ _).trans (State.bump_sameScan _ (by simp [ck1]))) ?_)
  refine SameScan.ite ((hset _ _ _).trans (State.sendLevel_sameScan _ _ _ _ _)) (SameScan.ite ?_ ((hset _ _ _).trans (State.sendLevel_sameScan _ _ _ _ _)))
  exact (hset _ _ _).trans ((State.bump_sameScan _ (by simp [ck1])).trans (State.sendLevel_sameScan _ _ _ _ _))

theorem State.countUse_ctrs (s : State) (k : Nat) (second : Bool) : CtrsKept outCtrs s (s.countUse k second) := by
  unfold State.countUse
  dsimp only
  split
  · exact .refl _ s
  · have hused : CtrsKept outCtrs s (s.bump (ck2 .halfUses k (b2n second))) := (CtrsKept.refl _ s).bump (by simp [ck2])
    split
    · split
      · have hspent (x : Slot) : CtrsKept outCtrs s (((s.bump (ck2 .halfUses k (b2n second))).putSlot k x).bump (ck1 .exhaustions k)) :=
          (hused.same rfl).bump (by simp [ck1])
        split
        · exact (hspent _).trans ((State.post_ctrs _ _ _ _ _).mono (by simp))
        · exact hspent _
      · exact hused.same rfl
    · exact hused

theorem State.sign_sameScan (s : State) (n : Nat) : SameScan s (s.sign n).1 := by
  refine .of_parts (by simp) (by simp) (by simp) ?_
  unfold State.sign
  dsimp only
  split
  · exact .refl _ s
  · split
    · exact s.countUse_ctrs _ _
    · exact s.bumpOnce_ctrs _ _ (by simp [ck1]) (by simp)

theorem State.place_sameScan (s : State) (p q : Nat) (f : TxFrame) : SameScan s (s.place p q f) :=
  .of_parts (by simp) (by simp) (by simp) ((CtrsKept.of_frames (s.place_framesPlaced p q f)).mono (by simp))

theorem State.goose_sameScan (s : State) (n : Nat) (launch : Ns) (ttl : Nat) : SameScan s (s.goose n launch ttl) := by
  unfold State.goose
  split
  · exact s.bump_sameScan (by simp [ck1])
  · have hsigned := s.sign_sameScan n
    split
    · next heq =>
      rw [heq] at hsigned
      exact hsigned
    · next heq =>
      rw [heq] at hsigned
      exact hsigned.trans (SameScan.forAll (fun u p => u.place_sameScan p _ _) _ _)

theorem State.alarmChange_sameScan (s : State) (n : Nat) (launch : Ns) : SameScan s (s.alarmChange n launch) := by
  unfold State.alarmChange
  dsimp only
  refine SameScan.trans (SameScan.trans (SameScan.trans ?_ (State.bump_sameScan _ (by simp [ck1]))) (State.goose_sameScan _ _ _ _))
    (State.mirror_sameScan _ _)
  exact .of_parts rfl rfl rfl (.of_ctrs rfl)

theorem State.charge_sameScan (s : State) (r cls : Nat) (c : Cost) : SameScan s (s.charge r cls c) :=
  ⟨by simp, ⟨by simp, by simp⟩, rfl, .of_ctrs (State.charge_ctrs _ _ _ _)⟩

/-- The device whose waiting trips are others. -/
def State.setTrips (s : State) (trips : List Trip) : State := { s with logic := { s.logic with trips := trips } }

theorem State.setTrips_sameScan (s : State) (trips : List Trip) : SameScan s (s.setTrips trips) := ⟨rfl, ⟨rfl, rfl⟩, rfl, .of_ctrs rfl⟩

theorem State.deltaTrip_sameScan (s : State) (out : Nat) (active : Bool) (tag : Ns) (left : Nat) : SameScan s (s.deltaTrip out active tag left) :=
  s.mirror_sameScan _

/-- The device once an acknowledgement has ended the series of an output record. -/
def State.tripAcked (s : State) (o : Nat) (acked : Bool) (tag : Ns) : State :=
  match s.logic.trips.find? (fun y => y.out == o) with
  | some y => if acked && decide (y.tag < tag) then (s.setTrips (s.logic.trips.filter (fun y => y.out != o))).deltaTrip o false y.tag 0 else s
  | none => s

theorem State.tripAcked_sameScan (s : State) (o : Nat) (acked : Bool) (tag : Ns) : SameScan s (s.tripAcked o acked tag) := by
  unfold State.tripAcked
  split
  · exact SameScan.ite ((s.setTrips_sameScan _).trans (State.deltaTrip_sameScan _ _ _ _ _)) (.refl s)
  · exact .refl s

theorem State.outTrip_sameScan (s : State) (sn : Snapshot) (it : Item) (o : Nat) : SameScan s (s.outTrip sn it o) := by
  unfold State.outTrip
  dsimp only
  have hacked (x : VarVal) (acked : Bool) : SameScan s ((s.outSet o x).tripAcked o acked sn.tag) :=
    (s.outSet_sameScan o x).trans (State.tripAcked_sameScan _ _ _ _)
  refine SameScan.ite (hacked _ _) (SameScan.ite (SameScan.trans (hacked _ _) (State.bump_sameScan _ (by simp [ck1]))) ?_)
  refine SameScan.trans (SameScan.trans (SameScan.trans ?_ (State.charge_sameScan _ _ _ _)) (State.setTrips_sameScan _ _)) (State.deltaTrip_sameScan _ _ _ _ _)
  exact SameScan.trans (SameScan.trans (SameScan.trans (hacked _ _) (State.alarmChange_sameScan _ _ _)) (State.bump_sameScan _ (by simp [ck1])))
    (State.handOver_sameScan _ _)

/-! A scan completes (R317, R319). -/

theorem State.converge_ctrs (s : State) (n u : Nat) : (s.converge n u).ctrs = s.ctrs := by simp

/-- The device once a scan is counted: its tag is the task's last, its snapshot is gone, and the task has converged. -/
def State.scanCounted (s : State) (sn : Snapshot) : State :=
  ((({ s with logic := { s.logic with lastTag := aput s.logic.lastTag sn.task sn.tag
                                      snaps := s.logic.snaps.filter (fun x => x.task != sn.task) } } : State).bump
    (ck1 .scansCompleted sn.task)).converge 12 sn.task)

theorem State.scanCounted_values (s : State) (sn : Snapshot) :
    (s.scanCounted sn).logic.lastTag = aput s.logic.lastTag sn.task sn.tag ∧
    (s.scanCounted sn).logic.snaps = s.logic.snaps.filter (fun x => x.task != sn.task) ∧ (s.scanCounted sn).sch = s.sch ∧
    (s.scanCounted sn).ctrs = (s.bump (ck1 .scansCompleted sn.task)).ctrs := by
  refine ⟨by simp [State.scanCounted], by simp [State.scanCounted], by simp [State.scanCounted], ?_⟩
  rw [State.scanCounted, State.converge_ctrs]
  rfl

theorem State.completeScan_sameScan (before s : State) (sn : Snapshot) (it : Item) :
    SameScan (s.scanCounted sn) (State.completeScan before s sn it) := by
  unfold State.completeScan
  dsimp only
  have hwritten (trigs : List Trig) (k0 k1 k2 : List Nat) : SameScan (s.scanCounted sn)
      ((forAll k2 (forAll k1 (forAll k0 (s.scanCounted sn).resendLevels (fun s o => s.outMember sn o)) (fun s o => s.outTrip sn it o))
        (fun s o => s.outLevel sn o)).queueTrigs trigs) := by
    refine SameScan.trans ?_ (.of_parts rfl rfl rfl (.of_ctrs rfl))
    refine SameScan.trans ?_ (SameScan.forAll (fun u o => u.outLevel_sameScan sn o) _ _)
    refine SameScan.trans ?_ (SameScan.forAll (fun u o => u.outTrip_sameScan sn it o) _ _)
    exact (State.resendLevels_sameScan _).trans (SameScan.forAll (fun u o => u.outMember_sameScan sn o) _ _)
  exact SameScan.ite (hwritten _ _ _ _) (SameScan.trans (hwritten _ _ _ _) (State.mirror_sameScan _ _))

theorem State.setWorked_logic (s : State) (c : Nat) : (s.setWorked c).logic = s.logic := rfl

theorem State.setWorked_boot (s : State) (c : Nat) : (s.setWorked c).boot = s.boot := rfl

theorem State.setWorked_ctrs (s : State) (c : Nat) : (s.setWorked c).ctrs = s.ctrs := rfl

theorem State.runScan_sch {s t : State} {sn : Snapshot} (h : s.runScan sn = some t) : t.sch = s.sch := by
  simp [State.runScan_frame s t sn h]

theorem State.mem_converge (s : State) (n u : Nat) : (n, u) ∈ (s.converge n u).boot.converged := by
  unfold State.converge
  dsimp only
  split
  · next h => exact List.contains_iff_mem.1 h
  · exact List.mem_append_right _ (List.mem_singleton.2 rfl)

section
variable {task : Fin 32} {s : State} {c : Nat} {it : Item} {sn : Snapshot} (hscan : s.scanOf task.val = some (c, it))
  (hsnap : s.logic.snaps.find? (fun x => x.task == task.val) = some sn)
include hscan hsnap

theorem exec_logicScan : exec (.logicScan task) s =
    .next (match s.runScan sn with | some s' => (State.completeScan s s' sn it).setWorked c | none => s.faultCell c 2) := by
  have hexec : exec (.logicScan task) s = execLogicScan task s := rfl
  rw [hexec, execLogicScan, State.logicScan, hscan, hsnap] <;> rfl

theorem does_logicScan_completes (hc : c < s.sch.cells.length) {s' : State} (hrun : s.runScan sn = some s') :
    Does (.logicScan task) s (footprint (.logicScan task)) (fun t =>
      aget t.logic.lastTag task.val = some sn.tag ∧ (∀ x ∈ t.logic.snaps, x.task ≠ task.val) ∧
      (t.cell c).worked = true ∧ t.ctr (ck1 .scansCompleted task.val) = satAdd (s'.ctr (ck1 .scansCompleted task.val)) 1 ∧
      (12, task.val) ∈ t.boot.converged) := by
  have hexec := exec_logicScan hscan hsnap
  rw [hrun] at hexec
  dsimp only at hexec
  have htask : sn.task = task.val := by simpa using List.find?_some hsnap
  obtain ⟨hboot, ⟨htag, hsnaps⟩, hcells, hctrs⟩ := State.completeScan_sameScan s s' sn it
  obtain ⟨htag', hsnaps', hsch, hcounted⟩ := s'.scanCounted_values sn
  generalize State.completeScan s s' sn it = v at hexec hboot htag hsnaps hcells hctrs
  refine does_of_completes ⟨_, hexec, ?_, ?_, State.setWorked_worked ?_, ?_, ?_⟩
  · rw [State.setWorked_logic, htag, htag', aget_aput, if_pos htask]
  · rw [State.setWorked_logic, hsnaps, hsnaps']
    intro x hx
    simpa [htask] using (List.mem_filter.1 hx).2
  · rw [hcells, hsch, State.runScan_sch hrun]
    exact hc
  · rw [State.ctr_congr (State.setWorked_ctrs v c), hctrs (ck1 .scansCompleted task.val) (by simp [ck1]), State.ctr_congr hcounted, State.ctr_bump,
      htask, if_pos rfl]
  · rw [State.setWorked_boot, hboot, ← htask]
    exact State.mem_converge _ 12 sn.task

theorem does_logicScan_faults (hc : c < s.sch.cells.length) (hrun : s.runScan sn = none) :
    Does (.logicScan task) s (footprint (.logicScan task)) (fun t =>
      (t.cell c).faultNow = true ∧ (t.cell c).faults = (s.lts :: (s.cell c).faults).take 3) := by
  have hexec := exec_logicScan hscan hsnap
  rw [hrun] at hexec
  dsimp only at hexec
  obtain ⟨-, hnow, hfaults⟩ := State.faultCell_faulted (List.getElem?_eq_getElem hc) 2
  exact does_of_completes ⟨_, hexec, hnow, hfaults⟩

end

/-- Settles O37. -/
theorem logicScans : Obligations.LogicScans := by
  intro task s
  refine ⟨fun c it sn hscan hsnap hc => ⟨fun s' hrun => does_logicScan_completes hscan hsnap hc hrun,
    fun hrun => does_logicScan_faults hscan hsnap hc hrun⟩, fun hnone => ?_, fun hnone => ?_⟩
  · have hexec : exec (.logicScan task) s = execLogicScan task s := rfl
    rw [hexec, execLogicScan, State.logicScan, hnone]
  · have hexec : exec (.logicScan task) s = execLogicScan task s := rfl
    rw [hexec, execLogicScan, State.logicScan, hnone]
    cases s.scanOf task.val with
    | none => rfl
    | some p => rfl

end Sys2Proof.Machine

/-! Lemmas and proofs of the statement on islanding evaluations and detectors (O36). -/

namespace Sys2Proof.Machine

/-! What the steps of an evaluation leave as it is (R258 to R268). -/

/-- The counters that the steps of an evaluation move, after its own count. -/
abbrev islCtrs : List Ctr := [.coalesced, .resyncs, .heldStatuses, .statusBehind, .statusChanges, .pairRelearns, .pairRestarts, .islMerges,
  .islWithdrawn, .islDeclared, .islOverflows, .gradeChanges, .oversizeTx, .queueHolds]

/-- The waiting sets, the tag of the latest evaluation, the cells, and every counter but those of an evaluation's steps stay. -/
def SameEval (s t : State) : Prop :=
  (t.isl.waiting = s.isl.waiting ∧ t.isl.evalTag = s.isl.evalTag) ∧ t.sch.cells = s.sch.cells ∧ CtrsKept islCtrs s t

theorem SameEval.refl (s : State) : SameEval s s := ⟨⟨rfl, rfl⟩, rfl, .refl _ s⟩

theorem SameEval.trans {s t u : State} (hst : SameEval s t) (htu : SameEval t u) : SameEval s u :=
  ⟨⟨htu.1.1.trans hst.1.1, htu.1.2.trans hst.1.2⟩, htu.2.1.trans hst.2.1, hst.2.2.trans htu.2.2⟩

/-- A step that keeps the islanding state and the dispatcher. -/
theorem SameEval.of_parts {s t : State} (hisl : t.isl = s.isl) (hsch : t.sch = s.sch) (h : CtrsKept islCtrs s t) : SameEval s t :=
  ⟨⟨by rw [hisl], by rw [hisl]⟩, by rw [hsch], h⟩

theorem SameEval.ite {s t u : State} {p : Prop} [Decidable p] (ht : SameEval s t) (hu : SameEval s u) : SameEval s (if p then t else u) := by
  split
  · exact ht
  · exact hu

theorem SameEval.forAll {α : Type} {f : State → α → State} (hf : ∀ s x, SameEval s (f s x)) (xs : List α) (s : State) :
    SameEval s (forAll xs s f) :=
  forAll_inv (SameEval s) f (fun t x ht => ht.trans (hf t x)) xs s (.refl s)

theorem State.bumpBy_sameEval (s : State) {k : CtrKey} (hk : k.c ∈ islCtrs) (n : Nat) : SameEval s (s.bumpBy k n) :=
  .of_parts rfl rfl ((CtrsKept.refl _ s).bumpBy hk n)

theorem State.bump_sameEval (s : State) {k : CtrKey} (hk : k.c ∈ islCtrs) : SameEval s (s.bump k) := s.bumpBy_sameEval hk 1

theorem State.modCore_sameEval (s : State) (f : IslCore → IslCore) : SameEval s (s.modCore f) := ⟨⟨rfl, rfl⟩, rfl, .of_ctrs rfl⟩

theorem State.postFor_sameEval (s : State) (lvl : Nat) (cls : AttClass) (k : CtrKey) (detail : Nat) : SameEval s (s.postFor lvl cls k detail) :=
  .of_parts (by simp [State.postFor]) (by simp [State.postFor]) ((State.post_ctrs _ _ _ _ _).mono (by simp))

theorem State.mirror_sameEval (s : State) (b : WoideBody) : SameEval s (s.mirror b) :=
  .of_parts (by simp) (by simp) ((CtrsKept.of_frames (s.mirror_framesPlaced b)).mono (by simp))

theorem State.converge_sameEval (s : State) (n u : Nat) : SameEval s (s.converge n u) :=
  .of_parts (by simp) (by simp) (.of_ctrs (s.converge_ctrs n u))

theorem State.deliveredFn_sameEval (s : State) (n u : Nat) : SameEval s (s.deliveredFn n u) := .of_parts (by simp) (by simp) (.of_ctrs (by simp))

theorem State.putAna_sameEval (s : State) (o : AnaOut) : SameEval s (s.putAna o) := .of_parts rfl rfl (.of_ctrs rfl)

theorem State.raise_sameEval (s : State) (e : Event) : SameEval s (s.raise e) := .of_parts (by simp) (by simp) (.of_ctrs (by simp))

theorem State.chargeIsl_sameEval (s : State) (n : Nat) : SameEval s (s.chargeIsl n) := by
  unfold State.chargeIsl
  split
  · exact ⟨⟨rfl, rfl⟩, rfl, .of_ctrs rfl⟩
  · exact .refl s

theorem State.setIslLog_sameEval (s : State) (log : List (Event × IslRec)) : SameEval s { s with isl := { s.isl with log := log } } :=
  ⟨⟨rfl, rfl⟩, rfl, .of_ctrs rfl⟩

theorem State.raiseIsl_sameEval (s : State) (r : IslRec) (e : Event) : SameEval s (s.raiseIsl r e) := by
  unfold State.raiseIsl
  dsimp only
  have hraised := s.raise_sameEval e
  generalize s.raise e = u at hraised ⊢
  generalize List.drop _ _ = log
  exact SameEval.ite hraised (hraised.trans ((u.setIslLog_sameEval log).trans (State.chargeIsl_sameEval _ 80)))

theorem State.copyIsl_sameEval (s : State) : SameEval s s.copyIsl := by
  unfold State.copyIsl
  refine SameEval.ite (.refl s) (SameEval.trans ?_ (State.chargeIsl_sameEval _ _))
  exact ⟨⟨rfl, rfl⟩, rfl, .of_ctrs rfl⟩

theorem State.putIsl_sameEval (s : State) (slot : Nat) (r : IslRec) : SameEval s ((s.putIsl slot r).putIslOut slot r) :=
  (s.modCore_sameEval _).trans (State.putAna_sameEval _ _)

/-- The end of a withdrawal: the island merged, or was withdrawn, or neither is counted. -/
theorem SameEval.withdrawn {s u : State} (h : SameEval s u) (merged withdrawn : Prop) [Decidable merged] [Decidable withdrawn] :
    SameEval s (if merged then (u.bump (ck .islMerges)).postFor 3 .unit (ck .islMerges) 0
      else if withdrawn then (u.bump (ck .islWithdrawn)).postFor 3 .unit (ck .islWithdrawn) 0 else u) := by
  refine SameEval.ite (h.trans ?_) (SameEval.ite (h.trans ?_) h)
  · exact (u.bump_sameEval (by simp [ck])).trans (State.postFor_sameEval _ _ _ _ _)
  · exact (u.bump_sameEval (by simp [ck])).trans (State.postFor_sameEval _ _ _ _ _)

theorem State.withdraw_sameEval (s : State) (slot cause : Nat) (tag : Ns) : SameEval s (s.withdraw slot cause tag) := by
  unfold State.withdraw
  split
  · next r _ =>
    dsimp only
    generalize ({ r with declared := false, tag := tag } : IslRec) = r'
    generalize islEvent r' slot 0 false cause tag = e
    exact ((s.putIsl_sameEval slot r').trans (State.raiseIsl_sameEval _ r' e)).withdrawn _ _
  · exact .refl s

theorem State.branchStep_sameEval (s : State) (g : GroupSet) (b : Nat) : SameEval s (s.branchStep g b) := by
  unfold State.branchStep
  dsimp only
  split
  · exact .refl s
  · refine SameEval.ite (s.bump_sameEval (by simp [ck1])) (SameEval.ite (s.bump_sameEval (by simp [ck])) ?_)
    refine SameEval.trans (SameEval.trans ?_ (State.modCore_sameEval _ _)) (State.converge_sameEval _ 5 _)
    exact SameEval.ite (s.bump_sameEval (by simp [ck1])) (.refl s)

theorem State.setCoh_sameEval (s : State) (i : Nat) (p : PairCoh) : SameEval s (s.setCoh i p) := s.modCore_sameEval _

theorem State.pairGap_sameEval (s : State) (i : Nat) (t : Ns) : SameEval s (s.pairGap i t) := by
  unfold State.pairGap
  split
  · exact SameEval.ite ((s.bump_sameEval (by simp [ck1])).trans (State.setCoh_sameEval _ _ _)) (.refl s)
  · exact .refl s

/-- The device once a pair's sample is noted: that it delivered, has converged, or learns anew, and since when samples come. -/
def State.pairNoted (s : State) (i : Nat) (t : Ns) (conv relearn : Bool) : State :=
  let s := s.deliveredFn 6 i
  let s := if conv then s.converge 6 i else s
  let s := if relearn then s.bump (ck1 .pairRelearns i) else s
  match s.isl.cohSince with | some _ => s | none => { s with isl := { s.isl with cohSince := some t } }

theorem State.pairNoted_sameEval (s : State) (i : Nat) (t : Ns) (conv relearn : Bool) : SameEval s (s.pairNoted i t conv relearn) := by
  unfold State.pairNoted
  dsimp only
  generalize hu : (if conv then (s.deliveredFn 6 i).converge 6 i else s.deliveredFn 6 i) = u
  have hconverged : SameEval s u := by
    rw [← hu]
    exact SameEval.ite ((s.deliveredFn_sameEval 6 i).trans (State.converge_sameEval _ 6 i)) (s.deliveredFn_sameEval 6 i)
  have hlearned : SameEval s (if relearn then u.bump (ck1 .pairRelearns i) else u) :=
    SameEval.ite (hconverged.trans (u.bump_sameEval (by simp [ck1]))) hconverged
  split
  · exact hlearned
  · exact hlearned.trans ⟨⟨rfl, rfl⟩, rfl, .of_ctrs rfl⟩

theorem State.pairStep_sameEval (s : State) (i : Nat) (t : Ns) (v : Word × Word × Word × Word) : SameEval s (s.pairStep i t v) := by
  unfold State.pairStep
  dsimp only
  split
  · exact SameEval.ite ((s.pairNoted_sameEval i t _ _).trans (State.setCoh_sameEval _ _ _)) ((s.pairNoted_sameEval i t _ _).trans (State.setCoh_sameEval _ _ _))
  · exact (s.pairNoted_sameEval i t _ _).trans (State.setCoh_sameEval _ _ _)

theorem State.pairEval_sameEval (s : State) (before sets : List GroupSet) (tags : List Ns) (tag : Ns) (e : Nat × Nat × Nat) :
    SameEval s (s.pairEval before sets tags tag e) := by
  unfold State.pairEval
  refine SameEval.trans (SameEval.forAll (fun u t => ?_) _ _) (State.pairGap_sameEval _ e.1 tag)
  split
  · exact (u.pairGap_sameEval e.1 t).trans (State.pairStep_sameEval _ e.1 t _)
  · exact .refl u

theorem State.keyIdle_sameEval (s : State) (tag : Ns) (k : Nat) : SameEval s (s.keyIdle tag k) := s.modCore_sameEval _

theorem State.keyStep_sameEval (s : State) (tag : Ns) (pairs : List (Nat × Nat × Nat)) (gated : Bool) (k : Nat) (c : List Nat) :
    SameEval s (s.keyStep tag pairs gated k c) := s.modCore_sameEval _

theorem State.islRaised_sameEval (s : State) (slot : Nat) (r : IslRec) (e : Event) :
    SameEval s (((s.putIsl slot r).putIslOut slot r).raiseIsl r e) := (s.putIsl_sameEval slot r).trans (State.raiseIsl_sameEval _ r e)

theorem State.islMatch_sameEval (s : State) (sets : List GroupSet) (mainFreqs : List Word) (tag : Ns) (found : List Found) :
    SameEval s (s.islMatch sets mainFreqs tag found) := by
  unfold State.islMatch
  dsimp only
  refine SameEval.trans (SameEval.trans (SameEval.trans (SameEval.forAll (fun u d => u.withdraw_sameEval _ _ tag) _ _) (SameEval.forAll ?_ _ _))
    (SameEval.forAll ?_ _ _)) (SameEval.forAll ?_ _ _)
  · intro u x
    split
    · exact u.putIsl_sameEval _ _
    · exact .refl u
  · intro u f
    split
    · exact (u.islRaised_sameEval _ _ _).trans ((State.bump_sameEval _ (by simp [ck])).trans (State.postFor_sameEval _ _ _ _ _))
    · exact .of_parts (by simp) (by simp) (u.bumpOnce_ctrs _ _ (by simp [ck]) (by simp))
  · intro u x
    split
    · exact (u.bump_sameEval (by simp [ck])).trans (State.raiseIsl_sameEval _ _ _)
    · exact .refl u

theorem State.adoptIsl_sameEval (s : State) : SameEval s s.adoptIsl := by
  unfold State.adoptIsl
  refine SameEval.ite (.refl s) ?_
  dsimp only
  refine SameEval.ite (.refl s) ?_
  refine SameEval.trans (SameEval.trans (s.modCore_sameEval _) (SameEval.forAll ?_ _ _)) (State.bump_sameEval _ (by simp [ck1]))
  intro u m
  split
  · exact u.modCore_sameEval _
  · exact .refl u

/-! An evaluation (R258). -/

/-- The device once an evaluation has its components, clusters and tag. -/
def State.evalTagged (s : State) (comps clusters : Nat) (tag : Ns) : State :=
  { s with isl := { s.isl with comps := comps, clusters := clusters, evalTag := tag } }

/-- The device once the sets that an evaluation covers wait no more. -/
def State.setsCovered (s : State) (n : Nat) (recent : List GroupSet) : State :=
  { s with isl := { s.isl with waiting := s.isl.waiting.drop n, recent := recent } }

/-- An evaluation counts, takes its tag and covers its sets; all its other steps keep these. -/
theorem SameEval.evaluated {u v w t : State} {n comps clusters : Nat} {tag : Ns} {recent : List GroupSet}
    (hsteps : SameEval (u.bump (ck .evaluations)) v) (hislands : SameEval (v.evalTagged comps clusters tag) w)
    (hend : SameEval (w.setsCovered n recent) t) :
    t.isl.waiting = u.isl.waiting.drop n ∧ t.isl.evalTag = tag ∧ t.sch.cells = u.sch.cells ∧
    t.ctr (ck .evaluations) = satAdd (u.ctr (ck .evaluations)) 1 := by
  refine ⟨?_, ?_, ?_, ?_⟩
  · rw [hend.1.1, State.setsCovered, hislands.1.1, State.evalTagged, hsteps.1.1]
    rfl
  · rw [hend.1.2, State.setsCovered, hislands.1.2, State.evalTagged]
  · rw [hend.2.1, State.setsCovered, hislands.2.1, State.evalTagged, hsteps.2.1]
    rfl
  · have hcount := (hsteps.2.2.trans ((hislands.2.2.before rfl).trans (hend.2.2.before rfl))) (ck .evaluations) (by simp [ck])
    rw [hcount, State.ctr_bump, if_pos rfl]

theorem State.islEvaluate_values (s : State) (n : Nat) :
    (s.islEvaluate n).isl.waiting = s.isl.waiting.drop n ∧
    (s.islEvaluate n).isl.evalTag = (sortSets (s.isl.waiting.take n)).foldl (fun m g => max m g.tag) 0 ∧
    (s.islEvaluate n).sch.cells = s.sch.cells ∧
    (s.islEvaluate n).ctr (ck .evaluations) = satAdd (s.ctr (ck .evaluations)) 1 := by
  have hadopt := s.adoptIsl_sameEval
  generalize ht : s.islEvaluate n = t
  unfold State.islEvaluate at ht
  extract_lets u h covered tag before pool v0 status v1 comps tags v2 known part clusters main cands gated v3 v4 mainFreqs isl w0 w1 w2
    recent isl' w3 slots at ht
  have hstatus : SameEval v0 v1 := SameEval.forAll (fun v g => SameEval.forAll (fun v b => v.branchStep_sameEval g b) status v) covered v0
  have hpairs : SameEval v1 v2 := SameEval.forAll (fun v e => v.pairEval_sameEval before pool tags tag e) v1.cohPairs v1
  have hidle : SameEval v2 v3 := SameEval.forAll (fun v (k : Nat × IslKey) => v.keyIdle_sameEval tag k.1) _ v2
  have hkeys : SameEval v3 v4 := SameEval.forAll (fun v c => v.keyStep_sameEval tag v.cohPairs gated (v.islId c) c) cands v3
  have hsteps : SameEval (u.bump (ck .evaluations)) v4 :=
    ((State.bumpBy_sameEval _ (by simp [ck]) _).trans hstatus).trans ((hpairs.trans hidle).trans hkeys)
  have hislands : SameEval (v4.evalTagged comps.length clusters.length tag) w2 :=
    (State.islMatch_sameEval _ pool mainFreqs tag _).trans (w1.putAna_sameEval _)
  have hend : SameEval (w2.setsCovered n recent) t := by
    rw [← ht]
    exact (State.copyIsl_sameEval _).trans (SameEval.forAll (fun v i => v.mirror_sameEval _) slots w3)
  obtain ⟨hwaiting, htag, hcells, hcount⟩ := SameEval.evaluated hsteps hislands hend
  refine ⟨hwaiting.trans (by rw [hadopt.1.1]), htag.trans ?_, hcells.trans hadopt.2.1, hcount.trans ?_⟩
  · rw [← hadopt.1.1]
  · rw [hadopt.2.2 (ck .evaluations) (by simp [ck])]

/-! The evaluation cell (R259). -/

theorem State.startEval_isl (s : State) : s.startEval.isl = s.isl := by simp

theorem State.startEval_of_busy {s : State} {c : Nat} {it : Item} (hcell : s.islCell = some c) (hrun : (s.cell c).run = some it) :
    s.startEval = s := by
  unfold State.startEval
  split
  · rfl
  · rw [hcell]
    dsimp only
    rw [if_pos (by rw [hrun]; rfl)]

theorem State.startEval_of_no_cell {s : State} (hcell : s.islCell = none) : s.startEval = s := by
  unfold State.startEval
  split
  · rfl
  · rw [hcell]

/-- Where evaluations begin, the cells keep their reservation and their service. -/
theorem CellStarts.reserved {x y : CellSt} (h : CellStarts x y) : y.resv = x.resv ∧ y.svc = x.svc := by
  obtain rfl | ⟨e, n, l, rfl, -⟩ := h
  · exact ⟨rfl, rfl⟩
  · exact ⟨rfl, rfl⟩

theorem State.islCell_of_evalStarts {s t : State} (h : EvalStarts s t) (hisl : t.isl = s.isl) : t.islCell = s.islCell := by
  have hcells : (fun c => (t.cell c).resv == 0x80 && (t.cell c).svc == .inService) = fun c => (s.cell c).resv == 0x80 && (s.cell c).svc == .inService :=
    funext fun c => by rw [(h c).reserved.1, (h c).reserved.2]
  unfold State.islCell
  rw [hisl, hcells]

section
variable {s : State} {c : Nat}

/-- With sets waiting and the cell free an evaluation of all of them begins there. -/
theorem State.startEval_begins (hworks : s.works = true) (hconf : s.islConfigured = true) (hcell : s.islCell = some c)
    (hc : c < s.sch.cells.length) (hfree : (s.cell c).run = none) (hwaiting : s.isl.waiting ≠ []) :
    ∃ it, (s.startEval.cell c).run = some it ∧ it.ctx = .evaluation s.isl.waiting.length ∧ (s.startEval.cell c).worked = false ∧
      s.startEval.sch.cells.length = s.sch.cells.length := by
  unfold State.startEval
  rw [if_neg (by simp [hworks, hconf, hwaiting]), hcell]
  dsimp only
  rw [if_neg (by rw [hfree]; exact Bool.false_ne_true)]
  dsimp only [State.newItem]
  refine ⟨(s.newItem (regionOf c) 0xFFFF 1 15 3 0 0 0xFFF (.evaluation s.isl.waiting.length)).2, ?_, rfl, ?_, ?_⟩
  · rw [(State.trace_sameWork _ _ _ _ _).cell, State.cell_modCell, if_pos ⟨rfl, hc⟩]
    rfl
  · rw [(State.trace_sameWork _ _ _ _ _).cell, State.cell_modCell, if_pos ⟨rfl, hc⟩]
  · rw [(State.trace_sameWork _ _ _ _ _).1, State.modCell, modAt_eq_modify, List.length_modify]
    rfl

theorem exec_islandEvaluation_runs {it : Item} (hworks : s.works = true) (hconf : s.islConfigured = true) (hcell : s.startEval.islCell = some c)
    (hrun : (s.startEval.cell c).run = some it) (hkernel : s.startEval.kernelOf it = kIsl) (hidle : (s.startEval.cell c).worked = false) :
    exec .islandEvaluation s = .next
      ((if s.startEval.isl.waiting.isEmpty then s.startEval else s.startEval.islEvaluate (s.startEval.evalSets it)).setWorked c) := by
  have hexec : exec .islandEvaluation s = execIslandEvaluation s := rfl
  rw [hexec, execIslandEvaluation, if_neg (by simp [hworks, hconf])]
  dsimp only
  rw [hcell]
  dsimp only
  rw [hrun]
  dsimp only
  rw [if_neg (by simp [hkernel, hidle])]

theorem does_islandEvaluation_evaluates {it : Item} {n : Nat} (hworks : s.works = true) (hconf : s.islConfigured = true)
    (hcell : s.startEval.islCell = some c) (hrun : (s.startEval.cell c).run = some it) (hkernel : s.startEval.kernelOf it = kIsl)
    (hidle : (s.startEval.cell c).worked = false) (hc : c < s.startEval.sch.cells.length) (hwaiting : s.isl.waiting ≠ [])
    (hsets : s.startEval.evalSets it = n) :
    Does .islandEvaluation s (footprint .islandEvaluation) (fun t => t.isl.waiting = s.isl.waiting.drop n ∧ (t.cell c).worked = true ∧
      t.isl.evalTag = (sortSets (s.isl.waiting.take n)).foldl (fun m g => max m g.tag) 0 ∧
      t.ctr (ck .evaluations) = satAdd (s.ctr (ck .evaluations)) 1) := by
  have hexec := exec_islandEvaluation_runs hworks hconf hcell hrun hkernel hidle
  have hctr : s.startEval.ctr (ck .evaluations) = s.ctr (ck .evaluations) := s.startEval_rules.2 _ (by simp [ck])
  rw [if_neg (by rw [s.startEval_isl]; simpa using hwaiting), hsets] at hexec
  obtain ⟨hleft, htag, hcells, hcount⟩ := s.startEval.islEvaluate_values n
  rw [s.startEval_isl] at hleft htag
  generalize s.startEval.islEvaluate n = v at hexec hleft htag hcells hcount
  exact does_of_completes ⟨_, hexec, hleft, State.setWorked_worked (by rw [hcells]; exact hc), htag, by rw [← hctr]; exact hcount⟩

end

/-! Detectors (R269, R270). -/

/-- The waiting sets, the block in use, the cells and every detector but one stay. -/
def SameDets (d : Nat) (s t : State) : Prop :=
  (t.isl.waiting = s.isl.waiting ∧ t.isl.block = s.isl.block) ∧ (t.sch = s.sch ∧ t.img = s.img) ∧ ∀ d' : Nat, d' ≠ d → t.detSt d' = s.detSt d'

theorem SameDets.of_isl {d : Nat} {s t : State} (hisl : t.isl = s.isl) (hsch : t.sch = s.sch) (himg : t.img = s.img) : SameDets d s t := by
  refine ⟨⟨by rw [hisl], by rw [hisl]⟩, ⟨hsch, himg⟩, fun d' _ => ?_⟩
  rw [State.detSt, hisl, State.detSt]

theorem SameDets.refl (d : Nat) (s : State) : SameDets d s s := .of_isl rfl rfl rfl

theorem SameDets.trans {d : Nat} {s t u : State} (hst : SameDets d s t) (htu : SameDets d t u) : SameDets d s u :=
  ⟨⟨htu.1.1.trans hst.1.1, htu.1.2.trans hst.1.2⟩, ⟨htu.2.1.1.trans hst.2.1.1, htu.2.1.2.trans hst.2.1.2⟩,
    fun d' hne => (htu.2.2 d' hne).trans (hst.2.2 d' hne)⟩

theorem SameDets.ite {d : Nat} {s t u : State} {p : Prop} [Decidable p] (ht : SameDets d s t) (hu : SameDets d s u) :
    SameDets d s (if p then t else u) := by
  split
  · exact ht
  · exact hu

theorem State.setDet_sameDets (s : State) (d : Nat) (x : DetSt) : SameDets d s (s.setDet d x) := by
  refine ⟨⟨rfl, rfl⟩, ⟨rfl, rfl⟩, fun d' hne => ?_⟩
  rw [State.detSt, State.setDet, agetD, aget_aput, if_neg (Ne.symm hne), State.detSt, agetD]

theorem State.detEvent_sameDets (s : State) {k : CtrKey} (d d' : Nat) (tag : Ns) (edge : Bool) (cause : Nat) (v : Word) :
    SameDets d s ((s.bump k).detEvent d' tag edge cause v) := .of_isl (by simp) (by simp) (by simp)

theorem State.detStep_sameDets (s : State) (gs : GroupSet) (d : Nat) : SameDets d s (s.detStep gs d) := by
  generalize ht : s.detStep gs d = t
  unfold State.detStep at ht
  extract_lets r x find ref th low fn level at ht
  cases hm : find (detCh r) with
  | none =>
    rw [hm] at ht
    exact ht ▸ .refl d s
  | some m =>
    rw [hm] at ht
    dsimp -zeta only at ht
    extract_lets v okCh since settled gated s1 s2 beyond run up down fire picked value prevF pos0 s3 s4 at ht
    generalize (m.status.getLsbD 1 || _) = skip at ht
    cases skip with
    | true =>
      exact ht ▸ .refl d s
    | false =>
      rw [if_neg Bool.false_ne_true] at ht
      have hnoted : SameDets d s s2 := by
        have hdelivered : SameDets d s s1 := SameDets.ite (.of_isl (by simp) (by simp) (by simp)) (.refl d s)
        exact hdelivered.trans (SameDets.ite (.refl d s1) (.of_isl (by simp) (by simp) (by simp)))
      have hset : SameDets d s s4 := (hnoted.trans (s2.setDet_sameDets d _)).trans (.of_isl rfl rfl rfl)
      rw [← ht]
      refine SameDets.ite (hset.trans (s4.detEvent_sameDets d d _ _ _ _)) (SameDets.ite (hset.trans (s4.detEvent_sameDets d d _ _ _ _))
        (SameDets.ite (hset.trans (s4.detEvent_sameDets d d _ _ _ _)) hset))

theorem State.detWork_values (s : State) (gs : GroupSet) (ds : List Nat) :
    let t := forAll ds s (fun s d => s.detStep gs d)
    (t.isl.waiting = s.isl.waiting ∧ t.isl.block = s.isl.block) ∧ (t.sch = s.sch ∧ t.img = s.img) ∧ ∀ d' ∉ ds, t.detSt d' = s.detSt d' := by
  induction ds generalizing s with
  | nil => exact ⟨⟨rfl, rfl⟩, ⟨rfl, rfl⟩, fun _ _ => rfl⟩
  | cons d ds ih =>
    obtain ⟨⟨hwaiting, hblock⟩, ⟨hsch, himg⟩, hothers⟩ := s.detStep_sameDets gs d
    obtain ⟨⟨hwaiting', hblock'⟩, ⟨hsch', himg'⟩, hothers'⟩ := ih (s.detStep gs d)
    refine ⟨⟨hwaiting'.trans hwaiting, hblock'.trans hblock⟩, ⟨hsch'.trans hsch, himg'.trans himg⟩, fun d' hd' => ?_⟩
    rw [List.mem_cons, not_or] at hd'
    exact (hothers' d' hd'.2).trans (hothers d' hd'.1)

theorem State.runner_some {s : State} {kernel c : Nat} {p : Item → Bool} {it : Item} (h : s.runner kernel p = some (c, it)) :
    (s.cell c).run = some it := by
  obtain ⟨c', -, hc'⟩ := List.exists_of_findSome?_eq_some h
  cases hrun : (s.cell c').run with
  | none =>
    simp [hrun] at hc'
  | some it' =>
    simp only [hrun, Option.ite_none_right_eq_some, Option.some.injEq, Prod.mk.injEq] at hc'
    obtain ⟨-, rfl, rfl⟩ := hc'
    exact hrun

/-- An evaluation that begins leaves a cell alone that runs an item. -/
theorem State.startEval_cell_of_running {s : State} {c : Nat} {it : Item} (hrun : (s.cell c).run = some it) :
    s.startEval.cell c = s.cell c := by
  unfold State.startEval
  split
  · rfl
  · split
    · rfl
    · next c' _ =>
      split
      · rfl
      · next hfree =>
        dsimp only [State.newItem]
        rw [(State.trace_sameWork _ _ _ _ _).cell, State.cell_modCell, if_neg]
        · rfl
        · rintro ⟨rfl, -⟩
          rw [hrun] at hfree
          exact hfree rfl

theorem State.islGroup_of_img {s u : State} (h : u.img = s.img) (g : Nat) : u.islGroup g = s.islGroup g := by
  have hread (v : State) : v.islGroup g = ({ s with img := v.img } : State).islGroup g := rfl
  rw [hread u, h]

/-- A closed set of a group with a part in islanding waits, while a block is in use. -/
theorem State.handSet_values (s : State) (gs : GroupSet) :
    (s.handSet gs).isl.waiting = s.isl.waiting ++ (if s.islGroup gs.group = true ∧ s.isl.block.isSome = true then [gs] else []) ∧
    (s.handSet gs).isl.dets = s.isl.dets ∧ ∀ c it, (s.cell c).run = some it → (s.handSet gs).cell c = s.cell c := by
  unfold State.handSet
  by_cases hpart : s.islGroup gs.group = true ∧ s.isl.block.isSome = true
  · rw [if_pos (by rw [hpart.1, hpart.2]; rfl), if_pos hpart, State.startEval_isl]
    refine ⟨rfl, rfl, fun c it hrun => ?_⟩
    exact State.startEval_cell_of_running (s := { s with isl := { s.isl with waiting := s.isl.waiting ++ [gs] } }) hrun
  · rw [if_neg (by simpa using hpart), if_neg hpart, List.append_nil]
    exact ⟨rfl, rfl, fun _ _ _ => rfl⟩

/-- An item of the close of a group. -/
def itemOfGroup (g : Nat) (it : Item) : Bool :=
  match it.ctx with
  | .group gs => gs.group == g
  | _ => false

theorem exec_detectorWork (g : Fin 256) (s : State) :
    exec (.detectorWork g) s = .next (match s.runner kFast (itemOfGroup g.val) with
      | some (c, it) =>
        (match it.ctx with
        | .group gs => if s.works then ((forAll (s.detsOf g.val) s (fun s d => s.detStep gs d)).setWorked c).handSet gs else s
        | _ => s)
      | none => s) := rfl

theorem exec_detectorWork_of_no_item {s : State} {g : Fin 256} (hnone : s.runner kFast (itemOfGroup g.val) = none) :
    exec (.detectorWork g) s = .next s := by
  simp only [exec_detectorWork, hnone]

theorem does_detectorWork {s : State} (hworks : s.works = true) {g : Fin 256} {c : Nat} {it : Item} {gs : GroupSet}
    (hrunner : s.runner kFast (itemOfGroup g.val) = some (c, it)) (hctx : it.ctx = .group gs) (hc : c < s.sch.cells.length) :
    Does (.detectorWork g) s (footprint (.detectorWork g)) (fun t => (t.cell c).worked = true ∧
      (∀ d : Nat, d ∉ s.detsOf g.val → t.detSt d = s.detSt d) ∧
      t.isl.waiting = s.isl.waiting ++ (if s.islGroup gs.group = true ∧ s.isl.block.isSome = true then [gs] else [])) := by
  have hexec := exec_detectorWork g s
  rw [hrunner] at hexec
  dsimp only at hexec
  rw [hctx] at hexec
  dsimp only at hexec
  rw [if_pos hworks] at hexec
  obtain ⟨⟨hwaiting, hblock⟩, ⟨hsch, himg⟩, hothers⟩ := s.detWork_values gs (s.detsOf g.val)
  generalize forAll (s.detsOf g.val) s (fun s d => s.detStep gs d) = u at hexec hwaiting hblock hsch himg hothers
  have hworked : ((u.setWorked c).cell c).worked = true := State.setWorked_worked (by rw [hsch]; exact hc)
  have hrun : ((u.setWorked c).cell c).run = some it := by
    rw [State.setWorked, State.cell_modCell, if_pos ⟨rfl, by rw [hsch]; exact hc⟩, State.cell_of_sch hsch]
    exact State.runner_some hrunner
  obtain ⟨hset, hdets, hcells⟩ := (u.setWorked c).handSet_values gs
  refine does_of_completes ⟨_, hexec, ?_, fun d hd => ?_, ?_⟩
  · rw [hcells c it hrun]
    exact hworked
  · rw [State.detSt, hdets, ← hothers d hd]
    rfl
  · rw [hset, State.islGroup_of_img (s := s) (himg ▸ rfl)]
    change u.isl.waiting ++ (if s.islGroup gs.group = true ∧ u.isl.block.isSome = true then [gs] else []) = _
    rw [hwaiting, hblock]

/-- Settles O36. -/
theorem islandingEvaluationAndDetectors : Obligations.IslandingEvaluationAndDetectors := by
  intro s hworks
  refine ⟨fun c it hconf hcell hc hrun hkernel hidle => ⟨fun hwaiting => ?_, fun hnone => ?_⟩, fun c hconf hcell hc hfree hwaiting => ?_, fun hconf => ?_,
    fun hcell => ?_, fun c it hcell hrun hworked => ?_, fun g c it gs hrunner hctx hc => does_detectorWork hworks hrunner hctx hc, fun g hnone => ?_⟩
  · have hstart := State.startEval_of_busy hcell hrun
    exact does_islandEvaluation_evaluates hworks hconf (by rw [hstart]; exact hcell) (by rw [hstart]; exact hrun) (by rw [hstart]; exact hkernel)
      (by rw [hstart]; exact hidle) (by rw [hstart]; exact hc) hwaiting (by rw [hstart])
  · have hstart := State.startEval_of_busy hcell hrun
    have hexec := exec_islandEvaluation_runs hworks hconf (by rw [hstart]; exact hcell) (by rw [hstart]; exact hrun) (by rw [hstart]; exact hkernel)
      (by rw [hstart]; exact hidle)
    rw [hstart, hnone, List.isEmpty_nil, if_pos rfl] at hexec
    exact ⟨_, hexec, State.setWorked_worked hc, by simp [changesOnly_iff]⟩
  · obtain ⟨it, hrun, hctx, hidle, hlen⟩ := State.startEval_begins hworks hconf hcell hc hfree hwaiting
    have hall := does_islandEvaluation_evaluates hworks hconf ((State.islCell_of_evalStarts s.startEval_rules.1 s.startEval_isl).trans hcell) hrun
      (by rw [State.kernelOf, hctx]) hidle (by rw [hlen]; exact hc) hwaiting (by rw [State.evalSets, hctx])
    rw [List.drop_length, List.take_length] at hall
    exact hall
  · have hexec : exec .islandEvaluation s = execIslandEvaluation s := rfl
    rw [hexec, execIslandEvaluation, if_pos (by simp [hconf])]
  · have hexec : exec .islandEvaluation s = execIslandEvaluation s := rfl
    rw [hexec, execIslandEvaluation]
    dsimp only
    rw [State.startEval_of_no_cell hcell, hcell]
    exact congrArg Host.Outcome.next (ite_self s)
  · have hexec : exec .islandEvaluation s = execIslandEvaluation s := rfl
    rw [hexec, execIslandEvaluation]
    dsimp only
    rw [State.startEval_of_busy hcell hrun, hcell]
    dsimp only
    rw [hrun]
    dsimp only
    rw [hworked, Bool.or_true, if_pos rfl]
    exact congrArg Host.Outcome.next (ite_self s)
  · exact exec_detectorWork_of_no_item hnone

end Sys2Proof.Machine

/-! Lemmas and the proof of the statement on the classes and records of the capture engine (O41). -/

namespace Sys2Proof.Machine

theorem State.capCls_modCap (s : State) (c : Nat) (f : CapCls → CapCls) (c' : Nat) :
    (s.modCap c f).capCls c' = if c' = c ∧ c < s.cap.classes.length then f (s.capCls c') else s.capCls c' := by
  unfold State.capCls State.modCap
  rw [modAt_eq_modify, List.getD_eq_getElem?_getD, List.getD_eq_getElem?_getD, List.getElem?_modify]
  by_cases hc : c' = c
  · subst hc
    by_cases hlt : c' < s.cap.classes.length
    · simp [hlt]
    · simp [hlt]
  · simp [hc, Ne.symm hc]

theorem State.capCls_of_getElem? {s : State} {c : Nat} {x : CapCls} (hx : s.cap.classes[c]? = some x) : s.capCls c = x := by
  rw [State.capCls, List.getD_eq_getElem?_getD, hx, Option.getD_some]

theorem State.capCls_modCap_self {s : State} {c : Nat} {x : CapCls} (hx : s.cap.classes[c]? = some x) (f : CapCls → CapCls) :
    (s.modCap c f).capCls c = f x := by
  obtain ⟨hlt, -⟩ := List.getElem?_eq_some_iff.1 hx
  rw [State.capCls_modCap, if_pos ⟨rfl, hlt⟩, State.capCls_of_getElem? hx]

theorem State.capCls_modCap_ne (s : State) {c c' : Nat} (hne : c' ≠ c) (f : CapCls → CapCls) :
    (s.modCap c f).capCls c' = s.capCls c' := (s.capCls_modCap c f c').trans (if_neg fun h => hne h.1)

/-- The classes are read from the capture engine's part alone. -/
theorem State.capCls_of_cap {s t : State} (h : t.cap = s.cap) (c : Nat) : t.capCls c = s.capCls c := by
  rw [State.capCls, State.capCls, h]

theorem State.capRec_of_cap {s t : State} (h : t.cap = s.cap) (seq : Nat) : t.capRec seq = s.capRec seq := by
  rw [State.capRec, State.capRec, h]

/-- A record that is found has the SEQ it was looked for by. -/
theorem State.seq_of_capRec {s : State} {seq : Nat} {x : CapRec} (hx : s.capRec seq = some x) : x.seq = seq := by
  simpa using List.find?_some hx

/-- A record that is changed and keeps its SEQ is found again as changed. -/
theorem State.capRec_modRec {s : State} {seq : Nat} {x : CapRec} (hx : s.capRec seq = some x) {f : CapRec → CapRec}
    (hf : ∀ y, (f y).seq = y.seq) : (s.modRec seq f).capRec seq = some (f x) := by
  have hseq : ((fun y : CapRec => y.seq == seq) ∘ fun y : CapRec => if y.seq = seq then f y else y) = fun y => y.seq == seq := by
    funext y
    simp only [Function.comp_apply]
    split
    · rw [hf]
    · rfl
  unfold State.capRec State.modRec at *
  rw [List.find?_map, hseq, hx, Option.map_some, if_pos (by simpa using List.find?_some hx)]

/-! The end of a class's span and of its CLOSING (R345). -/

section
variable {k : Fin 16} {s : State} {x : CapCls} (hx : s.cap.classes[k.val]? = some x)
include hx

theorem does_spanEnd {b : Ns} {y : CapRec} (hb : s.lastBoundary = some b) (hy : s.capRec x.rec_ = some y) (hst : x.st = .collecting)
    (hend : y.stop ≤ b) : Does (.spanEnd k) s [.sch, .cap] (fun t => t.capCls k.val = { x with st := .closing, left := 2 } ∧
      (∃ z, t.capRec x.rec_ = some z ∧ z.st = .closing) ∧ t.cap.recs.length = s.cap.recs.length ∧
      ∀ k' : Nat, k' ≠ k.val → t.capCls k' = s.capCls k') := by
  have hseq := State.seq_of_capRec hy
  have hexec : exec (.spanEnd k) s = execSpanEnd k s := rfl
  rw [execSpanEnd, State.capCls_of_getElem? hx, hb] at hexec
  dsimp only at hexec
  rw [hy] at hexec
  dsimp only at hexec
  rw [if_pos (by simp [hst, hend]), hseq] at hexec
  refine does_of_completes ⟨_, hexec, ?_⟩
  generalize hu : s.modRec x.rec_ (fun z => { z with st := .closing, spanEnd := s.capLast y y.stop }) = u
  generalize hv : u.modCap k.val (fun z => { z with st := .closing, left := 2 }) = v
  have hclasses : u.cap.classes[k.val]? = some x := by rw [← hu]; exact hx
  have hcap : (v.chargeCap k.val 192).cap = v.cap := by simp
  refine ⟨?_, ⟨{ y with st := .closing, spanEnd := s.capLast y y.stop }, ?_, rfl⟩, ?_, fun k' hne => ?_⟩
  · rw [State.capCls_of_cap hcap, ← hv, State.capCls_modCap_self hclasses]
  · rw [State.capRec_of_cap hcap, ← hv]
    exact (State.capRec_of_cap rfl _).trans
      (hu ▸ State.capRec_modRec (f := fun z => { z with st := .closing, spanEnd := s.capLast y y.stop }) hy fun _ => rfl)
  · rw [hcap, ← hv, ← hu]
    exact List.length_map _
  · rw [State.capCls_of_cap hcap, ← hv, State.capCls_modCap_ne _ hne, ← hu]
    rfl

theorem exec_spanEnd_of_open {b : Ns} {y : CapRec} (hb : s.lastBoundary = some b) (hy : s.capRec x.rec_ = some y) (hopen : b < y.stop) :
    exec (.spanEnd k) s = .next s := by
  have hexec : exec (.spanEnd k) s = execSpanEnd k s := rfl
  rw [hexec, execSpanEnd, State.capCls_of_getElem? hx, hb]
  dsimp only
  rw [hy]
  dsimp only
  rw [if_neg (by simp [Nat.not_le_of_lt hopen])]

theorem does_closingEnd (hst : x.st = .closing) (hleft : x.left = 0) (hheld : x.held = []) :
    Does (.closingEnd k) s [.cap] (fun t => t.capCls k.val = x.arm s.dt ∧
      (∀ z ∈ t.cap.recs, z.seq = x.rec_ → z.st = .draining) ∧ t.cap.recs.length = s.cap.recs.length) := by
  have hexec : exec (.closingEnd k) s = execClosingEnd k s := rfl
  unfold execClosingEnd at hexec
  dsimp only at hexec
  rw [State.capCls_of_getElem? hx, if_pos (by simp [hst, hleft]), hheld] at hexec
  refine ⟨_, hexec, ⟨?_, fun z hz hseq => ?_, ?_⟩, by simp [changesOnly_iff, forAll]⟩
  · exact State.capCls_modCap_self (s := s.modRec x.rec_ fun y => { y with st := .draining }) hx fun y => y.arm s.dt
  · obtain ⟨y, -, rfl⟩ := List.mem_map.1 hz
    split at hseq
    next hy => rw [if_pos hy]
    next hy => exact absurd hseq hy
  · exact List.length_map _

theorem exec_closingEnd_of_left (hleft : x.left ≠ 0) : exec (.closingEnd k) s = .next s := by
  have hexec : exec (.closingEnd k) s = execClosingEnd k s := rfl
  rw [hexec, execClosingEnd]
  dsimp only
  rw [State.capCls_of_getElem? hx, if_neg (by simp [hleft])]

end

/-! The auto trigger (R348). -/

/-- A class whose auto trigger has come keeps it so. -/
theorem State.autoDone_modCap {s : State} {c : Nat} (h : (s.capCls c).autoDone = true) (c' : Nat) {f : CapCls → CapCls}
    (hf : ∀ y, (f y).autoDone = y.autoDone) : ((s.modCap c' f).capCls c).autoDone = true := by
  rw [State.capCls_modCap]
  split
  · rw [hf, h]
  · exact h

theorem State.autoDone_startRec {s t : State} {c : Nat} (h : (s.capCls c).autoDone = true) {c' : Nat} {x : Trig}
    (ht : s.startRec c' x = some t) : (t.capCls c).autoDone = true := by
  unfold State.startRec at ht
  dsimp only at ht
  obtain ⟨-, hstarted⟩ := Option.ite_none_left_eq_some.1 ht
  obtain rfl := Option.some.inj hstarted
  generalize List.map _ _ ++ _ = recs
  generalize s.cap.seq + 1 = seq
  rw [State.capCls_of_cap (State.chargeCap_frame _ _ _).2.2.2.2.2.2.2.2.2.2.2.2.2.2.2.2.2.2.2.2.1]
  exact State.autoDone_modCap (s := { s with cap := { s.cap with recs := recs, seq := seq } }) h c' fun _ => rfl

theorem State.autoDone_trigFor {s : State} {c : Nat} (h : (s.capCls c).autoDone = true) (x : Trig) (c' : Nat) :
    ((s.trigFor x c').capCls c).autoDone = true := by
  unfold State.trigFor
  dsimp only
  generalize hu : s.modCap c' _ = u
  have hdone : (u.capCls c).autoDone = true := hu ▸ State.autoDone_modCap h c' fun _ => rfl
  have hcharged (v : State) (n : Nat) (hv : (v.capCls c).autoDone = true) : ((v.chargeCap c' n).capCls c).autoDone = true := by
    rw [State.capCls_of_cap (s := v) (by simp), hv]
  split
  · exact hdone
  · split
    · exact hdone
    · split
      next t ht => exact State.autoDone_startRec hdone ht
      · rw [State.capCls_of_cap (s := u) (by simp), hdone]
    · exact hcharged _ _ hdone
    · exact hcharged _ _ (State.autoDone_modCap (s := u.modRec _ _) hdone c' fun _ => rfl)

theorem does_autoTrigger {k : Fin 16} {s : State} {x : CapCls} (hx : s.cap.classes[k.val]? = some x) {b : Ns}
    (hb : s.lastBoundary = some b) (hvalid : capClassValid (s.rec_ .capClass k.val) = 1)
    (hauto : capClassAuto (s.rec_ .capClass k.val) = 1) (hst : x.st = .armed ∨ x.st = .collecting) (hnew : x.autoDone = false)
    (hhit : x.hit = none ∨ x.hit = some b) (hdue : x.armedAt + capClassAutoS (s.rec_ .capClass k.val) * 1000000000 ≤ b) :
    Does (.autoTrigger k) s (footprint (.autoTrigger k)) (fun t => (t.capCls k.val).autoDone = true) := by
  have hst' : (x.st == .armed || x.st == .collecting) = true := by
    obtain h | h := hst
    · rw [h]; rfl
    · rw [h]; rfl
  have hexec : exec (.autoTrigger k) s = execAutoTrigger k s := rfl
  unfold execAutoTrigger at hexec
  dsimp only at hexec
  rw [State.capCls_of_getElem? hx, hb] at hexec
  dsimp only at hexec
  rw [if_pos (by
    obtain h | h := hhit
    · simp [hvalid, hauto, hst', hnew, hdue, h]
    · simp [hvalid, hauto, hst', hnew, hdue, h])] at hexec
  refine does_of_completes ⟨_, hexec, ?_⟩
  generalize hu : s.modCap k.val _ = u
  have hdone : (u.capCls k.val).autoDone = true := by rw [← hu, State.capCls_modCap_self hx]
  unfold State.takeTrig
  dsimp only
  rw [if_neg (by simp : ¬ 7 < 6), if_neg (by simp)]
  exact forAll_inv (fun v : State => (v.capCls k.val).autoDone = true) (fun v c => v.trigFor _ c)
    (fun v c hv => State.autoDone_trigFor hv _ c) _ u hdone

theorem exec_autoTrigger_of_done {k : Fin 16} {s : State} {x : CapCls} (hx : s.cap.classes[k.val]? = some x)
    (hdone : x.autoDone = true) : exec (.autoTrigger k) s = .next s := by
  have hexec : exec (.autoTrigger k) s = execAutoTrigger k s := rfl
  rw [hexec, execAutoTrigger]
  dsimp only
  rw [State.capCls_of_getElem? hx]
  split
  · rfl
  · rw [if_neg (by simp [hdone])]

/-! Lost rows (R354). -/

theorem does_ringOverwriteLoss {seq : Nat} {tag row : Ns} {s : State} {x : CapRec} (hx : s.capRec seq = some x) (hdone : x.done = false)
    (hfrom : x.nextTag ≤ tag) (hto : tag < x.stop) (hgrid : s.capRate x.cls = 0 ∨ onGrid (s.capRate x.cls) tag = true)
    (hpast : s.ringPast x.cls tag = true) (hrow : s.rowOfSample x tag = some row) (hnew : row ∉ x.lost) :
    Does (.ringOverwriteLoss seq tag) s [.ctrs, .attn, .ports, .cap, .pair] (fun t =>
      (∃ y, t.capRec seq = some y ∧ y.lost = x.lost ++ [row] ∧ y.lostRows = x.lostRows + 1 ∧ y.truncated = true) ∧
      t.ctr (ck1 .lostRows x.cls) = satAdd (s.ctr (ck1 .lostRows x.cls)) 1 ∧
      t.ctr (ck1 .truncations x.cls) = satAdd (s.ctr (ck1 .truncations x.cls)) 1) := by
  have hgrid' : (s.capRate x.cls != 0 && !onGrid (s.capRate x.cls) tag) = false := by
    obtain h | h := hgrid
    · simp [h]
    · simp [h]
  have hexec : exec (.ringOverwriteLoss seq tag) s = execRingOverwriteLoss seq tag s := rfl
  rw [execRingOverwriteLoss, hx] at hexec
  dsimp only at hexec
  rw [if_neg (by simp [hdone, Nat.not_lt.2 hfrom, Nat.not_le.2 hto, hgrid', hpast]), hrow] at hexec
  dsimp only at hexec
  rw [if_neg (by simpa using hnew)] at hexec
  refine does_of_completes ⟨_, hexec, ?_⟩
  generalize hu : s.modRec seq _ = u
  have hctrs : u.ctrs = s.ctrs := by rw [← hu]; rfl
  have hposted := State.postOnce_ctrs ((u.bump (ck1 .lostRows x.cls)).bump (ck1 .truncations x.cls)) 4 .unit
    (ck1 .truncations x.cls) 0
  refine ⟨⟨{ x with lost := x.lost ++ [row], lostRows := x.lostRows + 1, truncated := true }, ?_, rfl, rfl, rfl⟩, ?_, ?_⟩
  · rw [State.capRec_of_cap (s := u) (by simp), ← hu]
    exact State.capRec_modRec (f := fun y => { y with lost := y.lost ++ [row], lostRows := y.lostRows + 1, truncated := true }) hx
      fun _ => rfl
  · rw [hposted _ (by simp [ck1]), State.ctr_bump, if_neg (by simp [ck1]), State.ctr_bump, if_pos rfl, State.ctr_congr hctrs]
  · rw [hposted.counted (by simp [ck1]), State.ctr_bump, if_neg (by simp [ck1]), State.ctr_congr hctrs]

/-- Settles O41. -/
theorem captureClassesAndRecords : Obligations.CaptureClassesAndRecords := by
  refine ⟨fun k s x hx => ⟨fun b y hb hy hst => ⟨does_spanEnd hx hb hy hst, exec_spanEnd_of_open hx hb hy⟩,
    does_closingEnd hx, fun _ => exec_closingEnd_of_left hx,
    fun b hb hvalid hauto hst hnew hhit hdue => does_autoTrigger hx hb hvalid hauto hst hnew hhit hdue,
    exec_autoTrigger_of_done hx⟩,
    fun seq tag row s x hx => ⟨fun hdone hfrom hto hgrid hpast hrow hnew =>
      does_ringOverwriteLoss hx hdone hfrom hto hgrid hpast hrow hnew, fun hdone => ?_⟩⟩
  have hexec : exec (.ringOverwriteLoss seq tag) s = execRingOverwriteLoss seq tag s := rfl
  rw [hexec, execRingOverwriteLoss, hx]
  dsimp only
  rw [if_pos (by simp [hdone])]

end Sys2Proof.Machine

/-! Lemmas and the proof of the statement on the Woide link and its frames (O42). -/

namespace Sys2Proof.Machine

/-! What a pair keeps while frames are built and leave. -/

/-- A pair's state but for what the sending side moves on: nonce and SEQ, the frames in flight and waiting, the acknowledgement that
is due, and what MIRROR owes. -/
def PairSt.still (p : PairSt) : PairSt := { p with nctr := 0, ackDue := none, sent := [], backlog := [], txSeq := 0, owed := 0 }

theorem State.woideBuild_still (s : State) (seq : Nat) (b : WoideBody) : (s.woideBuild seq b).pair.still = s.pair.still := by
  simp [State.woideBuild, PairSt.still]

theorem State.woideFlush_still (n : Nat) (s : State) : (State.woideFlush n s).pair.still = s.pair.still := by
  induction n generalizing s with
  | zero => rfl
  | succ n ih =>
    rw [State.woideFlush]
    split
    · rfl
    · split
      · dsimp only
        rw [ih, State.woideBuild_still]
        rfl
      · rfl

theorem State.mirror_still (s : State) (b : WoideBody) : (s.mirror b).pair.still = s.pair.still := by
  unfold State.mirror
  dsimp only
  split
  · rw [State.woideFlush_still]
    rfl
  · rfl

theorem State.postOnce_still (s : State) (lvl : Nat) (cls : AttClass) (k : CtrKey) (detail : Nat) :
    (s.postOnce lvl cls k detail).pair.still = s.pair.still := by
  unfold State.postOnce
  split
  · rfl
  · exact State.mirror_still _ _

/-- While the link is not UP nothing is mirrored. -/
theorem State.postOnce_pair_of_not_up {s : State} (hlink : s.pair.link ≠ .up) (lvl : Nat) (cls : AttClass) (k : CtrKey) (detail : Nat) :
    (s.postOnce lvl cls k detail).pair = s.pair := by
  unfold State.postOnce
  split
  · rfl
  · dsimp only
    unfold State.postFor State.post State.mirror
    dsimp only
    rw [if_neg (by simp [hlink])]

/-- An unsequenced frame leaves the frames in flight as they are. -/
theorem State.woideSend_pair (s : State) (b : WoideBody) :
    (s.woideSend b).pair = s.pair ∨ (s.woideSend b).pair = { s.pair with nctr := s.pair.nctr + 1, ackDue := none } := by
  unfold State.woideSend
  split
  · exact .inr (by simp [State.woideBuild])
  · exact .inl rfl

theorem State.woideSend_still (s : State) (b : WoideBody) : (s.woideSend b).pair.still = s.pair.still := by
  unfold State.woideSend
  split
  · exact s.woideBuild_still 0 b
  · rfl

/-! The link (R386). -/

theorem does_woideLinkLock {s : State} (hready : s.linkReady = true) (hlink : s.pair.link = .down) :
    Does .woideLinkLock s [.ctrs, .ports, .pair, .free] (fun t =>
      t.pair.link = .handshake ∧ t.pair.session = newSession s.pair.posB (Config.trng s.free) ∧ t.pair.partner = none ∧
      t.pair.helloDue = some (s.lts + 10000000) ∧ t.pair.rxSeq = 0 ∧ t.pair.role = s.pair.role) := by
  have hexec : exec .woideLinkLock s = execWoideLinkLock s := rfl
  rw [execWoideLinkLock, if_neg (by simp [hready, hlink])] at hexec
  refine does_of_completes ⟨_, hexec, ?_⟩
  dsimp only
  generalize hsession : newSession s.pair.posB (Config.trng s.free) = session
  generalize hu : s.draw.modPair _ = u
  have hdrawn (p : PairSt) (hp : p = s.pair) : newSession p.posB (Config.trng s.free) = session := by rw [hp, hsession]
  have hstill : u.hello.pair.still = u.pair.still := u.woideSend_still _
  refine ⟨(congrArg PairSt.link hstill).trans ?_, (congrArg PairSt.session hstill).trans ?_, (congrArg PairSt.partner hstill).trans ?_,
    (congrArg PairSt.helloDue hstill).trans ?_, (congrArg PairSt.rxSeq hstill).trans ?_, (congrArg PairSt.role hstill).trans ?_⟩
  case refine_2 => rw [← hu]; exact hdrawn _ rfl
  all_goals rw [← hu]; rfl

theorem exec_woideLinkLock_of_not {s : State} (h : s.linkReady = false ∨ s.pair.link ≠ .down) : exec .woideLinkLock s = .next s := by
  have hexec : exec .woideLinkLock s = execWoideLinkLock s := rfl
  rw [hexec, execWoideLinkLock, if_pos]
  obtain h | h := h
  · simp [h]
  · simp [h]

theorem does_helloTimer {s : State} {due : Ns} (hdue : s.pair.helloDue = some due) (hlink : s.pair.link = .handshake)
    (hnow : due ≤ s.lts) : Does .helloTimer s [.ctrs, .ports, .pair] (fun t =>
      t.pair.helloDue = some (due + 10000000) ∧ t.pair.link = .handshake) := by
  have hexec : exec .helloTimer s = execHelloTimer s := rfl
  rw [execHelloTimer, hdue] at hexec
  dsimp only at hexec
  rw [if_pos (by simp [hlink, hnow])] at hexec
  refine does_of_completes ⟨_, hexec, ?_⟩
  generalize hu : s.modPair _ = u
  have hstill : u.hello.pair.still = u.pair.still := u.woideSend_still _
  refine ⟨(congrArg PairSt.helloDue hstill).trans ?_, (congrArg PairSt.link hstill).trans ?_⟩
  · rw [← hu]; rfl
  · rw [← hu]; exact hlink

theorem exec_helloTimer_of_early {s : State} {due : Ns} (hdue : s.pair.helloDue = some due) (hearly : s.lts < due) :
    exec .helloTimer s = .next s := by
  have hexec : exec .helloTimer s = execHelloTimer s := rfl
  rw [hexec, execHelloTimer, hdue]
  dsimp only
  rw [if_neg (by simp [Nat.not_le_of_lt hearly])]

/-- The link falls to DOWN with nothing in flight and no mirror copy, and the fall is counted once. -/
theorem State.woideDown_values {s : State} (hlink : s.pair.link ≠ .down) :
    s.woideDown.pair.link = .down ∧ s.woideDown.pair.partner = none ∧ s.woideDown.pair.mirrorValid = false ∧
    s.woideDown.pair.mirror = [] ∧ s.woideDown.pair.sent = [] ∧
    s.woideDown.ctr (ck .woideDowns) = satAdd (s.ctr (ck .woideDowns)) 1 := by
  unfold State.woideDown
  rw [if_neg (by simpa using hlink)]
  dsimp only
  generalize hu : s.modPair _ = u
  have hdown : u.pair.link = .down := by rw [← hu]; rfl
  have hctrs : u.ctrs = s.ctrs := by rw [← hu]; rfl
  have hlost : ((u.bump (ck .woideDowns)).pathLost 1).pair = u.pair := by
    unfold State.pathLost
    rw [State.postOnce_pair_of_not_up]
    · rfl
    · exact fun h => nomatch hdown.symm.trans h
  split
  · refine ⟨?_, ?_, ?_, ?_, ?_, ?_⟩
    · rw [hlost, hdown]
    · rw [hlost, ← hu]; rfl
    · rw [hlost, ← hu]; rfl
    · rw [hlost, ← hu]; rfl
    · rw [hlost, ← hu]; rfl
    · unfold State.pathLost
      rw [State.postOnce_ctrs _ _ _ _ _ _ (by simp [ck]), State.ctr_bump, if_neg (by simp [ck1, ck]), State.ctr_bump, if_pos rfl,
        State.ctr_congr hctrs]
  · refine ⟨hdown, ?_, ?_, ?_, ?_, ?_⟩
    · rw [← hu]; rfl
    · rw [← hu]; rfl
    · rw [← hu]; rfl
    · rw [← hu]; rfl
    · rw [State.ctr_bump, if_pos rfl, State.ctr_congr hctrs]

theorem exec_woideLinkDown_of_heard {s : State} (hquiet : s.pair.quiet < 2) : exec (.woideLinkDown .noFrames) s = .next s := by
  have hexec : exec (.woideLinkDown .noFrames) s = execWoideLinkDown .noFrames s := rfl
  rw [hexec, execWoideLinkDown, if_neg (Nat.not_le.2 hquiet)]

/-! Retransmission and the acknowledgement that is due (R387). -/

section
variable {s : State} {x : WSent} (hx : s.resendDue = some x)
include hx

/-- The frame that goes again is one in flight. -/
theorem State.mem_sent_of_resendDue : x ∈ s.pair.sent := List.mem_of_find?_eq_some hx

theorem does_woideRetransmit (htries : x.tries < 8) : Does .woideRetransmit s [.ctrs, .ports, .pair] (fun t =>
    t.pair.link = s.pair.link ∧ (∃ y ∈ t.pair.sent, y.f = x.f ∧ y.at_ = s.lts ∧ y.tries = x.tries + 1) ∧
    t.pair.sent.length = s.pair.sent.length ∧ t.ctr (ck .woideRetransmits) = satAdd (s.ctr (ck .woideRetransmits)) 1) := by
  have hexec : exec .woideRetransmit s = execWoideRetransmit s := rfl
  rw [execWoideRetransmit, hx] at hexec
  dsimp only at hexec
  rw [if_neg (Nat.not_le.2 htries)] at hexec
  generalize hframe : TxFrame.mk _ _ _ _ _ _ _ _ _ = f at hexec
  generalize hu : s.modPair _ = u at hexec
  have hctrs : u.ctrs = s.ctrs := by rw [← hu]; rfl
  have hpair : ((u.place 4 0 f).bump (ck .woideRetransmits)).pair = u.pair := by simp
  refine ⟨_, hexec, ⟨?_, ⟨{ x with at_ := s.lts, tries := x.tries + 1 }, ?_, rfl, rfl, rfl⟩, ?_, ?_⟩, ?_⟩
  · rw [hpair, ← hu]; rfl
  · rw [hpair, ← hu]
    exact List.mem_map.2 ⟨x, State.mem_sent_of_resendDue hx, if_pos rfl⟩
  · rw [hpair, ← hu]
    exact List.length_map _
  · rw [State.ctr_bump, if_pos rfl, (CtrsKept.of_frames (u.place_framesPlaced 4 0 f)) _ (by simp [ck]), State.ctr_congr hctrs]
  · rw [← hu]
    simp [changesOnly_iff, State.modPair]

theorem does_woideRetransmit_of_spent (htries : 8 ≤ x.tries) (hlink : s.pair.link ≠ .down) :
    Does .woideRetransmit s [.ctrs, .attn, .ports, .pair] (fun t => t.pair.link = .down) := by
  have hexec : exec .woideRetransmit s = execWoideRetransmit s := rfl
  rw [execWoideRetransmit, hx] at hexec
  dsimp only at hexec
  rw [if_pos htries] at hexec
  exact does_of_completes ⟨_, hexec, (State.woideDown_values hlink).1⟩

theorem exec_woideLinkDown_of_tries (htries : x.tries < 8) : exec (.woideLinkDown .retriesExhausted) s = .next s := by
  have hexec : exec (.woideLinkDown .retriesExhausted) s = execWoideLinkDown .retriesExhausted s := rfl
  rw [hexec, execWoideLinkDown, hx]
  dsimp only
  rw [if_neg (Nat.not_le.2 htries)]

end

theorem does_receiverAckTimer {s : State} {due : Ns} (hdue : s.pair.ackDue = some due) (hnow : due ≤ s.lts) :
    Does .receiverAckTimer s [.ctrs, .ports, .pair] (fun t => t.pair.ackDue = none ∧ t.pair.link = s.pair.link) := by
  have hexec : exec .receiverAckTimer s = execReceiverAckTimer s := rfl
  rw [execReceiverAckTimer, hdue] at hexec
  dsimp only at hexec
  rw [if_pos hnow] at hexec
  refine does_of_completes ⟨_, hexec, ?_⟩
  generalize hu : s.modPair _ = u
  have hack : u.pair.ackDue = none := by rw [← hu]; rfl
  have hlink : u.pair.link = s.pair.link := by rw [← hu]; rfl
  obtain h | h := u.woideSend_pair .ack
  · rw [h]; exact ⟨hack, hlink⟩
  · rw [h]; exact ⟨rfl, hlink⟩

theorem exec_receiverAckTimer_of_early {s : State} {due : Ns} (hdue : s.pair.ackDue = some due) (hearly : s.lts < due) :
    exec .receiverAckTimer s = .next s := by
  have hexec : exec .receiverAckTimer s = execReceiverAckTimer s := rfl
  rw [hexec, execReceiverAckTimer, hdue]
  dsimp only
  rw [if_neg (Nat.not_le_of_lt hearly)]

/-! Frames received (R384, R385, R388). -/

theorem State.link_modPort (s : State) (p : Nat) {f : PortSt → PortSt} (hf : ∀ x, (f x).link = x.link) :
    ((s.modPort p f).port p).link = (s.port p).link := by
  unfold State.port State.modPort
  dsimp only
  rw [modAt_eq_modify, List.getD_eq_getElem?_getD, List.getD_eq_getElem?_getD, List.getElem?_modify]
  cases s.ports[p]? with
  | none => simp
  | some x => simp [hf]

/-- The oldest frame leaves MP's receive queue, which is all that changes, and is taken while the link is not DOWN. -/
theorem exec_woideFrameReceive (f : WoideFrame) (s : State) : ∃ u, ChangesOnly [.ports] s u ∧ (∀ p : Nat, p ≠ 4 → u.port p = s.port p) ∧
    u.linkReady = s.linkReady ∧ exec (.woideFrameReceive f) s = .next (if u.linkReady && u.pair.link != .down then u.woideReceive f else u) := by
  refine ⟨_, ?_, fun p hp => ?_, ?_, rfl⟩
  · simp [changesOnly_iff]
  · exact State.port_modPort_ne hp _
  · have hlink (g : PortSt → PortSt) (hg : ∀ x, (g x).link = x.link) : (s.modPort 4 g).linkReady = s.linkReady := by
      have hrest : (s.modPort 4 g).linkReady = (s.paired && s.works && (s.boot.mode != .tamperhold || s.policy 108) &&
        ((s.modPort 4 g).port 4).link) := rfl
      rw [hrest, State.link_modPort s 4 hg]
      rfl
    exact hlink _ fun _ => rfl

section
variable {f : WoideFrame} {s : State}

theorem State.woideReceive_of_unknown {n : Nat} (h : f.body = .unknown n) : s.woideReceive f = s.bump (ck .woideUnknown) := by
  unfold State.woideReceive
  rw [h]

theorem State.woideReceive_of_unverified (h : ∀ n, f.body ≠ .unknown n) (hkey : s.woideVerifies f = false) :
    s.woideReceive f = (s.bump (ck .woideAuthFail)).postOnce 5 .sec (ck .woideAuthFail) 0 := by
  unfold State.woideReceive
  split
  next n hn => exact absurd hn (h n)
  · rw [if_pos (by rw [hkey]; rfl)]

theorem State.woideReceive_of_stale (h : ∀ n, f.body ≠ .unknown n) (hhello : ∀ e u g h m r, f.body ≠ .hello e u g h m r)
    (hkey : s.woideVerifies f = true) (hother : s.pair.partner ≠ some f.session) : s.woideReceive f = s.bump (ck .woideStale) := by
  unfold State.woideReceive
  split
  next n hn => exact absurd hn (h n)
  · rw [if_neg (by rw [hkey]; decide)]
    split
    next he => exact absurd he (hhello _ _ _ _ _ _)
    · rw [if_pos (by simpa using hother)]

/-- The device once an authentic frame of the partner's session has been heard and its acknowledgements applied. -/
def State.woideHeard (s : State) (f : WoideFrame) : State := (s.modPair (fun p => { p with heard := true })).takeWoideAck f

theorem State.woideHeard_still (s : State) (f : WoideFrame) :
    (s.woideHeard f).pair.still = { s.pair.still with heard := true, peerAck := (s.woideHeard f).pair.still.peerAck } := by
  unfold State.woideHeard State.takeWoideAck
  dsimp only
  rw [State.woideFlush_still]
  rfl

theorem State.woideReceive_of_ack (h : f.body = .ack) (hkey : s.woideVerifies f = true) (hown : s.pair.partner = some f.session) :
    s.woideReceive f = s.woideHeard f := by
  unfold State.woideReceive
  rw [h]
  dsimp only
  rw [if_neg (by rw [hkey]; decide), if_neg (by rw [hown]; simp), if_neg (by decide)]
  rfl

theorem State.woideReceive_of_digest {b m r : Nat} {u v : Bool} {hash : BitVec 64} {o w : BitVec 32} {cs : List Claim} {ts : List TaskEntry}
    (h : f.body = .digest b m r u v hash o w cs ts) (hkey : s.woideVerifies f = true) (hown : s.pair.partner = some f.session) :
    s.woideReceive f = (s.woideHeard f).takeDigest
      { beatDt := b, mode := m, role := r, unfit := u, mirrorValid := v, mapHash := hash, ovCrc := o, claims := cs, tasks := ts } := by
  unfold State.woideReceive
  rw [h]
  dsimp only
  rw [if_neg (by rw [hkey]; decide), if_neg (by rw [hown]; simp), if_neg (by simp [woideSequenced])]
  rfl

/-- A DIGEST stands as the partner's latest, and gives the hash of its map. -/
theorem State.takeDigest_still (s : State) (d : DigestRec) : (s.takeDigest d).pair.heard = s.pair.heard ∧
    (s.takeDigest d).pair.digestFresh = true ∧ (s.takeDigest d).pair.partnerHash = some d.mapHash ∧
    (s.takeDigest d).pair.digest = some d := by
  unfold State.takeDigest
  dsimp only
  generalize (if d.ovCrc = crc32c s.ovBytes then 0 else s.pair.ovDiffer + 1) = n
  generalize hu : s.modPair _ = u
  have hvalues : u.pair.heard = s.pair.heard ∧ u.pair.digestFresh = true ∧ u.pair.partnerHash = some d.mapHash ∧
      u.pair.digest = some d := by
    rw [← hu]
    exact ⟨rfl, rfl, rfl, rfl⟩
  split
  · have hstill : (u.bumpOnce (ck .ovDivergences) 4 .unit).pair.still = u.pair.still := State.postOnce_still _ _ _ _ _
    obtain ⟨hheard, hfresh, hhash, hdigest⟩ := hvalues
    exact ⟨(congrArg PairSt.heard hstill).trans hheard, (congrArg PairSt.digestFresh hstill).trans hfresh,
      (congrArg PairSt.partnerHash hstill).trans hhash, (congrArg PairSt.digest hstill).trans hdigest⟩
  · exact hvalues

end

/-- Settles O42. -/
theorem woideLinkAndFrames : Obligations.WoideLinkAndFrames := by
  refine ⟨fun s => ⟨does_woideLinkLock, exec_woideLinkLock_of_not,
    fun due hdue hlink => ⟨does_helloTimer hdue hlink, exec_helloTimer_of_early hdue⟩,
    fun hlink => does_of_completes ⟨_, rfl, State.woideDown_values hlink⟩, exec_woideLinkDown_of_heard,
    fun x hx => ⟨does_woideRetransmit hx, does_woideRetransmit_of_spent hx, exec_woideLinkDown_of_tries hx⟩, fun hnone => ?_,
    fun due hdue => ⟨does_receiverAckTimer hdue, exec_receiverAckTimer_of_early hdue⟩, fun hnone => ?_⟩,
    fun f s => ⟨fun hready hlink => ?_, fun hdown => ?_⟩⟩
  · have hexec : exec .woideRetransmit s = execWoideRetransmit s := rfl
    rw [hexec, execWoideRetransmit, hnone]
  · have hexec : exec .receiverAckTimer s = execReceiverAckTimer s := rfl
    rw [hexec, execReceiverAckTimer, hnone]
  · obtain ⟨u, hframe, -, hready', hexec⟩ := exec_woideFrameReceive f s
    have hpair : u.pair = s.pair := hframe .pair (by simp)
    have hlinked : u.pair.link = s.pair.link := congrArg PairSt.link hpair
    have hpartner : u.pair.partner = s.pair.partner := congrArg PairSt.partner hpair
    have hrole : u.pair.role = s.pair.role := congrArg PairSt.role hpair
    have hvault : u.vault = s.vault := hframe .vault (by simp)
    have hctrs : u.ctrs = s.ctrs := hframe .ctrs (by simp)
    have hkey : u.woideVerifies f = s.woideVerifies f := by unfold State.woideVerifies State.pairHalf; rw [hvault]
    rw [if_pos (by simp [hready', hready, hpair, hlink])] at hexec
    refine ⟨fun n hn => ?_, fun hknown hbad => ?_, fun hknown hhello hgood hother => ?_, fun hack hgood hown => ?_,
      fun b m r v w hash o z cs ts hdigest hgood hown => ?_⟩
    · rw [State.woideReceive_of_unknown hn] at hexec
      exact ⟨_, hexec, (u.bump_countsOnce _).congr hctrs.symm rfl, hframe.trans (qs := [.ctrs]) (by simp [changesOnly_iff]) (by simp) (by simp)⟩
    · rw [State.woideReceive_of_unverified hknown (hkey.trans hbad)] at hexec
      have hstill : ((u.bump (ck .woideAuthFail)).postOnce 5 .sec (ck .woideAuthFail) 0).pair.still = u.pair.still :=
        State.postOnce_still _ _ _ _ _
      refine ⟨_, hexec, ⟨?_, ?_, ?_⟩, hframe.trans (qs := [.ctrs, .attn, .ports, .pair]) (by simp [changesOnly_iff]) (by simp) (by simp)⟩
      · exact (congrArg PairSt.link hstill).trans hlinked
      · exact (congrArg PairSt.partner hstill).trans hpartner
      · rw [(State.postOnce_ctrs _ _ _ _ _).counted (by simp [ck]), State.ctr_congr hctrs]
    · rw [State.woideReceive_of_stale hknown hhello (hkey.trans hgood) (by rw [hpair]; exact hother)] at hexec
      exact ⟨_, hexec, (u.bump_countsOnce _).congr hctrs.symm rfl, hframe.trans (qs := [.ctrs]) (by simp [changesOnly_iff]) (by simp) (by simp)⟩
    · rw [State.woideReceive_of_ack hack (hkey.trans hgood) (by rw [hpair, hown])] at hexec
      have hstill := u.woideHeard_still f
      refine ⟨_, hexec, ⟨congrArg PairSt.heard hstill, (congrArg PairSt.link hstill).trans hlinked,
        (congrArg PairSt.role hstill).trans hrole⟩,
        hframe.trans (qs := [.ctrs, .ports, .pair, .emp]) (by simp [changesOnly_iff, State.woideHeard, State.modPair]) (by simp) (by simp)⟩
    · rw [State.woideReceive_of_digest hdigest (hkey.trans hgood) (by rw [hpair, hown])] at hexec
      obtain ⟨hheard, hfresh, hhash, hstands⟩ := (u.woideHeard f).takeDigest_still
        { beatDt := b, mode := m, role := r, unfit := v, mirrorValid := w, mapHash := hash, ovCrc := o, claims := cs, tasks := ts }
      exact does_of_completes ⟨_, hexec, hheard.trans (congrArg PairSt.heard (u.woideHeard_still f)), hfresh, hhash, _, hstands,
        rfl, rfl, rfl, rfl, rfl⟩
  · obtain ⟨u, hframe, hports, hready', hexec⟩ := exec_woideFrameReceive f s
    have hpair : u.pair = s.pair := hframe .pair (by simp)
    rw [if_neg] at hexec
    · exact ⟨_, hexec, hports, hframe⟩
    · obtain h | h := hdown
      · simp [hready', h]
      · simp [hpair, h]

end Sys2Proof.Machine

/-! Lemmas and the proof of the statement on the invariant (O4): every operation keeps it, and so does every step. -/

namespace Sys2Proof.Machine

/-! Counters (R9): saturation, and lists of counters. -/

/-- A saturated sum lies within 32 bits. -/
theorem satAdd_le (a n : Nat) : satAdd a n ≤ 0xFFFFFFFF := by
  unfold satAdd
  split <;> omega

/-- Saturation keeps the order. -/
theorem satAdd_le_satAdd {a b : Nat} (h : a ≤ b) (n : Nat) : satAdd a n ≤ satAdd b n := by
  unfold satAdd
  split <;> split <;> omega

/-- What is in a table after a store was there before or is what was stored. -/
theorem mem_aput {K V : Type} [DecidableEq K] {m : List (K × V)} {k : K} {v : V} {e : K × V} (h : e ∈ aput m k v) :
    e = (k, v) ∨ e ∈ m := by
  induction m with
  | nil => exact .inl (List.mem_singleton.1 h)
  | cons x m ih =>
    unfold aput at h
    split at h
    · exact (List.mem_cons.1 h).imp_right (List.mem_cons_of_mem x)
    · obtain rfl | hm := List.mem_cons.1 h
      · exact .inr List.mem_cons_self
      · exact (ih hm).imp_right (List.mem_cons_of_mem x)

/-- A value that a table holds is in it. -/
theorem mem_of_aget {K V : Type} [DecidableEq K] {m : List (K × V)} {k : K} {v : V} (h : aget m k = some v) : (k, v) ∈ m := by
  induction m with
  | nil => cases h
  | cons x m ih =>
    obtain ⟨k', v'⟩ := x
    unfold aget at h
    split at h
    next hk =>
      obtain rfl := Option.some.inj h
      exact hk ▸ List.mem_cons_self
    next => exact List.mem_cons_of_mem _ (ih h)

/-- The part of the invariant that speaks of the counters. -/
def CtrsSound (m : List (CtrKey × CtrVal)) : Prop := ∀ e ∈ m, e.2.now ≤ e.2.val ∧ e.2.val ≤ 0xFFFFFFFF

theorem CtrsSound.aput {m : List (CtrKey × CtrVal)} (h : CtrsSound m) {k : CtrKey} {v : CtrVal}
    (hv : v.now ≤ v.val ∧ v.val ≤ 0xFFFFFFFF) : CtrsSound (aput m k v) := by
  intro e he
  obtain rfl | hm := mem_aput he
  · exact hv
  · exact h e hm

theorem CtrsSound.filter {m : List (CtrKey × CtrVal)} (h : CtrsSound m) (p : CtrKey × CtrVal → Bool) : CtrsSound (m.filter p) :=
  fun e he => h e (List.mem_of_mem_filter he)

/-- A sound counter holds no more increments of the beat than its value, which lies within 32 bits. -/
theorem CtrsSound.ctr {s : State} (h : CtrsSound s.ctrs) (k : CtrKey) : s.ctrNow k ≤ s.ctr k ∧ s.ctr k ≤ 0xFFFFFFFF := by
  unfold State.ctrNow State.ctr agetD
  split
  next hv => exact h _ (mem_of_aget hv)
  next => simp

/-! The queue of records (R461). -/

/-- A displacing record leaves the queue as long as it was. -/
theorem displaceNewest_length {r : BbxRec} {q q' : List BbxRec} (h : displaceNewest r q = some q') : q'.length = q.length := by
  unfold displaceNewest at h
  split at h
  next i hi =>
    obtain rfl := Option.some.inj h
    obtain ⟨hlt, -⟩ := List.findIdx?_eq_some_iff_getElem.1 hi
    have hpos : q.length - 1 - i < q.length := by
      have hlen : i < q.length := by simpa using hlt
      omega
    rw [List.length_append, List.length_eraseIdx_of_lt hpos]
    exact Nat.succ_pred_eq_of_pos (Nat.zero_lt_of_lt hpos)
  next => cases h

/-! How the invariant passes through updates, branches and loops. -/

/-- A state with the same flash, counters and queue is as sound. -/
theorem State.Sound.same {s t : State} (h : s.Sound) (hflash : t.flash = s.flash) (hctrs : t.ctrs = s.ctrs)
    (hqueue : t.bbx.queue = s.bbx.queue) : t.Sound := by
  unfold State.Sound at *
  rwa [hflash, hctrs, hqueue]

/-- Another flash in canonical form. -/
theorem State.Sound.setFlash {s : State} (h : s.Sound) {m : Memory} (hm : m.wf = true) : State.Sound { s with flash := m } :=
  ⟨hm, h.2⟩

theorem State.Sound.ite {c : Prop} [Decidable c] {s t : State} (hs : s.Sound) (ht : t.Sound) : (if c then s else t).Sound := by
  split
  · exact hs
  · exact ht

theorem State.Sound.ite_fst {α : Type} {c : Prop} [Decidable c] {p q : State × α} (hp : p.1.Sound) (hq : q.1.Sound) :
    (if c then p else q).1.Sound := by
  split
  · exact hp
  · exact hq

theorem State.Sound.of_fst {α : Type} {p : State × α} {s : State} {x : α} (e : p = (s, x)) (h : p.1.Sound) : s.Sound := by
  rwa [e] at h

theorem State.Sound.of_snd {α : Type} {p : α × State} {s : State} {x : α} (e : p = (x, s)) (h : p.2.Sound) : s.Sound := by
  rwa [e] at h

/-- A loop whose rounds keep the invariant keeps it. -/
theorem State.Sound.forAll {α : Type} {xs : List α} {s : State} {f : State → α → State}
    (hf : ∀ (u : State) (x : α), u.Sound → (f u x).Sound) (h : s.Sound) : (forAll xs s f).Sound :=
  forAll_inv State.Sound f hf xs s h

/-! The parts that the invariant does not speak of may change at will. -/

theorem State.Sound.withSch {s : State} {x : SchSt} (h : s.Sound) : State.Sound { s with sch := x } := h

theorem State.Sound.withLogic {s : State} {x : LogicSt} (h : s.Sound) : State.Sound { s with logic := x } := h

theorem State.Sound.withOsc {s : State} {x : OscSt} (h : s.Sound) : State.Sound { s with osc := x } := h

theorem State.Sound.withAlign {s : State} {x : AlignSt} (h : s.Sound) : State.Sound { s with align := x } := h

theorem State.Sound.withIsl {s : State} {x : IslSt} (h : s.Sound) : State.Sound { s with isl := x } := h

theorem State.Sound.withCap {s : State} {x : CapSt} (h : s.Sound) : State.Sound { s with cap := x } := h

theorem State.Sound.withTime {s : State} {x : TimeSt} (h : s.Sound) : State.Sound { s with time := x } := h

theorem State.Sound.withEmp {s : State} {x : EmpSt} (h : s.Sound) : State.Sound { s with emp := x } := h

theorem State.Sound.withPub {s : State} {x : PubSt} (h : s.Sound) : State.Sound { s with pub := x } := h

theorem State.Sound.withBoot {s : State} {x : BootSt} (h : s.Sound) : State.Sound { s with boot := x } := h

theorem State.Sound.withSens {s : State} {x : SensSt} (h : s.Sound) : State.Sound { s with sens := x } := h

theorem State.Sound.withSwage {s : State} {x : SwageSt} (h : s.Sound) : State.Sound { s with swage := x } := h

theorem State.Sound.withPair {s : State} {x : PairSt} (h : s.Sound) : State.Sound { s with pair := x } := h

theorem State.Sound.withVault {s : State} {x : VaultSt} (h : s.Sound) : State.Sound { s with vault := x } := h

/-! Every operation keeps the invariant: one lemma for each, in the order of their definitions. -/

/-- Adding to a counter keeps the invariant: both its value and its increments stop at 32 bits (R9). -/
theorem State.Sound.bumpBy {s : State} {k : CtrKey} {n : Nat} (h : s.Sound) : (s.bumpBy k n).Sound := by
  obtain ⟨hflash, hctrs, hqueue⟩ := h
  obtain ⟨hnow, _⟩ := CtrsSound.ctr hctrs k
  exact ⟨hflash, CtrsSound.aput hctrs ⟨satAdd_le_satAdd hnow n, satAdd_le _ n⟩, hqueue⟩

theorem State.Sound.bump {s : State} {k : CtrKey} (h : s.Sound) : (s.bump k).Sound := by
  unfold State.bump
  exact .bumpBy h

/-- A cleared counter holds the increments of the present beat (R13). -/
theorem State.Sound.clearCtr {s : State} {k : CtrKey} (h : s.Sound) : (s.clearCtr k).Sound := by
  obtain ⟨hflash, hctrs, hqueue⟩ := h
  obtain ⟨hnow, hval⟩ := CtrsSound.ctr hctrs k
  exact ⟨hflash, CtrsSound.aput hctrs ⟨Nat.le_refl _, Nat.le_trans hnow hval⟩, hqueue⟩

theorem State.Sound.draw {s : State} (h : s.Sound) : (s.draw).Sound :=
  .same h (by simp) (by simp) (by simp)

theorem State.Sound.place {s : State} {p q : Nat} {f : TxFrame} (h : s.Sound) : (s.place p q f).Sound := by
  unfold State.place
  dsimp only
  split
  · exact .bump h
  · split
    · exact h
    · exact .ite (.same h rfl rfl rfl) (.same (.ite h (.bump h)) rfl rfl rfl)

theorem State.Sound.woideBuild {s : State} {seq : Nat} {b : WoideBody} (h : s.Sound) :
    (s.woideBuild seq b).Sound := by
  unfold State.woideBuild
  exact .place (.same h rfl rfl rfl)

theorem State.Sound.woideFlush {n : Nat} {s : State} (h : s.Sound) : (State.woideFlush n s).Sound := by
  induction n generalizing s with
  | zero => exact h
  | succ n ih =>
    unfold State.woideFlush
    split
    · exact h
    · exact .ite (ih (.woideBuild (.same h rfl rfl rfl))) h

theorem State.Sound.mirror {s : State} {b : WoideBody} (h : s.Sound) : (s.mirror b).Sound := by
  unfold State.mirror
  exact .ite (.woideFlush (.same h rfl rfl rfl)) h

theorem State.Sound.post {s : State} {lvl : Nat} {cls : AttClass} {src detail : Nat} (h : s.Sound) :
    (s.post lvl cls src detail).Sound := by
  unfold State.post
  exact .mirror (.same h rfl rfl rfl)

theorem State.Sound.postFor {s : State} {lvl : Nat} {cls : AttClass} {k : CtrKey} {detail : Nat} (h : s.Sound) :
    (s.postFor lvl cls k detail).Sound := by
  unfold State.postFor
  exact .post h

theorem State.Sound.postOnce {s : State} {lvl : Nat} {cls : AttClass} {k : CtrKey} {detail : Nat} (h : s.Sound) :
    (s.postOnce lvl cls k detail).Sound := by
  unfold State.postOnce
  exact .ite h (.same (.postFor h) rfl rfl rfl)

theorem State.Sound.bumpOnce {s : State} {k : CtrKey} {lvl : Nat} {cls : AttClass} (h : s.Sound) :
    (s.bumpOnce k lvl cls).Sound := by
  unfold State.bumpOnce
  exact .postOnce (.bump h)

theorem State.Sound.conflict {s : State} {n source : Nat} (h : s.Sound) : (s.conflict n source).Sound := by
  unfold State.conflict
  exact .ite (.bump h) (.same (.post (.bump h)) rfl rfl rfl)

theorem State.Sound.bbxDrop {s : State} (h : s.Sound) : (s.bbxDrop).Sound := by
  unfold State.bbxDrop
  exact .ite (.bump (.same h rfl rfl rfl)) (.bump (.postOnce (.bump (.same (.bump (.same h rfl rfl rfl)) rfl rfl rfl))))

/-- R461: a record enters while there is room, takes the place of another, or is dropped. -/
theorem State.Sound.bbxQueue {s : State} {r : BbxRec} (h : s.Sound) : (s.bbxQueue r).Sound := by
  unfold State.bbxQueue
  extract_lets q
  obtain ⟨hflash, hctrs, hqueue⟩ := h
  split
  next hroom =>
    refine ⟨hflash, hctrs, ?_⟩
    have hlen : (q ++ [r]).length = q.length + 1 := by simp
    exact hlen.trans_le hroom
  next =>
    split
    next =>
      split
      next q' hq' =>
        exact .bbxDrop ⟨hflash, hctrs, (displaceNewest_length hq').trans_le hqueue⟩
      next => exact .bbxDrop ⟨hflash, hctrs, hqueue⟩
    next => exact .bbxDrop ⟨hflash, hctrs, hqueue⟩

theorem State.Sound.bbxPost {s : State} {event : Nat} {payload : Bytes} (h : s.Sound) :
    (s.bbxPost event payload).Sound := by
  unfold State.bbxPost
  exact .bbxQueue h

theorem State.Sound.bbxWith {s : State} {lvl : Nat} {cls : AttClass} {src detail event : Nat} {payload : Bytes} (h : s.Sound) :
    (s.bbxWith lvl cls src detail event payload).Sound := by
  unfold State.bbxWith
  exact .bbxQueue (.post h)

theorem State.Sound.transit {s : State} {t : Nat} {m : Mode} {lvl : Nat} {cls : AttClass} (h : s.Sound) :
    (s.transit t m lvl cls).Sound := by
  unfold State.transit
  exact .bbxWith (.same h rfl rfl rfl)

theorem State.Sound.refuseEvent {s : State} (h : s.Sound) : (s.refuseEvent).Sound := by
  unfold State.refuseEvent
  exact .bump h

theorem State.Sound.deliveredFn {s : State} {fn unit : Nat} (h : s.Sound) : (s.deliveredFn fn unit).Sound :=
  .same h (by simp) (by simp) (by simp)

theorem State.Sound.converge {s : State} {fn unit : Nat} (h : s.Sound) : (s.converge fn unit).Sound :=
  .same h (by simp) (by simp) (by simp)

theorem State.Sound.unconverge {s : State} (h : s.Sound) : (s.unconverge).Sound :=
  .same h (by simp) (by simp) (by simp)

theorem State.Sound.modStream {s : State} {sid : Nat} {f : StreamSt → StreamSt} (h : s.Sound) : (s.modStream sid f).Sound :=
  .same h (by simp) (by simp) (by simp)

theorem State.Sound.modPort {s : State} {p : Nat} {f : PortSt → PortSt} (h : s.Sound) : (s.modPort p f).Sound :=
  .same h (by simp) (by simp) (by simp)

theorem State.Sound.modSlice {s : State} {r : Nat} {f : SliceSt → SliceSt} (h : s.Sound) : (s.modSlice r f).Sound :=
  .same h (by simp) (by simp) (by simp)

theorem State.Sound.modReg {s : State} {r : Nat} {f : RegSt → RegSt} (h : s.Sound) : (s.modReg r f).Sound :=
  .same h (by simp) (by simp) (by simp)

theorem State.Sound.modCell {s : State} {c : Nat} {f : CellSt → CellSt} (h : s.Sound) : (s.modCell c f).Sound :=
  .same h (by simp) (by simp) (by simp)

theorem State.Sound.modPub {s : State} {n : Nat} {f : PubStream → PubStream} (h : s.Sound) : (s.modPub n f).Sound :=
  .same h (by simp) (by simp) (by simp)

theorem State.Sound.modDo {s : State} {d : Nat} {f : DoSt → DoSt} (h : s.Sound) : (s.modDo d f).Sound :=
  .same h (by simp) (by simp) (by simp)

theorem State.Sound.modCap {s : State} {c : Nat} {f : CapCls → CapCls} (h : s.Sound) : (s.modCap c f).Sound :=
  .same h (by simp) (by simp) (by simp)

theorem State.Sound.latchTsw {s : State} (h : s.Sound) : (s.latchTsw).Sound :=
  .same h (by simp) (by simp) (by simp)

theorem State.Sound.laneEdges {s : State} (h : s.Sound) : (s.laneEdges).Sound := by
  unfold State.laneEdges
  split
  · exact h
  · exact .ite h (.same h rfl rfl rfl)

theorem State.Sound.cycle {s : State} (h : s.Sound) : (s.cycle).Sound := by
  unfold State.cycle
  exact .ite (.same h rfl rfl rfl) (.ite (.laneEdges (.same h rfl rfl rfl)) (.same h rfl rfl rfl))

theorem State.Sound.appendStatus {s : State} {k state code detail : Nat} (h : s.Sound) :
    (s.appendStatus k state code detail).Sound := by
  unfold State.appendStatus
  dsimp only
  split
  · exact h.setFlash (memWriteBytes_wf h.1 _ _)
  · exact h

theorem State.Sound.loadResult {s : State} {k code detail : Nat} (h : s.Sound) :
    (s.loadResult k code detail).Sound := by
  unfold State.loadResult
  exact .bbxPost (.same h rfl rfl rfl)

theorem State.Sound.markGood {s : State} (h : s.Sound) : s.markGood.Sound := by
  unfold State.markGood
  extract_lets k s1 o s2
  have h1 : s1.Sound := .ite h (.appendStatus h)
  have h2 : s2.Sound := .ite (.appendStatus h1) h1
  clear_value s2
  exact .same h2 rfl rfl rfl

theorem State.Sound.burnEpoch {s : State} (h : s.Sound) : (s.burnEpoch).Sound :=
  .same h (by simp) (by simp) (by simp)

theorem State.Sound.putSlot {s : State} {k : Nat} {x : Slot} (h : s.Sound) : (s.putSlot k x).Sound :=
  .same h (by simp) (by simp) (by simp)

theorem State.Sound.countUse {s : State} {k : Nat} {second : Bool} (h : s.Sound) : (s.countUse k second).Sound := by
  unfold State.countUse
  dsimp only
  split
  · exact h
  · split
    · split
      · exact .ite (.postFor (.bump (.putSlot (.bump h)))) (.bump (.putSlot (.bump h)))
      · exact .putSlot (.bump h)
    · exact .bump h

theorem State.Sound.ensureRoot {s : State} (h : s.Sound) : (s.ensureRoot).Sound :=
  .same h (by simp) (by simp) (by simp)

theorem State.Sound.writeIdle {s : State} {k : Nat} {x : Half} (h : s.Sound) : (s.writeIdle k x).Sound :=
  .same h (by simp) (by simp) (by simp)

theorem State.Sound.commitSlot {s : State} {k : Nat} (h : s.Sound) : (s.commitSlot k).Sound := by
  unfold State.commitSlot
  exact .ite (.postFor (.bump (.putSlot h))) h

theorem State.Sound.commitKeys {s : State} (h : s.Sound) : (s.commitKeys).Sound := by
  unfold State.commitKeys
  exact .forAll (fun _ _ hu => .commitSlot hu) h

theorem State.Sound.zeroise {s : State} {byTamper : Bool} (h : s.Sound) : (s.zeroise byTamper).Sound := by
  unfold State.zeroise
  exact .same (.bump (.bumpBy h)) rfl rfl rfl

theorem State.Sound.tamperRecords {s : State} {cls : AttClass} {aseq : Nat} {ls : List TamperLatch} (h : s.Sound) :
    (s.tamperRecords cls aseq ls).Sound := by
  unfold State.tamperRecords
  exact .forAll (fun _ _ hu => .bbxQueue hu) (.bbxQueue h)

theorem State.Sound.burnRoot {s : State} (h : s.Sound) : (s.burnRoot).Sound :=
  .same h (by simp) (by simp) (by simp)

theorem State.Sound.bbxWriteHead {s : State} (h : s.Sound) : s.bbxWriteHead.Sound := by
  unfold State.bbxWriteHead
  split
  next => exact h
  next r rest hq =>
    obtain ⟨hflash, hctrs, hqueue⟩ := h
    have hrest : rest.length ≤ 16 := by
      rw [hq] at hqueue
      exact Nat.le_of_succ_le hqueue
    exact .bump ⟨hflash, hctrs, hrest⟩

theorem State.Sound.crossLatch {s : State} {n : Nat} {value limit : Word} (h : s.Sound) :
    (s.crossLatch n value limit).Sound := by
  unfold State.crossLatch
  exact .ite h (.ite (.bbxPost (.bump (.same h rfl rfl rfl))) (.bbxQueue (.postOnce (.bump (.same h rfl rfl rfl)))))

theorem State.Sound.releaseLatch {s : State} {n : Nat} (h : s.Sound) : (s.releaseLatch n).Sound :=
  .same h (by simp) (by simp) (by simp)

theorem State.Sound.critical {s : State} (h : s.Sound) : (s.critical).Sound := by
  unfold State.critical
  exact .ite (.same h rfl rfl rfl) (.refuseEvent h)

theorem State.Sound.nonCritical {s : State} (h : s.Sound) : (s.nonCritical).Sound := by
  unfold State.nonCritical
  exact .ite (.same h rfl rfl rfl) (.refuseEvent h)

theorem State.Sound.lastGasp {s : State} (h : s.Sound) : s.lastGasp.Sound := by
  unfold State.lastGasp
  extract_lets payload r
  obtain ⟨hflash, hctrs, hqueue⟩ := h
  split
  next hroom => exact ⟨hflash, hctrs, hroom⟩
  next =>
    refine .bbxDrop ⟨hflash, hctrs, ?_⟩
    have htake : (s.bbx.queue.take 15).length ≤ 15 := List.length_take_le 15 _
    exact Nat.succ_le_succ htake

theorem State.Sound.ovWrite {s : State} {e : ChangeEntry} (h : s.Sound) : (s.ovWrite e).Sound :=
  .same h (by simp) (by simp) (by simp)

theorem State.Sound.addSet {s : State} {x : SetDue} (h : s.Sound) : (s.addSet x).Sound :=
  .same h (by simp) (by simp) (by simp)

theorem State.Sound.keepSet {s : State} {x : SetDue} (h : s.Sound) : (s.keepSet x).Sound :=
  .same h (by simp) (by simp) (by simp)

theorem State.Sound.orderSet {s : State} {t : Nat} {x : SetDue} (h : s.Sound) : (s.orderSet t x).Sound :=
  .same h (by simp) (by simp) (by simp)

theorem State.Sound.ovRecords {s : State} {cls : AttClass} {aseq : Nat} {es : List ChangeEntry} (h : s.Sound) :
    (s.ovRecords cls aseq es).Sound := by
  unfold State.ovRecords
  exact .forAll (fun _ _ hu => .bbxQueue hu) h

theorem State.Sound.ovApply {s : State} {es : List ChangeEntry} (h : s.Sound) : (s.ovApply es).Sound := by
  unfold State.ovApply
  exact .ovRecords (.post (.bump (.forAll (fun _ _ hu => .conflict hu) (.forAll (fun _ _ hu => .ovWrite hu) h))))

theorem State.Sound.urgent {s : State} {b : WoideBody} (h : s.Sound) : (s.urgent b).Sound := by
  unfold State.urgent
  exact .modPort (.woideFlush (.same h rfl rfl rfl))

theorem State.Sound.releaseRole {s : State} {e : Ns} (h : s.Sound) : (s.releaseRole e).Sound := by
  unfold State.releaseRole
  exact .ite (.ite (.urgent (.same (.same h rfl rfl rfl) rfl rfl rfl)) (.same h rfl rfl rfl)) h

theorem State.Sound.setRole {s : State} {r : Role} (h : s.Sound) : (s.setRole r).Sound :=
  .same h (by simp) (by simp) (by simp)

theorem State.Sound.woideSend {s : State} {b : WoideBody} (h : s.Sound) : (s.woideSend b).Sound := by
  unfold State.woideSend
  exact .ite (.woideBuild h) h

theorem State.Sound.hello {s : State} (h : s.Sound) : (s.hello).Sound := by
  unfold State.hello
  exact .woideSend h

theorem State.Sound.deltaLogic {s : State} {task : Nat} {tag : Ns} {insts vars : List Nat} (h : s.Sound) :
    (s.deltaLogic task tag insts vars).Sound := by
  unfold State.deltaLogic
  exact .mirror h

theorem State.Sound.deltaTrip {s : State} {out : Nat} {active : Bool} {tag : Ns} {left : Nat} (h : s.Sound) :
    (s.deltaTrip out active tag left).Sound := by
  unfold State.deltaTrip
  exact .mirror h

theorem State.Sound.deltaSub {s : State} {n peer : Nat} {on : Bool} (h : s.Sound) : (s.deltaSub n peer on).Sound := by
  unfold State.deltaSub
  exact .mirror h

theorem State.Sound.snapshot {s : State} (h : s.Sound) : (s.snapshot).Sound := by
  unfold State.snapshot
  exact .mirror (.forAll (fun _ _ hu => .mirror hu) h)

theorem State.Sound.charge {s : State} {r cls : Nat} {c : Cost} (h : s.Sound) : (s.charge r cls c).Sound :=
  .same h (by simp) (by simp) (by simp)

theorem State.Sound.trace {s : State} {decision : Nat} {it : Item} {cell detail : Nat} (h : s.Sound) :
    (s.trace decision it cell detail).Sound := by
  unfold State.trace
  split
  · exact h
  · split
    · exact .bump h
    · exact .withSch (.charge h)

theorem State.Sound.placeReady {s : State} {it : Item} (h : s.Sound) : (s.placeReady it).Sound := by
  unfold State.placeReady
  exact .trace (.modReg h)

theorem State.Sound.placeDelay {s : State} {it : Item} (h : s.Sound) : (s.placeDelay it).Sound :=
  .same h (by simp) (by simp) (by simp)

theorem State.Sound.shedItem {s : State} {it : Item} (h : s.Sound) : (s.shedItem it).Sound := by
  unfold State.shedItem
  exact .trace (.bump h)

theorem State.Sound.postNow {s : State} {src : PostSrc} {it : Item} (h : s.Sound) : (s.postNow src it).Sound := by
  unfold State.postNow
  split
  · exact .placeDelay (.bump h)
  · exact .placeReady (.bump h)

theorem State.Sound.newItem {s : State} {r tmpl : Nat} {cls prio : Nat} {origin arg : Nat} {due row : Nat} {ctx : ItemCtx} (h : s.Sound) :
    (s.newItem r tmpl cls prio origin arg due row ctx).1.Sound := by
  unfold State.newItem
  exact .modReg h

theorem State.Sound.postItem {s : State} {src : PostSrc} {it : Item} (h : s.Sound) : (s.postItem src it).Sound := by
  unfold State.postItem
  split
  · exact h
  · split
    · exact .shedItem h
    · split
      · exact .postNow h
      · split
        · exact .bumpOnce (.modReg h)
        · exact .bumpOnce (.modReg h)
        · exact .modReg h

theorem State.Sound.setWorked {s : State} {c : Nat} (h : s.Sound) : (s.setWorked c).Sound :=
  .same h (by simp) (by simp) (by simp)

theorem State.Sound.borrow {s : State} {r : Nat} {cs : List Nat} {need : Cost} (h : s.Sound) : (s.borrow r cs need).Sound :=
  .same h (by simp) (by simp) (by simp)

theorem State.Sound.chargeStart {s : State} {it : Item} (h : s.Sound) : (s.chargeStart it).Sound := by
  unfold State.chargeStart
  dsimp only
  split
  · exact .charge (.modReg h)
  · split
    · exact .charge h
    · exact .bump (.charge (.borrow h))

theorem State.Sound.setMember {s : State} {n m : Nat} {v : VarVal} {launch : Ns} (h : s.Sound) : (s.setMember n m v launch).Sound :=
  .same h (by simp) (by simp) (by simp)

theorem State.Sound.queueTrigs {s : State} {ts : List Trig} (h : s.Sound) : (s.queueTrigs ts).Sound :=
  .same h (by simp) (by simp) (by simp)

theorem State.Sound.raise {s : State} {e : Event} (h : s.Sound) : (s.raise e).Sound :=
  .same h (by simp) (by simp) (by simp)

theorem State.Sound.sign {s : State} {n : Nat} (h : s.Sound) : (s.sign n).1.Sound := by
  unfold State.sign
  dsimp only
  split
  · exact h
  · split
    · exact .countUse h
    · exact .bumpOnce h

theorem State.Sound.goose {s : State} {n : Nat} {launch : Ns} {ttl : Nat} (h : s.Sound) :
    (s.goose n launch ttl).Sound := by
  unfold State.goose
  split
  · exact .bump h
  · split
    next heq =>
      have h1 := State.Sound.of_fst heq (.sign h)
      exact h1
    next heq =>
      have h1 := State.Sound.of_fst heq (.sign h)
      exact .forAll (fun _ _ hu => .place hu) h1

theorem State.Sound.alarmChange {s : State} {n : Nat} {launch : Ns} (h : s.Sound) :
    (s.alarmChange n launch).Sound := by
  unfold State.alarmChange
  exact .mirror (.goose (.bump (.modPub h)))

theorem State.Sound.alarmAgain {s : State} {n : Nat} (h : s.Sound) : (s.alarmAgain n).Sound := by
  unfold State.alarmAgain
  exact .goose (.bump (.modPub h))

theorem State.Sound.alarmRetry {s : State} {n : Nat} (h : s.Sound) : (s.alarmRetry n).Sound := by
  unfold State.alarmRetry
  exact .goose (.modPub h)

theorem State.Sound.alarmInitial {s : State} {n : Nat} (h : s.Sound) : (s.alarmInitial n).Sound := by
  unfold State.alarmInitial
  exact .goose (.modPub h)

theorem State.Sound.adoptTask {s : State} {t : Nat} (h : s.Sound) : (s.adoptTask t).Sound := by
  unfold State.adoptTask
  split
  · exact .ite (.bump (.same h rfl rfl rfl)) h
  · exact h

theorem State.Sound.scanBoundary {s : State} {t : Nat} (h : s.Sound) : (s.scanBoundary t).Sound := by
  unfold State.scanBoundary
  extract_lets s1 sets src s2 s3 mine reqs src' s4
  have h2 : s2.Sound := .withLogic (.adoptTask h)
  have h3 : s3.Sound := .forAll (fun _ _ hu => .ovApply hu) h2
  refine .forAll (fun _ _ hu => ?_) (.withLogic h3)
  split
  · exact .bump (.withLogic hu)
  · exact .ite (.bump (.withLogic hu)) hu

theorem State.Sound.takeSnapshot {s : State} {it : Item} (h : s.Sound) : (s.takeSnapshot it).Sound := by
  unfold State.takeSnapshot
  split
  · exact h
  · split
    · exact .ite h (.same (.scanBoundary h) rfl rfl rfl)
    · exact h

theorem State.Sound.writeVar {s : State} {v : Nat} {x : VarVal} (h : s.Sound) : (s.writeVar v x).Sound :=
  .same h (by simp) (by simp) (by simp)

theorem State.Sound.instFirst {s : State} {i : Nat} {in0 : Bool} (h : s.Sound) : (s.instFirst i in0).1.Sound := by
  unfold State.instFirst
  dsimp only
  split
  · exact .bump h
  · exact .ite_fst (.bump h) (.postFor (.bump h))

theorem State.Sound.instRun {s : State} {sn : Snapshot} {d i : Nat} (h : s.Sound) : (s.instRun sn d i).Sound := by
  unfold State.instRun
  extract_lets r ins first
  have h1 : (if first then s.instFirst i (isTrue (ins.getD 0 { v := 0, q := 0 }).v) else (s, s.instSt i)).1.Sound :=
    .ite_fst (.instFirst h) h
  split
  next u st heq =>
    have hu : u.Sound := .of_fst heq h1
    split
    exact .writeVar (.writeVar (.withLogic hu))

theorem State.Sound.hiska {sn : Snapshot} {d n pc : Nat} {regs : List VarVal} {s t : State} (h : s.Sound)
    (hrun : State.hiska sn d n pc regs s = some t) : t.Sound := by
  induction n generalizing pc regs s with
  | zero => cases hrun
  | succ n ih =>
    unfold State.hiska at hrun
    extract_lets w op rd g at hrun
    clear_value op
    split at hrun
    · obtain rfl := Option.some.inj hrun
      exact h
    · exact ih h hrun
    · exact ih (.writeVar h) hrun
    · exact ih h hrun
    · exact ih h hrun
    · exact ih h hrun
    · exact ih h hrun
    · exact ih (.instRun h) hrun
    · split at hrun
      · exact ih h hrun
      · cases hrun

theorem State.Sound.runScan {s t : State} {sn : Snapshot} (h : s.Sound) (hrun : s.runScan sn = some t) : t.Sound := by
  unfold State.runScan at hrun
  split at hrun
  extract_lets s1 at hrun
  have h1 : s1.Sound := .ite (.bump h) h
  split at hrun
  · exact .hiska h1 hrun
  · obtain rfl := Option.some.inj hrun
    exact .forAll (fun _ _ hu => .instRun hu) h1

theorem State.Sound.handOver {s : State} {o : Nat} (h : s.Sound) : (s.handOver o).Sound := by
  unfold State.handOver
  exact .ite h (.bump h)

theorem State.Sound.outMember {s : State} {sn : Snapshot} {o : Nat} (h : s.Sound) : (s.outMember sn o).Sound := by
  unfold State.outMember
  exact .ite h (.ite (.ite (.handOver (.setMember (.same h rfl rfl rfl))) (.setMember (.same h rfl rfl rfl))) (.same h rfl rfl rfl))

theorem State.Sound.outTrip {s : State} {sn : Snapshot} {it : Item} {o : Nat} (h : s.Sound) :
    (s.outTrip sn it o).Sound := by
  unfold State.outTrip
  extract_lets r x was src s1 a acked src' s2
  have h1 : s1.Sound := .withLogic h
  have h2 : s2.Sound := by
    unfold s2
    split
    · exact .ite (.deltaTrip (.withLogic h1)) h1
    · exact h1
  split
  · exact h2
  · split
    · exact .bump h2
    · exact .deltaTrip (.withLogic (.charge (.handOver (.bump (.alarmChange h2)))))

theorem State.Sound.sendLevel {s : State} {d : Nat} {due tag : Ns} {v : Bool} (h : s.Sound) :
    (s.sendLevel d due tag v).Sound := by
  unfold State.sendLevel
  exact .ite (.postFor (.bump (.modDo h))) (.modDo h)

theorem State.Sound.resendLevels {s : State} (h : s.Sound) : (s.resendLevels).Sound := by
  unfold State.resendLevels
  refine .forAll (fun _ _ hu => ?_) ?_
  · split
    · exact .ite (.sendLevel hu) hu
    · exact hu
  · exact h

theorem State.Sound.outLevel {s : State} {sn : Snapshot} {o : Nat} (h : s.Sound) : (s.outLevel sn o).Sound := by
  unfold State.outLevel
  exact .ite (.modDo (.same h rfl rfl rfl)) (.ite (.bump (.modDo (.same h rfl rfl rfl))) (.ite (.sendLevel (.modDo (.same h rfl rfl rfl))) (.ite (.sendLevel (.bump (.modDo (.same h rfl rfl rfl)))) (.sendLevel (.modDo (.same h rfl rfl rfl))))))

theorem State.Sound.completeScan {before s : State} {sn : Snapshot} {it : Item} (h : s.Sound) :
    (State.completeScan before s sn it).Sound := by
  unfold State.completeScan
  extract_lets t src s1 s2 s3 s4 s5 s6 s7 insts vars
  have h3 : s3.Sound := .resendLevels (.converge (.bump (.withLogic h)))
  have h4 : s4.Sound := .forAll (fun _ _ hu => .outMember hu) h3
  have h5 : s5.Sound := .forAll (fun _ _ hu => .outTrip hu) h4
  have h6 : s6.Sound := .forAll (fun _ _ hu => .outLevel hu) h5
  exact .ite (.queueTrigs h6) (.deltaLogic (.queueTrigs h6))

theorem State.Sound.putAna {s : State} {o : AnaOut} (h : s.Sound) : (s.putAna o).Sound :=
  .same h (by simp) (by simp) (by simp)

theorem State.Sound.setAlarm {s : State} {i : Nat} {a : ModeAlarm} (h : s.Sound) : (s.setAlarm i a).Sound :=
  .same h (by simp) (by simp) (by simp)

theorem State.Sound.oscLog {s : State} {x : OscLog} (h : s.Sound) : (s.oscLog x).Sound :=
  .same h (by simp) (by simp) (by simp)

theorem State.Sound.releaseMode {s : State} {r : ModeRec} (h : s.Sound) : (s.releaseMode r).Sound :=
  .same h (by simp) (by simp) (by simp)

theorem State.Sound.oscEvent {s : State} {i kind : Nat} {edge : Bool} {cause : Nat} {tag : Ns} {v : Word} (h : s.Sound) :
    (s.oscEvent i kind edge cause tag v).Sound := by
  unfold State.oscEvent
  exact .raise (.bump h)

theorem State.Sound.dropMode {s : State} {i cause : Nat} (h : s.Sound) : (s.dropMode i cause).Sound := by
  unfold State.dropMode
  refine .forAll (fun _ _ hu => ?_) ?_
  · split
    · exact .oscEvent hu
    · exact .oscEvent hu
  · exact .setAlarm h

theorem State.Sound.emptyBand {s : State} {k : Nat} {upTo : Ns} (h : s.Sound) : (s.emptyBand k upTo).Sound :=
  .same h (by simp) (by simp) (by simp)

theorem State.Sound.clearBand {s : State} {k : Nat} {upTo : Ns} (h : s.Sound) : (s.clearBand k upTo).Sound :=
  .same h (by simp) (by simp) (by simp)

theorem State.Sound.restartBand {s : State} {k : Nat} {upTo : Ns} (h : s.Sound) : (s.restartBand k upTo).Sound := by
  unfold State.restartBand
  exact .forAll (fun _ _ hu => .setAlarm (.dropMode hu)) (.emptyBand (.bump h))

theorem State.Sound.restartOsc {s : State} {upTo : Ns} (h : s.Sound) : (s.restartOsc upTo).Sound := by
  unfold State.restartOsc
  exact .forAll (fun _ _ hu => .restartBand hu) (.same h rfl rfl rfl)

theorem State.Sound.oscBoundary {s : State} (h : s.Sound) : (s.oscBoundary).Sound := by
  unfold State.oscBoundary
  exact .ite (.bump (.forAll (fun _ _ hu => .clearBand hu) (.forAll (fun _ _ hu => .forAll (fun _ _ hu => .dropMode hu) hu) (.same h rfl rfl rfl)))) (.forAll (fun _ _ hu => .clearBand hu) (.forAll (fun _ _ hu => .forAll (fun _ _ hu => .dropMode hu) hu) (.same h rfl rfl rfl)))

theorem State.Sound.noteParams {s : State} {k : Nat} {bd : Ns} (h : s.Sound) : (s.noteParams k bd).Sound :=
  .same h (by simp) (by simp) (by simp)

theorem State.Sound.abandonOsc {s : State} {it : Item} (h : s.Sound) : (s.abandonOsc it).Sound := by
  unfold State.abandonOsc
  exact .forAll (fun _ _ hu => .forAll (fun _ _ hu => .releaseMode (.setAlarm hu)) (.same hu rfl rfl rfl)) (.forAll (fun _ _ hu => .bump hu) h)

theorem State.Sound.abandonLoc {s : State} {it : Item} (h : s.Sound) : (s.abandonLoc it).Sound :=
  .same h (by simp) (by simp) (by simp)

theorem State.Sound.trigLoc {s : State} {l index : Nat} {f : Word} {tag : Ns} (h : s.Sound) :
    (s.trigLoc l index f tag).Sound := by
  unfold State.trigLoc
  extract_lets _ s1
  have h1 : s1.Sound := .ite (.bump h) h
  exact .same h1 rfl rfl rfl

theorem State.Sound.startEval {s : State} (h : s.Sound) : (s.startEval).Sound := by
  unfold State.startEval
  split
  · exact h
  · split
    · exact h
    · split
      · exact h
      · split
        next heq =>
          have h1 := State.Sound.of_fst heq (.newItem h)
          exact .trace (.modCell (.bump (.bump h1)))

theorem State.Sound.abandonDets {s : State} {gs : GroupSet} (h : s.Sound) : (s.abandonDets gs).Sound :=
  .same h (by simp) (by simp) (by simp)

theorem State.Sound.moveItem {s : State} {r : Nat} {it : Item} (h : s.Sound) : (s.moveItem r it).Sound := by
  unfold State.moveItem
  exact .ite h (.ite (.placeReady (.modReg h)) (.ite h (.bump (.modReg h))))

theorem State.Sound.moveDelay {s : State} {r : Nat} (h : s.Sound) : (s.moveDelay r).Sound := by
  unfold State.moveDelay
  exact .forAll (fun _ _ hu => .moveItem hu) h

theorem State.Sound.noteWait {s : State} {it : Item} (h : s.Sound) : (s.noteWait it).Sound := by
  unfold State.noteWait
  exact .ite h (.trace (.bump (.modReg h)))

theorem State.Sound.startItem {s : State} {it : Item} {c : Nat} (h : s.Sound) : (s.startItem it c).Sound := by
  unfold State.startItem
  exact .trace (.bump (.modCell (.takeSnapshot (.chargeStart (.modReg h)))))

theorem State.Sound.dispatchOne {s : State} {r : Nat} (h : s.Sound) : (s.dispatchOne r).Sound := by
  unfold State.dispatchOne
  dsimp only
  split
  · exact .startItem (.forAll (fun _ _ hu => .noteWait hu) h)
  · exact .forAll (fun _ _ hu => .noteWait hu) h

theorem State.Sound.abandonItem {s : State} {it : Item} (h : s.Sound) : (s.abandonItem it).Sound := by
  unfold State.abandonItem
  split
  · split
    · exact .bump (.same h rfl rfl rfl)
    · exact h
  · split
    · exact .abandonOsc h
    · split
      · exact .startEval (.same (.bumpBy h) rfl rfl rfl)
      · split
        · exact .abandonLoc h
        · split
          · exact .abandonDets h
          · exact h

theorem State.Sound.reissue {s : State} {it : Item} {c reason : Nat} (h : s.Sound) :
    (s.reissue it c reason).Sound := by
  unfold State.reissue
  exact .ite (.abandonItem (.trace (.bumpOnce (.trace (.bump h))))) (.trace (.bump (.modReg (.trace (.bump h)))))

theorem State.Sound.abortCell {s : State} {c reason : Nat} (h : s.Sound) : (s.abortCell c reason).Sound := by
  unfold State.abortCell
  split
  · exact h
  · exact .reissue (.modCell h)

theorem State.Sound.faultCell {s : State} {c reason : Nat} (h : s.Sound) : (s.faultCell c reason).Sound := by
  unfold State.faultCell
  exact .abortCell (.modCell h)

theorem State.Sound.loseBlock {s : State} {b : Nat} (h : s.Sound) : (s.loseBlock b).Sound := by
  unfold State.loseBlock
  exact .forAll (fun _ _ hu => .abortCell hu) (.forAll (fun _ _ hu => .modCell hu) (.same h rfl rfl rfl))

theorem State.Sound.spoilHistory {s : State} {unit : Nat} (h : s.Sound) : (s.spoilHistory unit).Sound :=
  .same h (by simp) (by simp) (by simp)

theorem State.Sound.noteFault {s : State} {st : Struct} {unit : Nat} (h : s.Sound) : (s.noteFault st unit).Sound :=
  .same h (by simp) (by simp) (by simp)

theorem State.Sound.restartManagement {s : State} (h : s.Sound) : (s.restartManagement).Sound :=
  .same h (by simp) (by simp) (by simp)

theorem State.Sound.uncorrectable {s : State} {st : Struct} {unit : Nat} (h : s.Sound) :
    (s.uncorrectable st unit).Sound := by
  unfold State.uncorrectable
  dsimp only
  split
  · exact .noteFault (.bbxPost (.bump h))
  · split
    · exact .faultCell (.same (.noteFault (.bbxPost (.bump h))) rfl rfl rfl)
    · exact .loseBlock (.same (.noteFault (.bbxPost (.bump h))) rfl rfl rfl)
    · exact .spoilHistory (.same (.noteFault (.bbxPost (.bump h))) rfl rfl rfl)
    · exact .same (.noteFault (.bbxPost (.bump h))) rfl rfl rfl
    · exact .restartManagement (.same (.noteFault (.bbxPost (.bump h))) rfl rfl rfl)
    · exact .nonCritical (.same (.noteFault (.bbxPost (.bump h))) rfl rfl rfl)
    · exact .nonCritical (.same (.noteFault (.bbxPost (.bump h))) rfl rfl rfl)
    · exact .nonCritical (.same (.noteFault (.bbxPost (.bump h))) rfl rfl rfl)
    · exact .critical (.same (.noteFault (.bbxPost (.bump h))) rfl rfl rfl)

theorem State.Sound.reshed {s : State} {r : Nat} (h : s.Sound) : (s.reshed r).Sound := by
  unfold State.reshed
  exact .modReg (.forAll (fun _ _ hu => .shedItem hu) h)

theorem State.Sound.thermalConflict {s : State} {r : Nat} (h : s.Sound) : (s.thermalConflict r).Sound := by
  unfold State.thermalConflict
  exact .conflict (.bump h)

theorem State.Sound.logicScan {s : State} {t : Nat} (h : s.Sound) : (s.logicScan t).Sound := by
  unfold State.logicScan
  split
  · split
    next hrun => exact .setWorked (.completeScan (.runScan h hrun))
    next => exact .faultCell h
  · exact h

theorem State.Sound.applyLevel {s : State} {d : Nat} {v : Bool} (h : s.Sound) : (s.applyLevel d v).Sound := by
  unfold State.applyLevel
  exact .ite (.bump h) (.modDo h)

theorem State.Sound.levelDue {s : State} {d : Nat} (h : s.Sound) : (s.levelDue d).Sound := by
  unfold State.levelDue
  split
  · exact h
  · exact .ite h (.ite (.bump (.modDo (.modDo h))) (.applyLevel (.modDo (.modDo h))))

theorem State.Sound.tripDue {s : State} {o : Nat} (h : s.Sound) : (s.tripDue o).Sound := by
  unfold State.tripDue
  split
  · exact h
  · split
    · exact h
    · extract_lets r rest src s1 left live y s2 s3
      have h2 : s2.Sound := .withLogic h
      have h3 : s3.Sound := .ite (.handOver (.bump (.alarmRetry h2))) (.bump h2)
      exact .ite (.postFor (.bump (.deltaTrip (.withLogic h)))) (.deltaTrip h3)

theorem State.Sound.modRow {s : State} {r : Nat} {t : Ns} {f : Row → Row} (h : s.Sound) : (s.modRow r t f).Sound :=
  .same h (by simp) (by simp) (by simp)

theorem State.Sound.groupClosed {s : State} {gs : GroupSet} {slot : Nat} (h : s.Sound) :
    (s.groupClosed gs slot).Sound := by
  unfold State.groupClosed
  extract_lets g r old ring lost src s1 s2
  have h1 : s1.Sound := .charge (.withOsc h)
  have h2 : s2.Sound := .ite (.ite h1 (.postOnce (.bumpBy h1))) h
  split
  next u it heq => exact .postItem (.of_fst heq (.newItem h2))

theorem State.Sound.closeGroup {s : State} {r : Nat} {w : Row} {g : Nat} {short : Bool} {before : Ns} (h : s.Sound) :
    (s.closeGroup r w g short before).Sound := by
  unfold State.closeGroup
  exact .ite (.bump (.modRow h)) (.groupClosed (.bump (.modRow h)))

theorem State.Sound.evalQuorum {s : State} {r : Nat} {t : Ns} {g : Nat} (h : s.Sound) :
    (s.evalQuorum r t g).Sound := by
  unfold State.evalQuorum
  split
  · exact h
  · exact .ite h (.ite (.closeGroup h) (.ite (.closeGroup h) h))

theorem State.Sound.evalAll {s : State} {r : Nat} (h : s.Sound) : (s.evalAll r).Sound := by
  unfold State.evalAll
  exact .forAll (fun _ _ hu => .forAll (fun _ _ hu => .evalQuorum hu) hu) h

theorem State.Sound.closePart {s : State} {n r : Nat} {w : Row} {before : Ns} (h : s.Sound) :
    (s.closePart n r w before).Sound := by
  unfold State.closePart
  exact .ite (.bumpBy (.bump (.modRow h))) (.same (.bumpBy (.bump (.modRow h))) rfl rfl rfl)

theorem State.Sound.postScan {s : State} {n : Nat} {t : Ns} (h : s.Sound) : (s.postScan n t).Sound := by
  unfold State.postScan
  split
  · exact h
  · extract_lets r g slot
    split
    next u it heq => exact .postItem (.of_fst heq (.newItem h))

theorem State.Sound.closeSet {s : State} {n : Nat} {t before : Ns} (h : s.Sound) : (s.closeSet n t before).Sound := by
  unfold State.closeSet
  dsimp only
  split
  · refine .forAll (fun _ _ hu => ?_) ?_
    · split
      · split
        · exact .closePart hu
        · exact .ite (.closePart hu) hu
      · exact hu
    · exact h
  · refine .postScan ?_
    refine .forAll (fun _ _ hu => ?_) ?_
    · split
      · split
        · exact .closePart hu
        · exact .ite (.closePart hu) hu
      · exact hu
    · exact h

theorem State.Sound.openRow {s : State} {r : Nat} (h : s.Sound) : (s.openRow r).Sound := by
  unfold State.openRow
  dsimp only
  split
  · exact h
  · split
    · exact h
    · exact .bump (.modSlice h)

theorem State.Sound.finalRow {s : State} {r : Nat} {w : Row} {stepped : Bool} (h : s.Sound) :
    (s.finalRow r w stepped).Sound := by
  unfold State.finalRow
  extract_lets _ _ _ _ s1 s2 s3
  have h1 : s1.Sound := .forAll (fun _ _ hu => .bump hu) h
  have h2 : s2.Sound := .modSlice h1
  have h3 : s3.Sound := .ite (.bump h2) h2
  exact .ite (.bump h3) (.modSlice h3)

theorem State.Sound.appendHist {s : State} {r : Nat} {x : HistRec} (h : s.Sound) : (s.appendHist r x).Sound :=
  .same h (by simp) (by simp) (by simp)

theorem State.Sound.commitRows {s : State} {r : Nat} {bd : Ns} {n : Nat} (h : s.Sound) : (s.commitRows r bd n).Sound := by
  induction n generalizing s with
  | zero => exact h
  | succ n ih =>
    unfold State.commitRows
    split
    · exact h
    · split
      · exact h
      · exact ih (.bump (.appendHist (.modSlice (.charge h))))

theorem State.Sound.duplicate {s : State} {sid : Nat} (h : s.Sound) : (s.duplicate sid).Sound := by
  unfold State.duplicate
  exact .ite (.bump h) (.bumpOnce h)

theorem State.Sound.digestConflict {s : State} {sid : Nat} (h : s.Sound) : (s.digestConflict sid).Sound := by
  unfold State.digestConflict
  exact .bumpOnce h

theorem State.Sound.putEntry {s : State} {r : Nat} {w : Row} {v : SliceIn} {between late : Bool} (h : s.Sound) : (s.putEntry r w v between late).Sound :=
  .same h (by simp) (by simp) (by simp)

theorem State.Sound.countAfter {s : State} {r : Nat} {w : Row} {v : SliceIn} (h : s.Sound) :
    (s.countAfter r w v).Sound := by
  unfold State.countAfter
  exact .forAll (fun _ _ hu => .bump hu) (.forAll (fun _ _ hu => .bump hu) h)

theorem State.Sound.enterRow {s : State} {r : Nat} {v : SliceIn} (h : s.Sound) : (s.enterRow r v).Sound := by
  unfold State.enterRow
  extract_lets x t u wt rate opens before s1 s2 s3
  have h2 : s2.Sound := .charge (.modSlice h)
  have h3 : s3.Sound := .openRow h2
  refine .ite (.ite h (.bumpOnce (.modSlice h))) (.ite (.bump h2) (.ite (.bumpOnce h2) ?_))
  split
  · exact .bumpOnce h3
  · refine .ite (.bumpOnce h3) ?_
    split
    · exact .ite (.duplicate h3) (.modRow (.digestConflict h3))
    · exact .ite (.bump (.putEntry h3)) (.ite (.bump (.putEntry h3))
        (.forAll (fun _ _ hu => .evalQuorum hu) (.countAfter (.putEntry h3))))

theorem State.Sound.enterSv {s : State} {r : Nat} {d : Delivery} (h : s.Sound) : (s.enterSv r d).Sound := by
  unfold State.enterSv
  extract_lets x u s1 before there ring size excess cut
  have h1 : s1.Sound := .modSlice h
  split
  · exact .bump h1
  · split
    · exact .bumpOnce h1
    · split
      · exact .bumpOnce h1
      · split
        · exact .ite (.duplicate h1) (.digestConflict h1)
        · split
          · exact h1
          · exact .withAlign (.charge h1)

theorem State.Sound.stepSlices {s : State} {dtAfter : Ns} (h : s.Sound) : (s.stepSlices dtAfter).Sound := by
  unfold State.stepSlices
  refine .forAll (fun _ _ hu => ?_) ?_
  · refine .modSlice ?_
    refine .forAll (fun _ _ hu => ?_) ?_
    · exact .finalRow hu
    · refine .forAll (fun _ _ hu => ?_) ?_
      · exact .forAll (fun _ _ hu => .closeSet hu) hu
      · refine .forAll (fun _ _ hu => ?_) ?_
        · refine .forAll (fun _ _ hu => ?_) ?_
          · split
            · exact .ite hu (.closeGroup hu)
            · exact hu
          · exact hu
        · exact hu
  · exact h

theorem State.Sound.startRows {s : State} {boundary : Ns} (h : s.Sound) : (s.startRows boundary).Sound :=
  .same h (by simp) (by simp) (by simp)

theorem State.Sound.modLane {s : State} {l : Nat} {f : LaneSt → LaneSt} (h : s.Sound) : (s.modLane l f).Sound :=
  .same h (by simp) (by simp) (by simp)

theorem State.Sound.modWq {s : State} {g : Nat} {f : QueueSt → QueueSt} (h : s.Sound) : (s.modWq g f).Sound :=
  .same h (by simp) (by simp) (by simp)

theorem State.Sound.evalHold {s : State} {g : Nat} (h : s.Sound) : (s.evalHold g).Sound := by
  unfold State.evalHold
  exact .ite (.bumpOnce (.modWq h)) (.ite (.modWq h) h)

theorem State.Sound.closePartial {s : State} {g : Nat} (h : s.Sound) : (s.closePartial g).Sound := by
  unfold State.closePartial
  exact .ite h (.evalHold (.bump (.modWq h)))

theorem State.Sound.handOff {s : State} {g : Nat} (h : s.Sound) : (s.handOff g).Sound := by
  unfold State.handOff
  exact .modWq (.closePartial h)

theorem State.Sound.writeRecord {s : State} {l : Nat} {r : Bytes} (h : s.Sound) : (s.writeRecord l r).Sound := by
  unfold State.writeRecord
  extract_lets g s1 q s2
  have h1 : s1.Sound := .ite (.handOff h) h
  have h2 : s2.Sound := .ite (.bumpOnce h1) (.bump h1)
  exact .ite (.modLane h2) (.evalHold (.modLane (.modWq h1)))

theorem State.Sound.laneNosync {s : State} {l : Nat} (h : s.Sound) : (s.laneNosync l).Sound := by
  unfold State.laneNosync
  exact .postFor (.bump (.modLane h))

theorem State.Sound.acceptFrame {s : State} {l seq : Nat} {delta num : Nat} {count width : Nat} {switch : Bool} {edge : Ns} {data : Bytes} (h : s.Sound) :
    (s.acceptFrame l seq delta num count width switch edge data).Sound := by
  unfold State.acceptFrame
  extract_lets _ _ _ s1 s2
  have h1 : s1.Sound := .modLane h
  have h2 : s2.Sound := .ite (.bump h1) (.ite (.postFor (.bump h1)) (.bump h1))
  exact .writeRecord h2

theorem State.Sound.laneFrame {s : State} {l : Nat} {b : Bytes} (h : s.Sound) : (s.laneFrame l b).Sound := by
  unfold State.laneFrame
  extract_lets r x hdr seq count width switch body fresh delta num began s1 s2
  have h1 : s1.Sound := .bump (.modLane h)
  have h2 : s2.Sound := .bump (.modLane h)
  refine .ite h (.ite (.bump h) (.ite (.bump (.modLane h)) (.ite (.bumpOnce (.modLane h))
    (.ite (.ite (.laneNosync h1) h1) (.ite (.ite (.laneNosync h2) h2) ?_)))))
  split
  · exact .bump (.modLane h)
  · exact .acceptFrame h

theorem State.Sound.flushGroup {s : State} {g : Nat} (h : s.Sound) : (s.flushGroup g).Sound := by
  unfold State.flushGroup
  extract_lets _ s1 s2 s3
  have h1 : s1.Sound := .bumpBy h
  have h2 : s2.Sound := .ite h1 (.bump h1)
  have h3 : s3.Sound := .modWq h2
  exact .evalHold (.modLane (.modLane h3))

theorem State.Sound.modChain {s : State} {k : Nat} {f : ChainSt → ChainSt} (h : s.Sound) : (s.modChain k f).Sound :=
  .same h (by simp) (by simp) (by simp)

theorem State.Sound.modEst {s : State} {ch : Nat} {f : EstSt → EstSt} (h : s.Sound) : (s.modEst ch f).Sound :=
  .same h (by simp) (by simp) (by simp)

theorem State.Sound.threshEvent {s : State} {ch set : Nat} {tag : Ns} {kind : Nat} {edge restart fast : Bool} {v : Word} (h : s.Sound) :
    (s.threshEvent ch set tag kind edge restart fast v).Sound := by
  unfold State.threshEvent
  exact .raise (.same (.bump h) rfl rfl rfl)

theorem State.Sound.restartChain {s : State} {k : Nat} {t : Ns} (h : s.Sound) : (s.restartChain k t).Sound := by
  unfold State.restartChain
  exact .forAll (fun _ _ hu => .forAll (fun _ _ hu => .threshEvent hu) (.modEst (.bump hu))) (.modChain h)

theorem State.Sound.takeSample {s : State} {k : Nat} {x : Sample} (h : s.Sound) : (s.takeSample k x).Sound := by
  unfold State.takeSample
  split
  · exact .modChain h
  · extract_lets s1
    have h1 : s1.Sound := .ite (.restartChain h) h
    exact .modChain h1

theorem State.Sound.storeLocal {s : State} {ch : Nat} {t : Ns} {v : Word} (h : s.Sound) : (s.storeLocal ch t v).Sound :=
  .same h (by simp) (by simp) (by simp)

theorem State.Sound.takeRecord {s : State} {b : Bytes} (h : s.Sound) : (s.takeRecord b).Sound := by
  unfold State.takeRecord
  refine .forAll (fun _ _ hu => ?_) ?_
  · extract_lets _ _ s2 s3
    have h2 : s2.Sound := .ite (.modChain hu) hu
    have h3 : s3.Sound := .storeLocal h2
    exact .ite h3 (.takeSample h3)
  · exact .modLane h

theorem State.Sound.takeRecords {g n : Nat} {s : State} (h : s.Sound) : (State.takeRecords g n s).Sound := by
  induction n generalizing s with
  | zero => exact h
  | succ n ih =>
    unfold State.takeRecords
    exact .ite h (ih (.takeRecord (.modWq h)))

theorem State.Sound.queueRead {s : State} {g : Nat} {err : WordErr} (h : s.Sound) : (s.queueRead g err).Sound := by
  unfold State.queueRead
  extract_lets q
  split
  · exact h
  · refine .evalHold ?_
    split
    · exact .modWq (.uncorrectable (.bump (.modWq h)))
    · extract_lets s2
      have h2 : s2.Sound := .ite (.bump (.bump (.modWq h))) (.modWq h)
      exact .ite (.ite (.takeRecords (.modWq h2)) h2) (.takeRecords (.modWq h2))

theorem State.Sound.drainHeld {k rate n : Nat} {s : State} (h : s.Sound) : (State.drainHeld k rate n s).Sound := by
  induction n generalizing s with
  | zero => exact h
  | succ n ih =>
    unfold State.drainHeld
    extract_lets c
    split
    · exact h
    · exact .ite (ih (.takeSample (.modChain h))) h

theorem State.Sound.drain {s : State} {k rate : Nat} (h : s.Sound) : (s.drain k rate).Sound := by
  unfold State.drain
  exact .drainHeld h

theorem State.Sound.svSample {s : State} {k sid pos rate : Nat} {x : Sample} (h : s.Sound) :
    (s.svSample k sid pos rate x).Sound := by
  unfold State.svSample
  extract_lets c eff s1 s2
  have h1 : s1.Sound := .bump h
  have h2 : s2.Sound := .ite h (.bump h)
  exact .ite h (.ite (.bump h) (.ite (.ite h1 (.modChain (.bump h1))) (.drain (.modChain h2))))

theorem State.Sound.svToChain {s : State} {d : Delivery} (h : s.Sound) : (s.svToChain d).Sound := by
  unfold State.svToChain
  refine .forAll (fun _ _ hu => ?_) ?_
  · refine .forAll (fun _ _ hu => ?_) ?_
    · split
      · exact hu
      · exact .svSample hu
    · exact hu
  · exact h

theorem State.Sound.runLevel {s : State} {ch set : Nat} {e : Estimate} {gated fast : Bool} {k : Nat} (h : s.Sound) :
    (s.runLevel ch set e gated fast k).Sound := by
  unfold State.runLevel
  split
  · exact .modEst h
  · exact .ite (.modEst h) (.ite (.ite (.threshEvent (.modEst (.modEst h))) (.modEst h)) (.ite (.threshEvent (.modEst (.modEst h))) (.modEst h)))

theorem State.Sound.compare {s : State} {e : Estimate} {fast : Bool} (h : s.Sound) : (s.compare e fast).Sound := by
  unfold State.compare
  extract_lets ch x since settled s1 s2 s3 s4 s5 twice s6 set r on s7 s8
  have h1 : s1.Sound := .modEst h
  have h2 : s2.Sound := .ite h1 (.converge h1)
  have h3 : s3.Sound := .ite h2 (.deliveredFn h2)
  have h4 : s4.Sound := .ite (.converge h3) h3
  have h5 : s5.Sound := .ite h4 (.deliveredFn h4)
  have h6 : s6.Sound := .ite (.converge h5) h5
  have h7 : s7.Sound := .forAll (fun _ _ hu => .runLevel hu) h6
  refine .modEst (.ite h6 ?_)
  split
  · exact h7
  · extract_lets s9
    have h9 : s9.Sound := by
      unfold s9
      split
      · exact .ite (.threshEvent h7) h7
      · exact h7
    split
    · exact .ite (.threshEvent h9) h9
    · exact h9

theorem State.Sound.releaseEst {s : State} {e : Estimate} {toRow comparators fast : Bool} (h : s.Sound) :
    (s.releaseEst e toRow comparators fast).Sound := by
  unfold State.releaseEst
  extract_lets s1 s2
  have h1 : s1.Sound := .ite (.bump h) h
  have h2 : s2.Sound := .ite (.modEst (.modSlice h1)) h1
  exact .ite (.compare h2) (.ite h2 (.converge h2))

theorem State.Sound.estimateRelease {s : State} {ch : Nat} (h : s.Sound) : (s.estimateRelease ch).Sound := by
  unfold State.estimateRelease
  exact .ite h (.ite h (.releaseEst (.modEst h)))

theorem State.Sound.fastEstimate {s : State} {ch : Nat} (h : s.Sound) : (s.fastEstimate ch).Sound := by
  unfold State.fastEstimate
  exact .ite h (.ite h (.releaseEst (.modEst h)))

theorem State.Sound.stepSwage {s : State} (h : s.Sound) : (s.stepSwage).Sound :=
  .same h (by simp) (by simp) (by simp)

theorem State.Sound.replayFrame {s : State} {lane : Nat} (h : s.Sound) : (s.replayFrame lane).Sound := by
  unfold State.replayFrame
  split
  · exact h
  · exact .ite h (.ite (.bump (.draw (.same h rfl rfl rfl))) (.same (.bumpBy (.bumpBy (.draw (.same h rfl rfl rfl)))) rfl rfl rfl))

theorem State.Sound.adoptOsc {s : State} {i : Nat} (h : s.Sound) : (s.adoptOsc i).Sound := by
  unfold State.adoptOsc
  split
  · exact h
  · split
    · exact .ite (.bump (.setAlarm h)) h
    · exact h

theorem State.Sound.putMode {s : State} {r : ModeRec} {a : ModeAlarm} (h : s.Sound) : (s.putMode r a).Sound :=
  .same h (by simp) (by simp) (by simp)

theorem State.Sound.locateMode {s : State} {r : ModeRec} {es : List ModeEvent} (h : s.Sound) :
    (s.locateMode r es).Sound := by
  unfold State.locateMode
  exact .ite (.trigLoc h) h

theorem State.Sound.oscRelease {s : State} {rs : List (ModeRec × Option Nat)} (h : s.Sound) :
    (s.oscRelease rs).Sound := by
  unfold State.oscRelease
  exact .forAll (fun _ _ hu => .mirror hu) (.forAll (fun _ _ hu => .locateMode hu) (.forAll (fun _ _ hu => .oscEvent hu) (.forAll (fun _ _ hu => .putMode hu) h)))

theorem State.Sound.modalSlots {s : State} {k : Nat} {tag : Ns} {conv restarted : Bool} {ps : List Pole} (h : s.Sound) :
    (s.modalSlots k tag conv restarted ps).Sound := by
  unfold State.modalSlots
  exact .oscRelease (.forAll (fun _ _ hu => .setAlarm hu) (.bumpBy h))

theorem State.Sound.oscUpdate {s : State} {k : Nat} {u : Ns} (h : s.Sound) : (s.oscUpdate k u).Sound := by
  unfold State.oscUpdate
  extract_lets b s1 setRate rate run restarted s2 s3 s4 s5 src src' s6 n conv xs
  have h1 : s1.Sound := .forAll (fun _ _ hu => .adoptOsc hu) h
  have h2 : s2.Sound := .bumpBy h1
  have h3 : s3.Sound := .ite (.bumpBy h2) h2
  have h4 : s4.Sound := .bumpBy h3
  have h5 : s5.Sound := .ite (.forAll (fun _ _ hu => .setAlarm hu) h4) h3
  have h6 : s6.Sound := .withOsc h5
  exact .ite (.modalSlots h6) (.oscRelease h6)

theorem State.Sound.locResult {s : State} {l : Nat} (h : s.Sound) : (s.locResult l).Sound := by
  unfold State.locResult
  extract_lets st window brs
  clear_value st
  split
  · exact h
  · extract_lets band rates open_ kept s1 ends buses outflow ranked sum total none_ top part r src s2 s3 s4
    have h1 : s1.Sound := .bumpBy h
    have h2 : s2.Sound := .withOsc h1
    have h3 : s3.Sound := .putAna (.oscLog h2)
    have h4 : s4.Sound := .ite h3 (.converge h3)
    exact .ite h4 (.raise h4)

theorem State.Sound.modCore {s : State} {f : IslCore → IslCore} (h : s.Sound) : (s.modCore f).Sound :=
  .same h (by simp) (by simp) (by simp)

theorem State.Sound.branchStep {s : State} {g : GroupSet} {b : Nat} (h : s.Sound) : (s.branchStep g b).Sound := by
  unfold State.branchStep
  dsimp only
  split
  · exact h
  · exact .ite (.bump h) (.ite (.bump h) (.converge (.modCore (.ite (.bump h) h))))

theorem State.Sound.setCoh {s : State} {i : Nat} {p : PairCoh} (h : s.Sound) : (s.setCoh i p).Sound :=
  .same h (by simp) (by simp) (by simp)

theorem State.Sound.pairStep {s : State} {i : Nat} {t : Ns} {v : Word × Word × Word × Word} (h : s.Sound) :
    (s.pairStep i t v).Sound := by
  unfold State.pairStep
  extract_lets hdr p df d base fOk b aOk coh since relearn base1 base2 conv s1 s2 s3 src s4
  have h1 : s1.Sound := .deliveredFn h
  have h2 : s2.Sound := .ite (.converge h1) h1
  have h3 : s3.Sound := .ite (.bump h2) h2
  have h4 : s4.Sound := by
    unfold s4
    split
    · exact h3
    · exact .withIsl h3
  split
  · exact .ite (.setCoh h4) (.setCoh h4)
  · exact .setCoh h4

theorem State.Sound.pairGap {s : State} {i : Nat} {t : Ns} (h : s.Sound) : (s.pairGap i t).Sound := by
  unfold State.pairGap
  split
  · exact .ite (.setCoh (.bump h)) h
  · exact h

theorem State.Sound.pairEval {s : State} {before sets : List GroupSet} {tags : List Ns} {tag : Ns} {e : Nat × Nat × Nat} (h : s.Sound) :
    (s.pairEval before sets tags tag e).Sound := by
  unfold State.pairEval
  refine .pairGap ?_
  refine .forAll (fun _ _ hu => ?_) ?_
  · split
    · exact .pairStep (.pairGap hu)
    · exact hu
  · exact h

theorem State.Sound.keyStep {s : State} {tag : Ns} {pairs : List (Nat × Nat × Nat)} {gated : Bool} {k : Nat} {c : List Nat} (h : s.Sound) : (s.keyStep tag pairs gated k c).Sound :=
  .same h (by simp) (by simp) (by simp)

theorem State.Sound.keyIdle {s : State} {tag : Ns} {k : Nat} (h : s.Sound) : (s.keyIdle tag k).Sound :=
  .same h (by simp) (by simp) (by simp)

theorem State.Sound.raiseIsl {s : State} {r : IslRec} {e : Event} (h : s.Sound) : (s.raiseIsl r e).Sound :=
  .same h (by simp) (by simp) (by simp)

theorem State.Sound.copyIsl {s : State} (h : s.Sound) : (s.copyIsl).Sound :=
  .same h (by simp) (by simp) (by simp)

theorem State.Sound.putIsl {s : State} {slot : Nat} {r : IslRec} (h : s.Sound) : (s.putIsl slot r).Sound :=
  .same h (by simp) (by simp) (by simp)

theorem State.Sound.putIslOut {s : State} {slot : Nat} {r : IslRec} (h : s.Sound) : (s.putIslOut slot r).Sound :=
  .same h (by simp) (by simp) (by simp)

theorem State.Sound.withdraw {s : State} {slot cause : Nat} {tag : Ns} (h : s.Sound) :
    (s.withdraw slot cause tag).Sound := by
  unfold State.withdraw
  split
  · exact .ite (.postFor (.bump (.raiseIsl (.putIslOut (.putIsl h))))) (.ite (.postFor (.bump (.raiseIsl (.putIslOut (.putIsl h))))) (.raiseIsl (.putIslOut (.putIsl h))))
  · exact h

theorem State.Sound.islMatch {s : State} {sets : List GroupSet} {mainFreqs : List Word} {tag : Ns} {found : List Found} (h : s.Sound) :
    (s.islMatch sets mainFreqs tag found).Sound := by
  unfold State.islMatch
  refine .forAll (fun _ _ hu => ?_) ?_
  · split
    · exact .raiseIsl (.bump hu)
    · exact hu
  · refine .forAll (fun _ _ hu => ?_) ?_
    · split
      · exact .postFor (.bump (.raiseIsl (.putIslOut (.putIsl hu))))
      · exact .bumpOnce hu
    · refine .forAll (fun _ _ hu => ?_) ?_
      · split
        · exact .putIslOut (.putIsl hu)
        · exact hu
      · exact .forAll (fun _ _ hu => .withdraw hu) h

theorem State.Sound.adoptIsl {s : State} (h : s.Sound) : (s.adoptIsl).Sound := by
  unfold State.adoptIsl
  split
  · exact h
  · dsimp only
    split
    · exact h
    · refine .bump ?_
      refine .forAll (fun _ _ hu => ?_) ?_
      · split
        · exact .modCore hu
        · exact hu
      · exact .modCore h

theorem State.Sound.islEvaluate {s : State} {n : Nat} (h : s.Sound) : (s.islEvaluate n).Sound := by
  unfold State.islEvaluate
  extract_lets s1 hdr covered tag before pool s2 status s3 comps tags s4 known part clusters main cands gated s5 s6 mainFreqs src1 s7 s8 s9
    keep src2 s10 slots
  have h2 : s2.Sound := .bumpBy (.bump (.adoptIsl h))
  have h3 : s3.Sound := .forAll (fun _ _ hu => .forAll (fun _ _ hv => .branchStep hv) hu) h2
  have h4 : s4.Sound := .forAll (fun _ _ hu => .pairEval hu) h3
  have h5 : s5.Sound := .forAll (fun _ _ hu => .keyIdle hu) h4
  have h6 : s6.Sound := .forAll (fun _ _ hu => .keyStep hu) h5
  have h9 : s9.Sound := .putAna (.islMatch (.withIsl h6))
  exact .forAll (fun _ _ hu => .mirror hu) (.copyIsl (.withIsl h9))

theorem State.Sound.handSet {s : State} {gs : GroupSet} (h : s.Sound) : (s.handSet gs).Sound := by
  unfold State.handSet
  exact .ite (.startEval (.same h rfl rfl rfl)) h

theorem State.Sound.setDet {s : State} {d : Nat} {x : DetSt} (h : s.Sound) : (s.setDet d x).Sound :=
  .same h (by simp) (by simp) (by simp)

theorem State.Sound.detEvent {s : State} {d : Nat} {tag : Ns} {edge : Bool} {cause : Nat} {v : Word} (h : s.Sound) : (s.detEvent d tag edge cause v).Sound :=
  .same h (by simp) (by simp) (by simp)

theorem State.Sound.detStep {s : State} {gs : GroupSet} {d : Nat} (h : s.Sound) : (s.detStep gs d).Sound := by
  unfold State.detStep
  extract_lets r x find ref th low fn level
  clear_value find
  split
  · exact h
  · extract_lets v okCh since settled gated s1 s2 beyond run up down fire picked value prevF pos0 s3 s4
    have h1 : s1.Sound := .ite (.deliveredFn h) h
    have h2 : s2.Sound := .ite h1 (.converge h1)
    have h4 : s4.Sound := .putAna (.setDet h2)
    exact .ite h (.ite (.detEvent (.bump h4)) (.ite (.detEvent (.bump h4)) (.ite (.detEvent (.bump h4)) h4)))

theorem State.Sound.restartPairsDets {s : State} (h : s.Sound) : (s.restartPairsDets).Sound := by
  unfold State.restartPairsDets
  exact .forAll (fun _ _ hu => .ite (.detEvent (.setDet (.bump hu))) (.setDet (.bump hu))) (.same (.forAll (fun _ _ hu => .setCoh (.bump hu)) h) rfl rfl rfl)

theorem State.Sound.stepIsl {s : State} (h : s.Sound) : s.stepIsl.Sound := by
  unfold State.stepIsl
  exact .forAll (fun _ _ hu => .withdraw hu) (.withIsl (.modCore (.restartPairsDets h)))

theorem State.Sound.replayIsl {s : State} (h : s.Sound) : s.replayIsl.Sound := by
  unfold State.replayIsl
  exact .forAll (fun _ _ hu => .withdraw hu) (.withIsl (.modCore (.restartPairsDets h)))

theorem State.Sound.reserveIsl {s : State} {b : Nat} (h : s.Sound) : (s.reserveIsl b).Sound :=
  .same h (by simp) (by simp) (by simp)

theorem State.Sound.islBoundary {s : State} (h : s.Sound) : s.islBoundary.Sound := by
  unfold State.islBoundary
  split
  · exact h
  · split
    · exact .ite h (.startEval (.postFor (.bump (.reserveIsl h))))
    · dsimp only
      split
      · exact .startEval (.postFor (.bump (.reserveIsl (.withIsl (.forAll (fun _ _ hu => .setCoh (.bump hu)) (.withIsl h))))))
      · exact .nonCritical (.post (.forAll (fun _ _ hu => .raiseIsl (.putIsl hu)) (.withIsl h)))

theorem State.Sound.serve {s : State} {p q : Nat} {f : TxFrame} (h : s.Sound) : (s.serve p q f).Sound := by
  unfold State.serve
  exact .ite (.place h) h

theorem State.Sound.modConn {s : State} {sid : Nat} {f : TcpConn → TcpConn} (h : s.Sound) : (s.modConn sid f).Sound :=
  .same h (by simp) (by simp) (by simp)

theorem State.Sound.tcpSend {s : State} {sid : Nat} {syn ack rst : Bool} {seqNo : BitVec 32} {data : Bytes} (h : s.Sound) :
    (s.tcpSend sid syn ack rst seqNo data).Sound := by
  unfold State.tcpSend
  exact .serve h

theorem State.Sound.tcpAck {s : State} {sid : Nat} (h : s.Sound) : (s.tcpAck sid).Sound := by
  unfold State.tcpAck
  exact .tcpSend (.modConn h)

theorem State.Sound.sendData {s : State} {sid : Nat} {d : Bytes} (h : s.Sound) : (s.sendData sid d).Sound := by
  unfold State.sendData
  exact .modConn (.tcpSend h)

theorem State.Sound.sendCommand {s : State} {sid code : Nat} (h : s.Sound) : (s.sendCommand sid code).Sound := by
  unfold State.sendCommand
  exact .ite h (.ite (.serve (.bump h)) (.ite (.forAll (fun _ _ hu => .sendData hu) (.bump h)) h))

theorem State.Sound.streamEnter {s : State} {sid : Nat} {st : StrState} (h : s.Sound) :
    (s.streamEnter sid st).Sound := by
  unfold State.streamEnter
  exact .bump (.modStream h)

theorem State.Sound.streamPost {s : State} {sid lvl : Nat} (h : s.Sound) : (s.streamPost sid lvl).Sound := by
  unfold State.streamPost
  exact .postFor h

theorem State.Sound.mismatch {s : State} {sid : Nat} (h : s.Sound) : (s.mismatch sid).Sound := by
  unfold State.mismatch
  split
  · exact h
  · exact h
  · exact .streamPost (.streamEnter h)

theorem State.Sound.unmismatch {s : State} {sid : Nat} (h : s.Sound) : (s.unmismatch sid).Sound := by
  unfold State.unmismatch
  exact .ite (.streamPost (.streamEnter h)) h

theorem State.Sound.layoutError {s : State} {sid : Nat} (h : s.Sound) : (s.layoutError sid).Sound := by
  unfold State.layoutError
  exact .ite (.mismatch (.modStream (.bump h))) (.modStream (.bump h))

theorem State.Sound.layoutPass {s : State} {sid : Nat} (h : s.Sound) : (s.layoutPass sid).Sound :=
  .same h (by simp) (by simp) (by simp)

theorem State.Sound.parseFail {s : State} {sid : Nat} (h : s.Sound) : (s.parseFail sid).Sound :=
  .same h (by simp) (by simp) (by simp)

theorem State.Sound.parsePass {s : State} {sid : Nat} (h : s.Sound) : (s.parsePass sid).Sound := by
  unfold State.parsePass
  exact .ite (.ite (.unmismatch (.modStream h)) (.modStream h)) h

theorem State.Sound.tcpDown {s : State} {sid : Nat} (h : s.Sound) : (s.tcpDown sid).Sound := by
  unfold State.tcpDown
  exact .ite (.modConn (.modPort h)) (.streamPost (.streamEnter (.modConn (.modPort h))))

theorem State.Sound.tcpReset {s : State} {sid : Nat} (h : s.Sound) : (s.tcpReset sid).Sound := by
  unfold State.tcpReset
  exact .tcpDown (.bump (.tcpSend h))

theorem State.Sound.tcpOpen {s : State} {sid : Nat} (h : s.Sound) : (s.tcpOpen sid).Sound := by
  unfold State.tcpOpen
  exact .tcpSend (.modConn (.draw h))

theorem State.Sound.ingest {s : State} {p : Nat} {f : RxFrame} (h : s.Sound) : (s.ingest p f).Sound := by
  unfold State.ingest
  split
  · exact .modPort (.bump h)
  · split
    · exact .bump h
    · exact .bump h

theorem State.Sound.ingestMp {s : State} {f : RxFrame} (h : s.Sound) : (s.ingestMp f).Sound := by
  unfold State.ingestMp
  exact .ite (.modPort (.bump h)) (.bump h)

theorem State.Sound.receive {s : State} {p : Nat} {f : RxFrame} (h : s.Sound) : (s.receive p f).Sound := by
  unfold State.receive
  exact .ite (.bump h) (.ite (.bump h) (.ite (.bump h) (.ite (.bump h) (.ite (.bump h) (.ite (.ingestMp h) (.ite (.bump h) (.ingest h)))))))

theorem State.Sound.dropLate {s : State} {p q : Nat} (h : s.Sound) : (s.dropLate p q).Sound := by
  unfold State.dropLate
  exact .ite h (.modPort (.bumpBy h))

theorem State.Sound.modPtp {s : State} {i : Nat} {f : PtpSt → PtpSt} (h : s.Sound) : (s.modPtp i f).Sound :=
  .same h (by simp) (by simp) (by simp)

theorem State.Sound.ptpSend {s : State} {i p : Nat} {kind seq : Nat} {stamp : Ns} (h : s.Sound) :
    (s.ptpSend i p kind seq stamp).Sound := by
  unfold State.ptpSend
  exact .serve h

theorem State.Sound.ptpDeparts {s : State} {p : Nat} {b : TxBody} {stamp : Ns} (h : s.Sound) :
    (s.ptpDeparts p b stamp).Sound := by
  unfold State.ptpDeparts
  split
  · split
    · exact .ite (.modPtp h) (.ite (.ptpSend h) h)
    · exact h
  · exact h

theorem State.Sound.dropHead {s : State} {p : Nat} (h : s.Sound) : (s.dropHead p).Sound := by
  unfold State.dropHead
  split
  · exact .modPort (.bump h)
  · exact h

theorem State.Sound.startFrame {s : State} {p q : Nat} {f : TxFrame} (h : s.Sound) : (s.startFrame p q f).Sound := by
  unfold State.startFrame
  extract_lets _ s1 s2
  have h1 : s1.Sound := .ite (.bump h) h
  have h2 : s2.Sound := .modPort h1
  exact .ptpDeparts h2

theorem State.Sound.linkFalls {s : State} {p : Nat} {receiving : Bool} (h : s.Sound) :
    (s.linkFalls p receiving).Sound := by
  unfold State.linkFalls
  extract_lets s1 s2 s3
  have h1 : s1.Sound := .bump h
  have h2 : s2.Sound := .ite (.bump h1) h1
  have h3 : s3.Sound := .ite (.bump h2) h2
  exact .modPort h3

theorem State.Sound.takeAck {s : State} {sid : Nat} {a : Option (BitVec 32)} (h : s.Sound) : (s.takeAck sid a).Sound :=
  .same h (by simp) (by simp) (by simp)

theorem State.Sound.takeData {s : State} {sid : Nat} {seg : TcpSeg} (h : s.Sound) : (s.takeData sid seg).Sound := by
  unfold State.takeData
  exact .ite (.tcpReset (.modConn (.modPort h))) (.ite (.tcpAck (.modConn (.modPort h))) (.modConn (.modPort h)))

theorem State.Sound.tcpTake {s : State} {sid : Nat} {seg : TcpSeg} (h : s.Sound) : (s.tcpTake sid seg).Sound := by
  unfold State.tcpTake
  extract_lets p c src s1 s2 s3
  have h1 : s1.Sound := .takeAck h
  have h2 : s2.Sound := .ite (.modConn h1) h1
  have h3 : s3.Sound := .ite h2 (.takeData h2)
  refine .ite (.bump h) ?_
  split
  · exact h
  · exact .ite (.modConn h) (.ite (.tcpAck (.modConn h)) h)
  · exact .ite (.tcpDown h) (.ite h2 (.ite (.tcpAck (.bump h2)) (.ite (.tcpDown (.tcpAck (.modConn h3))) h3)))

theorem State.Sound.fillPartner {s : State} {d : Delivery} {body : UdpBody} (h : s.Sound) :
    (s.fillPartner d body).Sound := by
  unfold State.fillPartner
  exact .ite h (.ite (.bump h) (.ite (.mirror (.bump (.charge h))) h))

theorem State.Sound.streamAlive {s : State} {sid : Nat} (h : s.Sound) : (s.streamAlive sid).Sound := by
  unfold State.streamAlive
  dsimp only
  refine .modStream ?_
  split
  · exact .streamEnter h
  · exact .streamPost (.streamEnter h)
  · exact h

theorem State.Sound.deliver {s : State} {d : Delivery} {body : UdpBody} (h : s.Sound) : (s.deliver d body).Sound := by
  unfold State.deliver
  extract_lets s1 s2 s3 s4 s5
  have h1 : s1.Sound := .streamAlive (.bump h)
  have h2 : s2.Sound := .modStream h1
  have h3 : s3.Sound := .forAll (fun _ _ hu => .modSlice hu) h2
  have h4 : s4.Sound := .ite (.svToChain h3) h3
  have h5 : s5.Sound := .ite (.modStream (.sendCommand h4)) h4
  exact .fillPartner h5

theorem State.Sound.window7 {s : State} {d : Delivery} (h : s.Sound) : (s.window7 d).1.Sound := by
  unfold State.window7
  dsimp only
  split
  · exact .ite_fst (.duplicate h) (.digestConflict h)
  · exact .ite_fst h (.modStream h)

theorem State.Sound.tagCheck {s : State} {d : Delivery} (h : s.Sound) : (s.tagCheck d).1.Sound := by
  unfold State.tagCheck
  split
  · split
    · exact .window7 h
    · exact .bump h
  · exact .window7 h

theorem State.Sound.parseDrop {s : State} {sid : Nat} {c : Ctr} (h : s.Sound) : (s.parseDrop sid c).Sound := by
  unfold State.parseDrop
  exact .parseFail (.bump h)

theorem State.Sound.c37Marks {s : State} {sid p kind : Nat} {arrival : Ns} {b : Bytes} (h : s.Sound) :
    (s.c37Marks sid p kind arrival b).1.Sound := by
  unfold State.c37Marks
  extract_lets l stats bad test cfg s1 s2 s3
  have h1 : s1.Sound := .bumpBy h
  have h2 : s2.Sound := .ite (.bump h1) h1
  exact .ite (.bump h2) h2

theorem State.Sound.parseC37 {s : State} {sid p kind : Nat} {arrival : Ns} {b : Bytes} (h : s.Sound) :
    (s.parseC37 sid p kind arrival b).1.Sound := by
  unfold State.parseC37
  dsimp only
  split
  · exact .parseDrop h
  · split
    · exact .parseDrop h
    · split
      · exact .parseDrop h
      · split
        · dsimp only
          exact .ite (.unmismatch (.bump h)) (.mismatch (.bump h))
        · split
          · exact .bump h
          · split
            · exact .layoutError h
            · split
              · exact .parseDrop h
              · split
                · exact .parsePass (.layoutPass h)
                · dsimp only
                  exact .c37Marks (.layoutPass h)

theorem State.Sound.parseSv {s : State} {sid p kind : Nat} {arrival : Ns} {f : SvFrame} (h : s.Sound) :
    (s.parseSv sid p kind arrival f).1.Sound := by
  unfold State.parseSv
  extract_lets rate s1 quals bad unsync test s2 s3 s4
  have h1 : s1.Sound := .layoutPass h
  have h2 : s2.Sound := .ite (.bump h1) h1
  have h3 : s3.Sound := .bumpBy h2
  have h4 : s4.Sound := .ite (.bump h3) h3
  exact .ite_fst (.parseDrop h) (.ite_fst (.parseDrop h) (.ite_fst (.layoutError h) (.ite_fst (.parseDrop h)
    (.ite_fst (.layoutError h) (.ite_fst (.parsePass h1) h4)))))

theorem State.Sound.parse {s : State} {sid p : Nat} {arrival : Ns} {b : UdpBody} (h : s.Sound) :
    (s.parse sid p arrival b).1.Sound := by
  unfold State.parse
  split
  · exact .parseC37 h
  · exact .parseSv h
  · exact h

theorem State.Sound.authFail {s : State} {sid : Nat} (h : s.Sound) : (s.authFail sid).Sound := by
  unfold State.authFail
  exact .bumpOnce h

theorem State.Sound.authenticate {s : State} {sid : Nat} {b : UdpBody} (h : s.Sound) :
    (s.authenticate sid b).1.Sound := by
  unfold State.authenticate
  dsimp only
  split
  · split
    · exact .bumpOnce h
    · exact h
  · split
    · exact .authFail h
    · split
      · exact .authFail h
      · split
        · exact .authFail h
        · exact .ite_fst (.bump (.countUse h)) (.authFail (.countUse h))

theorem State.Sound.toHearth {s : State} {p : Nat} {i : InFrame} (h : s.Sound) : (s.toHearth p i).Sound := by
  unfold State.toHearth
  dsimp only
  split
  · split
    · split
      · exact .bump (.bump h)
      · split
        · exact .bump (.bump h)
        · exact .same (.bump h) rfl rfl rfl
    · split
      · exact .bump (.bump h)
      · exact .bump (.bump h)
  · exact .bump (.bump h)

theorem State.Sound.streamPath {s : State} {p sid : Nat} {i : InFrame} {b : UdpBody} (h : s.Sound) :
    (s.streamPath p sid i b).1.Sound := by
  have hparse : (s.parse sid p i.stamp b).1.Sound := .parse h
  unfold State.streamPath
  split
  · exact .bump h
  · split
    next hp => exact .of_fst hp hparse
    next u d hp =>
      have hu : u.Sound := .of_fst hp hparse
      have hauth : (u.authenticate sid b).1.Sound := .authenticate hu
      split
      next ha => exact .of_fst ha hauth
      next ha => exact .tagCheck (.of_fst ha hauth)

theorem State.Sound.watchPath {s : State} {p sid : Nat} {i : InFrame} {b : UdpBody} (h : s.Sound) :
    (s.watchPath p sid i b).Sound := by
  unfold State.watchPath
  split
  next heq =>
    have h1 := State.Sound.of_fst heq (.parse h)
    exact .same (.streamAlive (.bump h1)) rfl rfl rfl
  next heq =>
    have h1 := State.Sound.of_fst heq (.parse h)
    exact h1

theorem State.Sound.classify {s t : State} {p : Nat} {i : InFrame} (h : s.Sound) (hrun : s.classify p i = some t) : t.Sound := by
  unfold State.classify at hrun
  extract_lets b at hrun
  split at hrun
  · obtain rfl := Option.some.inj hrun
    exact .toHearth h
  split at hrun
  · obtain rfl := Option.some.inj hrun
    exact .bump h
  split at hrun
  · obtain rfl := Option.some.inj hrun
    exact .same (.bump h) rfl rfl rfl
  split at hrun
  · obtain rfl := Option.some.inj hrun
    exact .bump h
  next sid _ =>
    split at hrun
    · obtain rfl := Option.some.inj hrun
      exact .watchPath h
    have hpath : (s.streamPath p sid i (streamBody b)).1.Sound := .streamPath h
    split at hrun
    next hp =>
      obtain rfl := Option.some.inj hrun
      exact .of_fst hp hpath
    next hp =>
      split at hrun
      · cases hrun
      · obtain rfl := Option.some.inj hrun
        exact .deliver (.of_fst hp hpath)

theorem State.Sound.takeFill {s : State} {x : FillHdr} {b : UdpBody} (h : s.Sound) : (s.takeFill x b).Sound := by
  unfold State.takeFill
  dsimp only
  split
  · exact h
  · split
    next u heq => exact .of_fst heq (.tagCheck h)
    next u d heq => exact .deliver (.of_fst heq (.tagCheck h))

theorem State.Sound.countIdle {s : State} (h : s.Sound) : (s.countIdle).Sound :=
  .same h (by simp) (by simp) (by simp)

theorem State.Sound.placeCopies {s : State} {n : Nat} {launch : Ns} {inner : Nat} {b : TxBody} (h : s.Sound) :
    (s.placeCopies n launch inner b).Sound := by
  unfold State.placeCopies
  exact .forAll (fun _ _ hu => .place hu) h

theorem State.Sound.sendGoose {s : State} {n : Nat} {launch : Ns} {vs : List VarVal} (h : s.Sound) :
    (s.sendGoose n launch vs).Sound := by
  unfold State.sendGoose
  exact .goose (.modPub h)

theorem State.Sound.sendSet {s : State} {n : Nat} {t launch : Ns} {parts : List OutPart} (h : s.Sound) :
    (s.sendSet n t launch parts).Sound := by
  unfold State.sendSet
  dsimp only
  split
  · exact h
  · split
    · exact .placeCopies h
    · split
      · exact .sendGoose h
      · split
        next u heq => exact .of_fst heq (.sign h)
        next u signed heq => exact .placeCopies (.of_fst heq (.sign h))

theorem State.Sound.takeTag {s : State} {n : Nat} {t : Ns} (h : s.Sound) : (s.takeTag n t).Sound :=
  .same h (by simp) (by simp) (by simp)

theorem State.Sound.launch {s : State} {region n arg : Nat} {b : Ns} (h : s.Sound) :
    (s.launch region n arg b).Sound := by
  unfold State.launch
  extract_lets r leaving s1
  have h1 : s1.Sound := .charge h
  split
  · exact h
  · split
    · exact .bump h1
    · extract_lets m parts s2 off s3 sent
      have h3 : s3.Sound := .bumpBy (.bumpBy h1)
      have hsent : sent.Sound := .ite (.bumpBy h3) (.ite (.bump h3) (.sendSet h3))
      exact .takeTag hsent

theorem State.Sound.applySub {s : State} {n peer : Nat} {on : Bool} (h : s.Sound) : (s.applySub n peer on).Sound := by
  unfold State.applySub
  extract_lets s1
  have h1 : s1.Sound := .ite (.modPub h) (.modPub h)
  exact .deltaSub h1

theorem State.Sound.applySubs {s : State} (h : s.Sound) : (s.applySubs).Sound := by
  unfold State.applySubs
  exact .forAll (fun _ _ hu => .applySub hu) (.same h rfl rfl rfl)

theorem State.Sound.sendReply {s : State} {n peer code : Nat} (h : s.Sound) : (s.sendReply n peer code).Sound := by
  unfold State.sendReply
  exact .ite (.postFor (.bump h)) (.place h)

theorem State.Sound.subTake {s : State} {n p code : Nat} (h : s.Sound) : (s.subTake n p code).Sound := by
  unfold State.subTake
  exact .ite (.bump (.same h rfl rfl rfl)) (.ite (.ite (.bump h) (.ite (.sendReply (.bump (.same h rfl rfl rfl))) (.bump (.same h rfl rfl rfl)))) (.bump h))

theorem State.Sound.countDiscard {s : State} {p q : Nat} {f : TxFrame} (h : s.Sound) :
    (s.countDiscard p q f).Sound := by
  unfold State.countDiscard
  split
  · exact .bump h
  · exact .bump h

theorem State.Sound.purge {s : State} (h : s.Sound) : (s.purge).Sound := by
  unfold State.purge
  exact .forAll (fun _ _ hu => .modPort (.forAll (fun _ _ hu => .countDiscard hu) hu)) h

theorem State.Sound.modRec {s : State} {seq : Nat} {f : CapRec → CapRec} (h : s.Sound) : (s.modRec seq f).Sound :=
  .same h (by simp) (by simp) (by simp)

theorem State.Sound.chargeCap {s : State} {c n : Nat} (h : s.Sound) : (s.chargeCap c n).Sound :=
  .same h (by simp) (by simp) (by simp)

theorem State.Sound.startRec {s t : State} {c : Nat} {x : Trig} (h : s.Sound) (hrec : s.startRec c x = some t) : t.Sound := by
  unfold State.startRec at hrec
  extract_lets at hrec
  split at hrec
  · cases hrec
  · obtain rfl := Option.some.inj hrec
    exact .chargeCap (.bump (.bumpBy (.modCap (.same h rfl rfl rfl))))

theorem State.Sound.trigFor {s : State} {x : Trig} {c : Nat} (h : s.Sound) : (s.trigFor x c).Sound := by
  unfold State.trigFor
  extract_lets s1 y
  have h1 : s1.Sound := .modCap h
  split
  · exact .bump h1
  · split
    · exact h1
    · split
      next hrec => exact .startRec h1 hrec
      next => exact .bumpOnce h1
    · exact .chargeCap (.bump (.modRec h1))
    · exact .chargeCap (.bump (.modCap (.modRec h1)))

theorem State.Sound.driveXtrig {s : State} (h : s.Sound) : (s.driveXtrig).Sound := by
  unfold State.driveXtrig
  split
  · exact .same h rfl rfl rfl
  · exact .bump (.same h rfl rfl rfl)

theorem State.Sound.takeTrig {s : State} {t : Trig} (h : s.Sound) : (s.takeTrig t).Sound := by
  unfold State.takeTrig
  extract_lets s1 s2
  have h1 : s1.Sound := .ite (.bump h) h
  have h2 : s2.Sound := .ite (.driveXtrig h1) h1
  exact .forAll (fun _ _ hu => .trigFor hu) h2

theorem State.Sound.endGlitches {s : State} {input : Nat} {rising : Bool} {fine : Nat} (h : s.Sound) :
    (s.endGlitches input rising fine).Sound := by
  unfold State.endGlitches
  exact .bumpBy (.same h rfl rfl rfl)

theorem State.Sound.dropStamps {s : State} (h : s.Sound) : (s.dropStamps).Sound :=
  .same h (by simp) (by simp) (by simp)

theorem State.Sound.stampEdge {s : State} {input : Nat} {rising : Bool} {sub fine : Nat} (h : s.Sound) :
    (s.stampEdge input rising sub fine).Sound := by
  unfold State.stampEdge
  exact .ite (.bump (.dropStamps (.endGlitches (.same h rfl rfl rfl)))) (.same (.dropStamps (.endGlitches (.same h rfl rfl rfl))) rfl rfl rfl)

theorem State.Sound.captureTrigger {s : State} (h : s.Sound) : s.captureTrigger.Sound := by
  unfold State.captureTrigger
  extract_lets due before first src takeStamp s1 takeHead
  have hstamp (e : TrigStamp × Nat × Ns) : (takeStamp e).Sound := .takeTrig (.dropStamps (.withCap h))
  have h1 : s1.Sound := .withCap h
  have hhead (t : Trig) : (takeHead t).Sound := .ite h1 (.takeTrig h1)
  split
  · exact h
  · exact hstamp _
  · exact hhead _
  · exact .ite (hhead _) (hstamp _)

theorem State.Sound.copyRec {seq n left : Nat} {s : State} (h : s.Sound) : (State.copyRec seq n left s).1.Sound := by
  induction n generalizing s left with
  | zero => exact h
  | succ n ih =>
    unfold State.copyRec
    split
    · exact h
    · split
      · exact h
      · exact ih (.modRec h)
      · extract_lets len need row
        exact .ite_fst (.modRec h) (ih (.modRec h))

theorem State.Sound.completeRec {s : State} {seq : Nat} (h : s.Sound) : (s.completeRec seq).Sound := by
  unfold State.completeRec
  split
  · exact h
  · exact .ite (.mirror (.chargeCap (.modRec h))) h

theorem State.Sound.copyOut {s : State} {r c arg : Nat} (h : s.Sound) : (s.copyOut r c arg).Sound := by
  unfold State.copyOut
  split
  · exact h
  · extract_lets budget seqs out
    have hout : out.1.Sound := by
      refine List.foldlRecOn seqs _ (motive := fun a : State × Nat => a.1.Sound) h (fun a ha q _ => ?_)
      exact .completeRec (.copyRec ha)
    exact .charge hout

theorem State.Sound.capReduce {s : State} {c : Nat} (h : s.Sound) : (s.capReduce c).Sound := by
  unfold State.capReduce
  dsimp only
  split
  · exact h
  · split
    · exact h
    · exact .ite h (.ite (.conflict (.bump (.modRec h))) (.ite h (.bumpOnce (.modRec h))))

theorem State.Sound.abortRec {s : State} {c : Nat} (h : s.Sound) : (s.abortRec c).Sound := by
  unfold State.abortRec
  split
  · exact h
  · exact .bump (.modRec h)

theorem State.Sound.captureModes {s : State} (h : s.Sound) : s.captureModes.Sound := by
  unfold State.captureModes
  extract_lets src s1
  have h1 : s1.Sound := .ite h (.withCap h)
  refine .forAll (fun u c hu => ?_) h1
  extract_lets x u1
  have h2 : u1.Sound := .ite (.abortRec hu) hu
  exact .ite (.modCap h2) (.ite (.modCap hu) (.ite (.ite (.modCap hu) hu) (.ite (.modCap hu) hu)))

theorem State.Sound.captureBoundary {s : State} (h : s.Sound) : (s.captureBoundary).Sound := by
  unfold State.captureBoundary
  exact .forAll (fun _ _ hu => .capReduce hu) (.captureModes h)

theorem State.Sound.stepCapture {s : State} {after : Ns} (h : s.Sound) : (s.stepCapture after).Sound := by
  unfold State.stepCapture
  exact .same (.forAll (fun _ _ hu => .ite (.modCap (.abortRec hu)) hu) h) rfl rfl rfl

theorem State.Sound.modBase {s : State} {b : Nat} {f : BaseSt → BaseSt} (h : s.Sound) : (s.modBase b f).Sound :=
  .same h (by simp) (by simp) (by simp)

theorem State.Sound.takeAnnounce {s : State} {i p : Nat} {a : Announce} (h : s.Sound) : (s.takeAnnounce i p a).Sound :=
  .same h (by simp) (by simp) (by simp)

theorem State.Sound.useSync {s : State} {i p : Nat} {stamp origin : Ns} {corr : Int} (h : s.Sound) : (s.useSync i p stamp origin corr).Sound :=
  .same h (by simp) (by simp) (by simp)

theorem State.Sound.modDelay {s : State} {i p seq : Nat} {f : PeerDelay → PeerDelay} (h : s.Sound) : (s.modDelay i p seq f).Sound :=
  .same h (by simp) (by simp) (by simp)

theorem State.Sound.takePtp {s : State} {i : Nat} {x : PtpIn} (h : s.Sound) : (s.takePtp i x).Sound := by
  unfold State.takePtp
  split
  · exact .takeAnnounce h
  · split
    · exact h
    · split
      · exact .useSync h
      · exact .modPtp h
  · split
    · exact .ite (.useSync h) h
    · exact h
  · exact .ptpSend h
  · exact .modDelay h
  · exact .modDelay h
  · exact h

theorem State.Sound.missPdelay {s : State} {i p : Nat} (h : s.Sound) : (s.missPdelay i p).Sound := by
  unfold State.missPdelay
  exact .ite (.bump (.modPort h)) h

theorem State.Sound.pdelayReq {s : State} {i p : Nat} (h : s.Sound) : (s.pdelayReq i p).Sound := by
  unfold State.pdelayReq
  exact .ite h (.ptpSend (.modPtp (.missPdelay h)))

theorem State.Sound.baseVote {s : State} {b : Nat} (h : s.Sound) : (s.baseVote b).Sound := by
  unfold State.baseVote
  dsimp only
  split
  · exact .modBase (.modBase h)
  · split
    · exact .ite (.postFor (.bump (.modBase (.modBase (.modBase h))))) (.modBase (.modBase h))
    · exact .ite (.postFor (.bump (.modBase (.modBase (.modBase h))))) (.modBase (.modBase h))
    · exact .ite (.postFor (.bump (.modBase (.modBase h))))
        (.ite (.ite (.postFor (.bump (.modBase (.modBase (.modBase h))))) (.modBase (.modBase h))) (.modBase h))

theorem State.Sound.servo {s : State} {sum : Int} {n : Nat} (h : s.Sound) : (s.servo sum n).Sound :=
  .same h (by simp) (by simp) (by simp)

theorem State.Sound.clampServo {s : State} (h : s.Sound) : (s.clampServo).Sound :=
  .same h (by simp) (by simp) (by simp)

theorem State.Sound.stepDt {s : State} {d : Int} (h : s.Sound) : (s.stepDt d).Sound := by
  unfold State.stepDt
  extract_lets acc dt after s1 src s2 s3 b src' src'' s4
  have h1 : s1.Sound := .stepSlices (.stepCapture h)
  clear_value s1
  have h2 : s2.Sound := .withTime h1
  clear_value s2
  have h3 : s3.Sound := .unconverge (.stepIsl (.restartOsc (.stepSwage h2)))
  clear_value s3
  have h4 : s4.Sound := .same h3 rfl rfl rfl
  exact .bump h4

theorem State.Sound.beginHoldover {s : State} (h : s.Sound) : (s.beginHoldover).Sound := by
  unfold State.beginHoldover
  exact .ite h (.bump (.same h rfl rfl rfl))

theorem State.Sound.forceLapse {s : State} (h : s.Sound) : (s.forceLapse).Sound := by
  unfold State.forceLapse
  exact .ite (.conflict (.bump (.same h rfl rfl rfl))) h

theorem State.Sound.dissent {s : State} {v : VoteSet} (h : s.Sound) : (s.dissent v).Sound := by
  unfold State.dissent
  exact .forAll (fun _ _ hu => .bumpOnce (.modBase hu)) h

theorem State.Sound.voteMajority {s : State} {v : VoteSet} (h : s.Sound) : (s.voteMajority v).Sound := by
  unfold State.voteMajority
  extract_lets n first e held s1 src s2 src' s3 s4 src'' s5 stepping
  have h2 : s2.Sound := .withTime (.dissent h)
  have h3 : s3.Sound := .ite (.withTime h2) h2
  have h4 : s4.Sound := .forceLapse h3
  have h5 : s5.Sound := .withTime h4
  exact .ite (.withTime h4) (.ite (.stepDt h5) (.servo h5))

theorem State.Sound.voteNone {s : State} (h : s.Sound) : s.voteNone.Sound := by
  unfold State.voteNone
  exact .ite (.withTime h) (.forceLapse (.withTime (.beginHoldover (.withTime h))))

theorem State.Sound.refLost {s : State} (h : s.Sound) : (s.refLost).Sound := by
  unfold State.refLost
  exact .ite h (.post (.same h rfl rfl rfl))

theorem State.Sound.modPair {s : State} {f : PairSt → PairSt} (h : s.Sound) : (s.modPair f).Sound :=
  .same h (by simp) (by simp) (by simp)

theorem State.Sound.pathLost {s : State} {n : Nat} (h : s.Sound) : (s.pathLost n).Sound := by
  unfold State.pathLost
  exact .postOnce (.bump h)

theorem State.Sound.woideDown {s : State} (h : s.Sound) : (s.woideDown).Sound := by
  unfold State.woideDown
  exact .ite h (.ite (.pathLost (.bump (.modPair h))) (.bump (.modPair h)))

theorem State.Sound.keepMirror {s : State} {tag : Ns} {d : Delta} (h : s.Sound) : (s.keepMirror tag d).Sound := by
  unfold State.keepMirror
  exact .modPair h

theorem State.Sound.takeDelta {s : State} {tag : Ns} {d : Delta} (h : s.Sound) : (s.takeDelta tag d).Sound := by
  unfold State.takeDelta
  split
  · exact .modPair h
  · exact .same h rfl rfl rfl
  · exact .ite (.bump (.same h rfl rfl rfl)) h
  · exact .withLogic (.keepMirror h)
  · exact .keepMirror h

theorem State.Sound.takeItem {s : State} {tag : Ns} {d : Delta} (h : s.Sound) : (s.takeItem tag d).Sound := by
  unfold State.takeItem
  split
  · exact .takeDelta h
  · exact h

theorem State.Sound.takePart {s : State} {b : WoideBody} {parts : Nat} {of : Nat → WoideBody} (h : s.Sound) :
    (s.takePart b parts of).1.Sound := by
  unfold State.takePart
  exact .ite_fst h (.ite_fst (.modPair h) (.modPair h))

theorem State.Sound.noteClaims {s : State} {cs : List Claim} {ts : List TaskEntry} (h : s.Sound) : (s.noteClaims cs ts).Sound :=
  .same h (by simp) (by simp) (by simp)

theorem State.Sound.takeRole {s : State} {code : Nat} {e : Ns} {cs : List Claim} {ts : List TaskEntry} (h : s.Sound) :
    (s.takeRole code e cs ts).Sound := by
  unfold State.takeRole
  split
  · exact .ite (.urgent (.modPair (.noteClaims h))) h
  · exact .modPair h
  · exact .modPair h
  · exact .modPair (.noteClaims h)
  · exact h

theorem State.Sound.takeChange {s : State} {e : Ns} {cs : List ChangeEntry} (h : s.Sound) :
    (s.takeChange e cs).Sound := by
  unfold State.takeChange
  split
  · exact .mirror h
  · exact .addSet h

/-- A part of an item keeps the invariant, and so does the item once it is whole. -/
theorem State.Sound.applyBody {s : State} {b : WoideBody} (h : s.Sound) : (s.applyBody b).Sound := by
  unfold State.applyBody
  split
  · exact .takeFill h
  · split
    next u heq => exact .takeItem (.of_fst heq (.takePart h))
    next u heq => exact .of_fst heq (.takePart h)
  · exact .takeRole h
  · exact .takeChange h
  · exact .modPair h
  · split
    next u heq => exact .takeItem (.of_fst heq (.takePart h))
    next u heq => exact .of_fst heq (.takePart h)
  · exact h

theorem State.Sound.takeWoideAck {s : State} {f : WoideFrame} (h : s.Sound) : (s.takeWoideAck f).Sound := by
  unfold State.takeWoideAck
  exact .woideFlush (.withEmp (.modPair h))

theorem State.Sound.drainWoide {n : Nat} {s : State} (h : s.Sound) : (State.drainWoide n s).Sound := by
  induction n generalizing s with
  | zero => exact h
  | succ n ih =>
    unfold State.drainWoide
    split
    · exact h
    · exact ih (.bump (.applyBody (.modPair h)))

theorem State.Sound.takeHello {s : State} {f : WoideFrame} {echo : BitVec 32} {hash : BitVec 64} (h : s.Sound) :
    (s.takeHello f echo hash).Sound := by
  unfold State.takeHello
  extract_lets _ s1 s2
  have h1 : s1.Sound := .modPair h
  have h2 : s2.Sound := .ite (.modPair h1) h1
  exact .ite (.snapshot (.hello (.modPair h2))) h2

theorem State.Sound.takeDigest {s : State} {d : DigestRec} (h : s.Sound) : (s.takeDigest d).Sound := by
  unfold State.takeDigest
  exact .ite (.bumpOnce (.modPair h)) (.modPair h)

theorem State.Sound.takeSeq {s : State} {f : WoideFrame} (h : s.Sound) : (s.takeSeq f).Sound := by
  unfold State.takeSeq
  exact .ite (.modPair (.drainWoide (.bump (.applyBody (.modPair h))))) (.ite (.woideSend (.bump h)) (.ite (.modPair (.bump (.modPair h))) (.bump h)))

theorem State.Sound.woideReceive {s : State} {f : WoideFrame} (h : s.Sound) : (s.woideReceive f).Sound := by
  unfold State.woideReceive
  split
  · exact .bump h
  · split
    · exact .postOnce (.bump h)
    · split
      · exact .takeHello (.modPair h)
      · split
        · exact .bump h
        · split
          · exact .takeSeq (.takeWoideAck (.modPair h))
          · split
            · exact .takeDigest (.takeWoideAck (.modPair h))
            · exact .takeWoideAck (.modPair h)

theorem State.Sound.judgePaths {s : State} (h : s.Sound) : (s.judgePaths).Sound := by
  unfold State.judgePaths
  extract_lets _ _ _ _ _ _ _ _ _ s1 s2
  have h1 : s1.Sound := .modPair h
  have h2 : s2.Sound := .ite (.pathLost h1) h1
  exact .ite (.pathLost h2) h2

theorem State.Sound.decideRole {s : State} {r : Role} {lvl : Nat} (h : s.Sound) : (s.decideRole r lvl).Sound := by
  unfold State.decideRole
  exact .postFor (.bump (.setRole h))

theorem State.Sound.roleDecision {s : State} {fresh : Bool} (h : s.Sound) : (s.roleDecision fresh).Sound := by
  unfold State.roleDecision
  exact .ite h (.ite (.postOnce (.bump h)) (.ite (.decideRole h) (.ite (.decideRole h) (.ite (.decideRole h) (.ite (.decideRole h) h)))))

theorem State.Sound.unknownPaths {s : State} (h : s.Sound) : (s.unknownPaths).Sound := by
  unfold State.unknownPaths
  exact .ite (.postOnce h) h

theorem State.Sound.countGaps {s : State} (h : s.Sound) : (s.countGaps).Sound := by
  unfold State.countGaps
  exact .forAll (fun _ _ hu => .bump hu) h

theorem State.Sound.takeAlarm {s : State} {n : Nat} (h : s.Sound) : (s.takeAlarm n).Sound := by
  unfold State.takeAlarm
  exact .alarmChange (.modPub h)

theorem State.Sound.takeMirrored {s : State} (h : s.Sound) : (s.takeMirrored).Sound := by
  unfold State.takeMirrored
  refine .forAll (fun _ _ hu => ?_) ?_
  · split
    · exact .same hu rfl rfl rfl
    · split
      · split
        · exact .modPub hu
        · exact hu
      · exact .modPub hu
    · exact hu
  · exact h

theorem State.Sound.takeOver {s : State} (h : s.Sound) : s.takeOver.Sound := by
  unfold State.takeOver
  exact .setRole (.forAll (fun _ _ hu => .takeAlarm hu) (.withPub (.takeMirrored (.withLogic (.transit (.countGaps h))))))

theorem State.Sound.adoptAlarm {s : State} {n : Nat} (h : s.Sound) : (s.adoptAlarm n).Sound := by
  unfold State.adoptAlarm
  split
  · exact .ite h (.bump (.modPub (.modPub h)))
  · exact h

theorem State.Sound.adoptMode {s : State} {i : Nat} (h : s.Sound) : (s.adoptMode i).Sound := by
  unfold State.adoptMode
  split
  · exact .ite (.bump (.setAlarm h)) h
  · exact h

theorem State.Sound.adoptMirror {s : State} (h : s.Sound) : (s.adoptMirror).Sound := by
  unfold State.adoptMirror
  exact .ite h (.ite (.forAll (fun _ _ hu => .adoptMode hu) (.modPair (.forAll (fun _ _ hu => .adoptAlarm hu) h))) (.modPair (.forAll (fun _ _ hu => .adoptAlarm hu) h)))

theorem State.Sound.emSend {s : State} {r : Reply} (h : s.Sound) : (s.emSend r).Sound :=
  .same h (by simp) (by simp) (by simp)

theorem State.Sound.modSess {s : State} {svp : Bool} {id : BitVec 32} {f : Sess → Sess} (h : s.Sound) : (s.modSess svp id f).Sound :=
  .same h (by simp) (by simp) (by simp)

theorem State.Sound.emFinish {s : State} {op : Nat} {q : EmpReq} {service : Bool} {out : Option (Nat × Bytes)} (h : s.Sound) : (s.emFinish op q service out).Sound :=
  .same h (by simp) (by simp) (by simp)

theorem State.Sound.emAnswer {s : State} {b : BReq} {result : Nat} {payload : Bytes} (h : s.Sound) : (s.emAnswer b result payload).Sound :=
  .same h (by simp) (by simp) (by simp)

theorem State.Sound.countDup {s : State} {svp : Bool} {result : Nat} (h : s.Sound) :
    (s.countDup svp result).Sound := by
  unfold State.countDup
  exact .ite (.bump h) (.ite (.bumpOnce h) (.ite (.bump h) h))

/-- A request keeps the invariant where its body does. -/
theorem State.Sound.emTake {s : State} {op : Nat} {q : EmpReq} {body : State → Auth → State × Option (Nat × Bytes)}
    (hbody : ∀ (u : State) (a : Auth), u.Sound → (body u a).1.Sound) (h : s.Sound) : (s.emTake op q body).Sound := by
  unfold State.emTake
  extract_lets src s1 a sv s2 cached s3 s4 s5 r
  have h1 : s1.Sound := .withEmp h
  have h2 : s2.Sound := .modSess h1
  have h3 : s3.Sound := .bump h2
  have h5 : s5.Sound := .ite (.bump (.bump h3)) (.bump h3)
  refine .ite h (.ite (.emSend h1) ?_)
  split
  · exact .emSend (.countDup h2)
  · exact .emSend (.bump h2)
  · exact .ite (.emFinish (.bump h3)) (.ite (.emFinish (.ite (.refuseEvent h5) h5)) (.emFinish (hbody _ _ h3)))

theorem State.Sound.emHold {s : State} {k : BReqKind} {op : Nat} {q : EmpReq} {a : Auth} {answered : Bool} (h : s.Sound) : (s.emHold k op q a answered).Sound :=
  .same h (by simp) (by simp) (by simp)

/-- A reset keeps the flash and the queue of records, and counters that it kept before or those of the battery domain alone. -/
theorem State.Sound.clearMain {s : State} {restart : Bool} (h : s.Sound) : (s.clearMain restart).Sound := by
  obtain ⟨hflash, hctrs, hqueue⟩ := h
  unfold State.clearMain
  extract_lets rtc sv kept src boot sens time time' logic pair vault s'
  have hkept : CtrsSound kept := by
    unfold kept
    split
    · exact hctrs
    · exact CtrsSound.filter hctrs _
  have hs' : s'.Sound := ⟨hflash, hkept, hqueue⟩
  exact .ite (.bump hs') hs'

theorem State.Sound.checkRef {s : State} (h : s.Sound) : (s.checkRef).Sound := by
  unfold State.checkRef
  exact .ite h (.refLost h)

theorem State.Sound.recordFall {s : State} (h : s.Sound) : (s.recordFall).Sound := by
  unfold State.recordFall
  split
  · exact h
  · exact .ite (.post (.same h rfl rfl rfl)) (.bbxQueue (.post (.same h rfl rfl rfl)))

theorem State.Sound.startBy {s : State} {t : Nat} {restart : Bool} (h : s.Sound) : (s.startBy t restart).Sound := by
  unfold State.startBy
  exact .bbxWith (.same (.recordFall (.checkRef (.clearMain h))) rfl rfl rfl)

theorem State.Sound.vaultAtT2 {s : State} (h : s.Sound) : s.vaultAtT2.Sound := by
  unfold State.vaultAtT2
  extract_lets aseq ls src s1 l src' s2
  have h1 : s1.Sound := .ite h (.tamperRecords (.same h rfl rfl rfl))
  have h2 : s2.Sound := .ensureRoot (.withVault h1)
  exact .ite h1 (.bump (.bbxQueue h2))

theorem State.Sound.pinReset {s : State} (h : s.Sound) : (s.pinReset).Sound := by
  unfold State.pinReset
  exact .ite (.same h rfl rfl rfl) (.startBy h)

theorem State.Sound.clearIsland {s : State} (h : s.Sound) : s.clearIsland.Sound := ⟨h.1, h.2.1, Nat.zero_le _⟩

theorem State.Sound.loseBattery {s : State} (h : s.Sound) : s.loseBattery.Sound :=
  ⟨h.1, CtrsSound.filter h.2.1 _, h.2.2⟩

theorem State.Sound.requestRestart {s : State} (h : s.Sound) : (s.requestRestart).Sound := by
  unfold State.requestRestart
  exact .ite (.same h rfl rfl rfl) (.startBy h)

theorem State.Sound.stopEnrol {s : State} (h : s.Sound) : (s.stopEnrol).Sound :=
  .same h (by simp) (by simp) (by simp)

theorem State.Sound.tamperDormant {s : State} {ns : List Nat} (h : s.Sound) : (s.tamperDormant ns).Sound := by
  unfold State.tamperDormant
  exact .forAll (fun _ _ hu => .ite (.same hu rfl rfl rfl) (.bump hu)) (.zeroise h)

theorem State.Sound.tamperAwake {s : State} {ns : List Nat} (h : s.Sound) : (s.tamperAwake ns).Sound := by
  unfold State.tamperAwake
  extract_lets t burning s1 s2 s3 src s4
  have h1 : s1.Sound := .zeroise h
  have h2 : s2.Sound := .ite (.stopEnrol h1) h1
  exact .tamperRecords (.withBoot (.postFor h2))

theorem State.Sound.refuseRekey {s : State} (h : s.Sound) : (s.refuseRekey).Sound := by
  unfold State.refuseRekey
  exact .same (.forAll (fun _ _ hu => .emAnswer (.bump hu)) h) rfl rfl rfl

theorem State.Sound.tamperBy {s : State} {ns : List Nat} (h : s.Sound) : (s.tamperBy ns).Sound := by
  unfold State.tamperBy
  extract_lets s1
  have h1 : s1.Sound := .forAll (fun _ _ hu => .bump hu) h
  split
  · exact .tamperDormant h1
  · exact .tamperAwake h1
  · exact .refuseRekey (.tamperAwake h1)
  · exact .withBoot (.tamperAwake h1)
  · exact .withBoot (.tamperAwake h1)
  · exact .withBoot (.tamperAwake (.ite h1 (.releaseRole h1)))

theorem State.Sound.stopFirmware {s : State} (h : s.Sound) : (s.stopFirmware).Sound :=
  .same h (by simp) (by simp) (by simp)

theorem State.Sound.noImage {s : State} (h : s.Sound) : (s.noImage).Sound := by
  unfold State.noImage
  exact .same (.stopFirmware (.transit h)) rfl rfl rfl

theorem State.Sound.trySlot {s : State} {k : Nat} (h : s.Sound) : (s.trySlot k).2.Sound := by
  unfold State.trySlot
  split
  · exact .loadResult (.appendStatus h)
  · exact .same (.ite (.appendStatus h) h) rfl rfl rfl

theorem State.Sound.recordHeader {s : State} {k : Nat} (h : s.Sound) : (s.recordHeader k).Sound := by
  unfold State.recordHeader
  split
  · exact .loadResult h
  · exact h

theorem State.Sound.rejectTrial {s : State} {k : Nat} (h : s.Sound) : (s.rejectTrial k).Sound := by
  unfold State.rejectTrial
  split
  · exact .loadResult (.appendStatus h)
  · exact h

theorem State.Sound.noCandidate {s : State} {done : List Nat} (h : s.Sound) : (s.noCandidate done).Sound := by
  unfold State.noCandidate
  exact .noImage (.forAll (fun _ _ hu => .recordHeader hu) h)

theorem State.Sound.chooseSlot {s : State} (h : s.Sound) : s.chooseSlot.Sound := by
  unfold State.chooseSlot
  extract_lets done s1
  have h1 : s1.Sound := .forAll (fun _ _ hu => .rejectTrial hu) h
  split
  · exact .noCandidate h1
  next k _ =>
    have htry : (s1.trySlot k).2.Sound := .trySlot h1
    split
    next hk => exact .of_snd hk htry
    next u hk =>
      have hu : u.Sound := .of_snd hk htry
      split
      · exact .noCandidate hu
      next k' _ =>
        have htry' : (u.trySlot k').2.Sound := .trySlot hu
        split
        next hk' => exact .of_snd hk' htry'
        next hk' => exact .noCandidate (.of_snd hk' htry')

theorem State.Sound.checkDram {s : State} (h : s.Sound) : (s.checkDram).Sound := by
  unfold State.checkDram
  exact .forAll (fun _ _ hu => .post hu) h

theorem State.Sound.beginLoad {s : State} {v : LoadVerdict} (h : s.Sound) : (s.beginLoad v).Sound := by
  unfold State.beginLoad
  refine .ite h ?_
  dsimp only
  split
  · exact .noImage (.loadResult (.loadResult (.burnRoot h)))
  · exact .ite (.chooseSlot (.checkDram (.burnRoot h))) (.noImage (.loadResult (.loadResult (.checkDram (.burnRoot h)))))

theorem State.Sound.slotFails {s : State} {code detail : Nat} (h : s.Sound) : (s.slotFails code detail).Sound := by
  unfold State.slotFails
  extract_lets k s1 s2
  have h2 : s2.Sound := .loadResult (.ite (.appendStatus h) h)
  have htry : (s2.trySlot (1 - k)).2.Sound := .trySlot h2
  split
  · split
    next hk => exact .same (.stopFirmware (.of_snd hk htry)) rfl rfl rfl
    next hk => exact .noImage (.of_snd hk htry)
  · exact .noImage h2

theorem State.Sound.installKeys {s : State} {content : Option (BitVec 256)} (h : s.Sound) : (s.installKeys content).Sound :=
  .same h (by simp) (by simp) (by simp)

theorem State.Sound.installPorts {s : State} (h : s.Sound) : (s.installPorts).Sound := by
  unfold State.installPorts
  exact .forAll (fun _ _ hu => .ite (.modConn (.streamEnter hu)) (.streamEnter hu)) (.same h rfl rfl rfl)

theorem State.Sound.installTime {s : State} (h : s.Sound) : (s.installTime).Sound :=
  .same h (by simp) (by simp) (by simp)

theorem State.Sound.installPub {s : State} (h : s.Sound) : (s.installPub).Sound :=
  .same h (by simp) (by simp) (by simp)

theorem State.Sound.installCells {s : State} (h : s.Sound) : (s.installCells).Sound :=
  .same h (by simp) (by simp) (by simp)

theorem State.Sound.installSlots {s : State} (h : s.Sound) : (s.installSlots).Sound :=
  .same h (by simp) (by simp) (by simp)

theorem State.Sound.install {s : State} (h : s.Sound) : (s.install).Sound := by
  unfold State.install
  exact .setRole (.installSlots (.installCells (.installPub (.installTime (.installPorts (.installKeys (.same h rfl rfl rfl)))))))

theorem State.Sound.clearPart {s : State} {p : Part} (h : s.Sound) : (s.clearPart p).Sound := by
  unfold State.clearPart
  split
  · exact h
  · split
    · exact .clearCtr h
    · exact ⟨h.1, CtrsSound.filter h.2.1 _, h.2.2⟩
  · exact .modSlice h
  · exact .modSlice h
  · exact .ite (.same h rfl rfl rfl) (.same h rfl rfl rfl)

theorem State.Sound.answerWith {s : State} {r : Nat × Bytes} (h : s.Sound) : (Machine.answerWith s r).1.Sound := h

theorem State.Sound.oweRead {s : State} {g i n : Nat} (h : s.Sound) : (s.oweRead g i n).Sound :=
  .same h (by simp) (by simp) (by simp)

theorem State.Sound.emRead {s : State} {q : EmpReq} (h : s.Sound) : (s.emRead q).1.Sound := by
  unfold State.emRead
  extract_lets g i off n
  refine .ite_fst (.answerWith h) ?_
  split
  · exact .answerWith h
  · extract_lets v bytes s1 s2 s3
    have h1 : s1.Sound := .oweRead h
    have h2 : s2.Sound := .forAll (fun _ _ hu => .clearPart hu) h1
    have h3 : s3.Sound := .ite (.modStream h2) h2
    exact .ite_fst (.answerWith h) (.ite_fst (.answerWith h1) h3)

theorem State.Sound.emWrite {s : State} {q : EmpReq} (h : s.Sound) : (s.emWrite q).1.Sound := by
  unfold State.emWrite
  exact .ite_fst (.ite_fst (.answerWith h) (.modWq h)) (.ite_fst (.ite_fst (.answerWith h) (.same h rfl rfl rfl)) (.ite_fst (.ite_fst (.answerWith h) (.same h rfl rfl rfl)) (.ite_fst (.answerWith h) (.answerWith h))))

theorem State.Sound.refuseSet {s : State} {result n : Nat} (h : s.Sound) : (s.refuseSet result n).1.Sound := by
  unfold State.refuseSet
  exact .bump h

theorem State.Sound.acceptSet {s : State} {es : List ChangeEntry} (h : s.Sound) : (s.acceptSet es).1.Sound := by
  unfold State.acceptSet
  split
  · exact .same h rfl rfl rfl
  · exact .addSet h

theorem State.Sound.acceptPair {s : State} {q : EmpReq} {a : Auth} {es : List ChangeEntry} (h : s.Sound) :
    (s.acceptPair q a es).1.Sound := by
  unfold State.acceptPair
  exact .ite_fst (.refuseSet h) (.ite_fst (.emHold (.mirror (.addSet h))) (.postFor (.bump (.addSet h))))

theorem State.Sound.emChange {s : State} {q : EmpReq} {a : Auth} (h : s.Sound) : (s.emChange q a).1.Sound := by
  unfold State.emChange
  split
  · exact .refuseSet h
  · split
    · exact .refuseSet h
    · exact .ite_fst (.acceptPair h) (.acceptSet h)

theorem State.Sound.carryRestart {s : State} (h : s.Sound) : (s.carryRestart).Sound := by
  unfold State.carryRestart
  split
  · exact h
  · exact .ite (.same (.same h rfl rfl rfl) rfl rfl rfl) (.same (.startBy (.same h rfl rfl rfl)) rfl rfl rfl)

theorem State.Sound.askRestart {s : State} {a : Auth} (h : s.Sound) : (s.askRestart a).Sound :=
  .same h (by simp) (by simp) (by simp)

theorem State.Sound.commitIfStill {s : State} {k : Nat} (h : s.Sound) : (s.commitIfStill k).Sound := by
  unfold State.commitIfStill
  exact .ite h (.commitSlot h)

theorem State.Sound.emKeyLoad {s : State} {q : EmpReq} (h : s.Sound) : (s.emKeyLoad q).1.Sound := by
  unfold State.emKeyLoad
  extract_lets k e fieldsOk
  refine .ite_fst (.bump h) (.ite_fst (.bump h) ?_)
  split
  · exact .postOnce (.bump h)
  · exact .commitIfStill (.writeIdle h)

theorem State.Sound.emOwner {s : State} {q : EmpReq} {a : Auth} (h : s.Sound) : (s.emOwner q a).1.Sound := by
  unfold State.emOwner
  split
  · exact .answerWith h
  · split
    · exact .answerWith h
    · split
      · exact .answerWith h
      · exact .emHold (.same h rfl rfl rfl)

theorem State.Sound.emPairEnrol {s : State} {q : EmpReq} (h : s.Sound) : (s.emPairEnrol q).1.Sound := by
  unfold State.emPairEnrol
  exact .ite_fst (.answerWith h) (.ite_fst (.answerWith h) (.commitIfStill (.writeIdle (.same h rfl rfl rfl))))

theorem State.Sound.emForce {s : State} {op : Nat} {q : EmpReq} {a : Auth} {v : Option Word} (h : s.Sound) :
    (s.emForce op q a v).1.Sound := by
  unfold State.emForce
  split
  · exact .answerWith h
  · exact .ite_fst (.emHold h) (.answerWith h)

theorem State.Sound.emReplay {s : State} {q : EmpReq} {a : Auth} (h : s.Sound) : (s.emReplay q a).1.Sound := by
  unfold State.emReplay
  dsimp only
  split
  · exact .answerWith h
  · exact .emHold h

theorem State.Sound.emUnit {s : State} {k : BReqKind} {op : Nat} {q : EmpReq} {a : Auth} {exists_ : Bool} (h : s.Sound) :
    (s.emUnit k op q a exists_).1.Sound := by
  unfold State.emUnit
  exact .ite_fst (.emHold h) (.answerWith h)

theorem State.Sound.emHandover {s : State} {q : EmpReq} {a : Auth} (h : s.Sound) : (s.emHandover q a).1.Sound := by
  unfold State.emHandover
  exact .ite_fst (.emHold (.urgent (.modPair h))) (.answerWith (.refuseEvent h))

theorem State.Sound.modStage {s : State} {f : StageSt → StageSt} (h : s.Sound) : (s.modStage f).Sound :=
  .same h (by simp) (by simp) (by simp)

theorem State.Sound.refuseStage {s : State} {r : Nat × Bytes} (h : s.Sound) : (s.refuseStage r).1.Sound := by
  unfold State.refuseStage
  exact .bump h

theorem State.Sound.stageBegin {s : State} {q : EmpReq} (h : s.Sound) : (s.stageBegin q).1.Sound := by
  unfold State.stageBegin
  split
  · exact .answerWith h
  · refine .ite_fst (.refuseStage h) (.ite_fst (.refuseStage h) (.ite_fst (.answerWith h) ?_))
    split
    · exact .answerWith h
    · exact .bump (.modStage (h.setFlash (memErase_wf (memErase_wf h.1 _ _) _ _)))

theorem State.Sound.stageData {s : State} {q : EmpReq} (h : s.Sound) : (s.stageData q).1.Sound := by
  unfold State.stageData
  extract_lets x off len n s1 s2
  have h1 : s1.Sound := .modStage h
  have h2 : s2.Sound := .ite (.modStage h1) (h1.setFlash (memWriteBytes_wf h1.1 _ _))
  exact .ite_fst (.refuseStage h) (.ite_fst (.answerWith h) (.ite_fst (.answerWith h) (.ite_fst (.answerWith h1) (.modStage h2))))

theorem State.Sound.stageEnd {s : State} {q : EmpReq} (h : s.Sound) : (s.stageEnd q).1.Sound := by
  unfold State.stageEnd
  refine .ite_fst (.refuseStage h) (.ite_fst (.answerWith h) ?_)
  dsimp only
  split
  · exact .answerWith (.modStage h)
  · exact .modStage (.modStage h)

theorem State.Sound.stageFailed {s : State} {code detail lvl : Nat} (h : s.Sound) :
    (s.stageFailed code detail lvl).Sound := by
  unfold State.stageFailed
  exact .postFor (.bump (.modStage h))

theorem State.Sound.withSector {s : State} (h : s.Sound) : s.withSector.Sound :=
  h.setFlash (forAll_inv (fun m : Memory => m.wf = true) _ (fun _ _ hm => memWriteBytes_wf hm _ _) _ _ h.1)

theorem State.Sound.activate {s : State} {a : Auth} (h : s.Sound) : (s.activate a).1.Sound := by
  unfold State.activate
  exact .ite_fst (.refuseStage h) (.askRestart (.bump (.appendStatus h)))

theorem State.Sound.discardState {s : State} (h : s.Sound) : (s.discardState).Sound := by
  unfold State.discardState
  exact .same (.unconverge (.replayIsl (.restartOsc (.stepSwage h)))) rfl rfl rfl

theorem State.Sound.initialFrames {s : State} (h : s.Sound) : (s.initialFrames).Sound := by
  unfold State.initialFrames
  exact .forAll (fun _ _ hu => .alarmInitial hu) h

theorem State.Sound.warmupBegins {s : State} (h : s.Sound) : s.warmupBegins.Sound := by
  unfold State.warmupBegins
  extract_lets src s1 s2
  have h1 : s1.Sound := .withBoot h
  exact .forAll (fun _ _ hu => .converge hu) (.initialFrames (.ite (.setRole h1) h1))

theorem State.Sound.modeEntered {s : State} (h : s.Sound) : s.modeEntered.Sound := by
  unfold State.modeEntered
  extract_lets s1 src s2 src'
  have h1 : s1.Sound := .purge h
  have h2 : s2.Sound := .ite h1 (.withLogic h1)
  exact .ite h2 (.withSwage h2)

theorem State.Sound.leaveNow {s : State} {b : Ns} (h : s.Sound) : (s.leaveNow b).Sound := by
  unfold State.leaveNow
  exact .ite (.releaseRole h) h

theorem State.Sound.applyDoForce {s : State} {d : Nat} {v : Bool} (h : s.Sound) : (s.applyDoForce d v).Sound := by
  unfold State.applyDoForce
  exact .bump (.modDo (.same h rfl rfl rfl))

theorem State.Sound.endDoForce {s : State} {d : Nat} (h : s.Sound) : (s.endDoForce d).Sound :=
  .same h (by simp) (by simp) (by simp)

theorem State.Sound.releaseDoForce {s : State} {d : Nat} (h : s.Sound) : (s.releaseDoForce d).Sound := by
  unfold State.releaseDoForce
  exact .ite (.bump (.endDoForce (.same h rfl rfl rfl))) h

theorem State.Sound.releaseForces {s : State} {records : Bool} (h : s.Sound) : (s.releaseForces records).Sound := by
  unfold State.releaseForces
  exact .forAll (fun _ _ hu => .ite (.bbxPost (.bump hu)) (.bump hu)) (.forAll (fun _ _ hu => .ite (.endDoForce hu) hu) (.same h rfl rfl rfl))

theorem State.Sound.enterHalt {s : State} {b : Ns} (h : s.Sound) : (s.enterHalt b).Sound := by
  unfold State.enterHalt
  extract_lets s1 src s2 src' s3 s4
  have h2 : s2.Sound := .withSch (.transit (.leaveNow h))
  have h3 : s3.Sound := .ite (.withPair h2) h2
  have h4 : s4.Sound := .forAll (fun _ _ hu => .flushGroup hu) h3
  exact .forAll (fun _ _ hu => .modReg (.bumpBy (.forAll (fun _ _ hv => .bump hv) hu))) h4

theorem State.Sound.enterTamperhold {s : State} {b : Ns} (h : s.Sound) : (s.enterTamperhold b).Sound := by
  unfold State.enterTamperhold
  extract_lets s1 old src s2
  have h1 : s1.Sound := .ite h (.leaveNow h)
  exact .bbxQueue (.withBoot h1)

theorem State.Sound.freshWarmup {s : State} {t : Nat} (h : s.Sound) : (s.freshWarmup t).Sound := by
  unfold State.freshWarmup
  exact .warmupBegins (.transit (.discardState h))

theorem State.Sound.retain {s : State} (h : s.Sound) : (s.retain).Sound := by
  unfold State.retain
  exact .same (.forAll (fun _ _ hu => .logicScan hu) h) rfl rfl rfl

theorem State.Sound.restartNow {s : State} (h : s.Sound) : (s.restartNow).Sound := by
  unfold State.restartNow
  exact .same (.startBy (.forAll (fun _ _ hu => .emAnswer hu) (.releaseForces (.retain h)))) rfl rfl rfl

theorem State.Sound.takeEvent {s : State} {b : Ns} {e : Ev} (h : s.Sound) : (s.takeEvent b e).Sound := by
  unfold State.takeEvent
  split
  · exact .enterTamperhold h
  · exact .enterHalt h
  · exact .ite (.transit (.releaseForces h)) (.same (.transit h) rfl rfl rfl)
  · exact .takeOver h
  · exact .restartNow h
  · exact .startBy h
  · exact .freshWarmup h

theorem State.Sound.firstBoundary {s : State} {b : Ns} (h : s.Sound) : (s.firstBoundary b).Sound := by
  unfold State.firstBoundary
  extract_lets src s1 s2 s3 src'
  have h2 : s2.Sound := .ite (.warmupBegins (.transit h)) (.ite (.transit h) (.bbxQueue (.withBoot h)))
  exact .withCap (.startRows h2)

theorem State.Sound.takeEvents {s : State} {b : Ns} (h : s.Sound) : (s.takeEvents b).1.Sound := by
  unfold State.takeEvents
  extract_lets es evs src s1 src'
  have h1 : s1.Sound := .withBoot h
  split
  · extract_lets s2 t
    have ht : t.Sound := .takeEvent (.bumpBy (.withBoot h1))
    exact .ite (.modeEntered ht) ht
  · exact .bumpBy h1

theorem State.Sound.refuseMode {s : State} {b : BReq} (h : s.Sound) : (s.refuseMode b).Sound := by
  unfold State.refuseMode
  exact .emAnswer (.refuseEvent h)

/-- A request to force keeps the invariant where its effect does. -/
theorem State.Sound.boundaryForce {s : State} {taken : Bool} {b : BReq} {obj : Nat} {f : State → State}
    (hf : ∀ u : State, u.Sound → (f u).Sound) (h : s.Sound) : (s.boundaryForce taken b obj f).1.Sound := by
  unfold State.boundaryForce
  dsimp only
  split
  · exact .refuseMode h
  · split
    · exact .bump h
    · have h1 := hf s h
      generalize f s = u at h1 ⊢
      split
      · dsimp only
        exact .modeEntered (.transit h1)
      · exact h1

theorem State.Sound.boundaryUnforce {s : State} {taken : Bool} {b : BReq} {f : State → State}
    (hf : ∀ u : State, u.Sound → (f u).Sound) (h : s.Sound) : (s.boundaryUnforce taken b f).1.Sound := by
  unfold State.boundaryUnforce
  exact .ite_fst (hf _ h) (.refuseMode h)

theorem State.Sound.boundaryReplay {s : State} {taken : Bool} {b : BReq} {bd : Ns} {r : ReplaySt} (h : s.Sound) :
    (s.boundaryReplay taken b bd r).1.Sound := by
  unfold State.boundaryReplay
  extract_lets m enters start s1
  have h1 : s1.Sound := .modeEntered (.transit (.replayIsl (.restartOsc h)))
  have hstart {u : State} (hu : u.Sound) : (start u).Sound := .withSwage hu
  exact .ite_fst (.refuseMode h) (.ite_fst (.emAnswer h) (.ite_fst (.emAnswer (hstart h)) (.emAnswer (hstart h1))))

theorem State.Sound.boundaryRelease {s : State} {b : BReq} {c : Nat} {ok : Bool} (h : s.Sound) :
    (s.boundaryRelease b c ok).Sound := by
  unfold State.boundaryRelease
  exact .ite (.emAnswer (.bump h)) (.emAnswer (.modCell h))

theorem State.Sound.boundaryHoldover {s : State} {b : BReq} {on : Bool} (h : s.Sound) :
    (s.boundaryHoldover b on).Sound := by
  unfold State.boundaryHoldover
  exact .ite (.emAnswer (.latchTsw (.same h rfl rfl rfl))) (.ite (.refuseMode h) (.ite (.emAnswer h) (.emAnswer (.latchTsw (.beginHoldover (.same h rfl rfl rfl))))))

theorem State.Sound.boundaryShed {s : State} {b : BReq} {lvl : Nat} {inhibit : Bool} (h : s.Sound) :
    (s.boundaryShed b lvl inhibit).Sound := by
  unfold State.boundaryShed
  extract_lets src s1 s2
  have h1 : s1.Sound := .withSch h
  exact .emAnswer (.ite (.forAll (fun _ _ hu => .thermalConflict hu) h1) h1)

theorem State.Sound.boundaryHandover {s : State} {taken : Bool} {b : BReq} {bd : Ns} (h : s.Sound) :
    (s.boundaryHandover taken b bd).1.Sound := by
  unfold State.boundaryHandover
  split
  · exact .emAnswer h
  · exact .ite_fst (.emAnswer (.urgent (.modPair h))) (.ite_fst (.ite_fst (.emAnswer (.modeEntered (.setRole (.transit h)))) (.emAnswer (.urgent (.modPair h)))) (.ite_fst (.emAnswer (.urgent (.modPair h))) h))

theorem State.Sound.boundaryRekey {s : State} {taken : Bool} {b : BReq} (h : s.Sound) :
    (s.boundaryRekey taken b).1.Sound := by
  unfold State.boundaryRekey
  split
  · exact .refuseMode h
  · split
    · exact .emAnswer (.bump h)
    · exact .emAnswer (.modeEntered (.freshWarmup (.same h rfl rfl rfl)))

theorem State.Sound.boundarySet {s : State} {b : BReq} {at_ : Ns} (h : s.Sound) : (s.boundarySet b at_).1.Sound := by
  unfold State.boundarySet
  split
  · exact .emAnswer (.bump h)
  · exact .ite_fst h (.emAnswer h)

theorem State.Sound.askForce {s : State} {obj : Nat} {v : Option Word} (h : s.Sound) : (s.askForce obj v).Sound :=
  .same h (by simp) (by simp) (by simp)

theorem State.Sound.takeRequest {s : State} {taken : Bool} {bd : Ns} {b : BReq} (h : s.Sound) :
    (s.takeRequest taken bd b).1.Sound := by
  unfold State.takeRequest
  extract_lets gone
  split
  · exact .boundaryForce (fun _ hu => .askForce hu) h
  · exact .boundaryUnforce (fun _ hu => .askForce hu) h
  · exact .boundaryForce (fun _ hu => .applyDoForce hu) h
  · exact .boundaryUnforce (fun _ hu => .releaseDoForce hu) h
  · exact .boundaryReplay h
  · exact .ite_fst (.emAnswer (.modeEntered (.freshWarmup h))) (.refuseMode h)
  · exact .ite_fst (.emAnswer h) (.emAnswer (.flushGroup h))
  · exact .boundaryRelease h
  · exact .boundaryHoldover h
  · exact .boundaryShed h
  · exact .emAnswer (.takeTrig h)
  · exact .emAnswer (.trigLoc h)
  · exact .boundaryHandover h
  · exact .boundaryRekey h
  · exact .boundarySet h
  · exact h

theorem State.Sound.takeRequests {bd : Ns} {bs : List BReq} {s : State} {taken : Bool} (h : s.Sound) :
    (State.takeRequests bd bs s taken).1.Sound := by
  induction bs generalizing s taken with
  | nil => exact h
  | cons b bs ih =>
    have hb : (s.takeRequest taken bd b).1.Sound := .takeRequest h
    unfold State.takeRequests
    exact ih (.ite (.same hb rfl rfl rfl) hb)

theorem State.Sound.leaveWarmup {s : State} (h : s.Sound) : (s.leaveWarmup).Sound := by
  unfold State.leaveWarmup
  extract_lets _ _ s1 s2
  have h1 : s1.Sound := .ite (.transit h) (.transit h)
  have h2 : s2.Sound := .forAll (fun _ _ hu => .post hu) h1
  exact .markGood (.same h2 rfl rfl rfl)

theorem State.Sound.ownTransitions {s : State} (h : s.Sound) : (s.ownTransitions).Sound := by
  unfold State.ownTransitions
  exact .ite (.modeEntered (.transit h)) (.ite (.modeEntered (.leaveWarmup h)) (.ite (.modeEntered (.transit h)) h))

theorem State.Sound.boundaryModes {s : State} {bd : Ns} (h : s.Sound) : (s.boundaryModes bd).Sound := by
  unfold State.boundaryModes
  extract_lets src r bs src' src'' q
  have hr : r.1.Sound := .ite_fst (.firstBoundary (.withBoot h)) (.takeEvents h)
  have hq : q.1.Sound := .takeRequests (.withEmp hr)
  exact .ite hr (.ite hq (.ownTransitions hq))

theorem State.Sound.uncarried {s : State} {bd : Ns} (h : s.Sound) : (s.uncarried bd).Sound := by
  unfold State.uncarried
  exact .forAll (fun _ _ hu => .postFor (.bump hu)) (.same h rfl rfl rfl)

theorem State.Sound.applyDue {s : State} {x : SetDue} (h : s.Sound) : (s.applyDue x).Sound := by
  unfold State.applyDue
  split
  · exact .ovApply h
  · exact .ite (.orderSet h) (.ite (.keepSet h) (.scanBoundary (.orderSet h)))

theorem State.Sound.applySets {s : State} {bd : Ns} (h : s.Sound) : (s.applySets bd).Sound := by
  unfold State.applySets
  exact .forAll (fun _ _ hu => .applyDue hu) (.same h rfl rfl rfl)

theorem State.Sound.boundaryMoves {s : State} {bd : Ns} (h : s.Sound) : (s.boundaryMoves bd).Sound := by
  unfold State.boundaryMoves
  exact .forAll (fun _ _ hu => .evalHold hu) (.commitKeys (.clampServo (.applySubs (.applySets h))))

theorem State.Sound.readSensors {s : State} {b : BoundaryIn} (h : s.Sound) : (s.readSensors b).Sound := by
  unfold State.readSensors
  exact .same h rfl rfl rfl

theorem State.Sound.thermal {s : State} {r : Nat} (h : s.Sound) : (s.thermal r).Sound := by
  unfold State.thermal
  extract_lets t old new below src s1 s2 s3
  have h1 : s1.Sound := .withSens h
  have h2 : s2.Sound := .ite (.bump h1) h1
  have h3 : s3.Sound := .ite (.thermalConflict h2) h2
  clear_value t
  split
  · exact .ite (.crossLatch h3) (.ite (.releaseLatch h3) h3)
  · exact h3

theorem State.Sound.refreshBudgets {s : State} {r : Nat} (h : s.Sound) : (s.refreshBudgets r).Sound := by
  unfold State.refreshBudgets
  exact .forAll (fun _ _ hu => .bumpOnce hu) (.modReg h)

theorem State.Sound.quarantine {s : State} (h : s.Sound) : (s.quarantine).Sound := by
  unfold State.quarantine
  exact .ite (.nonCritical (.forAll (fun _ _ hu => .bump (.modCell hu)) h)) (.forAll (fun _ _ hu => .bump (.modCell hu)) h)

theorem State.Sound.chargeOwed {s : State} (h : s.Sound) : s.chargeOwed.Sound := by
  unfold State.chargeOwed
  extract_lets s1 src src'
  have h1 : s1.Sound := .charge (.charge h)
  clear_value s1
  exact .same h1 rfl rfl rfl

theorem State.Sound.boundaryGuard {s : State} {b : BoundaryIn} (h : s.Sound) : (s.boundaryGuard b).Sound := by
  unfold State.boundaryGuard
  exact .quarantine (.forAll (fun _ _ hu => .refreshBudgets (.reshed hu)) (.forAll (fun _ _ hu => .thermal hu) (.readSensors (.chargeOwed h))))

theorem State.Sound.rowOp {s : State} {r op : Nat} {n arg : Nat} {bd : Ns} (h : s.Sound) :
    (s.rowOp r op n arg bd).Sound := by
  unfold State.rowOp
  exact .ite (.bump h) (.ite (.launch h) (.ite (.copyOut h) (.commitRows h)))

theorem State.Sound.rowEntryAct {s : State} {r row : Nat} {bd : Ns} {e : Nat} (h : s.Sound) :
    (s.rowEntryAct r row bd e).Sound := by
  unfold State.rowEntryAct
  exact .ite h (.ite (.ite h (.postItem (.newItem h))) (.ite (.modReg h) (.rowOp h)))

theorem State.Sound.dropUnplaced {s : State} {r : Nat} (h : s.Sound) : (s.dropUnplaced r).Sound := by
  unfold State.dropUnplaced
  refine .forAll (fun _ _ hu => ?_) ?_
  · split
    · exact .ite (.trace (.bumpOnce hu)) hu
    · exact hu
  · exact .modReg h

theorem State.Sound.stepRow {s : State} {k : Nat} {bd : Ns} {r : Nat} (h : s.Sound) : (s.stepRow k bd r).Sound := by
  unfold State.stepRow
  exact .forAll (fun _ _ hu => .rowEntryAct hu) (.modReg (.dropUnplaced h))

theorem State.Sound.replayGroups {s : State} {r : Nat} {w : Row} (h : s.Sound) : (s.replayGroups r w).Sound := by
  unfold State.replayGroups
  exact .forAll (fun _ _ hu => .groupClosed hu) h

theorem State.Sound.replayParts {s : State} {r : Nat} {w : Row} (h : s.Sound) : (s.replayParts r w).Sound := by
  unfold State.replayParts
  exact .forAll (fun _ _ hu => .same hu rfl rfl rfl) h

theorem State.Sound.feedRows {s : State} {x : ReplaySt} {t : Ns} (h : s.Sound) : (s.feedRows x t).Sound :=
  State.feedRows_inv State.Sound (fun _ _ _ hu => .replayGroups hu) (fun _ _ _ hu => .replayParts hu) s x t h

theorem State.Sound.feedScans {s : State} {x : ReplaySt} {upTo : Ns} (h : s.Sound) : (s.feedScans x upTo).Sound := by
  unfold State.feedScans
  exact .forAll (fun _ _ hu => .postScan hu) h

theorem State.Sound.feedReplay {s : State} {bd : Ns} (h : s.Sound) : (s.feedReplay bd).Sound :=
  State.feedReplay_inv State.Sound (fun _ _ _ hu => .feedRows hu) (fun _ _ _ hu => .feedScans hu) (fun _ _ hu => hu) s bd h

theorem State.Sound.regateAlarms {s : State} (h : s.Sound) : (s.regateAlarms).Sound := by
  unfold State.regateAlarms
  exact .forAll (fun _ _ hu => .forAll (fun _ _ hu => .setMember hu) hu) h

theorem State.Sound.latchDigest {s : State} {bd : Ns} {agrees : Bool} (h : s.Sound) :
    (s.latchDigest bd agrees).Sound := by
  unfold State.latchDigest
  exact .ite (.same h rfl rfl rfl) (.ite (.same h rfl rfl rfl) (.same (.bbxWith (.bump h)) rfl rfl rfl))

/-- At a boundary a counter keeps its value, and no increment of the new beat has come. -/
theorem State.Sound.boundaryBegin {s : State} (h : s.Sound) : s.boundaryBegin.Sound := by
  obtain ⟨hflash, hctrs, hqueue⟩ := h
  refine ⟨hflash, ?_, hqueue⟩
  intro e he
  obtain ⟨e', he', rfl⟩ := List.mem_map.1 he
  exact ⟨Nat.zero_le _, (hctrs e' he').2⟩

theorem State.Sound.boundaryEnd {s : State} {k : Nat} {bd : Ns} {agrees : Bool} (h : s.Sound) :
    (s.boundaryEnd k bd agrees).Sound := by
  unfold State.boundaryEnd
  exact .same (.burnEpoch (.latchDigest h)) rfl rfl rfl

theorem State.Sound.boundaryPaths {s : State} (h : s.Sound) : (s.boundaryPaths).Sound := by
  unfold State.boundaryPaths
  exact .ite h (.ite (.unknownPaths (.roleDecision (.judgePaths h))) (.modPair (.unknownPaths (.roleDecision (.judgePaths h)))))

theorem State.Sound.boundaryWork {s : State} {k : Nat} {bd : Ns} (h : s.Sound) : (s.boundaryWork k bd).Sound := by
  unfold State.boundaryWork
  exact .captureBoundary (.regateAlarms (.forAll (fun _ _ hu => .stepRow hu) (.feedReplay (.forAll (fun _ _ hu => .evalAll hu) (.countIdle (.adoptMirror (.noteParams (.oscBoundary (.islBoundary (.forAll (fun _ _ hu => .moveDelay hu) h))))))))))

theorem State.Sound.beatBoundary {s : State} {b : BoundaryIn} {k : Nat} {bd : Ns} (h : s.Sound) :
    (s.beatBoundary b k bd).Sound := by
  unfold State.beatBoundary
  extract_lets src s1 s2 s3 s4 s5
  have h2 : s2.Sound := .boundaryModes (.boundaryPaths (.uncarried (.boundaryBegin (.withEmp h))))
  have h3 : s3.Sound := .boundaryGuard (.boundaryMoves h2)
  have h4 : s4.Sound := .ite (.boundaryWork h3) (.captureBoundary h3)
  have h5 : s5.Sound := .ite (.woideSend h4) h4
  exact .ite h2 (.boundaryEnd h5)

theorem State.Sound.unstall {s : State} {r : Nat} {row : Bool} (h : s.Sound) : (s.unstall r row).Sound := by
  unfold State.unstall
  exact .modReg h

theorem State.Sound.noteLate {s : State} {r : Nat} (h : s.Sound) : (s.noteLate r).Sound := by
  unfold State.noteLate
  exact .ite (.bumpOnce h) h

theorem State.Sound.placeStalled {r : Nat} {row : Bool} {bd : Ns} {n : Nat} {s : State} (h : s.Sound) :
    (State.placeStalled r row bd n s).Sound := by
  induction n generalizing s with
  | zero => exact h
  | succ n ih =>
    unfold State.placeStalled
    split
    · exact h
    · dsimp only
      split
      · exact ih (.rowOp (.unstall h))
      · exact .ite (ih (.ite (.noteLate (.postNow (.unstall h))) (.postNow (.unstall h)))) h

theorem State.Sound.withFetchWord {s : State} {nbits w : Nat} (h : s.Sound) : (s.withFetchWord nbits w).Sound := by
  unfold State.withFetchWord
  split
  · exact .same h rfl rfl rfl
  · exact h

theorem State.Sound.emHeard {s : State} {q : EmpReq} (h : s.Sound) : (s.emHeard q).Sound := by
  unfold State.emHeard
  exact .same h rfl rfl rfl

theorem State.Sound.emAt {s : State} {q : EmpReq} (h : s.Sound) : (s.emAt q).Sound := by
  unfold State.emAt
  exact .bump (.emHeard h)

end Sys2Proof.Machine

/-! Every command keeps the invariant, and so does every step (O4). -/

namespace Sys2Proof.Machine

/-- An outcome keeps the invariant: the state that it goes on to, if any, is sound. -/
def SoundNext (o : Host.Outcome State Fault Refusal) : Prop := ∀ t, o = .next t → t.Sound

theorem SoundNext.next {t : State} (h : t.Sound) : SoundNext (.next t) := by
  intro u hu
  cases hu
  exact h

theorem SoundNext.ite {c : Prop} [Decidable c] {o o' : Host.Outcome State Fault Refusal} (h : SoundNext o) (h' : SoundNext o') :
    SoundNext (if c then o else o') := by
  split
  · exact h
  · exact h'

theorem State.Sound.modCage {s : State} {c : Nat} {f : CageSt → CageSt} (h : s.Sound) : (s.modCage c f).Sound :=
  .same h (by simp) (by simp) (by simp)

theorem State.Sound.loadPause {s : State} {p q time : Nat} (h : s.Sound) : (s.loadPause p q time).Sound :=
  .same h (by simp) (by simp) (by simp)

/-! One lemma for each command, in the order of their meanings. -/

theorem SoundNext.blackBoxWrite {s : State} (h : s.Sound) : SoundNext (execBlackBoxWrite s) := by
  unfold execBlackBoxWrite
  exact .next (.ite (.bbxWriteHead h) h)

theorem SoundNext.blackBoxScan {s : State} (h : s.Sound) : SoundNext (execBlackBoxScan s) := by
  unfold execBlackBoxScan
  exact .next (.ite (.bbxPost (.same h rfl rfl rfl)) h)

theorem State.Sound.readRail {s : State} {n : Nat} {v : Word} (h : s.Sound) : (s.readRail n v).Sound :=
  .same h (by simp) (by simp) (by simp)

theorem SoundNext.sensorCrossing {latch : Fin 32} {value limit : Word} {s : State} (h : s.Sound) :
    SoundNext (execSensorCrossing latch value limit s) := by
  unfold execSensorCrossing
  extract_lets n rail s1
  have h1 : s1.Sound := .crossLatch (.readRail h)
  exact .next (.ite (.ite (.critical (.bump h1)) (.ite (.lastGasp (.bump h1)) h1)) h)

theorem SoundNext.sensorConditionReleased {latch : Fin 32} {value : Word} {s : State} (h : s.Sound) :
    SoundNext (execSensorConditionReleased latch value s) := by
  unfold execSensorConditionReleased
  exact .next (.ite (.releaseLatch (.readRail h)) h)

theorem SoundNext.tempCritical {sensor : Fin 8} {reading : Int} {s : State} (h : s.Sound) :
    SoundNext (execTempCritical sensor reading s) := by
  unfold execTempCritical
  exact .next (.ite h (.ite (.critical (.bump h)) h))

theorem SoundNext.sensorFail {sensor : Fin 8} {s : State} (h : s.Sound) : SoundNext (execSensorFail sensor s) := by
  unfold execSensorFail
  exact .next (.ite h (.crossLatch (.same h rfl rfl rfl)))

theorem SoundNext.vbatRead {mv : Nat} {s : State} (h : s.Sound) : SoundNext (execVbatRead mv s) := by
  unfold execVbatRead
  extract_lets latch src s1 s2 s3
  have hlatch {u : State} {n : Nat} {on off : Bool} {limit : Nat} (hu : u.Sound) : (latch u n on off limit).Sound :=
    .ite (.crossLatch hu) (.ite (.releaseLatch hu) hu)
  exact .next (.ite (hlatch (hlatch (hlatch (.withSens h)))) h)

theorem SoundNext.clockFault {domain : Fin 5} {s : State} (h : s.Sound) : SoundNext (execClockFault domain s) := by
  unfold execClockFault
  exact .next (.ite (.critical (.bump (.same h rfl rfl rfl))) h)

theorem State.Sound.keysChanged {s : State} {before : PanelSt} (h : s.Sound) : (s.keysChanged before).Sound :=
  .same h (by simp) (by simp) (by simp)

theorem SoundNext.panelScan {keys : BitVec 16} {s : State} (h : s.Sound) : SoundNext (execPanelScan keys s) := by
  unfold execPanelScan
  refine .next ?_
  split
  · exact h
  · split
    · exact .crossLatch (.bump h)
    · extract_lets _ s1
      have h1 : s1.Sound := .ite (.releaseLatch h) h
      exact .keysChanged (.same h1 rfl rfl rfl)

theorem SoundNext.touchMeasure {ch : Fin 4} {count : Nat} {s : State} (h : s.Sound) : SoundNext (execTouchMeasure ch count s) := by
  unfold execTouchMeasure
  extract_lets before r s1
  have h1 : s1.Sound := .keysChanged (.same h rfl rfl rfl)
  exact .next (.ite h (.ite (.releaseLatch (.crossLatch (.bump h1))) h1))

theorem SoundNext.lampTestEnd {s : State} (h : s.Sound) : SoundNext (execLampTestEnd s) := by
  unfold execLampTestEnd
  refine .next ?_
  split
  · exact .ite (.same h rfl rfl rfl) h
  · exact h

theorem SoundNext.svpEnable {s : State} (h : s.Sound) : SoundNext (execSvpEnable s) := by
  unfold execSvpEnable
  refine .next ?_
  split
  · exact .ite (.same h rfl rfl rfl) h
  · exact h

theorem SoundNext.svpEnableExpiry {s : State} (h : s.Sound) : SoundNext (execSvpEnableExpiry s) := by
  unfold execSvpEnableExpiry
  refine .next ?_
  split
  · exact .ite (.same h rfl rfl rfl) h
  · exact h

theorem SoundNext.svcKeyRelease {s : State} (h : s.Sound) : SoundNext (execSvcKeyRelease s) := by
  unfold execSvcKeyRelease
  exact .next (.ite (.ite (.same (.same h rfl rfl rfl) rfl rfl rfl) (.same h rfl rfl rfl)) h)

theorem SoundNext.svcKeyAssert {s : State} (h : s.Sound) : SoundNext (execSvcKeyAssert s) := by
  unfold execSvcKeyAssert
  exact .next (.ite h (.same h rfl rfl rfl))

theorem SoundNext.svcDetChange {asserted : Bool} {s : State} (h : s.Sound) : SoundNext (execSvcDetChange asserted s) := by
  unfold execSvcDetChange
  extract_lets src s1 u src'
  have h1 : s1.Sound := .same h rfl rfl rfl
  exact .next (.ite h1 (.withEmp (.modPort h1)))

theorem SoundNext.delayItemDue {r : Region} {s : State} (h : s.Sound) : SoundNext (execDelayItemDue r s) := by
  unfold execDelayItemDue
  exact .next (.ite (.moveDelay h) h)

theorem SoundNext.dispatch {r : Region} {s : State} (h : s.Sound) : SoundNext (execDispatch r s) := by
  unfold execDispatch
  exact .next (.ite (.dispatchOne h) h)

theorem SoundNext.itemComplete {c : Cell} {used : Cost} {s : State} (h : s.Sound) :
    SoundNext (execItemComplete c used s) := by
  unfold execItemComplete
  refine .next ?_
  split
  · exact h
  · exact .ite h (.startEval (.trace (.bump (.modCell (.charge h)))))

theorem SoundNext.cellFault {c : Cell} {cause : Fin 2} {s : State} (h : s.Sound) : SoundNext (execCellFault c cause s) := by
  unfold execCellFault
  exact .next (.ite (.uncorrectable h) (.faultCell h))

theorem SoundNext.cellWatchdog {c : Cell} {s : State} (h : s.Sound) : SoundNext (execCellWatchdog c s) := by
  unfold execCellWatchdog
  refine .next ?_
  split
  · exact .faultCell (.bump h)
  · exact h

theorem SoundNext.itemLimitReached {c : Cell} {s : State} (h : s.Sound) : SoundNext (execItemLimitReached c s) := by
  unfold execItemLimitReached
  refine .next ?_
  split
  · exact .faultCell h
  · exact h

theorem SoundNext.uncorrectableError {st : Struct} {unit : Nat} {s : State} (h : s.Sound) :
    SoundNext (execUncorrectableError st unit s) := by
  unfold execUncorrectableError
  exact .next (.ite h (.uncorrectable h))

theorem SoundNext.correctableError {st : Struct} {unit : Nat} {s : State} (h : s.Sound) :
    SoundNext (execCorrectableError st unit s) := by
  unfold execCorrectableError
  exact .next (.bump h)

theorem SoundNext.thermalLevelFall {r : Region} {s : State} (h : s.Sound) : SoundNext (execThermalLevelFall r s) := by
  unfold execThermalLevelFall
  exact .next (.ite (.reshed (.same h rfl rfl rfl)) h)

theorem SoundNext.logicScan {task : Fin 32} {s : State} (h : s.Sound) : SoundNext (execLogicScan task s) := by
  unfold execLogicScan
  exact .next (.logicScan h)

theorem SoundNext.doLevelApply {d : Fin 16} {s : State} (h : s.Sound) : SoundNext (execDoLevelApply d s) := by
  unfold execDoLevelApply
  exact .next (.levelDue h)

theorem SoundNext.pulseMinExpiry {d : Fin 16} {s : State} (h : s.Sound) : SoundNext (execPulseMinExpiry d s) := by
  unfold execPulseMinExpiry
  refine .next ?_
  split
  · exact .ite (.applyLevel (.modDo h)) h
  · exact h

theorem SoundNext.tripRetry {out : Fin 512} {s : State} (h : s.Sound) : SoundNext (execTripRetry out s) := by
  unfold execTripRetry
  exact .next (.tripDue h)

theorem State.Sound.chargeGoose {s : State} {n cls ttl : Nat} (h : s.Sound) : (s.chargeGoose n cls ttl).Sound :=
  .same h (by simp) (by simp) (by simp)

theorem SoundNext.alarmStateChange {n : Fin 64} {s : State} (h : s.Sound) : SoundNext (execAlarmStateChange n s) := by
  unfold execAlarmStateChange
  exact .next (.ite (.chargeGoose (.alarmChange h)) h)

theorem SoundNext.gooseRetransmit {n : Fin 64} {s : State} (h : s.Sound) : SoundNext (execGooseRetransmit n s) := by
  unfold execGooseRetransmit
  refine .next ?_
  split
  · exact .ite h (.ite (.bump (.modPub h)) (.chargeGoose (.alarmAgain h)))
  · exact h

theorem SoundNext.quorumWaitExpiry {g : Fin 256} {s : State} (h : s.Sound) : SoundNext (execQuorumWaitExpiry g s) := by
  unfold execQuorumWaitExpiry
  refine .next ?_
  dsimp only
  split
  · exact h
  · split
    · exact .closeGroup h
    · exact h

theorem SoundNext.deadlineClose {n : Fin 64} {s : State} (h : s.Sound) : SoundNext (execDeadlineClose n s) := by
  unfold execDeadlineClose
  refine .next ?_
  split
  · exact h
  · dsimp only
    split
    · exact h
    · exact .closeSet h

theorem SoundNext.rowOpen {r : Region} {s : State} (h : s.Sound) : SoundNext (execRowOpen r s) := by
  unfold execRowOpen
  exact .next (.ite (.openRow h) h)

theorem SoundNext.rowRetire {r : Region} {s : State} (h : s.Sound) : SoundNext (execRowRetire r s) := by
  unfold execRowRetire
  refine .next ?_
  split
  · exact h
  · dsimp only
    split
    · exact .charge (.modSlice (.modRow h))
    · exact h

theorem SoundNext.rowFinal {r : Region} {s : State} (h : s.Sound) : SoundNext (execRowFinal r s) := by
  unfold execRowFinal
  refine .next ?_
  split
  · exact h
  · dsimp only
    split
    · exact .finalRow h
    · exact h

theorem SoundNext.sliceEntry {r : Region} {s : State} (h : s.Sound) : SoundNext (execSliceEntry r s) := by
  unfold execSliceEntry
  refine .next ?_
  split
  · exact h
  · split
    · exact h
    · split
      · exact .ite (.enterSv h) (.enterRow h)
      · exact .enterRow h

theorem SoundNext.laneFrame {lane : Fin 8} {bits : Bytes} {crc : Byte} {s : State} (h : s.Sound) :
    SoundNext (execLaneFrame lane bits crc s) := by
  unfold execLaneFrame
  exact .next (.ite (.laneFrame h) h)

theorem SoundNext.wvSyncRelease {s : State} (h : s.Sound) : SoundNext (execWvSyncRelease s) := by
  unfold execWvSyncRelease
  refine .next ?_
  split
  · exact h
  · exact .ite h (.same (.forAll (fun _ _ hu => .ite (.modLane hu) hu) h) rfl rfl rfl)

theorem SoundNext.wvSyncAssert {s : State} (h : s.Sound) : SoundNext (execWvSyncAssert s) := by
  unfold execWvSyncAssert
  exact .next (.ite h (.forAll (fun _ _ hu => .closePartial hu) (.same h rfl rfl rfl)))

theorem SoundNext.wvClkLost {s : State} (h : s.Sound) : SoundNext (execWvClkLost s) := by
  unfold execWvClkLost
  exact .next (.ite h (.postFor (.bump (.same h rfl rfl rfl))))

theorem SoundNext.laneStop {lane : Fin 8} {s : State} (h : s.Sound) : SoundNext (execLaneStop lane s) := by
  unfold execLaneStop
  exact .next (.ite (.closePartial (.bumpOnce (.modLane h))) h)

theorem SoundNext.bankHandoff {g : Fin 4} {s : State} (h : s.Sound) : SoundNext (execBankHandoff g s) := by
  unfold execBankHandoff
  refine .next ?_
  dsimp only
  split
  · exact .ite (.handOff h) h
  · exact h

theorem SoundNext.queueWordRead {g : Fin 4} {err : WordErr} {s : State} (h : s.Sound) :
    SoundNext (execQueueWordRead g err s) := by
  unfold execQueueWordRead
  exact .next (.ite (.queueRead h) h)

theorem SoundNext.svSampleDeadline {sid : Fin 8192} {pos : Fin 8} {s : State} (h : s.Sound) :
    SoundNext (execSvSampleDeadline sid pos s) := by
  unfold execSvSampleDeadline
  refine .next ?_
  dsimp only
  split
  · exact .ite (.drain (.modChain (.bump h))) h
  · exact h

theorem SoundNext.estimateRelease {ch : Fin 65536} {s : State} (h : s.Sound) : SoundNext (execEstimateRelease ch s) := by
  unfold execEstimateRelease
  exact .next (.estimateRelease h)

theorem SoundNext.fastEstimate {ch : Fin 65536} {s : State} (h : s.Sound) : SoundNext (execFastEstimate ch s) := by
  unfold execFastEstimate
  exact .next (.fastEstimate h)

theorem SoundNext.replayFrameOut {lane : Fin 2} {s : State} (h : s.Sound) : SoundNext (execReplayFrameOut lane s) := by
  unfold execReplayFrameOut
  exact .next (.replayFrame h)

theorem SoundNext.bandUpdate {t : OscTarget} {band : Fin 4} {s : State} (h : s.Sound) : SoundNext (execBandUpdate t band s) := by
  unfold execBandUpdate
  extract_lets kernel cell
  clear_value cell
  refine .next ?_
  split
  · split
    · exact .ite h (.setWorked (.oscUpdate h))
    · exact h
  · exact h

theorem SoundNext.locationRunStart {set : Fin 16} {s : State} (h : s.Sound) : SoundNext (execLocationRunStart set s) := by
  unfold execLocationRunStart
  refine .next ?_
  dsimp only
  split
  · exact .ite (.bump (.same h rfl rfl rfl)) h
  · exact h

theorem SoundNext.locationResult {set : Fin 16} {s : State} (h : s.Sound) : SoundNext (execLocationResult set s) := by
  unfold execLocationResult
  exact .next (.ite (.locResult h) h)

theorem SoundNext.islandEvaluation {s : State} (h : s.Sound) : SoundNext (execIslandEvaluation s) := by
  unfold execIslandEvaluation
  refine .next ?_
  split
  · exact h
  · dsimp only
    split
    · exact .startEval h
    · split
      · exact .startEval h
      · exact .ite (.startEval h) (.setWorked (.ite (.startEval h) (.islEvaluate (.startEval h))))

theorem SoundNext.detectorWork {g : Fin 256} {s : State} (h : s.Sound) : SoundNext (execDetectorWork g s) := by
  unfold execDetectorWork
  refine .next ?_
  split
  · split
    · exact .ite (.handSet (.setWorked (.forAll (fun _ _ hu => .detStep hu) h))) h
    · exact h
  · exact h

theorem SoundNext.frameReceive {p : Port} {f : RxFrame} {s : State} (h : s.Sound) : SoundNext (execFrameReceive p f s) := by
  unfold execFrameReceive
  exact .next (.ite (.receive h) h)

theorem SoundNext.arpRequest {p : Port} {vid : BitVec 12} {target senderIp : BitVec 32} {senderMac : BitVec 48} {s : State}
    (h : s.Sound) : SoundNext (execArpRequest p vid target senderIp senderMac s) := by
  unfold execArpRequest
  exact .ite (.next (.place (.bump h))) (.next h)

theorem SoundNext.pauseFrame {p : Port} {quanta : Nat} {s : State} (h : s.Sound) : SoundNext (execPauseFrame p quanta s) := by
  unfold execPauseFrame
  exact .ite (.next h) (.ite (.next (.bump h)) (.next (.forAll (fun _ _ hu => .loadPause hu) (.bump h))))

theorem SoundNext.pfcFrame {p : Port} {vector : BitVec 8} {quanta : List Nat} {s : State} (h : s.Sound) :
    SoundNext (execPfcFrame p vector quanta s) := by
  unfold execPfcFrame
  extract_lets named qs s1 s2
  have h1 : s1.Sound := .ite (.bump h) h
  have h2 : s2.Sound := .ite h1 (.bump h1)
  exact .ite (.next h) (.ite (.next (.bump h)) (.next (.forAll (fun _ _ hu => .loadPause hu) h2)))

theorem SoundNext.macControlOther {p : Port} {opcode : BitVec 16} {s : State} (h : s.Sound) :
    SoundNext (execMacControlOther p opcode s) := by
  unfold execMacControlOther
  exact .ite (.next (.bump h)) (.next h)

theorem SoundNext.pauseTimerExpiry {p : Port} {q : Queue} {s : State} (h : s.Sound) : SoundNext (execPauseTimerExpiry p q s) := by
  unfold execPauseTimerExpiry
  split
  · exact .next (.ite (.modPort h) h)
  · exact .next h

theorem SoundNext.pauseStall {p : Port} {q : Queue} {s : State} (h : s.Sound) : SoundNext (execPauseStall p q s) := by
  unfold execPauseStall
  split
  · exact .ite (.next (.bumpOnce (.modPort h))) (.next h)
  · exact .next h

theorem SoundNext.lateDrop {p : LinePort} {q : Queue} {s : State} (h : s.Sound) : SoundNext (execLateDrop p q s) := by
  unfold execLateDrop
  exact .next (.dropLate h)

theorem SoundNext.transmitStart {p : Port} {s : State} (h : s.Sound) : SoundNext (execTransmitStart p s) := by
  unfold execTransmitStart
  extract_lets x s1
  have h1 : s1.Sound := .ite (.forAll (fun _ _ hu => .dropLate hu) h) h
  refine .ite (.next h) (.ite (.next (.dropHead h)) ?_)
  split
  · exact .next (.startFrame h1)
  · exact .next h1

theorem SoundNext.transmitEnd {p : Port} {s : State} (h : s.Sound) : SoundNext (execTransmitEnd p s) := by
  unfold execTransmitEnd
  dsimp only
  split
  · exact .ite (.next h) (.next (.modPort (.ite (.bump h) h)))
  · exact .next h

theorem SoundNext.queueRoomAvailable {p : Port} {q : Queue} {s : State} (h : s.Sound) :
    SoundNext (execQueueRoomAvailable p q s) := by
  unfold execQueueRoomAvailable
  dsimp only
  split
  · split
    · exact .ite (.next (.modPort h)) (.next h)
    · exact .next h
  · exact .next h

theorem SoundNext.launchStrobe {s : State} (h : s.Sound) : SoundNext (execLaunchStrobe s) := by
  unfold execLaunchStrobe
  exact .next (.forAll (fun _ _ hu => .modPort hu) h)

theorem SoundNext.moduleInserted {cage : Fin 5} {s : State} (h : s.Sound) : SoundNext (execModuleInserted cage s) := by
  unfold execModuleInserted
  exact .ite (.next h) (.next (.postFor (.bump (.modCage h))))

theorem SoundNext.moduleInitDone {cage : Fin 5} {supportsPhy : Bool} {s : State} (h : s.Sound) :
    SoundNext (execModuleInitDone cage supportsPhy s) := by
  unfold execModuleInitDone
  exact .ite (.next h) (.next (.ite (.modCage h) (.postFor (.modCage h))))

theorem SoundNext.moduleRemoved {x : CageFall} {s : State} (h : s.Sound) : SoundNext (execModuleRemoved x s) := by
  unfold execModuleRemoved
  exact .ite (.next h) (.next (.ite (.linkFalls (.modCage h)) (.modCage h)))

theorem SoundNext.linkUp {p : Port} {s : State} (h : s.Sound) : SoundNext (execLinkUp p s) := by
  unfold execLinkUp
  exact .ite (.next h) (.next (.modPort (.bump h)))

theorem SoundNext.linkDown {x : LinkFall} {s : State} (h : s.Sound) : SoundNext (execLinkDown x s) := by
  unfold execLinkDown
  exact .next (.ite (.linkFalls h) h)

theorem SoundNext.tcpSegment {sid : Fin 8192} {seg : TcpSeg} {s : State} (h : s.Sound) :
    SoundNext (execTcpSegment sid seg s) := by
  unfold execTcpSegment
  exact .next (.ite (.tcpTake h) h)

theorem SoundNext.tcpReopen {sid : Fin 8192} {s : State} (h : s.Sound) : SoundNext (execTcpReopen sid s) := by
  unfold execTcpReopen
  split
  · exact .next (.ite (.tcpOpen h) h)
  · exact .next h

theorem SoundNext.tcpRetransmit {sid : Fin 8192} {s : State} (h : s.Sound) : SoundNext (execTcpRetransmit sid s) := by
  unfold execTcpRetransmit
  split
  · exact .ite (.next h) (.ite (.next (.tcpReset h)) (.next (.tcpSend (.modConn h))))
  · exact .next h

theorem SoundNext.tcpAckTimer {sid : Fin 8192} {s : State} (h : s.Sound) : SoundNext (execTcpAckTimer sid s) := by
  unfold execTcpAckTimer
  split
  · exact .next (.ite (.tcpAck h) h)
  · exact .next h

theorem SoundNext.tcpConnectionReset {sid : Fin 8192} {s : State} (h : s.Sound) :
    SoundNext (execTcpConnectionReset sid s) := by
  unfold execTcpConnectionReset
  exact .next (.ite (.tcpDown h) h)

theorem SoundNext.classifyFrame {p : LinePort} {s : State} (h : s.Sound) : SoundNext (execClassifyFrame p () s) := by
  unfold execClassifyFrame
  refine .ite (.next h) ?_
  split
  · exact .next h
  · dsimp only
    split
    next t ht =>
      have hserved : State.Sound { s with served := p.val } := h
      exact .next (.classify (.modPort hserved) ht)
    · exact .next h

theorem SoundNext.streamStale {sid : Fin 8192} {s : State} (h : s.Sound) : SoundNext (execStreamStale sid s) := by
  unfold execStreamStale
  have h1 : ((s.streamEnter sid.val .stale).postOnce 3 .unit (ck2 .stateEntries sid.val 3) 0).Sound := .postOnce (.streamEnter h)
  exact .ite (.next (.ite (.forAll (fun _ _ hu => .evalAll hu) h1) h1)) (.next h)

theorem SoundNext.sourceCmdTimer {sid : Fin 8192} {s : State} (h : s.Sound) : SoundNext (execSourceCmdTimer sid s) := by
  unfold execSourceCmdTimer
  exact .next (.ite (.modStream (.sendCommand (.ite (.modStream (.sendCommand h)) h))) (.ite (.modStream (.sendCommand h)) h))

theorem SoundNext.subscriberCommand {s : State} (h : s.Sound) : SoundNext (execSubscriberCommand s) := by
  unfold execSubscriberCommand
  split
  · exact .next h
  · refine .ite (.next h) ?_
    dsimp only
    split
    · exact .next (.bumpOnce (.withPub h))
    · exact .next (.subTake (.withPub h))

theorem SoundNext.triggerEdge {input : Fin 9} {rising : Bool} {subns : Fin 8} {s : State} (h : s.Sound) :
    SoundNext (execTriggerEdge input rising subns s) := by
  unfold execTriggerEdge
  refine .next ?_
  split
  · exact h
  · split
    · exact .ite (.bump (.same h rfl rfl rfl)) (.stampEdge h)
    · exact .stampEdge h

theorem SoundNext.captureTrigger {s : State} (h : s.Sound) : SoundNext (execCaptureTrigger s) := by
  unfold execCaptureTrigger
  exact .next (.ite (.captureTrigger h) h)

theorem SoundNext.xtrigPulseEnd {s : State} (h : s.Sound) : SoundNext (execXtrigPulseEnd s) := by
  unfold execXtrigPulseEnd
  refine .next ?_
  split
  · exact .ite (.same h rfl rfl rfl) h
  · exact h

theorem SoundNext.ringOverwriteLoss {seq : Nat} {tag : Ns} {s : State} (h : s.Sound) :
    SoundNext (execRingOverwriteLoss seq tag s) := by
  unfold execRingOverwriteLoss
  refine .next ?_
  split
  · exact h
  · refine .ite h ?_
    split
    · exact h
    · exact .ite h (.postOnce (.bump (.bump (.modRec h))))

theorem SoundNext.autoTrigger {cls : Fin 16} {s : State} (h : s.Sound) : SoundNext (execAutoTrigger cls s) := by
  unfold execAutoTrigger
  refine .next ?_
  split
  · exact h
  · exact .ite (.takeTrig (.modCap h)) h

theorem SoundNext.spanEnd {cls : Fin 16} {s : State} (h : s.Sound) : SoundNext (execSpanEnd cls s) := by
  unfold execSpanEnd
  refine .next ?_
  dsimp only
  split
  · exact .ite (.chargeCap (.modCap (.modRec h))) h
  · exact h

theorem SoundNext.closingEnd {cls : Fin 16} {s : State} (h : s.Sound) : SoundNext (execClosingEnd cls s) := by
  unfold execClosingEnd
  exact .next (.ite (.forAll (fun _ _ hu => .trigFor hu) (.modCap (.modRec h))) h)

theorem SoundNext.baseStep {b : Fin 4} {s : State} (h : s.Sound) : SoundNext (execBaseStep b s) := by
  unfold execBaseStep
  exact .next (.ite (.bump (.modBase h)) h)

theorem SoundNext.ptpFrame {s : State} (h : s.Sound) : SoundNext (execPtpFrame s) := by
  unfold execPtpFrame
  refine .next ?_
  split
  · exact h
  · dsimp only
    split
    · exact .bump (.same h rfl rfl rfl)
    · exact .ite (.bump (.same h rfl rfl rfl)) (.takePtp (.same h rfl rfl rfl))

theorem SoundNext.pdelayReqTimer {p : LinePort} {s : State} (h : s.Sound) : SoundNext (execPdelayReqTimer p s) := by
  unfold execPdelayReqTimer
  exact .next (.ite h (.forAll (fun _ _ hu => .ite (.pdelayReq hu) hu) h))

theorem State.Sound.selectMaster {s : State} {i : Nat} (h : s.Sound) : (s.selectMaster i).Sound :=
  .same h (by simp) (by simp) (by simp)

theorem SoundNext.ptpAnnounceReceiptTimeout {rec : Fin 2} {s : State} (h : s.Sound) :
    SoundNext (execPtpAnnounceReceiptTimeout rec s) := by
  unfold execPtpAnnounceReceiptTimeout
  refine .next ?_
  split
  · exact h
  · split
    · exact .ite (.selectMaster (.modPtp h)) h
    · exact .selectMaster h

theorem State.Sound.modGnss {s : State} {f : WireSrc → WireSrc} (h : s.Sound) : (s.modGnss f).Sound :=
  .same h (by simp) (by simp) (by simp)

theorem State.Sound.labelEdge {s : State} {edge : Ns} {sec : Nat} (h : s.Sound) : (s.labelEdge edge sec).Sound :=
  .same h (by simp) (by simp) (by simp)

theorem SoundNext.gnssSentence {x : Sentence} {s : State} (h : s.Sound) : SoundNext (execGnssSentence x s) := by
  unfold execGnssSentence
  refine .next ?_
  split
  · exact h
  · split
    · split
      · exact .modGnss h
      · split
        · exact .ite (.labelEdge h) h
        · exact h
    · exact .modGnss h
    · exact .bump h
    · exact h

theorem SoundNext.gnssPpsEdge {falling : Bool} {edgeAgo : Nat} {s : State} (h : s.Sound) :
    SoundNext (execGnssPpsEdge falling edgeAgo s) := by
  unfold execGnssPpsEdge
  refine .next ?_
  split
  · exact h
  · dsimp only
    split
    · exact .ite (.labelEdge (.modGnss h)) (.modGnss h)
    · exact .modGnss h

theorem State.Sound.sourceReads {s : State} {src : Nat} {reading : Int} (h : s.Sound) : (s.sourceReads src reading).Sound :=
  .same h (by simp) (by simp) (by simp)

theorem SoundNext.irigbFrame {f : IrigFrame} {s : State} (h : s.Sound) : SoundNext (execIrigbFrame f s) := by
  unfold execIrigbFrame
  exact .next (.ite h (.ite (.bump (.same h rfl rfl rfl)) (.sourceReads (.same h rfl rfl rfl))))

theorem State.Sound.takeLeap {s : State} (h : s.Sound) : s.takeLeap.Sound :=
  .same h (by simp) (by simp) (by simp)

theorem SoundNext.timeVote {s : State} (h : s.Sound) : SoundNext (execTimeVote s) := by
  unfold execTimeVote
  refine .next (.ite h ?_)
  extract_lets s1 src gnss irig s2 s3 s4 src'
  have h1 : s1.Sound := .forAll (fun _ _ hu => .baseVote hu) h
  have h3 : s3.Sound := .takeLeap (.withTime h1)
  have h4 : s4.Sound := by
    unfold s4
    split
    · exact .voteMajority h3
    · exact .voteNone h3
  exact .withTime h4

theorem SoundNext.timeRefLost {s : State} (h : s.Sound) : SoundNext (execTimeRefLost s) := by
  unfold execTimeRefLost
  exact .next (.ite (.refLost (.same h rfl rfl rfl)) (.same h rfl rfl rfl))

theorem SoundNext.dtLockConverged {s : State} (h : s.Sound) : SoundNext (execDtLockConverged s) := by
  unfold execDtLockConverged
  exact .next (.ite (.converge h) h)

theorem SoundNext.woideLinkLock {s : State} (h : s.Sound) : SoundNext (execWoideLinkLock s) := by
  unfold execWoideLinkLock
  exact .next (.ite h (.hello (.modPair (.draw h))))

theorem SoundNext.helloTimer {s : State} (h : s.Sound) : SoundNext (execHelloTimer s) := by
  unfold execHelloTimer
  refine .next ?_
  split
  · exact .ite (.hello (.modPair h)) h
  · exact h

theorem SoundNext.woideLinkDown {why : WoideDown} {s : State} (h : s.Sound) : SoundNext (execWoideLinkDown why s) := by
  unfold execWoideLinkDown
  refine .next ?_
  split
  · exact .woideDown h
  · exact .ite (.woideDown h) h
  · split
    · exact .ite (.woideDown h) h
    · exact h

theorem SoundNext.woideRetransmit {s : State} (h : s.Sound) : SoundNext (execWoideRetransmit s) := by
  unfold execWoideRetransmit
  refine .next ?_
  split
  · exact h
  · exact .ite (.woideDown h) (.bump (.place (.modPair h)))

theorem SoundNext.receiverAckTimer {s : State} (h : s.Sound) : SoundNext (execReceiverAckTimer s) := by
  unfold execReceiverAckTimer
  refine .next ?_
  split
  · exact .ite (.woideSend (.modPair h)) h
  · exact h

theorem SoundNext.woideFrameReceive {f : WoideFrame} {s : State} (h : s.Sound) : SoundNext (execWoideFrameReceive f s) := by
  unfold execWoideFrameReceive
  exact .next (.ite (.woideReceive (.modPort h)) (.modPort h))

theorem SoundNext.tokenPulse {riseNs : Int} {widthNs : Nat} {s : State} (h : s.Sound) :
    SoundNext (execTokenPulse riseNs widthNs s) := by
  unfold execTokenPulse
  refine .next ?_
  split
  · exact .ite (.modPair h) h
  · exact h

theorem SoundNext.release {s : State} (h : s.Sound) : SoundNext (execRelease s) := by
  unfold execRelease
  exact .next (.ite (.releaseRole h) h)

theorem SoundNext.splitBrain {s : State} (h : s.Sound) : SoundNext (execSplitBrain s) := by
  unfold execSplitBrain
  exact .next (.ite h (.ite (.releaseRole (.same (.bbxWith (.bump (.modPair h))) rfl rfl rfl)) (.post (.bump (.modPair h)))))

theorem SoundNext.mainRailsFall {s : State} (h : s.Sound) : SoundNext (execMainRailsFall s) := by
  unfold execMainRailsFall
  exact .next (.ite h (.ite (.bbxPost (.same (.clearMain h) rfl rfl rfl)) (.same (.clearMain h) rfl rfl rfl)))

theorem SoundNext.powerOnReset {s : State} (h : s.Sound) : SoundNext (execPowerOnReset s) := by
  unfold execPowerOnReset
  exact .next (.ite h (.vaultAtT2 (.startBy (.same h rfl rfl rfl))))

theorem SoundNext.pinReset {lowNs : Nat} {s : State} (h : s.Sound) : SoundNext (execPinReset lowNs s) := by
  unfold execPinReset
  exact .next (.ite h (.ite (.pinReset h) (.ite (.pinReset (.same h rfl rfl rfl)) (.same h rfl rfl rfl))))

theorem SoundNext.islandReset {s : State} (h : s.Sound) : SoundNext (execIslandReset s) := by
  unfold execIslandReset
  extract_lets low old dormant src s1 s2 src' s3
  have h2 : s2.Sound := .clearIsland (.clearMain (.withBoot h))
  have h3 : s3.Sound := .ite (.withBoot h2) h2
  exact .next (.ite h (.ite (.loseBattery h3) h3))

theorem SoundNext.islandPowerOn {s : State} (h : s.Sound) : SoundNext (execIslandPowerOn s) := by
  unfold execIslandPowerOn
  extract_lets s1 src s2 s3 src' src''
  have h2 : s2.Sound := .withBoot (.clearIsland h)
  have h3 : s3.Sound := .same h2 rfl rfl rfl
  exact .next (.ite h (.ite (.vaultAtT2 (.startBy h3)) (.withBoot (.clearMain h3))))

theorem SoundNext.powerFailAsserted {s : State} (h : s.Sound) : SoundNext (execPowerFailAsserted s) := by
  unfold execPowerFailAsserted
  exact .next (.ite h (.ite (.same h rfl rfl rfl) (.lastGasp (.ite (.releaseRole (.same h rfl rfl rfl)) (.same h rfl rfl rfl)))))

theorem SoundNext.powerRestored {s : State} (h : s.Sound) : SoundNext (execPowerRestored s) := by
  unfold execPowerRestored
  exact .next (.ite h (.ite (.requestRestart (.bbxPost (.same (.same h rfl rfl rfl) rfl rfl rfl))) (.same h rfl rfl rfl)))

theorem SoundNext.tamper {sources : List (Fin 8)} {s : State} (h : s.Sound) : SoundNext (execTamper sources s) := by
  unfold execTamper
  exact .next (.ite h (.tamperBy h))

theorem SoundNext.warmupTimeout {s : State} (h : s.Sound) : SoundNext (execWarmupTimeout s) := by
  unfold execWarmupTimeout
  exact .next (.ite (.same h rfl rfl rfl) h)

theorem SoundNext.ownerKeyBurnComplete {s : State} (h : s.Sound) : SoundNext (execOwnerKeyBurnComplete s) := by
  unfold execOwnerKeyBurnComplete
  refine .next ?_
  split
  · exact h
  · exact .withEmp (.forAll (fun _ _ hu => .emAnswer hu) (.withEmp (.same h rfl rfl rfl)))

theorem SoundNext.loadingComplete {v : LoadVerdict} {s : State} (h : s.Sound) : SoundNext (execLoadingComplete v s) := by
  unfold execLoadingComplete
  refine .next ?_
  split
  · exact h
  · dsimp only
    split
    · exact .beginLoad h
    · split
      · exact .install (.beginLoad h)
      · exact h

theorem State.Sound.startFirmware {s : State} (h : s.Sound) : s.startFirmware.Sound :=
  .same h (by simp) (by simp) (by simp)

theorem SoundNext.managementFirmwareStart {s : State} (h : s.Sound) : SoundNext (execManagementFirmwareStart s) := by
  unfold execManagementFirmwareStart
  refine .next ?_
  split
  · exact h
  · split
    · exact .startFirmware h
    · split
      · exact h
      · dsimp only
        split
        · exact .beginLoad h
        · split
          · exact .startFirmware (.beginLoad h)
          · exact h

theorem SoundNext.loadCheckFail {v : LoadVerdict} {s : State} (h : s.Sound) : SoundNext (execLoadCheckFail v s) := by
  unfold execLoadCheckFail
  refine .next ?_
  split
  · exact h
  · dsimp only
    split
    · exact .beginLoad h
    · split
      · exact .slotFails (.beginLoad h)
      · exact h

theorem State.Sound.openSession {s : State} {q : EmpReq} (h : s.Sound) : (s.openSession q).Sound :=
  .same h (by simp) (by simp) (by simp)

theorem SoundNext.emOpen {q : EmpReq} {s : State} (h : s.Sound) : SoundNext (execEmOpen q s) := by
  unfold execEmOpen
  exact .next (.emTake (fun _ _ hu => .openSession hu) h)

theorem State.Sound.closeSession {s : State} {svp : Bool} {id : BitVec 32} (h : s.Sound) : (s.closeSession svp id).Sound :=
  .same h (by simp) (by simp) (by simp)

theorem SoundNext.emClose {q : EmpReq} {s : State} (h : s.Sound) : SoundNext (execEmClose q s) := by
  unfold execEmClose
  exact .next (.emTake (fun _ _ hu => .closeSession hu) h)

theorem SoundNext.emStatus {q : EmpReq} {s : State} (h : s.Sound) : SoundNext (execEmStatus q s) := by
  unfold execEmStatus
  exact .next (.emTake (fun _ _ hu => .answerWith hu) h)

theorem SoundNext.sessionExpiry {svp : Bool} {session : BitVec 32} {s : State} (h : s.Sound) :
    SoundNext (execSessionExpiry svp session s) := by
  unfold execSessionExpiry
  refine .next ?_
  split
  · exact .ite (.bump (.closeSession h)) h
  · exact h

theorem SoundNext.empDatagramDiscard {svp : Bool} {why : EmpDrop} {s : State} (h : s.Sound) :
    SoundNext (execEmpDatagramDiscard svp why s) := by
  unfold execEmpDatagramDiscard
  exact .next (.ite (.bump h) h)

theorem SoundNext.emRead {q : EmpReq} {s : State} (h : s.Sound) : SoundNext (execEmRead q s) := by
  unfold execEmRead
  exact .next (.emTake (fun _ _ hu => .emRead hu) h)

theorem SoundNext.emWrite {q : EmpReq} {s : State} (h : s.Sound) : SoundNext (execEmWrite q s) := by
  unfold execEmWrite
  exact .next (.emTake (fun _ _ hu => .emWrite hu) h)

theorem SoundNext.emChangeSet {q : EmpReq} {s : State} (h : s.Sound) : SoundNext (execEmChangeSet q s) := by
  unfold execEmChangeSet
  exact .next (.emTake (fun _ _ hu => .emChange hu) h)

theorem State.Sound.acknowledge {s : State} {a : Nat} (h : s.Sound) : (s.acknowledge a).Sound :=
  .same h (by simp) (by simp) (by simp)

theorem SoundNext.emAttnAck {q : EmpReq} {s : State} (h : s.Sound) : SoundNext (execEmAttnAck q s) := by
  unfold execEmAttnAck
  exact .next (.emTake (fun _ _ hu => .acknowledge hu) h)

theorem SoundNext.emRestart {q : EmpReq} {s : State} (h : s.Sound) : SoundNext (execEmRestart q s) := by
  unfold execEmRestart
  exact .next (.carryRestart (.emTake (fun _ _ hu => .askRestart hu) h))

theorem SoundNext.emKeyLoad {q : EmpReq} {wrapped : Bytes} {s : State} (h : s.Sound) :
    SoundNext (execEmKeyLoad q wrapped s) := by
  unfold execEmKeyLoad
  exact .next (.emTake (fun _ _ hu => .emKeyLoad hu) h)

theorem SoundNext.emZeroise {q : EmpReq} {s : State} (h : s.Sound) : SoundNext (execEmZeroise q s) := by
  unfold execEmZeroise
  exact .next (.emTake (fun _ _ hu => .bbxWith (.zeroise hu)) h)

theorem SoundNext.emOwnerEnrol {q : EmpReq} {s : State} (h : s.Sound) : SoundNext (execEmOwnerEnrol q s) := by
  unfold execEmOwnerEnrol
  exact .next (.emTake (fun _ _ hu => .emOwner hu) h)

theorem SoundNext.emPairEnrol {q : EmpReq} {s : State} (h : s.Sound) : SoundNext (execEmPairEnrol q s) := by
  unfold execEmPairEnrol
  exact .next (.emTake (fun _ _ hu => .emPairEnrol hu) h)

theorem SoundNext.emRekeyDone {q : EmpReq} {s : State} (h : s.Sound) : SoundNext (execEmRekeyDone q s) := by
  unfold execEmRekeyDone
  exact .next (.emTake (fun _ _ hu => .emHold hu) h)

theorem SoundNext.emForce {q : EmpReq} {s : State} (h : s.Sound) : SoundNext (execEmForce q s) := by
  unfold execEmForce
  exact .next (.emTake (fun _ _ hu => .ite_fst (.answerWith hu) (.emForce hu)) h)

theorem SoundNext.emUnforce {q : EmpReq} {s : State} (h : s.Sound) : SoundNext (execEmUnforce q s) := by
  unfold execEmUnforce
  exact .next (.emTake (fun _ _ hu => .emForce hu) h)

theorem SoundNext.emReplayStart {q : EmpReq} {s : State} (h : s.Sound) : SoundNext (execEmReplayStart q s) := by
  unfold execEmReplayStart
  exact .next (.emTake (fun _ _ hu => .emReplay hu) h)

theorem SoundNext.emReplayStop {q : EmpReq} {s : State} (h : s.Sound) : SoundNext (execEmReplayStop q s) := by
  unfold execEmReplayStop
  exact .next (.emTake (fun _ _ hu => .emHold hu) h)

theorem SoundNext.emFlush {q : EmpReq} {s : State} (h : s.Sound) : SoundNext (execEmFlush q s) := by
  unfold execEmFlush
  exact .next (.emTake (fun _ _ hu => .emUnit hu) h)

theorem SoundNext.emReleaseCell {q : EmpReq} {selfTest : Bool} {s : State} (h : s.Sound) :
    SoundNext (execEmReleaseCell q selfTest s) := by
  unfold execEmReleaseCell
  exact .next (.emTake (fun _ _ hu => .emUnit hu) h)

theorem SoundNext.emHoldover {q : EmpReq} {s : State} (h : s.Sound) : SoundNext (execEmHoldover q s) := by
  unfold execEmHoldover
  exact .next (.emTake (fun _ _ hu => .ite_fst (.answerWith hu) (.ite_fst (.answerWith hu) (.emHold hu))) h)

theorem SoundNext.emShed {q : EmpReq} {s : State} (h : s.Sound) : SoundNext (execEmShed q s) := by
  unfold execEmShed
  exact .next (.emTake (fun _ _ hu => .ite_fst (.answerWith hu) (.ite_fst (.answerWith hu) (.emHold hu))) h)

theorem SoundNext.emTrigger {q : EmpReq} {s : State} (h : s.Sound) : SoundNext (execEmTrigger q s) := by
  unfold execEmTrigger
  exact .next (.emTake (fun _ _ hu => .ite_fst (.answerWith hu) (.emHold hu)) h)

theorem SoundNext.emLocate {q : EmpReq} {s : State} (h : s.Sound) : SoundNext (execEmLocate q s) := by
  unfold execEmLocate
  exact .next (.emTake (fun _ _ hu => .ite_fst (.answerWith hu) (.emUnit hu)) h)

theorem SoundNext.emHandover {q : EmpReq} {s : State} (h : s.Sound) : SoundNext (execEmHandover q s) := by
  unfold execEmHandover
  exact .next (.emTake (fun _ _ hu => .emHandover hu) h)

theorem SoundNext.emBboxRaw {q : EmpReq} {s : State} (h : s.Sound) : SoundNext (execEmBboxRaw q s) := by
  unfold execEmBboxRaw
  exact .next (.emTake (fun _ _ hu => .ite_fst (.answerWith hu) (.answerWith hu)) h)

theorem SoundNext.emBboxClear {q : EmpReq} {s : State} (h : s.Sound) : SoundNext (execEmBboxClear q s) := by
  unfold execEmBboxClear
  exact .next (.emTake (fun _ _ hu => .bbxPost hu) h)

theorem SoundNext.emStageBegin {q : EmpReq} {s : State} (h : s.Sound) : SoundNext (execEmStageBegin q s) := by
  unfold execEmStageBegin
  exact .next (.emTake (fun _ _ hu => .stageBegin hu) h)

theorem SoundNext.emStageData {q : EmpReq} {s : State} (h : s.Sound) : SoundNext (execEmStageData q s) := by
  unfold execEmStageData
  exact .next (.emTake (fun _ _ hu => .stageData hu) h)

theorem SoundNext.emStageEnd {q : EmpReq} {s : State} (h : s.Sound) : SoundNext (execEmStageEnd q s) := by
  unfold execEmStageEnd
  exact .next (.emTake (fun _ _ hu => .stageEnd hu) h)

theorem SoundNext.stageCheckDone {v : LoadVerdict} {s : State} (h : s.Sound) : SoundNext (execStageCheckDone v s) := by
  unfold execStageCheckDone
  refine .next ?_
  split
  · exact h
  · split
    · exact .stageFailed h
    · exact .modStage (.appendStatus (.withSector h))

theorem SoundNext.stagingTimeout {s : State} (h : s.Sound) : SoundNext (execStagingTimeout s) := by
  unfold execStagingTimeout
  exact .next (.ite (.stageFailed h) h)

theorem SoundNext.emActivate {q : EmpReq} {s : State} (h : s.Sound) : SoundNext (execEmActivate q s) := by
  unfold execEmActivate
  exact .next (.carryRestart (.emTake (fun _ _ hu => .activate hu) h))

theorem SoundNext.beatBoundary {b : BoundaryIn} {s : State} (h : s.Sound) : SoundNext (execBeatBoundary b s) := by
  unfold execBeatBoundary
  exact .next (.ite (.beatBoundary h) h)

theorem SoundNext.postRoomAvailable {r : Region} {s : State} (h : s.Sound) : SoundNext (execPostRoomAvailable r s) := by
  unfold execPostRoomAvailable
  exact .next (.ite (.placeStalled (.placeStalled h)) h)

theorem SoundNext.tapInstructionUpdate {code : BitVec 8} {s : State} (h : s.Sound) :
    SoundNext (execTapInstructionUpdate code s) := by
  unfold execTapInstructionUpdate
  exact .next (.same h rfl rfl rfl)

theorem SoundNext.tapDataUpdate {data : BitVec 279} {s : State} (h : s.Sound) : SoundNext (execTapDataUpdate data s) := by
  unfold execTapDataUpdate
  exact .next (.ite (.same h rfl rfl rfl) h)

theorem SoundNext.tapTestLogicReset {s : State} (h : s.Sound) : SoundNext (execTapTestLogicReset s) := by
  unfold execTapTestLogicReset
  exact .next (.same h rfl rfl rfl)

/-- Every command keeps the invariant. -/
theorem State.Sound.exec {s : State} (h : s.Sound) (i : Instr) : SoundNext (exec i s) := by
  cases i
  case mainRailsFall => exact .mainRailsFall h
  case powerOnReset => exact .powerOnReset h
  case pinReset => exact .pinReset h
  case islandPowerOn => exact .islandPowerOn h
  case islandReset => exact .islandReset h
  case blackBoxScan => exact .blackBoxScan h
  case loadingComplete => exact .loadingComplete h
  case loadCheckFail => exact .loadCheckFail h
  case powerFailAsserted => exact .powerFailAsserted h
  case powerRestored => exact .powerRestored h
  case tamper => exact .tamper h
  case beatBoundary => exact .beatBoundary h
  case postRoomAvailable => exact .postRoomAvailable h
  case delayItemDue => exact .delayItemDue h
  case dispatch => exact .dispatch h
  case itemComplete => exact .itemComplete h
  case cellFault => exact .cellFault h
  case cellWatchdog => exact .cellWatchdog h
  case itemLimitReached => exact .itemLimitReached h
  case uncorrectableError => exact .uncorrectableError h
  case correctableError => exact .correctableError h
  case thermalLevelFall => exact .thermalLevelFall h
  case warmupTimeout => exact .warmupTimeout h
  case dtLockConverged => exact .dtLockConverged h
  case frameReceive => exact .frameReceive h
  case arpRequest => exact .arpRequest h
  case pauseFrame => exact .pauseFrame h
  case pfcFrame => exact .pfcFrame h
  case macControlOther => exact .macControlOther h
  case pauseTimerExpiry => exact .pauseTimerExpiry h
  case pauseStall => exact .pauseStall h
  case transmitStart => exact .transmitStart h
  case transmitEnd => exact .transmitEnd h
  case queueRoomAvailable => exact .queueRoomAvailable h
  case launchStrobe => exact .launchStrobe h
  case lateDrop => exact .lateDrop h
  case moduleInserted => exact .moduleInserted h
  case moduleInitDone => exact .moduleInitDone h
  case moduleRemoved => exact .moduleRemoved h
  case linkUp => exact .linkUp h
  case linkDown => exact .linkDown h
  case tcpSegment => exact .tcpSegment h
  case tcpReopen => exact .tcpReopen h
  case tcpRetransmit => exact .tcpRetransmit h
  case tcpAckTimer => exact .tcpAckTimer h
  case tcpConnectionReset => exact .tcpConnectionReset h
  case classifyFrame => exact .classifyFrame h
  case ptpFrame => exact .ptpFrame h
  case pdelayReqTimer => exact .pdelayReqTimer h
  case gnssSentence => exact .gnssSentence h
  case gnssPpsEdge => exact .gnssPpsEdge h
  case irigbFrame => exact .irigbFrame h
  case timeVote => exact .timeVote h
  case baseStep => exact .baseStep h
  case timeRefLost => exact .timeRefLost h
  case triggerEdge => exact .triggerEdge h
  case rowOpen => exact .rowOpen h
  case sliceEntry => exact .sliceEntry h
  case quorumWaitExpiry => exact .quorumWaitExpiry h
  case deadlineClose => exact .deadlineClose h
  case rowRetire => exact .rowRetire h
  case rowFinal => exact .rowFinal h
  case streamStale => exact .streamStale h
  case sourceCmdTimer => exact .sourceCmdTimer h
  case subscriberCommand => exact .subscriberCommand h
  case laneFrame => exact .laneFrame h
  case wvSyncRelease => exact .wvSyncRelease h
  case wvSyncAssert => exact .wvSyncAssert h
  case wvClkLost => exact .wvClkLost h
  case laneStop => exact .laneStop h
  case bankHandoff => exact .bankHandoff h
  case queueWordRead => exact .queueWordRead h
  case svSampleDeadline => exact .svSampleDeadline h
  case estimateRelease => exact .estimateRelease h
  case fastEstimate => exact .fastEstimate h
  case replayFrameOut => exact .replayFrameOut h
  case bandUpdate => exact .bandUpdate h
  case locationRunStart => exact .locationRunStart h
  case locationResult => exact .locationResult h
  case islandEvaluation => exact .islandEvaluation h
  case detectorWork => exact .detectorWork h
  case logicScan => exact .logicScan h
  case doLevelApply => exact .doLevelApply h
  case pulseMinExpiry => exact .pulseMinExpiry h
  case tripRetry => exact .tripRetry h
  case captureTrigger => exact .captureTrigger h
  case xtrigPulseEnd => exact .xtrigPulseEnd h
  case autoTrigger => exact .autoTrigger h
  case spanEnd => exact .spanEnd h
  case closingEnd => exact .closingEnd h
  case ringOverwriteLoss => exact .ringOverwriteLoss h
  case alarmStateChange => exact .alarmStateChange h
  case gooseRetransmit => exact .gooseRetransmit h
  case woideLinkLock => exact .woideLinkLock h
  case helloTimer => exact .helloTimer h
  case woideFrameReceive => exact .woideFrameReceive h
  case woideRetransmit => exact .woideRetransmit h
  case woideLinkDown => exact .woideLinkDown h
  case receiverAckTimer => exact .receiverAckTimer h
  case tokenPulse => exact .tokenPulse h
  case release => exact .release h
  case splitBrain => exact .splitBrain h
  case emOpen => exact .emOpen h
  case emClose => exact .emClose h
  case emStatus => exact .emStatus h
  case emRead => exact .emRead h
  case emWrite => exact .emWrite h
  case emChangeSet => exact .emChangeSet h
  case emAttnAck => exact .emAttnAck h
  case emStageBegin => exact .emStageBegin h
  case emStageData => exact .emStageData h
  case emStageEnd => exact .emStageEnd h
  case stageCheckDone => exact .stageCheckDone h
  case stagingTimeout => exact .stagingTimeout h
  case emActivate => exact .emActivate h
  case emRestart => exact .emRestart h
  case emKeyLoad => exact .emKeyLoad h
  case emZeroise => exact .emZeroise h
  case emOwnerEnrol => exact .emOwnerEnrol h
  case emPairEnrol => exact .emPairEnrol h
  case emRekeyDone => exact .emRekeyDone h
  case emForce => exact .emForce h
  case emUnforce => exact .emUnforce h
  case emReplayStart => exact .emReplayStart h
  case emReplayStop => exact .emReplayStop h
  case emFlush => exact .emFlush h
  case emReleaseCell => exact .emReleaseCell h
  case emHoldover => exact .emHoldover h
  case emShed => exact .emShed h
  case emTrigger => exact .emTrigger h
  case emLocate => exact .emLocate h
  case emHandover => exact .emHandover h
  case emBboxRaw => exact .emBboxRaw h
  case emBboxClear => exact .emBboxClear h
  case empDatagramDiscard => exact .empDatagramDiscard h
  case sessionExpiry => exact .sessionExpiry h
  case blackBoxWrite => exact .blackBoxWrite h
  case sensorCrossing => exact .sensorCrossing h
  case tempCritical => exact .tempCritical h
  case sensorFail => exact .sensorFail h
  case vbatRead => exact .vbatRead h
  case clockFault => exact .clockFault h
  case panelScan => exact .panelScan h
  case touchMeasure => exact .touchMeasure h
  case lampTestEnd => exact .lampTestEnd h
  case svpEnable => exact .svpEnable h
  case svpEnableExpiry => exact .svpEnableExpiry h
  case svcKeyRelease => exact .svcKeyRelease h
  case svcKeyAssert => exact .svcKeyAssert h
  case svcDetChange => exact .svcDetChange h
  case managementFirmwareStart => exact .managementFirmwareStart h
  case ptpAnnounceReceiptTimeout => exact .ptpAnnounceReceiptTimeout h
  case ownerKeyBurnComplete => exact .ownerKeyBurnComplete h
  case sensorConditionReleased => exact .sensorConditionReleased h
  case tapInstructionUpdate => exact .tapInstructionUpdate h
  case tapDataUpdate => exact .tapDataUpdate h
  case tapTestLogicReset => exact .tapTestLogicReset h

/-- Settles O4: the front command keeps the invariant, and so does a cycle with none waiting. -/
theorem stepKeepsSound : Obligations.StepKeepsSound := by
  intro s t h hstep
  unfold step at hstep
  split at hstep
  · cases hstep
    exact .cycle h
  next i rest hpending =>
    have hsame : State.Sound { s with pending := rest } := h
    exact hsame.exec i t hstep

end Sys2Proof.Machine

end
